-- ==== Sys2Proof/Word.lean ====
section
/-!
DEFINITION. The words of the panel and the plain data that commands carry: completion codes, traffic classes,
32-B units, packets, ledger items, plan images. Nothing here acts.
-/

namespace Sys2Proof

abbrev Byte := BitVec 8
/-- A 128-bit step word (R52). -/
abbrev StepWord := BitVec 128

/-- A field [lo + n - 1 : lo] of a word, as a number (R2). -/
def fld {w : Nat} (x : BitVec w) (lo n : Nat) : Nat := (x.extractLsb' lo n).toNat

/-- A single bit (R2). -/
def bit {w : Nat} (x : BitVec w) (i : Nat) : Bool := x.getLsbD i

/-- The completion codes of Table 1.4 (R17). -/
inductive Code
  | ok | pathReset | busError | timeout | eccUncorrected | accessDenied | targetAbsent | aborted | mergeTimeout
  | poisoned
deriving DecidableEq, Repr, Inhabited

/-- The 4-bit value of a code (R17). -/
def codeNum : Code → Nat
  | .ok => 0 | .pathReset => 1 | .busError => 2 | .timeout => 3 | .eccUncorrected => 4
  | .accessDenied => 5 | .targetAbsent => 6 | .aborted => 7 | .mergeTimeout => 8 | .poisoned => 9

/-- The code of a 4-bit value (R17). The values 10 to 15 name none, and the spec does not say what the panel does with one that arrives: it is
taken as BUS_ERROR. DESIGN CHOICE (log 27). -/
def codeOf (n : Nat) : Code :=
  match n with
  | 0 => .ok | 1 => .pathReset | 2 => .busError | 3 => .timeout | 4 => .eccUncorrected
  | 5 => .accessDenied | 6 => .targetAbsent | 7 => .aborted | 8 => .mergeTimeout | 9 => .poisoned | _ => .busError

/-- The place of a code in the order of R18: the lowest rank is reported. -/
def codeRank : Code → Nat
  | .accessDenied => 0 | .targetAbsent => 1 | .pathReset => 2 | .aborted => 3 | .busError => 4
  | .eccUncorrected => 5 | .poisoned => 6 | .mergeTimeout => 7 | .timeout => 8 | .ok => 9

/-- The traffic classes of Table 1.3 (R13). -/
inductive Cls
  | A | B | C | D
deriving DecidableEq, Repr, Inhabited

/-- The 2-bit code of a class (R13). -/
def clsNum : Cls → Nat
  | .A => 0 | .B => 1 | .C => 2 | .D => 3

/-- The class of a 2-bit code (R13). -/
def clsOf (n : Nat) : Cls :=
  if n % 4 = 0 then .A else if n % 4 = 1 then .B else if n % 4 = 2 then .C else .D

/-- A 32-B aligned unit with its poison mark (R44). -/
structure Cell32 where
  data : BitVec 256
  mark : Bool
deriving DecidableEq, Repr, Inhabited

/-- A 64-B furrow beat: eight words and the marks of its two units (R78). -/
structure BeatData where
  lo : Cell32
  hi : Cell32
deriving DecidableEq, Repr, Inhabited

/-- Why a receiving headgate finds a slot lost (R135). -/
inductive Loss
  | lock | fec | check | header | room
deriving DecidableEq, Repr, Inhabited

/-- What a slot meets on its way: whether the alignment pattern gives lock, whether the lane FEC finds an error that it cannot correct, and
the bits of its 12,000 net bytes that arrive flipped (R122, R135). -/
structure SlotFault where
  lock : Bool
  fec : Bool
  flips : Nat
deriving DecidableEq, Repr, Inhabited

/-- A request of the remote-access controller to a vault controller (R99, R100). `addr` is the vault address in
32-B units coded as vaddr of Table 3.8; a write carries its units, a read its length. -/
structure RemoteReq where
  write : Bool
  addr  : Nat
  len   : Nat
  data  : List Cell32
  /-- who asked, returned with the answer -/
  rid   : Nat
deriving DecidableEq, Repr, Inhabited

/-- The transport header of Table 9.2, the extension of Table 9.4 and the payload of one packet (R217).
`payload` is the payload in 32-B units, the last one padded with zero bytes
beyond `len`. `addr` is the IPv6 address of the far end on commons, its 16 bytes in network order read as a little-endian number. -/
structure Packet where
  ver : Nat
  type : Nat
  cls : Cls
  ce : Bool
  ece : Bool
  defl : Bool
  retx : Bool
  host : Bool
  hold : Bool
  dpanel : Nat
  spanel : Nat
  diod : Nat
  siod : Nat
  hops : Nat
  dchan : Nat
  schan : Nat
  psn : Nat
  ack : Nat
  len : Nat
  pcrc : Nat
  cookie : Nat
  stamp : Nat
  gaddr : Nat
  ctr : Nat
  tport : Nat
  post : Bool
  rid : Nat
  code : Nat
  sub : Nat
  flit : Nat
  nflit : Nat
  payload : List Cell32
  addr : Nat
deriving DecidableEq, Repr, Inhabited

/-- What the control unit writes into the entry of a channel that it opens toward a panel (Table 9.6): the peer and its channel, kind, class,
pinning and window, the rings with their sizes, and the tally counters posted on delivery and on acknowledgement. -/
structure PeerOpen where
  panel : Nat
  iod : Nat
  chan : Nat
  kind : Nat
  cls : Cls
  pinned : Bool
  window : Nat
  sring : Nat
  ssize : Nat
  rring : Nat
  rsize : Nat
  actr : Nat
  cctr : Nat
deriving DecidableEq, Repr, Inhabited

/-- The IPv6 and UDP fields of a commons frame (R216). Addresses as Packet.addr. -/
structure IpHead where
  src : Nat
  dst : Nat
  dscp : Nat
  ecn : Nat
  hopLimit : Nat
  srcPort : Nat
  dstPort : Nat
deriving DecidableEq, Repr, Inhabited

/-- The head of a frame as it leaves (Table 9.1, R215 to R217): MAC addresses as 48-bit numbers, the first byte highest, none for a next
hop that neighbour discovery finds; the 802.1Q tag's PCP and VID; the EtherType; IPv6 and UDP on commons; the transport header and the
extension. -/
structure FrameHead where
  dstMac : Option Nat
  srcMac : Nat
  tag : Option (Nat × Nat)
  etherType : Nat
  ip : Option IpHead
  transport : BitVec 448
  ext : Option (BitVec 256)
deriving DecidableEq, Repr, Inhabited

/-- One ledger item: the head of Table 13.5 and its value as a little-endian number of `len` bytes (R313, R325). -/
structure Item where
  area : Nat
  num : Nat
  pend : Bool
  all : Bool
  index : Nat
  offset : Nat
  len : Nat
  type : Nat
  value : Nat
deriving DecidableEq, Repr, Inhabited

/-- A ledger message from a host (R323, R324): its datagram's addresses and ports, bits [127:0] of its header (Table 13.4), its tag, and its
body. -/
structure LedgerMsg where
  head : BitVec 128
  tag : BitVec 128
  body : List (BitVec 8)
  /-- source and destination IPv6 address and port -/
  src : Nat
  sport : Nat
  dst : Nat
  dport : Nat
  /-- true when it came on a commons port -/
  commons : Bool
deriving DecidableEq, Repr, Inhabited

/-- One item of a response or a notification: the head of Table 13.5 and the value that did fit (R325). -/
structure Answer where
  area : Nat
  num : Nat
  pend : Bool
  all : Bool
  index : Nat
  offset : Nat
  len : Nat
  type : Nat
  code : Code
  value : Nat
deriving DecidableEq, Repr, Inhabited

/-- A ledger response (Table 13.4): the request's type, which the wire adds 0x80 to, its session and sequence number, the code of the whole
message, and its items. -/
structure Reply where
  type : Nat
  session : Nat
  seq : Nat
  code : Code
  pend : Bool
  trunc : Bool
  items : List Answer
deriving DecidableEq, Repr, Inhabited

/-- The structure that a plan's model descriptor states (Table 7.6): no latent dimensions without latent compression, no experts in a dense
feed-forward part; `replicaBytes` is the weight volume of one replica. The kinds of Table 7.6 are numbered in its order: attention 0 multi-head
or grouped, 1 latent; KV entry 0 E4M3, 1 E5M2, 2 BF16, 3 G6; feed-forward 0 dense, 1 gated, 2 routed experts, 3 with shared ones; norm 0 RMS, 1
layer; weights as a set of 0 C4, 1 C3, 2 C2, 3 E4M3, 4 E5M2, 5 BF16; another number is another kind. -/
structure ModelShape where
  queryHeads : Nat
  kvHeads : Nat
  headDim : Nat
  latent : Nat
  rotary : Nat
  hidden : Nat
  experts : Nat
  active : Nat
  sel : Nat
  first : Nat
  recent : Nat
  replicaBytes : Nat
  attention : Nat := 0
  kvFormat : Nat := 0
  feedForward : Nat := 0
  norm : Nat := 0
  weights : List Nat := []
deriving DecidableEq, Repr, Inhabited

/-- A section of a plan image: its directory entry, 128 B as a little-endian number (Table 7.8), and its encrypted bytes. -/
structure PlanSection where
  entry : Nat
  cipher : List Byte
deriving DecidableEq, Repr, Inhabited

/-- Fields of Table 7.8. -/
def PlanSection.type (p : PlanSection) : Nat := p.entry % 2 ^ 15
def PlanSection.required (p : PlanSection) : Bool := p.entry / 2 ^ 15 % 2 == 1
def PlanSection.which (p : PlanSection) : Nat := p.entry / 2 ^ 16 % 2 ^ 16
def PlanSection.stack (p : PlanSection) : Nat := p.entry / 2 ^ 32 % 2 ^ 16
def PlanSection.offset (p : PlanSection) : Nat := p.entry / 2 ^ 64 % 2 ^ 64
def PlanSection.size (p : PlanSection) : Nat := p.entry / 2 ^ 128 % 2 ^ 64
def PlanSection.iv (p : PlanSection) : Nat := p.entry / 2 ^ 192 % 2 ^ 96
def PlanSection.tag (p : PlanSection) : Nat := p.entry / 2 ^ 288 % 2 ^ 128
def PlanSection.hash (p : PlanSection) : Nat := p.entry / 2 ^ 416 % 2 ^ 384

/-- A plan image (R181 to R183): its header of 256 B as a little-endian number (Table 7.7), its signature of 96 B and its sections with their
directory entries; then what the decrypted sections state, whose formats the spec does not give beyond Tables 5.6 and 7.5 (log 9); and what
the loader finds of the signature, and of the sections' hashes and tags. `failAt` names the step (4 or 5) and the section at which a check that
rests on a format the spec does not give, or the writing, fails; 0 where none does. -/
structure PlanImage where
  header : Nat
  signature : Nat
  sections : List PlanSection
  shape : ModelShape
  waveBatch : Nat
  wavesInFlight : Nat
  /-- per-die block limit and the allowed KV set sizes, ascending, with the logical stacks of each set (R157) -/
  blockLimit : Nat
  kvSizes : List Nat
  kvSets : List (Nat × List Nat)
  /-- merge tickets per layer and flits of each (R166) -/
  tickets : Nat
  ticketFlits : Nat
  /-- logical stacks the placement needs (R390) -/
  stacksNeeded : List Nat
  /-- phase descriptors: (wave type, tile) and the 32-bit word of Table 5.6 -/
  phase : List ((Nat × Nat) × Nat)
  /-- sieve descriptors: (wave type, tile, n) of the n-th sieve step in the tile's list and the 256-bit word of Table 7.5; and the places of
  the sieve steps in the list of a (wave type, tile) (R171) -/
  sieve : List ((Nat × Nat × Nat) × Nat)
  sieveAt : List ((Nat × Nat) × List Nat)
  /-- summary tables: of a layer, the tile whose vaults hold them, the address of the first stream's table and the units between one stream's
  and the next (R168) -/
  summaries : List (Nat × (Nat × Nat × Nat))
  /-- wave types: layer, and whether its kind is prefill -/
  waveTypes : List (Nat × (Nat × Bool))
  /-- where the wave parameter map of a wave type places the batch table: (logical stack of replica 0, tile, tile-store unit) (R162) -/
  batchAt : List (Nat × (Nat × Nat × Nat))
  /-- where a replica's query tile gathers a token's KV entries: (logical stack of replica 0, tile, tile-store unit) (R179) -/
  kvGather : Option (Nat × Nat × Nat)
  /-- bytes of KV per token over all layers, and tokens of a prefill chunk (R177) -/
  kvBytes : Nat
  chunk : Nat
  /-- what step 5 writes: (logical stack of replica 0, tile, vault address) and (logical stack, tile, tile-store unit) -/
  vaultData : List ((Nat × Nat × Nat) × List Cell32)
  storeData : List ((Nat × Nat × Nat) × List Cell32)
  /-- steps of the step list of (wave type, tile) (R48) -/
  lists : List ((Nat × Nat) × Nat)
  failAt : Nat
  failSection : Nat
  /-- the signature holds; the type of the first section whose SHA-384 or GCM tag does not (R183) -/
  sigOk : Bool
  badSection : Option Nat
deriving DecidableEq, Repr, Inhabited

/-- Fields of Table 7.7. -/
def PlanImage.magic (i : PlanImage) : Nat := i.header % 2 ^ 32
def PlanImage.version (i : PlanImage) : Nat := i.header / 2 ^ 32 % 2 ^ 16
def PlanImage.generation (i : PlanImage) : Nat := i.header / 2 ^ 48 % 2 ^ 16
def PlanImage.logicalStacks (i : PlanImage) : Nat := i.header / 2 ^ 64 % 2 ^ 16
def PlanImage.layers (i : PlanImage) : Nat := i.header / 2 ^ 80 % 2 ^ 16
def PlanImage.typeCount (i : PlanImage) : Nat := i.header / 2 ^ 96 % 2 ^ 32
def PlanImage.sectionCount (i : PlanImage) : Nat := i.header / 2 ^ 128 % 2 ^ 32
def PlanImage.directoryAt (i : PlanImage) : Nat := i.header / 2 ^ 160 % 2 ^ 64
def PlanImage.seed (i : PlanImage) : BitVec 32 := BitVec.ofNat 32 (i.header / 2 ^ 224)
def PlanImage.keySlot (i : PlanImage) : Nat := i.header / 2 ^ 256 % 2 ^ 32
def PlanImage.planId (i : PlanImage) : Nat := i.header / 2 ^ 288 % 2 ^ 128
def PlanImage.size (i : PlanImage) : Nat := i.header / 2 ^ 416 % 2 ^ 64

/-- A header with these fields; every other byte is 0. -/
def planHeader (generation layers types sections directory size : Nat) (seed : BitVec 32) (slot : Nat) : Nat :=
  0x4E414C50 + 2 ^ 32 + 2 ^ 48 * (generation % 2 ^ 16) + 2 ^ 64 * 96 + 2 ^ 80 * (layers % 2 ^ 16) + 2 ^ 96 * (types % 2 ^ 32) +
    2 ^ 128 * (sections % 2 ^ 32) + 2 ^ 160 * (directory % 2 ^ 64) + 2 ^ 224 * seed.toNat + 2 ^ 256 * (slot % 2 ^ 32) +
    2 ^ 416 * (size % 2 ^ 64)

/-- A stretch that the mirror region holds for a lost panel: what the ADMIT's reserve and the mirror copies say of it, with its head
record where it is the head's (R178 to R180, R378). `complete` is false where a copy is missing. -/
structure MirrorRec where
  stream : Nat
  k : Nat
  sb : Nat
  reserve : Nat
  latency : Bool
  sampling : Nat
  table : List Nat
  promptLen : Nat
  isHead : Bool
  last : Nat
  lastToken : Nat
  complete : Bool
deriving DecidableEq, Repr, Inhabited

/-- A firmware image: the 416 B of its header as a little-endian number (Table 14.6), and whether its signature and its hashes hold
(R354). -/
structure FwImage where
  header : Nat
  sigOk : Bool
  hashOk : Bool
deriving DecidableEq, Repr, Inhabited

/-- A message that firmware logs (R360): the processor, the level as W.0011 codes it, the message code and its arguments. -/
structure FwMsg where
  proc : Nat
  level : Nat
  code : Nat
  args : BitVec 396
deriving DecidableEq, Repr, Inhabited

/-- Fields of Table 14.6. -/
def FwImage.version (i : FwImage) : Nat := i.header / 2 ^ 32 % 2 ^ 32
def FwImage.interface (i : FwImage) : Nat := i.header / 2 ^ 64 % 2 ^ 32
def FwImage.writesRecord (i : FwImage) : Nat := i.header / 2 ^ 96 % 2 ^ 16
def FwImage.readsOldest (i : FwImage) : Nat := i.header / 2 ^ 112 % 2 ^ 16
def FwImage.security (i : FwImage) : Nat := i.header / 2 ^ 128 % 2 ^ 32

/-- What ECC finds in a read of a tile store: the units it finds uncorrectable, and the words it corrects (R71). -/
structure Ecc where
  ue : List Nat
  ce : Nat
deriving DecidableEq, Repr, Inhabited

/-- What one measurement of a calibration finds (R198): for a ring the gated outer-level spreads at the setpoint, 1 GHz below it and 1 GHz above
it, in thousandths; for a PAM4 threshold the mean and the spread of each level's region in thousandths of a code, and the samples in it; for a
laser the least modulator input of its tree in thousandths of a dBm. -/
structure CalMeas where
  spread : List Nat
  mean : List Nat
  sigma : List Nat
  count : List Nat
  tap : Int
deriving DecidableEq, Repr, Inhabited

/-- One temperature reading: whether a fresh conversion came, whether its parity holds, and the value in
hundredths of a degree Celsius (R299, R300). -/
structure Reading where
  fresh : Bool
  parity : Bool
  centi : Int
deriving DecidableEq, Repr, Inhabited

end Sys2Proof
end

