-- ==== Sys2Proof/Syntax.lean ====
section
/-!
DEFINITION. The commands of the panel: one constructor per row of spec/opcode_table.json, with the operands the command
takes from outside. A site, port or I/O-die port is its number of R7; a tile is its logical number 0 to 47; a plane is
0 to 7; a step carries its 128-bit word (R52). A measurement (a temperature, a voltage, what a check found) is an
operand, since it comes from the physical world.
-/

namespace Sys2Proof

/-- The commands, in the table's order. -/
inductive Instr
  -- the step set (chapter 3)
  | nop (site tile : Nat) (w : StepWord)
  | wait (site tile : Nat) (w : StepWord)
  | loop (site tile : Nat) (w : StepWord)
  | setix (site tile : Nat) (w : StepWord)
  | bankpwr (site tile : Nat) (w : StepWord)
  | fence (site tile : Nat) (w : StepWord)
  | mark (site tile : Nat) (w : StepWord)
  | trap (site tile : Nat) (w : StepWord)
  | endStep (site tile : Nat) (w : StepWord)
  | matrixDense (site tile : Nat) (w : StepWord)
  | matrixBin (site tile : Nat) (w : StepWord)
  /-- `conflicts`: the bank conflicts the step met, one cycle each (R56); `ecc`: what ECC finds in the units it reads (R71), here and in
  every command that reads a tile store -/
  | matrixStepDone (site tile conflicts : Nat) (ecc : Ecc)
  | vectorArithmetic (site tile : Nat) (w : StepWord)
  | vectorFunction (site tile : Nat) (w : StepWord)
  | vectorReduce (site tile : Nat) (w : StepWord)
  | softmaxHelper (site tile : Nat) (w : StepWord)
  | rotary (site tile : Nat) (w : StepWord)
  | convert (site tile : Nat) (w : StepWord)
  | vectorStepDone (site tile conflicts : Nat) (ecc : Ecc)
  | loadVaultToStore (site tile : Nat) (w : StepWord)
  | storeToVault (site tile : Nat) (w : StepWord)
  /-- `ecc` concerns the source of the send that starts, here and at the end of the send before it -/
  | furrowSend (site tile : Nat) (w : StepWord) (ecc : Ecc)
  | furrowSendDone (site tile : Nat) (ecc : Ecc)
  | furrowReceive (site tile : Nat) (w : StepWord)
  | furrowReceiveDone (site tile : Nat)
  /-- the oldest beat in flight to `tile` from `src` with this flow tag on this channel arrives; `bad`: its units (0 and 1) in which a
  switch on the way met a word that it could not correct (R78) -/
  | furrowBeatArrival (site tile src flow : Nat) (vc : Bool) (bad : List Nat)
  | furrowDeadlineExpiry (site tile : Nat)
  | bid (site tile : Nat) (w : StepWord)
  | send (site tile : Nat) (w : StepWord) (ecc : Ecc)
  | mergeOpen (site tile : Nat) (w : StepWord)
  | mergeClose (site tile : Nat) (w : StepWord)
  | tallyWait (site tile : Nat) (w : StepWord)
  | tallyWaitSatisfied (site tile : Nat)
  | tallyWaitTimeout (site tile : Nat)
  | tallyPost (site tile : Nat) (w : StepWord)
  | sieveSelect (site tile : Nat) (w : StepWord)
  /-- `ueUnits`, `ce`: what ECC finds in the vault units read (R101), `ecc` in those of the tile store; `head`: the stream whose head
  result this is (R167) -/
  | tagComplete (site tile tag : Nat) (ueUnits : List Nat) (ce : Nat) (ecc : Ecc) (head : Option Nat)
  | watchdogExpiry (site tile : Nat)
  | trapRecordSend (site tile : Nat)
  | siteSequencerTrapHandle (site : Nat)
  | stepListRefill (site tile : Nat)
  | bankChangeDone (site tile bank : Nat)
  /-- units written from `addr` (32-B units); `clash`: port A writes the same unit in the same cycle (R68) -/
  | tileStoreArrivingWrite (site tile addr : Nat) (data : List Cell32) (clash : Bool)
  | storeTestInterval (site tile : Nat) (ecc : Ecc)
  /-- `failed`: a cell failed; `differ`: the units of the region (0 to 7) that read back different (R73); `corrected`: words that ECC
  corrected in it (R71) -/
  | storeTestDone (site tile : Nat) (failed : Bool) (differ : List Nat) (corrected : Nat)
  /-- a tile's bucket, or an attachment point's (a physical tile of Table 4.2) -/
  | prioBucketRefill (site : Nat) (attachment : Bool) (who : Nat)
  | checkPeriodEnd (site tile : Nat)
  | phaseWindowEnd (site tile : Nat)
  | tileFault (site tile : Nat)
  /-- physical tile whose switch has sent no link-alive signal -/
  | linkAliveTimeout (site phys : Nat)
  | routeRecomputeDone (site : Nat)
  -- the stacked memory (chapter 5)
  /-- `runs`: of each receiver trained, by 2 × layer + direction, the widest run of passing taps and the tap at its centre (R97) -/
  | vaultColumnPowerUp (site tile : Nat) (runs : List (Nat × Nat))
  | vaultClearDone (site tile : Nat)
  /-- `edges`: of the layer's two receivers, by direction, the passing run around the tap and its centre (R98) -/
  | retrim (site tile layer : Nat) (edges : List (Nat × Nat))
  /-- the oldest write (`write`) or read that the remote-access controller holds for the column -/
  | remoteQueueEnqueue (site tile : Nat) (write : Bool)
  /-- `ue`, `ce`: what ECC finds in the units of the transfer (R101), by their places in it -/
  | remoteAccessServe (site tile : Nat) (ue : List Nat) (ce : Nat)
  | poisonPatternWrite (site tile : Nat)
  /-- `ueUnits`: uncorrectable units (0 to 7) of the transfer; `ce`: symbols corrected; `written`: written since
  the scrub read it -/
  | scrubRead (site tile : Nat) (ueUnits : List Nat) (ce : Nat) (written : Bool)
  | refreshBurst (site tile : Nat)
  | trickleRefresh (site tile layer bank : Nat)
  | ceWitnessWindow (site : Nat)
  -- the photonic base (chapter 6)
  | marketMatch (plane : Nat)
  | bidWordSend (port plane : Nat)
  | grantArrival (port plane : Nat)
  /-- `found`: what the slot met on its way to the receiving headgate (R135) -/
  | slotVerdict (port plane : Nat) (found : SlotFault)
  | slotRetry (port plane : Nat)
  | receiveBufferDrain (port plane : Nat)
  | racReadRequest (port plane : Nat)
  /-- `ueUnits`, `ce`: what ECC finds in the units read from the field cache (R138) -/
  | racReadReply (port : Nat) (ueUnits : List Nat) (ce : Nat)
  | mergeOpenAccept (port : Nat)
  | mergeContribution (port plane : Nat)
  | mergeResultWrite (port ticket : Nat)
  | mergeDeadline (port ticket : Nat)
  | orderlyWithdrawal (port : Nat)
  | withdrawalComplete (port : Nat)
  /-- `supply`: the supply case of R147 -/
  | abruptWithdrawal (port : Nat) (supply : Bool)
  | portRestore (port : Nat)
  | planeRetire (plane cause : Nat)
  | bundleRecoveryFrame (lampDie plane tree : Nat)
  | pathTest (port plane : Nat) (pass : Bool)
  /-- words corrected and units (32-B, in the cache) found uncorrectable -/
  | fieldCacheScrub (field ce : Nat) (ueUnits : List Nat)
  -- sequence-resident execution (chapter 7)
  /-- the ADMIT message of Table 7.2; `mirrorOk`: the mirror holder's answer to its reserve (R178) -/
  | admitStream (stream promptLen k sb reserve : Nat) (latency : Bool) (sampling : Nat) (table : List Nat) (mirrorOk : Bool)
  | prompt (stream position : Nat) (tokens : List Nat)
  /-- `complete`: every holder of the stream has answered its ADMIT with OK (R156) -/
  | cancel (stream : Nat) (complete : Bool)
  /-- a message of unknown type, or one whose length does not fit its type: its header (Table 7.1) and body -/
  | unknownServingMessage (head : BitVec 128) (body : List Byte)
  | admitHoldExpiry (stream : Nat)
  /-- `last`: the plan's end token (R158) -/
  | tokenSend (stream token : Nat) (last : Bool)
  | mirrorWaitExpiry (stream token : Nat) (last : Bool)
  /-- the 256-B head record of R154: position, sampling state and last token -/
  | headRecordReceive (stream position sampling token : Nat)
  /-- `wp`: WP0 to WP15 as the plan's wave parameter map directs (R162) -/
  | waveDispatch (replica waveType : Nat) (wp : List (BitVec 32))
  | waveEnd (replica slot : Nat)
  | waveRerun (replica slot : Nat)
  /-- the layer of the query that arrives, the position of its token or of its chunk's last one, and whether it is a prefill chunk's -/
  | queryArrival (stream layer position : Nat) (prefill : Bool)
  | streamTokenRerun (stream : Nat)
  | streamFaultTimeout (stream : Nat)
  /-- `step`: a tally post step's post, which carries W[15:0]; otherwise a direct post (R175) -/
  | tallyPostArrival (port ctr inc wave16 replica slot : Nat) (step : Bool)
  | planLoad (img : PlanImage)
  | serveStart (session : Nat)
  -- light and lanes (chapter 8)
  /-- `pd`: the monitor reading, in thousandths of a dB from commissioning -/
  | laserPowerLoop (laser : Nat) (pd : Int)
  /-- `matchGhz`, `matchDb`: the match errors in GHz and thousandths of a dB -/
  | reserveSwitch (laser : Nat) (matchGhz matchDb : Int)
  | carrySwitch (lampDie set wavelength : Nat)
  /-- `drop`: thousandths of a dB below the set power -/
  | fastFade (laser drop : Nat)
  | lampDieLost (lampDie cause : Nat)
  /-- `offset`: the ring's distance from its setpoint in GHz -/
  | ringTrack (ring : Nat) (offset : Int)
  /-- quantity 0 to 3 of Table 8.6 at a place, and the two measurements -/
  | calibration (quantity place : Nat) (first second : CalMeas)
  | laneLock (lane : Nat)
  /-- `clockLoss`: a loss of clock lock, else 4 uncorrectable codewords -/
  | laneRecovery (lane : Nat) (clockLoss : Bool)
  | laneDown (lane : Nat)
  | laneAcquireRetry (lane : Nat)
  /-- corrected bits and bits received in the last second, corrected symbols and uncorrected codewords -/
  | laneBerUpdate (lane corrected received symbols uncorrected : Nat)
  | dr8Underrun (port lanes : Nat)
  -- the fabric (chapter 9)
  | receiveMaskChange (link mask : Nat)
  | laneReportRepeat (link : Nat)
  | laneReportReceive (link mask : Nat)
  | stripeChangeReceive (link mask after : Nat)
  | stripeSwitch (link : Nat) (transmit : Bool)
  | heartbeatSend (link : Nat)
  /-- the sender's panel ID, I/O die and direction, its receive mask, count and time -/
  | heartbeatReceive (link panel iod dir mask count time : Nat)
  | heartbeatMiss (link : Nat)
  | linkUp (link : Nat)
  /-- a frame arrives at I/O die `iod` on torus direction `dir` (6: commons); `bytes` is its length -/
  | transitFrame (iod dir bytes : Nat) (fcsOk : Bool) (p : Packet)
  | msgPacket (iod : Nat) (p : Packet)
  | copyPacket (iod : Nat) (p : Packet)
  | writePacket (iod : Nat) (p : Packet)
  /-- `ueUnits`, `ce`: units of the line that ECC finds uncorrectable, and what it corrects (R101) -/
  | readPacket (iod : Nat) (p : Packet) (ueUnits : List Nat) (ce : Nat)
  | readReplyPacket (iod : Nat) (p : Packet)
  | invalLine (iod : Nat) (own : Option Nat) (p : Packet)
  | invalEpoch (iod : Nat) (own : Option Nat) (p : Packet)
  | mergePacket (iod : Nat) (p : Packet)
  | ackPacket (iod : Nat) (p : Packet)
  /-- an OPEN of R230: from a host (its IPv6 address and the packet's 32-B payload), or the control unit's own toward a peer panel -/
  | openPacket (iod : Nat) (peer : Option PeerOpen) (addr : Nat) (payload : BitVec 256)
  | closePacket (iod : Nat) (p : Packet)
  | ackSend (iod chan : Nat)
  /-- `entries`: what the producer, a requester of `field`, has put into the send ring since the last slice (R229) -/
  | packetSend (iod chan field : Nat) (entries : List Packet)
  | rtoExpiry (iod chan : Nat)
  | increasePeriod (iod chan : Nat)
  | holdTimeout (iod chan : Nat)
  | remoteReadTimeout (iod rid : Nat)
  | channelCacheFill (iod chan : Nat)
  | neighbourSolicitation (port target src : Nat)
  | icmpEchoRequest (port dst src ident : Nat)
  -- movers, mailboxes and check units (chapter 10)
  /-- the entries written to the ring store (index and 512-bit descriptor), then the producer index (R251) -/
  | descriptorPost (port chan : Nat) (entries : List (Nat × BitVec 512)) (producer : Nat)
  | descriptorFetch (port chan : Nat)
  | moverReadIssue (port chan : Nat)
  /-- `ueUnits`, `ce`: what ECC finds in the units read of the mover's own site (R101, R71, R138) -/
  | moverReadData (port chan : Nat) (ueUnits : List Nat) (ce : Nat)
  | moverWriteIssue (port chan : Nat)
  /-- the response of the oldest read (`isRead`) or write -/
  | moverResponse (port chan : Nat) (isRead : Bool)
  | moverStopSettled (port : Nat)
  | descriptorComplete (port chan : Nat)
  | writeResponseTimeout (port chan : Nat)
  | channelResume (port chan : Nat)
  | channelAbort (port chan : Nat)
  | moverResume (session port : Nat)
  /-- `box`: 0 to 31 CU-A, 32 to 63 CU-B, 64 + p the site sequencer of port p; the sender's 56 bytes and its stamp -/
  | mailboxWrite (box : Nat) (payload : BitVec 448) (skind sproc sport stile schan : Nat)
  | mailboxWaitWrite (box : Nat) (payload : BitVec 448) (skind sproc sport stile schan : Nat)
  | mailboxRelease (box seq : Nat)
  | mboxWaitExpiry (box : Nat)
  /-- check unit `unit`: 0 to 3 CU-A, 4 to 7 CU-B -/
  | checkStart (unit : Nat)
  | checkRegWrite (unit reg : Nat) (value : BitVec 64)
  | feed8 (unit : Nat) (v : BitVec 32)
  | feed16 (unit : Nat) (v : BitVec 32)
  | feed32 (unit : Nat) (v : BitVec 32)
  | checkFeedDone (unit : Nat)
  | checkClashClear (unit : Nat)
  -- clocks and time (chapter 11)
  /-- `slew`: -1, 0 or 1 as the servo asks; the field copies found more than 2 ns off, with the difference in ns -/
  | tick (slew : Int) (skewed : List (Nat × Nat))
  | freqChangeRequest (site mhz : Nat)
  | freqChangeGate (site : Nat)
  | freqChangeRestart (site : Nat) (locked : Bool)
  | freqChangeResume (site : Nat)
  | vcoreRampDone (site : Nat)
  | replicaSlow (site : Nat)
  | crystalLost (trimAge : Nat)
  | spinePllUnlock
  | diePllUnlock (site pll : Nat)
  | fieldTimeBaseLoss (field diff : Nat)
  | bundleClockLoss (port plane : Nat)
  | ptpSyncSend (ptpPort : Nat)
  /-- `kind`: 0 Sync (with the offset in ns that the servo measures), 1 Announce (with the grandmaster's priority1, clockClass and identity),
  2 Delay_Req, 3 Pdelay_Req, else another; `domain` is its domain number -/
  | ptpMessageReceive (ptpPort kind : Nat) (offset : Int) (priority clockClass identity domain : Nat)
  | announceTimeout
  | holdoverEnd
  /-- `skews`: each field of the zone with its measured skew in ps -/
  | zoneRealignDone (zone : Nat) (skews : List (Nat × Nat))
  -- power and heat (chapter 12)
  /-- the blade voltage in millivolts -/
  | inputSample (mv : Nat)
  | inputRestored
  /-- zone or feed 0 to 15; the current in milliamperes -/
  | efuseShortTrip (zone ma : Nat)
  | efuseOvercurrent (zone ma : Nat)
  | efuseReclose (session zone : Nat)
  | prechargeTestDone (zone : Nat) (faultFound : Bool)
  | zoneLost (zone : Nat)
  | railFault (site rail mv : Nat)
  /-- the panel's and the zones' power in watts over 10 µs -/
  | powerSample (watts : Nat) (zones : List Nat)
  | capLoopStep
  /-- readings of the sensors: (region, sensor) and what the hub read (R299) -/
  | sensorSample (readings : List ((Nat × Nat) × Reading))
  | stackTrip (site : Nat)
  | heatZoneOff (zone : Nat)
  | heatZoneReturn (zone : Nat)
  | carryReturn (lampDie : Nat)
  | panelTrip (cause : Nat)
  | emergencyBitClear (n : Nat)
  | standbyEnter
  | standbyRelease
  | wakeNAssert
  -- the ledger (chapter 13)
  | read (m : LedgerMsg)
  | write (m : LedgerMsg)
  | stage (m : LedgerMsg)
  | commit (m : LedgerMsg)
  | commitApply (wave : Bool)
  /-- `wave`: a wave boundary, else a frame boundary -/
  | edgeApply (wave : Bool)
  | abort (m : LedgerMsg)
  | subscribe (m : LedgerMsg)
  | notify (session : Nat)
  | list (m : LedgerMsg)
  /-- HELLO of R327: source and destination, level, interface version, host nonce, client name -/
  | hello (src sport dst dport : Nat) (commons : Bool) (level version : Nat) (nonce : BitVec 256) (name : Nat)
  | proof (session src sport dst dport : Nat) (commons : Bool) (h : BitVec 384)
  | bye (m : LedgerMsg)
  | challengeTimeout (session : Nat)
  | sessionIdleTimeout (session : Nat)
  | helloLockoutEnd (src : Nat)
  | commandTimeout (area num : Nat)
  | portWithdrawCmd (session port : Nat)
  | switchover (session : Nat)
  | imageVerify (session : Nat)
  | imageVerifyDone
  | imageActivateLive (session : Nat)
  | imageActivateNextStart (session : Nat)
  | blackboxFlush (session : Nat)
  | blackboxFlushDone
  | blackboxSlotErase
  | stackOut (session stack : Nat)
  | lifeCycleToProvisioned (session : Nat)
  | lifeCycleToDeployed (session : Nat)
  | lifeCycleToService (session : Nat)
  | lifeCycleToDecommissioned (session : Nat)
  | wipeDone
  | zoneResetCmd (session zone : Nat)
  | baseZoneReset (zone trigger : Nat)
  | zoneResetDrainDone (zone : Nat)
  -- control units (chapter 14)
  | leaseRenew (unit : Nat)
  | renewReceive (unit : Nat)
  | leaseStandDown (unit : Nat)
  | leaseExpiry
  | leaseGrant
  | firstLeaseTimeout
  /-- `cause`: 0 switchover, 1 second crash, 2 failed self-check, 3 update commit -/
  | leaseRelease (unit cause : Nat)
  /-- `cause`: 0 comparator, 1 I/O die unpowered or tripped, 2 zone lost -/
  | leaseRevoke (cause : Nat)
  /-- an output of `unit` reaches its receiver, or the comparator from a unit in shadow: its epoch, receiver, content, and kind: 0 wave
  dispatch, 1 a mover descriptor, 2 withdrawal, 3 restoration, 4 promotion, 5 setpoint, above 5 an output off the dispatch path; `logs`: what
  the unit's firmware logs beside it (R360) -/
  | cuOutputReceive (unit epoch receiver kind content : Nat) (logs : List FwMsg)
  | compareWindowEnd (window : Nat)
  /-- what each unit reports, none if it has not (R349) -/
  | selfCheckOutcome (a b : Option Bool)
  | resyncStart (unit : Nat)
  | resyncDone (unit : Nat)
  /-- whether the newer and the older copy of the boot record hold under their CRC-32C, whether the ROM reads the named slot and the other one
  without fault (R354), and whether the self-test passes -/
  | unitRomStart (unit : Nat) (newerOk olderOk namedOk otherOk selfTest : Bool)
  /-- `cause`: 0 an exception, 1 the watchdog, 2 the secure SRAM, 3 an uncorrectable SRAM word; the program counter -/
  | procCrash (unit proc cause pc : Nat)
  | procWatchdogExpiry (unit proc pc : Nat)
  /-- `contextOk`: every retained context section holds (R355) -/
  | procRestartDone (unit proc : Nat) (contextOk : Bool)
  | updateHandoverStart
  | updateCommit
  | handoverTimeout
  /-- `logs`: what the active unit's firmware logs beside it (R360) -/
  | cuMailboxService (box : Nat) (logs : List FwMsg)
  -- faults and recovery (chapter 15)
  /-- `witness`: row of Table 15.1, 0 to 9; 10 the command of X.0F0A -/
  | stackFailureDetect (stack witness : Nat)
  | siteLivenessWrite (site : Nat)
  | siteSilent (site : Nat)
  /-- `bad`: physical tiles that failed the tests of the stage; `furrows`: pairs of tiles whose furrow test failed (R393) -/
  | promotionStageDone (stack : Nat) (pass : Bool) (bad : List Nat) (furrows : List (Nat × Nat))
  | replicaResume (replica : Nat)
  | suspendedStreamTimeout (replica : Nat)
  | stackRetest (site : Nat) (usable : Bool)
  | panelLost
  | panelFenced
  /-- the stretches of the lost panel that the mirror region holds -/
  | adoption (panel : Nat) (mirrored : List MirrorRec)
  /-- the streams whose second copies are complete, and the bytes copied -/
  | remirrorDone (streams : List Nat) (bytes : Nat)
  /-- what the work of the five resources of Table 15.5 asked for in the last ms, in thousandths of a percent of each; the
  class D levy slots of the last ms by port and plane -/
  | levyMeterPeriod (use : List Nat) (slots : List (Nat × Nat × Nat))
  -- start-up and reset (chapter 16)
  | coldStart
  /-- what the stage found: whether it reached its end; the sites and the physical tiles (by site) that fail its tests (stages 8 and 9); the pairs
  of tiles of a site whose furrow test fails; the ports that lose slots on a plane, and toward how many destinations (stage 9, R393) -/
  | startupStageEnd (ok : Bool) (failed : List Nat) (badTiles : List (Nat × Nat)) (furrows : List (Nat × Nat × Nat)) (paths : List (Nat × Nat × Nat))
  -- test port, plan load end, feeds, hold-up (chapters 7, 11, 12, 14, 17)
  | tapInstruction (ir : Nat)
  | planLoadDone
  | overlapExpiry
  | alwaysOnFeedRemoved
  | holdUpExhausted
  | holdUpStoreCharged
  | replicaMarginLow (site tile path margin : Nat)
  | tapReset
deriving DecidableEq, Repr

end Sys2Proof
end

