-- ==== Sys2Proof/Machine/Crc.lean ====
section
/-!
DEFINITION. Cyclic redundancy checks (R266): the bit-serial computation of a check unit, and the CRC-32C of the transport (R217).
-/

namespace Sys2Proof.Machine

/-- The low w bits set. -/
def lowMask (w : Nat) : BitVec 64 := BitVec.ofNat 64 (2 ^ w - 1)

/-- One bit of R266. -/
def crcBit (w : Nat) (poly v : BitVec 64) (b : Bool) : BitVec 64 :=
  let top := xor (v.getLsbD (w - 1)) b
  let v' := (v <<< 1) &&& lowMask w
  if top then v' ^^^ poly else v'

/-- One byte, low bit first with refin, high bit first without (R266). -/
def crcByte (w : Nat) (refin : Bool) (poly v : BitVec 64) (b : BitVec 8) : BitVec 64 :=
  (List.range 8).foldl (fun v i => crcBit w poly v (b.getLsbD (if refin then i else 7 - i))) v

/-- Bytes in order. -/
def crcBytes (w : Nat) (refin : Bool) (poly v : BitVec 64) (l : List (BitVec 8)) : BitVec 64 :=
  l.foldl (fun v b => crcByte w refin poly v b) v

/-- The low w bits in reverse order. -/
def reverseLow (w : Nat) (v : BitVec 64) : BitVec 64 :=
  BitVec.ofNat 64 (((List.range w).map (fun i => if v.getLsbD (w - 1 - i) then 2 ^ i else 0)).sum)

/-- RESULT of R266. -/
def crcResult (w : Nat) (refout xorout : Bool) (v : BitVec 64) : BitVec 64 :=
  let r := if refout then reverseLow w v else v
  if xorout then r ^^^ lowMask w else r

/-- The first n bytes of a list of units. -/
def payloadBytes (l : List Cell32) (n : Nat) : List (BitVec 8) :=
  (List.range n).map (fun i => (l.getD (i / 32) default).data.extractLsb' (8 * (i % 32)) 8)

/-- The payload check pcrc: CRC-32C of the payload, 0 when its length is 0 (R217). -/
def pcrcOf (l : List Cell32) (n : Nat) : Nat :=
  if n = 0 then 0
  else (crcResult 32 true true (crcBytes 32 true 0x1EDC6F41#64 0xFFFFFFFF#64 (payloadBytes l n))).toNat

end Sys2Proof.Machine
end

