-- ==== Sys2Proof/Machine/Objects.lean ====
section
/-!
DEFINITION. The ledger's object dictionary (R312): every object of Tables 2.3, 3.16, 4.4, 5.10, 6.10, 7.12, 8.9, 9.11,
10.8, 11.6, 12.9, 13.14, 14.12, 15.8 and 16.9 with its type, access, level, apply class, commit group, array length,
packed entries, default and range. A value is the little-endian number of its encoding (R313).
-/

namespace Sys2Proof.Machine

/-- The types of Table 13.1. -/
inductive OType
  | u8 | u16 | u32 | u64 | s32 | f32 | enum | bitset | string | blob | table
deriving DecidableEq, Repr, Inhabited

/-- The code of a type in Table 13.1. -/
def otypeCode : OType → Nat
  | .u8 => 0 | .u16 => 1 | .u32 => 2 | .u64 => 3 | .s32 => 4 | .f32 => 5 | .enum => 6 | .bitset => 7 | .string => 8
  | .blob => 9 | .table => 10

/-- The accesses of Table 13.2. -/
inductive OAccess
  | ro | rw | wo | rs | cmd
deriving DecidableEq, Repr, Inhabited

/-- The apply classes of R318 and R319: Edge at a frame or at a wave boundary. -/
inductive OApply
  | live | edgeFrame | edgeWave | halt | group
deriving DecidableEq, Repr, Inhabited

/-- The ledger objects (R10): the area letter and the four digits of the number. -/
inductive Obj
  /-- fp_saturate (R27) -/
  | X0140
  /-- sr_seed (R27) -/
  | X0141
  /-- sr_seed_in_use (R27) -/
  | X0142
  /-- trap_count (R74) -/
  | S0300
  /-- last_trap (R74) -/
  | S0301
  /-- stall_cycles (R74) -/
  | S0302
  /-- watchdog_limit (R74) -/
  | S0303
  /-- store_test_interval (R74) -/
  | S0304
  /-- store_test_passes (R74) -/
  | S0305
  /-- store_spare_pairs (R74) -/
  | S0306
  /-- store_ecc_corrected (R74) -/
  | S0307
  /-- bank_state (R74) -/
  | S0308
  /-- tile_map (R90) -/
  | S0400
  /-- dead_switches (R90) -/
  | S0401
  /-- tiles_flagged (R90) -/
  | S0402
  /-- furrow_beats (R90) -/
  | S0403
  /-- furrow_wait_cycles (R90) -/
  | S0404
  /-- prio_budget_stalls (R90) -/
  | S0405
  /-- map_out_request (R90) -/
  | S0406
  /-- scrub_interval (R118) -/
  | M0500
  /-- scrub_pass_time (R118) -/
  | M0501
  /-- dram_ce (R118) -/
  | M0502
  /-- dram_ue (R118) -/
  | M0503
  /-- refresh_scale (R118) -/
  | M0504
  /-- refresh_trickle (R118) -/
  | M0505
  /-- remote_share (R118) -/
  | M0506
  /-- remote_cycles (R118) -/
  | M0507
  /-- trim_window (R118) -/
  | M0508
  /-- retrim_interval (R118) -/
  | M0509
  /-- phase_mode (R118) -/
  | M050A
  /-- phase_conflict_limit (R118) -/
  | M050B
  /-- phase_conflicts (R118) -/
  | M050C
  /-- layer_implausible (R118) -/
  | M050D
  /-- ce_witness_ratio (R118) -/
  | M050E
  /-- ce_witness (R118) -/
  | M050F
  /-- plane_state (R151) -/
  | B0600
  /-- port_state (R151) -/
  | B0601
  /-- class_weights (R151) -/
  | B0602
  /-- slots_run (R151) -/
  | B0603
  /-- slots_lost (R151) -/
  | B0604
  /-- slots_failed (R151) -/
  | B0605
  /-- a_demoted (R151) -/
  | B0606
  /-- a_conditions (R151) -/
  | B0607
  /-- grant_wait_max (R151) -/
  | B0608
  /-- path_test_interval (R151) -/
  | B0609
  /-- port_withdraw (R151) -/
  | B060A
  /-- merge_open (R151) -/
  | B060B
  /-- merge_timeouts (R151) -/
  | B060C
  /-- merge_refused (R151) -/
  | B060D
  /-- fc_ce (R151) -/
  | B060E
  /-- fc_ue (R151) -/
  | B060F
  /-- rac_refused (R151) -/
  | B0610
  /-- plan_state (R185) -/
  | X0700
  /-- plan_generation (R185) -/
  | X0701
  /-- streams_active (R185) -/
  | X0702
  /-- sieve_mode (R185) -/
  | X0703
  /-- wave_batch (R185) -/
  | X0704
  /-- waves_in_flight (R185) -/
  | X0705
  /-- waves_dispatched (R185) -/
  | X0706
  /-- wave_aborts (R185) -/
  | X0707
  /-- mirror_mode (R185) -/
  | X0708
  /-- attn_merge_deadline (R185) -/
  | X0709
  /-- mirror_wait (R185) -/
  | X070A
  /-- tally_stale (R185) -/
  | X070B
  /-- latency_critical_max (R185) -/
  | X070C
  /-- kv_own_free (R185) -/
  | X070D
  /-- admit_hold (R185) -/
  | X070F
  /-- lamp_state (R209) -/
  | L0800
  /-- laser_power (R209) -/
  | L0801
  /-- laser_bias (R209) -/
  | L0802
  /-- reserve_map (R209) -/
  | L0803
  /-- fade_warn (R209) -/
  | L0804
  /-- fade_takeover (R209) -/
  | L0805
  /-- lane_state (R209) -/
  | L0806
  /-- fec_corrected (R209) -/
  | L0807
  /-- fec_uncorrected (R209) -/
  | L0808
  /-- pre_fec_ber (R209) -/
  | L0809
  /-- commons_pmd (R209) -/
  | L080A
  /-- cal_period (R209) -/
  | L080B
  /-- cal_rejects (R209) -/
  | L080C
  /-- bundle_state (R209) -/
  | L080D
  /-- ring_unlocks (R209) -/
  | L080E
  /-- panel_id (R249) -/
  | F0900
  /-- torus_dims (R249) -/
  | F0901
  /-- link_state (R249) -/
  | F0902
  /-- link_width (R249) -/
  | F0903
  /-- ethertype (R249) -/
  | F0904
  /-- udp_port (R249) -/
  | F0905
  /-- commons_addr (R249) -/
  | F0906
  /-- pcp_map (R249) -/
  | F0907
  /-- dscp_map (R249) -/
  | F0908
  /-- ecn_threshold (R249) -/
  | F0909
  /-- deflect_threshold (R249) -/
  | F090A
  /-- rate_params (R249) -/
  | F090B
  /-- remote_read_timeout (R249) -/
  | F090C
  /-- channels_open (R249) -/
  | F090D
  /-- retransmits (R249) -/
  | F090E
  /-- channel_cache_misses (R249) -/
  | F090F
  /-- commons_vid (R249) -/
  | F0910
  /-- a_conditions (R249) -/
  | F0911
  /-- a_demoted (R249) -/
  | F0912
  /-- hop_drops (R249) -/
  | F0913
  /-- queue_drops (R249) -/
  | F0914
  /-- frames_discarded (R249) -/
  | F0915
  /-- host_prefixes (R249) -/
  | F0916
  /-- a_late_limit (R249) -/
  | F0917
  /-- mover_state (R271) -/
  | D0A00
  /-- mover_stops (R271) -/
  | D0A01
  /-- mover_units (R271) -/
  | D0A02
  /-- pace_marks (R271) -/
  | D0A03
  /-- write_response_timeout (R271) -/
  | D0A04
  /-- mover_resume (R271) -/
  | D0A05
  /-- desc_errors (R271) -/
  | D0A06
  /-- mbox_state (R271) -/
  | D0A07
  /-- mbox_collisions (R271) -/
  | D0A08
  /-- ptp_state (R289) -/
  | C0B00
  /-- time_now (R289) -/
  | C0B01
  /-- ptp_offset (R289) -/
  | C0B02
  /-- ptp_priority1 (R289) -/
  | C0B03
  /-- ptp_domain (R289) -/
  | C0B04
  /-- tile_freq_set (R289) -/
  | C0B05
  /-- tile_freq_now (R289) -/
  | C0B06
  /-- freq_changes (R289) -/
  | C0B07
  /-- replica_stretch_cycles (R289) -/
  | C0B08
  /-- field_skew (R289) -/
  | C0B09
  /-- link_asymmetry (R289) -/
  | C0B0A
  /-- ref_state (R289) -/
  | C0B0B
  /-- input_voltage (R311) -/
  | P0C00
  /-- input_current (R311) -/
  | P0C01
  /-- input_power (R311) -/
  | P0C02
  /-- power_cap (R311) -/
  | P0C03
  /-- zone_cap (R311) -/
  | P0C04
  /-- zone_power (R311) -/
  | P0C05
  /-- zone_state (R311) -/
  | P0C06
  /-- efuse_trips (R311) -/
  | P0C07
  /-- efuse_reclose (R311) -/
  | P0C08
  /-- power_ceiling (R311) -/
  | P0C09
  /-- guard_stretch_time (R311) -/
  | P0C0A
  /-- slew_limit (R311) -/
  | P0C0B
  /-- emergency (R311) -/
  | P0C0C
  /-- rail_voltage (R311) -/
  | P0C0D
  /-- band_now (R311) -/
  | T0120
  /-- temp_max (R311) -/
  | T0121
  /-- band_thresholds (R311) -/
  | T0122
  /-- freq_ceiling (R311) -/
  | T0123
  /-- lamp_band (R311) -/
  | T0124
  /-- plane_band (R311) -/
  | T0125
  /-- sensors_broken (R311) -/
  | T0126
  /-- coolant_temp (R311) -/
  | T0127
  /-- inlet_limit (R311) -/
  | T0128
  /-- zone_off_min (R311) -/
  | T0129
  /-- heat_offs (R311) -/
  | T012A
  /-- band_changes (R311) -/
  | T012B
  /-- part_number (R340) -/
  | I0D00
  /-- panel_serial (R340) -/
  | I0D01
  /-- hw_revision (R340) -/
  | I0D02
  /-- stack_serials (R340) -/
  | I0D03
  /-- slot_id (R340) -/
  | I0D04
  /-- life_cycle (R340) -/
  | I0D05
  /-- asset_tag (R340) -/
  | I0D06
  /-- event_log (R340) -/
  | E0D00
  /-- event_next (R340) -/
  | E0D01
  /-- events_overwritten (R340) -/
  | E0D02
  /-- sessions_open (R340) -/
  | K0D00
  /-- session_table (R340) -/
  | K0D01
  /-- session_idle_limit (R340) -/
  | K0D02
  /-- requests_discarded (R340) -/
  | K0D03
  /-- proof_failures (R340) -/
  | K0D04
  /-- inband_ledger (R340) -/
  | K0D05
  /-- mgmt_addr (R340) -/
  | K0D10
  /-- mgmt_prefix_len (R340) -/
  | K0D11
  /-- mgmt_gateway (R340) -/
  | K0D12
  /-- ledger_port (R340) -/
  | K0D13
  /-- key_basic (R340) -/
  | K0D18
  /-- key_expert (R340) -/
  | K0D19
  /-- key_service (R340) -/
  | K0D1A
  /-- key_ids (R340) -/
  | K0D1B
  /-- interface_version (R340) -/
  | W0007
  /-- held_reason (R340) -/
  | W0008
  /-- serve_start (R340) -/
  | X070E
  /-- cu_role (R365) -/
  | W0000
  /-- lease_epoch (R365) -/
  | W0001
  /-- lease_holder (R365) -/
  | W0002
  /-- failover_mode (R365) -/
  | W0003
  /-- switchover (R365) -/
  | W0004
  /-- fw_running (R365) -/
  | W0005
  /-- image_slots (R365) -/
  | W0006
  /-- image_buffer (R365) -/
  | W0009
  /-- image_verify (R365) -/
  | W000A
  /-- image_activate (R365) -/
  | W000B
  /-- update_state (R365) -/
  | W000C
  /-- proc_crashes (R365) -/
  | W000D
  /-- compare_mismatches (R365) -/
  | W000E
  /-- fenced_outputs (R365) -/
  | W000F
  /-- log_ring (R365) -/
  | W0010
  /-- log_level (R365) -/
  | W0011
  /-- trace_enable (R365) -/
  | W0012
  /-- trace_ring (R365) -/
  | W0013
  /-- trace_dropped (R365) -/
  | W0014
  /-- blackbox_live (R365) -/
  | W0015
  /-- blackbox_flash (R365) -/
  | W0016
  /-- blackbox_flush (R365) -/
  | W0017
  /-- resync_time (R365) -/
  | W0018
  /-- levy_cap (R387) -/
  | X0F00
  /-- stack_site (R387) -/
  | X0F01
  /-- spare_pool (R387) -/
  | X0F02
  /-- recovery_state (R387) -/
  | X0F03
  /-- refill_rate (R387) -/
  | X0F04
  /-- remirror_rate (R387) -/
  | X0F05
  /-- lost_panels (R387) -/
  | X0F06
  /-- streams_unmirrored (R387) -/
  | X0F07
  /-- recoveries (R387) -/
  | X0F08
  /-- levy_use (R387) -/
  | X0F09
  /-- stack_out (R387) -/
  | X0F0A
  /-- startup_stage (R402) -/
  | K0E00
  /-- startup_times (R402) -/
  | K0E01
  /-- life_cycle_cmd (R402) -/
  | K0E02
  /-- wipe_state (R402) -/
  | K0E03
  /-- zone_reset (R402) -/
  | K0E04
  /-- identity (R402) -/
  | K0E05
  /-- identity_faults (R402) -/
  | K0E06
  /-- min_security_version (R402) -/
  | K0E07
deriving DecidableEq, Repr, Inhabited

/-- One row of the dictionary. `level` 0 Basic, 1 Expert, 2 Service; `elements` the array length; a value holds
`entries` packed entries of `esize` bytes, each from `lo` to `hi` (as unsigned numbers of its encoding). -/
structure ObjRow where
  obj : Obj
  area : Nat
  num : Nat
  name : String
  type : OType
  access : OAccess
  level : Nat
  apply : OApply
  group : Nat
  elements : Nat
  entries : Nat
  esize : Nat
  dflt : Nat
  lo : Nat
  hi : Nat
  unit : String
deriving Repr, Inhabited

/-- Rows 0 to 11 of the dictionary. -/
def objRows0 : List ObjRow := [
  ⟨.X0140, 0x58, 0x0140, "fp_saturate", .enum, .rw, 1, .edgeWave, 0, 1, 1, 2, 1, 0, 1, ""⟩,
  ⟨.X0141, 0x58, 0x0141, "sr_seed", .u32, .rw, 1, .edgeWave, 0, 1, 1, 4, 0, 0, 4294967295, ""⟩,
  ⟨.X0142, 0x58, 0x0142, "sr_seed_in_use", .u32, .ro, 0, .live, 0, 1, 1, 4, 0, 0, 4294967295, ""⟩,
  ⟨.S0300, 0x53, 0x0300, "trap_count", .u64, .ro, 0, .live, 0, 128, 1, 8, 0, 0, 18446744073709551615, "traps"⟩,
  ⟨.S0301, 0x53, 0x0301, "last_trap", .blob, .ro, 0, .live, 0, 128, 32, 1, 0, 0, 255, ""⟩,
  ⟨.S0302, 0x53, 0x0302, "stall_cycles", .u64, .ro, 1, .live, 0, 128, 1, 8, 0, 0, 18446744073709551615, "cycles, summed over the die's tiles"⟩,
  ⟨.S0303, 0x53, 0x0303, "watchdog_limit", .u32, .rw, 1, .edgeWave, 0, 1, 1, 4, 1000, 10, 100000, "µs"⟩,
  ⟨.S0304, 0x53, 0x0304, "store_test_interval", .u32, .rw, 1, .live, 0, 1, 1, 4, 50, 0, 100000, "µs"⟩,
  ⟨.S0305, 0x53, 0x0305, "store_test_passes", .u64, .ro, 1, .live, 0, 128, 1, 8, 0, 0, 18446744073709551615, "passes of the die's slowest tile"⟩,
  ⟨.S0306, 0x53, 0x0306, "store_spare_pairs", .u8, .ro, 1, .live, 0, 128, 1, 1, 2, 0, 2, "fewest spare row pairs left in any bank of the die"⟩,
  ⟨.S0307, 0x53, 0x0307, "store_ecc_corrected", .u64, .ro, 1, .live, 0, 128, 1, 8, 0, 0, 18446744073709551615, "words"⟩,
  ⟨.S0308, 0x53, 0x0308, "bank_state", .table, .ro, 1, .live, 0, 128, 48, 8, 0, 0, 18446744073709551615, ""⟩]

/-- Rows 12 to 23 of the dictionary. -/
def objRows1 : List ObjRow := [
  ⟨.S0400, 0x53, 0x0400, "tile_map", .table, .ro, 1, .live, 0, 128, 6, 1, 8830587504648, 0, 8, "physical column"⟩,
  ⟨.S0401, 0x53, 0x0401, "dead_switches", .bitset, .ro, 1, .live, 0, 128, 7, 1, 0, 0, 255, ""⟩,
  ⟨.S0402, 0x53, 0x0402, "tiles_flagged", .bitset, .ro, 0, .live, 0, 128, 6, 1, 0, 0, 255, ""⟩,
  ⟨.S0403, 0x53, 0x0403, "furrow_beats", .u64, .ro, 1, .live, 0, 128, 1, 8, 0, 0, 18446744073709551615, "beats delivered, summed over the die"⟩,
  ⟨.S0404, 0x53, 0x0404, "furrow_wait_cycles", .u64, .ro, 1, .live, 0, 128, 1, 8, 0, 0, 18446744073709551615, "cycles, summed over the die's switches"⟩,
  ⟨.S0405, 0x53, 0x0405, "prio_budget_stalls", .u64, .ro, 1, .live, 0, 128, 1, 8, 0, 0, 18446744073709551615, "cycles, summed over the die's tiles"⟩,
  ⟨.S0406, 0x53, 0x0406, "map_out_request", .bitset, .rw, 2, .halt, 0, 128, 7, 1, 0, 0, 255, ""⟩,
  ⟨.M0500, 0x4D, 0x0500, "scrub_interval", .u32, .rw, 1, .live, 0, 1, 1, 4, 24, 0, 168, "h"⟩,
  ⟨.M0501, 0x4D, 0x0501, "scrub_pass_time", .u32, .ro, 1, .live, 0, 128, 1, 4, 0, 0, 4294967295, "s, last complete pass of the site's slowest vault column"⟩,
  ⟨.M0502, 0x4D, 0x0502, "dram_ce", .u64, .ro, 0, .live, 0, 128, 1, 8, 0, 0, 18446744073709551615, "symbols"⟩,
  ⟨.M0503, 0x4D, 0x0503, "dram_ue", .u64, .ro, 0, .live, 0, 128, 1, 8, 0, 0, 18446744073709551615, "units"⟩,
  ⟨.M0504, 0x4D, 0x0504, "refresh_scale", .table, .ro, 1, .live, 0, 128, 4, 1, 0, 0, 255, "multiplier"⟩]

/-- Rows 24 to 35 of the dictionary. -/
def objRows2 : List ObjRow := [
  ⟨.M0505, 0x4D, 0x0505, "refresh_trickle", .u64, .ro, 1, .live, 0, 128, 1, 8, 0, 0, 18446744073709551615, "commands"⟩,
  ⟨.M0506, 0x4D, 0x0506, "remote_share", .enum, .rw, 1, .edgeFrame, 0, 1, 1, 2, 0, 0, 2, ""⟩,
  ⟨.M0507, 0x4D, 0x0507, "remote_cycles", .u64, .ro, 1, .live, 0, 128, 1, 8, 0, 0, 18446744073709551615, "channel cycles, summed over the site"⟩,
  ⟨.M0508, 0x4D, 0x0508, "trim_window", .table, .ro, 1, .live, 0, 128, 4, 1, 0, 0, 255, "taps, narrowest on the layer"⟩,
  ⟨.M0509, 0x4D, 0x0509, "retrim_interval", .u32, .rw, 2, .live, 0, 1, 1, 4, 100, 10, 1000, "ms"⟩,
  ⟨.M050A, 0x4D, 0x050A, "phase_mode", .enum, .rw, 1, .edgeWave, 0, 1, 1, 2, 0, 0, 2, ""⟩,
  ⟨.M050B, 0x4D, 0x050B, "phase_conflict_limit", .u8, .rw, 1, .edgeWave, 0, 1, 1, 1, 2, 0, 32, "check periods"⟩,
  ⟨.M050C, 0x4D, 0x050C, "phase_conflicts", .u64, .ro, 1, .live, 0, 128, 1, 8, 0, 0, 18446744073709551615, "check periods, summed over the die's tiles"⟩,
  ⟨.M050D, 0x4D, 0x050D, "layer_implausible", .bitset, .ro, 0, .live, 0, 128, 1, 1, 0, 0, 255, ""⟩,
  ⟨.M050E, 0x4D, 0x050E, "ce_witness_ratio", .u16, .rw, 1, .live, 0, 1, 1, 2, 16, 4, 1024, ""⟩,
  ⟨.M050F, 0x4D, 0x050F, "ce_witness", .bitset, .ro, 0, .live, 0, 128, 1, 1, 0, 0, 255, ""⟩,
  ⟨.B0600, 0x42, 0x0600, "plane_state", .table, .ro, 0, .live, 0, 8, 1, 2, 0, 0, 65535, ""⟩]

/-- Rows 36 to 47 of the dictionary. -/
def objRows3 : List ObjRow := [
  ⟨.B0601, 0x42, 0x0601, "port_state", .table, .ro, 0, .live, 0, 128, 1, 2, 0, 0, 65535, ""⟩,
  ⟨.B0602, 0x42, 0x0602, "class_weights", .table, .rw, 1, .edgeFrame, 0, 1, 3, 1, 66568, 1, 64, "grants per cycle"⟩,
  ⟨.B0603, 0x42, 0x0603, "slots_run", .u64, .ro, 1, .live, 0, 128, 1, 8, 0, 0, 18446744073709551615, "slots"⟩,
  ⟨.B0604, 0x42, 0x0604, "slots_lost", .u64, .ro, 0, .live, 0, 128, 1, 8, 0, 0, 18446744073709551615, "slots"⟩,
  ⟨.B0605, 0x42, 0x0605, "slots_failed", .u64, .ro, 0, .live, 0, 128, 1, 8, 0, 0, 18446744073709551615, "slots"⟩,
  ⟨.B0606, 0x42, 0x0606, "a_demoted", .u64, .ro, 0, .live, 0, 128, 1, 8, 0, 0, 18446744073709551615, "slots"⟩,
  ⟨.B0607, 0x42, 0x0607, "a_conditions", .bitset, .ro, 0, .live, 0, 128, 1, 1, 0, 0, 255, ""⟩,
  ⟨.B0608, 0x42, 0x0608, "grant_wait_max", .u32, .ro, 1, .live, 0, 128, 1, 4, 0, 0, 4294967295, "slots from bid to grant"⟩,
  ⟨.B0609, 0x42, 0x0609, "path_test_interval", .u32, .rw, 1, .live, 0, 1, 1, 4, 4096, 0, 65536, "frames per port and plane"⟩,
  ⟨.B060A, 0x42, 0x060A, "port_withdraw", .u8, .cmd, 2, .live, 0, 1, 1, 1, 0, 0, 111, "port"⟩,
  ⟨.B060B, 0x42, 0x060B, "merge_open", .u16, .ro, 1, .live, 0, 128, 1, 2, 0, 0, 65535, "tickets"⟩,
  ⟨.B060C, 0x42, 0x060C, "merge_timeouts", .u64, .ro, 0, .live, 0, 128, 1, 8, 0, 0, 18446744073709551615, "tickets"⟩]

/-- Rows 48 to 59 of the dictionary. -/
def objRows4 : List ObjRow := [
  ⟨.B060D, 0x42, 0x060D, "merge_refused", .u64, .ro, 1, .live, 0, 128, 1, 8, 0, 0, 18446744073709551615, "contributions"⟩,
  ⟨.B060E, 0x42, 0x060E, "fc_ce", .u64, .ro, 1, .live, 0, 56, 1, 8, 0, 0, 18446744073709551615, "words"⟩,
  ⟨.B060F, 0x42, 0x060F, "fc_ue", .u64, .ro, 0, .live, 0, 56, 1, 8, 0, 0, 18446744073709551615, "units"⟩,
  ⟨.B0610, 0x42, 0x0610, "rac_refused", .u64, .ro, 1, .live, 0, 56, 1, 8, 0, 0, 18446744073709551615, "slots"⟩,
  ⟨.X0700, 0x58, 0x0700, "plan_state", .enum, .ro, 0, .live, 0, 1, 1, 2, 0, 0, 4, ""⟩,
  ⟨.X0701, 0x58, 0x0701, "plan_generation", .u16, .ro, 0, .live, 0, 1, 1, 2, 0, 0, 65535, ""⟩,
  ⟨.X0702, 0x58, 0x0702, "streams_active", .u32, .ro, 0, .live, 0, 1, 1, 4, 0, 0, 4294967295, "streams"⟩,
  ⟨.X0703, 0x58, 0x0703, "sieve_mode", .enum, .rw, 1, .edgeWave, 0, 1, 1, 2, 0, 0, 1, ""⟩,
  ⟨.X0704, 0x58, 0x0704, "wave_batch", .u16, .rw, 1, .edgeWave, 0, 1, 1, 2, 0, 1, 256, "streams"⟩,
  ⟨.X0705, 0x58, 0x0705, "waves_in_flight", .u8, .rw, 1, .edgeWave, 0, 1, 1, 1, 0, 1, 4, "waves per replica"⟩,
  ⟨.X0706, 0x58, 0x0706, "waves_dispatched", .u64, .ro, 1, .live, 0, 1, 1, 8, 0, 0, 18446744073709551615, "waves"⟩,
  ⟨.X0707, 0x58, 0x0707, "wave_aborts", .u64, .ro, 0, .live, 0, 1, 1, 8, 0, 0, 18446744073709551615, "waves"⟩]

/-- Rows 60 to 71 of the dictionary. -/
def objRows5 : List ObjRow := [
  ⟨.X0708, 0x58, 0x0708, "mirror_mode", .enum, .rw, 1, .halt, 0, 1, 1, 2, 0, 0, 1, ""⟩,
  ⟨.X0709, 0x58, 0x0709, "attn_merge_deadline", .u32, .rw, 1, .edgeWave, 0, 1, 1, 4, 100, 10, 409, "µs"⟩,
  ⟨.X070A, 0x58, 0x070A, "mirror_wait", .u32, .rw, 1, .live, 0, 1, 1, 4, 100, 10, 10000, "µs"⟩,
  ⟨.X070B, 0x58, 0x070B, "tally_stale", .u64, .ro, 1, .live, 0, 1, 1, 8, 0, 0, 18446744073709551615, "posts"⟩,
  ⟨.X070C, 0x58, 0x070C, "latency_critical_max", .u16, .rw, 1, .live, 0, 1, 1, 2, 64, 0, 1024, "streams"⟩,
  ⟨.X070D, 0x58, 0x070D, "kv_own_free", .u32, .ro, 0, .live, 0, 1, 1, 4, 0, 0, 2048, "GiB"⟩,
  ⟨.X070F, 0x58, 0x070F, "admit_hold", .u32, .rw, 1, .live, 0, 1, 1, 4, 10, 1, 600, "s"⟩,
  ⟨.L0800, 0x4C, 0x0800, "lamp_state", .table, .ro, 0, .live, 0, 12, 1, 2, 0, 0, 65535, ""⟩,
  ⟨.L0801, 0x4C, 0x0801, "laser_power", .table, .ro, 1, .live, 0, 420, 1, 4, 0, 0, 4294967295, "dB from commissioning"⟩,
  ⟨.L0802, 0x4C, 0x0802, "laser_bias", .table, .ro, 1, .live, 0, 420, 1, 4, 0, 0, 4294967295, "% of commissioning bias"⟩,
  ⟨.L0803, 0x4C, 0x0803, "reserve_map", .table, .ro, 1, .live, 0, 60, 1, 1, 255, 0, 255, ""⟩,
  ⟨.L0804, 0x4C, 0x0804, "fade_warn", .f32, .rw, 1, .live, 0, 1, 1, 4, 3212836864, 3221225472, 3204448256, "dB"⟩]

/-- Rows 72 to 83 of the dictionary. -/
def objRows6 : List ObjRow := [
  ⟨.L0805, 0x4C, 0x0805, "fade_takeover", .f32, .rw, 1, .live, 0, 1, 1, 4, 3217031168, 3223322624, 3212836864, "dB"⟩,
  ⟨.L0806, 0x4C, 0x0806, "lane_state", .table, .ro, 0, .live, 0, 112, 1, 2, 0, 0, 65535, ""⟩,
  ⟨.L0807, 0x4C, 0x0807, "fec_corrected", .u64, .ro, 1, .live, 0, 112, 1, 8, 0, 0, 18446744073709551615, "symbols"⟩,
  ⟨.L0808, 0x4C, 0x0808, "fec_uncorrected", .u64, .ro, 0, .live, 0, 112, 1, 8, 0, 0, 18446744073709551615, "codewords"⟩,
  ⟨.L0809, 0x4C, 0x0809, "pre_fec_ber", .f32, .ro, 0, .live, 0, 112, 1, 4, 0, 0, 4294967295, ""⟩,
  ⟨.L080A, 0x4C, 0x080A, "commons_pmd", .enum, .rw, 1, .halt, 0, 1, 1, 2, 0, 0, 2, ""⟩,
  ⟨.L080B, 0x4C, 0x080B, "cal_period", .u32, .rw, 1, .live, 0, 1, 1, 4, 1000, 100, 60000, "ms"⟩,
  ⟨.L080C, 0x4C, 0x080C, "cal_rejects", .u64, .ro, 1, .live, 0, 1, 1, 8, 0, 0, 18446744073709551615, "calibrations"⟩,
  ⟨.L080D, 0x4C, 0x080D, "bundle_state", .table, .ro, 1, .live, 0, 1024, 1, 2, 0, 0, 65535, ""⟩,
  ⟨.L080E, 0x4C, 0x080E, "ring_unlocks", .u64, .ro, 1, .live, 0, 1, 1, 8, 0, 0, 18446744073709551615, "events"⟩,
  ⟨.F0900, 0x46, 0x0900, "panel_id", .u16, .rw, 0, .halt, 0, 1, 1, 2, 0, 0, 32767, ""⟩,
  ⟨.F0901, 0x46, 0x0901, "torus_dims", .table, .rw, 0, .halt, 0, 1, 3, 1, 2105376, 1, 32, "panels"⟩]

/-- Rows 84 to 95 of the dictionary. -/
def objRows7 : List ObjRow := [
  ⟨.F0902, 0x46, 0x0902, "link_state", .table, .ro, 0, .live, 0, 24, 1, 2, 0, 0, 65535, ""⟩,
  ⟨.F0903, 0x46, 0x0903, "link_width", .table, .ro, 1, .live, 0, 24, 1, 1, 0, 0, 255, "lanes"⟩,
  ⟨.F0904, 0x46, 0x0904, "ethertype", .u16, .rw, 1, .halt, 0, 1, 1, 2, 34997, 1536, 65535, ""⟩,
  ⟨.F0905, 0x46, 0x0905, "udp_port", .u16, .rw, 1, .halt, 0, 1, 1, 2, 47620, 1024, 65535, ""⟩,
  ⟨.F0906, 0x46, 0x0906, "commons_addr", .table, .rw, 0, .halt, 0, 1, 4, 16, 0, 0, 340282366920938463463374607431768211455, ""⟩,
  ⟨.F0907, 0x46, 0x0907, "pcp_map", .table, .rw, 1, .edgeFrame, 0, 1, 4, 1, 16909318, 0, 7, ""⟩,
  ⟨.F0908, 0x46, 0x0908, "dscp_map", .table, .rw, 1, .edgeFrame, 0, 1, 4, 1, 134879790, 0, 63, ""⟩,
  ⟨.F0909, 0x46, 0x0909, "ecn_threshold", .u32, .rw, 1, .live, 0, 1, 1, 4, 64, 16, 256, "KiB"⟩,
  ⟨.F090A, 0x46, 0x090A, "deflect_threshold", .u32, .rw, 1, .live, 0, 1, 1, 4, 256, 64, 448, "KiB"⟩,
  ⟨.F090B, 0x46, 0x090B, "rate_params", .table, .rw, 1, .edgeFrame, 0, 1, 7, 4, 6277101747078693863844142238105462182266552688660598226954, 0, 4294967295, ""⟩,
  ⟨.F090C, 0x46, 0x090C, "remote_read_timeout", .u32, .rw, 1, .live, 0, 1, 1, 4, 50, 5, 500, "µs"⟩,
  ⟨.F090D, 0x46, 0x090D, "channels_open", .u32, .ro, 0, .live, 0, 4, 1, 4, 0, 0, 4294967295, "channels"⟩]

/-- Rows 96 to 107 of the dictionary. -/
def objRows8 : List ObjRow := [
  ⟨.F090E, 0x46, 0x090E, "retransmits", .u64, .ro, 0, .live, 0, 4, 1, 8, 0, 0, 18446744073709551615, "packets"⟩,
  ⟨.F090F, 0x46, 0x090F, "channel_cache_misses", .u64, .ro, 1, .live, 0, 4, 1, 8, 0, 0, 18446744073709551615, "misses"⟩,
  ⟨.F0910, 0x46, 0x0910, "commons_vid", .u16, .rw, 1, .halt, 0, 1, 1, 2, 0, 0, 4094, ""⟩,
  ⟨.F0911, 0x46, 0x0911, "a_conditions", .bitset, .ro, 0, .live, 0, 24, 1, 1, 0, 0, 255, ""⟩,
  ⟨.F0912, 0x46, 0x0912, "a_demoted", .u64, .ro, 0, .live, 0, 24, 1, 8, 0, 0, 18446744073709551615, "packets"⟩,
  ⟨.F0913, 0x46, 0x0913, "hop_drops", .u64, .ro, 0, .live, 0, 4, 1, 8, 0, 0, 18446744073709551615, "packets"⟩,
  ⟨.F0914, 0x46, 0x0914, "queue_drops", .u64, .ro, 0, .live, 0, 4, 1, 8, 0, 0, 18446744073709551615, "packets"⟩,
  ⟨.F0915, 0x46, 0x0915, "frames_discarded", .u64, .ro, 1, .live, 0, 4, 1, 8, 0, 0, 18446744073709551615, "frames"⟩,
  ⟨.F0916, 0x46, 0x0916, "host_prefixes", .table, .rw, 1, .halt, 0, 1, 16, 32, 0, 0, 115792089237316195423570985008687907853269984665640564039457584007913129639935, ""⟩,
  ⟨.F0917, 0x46, 0x0917, "a_late_limit", .u32, .rw, 1, .live, 0, 1, 1, 4, 20, 2, 1000, "µs"⟩,
  ⟨.D0A00, 0x44, 0x0A00, "mover_state", .table, .ro, 1, .live, 0, 128, 32, 2, 0, 0, 65535, ""⟩,
  ⟨.D0A01, 0x44, 0x0A01, "mover_stops", .u64, .ro, 0, .live, 0, 128, 1, 8, 0, 0, 18446744073709551615, "stops"⟩]

/-- Rows 108 to 119 of the dictionary. -/
def objRows9 : List ObjRow := [
  ⟨.D0A02, 0x44, 0x0A02, "mover_units", .u64, .ro, 1, .live, 0, 128, 1, 8, 0, 0, 18446744073709551615, "32-B units written"⟩,
  ⟨.D0A03, 0x44, 0x0A03, "pace_marks", .table, .rw, 1, .live, 0, 128, 2, 1, 3076, 1, 15, "KiB"⟩,
  ⟨.D0A04, 0x44, 0x0A04, "write_response_timeout", .u32, .rw, 1, .live, 0, 128, 1, 4, 100, 10, 10000, "µs"⟩,
  ⟨.D0A05, 0x44, 0x0A05, "mover_resume", .u8, .cmd, 1, .live, 0, 1, 1, 1, 0, 0, 111, "port"⟩,
  ⟨.D0A06, 0x44, 0x0A06, "desc_errors", .u64, .ro, 1, .live, 0, 128, 1, 8, 0, 0, 18446744073709551615, "descriptors"⟩,
  ⟨.D0A07, 0x44, 0x0A07, "mbox_state", .table, .ro, 1, .live, 0, 192, 1, 2, 0, 0, 65535, ""⟩,
  ⟨.D0A08, 0x44, 0x0A08, "mbox_collisions", .table, .ro, 0, .live, 0, 192, 1, 8, 0, 0, 18446744073709551615, "messages"⟩,
  ⟨.C0B00, 0x43, 0x0B00, "ptp_state", .enum, .ro, 0, .live, 0, 1, 1, 2, 0, 0, 4, ""⟩,
  ⟨.C0B01, 0x43, 0x0B01, "time_now", .u64, .ro, 0, .live, 0, 1, 1, 8, 0, 0, 18446744073709551615, "ns"⟩,
  ⟨.C0B02, 0x43, 0x0B02, "ptp_offset", .s32, .ro, 1, .live, 0, 1, 1, 4, 0, 0, 4294967295, "ns"⟩,
  ⟨.C0B03, 0x43, 0x0B03, "ptp_priority1", .u8, .rw, 1, .live, 0, 1, 1, 1, 128, 0, 255, ""⟩,
  ⟨.C0B04, 0x43, 0x0B04, "ptp_domain", .u8, .rw, 1, .halt, 0, 1, 1, 1, 0, 0, 127, ""⟩]

/-- Rows 120 to 131 of the dictionary. -/
def objRows10 : List ObjRow := [
  ⟨.C0B05, 0x43, 0x0B05, "tile_freq_set", .table, .rw, 0, .edgeFrame, 0, 128, 1, 4, 1800, 400, 1800, "MHz"⟩,
  ⟨.C0B06, 0x43, 0x0B06, "tile_freq_now", .table, .ro, 0, .live, 0, 128, 1, 4, 0, 0, 4294967295, "MHz"⟩,
  ⟨.C0B07, 0x43, 0x0B07, "freq_changes", .u64, .ro, 1, .live, 0, 128, 1, 8, 0, 0, 18446744073709551615, "changes"⟩,
  ⟨.C0B08, 0x43, 0x0B08, "replica_stretch_cycles", .u64, .ro, 1, .live, 0, 128, 1, 8, 0, 0, 18446744073709551615, "cycles"⟩,
  ⟨.C0B09, 0x43, 0x0B09, "field_skew", .table, .ro, 1, .live, 0, 56, 1, 4, 0, 0, 4294967295, "ns"⟩,
  ⟨.C0B0A, 0x43, 0x0B0A, "link_asymmetry", .table, .rw, 1, .live, 0, 24, 1, 2, 0, 0, 65535, "ps"⟩,
  ⟨.C0B0B, 0x43, 0x0B0B, "ref_state", .bitset, .ro, 0, .live, 0, 1, 1, 1, 0, 0, 255, ""⟩,
  ⟨.P0C00, 0x50, 0x0C00, "input_voltage", .f32, .ro, 0, .live, 0, 1, 1, 4, 0, 0, 80, "V"⟩,
  ⟨.P0C01, 0x50, 0x0C01, "input_current", .f32, .ro, 0, .live, 0, 1, 1, 4, 0, 0, 500, "A"⟩,
  ⟨.P0C02, 0x50, 0x0C02, "input_power", .f32, .ro, 0, .live, 0, 1, 1, 4, 0, 0, 4294967295, "W"⟩,
  ⟨.P0C03, 0x50, 0x0C03, "power_cap", .u32, .rw, 0, .live, 0, 1, 1, 4, 16500, 2000, 16500, "W"⟩,
  ⟨.P0C04, 0x50, 0x0C04, "zone_cap", .table, .rw, 1, .live, 0, 15, 1, 4, 0, 100, 5191, "W"⟩]

/-- Rows 132 to 143 of the dictionary. -/
def objRows11 : List ObjRow := [
  ⟨.P0C05, 0x50, 0x0C05, "zone_power", .table, .ro, 1, .live, 0, 15, 1, 4, 0, 0, 4294967295, "W"⟩,
  ⟨.P0C06, 0x50, 0x0C06, "zone_state", .table, .ro, 0, .live, 0, 16, 1, 2, 0, 0, 65535, ""⟩,
  ⟨.P0C07, 0x50, 0x0C07, "efuse_trips", .table, .ro, 0, .live, 0, 16, 1, 8, 0, 0, 18446744073709551615, "openings"⟩,
  ⟨.P0C08, 0x50, 0x0C08, "efuse_reclose", .u8, .cmd, 2, .live, 0, 1, 1, 1, 0, 0, 15, ""⟩,
  ⟨.P0C09, 0x50, 0x0C09, "power_ceiling", .table, .ro, 1, .live, 0, 128, 1, 4, 1800, 400, 1800, "MHz"⟩,
  ⟨.P0C0A, 0x50, 0x0C0A, "guard_stretch_time", .u64, .ro, 1, .live, 0, 1, 1, 8, 0, 0, 18446744073709551615, "µs"⟩,
  ⟨.P0C0B, 0x50, 0x0C0B, "slew_limit", .u16, .rw, 1, .edgeFrame, 0, 1, 1, 2, 25, 5, 100, "A per µs"⟩,
  ⟨.P0C0C, 0x50, 0x0C0C, "emergency", .bitset, .ro, 0, .live, 0, 1, 1, 1, 0, 0, 255, ""⟩,
  ⟨.P0C0D, 0x50, 0x0C0D, "rail_voltage", .table, .ro, 1, .live, 0, 128, 5, 4, 0, 0, 4294967295, "V"⟩,
  ⟨.T0120, 0x54, 0x0120, "band_now", .table, .ro, 0, .live, 0, 128, 1, 2, 5, 0, 65535, ""⟩,
  ⟨.T0121, 0x54, 0x0121, "temp_max", .table, .ro, 0, .live, 0, 128, 1, 4, 0, 0, 4294967295, "°C"⟩,
  ⟨.T0122, 0x54, 0x0122, "band_thresholds", .table, .rw, 1, .edgeFrame, 0, 1, 4, 1, 1767855430, 50, 105, "°C"⟩]

/-- Rows 144 to 155 of the dictionary. -/
def objRows12 : List ObjRow := [
  ⟨.T0123, 0x54, 0x0123, "freq_ceiling", .table, .rw, 1, .edgeFrame, 0, 1, 2, 2, 65537500, 400, 1800, "MHz"⟩,
  ⟨.T0124, 0x54, 0x0124, "lamp_band", .table, .ro, 0, .live, 0, 12, 1, 2, 5, 0, 65535, ""⟩,
  ⟨.T0125, 0x54, 0x0125, "plane_band", .table, .ro, 0, .live, 0, 8, 1, 2, 5, 0, 65535, ""⟩,
  ⟨.T0126, 0x54, 0x0126, "sensors_broken", .table, .ro, 0, .live, 0, 128, 1, 1, 0, 0, 255, "sensors"⟩,
  ⟨.T0127, 0x54, 0x0127, "coolant_temp", .table, .ro, 0, .live, 0, 1, 2, 4, 0, 0, 4294967295, "°C, coolant"⟩,
  ⟨.T0128, 0x54, 0x0128, "inlet_limit", .u8, .rw, 1, .live, 0, 1, 1, 1, 45, 20, 45, "°C, coolant"⟩,
  ⟨.T0129, 0x54, 0x0129, "zone_off_min", .u32, .rw, 1, .live, 0, 1, 1, 4, 2, 1, 600, "s"⟩,
  ⟨.T012A, 0x54, 0x012A, "heat_offs", .table, .ro, 0, .live, 0, 14, 1, 8, 0, 0, 18446744073709551615, "switch-offs"⟩,
  ⟨.T012B, 0x54, 0x012B, "band_changes", .table, .ro, 1, .live, 0, 128, 1, 8, 0, 0, 18446744073709551615, "changes"⟩,
  ⟨.I0D00, 0x49, 0x0D00, "part_number", .string, .ro, 0, .live, 0, 1, 16, 1, 4049921584113993558, 0, 255, ""⟩,
  ⟨.I0D01, 0x49, 0x0D01, "panel_serial", .string, .ro, 0, .live, 0, 1, 16, 1, 0, 0, 255, ""⟩,
  ⟨.I0D02, 0x49, 0x0D02, "hw_revision", .u16, .ro, 0, .live, 0, 1, 1, 2, 0, 0, 65535, ""⟩]

/-- Rows 156 to 167 of the dictionary. -/
def objRows13 : List ObjRow := [
  ⟨.I0D03, 0x49, 0x0D03, "stack_serials", .table, .ro, 1, .live, 0, 128, 16, 1, 0, 0, 255, ""⟩,
  ⟨.I0D04, 0x49, 0x0D04, "slot_id", .u8, .ro, 0, .live, 0, 1, 1, 1, 0, 0, 31, ""⟩,
  ⟨.I0D05, 0x49, 0x0D05, "life_cycle", .enum, .ro, 0, .live, 0, 1, 1, 2, 0, 0, 4, ""⟩,
  ⟨.I0D06, 0x49, 0x0D06, "asset_tag", .string, .rw, 0, .live, 0, 1, 32, 1, 0, 0, 255, ""⟩,
  ⟨.E0D00, 0x45, 0x0D00, "event_log", .table, .ro, 0, .live, 0, 1, 16384, 48, 0, 0, 39402006196394479212279040100143613805079739270465446667948293404245721771497210611414266254884915640806627990306815, ""⟩,
  ⟨.E0D01, 0x45, 0x0D01, "event_next", .u64, .ro, 0, .live, 0, 1, 1, 8, 0, 0, 18446744073709551615, "index of the next record"⟩,
  ⟨.E0D02, 0x45, 0x0D02, "events_overwritten", .u64, .ro, 1, .live, 0, 1, 1, 8, 0, 0, 18446744073709551615, "records"⟩,
  ⟨.K0D00, 0x4B, 0x0D00, "sessions_open", .u8, .ro, 0, .live, 0, 1, 1, 1, 0, 0, 16, "sessions"⟩,
  ⟨.K0D01, 0x4B, 0x0D01, "session_table", .table, .ro, 1, .live, 0, 1, 16, 64, 0, 0, 13407807929942597099574024998205846127479365820592393377723561443721764030073546976801874298166903427690031858186486050853753882811946569946433649006084095, ""⟩,
  ⟨.K0D02, 0x4B, 0x0D02, "session_idle_limit", .u32, .rw, 1, .live, 0, 1, 1, 4, 30, 5, 3600, "s"⟩,
  ⟨.K0D03, 0x4B, 0x0D03, "requests_discarded", .u64, .ro, 1, .live, 0, 1, 1, 8, 0, 0, 18446744073709551615, "messages"⟩,
  ⟨.K0D04, 0x4B, 0x0D04, "proof_failures", .u64, .ro, 0, .live, 0, 1, 1, 8, 0, 0, 18446744073709551615, "proofs"⟩]

/-- Rows 168 to 179 of the dictionary. -/
def objRows14 : List ObjRow := [
  ⟨.K0D05, 0x4B, 0x0D05, "inband_ledger", .enum, .rw, 1, .live, 0, 1, 1, 2, 0, 0, 1, ""⟩,
  ⟨.K0D10, 0x4B, 0x0D10, "mgmt_addr", .blob, .rs, 1, .group, 1, 1, 16, 1, 1446864703835495333133299621069054, 0, 255, ""⟩,
  ⟨.K0D11, 0x4B, 0x0D11, "mgmt_prefix_len", .u8, .rs, 1, .group, 1, 1, 1, 1, 64, 1, 128, "bits"⟩,
  ⟨.K0D12, 0x4B, 0x0D12, "mgmt_gateway", .blob, .rs, 1, .group, 1, 1, 16, 1, 0, 0, 255, ""⟩,
  ⟨.K0D13, 0x4B, 0x0D13, "ledger_port", .u16, .rs, 1, .group, 1, 1, 1, 2, 47621, 1024, 65535, ""⟩,
  ⟨.K0D18, 0x4B, 0x0D18, "key_basic", .blob, .wo, 1, .group, 2, 1, 48, 1, 0, 0, 255, ""⟩,
  ⟨.K0D19, 0x4B, 0x0D19, "key_expert", .blob, .wo, 1, .group, 2, 1, 48, 1, 0, 0, 255, ""⟩,
  ⟨.K0D1A, 0x4B, 0x0D1A, "key_service", .blob, .wo, 2, .group, 2, 1, 48, 1, 0, 0, 255, ""⟩,
  ⟨.K0D1B, 0x4B, 0x0D1B, "key_ids", .table, .ro, 0, .live, 0, 1, 3, 4, 0, 0, 4294967295, ""⟩,
  ⟨.W0007, 0x57, 0x0007, "interface_version", .u32, .ro, 0, .live, 0, 1, 1, 4, 0, 0, 4294967295, ""⟩,
  ⟨.W0008, 0x57, 0x0008, "held_reason", .enum, .ro, 0, .live, 0, 1, 1, 2, 0, 0, 2, ""⟩,
  ⟨.X070E, 0x58, 0x070E, "serve_start", .u8, .cmd, 0, .live, 0, 1, 1, 1, 0, 1, 1, ""⟩]

/-- Rows 180 to 191 of the dictionary. -/
def objRows15 : List ObjRow := [
  ⟨.W0000, 0x57, 0x0000, "cu_role", .table, .ro, 0, .live, 0, 2, 1, 2, 5, 0, 65535, ""⟩,
  ⟨.W0001, 0x57, 0x0001, "lease_epoch", .u32, .ro, 0, .live, 0, 1, 1, 4, 0, 0, 4294967295, ""⟩,
  ⟨.W0002, 0x57, 0x0002, "lease_holder", .enum, .ro, 0, .live, 0, 1, 1, 2, 2, 0, 2, ""⟩,
  ⟨.W0003, 0x57, 0x0003, "failover_mode", .enum, .rw, 1, .live, 0, 1, 1, 2, 0, 0, 1, ""⟩,
  ⟨.W0004, 0x57, 0x0004, "switchover", .u8, .cmd, 1, .live, 0, 1, 1, 1, 0, 1, 1, ""⟩,
  ⟨.W0005, 0x57, 0x0005, "fw_running", .table, .ro, 0, .live, 0, 2, 1, 4, 0, 0, 4294967295, "firmware version"⟩,
  ⟨.W0006, 0x57, 0x0006, "image_slots", .table, .ro, 1, .live, 0, 4, 416, 1, 0, 0, 255, ""⟩,
  ⟨.W0009, 0x57, 0x0009, "image_buffer", .blob, .rw, 1, .live, 0, 1, 16777216, 1, 0, 0, 255, ""⟩,
  ⟨.W000A, 0x57, 0x000A, "image_verify", .u8, .cmd, 1, .live, 0, 1, 1, 1, 0, 1, 1, ""⟩,
  ⟨.W000B, 0x57, 0x000B, "image_activate", .u8, .cmd, 1, .live, 0, 1, 1, 1, 0, 1, 2, ""⟩,
  ⟨.W000C, 0x57, 0x000C, "update_state", .enum, .ro, 0, .live, 0, 1, 1, 2, 0, 0, 5, ""⟩,
  ⟨.W000D, 0x57, 0x000D, "proc_crashes", .table, .ro, 0, .live, 0, 8, 1, 8, 0, 0, 18446744073709551615, "crashes"⟩]

/-- Rows 192 to 203 of the dictionary. -/
def objRows16 : List ObjRow := [
  ⟨.W000E, 0x57, 0x000E, "compare_mismatches", .u64, .ro, 0, .live, 0, 1, 1, 8, 0, 0, 18446744073709551615, "mismatches"⟩,
  ⟨.W000F, 0x57, 0x000F, "fenced_outputs", .u64, .ro, 1, .live, 0, 1, 1, 8, 0, 0, 18446744073709551615, "outputs"⟩,
  ⟨.W0010, 0x57, 0x0010, "log_ring", .table, .ro, 1, .live, 0, 1, 8192, 64, 0, 0, 13407807929942597099574024998205846127479365820592393377723561443721764030073546976801874298166903427690031858186486050853753882811946569946433649006084095, ""⟩,
  ⟨.W0011, 0x57, 0x0011, "log_level", .enum, .rw, 1, .live, 0, 1, 1, 2, 1, 0, 3, ""⟩,
  ⟨.W0012, 0x57, 0x0012, "trace_enable", .bitset, .rw, 1, .live, 0, 1, 16, 1, 0, 0, 255, ""⟩,
  ⟨.W0013, 0x57, 0x0013, "trace_ring", .table, .ro, 1, .live, 0, 1, 16384, 32, 0, 0, 115792089237316195423570985008687907853269984665640564039457584007913129639935, ""⟩,
  ⟨.W0014, 0x57, 0x0014, "trace_dropped", .u64, .ro, 1, .live, 0, 1, 1, 8, 0, 0, 18446744073709551615, "records"⟩,
  ⟨.W0015, 0x57, 0x0015, "blackbox_live", .table, .ro, 1, .live, 0, 1, 4096, 64, 0, 0, 13407807929942597099574024998205846127479365820592393377723561443721764030073546976801874298166903427690031858186486050853753882811946569946433649006084095, ""⟩,
  ⟨.W0016, 0x57, 0x0016, "blackbox_flash", .table, .ro, 1, .live, 0, 1, 32768, 64, 0, 0, 13407807929942597099574024998205846127479365820592393377723561443721764030073546976801874298166903427690031858186486050853753882811946569946433649006084095, ""⟩,
  ⟨.W0017, 0x57, 0x0017, "blackbox_flush", .u8, .cmd, 1, .live, 0, 1, 1, 1, 0, 1, 1, ""⟩,
  ⟨.W0018, 0x57, 0x0018, "resync_time", .u32, .ro, 1, .live, 0, 1, 1, 4, 0, 0, 500, "ms"⟩,
  ⟨.X0F00, 0x58, 0x0F00, "levy_cap", .u8, .rw, 1, .live, 0, 1, 1, 1, 2, 1, 5, "%"⟩]

/-- Rows 204 to 215 of the dictionary. -/
def objRows17 : List ObjRow := [
  ⟨.X0F01, 0x58, 0x0F01, "stack_site", .table, .ro, 0, .live, 0, 96, 1, 1, 255, 0, 255, ""⟩,
  ⟨.X0F02, 0x58, 0x0F02, "spare_pool", .table, .ro, 0, .live, 0, 8, 1, 2, 0, 0, 65535, ""⟩,
  ⟨.X0F03, 0x58, 0x0F03, "recovery_state", .table, .ro, 0, .live, 0, 2, 1, 2, 0, 0, 65535, ""⟩,
  ⟨.X0F04, 0x58, 0x0F04, "refill_rate", .u16, .rw, 1, .live, 0, 1, 1, 2, 100, 40, 400, "GB/s"⟩,
  ⟨.X0F05, 0x58, 0x0F05, "remirror_rate", .u16, .rw, 1, .live, 0, 1, 1, 2, 20, 1, 100, "GB/s"⟩,
  ⟨.X0F06, 0x58, 0x0F06, "lost_panels", .table, .ro, 0, .live, 0, 1, 16, 4, 0, 0, 4294967295, ""⟩,
  ⟨.X0F07, 0x58, 0x0F07, "streams_unmirrored", .u32, .ro, 0, .live, 0, 1, 1, 4, 0, 0, 4294967295, "streams"⟩,
  ⟨.X0F08, 0x58, 0x0F08, "recoveries", .u64, .ro, 0, .live, 0, 1, 1, 8, 0, 0, 18446744073709551615, "promotions"⟩,
  ⟨.X0F09, 0x58, 0x0F09, "levy_use", .table, .ro, 1, .live, 0, 1, 5, 4, 0, 0, 4294967295, "%"⟩,
  ⟨.X0F0A, 0x58, 0x0F0A, "stack_out", .u8, .cmd, 2, .live, 0, 1, 1, 1, 0, 0, 95, "logical stack"⟩,
  ⟨.K0E00, 0x4B, 0x0E00, "startup_stage", .enum, .ro, 0, .live, 0, 1, 1, 2, 0, 0, 12, ""⟩,
  ⟨.K0E01, 0x4B, 0x0E01, "startup_times", .table, .ro, 1, .live, 0, 1, 12, 4, 0, 0, 4294967295, "ms"⟩]

/-- Rows 216 to 221 of the dictionary. -/
def objRows18 : List ObjRow := [
  ⟨.K0E02, 0x4B, 0x0E02, "life_cycle_cmd", .enum, .cmd, 1, .live, 0, 1, 1, 2, 0, 0, 4, ""⟩,
  ⟨.K0E03, 0x4B, 0x0E03, "wipe_state", .enum, .ro, 0, .live, 0, 1, 1, 2, 0, 0, 2, ""⟩,
  ⟨.K0E04, 0x4B, 0x0E04, "zone_reset", .u8, .cmd, 2, .live, 0, 1, 1, 1, 0, 0, 13, ""⟩,
  ⟨.K0E05, 0x4B, 0x0E05, "identity", .table, .ro, 1, .live, 0, 128, 36, 1, 0, 0, 255, ""⟩,
  ⟨.K0E06, 0x4B, 0x0E06, "identity_faults", .bitset, .ro, 0, .live, 0, 1, 16, 1, 0, 0, 255, ""⟩,
  ⟨.K0E07, 0x4B, 0x0E07, "min_security_version", .u32, .ro, 0, .live, 0, 1, 1, 4, 0, 0, 4294967295, ""⟩]

/-- The dictionary: its rows stand in the order of the constructors of Obj (R312). -/
def objTable : List ObjRow :=
  objRows0 ++ objRows1 ++ objRows2 ++ objRows3 ++ objRows4 ++ objRows5 ++ objRows6 ++ objRows7 ++ objRows8 ++ objRows9 ++ objRows10 ++ objRows11 ++ objRows12 ++ objRows13 ++ objRows14 ++ objRows15 ++ objRows16 ++ objRows17 ++ objRows18

/-- The dictionary row of an object (R312). -/
def objRow (o : Obj) : ObjRow := objTable.getD o.ctorIdx default

/-- Every object, in the order of the chapters. -/
def allObjs : List Obj := objTable.map (fun r => r.obj)


end Sys2Proof.Machine
end

