-- ==== Sys2Proof/Machine/Store.lean ====
section
/-!
DEFINITION. The two stores of the state: association lists with a default, and byte memory in one canonical form.
-/

namespace Sys2Proof.Machine

/-- A finite map: keys and values. An unlisted key reads as the default the reader names. -/
abbrev AMap (κ α : Type) := List (κ × α)

/-- The value at a key, or the default `d`. -/
def mapGet {κ α : Type} [DecidableEq κ] (d : α) : AMap κ α → κ → α
  | [], _ => d
  | (k', v) :: r, k => if k' = k then v else mapGet d r k

/-- Put a value at a key. -/
def mapSet {κ α : Type} [DecidableEq κ] : AMap κ α → κ → α → AMap κ α
  | [], k, v => [(k, v)]
  | (k', v') :: r, k, v => if k' = k then (k, v) :: r else (k', v') :: mapSet r k v

/-- Drop a key. -/
def mapDel {κ α : Type} [DecidableEq κ] : AMap κ α → κ → AMap κ α
  | [], _ => []
  | (k', v') :: r, k => if k' = k then mapDel r k else (k', v') :: mapDel r k

/-- The keys that are listed. -/
def mapKeys {κ α : Type} (m : AMap κ α) : List κ := m.map (fun p => p.1)

/-- Byte memory: addresses strictly rising, no entry 0 (an unlisted byte reads 0; log 4). -/
abbrev Memory := List (Nat × BitVec 8)

/-- The canonical form. -/
def memOk : Memory → Bool
  | [] => true
  | [(_, b)] => b != 0
  | (a, b) :: (a', b') :: r => b != 0 && decide (a < a') && memOk ((a', b') :: r)

abbrev Memory.wf (m : Memory) : Prop := memOk m = true

/-- One byte. -/
def memByte : Memory → Nat → BitVec 8
  | [], _ => 0
  | (a', b) :: r, a => if a' = a then b else memByte r a

/-- Write one byte; a zero is not listed. -/
def memPut : Memory → Nat → BitVec 8 → Memory
  | [], a, b => if b = 0 then [] else [(a, b)]
  | (a', b') :: r, a, b =>
    if a < a' then (if b = 0 then (a', b') :: r else (a, b) :: (a', b') :: r)
    else if a' = a then (if b = 0 then r else (a, b) :: r)
    else (a', b') :: memPut r a b

/-- Remove every byte of the addresses from `lo` up to but not including `hi`: they read 0. -/
def memClear (m : Memory) (lo hi : Nat) : Memory :=
  m.filter (fun p => decide (p.1 < lo) || decide (hi ≤ p.1))

/-- Little-endian number of `n` bytes at `a` (R3). -/
def memNum (m : Memory) (a : Nat) : Nat → Nat
  | 0 => 0
  | n + 1 => (memByte m a).toNat + 256 * memNum m (a + 1) n

/-- Write the low `n` bytes of a number, little-endian (R3). -/
def memPutNum (m : Memory) (a : Nat) : Nat → Nat → Memory
  | 0, _ => m
  | n + 1, v => memPutNum (memPut m a (BitVec.ofNat 8 v)) (a + 1) n (v / 256)

end Sys2Proof.Machine
end

