-- ==== Sys2Proof/Machine/State.lean ====
section
/-!
DEFINITION. The state of the panel as plain data: every piece of state the spec names, its value at reset, and the reasons
a step can stop. A unit that is not listed in its map stands at its reset value.
-/

namespace Sys2Proof.Machine

/-! ### The tile (chapter 3) -/

/-- The queues and holders a step's scoreboard entry belongs to (R65). -/
inductive Owner
  | matrix | vector | furrow | receive | headgate | merge | tag (n : Nat)
deriving DecidableEq, Repr, Inhabited

/-- A run of 32-B units of the tile store. -/
structure Region where
  base : Nat
  len : Nat
deriving DecidableEq, Repr, Inhabited

/-- A scoreboard entry: the regions of one issued step that has not completed (R65). -/
structure SbEntry where
  owner : Owner
  reads : List Region
  writes : List Region
deriving DecidableEq, Repr, Inhabited

/-- A step in a unit's queue: its word, its effective addresses (A, B or rows, C, lib; X, Y, Z, D; or S) in 32-B units,
the tile cycle from which it can start, and its index in the step list. -/
structure Job where
  word : StepWord
  ea : List Nat
  start : Nat
  index : Nat
deriving DecidableEq, Repr, Inhabited

/-- Bank power states (Table 3.15). -/
inductive BankSt
  | on | retention | off
deriving DecidableEq, Repr, Inhabited

/-- A power-state change of a bank (R72): `doneAt` once its time to enter or to on runs, the time at which it ends;
`next` the request that follows it. -/
structure BankChange where
  target : BankSt
  doneAt : Option Nat
  next : Option BankSt
deriving DecidableEq, Repr, Inhabited

structure Bank where
  st : BankSt
  change : Option BankChange
deriving DecidableEq, Repr, Inhabited

/-- What blocks issue (R49): a WAIT on a tag mask, a FENCE, a furrow receive, a tally wait (counter, target and
timeout in ns of the time counter, none when only the watchdog limits it). -/
inductive Block
  | wait (mask : Nat)
  | fence
  | recv
  | tally (ctr target : Nat) (deadline : Option Nat)
deriving DecidableEq, Repr, Inhabited

/-- A loop in progress (R64): the body is steps `start` to `stop - 1`; `left` iterations remain after this one. -/
structure LoopFrame where
  start : Nat
  stop : Nat
  left : Nat
  adv : Nat
deriving DecidableEq, Repr, Inhabited

/-- A tag (R51). -/
inductive TagSt
  | free | busy | done (c : Code)
deriving DecidableEq, Repr, Inhabited

/-- The asynchronous operation behind a busy tag; `first`: when the first access of a load or store is served (R94, R95), `denied`: B4 has
refused it (R107); `codes` are the codes of its parts so far, `fin` its outcome
once another unit has settled it. -/
inductive AsyncOp
  | load (s vaddr len first : Nat) (denied : Bool)
  | store (s vaddr len first : Nat) (denied : Bool)
  | bid (plane dst : Nat) (cls : Cls) (slots staged : Nat) (codes : List Code)
  | merge (ticket : Nat) (fin : Option Code)
  | sieve (w : StepWord) (q list index pass : Nat)
deriving DecidableEq, Repr, Inhabited

/-- A furrow beat with the fields a receive compares (R62). -/
structure Beat where
  src : Nat
  flow : Nat
  len : Nat
  data : BeatData
deriving DecidableEq, Repr, Inhabited

/-- A pending furrow receive (R62): `got` beats written; `deadline` in tile cycles. -/
structure Recv where
  src : Nat
  flow : Nat
  len : Nat
  vc : Bool
  base : Nat
  got : Nat
  deadline : Option Nat
deriving DecidableEq, Repr, Inhabited

/-- The trap record of Table 3.14. -/
structure TrapRec where
  code : Nat
  cls : Nat
  op : Nat
  tile : Nat
  stack : Nat
  index : Nat
  wave : Nat
  time : Nat
  detailA : Nat
  cycles : Nat
deriving DecidableEq, Repr, Inhabited

/-- One of IX1 to IX7 (R53): 17-bit value, 18-bit signed stride. -/
structure IxReg where
  val : Nat
  stride : Int
deriving DecidableEq, Repr, Inhabited

/-- A write held at port B for a waking bank (R72). -/
structure HeldWrite where
  addr : Nat
  data : List Cell32
deriving DecidableEq, Repr, Inhabited

/-- A wait at issue (R65, R67): cause of Table 3.17, the tile cycle from which that cause holds, the tile cycle and the
time when the wait began, and the class, op and index of the step that waits. -/
structure IssueWait where
  cause : Nat
  since : Nat
  cycle : Nat
  ns : Nat
  cls : Nat
  op : Nat
  index : Nat
deriving DecidableEq, Repr, Inhabited

/-- A wave dispatched to a tile (R50, R162): what the tile loads before the wave's first issue. -/
structure Run where
  wave : Nat
  slot : Nat
  waveType : Nat
  listLen : Nat
  sat : Bool
  seed : BitVec 32
  wp : List (BitVec 32)
  latency : Bool
deriving DecidableEq, Repr, Inhabited

structure Tile where
  /-- the tile runs a wave: from its first issue until END, an abort or a trap handled -/
  running : Bool
  stopped : Bool
  trapped : Bool
  wave : Nat
  slot : Nat
  waveType : Nat
  /-- fp_saturate and the class of scls = 1 bids for the wave it runs (R28, R14) -/
  sat : Bool
  latency : Bool
  /-- waves dispatched and not yet begun; wave numbers for which END was issued -/
  waiting : List Run
  ended : List Nat
  pc : Nat
  listLen : Nat
  /-- the half of the list that runs, and whether the next half is in the buffer (R48) -/
  half : Nat
  halfReady : Bool
  issued : Bool
  firstCycle : Nat
  lastIssue : Nat
  ix : AMap Nat IxReg
  wp : AMap Nat (BitVec 32)
  loops : List LoopFrame
  block : Option Block
  wait : Option IssueWait
  /-- the tile cycle in which the last block of issue ended -/
  blockEnd : Nat
  sb : List SbEntry
  mq : List Job
  vq : List Job
  fq : List Job
  tags : AMap Nat TagSt
  async : AMap Nat AsyncOp
  bulk : List Beat
  prio : List Beat
  recv : Option Recv
  bucket : Nat
  rng : BitVec 32
  banks : AMap Nat Bank
  held : List HeldWrite
  testLock : Option Nat
  testNext : Nat
  testTime : Nat
  testPasses : Nat
  spares : AMap Nat Nat
  traps : List TrapRec
  /-- issues of each sieve step in this wave, by step index (R172) -/
  sievePass : AMap Nat Nat
  window : Nat
  conflicts : Nat
  /-- tile cycle of the bucket's last refill, or of the draw that found it full; the cycle from which a trap record has waited for a
  beat (R81) -/
  refillAt : Nat := 0
  recWait : Option Nat := none
  /-- the check period that runs: the tile cycle in which it began, and from when to when each step that has left the matrix unit since
  kept it busy (R111) -/
  periodAt : Nat := 0
  busyIv : List (Nat × Nat) := []
deriving DecidableEq, Repr

/-- A tile at reset: idle, its bucket full (R81), its banks on. -/
def Tile.reset : Tile :=
  { running := false, stopped := false, trapped := false, wave := 0, slot := 0, waveType := 0, sat := true,
    latency := false, waiting := [], ended := [], pc := 0, listLen := 0, half := 0, halfReady := true, issued := false, firstCycle := 0, lastIssue := 0, ix := [], wp := [], loops := [], block := none,
    wait := none, blockEnd := 0, sb := [], mq := [], vq := [], fq := [], tags := [], async := [], bulk := [], prio := [],
    recv := none, bucket := 4, rng := 0, banks := [], held := [], testLock := none, testNext := 0, testTime := 0,
    testPasses := 0, spares := [], traps := [], sievePass := [], window := 0,
    conflicts := 0 }

/-! ### The die (chapters 4, 7, 11) -/

/-- A beat on the mesh toward a tile (R76 to R80): its channel and rill, the tile cycle in which its reading began, and where it stands:
in the input buffer of switch `here` on the side of `came` (itself for the tile's own input) from cycle `since` on (none before its
source has handed it to the switch), with the switches still before it; `out` is the cycle in which it left the last switch for the
tile. -/
structure MeshBeat where
  dst : Nat
  vc : Bool
  rill : Nat
  sentAt : Nat
  beat : Beat
  here : Nat
  came : Nat
  path : List Nat
  since : Option Nat
  out : Option Nat
deriving DecidableEq, Repr, Inhabited

/-- A frequency change in progress (R278): target in MHz, frame F once it is named, and where it stands. -/
structure FreqChange where
  target : Nat
  frame : Option Nat
  gated : Bool
  restarted : Bool
  /-- a request made after frame F began (R280) -/
  later : Option Nat
deriving DecidableEq, Repr, Inhabited

structure Site where
  powered : Bool
  /-- the stack can present 48 logical tiles (R85) and has not failed -/
  usable : Bool
  cycles : Nat
  gated : Bool
  freq : Option FreqChange
  /-- VCORE moves to a voltage (mV) until a time (R294) -/
  rampTo : Option (Nat × Nat)
  stretchSince : Option Nat
  slowAt : Option Nat
  mesh : List MeshBeat
  attach : AMap Nat Nat
  reported : List Nat
  tally : AMap Nat Nat
  slotWave : AMap Nat (Option Nat)
  /-- sieve steps in order of arrival: (tile, tag) (R173) -/
  sieveQ : List (Nat × Nat)
  /-- physical tiles that the next recovery maps out (R87) -/
  mapOut : List Nat
  /-- mapped-out tiles in force (R85) -/
  out : List Nat := []
  /-- the input that each output of a switch served last on the priority channel (R81), by (64 × switch + next) × 64 + rill -/
  prioTurn : AMap Nat Nat := []
  /-- the tile cycle of the last refill of each attachment point's bucket (R81) -/
  attachAt : AMap Nat Nat := []
  /-- the PLL that drives the clock: 0 A, 1 B (R277) -/
  pll : Nat := 0
  /-- replica paths, as (tile, path), whose margin is below 2 steps (R281) -/
  lowPaths : List (Nat × Nat) := []
  liveAt : Nat
  silent : Bool
  stopped : Bool
  trapWave : Option Nat
  tripped : Bool
  /-- reports that wait for room in the control unit's mailbox (R69, R359) -/
  reports : List (BitVec 448)
  /-- when its sensors' band put it out of service, the site returns only through a retest (R374) -/
  retest : Bool
deriving DecidableEq, Repr, Inhabited

/-- A site at reset: unpowered; its attachment points' buckets are full (16, R81). -/
def Site.reset : Site :=
  { powered := false, usable := true, cycles := 0, gated := false, freq := none, rampTo := none, stretchSince := none,
    slowAt := none, mesh := [], attach := [], reported := [], tally := [], slotWave := [], sieveQ := [], mapOut := [], liveAt := 0, silent := false,
    stopped := false, trapWave := none, tripped := false, reports := [], retest := false }

/-! ### The stacked memory (chapter 5) -/

structure VaultCol where
  powered : Bool
  clearing : Bool
  /-- when the clear to zero ends (R92) -/
  clearAt : Nat
  usable : Bool
  /-- refresh commands owed, by 16 × layer + bank, as of `owedAt` (R105) -/
  owed : AMap Nat Nat
  owedAt : Nat
  queue : List RemoteReq
  held : List RemoteReq
  poisonQ : List Nat
  scrubAt : Nat
  scrubStart : Nat
  /-- duration of its last complete pass, s -/
  lastPass : Nat
  /-- tap and passing run of each receiver, by 2 × layer + direction (R97) -/
  taps : AMap Nat (Nat × Nat)
  /-- when the next scrub pass may begin (R103) -/
  scrubNext : Nat := 0
  /-- units of the remote request at the head of the queue that have been served, and the remote group whose cycle served last (R99) -/
  acc : List Cell32 := []
  group : Option Nat := none
  /-- until when a refresh command keeps a bank busy (16 × layer + bank), and a retrim chunk a layer (R95) -/
  busy : AMap Nat Nat := []
  layerBusy : AMap Nat Nat := []
  /-- each layer's last retrim, and the layers that a band change asks to be retrimmed (R98) -/
  retrimAt : AMap Nat Nat := []
  retrimWant : List Nat := []
  /-- the tag whose load data waits for the tile clock, and the first units of it (R96) -/
  buf : Option (Nat × List Cell32) := none
deriving DecidableEq, Repr, Inhabited

def VaultCol.reset : VaultCol :=
  { powered := false, clearing := false, clearAt := 0, usable := true, owed := [], owedAt := 0, queue := [], held := [],
    poisonQ := [], scrubAt := 0, scrubStart := 0, lastPass := 0, taps := [] }

/-- The corrected-symbol witness of a layer (R114): the last clear windows, and the runs of set and clear windows. -/
structure Layer where
  windows : List Nat
  set : Bool
  setRun : Nat
  clearRun : Nat
  /-- symbols corrected in the window that runs, and since when it runs -/
  now : Nat := 0
  since : Nat := 0
deriving DecidableEq, Repr, Inhabited

/-! ### The photonic base (chapter 6) -/

/-- Who sends a slot. -/
inductive Sender
  | tile (t : Nat) | mover (c : Nat) | reads | relay
  /-- a PMA stream between the I/O dies of a DR8 port (R195) -/
  | pma
  /-- a tally post (R420), by its number -/
  | post (n : Nat)
deriving DecidableEq, Repr, Inhabited

/-- A bid (R125): destination, class, slots still to grant, who asked, the tag (or channel), and the index of the next
slot; `retry` for the grant of a lost slot. -/
structure Bid where
  dst : Nat
  cls : Cls
  slots : Nat
  sender : Sender
  tag : Nat
  sidx : Nat
  retry : Bool
  /-- its tag has ended with ABORTED (R63, R70) -/
  gone : Bool := false
  /-- when it reached its headgate (R125) -/
  at' : Nat := 0
deriving DecidableEq, Repr, Inhabited

/-- A slot: the header of Table 6.2 and its payload (R122, R123). -/
structure Slot where
  src : Nat
  dst : Nat
  cls : Cls
  retry : Bool
  kind : Nat
  ttile : Nat
  taddr : Nat
  len : Nat
  tag : Nat
  sender : Sender
  sidx : Nat
  rid : Nat
  reply : Bool
  code : Nat
  slotno : Nat
  payload : List Cell32
  gone : Bool := false
  /-- slot in which the market accepted its bid (R127) -/
  since : Nat := 0
  /-- a mover's piece on its way to a channel of another I/O die (R256) -/
  relay : Option (Nat × Packet) := none
deriving DecidableEq, Repr, Inhabited

structure Gate where
  bids : List Bid
  staging : List Slot
  recv : List Slot
  /-- slot number from which its class A policer holds a token (R131) -/
  refillAt : Nat
  /-- slot in which it sent its last bid word (R125) -/
  wordSlot : Option Nat
  /-- the payloads that left the receive buffer last: their slots, and when they left it (R124) -/
  freed : List (Nat × Nat) := []
  /-- read replies staged here, which tells them apart (the model's own) -/
  serial : Nat := 0
deriving DecidableEq, Repr, Inhabited

/-- A headgate at reset: empty, its class A bucket full (R131). -/
def Gate.reset : Gate := { bids := [], staging := [], recv := [], refillAt := 0, wordSlot := none }

/-- A grant of one stall (R125): the source, the bid it answers and the slot it names. -/
structure Grant where
  src : Nat
  bid : Bid
  slot : Nat
  /-- slot in which the market accepted the bid -/
  since : Nat := 0
deriving DecidableEq, Repr, Inhabited

/-- A bid in a market's table with its source port. -/
structure TableBid where
  src : Nat
  bid : Bid
  /-- slot at which the market accepted it (B.0608) -/
  since : Nat
deriving DecidableEq, Repr, Inhabited

structure Market where
  arriving : List TableBid
  table : List TableBid
  grants : List Grant
  flying : List Slot
  lost : List Slot
  /-- slot number from which each port's class A destination policer holds a token (R131) -/
  dstRefill : AMap Nat Nat
  credit : AMap Nat (Nat × Nat × Nat)
  pointer : AMap Nat Nat
  /-- ports withheld, each in slots from the first to before the second (R132, R149, R278) -/
  withheld : AMap Nat (Nat × Nat)
  lastMatch : Option Nat
  /-- time of each port's last SLOT_LOST and losses since (R136) -/
  lostEvent : AMap Nat (Nat × Nat)
  /-- retries that the market grants without a new bid, oldest first (R136) -/
  retries : List TableBid := []
  /-- sluice settings by slot: the 13 stages, bit k of a stage set where its sluice k stands in cross (R119, R128) -/
  settings : List (Nat × List Nat) := []
  /-- frame of the stall that the last path test of each port withheld (R132) -/
  testedAt : AMap Nat Nat := []
  /-- frame from which the bids of a retired plane go to its partner (R148) -/
  retiredAt : Nat := 0
deriving DecidableEq, Repr, Inhabited

/-- An open (or reserved) merge ticket (R141) with its contributions; `fin` once the result is written. -/
structure Ticket where
  ticket : Nat
  tile : Nat
  tag : Nat
  expected : Nat
  op : Nat
  res : Nat
  flits : Nat
  deadline : Nat
  sat : Bool
  contribs : List (List Cell32)
  /-- worst code a forwarded contribution carried (R225) -/
  worst : Code
  fin : Option Code
  /-- of a transit ticket: the stream whose partials it merges, which of its tickets it is, and the panel that its result goes to (R165) -/
  owner : Nat := 0
  part : Nat := 0
  next : Nat := 0
deriving DecidableEq, Repr, Inhabited

/-- An open step on its way to the station (R141). -/
structure OpenReq where
  ticket : Ticket
  port : Nat
  dl : Nat
deriving DecidableEq, Repr, Inhabited

structure Station where
  opens : List OpenReq
  tickets : List Ticket
deriving DecidableEq, Repr, Inhabited

/-- A read record of Table 6.6 that a controller or I/O die holds (R139). -/
structure ReadRec where
  space : Nat
  ttile : Nat
  addr : Nat
  len : Nat
  rport : Nat
  rkind : Nat
  rtile : Nat
  raddr : Nat
  cls : Cls
  rid : Nat
deriving DecidableEq, Repr, Inhabited

/-- A read that a remote-access controller answers (R139): the port it was addressed to, its record, whether it has joined a vault
controller's remote queue, and what that controller gave. -/
structure ReadJob where
  port : Nat
  record : ReadRec
  sent : Bool
  answer : Option (Code × List Cell32)
deriving DecidableEq, Repr, Inhabited

/-- A line of a field's remote-line area (R241). -/
structure RLine where
  gaddr : Nat
  data : List Cell32
deriving DecidableEq, Repr, Inhabited

structure Field where
  /-- write queue of the remote-access controller, by site (R139) -/
  writeQ : List Slot
  /-- reads, oldest first -/
  reads : List ReadJob
  lines : List RLine
  epoch : BitVec 32
  scrubAt : Nat
deriving DecidableEq, Repr, Inhabited

/-! ### Lamps and lanes (chapter 8) -/

/-- Where a tree takes a wavelength from (R188, R203 to R207). -/
inductive LightSrc
  | own | reserve | carry | dark
deriving DecidableEq, Repr, Inhabited

/-- A laser (R189, R202, R203): its last reading in thousandths of a dB from its commissioning value, the readings of the
last 100 ms, its bias in hundredths of a percent of the commissioning bias, and whether it has been warned of; `armed` when the
reserve of its wavelength has been armed for it. -/
structure Laser where
  power : Int
  recent : List Int
  bias : Nat
  warned : Bool
  armed : Bool
deriving DecidableEq, Repr, Inhabited

def Laser.reset : Laser := { power := 0, recent := [], bias := 10000, warned := false, armed := false }

/-- A calibrated value (R199, R200): it moves from the value in force at `at` toward the accepted one. Both are twice the
value, so that the mean of two measurements is exact. -/
structure CalVal where
  from2 : Int
  target2 : Int
  since : Nat
  /-- accepted results since the start -/
  count : Nat := 0
deriving DecidableEq, Repr, Inhabited

/-- An external lane: when it entered its state (R192). -/
structure Lane where
  since : Nat
  /-- its last try of ACQUIRE, or when it went DOWN, and whether ACQUIRE is a retry -/
  tried : Nat := 0
  retry : Bool := false
  /-- the transmitter's scrambler when it was lit -/
  tx : BitVec 58 := BitVec.allOnes 58
  /-- the standard's PMD lane is aligned, in a compatibility mode (R194) -/
  std : Bool := false
  /-- until when it sends only fill (R203) -/
  fill : Nat := 0
deriving DecidableEq, Repr, Inhabited

/-! ### The fabric (chapter 9) -/

/-- A torus link 6i + d, or the commons output of IODi as 24 + i (R211, R213, R221). -/
structure Link where
  /-- this side's receive mask and the far side's, as last reported -/
  rxMask : Nat
  farMask : Nat
  /-- the transmit and receive stripes in force, as masks, and those that changes have named -/
  txStripe : Nat
  rxStripe : Nat
  pendTx : Option Nat
  pendRx : Option Nat
  /-- when the changes take effect, in tenths of a ns (R211) -/
  txDue : Nat := 0
  rxDue : Nat := 0
  /-- when the last lane report and the last heartbeat left (R211, R213) -/
  reportAt : Option Nat := none
  hbAt : Option Nat := none
  hbSent : Nat
  hbLast : Nat
  hbGoodSince : Option Nat
  /-- the class A policer's bytes as of a time -/
  aBucket : Nat
  aAt : Nat
  /-- last breach of each condition of F.0911, by bit -/
  conds : AMap Nat Nat
deriving DecidableEq, Repr, Inhabited

/-- A link at reset: no lane, its class A bucket full (1,024 B, R221). -/
def Link.reset : Link :=
  { rxMask := 0, farMask := 0, txStripe := 0, rxStripe := 0, pendTx := none, pendRx := none, hbSent := 0, hbLast := 0
    hbGoodSince := none, aBucket := 1024, aAt := 0, conds := [] }

/-- A packet sent and not yet acknowledged (R233): when, how often again, and whether rmap has shown it. -/
structure OutPkt where
  pkt : Packet
  sentAt : Nat
  tries : Nat
  shown : Bool
deriving DecidableEq, Repr, Inhabited

/-- A channel: the fields of Table 9.6 that change, with the send ring, the packets in flight and the packets received
ahead of order (rmap) as lists (R229 to R234). Times are ns, rto µs, srtt and rttvar units of 10 ns. -/
structure Chan where
  state : Nat
  cls : Cls
  kind : Nat
  pinned : Bool
  commons : Bool
  hostpeer : Bool
  ppanel : Nat
  piod : Nat
  haddr : Nat
  pchan : Nat
  cookie : BitVec 32
  sndNxt : Nat
  sndUna : Nat
  rcvNxt : Nat
  window : Nat
  rto : Nat
  srtt : Nat
  rttvar : Nat
  measured : Bool
  level : Nat
  rise : Nat
  quiet : Nat
  lastCut : Option Nat
  lastStep : Nat
  sring : List Packet
  inFlight : List OutPkt
  got : List Packet
  rfree : Nat
  rsize : Nat
  actr : Nat
  cctr : Nat
  /-- packets accepted and not acknowledged, and since when; an ECE to echo; entries of the next ACK (R232) -/
  unacked : Nat
  unackedSince : Nat
  ackEce : Bool
  ackEntries : List (Nat × Nat)
  /-- when it last sent an ACK for a marked packet (R227) -/
  lastEce : Option Nat
  /-- ACKs with hold = 1 have stopped the timers (R234), since this time -/
  heldSince : Option Nat
  /-- (time, bytes) of the packets sent in the last 1 µs, and when one larger than 1 µs of the rate is through (R228) -/
  recent : List (Nat × Nat)
  paceAt : Nat := 0
  /-- the rings' bases, sizes and indices, and the peer's place in the host table (Table 9.6) -/
  sringBase : Nat := 0
  ssize : Nat := 0
  shead : Nat := 0
  stail : Nat := 0
  rringBase : Nat := 0
  host : Nat := 0
deriving DecidableEq, Repr, Inhabited

/-- An output of a transit switch (R221): its two queues, oldest first; bytes it may send; the round robin's credits. -/
structure OutQ where
  a : List Packet
  bd : List Packet
  budget : Nat
  credit : Nat × Nat × Nat
deriving DecidableEq, Repr, Inhabited

/-- A remote read outstanding at its requester (R238, R243). -/
structure RRead where
  chan : Nat
  gaddr : Nat
  field : Nat
  epoch : BitVec 32
  cacheable : Bool
  killed : Bool
  deadline : Nat
deriving DecidableEq, Repr, Inhabited

structure Iod where
  powered : Bool
  tickets : List Ticket
  /-- in-panel results that go straight on toward the head, since their count is 1 (R165): no ticket is open for them (R166) -/
  straight : List Ticket := []
  /-- transit tickets and cells reserved at admission (R166) -/
  resTickets : Nat
  resCells : Nat
  /-- flits of contributions not yet complete, by ticket and sender (R225) -/
  partials : AMap (Nat × Nat) (List (Nat × Cell32))
  outs : AMap Nat OutQ
  chans : AMap Nat Chan
  /-- the channel cache, most recently used first (R229) -/
  cache : List Nat
  tally : AMap Nat Nat
  slotWave : AMap Nat (Option Nat)
  reads : AMap Nat RRead
  /-- last HOP_LIMIT and COOKIE_REJECT, and counts since -/
  hopEv : Option (Nat × Nat)
  cookieEv : Option (Nat × Nat)
  /-- its port is withdrawn for a reset of its zone (R234), and its last hold ACK on each channel -/
  held : Bool
  holdAcks : AMap Nat Nat
  /-- what is left of the round of class weights, B to D, and the channel that each class served last (R235) -/
  credit : Nat × Nat × Nat := (0, 0, 0)
  turn : AMap Nat Nat := []
  /-- relayed pieces that the landing buffer holds for a channel (R256) -/
  relayed : List (Nat × Packet) := []
  /-- the host table of 256 IPv6 addresses (R229) -/
  hosts : List Nat := []
deriving DecidableEq, Repr, Inhabited

def Iod.reset : Iod :=
  { powered := false, tickets := [], resTickets := 0, resCells := 0, partials := [], outs := [], chans := [], cache := [],
    tally := [], slotWave := [], reads := [], hopEv := none, cookieEv := none, held := false, holdAcks := [] }

/-! ### Movers, mailboxes, check units (chapter 10) -/

/-- A write that a mover has issued (R256): the units it counts; for a local destination the offset at which its data lands when
its response comes (none when another unit writes them); when it was issued. -/
structure MWrite where
  count : Nat
  land : Option Nat
  data : List Cell32
  at' : Nat
  /-- of a slot: its index among the descriptor's, and the code that its verdict brought (R135) -/
  slot : Option Nat := none
  answer : Option Code := none
  /-- of a COPY packet: the I/O die and channel that carry it, and its global address -/
  copy : Option (Nat × Nat × Nat) := none
deriving DecidableEq, Repr, Inhabited

/-- A read that a mover has issued (R254): its units; through the base, its slot's index, its requester identifier and what has come back. -/
structure MRead where
  units : Nat
  slot : Option Nat := none
  rid : Nat := 0
  answer : Option (Code × List Cell32) := none
deriving DecidableEq, Repr, Inhabited

/-- A descriptor in progress (R253 to R257): units read, in the queue, issued and written; its outstanding reads and writes, oldest
first; the codes of its responses. `halted`: it issues nothing more; `broken`: the prefix of `done` has ended. -/
structure Active where
  entry : Nat
  desc : BitVec 512
  reads : List MRead
  readUnits : Nat
  data : List Cell32
  issued : Nat
  writes : List MWrite
  done : Nat
  broken : Bool
  halted : Bool
  codes : List Code
  /-- slots and packets issued, which place the next on its plane (R255) -/
  slots : Nat
  /-- it holds the lock of its check unit (R269) -/
  lock : Bool
deriving DecidableEq, Repr, Inhabited

/-- A channel of a mover: its ring, indices, and descriptors fetched and not complete. `reading`: below its pace marks (R254). -/
structure MChan where
  ring : AMap Nat (BitVec 512)
  producer : Nat
  consumer : Nat
  active : List Active
  halted : Bool
  reading : Bool
  idle : Bool
deriving DecidableEq, Repr, Inhabited

def MChan.reset : MChan :=
  { ring := [], producer := 0, consumer := 0, active := [], halted := false, reading := true, idle := true }

structure Mover where
  chans : AMap Nat MChan
  /-- the stopping code, while stopped (R258), and whether its responses have all come -/
  stop : Option Code
  settled : Bool
  /-- what is left of the round of class weights, B to D, and the channel that each class served last (R255) -/
  credit : Nat × Nat × Nat := (0, 0, 0)
  turn : AMap Nat Nat := []
  /-- the next requester identifier -/
  serial : Nat := 0
  /-- completion messages that wait for their mailbox (R264): the mailbox, the payload and the channel -/
  mail : List (Nat × BitVec 448 × Nat) := []
deriving DecidableEq, Repr, Inhabited

structure Mailbox where
  msg : BitVec 512
  full : Bool
  collision : Bool
  seq : Nat
  /-- waiter bits by (sender kind, port) -/
  waiters : List (Nat × Nat)
  /-- the writers whose wait-mode message has not been accepted, and since when it waits -/
  waits : List ((Nat × Nat) × Nat)
  /-- last MBOX_COLLISION and MBOX_WAIT events (once a millisecond) -/
  evCollision : Option Nat
  evWait : Option Nat
  /-- collisions since the last MBOX_COLLISION event -/
  collisions : Nat
deriving DecidableEq, Repr, Inhabited

/-- What a processor does at a check unit and a busy one makes wait (R267): start, a write of the register at an offset, a feed of n bytes. -/
inductive CheckOp
  | start
  | reg (off : Nat) (v : BitVec 64)
  | feed (n : Nat) (v : BitVec 32)
deriving DecidableEq, Repr, Inhabited

/-- The registers of Table 10.6; `feeds` counts feeds in progress (STATUS busy), `waiting` holds the accesses that wait for busy to clear,
the oldest first. -/
structure CheckUnit where
  ctrl : BitVec 32
  poly : BitVec 64
  init : BitVec 64
  value : BitVec 64
  feeds : Nat
  locked : Bool
  clash : Bool
  waiting : List CheckOp := []
deriving DecidableEq, Repr, Inhabited

/-- Table 10.6's reset values. -/
def CheckUnit.reset : CheckUnit :=
  { ctrl := 0x1F#32, poly := 0x04C11DB7#64, init := 0xFFFFFFFF#64, value := 0, feeds := 0, locked := false, clash := false }

/-! ### Serving (chapter 7) -/

inductive StreamSt
  | admitted | prefill | ready | inWave | sampled | faulted | suspended
deriving DecidableEq, Repr, Inhabited

structure Stream where
  id : Nat
  k : Nat
  sb : Nat
  reserve : Nat
  latency : Bool
  sampling : Nat
  table : List Nat
  replica : Nat
  kvSet : Nat
  promptLen : Nat
  /-- prompt tokens held, by position, and how many have run through every layer (R177) -/
  prompt : AMap Nat Nat
  prefilled : Nat
  /-- position of the next token -/
  position : Nat
  lastToken : Nat
  /-- last position delivered -/
  delivered : Nat
  st : StreamSt
  layer : Nat
  readyAt : Nat
  admittedAt : Nat
  /-- a PROMPT or a query has arrived (R156) -/
  touched : Bool
  cancelled : Bool
  isHead : Bool
  faultedAt : Nat
  /-- its stream counter at its I/O die, and the mirror copy it waits for (R175, R179) -/
  counter : Nat
  mirrorSent : Option Nat
  mirrorTarget : Nat
  unmirrored : Bool
  adopted : Option Nat
  /-- queries that wait: layer, whether of a prefill chunk, and position (R164, R177); the one that the wave it is in serves for another holder, and
  where it stood before -/
  queries : List (Nat × Bool × Nat)
  foreign : Option (Nat × Bool × Nat) := none
  resume : StreamSt := .ready
  /-- its first transit ticket's number on its I/O die, and its place among the summary tables of a die (the model's own: log 9) -/
  ticketBase : Nat := 0
  place : Nat := 0
  /-- its stream I/O die was lost, and IOD (i XOR 1) serves for it (R376) -/
  moved : Bool := false
  /-- with Nx = 1: the logical stack of the other replica that holds the mirror of each of its blocks (R370) -/
  mirrorAt : AMap Nat Nat := []
deriving DecidableEq, Repr, Inhabited

structure Wave where
  number : Nat
  replica : Nat
  slot : Nat
  waveType : Nat
  prefill : Bool
  batch : List Nat
  aborted : Bool
  /-- logical stacks that trapped in an earlier run of this wave number, and in this run -/
  trapped : List Nat
  trappedNow : List Nat
  /-- what its tiles load: seed, saturation, wave parameters, class of its bids (R27, R28, R50, R14) -/
  seed : BitVec 32
  sat : Bool
  wp : List (BitVec 32)
  latency : Bool
deriving DecidableEq, Repr, Inhabited

structure Plan where
  image : Option PlanImage
  /-- the image of the load in progress, and X.0700 before it (R183) -/
  loading : Option PlanImage
  before : Nat
  nextWave : Nat
  /-- when the load in progress began -/
  loadAt : Nat := 0
deriving DecidableEq, Repr, Inhabited

/-! ### Power and heat (chapter 12) -/

/-- What the input monitor, the island and the hold-up store hold. -/
structure Power where
  mv : Nat
  lowSince : Option Nat
  inRangeSince : Option Nat
  failed : Bool
  rangeEvent : Bool
  aonFeed : Bool
  islandRuns : Bool
  holdUpCharged : Bool
  feedFrom : Nat
  holdUpFrom : Option Nat
  tripped : Bool
  causesGoneSince : Option Nat
  outletHotSince : Option Nat
  fuseOpenAt : AMap Nat Nat
  fuseTest : List Nat
  /-- 10 µs samples of the last 10 ms, newest first: the panel's and the zones' power, W -/
  samples : List Nat
  zoneSamples : List (List Nat)
  guard : Bool
  guardFrom : Nat
  /-- when the cap loop's next step is due (R296) -/
  capAt : Nat := 0
  emergencyGone : AMap Nat Nat
  /-- since when the mean of a zone, or of the panel (15), has lain below 97 % of its cap (R296) -/
  lowMean : AMap Nat Nat
  zoneOffAt : AMap Nat Nat
  /-- zones powered again whose repeaters have not yet realigned (R286) -/
  realigning : List Nat
  stby : Bool
deriving DecidableEq, Repr, Inhabited

structure Sensor where
  centi : Int
  changedAt : Nat
  misses : Nat
  broken : Bool
  /-- readings of its region's other sensors when it last changed (R300) -/
  others : List (Nat × Int)
  /-- consecutive samples 6 °C below both neighbours (R113) -/
  below : Nat
  sampled : Bool
deriving DecidableEq, Repr, Inhabited

structure Heat where
  sensors : AMap (Nat × Nat) Sensor
  /-- recent (time, centi) of each region for TEMP_SLEW -/
  recent : AMap Nat (List (Nat × Int))
  /-- entries into B4 or trips: (time, site) -/
  hot : List (Nat × Nat)
  /-- stacks that trip: the site, its sensor and the reading of the sample (R304) -/
  tripDue : AMap Nat (Nat × Int) := []
  /-- the island's band -/
  island : Nat
  inlet : Int
  outlet : Int
deriving DecidableEq, Repr, Inhabited

/-! ### The ledger (chapter 13) -/

/-- A tally post on its way (R175, R420): the counter number as its poster gives it, the wave it carries if a step made
it, and the replica and wave slot of its sender. -/
structure Post where
  src : Nat
  port : Nat
  ctr : Nat
  inc : Nat
  step : Bool
  wave16 : Nat
  replica : Nat
  slot : Nat
  /-- a post to another port: its number while it crosses the base, until its target's headgate has it (R420) -/
  crossing : Option Nat := none
deriving DecidableEq, Repr, Inhabited

/-- A staged member, with the time at which it was staged (R320). -/
structure StageItem where
  obj : Obj
  index : Nat
  value : Nat
  time : Nat
deriving DecidableEq, Repr

/-- A commit whose members wait for their boundary, a wave's or a frame's; the committing session and its level (R321). -/
structure PendCommit where
  wave : Bool
  session : Nat
  level : Nat
  members : List StageItem
deriving DecidableEq, Repr

/-- A subscription (R333): when it last sent, and the value sent last (for E.0D00, the index of the next record to send). -/
structure Sub where
  obj : Obj
  /-- every element of an array, packed in index order -/
  all : Bool
  index : Nat
  period : Nat
  last : Nat
  sent : Nat
deriving DecidableEq, Repr

structure Session where
  level : Nat
  version : Nat
  src : Nat
  sport : Nat
  commons : Bool
  hostNonce : BitVec 256
  panelNonce : BitVec 256
  name : Nat
  key : BitVec 384
  proven : Bool
  challengeAt : Nat
  lastMsg : Nat
  newest : Nat
  started : Bool
  /-- request numbers that have arrived, newest first, with the responses kept (R330) -/
  answered : List (Nat × Reply)
  stage : List StageItem
  subs : List Sub
  notifySeq : Nat
  lastNotify : Option Nat
  gap : Bool
deriving DecidableEq, Repr

/-- A command in progress or ended (R316). -/
structure Cmd where
  arg : Nat
  code : Code
  running : Bool
  started : Nat
  session : Nat
deriving DecidableEq, Repr, Inhabited

/-- An event record (Table 13.11). -/
structure Event where
  code : Nat
  subject : Nat
  index : Nat
  time : Nat
  data : List Nat
deriving DecidableEq, Repr, Inhabited

/-- A black-box record (Table 14.10). -/
structure BbRec where
  index : Nat
  time : Nat
  code : Nat
  source : Nat
  epoch : Nat
  data : List Nat
deriving DecidableEq, Repr, Inhabited

structure Logs where
  events : List Event
  next : Nat
  overwritten : Nat
  bb : List BbRec
  bbNext : Nat
  /-- generations in both flashes, newest first; whether a slot stands erased (R363) -/
  flash : List (List BbRec)
  erased : Bool
  flushing : Option Nat
  trace : List (List Nat)
  traceAt : AMap Nat Nat
  traceEv : Option Nat
deriving DecidableEq, Repr, Inhabited

/-! ### Control units (chapter 14) -/

structure Keeper where
  epoch : Nat
  holder : Option Nat
  expiry : Nat
  lastGrant : Nat
  overlap : Option Nat
  requests : List Nat
  firstRequest : Option Nat
  granted : Bool
deriving DecidableEq, Repr, Inhabited

structure Proc where
  crashes : List Nat
  restarting : Option Nat
deriving DecidableEq, Repr, Inhabited

/-- A record of a unit's firmware log (R360). -/
structure FwRec where
  index : Nat
  time : Nat
  msg : FwMsg
deriving DecidableEq, Repr, Inhabited

structure CtrlUnit where
  procs : AMap Nat Proc
  renewSent : Option Nat
  localExpiry : Nat
  resyncFrom : Option Nat
  /-- compare words of each window not yet judged: (sequence, time, word) -/
  words : List (Nat × Nat × BitVec 64)
  outSeq : Nat
  slotA : Option FwImage
  slotB : Option FwImage
  /-- the slot that the newer copy of the boot record names, and the older one (Table 14.5): slot B -/
  bootB : Bool
  bootOld : Bool := false
  running : Option FwImage
  runsB : Bool
  /-- the log ring, newest first, and its next index (R360) -/
  ring : List FwRec := []
  ringNext : Nat := 0
deriving DecidableEq, Repr, Inhabited

structure Update where
  verified : Option FwImage
  startedAt : Option Nat
  newUnit : Nat
deriving DecidableEq, Repr, Inhabited

/-- A dispatch-path output that waits for the comparator (R348). -/
structure Held where
  seq : Nat
  receiver : Nat
  kind : Nat
  content : Nat
deriving DecidableEq, Repr, Inhabited

/-- The comparator (R348, R349), the outputs seen in an overlap (R346), and the last OUTPUT_FENCED. -/
structure Compare where
  holding : Bool
  holdSince : Nat
  pending : List Held
  seen : List (Nat × Nat × Nat)
  /-- outputs that the comparator has passed and whose receiver has not yet acted: kind and content (R348) -/
  passed : List (Nat × Nat) := []
  fencedEv : Option Nat
deriving DecidableEq, Repr, Inhabited

/-! ### Recovery, start-up, clocks (chapters 11, 15, 16, 17) -/

/-- A promotion (R372): the spare, the failed site, the stage of Table 15.3 that runs, and when the failure was detected. -/
structure Promo where
  spare : Nat
  old : Nat
  stage : Nat
  start : Nat
  /-- when the stage began -/
  since : Nat := 0
deriving DecidableEq, Repr, Inhabited

structure Recovery where
  promos : AMap Nat Promo
  /-- stacks of a replica with no spare, and when that was detected -/
  suspendedAt : AMap Nat Nat
  xMinusDownAt : Option Nat
  xPlusDown : Bool
  /-- base-zone resets, with their triggers, that wait for a switch-over (R399) -/
  resetWait : List (Nat × Nat)
  /-- streams the panel no longer acts for since it fenced itself (R377) -/
  fenced : List Nat
  /-- lost panels with their adopters: those declared (X.0F06), and those whose stretches are adopted (R377, R378) -/
  declared : List (Nat × Nat)
  lost : List (Nat × Nat)
  levyEv : AMap Nat Nat
  /-- the levy's use in each of the last 1,000 ms, newest first, in thousandths of a percent (R383) -/
  levyUse : List (List Nat)
  /-- base-zone resets whose write queues drain: the zone and when it began (R400) -/
  resets : AMap Nat Nat
  /-- blocks that the mirror region reserves for streams of the X− neighbour (R178) -/
  mirrorRes : AMap Nat Nat := []
  /-- when the oldest recovery began whose re-mirroring is not complete (R382) -/
  remirrorFrom : Option Nat := none
deriving DecidableEq, Repr, Inhabited

structure Startup where
  stage : Nat
  started : Nat
  running : Bool
  bad : List Nat
  /-- the island ran on before this start (Table 16.6) -/
  warm : Bool := false
  /-- the measurement of every port's flight time on every plane (R121), once it has been made -/
  flight : Option Nat := none
deriving DecidableEq, Repr, Inhabited

/-- What a header copy of the key store holds (Table 16.5); its CRC holds, since nothing the panel is told spoils a copy (log 100). -/
structure KeyHeader where
  count : Nat := 0
  life : Nat := 0
  minSecurity : Nat := 0
  lastGen : Nat := 0
deriving DecidableEq, Repr, Inhabited

/-- Fuses and flash contents outside the image slots (R388, R394 to R397). -/
structure Store where
  /-- kinds of the 128 key slots: 1 plan key, 2 public key, 3 ledger key (Table 16.5); the keys of kinds 1 and 2 show only in what an
  image's checks find -/
  slotKind : AMap Nat Nat
  /-- ledger keys written by a commit; none: the transport keys of R396, or the service key set at manufacture -/
  keyBasic : Option Nat
  keyExpert : Option Nat
  keyService : Option Nat
  /-- group keys written by a commit since Provisioned was entered (Table 16.4) -/
  freshBasic : Bool
  freshExpert : Bool
  minSecurity : Nat
  lastGen : Nat
  /-- a secure wipe runs since a time, toward a life-cycle state (R396) -/
  wipeFrom : Option Nat
  wipeTarget : Nat
  /-- identity fuses of lamp dies (R388); those of tile and I/O dies are K.0E05 -/
  lampFuse : AMap Nat Nat := []
  /-- the two header copies of the key store (R397) -/
  header0 : KeyHeader := {}
  header1 : KeyHeader := {}
deriving DecidableEq, Repr, Inhabited

/-- The header copy in force: the one with the higher write count (R397). -/
def Store.inForce (t : Store) : KeyHeader := if t.header1.count ≤ t.header0.count then t.header0 else t.header1

/-- The header is written into the other copy, with the next write count (R397). -/
def Store.rewritten (t : Store) (life : Nat) : Store :=
  let h : KeyHeader := { count := t.inForce.count + 1, life := life, minSecurity := t.minSecurity, lastGen := t.lastGen }
  if t.header1.count ≤ t.header0.count then { t with header1 := h } else { t with header0 := h }

/-- A start reads the header in force (R397). -/
def Store.loaded (t : Store) : Store := { t with minSecurity := t.inForce.minSecurity, lastGen := t.inForce.lastGen }

structure Ptp where
  master : Option Nat
  /-- the master's clock, as the best master clock algorithm compares it (R283): priority1, clockClass, identity -/
  gm : Nat := 0
  /-- when each PTP port last sent a Sync, and a delay request (R283) -/
  syncAt : AMap Nat Nat := []
  delayAt : AMap Nat Nat := []
  lastAnnounce : Nat
  good : Nat
  holdSince : Nat
  set : Bool
  tickSinceSlew : Nat
deriving DecidableEq, Repr, Inhabited

structure Pins where
  pgN : Bool
  alertN : Bool
  tripN : Bool
  wakeN : Bool
  stbyEn : Bool
  slotId : Nat
  trstN : Bool
  ir : Nat
  dr : BitVec 32
deriving DecidableEq, Repr, Inhabited

/-- What the panel has put on a wire (the model's own field: log 5). -/
inductive Sent
  /-- a serving message to the host: the header of Table 7.1 and its body -/
  | serving (head : BitVec 128) (body : List (BitVec 8))
  /-- a ledger response to an address and port, the class in which it travels on commons (R323; none on the management segment), and its tag
  (R327) -/
  | ledger (dest port : Nat) (cls : Option Cls) (r : Reply) (tag : BitVec 128)
  /-- a NOTIFY: one for a subscription is levy work and goes in class D (R15, R383) -/
  | notify (session seq : Nat) (cls : Option Cls) (gap : Bool) (values : List Answer) (tag : BitVec 128)
  | challenge (session : Nat) (code : Code) (nonce : BitVec 256) (version : Nat)
  | welcome (session : Nat) (code : Code) (p : Option (BitVec 384)) (idle : Nat) (tag : BitVec 128)
  /-- a frame leaves by an output of an I/O die's transit switch: 0 to 5 torus, 6 commons (Table 9.1) -/
  | frame (iod out : Nat) (h : FrameHead) (p : Packet)
  /-- out is 7: handed to the transport engine of the I/O die (R219) -/
  | packet (iod out : Nat) (p : Packet)
  | heartbeat (link panel count mask time : Nat)
  | laneReport (link mask : Nat)
  | stripeChange (link mask after : Nat)
  /-- the answer to an OPEN: the host's address and channel, and the 32-B payload (R230) -/
  | opened (iod addr hostChan : Nat) (payload : BitVec 256)
  /-- a MSG handed to its consumer with its 32-B status: length, code, poisoned units (R231) -/
  | message (iod chan len : Nat) (code : Code) (poison : Nat) (data : List Cell32)
  /-- the answer to a remote read at its requester (R238) -/
  | lineAnswer (iod rid : Nat) (code : Code) (data : List Cell32)
  /-- a result leaves a transit switch for the next holder on the way to the head, or for the query tile at the head (R165): the panel, the
  stream, and which of its tickets -/
  | transitResult (iod panel stream part : Nat) (code : Code) (data : List Cell32)
  /-- a layer's query, or a prefill chunk's, leaves for another holder (R164, R177) -/
  | query (iod : Nat) (cls : Cls) (panel stream layer position : Nat) (prefill : Bool)
  /-- an operation of a send entry ends at its source with a code (R230, R232, R233) -/
  | entryEnded (iod chan : Nat) (p : Packet) (code : Code)
  | neighbour (port target dst : Nat)
  | echo (port src dst ident : Nat)
  /-- the 256-B head record (R154), by the stream's I/O die: position of the last token, sampling state, last token -/
  | headRecord (iod : Nat) (cls : Cls) (panel stream position sampling token : Nat)
  /-- a mirror copy (R179), by the stream's I/O die: the last position it covers, its 32-B units, the stream counter of its arrival tally, and
  the KV entries that the query tile has gathered -/
  | mirror (iod : Nat) (cls : Cls) (panel stream position units ctr : Nat) (data : List Cell32)
  /-- the answer to the X− neighbour's request for a reserve in the mirror region (R178) -/
  | mirrorAnswer (panel stream : Nat) (code : Code)
  /-- the head tells a holder or a mirror holder to free a stream's blocks (R159) -/
  | blocksFree (panel stream : Nat)
  | ptp (port kind time domain : Nat)
  | remoteAnswer (site tile rid : Nat) (code : Code) (data : List Cell32)
  | emptyNotice (kind port box : Nat)
  | writeResponse (kind port box : Nat) (overwrote busy : Bool) (code : Code)
  | announce (kind : Nat) (data : List Nat)
  | errorSymbols (port lanes : Nat)
  /-- the panel's answer to a request for a plan load (R183) -/
  | planAnswer (code : Code)
  /-- ADOPTED to the host (`dest` 0) or to the holder dest − 1 (R379) -/
  | adopted (dest panel stream k : Nat) (head : Bool) (last : Nat)
deriving DecidableEq, Repr

/-- Why a command stops the machine. No command of this panel does: the spec gives every command an effect (95), and a
command whose condition does not hold changes nothing (log 1). The constructor stands for the interface only; nobody
raises it (safe). -/
inductive Fault
  | none
deriving DecidableEq, Repr

/-- Why a command has no meaning: `notModelled` is raised by an arm of exec that has no meaning yet (safe: the model
stops). No arm raises it. -/
inductive Refusal
  | notModelled (mnemonic : String)
deriving DecidableEq, Repr

structure State where
  /-- commands waiting, first in, first out (the row's cut) -/
  pending : List Instr
  /-- time counter in ns (R272) -/
  time : Nat
  /-- index of the next free value (the model's own; log 2) -/
  freeCount : Nat
  /-- the ledger objects that are their own home (R312) -/
  objs : AMap (Obj × Nat) Nat
  /-- when each object was last written (R321) -/
  wrote : AMap (Obj × Nat) Nat
  /-- Edge shadows (R318) -/
  shadow : AMap (Obj × Nat) Nat
  /-- commits whose members wait for their boundary, oldest first (R321) -/
  commits : List PendCommit
  cmds : AMap Obj Cmd
  /-- inputs that wait because no unit acts on them: messages of the ledger and ADMIT (R350, R355), oldest first -/
  kept : List Instr
  sessions : AMap Nat (Option Session)
  /-- wrong proofs of a source: their times (R328), and the lockouts' ends -/
  badProofs : AMap Nat (List Nat)
  lockouts : AMap Nat Nat
  log : Logs
  out : List Sent
  mem : Memory
  /-- poison marks and uncorrectable units, by byte address of the unit (R44, R101) -/
  poison : AMap Nat Bool
  tiles : AMap (Nat × Nat) Tile
  sites : AMap Nat Site
  cols : AMap (Nat × Nat) VaultCol
  layers : AMap (Nat × Nat) Layer
  gates : AMap (Nat × Nat) Gate
  markets : AMap Nat Market
  /-- last breach of each class A condition: (port, bit of B.0607) (R134) -/
  aCond : AMap (Nat × Nat) Nat
  /-- ports whose orderly withdrawal runs: the frame from which bids are refused (R146) -/
  withdrawing : AMap Nat Nat
  /-- path tests passed by ports out of service, by (port, plane), and the frame of the last (R147) -/
  pathOk : AMap (Nat × Nat) Nat
  stations : AMap Nat Station
  fields : AMap Nat Field
  lasers : AMap Nat Laser
  /-- the light of each set (6 × lamp die + set) on each wavelength, and the switches to carry that wait for their withheld
  frame (R203 to R207) -/
  light : AMap (Nat × Nat) LightSrc
  carryWanted : List (Nat × Nat)
  /-- calibrated values by (quantity, place); last CAL_REJECTED of each quantity and rejections since; rings' heaters in MHz;
  rings unlocked; sets whose trees' calibration is suspended until (R197 to R201) -/
  cal : AMap (Nat × Nat) CalVal
  /-- set powers that move for a carry or a reserve, by laser, and whether they end at the calibrated value (R200, R203 to R205); what a source
  sluice gives its partner's tree, by set and wavelength, in thousandths of a dB (R188, R204) -/
  ramps : AMap Nat (CalVal × Bool)
  splits : AMap (Nat × Nat) CalVal
  /-- carries that wait and are emergencies (R205, R206) -/
  urgent : List (Nat × Nat)
  /-- when the light of a set's tree last changed, or a ring of it was not locked (R201); when a place of a quantity was last calibrated -/
  shaken : AMap Nat Nat
  calAt : AMap (Nat × Nat) Nat
  /-- which start-up the rings took their orders at (R197) -/
  ringBase : Option Nat
  /-- bundles whose clock is lost (R282), by (port, plane) -/
  clockLost : List (Nat × Nat)
  /-- slots in the elastic buffer of an I/O die, and whether it is read (R195) -/
  pma : AMap Nat (Nat × Bool)
  calEv : AMap Nat (Nat × Nat)
  heaters : AMap Nat Int
  unlocked : List Nat
  suspended : AMap Nat Nat
  lanes : AMap Nat Lane
  links : AMap Nat Link
  iods : AMap Nat Iod
  movers : AMap Nat Mover
  boxes : AMap Nat Mailbox
  checks : AMap Nat CheckUnit
  streams : AMap Nat (Option Stream)
  waves : AMap (Nat × Nat) (Option Wave)
  posts : List Post
  plan : Plan
  power : Power
  heat : Heat
  keeper : Keeper
  units : AMap Nat CtrlUnit
  update : Update
  compare : Compare
  recovery : Recovery
  startup : Startup
  store : Store
  ptp : Ptp
  pins : Pins
deriving DecidableEq, Repr

/-- The panel right after the always-on feed has been applied with STBY_EN released by nobody (an open STBY_EN reads
high, R409, R410): the island's time counter at 0 (R390), every unit unpowered, every object at its default. The values
the spec does not state are named in log 3. -/
def State.reset : State :=
  { pending := [], time := 0, freeCount := 0, objs := [], wrote := [], shadow := [], commits := [], cmds := [], kept := [],
    sessions := [], badProofs := [], lockouts := [],
    log := { events := [], next := 0, overwritten := 0, bb := [], bbNext := 0, flash := [], erased := true,
             flushing := none, trace := [], traceAt := [], traceEv := none },
    out := [], mem := [], poison := [], tiles := [], sites := [], cols := [], layers := [], gates := [], markets := [],
    aCond := [], withdrawing := [], pathOk := [], stations := [], fields := [], lasers := [], light := [], carryWanted := [], cal := [], ramps := [], splits := [], urgent := [], shaken := [], calAt := [], ringBase := none, clockLost := [], pma := [], calEv := [], heaters := [], unlocked := [],
    suspended := [], lanes := [], links := [], iods := [], movers := [], boxes := [], checks := [], streams := [],
    waves := [], posts := [],
    plan := { image := none, loading := none, before := 0, nextWave := 0 },
    power := { mv := 0, lowSince := none, inRangeSince := none, failed := false, rangeEvent := false, aonFeed := true,
               islandRuns := true, holdUpCharged := false, feedFrom := 0, holdUpFrom := none, tripped := false,
               causesGoneSince := none, outletHotSince := none, fuseOpenAt := [], fuseTest := [],
               samples := [], zoneSamples := [], guard := false, guardFrom := 0, emergencyGone := [],
               lowMean := [], zoneOffAt := [], realigning := [], stby := true },
    heat := { sensors := [], recent := [], hot := [], island := 0, inlet := 0, outlet := 0 },
    keeper := { epoch := 0, holder := none, expiry := 0, lastGrant := 0, overlap := none, requests := [],
                firstRequest := none, granted := false },
    units := [],
    update := { verified := none, startedAt := none, newUnit := 0 },
    compare := { holding := false, holdSince := 0, pending := [], seen := [], fencedEv := none },
    recovery := { promos := [], suspendedAt := [], xMinusDownAt := none, xPlusDown := false, resetWait := [], fenced := [],
                  declared := [], lost := [], levyEv := [], levyUse := [], resets := [] },
    startup := { stage := 0, started := 0, running := false, bad := [] },
    store := { slotKind := [], keyBasic := none, keyExpert := none, keyService := none, freshBasic := false,
               freshExpert := false, minSecurity := 0, lastGen := 0, wipeFrom := none, wipeTarget := 0 },
    ptp := { master := none, lastAnnounce := 0, good := 0, holdSince := 0, set := false,
             tickSinceSlew := 125 },
    pins := { pgN := false, alertN := false, tripN := false, wakeN := false, stbyEn := true, slotId := 0, trstN := true,
              ir := 0, dr := 0 } }

end Sys2Proof.Machine
end

