-- ==== Sys2Proof/Machine/Slots.lean ====
section
/-!
DEFINITION. A slot on the light (R122, R123): the header of Table 6.2, the layout of Table 6.1, the slot check, and what a receiving
headgate reads of a slot whose bits were disturbed on the way.
-/

namespace Sys2Proof.Machine

/-- stile: the logical sending tile, 63 for a sender that is not a tile. -/
def Slot.stile (x : Slot) : Nat := match x.sender with
  | .tile t => t
  | _ => 63

/-- tag: the tag of the sending tile, or the requester's channel; a sender that has neither gives 0 (log 88). -/
def Slot.headTag (x : Slot) : Nat := match x.sender with
  | .tile _ => x.tag % 32
  | .mover c => c % 32
  | _ => 0

/-- The slot header (Table 6.2) on a plane. -/
def Slot.header (x : Slot) (plane : Nat) : BitVec 512 :=
  BitVec.ofNat 512 (x.src % 2 ^ 7 + 2 ^ 7 * (x.dst % 2 ^ 7) + 2 ^ 14 * (plane % 8) + 2 ^ 17 * clsNum x.cls + 2 ^ 19 * x.retry.toNat +
    2 ^ 20 * (x.kind % 8) + 2 ^ 23 * (x.ttile % 64) + 2 ^ 29 * (x.taddr % 2 ^ 25) + 2 ^ 54 * (x.len % 512) + 2 ^ 63 * x.headTag +
    2 ^ 68 * (x.stile % 64) + 2 ^ 74 * (x.sidx % 8) + 2 ^ 77 * ((if x.reply then x.rid else 0) % 2 ^ 16) + 2 ^ 93 * x.reply.toNat +
    2 ^ 94 * (if x.reply then x.code % 16 else 0) + 2 ^ 128 * (x.slotno % 2 ^ 32))

/-- The 32-B units of a payload as one number, and its poison map: bit u marks unit u. Places past the payload's length are 0 (log 88). -/
def unitsNum (l : List Cell32) : Nat := l.foldr (fun u n => u.data.toNat + 2 ^ 256 * n) 0
def marksNum (l : List Cell32) : Nat := l.foldr (fun u n => u.mark.toNat + 2 * n) 0

/-- Bytes 96 to 11,983 of a slot as a little-endian number (Table 6.1): header, payload and poison map. -/
def Slot.body (x : Slot) (plane : Nat) : Nat :=
  (x.header plane).toNat + 2 ^ 512 * (unitsNum (x.payload.take 368)) + 2 ^ 94720 * marksNum (x.payload.take 368)

/-- Bits of the body: 11,888 bytes. -/
def bodyBits : Nat := 95104

/-- The slot check (R122): CRC-64 over the body, byte 96 first, each byte from its high bit, no bit reversed at the end (log 88). -/
def slotCheck (body : Nat) : BitVec 64 :=
  crcBytes 64 false 0x42F0E1EBA9EA3693#64 (BitVec.allOnes 64) ((List.range 11888).map (fun i => BitVec.ofNat 8 (body / 2 ^ (8 * i))))

/-- Bytes 96 to 11,991 as they arrive. -/
def Slot.arrived (x : Slot) (plane flips : Nat) : Nat := (x.body plane + 2 ^ bodyBits * (slotCheck (x.body plane)).toNat) ^^^ (flips / 2 ^ 768)

/-- The header bits that the grant fixes (R135): source, destination, plane, class, retry, tag, sending tile and slot number. -/
def grantBits (h : Nat) : Nat × Nat × Nat := (h % 2 ^ 20, h / 2 ^ 63 % 2 ^ 11, h / 2 ^ 128 % 2 ^ 32)

/-- The slot that a headgate reads from its body: what the grant does not fix comes from the header. -/
def Slot.read (x : Slot) (body : Nat) : Slot :=
  let f (lo n : Nat) : Nat := body / 2 ^ lo % 2 ^ n
  { x with
    kind := f 20 3, ttile := f 23 6, taddr := f 29 25, len := f 54 9, sidx := f 74 3, rid := f 77 16, reply := f 93 1 == 1, code := f 94 4
    payload := (List.range (min 368 (f 54 9))).map (fun u =>
      { data := BitVec.ofNat 256 (body / 2 ^ (512 + 256 * u)), mark := body / 2 ^ (94720 + u) % 2 == 1 }) }

/-- What the headgate finds wrong with a slot (R135), and the slot as it reads it. A slot no bit of which arrived flipped reads as it was
sent. -/
def Slot.judge (x : Slot) (plane : Nat) (w : SlotFault) : Option Loss × Slot :=
  if !w.lock then (some .lock, x)
  else if w.fec then (some .fec, x)
  else if w.flips / 2 ^ 768 = 0 then (none, x)
  else
    let got := x.arrived plane w.flips
    let body := got % 2 ^ bodyBits
    if (slotCheck body).toNat ≠ got / 2 ^ bodyBits % 2 ^ 64 then (some .check, x)
    else if grantBits body ≠ grantBits (x.header plane).toNat then (some .header, x)
    else (none, x.read body)

end Sys2Proof.Machine
end

