-- ==== Sys2Proof/Machine/Sluices.lean ====
section
/-!
DEFINITION. The sluices of a plane (R119, R128): a 128-port Beneš network of 13 stages of 64 sluices, and the settings that route a
matching through it. The spec numbers neither the sluices nor their wires: the order of the stages from source to destination, and the
recursive wiring below, are the model's (DESIGN CHOICE, log 87).
-/

namespace Sys2Proof.Machine

/-- Where a port stands in a list. -/
def placeOf (l : List Nat) (v : Nat) : Nat := (l.zipIdx.find? (fun p => p.1 == v)).elim 0 (fun p => p.2)

/-- One loop of a permutation: `x` takes the upper half, the output beside its own comes from the lower half, and the input beside the one
that feeds that output takes the upper half again, until an input is met that has its half. `halves` lists the inputs with their halves
(true for the lower). -/
def loopFrom (perm : List Nat) : Nat → Nat → List (Nat × Bool) → List (Nat × Bool)
  | 0, _, halves => halves
  | fuel + 1, x, halves =>
    if halves.any (fun p => p.1 == x) then halves
    else
      let below := placeOf perm (perm.getD x 0 ^^^ 1)
      loopFrom perm fuel (below ^^^ 1) ((below, true) :: (x, false) :: halves)

/-- The half that every input of a permutation takes. -/
def halvesOf (perm : List Nat) : List (Nat × Bool) :=
  (List.range perm.length).foldl (fun h x => loopFrom perm perm.length x h) []

/-- Input x takes the lower half. -/
def lowerHalf (h : List (Nat × Bool)) (x : Nat) : Bool := (h.find? (fun p => p.1 == x)).elim false (fun p => p.2)

/-- The settings, stage after stage, that route a permutation of 2^(k+1) ports: true for cross. Sluice i of the first stage takes inputs
2i and 2i + 1 and sends one to input i of each half; sluice i of the last stage joins output i of the halves. -/
def benes : Nat → List Nat → List (List Bool)
  | 0, perm => [[perm.getD 0 0 == 1]]
  | k + 1, perm =>
    let h := halvesOf perm
    let n := perm.length / 2
    let feeds (low : Bool) (i : Nat) : Nat := if lowerHalf h (2 * i) = low then 2 * i else 2 * i + 1
    let half (low : Bool) : List Nat := (List.range n).map (fun i => perm.getD (feeds low i) 0 / 2)
    [(List.range n).map (fun i => lowerHalf h (2 * i))] ++ List.zipWith (· ++ ·) (benes k (half false)) (benes k (half true)) ++
      [(List.range n).map (fun j => lowerHalf h (placeOf perm (2 * j)))]

/-- A matching as a whole permutation of the 128 ports: the ports that it leaves out are joined in rising order, without light. -/
def wholePerm (pairs : List (Nat × Nat)) : List Nat :=
  let spare := (List.range 128).filter (fun d => !pairs.any (fun p => p.2 == d))
  let idle := (List.range 128).filter (fun p => !pairs.any (fun q => q.1 == p))
  (List.range 128).map (fun p => match pairs.find? (fun q => q.1 == p) with
    | some q => q.2
    | none => spare.getD (placeOf idle p) 0)

/-- A stage as a number: bit k for its sluice k. -/
def stageBits (l : List Bool) : Nat := (l.zipIdx.map (fun p => if p.1 then 2 ^ p.2 else 0)).sum

/-- The settings of a plane's 13 stages for a matching of (source, destination) ports. -/
def routeMatching (pairs : List (Nat × Nat)) : List Nat := (benes 6 (wholePerm pairs)).map stageBits

/-- Where light that enters port x of a network of 2^(k+1) ports leaves it. -/
def lightPath : Nat → List (List Bool) → Nat → Nat
  | 0, stages, x => if (stages.headD []).getD (x / 2) false then x ^^^ 1 else x
  | k + 1, stages, x =>
    let half (l : List Bool) (low : Bool) : List Bool := if low then l.drop (l.length / 2) else l.take (l.length / 2)
    let y := if (stages.headD []).getD (x / 2) false then x ^^^ 1 else x
    let low := y % 2 == 1
    let z := 2 * lightPath k (((stages.drop 1).take (stages.length - 2)).map (fun l => half l low)) (y / 2) + y % 2
    if (stages.getLastD []).getD (z / 2) false then z ^^^ 1 else z

end Sys2Proof.Machine
end

