-- ==== Sys2Proof/Config.lean ====
section
/-!
DEFINITION. What an implementation fixes and the manual leaves open: the free values and the uninterpreted functions. None
has a body, so no proof can see a value of one.
-/

namespace Sys2Proof.Config

/-- FREE VALUE. The result of a vector function that Table 3.7 bounds and does not fix: `fn` is 16 × op + fn, the operands are FP32. One
fixed result for each input (R58), so it is a function of the operands; it is taken where it keeps the table's bound. Log 2. -/
opaque vectorResult (fn : Nat) (x y z : BitVec 32) : BitVec 32

/-- FREE VALUE. The two results of a rotary pair (R60): position, frequency, x and y; taken where it keeps the bound of Table 3.7. Log 2. -/
opaque rotaryResult (second : Bool) (pos : BitVec 32) (theta x y : BitVec 32) : BitVec 32

/-- FREE VALUE. The bytes that a write of whole 32-B units (R71) leaves past the end of a row that does not fill its
last unit: `n` the write, `u` the unit. Log 2. -/
opaque padding (n u : Nat) : BitVec 256

/-- FREE VALUE. How far a step of a laser's power loop moves the bias, in hundredths of a percent of the commissioning bias (R189).
Log 2. -/
opaque biasStep : Nat → Nat

/-- What the commissioning record fixes: how far +23.9 dBm lies above a laser's set power at commissioning, in thousandths of a dB
(R204, Table 8.3). Log 2. -/
opaque carryRise (laser : Nat) : Int

/-- FREE VALUE. The resonance order that a ring takes at a start-up, and where its heater then stands, in MHz (R197): the rings' free spectral
range is not in the spec. Log 2. -/
opaque ringOrder (start ring : Nat) : Nat
opaque ringHeater (start ring : Nat) : Nat

/-- FREE VALUE. Bytes 16 to 31 of the unit that an immediate source repeats: Table 10.3 calls imm 32 B and gives it bits [383:256],
which are 16 B. Log 32. -/
opaque immHigh (imm : BitVec 128) : BitVec 128

/-- FREE VALUE. The n-th panel nonce (R327). Log 2. -/
opaque nonce : Nat → BitVec 256

/-- FREE VALUE. The n-th channel cookie (R230). Log 2. -/
opaque cookie : Nat → BitVec 32

/-- FREE VALUE. The IDCODE the test port shifts out (R414). Log 2. -/
opaque idcode : BitVec 32

/-- Whether an ECDSA P-384 signature over a SHA-384 digest holds under the vendor key that is fused (R354): the key is not in the spec. Log 8. -/
opaque vendorVerifies (digest : BitVec 384) (signature : Nat) : Bool

/-- The header of the image that the flashes hold when the panel is made: its versions are not in the spec. Log 2. -/
opaque factoryHeader : Nat

/-- The image that the flashes hold when the panel is made; it is taken as sound (PRESUMED, log 3). -/
def factoryImage : FwImage := { header := factoryHeader, sigOk := true, hashOk := true }

/-- Whether an ECDSA P-384 signature over a SHA-384 digest holds under the verifying key of a key store slot (R181, R183): the key is not in
the spec. Log 8. -/
opaque planVerifies (slot : Nat) (digest : BitVec 384) (signature : Nat) : Bool

/-- The plan key of a key store slot, 32 bytes (R183), which no reader sees. Log 8. -/
opaque planKey (slot : Nat) : List (BitVec 8)

/-- The base's key-encryption key (R396), which no reader sees. Log 8. -/
opaque keyEncryptionKey : List (BitVec 8)

/-- FREE VALUE. The sequence number in the header of a session's WELCOME (R324, R330). Log 2. -/
opaque welcomeSeq (session : Nat) : BitVec 16

/-- The service key set at manufacture (Table 13.14). Log 2. -/
opaque serviceKey : Nat

/-- FREE VALUE. What the test port's other instructions shift out (R414). Log 2. -/
opaque tapData : Nat → BitVec 32

/-- The 64-bit compare word of an output (R348): the CRC-64 of R122 over receiver, kind and content, whose layout as bytes the spec does not
give. Log 8. -/
opaque compareWord (receiver kind content : Nat) : BitVec 64

/-- FREE VALUE. Whether a stream joins replica 1 when both have as many streams (R161): by stream and time. Log 2. -/
opaque tieReplica (stream time : Nat) : Bool

/-- FREE VALUE. The VCORE current in mA that a tile die estimates from its activity (R298) when it has run that many cycles: by site and
cycle count. Log 2. -/
opaque coreCurrent (site cycles : Nat) : Nat

/-- FREE VALUE. The flight time in ps of a port's light to the first stage of a plane (R121): by measurement, port and plane. Log 2. -/
opaque flightTime (k port plane : Nat) : Nat

/-- FREE VALUE. The number of the test that a unit failed, in SELF_CHECK (Table 14.11): by unit and time. Log 2. -/
opaque failingTest (unit time : Nat) : Nat

end Sys2Proof.Config
end

