-- ==== Sys2Proof/Machine/Events.lean ====
section
/-!
DEFINITION. The codes of the events of every chapter's event table, with what raises each and the data it carries.
-/

namespace Sys2Proof.Machine

/-- The event of R73, a store region that failed with no spare row pair left; data: logical tile, test region. The spec gives it no code: the
first of the area of S.03xx is the model's (log 17). -/
def evStoreRegion : Nat := 0x5301

/-- DRAM_UE: R102; data: layer, vault address, ECC_UNCORRECTED, tile position (R117). -/
def evDramUe : Nat := 0x4D01

/-- SCRUB_LATE: R103; data: duration of the pass, s. -/
def evScrubLate : Nat := 0x4D02

/-- TRIM_NARROW: R98; data: layer, position, run in taps. -/
def evTrimNarrow : Nat := 0x4D03

/-- LAYER_UNUSABLE: R98; data: layer, position, run in taps. -/
def evLayerUnusable : Nat := 0x4D04

/-- LAYER_IMPLAUSIBLE: R113 or R114; data: layer, sensor, three readings. -/
def evLayerImplausible : Nat := 0x4D05

/-- CE_WITNESS: R114; data: layer, window count, baseline. -/
def evCeWitness : Nat := 0x4D06

/-- PHASE_CONFLICT: first conflict period of a V window; data: logical tile, window number. -/
def evPhaseConflict : Nat := 0x4D07

/-- A_POLICED: R131; data: source or destination policer, slots demoted. -/
def evAPoliced : Nat := 0x4201

/-- SLOT_LOST: R136; data: cause of R135, count in the last ms. -/
def evSlotLost : Nat := 0x4202

/-- SLOT_FAILED: R136; data: slot number, stile, tag. -/
def evSlotFailed : Nat := 0x4203

/-- PORT_WITHDRAWN: R146, R147; data: orderly or abrupt. -/
def evPortWithdrawn : Nat := 0x4204

/-- PORT_RESTORED: a withdrawn port returns; data: —. -/
def evPortRestored : Nat := 0x4205

/-- PLANE_RETIRED: R148; data: cause. -/
def evPlaneRetired : Nat := 0x4206

/-- MERGE_REFUSED: R141, R145; data: ticket, code. -/
def evMergeRefused : Nat := 0x4207

/-- MERGE_FORMAT: R143; data: ticket, flit. -/
def evMergeFormat : Nat := 0x4208

/-- MERGE_EXPIRED: R145; data: ticket, merged, expected. -/
def evMergeExpired : Nat := 0x4209

/-- FC_UE: R138; data: field, address, ECC_UNCORRECTED. -/
def evFcUe : Nat := 0x420A

/-- LEVY_STALLS: the path test withholds more stalls than R132 allows; data: port, count. -/
def evLevyStalls : Nat := 0x420B

/-- BUNDLE_RECOVERY: R149; data: lamp die, ports. -/
def evBundleRecovery : Nat := 0x420C

/-- WAVE_ABORT: R163; data: wave number, logical stack, trap code. -/
def evWaveAbort : Nat := 0x5801

/-- STREAM_REFUSED: R155, R158, R156, R166; data: completion code, reason. -/
def evStreamRefused : Nat := 0x5802

/-- STREAM_FAULTED: R167; data: layer, code of the head's result. -/
def evStreamFaulted : Nat := 0x5803

/-- TALLY_STALE: R176; data: counter, W[15:0] received. -/
def evTallyStale : Nat := 0x5804

/-- MIRROR_LATE: R179; data: position, wait in µs. -/
def evMirrorLate : Nat := 0x5805

/-- SIEVE_INPUT: R170; data: logical stack, logical tile, layer. -/
def evSieveInput : Nat := 0x5806

/-- HEAD_MOVED: R154; data: old and new panel ID. -/
def evHeadMoved : Nat := 0x5807

/-- PLAN_REFUSED: R183; data: step, section. -/
def evPlanRefused : Nat := 0x5808

/-- TALLY_LOST: R176; data: destination port, counter, W[15:0]. -/
def evTallyLost : Nat := 0x5814

/-- SIEVE_OVERFLOW: R170; data: logical stack, logical tile, mandatory blocks, C. -/
def evSieveOverflow : Nat := 0x5815

/-- LASER_FADE_WARN: R202; data: laser, dB, bias %. -/
def evLaserFadeWarn : Nat := 0x4C01

/-- RESERVE_ARMED: R203; data: laser. -/
def evReserveArmed : Nat := 0x4C02

/-- RESERVE_IN: R203; data: set, wavelength, match error in GHz. -/
def evReserveIn : Nat := 0x4C03

/-- RESERVE_EXHAUSTED: R204; data: set, wavelength. -/
def evReserveExhausted : Nat := 0x4C04

/-- CARRY_IN: R204 to R206; data: set, wavelength, partner lamp die. -/
def evCarryIn : Nat := 0x4C05

/-- CARRY_OUT: R205; data: set, wavelength. -/
def evCarryOut : Nat := 0x4C06

/-- FAST_FADE: R205; data: laser, drop in dB. -/
def evFastFade : Nat := 0x4C07

/-- LAMP_DIE_LOST: R206; data: cause. -/
def evLampDieLost : Nat := 0x4C08

/-- CAL_REJECTED: R199; data: quantity, both results, count. -/
def evCalRejected : Nat := 0x4C09

/-- RING_UNLOCK: R197; data: port, plane or lane, ring. -/
def evRingUnlock : Nat := 0x4C0A

/-- LANE_STATE: R192; data: lane, old and new state. -/
def evLaneState : Nat := 0x4C0B

/-- LANE_DEGRADED: R192; data: lane, estimated BER. -/
def evLaneDegraded : Nat := 0x4C0C

/-- DR8_UNDERRUN: R195; data: port, lanes. -/
def evDr8Underrun : Nat := 0x4C0D

/-- LINK_STATE: R211, R213; data: link, old and new state, width. -/
def evLinkState : Nat := 0x4601

/-- TORUS_MISWIRE: R213; data: link, panel ID and direction seen. -/
def evTorusMiswire : Nat := 0x4602

/-- A_POLICED_LINK: R221; data: output, packets demoted. -/
def evAPolicedLink : Nat := 0x4603

/-- A_OVERSIZE: R218; data: input, frame length. -/
def evAOversize : Nat := 0x4604

/-- A_LATE: R247; data: channel, delay in ns. -/
def evALate : Nat := 0x4605

/-- DETOUR: R224; data: link, I/O die used. -/
def evDetour : Nat := 0x4606

/-- HOP_LIMIT: R223; data: count in the last ms. -/
def evHopLimit : Nat := 0x4607

/-- QUEUE_DROP: R222; data: output, count. -/
def evQueueDrop : Nat := 0x4608

/-- CHANNEL_ERROR: R233; data: channel, PSN. -/
def evChannelError : Nat := 0x4609

/-- COOKIE_REJECT: R230; data: channel, count. -/
def evCookieReject : Nat := 0x460A

/-- TRANSIT_REFUSED: R225; data: ticket, code. -/
def evTransitRefused : Nat := 0x460B

/-- MOVER_STOP: R258; data: stopping code, channels with descriptors in progress. -/
def evMoverStop : Nat := 0x4401

/-- DESC_ERROR: R253; data: channel, ring entry, failing check. -/
def evDescError : Nat := 0x4402

/-- RESPONSE_LATE: R256, a response counted as TIMEOUT; data: channel, ring entry. -/
def evResponseLate : Nat := 0x4403

/-- MBOX_COLLISION: R261; data: mailbox, count in the last ms. -/
def evMboxCollision : Nat := 0x4404

/-- CHECK_CLASH: R269; data: control unit, check unit. -/
def evCheckClash : Nat := 0x4405

/-- MBOX_WAIT: R264; data: mailbox, longest wait in µs. -/
def evMboxWait : Nat := 0x4406

/-- CLK_XTAL_LOST: R282; data: oscillator trim age, s. -/
def evClkXtalLost : Nat := 0x4301

/-- BASE_PLL_SWITCH: R282; data: PLL now in use. -/
def evBasePllSwitch : Nat := 0x4302

/-- DIE_PLL_UNLOCK: R280, R282; data: site, PLL. -/
def evDiePllUnlock : Nat := 0x4303

/-- REPLICA_SLOW: R281; data: site, tile, stretched cycles. -/
def evReplicaSlow : Nat := 0x4304

/-- FREQ_CHANGED: R278; data: site, old and new frequency, frame F. -/
def evFreqChanged : Nat := 0x4305

/-- TIME_SKEW: R274, R282; data: field, difference in ns. -/
def evTimeSkew : Nat := 0x4306

/-- PTP_STATE: R285; data: old and new state, offset in ns. -/
def evPtpState : Nat := 0x4307

/-- INPUT_RANGE: R291; data: voltage, V. -/
def evInputRange : Nat := 0x5001

/-- INPUT_FAIL: R291; data: cause, lowest or highest voltage. -/
def evInputFail : Nat := 0x5002

/-- EFUSE_OPEN: R292; data: zone or feed, peak current. -/
def evEfuseOpen : Nat := 0x5003

/-- ZONE_LOST: R309; data: zone. -/
def evZoneLost : Nat := 0x5004

/-- RAIL_FAULT: R294; data: site, rail, voltage. -/
def evRailFault : Nat := 0x5005

/-- CAP_LIMIT: R296 lowers a ceiling to 400 MHz; data: zone or panel, mean power. -/
def evCapLimit : Nat := 0x5006

/-- BAND_CHANGE: R301; data: region, old and new band, temperature. -/
def evBandChange : Nat := 0x5401

/-- SENSOR_BROKEN: R300; data: region, sensor, cause. -/
def evSensorBroken : Nat := 0x5402

/-- STACK_TRIP: R304; data: site, sensor, reading. -/
def evStackTrip : Nat := 0x5403

/-- HEAT_ZONE_OFF: R305; data: zone. -/
def evHeatZoneOff : Nat := 0x5404

/-- PANEL_TRIP: R306; data: cause. -/
def evPanelTrip : Nat := 0x5405

/-- COOLANT_HOT: R307; data: inlet, °C. -/
def evCoolantHot : Nat := 0x5406

/-- TEMP_SLEW: a region rises more than 10 °C within 1 ms; data: region, rise. -/
def evTempSlew : Nat := 0x5407

/-- SESSION_OPEN: R327; data: session, level, source address, host version. -/
def evSessionOpen : Nat := 0x4B01

/-- SESSION_END: R329; data: session, cause. -/
def evSessionEnd : Nat := 0x4B02

/-- PROOF_FAILED: R328; data: source address, level. -/
def evProofFailed : Nat := 0x4B03

/-- LEDGER_WRITE: R339; data: session, object, index. -/
def evLedgerWrite : Nat := 0x4B04

/-- VERSION_HELD: R336; data: session, host version, firmware version. -/
def evVersionHeld : Nat := 0x5701

/-- LEASE_CHANGE: R343, R345, R346; data: old and new holder, epoch, cause. -/
def evLeaseChange : Nat := 0x5702

/-- COMPARE_MISMATCH: R349; data: output sequence number, window. -/
def evCompareMismatch : Nat := 0x5703

/-- SELF_CHECK: R349; data: unit, result, failing test. -/
def evSelfCheck : Nat := 0x5704

/-- CU_DEMOTED: R349, R354; data: unit, cause. -/
def evCuDemoted : Nat := 0x5705

/-- PROC_CRASH: R355; data: unit, processor, cause, program counter. -/
def evProcCrash : Nat := 0x5706

/-- RESYNC_DONE: R352; data: unit, duration in ms. -/
def evResyncDone : Nat := 0x5707

/-- OUTPUT_FENCED: R344; data: receiver, epoch seen, count. -/
def evOutputFenced : Nat := 0x5708

/-- IMAGE_REJECTED: R354, R356; data: unit, slot, failing check. -/
def evImageRejected : Nat := 0x5709

/-- UPDATE_QUEUED: R357; data: P.0C0C bits. -/
def evUpdateQueued : Nat := 0x570A

/-- UPDATE_ABORTED: R358; data: cause. -/
def evUpdateAborted : Nat := 0x570B

/-- UPDATE_COMMITTED: R357; data: old and new firmware version. -/
def evUpdateCommitted : Nat := 0x570C

/-- BB_FLUSH: R363; data: cause, first index. -/
def evBbFlush : Nat := 0x570D

/-- TRACE_DROPPED: R361; data: site, count. -/
def evTraceDropped : Nat := 0x570E

/-- STACK_FAILED: R366; data: logical stack, site, witness. -/
def evStackFailed : Nat := 0x5809

/-- SPARE_PROMOTED: R372; data: logical stack, old site, new site. -/
def evSparePromoted : Nat := 0x580A

/-- REPLICA_OVERLAP: R369; data: spare site, replica. -/
def evReplicaOverlap : Nat := 0x580B

/-- SPARES_EXHAUSTED: R369; data: replica. -/
def evSparesExhausted : Nat := 0x580C

/-- REPLICA_RESUMED: R373; data: replica, duration in ms. -/
def evReplicaResumed : Nat := 0x580D

/-- PANEL_LOST: R377; data: lost panel ID, links. -/
def evPanelLost : Nat := 0x580E

/-- PANEL_FENCED: R377; data: links. -/
def evPanelFenced : Nat := 0x580F

/-- ADOPTED: R378; data: lost panel ID, streams adopted, streams ended. -/
def evAdopted : Nat := 0x5810

/-- REMIRROR_DONE: R382; data: streams, bytes. -/
def evRemirrorDone : Nat := 0x5811

/-- LEVY_DEFERRED: R383; data: resource. -/
def evLevyDeferred : Nat := 0x5812

/-- WEIGHTS_LOST: R375; data: logical stack. -/
def evWeightsLost : Nat := 0x5813

/-- STARTUP_STAGE: R390; data: stage, duration in ms. -/
def evStartupStage : Nat := 0x4B10

/-- STARTUP_FAILED: R389, R390; data: stage, cause. -/
def evStartupFailed : Nat := 0x4B11

/-- IDENTITY_MISMATCH: R388, R389; data: port, fused value. -/
def evIdentityMismatch : Nat := 0x4B12

/-- PATH_TEST_FAILED: R393; data: port, plane, destinations failed. -/
def evPathTestFailed : Nat := 0x4B13

/-- STARTUP_SHORT: R390; data: usable sites. -/
def evStartupShort : Nat := 0x4B14

/-- LIFE_CYCLE: R394; data: old and new state, session. -/
def evLifeCycle : Nat := 0x4B15

/-- WIPE_DONE: R396; data: duration in s. -/
def evWipeDone : Nat := 0x4B16

/-- ZONE_RESET: R399; data: zone, trigger. -/
def evZoneReset : Nat := 0x4B17

end Sys2Proof.Machine
end

