-- ==== Sys2Proof/Machine/Sha.lean ====
section
/-!
DEFINITION. SHA-384 and HMAC-SHA-384, which R327, R340, R354 and R396 name: the standard functions (FIPS 180-4 and FIPS 198-1), whose
definition the spec takes for granted (log 8). Byte strings are lists of bytes, first byte first.
-/

namespace Sys2Proof.Machine

/-- A byte. -/
abbrev Octet : Type := BitVec 8

/-- The n lowest bytes of a number, lowest first (R3). -/
def octets (n v : Nat) : List Octet := (List.range n).map (fun i => BitVec.ofNat 8 (v / 2 ^ (8 * i)))

/-- The number of a byte string, its first byte lowest. -/
def octetsNum : List Octet → Nat
  | [] => 0
  | b :: r => b.toNat + 256 * octetsNum r

/-- Round constants 0 to 19 of SHA-384. -/
def shaK0 : List (BitVec 64) := [
  0x428A2F98D728AE22#64, 0x7137449123EF65CD#64, 0xB5C0FBCFEC4D3B2F#64, 0xE9B5DBA58189DBBC#64, 0x3956C25BF348B538#64,
  0x59F111F1B605D019#64, 0x923F82A4AF194F9B#64, 0xAB1C5ED5DA6D8118#64, 0xD807AA98A3030242#64, 0x12835B0145706FBE#64,
  0x243185BE4EE4B28C#64, 0x550C7DC3D5FFB4E2#64, 0x72BE5D74F27B896F#64, 0x80DEB1FE3B1696B1#64, 0x9BDC06A725C71235#64,
  0xC19BF174CF692694#64, 0xE49B69C19EF14AD2#64, 0xEFBE4786384F25E3#64, 0x0FC19DC68B8CD5B5#64, 0x240CA1CC77AC9C65#64]

/-- Round constants 20 to 39 of SHA-384. -/
def shaK1 : List (BitVec 64) := [
  0x2DE92C6F592B0275#64, 0x4A7484AA6EA6E483#64, 0x5CB0A9DCBD41FBD4#64, 0x76F988DA831153B5#64, 0x983E5152EE66DFAB#64,
  0xA831C66D2DB43210#64, 0xB00327C898FB213F#64, 0xBF597FC7BEEF0EE4#64, 0xC6E00BF33DA88FC2#64, 0xD5A79147930AA725#64,
  0x06CA6351E003826F#64, 0x142929670A0E6E70#64, 0x27B70A8546D22FFC#64, 0x2E1B21385C26C926#64, 0x4D2C6DFC5AC42AED#64,
  0x53380D139D95B3DF#64, 0x650A73548BAF63DE#64, 0x766A0ABB3C77B2A8#64, 0x81C2C92E47EDAEE6#64, 0x92722C851482353B#64]

/-- Round constants 40 to 59 of SHA-384. -/
def shaK2 : List (BitVec 64) := [
  0xA2BFE8A14CF10364#64, 0xA81A664BBC423001#64, 0xC24B8B70D0F89791#64, 0xC76C51A30654BE30#64, 0xD192E819D6EF5218#64,
  0xD69906245565A910#64, 0xF40E35855771202A#64, 0x106AA07032BBD1B8#64, 0x19A4C116B8D2D0C8#64, 0x1E376C085141AB53#64,
  0x2748774CDF8EEB99#64, 0x34B0BCB5E19B48A8#64, 0x391C0CB3C5C95A63#64, 0x4ED8AA4AE3418ACB#64, 0x5B9CCA4F7763E373#64,
  0x682E6FF3D6B2B8A3#64, 0x748F82EE5DEFB2FC#64, 0x78A5636F43172F60#64, 0x84C87814A1F0AB72#64, 0x8CC702081A6439EC#64]

/-- Round constants 60 to 79 of SHA-384. -/
def shaK3 : List (BitVec 64) := [
  0x90BEFFFA23631E28#64, 0xA4506CEBDE82BDE9#64, 0xBEF9A3F7B2C67915#64, 0xC67178F2E372532B#64, 0xCA273ECEEA26619C#64,
  0xD186B8C721C0C207#64, 0xEADA7DD6CDE0EB1E#64, 0xF57D4F7FEE6ED178#64, 0x06F067AA72176FBA#64, 0x0A637DC5A2C898A6#64,
  0x113F9804BEF90DAE#64, 0x1B710B35131C471B#64, 0x28DB77F523047D84#64, 0x32CAAB7B40C72493#64, 0x3C9EBE0A15C9BEBC#64,
  0x431D67C49C100D4C#64, 0x4CC5D4BECB3E42B6#64, 0x597F299CFC657E2A#64, 0x5FCB6FAB3AD6FAEC#64, 0x6C44198C4A475817#64]

/-- The round constants: the first 64 fraction bits of the cube roots of the first 80 primes. -/
def shaK : List (BitVec 64) := shaK0 ++ shaK1 ++ shaK2 ++ shaK3

/-- The initial hash value of SHA-384. -/
def shaInit : List (BitVec 64) := [
  0xCBBB9D5DC1059ED8#64, 0x629A292A367CD507#64, 0x9159015A3070DD17#64, 0x152FECD8F70E5939#64,
  0x67332667FFC00B31#64, 0x8EB44A8768581511#64, 0xDB0C2E0D64F98FA7#64, 0x47B5481DBEFA4FA4#64]

/-- The functions of the message schedule and of the rounds. -/
def shaSmall0 (x : BitVec 64) : BitVec 64 := x.rotateRight 1 ^^^ x.rotateRight 8 ^^^ x >>> 7
def shaSmall1 (x : BitVec 64) : BitVec 64 := x.rotateRight 19 ^^^ x.rotateRight 61 ^^^ x >>> 6
def shaBig0 (x : BitVec 64) : BitVec 64 := x.rotateRight 28 ^^^ x.rotateRight 34 ^^^ x.rotateRight 39
def shaBig1 (x : BitVec 64) : BitVec 64 := x.rotateRight 14 ^^^ x.rotateRight 18 ^^^ x.rotateRight 41

/-- The message schedule, newest word first: `n` further words. -/
def shaSchedule : Nat → List (BitVec 64) → List (BitVec 64)
  | 0, l => l
  | n + 1, l => shaSchedule n ((shaSmall1 (l.getD 1 0) + l.getD 6 0 + shaSmall0 (l.getD 14 0) + l.getD 15 0) :: l)

/-- One round on the eight working words. -/
def shaRound (v : List (BitVec 64)) (kw : BitVec 64) : List (BitVec 64) :=
  match v with
  | [a, b, c, d, e, f, g, h] =>
    let t1 := h + shaBig1 e + ((e &&& f) ^^^ (~~~e &&& g)) + kw
    let t2 := shaBig0 a + ((a &&& b) ^^^ (a &&& c) ^^^ (b &&& c))
    [t1 + t2, a, b, c, d + t1, e, f, g]
  | v => v

/-- A word from eight bytes, the first the highest. -/
def shaWord (l : List Octet) : BitVec 64 := l.foldl (fun v b => v <<< 8 ||| b.setWidth 64) 0

/-- One block of 128 bytes. -/
def shaBlock (h : List (BitVec 64)) (block : List Octet) : List (BitVec 64) :=
  let w := (shaSchedule 64 (((List.range 16).map (fun i => shaWord ((block.drop (8 * i)).take 8))).reverse)).reverse
  (h.zip ((List.zipWith (fun k w => k + w) shaK w).foldl shaRound h)).map (fun p => p.1 + p.2)

/-- The message with its padding: a one bit, zeros, and the length in bits in 16 bytes. -/
def shaPadded (l : List Octet) : List Octet :=
  l ++ 0x80#8 :: List.replicate ((239 - l.length % 128) % 128) 0 ++ (octets 16 (8 * l.length)).reverse

/-- SHA-384 of a byte string, as 48 bytes. -/
@[irreducible] def sha384 (l : List Octet) : List Octet :=
  let p := shaPadded l
  let h := (List.range (p.length / 128)).foldl (fun h i => shaBlock h ((p.drop (128 * i)).take 128)) shaInit
  ((h.take 6).map (fun w => (octets 8 w.toNat).reverse)).flatten

/-- HMAC-SHA-384. -/
@[irreducible] def hmac384 (key msg : List Octet) : List Octet :=
  let k := if 128 < key.length then sha384 key else key
  let k := k ++ List.replicate (128 - k.length) 0
  sha384 (k.map (fun b => b ^^^ 0x5C#8) ++ sha384 (k.map (fun b => b ^^^ 0x36#8) ++ msg))

/-- A 48-B result as one value, its byte 0 lowest. -/
def digest (l : List Octet) : BitVec 384 := BitVec.ofNat 384 (octetsNum l)

/-- An ASCII label without a terminator. -/
def label (t : String) : List Octet := t.toList.map (fun c => BitVec.ofNat 8 c.toNat)

/-! ### Keys and proofs of a session (R327, R340, R396) -/

/-- A key of 48 B. -/
def keyOctets (key : Nat) : List Octet := octets 48 key

/-- N of R327: the host nonce, the panel nonce, the session number, the level and the host's interface version. -/
def proofText (hn pn : BitVec 256) (session level version : Nat) : List Octet :=
  octets 32 hn.toNat ++ octets 32 pn.toNat ++ octets 2 session ++ octets 1 level ++ octets 4 version

/-- The host proof H. -/
@[irreducible] def hostProof (key : Nat) (hn pn : BitVec 256) (session level version : Nat) : BitVec 384 :=
  digest (hmac384 (keyOctets key) (label "DLSN-H" ++ proofText hn pn session level version))

/-- The panel proof P. -/
@[irreducible] def panelProof (key : Nat) (hn pn : BitVec 256) (session level version : Nat) : BitVec 384 :=
  digest (hmac384 (keyOctets key) (label "DLSN-P" ++ proofText hn pn session level version))

/-- The session key. -/
@[irreducible] def sessionKey (key : Nat) (hn pn : BitVec 256) (session level version : Nat) : BitVec 384 :=
  digest (hmac384 (keyOctets key) (label "DLSN-K" ++ proofText hn pn session level version))

/-- The transport key of a level (R396): the serial is 16 B, padded with zero bytes. -/
@[irreducible] def transportKey (serial level : Nat) : Nat :=
  octetsNum (hmac384 Config.keyEncryptionKey (label "DLSN-T" ++ octets 16 serial ++ octets 1 level))

/-- The first 4 B of the SHA-384 of a key (K.0D1B, R340). -/
@[irreducible] def keyId (key : Nat) : Nat := octetsNum ((sha384 (keyOctets key)).take 4)

/-! ### Messages as bytes and their tags (R324, R325, R327) -/

/-- An item head (Table 13.5). -/
def itemHead (area num : Nat) (pend all : Bool) (index offset len type code : Nat) : List Octet :=
  octets 16 (area % 2 ^ 8 + 2 ^ 8 * (num % 2 ^ 16) + 2 ^ 24 * pend.toNat + 2 ^ 25 * all.toNat + 2 ^ 32 * (index % 2 ^ 16) +
    2 ^ 64 * (offset % 2 ^ 32) + 2 ^ 96 * (len % 2 ^ 16) + 2 ^ 112 * (type % 2 ^ 8) + 2 ^ 120 * (code % 2 ^ 4))

/-- A value padded with zero bytes to a multiple of 4 B. -/
def valueOctets (len value : Nat) : List Octet := octets len value ++ List.replicate ((4 - len % 4) % 4) 0

/-- The item that a 16-B head and the value bytes after it say; what is reserved is disregarded (R6). -/
def itemOf (head : Nat) (value : Nat) : Item :=
  let f (lo n : Nat) : Nat := head / 2 ^ lo % 2 ^ n
  { area := f 0 8, num := f 8 16, pend := f 24 1 == 1, all := f 25 1 == 1, index := f 32 16, offset := f 64 32, len := f 96 16, type := f 112 8, value := value }

/-- `n` items of a request's body: in WRITE, STAGE and SUBSCRIBE each has its value, padded to 4 B, after its head (R325); none where the bytes
do not make up the items. -/
def parseItems (values : Bool) : Nat → List Octet → Option (List Item)
  | 0, b => if b.isEmpty then some [] else none
  | n + 1, b =>
    let it := itemOf (octetsNum (b.take 16)) 0
    let rest := b.drop 16
    let pad := if values then (it.len + 3) / 4 * 4 else 0
    if b.length < 16 ∨ rest.length < pad then none
    else (parseItems values n (rest.drop pad)).map (fun l => (if values then { it with value := octetsNum (rest.take it.len) } else it) :: l)

end Sys2Proof.Machine

namespace Sys2Proof

open Sys2Proof.Machine

/-- The fields of a request's header (Table 13.4). -/
def LedgerMsg.pver (m : LedgerMsg) : Nat := fld m.head 0 4
def LedgerMsg.type (m : LedgerMsg) : Nat := fld m.head 8 8
def LedgerMsg.session (m : LedgerMsg) : Nat := fld m.head 16 16
def LedgerMsg.seq (m : LedgerMsg) : Nat := fld m.head 32 16
def LedgerMsg.len (m : LedgerMsg) : Nat := fld m.head 64 16
def LedgerMsg.count (m : LedgerMsg) : Nat := fld m.head 80 16

/-- The types of a session's requests (Table 13.6). -/
def requestTypes : List Nat := [1, 2, 3, 4, 5, 6, 8, 20]

/-- The items of a request, none where its header or its item list is malformed (R337): WRITE, STAGE and SUBSCRIBE carry values, READ and LIST
none, COMMIT, ABORT and BYE no item. -/
def LedgerMsg.parse (m : LedgerMsg) : Option (List Item) :=
  if !requestTypes.contains m.type ∨ m.len ≠ m.body.length ∨ 1200 < m.len then none
  else if m.type = 4 ∨ m.type = 5 ∨ m.type = 20 then (if m.len = 0 ∧ m.count = 0 then some [] else none)
  else parseItems (m.type == 2 || m.type == 3 || m.type == 6) m.count m.body

def LedgerMsg.wellFormed (m : LedgerMsg) : Bool := m.parse.isSome
def LedgerMsg.items (m : LedgerMsg) : List Item := m.parse.getD []

end Sys2Proof

namespace Sys2Proof.Machine

/-- Items of a response or a notification with the values that did fit: those of READ, LIST and NOTIFY have values (Table 13.6). -/
def answerBody (values : Bool) (items : List Answer) : List Octet :=
  (items.map (fun i => itemHead i.area i.num i.pend i.all i.index i.offset i.len i.type (codeNum i.code) ++
    (if values then valueOctets i.len i.value else []))).flatten

/-- The header of Table 13.4 with its tag field zero. -/
def messageHead (type session seq code : Nat) (pend gap trunc : Bool) (len items : Nat) : List Octet :=
  octets 32 (1 + 2 ^ 8 * (type % 2 ^ 8) + 2 ^ 16 * (session % 2 ^ 16) + 2 ^ 32 * (seq % 2 ^ 16) + 2 ^ 48 * code + 2 ^ 52 * pend.toNat +
    2 ^ 53 * gap.toNat + 2 ^ 54 * trunc.toNat + 2 ^ 64 * (len % 2 ^ 16) + 2 ^ 80 * (items % 2 ^ 16))

/-- The first 16 B of the HMAC of the session key over the header and the body. -/
def tagOver (key : BitVec 384) (text : List Octet) : BitVec 128 := BitVec.ofNat 128 (octetsNum ((hmac384 (keyOctets key.toNat) text).take 16))

/-- The tag of a request: over its header, with the tag field zero, and its body. -/
@[irreducible] def messageTag (key : BitVec 384) (head : BitVec 128) (body : List Octet) : BitVec 128 :=
  tagOver key (octets 16 head.toNat ++ List.replicate 16 0 ++ body)

/-- The tag of a response: its type is its request's with 0x80 added. -/
@[irreducible] def replyTag (key : BitVec 384) (r : Reply) : BitVec 128 :=
  let b := answerBody (r.type == 1 || r.type == 8) r.items
  tagOver key (messageHead (128 + r.type) r.session r.seq (codeNum r.code) r.pend false r.trunc b.length r.items.length ++ b)

/-- The tag of a NOTIFY. -/
@[irreducible] def notifyTag (key : BitVec 384) (session seq : Nat) (gap : Bool) (values : List Answer) : BitVec 128 :=
  let b := answerBody true values
  tagOver key (messageHead 7 session seq 0 false gap false b.length values.length ++ b)

/-- The tag of a WELCOME: its body is P and the idle limit, or nothing with ACCESS_DENIED. The spec gives its sequence number no value
(log 2). -/
@[irreducible] def welcomeTag (key : BitVec 384) (session : Nat) (code : Code) (body : Option (BitVec 384 × Nat)) : BitVec 128 :=
  let b := match body with
    | some (p, idle) => octets 48 p.toNat ++ octets 4 idle
    | none => []
  tagOver key (messageHead 19 session (Config.welcomeSeq session).toNat (codeNum code) false false false b.length 0 ++ b)

/-! ### Firmware images (R354, Table 14.6) -/

/-- `n` bytes of an image from byte `off`. -/
def imagePart (bytes off n : Nat) : List Octet := octets n (bytes / 2 ^ (8 * off))

/-- The header's signature holds under the fused vendor key: ECDSA P-384 over the SHA-384 of bytes 0 to 319. -/
@[irreducible] def imageSigned (bytes : Nat) : Bool :=
  Config.vendorVerifies (digest (sha384 (imagePart bytes 0 320))) (octetsNum (imagePart bytes 320 96))

/-- Each section has the hash its header gives: FP0 to FP3, then the island section where flag bit 0 says that it is present. The sections
follow one another from byte 4,096 (R353, log 9). -/
@[irreducible] def imageHashes (bytes : Nat) : Bool :=
  let size (k : Nat) : Nat := octetsNum (imagePart bytes (24 + 4 * k) 4)
  let at' (k : Nat) : Nat := 4096 + ((List.range k).map size).sum
  let n := if bytes / 2 ^ 160 % 2 = 1 then 5 else 4
  (List.range n).all (fun k => decide (size k ≤ (if k < 4 then 2 ^ 21 else 2 ^ 24))) && decide (at' n ≤ 2 ^ 24) && (List.range n).all (fun k =>
    decide (sha384 (imagePart bytes (at' k) (size k)) = imagePart bytes (48 + 48 * k) 48))

end Sys2Proof.Machine
end

