-- ==== Sys2Proof/Machine/Fuses.lean ====
section
/-!
DEFINITION. The identity fuse blocks (R388, Tables 16.1 and 16.2) as numbers: their fields, the blocks of a panel as it is made, and what makes
one an identity fault.
-/

namespace Sys2Proof.Machine

/-- CRC-32C of R217 over bytes. -/
def crc32c (l : List (BitVec 8)) : Nat := (crcResult 32 true true (crcBytes 32 true 0x1EDC6F41#64 0xFFFFFFFF#64 l)).toNat

/-- Bits lo to lo + n − 1 of a number. -/
def bitsOf (v lo n : Nat) : Nat := v / 2 ^ lo % 2 ^ n

/-- The CRC-32C of bits lo to lo + 8n − 1 of a block. -/
def blockCrc (v lo n : Nat) : Nat := crc32c (octets n (v / 2 ^ lo))

/-! ### Tile dies (Table 16.2) -/

def TileFuse.site (v : Nat) : Nat := bitsOf v 0 7
def TileFuse.mapValue (v r : Nat) : Nat := bitsOf v (8 + 4 * r) 4
def TileFuse.dead (v k : Nat) : Bool := bitsOf v (32 + k) 1 == 1

/-- An identity fault of a tile die: not written, a CRC that does not hold, or a site that nsite does not match (R388). -/
def TileFuse.fault (v : Nat) : Bool :=
  bitsOf v 7 1 == 0 || bitsOf v 224 32 != blockCrc v 8 27 || bitsOf v 256 7 != 127 - TileFuse.site v

/-- The tiles that the stack test mapped out, and the switches it found dead (R84, R116), as physical positions. -/
def TileFuse.outs (v : Nat) : List Nat := (List.range 6).filterMap (fun r => if TileFuse.mapValue v r < 8 then some (9 * r + TileFuse.mapValue v r) else none)
def TileFuse.deads (v : Nat) : List Nat := (List.range 54).filter (fun k => TileFuse.dead v k)

/-- A tile die's block: its site, tile map (a nibble for each row), dead switches and serial. -/
def TileFuse.make (site map dead serial : Nat) : Nat :=
  let body := 2 ^ 8 * map + 2 ^ 32 * dead + 2 ^ 88 + 2 ^ 96 * serial
  site + 2 ^ 7 + body + 2 ^ 224 * blockCrc body 8 27 + 2 ^ 256 * (127 - site)

/-! ### I/O dies and lamp dies (Table 16.1) -/

def IodFuse.number (v : Nat) : Nat := bitsOf v 0 2
def IodFuse.fault (v : Nat) : Bool := bitsOf v 4 1 == 0 || bitsOf v 160 32 != blockCrc v 0 20

/-- The role of an I/O die (R389). -/
def iodRole (i : Nat) : Nat := if i = 0 then 0 else if i = 3 then 1 else 2

/-- The block of an I/O die is one with which a start goes on (R389): sound, at its position, with the role that belongs to it. -/
def IodFuse.good (v i : Nat) : Bool := !IodFuse.fault v && IodFuse.number v == i && bitsOf v 2 2 == iodRole i

def IodFuse.make (i serial : Nat) : Nat :=
  let body := i + 2 ^ 2 * iodRole i + 2 ^ 4 + 2 ^ 32 * serial
  body + 2 ^ 160 * blockCrc body 0 20

def LampFuse.number (v : Nat) : Nat := bitsOf v 0 4
def LampFuse.fault (v : Nat) : Bool := bitsOf v 4 1 == 0 || bitsOf v 64 32 != blockCrc v 0 8
def LampFuse.make (d serial : Nat) : Nat :=
  let body := d + 2 ^ 4 + 2 ^ 32 * serial
  body + 2 ^ 64 * blockCrc body 0 8

end Sys2Proof.Machine
end

