-- ==== Sys2Proof/Machine/Ops.lean ====
section
/-!
DEFINITION. The named operations over the state that the meanings share: places (R7 to R9), completion codes (R18), ledger
objects, the event log and the black box, byte memory in 32-B units with poison, and the accessors of every unit.
-/

namespace Sys2Proof.Machine

/-- What a command answers. -/
abbrev Out := Host.Outcome State Fault Refusal

/-! ### Places (R7 to R10) -/

/-- The field of a port (R7). -/
def fieldOf (p : Nat) : Nat := p / 2

/-- The column of a port's field (R7). -/
def colOf (p : Nat) : Nat := fieldOf p / 7

/-- The row of a port's field (R7). -/
def rowOf (p : Nat) : Nat := fieldOf p % 7

/-- The I/O die at a port (R8). -/
def iodOfPort (p : Nat) : Option Nat :=
  if p = 0 then some 0 else if p = 12 then some 1 else if p = 98 then some 2 else if p = 110 then some 3 else none

/-- The port of an I/O die (R8). -/
def portOfIod (i : Nat) : Nat := if i = 0 then 0 else if i = 1 then 12 else if i = 2 then 98 else 110

/-- Dark ports (R8). -/
def isDark (p : Nat) : Bool := decide (112 ≤ p) || p == 1 || p == 13 || p == 99 || p == 111

/-- Compute sites (R8). -/
def isSite (p : Nat) : Bool := !isDark p && (iodOfPort p).isNone

/-- The spare sites in the order of X.0F02 (R8, R387). -/
def spareSites : List Nat := [6, 20, 34, 48, 62, 76, 90, 104]

/-- The 108 used ports (R8). -/
def usedPorts : List Nat := (List.range 112).filter (fun p => !isDark p)

/-- The zone of a port: W0 to W6 are 0 to 6, E0 to E6 are 7 to 13, the spine is 14 (R9, R10). -/
def zoneOf (p : Nat) : Nat :=
  if colOf p ≤ 2 then rowOf p else if 5 ≤ colOf p then 7 + rowOf p else 14

/-- The ports of a zone that are used. -/
def zonePorts (z : Nat) : List Nat := usedPorts.filter (fun p => zoneOf p == z)

/-- Fields of a zone. -/
def zoneFields (z : Nat) : List Nat := (List.range 56).filter (fun f => zoneOf (2 * f) == z)

/-- The corner zone's I/O die (R9, Table 0.2): W0, W6, E0, E6. -/
def iodOfZone (z : Nat) : Option Nat :=
  if z = 0 then some 0 else if z = 6 then some 1 else if z = 7 then some 2 else if z = 13 then some 3 else none

/-- The lamp dies of a corner (Table 0.2). -/
def lampsOfIod (i : Nat) : List Nat := [3 * i, 3 * i + 1, 3 * i + 2]

/-- The side of a site (R368). -/
def sideOf (p : Nat) : Nat := if p ≤ 55 then 0 else 1

/-- The field of a corner (Table 0.2). -/
def isCornerField (f : Nat) : Bool := f == 0 || f == 6 || f == 49 || f == 55

/-! ### Completion codes (R18) -/

/-- The code reported when both apply (R18). -/
def worse (a b : Code) : Code := if codeRank a ≤ codeRank b then a else b

/-- The code reported of several (R18). -/
def worst (l : List Code) : Code := l.foldl worse .ok

/-! ### Ledger objects (R312) -/

/-- The identity fuses of the panel as it is made (R388): those of the right die at every position, with no tile mapped out, no dead switch and
a serial of zeros (log 3). -/
def madeFuses (p : Nat) : Nat :=
  if isDark p then 0
  else match iodOfPort p with
    | some i => IodFuse.make i 0
    | none => TileFuse.make p 0x888888 0 0

/-- The default of an object's element: a lamp die without supply reads lost (R206), a zone without supply off (R311); the rated input of each zone for P.0C04 (Table 12.1), an unpowered or dark state
where the table gives none; the fuses of R388. -/
def objDefault (o : Obj) (i : Nat) : Nat :=
  match o with
  | .P0C04 => if i = 14 then 5191 else if i = 0 ∨ i = 6 ∨ i = 7 ∨ i = 13 then 860 else 892
  | .L0800 => 2
  | .K0E05 => madeFuses i
  | .P0C06 => 1
  | .B0601 => if isDark i then 0 else if spareSites.contains i then 3 else 2
  | o => (objRow o).dflt

/-- The value of an element in force. -/
def State.obj (s : State) (o : Obj) (i : Nat) : Nat := mapGet (objDefault o i) s.objs (o, i)

/-- Set an element. -/
def State.setObj (s : State) (o : Obj) (i v : Nat) : State := { s with objs := mapSet s.objs (o, i) v }

/-- Add to a counter. -/
def State.bump (s : State) (o : Obj) (i n : Nat) : State := s.setObj o i (s.obj o i + n)

/-- The command of an object ends with a code (R316). -/
def State.endCmd (s : State) (o : Obj) (k : Code) : State :=
  match s.cmds.find? (fun c => c.1 == o) with
  | some (_, c) => if c.running then { s with cmds := mapSet s.cmds o { c with code := k, running := false } } else s
  | none => s

/-- The command of an object ends with a code, if it runs with this argument. -/
def State.endCmdOf (s : State) (o : Obj) (arg : Nat) (k : Code) : State :=
  if s.cmds.any (fun c => c.1 == o && c.2.arg == arg) then s.endCmd o k else s

/-- Entry `e` of a packed table of entries of `z` bytes (R313). -/
def packedGet (v z e : Nat) : Nat := v / 2 ^ (8 * z * e) % 2 ^ (8 * z)

/-- Replace entry `e` of a packed table. -/
def packedSet (v z e x : Nat) : Nat :=
  v - packedGet v z e * 2 ^ (8 * z * e) + (x % 2 ^ (8 * z)) * 2 ^ (8 * z * e)

/-- Bit `n` of a bitset value (R313). -/
def bitGet (v n : Nat) : Bool := v / 2 ^ n % 2 == 1

/-- Set bit `n` of a bitset value. -/
def bitSet (v n : Nat) (b : Bool) : Nat :=
  if bitGet v n then (if b then v else v - 2 ^ n) else (if b then v + 2 ^ n else v)

/-- Set a bit of a bitset object. -/
def State.setBit (s : State) (o : Obj) (i n : Nat) (b : Bool) : State := s.setObj o i (bitSet (s.obj o i) n b)

/-! ### Events and the black box (R338, R362) -/

/-- The island writes a black-box record into its ring of 4,096 (R362). -/
def State.record (s : State) (code source : Nat) (data : List Nat) : State :=
  { s with log := { s.log with
      bb := (BbRec.mk (s.log.bbNext % 2 ^ 32) s.time code source s.keeper.epoch data :: s.log.bb).take 4096
      bbNext := s.log.bbNext + 1 } }

/-- Log an event in the ring of 16,384 (R338), newest first; the island records it (R362). The source is the holder
(1 CU-A, 2 CU-B), or the island. -/
def State.raise (s : State) (code subject : Nat) (data : List Nat) : State :=
  let s' := { s with log := { s.log with
      events := (Event.mk code subject s.log.next s.time data :: s.log.events).take 16384
      next := s.log.next + 1
      overwritten := if 16384 ≤ s.log.events.length then s.log.overwritten + 1 else s.log.overwritten } }
  s'.record code (match s.keeper.holder with | some u => u + 1 | none => 0) data

/-- The subject of an event that states none (Table 13.11). -/
def noSubject : Nat := 0xFFFF

/-- Put a message on a wire. -/
def State.send (s : State) (m : Sent) : State := { s with out := s.out ++ [m] }

/-- One event a period at most: raise unless the last one lies less than `per` ns back. -/
def dueEvent (last : Option Nat) (now per : Nat) : Bool :=
  match last with
  | none => true
  | some t => decide (t + per ≤ now)

/-- An event at most once a period, with the count since the last (time and count): whether to raise it now, the count, and what to
keep. -/
def limited (e : Option (Nat × Nat)) (now per : Nat) : Bool × Nat × Option (Nat × Nat) :=
  match e with
  | none => (true, 1, some (now, 0))
  | some (t, n) => if t + per ≤ now then (true, n + 1, some (now, 0)) else (false, n + 1, some (t, n + 1))

/-! ### Memory in 32-B units -/

/-- The internal byte address of a unit of a tile's own vaults; `vaddr` is coded as in Table 3.8. -/
def vaultAddr (site tile vaddr : Nat) : Nat := (site * 64 + tile) * 2 ^ 30 + vaddr % 2 ^ 25 * 32

/-- The internal byte address of a tile-store unit. -/
def storeAddr (site tile unit : Nat) : Nat := 2 ^ 44 + (site * 64 + tile) * 2 ^ 22 + unit % 2 ^ 17 * 32

/-- The internal byte address of a field-cache byte. -/
def cacheAddr (field byte : Nat) : Nat := 2 ^ 45 + field * 2 ^ 24 + byte % 2 ^ 24

/-- The internal byte address of a byte of an I/O die's landing buffer (R250). -/
def landingAddr (iod byte : Nat) : Nat := 2 ^ 46 + iod * 2 ^ 22 + byte % 2 ^ 22

/-- Read the unit at a byte address. -/
def State.unitAt (s : State) (a : Nat) : Cell32 :=
  { data := BitVec.ofNat 256 (memNum s.mem a 32), mark := mapGet false s.poison a }

/-- Set or clear the mark of a unit (R44). -/
def State.setMark (s : State) (a : Nat) (b : Bool) : State :=
  { s with poison := if b then mapSet s.poison a true else mapDel s.poison a }

/-- Write a whole unit with its mark: a correct write clears the mark (R44, R71). -/
def State.putUnit (s : State) (a : Nat) (u : Cell32) : State :=
  { s with mem := memPutNum s.mem a 32 u.data.toNat
           poison := if u.mark then mapSet s.poison a true else mapDel s.poison a }

/-- Read `n` units from a byte address. -/
def State.unitsAt (s : State) (a : Nat) : Nat → List Cell32
  | 0 => []
  | n + 1 => s.unitAt a :: s.unitsAt (a + 32) n

/-- Write units from a byte address. -/
def State.putUnits (s : State) (a : Nat) : List Cell32 → State
  | [] => s
  | u :: r => (s.putUnit a u).putUnits (a + 32) r

/-- Any of the units carries a mark. -/
def anyMark (l : List Cell32) : Bool := l.any (fun u => u.mark)

/-- Clear every byte and mark of an address range (R72, R92, R396, R400). -/
def State.clearRange (s : State) (lo hi : Nat) : State :=
  { s with mem := memClear s.mem lo hi
           poison := s.poison.filter (fun p => decide (p.1 < lo) || decide (hi ≤ p.1)) }

/-! ### Accessors of the units -/

def State.tile (s : State) (site t : Nat) : Tile := mapGet Tile.reset s.tiles (site, t)
def State.setTile (s : State) (site t : Nat) (v : Tile) : State := { s with tiles := mapSet s.tiles (site, t) v }
def State.site (s : State) (p : Nat) : Site := mapGet Site.reset s.sites p
def State.setSite (s : State) (p : Nat) (v : Site) : State := { s with sites := mapSet s.sites p v }
def State.col (s : State) (site t : Nat) : VaultCol := mapGet VaultCol.reset s.cols (site, t)
def State.setCol (s : State) (site t : Nat) (v : VaultCol) : State := { s with cols := mapSet s.cols (site, t) v }
def State.layer (s : State) (site l : Nat) : Layer :=
  mapGet { windows := [], set := false, setRun := 0, clearRun := 0 } s.layers (site, l)
def State.setLayer (s : State) (site l : Nat) (v : Layer) : State := { s with layers := mapSet s.layers (site, l) v }
def State.gate (s : State) (port plane : Nat) : Gate := mapGet Gate.reset s.gates (port, plane)
def State.setGate (s : State) (port plane : Nat) (v : Gate) : State :=
  { s with gates := mapSet s.gates (port, plane) v }
def State.market (s : State) (plane : Nat) : Market :=
  mapGet { arriving := [], table := [], grants := [], flying := [], lost := [], dstRefill := [], credit := [],
           pointer := [], withheld := [], lastMatch := none, lostEvent := [] } s.markets plane
def State.setMarket (s : State) (plane : Nat) (v : Market) : State := { s with markets := mapSet s.markets plane v }
def State.station (s : State) (p : Nat) : Station := mapGet { opens := [], tickets := [] } s.stations p
def State.setStation (s : State) (p : Nat) (v : Station) : State := { s with stations := mapSet s.stations p v }
def State.field (s : State) (f : Nat) : Field :=
  mapGet { writeQ := [], reads := [], lines := [], epoch := 0, scrubAt := 0 } s.fields f
def State.setField (s : State) (f : Nat) (v : Field) : State := { s with fields := mapSet s.fields f v }
def State.laser (s : State) (n : Nat) : Laser := mapGet Laser.reset s.lasers n
def State.setLaser (s : State) (n : Nat) (v : Laser) : State := { s with lasers := mapSet s.lasers n v }
def State.lane (s : State) (n : Nat) : Lane := mapGet { since := 0 } s.lanes n
def State.setLane (s : State) (n : Nat) (v : Lane) : State := { s with lanes := mapSet s.lanes n v }
def State.link (s : State) (n : Nat) : Link := mapGet Link.reset s.links n
def State.setLink (s : State) (n : Nat) (v : Link) : State := { s with links := mapSet s.links n v }
def State.iod (s : State) (i : Nat) : Iod := mapGet Iod.reset s.iods i
def State.setIod (s : State) (i : Nat) (v : Iod) : State := { s with iods := mapSet s.iods i v }
def State.mover (s : State) (p : Nat) : Mover :=
  mapGet { chans := [], stop := none, settled := true } s.movers p
def State.setMover (s : State) (p : Nat) (v : Mover) : State := { s with movers := mapSet s.movers p v }
def State.box (s : State) (n : Nat) : Mailbox :=
  mapGet { msg := 0, full := false, collision := false, seq := 0, waiters := [], waits := [], evCollision := none,
           evWait := none, collisions := 0 } s.boxes n
def State.setBox (s : State) (n : Nat) (v : Mailbox) : State := { s with boxes := mapSet s.boxes n v }
def State.check (s : State) (n : Nat) : CheckUnit := mapGet CheckUnit.reset s.checks n
def State.setCheck (s : State) (n : Nat) (v : CheckUnit) : State := { s with checks := mapSet s.checks n v }
def State.stream (s : State) (i : Nat) : Option Stream := mapGet none s.streams i
def State.setStream (s : State) (i : Nat) (v : Option Stream) : State := { s with streams := mapSet s.streams i v }
def State.wave (s : State) (r slot : Nat) : Option Wave := mapGet none s.waves (r, slot)
def State.setWave (s : State) (r slot : Nat) (v : Option Wave) : State := { s with waves := mapSet s.waves (r, slot) v }
def State.unit (s : State) (u : Nat) : CtrlUnit :=
  mapGet { procs := [], renewSent := none, localExpiry := 0, resyncFrom := none, words := [], outSeq := 0, slotA := none,
           slotB := none, bootB := false, running := none, runsB := false } s.units u
def State.setUnit (s : State) (u : Nat) (v : CtrlUnit) : State := { s with units := mapSet s.units u v }
def State.session (s : State) (n : Nat) : Option Session := mapGet none s.sessions n
def State.setSession (s : State) (n : Nat) (v : Option Session) : State :=
  { s with sessions := mapSet s.sessions n v }

/-- The lease holder acts through its processor p (R341, R350, R355): it is active, no hold is in force, the processor is not restarting,
and its I/O die is not held by a base-zone reset (R399). -/
def State.cuActs (s : State) (p : Nat) : Bool :=
  match s.keeper.holder with
  | some u => s.obj .W0000 u == 0 && !s.compare.holding && !(s.iod (if u = 0 then 0 else 3)).held &&
      (mapGet { crashes := [], restarting := none } (s.unit u).procs p).restarting.isNone
  | none => false

/-- A unit shadows the holder, so that there is something to compare (R347, R352). -/
def State.shadowed (s : State) : Bool := [0, 1].any (fun u => s.keeper.holder != some u && s.obj .W0000 u == 1)

/-- A dispatch, a restoration or a promotion may take effect at its receiver: the comparator has passed it, or no unit is in standby (R348). -/
def State.passed (s : State) (kind content : Nat) : Bool := !s.shadowed || s.compare.passed.contains (kind, content)

/-- The receiver has acted on an output that was passed. -/
def State.takePassed (s : State) (kind content : Nat) : State :=
  { s with compare := { s.compare with passed := s.compare.passed.filter (fun e => e != (kind, content)) } }

/-- A unit writes its boot record: the older copy takes the new slot and is the newer from then on (R353, R357). -/
def CtrlUnit.writeBoot (c : CtrlUnit) (b : Bool) : CtrlUnit := { c with bootOld := c.bootB, bootB := b }

/-- Every admitted stream. -/
def State.streamList (s : State) : List Stream := s.streams.filterMap (fun p => p.2)

/-- The I/O die of a stream (R165). -/
def streamIod (id : Nat) : Nat := id % 4

/-- The I/O die that serves for a stream: IOD (i XOR 1) once its own was lost (R376). -/
def Stream.iod (x : Stream) : Nat := if x.moved then streamIod x.id ^^^ 1 else streamIod x.id

/-- Every wave in flight. -/
def State.waveList (s : State) : List Wave := s.waves.filterMap (fun p => p.2)

/-! ### Logical stacks and replicas (R182, R368, R387) -/

/-- The site of a logical stack (X.0F01), if it has one. -/
def State.siteOf (s : State) (stack : Nat) : Option Nat :=
  let p := s.obj .X0F01 stack
  if p < 112 then some p else none

/-- The logical stack at a site: the first of 0 to 95 that the map puts there. -/
def State.stackOf (s : State) (site : Nat) : Option Nat :=
  (List.range 96).find? (fun l => s.obj .X0F01 l == site)

/-- The replica of a logical stack (R182). -/
def replicaOf (stack : Nat) : Nat := stack / 48

/-- The sites of a replica. -/
def State.replicaSites (s : State) (r : Nat) : List Nat :=
  (List.range 48).filterMap (fun i => s.siteOf (48 * r + i))

/-! ### Time (R121) -/

/-- The slot number: the time counter divided by 64 (R121). -/
def State.slotNo (s : State) : Nat := s.time / 64

/-- The frame number: the time counter divided by 512 (R121). -/
def State.frameNo (s : State) : Nat := s.time / 512

/-- Port states of B.0601. -/
def portDark : Nat := 0
def portInService : Nat := 1
def portWithdrawn : Nat := 2
def portDormant : Nat := 3

/-- Bands of T.0120: 0 to 4 for B0 to B4, 5 off. -/
def bandB4 : Nat := 4
def bandOff : Nat := 5

/-- The band of a port's region (T.0120). -/
def State.band (s : State) (p : Nat) : Nat := s.obj .T0120 p

/-- A port is in service (R146, B.0601). -/
def State.inService (s : State) (p : Nat) : Bool := s.obj .B0601 p == portInService

/-- Change the first element that passes. -/
def mapFirst {α : Type} (f : α → Bool) (g : α → α) : List α → List α
  | [] => []
  | x :: r => if f x then g x :: r else x :: mapFirst f g r

/-- Keep the first element that passes apart from the rest, in order. -/
def takeFirst {α : Type} (f : α → Bool) : List α → Option (α × List α)
  | [] => none
  | x :: r => if f x then some (x, r) else match takeFirst f r with
    | none => none
    | some (y, q) => some (y, x :: q)

end Sys2Proof.Machine
end

