-- ==== Sys2Proof/Machine/Trees.lean ====
section
/-!
DEFINITION. Lamp sets and trees (R186 to R188, Table 8.2): which tree a set feeds, which set feeds a tree, partners and reserves. Sets
are numbered 6 × lamp die + set; wavelengths 0 to 3 are λ0 to λ3 and 4 is λC.
-/

namespace Sys2Proof.Machine

/-- Lasers 5s + w of a die belong to set s; 30 to 34 are the reserves (R186). -/
def laserDie (n : Nat) : Nat := n / 35
def laserSet (n : Nat) : Option Nat := if n % 35 < 30 then some (6 * (n / 35) + n % 35 / 5) else none
def laserWave (n : Nat) : Nat := n % 35 % 5

/-- The laser of a set and wavelength, and the reserve of a die and wavelength. -/
def laserOf (set w : Nat) : Nat := 35 * (set / 6) + 5 * (set % 6) + w
def reserveOf (die w : Nat) : Nat := 35 * die + 30 + w

/-- The base tree (plane, tree) that a set feeds (Table 8.2). -/
def baseTree (set : Nat) : Option (Nat × Nat) :=
  let q := set / 18
  let a := set / 6 % 3
  let i := set % 6
  if a = 0 then some (2 * q, i)
  else if a = 1 then (if i = 0 then some (2 * q, 6) else if i ≤ 3 then some (2 * q + 1, i - 1) else none)
  else if i ≤ 3 then some (2 * q + 1, 3 + i) else none

/-- The external tree (I/O die, 0 or 1) that a set feeds, and whether it is its alternate set (Table 8.2). -/
def extTree (set : Nat) : Option (Nat × Nat × Bool) :=
  if (baseTree set).isSome then none else some (set / 18, set % 6 - 4, set / 6 % 3 == 1)

/-- The set is the alternate of an external tree. -/
def isAlternate (set : Nat) : Bool :=
  match extTree set with
  | some (_, _, alt) => alt
  | none => false

/-- The set that feeds a base tree (Table 8.2). -/
def setOfTree (plane tree : Nat) : Nat :=
  let q := plane / 2
  if plane % 2 = 0 then (if tree < 6 then 18 * q + tree else 18 * q + 6)
  else if tree < 3 then 18 * q + 6 + tree + 1 else 18 * q + 12 + (tree - 3)

/-- The primary and the alternate set of an external tree. -/
def primarySet (iod e : Nat) : Nat := 18 * iod + 12 + 4 + e
def alternateSet (iod e : Nat) : Nat := 18 * iod + 6 + 4 + e

/-- The partner of a set: the same place at corner q XOR 3 (R188); of an external tree's sets, each other. -/
def partnerSet (set : Nat) : Nat :=
  match extTree set with
  | some (i, e, alt) => if alt then primarySet i e else alternateSet i e
  | none => 18 * ((set / 18) ^^^ 3) + set % 18

/-- The wavelengths that a set lights: an external set only λ1 (R187). -/
def litWaves (set : Nat) : List Nat := if (extTree set).isSome then [1] else [0, 1, 2, 3, 4]

/-- Where a tree takes a wavelength from. -/
def State.lightOf (s : State) (set w : Nat) : LightSrc := mapGet .own s.light (set, w)

/-- A lamp die is lost (L.0800). -/
def State.lampLost (s : State) (die : Nat) : Bool := s.obj .L0800 die == 2

/-- The own light of a set: its lamp die has its supply. -/
def State.setDark (s : State) (set w : Nat) : Bool := decide (s.lightOf set w = .dark)

/-- A base tree is dark on a wavelength (R207). -/
def State.treeDark (s : State) (plane tree : Nat) : Bool :=
  (litWaves (setOfTree plane tree)).any (fun w => s.setDark (setOfTree plane tree) w)

end Sys2Proof.Machine
end

