-- ==== Sys2Proof/Machine/Fp.lean ====
section
/-!
DEFINITION. The floating-point formats of chapter 2: encodings (R21), rounding (R25, R26), saturation (R29, R30), and the exact
arithmetic that every unit rounds from. A value is a sign, a natural significand and a power of two.
-/

namespace Sys2Proof.Machine

/-- A value of a format: finite is (−1)^neg × m × 2^e. -/
inductive Fv
  | poison | nan | inf (neg : Bool) | fin (neg : Bool) (m : Nat) (e : Int)
deriving DecidableEq, Repr, Inhabited

/-- The four floating-point formats of Table 2.2. -/
inductive Fmt
  | fp32 | bf16 | e4m3 | e5m2
deriving DecidableEq, Repr, Inhabited

def expBits : Fmt → Nat
  | .fp32 => 8 | .bf16 => 8 | .e4m3 => 4 | .e5m2 => 5
def manBits : Fmt → Nat
  | .fp32 => 23 | .bf16 => 7 | .e4m3 => 3 | .e5m2 => 2
def bias : Fmt → Int
  | .fp32 => 127 | .bf16 => 127 | .e4m3 => 7 | .e5m2 => 15
/-- Width in bits. -/
def fmtBits (f : Fmt) : Nat := 1 + expBits f + manBits f
/-- Width in bytes. -/
def fmtBytes (f : Fmt) : Nat := fmtBits f / 8
/-- The encoding of the largest finite magnitude (Table 2.2). -/
def maxFin : Fmt → Nat
  | .fp32 => 0x7F7FFFFF | .bf16 => 0x7F7F | .e4m3 => 0x7E | .e5m2 => 0x7B
/-- The encoding of +infinity; E4M3 has none (its overflow gives NaN, Table 2.4). -/
def infCode : Fmt → Nat
  | .fp32 => 0x7F800000 | .bf16 => 0x7F80 | .e4m3 => 0x7F | .e5m2 => 0x7C
/-- The canonical NaN (Table 2.2). -/
def nanCode (f : Fmt) : Nat := 2 ^ (fmtBits f - 1) - 1
/-- The poison code: the all-ones word (R24). -/
def poisonCode (f : Fmt) : Nat := 2 ^ fmtBits f - 1
/-- The exponent of the least significant bit of a subnormal. -/
def eMin (f : Fmt) : Int := 1 - bias f - manBits f

/-- Decode an encoding (R21, R24). -/
def decodeFp (f : Fmt) (w : Nat) : Fv :=
  let mb := manBits f
  let neg := w / 2 ^ (fmtBits f - 1) % 2 == 1
  let ex := w / 2 ^ mb % 2 ^ expBits f
  let man := w % 2 ^ mb
  if w % 2 ^ fmtBits f = poisonCode f then .poison
  else if ex + 1 = 2 ^ expBits f then
    match f with
    | .e4m3 => if man = 7 then .nan else .fin neg (8 + man) (ex - bias f - mb)
    | _ => if man = 0 then .inf neg else .nan
  else if ex = 0 then .fin neg man (eMin f)
  else .fin neg (2 ^ mb + man) (ex - bias f - mb)

/-- How a rounding goes: RNE (R25), or stochastic with a draw r (R26). -/
inductive Rnd
  | rne | stoch (r : Nat)
deriving DecidableEq, Repr, Inhabited

/-- Round n / d to an integer (R25, R26). -/
def roundRatio (md : Rnd) (n d : Nat) : Nat :=
  let q := n / d
  let r := n % d
  match md with
  | .rne => if d < 2 * r ∨ (2 * r = d ∧ q % 2 = 1) then q + 1 else q
  | .stoch k => if k < r * 65536 / d then q + 1 else q

/-- m × 2^e as a quotient of naturals. -/
def asRatio (m : Nat) (e : Int) : Nat × Nat :=
  if 0 ≤ e then (m * 2 ^ e.toNat, 1) else (m, 2 ^ (-e).toNat)

/-- Round a finite magnitude to a format: its encoding without sign, which may pass the largest finite one. -/
def packMag (f : Fmt) (md : Rnd) (m : Nat) (e : Int) : Nat :=
  if m = 0 then 0
  else
    let q := max ((Nat.log2 m : Int) + e - manBits f) (eMin f)
    let (n, d) := asRatio m (e - q)
    (q - eMin f).toNat * 2 ^ manBits f + roundRatio md n d

/-- Put the sign. -/
def withSign (f : Fmt) (neg : Bool) (w : Nat) : Nat := if neg then w + 2 ^ (fmtBits f - 1) else w

/-- Encode a value, rounding once and saturating as R29 and R30 and Table 2.4 say. -/
def encodeFp (f : Fmt) (sat : Bool) (md : Rnd) : Fv → Nat
  | .poison => poisonCode f
  | .nan => nanCode f
  | .inf neg => if sat then withSign f neg (maxFin f) else
      match f with
      | .e4m3 => nanCode f
      | _ => withSign f neg (infCode f)
  | .fin neg m e =>
      let w := packMag f md m e
      if w ≤ maxFin f then withSign f neg w
      else if sat then withSign f neg (maxFin f)
      else match f with
        | .e4m3 => nanCode f
        | _ => withSign f neg (infCode f)

/-- With saturation on, an infinite operand is first replaced by the largest finite value of its format (R29). -/
def satIn (f : Fmt) (sat : Bool) : Fv → Fv
  | .inf neg => if sat then
      match decodeFp f (maxFin f) with
      | .fin _ m e => .fin neg m e
      | v => v
    else .inf neg
  | v => v

/-- Decode an operand with R29's replacement. -/
def operand (f : Fmt) (sat : Bool) (w : Nat) : Fv := satIn f sat (decodeFp f w)

def negFv : Fv → Fv
  | .inf n => .inf (!n)
  | .fin n m e => .fin (!n) m e
  | v => v

/-- A finite value over a power of two 2^e0, as an integer (e0 at most its own exponent). -/
def scaled (neg : Bool) (m : Nat) (e e0 : Int) : Int :=
  let v : Int := m * 2 ^ (e - e0).toNat
  if neg then -v else v

/-- Exact sum: poison prevails, then NaN (R46); ∞ − ∞ is NaN; a zero sum of unlike signs is +0. -/
def addFv : Fv → Fv → Fv
  | .poison, _ => .poison
  | _, .poison => .poison
  | .nan, _ => .nan
  | _, .nan => .nan
  | .inf a, .inf b => if a = b then .inf a else .nan
  | .inf a, _ => .inf a
  | _, .inf b => .inf b
  | .fin a m e, .fin b n g =>
    let e0 := min e g
    let t := scaled a m e e0 + scaled b n g e0
    if t = 0 then .fin (a && b) 0 e0 else .fin (decide (t < 0)) t.natAbs e0

/-- Exact product: 0 × ∞ is NaN. -/
def mulFv : Fv → Fv → Fv
  | .poison, _ => .poison
  | _, .poison => .poison
  | .nan, _ => .nan
  | _, .nan => .nan
  | .inf a, .inf b => .inf (a != b)
  | .inf a, .fin b n _ => if n = 0 then .nan else .inf (a != b)
  | .fin a m _, .inf b => if m = 0 then .nan else .inf (a != b)
  | .fin a m e, .fin b n g => .fin (a != b) (m * n) (e + g)

/-- Order of finite and infinite values with −0 below +0 (R58, R142): a < b. -/
def ltFv : Fv → Fv → Bool
  | .inf a, .inf b => a && !b
  | .inf a, .fin .. => a
  | .fin .., .inf b => !b
  | .fin a m e, .fin b n g =>
    let e0 := min e g
    let x := scaled a m e e0
    let y := scaled b n g e0
    decide (x < y) || (decide (x = y) && decide (m = 0) && a && !b)
  | _, _ => false

/-- max with poison, then NaN, prevailing; max(+0, −0) = +0 (R58). -/
def maxFv : Fv → Fv → Fv
  | .poison, _ => .poison
  | _, .poison => .poison
  | .nan, _ => .nan
  | _, .nan => .nan
  | x, y => if ltFv x y then y else x

def minFv : Fv → Fv → Fv
  | .poison, _ => .poison
  | _, .poison => .poison
  | .nan, _ => .nan
  | _, .nan => .nan
  | x, y => if ltFv y x then y else x

def absFv : Fv → Fv
  | .inf _ => .inf false
  | .fin _ m e => .fin false m e
  | v => v

/-- A value rounded to FP32 with RNE, as a value again (R25, R29). -/
def round32 (sat : Bool) (v : Fv) : Fv := decodeFp .fp32 (encodeFp .fp32 sat .rne v)

/-- One FP32 add with one rounding. -/
def add32 (sat : Bool) (x y : Fv) : Fv := round32 sat (addFv x y)

/-- +0. -/
def zeroFv : Fv := .fin false 0 0

/-- The pairwise tree of R42 over 2^k values: neighbours 2j and 2j + 1 at each level. -/
def pairUp (f : Fv → Fv → Fv) : List Fv → List Fv
  | a :: b :: r => f a b :: pairUp f r
  | l => l

def treeSum (f : Fv → Fv → Fv) : Nat → List Fv → Fv
  | 0, l => l.headD zeroFv
  | k + 1, l => treeSum f k (pairUp f l)

/-- 1/x correctly rounded (Table 3.7): enough quotient bits and a sticky bit. -/
def recipFv : Fv → Fv
  | .inf n => .fin n 0 0
  | .fin n m e => if m = 0 then .inf n else
      let k := 64 + Nat.log2 m
      let q := 2 ^ k / m
      .fin n (2 * q + (if 2 ^ k % m = 0 then 0 else 1)) (-e - k - 1)
  | v => v

/-- √x correctly rounded; x < 0 gives NaN, √−0 = −0 (R58). -/
def sqrtFv : Fv → Fv
  | .inf n => if n then .nan else .inf false
  | .fin n m e => if m = 0 then .fin n 0 0 else if n then .nan else
      let m' := if e % 2 = 0 then m else 2 * m
      let e' := if e % 2 = 0 then e else e - 1
      let x := m' * 4 ^ 40
      let q := Nat.sqrt x
      .fin false (2 * q + (if q * q = x then 0 else 1)) (e' / 2 - 41)
  | v => v

/-! ### The generator (R27) -/

/-- One advance of the xorshift generator (R27). -/
def xorshift (x : BitVec 32) : BitVec 32 :=
  let a := x ^^^ (x <<< 13)
  let b := a ^^^ (a >>> 17)
  b ^^^ (b <<< 5)

/-- The draw after an advance: x[31:16] (R27). -/
def drawOf (x : BitVec 32) : Nat := x.toNat / 65536

/-- The seed of a wave for a tile (R27). -/
def seedRng (seed : BitVec 32) (wave stack tile : Nat) : BitVec 32 :=
  let x := seed ^^^ BitVec.ofNat 32 (wave % 65536 * 65536) ^^^ BitVec.ofNat 32 (stack * 64) ^^^ BitVec.ofNat 32 tile
  if x = 0 then 1 else x

/-- `n` draws: the values and the generator after them. -/
def draws : Nat → BitVec 32 → List Nat × BitVec 32
  | 0, x => ([], x)
  | n + 1, x =>
    let y := xorshift x
    let (l, z) := draws n y
    (drawOf y :: l, z)

/-! ### The G6 block format (R31 to R35) -/

/-- A G6 block: sixteen 6-bit codes and the scale byte. -/
structure G6 where
  q : List (BitVec 6)
  scale : Nat
deriving DecidableEq, Repr, Inhabited

/-- Significand M of a scale byte (Table 2.5). -/
def scaleM (b : Nat) : Nat := if b / 8 = 0 then b % 8 else 8 + b % 8
/-- Exponent e of a scale byte, read as 1 when it is 0. -/
def scaleE (b : Nat) : Nat := if b / 8 = 0 then 1 else b / 8
/-- Scales 0xF8 to 0xFF are block NaN (Table 2.5). -/
def scaleNaN (b : Nat) : Bool := decide (0xF8 ≤ b)

/-- The value of an element (R32, R35): q × 2⁻⁴ × S. In a block of scale 0x00 a negative q gives −0: R32 says only that the block is zero.
DESIGN CHOICE (log 91). -/
def g6Val (blk : G6) (i : Nat) : Fv :=
  let q := blk.q.getD i 0
  if q = 0x20#6 then .poison
  else if scaleNaN blk.scale then .nan
  else .fin (decide (q.toInt < 0)) (q.toInt.natAbs * scaleM blk.scale) ((scaleE blk.scale : Int) - 22)

/-- Compare m × 2^e with k: `a ≤ b` for dyadics. -/
def leDyadic (m : Nat) (e : Int) (n : Nat) (g : Int) : Bool :=
  let e0 := min e g
  decide (m * 2 ^ (e - e0).toNat ≤ n * 2 ^ (g - e0).toNat)

/-- The smallest finite scale whose value S gives 31 × S ≥ 16 × amax (R34). -/
def pickScale (m : Nat) (e : Int) : Nat :=
  ((List.range 0xF8).find? (fun b => leDyadic (16 * m) e (31 * scaleM b) ((scaleE b : Int) - 18))).getD 0xF7

/-- round(16 × x / S) for a scale byte with M ≠ 0. -/
def quantise (md : Rnd) (neg : Bool) (m : Nat) (e : Int) (b : Nat) : Int :=
  let (n, d) := asRatio (16 * m) (e - ((scaleE b : Int) - 18))
  let q : Int := roundRatio md n (d * scaleM b)
  if neg then -q else q

/-- Conversion of 16 values to a G6 block (R34); `rs` is the rounding of each element. -/
def toG6 (sat : Bool) (rs : List Rnd) (xs : List Fv) : G6 :=
  let put (blockNaN : Bool) (scale : Nat) (f : Nat → Fv → Int) : G6 :=
    { q := (xs.zipIdx).map (fun p => match p.1 with
        | .poison => 0x20#6
        | v => if blockNaN then 0 else BitVec.ofInt 6 (f p.2 v))
      scale := scale }
  let bad := xs.any (fun v => v == .nan)
  let infs := xs.any (fun v => match v with | .inf _ => true | _ => false)
  let amax := xs.foldl (fun a v => match v with
    | .fin _ m e => if ltFv a (.fin false m e) then .fin false m e else a
    | _ => a) zeroFv
  match amax with
  | .fin _ m e =>
    if bad then put true 0xFF (fun _ _ => 0)
    else if infs && !sat then put true 0xFF (fun _ _ => 0)
    else if m = 0 then put true 0 (fun _ _ => 0)
    else if !leDyadic (16 * m) e (31 * 61440) 0 then
      if sat then put false 0xF7 (fun i v => match v with
        | .fin n m' e' => max (-31) (min 31 (quantise (rs.getD i .rne) n m' e' 0xF7))
        | _ => 0)
      else put true 0xFF (fun _ _ => 0)
    else
      let b := pickScale m e
      put false b (fun i v => match v with
        | .fin n m' e' => quantise (rs.getD i .rne) n m' e' b
        | _ => 0)
  | _ => put true 0xFF (fun _ _ => 0)

/-! ### Dense accumulation (R39) -/

/-- Groups of `n`. -/
def chunks {α : Type} (n : Nat) : Nat → List α → List (List α)
  | 0, _ => []
  | k + 1, l => l.take n :: chunks n k (l.drop n)

/-- A zero of either sign becomes +0: a fixed-point register has one zero. -/
def plusZero : Fv → Fv
  | .fin _ 0 e => .fin false 0 e
  | v => v

/-- One dense output element (R39): `ps` are the exact products in increasing K. FP8: groups of 32 exact, rounded once.
BF16: each product rounded, groups of 8 in the pairwise tree. -/
def denseAcc (sat bf : Bool) (acc : Fv) (ps : List Fv) : Fv :=
  if bf then
    (chunks 8 (ps.length / 8) ps).foldl
      (fun a g => add32 sat a (treeSum (add32 sat) 3 (g.map (round32 sat)))) acc
  else
    (chunks 32 (ps.length / 32) ps).foldl
      (fun a g => add32 sat a (round32 sat (plusZero (g.foldl addFv zeroFv)))) acc

/-! ### Bin accumulation (R41, R42) -/

/-- t / 2^k rounded to nearest, ties to even, for a signed t. -/
def roundEvenShift (t : Int) (k : Nat) : Int :=
  let q : Int := roundRatio .rne t.natAbs (2 ^ k)
  if t < 0 then -q else q

/-- The reference exponent of four scales (R41). -/
def binRef (scales : List Nat) : Int :=
  let live := scales.filter (fun b => scaleM b ≠ 0)
  match live with
  | [] => 1
  | b :: r =>
    let mn := r.foldl (fun a c => min a (scaleE c : Int)) (scaleE b)
    let mx := r.foldl (fun a c => max a (scaleE c : Int)) (scaleE b)
    max mn (mx - 12)

/-- The term of element i (R41): q × M shifted to the reference exponent. -/
def binTerm (eref : Int) (scale : Nat) (q : BitVec 6) : Int :=
  let t : Int := q.toInt * scaleM scale
  let d : Int := scaleE scale - eref
  if 0 ≤ d then t * 2 ^ d.toNat else roundEvenShift t (-d).toNat

/-- The bins of a grain (R41): four blocks, 64 indices. -/
def bins (blks : List G6) (idx : List Nat) : List Int :=
  let eref := binRef (blks.map (fun b => b.scale))
  (List.range 16).map (fun k =>
    (idx.zipIdx).foldl (fun a p =>
      if p.1 = k then
        let blk := blks.getD (p.2 / 16) default
        a + binTerm eref blk.scale (blk.q.getD (p.2 % 16) 0)
      else a) 0)

/-- A grain's block sum (R42) from its codebook entries, with poison and NaN of R46. -/
def grainSum (sat : Bool) (blks : List G6) (idx : List Nat) (entry : Nat → Fv) : Fv :=
  let eref := binRef (blks.map (fun b => b.scale))
  let bs := bins blks idx
  let poisoned := (idx.zipIdx).any (fun p => (blks.getD (p.2 / 16) default).q.getD (p.2 % 16) 0 == 0x20#6)
  let nanBlk := blks.any (fun b => scaleNaN b.scale)
  let ps := (List.range 16).map (fun k =>
    if idx.contains k then
      let b := bs.getD k 0
      let x := if b = 0 then zeroFv else Fv.fin (decide (b < 0)) b.natAbs (eref - 22)
      round32 sat (mulFv (entry k) x)
    else zeroFv)
  let sum := treeSum (add32 sat) 4 ps
  if poisoned || sum == .poison then .poison else if nanBlk then .nan else sum

end Sys2Proof.Machine
end

