-- ==== Sys2Proof/Machine/Operands.lean ====
section
/-!
DEFINITION. The operand forms of the tile's steps: fields of the step word (Tables 3.2 to 3.12), effective addresses (R53),
the regions each step reads and writes, and the elements, G6 blocks and grains that stand in them (R33, R37, R45, R55, R57).
-/

namespace Sys2Proof.Machine

/-! ### The step word (R52) -/

def stepClass (w : StepWord) : Nat := fld w 0 4
def stepOp (w : StepWord) : Nat := fld w 4 4
def stepGap (w : StepWord) : Nat := fld w 8 8
def stepTrace (w : StepWord) : Bool := bit w 16

/-- The class and op codes of Table 3.3. -/
def assigned (cls op : Nat) : Bool :=
  match cls with
  | 1 => decide (op ≤ 8)
  | 2 => decide (op ≤ 1)
  | 3 => decide (op ≤ 5)
  | 4 => decide (op ≤ 1)
  | 5 => decide (op ≤ 1)
  | 6 => decide (op ≤ 1)
  | 7 => decide (op ≤ 1)
  | 8 => decide (op ≤ 1)
  | 9 => decide (op = 0)
  | _ => false

/-- The trap codes of Table 3.13. -/
def trIllegalStep : Nat := 0x01
def trStepField : Nat := 0x02
def trStoreRange : Nat := 0x03
def trVaultRange : Nat := 0x04
def trBankAsleep : Nat := 0x05
def trWriteClash : Nat := 0x06
def trFurrowLate : Nat := 0x07
def trFurrowOverrun : Nat := 0x08
def trFurrowTag : Nat := 0x09
def trTransferFailed : Nat := 0x0A
def trTallyTimeout : Nat := 0x0B
def trWeightData : Nat := 0x0C
def trLoopDepth : Nat := 0x0D
def trTagBusy : Nat := 0x0E
def trPhaseViolation : Nat := 0x0F
def trDeliberate : Nat := 0x10
def trStepUnderrun : Nat := 0x11
def trStallLimit : Nat := 0x12

/-- a / b rounded up. -/
def ceilDiv (a b : Nat) : Nat := (a + b - 1) / b

/-- The register IXn (R53). -/
def Tile.ixReg (t : Tile) (n : Nat) : IxReg := mapGet { val := 0, stride := 0 } t.ix n

/-- WPw (R50). -/
def Tile.wpReg (t : Tile) (n : Nat) : BitVec 32 := mapGet 0 t.wp n

/-- The effective address of the operand reference at bit `lo` (R53): no wrap. -/
def Tile.ea (t : Tile) (w : StepWord) (lo : Nat) : Nat :=
  fld w lo 17 + (if fld w (lo + 17) 3 = 0 then 0 else (t.ixReg (fld w (lo + 17) 3)).val)

/-- Two regions share a unit. -/
def Region.meets (a b : Region) : Bool := decide (a.base < b.base + b.len) && decide (b.base < a.base + a.len)

/-- The banks a region touches (128 KiB each, 4,096 units). -/
def Region.banks (r : Region) : List Nat :=
  if r.len = 0 then [] else (List.range 32).filter (fun b => decide (r.base / 4096 ≤ b) && decide (b ≤ (r.base + r.len - 1) / 4096))

/-! ### Matrix operands (R54, R55) -/

/-- Sizes of a matrix step: M, N, K. -/
def denseM (w : StepWord) : Nat := 4 * (fld w 78 8 + 1)
def denseN (w : StepWord) : Nat := 32 * (fld w 86 8 + 1)
def denseK (w : StepWord) : Nat := 32 * (fld w 94 8 + 1)
def denseLd (w : StepWord) : Bool := bit w 106
def binM (w : StepWord) : Nat := fld w 98 8 + 1
def binN (w : StepWord) : Nat := 128 * (fld w 106 8 + 1)
def binK (w : StepWord) : Nat := 64 * (fld w 114 8 + 1)
def binLd (w : StepWord) : Bool := bit w 122

/-- Cycles of a matrix step (R56), without bank conflicts. -/
def matrixCycles (w : StepWord) : Nat :=
  if stepOp w = 0 then
    14 + (if fld w 102 2 = 2 then 4 else 1) * (denseM w / 4) * (denseN w / 32) * (denseK w / 32)
  else 22 + binN w / 128 * (binK w / 64) * max (binM w) 2

/-- Formats fa and fb: 0 E4M3, 1 E5M2, 2 BF16 (Table 3.4). -/
def mFmt (n : Nat) : Fmt := if n = 0 then .e4m3 else if n = 1 then .e5m2 else .bf16

/-- Units of a bin vector: ceil(K/512) runs of 13 units (R33, R55). -/
def binVecUnits (w : StepWord) : Nat := ceilDiv (binK w) 512 * 13

/-! ### Vector operands (R57) -/

def vecL (w : StepWord) : Nat := fld w 98 16 + 1
def vecRows (w : StepWord) : Nat := fld w 114 10 + 1
def vecFn (w : StepWord) : Nat := fld w 124 4
def cvtRnd (w : StepWord) : Nat := fld w 38 2
def cvtSrc (w : StepWord) : Nat := fld w 40 3
def cvtDst (w : StepWord) : Nat := fld w 43 3

/-- Formats of Table 3.6 below G6. -/
def vFmt (n : Nat) : Fmt := if n = 0 then .fp32 else if n = 1 then .bf16 else if n = 2 then .e4m3 else .e5m2

/-- Units from one row to the next for a format code of Table 3.6 (R57). -/
def rowUnits (fmt l : Nat) : Nat := if fmt = 4 then ceilDiv l 512 * 13 else ceilDiv (l * fmtBytes (vFmt fmt)) 32

/-- Units of a row-scalar operand. -/
def scalarUnits (rows : Nat) : Nat := ceilDiv (rows * 4) 32

/-- The rows region of a format. -/
def rowsRegion (base fmt l rows : Nat) : Region := { base := base, len := rowUnits fmt l * rows }

/-- Which of Y and Z a vector op reads and how: 0 not, 1 rows, 2 row scalars, 3 the frequency vector of R60. -/
def vecY (op fn : Nat) : Nat :=
  match op with
  | 0 => if fn ≤ 5 then 1 else if fn = 8 ∨ fn = 9 then 2 else if fn = 10 then 1 else 0
  | 3 => 2
  | 4 => 2
  | _ => 0
def vecZ (op fn : Nat) : Nat :=
  match op with
  | 0 => if fn = 3 ∨ fn = 10 then 1 else 0
  | 3 => if fn = 1 then 2 else 0
  | 4 => 3
  | _ => 0

/-- The fn values that Table 3.7 gives an op. -/
def fnAssigned (op fn : Nat) : Bool :=
  match op with
  | 0 => decide (fn ≤ 11)
  | 1 => decide (fn ≤ 10)
  | 2 => decide (fn ≤ 2)
  | 3 => decide (fn ≤ 1)
  | _ => decide (fn = 0)

/-- Elements per cycle of Table 3.7; rotary counts pairs. -/
def vecRate (op : Nat) : Nat := if op = 1 ∨ op = 3 then 128 else 256

/-- The regions a vector step reads. -/
def vecReads (t : Tile) (w : StepWord) : List Region :=
  let op := stepOp w
  let fn := vecFn w
  let l := vecL w
  let rows := vecRows w
  let side (k base : Nat) : List Region :=
    if k = 1 then [rowsRegion base 0 l rows] else if k = 2 then [{ base := base, len := scalarUnits rows }]
    else if k = 3 then [{ base := base, len := ceilDiv (l / 2 * 4) 32 }] else []
  rowsRegion (t.ea w 18) (if op = 5 then cvtSrc w else 0) l rows :: (side (vecY op fn) (t.ea w 38) ++ side (vecZ op fn) (t.ea w 58))

/-- The region a vector step writes. -/
def vecWrites (t : Tile) (w : StepWord) : List Region :=
  if stepOp w = 2 then [{ base := t.ea w 78, len := scalarUnits (vecRows w) }]
  else [rowsRegion (t.ea w 78) (if stepOp w = 5 then cvtDst w else 0) (vecL w) (vecRows w)]

/-! ### Elements in the tile store (R45) -/

/-- The mark of a tile-store unit. -/
def State.storeMark (s : State) (site tl unit : Nat) : Bool := mapGet false s.poison (storeAddr site tl unit)

/-- `n` bytes at byte `b` past unit `base` of a tile store, little-endian. -/
def State.storeNum (s : State) (site tl base b n : Nat) : Nat :=
  memNum s.mem (storeAddr site tl (base + b / 32) + b % 32) n

/-- Element i of an array of a format packed from unit `base`, before R29: poison if its unit is marked (R45). -/
def State.rawElem (s : State) (site tl : Nat) (f : Fmt) (base i : Nat) : Fv :=
  let b := i * fmtBytes f
  if s.storeMark site tl (base + b / 32) then .poison
  else decodeFp f (s.storeNum site tl base b (fmtBytes f))

/-- The same with R29's replacement of an infinite operand. -/
def State.elem (s : State) (site tl : Nat) (sat : Bool) (f : Fmt) (base i : Nat) : Fv :=
  satIn f sat (s.rawElem site tl f base i)

/-- Any unit that holds bytes b to b + n − 1 past `base` is marked. -/
def State.bytesMarked (s : State) (site tl base b n : Nat) : Bool :=
  (List.range ((b + n - 1) / 32 - b / 32 + 1)).any (fun k => s.storeMark site tl (base + b / 32 + k))

/-- G6 block n of the runs that begin at unit `base` (R33); wholly poison when it lies partly in a marked unit (R45). -/
def State.g6Block (s : State) (site tl base n : Nat) : G6 :=
  let r := base + n / 32 * 13
  let b := n % 32
  if s.bytesMarked site tl r (12 * b) 12 || s.storeMark site tl (r + 12) then
    { q := List.replicate 16 0x20#6, scale := 0 }
  else
    let e := s.storeNum site tl r (12 * b) 12
    { q := (List.range 16).map (fun i => BitVec.ofNat 6 (e / 64 ^ i))
      scale := s.storeNum site tl r (384 + b) 1 }

/-! ### Grain segments (R36 to R38, R55) -/

/-- What the walk of a row's segment meets; `asleep`: a unit of a bank that cannot be read now. -/
inductive RowWalk
  | value (v : Fv)
  | malformed (block : Nat)
  | asleep (unit : Nat)
deriving DecidableEq, Repr

/-- The bank of a unit can be read. -/
def Tile.awake (t : Tile) (unit : Nat) : Bool :=
  match mapGet { st := .on, change := none } t.banks (unit / 4096) with
  | { st := .on, change := none } => true
  | _ => false

/-- Index width of a grain code (Table 2.6). -/
def grainWidth (code : Nat) : Nat := code + 1

/-- Codebook entry k of codebook n (R36); poison in a marked unit (R45). -/
def State.codebook (s : State) (site tl : Nat) (sat : Bool) (lib n k : Nat) : Fv := s.elem site tl sat .e4m3 lib (16 * n + k)

/-- The 2-bit grain code of codebook n (R36), none when its unit is marked. -/
def State.grainCode (s : State) (site tl lib n : Nat) : Option Nat :=
  if s.bytesMarked site tl lib (65536 + n / 4) 1 then none
  else some (s.storeNum site tl lib (65536 + n / 4) 1 / 4 ^ (n % 4) % 4)

/-- Walk `k` grains of a segment from block `n`, whose indices begin at byte `o` of the index stream, for the vector at
`vec`: the accumulator after each (R42), the first malformed block, or the first unit in a bank that cannot be read. A
poisoned index stretch makes the accumulator poison; a poisoned identifier or grain code hides where the later blocks stand (R45, R46). -/
def State.walkRow (s : State) (site tl : Nat) (t : Tile) (lib ids idx vec : Nat) : Nat → Nat → Nat → Fv → RowWalk
  | 0, _, _, acc => .value acc
  | k + 1, n, o, acc =>
    let ub := ids + 12 * n / 8 / 32
    if 2 ^ 17 ≤ ids + (12 * n / 8 + 1) / 32 then .malformed n
    else if !t.awake ub then .asleep ub
    else if !t.awake (ids + (12 * n / 8 + 1) / 32) then .asleep (ids + (12 * n / 8 + 1) / 32)
    else if s.bytesMarked site tl ids (12 * n / 8) 2 then .value .poison
    else
      let cb := s.storeNum site tl ids (12 * n / 8) 2 / 2 ^ (12 * n % 8) % 4096
      match s.grainCode site tl lib cb with
      | none => .value .poison
      | some 0 => .malformed n
      | some code =>
        let w := grainWidth code
        if 2 ^ 17 ≤ idx + (o + 8 * w - 1) / 32 then .malformed n
        else if !t.awake (idx + o / 32) then .asleep (idx + o / 32)
        else if !t.awake (idx + (o + 8 * w - 1) / 32) then .asleep (idx + (o + 8 * w - 1) / 32)
        else if s.bytesMarked site tl idx o (8 * w) then s.walkRow site tl t lib ids idx vec k (n + 1) (o + 8 * w) .poison
        else
          let num := memNum s.mem (storeAddr site tl (idx + o / 32) + o % 32) (8 * w)
          let sel := (List.range 64).map (fun i => num / 2 ^ (w * i) % 2 ^ w)
          let blks := (List.range 4).map (fun j => s.g6Block site tl vec (4 * n + j))
          let sum := grainSum t.sat blks sel (s.codebook site tl t.sat lib cb)
          s.walkRow site tl t lib ids idx vec k (n + 1) (o + 8 * w) (add32 t.sat acc sum)

/-! ### Results in the tile store (R57, R71) -/

/-- Put values of `z` bytes each into a number, the first lowest. -/
def packNum (z : Nat) : List Nat → Nat
  | [] => 0
  | v :: r => v % 2 ^ (8 * z) + 2 ^ (8 * z) * packNum z r

/-- A packed array as 32-B units; what it does not fill of its last unit is the free value `pad` of that unit. -/
def packUnits (z : Nat) (l : List Nat) (pad : Nat → BitVec 256) : List Cell32 :=
  let n := packNum z l
  let len := l.length * z
  (List.range (ceilDiv len 32)).map (fun u =>
    let used := min 32 (len - 32 * u)
    { data := BitVec.ofNat 256 (n / 2 ^ (256 * u) % 2 ^ (8 * used) + (pad u).toNat / 2 ^ (8 * used) * 2 ^ (8 * used)), mark := false })

/-- The units of G6 blocks in runs of 32, the last run filled with zero blocks (R33). -/
def g6Units (l : List G6) : List Cell32 :=
  let runs := ceilDiv l.length 32
  ((List.range runs).map (fun r =>
    let blks := (List.range 32).map (fun i => l.getD (32 * r + i) { q := List.replicate 16 0, scale := 0 })
    let n := packNum 12 (blks.map (fun b => (b.q.zipIdx.map (fun p => p.1.toNat * 64 ^ p.2)).sum)) +
      2 ^ (8 * 384) * packNum 1 (blks.map (fun b => b.scale))
    (List.range 13).map (fun u => ({ data := BitVec.ofNat 256 (n / 2 ^ (256 * u)), mark := false } : Cell32)))).flatten

/-- Write units into a tile store. -/
def State.putStore (s : State) (site tl base : Nat) (l : List Cell32) : State := s.putUnits (storeAddr site tl base) l

/-- Read units of a tile store. -/
def State.getStore (s : State) (site tl base n : Nat) : List Cell32 := s.unitsAt (storeAddr site tl base) n

end Sys2Proof.Machine
end

