-- ==== Sys2Proof/Machine/Issue.lean ====
section
/-!
DEFINITION. Issue of a tile's steps (R49, R52, R53, R64, R65, R67, R72), traps and their records (R69, Table 3.14), trace records
(R361), and what follows when a step leaves a unit: blocks of issue that end and bank changes that begin.
-/

namespace Sys2Proof.Machine

/-- Plane states of B.0600. -/
def planeRetired : Nat := 1

/-- The plane that carries what names plane p: p XOR 1 once p is retired (R148). -/
def State.effPlane (s : State) (p : Nat) : Nat :=
  if s.obj .B0600 p = planeRetired ∧ (s.market p).retiredAt ≤ s.frameNo then p ^^^ 1 else p

/-! ### Traps (R69) -/

/-- The trap record as the 32-B value of Table 3.14. -/
def TrapRec.num (r : TrapRec) : Nat :=
  r.code + 2 ^ 8 * r.cls + 2 ^ 12 * r.op + 2 ^ 16 * r.tile + 2 ^ 22 * r.stack + 2 ^ 32 * r.index + 2 ^ 64 * r.wave +
  2 ^ 96 * r.time + 2 ^ 160 * r.detailA + 2 ^ 192 * r.cycles

/-- W comes after W' under the comparison of wave numbers modulo 2³² (R287). -/
def waveAfter (w w' : Nat) : Bool :=
  let d := (w + 2 ^ 32 - w' % 2 ^ 32) % 2 ^ 32
  decide (d ≠ 0) && decide (d < 2 ^ 31)

/-- Tile cycles since the wave's first issue (Table 3.14). -/
def Tile.runCycles (t : Tile) (cyc : Nat) : Nat := if t.issued then cyc - t.firstCycle else 0

/-! ### Waits (R65) -/

/-- Cycles since the wave's first issue in which the next step, with this gap, waited for a cause of Table 3.17 (R65): those of a block of
issue, those of one that ended after the gap had passed, and those since the step was first held at issue. -/
def Tile.waitedGap (t : Tile) (gap cyc : Nat) : Nat :=
  if !t.issued || t.trapped then 0
  else if t.block.isSome then cyc - (t.lastIssue + gap)
  else (if t.blockEnd = 0 then 0 else t.blockEnd - (t.lastIssue + gap)) + (match t.wait with
    | some v => cyc - v.cycle
    | none => 0)

/-- The same for a step. -/
def Tile.waited (t : Tile) (w : StepWord) (cyc : Nat) : Nat := t.waitedGap (max 1 (stepGap w)) cyc

/-- Cycles of a wait on the priority bucket that end now, because the step issues, another cause holds it, or the wait ends (R65). -/
def Tile.bucketWaited (t : Tile) (cyc : Nat) : Nat :=
  match t.wait with
  | some v => if v.cause = 4 then cyc - v.since else 0
  | none => 0

/-- Add to a counter; nothing to add leaves it as it is. -/
def State.count (s : State) (o : Obj) (i n : Nat) : State := if n = 0 then s else s.bump o i n

/-- What ECC finds where a tile store is read (R19, R44, R71): of the units that are read, those it cannot correct are marked, and the words
it corrects are counted. -/
def State.storeEcc (s : State) (site tl : Nat) (read : Nat → Bool) (e : Ecc) : State :=
  ((e.ue.filter (fun u => decide (u < 2 ^ 17) && read u)).foldl (fun s u => s.setMark (storeAddr site tl u) true) s).count .S0307 site e.ce

/-- A unit stands in one of the regions. -/
def inRegions (l : List Region) (u : Nat) : Bool := l.any (fun r => decide (r.base ≤ u) && decide (u < r.base + r.len))

/-- A wait of a tile is over: S.0302 and S.0405 count it. -/
def State.countWait (s : State) (site tl gap : Nat) : State :=
  let t := s.tile site tl
  let cyc := (s.site site).cycles
  if t.wait.isNone && t.block.isNone && t.blockEnd == 0 then s
  else ((s.count .S0302 site (t.waitedGap gap cyc)).count .S0405 site (t.bucketWaited cyc)).setTile site tl { t with wait := none, blockEnd := 0 }

/-- A tile traps: its record waits to be sent, S.0300 counts it, and S.0301 takes it when its wave is the first or a later
one in which the die trapped (R69).
At a site that holds no logical stack the record names stack 0. DESIGN CHOICE (log 19). -/
def State.trapTile (s : State) (site tl code detail cls op index : Nat) : State :=
  let s := s.countWait site tl 1
  let t := s.tile site tl
  let p := s.site site
  let r : TrapRec :=
    { code := code, cls := cls, op := op, tile := tl, stack := (s.stackOf site).getD 0, index := index, wave := t.wave,
      time := s.time, detailA := detail % 2 ^ 32, cycles := t.runCycles p.cycles }
  let first := match p.trapWave with
    | none => true
    | some w => waveAfter t.wave w
  let s := s.setTile site tl { t with
    trapped := true, traps := t.traps ++ [r], wait := none, recWait := if t.bucket = 0 then t.recWait.or (some p.cycles) else t.recWait }
  let s := s.bump .S0300 site 1
  if first then (s.setSite site { p with trapWave := some t.wave }).setObj .S0301 site r.num else s

/-! ### Trace records (R361) -/

/-- Table 14.9's record. -/
def traceNum (time wave index stack tl : Nat) (mark : Bool) (id : Nat) : List Nat :=
  [time, wave, index, stack, tl, if mark then 1 else 0, id]

/-- A record of a site enabled in W.0012; at most one per µs, the others dropped and counted. -/
def State.traceRecord (s : State) (site tl index : Nat) (mark : Bool) (id : Nat) : State :=
  if !bitGet (s.obj .W0012 0) site then s
  else if dueEvent ((s.log.traceAt.find? (fun p => p.1 == site)).map (fun p => p.2)) s.time 1000 then
    { s with log := { s.log with
        trace := (traceNum s.time (s.tile site tl).wave index ((s.stackOf site).getD 0) tl mark id :: s.log.trace).take 16384
        traceAt := mapSet s.log.traceAt site s.time } }
  else
    let s := s.bump .W0014 0 1
    if dueEvent s.log.traceEv s.time 1000000 then
      ({ s with log := { s.log with traceEv := some s.time } }).raise evTraceDropped site [site, s.obj .W0014 0]
    else s

/-! ### The scoreboard and the banks (R65, R72) -/

/-- A region of the scoreboard stands in bank b. -/
def Tile.holdsBank (t : Tile) (b : Nat) : Bool :=
  t.sb.any (fun e => (e.reads ++ e.writes).any (fun r => r.banks.contains b))

/-- The state and pending change of a bank. -/
def Tile.bank (t : Tile) (b : Nat) : Bank := mapGet { st := .on, change := none } t.banks b

/-- The time a change takes once it has begun (Table 3.15). -/
def bankTime (st target : BankSt) : Nat :=
  match target, st with
  | .on, .off => 2000
  | .on, _ => 100
  | _, _ => 50

/-- A step that needs this bank waits: it changes to on (R72). -/
def Bank.waking (b : Bank) : Bool :=
  match b.change with
  | some c => decide (c.target = .on)
  | none => false

/-- A step or arriving write that reaches the bank raises BANK_ASLEEP (R72). -/
def Bank.asleep (b : Bank) : Bool :=
  match b.change with
  | some c => decide (c.target ≠ .on)
  | none => decide (b.st ≠ .on)

/-- Changes to retention or off begin once no entry of the scoreboard holds the bank (R72). -/
def Tile.beginBanks (t : Tile) (now : Nat) : Tile :=
  { t with banks := t.banks.map (fun p => match p.2.change with
      | some c => if c.doneAt = none ∧ ¬ t.holdsBank p.1 then
          (p.1, { p.2 with change := some { c with doneAt := some (now + bankTime p.2.st c.target) } })
        else p
      | none => p) }

/-- A BANKPWR request for one bank (R72): it replaces a change that has not begun, follows one that has, and does nothing
when its target is the state then in force. -/
def Bank.request (b : Bank) (target : BankSt) (held : Bool) (now : Nat) : Bank :=
  match b.change with
  | some c =>
    match c.doneAt with
    | some _ => { b with change := some { c with next := if target = c.target then none else some target } }
    | none => if target = b.st then { b with change := none }
        else { b with change := some { target := target, next := none
                                       doneAt := if target ≠ .on ∧ held then none else some (now + bankTime b.st target) } }
  | none => if target = b.st then b
      else { b with change := some { target := target, next := none
                                     doneAt := if target ≠ .on ∧ held then none else some (now + bankTime b.st target) } }

/-! ### Blocks of issue that end (R64) -/

/-- The code a tag ended with, if it has. -/
def Tile.tagSt (t : Tile) (n : Nat) : TagSt := mapGet .free t.tags n

/-- No tag of the mask is busy. -/
def Tile.tagsDone (t : Tile) (mask : Nat) : Bool :=
  (List.range 32).all (fun n => !bitGet mask n || (match t.tagSt n with | .busy => false | _ => true))

/-- The first tag of the mask that ended with a code other than OK or POISONED, and its code (R64). -/
def Tile.tagFailed (t : Tile) (mask : Nat) : Option (Nat × Code) :=
  (List.range 32).findSome? (fun n => if bitGet mask n then
    (match t.tagSt n with
      | .done .ok => none
      | .done .poisoned => none
      | .done c => some (n, c)
      | _ => none) else none)

/-- Retire the tags of a mask (R64). -/
def Tile.retire (t : Tile) (mask : Nat) : Tile :=
  { t with tags := t.tags.filter (fun p => !bitGet mask p.1 || (match p.2 with | .busy => true | _ => false)) }

/-- Every unit is idle and no tag is busy (a FENCE, Table 3.12). -/
def Tile.allIdle (t : Tile) : Bool :=
  t.mq.isEmpty && t.vq.isEmpty && t.fq.isEmpty && t.async.isEmpty && t.tagsDone (2 ^ 32 - 1) && t.recv.isNone

/-- The index of the step that holds issue. -/
def Tile.blockedIndex (t : Tile) : Nat := (t.wait.map (fun v => v.index)).getD t.pc

/-- After a completion: a WAIT whose tags have completed retires them, or raises TRANSFER_FAILED with the first failed tag
and its code; a FENCE ends once every unit is idle; banks whose steps have left the scoreboard begin to change. -/
def State.settle (s : State) (site tl : Nat) : State :=
  let t := (s.tile site tl).beginBanks s.time
  let s := s.setTile site tl t
  let cyc := (s.site site).cycles
  match t.block with
  | some (.wait mask) =>
    if t.tagsDone mask then
      let s := s.setTile site tl ({ t with block := none, wait := none, blockEnd := cyc }.retire mask)
      match t.tagFailed mask with
      | some (n, c) => s.trapTile site tl trTransferFailed (n + 256 * codeNum c) 1 1 t.blockedIndex
      | none => s
    else s
  | some .fence => if t.allIdle then s.setTile site tl { t with block := none, wait := none, blockEnd := cyc } else s
  | _ => s

/-! ### Issue -/

/-- What a step needs at issue. `queue` is the unit whose queue it joins (1 matrix, 2 vector, 3 vertical channel, 4
furrow port, 5 + p the headgate of plane p, 13 the merge station, 14 the die's sieve), `entry` the holder of its scoreboard entry, `even` the furrow addresses that must be 64-B aligned. -/
structure Shape where
  queue : Nat := 0
  entry : Option Owner := none
  reads : List Region := []
  writes : List Region := []
  beats : Nat := 0
  staging : Option Nat := none
  bankMask : Nat := 0
  even : List Nat := []
  vault : Option (Nat × Nat) := none
  tag : Option Nat := none
  /-- a STEP_FIELD or LOOP_DEPTH breach: code and detail A -/
  bad : Option (Nat × Nat) := none
deriving Repr

/-- Places taken in a unit's queue (R49); a load or store holds its place until its tag completes. -/
def Tile.queued (t : Tile) (q : Nat) : Nat :=
  if q = 1 then t.mq.length else if q = 2 then t.vq.length
  else if q = 3 then (t.async.filter (fun p => match p.2 with | .load .. => true | .store .. => true | _ => false)).length
  else if q = 4 then t.fq.length else 0

/-- A unit's queue has no free place: 4 steps (R49); the merge station's holds the tile's steps that it has not taken, the sieve's
the die's. A BID joins the 64 bids of its headgate (R124). Log 15. -/
def State.queueFull (s : State) (site tl : Nat) (t : Tile) (q : Nat) : Bool :=
  if q = 13 then decide (4 ≤ ((s.station site).opens.filter (fun o => o.ticket.tile == tl)).length)
  else if q = 14 then decide (4 ≤ (s.site site).sieveQ.length)
  else if 5 ≤ q then decide (64 ≤ (s.gate site (s.effPlane (q - 5))).bids.length) else decide (q ≠ 0) && decide (4 ≤ t.queued q)

/-- The cause of Table 3.17 for which the step does not issue now, the lowest first. -/
def State.stallCause (s : State) (site tl : Nat) (t : Tile) (sh : Shape) : Option Nat :=
  let clash := t.sb.any (fun e =>
    sh.writes.any (fun a => (e.reads ++ e.writes).any (fun b => a.meets b)) ||
    sh.reads.any (fun a => e.writes.any (fun b => a.meets b)))
  let banks := ((sh.reads ++ sh.writes).map Region.banks).flatten
  if s.queueFull site tl t sh.queue then some 1
  else if clash ∨ 32 ≤ t.sb.length then some 2
  else if banks.any (fun b => (t.bank b).waking) then some 3
  else if (match t.testLock with | some r => bitGet sh.bankMask (r / 512) | none => false) then some 3
  else if t.bucket < sh.beats then some 4
  else match sh.staging with
    | some p => if 8 ≤ (s.gate site p).staging.length then some 5 else none
    | none => none

/-- The trap the step raises at issue, with its detail A (Table 3.13). -/
def issueTrap (w : StepWord) (sh : Shape) : Option (Nat × Nat) :=
  if !assigned (stepClass w) (stepOp w) then some (trIllegalStep, fld w 0 8)
  else match sh.bad with
  | some b => some b
  | none =>
    match (sh.reads ++ sh.writes).find? (fun r => decide (2 ^ 17 < r.base + r.len)) with
    | some r => some (trStoreRange, r.base % 2 ^ 18)
    | none => match sh.even.find? (fun a => decide (a % 2 = 1)) with
      | some a => some (trStoreRange, a % 2 ^ 18)
      | none => match sh.vault with
        | some (v, n) => if 2 ^ 23 < v % 2 ^ 23 + n then some (trVaultRange, v) else none
        | none => none

/-- The rest of the traps at issue: TAG_BUSY (R51) and BANK_ASLEEP (R72). -/
def Tile.stateTrap (t : Tile) (sh : Shape) : Option (Nat × Nat) :=
  if (match sh.tag with | some n => decide (t.tagSt n = TagSt.busy) | none => false) then some (trTagBusy, sh.tag.getD 0)
  else
    (sh.reads ++ sh.writes).findSome? (fun (r : Region) => (r.banks.find? (fun b => (t.bank b).asleep)).map (fun b =>
      (trBankAsleep, max r.base (4096 * b) % 2 ^ 17 + 2 ^ 24 * b)))

/-- An index register after an iteration of a loop (R53). -/
def IxReg.step (r : IxReg) : IxReg := { r with val := (((r.val : Int) + r.stride) % 2 ^ 17).toNat }

/-- Advance the index registers of a LOOP's adv mask: bit n − 1 for IXn. -/
def advanceIx (adv : Nat) (ix : AMap Nat IxReg) : AMap Nat IxReg :=
  ix.map (fun p => if 1 ≤ p.1 ∧ bitGet adv (p.1 - 1) then (p.1, p.2.step) else p)

/-- Where the sequencer stands once it has reached `pc` (R64): the end of a body advances its registers and either starts
the next iteration or leaves the loop, whose end may be that of the loop around it. -/
def loopEnd : List LoopFrame → Nat → AMap Nat IxReg → List LoopFrame × Nat × AMap Nat IxReg
  | [], pc, ix => ([], pc, ix)
  | f :: r, pc, ix =>
    if pc = f.stop then
      let ix := advanceIx f.adv ix
      if f.left = 0 then loopEnd r pc ix else ({ f with left := f.left - 1 } :: r, f.start, ix)
    else (f :: r, pc, ix)

/-- The tile after a step issues: the next step, the cycle of issue, the waits counted (R49, R64). -/
def Tile.advance (t : Tile) (cyc next : Nat) : Tile :=
  let (ls, pc, ix) := loopEnd t.loops next t.ix
  { t with issued := true, firstCycle := if t.issued then t.firstCycle else cyc, lastIssue := cyc, loops := ls, pc := pc, ix := ix
           wait := none, blockEnd := 0, periodAt := if t.issued then t.periodAt else cyc }

/-- The state in which a step that issues has its effect (R49, R64, R65): its wait is counted, a traced step leaves its record (R361),
its scoreboard entry stands, its beats have left the bucket, and the tile has gone on to `next`. -/
def State.issued (s : State) (site tl cls op : Nat) (w : StepWord) (sh : Shape) (next : Nat) : State :=
  let t := s.tile site tl
  let cyc := (s.site site).cycles
  let s1 := (s.count .S0302 site (t.waited w cyc)).count .S0405 site (t.bucketWaited cyc)
  let s2 := if stepTrace w && !(cls == 1 && op == 6) then s1.traceRecord site tl t.pc false (fld w 0 16) else s1
  let entry := match sh.entry with
    | some o => [{ owner := o, reads := sh.reads, writes := sh.writes : SbEntry }]
    | none => []
  let more := decide (t.pc / 2048 ≤ t.half)
  s2.setTile site tl (({ t with
      sb := t.sb ++ entry, bucket := t.bucket - sh.beats, refillAt := if t.bucket = 4 ∧ 0 < sh.beats then cyc else t.refillAt
      half := max t.half (t.pc / 2048)
      halfReady := if more then t.halfReady else decide (t.listLen ≤ (t.pc / 2048 + 1) * 2048) } : Tile).advance cyc next)

/-- Issue a step of class `cls` and op `op` (R49): nothing happens unless the tile runs, is not blocked, and the gap has
passed; a cause of Table 3.17 holds the step; a breach traps (R69); otherwise the step's effect `eff` takes place, given
the tile cycle, with its scoreboard entry and its wait counted. `next` is where the sequencer goes on. -/
def State.issue (s : State) (site tl cls op : Nat) (w : StepWord) (sh : Shape) (next : Nat) (eff : State → State) : State :=
  let t := s.tile site tl
  let cyc := (s.site site).cycles
  if !t.running || t.trapped || t.stopped || t.block.isSome || (s.site site).gated then s
  else if assigned (stepClass w) (stepOp w) && (stepClass w != cls || stepOp w != op) then s
  else if t.issued && decide (cyc < t.lastIssue + max 1 (stepGap w)) then s
  else if decide (t.half < t.pc / 2048) && decide (2 ≤ t.pc / 2048) && !t.halfReady then
    (s.countWait site tl (max 1 (stepGap w))).trapTile site tl trStepUnderrun t.pc (stepClass w) (stepOp w) t.pc
  else match issueTrap w sh with
  | some (c, d) => (s.countWait site tl (max 1 (stepGap w))).trapTile site tl c d (stepClass w) (stepOp w) t.pc
  | none => match s.stallCause site tl t sh with
    | some c =>
      let v : IssueWait := match t.wait with
        | some v => { v with cause := c, since := if v.cause = c then v.since else cyc }
        | none => { cause := c, since := cyc, cycle := cyc, ns := s.time, cls := cls, op := op, index := t.pc }
      (if c = 4 then s else s.count .S0405 site (t.bucketWaited cyc)).setTile site tl { t with wait := some v }
    | none => match t.stateTrap sh with
      | some (c, d) => (s.countWait site tl (max 1 (stepGap w))).trapTile site tl c d cls op t.pc
      | none =>
        eff (s.issued site tl cls op w sh next)

/-- A step blocks issue from now on (R49). -/
def State.blockIssue (s : State) (site tl : Nat) (b : Block) (cause cls op index : Nat) : State :=
  s.setTile site tl { s.tile site tl with block := some b, wait := some { cause := cause, since := (s.site site).cycles, cycle := (s.site site).cycles, ns := s.time, cls := cls, op := op, index := index } }

/-- A step leaves the scoreboard: the first entry of its owner. -/
def Tile.release (t : Tile) (o : Owner) : Tile := { t with sb := t.sb.eraseP (fun e => decide (e.owner = o)) }

/-- Every entry of an owner leaves the scoreboard (a tag holds its steps' regions until it completes). -/
def Tile.releaseAll (t : Tile) (o : Owner) : Tile := { t with sb := t.sb.filter (fun e => decide (e.owner ≠ o)) }

/-- A tag is busy with an operation (R51). -/
def Tile.openTag (t : Tile) (n : Nat) (a : AsyncOp) : Tile :=
  { t with tags := mapSet t.tags n .busy, async := mapDel t.async n ++ [(n, a)] }

/-- A tag completes with a code (R51). -/
def Tile.closeTag (t : Tile) (n : Nat) (c : Code) : Tile :=
  { (t.releaseAll (.tag n)) with tags := mapSet t.tags n (.done c), async := mapDel t.async n }

/-- The tag of a tile ends with a code; blocks that waited for it may end. -/
def State.endTag (s : State) (site tl n : Nat) (c : Code) : State :=
  (s.setTile site tl ((s.tile site tl).closeTag n c)).settle site tl

end Sys2Proof.Machine
end

