-- ==== Sys2Proof/Machine/Mailbox.lean ====
section
/-!
DEFINITION. Mailboxes (R260 to R265, R359) and the site sequencer's reports (Table 14.8). Boxes 0 to 31 are CU-A's, 32 to 63 CU-B's,
64 + p the site sequencer's at port p.
-/

namespace Sys2Proof.Machine

/-- The copies that a write or a release reaches (R265). -/
def boxCopies (n : Nat) : List Nat := if n < 64 then [n % 32, n % 32 + 32] else [n]

/-- Set every copy of a mailbox. -/
def State.setBoxes (s : State) (n : Nat) (b : Mailbox) : State := (boxCopies n).foldl (fun s k => s.setBox k b) s

/-- The message with the hardware's stamp in bytes 56 to 63 (Table 10.5). -/
def stampMsg (payload : BitVec 448) (skind sproc sport stile schan seq time : Nat) : BitVec 512 :=
  BitVec.ofNat 512 (payload.toNat + 2 ^ 448 * (skind % 16) + 2 ^ 452 * (sproc % 4) + 2 ^ 454 * (sport % 128) +
    2 ^ 461 * (stile % 64) + 2 ^ 467 * (schan % 32) + 2 ^ 472 * (seq % 256) + 2 ^ 480 * (time % 2 ^ 32))

/-- Mailboxes 25 to 31 of a control unit are reserved: a write is refused (R359). -/
def boxReserved (n : Nat) : Bool := decide (n < 64) && decide (25 ≤ n % 32)

/-- Store a message: full is set, seq counts it (R261). -/
def State.mailStore (s : State) (n : Nat) (payload : BitVec 448) (skind sproc sport stile schan : Nat) : State :=
  let b := s.box n
  let q := (b.seq + 1) % 256
  s.setBoxes n { b with msg := stampMsg payload skind sproc sport stile schan q s.time, full := true, seq := q }

/-- A write that is not in wait mode (R261): over a full mailbox it overwrites, sets collision and counts; MBOX_COLLISION
at most once per mailbox and millisecond. -/
def State.mailWrite (s : State) (n : Nat) (payload : BitVec 448) (skind sproc sport stile schan : Nat) : State :=
  let b := s.box n
  if boxReserved n then s.send (.writeResponse skind sport n false false .accessDenied)
  else if b.full then
    let s := (boxCopies n).foldl (fun s k => s.bump .D0A08 k 1) s
    let s := s.mailStore n payload skind sproc sport stile schan
    let b := s.box n
    let s := if dueEvent b.evCollision s.time 1000000 then
        (s.setBoxes n { b with collision := true, collisions := 0, evCollision := some s.time }).raise evMboxCollision
          noSubject [n, b.collisions + 1]
      else s.setBoxes n { b with collision := true, collisions := b.collisions + 1 }
    s.send (.writeResponse skind sport n true false .ok)
  else (s.mailStore n payload skind sproc sport stile schan).send (.writeResponse skind sport n false false .ok)

/-- A write in wait mode (R264), and whether it was accepted: over a full mailbox it stores nothing, sets the writer's
waiter bit, and the writer receives a busy response. -/
def State.mailWait (s : State) (n : Nat) (payload : BitVec 448) (skind sproc sport stile schan : Nat) : State × Bool :=
  let b := s.box n
  if boxReserved n then (s.send (.writeResponse skind sport n false false .accessDenied), false)
  else if b.full then
    ((s.setBoxes n { b with
        waiters := if b.waiters.contains (skind, sport) then b.waiters else b.waiters ++ [(skind, sport)]
        waits := if b.waits.any (fun w => w.1 == (skind, sport)) then b.waits else b.waits ++ [((skind, sport), s.time)] }).send (.writeResponse skind sport n false true .ok), false)
  else
    let s := s.setBoxes n { b with waits := b.waits.filter (fun w => w.1 != (skind, sport)) }
    ((s.mailStore n payload skind sproc sport stile schan).send (.writeResponse skind sport n false false .ok), true)

/-- Since when the oldest message that a mailbox keeps waiting has waited (R264). -/
def Mailbox.oldestWait (b : Mailbox) : Option Nat := (b.waits.map (fun w => w.2)).min?

/-- A site sequencer writes the reports it keeps, in order, to mailbox 8 + (p mod 8) of the control unit in wait mode. -/
def State.pushReport (s : State) (site : Nat) : State :=
  match (s.site site).reports with
  | [] => s
  | r :: q =>
    let (s', taken) := s.mailWait (8 + site % 8) r 2 0 site 63 0
    if taken then s'.setSite site { s'.site site with reports := q } else s'

/-- Mailboxes that are written in wait mode (R263, R359): 0 to 15 and 21 to 24 of a control unit, and a site sequencer's, which tiles and the
mover write. -/
def waitBox (n : Nat) : Bool := decide (64 ≤ n) || decide (n % 32 ≤ 15) || (decide (21 ≤ n % 32) && decide (n % 32 ≤ 24))

/-- A mover's oldest completion message for a mailbox is written in wait mode; one that finds it full stays with the mover (R264). -/
def State.pushMoverMail (s : State) (port box : Nat) : State :=
  match takeFirst (fun x : Nat × BitVec 448 × Nat => x.1 == box) (s.mover port).mail with
  | none => s
  | some ((_, payload, chan), rest) =>
    let (s', taken) := s.mailWait box payload 4 0 port 63 chan
    if taken then s'.setMover port { s'.mover port with mail := rest } else s'

/-- A mover sends a completion message (R256): in wait mode where the mailbox has several writers. -/
def State.moverMail (s : State) (port box : Nat) (payload : BitVec 448) (chan : Nat) : State :=
  if waitBox box then
    let m := s.mover port
    let first := !m.mail.any (fun x => x.1 == box)
    let s := s.setMover port { m with mail := m.mail ++ [(box, payload, chan)] }
    if first then s.pushMoverMail port box else s
  else s.mailWrite box payload 4 0 port 63 chan

/-- A site sequencer's report to the control unit (Table 14.8). -/
def State.siteReport (s : State) (site : Nat) (r : BitVec 448) : State :=
  let p := s.site site
  if p.reports.isEmpty then (s.setSite site { p with reports := [r] }).pushReport site
  else s.setSite site { p with reports := p.reports ++ [r] }

/-- A release with the seq that was read (R262 to R264): with the present count it clears full and collision, and the
sender that its stamp names, if a processor or a site sequencer, and every waiting writer receive an empty notice; the
site sequencers and movers among them write again. Only the lease holder's release of a control unit's mailbox takes effect (R265). -/
def State.mailRelease (s : State) (n seq : Nat) (byHolder : Bool) : State :=
  let b := s.box n
  if (decide (n < 64) && !byHolder) || !b.full || decide (seq ≠ b.seq) then s
  else
    let kind := fld b.msg 448 4
    let port := fld b.msg 454 7
    let told := if kind ≤ 2 && !b.waiters.contains (kind, port) then (kind, port) :: b.waiters else b.waiters
    let s := s.setBoxes n { b with full := false, collision := false, waiters := [] }
    let s := told.foldl (fun s p => s.send (.emptyNotice p.1 p.2 n)) s
    b.waiters.foldl (fun s p => if p.1 = 2 then s.pushReport p.2 else if p.1 = 4 then s.pushMoverMail p.2 (if n < 64 then n % 32 else n) else s) s

/-- A transport engine's notice to the control unit (Table 14.8): kind 0 OPEN received, 1 CHANNEL_ERROR. -/
def State.engineNotice (s : State) (port iod kind chan psn : Nat) : State :=
  s.mailWrite (16 + iod) (BitVec.ofNat 448 (kind + 2 ^ 8 * (chan % 2 ^ 16) + 2 ^ 24 * (psn % 2 ^ 24))) 5 0 port 63 0

/-- The site sequencer stops the die's tiles at their next issue (R69). -/
def State.stopDie (s : State) (site : Nat) : State :=
  (List.range 48).foldl (fun s k =>
    let t := s.tile site k
    if t.running then s.setTile site k { t with stopped := true } else s) s

end Sys2Proof.Machine
end

