-- ==== Sys2Proof/Machine/TileStore.lean ====
section
/-!
DEFINITION. The tile store: arriving writes (R66, R68, R72), bank changes that end (R72), the background test (R73), the phase check
of the matrix unit (R109, R111, R112) and the priority buckets (R81).
-/

namespace Sys2Proof.Machine

/-- The first bank of a write that refuses it (R72). -/
def Tile.sleeping (t : Tile) (addr n : Nat) : Option Nat := ({ base := addr, len := n : Region }.banks).find? (fun b => (t.bank b).asleep)

/-- A bank of the write changes to on: the write waits for it (R72). -/
def Tile.wakesFor (t : Tile) (addr n : Nat) : Bool := ({ base := addr, len := n : Region }.banks).any (fun b => (t.bank b).waking)

/-- An arriving write has met a bank that refuses it: BANK_ASLEEP (R72). The record of a trap that no step raised names class 0, op 0 and the
tile's current index (log 19). -/
def State.refuseWrite (s : State) (site tl addr b : Nat) : State :=
  s.trapTile site tl trBankAsleep (max addr (4096 * b) % 2 ^ 17 + 2 ^ 24 * b) 0 0 (s.tile site tl).pc

/-- Writes held at port B, in order (R72): written once their banks are on, refused when a bank has gone to sleep; one whose bank still
changes to on holds those behind it. -/
def State.drainHeld (s : State) (site tl : Nat) : List HeldWrite → State
  | [] => s
  | h :: r =>
    let t := s.tile site tl
    match t.sleeping h.addr h.data.length with
    | some b => ((s.setTile site tl { t with held := r }).refuseWrite site tl h.addr b).drainHeld site tl r
    | none =>
      if t.wakesFor h.addr h.data.length then s.setTile site tl { t with held := h :: r }
      else ((s.putStore site tl h.addr h.data).setTile site tl { t with held := r }).drainHeld site tl r

/-- A write from outside the tile reaches port B (R72): a bank in retention or off, or changing to one of them, refuses it
with BANK_ASLEEP; a bank changing to on, or an earlier write held, holds it; otherwise it is written. Answers whether it
was taken. -/
def State.arrive (s : State) (site tl addr : Nat) (data : List Cell32) : State × Bool :=
  let t := s.tile site tl
  match t.sleeping addr data.length with
  | some b => (s.refuseWrite site tl addr b, false)
  | none =>
    if t.wakesFor addr data.length || !t.held.isEmpty then
      (s.setTile site tl { t with held := t.held ++ [{ addr := addr, data := data }] }, true)
    else (s.putStore site tl addr data, true)

/-- An arriving write (R72); with port A writing the same unit in the same cycle the unit holds port B's data and the tile
raises WRITE_CLASH (R68). -/
def execTileStoreArrivingWrite (site tile addr : Nat) (data : List Cell32) (clash : Bool) (s : State) : Out :=
  let (s', taken) := s.arrive site tile addr data
  .next (if taken && clash then s'.trapTile site tile trWriteClash (addr % 2 ^ 17) 0 0 (s.tile site tile).pc else s')

/-- A bank's contents read as zero with no mark (R72). -/
def State.clearBank (s : State) (site tl b : Nat) : State :=
  s.clearRange (storeAddr site tl (4096 * b)) (storeAddr site tl (4096 * b) + 131072)

/-- The bank's change has taken its time (Table 3.15): the bank stands in its new state, off loses its contents, a request
that waited starts from the state reached, after the writes held for the bank are written (R72). -/
def execBankChangeDone (site tile bank : Nat) (s : State) : Out :=
  let t := s.tile site tile
  let b := t.bank bank
  .next (match b.change with
    | some c =>
      match c.doneAt with
      | some d =>
        if s.time < d then s
        else
          let s := s.setTile site tile { t with banks := mapSet t.banks bank { st := c.target, change := none } }
          let s := if c.target = .off ∨ b.st = .off then s.clearBank site tile bank else s
          let s := s.drainHeld site tile t.held
          match c.next with
          | some n =>
            let t := s.tile site tile
            s.setTile site tile { t with banks := mapSet t.banks bank ((t.bank bank).request n (t.holdsBank bank) s.time) }
          | none => s
      | none => s
    | none => s)

/-! ### The background test (R73) -/

/-- The next region from `r` whose bank is on, within one pass. -/
def Tile.nextRegion (t : Tile) (r : Nat) : Option Nat :=
  (List.range 32).findSome? (fun k =>
    let b := (r / 512 + k) % 32
    if t.bank b = { st := .on, change := none } then some (if k = 0 then r else 512 * b) else none)

/-- Passes of the die's slowest tile (S.0305). -/
def State.slowestPasses (s : State) (site : Nat) : Nat :=
  (List.range 48).foldl (fun a k => min a (s.tile site k).testPasses) (s.tile site 0).testPasses

/-- The store test interval has passed (R73): the next region of a bank that is on is copied, its check bits verified, and locked. An
interval of 0 stops the test. -/
def execStoreTestInterval (site tile : Nat) (ecc : Ecc) (s : State) : Out :=
  let t := s.tile site tile
  let iv := s.obj .S0304 0
  .next (if iv = 0 ∨ s.time < t.testTime + 1000 * iv ∨ t.testLock.isSome then s
    else match t.nextRegion t.testNext with
      | some r => (s.setTile site tile { t with testLock := some r, testTime := s.time }).storeEcc site tile (fun u => u / 8 == r) ecc
      | none => s)

/-- The march over the locked region ends (R73): a failed region takes a spare row pair of its bank; with none left, the
units that read back different are marked, an event is raised (its code is the model's, log 17), and the tile is flagged for the next
recovery; the region is unlocked. -/
def execStoreTestDone (site tile : Nat) (failed : Bool) (differ : List Nat) (corrected : Nat) (s : State) : Out :=
  let t := s.tile site tile
  .next (match t.testLock with
    | none => s
    | some r =>
      let b := r / 512
      let left := mapGet 2 t.spares b
      let wrap := match t.nextRegion (r + 1) with
        | some x => decide (16384 ≤ r + 1) || decide (x < r + 1)
        | none => true
      let t1 := { t with testLock := none, testNext := if 16383 ≤ r then 0 else r + 1
                         testPasses := if wrap then t.testPasses + 1 else t.testPasses }
      let s1 :=
        if failed && decide (0 < left) then
          let s := s.setTile site tile { t1 with spares := mapSet t.spares b (left - 1) }
          s.setObj .S0306 site (min (s.obj .S0306 site) (left - 1))
        else if failed then
          let s := s.setTile site tile t1
          let s := differ.foldl (fun s u => s.setMark (storeAddr site tile (8 * r + u % 8)) true) s
          (s.setBit .S0402 site tile true).raise evStoreRegion site [tile, r]
        else s.setTile site tile t1
      (s1.setObj .S0305 site (s1.slowestPasses site)).count .S0307 site corrected)

/-! ### Phases (R109 to R112) -/

/-- The phase descriptor of a tile for its wave type (Table 5.6). -/
def State.phaseWord (s : State) (t : Tile) (tl : Nat) : Nat :=
  match s.plan.image with
  | some p => mapGet 0 p.phase (t.waveType, tl)
  | none => 0

/-- Check periods of a window: 2^(len + 3) (Table 5.6). -/
def windowPeriods (d : Nat) : Nat := 2 ^ (d / 2 % 8 + 3)

/-- Window n of tile `tl` is an M window: n + c even, with c = (r + j + inv) mod 2 (R109). -/
def isMWindow (d tl n : Nat) : Bool := (n + (tl / 8 + tl % 8 + d / 16 % 2)) % 2 == 0

/-- phase_mode settings (M.050A). -/
def phasePlan : Nat := 0
def phaseCountOnly : Nat := 1
def phaseOff : Nat := 2

/-- The vault column of a tile runs as in a V window now: its window is one, or phasing is not in force (R109, R112).
From a wave's start to its first issue the window is 0. DESIGN CHOICE (log 92). -/
def State.inVWindow (s : State) (site tl : Nat) : Bool :=
  let t := s.tile site tl
  let d := s.phaseWord t tl
  !t.running || d % 2 == 0 || s.obj .M050A 0 == phaseOff || !isMWindow d tl t.window

/-- Cycles that two stretches of cycles, each from its first to before its second, have in common. -/
def overlap (a b c d : Nat) : Nat := min b d - max a c

/-- Cycles of a check period, which began at `p`, in which the matrix unit was busy: with steps that have left it, and with the one at its
head from its start to its due end (R56, R111). -/
def Tile.busyIn (t : Tile) (p : Nat) : Nat :=
  ((t.busyIv ++ (t.mq.take 1).map (fun j => (j.start, j.start + matrixCycles j.word))).map (fun e => overlap e.1 e.2 p (p + 512))).sum

/-- A check period of 512 cycles ends (R111, R112, Table 5.9): with the matrix unit busy for more than 384 of them in a V window it is a
conflict period; the first of a window raises PHASE_CONFLICT; more than the limit raises PHASE_VIOLATION unless only
counted. The next period begins. -/
def execCheckPeriodEnd (site tile : Nat) (s : State) : Out :=
  let t := s.tile site tile
  let d := s.phaseWord t tile
  .next (if !t.running || !t.issued || d % 2 == 0 || s.obj .M050A 0 == phaseOff || decide ((s.site site).cycles < t.periodAt + 512) then s
    else
      let q : Tile := { t with periodAt := t.periodAt + 512, busyIv := t.busyIv.filter (fun e => decide (t.periodAt + 512 < e.2)) }
      if isMWindow d tile t.window || decide (t.busyIn t.periodAt ≤ 384) then s.setTile site tile q
      else
      let t := q
      let n := t.conflicts + 1
      let s := (s.bump .M050C site 1).setTile site tile { t with conflicts := n }
      let s := if n = 1 then s.raise evPhaseConflict site [tile, t.window] else s
      if s.obj .M050A 0 = phasePlan ∧ s.obj .M050B 0 < n then
        s.trapTile site tile trPhaseViolation (t.window % 65536 + 65536 * (n % 256)) 0 0 t.pc
      else s)

/-- A phase window ends once its check periods have passed (R109). -/
def execPhaseWindowEnd (site tile : Nat) (s : State) : Out :=
  let t := s.tile site tile
  let d := s.phaseWord t tile
  .next (if t.running && t.issued && d % 2 == 1 &&
      decide ((t.window + 1) * windowPeriods d * 512 ≤ (s.site site).cycles - t.firstCycle) then
      s.setTile site tile { t with window := t.window + 1, conflicts := 0 }
    else s)

/-! ### Priority buckets (R81) -/

/-- The attachment switches of Table 4.2. -/
def attachTiles : List Nat := [10, 12, 14, 16, 37, 39, 41, 43, 22, 31]

/-- A bucket gains one beat: a tile's, of at most 4, once 16 tile cycles have passed since its last, an attachment point's, of at most 16,
once 4 have (R81). A trap record that waited for the beat waits no longer: S.0405 counts the cycles. -/
def execPrioBucketRefill (site : Nat) (attachment : Bool) (who : Nat) (s : State) : Out :=
  let p := s.site site
  .next (if attachment then
      if !attachTiles.contains who || decide (p.cycles < mapGet 0 p.attachAt who + 4) then s
      else s.setSite site { p with attach := mapSet p.attach who (min 16 (mapGet 16 p.attach who + 1)), attachAt := mapSet p.attachAt who (mapGet 0 p.attachAt who + 4) }
    else
      let t := s.tile site who
      if p.cycles < t.refillAt + 16 then s
      else
        let s := s.setTile site who { t with bucket := min 4 (t.bucket + 1), refillAt := t.refillAt + 16, recWait := none }
        match t.recWait with
        | some c => s.count .S0405 site (p.cycles - c)
        | none => s)

end Sys2Proof.Machine
end

