-- ==== Sys2Proof/Machine/Mesh.lean ====
section
/-!
DEFINITION. The tile mesh: the tile map (R75, R84, R85), routes (R86), furrow sends and receives (R62, R77 to R79), dead switches
(R88) and tile faults (R87).
-/

namespace Sys2Proof.Machine

/-! ### Tile maps and routes -/

/-- The map value of a row (R84). -/
def State.mapValue (s : State) (site r : Nat) : Nat := packedGet (s.obj .S0400 site) 1 r

/-- The physical column of logical column j in a row with map value v (R84). -/
def physCol (v j : Nat) : Nat := if j < v then j else j + 1

/-- The physical tile of a logical tile (R75, R84). -/
def State.physOf (s : State) (site tl : Nat) : Nat := 9 * (tl / 8) + physCol (s.mapValue site (tl / 8)) (tl % 8)

/-- What joins the mesh at a switch (Table 4.2). -/
inductive Attachment
  | headgate (plane : Nat) | siteUnits | sieve
deriving DecidableEq, Repr

/-- The attachment of a physical tile's switch (R83). -/
def attachmentOf (phys : Nat) : Option Attachment :=
  if phys = 22 then some .siteUnits else if phys = 31 then some .sieve
  else ((List.range 8).find? (fun p => attachTiles[p]? == some phys)).map .headgate

/-- The switch at which a plane's headgate joins the mesh (R83). -/
def gateTile (plane : Nat) : Nat := attachTiles.getD plane 0

/-- The rill of flow traffic (R77): bits [4:0] of the flow tag; and of beat n of a transfer between a tile and an attachment point. -/
def flowRill (flow : Nat) : Nat := flow % 32
def attachRill (n : Nat) : Nat := 32 + n % 8

/-- Whether a stack can present 48 logical tiles (R85): `out` are its mapped-out physical tiles, `dead` its dead
switches. -/
def presents48 (out dead : List Nat) : Bool :=
  (List.range 6).all (fun r => decide (((List.range 9).filter (fun k => (out ++ dead).contains (9 * r + k))).length ≤ 1)) &&
  !(attachTiles.any (fun a => dead.contains a)) &&
  dead.all (fun a => dead.all (fun b => a == b || (a / 9 != b / 9 && a % 9 != b % 9)))

/-- The dead switches of a site (S.0401). -/
def State.deadSwitches (s : State) (site : Nat) : List Nat := (List.range 54).filter (fun k => bitGet (s.obj .S0401 site) k)

/-- The values from a (exclusive) to b (inclusive), in order. -/
def stepsTo (a b : Nat) : List Nat := if a ≤ b then (List.range (b - a)).map (fun i => a + 1 + i) else (List.range (a - b)).map (fun i => a - 1 - i)

/-- One unit from a toward b. -/
def toward (a b : Nat) : Nat := if a < b then a + 1 else a - 1

/-- A Y run in column k from row r to row r1 (R86): round a dead switch by the column beside it. The first argument bounds the hops. -/
def runY (dead : List Nat) (k r1 : Nat) : Nat → Nat → List Nat
  | 0, _ => []
  | n + 1, r =>
    if r = r1 then []
    else
      let x := toward r r1
      if dead.contains (9 * x + k) && x != r1 then
        let c := if k = 8 then 7 else k + 1
        let y := toward x r1
        [9 * r + c, 9 * x + c, 9 * y + c, 9 * y + k] ++ runY dead k r1 n y
      else (9 * x + k) :: runY dead k r1 n x

/-- An X run from (r, c) to column k1, and the Y run to row r1 after it (R86): at a dead switch one row toward the destination's row, or,
in that row itself, past it by the row beside. -/
def runX (dead : List Nat) (k1 r1 : Nat) : Nat → Nat → Nat → List Nat
  | 0, _, _ => []
  | n + 1, r, c =>
    if c = k1 then runY dead k1 r1 12 r
    else
      let f := toward c k1
      if !dead.contains (9 * r + f) || (f == k1 && r == r1) then (9 * r + f) :: runX dead k1 r1 n r f
      else if r ≠ r1 then (9 * toward r r1 + c) :: runX dead k1 r1 n (toward r r1) c
      else
        let q := if r = 5 then 4 else r + 1
        let g := toward f k1
        [9 * q + c, 9 * q + f, 9 * q + g, 9 * r + g] ++ runX dead k1 r1 n r g

/-- Neighbours of a switch, in the order W, E, N, S. -/
def beside (k : Nat) : List Nat :=
  (if k % 9 = 0 then [] else [k - 1]) ++ (if k % 9 = 8 then [] else [k + 1]) ++ (if k < 9 then [] else [k - 9]) ++ (if 45 ≤ k then [] else [k + 9])

/-- A shortest path past dead switches: `front` are paths from the source, newest switch first, and `seen` the switches they have reached. -/
def shortPath (dead : List Nat) (b : Nat) : Nat → List (List Nat) → List Nat → List Nat
  | 0, _, _ => []
  | n + 1, front, seen =>
    match front.find? (fun p => p.head? == some b) with
    | some p => p.reverse.tail
    | none =>
      let next := front.foldl (fun (a : List (List Nat) × List Nat) p =>
        (beside (p.headD b)).foldl (fun a k => if a.2.contains k || (dead.contains k && k != b) then a else (a.1 ++ [k :: p], k :: a.2)) a) ([], seen)
      shortPath dead b n next.1 next.2

/-- The switches on the route from one physical tile to another, without the source: X first, then Y, round dead switches
(R86). Where a cell that R86 names is itself dead, for which the spec gives no route, the model takes a shortest path of live switches
(log 21); a dead destination is reached as if it lived. -/
def route (dead : List Nat) (a b : Nat) : List Nat :=
  let p := runX dead (b % 9) (b / 9) 16 (a / 9) (a % 9)
  if p.any (fun k => dead.contains k && k != b) then shortPath dead b 54 [[a]] [a] else p

/-- The route between two logical tiles of a site. -/
def State.routeOf (s : State) (site a b : Nat) : List Nat := route (s.deadSwitches site) (s.physOf site a) (s.physOf site b)

/-! ### Beats in the mesh (R76 to R82, R88) -/

/-- Beats that an input of a switch holds for a rill: 4 on the bulk channel, 8 on the priority channel (R78, R81). -/
def inputCap (vc : Bool) : Nat := if vc then 8 else 4

/-- It stands in a switch. -/
def MeshBeat.standing (b : MeshBeat) : Bool := b.since.isSome && b.out.isNone

/-- Two beats use the same input buffer. -/
def MeshBeat.sameInput (a b : MeshBeat) : Bool := a.here == b.here && a.came == b.came && a.rill == b.rill && a.vc == b.vc

/-- The switch it goes to next, or its own, which it leaves for the tile. -/
def MeshBeat.next (b : MeshBeat) : Nat := b.path.headD b.here

/-- Two beats need the same rill output of a switch. -/
def MeshBeat.sameOutput (a b : MeshBeat) : Bool := a.here == b.here && a.next == b.next && a.rill == b.rill

/-- Sources hand beats to their switches in cycle c (R79): 4 cycles after the reading began, one a cycle, when the switch's input has room.
`stopped` are the switches that forward no more. -/
def handBeats (stopped : List Nat) (c : Nat) : List MeshBeat → List MeshBeat → List MeshBeat
  | done, [] => done
  | done, b :: r =>
    let mine := (done ++ r).filter (fun x => x.standing && x.sameInput b)
    let free := decide (mine.length < inputCap b.vc) && !(mine.any (fun x => x.since == some c)) && !stopped.contains b.here
    handBeats stopped c (done ++ [if b.since.isNone && decide (b.sentAt + 4 ≤ c) && free then { b with since := some c } else b]) r

/-- A beat that can leave its input in cycle c: the oldest there, with room at the next switch, and both forward (R78, R88). -/
def movable (stopped : List Nat) (c : Nat) (mesh : List MeshBeat) (b : MeshBeat) : Bool :=
  b.standing && decide (b.since.getD 0 ≤ c) && !stopped.contains b.here &&
    !(mesh.any (fun x => x.standing && x.sameInput b && decide (x.since.getD 0 < b.since.getD 0))) &&
    (b.path.isEmpty || (!stopped.contains b.next &&
      decide ((mesh.filter (fun x => x.standing && x.sameInput { b with here := b.next, came := b.here })).length < inputCap b.vc)))

/-- The input of a switch, in the order W, N, E, S, tile (R80). -/
def inputRank (here came : Nat) : Nat :=
  if came = here then 4 else if came + 1 = here then 0 else if came + 9 = here then 1 else if came = here + 1 then 2 else 3

/-- The output that a beat needs, as a key. -/
def MeshBeat.outKey (b : MeshBeat) : Nat := (64 * b.here + b.next) * 64 + b.rill

/-- Which of the beats that can move takes the output, the lowest first: a priority beat, round robin among the inputs (R81), then the bulk
beat that has waited longest, and among equals the input order (R80). -/
def moveKey (turn : AMap Nat Nat) (b : MeshBeat) : Nat :=
  let k := inputRank b.here b.came
  if b.vc then (k + 6 - (mapGet 5 turn b.outKey + 1) % 6) % 6 else 8 + 8 * b.since.getD 0 + k

/-- One cycle of the mesh: the beats and turns after it, and the bulk beats that waited in a switch (R80). A hop takes 2 cycles (R79). -/
def meshCycle (stopped : List Nat) (c : Nat) (m : List MeshBeat × AMap Nat Nat × Nat) : List MeshBeat × AMap Nat Nat × Nat :=
  let mesh := handBeats stopped c [] m.1
  let can := mesh.filter (fun b => movable stopped c mesh b)
  let wins (b : MeshBeat) : Bool := movable stopped c mesh b && can.all (fun x => !x.sameOutput b || decide (moveKey m.2.1 b ≤ moveKey m.2.1 x))
  (mesh.map (fun b => if wins b then
      (match b.path with
        | [] => { b with out := some c }
        | k :: r => { b with here := k, came := b.here, path := r, since := some (c + 2) }) else b),
    (can.filter (fun b => b.vc && wins b)).foldl (fun t b => mapSet t b.outKey (inputRank b.here b.came)) m.2.1,
    m.2.2 + (mesh.filter (fun b => b.standing && !b.vc && decide (b.since.getD 0 ≤ c) && !wins b)).length)

/-- n cycles of the mesh after cycle c. -/
def meshCycles (stopped : List Nat) : Nat → Nat → List MeshBeat × AMap Nat Nat × Nat → List MeshBeat × AMap Nat Nat × Nat
  | 0, _, m => m
  | n + 1, c, m => meshCycles stopped n (c + 1) (meshCycle stopped (c + 1) m)

/-- The mesh of a die runs n tile cycles (R76): S.0404 counts the cycles that bulk beats wait (R80). -/
def State.runMesh (s : State) (site n : Nat) : State :=
  let p := s.site site
  if p.mesh.isEmpty then s
  else
    let m := meshCycles p.reported n p.cycles (p.mesh, p.prioTurn, 0)
    (s.setSite site { p with mesh := m.1, prioTurn := m.2.1 }).count .S0404 site m.2.2

/-! ### Sends and receives (R62, R79) -/

/-- Beats of a furrow step: len + 1. -/
def furrowBeats (w : StepWord) : Nat := fld w 45 16 + 1
def furrowPeer (w : StepWord) : Nat := fld w 38 6
def furrowVc (w : StepWord) : Bool := bit w 44
def furrowFlow (w : StepWord) : Nat := fld w 61 16

/-- The beats of a send that starts in cycle `cyc`, one read a cycle (R77 to R79). -/
def State.sendBeats (s : State) (site tl base : Nat) (w : StepWord) (cyc : Nat) : List MeshBeat :=
  let here := s.physOf site tl
  (List.range (furrowBeats w)).map (fun i =>
    { dst := furrowPeer w, vc := furrowVc w, rill := flowRill (furrowFlow w), sentAt := cyc + i
      beat := { src := tl, flow := furrowFlow w, len := furrowBeats w
                data := { lo := s.unitAt (storeAddr site tl (base + 2 * i)), hi := s.unitAt (storeAddr site tl (base + 2 * i + 1)) } }
      here := here, came := here, path := s.routeOf site tl (furrowPeer w), since := none, out := none })

/-- The oldest send of a tile's furrow unit starts: its source is read, and its beats follow one another to the tile's switch (R49, R79). -/
def State.startSend (s : State) (site tl : Nat) (ecc : Ecc) : State :=
  match (s.tile site tl).fq with
  | [] => s
  | j :: _ =>
    let a := j.ea.getD 0 0
    let s := s.storeEcc site tl (inRegions [{ base := a, len := 2 * furrowBeats j.word }]) ecc
    let p := s.site site
    s.setSite site { p with mesh := p.mesh ++ s.sendBeats site tl a j.word j.start }

/-- A furrow send reads its source region and, on the priority channel, spends a beat of the bucket for each (R62, R81); its breaches
(Table 3.9). -/
def furrowSendShape (t : Tile) (w : StepWord) : Shape :=
  let n := furrowBeats w
  let a := t.ea w 18
  { queue := 4, entry := some .furrow, reads := [{ base := a, len := 2 * n }], even := [a]
    beats := if furrowVc w then n else 0
    bad := if 48 ≤ furrowPeer w then some (trStepField, 38) else if furrowVc w && decide (4 < n) then some (trStepField, 45) else none }

/-- A furrow receive writes its region (R62). -/
def furrowReceiveShape (t : Tile) (w : StepWord) : Shape :=
  { queue := 4, entry := some .receive, writes := [{ base := t.ea w 18, len := 2 * furrowBeats w }], even := [t.ea w 18]
    bad := if 48 ≤ furrowPeer w then some (trStepField, 38) else none }

/-- A furrow send joins its unit's queue, and starts when it is the only one there; the step holds its source region until it is done
(R49, R62). -/
def execFurrowSend (site tile : Nat) (w : StepWord) (ecc : Ecc) (s : State) : Out :=
  let t := s.tile site tile
  let a := t.ea w 18
  let i := t.pc
  let cyc := (s.site site).cycles
  .next (s.issue site tile 5 0 w (furrowSendShape t w) (i + 1) (fun s =>
      let t := s.tile site tile
      let s := s.setTile site tile { t with fq := t.fq ++ [{ word := w, ea := [a], start := cyc, index := i }] }
      if t.fq.isEmpty then s.startSend site tile ecc else s))

/-- The oldest send's last beat has been read, 4 cycles and one per beat after it starts, and handed to the tile's switch (R62, R79): it
leaves the scoreboard, and the next send starts. -/
def execFurrowSendDone (site tile : Nat) (ecc : Ecc) (s : State) : Out :=
  let t := s.tile site tile
  .next (match t.fq with
    | [] => s
    | j :: q =>
      let due := j.start + 4 + (furrowBeats j.word - 1)
      let p := s.site site
      if p.cycles < due || p.mesh.any (fun b => b.beat.src == tile && b.since.isNone) then s
      else
        let q := match q with | [] => [] | k :: r => { k with start := max k.start due } :: r
        ((s.setTile site tile ({ t with fq := q }.release .furrow)).startSend site tile ecc).settle site tile)

/-- A beat that matches the pending receive is written (R62). -/
def State.writeBeat (s : State) (site tl : Nat) (r : Recv) (b : Beat) : State :=
  let t := s.tile site tl
  let s := s.setTile site tl { t with recv := some { r with got := r.got + 1 } }
  (s.arrive site tl (r.base + 2 * r.got) [b.data.lo, b.data.hi]).1

/-- Waiting beats of the receive's channel are matched in order, until the receive is full or one does not match
(FURROW_TAG, R62). -/
def State.absorb (s : State) (site tl : Nat) : List Beat → State
  | [] => s
  | b :: q =>
    let t := s.tile site tl
    match t.recv with
    | none => s
    | some r =>
      if r.len ≤ r.got || t.trapped then s
      else
        let s1 := s.setTile site tl (if r.vc then { t with prio := q } else { t with bulk := q })
        if b.src = r.src ∧ b.flow = r.flow ∧ b.len = r.len then (s1.writeBeat site tl r b).absorb site tl q
        else s1.trapTile site tl trFurrowTag b.flow 5 1 t.blockedIndex

/-- A blocking receive (R62): beats that already wait are taken at once. -/
def execFurrowReceive (site tile : Nat) (w : StepWord) (s : State) : Out :=
  let t := s.tile site tile
  let n := furrowBeats w
  let a := t.ea w 18
  let cyc := (s.site site).cycles
  .next (s.issue site tile 5 1 w (furrowReceiveShape t w) (t.pc + 1) (fun s =>
      let s := s.blockIssue site tile .recv 8 5 1 t.pc
      let t := s.tile site tile
      let r : Recv := { src := furrowPeer w, flow := furrowFlow w, len := n, vc := furrowVc w, base := a, got := 0
                        deadline := if fld w 77 16 = 0 then none else some (cyc + fld w 77 16) }
      (s.setTile site tile { t with recv := some r }).absorb site tile (if furrowVc w then t.prio else t.bulk)))

/-- A write to one of the units waits at port B (R72). -/
def Tile.holdsWrite (t : Tile) (r : Region) : Bool := t.held.any (fun h => r.meets { base := h.addr, len := h.data.length })

/-- The last beat has been written: the receive leaves the scoreboard and issue goes on (R62). -/
def execFurrowReceiveDone (site tile : Nat) (s : State) : Out :=
  let t := s.tile site tile
  .next (match t.recv with
    | none => s
    | some r =>
      if r.got < r.len || t.trapped || t.holdsWrite { base := r.base, len := 2 * r.len } then s
      else (s.setTile site tile ({ t with recv := none, block := none, wait := none, blockEnd := (s.site site).cycles }.release .receive)).settle site tile)

/-- A receive whose first beat has not arrived by its deadline raises FURROW_LATE (R62). -/
def execFurrowDeadlineExpiry (site tile : Nat) (s : State) : Out :=
  let t := s.tile site tile
  .next (match t.recv with
    | none => s
    | some r => match r.deadline with
      | none => s
      | some d => if r.got = 0 ∧ d < (s.site site).cycles ∧ !t.trapped then
          s.trapTile site tile trFurrowLate r.flow 5 1 t.blockedIndex else s)

/-- A beat of data in which a switch met words it could not correct: their units are marked (R78). -/
def poisonBeat (d : BeatData) (bad : List Nat) : BeatData :=
  { lo := { d.lo with mark := d.lo.mark || bad.contains 0 }, hi := { d.hi with mark := d.hi.mark || bad.contains 1 } }

/-- The oldest beat in flight of a flow, once it has left its last switch for 2 cycles and the clock runs, reaches its tile (R62, R76, R78,
R79): it is counted, and written into the pending receive of its channel, or raises FURROW_TAG, or waits in the landing buffer, or raises
FURROW_OVERRUN. -/
def execFurrowBeatArrival (site tile src flow : Nat) (vc : Bool) (bad : List Nat) (s : State) : Out :=
  let p := s.site site
  .next (match takeFirst (fun b => decide (b.dst = tile) && b.vc == vc && decide (b.beat.src = src) && decide (b.beat.flow = flow)) p.mesh with
    | none => s
    | some (b, rest) =>
      let ready := match b.out with
        | some c => decide (c + 2 ≤ p.cycles)
        | none => false
      if !ready || p.gated then s
      else
        let s := (s.setSite site { p with mesh := rest }).bump .S0403 site 1
        let t := s.tile site tile
        let buffer := if vc then t.prio else t.bulk
        let x : Beat := { b.beat with data := poisonBeat b.beat.data bad }
        let free := match t.recv with
          | some r => r.vc == vc && decide (r.got < r.len) && buffer.isEmpty && !t.trapped
          | none => false
        if free then s.absorb site tile [x]
        else if buffer.length < 32 then
          s.setTile site tile (if vc then { t with prio := buffer ++ [x] } else { t with bulk := buffer ++ [x] })
        else s.trapTile site tile trFurrowOverrun (flow % 65536 + (if vc then 65536 else 0)) 0 0 t.pc)

/-! ### Faults of tiles and switches (R87, R88) -/

/-- A tile's hardware checks report a fault: the site sequencer stops the die, reports it, and the next recovery maps the
tile out (R87). -/
def execTileFault (site tile : Nat) (s : State) : Out :=
  let s := s.stopDie site
  let p := s.site site
  let s := s.setSite site { p with mapOut := s.physOf site tile :: p.mapOut }
  .next (s.siteReport site (BitVec.ofNat 448 (2 + 2 ^ 8 * tile)))

/-- A switch receives no link-alive signal from a neighbour for 64 cycles: it holds the beats routed there, the beats in the dead switch's
own input buffers are lost, and the site sequencer reports the dead switch (R88, Table 14.8). The model stops the switch here (log 22). -/
def execLinkAliveTimeout (site phys : Nat) (s : State) : Out :=
  let p := s.site site
  .next (if p.reported.contains phys || bitGet (s.obj .S0401 site) phys then s
    else (s.setSite site { p with
      reported := p.reported ++ [phys], mesh := p.mesh.filter (fun b => !(b.standing && b.here == phys)) }).siteReport site (BitVec.ofNat 448 (3 + 2 ^ 8 * phys)))

/-- The stack can still present 48 tiles with these switches dead beside those that are (R85). -/
def State.stands (s : State) (site : Nat) (more : List Nat) : Bool :=
  presents48 ((s.site site).out ++ more) (s.deadSwitches site ++ more.filter (fun k => !(s.deadSwitches site).contains k))

/-- New route tables are in force (R86, R88): the reported switches are dead, beats that were held leave by their new routes, and a
stack that breaks R85 cannot present 48 tiles any more. -/
def execRouteRecomputeDone (site : Nat) (s : State) : Out :=
  let p := s.site site
  .next (if p.reported.isEmpty then s
    else
      let ok := s.stands site p.reported
      let s := p.reported.foldl (fun s k => s.setBit .S0401 site k true) s
      let dead := s.deadSwitches site
      let mesh := p.mesh.map (fun b => if b.out.isNone && b.path.any (fun k => dead.contains k) then { b with path := route dead b.here (s.physOf site b.dst) } else b)
      s.setSite site { p with mesh := mesh, reported := [], mapOut := p.reported ++ p.mapOut, usable := p.usable && ok })

end Sys2Proof.Machine
end

