-- ==== Sys2Proof/Machine/Vaults.lean ====
section
/-!
DEFINITION. Stacked memory (chapter 5): power-up and clear (R92, R97), retrim (R98), remote access (R99, R100), ECC and poison (R101,
R102), scrub (R103), refresh (R104 to R106) and the corrected-symbol witness (R113, R114).
-/

namespace Sys2Proof.Machine

/-! ### The address map (R91) -/

/-- Where a unit of a tile's vaults stands (Table 5.1): `vaddr` counts 32-B units, the layers after one another. -/
structure VaultPlace where
  layer : Nat
  row : Nat
  column : Nat
  bank : Nat
  unit : Nat
deriving DecidableEq, Repr

def vaultPlace (vaddr : Nat) : VaultPlace :=
  { layer := vaddr / 2 ^ 23 % 4, row := vaddr / 1024 % 8192, column := vaddr / 128 % 8, bank := vaddr / 8 % 16, unit := vaddr % 8 }

/-- The bank of a unit among the 64 of a column. -/
def bankIx (vaddr : Nat) : Nat := 16 * (vaultPlace vaddr).layer + (vaultPlace vaddr).bank

/-! ### Units of a vault -/

/-- An uncorrectable unit at its vault controller (R102): counted, reported with its tile position (R117), and a poison-pattern write
queued. -/
def State.dramUe (s : State) (site tl vaddr : Nat) : State :=
  let c := s.col site tl
  ((s.bump .M0503 site 1).raise evDramUe site [(vaultPlace vaddr).layer, vaddr, codeNum .eccUncorrected, s.physOf site tl]).setCol site tl
    { c with poisonQ := c.poisonQ ++ [vaddr] }

/-- Symbols that ECC corrects in a layer's units: M.0502, and the layer's window (R102, R114). -/
def State.symbols (s : State) (site vaddr ce : Nat) : State :=
  if ce = 0 then s
  else
    let y := s.layer site (vaultPlace vaddr).layer
    (s.bump .M0502 site ce).setLayer site (vaultPlace vaddr).layer { y with now := y.now + ce }

/-- Units read from a tile's vaults, marked where ECC finds them uncorrectable, and where it has found that and the pattern is not yet
written (R101, R102). -/
def State.vaultUnits (s : State) (site tl vaddr n : Nat) (ue : List Nat) : List Cell32 :=
  let q := (s.col site tl).poisonQ
  (s.unitsAt (vaultAddr site tl vaddr) n).zipIdx.map (fun p => if ue.contains p.2 || q.contains (vaddr + p.2) then { p.1 with mark := true } else p.1)

/-- A read of units: what ECC corrects and finds uncorrectable is counted and reported. -/
def State.vaultRead (s : State) (site tl vaddr n : Nat) (ue : List Nat) (ce : Nat) : State :=
  ((ue.filter (fun i => decide (i < n))).foldl (fun s i => s.dramUe site tl (vaddr + i)) s).symbols site vaddr ce

/-- Whole units written: marks travel with them, and a pattern still to be written is dropped (R44, R102). -/
def State.vaultWrite (s : State) (site tl vaddr : Nat) (l : List Cell32) : State :=
  let c := s.col site tl
  (s.putUnits (vaultAddr site tl vaddr) l).setCol site tl
    { c with poisonQ := c.poisonQ.filter (fun a => decide (a < vaddr) || decide (vaddr + l.length ≤ a)) }

/-- A column can serve accesses (R92). -/
def State.colServes (s : State) (site tl : Nat) : Bool := (s.col site tl).powered && !(s.col site tl).clearing

/-! ### Power-up, training and retrim -/

/-- The narrowest run on a layer over the site's trained columns (M.0508). -/
def State.narrowest (s : State) (site l : Nat) : Nat :=
  ((List.range 48).filterMap (fun k =>
    let c := s.col site k
    if c.taps.any (fun p => p.1 / 2 == l) then some (((c.taps.filter (fun p => p.1 / 2 == l)).map (fun p => p.2.2)).foldl min 64) else none)).foldl min 64

/-- Show M.0508 of a layer. -/
def State.showTrim (s : State) (site l : Nat) : State :=
  s.setObj .M0508 site (packedSet (s.obj .M0508 site) 1 l (s.narrowest site l))

/-- The refresh multiplier of a band (Table 5.5), and ×4 under the witness (R114). -/
def refreshScale (band : Nat) (witness : Bool) : Nat :=
  if witness then 4 else if band ≤ 1 then 1 else if band = 2 then 2 else if band ≤ 4 then 4 else 1

/-- The multiplier in force of a layer (M.0504). -/
def State.scaleOf (s : State) (site l : Nat) : Nat := packedGet (s.obj .M0504 site) 1 l

/-- Set the multipliers of a site for its band and witnesses, 0 while its layers are unpowered (R104, R105, R114, R118). -/
def State.setScales (s : State) (site : Nat) : State :=
  if !(s.site site).powered then s.setObj .M0504 site 0
  else (List.range 4).foldl (fun s l => s.setObj .M0504 site
    (packedSet (s.obj .M0504 site) 1 l (refreshScale (s.band site) (bitGet (s.obj .M050F site) l)))) s

/-- Commands owed by each bank of a layer after `t` ns at a multiplier: one per 3,906.25 ns at ×1 (Table 5.5). -/
def owedBy (k t : Nat) : Nat := t * k * 16 / 62500

/-- A column's owed counts brought up to now (R104, R105). -/
def State.accrue (s : State) (site tl : Nat) : VaultCol :=
  let c := s.col site tl
  if !c.powered then { c with owedAt := s.time }
  else
    { c with
      owedAt := s.time
      owed := (List.range 64).map (fun b =>
        let k := s.scaleOf site (b / 16)
        (b, mapGet 0 c.owed b + (owedBy k s.time - owedBy k c.owedAt))) }

/-- Every column of a site brought up to now, before its rate changes (R105). -/
def State.accrueSite (s : State) (site : Nat) : State :=
  (List.range 48).foldl (fun s k => if (s.col site k).powered then s.setCol site k (s.accrue site k) else s) s

/-! ### What the channel serves first (R94 to R96) -/

/-- The place of a load or store in the vaults, when its first access is served, and whether B4 refused it. -/
def AsyncOp.vertical : AsyncOp → Option (Nat × Nat × Bool)
  | .load _ v _ f d => some (v, f, d)
  | .store _ v _ f d => some (v, f, d)
  | _ => none

/-- The first load or store of a tile that has not completed: the vertical channel serves them in order. -/
def Tile.firstVertical (t : Tile) : Option Nat :=
  (t.async.find? (fun p => p.2.vertical.isSome)).map (fun p => p.1)

/-- A first access waits for a bank of the column that passes the test (R95). -/
def Tile.firstWaits (t : Tile) (now : Nat) (bank : Nat → Bool) : Bool :=
  t.async.any (fun e => match e.2.vertical with
    | some (v, f, _) => decide (now < f) && bank (bankIx v)
    | none => false)

/-- When a first access that is issued now is served: at once, or once a refresh command or a retrim chunk has left its bank or layer
(R95, Table 5.3). -/
def State.firstAt (s : State) (site tl vaddr : Nat) : Nat :=
  let c := s.col site tl
  max s.time (max (mapGet 0 c.busy (bankIx vaddr)) (mapGet 0 c.layerBusy (vaultPlace vaddr).layer))

/-- A bank of the column owes 16 commands: place 4 of Table 5.2 wants the channel (R106). -/
def VaultCol.atLimit (c : VaultCol) : Bool := c.owed.any (fun e => decide (16 ≤ e.2))

/-- No earlier place of Table 5.2 wants the channel, so that place 7 has it (R94): no first access and no poison write waits, no bank stands
at its limit, and outside an M window neither a burst is owed nor a transfer wanted; in an M window half the cycles stay free. -/
def State.channelIdle (s : State) (site tl : Nat) : Bool :=
  let t := s.tile site tl
  let c := s.accrue site tl
  !t.firstWaits s.time (fun _ => true) && c.poisonQ.isEmpty && !c.atLimit &&
    (!s.inVWindow site tl || (c.owed.all (fun e => e.2 == 0) && t.firstVertical.isNone))

/-- A vault column of a powered stack is powered (R92, R97): its 8 receivers are trained to the centre of the widest passing run; a run below 16
taps makes the column unusable and its tile position mapped out; otherwise its clear to zero begins. -/
def execVaultColumnPowerUp (site tile : Nat) (runs : List (Nat × Nat)) (s : State) : Out :=
  let c := s.col site tile
  .next (if c.powered || !(s.site site).powered then s
    else if (List.range 8).any (fun k => decide ((runs.getD k (0, 0)).1 < 16)) then
      let p := s.site site
      (s.setCol site tile { c with usable := false }).setSite site { p with mapOut := s.physOf site tile :: p.mapOut }
    else
      let s := s.setCol site tile { VaultCol.reset with
        powered := true, clearing := true, clearAt := s.time + 4200000, owedAt := s.time, scrubStart := s.time, scrubNext := s.time
        taps := (List.range 8).map (fun k => (k, ((runs.getD k (0, 0)).2, (runs.getD k (0, 0)).1)))
        retrimAt := (List.range 4).map (fun l => (l, s.time)) }
      -- VDD 1.05 V and VPP 1.80 V (Table 12.2)
      let s := s.setObj .P0C0D site (packedSet (packedSet (s.obj .P0C0D site) 4 3 0x3F866666) 4 4 0x3FE66666)
      ((List.range 4).foldl (fun s l => s.showTrim site l) s).setScales site)

/-- The clear has written zero into every unit, with no mark; the column may serve accesses (R92). -/
def execVaultClearDone (site tile : Nat) (s : State) : Out :=
  let c := s.col site tile
  .next (if c.powered && c.clearing && decide (c.clearAt ≤ s.time) then
      (s.clearRange (vaultAddr site tile 0) (vaultAddr site tile 0 + 2 ^ 30)).setCol site tile { c with clearing := false }
    else s)

/-- The layer's retrim is due: its interval has passed, or the stack's band has changed (R98). -/
def State.retrimDue (s : State) (site tl layer : Nat) : Bool :=
  let c := s.col site tl
  c.retrimWant.contains layer || decide (mapGet 0 c.retrimAt layer + 1000000 * s.obj .M0509 0 ≤ s.time)

/-- A layer's receivers at a tile are retrimmed (R98), in cycles that nothing else wants and while no first access to the layer waits (R94,
R95): each moves at most one tap toward its new centre; a run below 12 taps raises TRIM_NARROW, below 8 LAYER_UNUSABLE, and the stack can
serve no more. -/
def execRetrim (site tile layer : Nat) (edges : List (Nat × Nat)) (s : State) : Out :=
  let c := s.col site tile
  .next (if !c.powered || c.clearing || !s.retrimDue site tile layer || !s.channelIdle site tile || decide (4 ≤ layer) then s
    else
      let seen := edges.take 2
      let run := (seen.map (fun e => e.1)).foldl min 64
      let taps := seen.zipIdx.foldl (fun m e =>
        let tap := (mapGet (e.1.2, e.1.1) m (2 * layer + e.2)).1
        mapSet m (2 * layer + e.2) (if tap = e.1.2 then tap else toward tap e.1.2, e.1.1)) c.taps
      let s := (s.setCol site tile { c with
        taps := taps, retrimAt := mapSet c.retrimAt layer s.time, retrimWant := c.retrimWant.filter (fun l => l != layer)
        layerBusy := mapSet c.layerBusy layer (s.time + 8) }).showTrim site layer
      let s := if run < 12 then s.raise evTrimNarrow site [layer, s.physOf site tile, run] else s
      if run < 8 then
        (s.raise evLayerUnusable site [layer, s.physOf site tile, run]).setSite site { s.site site with usable := false }
      else s)

/-! ### Remote access -/

/-- Two unit ranges share a unit. -/
def rangesMeet (a n b m : Nat) : Bool := decide (a < b + m) && decide (b < a + n)

/-- A vault write that the remote-access controller still holds for units of a column (R139). -/
def State.writeHeld (s : State) (site tl addr n : Nat) : Bool :=
  (s.field (fieldOf site)).writeQ.any (fun x => x.dst == site && x.ttile == tl && rangesMeet x.taddr x.len addr n)

/-- A read that a remote-access controller can pass to a column: not passed yet, whole, in one vault (Table 6.6). -/
def ReadJob.passes (j : ReadJob) (site tl : Nat) : Bool :=
  j.port == site && !j.sent && j.answer.isNone && j.record.space == 0 && j.record.ttile == tl && decide (j.record.len ≤ 368) &&
    decide (j.record.addr % 2 ^ 23 + j.record.len ≤ 2 ^ 23)

/-- A request that the remote-access controller holds for a column joins its queue of 8, or waits there while it is full (R100, R139): the
oldest write of its write queue, or the oldest read, behind every write to the same units. -/
def execRemoteQueueEnqueue (site tile : Nat) (write : Bool) (s : State) : Out :=
  let c := s.col site tile
  let f := s.field (fieldOf site)
  let join (r : RemoteReq) (s : State) : State :=
    s.setCol site tile (if c.queue.length < 8 then { c with queue := c.queue ++ [r] } else { c with held := c.held ++ [r] })
  .next (if write then
      match takeFirst (fun x : Slot => x.dst == site && x.ttile == tile) f.writeQ with
      | some (x, rest) => join { write := true, addr := x.taddr, len := x.len, data := x.payload, rid := x.tag } (s.setField (fieldOf site) { f with writeQ := rest })
      | none => s
    else
      match f.reads.find? (fun j => j.passes site tile) with
      | some j =>
        if s.writeHeld site tile j.record.addr j.record.len then s
        else
          let reads := mapFirst (fun x => x.passes site tile) (fun x => { x with sent := true }) f.reads
          join { write := false, addr := j.record.addr, len := j.record.len, data := [], rid := j.record.rid } (s.setField (fieldOf site) { f with reads := reads })
      | none => s)

/-- Channel cycles of a remote access: one per 256-B aligned transfer it touches (R99). -/
def remoteCycles (addr n : Nat) : Nat := (addr + n - 1) / 8 - addr / 8 + 1

/-- Channel cycles of a remote group (M.0506, R99). -/
def State.groupCycles (s : State) : Nat := 16 * 2 ^ s.obj .M0506 0

/-- What a remote request that is complete gives to whoever asked: a read's data goes to its controller (R139). -/
def State.remoteDone (s : State) (site tl : Nat) (r : RemoteReq) (c : Code) (l : List Cell32) : State :=
  let f := s.field (fieldOf site)
  let mine (j : ReadJob) : Bool := j.port == site && j.sent && j.answer.isNone && j.record.ttile == tl && j.record.addr == r.addr && j.record.rid == r.rid
  if r.write then s.send (.remoteAnswer site tl r.rid c l)
  else if f.reads.any mine then s.setField (fieldOf site) { f with reads := mapFirst mine (fun j => { j with answer := some (c, l) }) f.reads }
  else s.send (.remoteAnswer site tl r.rid c l)

/-- In the reserved cycle of a remote group the request at the head of the remote queue moves up to 256 B within one aligned transfer (R99,
R100), with what ECC finds in it (R102); its last transfer answers it. In B4 a request not yet under way ends ACCESS_DENIED (R107). -/
def execRemoteAccessServe (site tile : Nat) (ue : List Nat) (ce : Nat) (s : State) : Out :=
  let c := s.col site tile
  let group := s.time / s.groupCycles
  .next (match c.queue with
    | [] => s
    | r :: q =>
      if !c.powered || c.clearing || c.group == some group then s
      else
        let pop : VaultCol := { c with queue := q ++ c.held.take 1, held := c.held.drop 1, acc := [], group := some group }
        if s.band site = bandB4 ∧ c.acc = [] then (s.setCol site tile pop).remoteDone site tile r .accessDenied []
        else
          let total := if r.write then r.data.length else r.len
          let a := r.addr + c.acc.length
          let n := min (8 - a % 8) (total - c.acc.length)
          let part := if r.write then (r.data.drop c.acc.length).take n else s.vaultUnits site tile a n ue
          let all := c.acc ++ part
          let s := s.setCol site tile (if total ≤ all.length then pop else { c with acc := all, group := some group })
          let s := (if r.write then s.vaultWrite site tile a part else s.vaultRead site tile a n ue ce).bump .M0507 site 1
          if total ≤ all.length then s.remoteDone site tile r (if anyMark all then .poisoned else .ok) (if r.write then [] else all) else s)

/-- The poison pattern is written into the oldest unit found uncorrectable (R102). -/
def execPoisonPatternWrite (site tile : Nat) (s : State) : Out :=
  let c := s.col site tile
  .next (match c.poisonQ with
    | [] => s
    | a :: q => (s.setCol site tile { c with poisonQ := q }).setMark (vaultAddr site tile a) true)

/-! ### Scrub and refresh -/

/-- 256-B transfers of a column's four vaults. -/
def scrubTransfers : Nat := 2 ^ 22

/-- The scrub reads the next transfer (R103), in a cycle that nothing else wants (R94); a pass begins once the interval since the last began
has passed. What ECC finds is counted and handled as R102 says; a corrected transfer is
written back unless it was written since, which leaves the data as it is; the end of a pass gives its duration, and a
pass longer than 1.25 intervals raises SCRUB_LATE. -/
def execScrubRead (site tile : Nat) (ueUnits : List Nat) (ce : Nat) (written : Bool) (s : State) : Out :=
  let c := s.col site tile
  let iv := s.obj .M0500 0
  .next (if !c.powered || c.clearing || iv == 0 || !s.channelIdle site tile || (c.scrubAt == 0 && decide (s.time < c.scrubNext)) then s
    else
      let s1 := s.vaultRead site tile (8 * c.scrubAt) 8 ueUnits ce
      let c1 := if written then { s1.col site tile with poisonQ := c.poisonQ } else s1.col site tile
      let c1 := if c.scrubAt = 0 then { c1 with scrubStart := s.time, scrubNext := s.time + iv * 3600 * 10 ^ 9 } else c1
      if c.scrubAt + 1 < scrubTransfers then s1.setCol site tile { c1 with scrubAt := c.scrubAt + 1 }
      else
        let d := (s.time - c1.scrubStart) / 10 ^ 9
        let s2 := s1.setCol site tile { c1 with scrubAt := 0, lastPass := d }
        let s3 := s2.setObj .M0501 site (((List.range 48).map (fun k => (s2.col site k).lastPass)).foldl max 0)
        if 5 * (iv * 3600 * 10 ^ 9) < 4 * (s.time - c1.scrubStart) then s3.raise evScrubLate site [d] else s3)

/-- Owed commands are issued as a burst, in a V window of the tile or whenever phasing is not in force (R105, R110), behind the earlier
places of Table 5.2 (R94); a bank for which a first access waits keeps what it owes (R95). Each command keeps its bank busy for 40 ns. -/
def execRefreshBurst (site tile : Nat) (s : State) : Out :=
  let c := s.accrue site tile
  let waits (b : Nat) : Bool := (s.tile site tile).firstWaits s.time (fun k => k == b)
  .next (if c.powered && s.inVWindow site tile && c.poisonQ.isEmpty && !c.atLimit then
      s.setCol site tile { c with
        owed := c.owed.filter (fun e => waits e.1)
        busy := c.owed.foldl (fun m e => if e.2 = 0 || waits e.1 then m else mapSet m e.1 (s.time + 40)) c.busy }
    else s)

/-- A bank that owes 16 commands receives one, whatever the window (R106), behind the earlier places of Table 5.2 (R94) and unless a first
access to it waits (R95). -/
def execTrickleRefresh (site tile layer bank : Nat) (s : State) : Out :=
  let c := s.accrue site tile
  let b := 16 * layer + bank
  .next (if c.powered && decide (16 ≤ mapGet 0 c.owed b) && c.poisonQ.isEmpty && !(s.tile site tile).firstWaits s.time (fun k => k == b) then
      (s.setCol site tile { c with owed := mapSet c.owed b (mapGet 0 c.owed b - 1), busy := mapSet c.busy b (s.time + 40) }).bump .M0505 site 1
    else s)

/-! ### Sensors (R113, R300) -/

/-- A sensor. -/
def State.sensor (s : State) (r k : Nat) : Sensor :=
  mapGet { centi := 0, changedAt := 0, misses := 0, broken := false, others := [], below := 0, sampled := false } s.heat.sensors (r, k)
def State.setSensor (s : State) (r k : Nat) (v : Sensor) : State :=
  { s with heat := { s.heat with sensors := mapSet s.heat.sensors (r, k) v } }

/-- What a sensor reads for every purpose (R300): 127 °C when it is broken or its layer is implausible (R113, R114). -/
def State.reads (s : State) (r k : Nat) : Int :=
  if (s.sensor r k).broken ∨ (r < 112 ∧ 6 ≤ k ∧ k < 30 ∧ bitGet (s.obj .M050D r) ((k - 6) / 6)) then 12700 else (s.sensor r k).centi

/-- A sensor is broken, once (R300). Causes: 0 out of range, 1 no fresh conversion, 2 parity, 3 stuck, 4 implausible. -/
def State.breakSensor (s : State) (r k cause : Nat) : State :=
  if (s.sensor r k).broken then s
  else
    let s := s.setSensor r k { s.sensor r k with broken := true, sampled := true }
    (if r < 128 then s.bump .T0126 r 1 else s).raise evSensorBroken r [r, k, cause]

/-! ### The witnesses -/

/-- A reading as LAYER_IMPLAUSIBLE carries it: hundredths of a degree, 32-bit two's complement (log 40). -/
def reading32 (x : Int) : Nat := (BitVec.ofInt 32 x).toNat

/-- The readings of sensor k of a layer and of its lower and upper neighbours (R113); layer 3 has none above, for which 0 stands. -/
def State.threeReadings (s : State) (p l k : Nat) : List Nat :=
  let i := 6 + 6 * l + k
  [reading32 (s.reads p i), reading32 (s.reads p (if l = 0 then k else i - 6)), if l = 3 then 0 else reading32 (s.reads p (i + 6))]

/-- A layer whose sensors cannot be believed (R113, R114): M.050D is set, and every sensor of it is broken and reads 127 °C (R300). -/
def State.layerImplausible (s : State) (site l sensor : Nat) (readings : List Nat) : State :=
  if bitGet (s.obj .M050D site) l then s
  else
    let s := (s.setBit .M050D site l true).raise evLayerImplausible site (l :: sensor :: readings)
    (List.range 6).foldl (fun s k => s.breakSensor site (6 + 6 * l + k) 4) s

/-- One layer's 10 ms window closes (R114). For a layer that its witness alone makes implausible, the event names the layer's first sensor
(log 40). -/
def State.ceWindow (s : State) (site l : Nat) : State :=
  let y := { s.layer site l with now := 0, since := s.time }
  let n := (s.layer site l).now
  let sum := y.windows.foldl (· + ·) 0
  let high := decide (s.obj .M050E 0 * sum < n * max 1 y.windows.length)
  if y.set then
    let clearRun := if high then 0 else y.clearRun + 1
    if 100 ≤ clearRun then
      (s.setLayer site l { y with set := false, setRun := 0, clearRun := 0 }).setBit .M050F site l false
    else
      let s := s.setLayer site l { y with setRun := y.setRun + 1, clearRun := clearRun }
      if y.setRun + 1 = 10 then s.layerImplausible site l 0 (s.threeReadings site l 0) else s
  else if 64 ≤ n ∧ high then
    ((s.setLayer site l { y with set := true, setRun := 0, clearRun := 0 }).setBit .M050F site l true).raise evCeWitness site
      [l, n, if y.windows.isEmpty then 0 else sum / y.windows.length]
  else s.setLayer site l { y with windows := (n :: y.windows).take 100 }

/-- A window of 10 ms of a powered stack closes: the witness of each layer is set, held or cleared by the symbols corrected in it, and the
refresh rates follow (R105, R114). -/
def execCeWitnessWindow (site : Nat) (s : State) : Out :=
  .next (if !(s.site site).powered || decide (s.time < (s.layer site 0).since + 10000000) then s
    else ((List.range 4).foldl (fun s l => s.ceWindow site l) (s.accrueSite site)).setScales site)

/-! ### Bands (R98, R105, R107) -/

/-- The stack's region enters another band: commands owed so far stay owed, the new rate holds, and every layer is to be retrimmed. -/
def State.bandColumns (s : State) (site : Nat) : State :=
  let s := (s.accrueSite site).setScales site
  (List.range 48).foldl (fun s k => if (s.col site k).powered then s.setCol site k { s.col site k with retrimWant := [0, 1, 2, 3] } else s) s

/-- In B4 the vault controllers refuse local accesses that are not under way (R107). -/
def State.refuseLocal (s : State) (site : Nat) : State :=
  (List.range 48).foldl (fun s k =>
    let t := s.tile site k
    let head := t.firstVertical
    if head.isNone then s
    else s.setTile site k { t with async := t.async.map (fun p => (p.1, match p.2 with
      | .load u v n f d => .load u v n f (d || decide (head ≠ some p.1) || decide (s.time < f))
      | .store u v n f d => .store u v n f (d || decide (head ≠ some p.1) || decide (s.time < f))
      | x => x)) }) s

end Sys2Proof.Machine
end

