-- ==== Sys2Proof/Machine/Base.lean ====
section
/-!
DEFINITION. The photonic base (chapter 6): bids (R125, R126), the market (R127 to R131), grants (R128, R63), verdicts and retries (R135,
R136), field caches (R137, R138), the remote-access controller (R139), withdrawals (R146, R147) and planes (R148, R149).
-/

namespace Sys2Proof.Machine

/-! ### What several commands share -/

/-- A breach of a class A condition at a port (R134): bits 0 policer, 1 bundle recovery, 2 plane retired, 3 levy. -/
def State.breach (s : State) (port bit : Nat) : State := { s with aCond := mapSet s.aCond (port, bit) s.time }

/-- A tally post that crosses the base is at its target's headgate, or is lost (R176, R420). -/
def State.postEnds (s : State) (n : Nat) (arrived : Bool) : State :=
  match takeFirst (fun p : Post => p.crossing == some n) s.posts with
  | none => s
  | some (p, rest) =>
    if arrived then { s with posts := mapFirst (fun p => p.crossing == some n) (fun p => { p with crossing := none }) s.posts }
    else ({ s with posts := rest }).raise evTallyLost p.port [p.port, p.ctr, p.wave16]

/-- A tally post leaves (R420): to the poster's own port on the mesh, to any other as class A on a plane, the one that its counter's number
selects (log 89). -/
def State.sendPost (s : State) (p : Post) : State :=
  if p.src = p.port then { s with posts := s.posts ++ [p] }
  else
    let n := (s.posts.filterMap (fun q => q.crossing)).foldl max 0 + 1
    let plane := s.effPlane (p.ctr % 8)
    let g := s.gate p.src plane
    let b : Bid := { dst := p.port, cls := .A, slots := 1, sender := .post n, tag := n, sidx := 0, retry := false, at' := s.time }
    ({ s with posts := s.posts ++ [{ p with crossing := some n }] }).setGate p.src plane { g with bids := g.bids ++ [b] }

/-- The tag of a mover's slots: the ring entry for its writes, another range for its read requests, so that a verdict finds its own. -/
def readTag (entry : Nat) : Nat := 1024 + entry

/-- The verdict on a slot of a mover reaches the write it belongs to (R256); a delivered piece of a relay waits for its packet's ACK; a read
request that is not delivered brings its code back (R257, R258). -/
def State.moverAnswer (s : State) (port chan tag sidx : Nat) (k : Code) : State :=
  let m := s.mover port
  let ok := decide (k = .ok) || decide (k = .poisoned)
  let write (w : MWrite) : MWrite := if w.slot = some sidx ∧ w.answer.isNone ∧ !(ok && w.copy.isSome) then { w with answer := some k } else w
  let read (r : MRead) : MRead := if r.slot = some sidx ∧ r.answer.isNone ∧ !ok then { r with answer := some (k, []) } else r
  let act (a : Active) : Active := if a.entry = tag then { a with writes := a.writes.map write }
    else if readTag a.entry = tag then { a with reads := a.reads.map read } else a
  s.setMover port { m with chans := m.chans.map (fun e => if e.1 = chan then (e.1, { e.2 with active := e.2.active.map act }) else e) }

/-- A reply slot brings the answer to a mover's read (R139, R254). -/
def State.answerRead (s : State) (port rid : Nat) (k : Code) (l : List Cell32) : State :=
  let m := s.mover port
  let read (r : MRead) : MRead := if r.slot.isSome ∧ r.rid = rid ∧ r.answer.isNone then { r with answer := some (k, l) } else r
  let chan (c : MChan) : MChan := { c with active := c.active.map (fun a => { a with reads := a.reads.map read }) }
  s.setMover port { m with chans := m.chans.map (fun e => (e.1, chan e.2)) }

/-- One part of an open BID ends with a code (R63, R136): the tile's tag collects it, or the mover's write. -/
def State.bidCode (s : State) (port : Nat) (who : Sender) (tag sidx : Nat) (codes : List Code) : State :=
  match who with
  | .tile tl =>
    let t := s.tile port tl
    match t.async.find? (fun p => p.1 == tag) with
    | some (_, .bid pl d c n st cs) =>
      s.setTile port tl { t with async := t.async.map (fun p => if p.1 = tag then (p.1, .bid pl d c n st (cs ++ codes)) else p) }
    | _ => s
  | .post n => s.postEnds n (decide (worst codes = .ok))
  | .mover c => s.moverAnswer port c tag sidx (worst codes)
  | _ => s

/-- The headgates in which a payload granted on a plane may be staged: the plane's, and that of its partner when that is retired (R148). -/
def State.stagedAt (s : State) (plane : Nat) : List Nat :=
  if s.obj .B0600 (plane ^^^ 1) = planeRetired then [plane, plane ^^^ 1] else [plane]

/-- Payloads that pass leave the staging buffers of a port that serve a plane. -/
def State.unstageAll (s : State) (port plane : Nat) (f : Slot → Bool) : State :=
  (s.stagedAt plane).foldl (fun s pl =>
    let g := s.gate port pl
    if g.staging.any f then s.setGate port pl { g with staging := g.staging.filter (fun y => !f y) } else s) s

/-- A staged payload leaves the headgate: its slot has been delivered or has failed (R124). -/
def State.unstage (s : State) (port plane : Nat) (x : Slot) : State :=
  s.unstageAll port plane (fun y => decide (y.sender = x.sender) && y.tag == x.tag && y.sidx == x.sidx)

/-- A slot ends with a code at its source (R136); one whose tag has ended tells nobody (R63). -/
def State.settleSlot (s : State) (plane : Nat) (x : Slot) (c : Code) : State :=
  if x.gone then s else (s.unstage x.src plane x).bidCode x.src x.sender x.tag x.sidx [c]

/-- The slots of a bid end with a code, and their payloads leave the headgate. -/
def State.failBid (s : State) (plane src : Nat) (b : Bid) (c : Code) : State :=
  if b.gone then s
  else (s.bidCode src b.sender b.tag b.sidx (List.replicate b.slots c)).unstageAll src plane (fun y =>
    decide (y.sender = b.sender) && y.tag == b.tag && decide (b.sidx ≤ y.sidx) && decide (y.sidx < b.sidx + b.slots))

/-- The port takes part in the base: it is in service, and no orderly withdrawal has reached its first frame boundary
(R126, R146). -/
def State.portOpen (s : State) (p : Nat) : Bool :=
  decide (p < 112) && s.inService p && (match s.withdrawing.find? (fun x => x.1 == p) with
    | some (_, f) => decide (s.frameNo < f)
    | none => true)

/-- A retired plane's partner takes its bids (R148): from the frame boundary after the retirement on. -/
def State.takesOver (s : State) (plane : Nat) : Bool :=
  s.obj .B0600 (plane ^^^ 1) == planeRetired && decide ((s.market (plane ^^^ 1)).retiredAt ≤ s.frameNo)

/-! ### Bids -/

/-- The bid that leaves first: the first of class A, or else the first, among those that reached the headgate 8 ns before the boundary
(R124, R125). -/
def firstBid (boundary : Nat) (l : List Bid) : Option (Bid × List Bid) :=
  let due (b : Bid) : Bool := decide (b.at' + 8 ≤ boundary)
  match takeFirst (fun b => due b && decide (b.cls = .A)) l with
  | some x => some x
  | none => takeFirst due l

/-- At a slot boundary the headgate sends one bid word to its market (R125): of its own queue, or of the queue of a retired plane that it
takes over, class A first (R124, R148). A retired plane's headgate sends none. -/
def execBidWordSend (port plane : Nat) (s : State) : Out :=
  let g := s.gate port plane
  let own := firstBid (64 * s.slotNo) g.bids
  let other := if s.takesOver plane then firstBid (64 * s.slotNo) (s.gate port (plane ^^^ 1)).bids else none
  let swap : Bool := match own, other with
    | none, some _ => true
    | some (b, _), some (c, _) => decide (b.cls ≠ .A) && decide (c.cls = .A)
    | _, none => false
  .next (if g.wordSlot = some s.slotNo ∨ s.obj .B0600 plane = planeRetired then s
    else match (if swap then other else own) with
    | none => s
    | some (b, rest) =>
      let m := s.market plane
      let s := if swap then
          (s.setGate port plane { g with wordSlot := some s.slotNo }).setGate port (plane ^^^ 1) { s.gate port (plane ^^^ 1) with bids := rest }
        else s.setGate port plane { g with bids := rest, wordSlot := some s.slotNo }
      s.setMarket plane { m with arriving := m.arriving ++ [{ src := port, bid := b, since := s.slotNo }] })

/-- The first slot of a class A bid finds a token in both policers (R131); each bucket holds one, so no further slot does. -/
def State.policed (s : State) (plane : Nat) (x : TableBid) : Bool :=
  decide ((s.gate x.src plane).refillAt ≤ s.slotNo) && decide (mapGet 0 (s.market plane).dstRefill x.bid.dst ≤ s.slotNo)

/-- The market checks one newly arrived bid (R126, R131): a bid to or from a port out of service ends TARGET_ABSENT; one
that finds no entry stays in the headgate's queue; the first slot of a class A bid takes a token from each policer, and the slots that
find none become class B: those after the first once it has been granted (`takeSlot`). Of the 32 entries of a source, 4 are kept for class
A: a bid of another class finds none while 28 or more stand (log 86). -/
def State.checkBid (s : State) (plane : Nat) (x : TableBid) : State :=
  if !s.portOpen x.bid.dst || !s.portOpen x.src then s.failBid plane x.src x.bid .targetAbsent
  else
    let m := s.market plane
    let used := (m.table.filter (fun y => y.src == x.src)).length
    if (if x.bid.cls = .A then 32 else 28) ≤ used then
      let g := s.gate x.src plane
      s.setGate x.src plane { g with bids := x.bid :: g.bids }
    else if x.bid.cls ≠ .A then s.setMarket plane { m with table := m.table ++ [{ x with since := s.slotNo }] }
    else
      let good := s.policed plane x
      let low := if good then x.bid.slots - 1 else x.bid.slots
      let y : TableBid := { x with since := s.slotNo, bid := { x.bid with cls := if good then .A else .B } }
      let source := decide (s.slotNo < (s.gate x.src plane).refillAt) || good
      let s := if good then
          (s.setGate x.src plane { (s.gate x.src plane) with refillAt := s.slotNo + 8 }).setMarket plane
            { m with table := m.table ++ [y], dstRefill := mapSet m.dstRefill x.bid.dst (s.slotNo + 8) }
        else s.setMarket plane { m with table := m.table ++ [y] }
      if low = 0 then s
      else ((s.bump .B0606 x.src low).breach x.src 0).raise evAPoliced x.src [plane, if source then 0 else 1, low]

/-! ### Matching (R127 to R130) -/

/-- Distinct values in order of first appearance. -/
def distinct (l : List Nat) : List Nat := l.foldl (fun a x => if a.contains x then a else a ++ [x]) []

/-- A bid joins others before those that the market accepted later (R127). -/
def insertAge (x : TableBid) : List TableBid → List TableBid
  | [] => [x]
  | y :: r => if x.since ≤ y.since then x :: y :: r else y :: insertAge x r

/-- Older bids before younger ones (R127): by the slot in which the market accepted them, and within it in the order of acceptance. -/
def byAge (l : List TableBid) : List TableBid := l.foldr insertAge []

/-- Pass 1: each destination grants its first class A bid, retries first and then the oldest; each source accepts its
first. -/
def passOne (l : List TableBid) : List TableBid :=
  let a := byAge (l.filter (fun x => decide (x.bid.cls = .A)))
  let order := a.filter (fun x => x.bid.retry) ++ a.filter (fun x => !x.bid.retry)
  let offers := (distinct (order.map (fun x => x.bid.dst))).filterMap (fun d => order.find? (fun x => x.bid.dst == d))
  (distinct (offers.map (fun x => x.src))).filterMap (fun p => offers.find? (fun x => x.src == p))

/-- The weights of B.0602 as credits of a cycle: B, C, D. -/
def State.weights (s : State) : Nat × Nat × Nat :=
  let w := s.obj .B0602 0
  (packedGet w 1 0, packedGet w 1 1, packedGet w 1 2)

/-- A credit of a class. -/
def creditOf (c : Nat × Nat × Nat) : Cls → Nat
  | .B => c.1
  | .C => c.2.1
  | .D => c.2.2
  | .A => 0

/-- One grant taken from a class's credit. -/
def spend (c : Nat × Nat × Nat) : Cls → Nat × Nat × Nat
  | .B => (c.1 - 1, c.2.1, c.2.2)
  | .C => (c.1, c.2.1 - 1, c.2.2)
  | .D => (c.1, c.2.1, c.2.2 - 1)
  | .A => c

/-- The class a destination serves next (R130): the first of B, C, D with a bid and credit; the cycle restarts when no
class with a bid has credit left. -/
def chooseClass (credit weights : Nat × Nat × Nat) (has : Cls → Bool) : Option (Cls × (Nat × Nat × Nat)) :=
  match [Cls.B, Cls.C, Cls.D].find? (fun c => has c && decide (0 < creditOf credit c)) with
  | some c => some (c, credit)
  | none => match [Cls.B, Cls.C, Cls.D].find? has with
    | some c => some (c, weights)
    | none => none

/-- The source after the pointer, in rising order and round again. -/
def afterPointer (ptr : Nat) (srcs : List Nat) : Option Nat :=
  (((List.range 128).map (fun i => (ptr + 1 + i) % 128)).find? (fun p => srcs.contains p))

/-- One destination's grant in pass 2 or 3: the class, the credit before it is spent, and the bid. -/
def destGrant (weights : Nat × Nat × Nat) (m : Market) (free : List TableBid) (d : Nat) : Option (TableBid × (Nat × Nat × Nat)) :=
  let mine := free.filter (fun x => x.bid.dst == d)
  match chooseClass (mapGet weights m.credit d) weights (fun c => mine.any (fun x => decide (x.bid.cls = c))) with
  | none => none
  | some (c, cr) =>
    let inC := mine.filter (fun x => decide (x.bid.cls = c))
    let pool := if inC.any (fun x => x.bid.retry) then inC.filter (fun x => x.bid.retry) else inC
    match afterPointer (mapGet 127 m.pointer (4 * d + clsNum c)) (pool.map (fun x => x.src)) with
    | none => none
    | some p => ((byAge pool).find? (fun x => x.src == p)).map (fun x => (x, cr))

/-- Passes 2 and 3 (R127): among the bids of sources and destinations still free; each source accepts the highest class
and within it the oldest bid. Answers the matched bids and the market with credits and pointers moved. -/
def passTwo (weights : Nat × Nat × Nat) (m : Market) (free : List TableBid) : List TableBid × Market :=
  let low := free.filter (fun x => decide (x.bid.cls ≠ .A))
  let offers := (distinct (low.map (fun x => x.bid.dst))).filterMap (fun d => destGrant weights m low d)
  let better (x y : TableBid) : Bool := decide (clsNum x.bid.cls < clsNum y.bid.cls) || (decide (clsNum x.bid.cls = clsNum y.bid.cls) && decide (x.since < y.since))
  let taken := (distinct (offers.map (fun o => o.1.src))).filterMap (fun p =>
    (offers.filter (fun o => o.1.src == p)).foldl (fun a o => match a with
      | none => some o
      | some b => if better o.1 b.1 then some o else some b) none)
  (taken.map (fun o => o.1),
    taken.foldl (fun m o => { m with credit := mapSet m.credit o.1.bid.dst (spend o.2 o.1.bid.cls)
                                     pointer := mapSet m.pointer (4 * o.1.bid.dst + clsNum o.1.bid.cls) o.1.src }) m)

/-- The bids whose source and destination are in none of the matched ones. -/
def stillFree (matched l : List TableBid) : List TableBid :=
  l.filter (fun x => !(matched.any (fun y => y.src == x.src || y.bid.dst == x.bid.dst)))

/-- Take one slot off a bid of the table: the entry leaves with its last slot, and what follows the first slot of a class A bid is class B
(R131). -/
def takeSlot (x : TableBid) : List TableBid → List TableBid
  | [] => []
  | y :: r => if y = x then
      (if x.bid.slots ≤ 1 then r else { y with bid := { y.bid with slots := y.bid.slots - 1, sidx := y.bid.sidx + 1, cls := if y.bid.cls = .A then .B else y.bid.cls } } :: r)
    else y :: takeSlot x r

/-- A port is withheld in a slot (R132, R149). -/
def Market.holds (m : Market) (p slot : Nat) : Bool := m.withheld.any (fun x => x.1 == p && decide (x.2.1 ≤ slot) && decide (slot < x.2.2))

/-- The market withholds a port from one slot to before another; what ended 10 ms ago is forgotten. -/
def State.withhold (s : State) (plane port a b : Nat) : State :=
  let m := s.market plane
  s.setMarket plane { m with withheld := m.withheld.filter (fun x => decide (s.slotNo < x.2.2 + 156250)) ++ [(port, a, b)] }

/-- A bundle is in recovery for a frame of the market (R149): frames are withheld whole for no other cause than a change of light. -/
def Market.recovers (m : Market) (p slot : Nat) : Bool := m.withheld.any (fun x => x.1 == p && decide (x.2.1 ≤ slot) && decide (slot < x.2.2) && x.2.2 == x.2.1 + 8)

/-- Sluice k of a stage of a plane stands in cross now; where no matching has set it, it stands in bar (R119, R128). -/
def State.sluice (s : State) (plane stage k : Nat) : Bool :=
  match (s.market plane).settings.find? (fun e => e.1 == s.slotNo) with
  | some (_, l) => bitGet (l.getD stage 0) k
  | none => false

/-- The bids that a market ends at a slot boundary: those of ports that left service, and all of a retired plane (R126, R146, R148). -/
def State.bidEnds (s : State) (plane : Nat) (x : TableBid) : Bool :=
  !s.portOpen x.bid.dst || !s.portOpen x.src || s.obj .B0600 plane == planeRetired

/-- The market takes the bid words that reached it before this slot, and ends the bids that can find no stall (R125, R126). -/
def State.takeBids (s : State) (plane : Nat) : State :=
  let m := s.market plane
  let due (x : TableBid) : Bool := decide (x.since < s.slotNo)
  let s := s.setMarket plane { m with arriving := m.arriving.filter (fun x => !due x), lastMatch := some s.slotNo }
  let s := (m.arriving.filter due).foldl (fun s x => s.checkBid plane x) s
  let bad := (s.market plane).table.filter (fun x => s.bidEnds plane x)
  let s := s.setMarket plane { s.market plane with table := (s.market plane).table.filter (fun x => !s.bidEnds plane x) }
  bad.foldl (fun s x => s.failBid plane x.src x.bid .targetAbsent) s

/-- The three passes for a slot: the matched bids, and the market with credits and pointers moved (R127). -/
def Market.matching (m : Market) (weights : Nat × Nat × Nat) (slot : Nat) : List TableBid × Market :=
  let live := (m.retries ++ m.table).filter (fun x => !m.holds x.src slot && !m.holds x.bid.dst slot)
  let g1 := passOne live
  let (g2, m2) := passTwo weights m (stillFree g1 live)
  let (g3, m3) := passTwo weights m2 (stillFree (g1 ++ g2) live)
  (g1 ++ g2 ++ g3, m3)

/-- The market of a plane matches once in a slot m, for the slot m + 4 (R126 to R131): it takes the bids that arrived, grants a slot to
each matched bid, and routes the matching through its sluices. -/
def execMarketMatch (plane : Nat) (s : State) : Out :=
  .next (if (s.market plane).lastMatch = some s.slotNo then s
    else
      let s := s.takeBids plane
      let m := s.market plane
      let slot := s.slotNo + 4
      let (all, m') := m.matching s.weights slot
      let s := s.setMarket plane { m' with
        table := all.foldl (fun l x => takeSlot x l) m.table
        retries := all.foldl (fun l x => takeSlot x l) m.retries
        grants := m.grants ++ all.map (fun x => { src := x.src, bid := { x.bid with slots := 1 }, slot := slot, since := x.since })
        settings := if all = [] then m.settings
          else m.settings.filter (fun e => decide (s.slotNo ≤ e.1)) ++ [(slot, routeMatching (all.map (fun x => (x.src, x.bid.dst))))] }
      (all.filter (fun x => !x.bid.retry)).foldl (fun s x => s.setObj .B0608 x.src (max (s.obj .B0608 x.src) (s.slotNo - x.since))) s)

/-! ### Grants, verdicts, retries -/

/-- The requester of a stall has stopped, or its tag has ended (R63): an unused stall is not bid for again. -/
def State.requesterGone (s : State) (port : Nat) (b : Bid) : Bool :=
  b.gone || (match b.sender with
  | .tile tl => !((s.tile port tl).async.any (fun p => p.1 == b.tag))
  | .mover _ => (s.mover port).stop.isSome
  | _ => false)

/-- The payload staged for a bid's next slot; a tally post has none and is itself what travels: kind 8, which Table 6.2 does not have, since
it gives a post no kind (log 89). A PMA stream, kind 9, is made as it goes. -/
def State.stagedFor (s : State) (port plane : Nat) (b : Bid) : Option Slot :=
  if b.gone then none
  else match b.sender with
  | .post n => if s.posts.any (fun p => p.crossing == some n) then
      some { (default : Slot) with src := port, dst := b.dst, kind := 8, tag := n, sender := .post n, payload := [] } else none
  | .pma => some { (default : Slot) with src := port, dst := b.dst, kind := 9, tag := b.tag, sender := .pma, payload := [] }
  | _ => ((s.stagedAt plane).flatMap (fun pl => (s.gate port pl).staging)).find? (fun x =>
    decide (x.sender = b.sender) && x.tag == b.tag && x.sidx == b.sidx)

/-- The oldest grant of a headgate (R63, R128): the staged payload of its bid runs in the granted slot; when the slot begins
before a payload is staged the stall is returned unused and bid for again, unless its requester is gone. -/
def execGrantArrival (port plane : Nat) (s : State) : Out :=
  let m := s.market plane
  .next (match takeFirst (fun g : Grant => g.src == port) m.grants with
    | none => s
    | some (g, rest) =>
      match s.stagedFor port plane g.bid with
      | some x => s.setMarket plane { m with
          grants := rest
          flying := m.flying ++ [{ x with src := port, dst := g.bid.dst, cls := g.bid.cls, retry := g.bid.retry, slotno := g.slot, since := g.since }] }
      | none =>
        if s.slotNo < g.slot then s
        else
          let s := s.setMarket plane { m with grants := rest }
          if s.requesterGone port g.bid then s
          else
            let gate := s.gate port plane
            s.setGate port plane { gate with bids := gate.bids ++ [{ g.bid with at' := s.time }] })

/-- Units of a field cache's pool and of the whole cache (R137). -/
def poolUnits : Nat := 458752
def cacheUnits : Nat := 524288

/-- The code of a region of a field cache (R137, R229, R139): beyond 16 MiB BUS_ERROR; the remote-line area or a corner
field's pool ACCESS_DENIED; where both hold, the first of R18. -/
def cacheCode (field addr len : Nat) : Code :=
  let denied := decide (addr < cacheUnits) && decide (poolUnits < addr + len) || isCornerField field && decide (addr < poolUnits)
  worst [if cacheUnits < addr + len then .busError else .ok, if denied then .accessDenied else .ok]

/-- A station's ticket by number. -/
def Station.ticket (y : Station) (n : Nat) : Option Ticket := y.tickets.find? (fun t => t.ticket == n)

/-- A ticket takes a contribution now: not complete, its deadline not passed, its count not reached (R141, R145). -/
def Ticket.accepts (t : Ticket) (now pending : Nat) : Bool :=
  t.fin.isNone && decide (now ≤ t.deadline) && decide (t.contribs.length + pending < t.expected)

/-- The ticket that a port's contributions name: a station's, or at an I/O die a transit ticket, or what goes straight on (R165, R225). -/
def State.mergeTicket (s : State) (port n : Nat) : Option Ticket :=
  match iodOfPort port with
  | some i => ((s.iod i).tickets ++ (s.iod i).straight).find? (fun t => t.ticket == n)
  | none => (s.station port).ticket n

/-- Contributions for a ticket that wait in a port's receive buffers. -/
def State.waitingContribs (s : State) (port n : Nat) : Nat :=
  ((List.range 8).map (fun p => ((s.gate port p).recv.filter (fun x => x.kind == 2 && x.taddr % 65536 == n)).length)).sum

/-- The verdict of a slot that is not lost (Table 6.5); where several hold, the first of R18. -/
def State.verdict (s : State) (x : Slot) : Code :=
  let p := x.dst
  let good : Code := if anyMark x.payload then .poisoned else .ok
  let err (bad : Bool) : Code := if bad then .busError else .ok
  let deny (bad : Bool) : Code := if bad then .accessDenied else .ok
  match x.kind with
  | 0 =>
    if (iodOfPort p).isSome then worst [err (decide (2 ^ 17 < x.taddr + x.len)), good]
    else worst [err (decide (48 ≤ x.ttile) || !isSite p || decide (2 ^ 17 < x.taddr + x.len)),
      deny (decide (x.ttile < 48) && isSite p && ((s.tile p x.ttile).sleeping x.taddr x.len).isSome), good]
  | 1 => worst [cacheCode (fieldOf p) x.taddr x.len, good]
  | 2 => match s.mergeTicket p (x.taddr % 65536) with
    | none => .accessDenied
    | some t => worst [deny (!t.accepts s.time (s.waitingContribs p (x.taddr % 65536))), err (decide (x.len ≠ 8 * t.flits)), good]
  | 3 => worst [err (!isSite p || decide (48 ≤ x.ttile) || decide (2 ^ 23 < x.taddr % 2 ^ 23 + x.len)),
      deny (isSite p && (s.band p == bandB4 || decide (64 ≤ ((s.field (fieldOf p)).writeQ.filter (fun y => y.dst == p)).length))), good]
  | 4 => .ok
  | 8 => .ok
  | 9 => .ok
  | _ => .busError

/-- A contribution refused (R141, R145): counted and reported, with the plane it came on. -/
def State.mergeRefuse (s : State) (port plane ticket : Nat) (c : Code) : State :=
  (s.bump .B060D port 1).raise evMergeRefused port [ticket, codeNum c, plane]

/-- What a delivered slot does at its verdict: a kind-1 slot writes the field cache (R137), a kind-3 slot joins the write
queue (R139); a slot whose write waits for the drain stays in the receive buffer; a refused one is counted. -/
def State.deliver (s : State) (plane : Nat) (x : Slot) (c : Code) : State :=
  let p := x.dst
  let taken := decide (c = .ok) || decide (c = .poisoned)
  let g := s.gate p plane
  let s := if taken && x.kind != 8 && x.kind != 9 then s.setGate p plane { g with recv := g.recv ++ [x] } else s
  match x.kind with
  | 1 => if taken then s.putUnits (cacheAddr (fieldOf p) (32 * x.taddr)) x.payload else s
  | 2 => if taken then s else s.mergeRefuse p plane (x.taddr % 65536) c
  | 3 =>
    let f := s.field (fieldOf p)
    if taken then s.setField (fieldOf p) { f with writeQ := f.writeQ ++ [x] }
    else if isSite p ∧ s.band p ≠ bandB4 ∧ 64 ≤ (f.writeQ.filter (fun y => y.dst == p)).length then s.bump .B0610 (fieldOf p) 1 else s
  | 9 => match iodOfPort p with
    | some i =>
      let b := mapGet (0, false) s.pma i
      { s with pma := mapSet s.pma i (min 39 (b.1 + 1), b.2 || decide (20 ≤ b.1 + 1)) }
    | none => s
  | _ => s

/-- Causes of a loss, as SLOT_LOST carries them (R135); 5 for a slot that an abrupt withdrawal reports as lost (R147). -/
def lossNum : Loss → Nat
  | .lock => 0 | .fec => 1 | .check => 2 | .header => 3 | .room => 4

/-- A loss is counted at its receiver; SLOT_LOST at most once per port, plane and millisecond (R136). -/
def State.countLoss (s : State) (port plane cause : Nat) : State :=
  let s := s.bump .B0604 port 1
  let m := s.market plane
  let e := m.lostEvent.find? (fun x => x.1 == port)
  let n := (e.map (fun x => x.2.2)).getD 0 + 1
  if dueEvent (e.map (fun x => x.2.1)) s.time 1000000 then
    (s.setMarket plane { m with lostEvent := mapSet m.lostEvent port (s.time, 0) }).raise evSlotLost port [plane, cause, n]
  else s.setMarket plane { m with lostEvent := mapSet m.lostEvent port ((e.map (fun x => x.2.1)).getD s.time, n) }

/-- Payloads in a receive buffer at the start of a slot (R124, R135): those of earlier slots, unless they had left it by then. -/
def Gate.occupied (g : Gate) (slot : Nat) : Nat :=
  (g.recv.filter (fun x => decide (x.slotno < slot))).length +
    (g.freed.filter (fun e => decide (e.1 < slot) && decide (64 * slot < e.2))).length

/-- A payload leaves a receive buffer. -/
def Gate.free (g : Gate) (x : Slot) (rest : List Slot) (now : Nat) : Gate := { g with recv := rest, freed := ((x.slotno, now) :: g.freed).take 4 }

/-- The slot that ran first to a port among those not yet judged. -/
def Market.oldestRun (m : Market) (port now : Nat) : Option (Slot × List Slot) :=
  let ran (x : Slot) : Bool := x.dst == port && decide (x.slotno < now)
  takeFirst (fun x => ran x && (m.flying.filter ran).all (fun y => decide (x.slotno ≤ y.slotno))) m.flying

/-- The receiving headgate judges the oldest slot that has run to its port (R135): lost for what it found or for want of
room in the receive buffer when the slot began, or delivered with the code of Table 6.5, which the market returns to the source. -/
def execSlotVerdict (port plane : Nat) (found : SlotFault) (s : State) : Out :=
  let m := s.market plane
  .next (match m.oldestRun port s.slotNo with
    | none => s
    | some (x, rest) =>
      let s := (s.setMarket plane { m with flying := rest }).bump .B0603 x.src 1
      let s : State := if found.lock then { s with clockLost := s.clockLost.filter (fun e => e != (x.src, plane)) } else s
      let (wrong, y) := x.judge plane found
      match if wrong.isNone && decide (4 ≤ (s.gate port plane).occupied x.slotno) then some Loss.room else wrong with
      | some l =>
        let s := s.countLoss port plane (lossNum l)
        let m := s.market plane
        s.setMarket plane { m with lost := m.lost ++ [x] }
      | none =>
        let c := s.verdict y
        (s.deliver plane y c).settleSlot plane x c)

/-- The source of a lost slot (R136): a first loss is sent again on a grant the market gives without a new bid, ahead of new
bids; toward a port out of service it ends TARGET_ABSENT; a second loss has failed, ends BUS_ERROR, and is reported. -/
def execSlotRetry (port plane : Nat) (s : State) : Out :=
  let m := s.market plane
  .next (match takeFirst (fun x : Slot => x.src == port) m.lost with
    | none => s
    | some (x, rest) =>
      let s := s.setMarket plane { m with lost := rest }
      if x.retry then
        ((s.bump .B0605 port 1).raise evSlotFailed port [plane, x.slotno, x.stile, x.headTag]).settleSlot plane x .busError
      else if !s.portOpen x.dst || !s.portOpen x.src then s.settleSlot plane x .targetAbsent
      else if x.gone then s
      else
        let b : Bid := { dst := x.dst, cls := x.cls, slots := 1, sender := x.sender, tag := x.tag, sidx := x.sidx, retry := true }
        s.setMarket plane { m with lost := rest, retries := m.retries ++ [{ src := port, bid := b, since := x.since }] })

/-- The oldest payload of a receive buffer that waits for its last beat reaches its target, a tile store's unit by way of
port B (R72) or an I/O die's landing buffer (R250), where a reply answers its mover's read and a relayed piece waits for the transport engine
(R256), and frees its place (R124); a write that a waking bank holds, or that stands behind one,
holds the drain. Contributions and read requests leave by their own commands. -/
def execReceiveBufferDrain (port plane : Nat) (s : State) : Out :=
  let g := s.gate port plane
  .next (match takeFirst (fun x : Slot => x.kind != 2 && x.kind != 4) g.recv with
    | none => s
    | some (x, rest) =>
      let held := x.kind == 0 && (iodOfPort port).isNone &&
        ((s.tile port x.ttile).wakesFor x.taddr x.len || !(s.tile port x.ttile).held.isEmpty)
      if held then s
      else
        let s := s.setGate port plane (g.free x rest s.time)
        if x.kind ≠ 0 then s
        else match iodOfPort port with
          | some i =>
            let s := s.putUnits (landingAddr i (32 * x.taddr)) x.payload
            let s := if x.reply then s.answerRead port x.rid (codeOf x.code) x.payload else s
            match x.relay with
            | some e => s.setIod i { s.iod i with relayed := (s.iod i).relayed ++ [e] }
            | none => s
          | none => (s.arrive port x.ttile x.taddr x.payload).1)

/-! ### The remote-access controller (R139) -/

/-- A read request record (Table 6.6). -/
def readRec (u : BitVec 256) : ReadRec :=
  { space := fld u 0 2, ttile := fld u 2 6, addr := fld u 8 25, len := fld u 33 9, rport := fld u 42 7, rkind := fld u 49 3,
    rtile := fld u 52 6, raddr := fld u 58 25, cls := clsOf (fld u 83 2), rid := fld u 85 16 }

/-- A kind-4 slot's records, one per 256-B flit, join the controller's reads in order; a length of 0 marks an empty one. -/
def execRacReadRequest (port plane : Nat) (s : State) : Out :=
  let g := s.gate port plane
  .next (match takeFirst (fun x : Slot => x.kind == 4) g.recv with
    | none => s
    | some (x, rest) =>
      let recs := ((List.range 46).filterMap (fun i => x.payload[8 * i]?)).map (fun u => readRec u.data)
      let f := s.field (fieldOf port)
      (s.setGate port plane (g.free x rest s.time)).setField (fieldOf port)
        { f with reads := f.reads ++ (recs.filter (fun r => r.len != 0)).map (fun r => { port := port, record := r, sent := false, answer := none }) })

/-- What a field cache gives of some units: marked where ECC finds them uncorrectable (R138). -/
def State.cacheUnitsOf (s : State) (field addr n : Nat) (ue : List Nat) : List Cell32 :=
  (s.unitsAt (cacheAddr field (32 * addr)) n).zipIdx.map (fun p => if ue.contains p.2 then { p.1 with mark := true } else p.1)

/-- An uncorrectable word of a field cache (R138): counted, reported, its unit marked. -/
def State.cacheUe (s : State) (field unit : Nat) : State :=
  ((s.bump .B060F field 1).raise evFcUe field [field, unit, codeNum .eccUncorrected]).setMark (cacheAddr field (32 * unit)) true

/-- A read of a field cache: the words that ECC corrects, and those it cannot (R138). -/
def State.cacheRead (s : State) (field addr n : Nat) (ue : List Nat) (ce : Nat) : State :=
  ((ue.filter (fun i => decide (i < n))).foldl (fun s i => s.cacheUe field (addr + i)) s).count .B060E field ce

/-- What refuses a read before any memory is asked (R139): a reserved space or a region that no memory has, a region of the field cache that
is not the pool's, and a vault region in B4; where several hold, the first of R18. -/
def State.readRefusal (s : State) (port : Nat) (r : ReadRec) : Code :=
  if r.space = 0 then
    worst [if !isSite port ∨ 48 ≤ r.ttile ∨ 2 ^ 23 < r.addr % 2 ^ 23 + r.len ∨ 368 < r.len then .busError else .ok,
      if isSite port ∧ s.band port = bandB4 then .accessDenied else .ok]
  else if r.space = 1 then worst [cacheCode (fieldOf port) r.addr r.len, if 368 < r.len then .busError else .ok]
  else .busError

/-- A read's code and data once it can be answered (R139): refused, from the field cache, or from a vault when the vault controller has
answered. -/
def State.readAnswer (s : State) (j : ReadJob) (ue : List Nat) : Option (Code × List Cell32) :=
  match j.answer with
  | some x => some x
  | none =>
    let r := j.record
    let c := s.readRefusal j.port r
    if c ≠ .ok then (if j.sent then none else some (c, []))
    else if r.space = 0 then none
    else
      let l := s.cacheUnitsOf (fieldOf j.port) r.addr r.len ue
      some (if anyMark l then .poisoned else .ok, l)

/-- The oldest read of a port is answered whole by a reply slot that the controller stages and bids for in the request's
class (R139), on the plane that the requester identifier selects (log 7). A read of a vault waits until the vault controller has served it
(REMOTE_ACCESS_SERVE). -/
def execRacReadReply (port : Nat) (ueUnits : List Nat) (ce : Nat) (s : State) : Out :=
  let f := s.field (fieldOf port)
  .next (match takeFirst (fun j : ReadJob => j.port == port) f.reads with
    | none => s
    | some (j, rest) =>
      let r := j.record
      let plane := s.effPlane (r.rid % 8)
      let g := s.gate port plane
      if decide (8 ≤ g.staging.length) || decide (64 ≤ g.bids.length) then s
      else match s.readAnswer j ueUnits with
        | none => s
        | some (c, l) =>
          let s := s.setField (fieldOf port) { f with reads := rest }
          let s := if r.space = 1 then s.cacheRead (fieldOf port) r.addr l.length ueUnits ce else s
          let x : Slot := { src := port, dst := r.rport, cls := r.cls, retry := false, kind := r.rkind, ttile := r.rtile, taddr := r.raddr
                            len := l.length, tag := g.serial, sender := .reads, sidx := 0, rid := r.rid, reply := true, code := codeNum c
                            slotno := 0, payload := l }
          let b : Bid := { dst := r.rport, cls := r.cls, slots := 1, sender := .reads, tag := g.serial, sidx := 0, retry := false, at' := s.time }
          s.setGate port plane { g with staging := g.staging ++ [x], bids := g.bids ++ [b], serial := g.serial + 1 })

/-- The hourly scrub of a field cache (R138): corrected words are counted, uncorrectable units handled. -/
def execFieldCacheScrub (field ce : Nat) (ueUnits : List Nat) (s : State) : Out :=
  let f := s.field field
  .next (if s.time < f.scrubAt + 3600000000000 then s
    else ueUnits.foldl (fun s u => s.cacheUe field u) ((s.setField field { f with scrubAt := s.time }).count .B060E field ce))

/-! ### Withdrawals and planes -/

/-- An orderly withdrawal is requested (R146): from the next frame boundary the market refuses bids to and from the port. -/
def State.orderly (s : State) (port : Nat) : State :=
  if s.inService port && !(s.withdrawing.any (fun x => x.1 == port)) then
    { s with withdrawing := mapSet s.withdrawing port (s.frameNo + 1) }
  else s

def execOrderlyWithdrawal (port : Nat) (s : State) : Out := .next (s.orderly port)

/-- One plane's part of an abrupt withdrawal (R147): slots granted to or from the port that have not run are reported lost and end
PATH_RESET, as do accepted bids; in the supply case slots that run now are lost too, and their retries find no target. -/
def State.abruptPlane (s : State) (port plane : Nat) (supply : Bool) : State :=
  let m := s.market plane
  let mineS (x : Slot) : Bool := x.src == port || x.dst == port
  let mineB (x : TableBid) : Bool := x.src == port || x.bid.dst == port
  let notRun (x : Slot) : Bool := mineS x && decide (s.slotNo < x.slotno)
  let runs (x : Slot) : Bool := mineS x && supply && x.slotno == s.slotNo
  let deadS := m.flying.filter notRun
  let deadG := m.grants.filter (fun g => g.src == port || g.bid.dst == port)
  let deadR := m.retries.filter mineB
  let deadB := m.table.filter mineB
  let s := s.setMarket plane { m with
    flying := m.flying.filter (fun x => !notRun x && !runs x)
    lost := m.lost ++ m.flying.filter runs
    grants := m.grants.filter (fun g => !(g.src == port || g.bid.dst == port))
    retries := m.retries.filter (fun x => !mineB x)
    table := m.table.filter (fun x => !mineB x) }
  let s := (m.flying.filter runs).foldl (fun s x => s.countLoss x.dst plane (lossNum .lock)) s
  let s := deadS.foldl (fun s x => (s.countLoss x.dst plane 5).settleSlot plane x .pathReset) s
  let s := deadG.foldl (fun s g => (s.countLoss g.bid.dst plane 5).failBid plane g.src g.bid .pathReset) s
  let s := deadR.foldl (fun s x => s.failBid plane x.src x.bid .targetAbsent) s
  deadB.foldl (fun s x => s.failBid plane x.src x.bid .pathReset) s

/-- An abrupt withdrawal (R147): the market acts in the slot of the request on every plane. -/
def State.abrupt (s : State) (port : Nat) (supply : Bool) : State :=
  if !s.inService port then s
  else
    let s := (List.range 8).foldl (fun s pl => s.abruptPlane port pl supply) s
    (({ s with withdrawing := mapDel s.withdrawing port, pathOk := s.pathOk.filter (fun x => x.1.1 != port) }).setObj
      .B0601 port portWithdrawn).raise evPortWithdrawn port [1]

def execAbruptWithdrawal (port : Nat) (supply : Bool) (s : State) : Out := .next (s.abrupt port supply)

/-- A plane is retired (R148): its bids and the slots granted on it end TARGET_ABSENT; the bids that wait in its headgates, and those that
name it later, go to plane p XOR 1 from the next frame boundary on (`takesOver`, `effPlane`); PLANE_RETIRED is raised. -/
def State.retirePlane (s : State) (plane cause : Nat) : State :=
  if s.obj .B0600 plane = planeRetired then s
  else
    let m := s.market plane
    let s := (s.setObj .B0600 plane planeRetired).setMarket plane
      { m with arriving := [], table := [], retries := [], grants := [], flying := [], lost := [], retiredAt := s.frameNo + 1 }
    let s := (m.arriving ++ m.table ++ m.retries).foldl (fun s x => s.failBid plane x.src x.bid .targetAbsent) s
    let s := m.grants.foldl (fun s g => s.failBid plane g.src g.bid .targetAbsent) s
    let s := (m.flying ++ m.lost).foldl (fun s x => s.settleSlot plane x .targetAbsent) s
    (usedPorts.foldl (fun s p => s.breach p 2) s).raise evPlaneRetired noSubject [plane, cause]

/-- The plane's duplicate matching and routing has failed its check in two consecutive slots (R148). -/
def execPlaneRetire (plane cause : Nat) (s : State) : Out := .next (s.retirePlane plane cause)

/-- The ports of a base tree on its plane (R187). -/
def treePorts (tree : Nat) : List Nat := ((List.range 16).map (fun i => 16 * tree + i)).filter (fun p => !isDark p)

/-- The market withholds the ports of a tree for a frame while its light source changes (R149): the first in which no slot has been granted
yet, since no granted slot runs in it. -/
def State.recoveryFrame (s : State) (lampDie plane tree : Nat) : State :=
  let f := (s.slotNo + 4) / 8 + 1
  let s := (treePorts tree).foldl (fun s p => s.withhold plane p (8 * f) (8 * f + 8)) s
  ((treePorts tree).foldl (fun s p => s.breach p 1) s).raise evBundleRecovery lampDie (lampDie :: treePorts tree ++ [plane])

/-- The tree of a set waits for a withheld frame: a reserve is armed for one of its lasers, or a carry is due (R203 to R206). -/
def State.switchDue (s : State) (set : Nat) : Bool :=
  (List.range 5).any (fun w => (s.laser (laserOf set w)).armed || s.carryWanted.contains (set, w))

/-- The lamp die of a tree that waits for a new light source asks the market for a frame (R149, R203). -/
def execBundleRecoveryFrame (lampDie plane tree : Nat) (s : State) : Out :=
  let set := setOfTree plane tree
  .next (if plane < 8 ∧ tree < 7 ∧ set / 6 = lampDie ∧ s.switchDue set then s.recoveryFrame lampDie plane tree else s)

/-- A port has passed its path test on every plane in service, and a frame boundary has passed since the last (R147, Table 6.8). -/
def State.pathsPassed (s : State) (port : Nat) : Bool :=
  (List.range 8).all (fun pl => s.obj .B0600 pl == planeRetired || s.pathOk.any (fun e => e.1 == (port, pl) && decide (e.2 < s.frameNo)))

/-- A port returns to service (R147): PORT_RESTORED. -/
def State.joinBase (s : State) (port : Nat) : State :=
  (({ s with pathOk := s.pathOk.filter (fun x => x.1.1 != port) }).setObj .B0601 port portInService).raise evPortRestored port []

/-- A withdrawn or dormant port returns to service once its path test has passed on every plane in service (R147, Table 6.8) and its zone's time base has realigned (R286). -/
def State.restorePort (s : State) (port : Nat) : State :=
  let st := s.obj .B0601 port
  if (st = portWithdrawn ∨ st = portDormant) ∧ !s.power.realigning.contains (zoneOf port) ∧ s.pathsPassed port then s.joinBase port else s

/-- The frame in which a port's next path test on a plane may withhold a stall (B.0609, R132). -/
def State.testDue (s : State) (port plane : Nat) : Bool :=
  let iv := s.obj .B0609 0
  iv != 0 && (match (s.market plane).testedAt.find? (fun e => e.1 == port) with
    | some (_, f) => decide (f + iv ≤ (s.slotNo + 5) / 8)
    | none => true)

/-- The plane-path test lights a pattern through a stall of a port and checks it (R132, R147): for a port out of
service a pass is remembered; for a port in service, as often as B.0609 says, the next stall that can still be matched is withheld,
LEVY_STALLS when that is the second in two consecutive frames; a plane that fails its test is retired (R148, R207). -/
def execPathTest (port plane : Nat) (pass : Bool) (s : State) : Out :=
  let m := s.market plane
  let pass := pass && !s.treeDark plane (port / 16)
  .next (if s.obj .B0600 plane = planeRetired then s
    else if !s.inService port then
      if pass then { s with pathOk := mapSet s.pathOk (port, plane) s.frameNo } else s.raise evPathTestFailed port [port, plane, 1]
    else if !s.testDue port plane then s
    else
      let slot := s.slotNo + 5
      let close := m.testedAt.any (fun e => e.1 == port && decide (slot / 8 ≤ e.2 + 1))
      let s := s.withhold plane port slot (slot + 1)
      let s := s.setMarket plane { s.market plane with testedAt := mapSet m.testedAt port (slot / 8) }
      let s := if close then (s.breach port 3).raise evLevyStalls port [port, 2, plane] else s
      if pass then s else s.retirePlane plane 3)

end Sys2Proof.Machine
end

