-- ==== Sys2Proof/Machine/Boxes.lean ====
section
/-!
DEFINITION. The mailbox commands (R260 to R265) and the check units (R266 to R269). Check units 0 to 3 are CU-A's, 4 to 7 CU-B's.
-/

namespace Sys2Proof.Machine

/-- A write that is not in wait mode (R261). -/
def execMailboxWrite (box : Nat) (payload : BitVec 448) (skind sproc sport stile schan : Nat) (s : State) : Out :=
  .next (s.mailWrite box payload skind sproc sport stile schan)

/-- A write in wait mode (R264). -/
def execMailboxWaitWrite (box : Nat) (payload : BitVec 448) (skind sproc sport stile schan : Nat) (s : State) : Out :=
  .next (s.mailWait box payload skind sproc sport stile schan).1

/-- A release (R262, R263): a control unit's mailbox is released by that unit, and only the lease holder's release takes effect (R265). -/
def execMailboxRelease (box seq : Nat) (s : State) : Out := .next (s.mailRelease box seq (s.keeper.holder == some (box / 32)))

/-- A message has waited more than 1 ms: MBOX_WAIT, at most once per mailbox and millisecond (R264). -/
def execMboxWaitExpiry (box : Nat) (s : State) : Out :=
  let b := s.box box
  .next (match b.oldestWait with
    | some t =>
      if t + 1000000 < s.time ∧ dueEvent b.evWait s.time 1000000 then
        (s.setBoxes box { b with evWait := some s.time }).raise evMboxWait noSubject [box, (s.time - t) / 1000]
      else s
    | none => s)

/-! ### Check units -/

/-- The width w of a unit (CTRL[5:0] + 1). -/
def CheckUnit.width (u : CheckUnit) : Nat := fld u.ctrl 0 6 + 1

/-- POLY, INIT and VALUE with their bits [63:w] held at 0 (R266). -/
def CheckUnit.masked (u : CheckUnit) : CheckUnit :=
  { u with poly := u.poly &&& lowMask u.width, init := u.init &&& lowMask u.width, value := u.value &&& lowMask u.width }

/-- RESULT (R266). -/
def CheckUnit.result (u : CheckUnit) : BitVec 64 := crcResult u.width (bit u.ctrl 7) (bit u.ctrl 8) u.value

/-- Bytes fed to a unit (R266). -/
def CheckUnit.feed (u : CheckUnit) (l : List (BitVec 8)) : CheckUnit :=
  { u with value := crcBytes u.width (bit u.ctrl 6) u.poly u.value l }

/-- The first n bytes of a word, low byte first. -/
def bytesOf {w : Nat} (v : BitVec w) (n : Nat) : List (BitVec 8) := (List.range n).map (fun i => v.extractLsb' (8 * i) 8)

/-- A processor's write reaches a unit that a mover has locked (R269): disregarded; clash, CHECK_CLASH. -/
def State.checkClash (s : State) (unit : Nat) : State :=
  (s.setCheck unit { s.check unit with clash := true }).raise evCheckClash noSubject [unit / 4, unit % 4]

/-- An access takes effect: start loads INIT into VALUE, a register takes what is written at its offset (Table 10.6, R268), a feed of n bytes, low
byte first, makes the unit busy until CHECK_FEED_DONE (R266, R267). -/
def CheckUnit.take (u : CheckUnit) : CheckOp → CheckUnit
  | .start => { u with value := u.init }
  | .feed n v => { u.feed (bytesOf v n) with feeds := 1 }
  | .reg off v =>
    if off = 0 then
      let x := ({ u with ctrl := (v &&& 0x1FF#64).setWidth 32 }).masked
      if bit v 9 then { x with value := x.init } else x
    else if off = 8 then ({ u with poly := v }).masked
    else if off = 16 then ({ u with init := v }).masked
    else if off = 24 then ({ u with value := v }).masked
    else u

/-- A processor's access (R267, R269): a locked unit disregards it; a busy one keeps its processor waiting, and it takes effect once busy
clears, in the order of the accesses. -/
def State.checkAccess (s : State) (unit : Nat) (x : CheckOp) : State :=
  let u := s.check unit
  if u.locked then s.checkClash unit
  else if u.feeds ≠ 0 then s.setCheck unit { u with waiting := u.waiting ++ [x] }
  else s.setCheck unit (u.take x)

def execCheckStart (unit : Nat) (s : State) : Out := .next (s.checkAccess unit .start)

/-- A write of CTRL, POLY, INIT or VALUE at its offset (Table 10.6, R268). -/
def execCheckRegWrite (unit reg : Nat) (value : BitVec 64) (s : State) : Out :=
  .next (if reg = 0 ∨ reg = 8 ∨ reg = 16 ∨ reg = 24 then s.checkAccess unit (.reg reg value) else s)

def execFeed8 (unit : Nat) (v : BitVec 32) (s : State) : Out := .next (s.checkAccess unit (.feed 1 v))

def execFeed16 (unit : Nat) (v : BitVec 32) (s : State) : Out := .next (s.checkAccess unit (.feed 2 v))

def execFeed32 (unit : Nat) (v : BitVec 32) (s : State) : Out := .next (s.checkAccess unit (.feed 4 v))

/-- A feed's cycles have ended; the accesses that waited are made again in their order (R267). -/
def execCheckFeedDone (unit : Nat) (s : State) : Out :=
  let u := s.check unit
  .next (u.waiting.foldl (fun s x => s.checkAccess unit x) (s.setCheck unit { u with feeds := u.feeds - 1, waiting := [] }))

/-- STATUS bit 2 written with 1 (Table 10.6); on a locked unit it is one more clash (R269). -/
def execCheckClashClear (unit : Nat) (s : State) : Out :=
  let u := s.check unit
  .next (if u.locked then s.checkClash unit else s.setCheck unit { u with clash := false })

end Sys2Proof.Machine
end

