-- ==== Sys2Proof/Machine/Tally.lean ====
section
/-!
DEFINITION. Tally counters (R175, R176, R420): the tally wait and post steps (Table 3.11) and the arrival of posts.
-/

namespace Sys2Proof.Machine

/-- The value of a site's counter. -/
def State.siteTally (s : State) (site ctr : Nat) : Nat := mapGet 0 (s.site site).tally ctr

/-- The value of an I/O die's counter. -/
def State.iodTally (s : State) (i ctr : Nat) : Nat := mapGet 0 (s.iod i).tally ctr

/-- The counter that a step's counter number addresses at a site (R175): ctr XOR (1,024 × slot). -/
def siteCtr (ctr slot : Nat) : Nat := ctr ^^^ (1024 * slot)

/-- The counter that a tile's post addresses at an I/O die (R175). -/
def iodCtr (ctr replica slot : Nat) : Nat := ctr % 1024 + 1024 * (4 * replica + slot)

/-- Add to a site's counter: 64 bits, unsigned (R175). -/
def State.addSite (s : State) (site ctr n : Nat) : State :=
  let p := s.site site
  s.setSite site { p with tally := mapSet p.tally ctr ((s.siteTally site ctr + n) % 2 ^ 64) }

/-- Add to an I/O die's counter. -/
def State.addIod (s : State) (i ctr n : Nat) : State :=
  let d := s.iod i
  s.setIod i { d with tally := mapSet d.tally ctr ((s.iodTally i ctr + n) % 2 ^ 64) }

/-- A post that addresses its counter directly (R175): a site's counter, or an I/O die's. -/
def State.directPost (s : State) (port ctr n : Nat) : State :=
  match iodOfPort port with
  | some i => s.addIod i ctr n
  | none => s.addSite port ctr n

/-- A counter that a direct post can name: 0 to 4,095 at a site, 0 to 16,383 at an I/O die (R175). -/
def ctrInRange (port ctr : Nat) : Bool := decide (ctr < (if (iodOfPort port).isSome then 16384 else 4096))

/-- The counters of a wave's bank are cleared before its first issue, and the bank's slot takes the wave's number (R176). -/
def State.clearBanks (s : State) (replica slot wave : Nat) : State :=
  let s := (s.replicaSites replica).foldl (fun s p =>
    let q := s.site p
    s.setSite p { q with tally := q.tally.filter (fun e => e.1 / 1024 != slot), slotWave := mapSet q.slotWave slot (some wave) }) s
  (List.range 4).foldl (fun s i =>
    let d := s.iod i
    s.setIod i { d with tally := d.tally.filter (fun e => e.1 / 1024 != 4 * replica + slot)
                        slotWave := mapSet d.slotWave (4 * replica + slot) (some wave) }) s

/-- A tally wait blocks issue until its counter has reached its target (R49, R175). -/
def tallyWaitEffect (site tl : Nat) (w : StepWord) (index : Nat) (s : State) : State :=
  let ctr := siteCtr (fld w 18 12) (s.tile site tl).slot
  if fld w 30 40 ≤ s.siteTally site ctr then s
  else s.blockIssue site tl
    (.tally ctr (fld w 30 40) (if fld w 70 16 = 0 then none else some (s.time + 1000 * fld w 70 16))) 9 8 0 index

def execTallyWait (site tile : Nat) (w : StepWord) (s : State) : Out :=
  let i := (s.tile site tile).pc
  .next (s.issue site tile 8 0 w {} (i + 1) (tallyWaitEffect site tile w i))

/-- The awaited counter has reached its target: issue resumes (R175). -/
def execTallyWaitSatisfied (site tile : Nat) (s : State) : Out :=
  let t := s.tile site tile
  .next (match t.block with
    | some (.tally ctr target _) =>
      if target ≤ s.siteTally site ctr then
        s.setTile site tile { t with block := none, wait := none, blockEnd := (s.site site).cycles }
      else s
    | _ => s)

/-- A tally wait's timeout expires on the time counter: TALLY_TIMEOUT with the counter and its value (Table 3.13). -/
def execTallyWaitTimeout (site tile : Nat) (s : State) : Out :=
  let t := s.tile site tile
  .next (match t.block with
    | some (.tally ctr target (some d)) =>
      if decide (d ≤ s.time) && decide (s.siteTally site ctr < target) && t.running && !t.trapped then
        s.trapTile site tile
          trTallyTimeout (siteCtr ctr t.slot + 2 ^ 12 * (s.siteTally site ctr % 2 ^ 20)) 8 0 t.blockedIndex
      else s
    | _ => s)

/-- A TALLY_POST spends a beat of the bucket; an increment of 0 is a breach (Table 3.11). -/
def tallyPostShape (w : StepWord) : Shape := { beats := 1, bad := if fld w 37 16 = 0 then some (trStepField, 37) else none }

/-- TALLY_POST (Table 3.11): one beat of the tile's bucket, and the post leaves with W[15:0] of the wave (R81, R176, R420). -/
def execTallyPost (site tile : Nat) (w : StepWord) (s : State) : Out :=
  let t := s.tile site tile
  .next (s.issue site tile 8 1 w (tallyPostShape w) (t.pc + 1) (fun s =>
    s.sendPost { src := site, port := fld w 30 7, ctr := fld w 18 12, inc := fld w 37 16, step := true
                 wave16 := t.wave % 65536, replica := replicaOf ((s.stackOf site).getD 0), slot := t.slot }))

/-- The wave in the slot of a bank, by its low 16 bits, is the one a post carries (R176). -/
def State.postFresh (s : State) (p : Post) : Bool :=
  let now := match iodOfPort p.port with
    | some i => mapGet none (s.iod i).slotWave (4 * p.replica + p.slot)
    | none => mapGet none (s.site p.port).slotWave p.slot
  match now with
  | some w => w % 65536 == p.wave16
  | none => false

/-- A post reaches its tally block (R175, R176): a step's post of another wave is discarded as stale; a post toward a port
out of service is lost. -/
def State.arrivePost (s : State) (p : Post) : State :=
  if isDark p.port ∨ (p.src ≠ p.port ∧ ¬ s.inService p.port) then s.raise evTallyLost p.port [p.port, p.ctr, p.wave16]
  else if !p.step then s.directPost p.port p.ctr p.inc
  else if !s.postFresh p then (s.bump .X070B 0 1).raise evTallyStale p.port [p.ctr, p.wave16]
  else match iodOfPort p.port with
    | some i => s.addIod i (iodCtr p.ctr p.replica p.slot) p.inc
    | none => s.addSite p.port (siteCtr p.ctr p.slot) p.inc

/-- The oldest post on its way with these fields, which has crossed the base if it must, reaches its tally block (R420). -/
def execTallyPostArrival (port ctr inc wave16 replica slot : Nat) (step : Bool) (s : State) : Out :=
  .next (match takeFirst (fun p : Post => p.crossing.isNone && p.port == port && p.ctr == ctr && p.inc == inc && p.step == step &&
      (!step || (p.wave16 == wave16 && p.replica == replica && p.slot == slot))) s.posts with
    | none => s
    | some (p, rest) => ({ s with posts := rest }).arrivePost p)

end Sys2Proof.Machine
end

