-- ==== Sys2Proof/Machine/Torus.lean ====
section
/-!
DEFINITION. The torus of panels (R9, R212, R219): coordinates, ring distances, dimension-order directions. Directions are 0 X+, 1 X−,
2 Y+, 3 Y−, 4 Z+, 5 Z−.
-/

namespace Sys2Proof.Machine

/-- This panel's ID (F.0900). -/
def State.panelId (s : State) : Nat := s.obj .F0900 0

/-- The size of a dimension: 0 X, 1 Y, 2 Z (F.0901). -/
def State.torusDim (s : State) (d : Nat) : Nat := packedGet (s.obj .F0901 0) 1 d

/-- A coordinate of a panel ID (R9): x [14:10], y [9:5], z [4:0]. -/
def coord (id d : Nat) : Nat := if d = 0 then id / 1024 % 32 else if d = 1 then id / 32 % 32 else id % 32

/-- The panel ID of three coordinates (R9). -/
def idOf (x y z : Nat) : Nat := 1024 * x + 32 * y + z

/-- A panel ID with one coordinate replaced. -/
def setCoord (id d v : Nat) : Nat :=
  idOf (if d = 0 then v else coord id 0) (if d = 1 then v else coord id 1) (if d = 2 then v else coord id 2)

/-- Every coordinate of a panel lies in its ring (R219). -/
def State.inTorus (s : State) (id : Nat) : Bool := (List.range 3).all (fun d => decide (coord id d < s.torusDim d))

/-- Ring distance from a to b in the + direction (R212). -/
def ringDist (n a b : Nat) : Nat := (b + n - a) % n

/-- The neighbour of a panel in a direction (R212). -/
def State.neighbour (s : State) (id dir : Nat) : Nat :=
  let d := dir / 2
  let n := s.torusDim d
  setCoord id d (if dir % 2 = 0 then (coord id d + 1) % n else (coord id d + n - 1) % n)

/-- The preferred direction from a panel to another: the first dimension in which they differ, its shorter ring distance,
+ when equal (R219). -/
def State.preferred (s : State) (a b : Nat) : Option Nat :=
  match (List.range 3).find? (fun d => coord a d != coord b d) with
  | none => none
  | some d =>
    let n := s.torusDim d
    let plus := ringDist n (coord a d) (coord b d)
    some (2 * d + (if 2 * plus ≤ n then 0 else 1))

/-- Directions that shorten a ring distance still to go (R222). -/
def State.productive (s : State) (a b : Nat) : List Nat :=
  ((List.range 3).map (fun d =>
    let n := s.torusDim d
    let plus := ringDist n (coord a d) (coord b d)
    if plus = 0 then [] else if 2 * plus < n then [2 * d] else if 2 * plus = n then [2 * d, 2 * d + 1] else [2 * d + 1])).flatten

/-- The panels of the dimension-order route from a to b, a left out; `n` bounds its length. -/
def State.panelRoute (s : State) (b : Nat) : Nat → Nat → List Nat
  | 0, _ => []
  | n + 1, a =>
    match s.preferred a b with
    | none => []
    | some dir => s.neighbour a dir :: s.panelRoute b n (s.neighbour a dir)

/-- The holders whose dimension-order route to the head passes first through this panel (R165). -/
def State.upstream (s : State) (holders : List Nat) (head : Nat) : Nat :=
  (holders.filter (fun h => h != s.panelId && h != head &&
    ((s.panelRoute head 48 h).find? (fun p => holders.contains p) == some s.panelId))).length

/-- The mirror holder: the X+ neighbour in the ring of Nx panels (R178, R212). -/
def State.mirrorHolder (s : State) : Nat := s.neighbour s.panelId 0

end Sys2Proof.Machine
end

