-- ==== Sys2Proof/Machine/Address.lean ====
section
/-!
DEFINITION. Global and local addresses (R236, Table 9.7) and what reads and writes of them do (R237, R257).
-/

namespace Sys2Proof.Machine

/-- Where an address lies: a tile's vaults (unit coded as vaddr of Table 3.8), a field cache, a tile store, a landing buffer; a stack
that no site holds; an address that is reserved, out of range or not aligned. Units of 32 B. -/
inductive Place
  | vault (site tile unit : Nat) | cache (field unit : Nat) | store (site tile unit : Nat) | landing (iod unit : Nat) | absent | bad
deriving DecidableEq, Repr

/-- A local address of `n` bytes (Table 9.7): logical stacks are mapped to their sites. -/
def State.localPlace (s : State) (a n : Nat) : Place :=
  let top := a / 2 ^ 40 % 16
  if top < 8 then
    if 96 ≤ a / 2 ^ 36 % 128 ∨ 48 ≤ a / 2 ^ 30 % 64 ∨ 2 ^ 28 < a % 2 ^ 28 + n then .bad
    else match s.siteOf (a / 2 ^ 36 % 128) with
      | none => .absent
      | some p => .vault p (a / 2 ^ 30 % 64) (a / 2 ^ 28 % 4 * 2 ^ 23 + a % 2 ^ 28 / 32)
  else if top = 8 then
    if a / 2 ^ 30 % 1024 ≠ 0 ∨ 56 ≤ a / 2 ^ 24 % 64 ∨ 2 ^ 24 < a % 2 ^ 24 + n then .bad else .cache (a / 2 ^ 24 % 64) (a % 2 ^ 24 / 32)
  else if top = 9 then
    if a / 2 ^ 35 % 32 ≠ 0 ∨ 96 ≤ a / 2 ^ 28 % 128 ∨ 48 ≤ a / 2 ^ 22 % 64 ∨ 2 ^ 22 < a % 2 ^ 22 + n then .bad
    else match s.siteOf (a / 2 ^ 28 % 128) with
      | none => .absent
      | some p => .store p (a / 2 ^ 22 % 64) (a % 2 ^ 22 / 32)
  else .bad

/-- A global address of this panel (R236), aligned to `al` bytes. -/
def State.globalPlace (s : State) (g n al : Nat) : Place :=
  if g / 2 ^ 49 ≠ s.panelId ∨ g / 2 ^ 44 % 32 ≠ 0 ∨ g % al ≠ 0 then .bad else s.localPlace (g % 2 ^ 44) n

/-- The port through which a field's cache is reached: the first of its two that is open. -/
def State.cachePort (s : State) (f : Nat) : Nat := if s.portOpen (2 * f) then 2 * f else 2 * f + 1

/-- A slot as a remote write presents it. -/
def writeSlot (port kind tile unit : Nat) (l : List Cell32) : Slot :=
  { (default : Slot) with dst := port, kind := kind, ttile := tile, taddr := unit, len := l.length, payload := l }

/-- Writes to units of a column that its remote-access controller or its remote queue still holds reach the vault before a later access to the
same units (R139). -/
def State.passWrites (s : State) (p t u n : Nat) : State :=
  let c := s.col p t
  let f := s.field (fieldOf p)
  let q (r : RemoteReq) : Bool := r.write && rangesMeet r.addr r.data.length u n
  let w (x : Slot) : Bool := x.dst == p && x.ttile == t && rangesMeet x.taddr x.len u n
  let old := (c.queue ++ c.held).filter q
  let kept := (c.queue ++ c.held).filter (fun r => !q r)
  let s := if old = [] then s else s.setCol p t { c with queue := kept.take 8, held := kept.drop 8, acc := if (c.queue.take 1).any q then [] else c.acc }
  let s := old.foldl (fun s r => (s.vaultWrite p t r.addr r.data).remoteDone p t r (if anyMark r.data then .poisoned else .ok) []) s
  let late := f.writeQ.filter w
  let s := if late = [] then s else s.setField (fieldOf p) { s.field (fieldOf p) with writeQ := f.writeQ.filter (fun x => !w x) }
  late.foldl (fun s x => s.vaultWrite p t x.taddr x.payload) s

/-- Units written to a place through the base, with the code of Table 6.5; a site whose port is withdrawn, and a vault column without power,
give TARGET_ABSENT (R17, R237). -/
def State.writePlace (s : State) (x : Place) (l : List Cell32) : State × Code :=
  match x with
  | .vault p t u =>
    if !s.portOpen p ∨ !(s.col p t).powered then (s, .targetAbsent)
    else
      let y := writeSlot p 3 t u l
      let c := s.verdict y
      if c = .ok ∨ c = .poisoned then ((s.passWrites p t u l.length).vaultWrite p t u l, c)
      else if s.band p ≠ bandB4 ∧ 64 ≤ ((s.field (fieldOf p)).writeQ.filter (fun z => z.dst == p)).length then (s.bump .B0610 (fieldOf p) 1, c)
      else (s, c)
  | .cache f u =>
    if !s.portOpen (s.cachePort f) then (s, .targetAbsent)
    else
      let c := s.verdict (writeSlot (s.cachePort f) 1 0 u l)
      if c = .ok ∨ c = .poisoned then (s.putUnits (cacheAddr f (32 * u)) l, c) else (s, c)
  | .store p t u =>
    if !s.portOpen p then (s, .targetAbsent)
    else
      let c := s.verdict (writeSlot p 0 t u l)
      if c = .ok ∨ c = .poisoned then ((s.arrive p t u l).1, c) else (s, c)
  | .landing i u => (s.putUnits (landingAddr i (32 * u)) l, if anyMark l then .poisoned else .ok)
  | .absent => (s, .targetAbsent)
  | .bad => (s, .busError)

/-- `n` units read from a place; `ue` are those ECC finds uncorrectable, `ce` what it corrects (R101, R138). A tile store is not read (R237).
A column that does not serve yet answers as absent (log 90). -/
def State.readPlace (s : State) (x : Place) (n : Nat) (ue : List Nat) (ce : Nat) : State × Code × List Cell32 :=
  match x with
  | .vault p t u =>
    if !s.portOpen p ∨ !s.colServes p t then (s, .targetAbsent, [])
    else
      let c := s.readRefusal p { (default : ReadRec) with space := 0, ttile := t, addr := u, len := n }
      if c ≠ .ok then (s, c, [])
      else
        let s := s.passWrites p t u n
        let l := s.vaultUnits p t u n ue
        (s.vaultRead p t u n ue ce, if anyMark l then .poisoned else .ok, l)
  | .cache f u =>
    if !s.portOpen (s.cachePort f) then (s, .targetAbsent, [])
    else
      let c := s.readRefusal (s.cachePort f) { (default : ReadRec) with space := 1, addr := u, len := n }
      if c ≠ .ok then (s, c, [])
      else
        let l := s.cacheUnitsOf f u n ue
        (s.cacheRead f u n ue ce, if anyMark l then .poisoned else .ok, l)
  | .landing i u =>
    let l := s.unitsAt (landingAddr i (32 * u)) n
    (s, if anyMark l then .poisoned else .ok, l)
  | .store _ _ _ => (s, .busError, [])
  | .absent => (s, .targetAbsent, [])
  | .bad => (s, .busError, [])

end Sys2Proof.Machine
end

