-- ==== Sys2Proof/Machine/Frames.lean ====
section
/-!
DEFINITION. The head of a frame (R214 to R217, R226): the bits of the transport header and the extension, MAC addresses, and the commons
headers. The FCS and the UDP checksum are those of IEEE 802.3 and RFC 768 over the whole frame.
-/

namespace Sys2Proof.Machine

/-- Fields of a header: (lowest bit, width, value). -/
def packBits (w : Nat) (l : List (Nat × Nat × Nat)) : BitVec w := BitVec.ofNat w ((l.map (fun f => f.2.2 % 2 ^ f.2.1 * 2 ^ f.1)).sum)

def flag (b : Bool) : Nat := if b then 1 else 0

/-- Marks of a payload: bit u for unit u (R44). -/
def poisonBits (l : List Cell32) : Nat := (l.zipIdx.map (fun u => if u.1.mark then 2 ^ u.2 else 0)).sum

/-- The transport header (Table 9.2). -/
def transportBits (p : Packet) : BitVec 448 :=
  packBits 448 [(0, 4, p.ver), (4, 4, p.type), (8, 2, clsNum p.cls), (10, 1, flag p.ce), (11, 1, flag p.ece), (12, 1, flag p.defl),
    (13, 1, flag p.retx), (14, 1, flag p.host), (15, 1, flag p.hold), (16, 15, p.dpanel), (32, 15, p.spanel), (48, 2, p.diod), (50, 2, p.siod),
    (56, 7, p.hops), (64, 16, p.dchan), (80, 16, p.schan), (96, 24, p.psn), (128, 24, p.ack), (160, 13, p.len), (192, 32, p.pcrc),
    (224, 32, p.cookie), (256, 128, poisonBits p.payload), (384, 64, p.stamp)]

/-- The extension (Table 9.4), which types 2 to 7 carry. -/
def extensionBits (p : Packet) : Option (BitVec 256) :=
  if 2 ≤ p.type ∧ p.type ≤ 7 then
    some (packBits 256 [(0, 64, p.gaddr), (64, 16, p.ctr), (80, 7, p.tport), (87, 1, flag p.post), (88, 16, p.rid), (104, 4, p.code),
      (108, 4, p.sub), (112, 6, p.flit), (118, 4, p.nflit)])
  else none

/-- The MAC address of an I/O die of a panel on the torus (R215). -/
def torusMac (panel iod : Nat) : Nat := 0x025647000000 + 2 ^ 16 * (iod % 4) + panel % 2 ^ 15

/-- The MAC address of commons port Ci (R215). -/
def commonsMac (panel port : Nat) : Nat := 0x025647800000 + 2 ^ 16 * (port % 4) + panel % 2 ^ 15

/-- Heartbeats go to this address and are never forwarded (R215). -/
def heartbeatMac : Nat := 0x035647000001

/-- The commons port that an I/O die's MAC serves (R194, R195): in 1.6TBASE-DR8 IOD0 holds C0 and IOD3 holds C1. -/
def State.commonsPort (s : State) (i : Nat) : Nat := if s.obj .L080A 0 = 2 then (if i = 0 then 0 else 1) else i

/-- An entry of a table with one U8 per class, A first. -/
def State.perClass (s : State) (o : Obj) (c : Cls) : Nat := packedGet (s.obj o 0) 1 (clsNum c)

/-- The ECN field (R216, R226): Not-ECT for class A, CE on a packet that this egress marked, ECT(0) otherwise. -/
def ecnOf (p : Packet) : Nat := if p.cls = .A then 0 else if p.ce then 3 else 2

/-- The head of a frame that leaves by an output of IODi. -/
def State.frameHead (s : State) (i o : Nat) (p : Packet) : FrameHead :=
  if o < 6 then
    { dstMac := some (torusMac p.dpanel p.diod), srcMac := torusMac p.spanel p.siod, tag := none, etherType := s.obj .F0904 0, ip := none
      transport := transportBits p, ext := extensionBits p }
  else
    { dstMac := none, srcMac := commonsMac s.panelId (s.commonsPort i), tag := some (s.perClass .F0907 p.cls, s.obj .F0910 0), etherType := 0x86DD
      ip := some { src := packedGet (s.obj .F0906 0) 16 (s.commonsPort i), dst := p.addr, dscp := s.perClass .F0908 p.cls, ecn := ecnOf p, hopLimit := 64
                   srcPort := 0xC000 + p.schan % 2 ^ 14, dstPort := s.obj .F0905 0 }
      transport := transportBits { p with ce := false }, ext := extensionBits p }

/-- A heartbeat as a packet (R213, Table 9.13). -/
def State.heartbeatPacket (s : State) (link count mask time : Nat) : Packet :=
  { (default : Packet) with ver := 1, type := 11, cls := .A, dpanel := s.neighbour s.panelId (link % 6), diod := link / 6, spanel := s.panelId
                            siod := link / 6, len := 16
                            payload := [{ data := packBits 256 [(0, 8, link % 6), (8, 8, mask), (32, 32, count), (64, 64, time)], mark := false }] }

end Sys2Proof.Machine
end

