-- ==== Sys2Proof/Machine/Line.lean ====
section
/-!
DEFINITION. The line code of a lane (R190 to R192): symbols, RS(272,256) codewords, PAM4 levels and scrambling. A slot's 12,000 net bytes
and a lane's data bits are turned into what goes to the line; the commands carry the bytes themselves.
-/

namespace Sys2Proof.Machine

/-! ### The field GF(2¹⁰) (R190) -/

/-- Multiply by α: shift, and reduce by x¹⁰ + x³ + 1. -/
def gfTimesAlpha (a : BitVec 10) : BitVec 10 := if a.getLsbD 9 then (a <<< 1) ^^^ 0b1001#10 else a <<< 1

/-- Product of two field elements: the sum of a × αⁱ over the bits i of b. -/
def gfMul (a b : BitVec 10) : BitVec 10 :=
  ((List.range 10).foldl (fun (acc : BitVec 10 × BitVec 10) i =>
    (if b.getLsbD i then acc.1 ^^^ acc.2 else acc.1, gfTimesAlpha acc.2)) (0#10, a)).1

/-- αⁿ. -/
def gfAlpha : Nat → BitVec 10
  | 0 => 1#10
  | n + 1 => gfTimesAlpha (gfAlpha n)

/-- The product of a polynomial, coefficients in rising order, and (x − r). -/
def polyTimesRoot (p : List (BitVec 10)) (r : BitVec 10) : List (BitVec 10) :=
  List.zipWith (fun a b => a ^^^ b) (0#10 :: p) ((p.map (fun c => gfMul r c)) ++ [0#10])

/-- The generator g(x) = (x − α⁰) … (x − α¹⁵), coefficients in rising order, without its leading 1 (R190). -/
def rsGenerator : List (BitVec 10) := ((List.range 16).foldl (fun p i => polyTimesRoot p (gfAlpha i)) [1#10]).take 16

/-- One data symbol enters the division by g(x): the remainder so far, coefficients of x¹⁵ down to x⁰. -/
def rsStep (r : List (BitVec 10)) (d : BitVec 10) : List (BitVec 10) :=
  let f := d ^^^ r.headD 0#10
  List.zipWith (fun a g => a ^^^ gfMul f g) (r.drop 1 ++ [0#10]) rsGenerator.reverse

/-- The parity symbols of the data symbols of a codeword, from the coefficient of x¹⁵ down to that of x⁰; fewer than 256 data symbols
are the same code with leading zeros left out (R190). -/
def rsParity (data : List (BitVec 10)) : List (BitVec 10) := data.foldl rsStep (List.replicate 16 0#10)

/-- A codeword as it goes to the line. -/
def rsCodeword (data : List (BitVec 10)) : List (BitVec 10) := data ++ rsParity data

/-- A received word's value at αⁱ, which is 0 for every i below 16 when it is a codeword. -/
def rsSyndrome (word : List (BitVec 10)) (i : Nat) : BitVec 10 := word.foldl (fun v c => gfMul v (gfAlpha i) ^^^ c) 0#10

/-! ### Symbols and levels (R190) -/

/-- Bits of bytes, bit 0 first. -/
def byteBits (l : List (BitVec 8)) : List Bool := l.flatMap (fun b => (List.range 8).map (fun i => b.getLsbD i))

/-- Symbol n takes bits [10n+9:10n]; `n` symbols of a bit string. -/
def bitsToSymbols : Nat → List Bool → List (BitVec 10)
  | 0, _ => []
  | n + 1, l => BitVec.ofNat 10 (((l.take 10).zipIdx.map (fun p => if p.1 then 2 ^ p.2 else 0)).sum) :: bitsToSymbols n (l.drop 10)

/-- The level of a bit pair: 00, 01, 11 and 10 are levels 0, 1, 2 and 3. -/
def pamLevel (pair : Nat) : Nat := if pair = 0 then 0 else if pair = 1 then 1 else if pair = 3 then 2 else 3

/-- A symbol's five UI, low bit pair first. -/
def symbolLevels (s : BitVec 10) : List Nat := (List.range 5).map (fun i => pamLevel (s.toNat / 4 ^ i % 4))

/-! ### Slots (R191) -/

/-- PRBS31 of x³¹ + x²⁸ + 1: a state of 31 bits gives its next bit (log 33). -/
def prbsBit (st : BitVec 31) : Bool := xor (st.getLsbD 30) (st.getLsbD 27)
def prbsNext (st : BitVec 31) : BitVec 31 := (st <<< 1) ^^^ (if prbsBit st then 1#31 else 0#31)

/-- Data bits XORed with the PRBS31. -/
def prbsScramble : BitVec 31 → List Bool → List Bool
  | _, [] => []
  | st, b :: r => xor b (prbsBit st) :: prbsScramble (prbsNext st) r

/-- The bytes of a slot that are sent: all but 11,982, 11,983 and 11,992 to 11,999. -/
def slotSent (bytes : List (BitVec 8)) : List (BitVec 8) := bytes.take 11982 ++ ((bytes.drop 11984).take 8)

/-- The receiver restores the reserved bytes as 0. -/
def slotRestored (sent : List (BitVec 8)) : List (BitVec 8) :=
  sent.take 11982 ++ List.replicate 2 0#8 ++ (sent.drop 11982).take 8 ++ List.replicate 8 0#8

/-- The data symbols of a slot: bytes 0 to 95 as they are, the rest scrambled with slotno[30:0] OR 1. -/
def slotSymbols (slotno : Nat) (bytes : List (BitVec 8)) : List (BitVec 10) :=
  let bits := byteBits (slotSent bytes)
  bitsToSymbols 9592 (bits.take 768 ++ prbsScramble (BitVec.ofNat 31 slotno ||| 1#31) (bits.drop 768))

/-- Codewords of full length, then one of what is left. -/
def codewords : Nat → List (BitVec 10) → List (BitVec 10)
  | 0, l => if l = [] then [] else rsCodeword l
  | n + 1, l => rsCodeword (l.take 256) ++ codewords n (l.drop 256)

/-- The 10,200 symbols of a slot: 37 full codewords and one of 120 data symbols. -/
def slotLine (slotno : Nat) (bytes : List (BitVec 8)) : List (BitVec 10) := codewords 37 (slotSymbols slotno bytes)

/-- Wavelength w carries the symbols n with n mod 4 = w, in order. -/
def onWavelength (w : Nat) (symbols : List (BitVec 10)) : List (BitVec 10) :=
  (symbols.zipIdx.filter (fun p => p.2 % 4 == w)).map (fun p => p.1)

/-! ### Control codewords of a torus link (R210, R211, Table 9.12) -/

/-- The data symbols of a control codeword: kind 1 alignment marker, 2 lane report, 3 stripe change; `stripe` the transmit lanes it names
as a mask; `after` 0 but in a stripe change; `count` the markers that the lane has sent. -/
def controlSymbols (kind lane mask stripe after count : Nat) : List (BitVec 10) :=
  (List.range 240).map (fun i => if i % 2 = 0 then 0x0F3#10 else 0x30C#10) ++
    ([kind, lane, mask, stripe, if kind = 3 then after else 0] ++ (List.range 5).map (fun i => count / 1024 ^ i)).map (fun v => BitVec.ofNat 10 v) ++
    List.replicate 6 0#10

/-! ### External lanes (R192) -/

/-- The scrambler's 58 stages at the start: every one 1. -/
def laneScramblerReset : BitVec 58 := BitVec.allOnes 58

/-- A stage register takes the newest line bit. -/
def lanePush (st : BitVec 58) (b : Bool) : BitVec 58 := (st <<< 1) ^^^ (if b then 1#58 else 0#58)

/-- The self-synchronous scrambler x⁵⁸ + x³⁹ + 1, bit by bit; it answers the line bits and its state after them. -/
def laneScramble : BitVec 58 → List Bool → List Bool × BitVec 58
  | st, [] => ([], st)
  | st, b :: r =>
    let y := xor b (xor (st.getLsbD 57) (st.getLsbD 38))
    let (l, e) := laneScramble (lanePush st y) r
    (y :: l, e)

/-- The descrambler: its stages hold the line bits received. -/
def laneDescramble : BitVec 58 → List Bool → List Bool × BitVec 58
  | st, [] => ([], st)
  | st, y :: r =>
    let (l, e) := laneDescramble (lanePush st y) r
    (xor y (xor (st.getLsbD 57) (st.getLsbD 38)) :: l, e)

end Sys2Proof.Machine
end

