-- ==== Sys2Proof/Machine/Light.lean ====
section
/-!
DEFINITION. Lamps (R189, R202 to R207), rings and calibration (R197 to R201). Powers are thousandths of a dB, frequencies MHz or GHz as
the operand says.
-/

namespace Sys2Proof.Machine

/-! ### Numbers -/

/-- The F32 nearest to num / den (R21). -/
def ratF32 (num : Int) (den : Nat) : Nat :=
  let q := num.natAbs * 2 ^ 200 / den
  encodeFp .fp32 false .rne (.fin (decide (num < 0)) (2 * q + (if num.natAbs * 2 ^ 200 % den = 0 then 0 else 1)) (-201))

/-- n / den is less than the value of an F32. -/
def ratBelow (num : Int) (den : Nat) (w : Nat) : Bool :=
  ltFv (.fin (decide (num < 0)) num.natAbs 0) (mulFv (.fin false den 0) (decodeFp .fp32 w))

/-! ### Bundle and lamp states (L.0800, L.080D) -/

/-- Bundle states of L.080D. -/
def bundleDark : Nat := 0
def bundleLit : Nat := 1
def bundleRecovery : Nat := 2
def bundleCarried : Nat := 3

/-- The bundle that a ring belongs to: ten rings a bundle, numbered 10 × (8p + plane) + n; rings from 10,240 on are the lanes', two a
lane. -/
def ringBundle (ring : Nat) : Option (Nat × Nat) := if ring < 10240 then some (ring / 80, ring / 10 % 8) else none
def ringLane (ring : Nat) : Nat := (ring - 10240) / 2

/-- Show L.080D of a bundle. -/
def State.showBundle (s : State) (p plane : Nat) : State :=
  let set := setOfTree plane (p / 16)
  let v := if s.treeDark plane (p / 16) then bundleDark
    else if s.unlocked.any (fun r => ringBundle r == some (p, plane)) then bundleRecovery
    else if (litWaves set).any (fun w => decide (s.lightOf set w = .carry)) then bundleCarried else bundleLit
  s.setObj .L080D (8 * p + plane) v

/-- Show L.0800 of a lamp die that is not lost: carrying while one of its lasers lights a partner's tree. -/
def State.showLamp (s : State) (die : Nat) : State :=
  if s.lampLost die then s
  else s.setObj .L0800 die (if (List.range 6).any (fun i =>
      (baseTree (6 * die + i)).isSome && (List.range 5).any (fun w => decide (s.lightOf (partnerSet (6 * die + i)) w = .carry))) then 1 else 0)

/-- The lane is a commons lane of a compatibility mode, to which the states of R192 do not apply (R194). -/
def State.laneCompat (s : State) (n : Nat) : Bool := decide (24 ≤ n % 28) && decide (s.obj .L080A 0 ≠ 0)

/-- A lane enters a state (R192); the scrambler of one whose transmitter is lit starts with every stage at 1. -/
def State.enterLane (s : State) (n st : Nat) : State :=
  let l := s.lane n
  let l := { l with since := s.time, retry := false, tx := if s.obj .L0806 n = 0 then laneScramblerReset else l.tx }
  ((s.setObj .L0806 n st).setLane n l).raise evLaneState n [n, s.obj .L0806 n, st]

/-- The lanes of an external tree (R187). -/
def treeLanes (iod e : Nat) : List Nat :=
  ((List.range 28).filter (fun k => if e = 0 then decide (k < 16) else decide (16 ≤ k))).map (fun k => 28 * iod + k)

/-- Lanes of a dimension with N = 1, those of an I/O die without power, and commons lanes of a compatibility mode stay DARK (R192, R212). -/
def State.laneUsed (s : State) (n : Nat) : Bool := !s.laneCompat n && (s.iod (n / 28)).powered && (decide (24 ≤ n % 28) || decide (1 < s.torusDim (n % 28 / 8)))

/-- An external tree's lanes lose their light and are DARK, or have it again and hunt for lock (R192). -/
def State.showTreeLanes (s : State) (iod e : Nat) (lit : Bool) : State :=
  (treeLanes iod e).foldl (fun s n =>
    if lit then (if s.obj .L0806 n = 0 ∧ s.laneUsed n then s.enterLane n 1 else s)
    else if s.obj .L0806 n = 0 then s else s.enterLane n 0) s

/-- Set a tree's source on a wavelength, and show what follows. -/
def State.setLight (s : State) (set w : Nat) (v : LightSrc) : State :=
  let s : State := { s with light := mapSet s.light (set, w) v, shaken := mapSet s.shaken set s.time }
  let s : State := match baseTree set with
    | some (plane, tree) => (treePorts tree).foldl (fun (s : State) p => s.showBundle p plane) s
    | none => s
  let s : State := match extTree set with
    | some (i, e, alt) => if alt then s else s.showTreeLanes i e (decide (v ≠ LightSrc.dark))
    | none => s
  s.showLamp (partnerSet set / 6)

/-- The lanes of an I/O die: with power and light on their tree they hunt for lock, else they are DARK (R192). -/
def State.startLanes (s : State) (i : Nat) : State :=
  [0, 1].foldl (fun s e => s.showTreeLanes i e ((s.iod i).powered && decide (s.lightOf (primarySet i e) 1 ≠ .dark))) s

/-- Power an I/O die: its lanes hunt for lock. -/
def State.powerIod (s : State) (i : Nat) : State := (s.setIod i { s.iod i with powered := true }).startLanes i

/-- A tree's ports are withheld on its plane in the present slot (R149); an external tree needs no withheld frame (R203). -/
def State.treeHeld (s : State) (set : Nat) : Bool :=
  match baseTree set with
  | some (plane, tree) => (treePorts tree).all (fun p => (s.market plane).holds p s.slotNo)
  | none => true

/-! ### Lasers (R189, R202, R203) -/

/-- A calibrated value in force now (R200): it moves by at most `rate` per ms toward what was accepted; twice the value. -/
def CalVal.now2 (c : CalVal) (rate time : Nat) : Int :=
  let d : Int := (2 * rate * (time - c.since) / 1000000 : Nat)
  if c.from2 ≤ c.target2 then min c.target2 (c.from2 + d) else max c.target2 (c.from2 - d)

/-- The largest change per ms of a calibrated quantity (Table 8.6): MHz, MHz, thousandths of a code, thousandths of a dB. -/
def calRate (q : Nat) : Nat := if q ≤ 1 then 2000 else if q = 2 then 1000 else 50

/-- Twice a calibrated value in force. -/
def State.calNow2 (s : State) (q place : Nat) : Int :=
  (mapGet { from2 := 0, target2 := 0, since := 0 } s.cal (q, place)).now2 (calRate q) s.time

/-- The set power of a laser, from its commissioning value (R189, R198): the calibrated one, but while it moves for a carry or a reserve, or
lights two trees, at no more than 0.05 dB per ms (R200, R203 to R205). -/
def State.setPower (s : State) (n : Nat) : Int :=
  match s.ramps.find? (fun e => e.1 == n) with
  | some (_, c, back) =>
    let v := c.now2 50 s.time
    if back ∧ v = c.target2 then s.calNow2 3 n / 2 else v / 2
  | none => s.calNow2 3 n / 2

/-- The set power of a laser moves toward a value. -/
def State.rampPower (s : State) (n : Nat) (base target : Int) (back : Bool) : State :=
  { s with ramps := mapSet s.ramps n ({ from2 := 2 * base, target2 := 2 * target, since := s.time }, back) }

/-- The laser that lights a set's tree on a wavelength, when the tree has light of its own. -/
def State.sourceOf (s : State) (set w : Nat) : Nat := if s.lightOf set w = .reserve then reserveOf (set / 6) w else laserOf set w

/-- What a source sluice gives the partner's tree now, as the loss of its own, in thousandths of a dB: 3,300 at the even split (Table 8.3). -/
def State.splitNow2 (s : State) (set w : Nat) : Int := (mapGet { from2 := 0, target2 := 0, since := 0 } s.splits (set, w)).now2 50 s.time

/-- The source sluice of a set moves toward an even split while its laser rises to +23.9 dBm (R204), or splits at once (R205). -/
def State.beginSplit (s : State) (set w : Nat) (atOnce : Bool) : State :=
  if (baseTree set).isNone then s
  else
    let n := s.sourceOf set w
    let s := s.rampPower n (s.setPower n) (Config.carryRise n) false
    { s with splits := mapSet s.splits (set, w) { from2 := if atOnce then 6600 else s.splitNow2 set w, target2 := 6600, since := s.time } }

/-- A source sluice's split and the power of its laser return together (R205). -/
def State.endSplit (s : State) (set w : Nat) : State :=
  if !s.splits.any (fun e => e.1 == (set, w)) then s
  else
    let n := s.sourceOf set w
    let s := s.rampPower n (s.setPower n) (s.calNow2 3 n / 2) true
    { s with splits := mapSet s.splits (set, w) { from2 := s.splitNow2 set w, target2 := 0, since := s.time } }

/-- The set a reserve serves (L.0803), 0xFF for none. -/
def State.reserveUse (s : State) (die w : Nat) : Nat := s.obj .L0803 (5 * die + w)

/-- A die's reserve of a wavelength serves a set or is armed for one. -/
def State.reserveBusy (s : State) (die w : Nat) : Bool :=
  s.reserveUse die w != 0xFF || (List.range 6).any (fun i => (s.laser (laserOf (6 * die + i) w)).armed)

/-- A set wants its partner's light, or its alternate set, on a wavelength (R204 to R206): it waits for the switch. An emergency splits at the
switch; otherwise the partner's source sluice begins to move now (R204). -/
def State.wantCarry (s : State) (set w : Nat) (now : Bool) : State :=
  if s.lightOf set w = .carry then s
  else
    let s := if now ∨ s.carryWanted.contains (set, w) then s else s.beginSplit (partnerSet set) w false
    { s with carryWanted := if s.carryWanted.contains (set, w) then s.carryWanted else s.carryWanted ++ [(set, w)]
             urgent := if now ∧ !s.urgent.contains (set, w) then (set, w) :: s.urgent else s.urgent }

/-- A carry that was waited for is settled. -/
def State.carrySettled (s : State) (set w : Nat) : State :=
  { s with carryWanted := s.carryWanted.filter (fun e => e != (set, w)), urgent := s.urgent.filter (fun e => e != (set, w)) }

/-- The lamp die arms the reserve for a laser of a set (R203), or finds it in use (R204). -/
def State.armReserve (s : State) (set w : Nat) : State :=
  let die := set / 6
  let n := laserOf set w
  if (s.laser n).armed ∨ s.lampLost die then s
  else if s.reserveBusy die w then
    if s.lightOf set w = .carry ∨ s.carryWanted.contains (set, w) then s
    else (s.raise evReserveExhausted die [set % 6, w]).wantCarry set w false
  else (s.setLaser n { s.laser n with armed := true }).raise evReserveArmed die [n]

/-- The 100 µs reading of a laser's monitor (R189, R202, R203): the bias moves toward the set power, at most to 1.40 times the
commissioning bias; a fade raises LASER_FADE_WARN, and one below fade_takeover, or a bias at its limit, arms the reserve. -/
def execLaserPowerLoop (laser : Nat) (pd : Int) (s : State) : Out :=
  let l := s.laser laser
  let target := s.setPower laser
  let bias := if pd < target then min 14000 (l.bias + Config.biasStep s.freeCount) else if target < pd then l.bias - Config.biasStep s.freeCount else l.bias
  let recent := (pd :: l.recent).take 1000
  let low := decide (recent.length = 1000) && ratBelow (recent.foldl (· + ·) 0) 1000000 (s.obj .L0804 0)
  let warn := low || decide (12500 < bias)
  let s := { s with freeCount := s.freeCount + 1 }
  let s := s.setLaser laser { l with power := pd, recent := recent, bias := bias, warned := warn }
  let s := (s.setObj .L0801 laser (ratF32 pd 1000)).setObj .L0802 laser (ratF32 bias 100)
  let s := if warn && !l.warned then s.raise evLaserFadeWarn (laserDie laser) [laser, ratF32 pd 1000, bias / 100] else s
  .next (if ratBelow pd 1000 (s.obj .L0805 0) || decide (14000 ≤ bias) then
    match laserSet laser with
    | some set => if s.lightOf set (laserWave laser) = .own then s.armReserve set (laserWave laser) else s
    | none =>
      let u := s.reserveUse (laserDie laser) (laserWave laser)
      if u = 0xFF then s else s.armReserve (6 * laserDie laser + u) (laserWave laser)
    else s)

/-- Calibration of a set's tree rests until 100 ms after a switch (R201). -/
def State.restCal (s : State) (set : Nat) : State := { s with suspended := mapSet s.suspended set (s.time + 100000000) }

/-- The lanes of an external tree send only fill for 1 µs around a switch of its light (R203). -/
def State.fillLanes (s : State) (set : Nat) : State :=
  match extTree set with
  | some (i, e, _) => (treeLanes i e).foldl (fun s n => s.setLane n { s.lane n with fill := s.time + 1000 }) s
  | none => s

/-- The reserve, matched to within ±5 GHz and ±0.2 dB of the laser it replaces, switches in within a withheld frame (R203), and ramps to the
set power; a tree on its partner's light leaves it (R205). -/
def execReserveSwitch (laser : Nat) (matchGhz matchDb : Int) (s : State) : Out :=
  .next (match laserSet laser with
    | none => s
    | some set =>
      let w := laserWave laser
      let l := s.laser laser
      if l.armed && decide (matchGhz.natAbs ≤ 5 ∧ matchDb.natAbs ≤ 200) && !s.lampLost (set / 6) && s.treeHeld set then
        let carried := decide (s.lightOf set w = .carry)
        let s := (s.setLaser laser { l with armed := false }).setObj .L0803 (5 * laserDie laser + w) (set % 6)
        let n := reserveOf (laserDie laser) w
        let s := s.setLaser n { s.laser n with power := l.power + matchDb }
        let s := s.rampPower n (l.power + matchDb) (s.calNow2 3 n / 2) true
        let s := (((s.carrySettled set w).setLight set w .reserve).restCal set).fillLanes set
        let s := s.raise evReserveIn (laserDie laser) [set % 6, w, (matchGhz % 2 ^ 32).toNat]
        if carried then (s.endSplit (partnerSet set) w).raise evCarryOut (laserDie laser) [set % 6, w] else s
      else s)

/-- The partner of a set can light it: its die is not lost and it has light of its own on the wavelength (R204 to R207). -/
def State.canCarry (s : State) (set w : Nat) : Bool :=
  let p := partnerSet set
  !s.lampLost (p / 6) && (decide (s.lightOf p w = .own) || decide (s.lightOf p w = .reserve))

/-- A tree has no light on a wavelength (R207), nor has one that its set lit for its partner. -/
def State.goDark (s : State) (set w : Nat) : State :=
  let s := s.setLight set w .dark
  if s.lightOf (partnerSet set) w = .carry then s.setLight (partnerSet set) w .dark else s

/-- The tree's selector switches to its partner's light, or to the alternate set, in a withheld frame (R204 to R206), once the partner's split
is even unless it is an emergency; with neither it is dark (R207). A die that is not lost then arms its reserve, if it is free (R205). -/
def execCarrySwitch (lampDie set wavelength : Nat) (s : State) : Out :=
  let n := 6 * lampDie + set
  let now := s.urgent.contains (n, wavelength)
  let even := now || (baseTree n).isNone || decide (s.splitNow2 (partnerSet n) wavelength = 6600) || !s.canCarry n wavelength
  .next (if s.carryWanted.contains (n, wavelength) && s.treeHeld n && even then
      let s := s.carrySettled n wavelength
      let s := if s.canCarry n wavelength then
          let s := if now then s.beginSplit (partnerSet n) wavelength true else s
          (((s.setLight n wavelength .carry).restCal n).fillLanes n).raise evCarryIn lampDie [set, wavelength, partnerSet n / 6]
        else s.goDark n wavelength
      if s.reserveBusy lampDie wavelength then s else s.armReserve n wavelength
    else s)

/-- The set whose tree a laser lights now: its own, or the one a reserve serves. -/
def State.servedSet (s : State) (laser : Nat) : Option Nat :=
  match laserSet laser with
  | some set => if s.lightOf set (laserWave laser) = .own then some set else none
  | none =>
    let u := s.reserveUse (laserDie laser) (laserWave laser)
    if u = 0xFF ∨ s.lightOf (6 * laserDie laser + u) (laserWave laser) ≠ .reserve then none else some (6 * laserDie laser + u)

/-- A 10 µs reading lies more than 3 dB below the set power (R205): the tree moves to its partner's light. -/
def execFastFade (laser drop : Nat) (s : State) : Out :=
  .next (if drop ≤ 3000 then s
    else
      let s := s.raise evFastFade (laserDie laser) [laser, ratF32 drop 1000]
      match s.servedSet laser with
      | some set => s.wantCarry set (laserWave laser) true
      | none => s)

/-- A lamp die is lost (R206): its trees are dark until they switch to their partners' light or to their alternate sets, its reserves serve
none, and what it carried for its partner is dark (R207) unless a free reserve there can light it. -/
def State.loseLamp (s : State) (die cause : Nat) : State :=
  if s.lampLost die then s
  else
    let s := (s.setObj .L0800 die 2).raise evLampDieLost die [cause]
    let s := (List.range 5).foldl (fun s w => s.setObj .L0803 (5 * die + w) 0xFF) s
    let s : State := { s with ramps := s.ramps.filter (fun e => laserDie e.1 != die), splits := s.splits.filter (fun e => e.1.1 / 6 != die) }
    (List.range 6).foldl (fun s i =>
      let set := 6 * die + i
      (litWaves set).foldl (fun s w =>
        let n := laserOf set w
        let s := if (s.laser n).armed then s.setLaser n { s.laser n with armed := false } else s
        let s := if s.lightOf set w = .carry then s else if isAlternate set then s.setLight set w .dark else (s.setLight set w .dark).wantCarry set w true
        if s.lightOf (partnerSet set) w = .carry then
          let s := s.setLight (partnerSet set) w .dark
          if s.reserveBusy (partnerSet set / 6) w then s else s.armReserve (partnerSet set) w
        else s) s) s

def execLampDieLost (lampDie cause : Nat) (s : State) : Out := .next (s.loseLamp lampDie cause)

/-! ### Rings and calibration (R197 to R201) -/

/-- The position of a ring's heater, in MHz of shift (R197): where its order took it at the start-up, until it moves. -/
def State.heaterOf (s : State) (ring : Nat) : Int :=
  mapGet ((s.ringBase.map (fun k => ((Config.ringHeater k ring % 2400001 : Nat) : Int))).getD 0) s.heaters ring

/-- A ring's heater moves toward the setpoint, by at most 0.6 GHz in 1 µs and within its range of 2,400 GHz; beyond 25 GHz the ring is
unlocked and its bundle or lane in recovery, until it is within 4 GHz (R197). -/
def execRingTrack (ring : Nat) (offset : Int) (s : State) : Out :=
  let move : Int := max (-600) (min 600 (1000 * offset))
  let s := { s with heaters := mapSet s.heaters ring (max 0 (min 2400000 (s.heaterOf ring + move))) }
  .next (if 25 < offset.natAbs ∧ ¬ s.unlocked.contains ring then
      let s := ({ s with unlocked := ring :: s.unlocked }).bump .L080E 0 1
      match ringBundle ring with
      | some (p, plane) => ((s.showBundle p plane).breach p 1).raise evRingUnlock p [p, plane, ring]
      | none =>
        let n := ringLane ring
        let s := s.raise evRingUnlock n [n, ring]
        if s.obj .L0806 n = 2 then s.enterLane n 3 else s
    else if offset.natAbs ≤ 4 ∧ s.unlocked.contains ring then
      let s := { s with unlocked := s.unlocked.filter (fun r => r != ring) }
      match ringBundle ring with
      | some (p, plane) => ({ s with shaken := mapSet s.shaken (setOfTree plane (p / 16)) s.time }).showBundle p plane
      | none => s
    else s)

/-! ### Calibration (R198 to R201) -/

/-- Repeat tolerance of a quantity (Table 8.6). -/
def calTolerance (q : Nat) : Nat := if q ≤ 1 then 500 else if q = 2 then 2000 else 100

/-- The primary set of the external tree that lights a lane (R187). -/
def setOfLane (lane : Nat) : Nat := 18 * (lane / 28) + 16 + (if lane % 28 < 16 then 0 else 1)

/-- Where a calibration stands: a bundle, or an external lane, or a lamp die's laser. A threshold's place is 3 × line + i for the threshold
between levels i and i + 1; lines are 4 × (8p + plane) + w of the bundles, and from 4,096 on the lanes. -/
inductive CalPlace
  | bundle (port plane : Nat) | lane (n : Nat) | laser (n : Nat)
deriving DecidableEq, Repr

def calPlace (q place : Nat) : CalPlace :=
  if q ≤ 1 then
    match ringBundle place with
    | some (p, plane) => .bundle p plane
    | none => .lane (ringLane place)
  else if q = 2 then (if place / 3 < 4096 then .bundle (place / 3 / 32) (place / 3 / 4 % 8) else .lane (place / 3 - 4096))
  else .laser place

/-- The set whose tree a calibration belongs to; a lane's receive side has another panel's light. -/
def State.calSet (s : State) (q place : Nat) : Option Nat :=
  match calPlace q place with
  | .bundle p plane => some (setOfTree plane (p / 16))
  | .lane n => if q = 0 then some (setOfLane n) else none
  | .laser n => match laserSet n with
    | some set => some set
    | none => if s.reserveUse (laserDie n) (laserWave n) = 0xFF then none else some (6 * laserDie n + s.reserveUse (laserDie n) (laserWave n))

/-- The calibration of a tree is suspended: a reserve is armed, a carry is due, or 100 ms have not passed since a switch (R201). -/
def State.calRests (s : State) (set : Nat) : Bool := s.switchDue set || decide (s.time < mapGet 0 s.suspended set)

/-- The time that the two measurements of a calibration take, in ns (Table 8.6); that of a histogram is not stated, and the model takes none
(DESIGN CHOICE, log 93). -/
def calWindow (q : Nat) : Nat := if q ≤ 1 then 6000000 else if q = 2 then 0 else 2000000

/-- The windows of a calibration overlap a change of light source, an unlocked ring, or a frame in which the market withholds the bundle
(R201). -/
def State.calDisturbed (s : State) (q place : Nat) : Bool :=
  let w := calWindow q
  (match s.calSet q place with
    | some set => s.calRests set || s.shaken.any (fun e => e.1 == set && decide (s.time < e.2 + w))
    | none => false) ||
  (match calPlace q place with
    | .bundle p plane => s.unlocked.any (fun r => ringBundle r == some (p, plane)) ||
        (s.market plane).withheld.any (fun x => x.1 == p && decide (x.2.1 ≤ s.slotNo) && decide (s.time < 64 * x.2.2 + w))
    | .lane n => s.unlocked.any (fun r => decide (10240 ≤ r) && ringLane r == n)
    | .laser _ => false)

/-- The place is lit, and its period has passed (R198). -/
def State.calDue (s : State) (q place : Nat) : Bool :=
  (match calPlace q place with
    | .bundle p plane => !s.treeDark plane (p / 16) && s.obj .L080D (8 * p + plane) != bundleDark
    | .lane n => s.obj .L0806 n != 0
    | .laser n => !s.lampLost (laserDie n)) &&
  (match s.calAt.find? (fun e => e.1 == (q, place)) with
    | some (_, t) => decide (t + 1000000 * s.obj .L080B 0 ≤ s.time)
    | none => true)

/-- The point with the widest spread (R198): the setpoint, unless 1 GHz below or above it is better. -/
def bestPoint (l : List Nat) : Int :=
  let at0 := l.getD 0 0
  let lo := l.getD 1 0
  let hi := l.getD 2 0
  if at0 < lo ∧ hi ≤ lo then -1000 else if at0 < hi then 1000 else 0

/-- The threshold between levels i and i + 1 (R198), in thousandths of a code. -/
def threshold (m : CalMeas) (i : Nat) : Int :=
  let s0 : Int := m.sigma.getD i 0
  let s1 : Int := m.sigma.getD (i + 1) 0
  (s1 * m.mean.getD i 0 + s0 * m.mean.getD (i + 1) 0) / (s0 + s1)

/-- What a measurement makes of the value in force: a setpoint, a threshold or a set power (R198; the set power brings the least modulator input
to +3.0 dBm, Table 8.3). -/
def State.calResult (s : State) (q place : Nat) (m : CalMeas) : Int :=
  if q ≤ 1 then s.calNow2 q place / 2 + bestPoint m.spread
  else if q = 2 then threshold m (place % 3)
  else s.calNow2 q place / 2 + 3000 - m.tap

/-- Gaps between levels. -/
def levelGaps (l : List Int) : List Int := (List.range 3).map (fun i => l.getD (i + 1) 0 - l.getD i 0)

/-- The plausible limits of Table 8.6. -/
def State.calPlausible (s : State) (q place : Nat) (m : CalMeas) : Bool :=
  if q ≤ 1 then
    let best := m.spread.foldl max 0
    let last := (mapGet { from2 := 0, target2 := 0, since := 0 } s.cal (q, place)).target2
    decide (200 ≤ best ∧ best ≤ 900) && decide ((2 * s.calResult q place m - last).natAbs ≤ 120000)
  else if q = 2 then
    let gaps := levelGaps m.mean
    gaps.all (fun g => decide (0 < g)) && m.count.all (fun n => decide (65536 ≤ 10 * n)) && m.count.length == 4 &&
      decide (gaps.foldl max 0 ≤ 2 * gaps.foldl min (gaps.headD 0))
  else decide (1000 ≤ m.tap ∧ m.tap ≤ 5000) && decide (s.calResult q place m ≤ Config.carryRise place + 100)

/-- Results accepted at a place since the start. -/
def State.calAccepted (s : State) (q place : Nat) : Nat := ((s.cal.find? (fun e => e.1 == (q, place))).map (fun e => e.2.count)).getD 0

/-- Two results of every quantity of Table 8.6 have been accepted (R390, stage 11). -/
def State.calibrated (s : State) : Bool :=
  (List.range 4).all (fun q => decide (2 ≤ ((s.cal.filter (fun e => e.1.1 == q)).map (fun e => e.2.count)).sum))

/-- The subject of CAL_REJECTED (R208): the lamp die or the lane. -/
def State.calSubject (s : State) (q place : Nat) : Nat :=
  match calPlace q place with
  | .lane n => n
  | .laser n => laserDie n
  | .bundle _ _ => ((s.calSet q place).map (fun n => n / 6)).getD noSubject

/-- A quantity is measured twice, once a period for each place that is lit (R198 to R201): discarded when disturbed or suspended; accepted when
both agree and are plausible; otherwise rejected and counted, CAL_REJECTED at most once per quantity and minute. -/
def execCalibration (quantity place : Nat) (first second : CalMeas) (s : State) : Out :=
  let a := s.calResult quantity place first
  let b := s.calResult quantity place second
  .next (if 4 ≤ quantity ∨ !s.calDue quantity place then s
    else
      let s : State := { s with calAt := mapSet s.calAt (quantity, place) s.time }
      if s.calDisturbed quantity place then s
      else if s.calPlausible quantity place first && s.calPlausible quantity place second && decide ((a - b).natAbs ≤ calTolerance quantity) then
        { s with cal := mapSet s.cal (quantity, place) {
            from2 := s.calNow2 quantity place, target2 := a + b, since := s.time, count := s.calAccepted quantity place + 1 } }
      else
        let s := s.bump .L080C 0 1
        let e := s.calEv.find? (fun x => x.1 == quantity)
        let n := (e.map (fun x => x.2.2)).getD 0 + 1
        if dueEvent (e.map (fun x => x.2.1)) s.time (60 * 10 ^ 9) then
          ({ s with calEv := mapSet s.calEv quantity (s.time, 0) }).raise evCalRejected (s.calSubject quantity place)
            [quantity, (a % 2 ^ 32).toNat, (b % 2 ^ 32).toNat, n]
        else { s with calEv := mapSet s.calEv quantity ((e.map (fun x => x.2.1)).getD s.time, n) })

end Sys2Proof.Machine
end

