-- ==== Sys2Proof/Machine/Time.lean ====
section
/-!
DEFINITION. PTP ports and the state of C.0B00 (R283, R285): 0 free, 1 converging, 2 aligned, 3 holdover, 4 grandmaster. PTP ports 0 to 23
are the torus links, 24 + i the commons ports.
-/

namespace Sys2Proof.Machine

def ptpFree : Nat := 0
def ptpConverging : Nat := 1
def ptpAligned : Nat := 2
def ptpHoldover : Nat := 3
def ptpGrandmaster : Nat := 4

/-- The standard's link of a commons port is up in a compatibility mode: every PMD lane that forms it is aligned (R194, R195). -/
def State.stdLink (s : State) (i : Nat) : Bool :=
  let dies := if s.obj .L080A 0 = 1 then [i] else if i = 0 then [0, 1] else if i = 3 then [3, 2] else []
  dies != [] && dies.all (fun d => (List.range 4).all (fun j => (s.lane (28 * d + 24 + j)).std))

/-- A PTP port is up: its torus link is up or in recovery, or a commons lane of its I/O die is UP, or the standard's link in a compatibility
mode. -/
def State.ptpUp (s : State) (n : Nat) : Bool :=
  if n < 24 then s.obj .F0902 n == 2 || s.obj .F0902 n == 3
  else if s.obj .L080A 0 ≠ 0 then s.stdLink (n - 24)
  else (List.range 4).any (fun j => s.obj .L0806 (28 * (n - 24) + 24 + j) == 2)

/-- C.0B00 takes a value: PTP_STATE with the offset. -/
def State.ptpEnter (s : State) (v : Nat) : State :=
  let old := s.obj .C0B00 0
  if old = v then s else (s.setObj .C0B00 0 v).raise evPtpState noSubject [old, v, s.obj .C0B02 0]

/-- The master is lost (R285): an aligned panel enters holdover. -/
def State.masterLost (s : State) : State :=
  let s := { s with ptp := { s.ptp with master := none, good := 0, holdSince := s.time } }
  if s.obj .C0B00 0 = ptpAligned then s.ptpEnter ptpHoldover else s

/-- What follows from which PTP ports are up: with none the state is free; a free panel with one converges; a master whose port is down
is lost. -/
def State.ptpPorts (s : State) : State :=
  let s := match s.ptp.master with
    | some n => if s.ptpUp n then s else s.masterLost
    | none => s
  if !((List.range 28).any (fun n => s.ptpUp n)) then s.ptpEnter ptpFree
  else if s.obj .C0B00 0 = ptpFree then s.ptpEnter ptpConverging else s

end Sys2Proof.Machine
end

