-- ==== Sys2Proof/Machine/Links.lean ====
section
/-!
DEFINITION. Torus links (R210 to R213): masks and stripes, heartbeats, link states. Link 6i + d is direction d of IODi. States of
F.0902: 0 down, 1 checking, 2 up, 3 recovery.
-/

namespace Sys2Proof.Machine

def linkDown : Nat := 0
def linkChecking : Nat := 1
def linkUp : Nat := 2
def linkRecovery : Nat := 3

/-- The state of a link (F.0902). -/
def State.linkSt (s : State) (n : Nat) : Nat := s.obj .F0902 n

/-- The mask of a link's lanes that are UP: bit j for lane 4d + j (R210). -/
def State.upMask (s : State) (n : Nat) : Nat :=
  ((List.range 4).map (fun j => if s.obj .L0806 (28 * (n / 6) + 4 * (n % 6) + j) = 2 then 2 ^ j else 0)).sum

/-- Lanes of a mask. -/
def lanesOf (mask : Nat) : List Nat := (List.range 4).filter (fun j => bitGet mask j)

/-- The stripe of a mask (R211): the largest of 4, 2 and 1 lanes, the lowest-numbered ones. -/
def stripeOf (mask : Nat) : Nat :=
  let l := lanesOf mask
  let w := if 4 ≤ l.length then 4 else if 2 ≤ l.length then 2 else l.length
  ((l.take w).map (fun j => 2 ^ j)).sum

/-- The width of a stripe. -/
def widthOf (mask : Nat) : Nat := (lanesOf mask).length

/-- A condition of F.0911 is broken: bits 0 policer, 1 oversize, 2 recovery, 3 down, 4 late (R247). -/
def State.linkBreach (s : State) (n bit : Nat) : State :=
  let l := s.link n
  s.setLink n { l with conds := mapSet l.conds bit s.time }

/-- A link enters a state: LINK_STATE with its width; its PTP port follows (R283). -/
def State.enterLink (s : State) (n st : Nat) : State :=
  if s.linkSt n = st then s
  else
    let s1 := (s.setObj .F0902 n st).raise evLinkState n [n, s.linkSt n, st, s.obj .F0903 n]
    let s1 : State := if n % 6 = 0 ∧ st ≠ linkDown then { s1 with recovery := { s1.recovery with xPlusDown := false } } else s1
    (if st = linkRecovery then s1.linkBreach n 2 else if st = linkDown then s1.linkBreach n 3 else s1).ptpPorts

/-- A link goes DOWN (R213). -/
def State.dropLink (s : State) (n : Nat) : State :=
  (s.setLink n { s.link n with hbGoodSince := none, pendTx := none, pendRx := none }).enterLink n linkDown

/-- A restripe has begun: an up link is in recovery while it runs (R211). -/
def State.restripe (s : State) (n : Nat) : State := if s.linkSt n = linkUp then s.enterLink n linkRecovery else s

/-- Both directions run on the stripes of their masks: the restripe is complete. -/
def State.restriped (s : State) (n : Nat) : State :=
  let l := s.link n
  if s.linkSt n = linkRecovery ∧ l.txStripe = stripeOf l.farMask ∧ l.rxStripe = stripeOf l.rxMask then s.enterLink n linkUp else s

/-- A lane report goes out on every transmit lane (R211). -/
def State.sendLaneReport (s : State) (n : Nat) : State :=
  (s.setLink n { s.link n with reportAt := some s.time }).send (.laneReport n (s.link n).rxMask)

/-- A side's receive mask changes to what its lanes now are (R211): it reports; with no lane UP the link goes DOWN; a link that was
down is checked again. -/
def execReceiveMaskChange (link mask : Nat) (s : State) : Out :=
  let l := s.link link
  .next (if mask ≠ s.upMask link ∨ mask = l.rxMask then s
    else
      let s := (s.setLink link { l with rxMask := mask }).sendLaneReport link
      if mask = 0 then s.dropLink link
      else
        if s.linkSt link = linkDown then
          (s.setLink link { s.link link with hbLast := s.time, hbGoodSince := none }).enterLink link linkChecking
        else s.restripe link)

/-- The report is repeated every 1 µs until the far side's stripe matches the mask (R211). -/
def execLaneReportRepeat (link : Nat) (s : State) : Out :=
  let l := s.link link
  .next (if l.rxMask ≠ 0 ∧ l.rxStripe ≠ stripeOf l.rxMask ∧ dueEvent l.reportAt s.time 1000 then s.sendLaneReport link else s)

/-- The codeword boundary a number of codeword periods of 6.4 ns from now, in tenths of a ns (R190, R211). -/
def stripeDue (now after : Nat) : Nat := 10 * now + 64 * after

/-- A lane report arrives (R211): with no lane in it the direction carries nothing and the link goes DOWN; otherwise the
transmitter names the stripe it must change to, 4 codeword periods ahead. -/
def execLaneReportReceive (link mask : Nat) (s : State) : Out :=
  let l := s.link link
  let mask := mask % 16
  .next (if mask = 0 then (s.setLink link { l with farMask := 0 }).dropLink link
    else if stripeOf mask = l.pendTx.getD l.txStripe then s.setLink link { l with farMask := mask }
    else ((s.setLink link { l with farMask := mask, pendTx := some (stripeOf mask), txDue := stripeDue s.time 4 }).send (.stripeChange link (stripeOf mask) 4)).restripe link)

/-- A stripe change arrives: the receiver will switch at the codeword boundary it names (R211, Table 9.12). -/
def execStripeChangeReceive (link mask after : Nat) (s : State) : Out :=
  .next (if 1 ≤ after ∧ after ≤ 16 then (s.setLink link { s.link link with pendRx := some (mask % 16), rxDue := stripeDue s.time after }).restripe link else s)

/-- At the named boundary a side switches to the new stripe (R211); F.0903 shows the transmit width. -/
def execStripeSwitch (link : Nat) (transmit : Bool) (s : State) : Out :=
  let l := s.link link
  .next (if transmit then
      match l.pendTx with
      | some m => if 10 * s.time < l.txDue then s else ((s.setLink link { l with txStripe := m, pendTx := none }).setObj .F0903 link (widthOf m)).restriped link
      | none => s
    else
      match l.pendRx with
      | some m => if 10 * s.time < l.rxDue then s else (s.setLink link { l with rxStripe := m, pendRx := none }).restriped link
      | none => s)

/-- A side sends its heartbeat on a link that is not DOWN, every 10 µs ± 0.5 µs (R213, Table 9.13). -/
def execHeartbeatSend (link : Nat) (s : State) : Out :=
  let l := s.link link
  let n := (l.hbSent + 1) % 2 ^ 32
  .next (if s.linkSt link = linkDown ∨ !dueEvent l.hbAt s.time 9500 then s
    else (s.setLink link { l with hbSent := n, hbAt := some s.time }).send (.heartbeat link s.panelId n l.rxMask s.time))

/-- A heartbeat arrives on a link that is not DOWN (R213): it must come from the neighbour that R212 gives, its I/O die and the opposite
direction, or the link is held in checking with TORUS_MISWIRE. A gap in which one must have been missed starts the 1 ms again. -/
def execHeartbeatReceive (link panel iod dir _mask _count _time : Nat) (s : State) : Out :=
  let l := s.link link
  .next (if s.linkSt link = linkDown then s
    else if panel = s.neighbour s.panelId (link % 6) ∧ iod = link / 6 ∧ dir = (link % 6) ^^^ 1 then
      s.setLink link { l with hbLast := s.time, hbGoodSince := if l.hbLast + 19000 ≤ s.time then some s.time else l.hbGoodSince.or (some s.time) }
    else
      ((s.setLink link { l with hbLast := s.time, hbGoodSince := none }).enterLink link linkChecking).raise evTorusMiswire link [link, panel, dir])

/-- 30 µs with no heartbeat take the link DOWN (R213). -/
def execHeartbeatMiss (link : Nat) (s : State) : Out :=
  .next (if s.linkSt link ≠ linkDown ∧ (s.link link).hbLast + 30000 ≤ s.time then s.dropLink link else s)

/-- A checking link whose lanes are UP and whose heartbeats have been valid without a miss for 1 ms enters up (R213). -/
def execLinkUp (link : Nat) (s : State) : Out :=
  let l := s.link link
  .next (match l.hbGoodSince with
    | some t =>
      if s.linkSt link = linkChecking ∧ l.rxMask ≠ 0 ∧ l.txStripe ≠ 0 ∧ t + 1000000 ≤ s.time ∧ s.time < l.hbLast + 19000 then
        s.enterLink link linkUp
      else s
    | none => s)

end Sys2Proof.Machine
end

