-- ==== Sys2Proof/Machine/Merge.lean ====
section
/-!
DEFINITION. Merge stations and tickets (R140 to R145) and the steps that open and close them; the arithmetic serves transit tickets
too (R165, R225).
-/

namespace Sys2Proof.Machine

/-! ### Arithmetic (R142 to R144) -/

/-- Word i of a list of units. -/
def wordAt (l : List Cell32) (i : Nat) : Nat := fld (l.getD (i / 8) default).data (32 * (i % 8)) 32

/-- FP32 element i of a contribution: poison where its unit is marked (R144), R29's replacement where saturation is on. -/
def contribElem (sat : Bool) (l : List Cell32) (i : Nat) : Fv :=
  if (l.getD (i / 8) default).mark then .poison else operand .fp32 sat (wordAt l i)

/-- An exact sum in a fixed-point accumulator, which has one zero, rounded once (R142). -/
def exactSum (sat : Bool) (l : List Fv) : Nat := encodeFp .fp32 sat .rne (plusZero (l.foldl addFv zeroFv))

/-- The greatest element (R142). -/
def exactMax (sat : Bool) (l : List Fv) : Nat :=
  match l with
  | [] => 0
  | x :: r => encodeFp .fp32 sat .rne (r.foldl maxFv x)

/-- An integer value from −96 to 95 (R143). -/
def scaleInt : Fv → Option Int
  | .fin n m e =>
    let v : Option Int := if m = 0 then some 0 else if 0 ≤ e then some (m * 2 ^ e.toNat)
      else if m % 2 ^ (-e).toNat = 0 then some (m / 2 ^ (-e).toNat : Nat) else none
    match v with
    | some k =>
      let k := if n then -k else k
      if -96 ≤ k ∧ k ≤ 95 then some k else none
    | none => none
  | _ => none

/-- x × 2^d. -/
def shiftFv (d : Int) : Fv → Fv
  | .fin n m e => .fin n m (e + d)
  | v => v

/-- One flit of an attention partial merge (R143, R144): 64 words, and whether its format was wrong. -/
def mergeFlit (sat : Bool) (contribs : List (List Cell32)) (f : Nat) : List Nat × Bool :=
  let ms := contribs.map (fun c => contribElem sat c (64 * f))
  let ls := contribs.map (fun c => contribElem sat c (64 * f + 1))
  if ms.contains .poison || ls.contains .poison then (List.replicate 64 (poisonCode .fp32), false)
  else
    let ks := ms.map scaleInt
    if ks.contains none || ls.contains .nan then (List.replicate 64 (nanCode .fp32), true)
    else
      let kv := ks.map (fun k => k.getD 0)
      let top := kv.foldl max (-96)
      let scaled (i : Nat) : List Fv := (contribs.zip kv).map (fun p => shiftFv (p.2 - top) (contribElem sat p.1 (64 * f + i)))
      (encodeFp .fp32 sat .rne (.fin (decide (top < 0)) top.natAbs 0) ::
        (List.range 63).map (fun i => exactSum sat (scaled (i + 1))), false)

/-- The words of a ticket's result, and the flits whose format was wrong. -/
def mergeWords (op : Nat) (sat : Bool) (flits : Nat) (contribs : List (List Cell32)) : List Nat × List Nat :=
  if op = 2 then
    let l := (List.range flits).map (fun f => mergeFlit sat contribs f)
    ((l.map (fun p => p.1)).flatten, (l.zipIdx.filter (fun p => p.1.2)).map (fun p => p.2))
  else
    ((List.range (64 * flits)).map (fun i =>
      (if op = 0 then exactSum sat else exactMax sat) (contribs.map (fun c => contribElem sat c i))), [])

/-- A result's units. -/
def resultUnits (words : List Nat) : List Cell32 := packUnits 4 words (fun _ => 0)

/-- The code of a result over some contributions (R47). -/
def resultCode (t : Ticket) (words : List Nat) : Code :=
  if words.contains (poisonCode .fp32) ∨ t.worst = .poisoned then .poisoned else .ok

/-- The status unit of Table 6.7. -/
def statusUnit (t : Ticket) (c : Code) (now : Nat) : Cell32 :=
  { data := BitVec.ofNat 256 (t.contribs.length % 2 ^ 13 + 2 ^ 16 * (t.expected % 2 ^ 13) + 2 ^ 32 * (t.ticket % 2 ^ 16) +
      2 ^ 48 * codeNum c + 2 ^ 64 * (now % 2 ^ 64)), mark := false }

/-! ### Stations (R140, R141, R145) -/

/-- Open tickets and accumulator cells in use. -/
def Station.openTickets (y : Station) : List Ticket := y.tickets.filter (fun t => t.fin.isNone)
def Station.cells (y : Station) : Nat := ((y.openTickets).map (fun t => t.flits)).sum

/-- The open's tag will end with a code once TAG_COMPLETE finds it (R51). -/
def State.mergeDone (s : State) (port tl tag ticket : Nat) (c : Code) : State :=
  let t := s.tile port tl
  s.setTile port tl { t with async := t.async.map (fun p => match p.2 with
    | .merge n _ => if p.1 = tag ∧ n = ticket then (p.1, .merge n (some c)) else p
    | _ => p) }

/-- Replace a ticket of a station. -/
def Station.put (y : Station) (t : Ticket) : Station :=
  { y with tickets := y.tickets.map (fun x => if x.ticket = t.ticket then t else x) }

/-- A MERGE_OPEN takes a tag; its breaches (Table 3.11). -/
def mergeOpenShape (t : Tile) (w : StepWord) : Shape :=
  let flits := fld w 75 6 + 1
  { queue := 13, entry := some (.tag (fld w 93 5)), tag := some (fld w 93 5)
    bad := if fld w 53 2 = 3 then some (trStepField, 53) else if 46 < flits then some (trStepField, 75)
      else if fld w 81 12 = 0 then some (trStepField, 81)
      else if 2 ^ 17 < t.ea w 55 + 8 * flits + 1 then some (trStoreRange, t.ea w 55 % 2 ^ 18) else none }

/-- MERGE_OPEN asks the site's station for a ticket (R141, Table 3.11). -/
def execMergeOpen (site tile : Nat) (w : StepWord) (s : State) : Out :=
  let t := s.tile site tile
  let flits := fld w 75 6 + 1
  let tag := fld w 93 5
  .next (s.issue site tile 7 0 w (mergeOpenShape t w) (t.pc + 1) (fun s =>
      let y := s.station site
      let k : Ticket := { ticket := fld w 18 16, tile := tile, tag := tag, expected := fld w 41 12 + 1, op := fld w 53 2, res := t.ea w 55
                          flits := flits, deadline := 0, sat := t.sat, contribs := [], worst := .ok, fin := none }
      (s.setTile site tile ((s.tile site tile).openTag tag (.merge (fld w 18 16) none))).setStation site
        { y with opens := y.opens ++ [{ ticket := k, port := fld w 34 7, dl := fld w 81 12 }] }))

/-- The station takes the oldest open (R140, R141): one that names another port or an open ticket, or finds too few tickets
or cells, ends its tag ACCESS_DENIED; otherwise the ticket opens and its deadline starts. -/
def execMergeOpenAccept (port : Nat) (s : State) : Out :=
  let y := s.station port
  .next (match y.opens with
    | [] => s
    | o :: q =>
      let s := s.setStation port { y with opens := q }
      if o.port ≠ port ∨ (y.ticket o.ticket.ticket).isSome ∨ 64 ≤ y.openTickets.length ∨ 384 < y.cells + o.ticket.flits then
        (s.mergeDone port o.ticket.tile o.ticket.tag o.ticket.ticket .accessDenied).raise evMergeRefused port
          [o.ticket.ticket, codeNum .accessDenied]
      else s.setStation port { opens := q, tickets := y.tickets ++ [{ o.ticket with deadline := s.time + 100 * o.dl }] })

/-- A transit ticket that has its count gives its result (R142 to R145, R165): it leaves toward the head with its code. A result for a stream
that is no longer admitted is discarded, with its ticket (R159). -/
def State.transitDone (s : State) (i : Nat) (t : Ticket) (code : Code → Code) : State :=
  let d := s.iod i
  let parts := d.partials.filter (fun q => q.1.1 != t.ticket)
  if (s.stream t.owner).isNone then
    s.setIod i { d with tickets := d.tickets.filter (fun x => x.ticket != t.ticket), straight := d.straight.filter (fun x => x.ticket != t.ticket), partials := parts }
  else
    let (words, bad) := mergeWords t.op t.sat t.flits t.contribs
    let k := code (if t.contribs = [] then .ok else worse (resultCode t words) t.worst)
    let s := (if t.contribs = [] then [] else bad).foldl (fun s f => s.raise evMergeFormat (portOfIod i) [t.ticket, f]) s
    let ended := d.tickets.map (fun x => if x.ticket = t.ticket then { t with fin := some k } else x)
    (s.setIod i { d with tickets := ended, partials := parts }).send
      (.transitResult i t.next (t.owner % 2 ^ 32) t.part k (if t.contribs = [] then [] else resultUnits words))

/-- A whole contribution joins a transit ticket; the last one completes it (R225). Where the count is 1 no ticket is open, and the in-panel
result goes straight on as it is (R165). -/
def State.transitAdd (s : State) (i : Nat) (t : Ticket) (units : List Cell32) (k : Code) : State :=
  let d := s.iod i
  if d.straight.any (fun x => x.ticket == t.ticket) then
    let s := s.setIod i { d with straight := d.straight.filter (fun x => x.ticket != t.ticket) }
    if (s.stream t.owner).isNone then s else s.send (.transitResult i t.next (t.owner % 2 ^ 32) t.part k units)
  else
    let t := { t with contribs := t.contribs ++ [units], worst := worse t.worst k }
    let s := s.setIod i { d with tickets := d.tickets.map (fun x => if x.ticket = t.ticket then t else x) }
    if t.expected ≤ t.contribs.length then s.transitDone i t id else s

/-- The oldest contribution of a receive buffer, accepted at its verdict, is merged into its ticket, a station's or at an I/O die a transit
ticket (R141, R145, R165). -/
def execMergeContribution (port plane : Nat) (s : State) : Out :=
  let g := s.gate port plane
  .next (match takeFirst (fun x : Slot => x.kind == 2) g.recv with
    | none => s
    | some (x, rest) =>
      let s := s.setGate port plane (g.free x rest s.time)
      let y := s.station port
      match s.mergeTicket port (x.taddr % 65536) with
      | none => s
      | some t =>
        if t.fin.isSome || decide (t.expected ≤ t.contribs.length) then s
        else match iodOfPort port with
          | some i => s.transitAdd i t x.payload (if anyMark x.payload then .poisoned else .ok)
          | none => s.setStation port (y.put { t with contribs := t.contribs ++ [x.payload] }))

/-- Write a ticket's result over the contributions merged, if any, and its status unit; the ticket is complete with a code,
with which its open's tag will end: ACCESS_DENIED where a sleeping bank refuses the write (R72). -/
def State.writeResult (s : State) (port : Nat) (t : Ticket) (code : Code → Code) : State :=
  let (words, bad) := mergeWords t.op t.sat t.flits t.contribs
  let c := code (if t.contribs = [] then .ok else resultCode t words)
  let units := if t.contribs = [] then [] else resultUnits words
  let (s, ok) := if units = [] then (s, true) else s.arrive port t.tile t.res units
  let (s, ok') := s.arrive port t.tile (t.res + 8 * t.flits) [statusUnit t c s.time]
  let c := if ok && ok' then c else worse c .accessDenied
  let s := (if t.contribs = [] then [] else bad).foldl (fun s f => s.raise evMergeFormat port [t.ticket, f]) s
  (s.setStation port ((s.station port).put { t with fin := some c })).mergeDone port t.tile t.tag t.ticket c

/-- The count is reached: the station writes the result and the status unit (R141, R142 to R144). -/
def execMergeResultWrite (port ticket : Nat) (s : State) : Out :=
  .next (match (s.station port).ticket ticket with
    | none => s
    | some t => if t.fin.isNone && decide (t.expected ≤ t.contribs.length) then s.writeResult port t id else s)

/-- The deadline passes before the count is reached (R145), every contribution accepted before it being merged: the partial result and the
status are written with MERGE_TIMEOUT, or only the status when nothing was merged; a transit ticket's leaves for the head (R165, R225). The
timeout is counted and reported. -/
def execMergeDeadline (port ticket : Nat) (s : State) : Out :=
  .next (match s.mergeTicket port ticket with
    | none => s
    | some t =>
      if t.fin.isNone && decide (t.contribs.length < t.expected) && decide (t.deadline ≤ s.time) && s.waitingContribs port ticket == 0 then
        ((match iodOfPort port with
          | some i => s.transitDone i t (fun c => worse c .mergeTimeout)
          | none => s.writeResult port t (fun c => worse c .mergeTimeout)).bump .B060C port 1).raise evMergeExpired port
          [ticket, t.contribs.length, t.expected]
      else s)

/-- The contributions of a ticket that still wait in a port's receive buffers go with its accumulators. -/
def State.dropContribs (s : State) (port ticket : Nat) : State :=
  (List.range 8).foldl (fun s pl =>
    let g := s.gate port pl
    let mine (x : Slot) : Bool := x.kind == 2 && x.taddr % 65536 == ticket
    if g.recv.any mine then s.setGate port pl { g with recv := g.recv.filter (fun x => !mine x) } else s) s

/-- A close (R141): before the result is written the accumulators are discarded, the status unit says ABORTED, and the
open's tag ends with it; afterwards the ticket number is released. -/
def State.closeTicket (s : State) (port ticket : Nat) : State :=
  match (s.station port).ticket ticket with
  | none => s
  | some t =>
    let y := s.station port
    let s1 := (s.setStation port { y with tickets := y.tickets.filter (fun x => x.ticket != ticket) }).dropContribs port ticket
    if t.fin.isSome then s1
    else
      ((s1.arrive port t.tile (t.res + 8 * t.flits) [statusUnit t .aborted s.time]).1).mergeDone port t.tile t.tag ticket .aborted

/-- A MERGE_CLOSE joins the merge unit's queue (R49). -/
def mergeCloseShape : Shape := { queue := 13 }

/-- MERGE_CLOSE (Table 3.11). -/
def execMergeClose (site tile : Nat) (w : StepWord) (s : State) : Out :=
  .next (s.issue site tile 7 1 w mergeCloseShape ((s.tile site tile).pc + 1) (fun s => s.closeTicket site (fld w 18 16)))

end Sys2Proof.Machine
end

