-- ==== Sys2Proof/Machine/Fabric.lean ====
section
/-!
DEFINITION. Transit switches (R214, R218 to R224, R226): outputs and their queues, the class A policer, congestion marks, deflection,
detours, and the arrival of a frame. Outputs 0 to 5 of an I/O die are its torus directions, 6 is commons.
-/

namespace Sys2Proof.Machine

/-- The number of an output: link 6i + d, or 24 + i for commons. -/
def outNo (i o : Nat) : Nat := if o < 6 then 6 * i + o else 24 + i

/-- An output carries frames: commons, or a link that is up or in recovery (log 30). -/
def State.outUsable (s : State) (i o : Nat) : Bool :=
  decide (6 ≤ o) || s.linkSt (6 * i + o) == linkUp || s.linkSt (6 * i + o) == linkRecovery

/-- Bytes of a frame (Table 9.1): torus or commons. -/
def frameBytes (o : Nat) (p : Packet) : Nat :=
  (if o < 6 then 74 else 126) + (if 2 ≤ p.type ∧ p.type ≤ 7 then 32 else 0) + p.len

/-- The rate of an output in bytes per ns: 50 for each lane of a torus link (R210); commons by L.080A (R194, R195). -/
def State.outRate (s : State) (i o : Nat) : Nat :=
  let lanes := if o < 6 then (List.range 4).map (fun j => 28 * i + 4 * o + j) else (List.range 4).map (fun j => 28 * i + 24 + j)
  if lanes.any (fun n => decide (s.time < (s.lane n).fill)) then 0
  else if o < 6 then 50 * s.obj .F0903 (6 * i + o)
  else if s.obj .L080A 0 = 1 then 100 else if s.obj .L080A 0 = 2 ∧ (i = 1 ∨ i = 2) then 0 else 200

/-- The queues of an output. -/
def Iod.outQ (d : Iod) (o : Nat) : OutQ := mapGet { a := [], bd := [], budget := 0, credit := (0, 0, 0) } d.outs o

/-- Bytes in a queue. -/
def queueBytes (o : Nat) (l : List Packet) : Nat := (l.map (frameBytes o)).sum

/-- Bytes of an output's B-to-D queue. -/
def State.lowBytes (s : State) (i o : Nat) : Nat := queueBytes o ((s.iod i).outQ o).bd

/-- An output takes no more packets of classes B to D: its queue is above the threshold (R222), or it is down. -/
def State.outBusy (s : State) (i o : Nat) : Bool :=
  !s.outUsable i o || decide (1024 * s.obj .F090A 0 < s.lowBytes i o)

/-- A packet joins a queue of an output. -/
def State.pushOut (s : State) (i o : Nat) (p : Packet) : State :=
  let d := s.iod i
  let q := d.outQ o
  s.setIod i { d with outs := mapSet d.outs o (if p.cls = .A then { q with a := q.a ++ [p] } else { q with bd := q.bd ++ [p] }) }

/-- A packet that finds its queue full is discarded (R222). -/
def State.dropOut (s : State) (i o : Nat) : State :=
  (s.bump .F0914 i 1).raise evQueueDrop (portOfIod i) [outNo i o, s.obj .F0914 i + 1]

/-- A packet of classes B to D joins an output's queue of 512 KiB, marked above the ECN threshold (R221, R226). -/
def State.joinLow (s : State) (i o : Nat) (p : Packet) : State :=
  if 524288 < s.lowBytes i o + frameBytes o p then s.dropOut i o
  else s.pushOut i o { p with ce := p.ce || decide (1024 * s.obj .F0909 0 < s.lowBytes i o) }

/-- Bytes in the class A policer's bucket now (R221): 1,024 at most, refilled at 10 % of the output's rate. -/
def State.aTokens (s : State) (i o : Nat) : Nat :=
  let l := s.link (outNo i o)
  min 1024 (l.aBucket + (s.time - l.aAt) * s.outRate i o / 10)

/-- A packet joins an output (R221): one of class A takes its bytes from the policer's bucket, or is carried as class B. -/
def State.join (s : State) (i o : Nat) (p : Packet) : State :=
  if p.cls ≠ .A then s.joinLow i o p
  else
    let n := outNo i o
    let b := s.aTokens i o
    let bytes := frameBytes o p
    let l := s.link n
    if bytes ≤ b then
      let s := s.setLink n { l with aBucket := b - bytes, aAt := s.time }
      if 16384 < queueBytes o ((s.iod i).outQ o).a + bytes then s.dropOut i o else s.pushOut i o p
    else
      let s := s.setLink n { l with aBucket := b, aAt := s.time }
      let s := if o < 6 then (s.bump .F0912 n 1).linkBreach n 0 else s
      (s.raise evAPolicedLink (portOfIod i) [n, 1]).joinLow i o { p with cls := .B }

/-- The output of the shortest B-to-D queue among some outputs. -/
def State.shortest (s : State) (i : Nat) : List Nat → Option Nat
  | [] => none
  | o :: r => match s.shortest i r with
    | none => some o
    | some o' => some (if s.lowBytes i o ≤ s.lowBytes i o' then o else o')

/-- A packet whose preferred output is busy (R222): the shortest productive output that is not busy; then the shortest other torus
output that is not busy, deflected; then the preferred output's queue. Class A is never deflected. -/
def State.placeBusy (s : State) (i d : Nat) (p : Packet) : State :=
  if p.cls = .A then s.join i d p
  else
    let prod := s.productive s.panelId p.dpanel
    match s.shortest i (prod.filter (fun o => !s.outBusy i o)) with
    | some o => s.join i o p
    | none => match s.shortest i ((List.range 6).filter (fun o => !prod.contains o && !s.outBusy i o)) with
      | some o => s.join i o { p with defl := true }
      | none => s.join i d p

/-- A packet for another panel leaves by the torus (R219, R222, R224): while the preferred link is down it crosses the base to the
first I/O die of i XOR 1, 2, 3 whose link is not, as class B if it was class A. -/
def State.routeTorus (s : State) (i : Nat) (p : Packet) : State :=
  match s.preferred s.panelId p.dpanel with
  | none => s
  | some d =>
    if s.outUsable i d then (if p.cls ≠ .A && s.outBusy i d then s.placeBusy i d p else s.join i d p)
    else match [i ^^^ 1, i ^^^ 2, i ^^^ 3].find? (fun j => s.outUsable j d) with
      | some j =>
        let s := (if p.cls = .A then s.linkBreach (6 * i + d) 3 else s).raise evDetour (portOfIod i) [6 * i + d, j]
        let p := { p with cls := if p.cls = .A then .B else p.cls }
        if s.outBusy j d then s.placeBusy j d p else s.join j d p
      | none => s.placeBusy i d p

/-- A packet is handed to the transport engine of its I/O die (R219). -/
def State.toEngine (s : State) (i : Nat) (p : Packet) : State := s.send (.packet i 7 p)

/-- The next packet of an output: class A first, then B, C and D by the weighted round robin of R130 (R221). -/
def State.nextOut (s : State) (q : OutQ) : Option (Packet × OutQ) :=
  match q.a with
  | p :: r => some (p, { q with a := r })
  | [] =>
    match chooseClass q.credit s.weights (fun c => q.bd.any (fun p => decide (p.cls = c))) with
    | none => none
    | some (c, cr) =>
      match takeFirst (fun p : Packet => decide (p.cls = c)) q.bd with
      | none => none
      | some (p, r) => some (p, { q with bd := r, credit := spend cr c })

/-- An output sends packets while its budget of bytes lasts. -/
def State.drainQ (s : State) (i o : Nat) : Nat → State
  | 0 => s
  | n + 1 =>
    let d := s.iod i
    let q := d.outQ o
    match s.nextOut q with
    | none => s.setIod i { d with outs := mapSet d.outs o { q with budget := 0 } }
    | some (p, q') =>
      let b := frameBytes o p
      if q.budget < b then s
      else ((s.setIod i { d with outs := mapSet d.outs o { q' with budget := q.budget - b } }).send (.frame i o (s.frameHead i o p) p)).drainQ i o n

/-- An output sends for `ns` nanoseconds at its rate. -/
def State.drainOut (s : State) (i o ns : Nat) : State :=
  if s.outUsable i o then
    let d := s.iod i
    let q := d.outQ o
    (s.setIod i { d with outs := mapSet d.outs o { q with budget := q.budget + ns * s.outRate i o } }).drainQ i o 128
  else s

/-- Every output of every transit switch sends. -/
def State.drainFabric (s : State) (ns : Nat) : State :=
  (List.range 4).foldl (fun s i => (mapKeys (s.iod i).outs).foldl (fun s o => s.drainOut i o ns) s) s

/-- A frame whose FCS has failed, or whose header no engine takes, is discarded and counted (R216, R217, R220). -/
def State.discard (s : State) (i : Nat) : State := s.bump .F0915 i 1

/-- A whole frame has arrived at a transit switch (R218 to R220, R223): checked (one too short for its header and payload, or with a payload
above 4,096 B, is no frame of R214), counted one hop further, delivered to the I/O die it
names, or routed on. -/
def execTransitFrame (iod dir bytes : Nat) (fcsOk : Bool) (p : Packet) (s : State) : Out :=
  .next (if !fcsOk ∨ p.ver ≠ 1 ∨ p.type = 0 ∨ 11 < p.type ∨ 4096 < p.len ∨ bytes < frameBytes dir p then s.discard iod
    else if p.type = 11 then s
    else
      let large := decide (p.cls = .A) && decide (512 < bytes)
      let p := { p with hops := if dir < 6 then p.hops + 1 else p.hops, cls := if large then .B else p.cls }
      let s := if large then (if dir < 6 then s.linkBreach (6 * iod + dir) 1 else s).raise evAOversize (portOfIod iod) [outNo iod dir, bytes] else s
      if 6 ≤ dir ∨ p.dpanel = s.panelId then s.toEngine (p.diod % 4) p
      else if 96 ≤ p.hops then
        let s := s.bump .F0913 iod 1
        let (due, n, keep) := limited (s.iod iod).hopEv s.time 1000000
        let s := s.setIod iod { s.iod iod with hopEv := keep }
        if due then s.raise evHopLimit (portOfIod iod) [n] else s
      else if !s.inTorus p.dpanel then s
      else s.routeTorus iod p)

end Sys2Proof.Machine
end

