-- ==== Sys2Proof/Machine/Channels.lean ====
section
/-!
DEFINITION. Channels (R229 to R235): their table, opening and closing, sending, acknowledgement, the rate law (R228), retransmission,
hold, and the commons port's own protocols (R216).
-/

namespace Sys2Proof.Machine

/-! ### The channel table -/

def chanClosed : Nat := 0
def chanOpen : Nat := 1
def chanError : Nat := 2
def chanClosing : Nat := 3

/-- A channel's entry; one never opened reads closed. -/
def State.chan? (s : State) (i n : Nat) : Option Chan := ((s.iod i).chans.find? (fun p => p.1 == n)).map (fun p => p.2)

/-- Replace a channel's entry. -/
def State.setChan (s : State) (i n : Nat) (c : Chan) : State :=
  let d := s.iod i
  s.setIod i { d with chans := mapSet d.chans n c }

/-- A channel carries packets: open, or closing until the last of them is acknowledged (R230). -/
def Chan.live (c : Chan) : Bool := c.state == chanOpen || c.state == chanClosing

/-- Serial arithmetic of 24 bits (R231). -/
def psnDiff (a b : Nat) : Nat := (a + 2 ^ 24 - b % 2 ^ 24) % 2 ^ 24

/-- The end of a COPY packet at its source reaches the write of the mover that made it: the oldest one to that address on the channel (R256). -/
def State.copyEnded (s : State) (i n : Nat) (p : Packet) (k : Code) : State :=
  let mine (w : MWrite) : Bool := w.copy == some (i, n, p.gaddr) && w.answer.isNone
  let has (a : Active) : Bool := a.writes.any mine
  let inChan (c : Nat × MChan) : Bool := c.2.active.any has
  let answer (a : Active) : Active := { a with writes := mapFirst mine (fun w => { w with answer := some k }) a.writes }
  match s.movers.find? (fun e => p.type == 2 && e.2.chans.any inChan) with
  | none => s
  | some (q, m) => s.setMover q { m with chans := mapFirst inChan (fun c => (c.1, { c.2 with active := mapFirst has answer c.2.active })) m.chans }

/-- A channel's send entry ends at its source. -/
def State.entryEnd (s : State) (i n : Nat) (p : Packet) (c : Code) : State := (s.copyEnded i n p c).send (.entryEnded i n p c)

/-- A closing channel with nothing left to acknowledge is closed; send entries that remain end ABORTED (R230). -/
def State.closeIfDone (s : State) (i n : Nat) : State :=
  match s.chan? i n with
  | none => s
  | some c =>
    if c.state = chanClosing ∧ c.inFlight.isEmpty then
      let s := c.sring.foldl (fun s p => s.entryEnd i n p .aborted) s
      (s.setChan i n { c with state := chanClosed, sring := [] }).setObj .F090D i (s.obj .F090D i - 1)
    else s

/-! ### The rate law (R228) -/

/-- The table of 2^(−i/32) held to 16 bits. -/
def ladder16 : List Nat :=
  [65536, 64132, 62757, 61413, 60097, 58809, 57549, 56316, 55109, 53928, 52773, 51642, 50535, 49452, 48393, 47356, 46341, 45348,
   44376, 43425, 42495, 41584, 40693, 39821, 38968, 38133, 37316, 36516, 35734, 34968, 34219, 33486]

/-- A parameter of Table 9.5, in its order (F.090B). -/
def State.rateParam (s : State) (k : Nat) : Nat := packedGet (s.obj .F090B 0) 4 k

/-- Mb/s at level L below rmax. -/
def ladderRate (rmax L : Nat) : Nat := rmax * ladder16.getD (L % 32) 65536 / 65536 / 2 ^ (L / 32)

/-- rmax of a channel in Mb/s: the rate of its first link, or of the commons port. -/
def State.rmax (s : State) (i : Nat) (c : Chan) : Nat :=
  8000 * (if c.commons then s.outRate i 6 else match s.preferred s.panelId c.ppanel with
    | some d => s.outRate i d
    | none => 200)

/-- The largest level at which the ladder still gives rmin. -/
def levelMax (rmax rmin : Nat) : Nat := ((List.range 384).filter (fun L => decide (rmin ≤ ladderRate rmax L))).foldl max 0

/-- The channel's rate in Mb/s. -/
def State.rate (s : State) (i : Nat) (c : Chan) : Nat := max (ladderRate (s.rmax i c) c.level) (1000 * s.rateParam 6)

/-- A cut for an ACK with ece = 1. -/
def State.cut (s : State) (i : Nat) (c : Chan) : Chan :=
  let gap := c.lastCut.map (fun t => s.time - t)
  let within (k : Nat) : Bool := match gap with
    | some g => decide (g < 1000 * s.rateParam k)
    | none => false
  if c.cls = .A ∨ within 0 then c
  else
    { c with level := min (c.level + (if within 1 then 2 else 1) * s.rateParam 2) (levelMax (s.rmax i c) (1000 * s.rateParam 6))
             rise := 1, quiet := 0, lastCut := some s.time, lastStep := s.time }

/-- An increase period ends with no echo (R228). -/
def execIncreasePeriod (iod chan : Nat) (s : State) : Out :=
  .next (match s.chan? iod chan with
    | none => s
    | some c =>
      if c.cls = .A ∨ c.lastCut = none ∨ s.time < c.lastStep + 1000 * s.rateParam 3 then s
      else
        let q := min 15 (c.quiet + 1)
        s.setChan iod chan { c with quiet := q, level := c.level - c.rise, lastStep := c.lastStep + 1000 * s.rateParam 3
                                    rise := if s.rateParam 4 ≤ q ∧ c.rise < s.rateParam 5 then 2 * c.rise else c.rise })

/-! ### Sending -/

/-- A packet of a channel with its header (Table 9.2) leaves the engine: by commons, by the torus, or across the base to another I/O
die of this panel. -/
def State.transmit (s : State) (i n : Nat) (c : Chan) (p : Packet) : State :=
  let p := { p with ver := 1, host := c.hostpeer, dpanel := c.ppanel, spanel := s.panelId, diod := c.piod, siod := i, hops := 0
                    dchan := c.pchan, schan := n, cookie := c.cookie.toNat, stamp := s.time, ce := false, defl := false
                    pcrc := pcrcOf p.payload p.len, addr := c.haddr }
  if c.commons then s.join i 6 p
  else if p.dpanel = s.panelId then s.toEngine (p.diod % 4) p
  else s.routeTorus i p

/-- The peer's coordinates lie in its rings (R219). -/
def State.reachable (s : State) (c : Chan) : Bool := c.commons || s.inTorus c.ppanel

/-- The rate law lets a channel send these bytes now (R228): with what it sent in the last 1 µs they do not exceed 1 µs of its rate. A packet of
more than that goes alone, and nothing follows until the rate has carried it (log 84). -/
def State.paced (s : State) (i : Nat) (c : Chan) (bytes : Nat) : Bool :=
  let sent := ((c.recent.filter (fun r => decide (s.time < r.1 + 1000))).map (fun r => r.2)).sum
  decide (c.cls = .A) || (decide (c.paceAt ≤ s.time) &&
    (decide (8 * (sent + bytes) ≤ s.rate i c) || (decide (sent = 0) && decide (s.rate i c < 8 * bytes))))

/-- The channel may send one more packet of these bytes now: no CLOSE sent, window, rate, hold (R228 to R230, R234). -/
def State.maySend (s : State) (i : Nat) (c : Chan) (bytes : Nat) : Bool :=
  c.state == chanOpen && c.heldSince.isNone && !(s.iod i).held && decide (c.inFlight.length < c.window) && s.paced i c bytes

/-- A slice of up to `k` packets from the send ring (R235). -/
def State.slice (s : State) (i n : Nat) : Nat → State
  | 0 => s
  | k + 1 =>
    match s.chan? i n with
    | none => s
    | some c =>
      match c.sring with
      | [] => s
      | p :: r =>
        if !s.reachable c then ((s.setChan i n { c with sring := r }).entryEnd i n p .targetAbsent).slice i n k
        else
          let bytes := frameBytes (if c.commons then 6 else 0) p
          if !s.maySend i c bytes then s
          else
            let p := { p with psn := c.sndNxt, cls := c.cls, retx := false }
            let o : OutPkt := { pkt := { p with stamp := s.time }, sentAt := s.time, tries := 0, shown := false }
            let c' := { c with
              sring := r, sndNxt := (c.sndNxt + 1) % 2 ^ 24, inFlight := c.inFlight ++ [o]
              state := if p.type = 10 then chanClosing else c.state
              stail := (c.stail + 1) % 65536
              paceAt := if c.cls ≠ .A ∧ s.rate i c < 8 * bytes then s.time + 8000 * bytes / max 1 (s.rate i c) else c.paceAt
              recent := (s.time, bytes) :: c.recent.filter (fun x => decide (s.time < x.1 + 1000)) }
            ((s.setChan i n c').transmit i n c p).slice i n k

/-- The line of an area that holds a global address (R241). -/
def Field.line (f : Field) (g : Nat) : Option RLine := f.lines.find? (fun l => l.gaddr == g)

/-- Remove the line of a global address from a field's area. -/
def State.dropLine (s : State) (field g : Nat) : State :=
  let f := s.field field
  s.setField field { f with lines := f.lines.filter (fun l => l.gaddr != g) }

/-- An entry joins the send ring (R229): a cacheable read that hits is answered from its field's area, any other read is kept with
its deadline (R238, R241, R243); a WRITE removes its line from its requester's area (R241). -/
def State.postEntry (s : State) (i n field : Nat) (p : Packet) : State :=
  match s.chan? i n with
  | none => s.entryEnd i n p .targetAbsent
  | some c =>
    if c.state ≠ chanOpen then s.entryEnd i n p (if c.state = chanError then .timeout else .aborted)
    else
      let put (s : State) : State := s.setChan i n { c with sring := c.sring ++ [p], shead := (c.shead + 1) % 65536 }
      if p.type = 4 then
        match (if p.sub = 1 then (s.field field).line p.gaddr else none) with
        | some l => s.send (.lineAnswer i p.rid .ok l.data)
        | none =>
          let d := (put s).iod i
          let r : RRead := { chan := n, gaddr := p.gaddr, field := field, epoch := (s.field field).epoch, cacheable := p.sub == 1, killed := false
                             deadline := s.time + 1000 * s.obj .F090C 0 }
          (put s).setIod i { d with reads := mapSet d.reads p.rid r }
      else if p.type = 3 then put (s.dropLine field p.gaddr)
      else put s

/-- The least element above a pointer, else the least of all. -/
def nextAfter (ptr : Nat) (l : List Nat) : Option Nat := ((l.filter (fun n => decide (ptr < n))).min?).or l.min?

/-- A channel has a packet that it may send now, or one that cannot be sent at all (R219). -/
def State.chanReady (s : State) (i : Nat) (c : Chan) : Bool :=
  match c.sring with
  | [] => false
  | p :: _ => !s.reachable c || s.maySend i c (frameBytes (if c.commons then 6 else 0) p)

/-- The channel that the transport engine serves next, with its class and the credit left (R235): class A first, B to D by the weights of
B.0602, and round robin among the channels of a class. -/
def State.engineTurn (s : State) (i : Nat) : Option (Nat × Cls × (Nat × Nat × Nat)) :=
  let d := s.iod i
  let ready := d.chans.filter (fun e => s.chanReady i e.2)
  let has (k : Cls) : Bool := ready.any (fun e => decide (e.2.cls = k))
  let next (k : Cls) : Option Nat := nextAfter (mapGet 0 d.turn (clsNum k)) ((ready.filter (fun e => decide (e.2.cls = k))).map (fun e => e.1))
  if has .A then (next .A).map (fun n => (n, .A, d.credit))
  else (chooseClass d.credit s.weights has).bind (fun x => (next x.1).map (fun n => (n, x.1, spend x.2 x.1)))

/-- The engine serves the channel whose turn it is for one slice of at most 4 packets (R235). -/
def State.serveChan (s : State) (i : Nat) : State :=
  match s.engineTurn i with
  | none => s
  | some (n, k, cr) =>
    let d := s.iod i
    (s.setIod i { d with credit := cr, turn := mapSet d.turn (clsNum k) n }).slice i n 4

/-- Relayed pieces in the landing buffer join their channels (R256). -/
def State.postRelayed (s : State) (i : Nat) : State :=
  let l := (s.iod i).relayed
  l.foldl (fun s e => s.postEntry i e.1 0 e.2) (s.setIod i { s.iod i with relayed := [] })

/-- The producer's entries join the channel's ring, and the engine serves a channel (R229, R235). -/
def execPacketSend (iod chan field : Nat) (entries : List Packet) (s : State) : Out :=
  .next ((entries.foldl (fun s p => s.postEntry iod chan field p) (s.postRelayed iod)).serveChan iod)

/-! ### Acknowledgement (R232) -/

/-- The 32-B copy of rmap: bit n for PSN rcv_nxt + 1 + n. -/
def Chan.rmap (c : Chan) : Nat :=
  (c.got.map (fun p => let d := psnDiff p.psn c.rcvNxt; if 1 ≤ d ∧ d ≤ 256 then 2 ^ (d - 1) else 0)).sum

/-- The payload of an ACK: rmap, then the entries (PSN and code). -/
def ackPayload (rmap : Nat) (es : List (Nat × Nat)) : List Cell32 :=
  { data := BitVec.ofNat 256 rmap, mark := false } ::
    (List.range ((es.length + 7) / 8)).map (fun u =>
      { data := BitVec.ofNat 256 (((List.range 8).map (fun j => match es[8 * u + j]? with
          | some (p, k) => (p % 2 ^ 24 + 2 ^ 24 * k) * 2 ^ (32 * j)
          | none => 0)).sum), mark := false })

/-- An ACK packet (Table 9.2). -/
def ackOf (c : Chan) (hold : Bool) (es : List (Nat × Nat)) : Packet :=
  { (default : Packet) with type := 8, cls := if c.cls = .A then .A else .B, ece := c.ackEce, hold := hold
                            ack := (c.rcvNxt + 2 ^ 24 - 1) % 2 ^ 24, len := 32 + 4 * es.length, payload := ackPayload c.rmap es }

/-- An ACK leaves: up to 32 entries are told, its echo is made (R227, R232). With more to tell it acknowledges only what comes before the
next entry, and another ACK stays due. -/
def State.sendAck (s : State) (i n : Nat) : State :=
  match s.chan? i n with
  | none => s
  | some c => match c.ackEntries[32]? with
  | some (psn, _) =>
    let p := { ackOf c false (c.ackEntries.take 32) with ack := (psn + 2 ^ 24 - 1) % 2 ^ 24, payload := ackPayload 0 (c.ackEntries.take 32) }
    (s.setChan i n { c with unacked := c.ackEntries.length - 32, ackEntries := c.ackEntries.drop 32 }).transmit i n c p
  | none =>
    let c' := { c with unacked := 0, ackEce := false, ackEntries := []
                       lastEce := if c.ackEce then some s.time else c.lastEce }
    (s.setChan i n c').transmit i n c (ackOf c false c.ackEntries)

/-- An ACK is due (R227, R232): after 16 packets, after 2 µs, or for a marked packet, then at most once in 2 µs. -/
def execAckSend (iod chan : Nat) (s : State) : Out :=
  .next (match s.chan? iod chan with
    | none => s
    | some c =>
      if !(s.iod iod).held ∧ 0 < c.unacked ∧
          (16 ≤ c.unacked ∨ c.unackedSince + 2000 ≤ s.time ∨ (c.ackEce ∧ dueEvent c.lastEce s.time 2000)) then s.sendAck iod chan
      else s)

/-- The entries of an ACK's payload: PSN and code. -/
def ackEntriesOf (p : Packet) : List (Nat × Nat) :=
  (List.range (min 32 ((p.len - 32) / 4))).map (fun k =>
    let w := fld (p.payload.getD (1 + k / 8) default).data (32 * (k % 8)) 32
    (w % 2 ^ 24, w / 2 ^ 24 % 16))

/-- One round-trip measurement in units of 10 ns, with gains 1/8 and 1/4 (R233). -/
def Chan.measure (c : Chan) (r : Nat) : Chan :=
  let srtt := if c.measured then (7 * c.srtt + r) / 8 else r
  let var := if c.measured then (3 * c.rttvar + ((c.srtt - r) + (r - c.srtt))) / 4 else r / 2
  { c with measured := true, srtt := srtt % 65536, rttvar := var % 65536, rto := max 16 (min 1000 ((srtt + 4 * var) / 100 + 8)) }

/-- Packets not acknowledged become due at a fresh rto, and the channel sends again (R234). -/
def Chan.unhold (c : Chan) (now : Nat) : Chan :=
  { c with heldSince := none, inFlight := c.inFlight.map (fun o => { o with sentAt := now }) }

/-- One packet that an ACK covers ends with its code: a COPY or WRITE that ended OK or POISONED adds its units to cctr (R239), one
never sent again measures the round trip (R233). -/
def State.acked (s : State) (i n : Nat) (o : OutPkt) (k : Code) : State :=
  match s.chan? i n with
  | none => s
  | some c =>
    let c := if o.tries = 0 then c.measure ((s.time - o.pkt.stamp) / 10) else c
    let s := (s.setChan i n c).entryEnd i n o.pkt k
    if (o.pkt.type = 2 ∨ o.pkt.type = 3) ∧ (k = .ok ∨ k = .poisoned) ∧ c.cctr ≠ 0 then s.addIod i c.cctr (o.pkt.len / 32) else s

/-- An ACK's effect on its channel: hold, echo, the packets it acknowledges or lists, and those rmap shows (R228, R232 to R234). -/
def State.takeAck (s : State) (i n : Nat) (c : Chan) (p : Packet) : State :=
  if p.hold then s.setChan i n { c with heldSince := some s.time }
  else
    let c := if c.heldSince.isSome then c.unhold s.time else c
    let c := if p.ece then s.cut i c else c
    let es := ackEntriesOf p
    let upTo := psnDiff (p.ack + 1) c.sndUna
    let rmap := (p.payload.getD 0 default).data
    let code (o : OutPkt) : Option Code := (es.find? (fun e => e.1 == o.pkt.psn)).map (fun e => codeOf e.2)
    let ends (o : OutPkt) : Bool := (decide (upTo ≤ 256) && decide (psnDiff o.pkt.psn c.sndUna < upTo)) || (code o).isSome
    let dead := c.inFlight.filter ends
    let rest := (c.inFlight.filter (fun o => !ends o)).map (fun o =>
      let d := psnDiff o.pkt.psn (p.ack + 1)
      if 1 ≤ d ∧ d ≤ 256 ∧ rmap.getLsbD (d - 1) then { o with shown := true } else o)
    let una := match rest with
      | o :: _ => o.pkt.psn
      | [] => c.sndNxt
    let s := s.setChan i n { c with inFlight := rest, sndUna := una }
    let s := dead.foldl (fun s o => s.acked i n o ((code o).getD .ok)) s
    s.closeIfDone i n

/-- A packet whose cookie does not match is discarded and counted; COOKIE_REJECT at most once a second (R230). -/
def State.rejectCookie (s : State) (i ch : Nat) : State :=
  let s := s.discard i
  let (due, n, keep) := limited (s.iod i).cookieEv s.time 1000000000
  let s := s.setIod i { s.iod i with cookieEv := keep }
  if due then s.raise evCookieReject (portOfIod i) [ch, n] else s

/-- The link by which a packet from another panel arrives under R219, for the condition of R247. -/
def State.arrivalLink (s : State) (i : Nat) (p : Packet) : Option Nat :=
  let route := p.spanel :: s.panelRoute s.panelId 48 p.spanel
  match (route.filter (fun q => q != s.panelId)).getLast? with
  | none => none
  | some q => (s.preferred q s.panelId).map (fun d => 6 * i + (d ^^^ 1))

/-- The time is good enough to judge A_LATE by (R285): aligned, or in the first second of holdover. -/
def State.judgesLate (s : State) : Bool :=
  s.obj .C0B00 0 == 2 || s.obj .C0B00 0 == 3 && decide (s.time < s.ptp.holdSince + 1000000000)

/-- A class A packet later than F.0917 (R247), while the check runs (R285). -/
def State.judgeLate (s : State) (i ch : Nat) (p : Packet) : State :=
  if p.cls = .A ∧ s.judgesLate ∧ 1000 * s.obj .F0917 0 < s.time - p.stamp then
    let s := match (if p.host then none else s.arrivalLink i p) with
      | some n => s.linkBreach n 4
      | none => s
    s.raise evALate (portOfIod i) [ch, s.time - p.stamp]
  else s

/-- An ACK reaches its channel (R220, R230, R232); one of class A is held against its stamp as every class A packet is (R247). -/
def execAckPacket (iod : Nat) (p : Packet) (s : State) : Out :=
  .next (if p.type ≠ 8 then s
    else match s.chan? iod p.dchan with
      | none => s
      | some c =>
        if !c.live then s
        else if p.pcrc ≠ pcrcOf p.payload p.len then s.discard iod
        else if p.cookie ≠ c.cookie.toNat then s.rejectCookie iod p.dchan
        else (s.judgeLate iod p.dchan p).takeAck iod p.dchan c p)

/-! ### Retransmission and hold (R233, R234) -/

/-- A channel enters error (R233): CHANNEL_ERROR, a notice to the control unit (Table 14.8), and every operation outstanding on it ends with TIMEOUT. -/
def State.failChan (s : State) (i n psn : Nat) : State :=
  match s.chan? i n with
  | none => s
  | some c =>
    let s := (s.setChan i n { c with state := chanError, inFlight := [], sring := [] }).raise evChannelError (portOfIod i) [n, psn]
    let s := s.engineNotice (portOfIod i) i 1 n psn
    let s := s.setObj .F090D i (s.obj .F090D i - 1)
    let s := (c.inFlight.map (fun o => o.pkt) ++ c.sring).foldl (fun s p => s.entryEnd i n p .timeout) s
    let d := s.iod i
    let mine := d.reads.filter (fun r => r.2.chan == n)
    mine.foldl (fun s r => s.send (.lineAnswer i r.1 .timeout [])) (s.setIod i { d with reads := d.reads.filter (fun r => r.2.chan != n) })

/-- The timeout of a packet: rto, doubled by each retransmission, up to 1,000 µs (R233, log 31). -/
def rtoOf (c : Chan) (o : OutPkt) : Nat := min 1000 (c.rto * 2 ^ o.tries)

/-- The oldest packet whose rto has passed, neither acknowledged nor shown in rmap, is sent again with a new stamp; after seven
retransmissions its channel fails (R233). -/
def execRtoExpiry (iod chan : Nat) (s : State) : Out :=
  .next (match s.chan? iod chan with
    | none => s
    | some c =>
      if !c.live ∨ c.heldSince.isSome ∨ (s.iod iod).held then s
      else match takeFirst (fun o : OutPkt => !o.shown && decide (o.sentAt + 1000 * rtoOf c o ≤ s.time)) c.inFlight with
        | none => s
        | some (o, _) =>
          if 7 ≤ o.tries then s.failChan iod chan o.pkt.psn
          else
            let p := { o.pkt with retx := true, stamp := s.time }
            let again := c.inFlight.map (fun x => if x.pkt.psn = o.pkt.psn then { x with pkt := p, sentAt := s.time, tries := x.tries + 1 } else x)
            let s := s.setChan iod chan { c with inFlight := again }
            (s.bump .F090E iod 1).transmit iod chan c p)

/-- 100 ms of hold have passed: the sender resumes (R234). -/
def execHoldTimeout (iod chan : Nat) (s : State) : Out :=
  .next (match s.chan? iod chan with
    | none => s
    | some c => match c.heldSince with
      | some t => if t + 100000000 ≤ s.time then s.setChan iod chan (c.unhold s.time) else s
      | none => s)

/-- An I/O die whose port is restored sends an ACK with hold = 0 on every channel it held, and its timers run again (R234). -/
def State.unholdDie (s : State) (i : Nat) : State :=
  let d := s.iod i
  if !d.held then s
  else
    let live := (d.chans.filter (fun p => p.2.live)).map (fun p => p.1)
    let again (c : Chan) : Chan := { c with inFlight := c.inFlight.map (fun o => { o with sentAt := s.time }) }
    let s := s.setIod i { d with held := false, holdAcks := [], chans := d.chans.map (fun p => (p.1, again p.2)) }
    live.foldl (fun s n => s.sendAck i n) s

/-! ### Opening and the channel cache (R229, R230) -/

/-- A channel's pinned entry counts toward the 256. -/
def Iod.pinnedCount (d : Iod) : Nat := (d.chans.filter (fun p => p.2.pinned && p.2.live)).length

/-- Bytes in network order are an IPv6 address's high bytes first; a prefix entry matches the address's first `len` bits (F.0916). -/
def netOrder (a : Nat) : Nat := ((List.range 16).map (fun k => packedGet a 1 k * 256 ^ (15 - k))).sum

/-- A source address matches an entry of F.0916 (R230): 16 bytes of prefix, then its length; an entry of zeros is empty. -/
def State.prefixMatch (s : State) (addr : Nat) : Bool :=
  (List.range 16).any (fun e =>
    let v := packedGet (s.obj .F0916 0) 32 e
    let len := packedGet v 1 16
    v != 0 && decide (len ≤ 128) && netOrder (v % 2 ^ 128) / 2 ^ (128 - len) == netOrder addr / 2 ^ (128 - len))

/-- A channel right after it opens (Table 9.6): both directions at PSN 0, rto 100 µs (R230, R233). -/
def newChan (cls : Cls) (kind : Nat) (pinned commons hostpeer : Bool) (ppanel piod haddr pchan : Nat) (cookie : BitVec 32) (window now : Nat) : Chan :=
  { state := chanOpen, cls := cls, kind := kind, pinned := pinned, commons := commons, hostpeer := hostpeer, ppanel := ppanel, piod := piod
    haddr := haddr, pchan := pchan, cookie := cookie, sndNxt := 0, sndUna := 0, rcvNxt := 0, window := window, rto := 100, srtt := 0
    rttvar := 0, measured := false, level := 0, rise := 1, quiet := 0, lastCut := none, lastStep := now, sring := [], inFlight := []
    got := [], rfree := 0, rsize := 0, actr := 0, cctr := 0, unacked := 0, unackedSince := 0, ackEce := false, ackEntries := []
    lastEce := none, heldSince := none, recent := [] }

/-- What a host's OPEN asks for in its 32-B payload (R230): the host's channel, class, pinning and window. -/
def openAsked (w : BitVec 256) : Nat × Cls × Bool × Nat := (fld w 0 16, clsOf (fld w 16 2), bit w 18, fld w 19 9)

/-- The payload of the answer to an OPEN (R230): the panel's channel, the new cookie and a completion code. -/
def openAnswer (chan : Nat) (cookie : BitVec 32) (k : Code) : BitVec 256 :=
  packBits 256 [(0, 16, chan), (32, 32, cookie.toNat), (64, 4, codeNum k)]

/-- What an OPEN asks for, from a host as its payload says: such a channel carries serving messages. -/
def openOf (peer : Option PeerOpen) (payload : BitVec 256) : PeerOpen :=
  let (chan, cls, pinned, window) := openAsked payload
  peer.getD { panel := 0, iod := 0, chan := chan, kind := 0, cls := cls, pinned := pinned, window := window, sring := 0, ssize := 0, rring := 0
              rsize := 0, actr := 0, cctr := 0 }

/-- The place of an address in the host table of 256, none where it is full (R229). -/
def Iod.hostPlace (d : Iod) (addr : Nat) : Option Nat :=
  match (List.range 256).find? (fun k => d.hosts[k]? == some addr) with
  | some k => some k
  | none => if d.hosts.length < 256 then some d.hosts.length else none

/-- Why an OPEN is refused (R229, R230, Table 9.6, log 41): a source that no prefix matches, class A beyond 256 pinned entries, a window outside
1 to 256, a reserved kind or size, a full host table. -/
def State.openRefused (s : State) (iod addr : Nat) (host : Bool) (o : PeerOpen) : Bool :=
  let d := s.iod iod
  (host && !s.prefixMatch addr) || ((o.pinned || decide (o.cls = .A)) && decide (256 ≤ d.pinnedCount)) || o.window == 0 || decide (256 < o.window) ||
    o.kind == 3 || decide (4 < o.rsize) || (host && (d.hostPlace addr).isNone)

/-- An OPEN (R230): from a host, whose address must match a prefix, or the control unit's own toward a peer. The answer carries the channel, a
new cookie and a code; a host's is told to the control unit (Table 14.8). -/
def execOpenPacket (iod : Nat) (peer : Option PeerOpen) (addr : Nat) (payload : BitVec 256) (s : State) : Out :=
  let d := s.iod iod
  let o := openOf peer payload
  let host := peer.isNone
  let refuse := s.send (.opened iod addr o.chan (openAnswer 0 0 .accessDenied))
  .next (if s.openRefused iod addr host o then refuse
    else match ((List.range 65536).drop 1).find? (fun n => match s.chan? iod n with
        | some c => !c.live
        | none => true) with
      | none => refuse
      | some n =>
        let cookie := Config.cookie s.freeCount
        let c := newChan o.cls o.kind (o.pinned || decide (o.cls = .A)) host host o.panel o.iod addr o.chan cookie o.window s.time
        let place := (d.hostPlace addr).getD 0
        let c := { c with rsize := o.rsize, actr := o.actr, cctr := o.cctr, sringBase := o.sring, ssize := o.ssize, rringBase := o.rring
                          host := if host then place else 0 }
        let s := ({ s with freeCount := s.freeCount + 1 }).setIod iod { d with hosts := if host ∧ place = d.hosts.length then d.hosts ++ [addr] else d.hosts }
        let s := ((s.setChan iod n c).bump .F090D iod 1).send (.opened iod addr o.chan (openAnswer n cookie .ok))
        if host then s.engineNotice (portOfIod iod) iod 0 n 0 else s)

/-- A channel table entry (Table 9.6). -/
def Chan.entry (c : Chan) (i : Nat) : BitVec 1024 :=
  packBits 1024 [(0, 2, c.state), (2, 2, clsNum c.cls), (4, 2, c.kind), (6, 1, flag c.pinned), (7, 1, flag c.commons), (8, 1, flag c.hostpeer),
    (16, 15, c.ppanel), (32, 2, c.piod), (40, 8, c.host), (48, 16, c.pchan), (64, 32, c.cookie.toNat), (96, 24, c.sndNxt), (128, 24, c.sndUna),
    (160, 24, c.rcvNxt), (192, 9, c.window), (208, 16, c.rto), (224, 16, c.srtt), (240, 16, c.rttvar), (256, 32, i), (288, 32, c.level),
    (320, 16, c.rise), (336, 4, c.quiet), (340, 3, (c.inFlight.head?.map (fun o => o.tries)).getD 0), (352, 44, c.sringBase), (396, 4, c.ssize),
    (400, 16, c.shead), (416, 16, c.stail), (432, 44, c.rringBase), (476, 4, c.rsize), (480, 16, c.rfree), (512, 14, c.actr), (528, 14, c.cctr),
    (544, 64, c.lastCut.getD 0), (608, 256, c.rmap)]

/-- Table entries are written back to the channel table, at bytes 0 to 8,388,607 of the corner field's pool, 128 B each (R229). -/
def State.writeBack (s : State) (i n : Nat) : State :=
  match s.chan? i n with
  | none => s
  | some c =>
    let e := c.entry (s.rate i c)
    s.putUnits (cacheAddr (fieldOf (portOfIod i)) (128 * n)) ((List.range 4).map (fun k => { data := e.extractLsb' (256 * k) 256, mark := false }))

/-- A channel's entry is used (R229): a miss fetches it, and writes back the least recently used entry that is not pinned. -/
def execChannelCacheFill (iod chan : Nat) (s : State) : Out :=
  let d := s.iod iod
  let pinned (n : Nat) : Bool := match s.chan? iod n with
    | some c => c.pinned && c.live
    | none => false
  .next (if d.cache.contains chan then s.setIod iod { d with cache := chan :: d.cache.filter (fun n => n != chan) }
    else
      let (kept, out) := if d.cache.length < 1024 then (d.cache, none)
        else match takeFirst (fun n => !pinned n) d.cache.reverse with
          | some (n, r) => (r.reverse, some n)
          | none => (d.cache, none)
      let s := (s.setIod iod { d with cache := chan :: kept }).bump .F090F iod 1
      match out with
      | some n => s.writeBack iod n
      | none => s)

/-! ### The commons port (R216) -/

/-- The address of commons port Ci (F.0906). -/
def State.commonsAddr (s : State) (port : Nat) : Nat := packedGet (s.obj .F0906 0) 16 port

/-- A neighbour solicitation for the port's address is answered (R216). -/
def execNeighbourSolicitation (port target src : Nat) (s : State) : Out :=
  .next (if port < 4 ∧ target ≠ 0 ∧ target = s.commonsAddr port then s.send (.neighbour port target src) else s)

/-- An ICMPv6 echo request to the port's address is answered (R216). -/
def execIcmpEchoRequest (port dst src ident : Nat) (s : State) : Out :=
  .next (if port < 4 ∧ dst ≠ 0 ∧ dst = s.commonsAddr port then s.send (.echo port dst src ident) else s)

end Sys2Proof.Machine
end

