-- ==== Sys2Proof/Machine/Control.lean ====
section
/-!
DEFINITION. The control steps of Table 3.12 and the start and end of a tile's part of a wave (R50, R53, R64, R70, R72).
-/

namespace Sys2Proof.Machine

/-! ### Waves at a tile -/

/-- The site sequencer prepares a tile for a wave (R27, R50, R64): wave parameters, index registers at 0, the seeded
generator, no tag held. -/
def State.startRun (s : State) (site tl : Nat) (r : Run) : State :=
  let t := s.tile site tl
  s.setTile site tl { t with
    running := true, stopped := false, trapped := false, wave := r.wave, slot := r.slot, waveType := r.waveType, sat := r.sat
    latency := r.latency, pc := 0, listLen := r.listLen, half := 0, halfReady := true, issued := false, firstCycle := 0
    lastIssue := 0, ix := [], wp := r.wp.zipIdx.map (fun p => (p.2, p.1)), loops := [], block := none, wait := none
    blockEnd := 0, sb := [], mq := [], vq := [], fq := [], tags := [], async := [], bulk := [], prio := [], recv := none
    rng := seedRng r.seed r.wave ((s.stackOf site).getD 0) tl, sievePass := [], window := 0, conflicts := 0, busyIv := [] }

/-- Clear scoreboard, queues, landing buffers and loop state; tags still busy end with ABORTED (R70). -/
def Tile.cleared (t : Tile) : Tile :=
  { t with
    running := false, sb := [], mq := [], vq := [], fq := [], bulk := [], prio := [], recv := none, loops := [], block := none
    wait := none, async := []
    tags := t.tags.map (fun p => (p.1, match p.2 with | .busy => TagSt.done .aborted | x => x)) }

/-- A bid, a staged payload or a slot of a tile. -/
def Bid.ofTile (b : Bid) (tl : Nat) : Bool := decide (b.sender = .tile tl)
def Slot.ofTile (x : Slot) (tl : Nat) : Bool := decide (x.sender = .tile tl)

/-- The tags of a tile's BIDs have ended with ABORTED (R63, R70): a headgate sends and stages nothing more for them, and a stall granted or a
slot under way for them concerns no later BID. -/
def State.dropBids (s : State) (site tl : Nat) : State :=
  (List.range 8).foldl (fun s pl =>
    let g := s.gate site pl
    let m := s.market pl
    let bid (src : Nat) (b : Bid) : Bid := if src = site ∧ b.ofTile tl then { b with gone := true } else b
    let slot (x : Slot) : Slot := if x.src = site ∧ x.ofTile tl ∧ !x.reply then { x with gone := true } else x
    let s := if g.bids.any (fun b => b.ofTile tl) || g.staging.any (fun x => x.ofTile tl) then
        s.setGate site pl { g with bids := g.bids.filter (fun b => !b.ofTile tl), staging := g.staging.filter (fun x => !x.ofTile tl) }
      else s
    if (m.arriving ++ m.table ++ m.retries).any (fun x => x.src == site && x.bid.ofTile tl) || m.grants.any (fun x => x.src == site && x.bid.ofTile tl) ||
        (m.flying ++ m.lost).any (fun x => x.src == site && x.ofTile tl) then
      s.setMarket pl { m with arriving := m.arriving.map (fun x => { x with bid := bid x.src x.bid })
                              table := m.table.map (fun x => { x with bid := bid x.src x.bid })
                              retries := m.retries.map (fun x => { x with bid := bid x.src x.bid })
                              grants := m.grants.map (fun x => { x with bid := bid x.src x.bid })
                              flying := m.flying.map slot, lost := m.lost.map slot }
    else s) s

/-- At END or an abort the site sequencer clears the tile (R70): what its units have queued outside it goes too, its bids and payloads, its
sieve steps, its opens that no station has taken, and the beats that it has not handed to its switch. -/
def State.clearTile (s : State) (site tl : Nat) : State :=
  let s := s.countWait site tl 1
  let s := s.setTile site tl ((s.tile site tl).cleared.beginBanks s.time)
  let p := s.site site
  let s := s.setSite site { p with
    sieveQ := p.sieveQ.filter (fun e => e.1 != tl), mesh := p.mesh.filter (fun b => !(b.beat.src == tl && b.since.isNone)) }
  let y := s.station site
  let s := if y.opens.any (fun o => o.ticket.tile == tl) then s.setStation site { y with opens := y.opens.filter (fun o => o.ticket.tile != tl) } else s
  s.dropBids site tl

/-- The tile's part of its wave is over, and the next wave dispatched to it begins. -/
def State.leaveRun (s : State) (site tl : Nat) : State :=
  match (s.tile site tl).waiting with
  | [] => s
  | r :: q => (s.setTile site tl { s.tile site tl with waiting := q }).startRun site tl r

/-! ### The steps -/

/-- NOP issues after its gap and does nothing (R49, Table 3.12). -/
def execNop (site tile : Nat) (w : StepWord) (s : State) : Out :=
  .next (s.issue site tile 1 0 w {} ((s.tile site tile).pc + 1) id)

/-- WAIT blocks until every tag of its mask has completed, then retires them; a tag that ended with a code other than OK or
POISONED raises TRANSFER_FAILED (R64). -/
def waitEffect (site tl mask index : Nat) (s : State) : State :=
  (s.blockIssue site tl (.wait mask) 6 1 1 index).settle site tl

def execWait (site tile : Nat) (w : StepWord) (s : State) : Out :=
  .next (s.issue site tile 1 1 w {} ((s.tile site tile).pc + 1) (waitEffect site tile (fld w 18 32) (s.tile site tile).pc))

/-- The iterations of a LOOP: cnt + 1, or WPw with wsrc (Table 3.12). -/
def loopCount (t : Tile) (w : StepWord) : Nat := if bit w 34 then (t.wpReg (fld w 35 4)).toNat else fld w 18 16 + 1

/-- The traps of a LOOP: an empty body, nesting deeper than 4, a body past the end of the list (R64, Table 3.12). -/
def loopBad (t : Tile) (w : StepWord) : Option (Nat × Nat) :=
  if fld w 39 12 = 0 then some (trStepField, 39)
  else if 4 ≤ t.loops.length then some (trLoopDepth, (t.loops.length + 1) % 8)
  else if t.listLen < t.pc + 1 + fld w 39 12 then some (trLoopDepth, (t.loops.length + 1) % 8)
  else none

/-- What each control step needs at issue: the breaches of a LOOP, a SETIX of IX0, and a BANKPWR to state 3 (Table 3.12); a BANKPWR waits
for a locked test region in its banks (R49). -/
def loopShape (t : Tile) (w : StepWord) : Shape := { bad := loopBad t w }
def setixShape (w : StepWord) : Shape := { bad := if fld w 18 3 = 0 then some (trStepField, 18) else none }
def bankpwrShape (w : StepWord) : Shape := { bankMask := fld w 18 32, bad := if fld w 50 2 = 3 then some (trStepField, 50) else none }

/-- LOOP repeats the next `body` steps; WPw = 0 skips them (R64). -/
def execLoop (site tile : Nat) (w : StepWord) (s : State) : Out :=
  let t := s.tile site tile
  let n := loopCount t w
  let stop := t.pc + 1 + fld w 39 12
  let next := if n = 0 then stop else t.pc + 1
  .next (s.issue site tile 1 2 w (loopShape t w) next (fun s =>
    if n = 0 then s
    else s.setTile site tile { (s.tile site tile) with
      loops := { start := t.pc + 1, stop := stop, left := n - 1, adv := fld w 51 7 } :: (s.tile site tile).loops }))

/-- SETIX sets a register's value and stride, modulo 2¹⁷ (R53). -/
def execSetix (site tile : Nat) (w : StepWord) (s : State) : Out :=
  .next (s.issue site tile 1 3 w (setixShape w) ((s.tile site tile).pc + 1) (fun s =>
      s.setTile site tile { (s.tile site tile) with
        ix := mapSet (s.tile site tile).ix (fld w 18 3) (IxReg.mk (fld w 21 17) (w.extractLsb' 38 18).toInt) }))

/-- The state coded in BANKPWR st: 0 on, 1 retention, 2 off. -/
def bankOf (n : Nat) : BankSt := if n = 0 then .on else if n = 1 then .retention else .off

/-- BANKPWR starts, replaces or ignores the change of each bank it names (R72). -/
def execBankpwr (site tile : Nat) (w : StepWord) (s : State) : Out :=
  .next (s.issue site tile 1 4 w (bankpwrShape w) ((s.tile site tile).pc + 1) (fun s =>
      let t := s.tile site tile
      let banks := ((List.range 32).filter (fun b => bitGet (fld w 18 32) b)).foldl
        (fun m b => mapSet m b ((t.bank b).request (bankOf (fld w 50 2)) (t.holdsBank b) s.time)) t.banks
      s.setTile site tile { t with banks := banks }))

/-- FENCE blocks until every unit is idle and every tag has completed (Table 3.12). -/
def execFence (site tile : Nat) (w : StepWord) (s : State) : Out :=
  let i := (s.tile site tile).pc
  .next (s.issue site tile 1 5 w {} (i + 1) (fun s => (s.blockIssue site tile .fence 7 1 5 i).settle site tile))

/-- MARK records a trace point with its identifier (R361). -/
def execMark (site tile : Nat) (w : StepWord) (s : State) : Out :=
  let i := (s.tile site tile).pc
  .next (s.issue site tile 1 6 w {} (i + 1) (fun s => s.traceRecord site tile i true (fld w 18 16)))

/-- TRAP raises DELIBERATE with its detail (Table 3.13, R69). -/
def execTrap (site tile : Nat) (w : StepWord) (s : State) : Out :=
  let i := (s.tile site tile).pc
  .next (s.issue site tile 1 7 w {} (i + 1) (fun s => s.trapTile site tile trDeliberate (fld w 18 8) 1 7 i))

/-- END ends the tile's part of the wave (R70); a wave already dispatched to it begins. -/
def execEndStep (site tile : Nat) (w : StepWord) (s : State) : Out :=
  .next (s.issue site tile 1 8 w {} ((s.tile site tile).pc + 1) (fun s =>
    let s := s.clearTile site tile
    let t := s.tile site tile
    let s := s.setTile site tile { t with ended := t.ended ++ [t.wave] }
    let s := if (List.range 48).all (fun k => (s.tile site k).ended.contains t.wave) then
        s.siteReport site (BitVec.ofNat 448 (1 + 2 ^ 8 * t.wave)) else s
    s.leaveRun site tile))

/-- The next half of a long list is in the step buffer (R48). -/
def execStepListRefill (site tile : Nat) (s : State) : Out :=
  let t := s.tile site tile
  .next (if t.running && decide ((t.half + 1) * 2048 < t.listLen) then s.setTile site tile { t with halfReady := true } else s)

/-- A wait at issue longer than watchdog_limit raises STALL_LIMIT with the cause that held last (R67). -/
def execWatchdogExpiry (site tile : Nat) (s : State) : Out :=
  let t := s.tile site tile
  .next (match t.wait with
    | some v =>
      if t.running && !t.trapped && decide (v.ns + 1000 * s.obj .S0303 0 < s.time) then
        s.trapTile site tile trStallLimit v.cause v.cls v.op v.index
      else s
    | none => s)

/-- A trapped tile sends its oldest trap record in wait mode to the site sequencer's mailbox, on a beat of its bucket (R69,
R81, R264). A record that finds no beat, or a full mailbox, waits in the tile. -/
def execTrapRecordSend (site tile : Nat) (s : State) : Out :=
  let t := s.tile site tile
  .next (match t.traps with
    | [] => s
    | r :: q =>
      if t.bucket = 0 then s
      else
        let (s', taken) := s.mailWait (64 + site) (BitVec.ofNat 448 r.num) 3 0 site tile 0
        let cyc := (s.site site).cycles
        if taken then s'.setTile site tile { t with
            traps := q, bucket := t.bucket - 1, refillAt := if t.bucket = 4 then cyc else t.refillAt
            recWait := if t.bucket = 1 ∧ !q.isEmpty then some cyc else none }
        else s')

/-- The site sequencer handles the trap record in its mailbox (R69): it stops the die's tiles at their next issue, reports
the trap to the control unit, and releases the mailbox. -/
def execSiteSequencerTrapHandle (site : Nat) (s : State) : Out :=
  let b := s.box (64 + site)
  .next (if !b.full then s
    else
      let s := s.stopDie site
      let rec32 := b.msg.extractLsb' 0 256
      let s := s.siteReport site (BitVec.ofNat 448 (2 ^ 8 * rec32.toNat))
      s.mailRelease (64 + site) b.seq true)

end Sys2Proof.Machine
end

