-- ==== Sys2Proof/Machine/Clocks.lean ====
section
/-!
DEFINITION. Clocks and time (chapter 11): the tick (R272, R274, R284), frequency changes (R278 to R280), monitors (R281, R282), PTP (R283 to
R285) and the return of a zone's time base (R286).
-/

namespace Sys2Proof.Machine

/-! ### The tick -/

/-- Tile cycles of a site in one 40 ns tick (R277): stretched cycles are longer (R281, R297, R298). -/
def State.cyclesPerTick (s : State) (p : Nat) : Nat :=
  let q := s.site p
  let n := s.obj .C0B06 p / 25
  let n := if s.power.guard then n * 4 / 5 else n
  let n := if q.stretchSince.isSome then n * 8 / 9 else n
  -- the slew limiter (R298): cycles are stretched by up to a full period until the rise in 40 ns keeps P.0C0B
  let limit := Config.coreCurrent p q.cycles + 40 * s.obj .P0C0B 0
  ((List.range (n - n / 2)).find? (fun k => decide (Config.coreCurrent p (q.cycles + (n - k)) ≤ limit))).elim (n / 2) (fun k => n - k)

/-- A site's mesh and its cycle counter advance while its clock runs (R76, R277, R279); stretched cycles are counted (R281). -/
def State.tickSite (s : State) (p : Nat) : State :=
  let q := s.site p
  if !q.powered || q.gated then s
  else
    let n := s.cyclesPerTick p
    let s := s.runMesh p n
    let s := s.setSite p { s.site p with cycles := q.cycles + n }
    if q.stretchSince.isSome then s.bump .C0B08 p n else s

/-- In the DR8 mode each I/O die of a port bids, every frame, for the 5 class B slots on plane 7 that its PMA stream takes toward the other, and
reads 5 slots from its elastic buffer (R195). -/
def State.pmaFrame (s : State) : State :=
  if s.obj .L080A 0 ≠ 2 then s
  else [(0, 12), (12, 0), (110, 98), (98, 110)].foldl (fun s e =>
    let s : State := { s with pma := s.pma.map (fun b => if iodOfPort e.1 = some b.1 ∧ b.2.2 then (b.1, (b.2.1 - 5, true)) else b) }
    let plane := s.effPlane 7
    let g := s.gate e.1 plane
    if !s.inService e.1 || !s.inService e.2 || decide (64 ≤ g.bids.length) then s
    else
      let b : Bid := { dst := e.2, cls := .B, slots := 5, sender := .pma, tag := 0, sidx := 0, retry := false, at' := s.time }
      s.setGate e.1 plane { g with bids := g.bids ++ [b] }) s

/-- A tick (R272): the counter advances by 40, or by 39 or 41 as the servo asks while a master drives it, at most once in 125 ticks (R284); TIME_SKEW for each field
copy more than 2 ns off (R274); clocks run, and the fabric's outputs send. -/
def execTick (slew : Int) (skewed : List (Nat × Nat)) (s : State) : Out :=
  let ask := decide (slew = 1 ∨ slew = -1) && s.ptp.master.isSome && decide (125 ≤ s.ptp.tickSinceSlew)
  let dt := if ask then (40 + slew).toNat else 40
  .next (if !s.power.islandRuns then s
    else
      let s := { s with time := s.time + dt, ptp := { s.ptp with tickSinceSlew := if ask then 1 else min 125 (s.ptp.tickSinceSlew + 1) } }
      let s := skewed.foldl (fun s d => s.setObj .C0B09 d.1 (ratF32 d.2 1)) s
      let s := (skewed.filter (fun d => decide (2 < d.2))).foldl (fun s d => s.raise evTimeSkew d.1 [d.1, d.2]) s
      let s := if s.time / 512 = (s.time - dt) / 512 then s else s.pmaFrame
      ((mapKeys s.sites).foldl (fun s p => s.tickSite p) s).drainFabric 40)

/-! ### Frequency changes (R278) -/

/-- VCORE in mV at a frequency in MHz (R294). -/
def vcoreMv (mhz : Nat) : Nat := 550 + (mhz - 400) / 5

/-- Show rail `r` of a site (P.0C0D). -/
def State.showRail (s : State) (p r mv : Nat) : State := s.setObj .P0C0D p (packedSet (s.obj .P0C0D p) 4 r (ratF32 mv 1000))

/-- The band ceiling of a site (Table 12.5). -/
def State.bandCeiling (s : State) (p : Nat) : Nat :=
  if s.band p = 2 then packedGet (s.obj .T0123 0) 2 0 else if s.band p = 3 ∨ s.band p = bandB4 then packedGet (s.obj .T0123 0) 2 1 else 1800

/-- The frequency a site may run at (R296): the lowest of C.0B05, its power ceiling and its band ceiling. -/
def State.allowedMhz (s : State) (p : Nat) : Nat := min (s.obj .C0B05 p) (min (s.obj .P0C09 p) (s.bandCeiling p))

/-- The market of every plane grants no stall to or from a port in some slots, beside any others it withholds (R278, R149). -/
def State.withholdAll (s : State) (port a b : Nat) : State :=
  (List.range 8).foldl (fun s plane => s.withhold plane port a b) s

/-- Frame F is named, 2 frames ahead, and the port's stalls of frames F to F + 3 are withheld. -/
def State.nameFrame (s : State) (p : Nat) (f : FreqChange) : State :=
  let n := s.frameNo + 2
  (s.setSite p { s.site p with freq := some { f with frame := some n } }).withholdAll p (8 * n) (8 * n + 32)

/-- The time a VCORE move of some mV takes, in ns (R294): 10 mV per µs. -/
def rampTime (a b : Nat) : Nat := 100 * ((a - b) + (b - a))

/-- A change to a target begins: for a higher frequency the rail is raised first (R278 step 1). -/
def State.beginFreq (s : State) (p mhz : Nat) : State :=
  let now := s.obj .C0B06 p
  let f : FreqChange := { target := mhz, frame := none, gated := false, restarted := false, later := none }
  if now < mhz then
    s.setSite p { s.site p with freq := some f, rampTo := some (vcoreMv mhz, s.time + rampTime (vcoreMv mhz) (vcoreMv now)) }
  else s.nameFrame p f

/-- A site's frequency is requested (R278, R280): before frame F begins a second request replaces the target; later it waits. -/
def State.requestFreq (s : State) (p mhz : Nat) : State :=
  let mhz := min mhz (s.allowedMhz p)
  let q := s.site p
  if !q.powered ∨ mhz < 400 ∨ 1800 < mhz ∨ mhz % 25 ≠ 0 then s
  else match q.freq with
    | none => if mhz = s.obj .C0B06 p then s else s.beginFreq p mhz
    | some f =>
      let begun := match f.frame with
        | some n => decide (n ≤ s.frameNo)
        | none => false
      if begun then s.setSite p { q with freq := some { f with later := some mhz } }
      else if vcoreMv f.target < vcoreMv mhz then s.beginFreq p mhz
      else s.setSite p { q with freq := some { f with target := mhz } }

/-- A request for a site (R278). -/
def execFreqChangeRequest (site mhz : Nat) (s : State) : Out := .next (s.requestFreq site mhz)

/-- VCORE has reached its new voltage (R294); a change that waited for it names its frame (R278). -/
def execVcoreRampDone (site : Nat) (s : State) : Out :=
  let q := s.site site
  .next (match q.rampTo with
    | none => s
    | some (mv, t) =>
      if s.time < t then s
      else
        let s := (s.setSite site { q with rampTo := none }).showRail site 0 mv
        match q.freq with
        | some f => if f.frame = none then s.nameFrame site f else s
        | none => s)

/-- The site's port leaves service, or is asked to (R280). -/
def State.leaving (s : State) (p : Nat) : Bool := !s.inService p || s.withdrawing.any (fun x => x.1 == p)

/-- 256 ns into frame F the site's clocks are gated (Table 11.2); a withdrawal of its port that began before cancels the change (R280). -/
def execFreqChangeGate (site : Nat) (s : State) : Out :=
  let q := s.site site
  .next (match q.freq with
    | some { target := t, frame := some n, gated := false, restarted := r, later := l } =>
      if s.time < 512 * n + 256 then s
      else if s.leaving site then s.setSite site { q with freq := none }
      else s.setSite site { q with gated := true, freq := some { target := t, frame := some n, gated := true, restarted := r, later := l } }
    | _ => s)

/-- From 286 ns the selector moves and the new clock restarts (Table 11.2), the rail being lowered after a fall; a new PLL without lock
cancels the change, and the old clock restarts (R280). -/
def execFreqChangeRestart (site : Nat) (locked : Bool) (s : State) : Out :=
  let q := s.site site
  .next (match q.freq with
    | some { target := t, frame := some n, gated := true, restarted := false, later := l } =>
      let old := s.obj .C0B06 site
      if s.time < 512 * n + 286 then s
      else if !locked then
        (s.setSite site { q with gated := false, freq := none }).raise evDiePllUnlock site [site, 1 - q.pll]
      else
        let q := { q with gated := false, pll := 1 - q.pll, freq := some { target := t, frame := some n, gated := true, restarted := true, later := l }
                          rampTo := if t < old then some (vcoreMv t, s.time + rampTime (vcoreMv old) (vcoreMv t)) else q.rampTo }
        (((s.setSite site q).setObj .C0B06 site t).bump .C0B07 site 1).raise evFreqChanged site [site, old, t, n]
    | _ => s)

/-- At frame F + 4 grants resume (R278); a request that waited begins (R280). -/
def execFreqChangeResume (site : Nat) (s : State) : Out :=
  let q := s.site site
  .next (match q.freq with
    | some { target := _, frame := some n, gated := _, restarted := true, later := l } =>
      if s.frameNo < n + 4 then s
      else
        let s := s.setSite site { q with freq := none }
        match l with
        | some m => s.requestFreq site m
        | none => s
    | _ => s)

/-! ### Monitors (R281, R282) -/

/-- One of a tile's 4 replica paths reports its margin in 10 ps steps: below 1 step the die stretches its cycles, until every margin is
2 steps or more. -/
def execReplicaMarginLow (site tile path margin : Nat) (s : State) : Out :=
  let q := s.site site
  let rest := q.lowPaths.filter (fun e => e != (tile, path))
  let low := if margin < 2 then (tile, path) :: rest else rest
  .next (if !q.powered ∨ 54 ≤ tile ∨ 4 ≤ path then s
    else s.setSite site { q with lowPaths := low
                                 stretchSince := if low.isEmpty then none else if margin < 1 then q.stretchSince.or (some s.time) else q.stretchSince })

/-- Stretching has lasted longer than 10 µs (R281): REPLICA_SLOW, with a slow path's tile and the stretched cycles of C.0B08, and a
request 100 MHz lower, at most once per millisecond. -/
def execReplicaSlow (site : Nat) (s : State) : Out :=
  let q := s.site site
  let tile := (q.lowPaths.head?.map (fun e => e.1)).getD 0
  let stretched := s.obj .C0B08 site
  .next (match q.stretchSince with
    | some t =>
      if t + 10000 < s.time ∧ dueEvent q.slowAt s.time 1000000 then
        ((s.setSite site { q with slowAt := some s.time }).raise evReplicaSlow site [site, tile, stretched]).requestFreq site (s.obj .C0B06 site - 100)
      else s
    | none => s)

/-- Four ticks are missing: the island ticks from its oscillator, and each lost tick still counts 40 ns (R282). -/
def execCrystalLost (trimAge : Nat) (s : State) : Out :=
  .next (if bitGet (s.obj .C0B0B 0) 0 then s
    else ((({ s with time := s.time + 160 } : State).setBit .C0B0B 0 0 true).setBit .C0B0B 0 1 true).raise evClkXtalLost noSubject [trimAge])

/-- The duplicate spine PLL takes over (R282): 0 A, 1 B. -/
def execSpinePllUnlock (s : State) : Out :=
  let b := bitGet (s.obj .C0B0B 0) 2
  .next ((s.setBit .C0B0B 0 2 (!b)).raise evBasePllSwitch noSubject [if b then 0 else 1])

/-- A die PLL or the die reference loses lock (R282): clocks gated, the die stopped as for a trap, reported to the control unit. -/
def execDiePllUnlock (site pll : Nat) (s : State) : Out :=
  .next (if !(s.site site).powered then s
    else (((s.stopDie site).setSite site { (s.stopDie site).site site with gated := true }).raise evDiePllUnlock site [site, pll]).siteReport site
      (BitVec.ofNat 448 (4 + 2 ^ 8 * evDiePllUnlock)))

/-- A field's time base is lost (R282): its ports are withdrawn abruptly. -/
def execFieldTimeBaseLoss (field diff : Nat) (s : State) : Out :=
  .next (((([2 * field, 2 * field + 1].filter (fun p => !isDark p)).foldl (fun s p => s.abrupt p false) s)).raise evTimeSkew field [field, diff])

/-- The receiving headgate loses a bundle's clock (R282): the bundle is in recovery until a slot of it is received with lock again; slots
lost are retried. -/
def execBundleClockLoss (port plane : Nat) (s : State) : Out :=
  .next (({ s with clockLost := (port, plane) :: s.clockLost.filter (fun e => e != (port, plane)) }).breach port 1)

/-! ### PTP (R283 to R285) -/

/-- The boundary clock sends on a port that is up (R283): a Sync every 2⁻⁷ s, but on the port toward its master, and a delay request
every second: Pdelay_Req on a torus link, Delay_Req on a commons port toward the master. -/
def execPtpSyncSend (ptpPort : Nat) (s : State) : Out :=
  let toMaster := decide (s.ptp.master = some ptpPort)
  let due (m : AMap Nat Nat) (every : Nat) : Bool := match m.find? (fun e => e.1 == ptpPort) with
    | some (_, t) => decide (t + every ≤ s.time)
    | none => true
  .next (if !s.ptpUp ptpPort then s
    else
      let s := if toMaster || !due s.ptp.syncAt 7812500 then s
        else ({ s with ptp := { s.ptp with syncAt := mapSet s.ptp.syncAt ptpPort s.time } } : State).send (.ptp ptpPort 0 s.time (s.obj .C0B04 0))
      if (decide (24 ≤ ptpPort) && !toMaster) || !due s.ptp.delayAt 1000000000 then s
      else ({ s with ptp := { s.ptp with delayAt := mapSet s.ptp.delayAt ptpPort s.time } } : State).send (.ptp ptpPort (if ptpPort < 24 then 3 else 2) s.time (s.obj .C0B04 0)))

/-- The clock that this panel offers, as the best master clock algorithm compares clocks (R283): C.0B03, clockClass 248, and the EUI-64 formed
from IOD0's torus MAC address (with FF-FE in the middle). -/
def State.ownClock (s : State) : Nat :=
  let m := torusMac (s.obj .F0900 0) 0
  clockOrder (s.obj .C0B03 0) 248 (2 ^ 40 * (m / 2 ^ 24) + 0xFFFE * 2 ^ 24 + m % 2 ^ 24)
where
  /-- A clock's place in the order of the algorithm: the lowest is best. -/
  clockOrder (priority clockClass identity : Nat) : Nat := 2 ^ 72 * priority + 2 ^ 64 * clockClass + identity

/-- An Announce (R283): the algorithm takes the best clock heard, when it is better than the panel's own, and otherwise makes this panel the
grandmaster. -/
def State.announced (s : State) (port v : Nat) : State :=
  let fromMaster := decide (s.ptp.master = some port)
  if v < s.ownClock then
    if fromMaster then { s with ptp := { s.ptp with gm := v, lastAnnounce := s.time } }
    else if s.ptp.master.isNone || decide (v < s.ptp.gm) then
      ({ s with ptp := { s.ptp with master := some port, gm := v, lastAnnounce := s.time, good := 0 } } : State).ptpEnter ptpConverging
    else s
  else if fromMaster || s.ptp.master.isNone then
    ({ s with ptp := { s.ptp with master := none, good := 0, lastAnnounce := s.time } } : State).ptpEnter ptpGrandmaster
  else s

/-- A Sync from the master (R285): 16 in succession within 20 ns align the panel. -/
def State.ptpSync (s : State) (offset : Int) : State :=
  let s := s.setObj .C0B02 0 (BitVec.ofInt 32 offset).toNat
  let good := if offset.natAbs ≤ 20 then min 16 (s.ptp.good + 1) else 0
  let s := { s with ptp := { s.ptp with good := good } }
  if 16 ≤ good then s.ptpEnter ptpAligned
  else if good = 0 ∧ s.obj .C0B00 0 = ptpAligned then s.ptpEnter ptpConverging else s

/-- At start-up stage 6 the first Sync from the master sets the time counter, once (R284, R392): the offset, this panel's time less the master's,
leaves it; after a warm start only a set that moves it forward is applied. -/
def State.ptpSet (s : State) (offset : Int) : State :=
  if s.startup.stage ≠ 6 ∨ s.ptp.set ∨ (s.startup.warm ∧ 0 < offset) then s
  else
    let moved (t : Nat) : Nat := ((t : Int) - offset).toNat
    { s with time := moved s.time, ptp := { s.ptp with set := true, lastAnnounce := moved s.ptp.lastAnnounce }
             startup := { s.startup with started := moved s.startup.started } }

/-- A PTP message of the panel's domain (C.0B04) on a port that is up (R283): a Sync from the master drives the servo, its offset corrected by the link's fibre asymmetry
(C.0B0A, R285); an Announce drives the best master clock algorithm; a delay request is answered. -/
def execPtpMessageReceive (ptpPort kind : Nat) (offset : Int) (priority clockClass identity domain : Nat) (s : State) : Out :=
  .next (if !s.ptpUp ptpPort || domain != s.obj .C0B04 0 then s
    else
      let s := s.ptpPorts
      let offset := offset - (if ptpPort < 24 then (BitVec.ofNat 16 (s.obj .C0B0A ptpPort)).toInt else 0) / 1000
      if kind = 0 then (if s.ptp.master = some ptpPort then (s.ptpSync offset).ptpSet offset else s)
      else if kind = 1 then s.announced ptpPort (State.ownClock.clockOrder (priority % 2 ^ 8) (clockClass % 2 ^ 8) (identity % 2 ^ 64))
      else if kind = 2 ∧ 24 ≤ ptpPort ∨ kind = 3 ∧ ptpPort < 24 then s.send (.ptp ptpPort (kind + 2) s.time (s.obj .C0B04 0))
      else s)

/-- No Announce for 3 s (R283, R285): an aligned panel has lost its master and holds over; any other with a PTP port up becomes
grandmaster. -/
def execAnnounceTimeout (s : State) : Out :=
  .next (if s.time < s.ptp.lastAnnounce + 3000000000 then s
    else
      let s := s.ptpPorts
      if s.obj .C0B00 0 = ptpAligned then s.masterLost
      else if s.obj .C0B00 0 = ptpConverging then ({ s with ptp := { s.ptp with master := none } }).ptpEnter ptpGrandmaster else s)

/-- After 1 s of holdover the state returns to converging (R285). -/
def execHoldoverEnd (s : State) : Out :=
  .next (if s.obj .C0B00 0 = ptpHoldover ∧ s.ptp.holdSince + 1000000000 ≤ s.time then s.ptpEnter ptpConverging else s)

/-- A repowered zone's repeaters have realigned (R286): when every field of it reads within ±1.5 ns, its ports may be restored. -/
def execZoneRealignDone (zone : Nat) (skews : List (Nat × Nat)) (s : State) : Out :=
  let mine := skews.filter (fun e => (zoneFields zone).contains e.1)
  let s := mine.foldl (fun s e => s.setObj .C0B09 e.1 (ratF32 e.2 1000)) s
  .next (if !((zoneFields zone).all (fun f => match mine.find? (fun e => e.1 == f) with
      | some e => decide (e.2 ≤ 1500)
      | none => true)) then s
    else { s with power := { s.power with realigning := s.power.realigning.filter (fun z => z != zone) } })

end Sys2Proof.Machine
end

