-- ==== Sys2Proof/Machine/Aes.lean ====
section
/-!
DEFINITION. AES-256 in Galois/counter mode, by which a plan image's sections are sealed (R181, R183). The spec names the standard and the
standard defines it (log 8). Byte strings are lists of bytes, first byte first.
-/

namespace Sys2Proof.Machine

/-! ### The block cipher -/

/-- Multiply by x in GF(2⁸) with x⁸ + x⁴ + x³ + x + 1. -/
def xtime (a : BitVec 8) : BitVec 8 := if a.getLsbD 7 then (a <<< 1) ^^^ 0x1B#8 else a <<< 1

/-- Product in that field. -/
def aesMul (a b : BitVec 8) : BitVec 8 :=
  ((List.range 8).foldl (fun (acc : BitVec 8 × BitVec 8) i => (if b.getLsbD i then acc.1 ^^^ acc.2 else acc.1, xtime acc.2)) (0#8, a)).1

/-- a²⁵⁴: the inverse, 0 for 0. -/
def aesInv (a : BitVec 8) : BitVec 8 :=
  let sq (x : BitVec 8) : BitVec 8 := aesMul x x
  let p2 := sq a
  let p4 := sq p2
  let p8 := sq p4
  let p16 := sq p8
  let p32 := sq p16
  let p64 := sq p32
  [p4, p8, p16, p32, p64, sq p64].foldl aesMul p2

/-- The byte substitution. -/
def subByte (a : BitVec 8) : BitVec 8 :=
  let b := aesInv a
  b ^^^ b.rotateLeft 1 ^^^ b.rotateLeft 2 ^^^ b.rotateLeft 3 ^^^ b.rotateLeft 4 ^^^ 0x63#8

def xorBytes (a b : List (BitVec 8)) : List (BitVec 8) := List.zipWith (fun x y => x ^^^ y) a b

/-- The round constants, by the number of the eight-word group. -/
def roundConst (n : Nat) : BitVec 8 := (List.range n).foldl (fun a _ => xtime a) 1#8

/-- The next of the 60 words of the key schedule from the words so far, newest first. -/
def nextKeyWord (n : Nat) (words : List (List (BitVec 8))) : List (BitVec 8) :=
  let last := words.headD []
  let t := if n % 8 = 0 then xorBytes (((last.drop 1) ++ last.take 1).map subByte) [roundConst (n / 8 - 1), 0#8, 0#8, 0#8]
    else if n % 8 = 4 then last.map subByte else last
  xorBytes (words.getD 7 []) t

/-- The 15 round keys of a 32-byte key. -/
def roundKeys (key : List (BitVec 8)) : List (List (BitVec 8)) :=
  let first := ((List.range 8).map (fun i => (key.drop (4 * i)).take 4)).reverse
  let words := ((List.range 52).foldl (fun w i => nextKeyWord (8 + i) w :: w) first).reverse
  (List.range 15).map (fun r => ((words.drop (4 * r)).take 4).flatten)

/-- Row r of the state turns left by r places; byte i stands in row i mod 4, column i / 4. -/
def shiftRows (b : List (BitVec 8)) : List (BitVec 8) := (List.range 16).map (fun i => b.getD ((i + 4 * (i % 4)) % 16) 0)

/-- Each column times the polynomial 3x³ + x² + x + 2. -/
def mixColumns (b : List (BitVec 8)) : List (BitVec 8) :=
  (List.range 16).map (fun i =>
    let at' (k : Nat) : BitVec 8 := b.getD (i / 4 * 4 + (i + k) % 4) 0
    xtime (at' 0) ^^^ (xtime (at' 1) ^^^ at' 1) ^^^ at' 2 ^^^ at' 3)

/-- One block of 16 bytes. -/
def aesBlock (keys : List (List (BitVec 8))) (block : List (BitVec 8)) : List (BitVec 8) :=
  let mid := ((keys.drop 1).take 13).foldl (fun b k => xorBytes (mixColumns (shiftRows (b.map subByte))) k) (xorBytes block (keys.headD []))
  xorBytes (shiftRows (mid.map subByte)) (keys.getD 14 [])

/-! ### Galois/counter mode -/

/-- A block as a big-endian number, and back. -/
def blockNum (b : List (BitVec 8)) : Nat := b.foldl (fun n x => 256 * n + x.toNat) 0
def numBlock (n : Nat) : List (BitVec 8) := (List.range 16).map (fun i => BitVec.ofNat 8 (n / 2 ^ (8 * (15 - i))))

/-- Product in GF(2¹²⁸), the first bit of a block being the coefficient of x⁰. -/
def ghashMul (a b : BitVec 128) : BitVec 128 :=
  ((List.range 128).foldl (fun (acc : BitVec 128 × BitVec 128) i =>
    (if b.getLsbD (127 - i) then acc.1 ^^^ acc.2 else acc.1,
     if acc.2.getLsbD 0 then (acc.2 >>> 1) ^^^ (0xE1#128 <<< 120) else acc.2 >>> 1)) (0#128, a)).1

/-- Blocks of 16 bytes, the last filled with zeros. -/
def blocksOf : Nat → List (BitVec 8) → List (List (BitVec 8))
  | 0, _ => []
  | n + 1, l => if l.isEmpty then [] else ((l.take 16) ++ List.replicate (16 - (l.take 16).length) 0#8) :: blocksOf n (l.drop 16)

/-- The tag over a ciphertext without additional data, for a 12-byte initial vector. -/
def gcmTag (key iv cipher : List (BitVec 8)) : List (BitVec 8) :=
  let keys := roundKeys key
  let h := BitVec.ofNat 128 (blockNum (aesBlock keys (List.replicate 16 0#8)))
  let blocks := blocksOf cipher.length cipher ++ [numBlock (8 * cipher.length)]
  let y := blocks.foldl (fun y b => ghashMul (y ^^^ BitVec.ofNat 128 (blockNum b)) h) 0#128
  xorBytes (numBlock y.toNat) (aesBlock keys (iv ++ [0#8, 0#8, 0#8, 1#8]))

/-- The plaintext: the ciphertext XOR the encrypted counters from 2 on. -/
def gcmOpen (key iv cipher : List (BitVec 8)) : List (BitVec 8) :=
  let keys := roundKeys key
  (((blocksOf cipher.length cipher).zipIdx.map (fun p =>
    xorBytes p.1 (aesBlock keys (iv ++ ((List.range 4).map (fun i => BitVec.ofNat 8 ((p.2 + 2) / 2 ^ (8 * (3 - i))))))))).flatten).take cipher.length

end Sys2Proof.Machine
end

