-- ==== Sys2Proof/Machine/Messages.lean ====
section
/-!
DEFINITION. Serving messages as bytes (R158, Tables 7.1 and 7.2): the header and body of what the panel sends, and what a message from the
host says.
-/

namespace Sys2Proof.Machine

/-- The header of a serving message (Table 7.1). -/
def servingHead (type : Nat) (c : Code) (len stream value : Nat) : BitVec 128 :=
  BitVec.ofNat 128 (type % 2 ^ 8 + 2 ^ 8 * codeNum c + 2 ^ 16 * (len % 2 ^ 16) + 2 ^ 32 * (stream % 2 ^ 32) + 2 ^ 64 * (value % 2 ^ 64))

/-- A message of the panel (Table 7.2): TOKEN carries a U32, END a U8, STATUS nothing. -/
def servingMsg (type : Nat) (c : Code) (stream value : Nat) (body : List Nat) : Sent :=
  let bytes := body.flatMap (fun v => octets (if type = 6 then 1 else 4) v)
  .serving (servingHead type c bytes.length stream value) bytes

/-- A little-endian number of n bytes of a body. -/
def bodyNum (body : List (BitVec 8)) (off n : Nat) : Nat := octetsNum ((body.drop off).take n)

/-- The length of a body fits its type (R158, Table 7.2), and the type is one that a host sends. -/
def servingFits (head : BitVec 128) (body : List (BitVec 8)) : Bool :=
  let n := body.length
  fld head 16 16 == n && decide (n ≤ 4080) &&
    (if fld head 0 8 = 1 then decide (48 ≤ n) && n == 48 + 2 * bodyNum body 2 2 else if fld head 0 8 = 2 then n % 4 == 0
      else fld head 0 8 == 4 && n == 0)

/-- The command that a host's message is: ADMIT, PROMPT, CANCEL, or one that is not known. What only other panels know comes beside it:
whether the mirror holder has made its reserve (R178), and whether the stream's admission is complete (R156). -/
def servingIn (head : BitVec 128) (body : List (BitVec 8)) (mirrorOk complete : Bool) : Instr :=
  let stream := fld head 32 32
  let value := fld head 64 64
  if !servingFits head body then .unknownServingMessage head body
  else if fld head 0 8 = 1 then
    .admitStream stream value (bodyNum body 0 2) (bodyNum body 4 4) (bodyNum body 8 4) (bodyNum body 12 1 % 2 == 1) (bodyNum body 16 32)
      ((List.range (bodyNum body 2 2)).map (fun i => bodyNum body (48 + 2 * i) 2 % 2 ^ 15)) mirrorOk
  else if fld head 0 8 = 2 then .prompt stream value ((List.range (body.length / 4)).map (fun i => bodyNum body (4 * i) 4))
  else .cancel stream complete

end Sys2Proof.Machine
end

