-- ==== Sys2Proof/Machine/Sieve.lean ====
section
/-!
DEFINITION. The sieve (R168 to R173): the select step, scoring, the list and the gather; and the completion of tags (R51, R61, R63).
-/

namespace Sys2Proof.Machine

/-! ### The step (Table 3.11) and its descriptor (Table 7.5) -/

def svVaddr (w : StepWord) : Nat := fld w 38 25
def svBlocks (w : StepWord) : Nat := fld w 63 16 + 1
def svSel (w : StepWord) : Nat := fld w 79 10
def svFirst (w : StepWord) : Nat := fld w 89 6
def svRecent (w : StepWord) : Nat := fld w 95 6
def svTag (w : StepWord) : Nat := fld w 121 5

/-- C of R170. -/
def svEntries (w : StepWord) : Nat := svSel w + svFirst w + svRecent w + 1

/-- A sieve descriptor (Table 7.5). -/
structure SieveDesc where
  kvbase : Nat
  bunits : Nat
  win : Nat
  wtile : Nat
  wn : Nat
  bias : Nat
  pwp : Nat
deriving DecidableEq, Repr

def sieveDesc (v : Nat) : SieveDesc :=
  let b := BitVec.ofNat 256 v
  { kvbase := fld b 0 25, bunits := fld b 25 17, win := fld b 42 17, wtile := fld b 59 6, wn := fld b 65 6
    bias := fld b 71 17, pwp := fld b 88 6 }

/-- The descriptor of a sieve step (R171): the n-th in its tile's list, counted in list order, uses descriptor (tile, n). -/
def State.sieveDescOf (s : State) (site tl index : Nat) : Option SieveDesc :=
  let wt := (s.tile site tl).waveType
  s.plan.image.bind (fun p =>
    let n := ((p.sieveAt.find? (fun e => e.1 == (wt, tl))).map (fun e => (e.2.takeWhile (fun i => i != index)).length)).getD 0
    ((p.sieve.find? (fun e => e.1 == (wt, tl, n))).map (fun e => sieveDesc e.2)))

/-- A SIEVE_SELECT reads its query, writes its list, reads its summary table, and takes a tag; its breach (Table 3.11). -/
def sieveShape (t : Tile) (w : StepWord) : Shape :=
  { queue := 14, entry := some (.tag (svTag w)), reads := [{ base := t.ea w 18, len := 2 }]
    writes := [{ base := t.ea w 101, len := ceilDiv (2 * svEntries w) 32 }]
    vault := some (svVaddr w, svBlocks w + 1), tag := some (svTag w)
    bad := if 512 < svSel w then some (trStepField, 79) else none }

/-- SIEVE_SELECT opens its tag and joins the die's sieve, which serves steps in order of arrival (R51, R173). -/
def execSieveSelect (site tile : Nat) (w : StepWord) (s : State) : Out :=
  let t := s.tile site tile
  let i := t.pc
  .next (s.issue site tile 9 0 w (sieveShape t w) (i + 1) (fun s =>
      let t := s.tile site tile
      let p := s.site site
      let pass := mapGet 0 t.sievePass i
      (s.setTile site tile { (t.openTag (svTag w) (.sieve w (t.ea w 18) (t.ea w 101) i pass)) with
          sievePass := mapSet t.sievePass i (pass + 1) }).setSite site { p with sieveQ := p.sieveQ ++ [(tile, svTag w)] }))

/-! ### Scoring and the list (R169, R170, R172) -/

/-- A summary table's header (Table 7.4). -/
structure SumHead where
  sbase : Nat
  held : Nat
  scored : Nat
  n : Nat
  pos : Nat
  head : Bool
deriving DecidableEq, Repr

def sumHead (b : BitVec 256) : SumHead :=
  { sbase := fld b 0 32, held := fld b 32 16, scored := fld b 48 16, n := fld b 64 7, pos := fld b 71 7, head := bit b 78 }

/-- The query projection: 64 E4M3 values (R169). -/
def State.sieveQuery (s : State) (site tl : Nat) (sat : Bool) (q : Nat) : List Fv :=
  (List.range 64).map (fun d => s.elem site tl sat .e4m3 q d)

/-- Σ_d Q_d × s_d in units of 2⁻⁹, the least E4M3 step: exact (R169). -/
def sieveScore (q : List Fv) (summary : BitVec 256) : Int :=
  (q.zipIdx.map (fun p => (match p.1 with
    | .fin n m e => (if n then -1 else 1) * (m : Int) * 2 ^ (e + 9).toNat
    | _ => 0) * (summary.extractLsb' (4 * p.2) 4).toInt)).sum

/-- Local block i belongs to the first set, or to the recent set (R169). -/
def inFirst (h : SumHead) (w : StepWord) (i : Nat) : Bool := decide (h.sbase + i * h.n + h.pos < svFirst w)
def inRecent (h : SumHead) (w : StepWord) (i : Nat) : Bool := h.head && decide (h.held ≤ i + svRecent w)

/-- A block that the step must list (R169). -/
def mandatory (h : SumHead) (w : StepWord) (i : Nat) : Bool := inFirst h w i || inRecent h w i || decide (h.scored ≤ i)

/-- Insert a scored block before those it beats: higher score, then lower index. -/
def insertScore (x : Int × Nat) : List (Int × Nat) → List (Int × Nat)
  | [] => [x]
  | y :: r => if y.1 < x.1 then x :: y :: r else y :: insertScore x r

/-- The mandatory blocks that find an entry, in the order of R170 when there are too many. -/
def keepMandatory (h : SumHead) (w : StepWord) (m : List Nat) : List Nat :=
  let c := svEntries w
  if m.length ≤ c then m
  else ((m.filter (inFirst h w) ++ (m.filter (fun i => !inFirst h w i && inRecent h w i)).reverse ++
    (m.filter (fun i => !inFirst h w i && !inRecent h w i)).reverse)).take c

/-- The blocks a step lists, in increasing order, and how many are mandatory (R169, R170). -/
def sieveList (h : SumHead) (w : StepWord) (q : List Fv) (summary : Nat → Cell32) : List Nat × Nat :=
  let all := List.range h.held
  let m := all.filter (mandatory h w)
  let bad := q.contains .poison || q.contains .nan
  let scored := if bad then [] else (all.filter (fun i => !mandatory h w i && decide (i < min (svBlocks w) h.scored) && !(summary i).mark))
  let ranked := scored.foldl (fun l i => insertScore (sieveScore q (summary i).data, i) l) []
  let chosen := (ranked.take (min (svSel w) (svEntries w - m.length))).map (fun p => p.2)
  let kept := keepMandatory h w m
  (all.filter (fun i => kept.contains i || chosen.contains i), m.length)

/-! ### The gather (R171) -/

/-- The units of a listed block: the tile that owns its column, and the vault address of each. -/
def blockUnits (d : SieveDesc) (i : Nat) : List (Nat × Nat) := (List.range d.bunits).map (fun u => (i % 48, d.kvbase + i / 48 * d.bunits + u))

/-- The bias words of a window tile: +0 for a filled place and −2⁶⁴ for an empty one (R171). -/
def biasWords (d : SieveDesc) (entries filled k : Nat) : List Nat :=
  ((List.range entries).filter (fun j => j % (d.wn + 1) == k)).map (fun j => if j < filled then 0 else 0xDF800000)

/-- The listed blocks of a step and how many are mandatory (R169, R170); in a pass of the plain mode the next C held blocks (R172). -/
def State.sieveBlocks (s : State) (site tl : Nat) (w : StepWord) (q pass : Nat) (ue : List Nat) : List Nat × Nat :=
  let table := s.vaultUnits site tl (svVaddr w) (svBlocks w + 1) ue
  let h := sumHead (table.headD default).data
  let c := svEntries w
  if s.obj .X0703 0 = 0 then sieveList h w (s.sieveQuery site tl (s.tile site tl).sat q) (fun i => table.getD (i + 1) default)
  else (((List.range h.held).drop (pass * c)).take c, 0)

/-- The units that a step gathers: the tile that owns each, and its vault address. -/
def State.sieveUnits (s : State) (site tl : Nat) (w : StepWord) (q index pass : Nat) (ue : List Nat) : List (Nat × Nat) :=
  match s.sieveDescOf site tl index with
  | none => []
  | some d => ((s.sieveBlocks site tl w q pass ue).1.map (blockUnits d)).flatten

/-- What the sieve does for a step: the list is written, the listed blocks are copied to their window places with their marks,
the biases are written; it answers the tag's code. Among `ue`, places below the table's length are units of the summary table, the following
ones gathered units, that ECC finds uncorrectable (R102); `ce` symbols corrected count at the table's layer. -/
def State.runSieve (s : State) (site tl : Nat) (w : StepWord) (q list index pass : Nat) (ue : List Nat) (ce : Nat) (ecc : Ecc) : State × Code :=
  let s := s.storeEcc site tl (inRegions [{ base := q, len := 2 }]) ecc
  let t := s.tile site tl
  let n := svBlocks w + 1
  let head := (s.vaultUnits site tl (svVaddr w) 1 ue).headD default
  let qs := s.sieveQuery site tl t.sat q
  let c := svEntries w
  let on := s.obj .X0703 0 == 0
  let (blocks, m) := s.sieveBlocks site tl w q pass ue
  let units := s.sieveUnits site tl w q index pass ue
  let desc := s.sieveDescOf site tl index
  let s := s.vaultRead site tl (svVaddr w) n ue ce
  let free := s.freeCount
  let s := { s with freeCount := free + 1 }
  let words := blocks ++ List.replicate (c - blocks.length) 0xFFFF
  let s := (s.arrive site tl list (packUnits 2 words (fun u => Config.padding free u))).1
  let layer := ((s.plan.image.bind (fun p => (p.waveTypes.find? (fun e => e.1 == t.waveType)).map (fun e => e.2.1))).getD 0)
  let stack := (s.stackOf site).getD 0
  let s := if on ∧ c < m then s.raise evSieveOverflow site [stack, tl, m, c] else s
  let s := if on ∧ qs.contains .nan ∧ ¬ qs.contains .poison then s.raise evSieveInput site [stack, tl, layer] else s
  let code0 : Code := if head.mark || (on && qs.contains .poison) then .poisoned else .ok
  match desc with
  | none => (s, code0)
  | some d =>
    let cells := units.zipIdx.map (fun p => (s.vaultUnits site p.1.1 p.1.2 1 (if ue.contains (n + p.2) then [0] else [])).headD default)
    let s := (units.zipIdx.filter (fun p => ue.contains (n + p.2))).foldl (fun s p => s.dramUe site p.1.1 p.1.2) s
    let s := (blocks.zipIdx).foldl (fun s p =>
      (s.arrive site (d.wtile + p.2 % (d.wn + 1)) (d.win + p.2 / (d.wn + 1) * d.bunits) ((cells.drop (p.2 * d.bunits)).take d.bunits)).1) s
    let s := (List.range (d.wn + 1)).foldl (fun s k =>
      (s.arrive site (d.wtile + k) d.bias (packUnits 4 (biasWords d c blocks.length k) (fun u => Config.padding free (4096 * (k + 1) + u)))).1) s
    (s, if anyMark cells then .poisoned else code0)

/-! ### Tags complete (R51) -/

/-- The step whose turn it is at the die's sieve (R173). -/
def State.sieveTurn (s : State) (site : Nat) : Option (Nat × Nat) :=
  (s.site site).sieveQ.find? (fun e => (s.tile site e.1).async.any (fun p => p.1 == e.2 && (match p.2 with | .sieve .. => true | _ => false)))

/-- The vertical channel of a tile serves a load or store now (R92, R94, R95): it is the tile's first, its column serves, and its first
access has found its bank free. -/
def State.verticalNow (s : State) (site tl tag first : Nat) : Bool :=
  decide ((s.tile site tl).firstVertical = some tag) && s.colServes site tl && decide (first ≤ s.time)

/-- While the tile clock is stopped a load fills the column's 8-KiB buffer (R96): 256 units, which the tile takes when its clock runs. -/
def State.bufferLoad (s : State) (site tl tag v n : Nat) (ue : List Nat) (ce : Nat) : State :=
  let c := s.col site tl
  let k := min n 256
  if c.buf.isSome then s
  else
    let l := s.vaultUnits site tl v k ue
    let s := s.vaultRead site tl v k ue ce
    s.setCol site tl { s.col site tl with buf := some (tag, l) }

/-- A load ends: what the column has buffered, and the rest as it is read now, stand in the tile store. -/
def State.endLoad (s : State) (site tl tag u v n : Nat) (ue : List Nat) (ce : Nat) : State × Code :=
  let c := s.col site tl
  let held := match c.buf with
    | some (g, l) => if g = tag then l else []
    | none => []
  let m := n - held.length
  let rest := s.vaultUnits site tl (v + held.length) m ue
  let s := s.vaultRead site tl (v + held.length) m ue ce
  let s := if held = [] then s else s.setCol site tl { s.col site tl with buf := none }
  let l := held ++ rest
  (s.putStore site tl u l, if anyMark l then .poisoned else .ok)

/-- Every column that a sieve step gathers from serves accesses (R92, R171). -/
def State.gatherServes (s : State) (site tl : Nat) (w : StepWord) (q index pass : Nat) : Bool :=
  s.colServes site tl && (s.sieveUnits site tl w q index pass []).all (fun p => s.colServes site p.1)

/-- What finishing the operation of a busy tag does, and the code it ends with; none while it is not finished. A load or store that B4 has
refused ends ACCESS_DENIED; one under way by then finishes (R107). -/
def State.finishTag (s : State) (site tl tag : Nat) (a : AsyncOp) (ue : List Nat) (ce : Nat) (ecc : Ecc) : Option (State × Code) :=
  match a with
  | .load u v n first denied =>
    if denied then (if (s.tile site tl).firstVertical = some tag then some (s, .accessDenied) else none)
    else if !s.verticalNow site tl tag first ∨ (s.site site).gated then none
    else some (s.endLoad site tl tag u v n ue ce)
  | .store u v n first denied =>
    if denied then (if (s.tile site tl).firstVertical = some tag then some (s, .accessDenied) else none)
    else if !s.verticalNow site tl tag first ∨ (s.site site).gated then none
    else
      let s := s.storeEcc site tl (inRegions [{ base := u, len := n }]) ecc
      let l := s.getStore site tl u n
      some (s.vaultWrite site tl v l, if anyMark l then .poisoned else .ok)
  | .bid _ _ _ slots _ codes => if slots ≤ codes.length then some (s, worst codes) else none
  | .merge _ fin => fin.map (fun c => (s, c))
  | .sieve w q list index pass =>
    if s.sieveTurn site ≠ some (tl, tag) ∨ (s.site site).gated ∨ !s.gatherServes site tl w q index pass then none
    else
      let s := s.setSite site { s.site site with sieveQ := (s.site site).sieveQ.filter (fun e => e != (tl, tag)) }
      if s.band site = bandB4 then some (s, .accessDenied) else some (s.runSieve site tl w q list index pass ue ce ecc)

/-- A busy tag cannot finish yet, but a load under a stopped tile clock fills its buffer. -/
def State.fillBuffer (s : State) (site tl tag : Nat) (a : AsyncOp) (ue : List Nat) (ce : Nat) : State :=
  match a with
  | .load _ v n first denied =>
    if !denied && s.verticalNow site tl tag first && (s.site site).gated then s.bufferLoad site tl tag v n ue ce else s
  | _ => s

/-- The head's result of a stream ended with MERGE_TIMEOUT or POISONED: the stream is faulted for the wave and waits (R167). -/
def State.faultStream (s : State) (id : Nat) (c : Code) : State :=
  match s.stream id with
  | some x =>
    if x.st = .inWave ∧ x.isHead ∧ (c = .mergeTimeout ∨ c = .poisoned) then
      (s.setStream id (some { x with st := .faulted, faultedAt := s.time })).raise evStreamFaulted (id % 2 ^ 32) [x.layer, codeNum c]
    else s
  | none => s

/-- An asynchronous step has finished and its tag takes its completion code (R51). -/
def execTagComplete (site tile tag : Nat) (ueUnits : List Nat) (ce : Nat) (ecc : Ecc) (head : Option Nat) (s : State) : Out :=
  let t := s.tile site tile
  .next (match t.async.find? (fun p => p.1 == tag) with
    | none => s
    | some (_, a) =>
      match s.finishTag site tile tag a ueUnits ce ecc with
      | none => s.fillBuffer site tile tag a ueUnits ce
      | some (s', c) =>
        let s' := s'.endTag site tile tag c
        match head with
        | some id => s'.faultStream id c
        | none => s')

end Sys2Proof.Machine
end

