-- ==== Sys2Proof/Machine/Serving.lean ====
section
/-!
DEFINITION. Streams and serving messages (R152 to R159, R177 to R179), waves (R160 to R167, R176) and the plan image (R181 to R183).
-/

namespace Sys2Proof.Machine

/-! ### Plan states and the model the plan gives -/

def planNone : Nat := 0
def planLoading : Nat := 1
def planReady : Nat := 2
def planServing : Nat := 3
def planHeld : Nat := 4

/-- Mirroring is on (X.0708). -/
def State.mirrorOn (s : State) : Bool := s.obj .X0708 0 == 0

/-- Decoder layers of the plan in force. -/
def State.planLayers (s : State) : Nat := (s.plan.image.map (fun p => p.layers)).getD 0

/-- KV bytes per token over all layers of the plan in force. -/
def State.kvBytes (s : State) : Nat := (s.plan.image.map (fun p => p.kvBytes)).getD 0

/-- Bytes that reserves of blocks take (R155): 256 tokens a block. -/
def State.reserveBytes (s : State) (blocks : Nat) : Nat := blocks * 256 * s.kvBytes

/-- Bytes of KV store for the panel's own stretches (R178). -/
def State.kvOwn (s : State) : Nat := (if s.mirrorOn then 1024 else 2048) * 2 ^ 30

/-- Bytes its own streams have reserved; adopted stretches lie in the mirror region (R178, R378). -/
def State.kvUsed (s : State) : Nat := s.reserveBytes (((s.streamList.filter (fun x => x.adopted.isNone)).map (fun x => x.reserve)).sum)

/-- Show X.070D, X.0702 and X.0F07 after the set of streams has changed. -/
def State.showStreams (s : State) : State :=
  ((s.setObj .X070D 0 ((s.kvOwn - s.kvUsed) / 2 ^ 30)).setObj .X0702 0 s.streamList.length).setObj .X0F07 0
    (s.streamList.filter (fun x => x.unmirrored)).length

/-- A new stream finds its I/O die lost, so that IOD (i XOR 1) serves for it (R376). -/
def State.dieLost (s : State) (stream : Nat) : Bool := !(s.iod (streamIod stream)).powered && (s.iod (streamIod stream ^^^ 1)).powered

/-- The I/O die that a new stream uses (R165, R376). -/
def State.dieFor (s : State) (stream : Nat) : Nat := if s.dieLost stream then streamIod stream ^^^ 1 else streamIod stream

/-- The panel that serves a table entry: the adopter of a lost panel (R378). -/
def State.holderOf (s : State) (p : Nat) : Nat := ((s.recovery.lost.find? (fun e => e.1 == p)).map (fun e => e.2)).getD p

/-- A STATUS message (Table 7.2): value is the type answered. -/
def State.status (s : State) (stream type : Nat) (c : Code) : State := s.send (servingMsg 5 c (stream % 2 ^ 32) type [])

/-! ### Admission (R152 to R158, R161, R166) -/

/-- The smallest KV set size that the plan allows for a reserve (R157). -/
def kvSetOf (img : PlanImage) (reserve : Nat) : Option Nat :=
  (img.kvSizes.filter (fun n => decide (0 < n) && decide (ceilDiv reserve n ≤ img.blockLimit))).min?

/-- The replica with fewer streams (R161), either when they are equal (log 2); the one that serves while the other does not (R371). -/
def State.pickReplica (s : State) (stream : Nat) : Nat :=
  let n (r : Nat) : Nat := (s.streamList.filter (fun x => x.replica == r)).length
  if s.obj .X0F03 0 ≠ 0 ∧ s.obj .X0F03 1 = 0 then 1 else if s.obj .X0F03 1 ≠ 0 ∧ s.obj .X0F03 0 = 0 then 0
  else if n 1 < n 0 then 1 else if n 0 < n 1 then 0 else if Config.tieReplica stream s.time then 1 else 0

/-- Transit tickets and cells that a stream of more than one panel reserves on its I/O die (R166). -/
def transitNeed (img : PlanImage) (table : List Nat) : Nat × Nat :=
  if table.length ≤ 1 then (0, 0) else (img.tickets, img.tickets * img.ticketFlits)

/-- Why an ADMIT is refused, by the rule that refuses it; none when it is accepted. -/
def State.admitRefusal (s : State) (stream promptLen k sb reserve : Nat) (latency : Bool) (table : List Nat) (mirrorOk : Bool) : Option Nat :=
  match s.plan.image with
  | none => some 183
  | some img =>
    let (t, c) := transitNeed img table
    let d := s.iod (s.dieFor stream)
    if s.power.stby then some 392
    else if s.obj .X0700 0 ≠ planServing then some (if s.obj .X0700 0 = planHeld then 336 else 183)
    else if 2 ^ 32 ≤ stream ∨ 2 ^ 32 < promptLen ∨ (s.stream stream).isSome then some 152
    else if sb = 0 ∨ 65536 < sb ∨ table.length = 0 ∨ 256 < table.length ∨ ¬ table.Nodup ∨ table[k]? ≠ some s.panelId then some 153
    else if reserve = 0 ∨ sb < reserve ∨ s.kvOwn < s.kvUsed + s.reserveBytes reserve then some 155
    else if (kvSetOf img reserve).isNone then some 157
    else if s.mirrorOn && !mirrorOk then some 178
    else if 2048 < d.resTickets + t ∨ 16384 < d.resCells + c then some 166
    else if latency && decide (s.obj .X070C 0 < (s.streamList.filter (fun x => x.latency)).length + 1) then some 185
    else none

/-- Prompt tokens of a holder's own stretch (R153, R177). -/
def Stream.ownPrompt (x : Stream) : Nat := min x.promptLen ((x.k + 1) * x.sb * 256) - x.k * x.sb * 256

/-- The first stream counter of its I/O die that no stream uses (R175). -/
def State.freeCounter (s : State) (iod : Nat) : Nat :=
  ((List.range 8192).map (fun i => 8192 + i)).find? (fun c =>
    !(s.streamList.any (fun x => streamIod x.id / 2 == iod / 2 && x.counter == c))) |>.getD 8192

/-- An input is kept while no unit acts on it, for the next to take up (R350, R355); before start-up stage 4 nothing listens (R413). -/
def State.keep (s : State) (c : Instr) : State := if s.startup.stage < 4 then s else { s with kept := s.kept ++ [c] }

/-- The first place among the summary tables, and the first numbers of transit tickets on an I/O die, that no admitted stream has (the model's
own allocation: log 9). -/
def State.freePlace (s : State) : Nat :=
  ((List.range (s.streamList.length + 1)).find? (fun n => !s.streamList.any (fun x => x.place == n))).getD 0
def State.freeTickets (s : State) (iod n : Nat) : Nat :=
  let used (b : Nat) : Bool := s.streamList.any (fun x => streamIod x.id / 2 == iod / 2 && decide (x.ticketBase < b + n) && decide (b < x.ticketBase + n))
  (((List.range (s.streamList.length + 1)).map (fun k => k * n)).find? (fun b => !used b)).getD 0

/-- The panel whose mirror holder this panel is: its X− neighbour, if it is another panel (R178). -/
def State.mirrorOwner (s : State) : Option Nat := if s.neighbour s.panelId 1 = s.panelId then none else some (s.neighbour s.panelId 1)

/-- Bytes reserved in the mirror region (R178). -/
def State.mirrorUsed (s : State) : Nat := s.reserveBytes ((s.recovery.mirrorRes.map (fun e => e.2)).sum)

/-- The X− neighbour asks for a reserve in the mirror region (R178): made when it fits the 1,024 GiB, else refused with ACCESS_DENIED. -/
def State.reserveMirror (s : State) (panel stream reserve : Nat) : State :=
  if reserve = 0 ∨ ¬ s.mirrorOn ∨ 2 ^ 40 < s.mirrorUsed + s.reserveBytes reserve then s.send (.mirrorAnswer panel stream .accessDenied)
  else ({ s with recovery := { s.recovery with mirrorRes := mapSet s.recovery.mirrorRes stream reserve } }).send (.mirrorAnswer panel stream .ok)

/-- The mirror region's reserve for a stream is free again (R156, R159, R178). -/
def State.freeMirror (s : State) (stream : Nat) : State :=
  if s.recovery.mirrorRes.any (fun e => e.1 == stream) then
    { s with recovery := { s.recovery with mirrorRes := mapDel s.recovery.mirrorRes stream } }
  else s

/-- A holder reserves its blocks and transit tickets and answers STATUS with OK, or refuses with ACCESS_DENIED and STREAM_REFUSED, which
names the I/O die for want of transit tickets. An ADMIT that names the X− neighbour at entry k is that panel's request for the reserve in the
mirror region (R178; log 9). While no unit acts the message waits with its sender (R350, R355). -/
def execAdmitStream (stream promptLen k sb reserve : Nat) (latency : Bool) (sampling : Nat) (table : List Nat) (mirrorOk : Bool) (s : State) : Out :=
  .next (if !s.cuActs 1 then s.keep (.admitStream stream promptLen k sb reserve latency sampling table mirrorOk)
    else if s.mirrorOwner.isSome ∧ table[k]? = s.mirrorOwner then s.reserveMirror (table.getD k 0) stream reserve
    else match s.admitRefusal stream promptLen k sb reserve latency table mirrorOk with
    | some r => (s.status stream 1 .accessDenied).raise evStreamRefused stream [codeNum .accessDenied, r, if r = 166 then s.dieFor stream else 0]
    | none =>
      let img := s.plan.image
      let (t, c) := (img.map (fun p => transitNeed p table)).getD (0, 0)
      let d := s.iod (s.dieFor stream)
      let x : Stream := {
        id := stream, k := k, sb := sb, reserve := reserve, latency := latency, sampling := sampling, table := table
        replica := s.pickReplica stream, kvSet := (img.bind (fun p => kvSetOf p reserve)).getD 0, promptLen := promptLen, prompt := []
        prefilled := 0, position := promptLen, lastToken := 0, delivered := 0, st := .admitted, layer := 0, readyAt := s.time
        admittedAt := s.time, touched := false, cancelled := false, isHead := (promptLen - 1) / 256 / sb == k, faultedAt := 0
        counter := s.freeCounter (s.dieFor stream), mirrorSent := none, mirrorTarget := 0, unmirrored := false, adopted := none, queries := []
        ticketBase := s.freeTickets (s.dieFor stream) t, place := s.freePlace, moved := s.dieLost stream }
      let x := { x with st := if x.ownPrompt = 0 then .ready else .admitted }
      (((s.setIod (s.dieFor stream) { d with resTickets := d.resTickets + t, resCells := d.resCells + c }).setStream stream (some x)).showStreams).status
        stream 1 .ok)

/-- Show X.0F06: [14:0] the lost panel, [30:16] its adopter (R387). -/
def State.showDeclared (s : State) : State :=
  s.setObj .X0F06 0 (((s.recovery.declared.take 16).zipIdx.map (fun e => (e.1.1 + 2 ^ 16 * e.1.2) * 2 ^ (32 * e.2))).sum)

/-- The adopter removes a panel from X.0F06 once it holds no adopted stretch of it (R381). -/
def State.dropAdopted (s : State) (panel : Option Nat) : State :=
  match panel with
  | none => s
  | some p =>
    if s.streamList.any (fun x => x.adopted == some p) then s
    else (State.showDeclared { s with recovery := { s.recovery with declared := s.recovery.declared.filter (fun e => e.1 != p) } })

/-- A stream's blocks, its mirror and its transit tickets are free again; running waves have no result for it. -/
def State.dropStream (s : State) (x : Stream) : State :=
  let (t, c) := (s.plan.image.map (fun p => transitNeed p x.table)).getD (0, 0)
  let d := s.iod x.iod
  let s := s.setIod x.iod { d with resTickets := d.resTickets - t, resCells := d.resCells - c }
  let s := { s with waves := s.waves.map (fun (p : (Nat × Nat) × Option Wave) => (p.1, p.2.map (fun (w : Wave) => { w with batch := w.batch.filter (fun i => i != x.id) }))) }
  let s := if x.adopted.isSome then s.freeMirror (x.id % 2 ^ 32) else s
  (({ s with streams := mapDel s.streams x.id }).dropAdopted x.adopted).showStreams

/-- The head tells every other holder of a stream, and the mirror holders, to free its blocks (R159). -/
def State.tellFree (s : State) (x : Stream) : State :=
  let others := ((x.table.map s.holderOf) ++ (if s.mirrorOn then x.table.map (fun p => s.neighbour p 0) else [])).eraseDups
  (others.filter (fun p => p != s.panelId)).foldl (fun s p => s.send (.blocksFree p (x.id % 2 ^ 32))) s

/-- The head ends a stream with END and a reason (Table 7.2), and its blocks are freed, here and at the other holders. -/
def State.endStream (s : State) (x : Stream) (reason : Nat) (c : Code) : State :=
  (if x.isHead && !s.recovery.fenced.contains x.id then (s.send (servingMsg 6 c (x.id % 2 ^ 32) x.delivered [reason])).tellFree x else s).dropStream x

/-- Streams of a replica whose CANCEL takes effect at a wave boundary (R159). -/
def State.applyCancels (s : State) (replica : Nat) : State :=
  (s.streamList.filter (fun x => x.cancelled && x.replica == replica)).foldl (fun s x => s.endStream x 1 .aborted) s

/-- The panel has fenced itself and no longer answers for its streams (R377). -/
def State.fencedStatus (s : State) (stream type : Nat) : State := s.status stream type .targetAbsent

/-- The key of a stretch that this panel has adopted of a stream (R378): an adopter may hold its own stretch besides. -/
def adoptedKey (stream : Nat) : Nat := 2 ^ 32 + stream

/-- A serving message reaches the panel's own stretch of the stream, and the one it has adopted. -/
def State.onStretches (s : State) (stream : Nat) (f : State → Stream → State) : State :=
  [stream, adoptedKey stream].foldl (fun s k => match s.stream k with
    | some x => f s x
    | none => s) s

/-- The stream's blocks at its mirror holder are free again (R156). -/
def State.tellMirror (s : State) (x : Stream) : State :=
  if s.mirrorOn && s.mirrorHolder != s.panelId then s.send (.blocksFree s.mirrorHolder (x.id % 2 ^ 32)) else s

/-- CANCEL: an admission not complete is freed, its reserve at the mirror holder too, and answered with ABORTED (R156); otherwise it takes
effect at the replica's next wave boundary, at once when no wave of the replica is in flight (R159). A stream of this panel alone is complete
with its own OK, and one that has had a PROMPT or a query too. -/
def State.cancelStream (s : State) (complete : Bool) (x : Stream) : State :=
  if s.recovery.fenced.contains x.id then s.fencedStatus x.id 4
  else if !complete && !x.touched && decide (1 < x.table.length) then ((s.dropStream x).tellMirror x).status x.id 4 .aborted
  else
    let s := s.setStream x.id (some { x with cancelled := true })
    if s.waveList.any (fun w => w.replica == x.replica) then s else s.applyCancels x.replica

/-- CANCEL reaches the panel's stretches of a stream, and the reserve that it holds for its X− neighbour (R156, R159, R178). -/
def execCancel (stream : Nat) (complete : Bool) (s : State) : Out :=
  .next (if !s.cuActs 1 then s.keep (.cancel stream complete) else (s.onStretches stream (fun s x => s.cancelStream complete x)).freeMirror stream)

/-- A serving message that does not fit its type (R158): STATUS with BUS_ERROR, and STREAM_REFUSED (R184). -/
def State.misfit (s : State) (stream type : Nat) : State :=
  (s.status stream type .busError).raise evStreamRefused stream [codeNum .busError, 158]

/-- A PROMPT's tokens of this holder's stretch are kept for prefill (R156, R177); more than 1,020 do not fit its type
(R158). -/
def execPrompt (stream position : Nat) (tokens : List Nat) (s : State) : Out :=
  .next (if !s.cuActs 1 then s.keep (.prompt stream position tokens)
    else if 1020 < tokens.length then s.misfit stream 2
    else s.onStretches stream (fun s x =>
      if s.recovery.fenced.contains x.id then s.fencedStatus x.id 2
      else
        let placed : List (Nat × Nat) := tokens.zipIdx.map (fun p => (position + p.2, p.1))
        let mine := placed.filter (fun p => decide (p.1 < x.promptLen) && p.1 / 256 / x.sb == x.k)
        s.setStream x.id (some { x with
          touched := true, prompt := mine.foldl (fun m p => mapSet m p.1 p.2) x.prompt
          st := if x.st = .admitted ∧ mine ≠ [] then .prefill else x.st })))

/-- A message of unknown type or wrong length (R158); one that is a message of the host's after all is no business of this command. -/
def execUnknownServingMessage (head : BitVec 128) (body : List Byte) (s : State) : Out :=
  .next (if servingFits head body then s
    else if !s.cuActs 1 then s.keep (.unknownServingMessage head body) else s.misfit (fld head 32 32) (fld head 0 8))

/-- Neither a PROMPT nor a query has come within admit_hold: the reserves are freed, STREAM_REFUSED with ABORTED (R156). -/
def execAdmitHoldExpiry (stream : Nat) (s : State) : Out :=
  .next (match s.stream stream with
    | some x =>
      if !x.touched && decide (x.admittedAt + s.obj .X070F 0 * 10 ^ 9 ≤ s.time) then
        ((s.dropStream x).tellMirror x).raise evStreamRefused stream [codeNum .aborted, 156]
      else s
    | none => s)

/-! ### Tokens and the head (R154, R155, R179) -/

/-- The mirror tally of a stream's last copy has completed (R179). -/
def State.mirrored (s : State) (x : Stream) : Bool :=
  x.mirrorSent.isNone || decide (x.mirrorTarget ≤ s.iodTally x.iod x.counter)

/-- The head turns to the token at position p (R154, R155): at the end of its stretch the head moves to the next panel of the table,
or the stream ends without one (reason 2); a block beyond the reserve ends it (3). -/
def State.nextToken (s : State) (x : Stream) (p : Nat) : State :=
  if (x.k + 1) * x.sb ≤ p / 256 then
    match x.table[x.k + 1]? with
    | none => s.endStream x 2 .ok
    | some q =>
      ((s.setStream x.id (some { x with isHead := false })).send (.headRecord x.iod .A (s.holderOf q) (x.id % 2 ^ 32) (p - 1) x.sampling x.lastToken)).raise
        evHeadMoved (x.id % 2 ^ 32) [s.panelId, s.holderOf q]
  else if x.reserve ≤ p / 256 - x.k * x.sb then s.endStream x 3 .ok
  else s.setStream x.id (some { x with position := p })

/-- TOKEN goes to the host, and the stream goes on: it ends with the end token (reason 0) or at the last position (5), or turns to
the next position. -/
def State.deliverToken (s : State) (x : Stream) (token : Nat) (last : Bool) : State :=
  let s := s.send (servingMsg 3 .ok (x.id % 2 ^ 32) x.position [token])
  let p := x.position + 1
  let x := { x with delivered := x.position, lastToken := token, mirrorSent := none, st := .ready, layer := 0, readyAt := s.time }
  let s := s.setStream x.id (some x)
  if last then s.endStream x 0 .ok
  else if 2 ^ 32 ≤ p then s.endStream x 5 .ok
  else s.nextToken x p

/-- The head sends TOKEN once the mirror tally has completed (R179); a fenced panel sends nothing (R377). -/
def execTokenSend (stream token : Nat) (last : Bool) (s : State) : Out :=
  .next (match s.stream stream with
    | some x => if s.cuActs 1 && x.isHead && decide (x.st = .sampled) && !x.cancelled && !s.recovery.fenced.contains stream && s.mirrored x then s.deliverToken x token last else s
    | none => s)

/-- The tally has not completed within mirror_wait of the send: TOKEN goes anyway, the stream is unmirrored, MIRROR_LATE. -/
def execMirrorWaitExpiry (stream token : Nat) (last : Bool) (s : State) : Out :=
  .next (match s.stream stream with
    | some x =>
      match x.mirrorSent with
      | some t =>
        if s.cuActs 1 && x.isHead && decide (x.st = .sampled) && !x.cancelled && !s.recovery.fenced.contains stream && !s.mirrored x && decide (t + s.obj .X070A 0 * 1000 ≤ s.time) then
          let s := (s.setStream stream (some { x with unmirrored := true })).showStreams
          (s.raise evMirrorLate stream [x.position, (s.time - t) / 1000]).deliverToken { x with unmirrored := true } token last
        else s
      | none => s
    | none => s)

/-- The new head takes the head record and delivers from the next token onward (R154). -/
def execHeadRecordReceive (stream position sampling token : Nat) (s : State) : Out :=
  .next (s.onStretches stream (fun s x =>
    if !x.isHead && (position + 1) / 256 / x.sb == x.k then
      s.setStream x.id (some { x with
        isHead := true, position := position + 1, delivered := position, sampling := sampling, lastToken := token, st := .ready, layer := 0
        readyAt := s.time, touched := true })
    else s))

/-- A layer's query, or a prefill chunk's, reaches a holder, whose sieve steps for the layer may issue (R156, R164, R177). -/
def execQueryArrival (stream layer position : Nat) (prefill : Bool) (s : State) : Out :=
  .next (s.onStretches stream (fun s x => s.setStream x.id (some { x with
    touched := true
    queries := if x.queries.contains (layer, prefill, position) then x.queries else x.queries ++ [(layer, prefill, position)]
    position := if x.isHead ∨ prefill then x.position else position })))

/-! ### Waves (R160 to R166, R176) -/

/-- Tokens of the next prefill chunk (R177). -/
def Stream.chunkLen (x : Stream) (chunk : Nat) : Nat := min chunk (x.ownPrompt - x.prefilled)

/-- Every token of the next chunk has come. -/
def Stream.chunkHere (x : Stream) (chunk : Nat) : Bool :=
  decide (x.prefilled < x.ownPrompt) && (List.range (x.chunkLen chunk)).all (fun i =>
    x.prompt.any (fun p => p.1 == x.k * x.sb * 256 + x.prefilled + i))

/-- The holder has written its own chunks at a layer: all of them, or the last one has passed it (R177). -/
def Stream.wroteLayer (x : Stream) (chunk layer : Nat) : Bool :=
  decide (x.ownPrompt ≤ x.prefilled) || (decide (x.ownPrompt ≤ x.prefilled + x.chunkLen chunk) && decide (layer < x.layer))

/-- The query of another holder that a stream can serve in a wave of a layer and kind: a decode query at a holder that is not the head, or a
prefill chunk's once the holder has written its own chunks at that layer (R164, R177). -/
def Stream.serves (x : Stream) (chunk layer : Nat) (prefill : Bool) : Option (Nat × Bool × Nat) :=
  x.queries.find? (fun q => q.1 == layer && q.2.1 == prefill &&
    (if prefill then x.wroteLayer chunk layer && (decide (x.st = .ready) || decide (x.st = .prefill)) else decide (x.st = .ready) && !x.isHead))

/-- A stream is ready for a wave of a layer and kind on its own account (R161, R164, R177): its next chunk, or its token at the head, which is
ready for decode once the prompt has run and its mirror copies have arrived. -/
def State.ownReady (s : State) (chunk layer : Nat) (prefill : Bool) (x : Stream) : Bool :=
  (prefill && decide (x.st = .prefill) && x.layer == layer && x.chunkHere chunk) ||
   (!prefill && decide (x.st = .ready) && x.isHead && x.layer == layer && s.mirrored x)

/-- A stream is ready for a wave of a layer and kind (R161). -/
def State.readyFor (s : State) (chunk layer : Nat) (prefill : Bool) (x : Stream) : Bool :=
  !x.cancelled && (s.ownReady chunk layer prefill x || (x.serves chunk layer prefill).isSome)

/-- The order of a batch (R161): latency-critical streams first, then by the time they became ready, then by ID. -/
def before (a b : Stream) : Bool :=
  if a.latency ≠ b.latency then a.latency
  else decide (a.readyAt < b.readyAt) || (a.readyAt == b.readyAt && decide (a.id < b.id))

def insertStream (x : Stream) : List Stream → List Stream
  | [] => [x]
  | y :: r => if before x y then x :: y :: r else y :: insertStream x r

/-- The batch of a wave (R161): up to wave_batch and at most 256 streams. -/
def State.batch (s : State) (replica chunk layer : Nat) (prefill : Bool) : List Stream :=
  (((s.streamList.filter (fun x => x.replica == replica && !s.recovery.fenced.contains x.id && s.readyFor chunk layer prefill x)).foldl (fun l x => insertStream x l) []).take
    (min 256 (s.obj .X0704 0)))

/-- The panel that holds the head's stretch of a stream, as this holder knows it. -/
def State.headPanel (s : State) (x : Stream) : Nat :=
  if x.isHead then s.panelId else s.holderOf (x.table.getD (x.position / 256 / x.sb) s.panelId)

/-- The panel that a stream's results go to in the wave it is in, and the holders that give partials toward it (R165, R177): the head and every
holder; for a prefill chunk the chunk's holder and those of earlier stretches. -/
def State.gathering (s : State) (x : Stream) (prefill : Bool) : Nat × List Nat :=
  if !prefill then (s.headPanel x, x.table.map s.holderOf)
  else
    let k := match x.foreign with
      | some (_, _, pos) => pos / 256 / x.sb
      | none => x.k
    (if x.foreign.isNone then s.panelId else s.holderOf (x.table.getD k s.panelId), (x.table.take (k + 1)).map s.holderOf)

/-- Contributions of a stream's transit tickets here (R165): its own in-panel result, and each holder whose route to the
head passes first through this panel. -/
def State.transitCount (s : State) (x : Stream) (prefill : Bool) : Nat :=
  1 + s.upstream (s.gathering x prefill).2 (s.gathering x prefill).1

/-- The next holder on the way to the panel that a stream's results go to (R165); this panel itself where they end here. -/
def State.nextHolder (s : State) (x : Stream) (prefill : Bool) : Nat :=
  let (dest, holders) := s.gathering x prefill
  ((s.panelRoute dest 48 s.panelId).find? (fun p => holders.contains p)).getD dest

/-- The tickets of a batch leave their transit switches. -/
def State.closeTransit (s : State) (batch : List Nat) : State :=
  batch.foldl (fun s id => [streamIod id, streamIod id ^^^ 1].foldl (fun s i =>
    let d := s.iod i
    let mine (t : Ticket) : Bool := t.owner == id
    s.setIod i { d with tickets := d.tickets.filter (fun t => !mine t), straight := d.straight.filter (fun t => !mine t)
                        partials := d.partials.filter (fun p => !d.tickets.any (fun t => mine t && t.ticket == p.1.1)) }) s) s

/-- The transit tickets of a wave's streams are opened (R165, R177); one whose count would be 1 is not (R166), and the in-panel result of a
holder that is not the last goes straight on. -/
def State.openTransit (s : State) (img : PlanImage) (sat prefill : Bool) (batch : List Nat) : State :=
  (batch.filterMap s.stream).foldl (fun s x =>
    let n := s.transitCount x prefill
    let d := s.iod x.iod
    let new := (List.range img.tickets).map (fun j => ({
      ticket := x.ticketBase + j, tile := 0, tag := 0, expected := n, op := 2, res := 0, flits := img.ticketFlits
      deadline := s.time + 1000 * s.obj .X0709 0, sat := sat, contribs := [], worst := .ok, fin := none
      owner := x.id, part := j, next := s.nextHolder x prefill } : Ticket))
    if 1 < n then s.setIod x.iod { d with tickets := d.tickets ++ new }
    else if (s.gathering x prefill).1 = s.panelId then s
    else s.setIod x.iod { d with straight := d.straight ++ new }) (s.closeTransit batch)

/-- The head's query of a layer leaves for every other holder, and a prefill chunk's for the holders of earlier stretches (R164, R177), of the
class of the stream or of class C; the steps of the wave make it while it runs, and the model lets it leave at the dispatch (log 9). -/
def State.sendQueries (s : State) (layer : Nat) (prefill : Bool) (batch : List Nat) : State :=
  (batch.filterMap s.stream).foldl (fun s x =>
    if x.foreign.isSome then s
    else
      let others := (s.gathering x prefill).2.eraseDups.filter (fun p => p != s.panelId)
      let cls : Cls := if prefill then .C else if x.latency then .A else .B
      others.foldl (fun s p => s.send (.query x.iod cls p (x.id % 2 ^ 32) layer
        (if prefill then x.k * x.sb * 256 + x.prefilled else x.position) prefill)) s) s

/-! ### Summary tables (R168, R172) -/

/-- Local blocks of n blocks of a stretch on member `pos` of its KV set (R157). -/
def onMember (blocks set pos : Nat) : Nat := (blocks + set - 1 - pos) / max 1 set

/-- Tokens of a stretch that are written before a wave runs, and with the wave. -/
def State.written (_s : State) (x : Stream) (chunk : Nat) (prefill : Bool) : Nat × Nat :=
  if prefill && x.foreign.isNone then (x.prefilled, x.prefilled + x.chunkLen chunk)
  else if x.isHead then (x.position - x.k * x.sb * 256, x.position + 1 - x.k * x.sb * 256)
  else if x.prefilled < x.ownPrompt then (x.prefilled, x.prefilled)
  else (min (x.sb * 256) (x.position - x.k * x.sb * 256), min (x.sb * 256) (x.position - x.k * x.sb * 256))

/-- The header of a stream's summary table on member `pos` of its KV set (Table 7.4): the blocks that are open or full when the wave runs, and
those that have their summary. -/
def State.summaryHead (s : State) (x : Stream) (chunk : Nat) (prefill : Bool) (pos : Nat) : BitVec 256 :=
  let (before, after) := s.written x chunk prefill
  BitVec.ofNat 256 (x.k * x.sb % 2 ^ 32 + 2 ^ 32 * (onMember (ceilDiv after 256) x.kvSet pos % 2 ^ 16) +
    2 ^ 48 * (onMember (before / 256) x.kvSet pos % 2 ^ 16) + 2 ^ 64 * (x.kvSet % 2 ^ 7) + 2 ^ 71 * (pos % 2 ^ 7) + 2 ^ 78 * x.isHead.toNat)

/-- The logical stacks of a stream's KV set (R157). -/
def kvStacks (img : PlanImage) (x : Stream) : List Nat :=
  ((img.kvSets.find? (fun e => e.1 == x.kvSet)).map (fun e => e.2)).getD (List.range x.kvSet)

/-- The control unit writes the summary headers of a wave's layer through the sites' movers before the wave reads them (R168). -/
def State.writeHeads (s : State) (img : PlanImage) (layer : Nat) (prefill : Bool) (batch : List Nat) : State :=
  match img.summaries.find? (fun e => e.1 == layer) with
  | none => s
  | some (_, tile, base, stride) =>
    (batch.filterMap s.stream).foldl (fun s x => ((kvStacks img x).zipIdx).foldl (fun s e =>
      match s.siteOf e.1 with
      | none => s
      | some p => s.vaultWrite p tile (base + x.place * stride) [{ data := s.summaryHead x img.chunk prefill e.2, mark := false }]) s) s

/-- The passes that a sieve step takes on a die (R172): one while the sieve is on, else as many as run through every block held there. -/
def State.sievePasses (s : State) (img : PlanImage) (prefill : Bool) (batch : List Nat) (stack : Nat) : Nat :=
  if s.obj .X0703 0 = 0 then 1
  else
    let c := img.shape.sel + img.shape.first + img.shape.recent + 1
    let held (x : Stream) : Nat := (((kvStacks img x).zipIdx).filter (fun e => e.1 == stack)).foldl (fun a e =>
      max a (onMember (ceilDiv (s.written x img.chunk prefill).2 256) x.kvSet e.2)) 0
    ((batch.filterMap s.stream).map (fun x => ceilDiv (held x) c)).foldl max 1

/-- The wave parameters of a stack: those of the map, and in each place that a sieve descriptor of the wave type names its pass count
(R162, R172). -/
def State.waveParams (s : State) (img : PlanImage) (w : Wave) (stack : Nat) : List (BitVec 32) :=
  let n := BitVec.ofNat 32 (s.sievePasses img w.prefill w.batch stack)
  let named := (img.sieve.filter (fun e => e.1.1 == w.waveType)).map (fun e => (sieveDesc e.2).pwp)
  (List.range 16).map (fun i => if named.contains i then n else w.wp.getD i 0)

/-- The control unit writes a wave's batch table where the map places it (R162): the stream IDs as 32-bit words, whose layout the spec does not
give (log 9); the rest of the last unit holds free values. -/
def State.writeBatch (s : State) (img : PlanImage) (w : Wave) : State :=
  match img.batchAt.find? (fun e => e.1 == w.waveType) with
  | none => s
  | some (_, stack, tile, unit) =>
    match s.siteOf (stack + 48 * w.replica) with
    | none => s
    | some p =>
      let n := s.freeCount
      (({ s with freeCount := n + 1 }).arrive p tile unit (packUnits 4 (w.batch.map (fun i => i % 2 ^ 32)) (fun u => Config.padding n u))).1

/-- A tile takes a run: at once, or after the wave it runs. -/
def State.giveRun (s : State) (site tl : Nat) (r : Run) : State :=
  let t := s.tile site tl
  let s := s.setTile site tl { t with ended := t.ended.filter (fun w => w != r.wave)
                                      waiting := if t.running then t.waiting ++ [r] else t.waiting }
  if t.running then s else s.startRun site tl r

/-- The layer of a wave type. -/
def layerOfType (img : PlanImage) (waveType : Nat) : Nat := ((img.waveTypes.find? (fun e => e.1 == waveType)).map (fun e => e.2.1)).getD 0

/-- The control unit writes the wave parameters on the replica's stacks, and the wave starts (R162, R176): the bank's
counters cleared, transit tickets opened, queries sent, summary headers and batch table written, every tile given its run. -/
def State.runWave (s : State) (img : PlanImage) (w : Wave) : State :=
  let layer := layerOfType img w.waveType
  let s := s.clearBanks w.replica w.slot w.number
  let s := ((s.openTransit img w.sat w.prefill w.batch).sendQueries layer w.prefill w.batch).writeHeads img layer w.prefill w.batch
  let s := s.writeBatch img w
  let s := (List.range 48).foldl (fun s i => match s.siteOf (48 * w.replica + i) with
    | none => s
    | some p =>
      let wp := s.waveParams img w (48 * w.replica + i)
      (List.range 48).foldl (fun s k =>
        s.giveRun p k { wave := w.number, slot := w.slot, waveType := w.waveType, sat := w.sat, seed := w.seed, wp := wp, latency := w.latency
                        listLen := ((img.lists.find? (fun e => e.1 == (w.waveType, k))).map (fun e => e.2)).getD 0 }) s) s
  (s.setObj .X0142 0 w.seed.toNat).setWave w.replica w.slot (some w)

/-- A stream joins a wave: on its own account, or to serve another holder's query (R161, R164, R177). -/
def State.joinWave (s : State) (chunk layer : Nat) (prefill : Bool) (x : Stream) : Stream :=
  if s.ownReady chunk layer prefill x then { x with st := .inWave, foreign := none, resume := x.st }
  else { x with st := .inWave, foreign := x.serves chunk layer prefill, resume := x.st }

/-- The control unit forms a wave of a type from the streams that are ready for it and dispatches it (R160 to R162): while
the plan serves, the replica serves, and a wave slot is free. CANCELs take effect first (R159). -/
def State.dispatchWave (s : State) (replica waveType : Nat) (wp : List (BitVec 32)) : State :=
  if !s.cuActs 0 ∨ !s.passed 0 s.plan.nextWave then s else match s.plan.image with
    | none => s
    | some img =>
      match img.waveTypes.find? (fun e => e.1 == waveType) with
      | none => s
      | some (_, layer, prefill) =>
        let s := s.applyCancels replica
        let b := s.batch replica img.chunk layer prefill
        match (List.range 4).find? (fun k => (s.wave replica k).isNone) with
        | none => s
        | some slot =>
          if s.obj .X0700 0 ≠ planServing ∨ s.obj .X0F03 replica ≠ 0 ∨ b = [] ∨
              s.obj .X0705 0 ≤ (s.waveList.filter (fun w => w.replica == replica)).length then s
          else
            let seed : BitVec 32 := if s.obj .X0141 0 = 0 then img.seed else BitVec.ofNat 32 (s.obj .X0141 0)
            let w : Wave := {
              number := s.plan.nextWave, replica := replica, slot := slot, waveType := waveType, prefill := prefill, batch := b.map (fun x => x.id)
              aborted := false, trapped := [], trappedNow := [], seed := seed, sat := s.obj .X0140 0 == 1, wp := wp
              latency := b.all (fun x => x.latency) }
            let s := b.foldl (fun s x => s.setStream x.id (some (s.joinWave img.chunk layer prefill x))) s
            let s := s.takePassed 0 s.plan.nextWave
            let s := ({ s with plan := { s.plan with nextWave := (s.plan.nextWave + 1) % 2 ^ 32 } }).bump .X0706 0 1
            s.runWave img w

/-- The KV entries that a replica's query tile has gathered (R179). -/
def State.gathered (s : State) (x : Stream) (units : Nat) : List Cell32 :=
  match s.plan.image.bind (fun p => p.kvGather) with
  | none => []
  | some (stack, tile, unit) => match s.siteOf (stack + 48 * x.replica) with
    | some p => s.getStore p tile unit units
    | none => []

/-- The mirror copy of a stream's KV leaves for the mirror holder as class C (R179, R380): `units` are its 32-B units, which its
acknowledgements add to the stream's counter. A panel that is its own mirror holder places the block on the stacks of its other replica
(R370), and the copy's post goes to the counter itself. -/
def State.mirrorCopy (s : State) (x : Stream) (position units : Nat) (data : List Cell32) : State × Stream :=
  if !s.mirrorOn then (s, x)
  else
    let y : Stream := { x with
      mirrorSent := some s.time
      mirrorTarget := (if x.mirrorSent.isSome then x.mirrorTarget else s.iodTally x.iod x.counter) + units }
    if s.mirrorHolder ≠ s.panelId then (s.send (.mirror x.iod .C s.mirrorHolder (x.id % 2 ^ 32) position units x.counter data), y)
    else
      let block := position / 256 - x.k * x.sb
      let port := portOfIod x.iod
      (s.sendPost { src := port, port := port, ctr := x.counter, inc := units, step := false, wave16 := 0, replica := 0, slot := 0 },
        { y with mirrorAt := mapSet y.mirrorAt block (48 * (1 - x.replica) + block % 48) })

/-- What a wave's end means for a stream of its batch: its layer is complete, or another holder's query is served. -/
def State.layerDone (s : State) (img : PlanImage) (w : Wave) (x : Stream) : State :=
  if x.st ≠ .inWave then s
  else match x.foreign with
  | some q => s.setStream x.id (some { x with queries := x.queries.filter (fun e => e != q), foreign := none, st := x.resume, readyAt := s.time })
  | none =>
    if w.prefill then
      let n := x.chunkLen img.chunk
      let (s, x) := s.mirrorCopy x (x.k * x.sb * 256 + x.prefilled + n - 1) (ceilDiv (n * img.kvBytes) (32 * max 1 img.layers)) []
      let x := if x.layer + 1 < img.layers then { x with layer := x.layer + 1, st := .prefill, readyAt := s.time }
        else { x with layer := 0, prefilled := x.prefilled + n, st := if x.prefilled + n < x.ownPrompt then .prefill else .ready, readyAt := s.time }
      let x := { x with lastToken := mapGet x.lastToken x.prompt (x.promptLen - 1) }
      if x.isHead ∧ x.st = .ready then s.nextToken x x.promptLen else s.setStream x.id (some x)
    else if x.layer + 1 < img.layers then s.setStream x.id (some { x with layer := x.layer + 1, st := .ready, readyAt := s.time })
    else
      let units := ceilDiv img.kvBytes 32
      let (s, x) := s.mirrorCopy { x with mirrorSent := none } x.position units (s.gathered x units)
      s.setStream x.id (some { x with layer := x.layer + 1, st := .sampled, readyAt := s.time })

/-- Every tile of the replica has issued END for a wave. -/
def State.waveOver (s : State) (w : Wave) : Bool :=
  (s.replicaSites w.replica).all (fun p => (List.range 48).all (fun k => (s.tile p k).ended.contains w.number))

/-- The tiles forget a wave number. -/
def State.forgetWave (s : State) (replica number : Nat) : State :=
  (s.replicaSites replica).foldl (fun s p => (List.range 48).foldl (fun s k =>
    let t := s.tile p k
    s.setTile p k { t with ended := t.ended.filter (fun n => n != number) }) s) s

/-- Every tile of the replica has issued END: the wave ends (R162), its streams have completed their layer, a stream whose last
layer is complete has its mirror copy sent (R179), and CANCELs take effect (R159). -/
def execWaveEnd (replica slot : Nat) (s : State) : Out :=
  .next (match s.wave replica slot, s.plan.image with
    | some w, some img =>
      if w.aborted || !s.waveOver w then s
      else
        let s := (s.forgetWave replica w.number).setWave replica slot none
        let s := (w.batch.filterMap s.stream).foldl (fun s x => s.layerDone img w x) s
        (s.closeTransit w.batch).applyCancels replica
    | _, _ => s)

/-- A tile's part of an aborted wave ends (R70), and a wave that waited for it does not start there. -/
def State.abortRun (s : State) (site tl number : Nat) : State :=
  let t := s.tile site tl
  let s := s.setTile site tl { t with waiting := t.waiting.filter (fun r => r.wave != number), stopped := false
                                      ended := t.ended.filter (fun n => n != number) }
  if t.running ∧ t.wave = number then
    let s := s.clearTile site tl
    (s.setTile site tl { s.tile site tl with stopped := false, trapped := false }).leaveRun site tl
  else s

/-- The control unit aborts a wave on every stack of the replica (R70, R163): counted, and WAVE_ABORT. -/
def State.abortWave (s : State) (w : Wave) (stack trapCode : Nat) : State :=
  if w.aborted then s
  else
    let s := (s.replicaSites w.replica).foldl (fun s p => (List.range 48).foldl (fun s k => s.abortRun p k w.number) s) s
    ((s.setWave w.replica w.slot (some { w with aborted := true })).bump .X0707 0 1).raise evWaveAbort noSubject [w.number, stack, trapCode]

/-- An aborted wave runs again with its number and inputs (R163). -/
def State.rerunWave (s : State) (w : Wave) : State :=
  match s.plan.image with
  | none => s
  | some img =>
    if !w.aborted then s
    else s.runWave img { w with aborted := false, trapped := w.trapped ++ w.trappedNow, trappedNow := [] }

/-- Once the failed tags have ended (R70 ended them at the abort), the wave runs again while its replica serves. -/
def execWaveRerun (replica slot : Nat) (s : State) : Out :=
  .next (match s.wave replica slot with
    | some w => if s.cuActs 0 ∧ s.obj .X0F03 replica = 0 then s.rerunWave w else s
    | none => s)

/-- A faulted stream's token is run again from layer 0 (R167), once the wave in which it failed has ended. -/
def execStreamTokenRerun (stream : Nat) (s : State) : Out :=
  .next (match s.stream stream with
    | some x => if x.st = .faulted ∧ !s.waveList.any (fun w => w.batch.contains stream) then s.setStream stream (some { x with st := .ready, layer := 0, readyAt := s.time }) else s
    | none => s)

/-- A faulted stream that could not run again within 2 s ends with reason 4 (R167). -/
def execStreamFaultTimeout (stream : Nat) (s : State) : Out :=
  .next (match s.stream stream with
    | some x => if x.st = .faulted ∧ x.faultedAt + 2 * 10 ^ 9 ≤ s.time then s.endStream x 4 .aborted else s
    | none => s)

/-! ### The plan image (R181 to R183) -/

/-- A life-cycle state in which a plan may be loaded (Table 16.4). -/
def loadAllowed (life : Nat) : Bool := life == 0 || life == 2 || life == 3

/-- The kinds and limits of Table 7.6. -/
def modelFits (m : ModelShape) : Bool :=
  decide (1 ≤ m.queryHeads ∧ m.queryHeads ≤ 256 ∧ 1 ≤ m.kvHeads ∧ m.kvHeads ≤ 64 ∧ m.headDim ≤ 256 ∧ m.latent ≤ 1024 ∧ m.rotary ≤ 128) &&
  decide (m.hidden ≤ 65536 ∧ m.experts ≤ 512 ∧ (m.experts = 0 ∨ (1 ≤ m.active ∧ m.active ≤ 32)) ∧ m.replicaBytes ≤ 1280 * 2 ^ 30) &&
  decide (m.sel ≤ 512 ∧ m.first ≤ 63 ∧ m.recent ≤ 63) &&
  decide (m.attention < 2 ∧ m.kvFormat < 4 ∧ m.feedForward < 4 ∧ m.norm < 2) && m.weights.all (fun f => decide (f < 6)) &&
  decide ((m.attention = 0 → m.latent = 0) ∧ (m.feedForward < 2 → m.experts = 0))

/-- The model descriptor keeps the limits of Table 7.6, of R157 and of R161, R162. -/
def planFits (img : PlanImage) : Bool :=
  modelFits img.shape && decide (1 ≤ img.layers ∧ img.layers ≤ 256 ∧ img.kvBytes ≤ 65536) &&
  img.kvSizes.all (fun n => decide (2 ≤ n ∧ n ≤ 96)) && img.kvSets.all (fun e => e.2.length == e.1 && e.2.all (fun l => decide (l < 96))) &&
  decide (1 ≤ img.waveBatch ∧ img.waveBatch ≤ 256 ∧ 1 ≤ img.wavesInFlight ∧ img.wavesInFlight ≤ 4) &&
  img.waveTypes.all (fun e => decide (e.2.1 < img.layers))

/-- The header is as Table 7.7 has it, and agrees with the directory: as many sections, each within the image. -/
def planHeaderOk (img : PlanImage) : Bool :=
  decide (img.magic = 0x4E414C50 ∧ img.version = 1 ∧ img.logicalStacks = 96 ∧ img.sectionCount = img.sections.length) &&
  img.sections.all (fun p => decide (p.offset + p.size ≤ img.size))

/-- A section of a type that Table 7.9 does not have. -/
def sectionUnknown (p : PlanSection) : Bool := p.type == 0 || decide (9 < p.type)

/-- A section's SHA-384 and its GCM tag under the plan key of a slot (R183). A hash is laid out as its 48 bytes in order. -/
def sectionGood (p : PlanSection) (slot : Nat) : Bool :=
  p.size == p.cipher.length && p.hash == octetsNum (sha384 p.cipher) &&
    octets 16 p.tag == gcmTag (Config.planKey slot) (octets 12 p.iv) p.cipher

/-- What the loader finds of the bytes of an image (R181, R183): whether the signature over the SHA-384 of header and directory holds under the
verifying key of the slot, and the type of the first known section whose hash or tag does not. -/
def checkImage (img : PlanImage) : PlanImage :=
  { img with
    sigOk := Config.planVerifies img.keySlot (digest (sha384 (octets 256 img.header ++ img.sections.flatMap (fun p => octets 128 p.entry)))) img.signature
    badSection := (img.sections.find? (fun p => !sectionUnknown p && !sectionGood p img.keySlot)).map (fun p => p.type) }

/-- The first of steps 1 to 5 at which an image fails, and the section (R183). -/
def State.planFault (s : State) (img : PlanImage) : Option (Nat × Nat) :=
  let phaseBad := img.phase.any (fun e => decide (5 ≤ e.2 / 2 % 8) || decide (32 ≤ e.2))
  let sieveBad := img.sieve.any (fun e => decide (48 < (sieveDesc e.2).wtile + (sieveDesc e.2).wn + 1))
  let missing := img.stacksNeeded.any (fun l => (s.siteOf l).isNone)
  if !img.sigOk then some (1, 0)
  else if !planHeaderOk img then some (2, 0)
  else if 32767 < (img.generation + 65536 - s.store.lastGen % 65536) % 65536 then some (2, 0)
  else match img.badSection with
  | some t => some (3, t)
  | none =>
    match img.sections.find? (fun p => sectionUnknown p && p.required) with
    | some p => some (4, p.type)
    | none =>
      if img.failAt = 4 then some (4, img.failSection)
      else if !planFits img then some (4, 1)
      else if phaseBad then some (4, 4)
      else if sieveBad then some (4, 5)
      else if missing then some (4, 6)
      else if img.failAt = 5 then some (5, img.failSection)
      else none

/-- The control unit begins to load an image (R183): refused with ACCESS_DENIED while a stream is admitted, while a load runs,
or in a life-cycle state that refuses it. -/
def execPlanLoad (img : PlanImage) (s : State) : Out :=
  .next (if s.obj .X0702 0 ≠ 0 ∨ s.obj .X0700 0 = planLoading ∨ ¬ loadAllowed (s.obj .I0D05 0) then s.send (.planAnswer .accessDenied)
    else
      let p := s.plan
      ({ s with plan := { p with before := s.obj .X0700 0, loading := some (checkImage img), loadAt := s.time } }).setObj .X0700 0 planLoading)

/-- Step 5 writes vaults, tile stores and libraries (R182, R183): the bytes of a logical stack of replica 0 also go to its twin in
replica 1. `f` gives each unit as it comes to stand. -/
def State.writePlan (s : State) (img : PlanImage) (f : Nat → Cell32 → Cell32) : State :=
  let put (s : State) (addr : Nat → Nat → Nat → Nat) (e : (Nat × Nat × Nat) × List Cell32) : State :=
    ([e.1.1, e.1.1 + 48].filterMap s.siteOf).foldl (fun s p => s.putUnits (addr p e.1.2.1 e.1.2.2) (e.2.zipIdx.map (fun u => f u.2 u.1))) s
  img.storeData.foldl (fun s e => put s storeAddr e) (img.vaultData.foldl (fun s e => put s vaultAddr e) s)

/-- The time that a load takes at least, in ns: decryption and hashing run at 2.4 GB/s (R183). -/
def loadTime (img : PlanImage) : Nat := img.size * 5 / 12

/-- A plan load ends (R183): ready with the new plan; the previous state and PLAN_REFUSED after a failure at steps 1 to 4; no plan
in force after one at step 5, where what it had begun to write is not known. -/
def execPlanLoadDone (s : State) : Out :=
  .next (match s.plan.loading with
    | none => s
    | some img =>
      let p := s.plan
      if s.time < p.loadAt + loadTime img then s
      else match s.planFault img with
      | some (step, sect) =>
        let s := if step < 5 then ({ s with plan := { p with loading := none } }).setObj .X0700 0 p.before
          else
            let s := ({ s with freeCount := s.freeCount + 1 }).writePlan img (fun i u => { u with data := Config.padding s.freeCount i })
            ({ s with plan := { p with loading := none, image := none } }).setObj .X0700 0 planNone
        s.raise evPlanRefused noSubject [step, sect]
      | none =>
        let s := s.writePlan img (fun _ u => u)
        let s := { s with plan := { p with loading := none, image := some img, nextWave := 0 }
                          store := ({ s.store with lastGen := img.generation } : Store).rewritten (s.obj .I0D05 0) }
        let s : State := { s with wrote := mapSet (mapSet s.wrote (.X0704, 0) s.time) (.X0705, 0) s.time }
        ((((s.setObj .X0700 0 planReady).setObj .X0701 0 img.generation).setObj .X0704 0 img.waveBatch).setObj .X0705 0 img.wavesInFlight).showStreams)

end Sys2Proof.Machine
end

