-- ==== Sys2Proof/Machine/Packets.lean ====
section
/-!
DEFINITION. What a channel's receiver does with a packet (R225, R227, R231, R236 to R243, R247).
-/

namespace Sys2Proof.Machine

/-! ### The operations of the packet types -/

/-- Marks of a payload. -/
def marksOf (l : List Cell32) : Nat := (l.filter (fun u => u.mark)).length

/-- A MSG is handed to its consumer with its status, and actr is posted (R231, Table 9.6). -/
def State.doMsg (s : State) (i ch : Nat) (p : Packet) : State × Code :=
  let k : Code := if anyMark p.payload then .poisoned else .ok
  let s := s.send (.message i ch p.len k (marksOf p.payload) p.payload)
  (match s.chan? i ch with
    | some c => if c.actr = 0 then s else s.addIod i c.actr 1
    | none => s, k)

/-- A COPY (32 B to 4,096 B) or a WRITE (one line of 128 B) is written through the base, then posts its units (R236, R237, R239). One of a wrong
form ends with BUS_ERROR, or with the code of its place where that stands first (R18). -/
def State.doWrite (s : State) (i : Nat) (p : Packet) : State × Code :=
  let line := p.type == 3
  let n := p.len / 32
  let x := s.globalPlace p.gaddr p.len (if line then 128 else 32)
  let bad := p.len % 32 != 0 || n == 0 || decide (128 < n) || (line && n != 4) || decide (p.payload.length < n) ||
    (p.post && !ctrInRange p.tport p.ctr) || (line && (match x with | .store _ _ _ => true | _ => false))
  if bad then (s, worst [.busError, (s.writePlace x (p.payload.take n)).2])
  else
    let (s, k) := s.writePlace x (p.payload.take n)
    if p.post ∧ (k = .ok ∨ k = .poisoned) then
      let post : Post := { src := portOfIod i, port := p.tport, ctr := p.ctr, inc := n, step := false, wave16 := 0, replica := 0, slot := 0 }
      (s.sendPost post, k)
    else (s, k)

/-- A READ of a 128-B line: the reply joins the channel's send ring (R237). -/
def State.doRead (s : State) (i ch : Nat) (p : Packet) (ue : List Nat) (ce : Nat) : State × Code :=
  let (s, k, l) := s.readPlace (s.globalPlace p.gaddr 128 128) 4 ue ce
  let reply : Packet := { (default : Packet) with type := 5, cls := p.cls, gaddr := p.gaddr, rid := p.rid, code := codeNum k
                                                  sub := p.sub, len := 32 * l.length, payload := l }
  (match s.chan? i ch with
    | some c => s.setChan i ch { c with sring := c.sring ++ [reply] }
    | none => s, k)

/-- Lines of the set of a global address (R241): gaddr[18:7]. -/
def lineSet (g : Nat) : Nat := g / 128 % 4096

/-- A reply's line fills a field's area of 4 ways, the line filled longest ago replaced first (R241). -/
def State.fillLine (s : State) (field g : Nat) (l : List Cell32) : State :=
  let f := s.field field
  let others := f.lines.filter (fun x => x.gaddr != g)
  let kept := if (others.filter (fun x => lineSet x.gaddr == lineSet g)).length < 4 then others
    else match takeFirst (fun x : RLine => lineSet x.gaddr == lineSet g) others with
      | some (_, r) => r
      | none => others
  s.setField field { f with lines := kept ++ [{ gaddr := g, data := l }] }

/-- A READ_REPLY reaches its requester before its deadline (R238, R243): the area keeps the line when the reply is OK, the field epoch
is the request's, and no invalidation of the line came between. -/
def State.doReply (s : State) (i : Nat) (p : Packet) : State × Code :=
  let d := s.iod i
  match d.reads.find? (fun r => r.1 == p.rid) with
  | none => (s, .ok)
  | some (_, r) =>
    if r.deadline < s.time then (s, .ok)
    else
      let s := (s.setIod i { d with reads := mapDel d.reads p.rid }).send (.lineAnswer i p.rid (codeOf p.code) p.payload)
      (if r.cacheable ∧ p.code = 0 ∧ !r.killed ∧ (s.field r.field).epoch = r.epoch then s.fillLine r.field r.gaddr p.payload else s, .ok)

/-- Outstanding fills of a line are not to be kept, in one field or in all (R243). -/
def State.killFills (s : State) (only : Option Nat) (g : Nat) : State :=
  (List.range 4).foldl (fun s i =>
    let d := s.iod i
    let killed := d.reads.map (fun r => if r.2.gaddr = g ∧ only.all (fun f => f == r.2.field) then (r.1, { r.2 with killed := true }) else r)
    s.setIod i { d with reads := killed }) s

/-- An invalidation by line in one field (R242). -/
def State.invalidateLine (s : State) (field g : Nat) : State := s.dropLine field g

/-- An invalidation by epoch in one field (R242). -/
def State.invalidateEpoch (s : State) (field : Nat) : State :=
  let f := s.field field
  s.setField field { f with epoch := (f.epoch + 1) % 2 ^ 32, lines := [] }

/-- An INVAL applies to all 56 fields of the panel (R242). -/
def State.doInval (s : State) (p : Packet) : State × Code :=
  if p.sub = 0 then ((List.range 56).foldl (fun s f => s.invalidateLine f p.gaddr) (s.killFills none p.gaddr), .ok)
  else if p.sub = 1 then ((List.range 56).foldl (fun s f => s.invalidateEpoch f) s, .ok)
  else (s, .busError)

/-- A MERGE packet's flits (R225): refused for a ticket that is not open, complete or past its deadline; the contribution of a sender
is complete when all flits have arrived from it. -/
def State.doMerge (s : State) (i : Nat) (p : Packet) : State × Code :=
  let d := s.iod i
  match d.tickets.find? (fun t => t.ticket == p.ctr) with
  | none => (s.raise evTransitRefused (portOfIod i) [p.ctr, codeNum .accessDenied], .accessDenied)
  | some t =>
    if !t.accepts s.time 0 then (s.raise evTransitRefused (portOfIod i) [p.ctr, codeNum .accessDenied], .accessDenied)
    else if t.flits < p.flit + p.nflit + 1 ∨ p.len ≠ 256 * (p.nflit + 1) then (s, .busError)
    else
      let key := (p.ctr, 4 * p.spanel + p.siod)
      let old := mapGet [] d.partials key
      let new := (p.payload.take (8 * (p.nflit + 1))).zipIdx.map (fun u => (8 * p.flit + u.2, u.1))
      let all := old.filter (fun u => !(new.any (fun v => v.1 == u.1))) ++ new
      if all.length = 8 * t.flits then
        let units := (List.range (8 * t.flits)).map (fun u => ((all.find? (fun v => v.1 == u)).map (fun v => v.2)).getD default)
        let s := s.setIod i { d with partials := mapDel d.partials key }
        (s.transitAdd i t units (codeOf p.code), .ok)
      else (s.setIod i { d with partials := mapSet d.partials key all }, .ok)

/-- A CLOSE (R230): the channel is closing until what it has sent is acknowledged; entries not sent end ABORTED. -/
def State.doClose (s : State) (i ch : Nat) : State × Code :=
  match s.chan? i ch with
  | none => (s, .ok)
  | some c =>
    let s := c.sring.foldl (fun s p => s.entryEnd i ch p .aborted) (s.setChan i ch { c with state := chanClosing, sring := [] })
    (s.closeIfDone i ch, .ok)

/-- ECC finds nothing. -/
def noEcc : Ecc := { ue := [], ce := 0 }

/-- The operation of a packet, by its type (Table 9.3). -/
def State.perform (s : State) (i ch : Nat) (p : Packet) (ue : Ecc) : State × Code :=
  match p.type with
  | 1 => s.doMsg i ch p
  | 2 => s.doWrite i p
  | 3 => s.doWrite i p
  | 4 => s.doRead i ch p ue.ue ue.ce
  | 5 => s.doReply i p
  | 6 => s.doInval p
  | 7 => s.doMerge i p
  | _ => s.doClose i ch

/-! ### Acceptance (R231) -/

/-- The packets received in order are performed and counted for the next ACK (R231, R232, R240); `ue` goes with the packet `psn`. -/
def State.runInOrder (s : State) (i ch psn : Nat) (ue : Ecc) : Nat → State
  | 0 => s
  | n + 1 =>
    match s.chan? i ch with
    | none => s
    | some c =>
      match takeFirst (fun p : Packet => p.psn == c.rcvNxt) c.got with
      | none => s
      | some (p, r) =>
        let s := s.setChan i ch { c with got := r, rcvNxt := (c.rcvNxt + 1) % 2 ^ 24, rfree := (c.rfree + 1) % 65536 }
        let (s, k) := s.perform i ch p (if p.psn = psn then ue else noEcc)
        let s := match s.chan? i ch with
          | some c => if k = Code.ok then s else s.setChan i ch { c with ackEntries := c.ackEntries ++ [(p.psn, codeNum k)] }
          | none => s
        s.runInOrder i ch psn ue n

/-- An ACK that lists one packet with a code, for a channel that takes none (R232). -/
def State.answerAbsent (s : State) (i : Nat) (p : Packet) : State :=
  let c := newChan p.cls 0 false p.host p.host p.spanel p.siod p.addr p.schan (BitVec.ofNat 32 p.cookie) 1 s.time
  s.transmit i p.dchan c (ackOf c false [(p.psn, codeNum .targetAbsent)])

/-- A held die answers a channel with hold = 1 at most once in 100 µs (R234). -/
def State.answerHold (s : State) (i ch : Nat) (c : Chan) : State :=
  let d := s.iod i
  if dueEvent ((d.holdAcks.find? (fun p => p.1 == ch)).map (fun p => p.2)) s.time 100000 then
    (s.setIod i { d with holdAcks := mapSet d.holdAcks ch s.time }).transmit i ch c (ackOf c true [])
  else s

/-- One more packet to acknowledge, with an echo if it was marked (R227, R232). -/
def Chan.note (c : Chan) (ce : Bool) (now : Nat) : Chan :=
  { c with unacked := c.unacked + 1, unackedSince := if c.unacked = 0 then now else c.unackedSince, ackEce := c.ackEce || ce }

/-- A sequenced packet reaches its channel (R220, R230, R231, R234): a wrong pcrc discards it; a closed channel answers TARGET_ABSENT;
a cookie must match; a new packet is kept and, in order, performed once; a duplicate is covered by the next ACK, and a READ sent again is performed again (R238). -/
def State.receivePacket (s : State) (i : Nat) (p : Packet) (ue : Ecc) : State :=
  let ch := p.dchan
  if p.pcrc ≠ pcrcOf p.payload p.len then s.discard i
  else match s.chan? i ch with
    | none => s.answerAbsent i p
    | some c =>
      if !c.live then s.answerAbsent i p
      else if (s.iod i).held then s.answerHold i ch c
      else if p.cookie ≠ c.cookie.toNat then s.rejectCookie i ch
      else
        let s := s.judgeLate i ch p
        let d := psnDiff p.psn c.rcvNxt
        let seen := c.got.any (fun q => q.psn == p.psn)
        if d < 257 ∧ !seen then
          if 2 ^ (c.rsize + 8) ≤ d then s
          else (s.setChan i ch ({ c with got := c.got ++ [p] }.note p.ce s.time)).runInOrder i ch p.psn ue 257
        else if seen ∨ (1 ≤ psnDiff c.rcvNxt p.psn ∧ psnDiff c.rcvNxt p.psn ≤ 2 ^ 22) then
          let s := s.setChan i ch (c.note p.ce s.time)
          if p.type = 4 then (s.doRead i ch p ue.ue ue.ce).1 else s
        else s.discard i

/-! ### The commands -/

def execMsgPacket (iod : Nat) (p : Packet) (s : State) : Out := .next (if p.type = 1 then s.receivePacket iod p noEcc else s)

def execCopyPacket (iod : Nat) (p : Packet) (s : State) : Out := .next (if p.type = 2 then s.receivePacket iod p noEcc else s)

def execWritePacket (iod : Nat) (p : Packet) (s : State) : Out := .next (if p.type = 3 then s.receivePacket iod p noEcc else s)

def execReadPacket (iod : Nat) (p : Packet) (ueUnits : List Nat) (ce : Nat) (s : State) : Out :=
  .next (if p.type = 4 then s.receivePacket iod p { ue := ueUnits, ce := ce } else s)

def execReadReplyPacket (iod : Nat) (p : Packet) (s : State) : Out := .next (if p.type = 5 then s.receivePacket iod p noEcc else s)

/-- An invalidation by line (R242): by packet in every field; with `own`, a requester's mover or the control unit removes the packet's line from
that one field. -/
def execInvalLine (iod : Nat) (own : Option Nat) (p : Packet) (s : State) : Out :=
  .next (match own with
    | some f => if f < 56 then (s.killFills (some f) p.gaddr).invalidateLine f p.gaddr else s
    | none => if p.type = 6 ∧ p.sub = 0 then s.receivePacket iod p noEcc else s)

/-- An invalidation by epoch (R242), in every field or in one, as by line. -/
def execInvalEpoch (iod : Nat) (own : Option Nat) (p : Packet) (s : State) : Out :=
  .next (match own with
    | some f => if f < 56 then s.invalidateEpoch f else s
    | none => if p.type = 6 ∧ p.sub = 1 then s.receivePacket iod p noEcc else s)

def execMergePacket (iod : Nat) (p : Packet) (s : State) : Out := .next (if p.type = 7 then s.receivePacket iod p noEcc else s)

def execClosePacket (iod : Nat) (p : Packet) (s : State) : Out := .next (if p.type = 10 then s.receivePacket iod p noEcc else s)

/-- A remote read's deadline passes: it ends with TIMEOUT; a reply that comes later finds no read (R238). -/
def execRemoteReadTimeout (iod rid : Nat) (s : State) : Out :=
  let d := s.iod iod
  .next (match d.reads.find? (fun r => r.1 == rid) with
    | none => s
    | some (_, r) =>
      if r.deadline ≤ s.time then (s.setIod iod { d with reads := mapDel d.reads rid }).send (.lineAnswer iod rid .timeout []) else s)

end Sys2Proof.Machine
end

