-- ==== Sys2Proof/Machine/Movers.lean ====
section
/-!
DEFINITION. Movers (R250 to R259): rings and descriptors, reading ahead, writes, responses, completion, halts and stops.
-/

namespace Sys2Proof.Machine

/-! ### Descriptors (Table 10.3) -/

/-- Ring entries per channel (Table 10.1). -/
def ringSize (port : Nat) : Nat := if (iodOfPort port).isSome then 256 else 64

/-- Channels of a mover (Table 10.1). -/
def moverChans (port : Nat) : Nat := if (iodOfPort port).isSome then 32 else 16

/-- Reads outstanding at most (Table 10.1). -/
def moverReads (port : Nat) : Nat := if (iodOfPort port).isSome then 256 else 64

def dOwn (d : BitVec 512) : Bool := bit d 0
def dMsg (d : BitVec 512) : Bool := bit d 1
def dFence (d : BitVec 512) : Bool := bit d 2
def dPost (d : BitVec 512) : Bool := bit d 3
def dCls (d : BitVec 512) : Cls := clsOf (fld d 4 2)
def dSmode (d : BitVec 512) : Nat := fld d 6 2
def dDmode (d : BitVec 512) : Nat := fld d 8 2
def dLen (d : BitVec 512) : Nat := fld d 16 23 + 1
def dMbox (d : BitVec 512) : Nat := fld d 40 5
def dMseq (d : BitVec 512) : Bool := bit d 45
def dChan (d : BitVec 512) : Nat := fld d 48 16
def dSrc (d : BitVec 512) : Nat := fld d 64 64
def dDst (d : BitVec 512) : Nat := fld d 128 64
def dCtr (d : BitVec 512) : Nat := fld d 192 16
def dTport (d : BitVec 512) : Nat := fld d 208 7
def dRiod (d : BitVec 512) : Nat := fld d 216 2
def dUser (d : BitVec 512) : Nat := fld d 224 32
def dImm (d : BitVec 512) : BitVec 128 := d.extractLsb' 256 128

/-- The unit that an immediate source repeats (R252): imm is its first 16 B (log 32). -/
def immUnit (d : BitVec 512) : Cell32 := { data := (Config.immHigh (dImm d) ++ dImm d), mark := false }

/-- A descriptor's destination lies in another panel. -/
def State.farDst (s : State) (d : BitVec 512) : Bool := dDmode d != 2 && dDst d / 2 ^ 49 != s.panelId

/-- The I/O die whose transport engine carries a transfer to another panel: the mover's own, or riod (R256). -/
def relayIod (port : Nat) (d : BitVec 512) : Nat := (iodOfPort port).getD (dRiod d)

/-- The check unit of a descriptor: IOD0's control unit is CU-A, IOD3's CU-B (Table 10.2). -/
def dUnit (port : Nat) (d : BitVec 512) : Nat := (if iodOfPort port = some 3 then 4 else 0) + dDst d % 4

/-- The place of unit `k` of the source. -/
def State.srcPlace (s : State) (d : BitVec 512) (k n : Nat) : Place :=
  s.globalPlace (dSrc d + if dSmode d = 0 then 32 * k else 0) (32 * n) 32

/-- The place of unit `k` of a destination in this panel. -/
def State.dstPlace (s : State) (d : BitVec 512) (k n : Nat) : Place :=
  s.globalPlace (dDst d + if dDmode d = 0 then 32 * k else 0) (32 * n) 32

/-- A cache place lies in the pool (R137). -/
def inPool (u n : Nat) : Bool := decide (u + n ≤ poolUnits)

/-- The source is one that Table 10.2 allows the mover. -/
def srcAllowed (port : Nat) (x : Place) : Bool :=
  match x with
  | .vault p _ _ => (iodOfPort port).isSome || p == port
  | .store p _ _ => (iodOfPort port).isNone && p == port
  | .cache f _ => (iodOfPort port).isSome || f == fieldOf port
  | .absent => (iodOfPort port).isSome
  | _ => false

/-- The first check of R253 that a descriptor fails: 1 alignment, 2 a region's end, 3 reserved fields, 4 a space not allowed, 5 dmode 2
elsewhere, 6 the tally counter, 7 the channel to another panel, 8 a check unit already locked (R269). -/
def State.descFault (s : State) (port : Nat) (d : BitVec 512) : Option Nat :=
  let n := dLen d
  let src := s.srcPlace d 0 (if dSmode d = 0 then n else 1)
  let far := s.farDst d
  let near := !far && dDmode d != 2
  let dn := if dDmode d = 0 then n else 1
  let dst := s.dstPlace d 0 dn
  let past (x : Place) (m : Nat) : Bool := match x with
    | .bad => true
    | .cache _ u => !inPool u m
    | _ => false
  if (dSmode d ≠ 2 ∧ dSrc d % 32 ≠ 0) ∨ (dDmode d ≠ 2 ∧ dDst d % 32 ≠ 0) then some 1
  else if fld d 10 6 ≠ 0 ∨ bit d 39 ∨ fld d 46 2 ≠ 0 ∨ bit d 215 ∨ fld d 218 6 ≠ 0 ∨ fld d 476 36 ≠ 0 ∨ dSmode d = 3 ∨ dDmode d = 3 ∨
      (dSmode d = 2 ∧ dSrc d ≠ 0) ∨ (dDmode d = 2 ∧ 4 ≤ dDst d) then some 3
  else if dSmode d ≠ 2 ∧ (dSrc d / 2 ^ 49 ≠ s.panelId) then some 4
  else if dSmode d ≠ 2 ∧ past src (if dSmode d = 0 then n else 1) then some 2
  else if dSmode d ≠ 2 ∧ !srcAllowed port src then some 4
  else if near ∧ past dst dn then some 2
  else if far ∧ (dDst d / 2 ^ 44 % 32 ≠ 0 ∨ past (s.localPlace (dDst d % 2 ^ 44) (32 * dn)) dn) then some 2
  else if dDmode d = 2 ∧ iodOfPort port ≠ some 0 ∧ iodOfPort port ≠ some 3 then some 5
  else if dPost d ∧ !far ∧ (isDark (dTport d) ∨ !ctrInRange (dTport d) (dCtr d)) then some 6
  else if far ∧ !(match s.chan? (relayIod port d) (dChan d) with
      | some c => c.state == chanOpen && dChan d != 0
      | none => false) then some 7
  else if dDmode d = 2 ∧ (s.check (dUnit port d)).locked then some 8
  else none

/-! ### Rings (R251) -/

/-- A channel of a mover. -/
def State.mchan (s : State) (port c : Nat) : MChan := mapGet MChan.reset (s.mover port).chans c
def State.setMchan (s : State) (port c : Nat) (v : MChan) : State :=
  let m := s.mover port
  s.setMover port { m with chans := mapSet m.chans c v }

/-- A ring entry. -/
def MChan.entry (c : MChan) (e : Nat) : BitVec 512 := mapGet 0 c.ring e

/-- A mover and a channel that exist (Table 10.1). -/
def moverThere (port chan : Nat) : Bool := (isSite port || (iodOfPort port).isSome) && decide (chan < moverChans port)

/-- Entries are written to the ring store, byte 0 with own last, and then the producer index, whose change ends idleness (R251). -/
def execDescriptorPost (port chan : Nat) (entries : List (Nat × BitVec 512)) (producer : Nat) (s : State) : Out :=
  .next (if !moverThere port chan then s
    else
      let c := s.mchan port chan
      s.setMchan port chan { c with ring := entries.foldl (fun r e => mapSet r (e.1 % ringSize port) e.2) c.ring
                                    producer := producer % ringSize port
                                    idle := c.idle && c.producer == producer % ringSize port })

/-- A descriptor fetched. -/
def newActive (e : Nat) (d : BitVec 512) (lock : Bool) : Active :=
  { entry := e, desc := d, reads := [], readUnits := 0, data := [], issued := 0, writes := [], done := 0, broken := false, halted := false
    codes := [], slots := 0, lock := lock }

/-- Every read of a descriptor has issued, or it issues nothing more (R255). -/
def Active.readsIssued (a : Active) : Bool := a.halted || decide (dLen a.desc ≤ a.readUnits)

/-- The mover fetches the entry at a channel's consumer index (R251, R253, R255): an entry with own = 0 makes the channel idle; with
fence = 1 it waits for every earlier one; a malformed one ends BUS_ERROR, halts its channel and is reported. -/
def execDescriptorFetch (port chan : Nat) (s : State) : Out :=
  let c := s.mchan port chan
  let e := c.consumer
  let d := c.entry e
  let last := match c.active.getLast? with
    | some a => a.readsIssued
    | none => true
  .next (if !moverThere port chan ∨ (s.mover port).stop.isSome ∨ c.halted ∨ c.idle ∨ c.active.any (fun a => a.entry == e) then s
    else if !dOwn d then s.setMchan port chan { c with idle := true }
    else if !last ∨ (dFence d ∧ !c.active.isEmpty) then s
    else
      let c := { c with consumer := (e + 1) % ringSize port }
      match s.descFault port d with
      | some k =>
        ((s.setMchan port chan { c with halted := true, active := c.active ++ [{ newActive e d false with halted := true, codes := [.busError] }] }).bump
          .D0A06 port 1).raise evDescError port [chan, e, k]
      | none =>
        let lock := dDmode d == 2
        let s := s.setMchan port chan { c with active := c.active ++ [newActive e d lock] }
        if lock then s.setCheck (dUnit port d) { s.check (dUnit port d) with locked := true } else s)

/-! ### Reading ahead (R254) -/

/-- Units in a channel's data queue. -/
def MChan.queued (c : MChan) : Nat := (c.active.map (fun a => a.data.length)).sum

/-- Reads outstanding on a mover. -/
def Mover.outstanding (m : Mover) : Nat := (m.chans.map (fun p => (p.2.active.map (fun a => a.reads.length)).sum)).sum

/-- A pace mark in units (D.0A03): 0 low, 1 high; doubled at I/O dies. -/
def State.paceMark (s : State) (port k : Nat) : Nat :=
  32 * packedGet (s.obj .D0A03 port) 1 k * (if (iodOfPort port).isSome then 2 else 1)

/-- The channel issues reads now: it starts below the low mark and stops at the high mark (R254). -/
def State.pacing (s : State) (port : Nat) (c : MChan) : Bool :=
  if c.reading then decide (c.queued < s.paceMark port 1) else decide (c.queued < s.paceMark port 0)

/-- Units of the next read request: those in one 256-B block of the source (R254). -/
def nextRead (a : Active) : Nat :=
  let left := dLen a.desc - a.readUnits
  if dSmode a.desc = 0 then min left (8 - (dSrc a.desc / 32 + a.readUnits) % 8) else min left 8

/-! ### Stops and halts (R257, R258) -/

/-- Codes that halt a channel (R257). -/
def haltsChan (k : Code) : Bool := decide (k = .accessDenied) || decide (k = .targetAbsent) || decide (k = .aborted) || decide (k = .timeout)

/-- Codes that stop the mover (R258). -/
def stopsMover (k : Code) : Bool := decide (k = .busError) || decide (k = .pathReset)

/-- The mover stops (R258): no channel issues anything more, reads are forgotten, and the stop is counted and reported. -/
def State.stopMover (s : State) (port : Nat) (k : Code) : State :=
  let m := s.mover port
  if m.stop.isSome then s
  else
    let busy := (m.chans.filter (fun p => !p.2.active.isEmpty)).map (fun p => p.1)
    let still (c : MChan) : MChan := { c with active := c.active.map (fun a => { a with halted := true, reads := [] }) }
    ((s.setMover port { m with chans := m.chans.map (fun p => (p.1, still p.2)), stop := some k, settled := false }).bump .D0A01 port 1).raise
      evMoverStop port [codeNum k, (busy.map (fun c => 2 ^ c)).sum]

/-- A response's code at a descriptor: kept; a code of R257 ends its issue and halts its channel; one of R258 stops the mover. -/
def State.judgeResponse (s : State) (port chan : Nat) (f : Active → Bool) (k : Code) : State :=
  let c := s.mchan port chan
  let s := s.setMchan port chan { c with
    halted := c.halted || haltsChan k
    active := mapFirst f (fun a => { a with codes := k :: a.codes, halted := a.halted || haltsChan k || stopsMover k }) c.active }
  if stopsMover k then s.stopMover port k else s

/-- A descriptor has a read outstanding. -/
def Active.hasRead (a : Active) : Bool := !a.reads.isEmpty

/-- A descriptor has a write outstanding. -/
def Active.hasWrite (a : Active) : Bool := !a.writes.isEmpty

/-- A code that a mover can be told (R257): the unit that detects an uncorrectable error reports it itself, and what it forwards is poisoned
(R19); a merge is none of its operations. -/
def moverCode (k : Code) : Code := if k = .eccUncorrected then .poisoned else if k = .mergeTimeout then .ok else k

/-- What a tile-die mover reads of a memory: a tile store of its own site with what ECC finds there (R71), or another place (R250). -/
def State.moverRead (s : State) (x : Place) (k : Nat) (ue : List Nat) (ce : Nat) : State × Code × List Cell32 :=
  match x with
  | .store p t u =>
    let s := s.storeEcc p t (inRegions [{ base := u, len := k }]) { ue := ue.map (fun i => u + i), ce := ce }
    let l := s.unitsAt (storeAddr p t u) k
    (s, if anyMark l then .poisoned else .ok, l)
  | x => s.readPlace x k ue ce

/-- The offset of a descriptor's oldest read. -/
def Active.readAt (a : Active) : Nat := a.readUnits - (a.reads.map (fun r => r.units)).sum

/-- What the oldest read of a descriptor brings: through the base its reply slot's answer, once that has come (R139); at a tile die what its
own memories give now. -/
def State.readBrings (s : State) (port : Nat) (a : Active) (r : MRead) (ue : List Nat) (ce : Nat) : Option (State × Code × List Cell32) :=
  if r.slot.isSome then r.answer.map (fun x => (s, x.1, x.2))
  else
    let k := if dSmode a.desc = 0 then r.units else 1
    let x := s.srcPlace a.desc a.readAt k
    some (if (iodOfPort port).isSome then s.readPlace x k ue ce else s.moverRead x k ue ce)

/-- The oldest read of a channel ends (R254): its data enters the data queue, or a code other than OK or POISONED, which brings none, is
judged (R257, R258). `errorOnly`: it ends only with such a code. -/
def State.readEnds (s : State) (port chan : Nat) (errorOnly : Bool) (ue : List Nat) (ce : Nat) : State :=
  match (s.mchan port chan).active.find? Active.hasRead with
  | none => s
  | some a =>
    let r := a.reads.headD { units := 0 }
    match s.readBrings port a r ue ce with
    | none => s
    | some (s1, k, l) =>
      let code := moverCode k
      let ok := decide (code = .ok) || decide (code = .poisoned)
      let l := if dSmode a.desc = 0 then l else List.replicate r.units (l.headD default)
      if ok && errorOnly then s
      else
        let c := s1.mchan port chan
        let s := s1.setMchan port chan { c with active := mapFirst Active.hasRead (fun a =>
          { a with reads := a.reads.tail, data := if ok && !a.halted then a.data ++ l else a.data
                   codes := if ok then code :: a.codes else a.codes }) c.active }
        if ok then s else s.judgeResponse port chan (fun b => b.entry == a.entry) code

/-- The oldest read's data enters the channel's data queue (R254). -/
def execMoverReadData (port chan : Nat) (ueUnits : List Nat) (ce : Nat) (s : State) : Out := .next (s.readEnds port chan false ueUnits ce)

/-! ### Writes (R252, R255, R256) -/

/-- The descriptor that issues writes: the first with units not yet issued. -/
def Active.mayWrite (a : Active) : Bool := !a.halted && decide (a.issued < dLen a.desc) && !a.data.isEmpty

/-- Units of the next write, if the queue holds them: a 256-B block of a local memory, a packet of up to 128 units, a slot payload of up to
368, one unit for a check unit. -/
def nextWrite (isLocal far check : Bool) (reading : Bool) (a : Active) : Nat :=
  let left := dLen a.desc - a.issued
  if check then 1
  else
    let n := if isLocal then (if dDmode a.desc = 0 then min left (8 - (dDst a.desc / 32 + a.issued) % 8) else min left 8)
      else if far then min left 128 else min left 368
    if n ≤ a.data.length then n else if reading then 0 else a.data.length

/-- The port, kind, tile and unit of a slot toward a place of this panel. -/
def State.slotTarget (s : State) : Place → Option (Nat × Nat × Nat × Nat)
  | .vault p t u => some (p, 3, t, u)
  | .cache f u => some (s.cachePort f, 1, 0, u)
  | .store p t u => some (p, 0, t, u)
  | _ => none

/-- The code of a write to a place that no slot reaches: a stack that no site holds, or an address with no memory. -/
def noTarget (x : Place) : Code := if x = .absent then .targetAbsent else .busError

/-- A write has been issued: its units leave the queue, and its response is awaited. -/
def State.wrote' (s : State) (port chan entry n : Nat) (w : MWrite) : State :=
  let c := s.mchan port chan
  s.setMchan port chan { c with active := mapFirst (fun a => a.entry == entry) (fun a =>
    { a with issued := a.issued + n, data := a.data.drop n, writes := a.writes ++ [w], slots := a.slots + 1 }) c.active }

/-- The place of a write is local to a tile-die mover: its own site's vaults and tile stores. -/
def localTo (port : Nat) : Place → Bool
  | .vault p _ _ => p == port
  | .store p _ _ => p == port
  | _ => false

/-- The descriptor that issues reads: the first with units not yet asked for. -/
def Active.mayRead (a : Active) : Bool := !a.halted && decide (a.readUnits < dLen a.desc)

/-- How a descriptor writes: to another panel, to a check unit, to a local memory; and the units of its next write. -/
def State.writeShape (s : State) (port chan : Nat) (a : Active) : Bool × Bool × Bool × Nat :=
  let far := s.farDst a.desc
  let check := dDmode a.desc == 2
  let isLocal := !far && !check && localTo port (s.dstPlace a.desc a.issued 1)
  (far, check, isLocal, nextWrite isLocal far check (s.pacing port (s.mchan port chan)) a)

/-- The plane of a descriptor's next slot (R255, R148). -/
def State.planeOf (s : State) (chan : Nat) (a : Active) : Nat := s.effPlane ((chan + a.slots) % 8)

/-- A headgate takes another staged slot with its bid. -/
def Gate.hasRoom (g : Gate) : Bool := decide (g.staging.length < 8) && decide (g.bids.length < 64)

/-! ### Whose turn it is (R255) -/

/-- The port and the space of Table 6.6 through which an I/O-die mover asks for units of a place, and the record's tile and address. -/
def State.readTarget (s : State) : Place → Option (Nat × Nat × Nat × Nat)
  | .vault p t u => some (p, 0, t, u)
  | .cache f u => some (s.cachePort f, 1, 0, u)
  | _ => none

/-- A read goes through the base as a kind-4 slot (R254): an I/O-die mover's from a vault or a field cache. -/
def State.readBySlot (s : State) (port : Nat) (a : Active) : Bool :=
  (iodOfPort port).isSome && dSmode a.desc != 2 && (s.readTarget (s.srcPlace a.desc a.readUnits 1)).isSome

/-- The class in which a channel has a read ready: it reads ahead, an outstanding-read place is free, and a slot finds room. -/
def State.readReady (s : State) (port chan : Nat) : Option Cls :=
  let c := s.mchan port chan
  let m := s.mover port
  if m.stop.isSome ∨ !s.pacing port c ∨ moverReads port ≤ m.outstanding then none
  else (c.active.find? Active.mayRead).bind (fun a =>
    if dSmode a.desc = 2 ∨ (s.readBySlot port a && !(s.gate port (s.planeOf chan a)).hasRoom) then none else some (dCls a.desc))

/-- The class in which a channel has a write ready: the units of it stand in its queue, and a slot finds room at its headgate. -/
def State.writeReady (s : State) (port chan : Nat) : Option Cls :=
  if (s.mover port).stop.isSome then none
  else ((s.mchan port chan).active.find? Active.mayWrite).bind (fun a =>
    let (far, check, isLocal, n) := s.writeShape port chan a
    let direct := (far && (iodOfPort port).isSome) || check || isLocal
    if n ≠ 0 ∧ (direct = true ∨ (s.gate port (s.planeOf chan a)).hasRoom = true) then some (dCls a.desc) else none)

/-- The channel that the mover serves next, with the class and the credit left: class A first, classes B to D by the weights of B.0602, and
round robin within a class. -/
def State.moverTurn (s : State) (port : Nat) : Option (Nat × Cls × (Nat × Nat × Nat)) :=
  let m := s.mover port
  let ready := ((List.range (moverChans port)).map (fun c => ((s.readReady port c).toList ++ (s.writeReady port c).toList).map (fun k => (c, k)))).flatten
  let has (k : Cls) : Bool := ready.any (fun e => decide (e.2 = k))
  let next (k : Cls) : Option Nat := afterPointer (mapGet 127 m.turn (clsNum k)) ((ready.filter (fun e => decide (e.2 = k))).map (fun e => e.1))
  if has .A then (next .A).map (fun c => (c, .A, m.credit))
  else (chooseClass m.credit s.weights has).bind (fun x => (next x.1).map (fun c => (c, x.1, spend x.2 x.1)))

/-- It is a channel's turn for what it has ready in the class served. -/
def State.servesNow (s : State) (port chan : Nat) (ready : Option Cls) : Bool :=
  match s.moverTurn port with
  | some (c, k, _) => c == chan && decide (ready = some k)
  | none => false

/-- The turn is taken: the class's credit is spent, and its next turn begins after this channel. -/
def State.takeTurn (s : State) (port : Nat) : State :=
  match s.moverTurn port with
  | some (c, k, cr) =>
    let m := s.mover port
    s.setMover port { m with credit := cr, turn := mapSet m.turn (clsNum k) c }
  | none => s

/-- A read request record as a slot carries it: in the first unit of a 256-B flit (Table 6.6). -/
def recordFlit (space tile addr len rport raddr rid : Nat) (cls : Cls) : List Cell32 :=
  { data := packBits 256 [(0, 2, space), (2, 6, tile), (8, 25, addr), (33, 9, len), (42, 7, rport), (58, 25, raddr), (83, 2, clsNum cls), (85, 16, rid)]
    mark := false } :: List.replicate 7 { data := 0, mark := false }

/-- An I/O-die mover's read request goes out as a kind-4 slot of one record, whose reply lands in its landing buffer (R139, R250, R254); each
identifier has its own 256 B there (log 85). -/
def State.sendRead (s : State) (port chan : Nat) (a : Active) (n : Nat) : State × MRead :=
  let m := s.mover port
  let k := if dSmode a.desc = 0 then n else 1
  let rid := m.serial % 65536
  match (if s.readBySlot port a then s.readTarget (s.srcPlace a.desc a.readUnits k) else none) with
  | none => (s, { units := n })
  | some (q, space, tile, unit) =>
    let plane := s.planeOf chan a
    let g := s.gate port plane
    let cls := dCls a.desc
    let x : Slot := { (default : Slot) with src := port, dst := q, cls := cls, kind := 4, len := 8, tag := readTag a.entry, sender := .mover chan
                                            sidx := a.slots, payload := recordFlit space tile unit k port (8 * (rid % 256)) rid cls }
    let b : Bid := { dst := q, cls := cls, slots := 1, sender := .mover chan, tag := readTag a.entry, sidx := a.slots, retry := false, at' := s.time }
    ((s.setMover port { m with serial := m.serial + 1 }).setGate port plane { g with staging := g.staging ++ [x], bids := g.bids ++ [b] },
      { units := n, slot := some a.slots, rid := rid })

/-- A channel issues its next read (R254) when its turn has come (R255); an immediate source fills the queue without one. -/
def execMoverReadIssue (port chan : Nat) (s : State) : Out :=
  let c := s.mchan port chan
  let go := s.pacing port c
  let c := { c with reading := go }
  .next (match (if (s.mover port).stop.isSome ∨ !go then none else c.active.find? Active.mayRead) with
    | none => s.setMchan port chan c
    | some a =>
      let n := nextRead a
      if dSmode a.desc = 2 then
        s.setMchan port chan { c with active := mapFirst Active.mayRead (fun a =>
          { a with readUnits := a.readUnits + n, data := a.data ++ List.replicate n (immUnit a.desc) }) c.active }
      else if !s.servesNow port chan (s.readReady port chan) then s.setMchan port chan c
      else
        let (s1, r) := (s.takeTurn port).sendRead port chan a n
        s1.setMchan port chan { c with active := mapFirst Active.mayRead (fun a =>
          { a with readUnits := a.readUnits + n, reads := a.reads ++ [r], slots := if r.slot.isSome then a.slots + 1 else a.slots }) c.active })

/-- The place in an I/O die's landing buffer for the relayed pieces of a channel, above those of its own reads' replies (log 85). -/
def relayPlace (chan : Nat) : Nat := 2048 + 128 * chan

/-- A write that goes by a slot is staged and bid for on the plane of its turn (R255). -/
def State.stageWrite (s : State) (port chan : Nat) (a : Active) (x : Slot) : State :=
  let plane := s.planeOf chan a
  let g := s.gate port plane
  let cls := dCls a.desc
  let x := { x with src := port, cls := cls, len := x.payload.length, tag := a.entry, sender := .mover chan, sidx := a.slots }
  let b : Bid := { dst := x.dst, cls := cls, slots := 1, sender := .mover chan, tag := a.entry, sidx := a.slots, retry := false, at' := s.time }
  s.setGate port plane { g with staging := g.staging ++ [x], bids := g.bids ++ [b] }

/-- A channel issues its next write (R252, R254 to R256): to a local memory, to a check unit, as a COPY packet on its channel (which a tile-die
mover relays in a slot to that I/O die's landing buffer), or as a slot staged and bid for on the plane of its turn. A fixed destination takes the last unit of the
group alone. -/
def execMoverWriteIssue (port chan : Nat) (s : State) : Out :=
  let c := s.mchan port chan
  .next (match (if s.servesNow port chan (s.writeReady port chan) then c.active.find? Active.mayWrite else none) with
    | none => s
    | some a =>
      let d := a.desc
      let (far, check, isLocal, n) := s.writeShape port chan a
      let fixed := dDmode d == 1
      let l := if fixed then (a.data.take n).drop (n - 1) else a.data.take n
      let s := s.takeTurn port
      if check then
        let u := s.check (dUnit port d)
        let fed := u.feed (bytesOf (l.headD default).data 32)
        (s.setCheck (dUnit port d) { fed with locked := u.locked, feeds := u.feeds + 1 }).wrote' port chan a.entry n
          { count := n, land := none, data := [], at' := s.time }
      else if far then
        let i := relayIod port d
        let p : Packet := { (default : Packet) with type := 2, cls := dCls d, gaddr := dDst d + (if fixed then 0 else 32 * a.issued), ctr := dCtr d
                                                    tport := dTport d, post := dPost d, len := 32 * l.length, payload := l }
        let w : MWrite := { count := n, land := none, data := [], at' := s.time, copy := some (i, dChan d, p.gaddr) }
        if (iodOfPort port).isSome then (s.wrote' port chan a.entry n w).postEntry i (dChan d) 0 p
        else
          (s.stageWrite port chan a { (default : Slot) with dst := portOfIod i, kind := 0, taddr := relayPlace chan, payload := l, relay := some (dChan d, p) }).wrote'
            port chan a.entry n { w with slot := some a.slots }
      else if isLocal then s.wrote' port chan a.entry n { count := n, land := some a.issued, data := l, at' := s.time }
      else
        match s.slotTarget (s.dstPlace d a.issued l.length) with
        | none => s.wrote' port chan a.entry n { count := n, land := none, data := [], at' := s.time, answer := some (noTarget (s.dstPlace d a.issued l.length)) }
        | some (q, kind, tile, unit) =>
          (s.stageWrite port chan a { (default : Slot) with dst := q, kind := kind, ttile := tile, taddr := unit, payload := l }).wrote' port chan a.entry n
            { count := n, land := none, data := [], at' := s.time, slot := some a.slots })

/-- The oldest write of a channel ends with a code: a local one lands; its units count in D.0A02 and, while the prefix is unbroken, in
done. -/
def State.writeEnds (s : State) (port chan : Nat) (a : Active) (w : MWrite) (k : Code) : State :=
  let ok := decide (k = .ok) || decide (k = .poisoned)
  let s := match w.land with
    | some off => if ok then
        (match s.dstPlace a.desc off w.data.length with
          | .vault p t u => s.vaultWrite p t u w.data
          | .store p t u => (s.arrive p t u w.data).1
          | _ => s)
        else s
    | none => s
  let s := if ok then s.bump .D0A02 port w.count else s
  let c := s.mchan port chan
  let s := s.setMchan port chan { c with active := mapFirst (fun b => b.entry == a.entry) (fun b =>
    { b with writes := b.writes.tail, broken := b.broken || !ok, done := if ok && !b.broken then b.done + w.count else b.done }) c.active }
  s.judgeResponse port chan (fun b => b.entry == a.entry) (if ok ∧ anyMark w.data then worse k .poisoned else k)

/-- The code of a write's response, once it has come (R256): of a slot or a COPY packet what its verdict or ACK brought; of a check unit OK when
the feed has ended; a memory of the mover's own site as it takes the write, which waits for a column that does not serve. -/
def State.writeCode (s : State) (port : Nat) (a : Active) (w : MWrite) : Option Code :=
  match w.land with
  | none =>
    if dDmode a.desc = 2 then (if (s.check (dUnit port a.desc)).feeds < a.writes.length then some .ok else none) else w.answer.map moverCode
  | some off => match s.dstPlace a.desc off w.data.length with
    | .vault p t _ => if s.band p = bandB4 then some .accessDenied else if s.colServes p t then some .ok else none
    | .store p t u => some (if ((s.tile p t).sleeping u w.data.length).isSome then .accessDenied else .ok)
    | x => some (noTarget x)

/-- A response reaches the mover (R256 to R258): to the channel's oldest read, which brings no data, or to its oldest write. -/
def execMoverResponse (port chan : Nat) (isRead : Bool) (s : State) : Out :=
  let c := s.mchan port chan
  .next (if isRead then s.readEnds port chan true [] 0
    else match c.active.find? Active.hasWrite with
      | none => s
      | some a =>
        let w := a.writes.headD { count := 0, land := none, data := [], at' := 0 }
        match s.writeCode port a w with
        | some k => s.writeEnds port chan a w k
        | none => s)

/-- A response has not come within D.0A04: it counts as TIMEOUT (R256). -/
def execWriteResponseTimeout (port chan : Nat) (s : State) : Out :=
  let c := s.mchan port chan
  .next (match c.active.find? Active.hasWrite with
    | none => s
    | some a =>
      let w := a.writes.headD { count := 0, land := none, data := [], at' := 0 }
      if w.at' + 1000 * s.obj .D0A04 port < s.time then
        (s.writeEnds port chan a w .timeout).raise evResponseLate port [chan, a.entry]
      else s)

/-- Every response of a stopped mover has come (R258). -/
def execMoverStopSettled (port : Nat) (s : State) : Out :=
  let m := s.mover port
  .next (if m.stop.isSome ∧ m.chans.all (fun p => p.2.active.all (fun a => a.writes.isEmpty)) then s.setMover port { m with settled := true }
    else s)

/-! ### Completion (R256) -/

/-- A descriptor has the response of every write it issued and issues no more. -/
def Active.finished (a : Active) : Bool := a.writes.isEmpty && (a.halted || decide (dLen a.desc ≤ a.issued))

/-- A descriptor with its status (Table 10.3). -/
def withStatus (d : BitVec 512) (time done : Nat) (k : Code) : BitVec 512 :=
  BitVec.ofNat 512 (d.toNat % 2 ^ 384 - d.toNat % 2 + 2 ^ 384 * (time % 2 ^ 64) + 2 ^ 448 * (done % 2 ^ 24) + 2 ^ 472 * codeNum k)

/-- The completion message of a mover (Table 10.5). -/
def moverMsg (chan entry : Nat) (k : Code) (done user : Nat) : BitVec 448 :=
  BitVec.ofNat 448 (chan % 32 + 2 ^ 5 * (entry % 256) + 2 ^ 13 * codeNum k + 2 ^ 17 * (done % 2 ^ 24) + 2 ^ 64 * user)

/-- Priority beats that a completion takes of the attachment point of physical tile 22 (R81, Table 4.2). -/
def beatsOf (d : BitVec 512) (posts : Bool) : Nat := (if posts then 1 else 0) + (if dMsg d then 1 else 0)

/-- The oldest descriptor of a channel completes (R256): its post, its status with own cleared, and its completion message; a stopped
mover's end with the stopping code once its responses have come (R258); the check unit is unlocked (R269). -/
def execDescriptorComplete (port chan : Nat) (s : State) : Out :=
  let c := s.mchan port chan
  let m := s.mover port
  .next (match c.active with
    | [] => s
    | a :: rest =>
      let d := a.desc
      let posts := dPost d && !s.farDst d && decide (0 < a.done)
      let need := if (iodOfPort port).isSome then 0 else beatsOf d posts
      let q := s.site port
      if !a.finished ∨ (m.stop.isSome ∧ !m.settled) ∨ mapGet 16 q.attach 22 < need then s
      else
        let k := m.stop.getD (worst a.codes)
        let s := if need = 0 then s else s.setSite port { q with attach := mapSet q.attach 22 (mapGet 16 q.attach 22 - need) }
        let post : Post := { src := port, port := dTport d, ctr := dCtr d, inc := a.done, step := false, wave16 := 0, replica := 0, slot := 0 }
        let s := if posts then s.sendPost post else s
        let s := s.setMchan port chan { c with active := rest, ring := mapSet c.ring a.entry (withStatus (c.entry a.entry) s.time a.done k) }
        let s := if a.lock then s.setCheck (dUnit port d) { s.check (dUnit port d) with locked := false } else s
        if dMsg d then s.moverMail port (if dMseq d then 64 + port else dMbox d) (moverMsg chan a.entry k a.done (dUser d)) chan else s)

/-! ### Resume and abort (R259) -/

/-- The first entry with own = 1 from an index onward. -/
def MChan.firstOwned (c : MChan) (e size : Nat) : Nat :=
  ((List.range size).map (fun i => (e + i) % size)).find? (fun x => dOwn (c.entry x) && !c.active.any (fun a => a.entry == x)) |>.getD e

/-- A channel continues at its first entry with own = 1. -/
def MChan.resumed (c : MChan) (size : Nat) : MChan := { c with halted := false, idle := false, consumer := c.firstOwned c.consumer size }

/-- A halted channel's resume bit is written; while the mover is stopped it has no effect (R259). -/
def execChannelResume (port chan : Nat) (s : State) : Out :=
  let c := s.mchan port chan
  .next (if c.halted ∧ (s.mover port).stop.isNone then s.setMchan port chan (c.resumed (ringSize port)) else s)

/-- Every entry with own = 1 from the consumer index on, not yet fetched, in ring order. -/
def MChan.unstarted (c : MChan) (size : Nat) : List Nat :=
  (List.range size).map (fun i => (c.consumer + i) % size) |>.filter (fun e => dOwn (c.entry e) && !c.active.any (fun a => a.entry == e))

/-- A channel's ABORT bit (R259): entries not started end ABORTED with done = 0 and move nothing; a descriptor fetched issues nothing
more and ends with its responses. -/
def execChannelAbort (port chan : Nat) (s : State) : Out :=
  let c := s.mchan port chan
  let es := c.unstarted (ringSize port)
  .next (if !moverThere port chan then s
    else s.setMchan port chan { c with
      active := c.active.map (fun a => { a with halted := true, codes := .aborted :: a.codes }) ++
        es.map (fun e => { newActive e (c.entry e) false with halted := true, codes := [.aborted] })
      consumer := (match es.getLast? with
        | some e => (e + 1) % ringSize port
        | none => c.consumer) })

/-- D.0A05 resumes a stopped mover's channels together once its responses have come, or a mover's halted channels (R259); earlier it is
refused. Answers whether it was taken. -/
def State.resumeMover (s : State) (port : Nat) : State × Bool :=
  let m := s.mover port
  if m.stop.isSome ∧ !m.settled then (s, false)
  else
    let ended (c : MChan) : MChan := match m.stop with
      | some k => { c with active := c.active.map (fun a => { a with codes := [k] }) }
      | none => c
    (s.setMover port { m with chans := m.chans.map (fun p => (p.1, if m.stop.isSome ∨ p.2.halted then (ended p.2).resumed (ringSize port) else p.2)), stop := none, settled := true }, true)

/-- The state of a channel in D.0A00: 0 idle, 1 running, 2 halted, 3 stopped (R271). -/
def State.moverState (s : State) (port chan : Nat) : Nat :=
  let c := s.mchan port chan
  if (s.mover port).stop.isSome then 3 else if c.halted then 2 else if c.active.isEmpty then 0 else 1

end Sys2Proof.Machine
end

