-- ==== Sys2Proof/Machine/Loss.lean ====
section
/-!
DEFINITION. What the island does when supplies go and come (R303, R308, R309, R363, R412, R421): the black-box flush, emergency bits, pins,
and what a site, an I/O die, a field and a zone lose.
-/

namespace Sys2Proof.Machine

/-! ### Zones and states -/

/-- States of P.0C06. -/
def zoneIsOn : Nat := 0
def zoneIsOff : Nat := 1
def zoneHeat : Nat := 2
def zoneFuse : Nat := 3
def zoneFeedLost : Nat := 4

/-- A zone has supply: a site zone that is on, or the spine while one feed is on. -/
def State.zoneOn (s : State) (z : Nat) : Bool :=
  if z < 14 then s.obj .P0C06 z == zoneIsOn else s.obj .P0C06 14 == zoneIsOn || s.obj .P0C06 15 == zoneIsOn

/-- The lamp dies' zone is that of their I/O die. -/
def zoneOfIod (i : Nat) : Nat := zoneOf (portOfIod i)

/-- The control unit on an I/O die: CU-A 0 on IOD0, CU-B 1 on IOD3. -/
def unitOfIod (i : Nat) : Option Nat := if i = 0 then some 0 else if i = 3 then some 1 else none

/-- Roles of W.0000. -/
def cuActive : Nat := 0
def cuStandby : Nat := 1
def cuRestarting : Nat := 2
def cuResyncing : Nat := 3
def cuDemoted : Nat := 4
def cuAbsent : Nat := 5

/-- States of W.000C. -/
def updIdle : Nat := 0
def updVerified : Nat := 1
def updQueued : Nat := 2
def updHanding : Nat := 3
def updCommitted : Nat := 4
def updAborted : Nat := 5

/-! ### The black box (R363) -/

/-- The island flushes: BB_FLUSH with its cause (R385) and the oldest index, and a generation of 4,096 records into the erased slot of both
flashes. -/
def State.flushBb (s : State) (cause : Nat) : State :=
  let first := ((s.log.bb.take 4095).getLast?.map (fun r => r.index)).getD (s.log.bbNext % 2 ^ 32)
  let s := s.raise evBbFlush noSubject [cause, first]
  { s with log := { s.log with flash := (s.log.bb :: s.log.flash).take 4, erased := false, flushing := some s.time } }

/-! ### Notices and updates -/

/-- Data of an event, 32 bits each (log 40). -/
def packData (l : List Nat) : Nat := (l.zipIdx.map (fun p => p.1 % 2 ^ 32 * 2 ^ (32 * p.2))).sum

/-- The island's notice to the control unit in mailbox 20 (Table 14.8): kind 0 band change, 1 zone state, 2 emergency bits, 3 epoch change. -/
def State.islandNotice (s : State) (kind : Nat) (data : List Nat) : State :=
  s.mailWrite 20 (BitVec.ofNat 448 (kind + 2 ^ 8 * packData data)) 6 0 0 63 0

/-- A hand-over is aborted before its commit (R358): cause 0 an emergency, which returns the update to queued; any other returns it to
aborted. The new unit restarts on its old slot. -/
def State.abortUpdate (s : State) (cause : Nat) : State :=
  if s.obj .W000C 0 ≠ updHanding then s
  else
    let u := s.update.newUnit
    let c := s.unit u
    let s := (s.setUnit u { c.writeBoot (!c.bootB) with running := none, procs := [] }).setObj .W0000 u cuRestarting
    let s := { s with update := { s.update with startedAt := none } }
    (s.setObj .W000C 0 (if cause = 0 then updQueued else updAborted)).raise evUpdateAborted noSubject [cause]

/-! ### Emergencies and pins (R303, R308, R412) -/

/-- A region stands in band `b` or higher. -/
def State.anyBand (s : State) (b : Nat) : Bool :=
  let hot (v : Nat) : Bool := decide (b ≤ v) && decide (v ≤ bandB4)
  usedPorts.any (fun p => hot (s.obj .T0120 p)) || (List.range 12).any (fun i => hot (s.obj .T0124 i)) ||
    (List.range 8).any (fun i => hot (s.obj .T0125 i)) || hot s.heat.island

/-- The input is outside 40.0 V to 59.5 V. -/
def State.inputOut (s : State) : Bool := decide (s.power.mv < 40000) || decide (59500 < s.power.mv)

/-- The cause of an emergency bit is present now (R308); an opening fuse and a trip are instants. -/
def State.emergencyCause (s : State) (n : Nat) : Bool :=
  if n = 0 then s.inputOut
  else if n = 3 then (List.range 14).any (fun z => s.obj .P0C06 z == zoneHeat)
  else if n = 4 then s.anyBand bandB4
  else if n = 5 then s.power.tripped else false

/-- An emergency bit is set (R308): the control unit is told, and a hand-over is aborted (R358). -/
def State.setEmergency (s : State) (n : Nat) : State :=
  let was := bitGet (s.obj .P0C0C 0) n
  let s := (s.setBit .P0C0C 0 n true)
  if was then s else (s.islandNotice 2 [s.obj .P0C0C 0]).abortUpdate 0

/-- An emergency whose cause is an instant: its absence counts from now. -/
def State.pulseEmergency (s : State) (n : Nat) : State :=
  let s := s.setEmergency n
  { s with power := { s.power with emergencyGone := mapSet s.power.emergencyGone n s.time } }

/-- Judge the emergency bits of standing causes. -/
def State.judgeEmergency (s : State) : State :=
  [0, 3, 4, 5].foldl (fun s n =>
    if s.emergencyCause n then
      let s := s.setEmergency n
      { s with power := { s.power with emergencyGone := mapDel s.power.emergencyGone n } }
    else if bitGet (s.obj .P0C0C 0) n ∧ !(s.power.emergencyGone.any (fun e => e.1 == n)) then
      { s with power := { s.power with emergencyGone := mapSet s.power.emergencyGone n s.time } }
    else s) s

/-- ALERT_N (R303). -/
def State.alertCause (s : State) : Bool :=
  s.anyBand 3 || (List.range 16).any (fun z => s.obj .P0C06 z == zoneHeat || s.power.fuseOpenAt.any (fun e => e.1 == z)) ||
    (usedPorts.filter isSite).any (fun p => decide (s.obj .P0C09 p < 1800))

/-- PG_N (R412): from the end of stage 4, while the input is in range and every zone that is meant to be on is on. -/
def State.powerGood (s : State) : Bool :=
  decide (5 ≤ s.startup.stage) && !s.inputOut && !s.power.stby && !s.power.tripped && !s.power.failed &&
    (List.range 14).all (fun z => s.obj .P0C06 z != zoneIsOff) && s.zoneOn 14

/-- Drive the outputs of the management connector. -/
def State.showPins (s : State) : State :=
  { s with pins := { s.pins with pgN := s.powerGood, alertN := s.alertCause && s.power.islandRuns, tripN := s.power.tripped } }

/-- A cause of a trip is present (R306). -/
def State.tripCause (s : State) : Bool :=
  s.heat.island == bandB4 || decide (7000 < s.heat.outlet) || (s.power.fuseOpenAt.any (fun e => e.1 == 14) && s.power.fuseOpenAt.any (fun e => e.1 == 15)) ||
    (s.inputOut && !s.power.holdUpCharged)

/-- Since when every cause of a trip has been absent (R412). -/
def State.judgeTrip (s : State) : State :=
  { s with power := { s.power with causesGoneSince := if s.tripCause then none else s.power.causesGoneSince.or (some s.time) } }

/-- Since when both the always-on feed and the input have failed: the island then runs on the hold-up store's last charge (R290). -/
def State.judgeHoldUp (s : State) : State :=
  { s with power := { s.power with holdUpFrom := if !s.power.aonFeed && s.inputOut then s.power.holdUpFrom.or (some s.time) else none } }

/-- What follows every change of supply or heat. -/
def State.settleIsland (s : State) : State := s.judgeTrip.judgeEmergency.judgeHoldUp.showPins

/-! ### The end of a lease (R343, R345) -/

/-- The lease ends: the old epoch is no longer current, and what waited for the comparator is discarded (R350). Causes of LEASE_CHANGE: 0
expiry, 1 release, 2 revocation, 3 grant. -/
def State.endLease (s : State) (cause : Nat) : State :=
  match s.keeper.holder with
  | none => s
  | some u =>
    let s := s.raise evLeaseChange noSubject [u, 2, s.keeper.epoch, cause]
    let s : State := { s with keeper := { s.keeper with holder := none, overlap := none }, compare := { s.compare with holding := false, pending := [] } }
    (if s.obj .W0000 u = cuActive then s.setObj .W0000 u cuResyncing else s).setObj .W0002 0 2

/-! ### Losing supply -/

/-- Every rail of a site is off (R304, R398): the stack's vaults and tile stores are lost, its queues and its mover with them. -/
def State.siteOff (s : State) (p : Nat) : State :=
  let q := s.site p
  let s := (s.clearRange (vaultAddr p 0 0) (vaultAddr (p + 1) 0 0)).clearRange (storeAddr p 0 0) (storeAddr (p + 1) 0 0)
  let s := s.setSite p { Site.reset with usable := q.usable, mapOut := q.mapOut, tripped := q.tripped, retest := q.retest }
  let s := s.setMover p { chans := [], stop := none, settled := true }
  let s : State := { s with tiles := s.tiles.filter (fun e => e.1.1 != p), cols := s.cols.filter (fun e => e.1.1 != p)
                            layers := s.layers.filter (fun e => e.1.1 != p), gates := s.gates.filter (fun e => e.1.1 != p) }
  (((s.setObj .C0B06 p 0).setObj .P0C0D p 0).setObj .M0504 p 0).setObj .M050F p 0

/-- The streams that an I/O die serves for use IOD (i XOR 1) from now on, where their transit tickets are reserved (R376). -/
def State.moveStreams (s : State) (i : Nat) : State :=
  let d := s.iod i
  let e := s.iod (i ^^^ 1)
  if !e.powered then s else
  let s := s.setIod (i ^^^ 1) { e with resTickets := e.resTickets + d.resTickets, resCells := e.resCells + d.resCells }
  { s with streams := s.streams.map (fun p => (p.1, p.2.map (fun x => if x.iod = i then { x with moved := !x.moved } else x))) }

/-- An I/O die is unpowered: its links go DOWN, its lanes are DARK, its channels are lost, the streams it serves for move to its neighbour die (R376), and a
control unit on it is absent (R345). -/
def State.iodOff (s : State) (i : Nat) : State :=
  let s := s.moveStreams i
  let s := (List.range 6).foldl (fun s d => s.dropLink (6 * i + d)) s
  let s := ((s.setIod i Iod.reset).setObj .F090D i 0).startLanes i
  let s := (s.setMover (portOfIod i) { chans := [], stop := none, settled := true }).clearRange (landingAddr i 0) (landingAddr (i + 1) 0)
  match unitOfIod i with
  | some u =>
    let s := if s.keeper.holder = some u then s.endLease 2 else s
    let s : State := { s with keeper := { s.keeper with requests := s.keeper.requests.filter (fun v => v != u) } }
    let c := s.unit u
    (s.setUnit u { c with procs := [], renewSent := none, resyncFrom := none, words := [], running := none, ring := [], ringNext := 0 }).setObj
      .W0000 u cuAbsent
  | none => s

/-- The base logic of a field is unpowered or reset: its cache reads zero, its controllers and stations are empty (R400). -/
def State.fieldOff (s : State) (f : Nat) : State :=
  let s := s.clearRange (cacheAddr f 0) (cacheAddr (f + 1) 0)
  let s := s.setField f { writeQ := [], reads := [], lines := [], epoch := 0, scrubAt := 0 }
  [2 * f, 2 * f + 1].foldl (fun s p => s.setStation p { opens := [], tickets := [] }) s

/-- The entry of a site in X.0F02. -/
def spareIndex (p : Nat) : Option Nat := (List.range 8).find? (fun i => spareSites.getD i 999 == p)

/-- Set X.0F02 of a spare site. -/
def State.showSpare (s : State) (p v : Nat) : State :=
  match spareIndex p with
  | some i => s.setObj .X0F02 i v
  | none => s

/-- A site in a zone without supply: one that held a logical stack returns only through a retest (R421); a dormant spare is lost until its
zone returns. -/
def State.siteLost (s : State) (p : Nat) : State :=
  let held := (s.stackOf p).isSome || s.inService p
  let s := s.setSite p { s.site p with retest := (s.site p).retest || held }
  (if s.obj .B0601 p = portDormant ∧ !held then s.showSpare p 3 else s).siteOff p

/-- Everything in a zone that its supply feeds is off (R293, R309). -/
def State.zoneDown (s : State) (z : Nat) : State :=
  let s := (zonePorts z).foldl (fun s p => if isSite p then s.siteLost p else s) s
  let s := (zoneFields z).foldl (fun s f => s.fieldOff f) s
  let s : State := { s with recovery := { s.recovery with resets := mapDel s.recovery.resets z, resetWait := s.recovery.resetWait.filter (fun e => e.1 != z) } }
  match iodOfZone z with
  | some i => (lampsOfIod i).foldl (fun s d => s.loseLamp d 1) (s.iodOff i)
  | none => s

/-- Every zone and both spine feeds are switched off. -/
def State.allOff (s : State) : State :=
  let s := usedPorts.foldl (fun s p => if s.inService p then s.setObj .B0601 p portWithdrawn else s) s
  let s := { s with withdrawing := [], markets := [], posts := [] }
  let s := (List.range 15).foldl (fun s z => s.zoneDown z) s
  let s := (List.range 16).foldl (fun s z => s.setObj .P0C06 z zoneIsOff) s
  { s with startup := { s.startup with stage := 0 }, streams := [], waves := [], kept := []
           power := { s.power with guard := false, samples := [], zoneSamples := [], lowMean := [], fuseTest := [] } }

/-- Sensors lo to hi − 1 of a region come up with what they stand in: none of them is broken any more (R300). -/
def State.bringUp (s : State) (r lo hi : Nat) : State :=
  let keep : AMap (Nat × Nat) Sensor := s.heat.sensors.filter (fun e => !(e.1.1 == r && decide (lo ≤ e.1.2) && decide (e.1.2 < hi)))
  let s : State := { s with heat := { s.heat with sensors := keep } }
  if r < 128 then s.setObj .T0126 r (keep.filter (fun e => e.1.1 == r && e.2.broken)).length else s

/-- A zone is powered again (R421): its fields' repeaters realign, dormant spares return to the pool, its I/O die starts and its control
unit restarts from ROM; its sites stay unpowered. -/
def State.zoneReturn (s : State) (z : Nat) : State :=
  let s := (zonePorts z).foldl (fun s p => s.bringUp p 0 32) (s.setObj .P0C06 z zoneIsOn)
  let s : State := { s with power := { s.power with realigning := z :: s.power.realigning.filter (fun x => x != z) } }
  let s := (zonePorts z).foldl (fun s p =>
    if isSite p ∧ !(s.site p).retest ∧ (s.site p).usable ∧ s.obj .B0601 p = portDormant then s.showSpare p 0 else s) s
  match iodOfZone z with
  | some i =>
    let s := s.powerIod i
    match unitOfIod i with
    | some u => s.setObj .W0000 u cuRestarting
    | none => s
  | none => s

/-! ### Trips (R291, R306) -/

/-- The panel trips (R306): everything off, the black box flushed, TRIP_N asserted. -/
def State.tripPanel (s : State) (cause : Nat) : State :=
  if s.power.tripped then s
  else
    let s := s.raise evPanelTrip noSubject [cause]
    let s := (s.flushBb 0).allOff
    ({ s with power := { s.power with tripped := true, causesGoneSince := none } }).settleIsland

end Sys2Proof.Machine
end

