-- ==== Sys2Proof/Machine/Power.lean ====
section
/-!
DEFINITION. Power (R290 to R298, R309): the input monitor, eFuses, rails, the cap loop and the fast guard, and the hold-up store.
-/

namespace Sys2Proof.Machine

/-! ### The input (R291) -/

/-- An input power failure or over-voltage (R291): everything off, the black box flushed; with the hold-up store below its charge the panel
trips (R306). Cause 0 low, 1 high. -/
def State.inputFail (s : State) (cause : Nat) : State :=
  if s.power.failed ∨ s.startup.stage = 0 then s
  else
    let s := s.raise evInputFail noSubject [cause, ratF32 s.power.mv 1000]
    let trip := !s.power.holdUpCharged
    let s := if trip then s.tripPanel 3 else (s.flushBb 1).allOff
    ({ s with power := { s.power with failed := true } }).settleIsland

/-- A 1 µs sample of the blade voltage in mV (R291): a failure below 36.0 V, above 61.0 V or below 38.5 V for more than 50 µs; INPUT_RANGE
while the panel runs outside 40.0 V to 59.5 V. -/
def execInputSample (mv : Nat) (s : State) : Out :=
  let w := s.power
  let low := if mv < 38500 then w.lowSince.or (some s.time) else none
  let good := decide (40000 ≤ mv) && decide (mv ≤ 59500)
  let w := { w with mv := mv, lowSince := low, inRangeSince := if good then w.inRangeSince.or (some s.time) else none
                    rangeEvent := !good && w.rangeEvent }
  let s := ({ s with power := w }).setObj .P0C00 0 (ratF32 mv 1000)
  let long : Bool := match low with
    | some t => decide (t + 50000 < s.time)
    | none => false
  let s := if mv < 36000 ∨ long = true then s.inputFail 0 else if 61000 < mv then s.inputFail 1
    else if !good ∧ !w.rangeEvent ∧ 38500 ≤ mv ∧ s.startup.stage ≠ 0 then
      ({ s with power := { s.power with rangeEvent := true } }).raise evInputRange noSubject [ratF32 mv 1000]
    else s
  .next s.settleIsland

/-! ### eFuses (R292, R293, R309) -/

/-- The short trip and the limit of a branch in mA (Table 12.1): 0 to 13 site zones, 14 and 15 the spine feeds. -/
def fuseShort (z : Nat) : Nat := if z < 14 then 60000 else 300000
def fuseLimit (z : Nat) : Nat := if z < 14 then 30000 else 150000

/-- The eFuse of a branch is open. -/
def State.fuseOpen (s : State) (z : Nat) : Bool := s.power.fuseOpenAt.any (fun e => e.1 == z)

/-- An eFuse opens (R292, R293): counted and reported; a spine feed reads feed lost, and with both open the panel trips. -/
def State.openFuse (s : State) (z ma : Nat) : State :=
  let s := (s.bump .P0C07 z 1).raise evEfuseOpen z [z, ma]
  let s := { s with power := { s.power with fuseOpenAt := mapSet s.power.fuseOpenAt z s.time } }
  let s := s.pulseEmergency 1
  let s := if z < 14 then s else s.setObj .P0C06 z zoneFeedLost
  (if s.fuseOpen 14 ∧ s.fuseOpen 15 then s.tripPanel 2 else s).settleIsland

/-- A branch that is on and whose eFuse is closed. -/
def State.branchOn (s : State) (z : Nat) : Bool := decide (z < 16) && s.obj .P0C06 z == zoneIsOn && !s.fuseOpen z

def execEfuseShortTrip (zone ma : Nat) (s : State) : Out :=
  .next (if s.branchOn zone ∧ fuseShort zone < ma then s.openFuse zone ma else s)

/-- The current has stayed above the limit for 1 ms (R292). -/
def execEfuseOvercurrent (zone ma : Nat) (s : State) : Out :=
  .next (if s.branchOn zone ∧ fuseLimit zone < ma then s.openFuse zone ma else s)

/-- A reclose of an eFuse may begin (R292): it is open, the zone is not off for heat, and 60 s have passed since it opened or its last test
failed. -/
def State.mayReclose (s : State) (z : Nat) : Bool :=
  match s.power.fuseOpenAt.find? (fun e => e.1 == z) with
  | some (_, t) => s.obj .P0C06 z != zoneHeat && !s.power.fuseTest.contains z && decide (t + 60000000000 ≤ s.time)
  | none => false

/-- The pre-charge test of a branch ends (R292): a fault leaves the eFuse open; otherwise it closes and the zone is powered again (R421). -/
def execPrechargeTestDone (zone : Nat) (faultFound : Bool) (s : State) : Out :=
  .next (if !s.power.fuseTest.contains zone then s
    else
      let rest := s.power.fuseTest.filter (fun z => z != zone)
      if faultFound then
        ({ s with power := { s.power with fuseTest := rest, fuseOpenAt := mapSet s.power.fuseOpenAt zone s.time } }).endCmd .P0C08 .aborted
      else
        let s := { s with power := { s.power with fuseTest := rest, fuseOpenAt := mapDel s.power.fuseOpenAt zone } }
        ((if zone < 14 then s.zoneReturn zone else s.setObj .P0C06 zone zoneIsOn).endCmd .P0C08 .ok).settleIsland)

/-- A zone's supply is lost (R309): its ports are withdrawn abruptly in the supply case, ZONE_LOST is raised, and all it holds is lost. -/
def execZoneLost (zone : Nat) (s : State) : Out :=
  .next (if 14 ≤ zone ∨ !s.fuseOpen zone ∨ s.obj .P0C06 zone = zoneFuse then s
    else
      let s := (zonePorts zone).foldl (fun s p => s.abrupt p true) s
      let s := ((s.setObj .P0C06 zone zoneFuse).raise evZoneLost zone [zone]).islandNotice 1 [zone, zoneFuse]
      (s.zoneDown zone).settleIsland)

/-! ### Rails (R294) -/

/-- A rail's range in mV (Table 12.2): VCORE, VSRAM, VHG, VDD, VPP. -/
def railRange (r : Nat) : Nat × Nat :=
  if r = 0 then (550, 830) else if r = 1 then (720, 780) else if r = 2 then (1170, 1230) else if r = 3 then (1020, 1080) else (1750, 1850)

/-- A rail has been out of its range for 10 µs (R294): the site is stopped as for a trap and reported. -/
def execRailFault (site rail mv : Nat) (s : State) : Out :=
  let (lo, hi) := railRange rail
  .next (if !(s.site site).powered ∨ (lo ≤ mv ∧ mv ≤ hi) ∨ 5 ≤ rail then s
    else (((s.showRail site rail mv).stopDie site).raise evRailFault site [site, rail, mv]).siteReport site (BitVec.ofNat 448 (4 + 2 ^ 8 * evRailFault)))

/-! ### The cap loop and the fast guard (R296, R297) -/

/-- The mean of a list, 0 when empty. -/
def meanOf (l : List Nat) : Nat := l.sum / l.length

/-- The cap in force in W (R296, R307): the lower of P.0C03 and the coolant limit, by 5 W for each hundredth of a degree, not below 2.0 kW. -/
def State.capNow (s : State) : Nat :=
  let above := (s.heat.inlet - 100 * s.obj .T0128 0).toNat
  let cap := s.obj .P0C03 0
  if above = 0 then cap else max 2000 (cap - 5 * above)

/-- A zone's power over the last 10 ms. -/
def State.zoneMean (s : State) (z : Nat) : Nat := meanOf (s.power.zoneSamples.map (fun l => l.getD z 0))

/-- A 10 µs power sample (R296, R297): the means, and the fast guard over 100 µs, which engages above 1.05 times the cap or 16.5 kW and
releases below the cap. -/
def execPowerSample (watts : Nat) (zones : List Nat) (s : State) : Out :=
  let w := s.power
  let w := { w with samples := (watts :: w.samples).take 1000, zoneSamples := (zones :: w.zoneSamples).take 1000 }
  let s := { s with power := w }
  let s := (s.setObj .P0C02 0 (ratF32 (w.samples.sum) w.samples.length)).setObj .P0C01 0 (if w.mv = 0 then 0 else ratF32 (1000 * watts) w.mv)
  let s := (List.range 15).foldl (fun s z =>
    s.setObj .P0C05 z (ratF32 ((w.zoneSamples.map (fun l => l.getD z 0)).sum) w.zoneSamples.length)) s
  let last : List Nat := w.samples.take 10
  let hot : Bool := decide (105 * s.capNow * last.length < 100 * last.sum) || decide (16500 * last.length < last.sum)
  let cool : Bool := decide (last.sum < s.capNow * last.length)
  .next (if !w.guard && hot && decide (last.length = 10) then { s with power := { w with guard := true, guardFrom := s.time } }
    else if w.guard then
      -- P.0C0A counts the time while the guard is engaged
      let us := (s.time - w.guardFrom) / 1000
      ({ s with power := { w with guard := !cool || hot, guardFrom := w.guardFrom + 1000 * us } } : State).bump .P0C0A 0 us
    else s)

/-- The mean of a zone or of the panel (15), and its cap. -/
def State.meanAndCap (s : State) (k : Nat) : Nat × Nat :=
  if k = 15 then (meanOf s.power.samples, s.capNow) else (s.zoneMean k, s.obj .P0C04 k)

/-- One site's step of the cap loop (R296): its ceiling falls by 25 MHz when either mean lies above its cap, and rises when both have stayed
below 97 % for 10 ms; the site is asked to run at the lowest of its limits. -/
def State.capSite (s : State) (p : Nat) : State :=
  let z := zoneOf p
  let above (k : Nat) : Bool := decide ((s.meanAndCap k).2 < (s.meanAndCap k).1)
  let below (k : Nat) : Bool := match s.power.lowMean.find? (fun e => e.1 == k) with
    | some (_, t) => decide (t + 10000000 ≤ s.time)
    | none => false
  let c := s.obj .P0C09 p
  let c' := if above 15 || above z then max 400 (c - 25) else if below 15 && below z then min 1800 (c + 25) else c
  let s := s.setObj .P0C09 p c'
  let s := if c' = 400 ∧ 400 < c then s.raise evCapLimit p [if above 15 then 15 else z, (s.meanAndCap (if above 15 then 15 else z)).1] else s
  if (s.site p).powered ∧ s.allowedMhz p ≠ s.obj .C0B06 p then s.requestFreq p (s.allowedMhz p) else s

/-- The step of the cap loop, once every 1 ms (R296). -/
def execCapLoopStep (s : State) : Out :=
  let track (m : AMap Nat Nat) (k : Nat) : AMap Nat Nat :=
    let (mean, cap) := s.meanAndCap k
    if 100 * mean < 97 * cap then (if m.any (fun e => e.1 == k) then m else mapSet m k s.time) else mapDel m k
  .next (if s.time < s.power.capAt then s
    else
      let s := { s with power := { s.power with lowMean := (List.range 16).foldl track s.power.lowMean, capAt := s.time + 1000000 } }
      ((usedPorts.filter isSite).foldl (fun s p => s.capSite p) s).settleIsland)

/-! ### The feeds and the hold-up store (R290, R409) -/

/-- The always-on feed is removed (R306, R412): the island runs on from the input, or from the hold-up store while the input is out too (R290); WAKE_N is released. -/
def execAlwaysOnFeedRemoved (s : State) : Out :=
  .next (if !s.power.aonFeed then s
    else ({ s with power := { s.power with aonFeed := false }, pins := { s.pins with wakeN := false } }).judgeHoldUp)

/-- The hold-up store is charged: 15 s after the feed was applied (R409). -/
def execHoldUpStoreCharged (s : State) : Out :=
  .next (if s.power.aonFeed ∧ s.power.feedFrom + 15000000000 ≤ s.time then { s with power := { s.power with holdUpCharged := true } } else s)

end Sys2Proof.Machine
end

