-- ==== Sys2Proof/Machine/Heat.lean ====
section
/-!
DEFINITION. Temperature (R113, R299 to R308): sensors, bands and what they change, stack trips, zones off for heat, panel trips, and the
return of zones and lamp dies (R421). Regions are 0 to 111 the ports, 128 + n lamp dies, 144 + p the planes' sluice arrays, 160 the
island, 161 the coolant (0 inlet, 1 outlet). Sensors of a stack are 0 to 5 in the tile die, 6 + 6l + k in layer l, 30 and 31 in the base.
-/

namespace Sys2Proof.Machine

def regLamp : Nat := 128
def regPlane : Nat := 144
def regIsland : Nat := 160
def regCoolant : Nat := 161

/-- Sensors of a region (Table 12.3). -/
def sensorCount (r : Nat) : Nat :=
  if r < 112 then (if (iodOfPort r).isSome then 6 else if isDark r then 0 else 32)
  else if regLamp ≤ r ∧ r < 140 then 7 else if regPlane ≤ r ∧ r < 152 then 8 else if r = regIsland then 3 else if r = regCoolant then 2 else 0

/-- A sensor is powered, and so read and judged (R299). -/
def State.sensorPowered (s : State) (r k : Nat) : Bool :=
  decide (k < sensorCount r) && s.power.islandRuns &&
    (if r < 112 then
      match iodOfPort r with
      | some i => s.zoneOn (zoneOf r) && (decide (4 ≤ k) || (s.iod i).powered)
      | none => if 30 ≤ k then s.zoneOn (zoneOf r) else (s.site r).powered
    else if r < 140 then !s.lampLost (r - regLamp)
    else if r < 152 then s.zoneOn 14 && s.obj .B0600 (r - regPlane) != planeRetired
    else true)

/-- One reading (R299, R300). -/
def State.takeReading (s : State) (r k : Nat) (x : Reading) : State :=
  let v := s.sensor r k
  if !s.sensorPowered r k then s
  else if !x.fresh then
    let s := s.setSensor r k { v with misses := v.misses + 1 }
    if 2 ≤ v.misses + 1 then s.breakSensor r k 1 else s
  else if !x.parity then s.breakSensor r k 2
  else if x.centi < -4000 ∨ 15000 < x.centi then s.breakSensor r k 0
  else s.setSensor r k { v with centi := x.centi, misses := 0, sampled := true, changedAt := if v.sampled ∧ v.centi = x.centi then v.changedAt else s.time }

/-- The powered, sampled sensors of a region. -/
def State.liveSensors (s : State) (r : Nat) : List Nat :=
  (List.range (sensorCount r)).filter (fun k => s.sensorPowered r k && (s.sensor r k).sampled)

/-- A sensor that has not changed for 10 s while every other of its region has moved by more than 5 °C is broken (R300). -/
def State.judgeStuck (s : State) (r k : Nat) : State :=
  let v := s.sensor r k
  let others := (s.liveSensors r).filter (fun j => j != k)
  if v.changedAt = s.time then s.setSensor r k { v with others := others.map (fun j => (j, (s.sensor r j).centi)) }
  else if v.changedAt + 10000000000 ≤ s.time ∧ v.others ≠ [] ∧ v.others.all (fun o => decide (500 < ((s.sensor r o.1).centi - o.2).natAbs)) then
    s.breakSensor r k 3
  else s

/-- R113 for one sensor of layers 0 to 2: more than 6 °C below both neighbours in two samples in succession. -/
def State.judgeLayer (s : State) (p l k : Nat) : State :=
  let i := 6 + 6 * l + k
  let x := s.reads p i
  let lower := s.reads p (if l = 0 then k else i - 6)
  let upper := s.reads p (i + 6)
  let v := s.sensor p i
  let n := if x + 600 < lower ∧ x + 600 < upper then v.below + 1 else 0
  let s := s.setSensor p i { v with below := n }
  if 2 ≤ n then s.layerImplausible p l k (s.threeReadings p l k) else s

/-- A region's temperature: the highest of its powered sensors, the island's the median of three (R299). -/
def State.tempOf (s : State) (r : Nat) : Option Int :=
  match (s.liveSensors r).map (fun k => s.reads r k) with
  | [] => none
  | a :: l =>
    if r = regIsland then
      match a :: l with
      | [a, b, c] => some (max (min a b) (min (max a b) c))
      | _ => some (l.foldl max a)
    else some (l.foldl max a)

/-! ### Bands (R301, R302) -/

/-- A threshold in hundredths of a degree (T.0122). -/
def State.threshold (s : State) (k : Nat) : Int := 100 * packedGet (s.obj .T0122 0) 1 k

/-- Down one band at a time while the temperature is 3 °C below the threshold of the band above (R301). -/
def State.fallBand (s : State) (temp : Int) : Nat → Nat
  | 0 => 0
  | b + 1 => if temp ≤ s.threshold b - 300 then s.fallBand temp b else b + 1

/-- The band that a temperature calls for from a band: up at a threshold, down 3 °C below it (R301). -/
def State.nextBand (s : State) (old : Nat) (temp : Int) : Nat :=
  let up := ((List.range 4).filter (fun k => decide (s.threshold k ≤ temp))).length
  if bandB4 < old ∨ old ≤ up then up else s.fallBand temp old

/-- The band of a region. -/
def State.regionBand (s : State) (r : Nat) : Nat :=
  if r < 128 then s.obj .T0120 r else if r < 140 then s.obj .T0124 (r - regLamp) else if r < 152 then s.obj .T0125 (r - regPlane) else s.heat.island
def State.showBand (s : State) (r b : Nat) : State :=
  if r < 128 then s.setObj .T0120 r b else if r < 140 then s.setObj .T0124 (r - regLamp) b
  else if r < 152 then s.setObj .T0125 (r - regPlane) b else { s with heat := { s.heat with island := b } }

/-- A site enters B4 or trips: it counts toward its zone (R305), and returns only through a retest (R374). -/
def State.markHot (s : State) (p : Nat) : State :=
  let s := s.setSite p { s.site p with retest := true }
  { s with heat := { s.heat with hot := (s.time, p) :: s.heat.hot.filter (fun e => decide (s.time < e.1 + 10000000000)) } }

/-- What a region's new band changes (Table 12.5). -/
def State.bandEffect (s : State) (r b : Nat) : State :=
  if r < 112 then
    match iodOfPort r with
    | some i => if b = bandB4 then s.orderly r else if b ≤ 2 ∧ !(s.iod i).powered ∧ 3 ≤ s.startup.stage ∧ s.zoneOn (zoneOf r) then
        (s.bringUp r 0 4).powerIod i else s
    | none =>
      let s := s.bandColumns r
      let s := if b = bandB4 then ((s.refuseLocal r).orderly r).markHot r else s
      if (s.site r).powered ∧ s.allowedMhz r ≠ s.obj .C0B06 r then s.requestFreq r (s.allowedMhz r) else s
  else if b ≠ bandB4 then s
  else if r < 140 then s.loseLamp (r - regLamp) 2
  else if r < 152 then s.retirePlane (r - regPlane) 2
  else s.tripPanel 0

/-- A region's temperature is judged (R299, R301). -/
def State.judgeRegion (s : State) (r : Nat) : State :=
  match s.tempOf r with
  | none => if s.regionBand r = bandOff ∨ 152 ≤ r then s else (if r < 128 then (s.setObj .T0121 r 0) else s).showBand r bandOff
  | some t =>
    let s := if r < 128 then s.setObj .T0121 r (ratF32 t 100) else s
    let seen := (mapGet [] s.heat.recent r).filter (fun e => decide (s.time ≤ e.1 + 1000000))
    let rise (l : List (Nat × Int)) (t : Int) : Bool := l.any (fun e => decide (1000 < t - e.2))
    let was := match seen with
      | e :: l => rise l e.2
      | [] => false
    let s : State := { s with heat := { s.heat with recent := mapSet s.heat.recent r ((s.time, t) :: seen) } }
    let s := if rise seen t && !was then s.raise evTempSlew r [r, ((seen.map (fun e => t - e.2)).foldl max 0).toNat] else s
    let old : Nat := s.regionBand r
    let b : Nat := s.nextBand old t
    if decide (b = old) then s
    else
      let s := s.showBand r b
      if old = bandOff ∧ b = 0 then s.bandEffect r b
      else
        let s := if r < 128 then s.bump .T012B r 1 else s
        ((s.raise evBandChange r [r, old, b, (BitVec.ofInt 32 t).toNat]).islandNotice 0 [r, old, b]).bandEffect r b

/-- A sensor of a stack reads 110 °C or more, 127 °C from a broken one included: the stack trips (R304). -/
def State.markTrip (s : State) (p : Nat) : State :=
  match (s.liveSensors p).find? (fun k => decide (11000 ≤ s.reads p k)) with
  | some k =>
    if (s.heat.tripDue.any (fun e => e.1 == p)) ∨ (s.site p).tripped then s
    else { s with heat := { s.heat with tripDue := mapSet s.heat.tripDue p (k, s.reads p k) } }
  | none => s

/-- Every 50 µs the hub reads the sensors (R299): broken ones, implausible layers, bands, and the coolant are judged (R300, R301, R306, R307). -/
def execSensorSample (readings : List ((Nat × Nat) × Reading)) (s : State) : Out :=
  let regions := distinct (readings.map (fun x => x.1.1))
  let s1 := readings.foldl (fun s x => s.takeReading x.1.1 x.1.2 x.2) s
  let s1 := readings.foldl (fun s x => s.judgeStuck x.1.1 x.1.2) s1
  let s1 := (regions.filter (fun r => decide (r < 112) && isSite r && (s1.site r).powered)).foldl (fun s p =>
    (List.range 3).foldl (fun s l => (List.range 6).foldl (fun s k => s.judgeLayer p l k) s) s) s1
  let s1 := (regions.filter (fun r => r != regCoolant)).foldl (fun s r => s.judgeRegion r) s1
  let s1 := (regions.filter isSite).foldl (fun s p => s.markTrip p) s1
  let s1 := if !regions.contains regCoolant then s1
    else
      let inlet := s1.reads regCoolant 0
      let outlet := s1.reads regCoolant 1
      let s2 := s1.setObj .T0127 0 (ratF32 inlet 100 + 2 ^ 32 * ratF32 outlet 100)
      let s2 := { s2 with heat := { s2.heat with inlet := inlet, outlet := outlet }
                          power := { s2.power with outletHotSince := if 7000 < outlet then s2.power.outletHotSince.or (some s.time) else none } }
      let limit : Int := 100 * s.obj .T0128 0
      if limit < inlet ∧ s.heat.inlet ≤ limit then s2.raise evCoolantHot noSubject [ratF32 inlet 100] else s2
  .next s1.settleIsland

/-! ### Withdrawals that end in darkness -/

/-- At the following frame boundary the withdrawal is complete: the port reads withdrawn, and PORT_WITHDRAWN (R146); a region in B4 is then
switched off (Table 12.5). -/
def execWithdrawalComplete (port : Nat) (s : State) : Out :=
  .next (match s.withdrawing.find? (fun x => x.1 == port) with
    | none => s
    | some (_, f) =>
      if s.frameNo < f + 1 then s
      else
        let s := (({ s with withdrawing := mapDel s.withdrawing port, pathOk := s.pathOk.filter (fun x => x.1.1 != port) }).setObj
          .B0601 port portWithdrawn).raise evPortWithdrawn port [0]
        let s := s.endCmdOf .B060A port .ok
        if s.band port ≠ bandB4 then s
        else match iodOfPort port with
          | some i => s.iodOff i
          | none => s.siteOff port)

/-- A sensor of a stack has read 110 °C or more (R304): the port is withdrawn abruptly, and every rail of the site is off. -/
def execStackTrip (site : Nat) (s : State) : Out :=
  .next (match s.heat.tripDue.find? (fun e => e.1 == site) with
    | none => s
    | some (_, sensor, reading) =>
      let s : State := { s with heat := { s.heat with tripDue := mapDel s.heat.tripDue site } }
      let s := (s.abrupt site false).raise evStackTrip site [site, sensor, reading.toNat]
      let s := (s.markHot site).siteOff site
      ((s.setSite site { s.site site with tripped := true }).pulseEmergency 2).settleIsland)

/-! ### Zones and heat (R305) -/

/-- Three distinct sites of the zone have entered B4 or tripped within 10 s, or its I/O die stands in B4 with a site in B3 or higher. -/
def State.zoneHot (s : State) (z : Nat) : Bool :=
  let sites := (zonePorts z).filter isSite
  let recent := sites.filter (fun p => s.heat.hot.any (fun e => e.2 == p && decide (s.time ≤ e.1 + 10000000000)))
  decide (3 ≤ recent.length) ||
    (match iodOfZone z with
      | some i => s.band (portOfIod i) == bandB4 && sites.any (fun p => s.band p == 3 || s.band p == bandB4)
      | none => false)

/-- The island asks for the withdrawal of every remaining port of the zone, and once they are withdrawn opens its supply (R305). -/
def execHeatZoneOff (zone : Nat) (s : State) : Out :=
  .next (if 14 ≤ zone ∨ !s.zoneOn zone ∨ !s.zoneHot zone then s
    else if (zonePorts zone).any (fun p => s.inService p) then (zonePorts zone).foldl (fun s p => s.orderly p) s
    else
      let s := ((s.setObj .P0C06 zone zoneHeat).bump .T012A zone 1).raise evHeatZoneOff zone [zone]
      let s := { s with power := { s.power with zoneOffAt := mapSet s.power.zoneOffAt zone s.time } }
      ((s.islandNotice 1 [zone, zoneHeat]).zoneDown zone).settleIsland)

/-- After zone_off_min and with the coolant inlet within its limit the zone is powered again (R305, R421). -/
def execHeatZoneReturn (zone : Nat) (s : State) : Out :=
  .next (if s.obj .P0C06 zone ≠ zoneHeat ∨ 14 ≤ zone ∨ s.time < mapGet 0 s.power.zoneOffAt zone + 1000000000 * s.obj .T0129 0 ∨
      100 * (s.obj .T0128 0 : Int) < s.heat.inlet then s
    else (s.zoneReturn zone).settleIsland)

/-- A relit lamp die holds its set powers (R421): the trees that took carry ask for a withheld frame (R149), and in it take their own light
back, with CARRY_OUT. -/
def execCarryReturn (lampDie : Nat) (s : State) : Out :=
  let sets := (List.range 6).map (fun i => 6 * lampDie + i)
  let carried := sets.filter (fun n => (litWaves n).any (fun w => decide (s.lightOf n w = .carry)))
  let waits := carried.filter (fun n => !s.treeHeld n)
  .next (if !s.lampLost lampDie ∨ !s.zoneOn (zoneOfIod (lampDie / 3)) ∨ 12 ≤ lampDie then s
    else if waits ≠ [] then waits.foldl (fun s n => match baseTree n with
      | some (plane, tree) => s.recoveryFrame (n / 6) plane tree
      | none => s) s
    else
      let s := (s.bringUp (regLamp + lampDie) 0 7).setObj .L0800 lampDie 0
      sets.foldl (fun s n => (litWaves n).foldl (fun s w =>
        let was := decide (s.lightOf n w = .carry)
        let s := (((s.carrySettled n w).endSplit (partnerSet n) w).setLight n w .own).restCal n
        if was then s.raise evCarryOut lampDie [n % 6, w] else s) s) s)

/-! ### Trips and emergencies (R306, R308, R412) -/

/-- The island finds a cause of a panel trip (R306): 0 its own B4, 1 the outlet above 70 °C for 1 s, 2 both spine eFuses open, 3 an input power
failure with the hold-up store below its charge. -/
def execPanelTrip (cause : Nat) (s : State) : Out :=
  let hot := match s.power.outletHotSince with
    | some t => decide (t + 1000000000 ≤ s.time)
    | none => false
  let holds := if cause = 0 then s.heat.island == bandB4 else if cause = 1 then hot
    else if cause = 2 then s.fuseOpen 14 && s.fuseOpen 15
    else if cause = 3 then s.power.failed && !s.power.holdUpCharged else false
  .next (if holds then s.tripPanel cause else s)

/-- An emergency bit clears once its cause has been absent for 1 s (R308). -/
def execEmergencyBitClear (n : Nat) (s : State) : Out :=
  .next (match s.power.emergencyGone.find? (fun e => e.1 == n) with
    | some (_, t) =>
      if bitGet (s.obj .P0C0C 0) n ∧ !s.emergencyCause n ∧ t + 1000000000 ≤ s.time then
        (({ s with power := { s.power with emergencyGone := mapDel s.power.emergencyGone n } }).setBit .P0C0C 0 n false).islandNotice 2
          [bitSet (s.obj .P0C0C 0) n false]
      else s
    | none => s)

/-- 10 s after every trip cause of a tripped panel has gone, WAKE_N is asserted (R412). -/
def execWakeNAssert (s : State) : Out :=
  .next (match s.power.causesGoneSince with
    | some t => if s.power.tripped ∧ t + 10000000000 ≤ s.time then { s with pins := { s.pins with wakeN := true } } else s
    | none => s)

end Sys2Proof.Machine
end

