-- ==== Sys2Proof/Machine/Recovery.lean ====
section
/-!
DEFINITION. Faults and recovery (chapter 15): stack failures and their witnesses (R366, R367), spares and promotions (R368 to R375), lost
and fenced panels, adoption (R377 to R381), re-mirroring (R382) and the levy (R383).
-/

namespace Sys2Proof.Machine

/-- States of X.0F03. -/
def repServing : Nat := 0
def repSuspended : Nat := 1
def repRefilling : Nat := 2
def repOut : Nat := 3

/-- States of X.0F02. -/
def spareDormant : Nat := 0
def sparePromoted : Nat := 1
def spareUnusable : Nat := 2
def spareLost : Nat := 3

/-! ### Spares (R369) -/

/-- A dormant spare that may be promoted: usable, unpowered, holding no logical stack, in a zone that is on and not in B4. -/
def State.dormant (s : State) (p : Nat) : Bool :=
  isSite p && s.obj .B0601 p == portDormant && (s.site p).usable && !(s.site p).powered && !(s.site p).retest &&
    (s.stackOf p).isNone && s.zoneOn (zoneOf p) && s.band p != bandB4

/-- The order of promotion for a replica (R369): its own side in port order, then the other side column by column from the spine. -/
def spareOrder (r : Nat) : List Nat :=
  usedPorts.filter (fun p => isSite p && sideOf p == r) ++
    ((if r = 0 then [4, 5, 6, 7] else [3, 2, 1, 0]).map (fun c => usedPorts.filter (fun p => isSite p && colOf p == c))).flatten

/-- The spare that R369 names for a replica. -/
def State.nextSpare (s : State) (r : Nat) : Option Nat := (spareOrder r).find? (fun p => s.dormant p)

/-- The twin of a logical stack (R182). -/
def twinOf (l : Nat) : Nat := if l < 48 then l + 48 else l - 48

/-- The stack holds the plan's weights: it has a site, and no promotion still has to refill it. -/
def State.holdsWeights (s : State) (l : Nat) : Bool := (s.siteOf l).isSome && !(s.recovery.promos.any (fun e => e.1 == l && decide (e.2.stage ≤ 7)))

/-! ### Suspension (R371) -/

/-- A head's stream leaves service while its replica does not serve. -/
def Stream.suspended (x : Stream) : Stream := if x.isHead then { x with st := .suspended } else x

/-- Where a suspended stream stands when its replica serves again: in its aborted wave, sampled, in prefill, or ready. -/
def State.resumed (s : State) (x : Stream) : Stream :=
  if x.st ≠ .suspended then x
  else { x with
    st := if s.waveList.any (fun w => w.batch.contains x.id) then .inWave
      else if s.planLayers ≤ x.layer then .sampled
      else if x.prefilled < x.ownPrompt then (if x.prompt = [] then .admitted else .prefill) else .ready
    readyAt := s.time }

/-- The waves of a replica are aborted and its streams suspended. -/
def State.suspendReplica (s : State) (r stack cause : Nat) : State :=
  let s := (s.waveList.filter (fun w => w.replica == r)).foldl (fun s w => s.abortWave w stack cause) s
  let s := (s.streamList.filter (fun x => x.replica == r)).foldl (fun s x => s.setStream x.id (some x.suspended)) s
  let since := if s.recovery.suspendedAt.any (fun e => e.1 == r) then s.recovery.suspendedAt else mapSet s.recovery.suspendedAt r s.time
  let s : State := { s with recovery := { s.recovery with suspendedAt := since } }
  if s.obj .X0F03 r = repOut then s else s.setObj .X0F03 r repSuspended

/-! ### Promotion (R372, R375) -/

/-- Every admitted stream ends with reason 4 and no plan is in force: the weights of a stack and its twin are lost (R375). -/
def State.loseWeights (s : State) (stack : Nat) : State :=
  let s := s.raise evWeightsLost noSubject [stack]
  let s := s.streamList.foldl (fun s x => s.endStream x 4 .aborted) s
  ({ s with waves := [], plan := { s.plan with image := none, loading := none } }).setObj .X0700 0 planNone

/-- The spare that R369 names takes a stack's place, or the replica is out of service. -/
def State.promote (s : State) (stack old start : Nat) : State :=
  let r := replicaOf stack
  match s.nextSpare r with
  | none =>
    let s : State := { s with recovery := { s.recovery with promos := mapDel s.recovery.promos stack } }
    ((s.setObj .X0F01 stack 255).setObj .X0F03 r repOut).raise evSparesExhausted noSubject [r]
  | some q =>
    let s := (((s.setObj .X0F01 stack q).showSpare q sparePromoted).bump .X0F08 0 1).raise evSparePromoted q [stack, old, q]
    let s := if sideOf q = r then s else s.raise evReplicaOverlap q [q, r]
    { s with recovery := { s.recovery with promos := mapSet s.recovery.promos stack { spare := q, old := old, stage := 1, start := start, since := s.time } } }

/-- A stack fails (R366, R371, R372): its replica is suspended, its port withdrawn and its rails switched off, and a spare promoted. It is
retested later where heat or its zone took it (R374), else unusable until field service. -/
def State.stackFail (s : State) (stack witness : Nat) : State :=
  match s.siteOf stack with
  | none => s
  | some p =>
    let r := replicaOf stack
    let s := (s.raise evStackFailed p [stack, p, witness]).suspendReplica r stack witness
    let s : State := { s with waves := s.waves.map (fun (e : (Nat × Nat) × Option Wave) =>
      (e.1, e.2.map (fun (w : Wave) => { w with trapped := w.trapped.filter (fun l => l != stack), trappedNow := w.trappedNow.filter (fun l => l != stack) }))) }
    let s := if s.recovery.mirrorRes.isEmpty then s else { s with recovery := { s.recovery with remirrorFrom := s.recovery.remirrorFrom.or (some s.time) } }
    let again : Bool := (s.site p).retest || witness == 3 || witness == 4 || witness == 9
    let s := (s.abrupt p false).siteOff p
    let s := s.setSite p { s.site p with retest := again, usable := (s.site p).usable && again }
    let s := s.showSpare p (if witness = 9 then spareLost else spareUnusable)
    let s := if s.obj .X0700 0 ≠ planNone ∧ !s.holdsWeights (twinOf stack) then s.loseWeights stack else s
    s.promote stack p s.time

/-- A promotion for the stack still runs, so its failure has had its first witness. -/
def State.failing (s : State) (stack : Nat) : Bool := s.recovery.promos.any (fun e => e.1 == stack && decide (e.2.stage ≤ 6))

/-- A row of Table 15.1 holds for a stack: 0 a tile fault, 1 a second trap in a wave, 2 a dead switch that breaks R85, 3 a trip, 4 its region in
B4, 5 and 6 a rail or a clock fault, which stop the die, 7 a layer unusable, 8 silent, 9 its zone without supply. -/
def State.witnessed (s : State) (stack witness : Nat) : Bool :=
  match s.siteOf stack with
  | none => false
  | some p =>
    let q := s.site p
    if witness = 0 ∨ witness = 5 ∨ witness = 6 then q.stopped
    else if witness = 1 then s.waveList.any (fun w => w.replica == replicaOf stack && w.trapped.contains stack)
    else if witness = 2 then !q.usable || (!q.reported.isEmpty && !s.stands p q.reported)
    else if witness = 3 then q.tripped
    else if witness = 4 then s.band p == bandB4
    else if witness = 7 then !q.usable
    else if witness = 8 then q.silent
    else witness == 9 && !s.zoneOn (zoneOf p)

/-- The first witness of a failure reaches the active control unit (R366). -/
def execStackFailureDetect (stack witness : Nat) (s : State) : Out :=
  .next (if s.keeper.holder.isNone ∨ 96 ≤ stack ∨ s.failing stack ∨ !s.witnessed stack witness then s else s.stackFail stack witness)

/-- Every die that claims the same position as the die fused for `claim` at port p is unusable with it (R389): the tile die that stands at that
position, if its fuses say so, and p's own. -/
def State.claimBad (s : State) (p claim : Nat) : State :=
  [p, claim].foldl (fun s q =>
    if isSite q ∧ TileFuse.site (s.obj .K0E05 q) = claim then (s.setSite q { s.site q with usable := false }).showSpare q spareUnusable else s) s

/-- A tile die, when first powered, sends its identity across the base (R388, R389): an identity fault or a mismatch raises IDENTITY_MISMATCH,
and the die is unusable, with every die that claims the same position. -/
def State.checkTileDie (s : State) (p : Nat) : State :=
  let v := s.obj .K0E05 p
  if !TileFuse.fault v && TileFuse.site v == p then s
  else
    let s := ((s.raise evIdentityMismatch p [p, TileFuse.site v]).setBit .K0E06 0 p true).claimBad p (TileFuse.site v)
    (s.setSite p { s.site p with usable := false }).showSpare p spareUnusable

/-- The rails and PLLs of a site are powered, at the frequency it may run at; its sensors and layers come up sound (R300). -/
def State.powerSite (s : State) (p : Nat) : State :=
  let s := (s.bringUp p 0 30).setObj .M050D p 0
  let q := s.site p
  let s := s.setSite p { Site.reset with powered := true, usable := q.usable, mapOut := q.mapOut, liveAt := s.time }
  let mhz := s.allowedMhz p
  (((s.setObj .C0B06 p mhz).showRail p 0 (vcoreMv mhz)).showRail p 1 750).showRail p 2 1200

/-- Tiles mapped out at a start or a recovery (R84, R87, Table 4.3): those the stack test fused out, those that failed or were flagged since,
those that S.0406 names and those that the tests before it found (`bad`), and the tiles of dead switches (`dead` those found now). Each
row's map value is its mapped-out column, or 8; R85 decides whether the stack is usable. -/
def State.remap (s : State) (p : Nat) (bad dead : List Nat) : State :=
  let q := s.site p
  let flagged := ((List.range 48).filter (fun k => bitGet (s.obj .S0402 p) k)).map (fun k => s.physOf p k)
  let fuses := s.obj .K0E05 p
  let all := TileFuse.outs fuses ++ q.mapOut ++ flagged ++ bad ++ (List.range 54).filter (fun k => bitGet (s.obj .S0406 p) k)
  let dead := (List.range 54).filter (fun k => TileFuse.dead fuses k || bitGet (s.obj .S0401 p) k || dead.contains k)
  let out := (List.range 54).filter (fun k => all.contains k || dead.contains k)
  let v (r : Nat) : Nat := ((List.range 9).find? (fun k => out.contains (9 * r + k))).getD 8
  let s := (s.setObj .S0400 p (((List.range 6).map (fun r => v r * 2 ^ (8 * r))).sum)).setObj .S0402 p 0
  let s := s.setObj .S0401 p ((dead.map (fun k => 2 ^ k)).sum)
  s.setSite p { s.site p with out := out, mapOut := out, usable := q.usable && presents48 out dead }

/-- Tiles are mapped out anew; the columns of logical tiles that move start from unpowered (R92, R97). -/
def State.settleMap (s : State) (p : Nat) (bad dead : List Nat) : State :=
  let t := s.remap p bad dead
  (List.range 48).foldl (fun u k => if s.physOf p k = t.physOf p k then u else u.setCol p k VaultCol.reset) t

/-- A column of the site has neither been found unusable nor been trained and cleared yet (R92, R97). -/
def State.columnsWait (s : State) (p : Nat) : Bool := (List.range 48).any (fun k => (s.col p k).usable && !s.colServes p k)

/-- A column of the site failed to train (R97). -/
def State.columnsFail (s : State) (p : Nat) : Bool := (List.range 48).any (fun k => !(s.col p k).usable)

/-- A powered site's columns are judged once all of them have been trained: failed positions are mapped out, and the columns that move are
trained in their turn. -/
def State.judgeColumns (s : State) (p : Nat) : State := if s.columnsWait p || !s.columnsFail p then s else s.settleMap p [] []

/-- Every column of a usable site serves. -/
def State.columnsReady (s : State) (p : Nat) : Bool := (s.site p).usable && (List.range 48).all (fun k => s.colServes p k)

/-- Tiles and switches that furrow tests condemn (R393): each pair names a tile whose pattern did not arrive well at a neighbour, or from it.
A switch that fails with all its neighbours is dead; a tile that fails only some of its furrows is mapped out, with a neighbour that fails
toward it. -/
def furrowFailures (l : List (Nat × Nat)) : List Nat × List Nat :=
  let next (k : Nat) : List Nat :=
    (if k % 9 = 0 then [] else [k - 1]) ++ (if k % 9 = 8 then [] else [k + 1]) ++ (if k < 9 then [] else [k - 9]) ++ (if 45 ≤ k then [] else [k + 9])
  let dead := (List.range 54).filter (fun k => (next k).all (fun n => l.contains (k, n)))
  let bad := (List.range 54).filter (fun k => !dead.contains k && (next k).any (fun n => !dead.contains n && l.contains (k, n)))
  (bad, dead)

/-- Weights and tile-store contents of a stack are copied from its twin (R372), where the plan put them (R182). -/
def State.refill (s : State) (stack : Nat) : State :=
  match s.plan.image, s.siteOf stack, s.siteOf (twinOf stack) with
  | some img, some p, some q =>
    let copy (s : State) (addr : Nat → Nat → Nat → Nat) (e : (Nat × Nat × Nat) × List Cell32) : State :=
      if e.1.1 % 48 = stack % 48 then s.putUnits (addr p e.1.2.1 e.1.2.2) (s.unitsAt (addr q e.1.2.1 e.1.2.2) e.2.length) else s
    img.storeData.foldl (fun s e => copy s storeAddr e) (img.vaultData.foldl (fun s e => copy s vaultAddr e) s)
  | _, _, _ => s

/-- Bytes of weights that a stack's refill moves (R372, R373). -/
def State.refillBytes (s : State) (stack : Nat) : Nat :=
  ((s.plan.image.map (fun i => (((i.vaultData ++ i.storeData).filter (fun e => e.1.1 % 48 == stack % 48)).map (fun e => 32 * e.2.length)).sum)).getD 0)

/-- A stage of a promotion ends: the next begins. -/
def State.promoNext (s : State) (stack : Nat) (o : Promo) (stage : Nat) : State :=
  { s with recovery := { s.recovery with promos := mapSet s.recovery.promos stack { o with stage := stage, since := s.time } } }

/-- A spare that fails a stage is unusable, and R369 names the next. -/
def State.promoFail (s : State) (stack : Nat) (o : Promo) : State :=
  let s := (s.abrupt o.spare false).siteOff o.spare
  let s := ((s.setSite o.spare { s.site o.spare with usable := false }).showSpare o.spare spareUnusable).setObj .B0601 o.spare portWithdrawn
  s.promote stack o.old o.start

/-- What the end of a stage of Table 15.3 brings: the die's identity is checked when it is powered (R389); the columns must have been cleared
and trained (R92, R97), those that failed mapped out; tiles and switches that the tests condemn are mapped out (R84 to R87); the port is
restored once its path tests have passed and the comparator has passed the promotion (R348); the refill takes the time that `X.0F04` gives it. -/
def State.promoStage (s : State) (stack : Nat) (o : Promo) (bad : List Nat) (furrows : List (Nat × Nat)) : State :=
  let next (s : State) : State := s.promoNext stack o (o.stage + 1)
  let judge (s : State) : State := if (s.site o.spare).usable then s else s.promoFail stack o
  if o.stage = 2 then
    let s := (s.powerSite o.spare).checkTileDie o.spare
    judge (next (s.remap o.spare [] []))
  else if o.stage = 3 ∨ o.stage = 4 then
    if s.columnsReady o.spare then next s else judge (s.judgeColumns o.spare)
  else if o.stage = 5 then
    let (more, dead) := furrowFailures furrows
    if bad = [] ∧ more = [] ∧ dead = [] then next s
    else judge ((s.settleMap o.spare (bad ++ more) dead).promoNext stack o 3)
  else if o.stage = 6 then
    if !s.pathsPassed o.spare ∨ !s.passed 4 o.spare then s
    else
      let s := ((next s).joinBase o.spare).takePassed 4 o.spare
      let r := replicaOf stack
      if s.obj .X0F03 r = repSuspended ∧ s.recovery.promos.all (fun e => replicaOf e.1 != r || decide (7 ≤ e.2.stage)) then s.setObj .X0F03 r repRefilling else s
  else if o.stage = 7 then
    if s.time < o.since + s.refillBytes stack / s.obj .X0F04 0 then s else next (s.refill stack)
  else if o.stage < 7 then next s
  else s

/-- A stage of a promotion ends (Table 15.3), with the physical tiles and the furrows that its tests found bad; a spare that fails one is
unusable, and R369 names the next. -/
def execPromotionStageDone (stack : Nat) (pass : Bool) (bad : List Nat) (furrows : List (Nat × Nat)) (s : State) : Out :=
  .next (match s.recovery.promos.find? (fun e => e.1 == stack) with
    | none => s
    | some (_, o) =>
      if pass then s.promoStage stack o bad furrows
      else if 7 ≤ o.stage then s
      else s.promoFail stack o)

/-- The logical stacks of a stream's KV set under the plan in force (R157). -/
def State.kvMembers (s : State) (x : Stream) : List Nat := ((s.plan.image.map (fun p => kvStacks p x))).getD []

/-- Every promotion of the replica has been refilled, and the ports of its stacks serve: the movers that a base-zone reset stopped resume (R400),
the aborted waves run again and the streams resume (R373). Streams whose KV set held a failed stack end with reason 4 while mirroring is off
(R372), and those without a second copy always (R382). -/
def execReplicaResume (replica : Nat) (s : State) : Out :=
  .next (if s.obj .X0F03 replica = repServing ∨ s.obj .X0F03 replica = repOut ∨
      s.recovery.promos.any (fun e => replicaOf e.1 == replica && decide (e.2.stage < 8)) ∨
      !(s.replicaSites replica).all (fun p => s.inService p) then s
    else
      let from' := mapGet s.time s.recovery.suspendedAt replica
      let new := (s.recovery.promos.filter (fun e => replicaOf e.1 == replica)).map (fun e => e.1)
      let s := (s.setObj .X0F03 replica repServing)
      let rest := s.recovery.promos.filter (fun e => replicaOf e.1 != replica)
      let s : State := { s with recovery := { s.recovery with suspendedAt := mapDel s.recovery.suspendedAt replica, promos := rest } }
      let s := (s.streamList.filter (fun x => (!s.mirrorOn || x.unmirrored) && (s.kvMembers x).any (fun l => new.contains l))).foldl (fun s x =>
        s.endStream x 4 .aborted) s
      let s := (s.streamList.filter (fun x => x.replica == replica)).foldl (fun s x => s.setStream x.id (some (s.resumed x))) s
      let reset := usedPorts.filter (fun p => (s.mover p).stop = some .pathReset && !(s.recovery.resets.any (fun z => z.1 == zoneOf p)))
      let s := reset.foldl (fun s p => (s.resumeMover p).1) s
      let s := (s.waveList.filter (fun w => w.replica == replica)).foldl (fun s w => s.rerunWave w) s
      s.raise evReplicaResumed noSubject [replica, (s.time - from') / 1000000])

/-- With no spare, the suspended streams of the replica end with reason 4 two seconds after detection (R375). -/
def execSuspendedStreamTimeout (replica : Nat) (s : State) : Out :=
  .next (match s.recovery.suspendedAt.find? (fun e => e.1 == replica) with
    | some (_, t) =>
      if s.obj .X0F03 replica = repOut ∧ t + 2000000000 ≤ s.time then
        let s := (s.streamList.filter (fun x => x.replica == replica && decide (x.st = .suspended))).foldl (fun s x => s.endStream x 4 .aborted) s
        (s.waveList.filter (fun w => w.replica == replica)).foldl (fun s w => s.setWave w.replica w.slot none) s
      else s
    | none => s)

/-- A stack that heat or its zone took is retested once its region reads B2 or lower and its zone is powered (R374): it returns to the pool
as a dormant spare, or is unusable until field service. -/
def execStackRetest (site : Nat) (usable : Bool) (s : State) : Out :=
  .next (if !isSite site ∨ !(s.site site).retest ∨ (s.site site).powered ∨ (s.stackOf site).isSome ∨ 2 < s.band site ∨ !s.zoneOn (zoneOf site) then s
    else
      let s := s.setSite site { s.site site with retest := false, tripped := false, usable := usable }
      let s := if usable then (s.checkTileDie site).remap site [] [] else s
      if (s.site site).usable then (s.setObj .B0601 site portDormant).showSpare site spareDormant else s.showSpare site spareUnusable)

/-! ### Liveness (R367) -/

/-- The site sequencer of a powered site writes its liveness count. -/
def execSiteLivenessWrite (site : Nat) (s : State) : Out :=
  let q := s.site site
  .next (if q.powered then s.setSite site { q with liveAt := s.time, silent := false } else s)

/-- No new count for 8 µs: the site-silent witness is raised, and the port withdrawn abruptly. -/
def execSiteSilent (site : Nat) (s : State) : Out :=
  let q := s.site site
  .next (if q.powered ∧ !q.silent ∧ q.liveAt + 8000 ≤ s.time then (s.setSite site { q with silent := true }).abrupt site false else s)

/-! ### Losing a panel (R377 to R381) -/

/-- The powered I/O dies' links of a direction, and all of them are DOWN. -/
def State.directionDown (s : State) (dir : Nat) : List Nat × Bool :=
  let l := ((List.range 4).filter (fun i => (s.iod i).powered)).map (fun i => 6 * i + dir)
  (l, l != [] && l.all (fun n => s.linkSt n == linkDown) && decide (1 < s.torusDim 0))

/-- Links as a bitset. -/
def linkBits (l : List Nat) : Nat := (l.map (fun n => 2 ^ n)).sum

/-- Every powered X− link is DOWN: the X− neighbour is declared lost. -/
def execPanelLost (s : State) : Out :=
  let (l, down) := s.directionDown 1
  let id := s.neighbour s.panelId 1
  .next (if !down ∨ s.recovery.declared.any (fun e => e.1 == id) then s
    else
      let s : State := { s with recovery := { s.recovery with xMinusDownAt := some s.time, declared := s.recovery.declared ++ [(id, s.panelId)] } }
      s.showDeclared.raise evPanelLost noSubject [id, linkBits l])

/-- Every powered X+ link is DOWN: the panel fences itself from every stream it holds. -/
def execPanelFenced (s : State) : Out :=
  let (l, down) := s.directionDown 0
  .next (if !down ∨ s.recovery.xPlusDown then s
    else
      let held : List Nat := s.streamList.map (fun (x : Stream) => x.id)
      (State.raise { s with recovery := { s.recovery with xPlusDown := true, fenced := held } } evPanelFenced noSubject [linkBits l]))

/-- A recovery begins whose re-mirroring is still to come (R382). -/
def State.remirror (s : State) : State := { s with recovery := { s.recovery with remirrorFrom := s.recovery.remirrorFrom.or (some s.time) } }

/-- One mirrored stretch, for which the mirror region holds a reserve, becomes an adopted one, or its stream ends for want of a complete
mirror. -/
def State.adopt (s : State) (panel : Nat) (m : MirrorRec) : State :=
  if !m.complete ∨ !s.recovery.mirrorRes.any (fun e => e.1 == m.stream) then
    (s.send (servingMsg 6 .aborted (m.stream % 2 ^ 32) m.last [4])).freeMirror m.stream
  else
    let id := if (s.stream m.stream).isSome then adoptedKey m.stream else m.stream
    let x : Stream := {
      id := id, k := m.k, sb := m.sb, reserve := m.reserve, latency := m.latency, sampling := m.sampling, table := m.table
      replica := s.pickReplica m.stream, kvSet := ((s.plan.image.bind (fun p => kvSetOf p m.reserve)).getD 0), promptLen := m.promptLen, prompt := []
      prefilled := min m.promptLen ((m.k + 1) * m.sb * 256) - m.k * m.sb * 256, position := m.last + 1, lastToken := m.lastToken, delivered := m.last
      st := .ready, layer := 0, readyAt := s.time, admittedAt := s.time, touched := true, cancelled := false, isHead := m.isHead, faultedAt := 0
      counter := s.freeCounter (s.dieFor m.stream), mirrorSent := none, mirrorTarget := 0, unmirrored := true, adopted := some panel, queries := []
      place := s.freePlace, moved := s.dieLost m.stream }
    let s := s.setStream id (some x)
    let s := s.send (.adopted 0 panel m.stream m.k m.isHead m.last)
    (m.table.filter (fun h => h != panel && h != s.panelId)).foldl (fun s h => s.send (.adopted (h + 1) panel m.stream m.k m.isHead m.last)) s

/-- 100 µs after it declared the panel lost, the adopter serves its mirrored stretches and tells hosts and holders (R378, R379). -/
def execAdoption (panel : Nat) (mirrored : List MirrorRec) (s : State) : Out :=
  .next (match s.recovery.xMinusDownAt with
    | some t =>
      if s.recovery.declared.any (fun e => e.1 == panel) ∧ !(s.recovery.lost.any (fun e => e.1 == panel)) ∧ t + 100000 ≤ s.time then
        let s : State := { s with recovery := { s.recovery with lost := s.recovery.lost ++ [(panel, s.panelId)] } }
        let s := mirrored.foldl (fun s m => s.adopt panel m) s
        let n := (s.streamList.filter (fun x => x.adopted == some panel)).length
        ((s.remirror.showStreams.raise evAdopted noSubject [panel, n, mirrored.length - n]).dropAdopted (some panel))
      else s
    | none => s)

/-- The last copy of one recovery's re-mirroring completes (R382): at the rate of `X.0F05` at most, and only for streams that wait for a second
copy. -/
def execRemirrorDone (streams : List Nat) (bytes : Nat) (s : State) : Out :=
  let due : Bool := match s.recovery.remirrorFrom with
    | some t => decide (t + bytes / s.obj .X0F05 0 ≤ s.time)
    | none => false
  let done := (distinct streams).filter (fun i => match s.stream i with
    | some x => x.unmirrored
    | none => false)
  .next (if !due then s
    else
      let s1 : State := { s with recovery := { s.recovery with remirrorFrom := none } }
      let s1 := done.foldl (fun s i => match s.stream i with
        | some x => s.setStream i (some { x with unmirrored := false })
        | none => s) s1
      s1.showStreams.raise evRemirrorDone noSubject [done.length, bytes])

/-! ### The levy (R383) -/

/-- A resource's cap in thousandths of a percent (Table 15.5): one stall in two frames for the path test, else levy_cap. -/
def State.levyCap (s : State) (i : Nat) : Nat := if i = 0 then 6250 else 1000 * s.obj .X0F00 0

/-- Class D levy slots of a port on a plane within the last millisecond stand above levy_cap of its 15,625 (R384). -/
def State.levyOver (s : State) (slots : Nat) : Bool := decide (s.obj .X0F00 0 * 15625 < 100 * slots)

/-- The market sees the levy pass its cap (R384): LEVY_STALLS, and the class A bounds of that port stop holding (bit 3 of B.0607). -/
def State.levyBreach (s : State) (e : Nat × Nat × Nat) : State :=
  if s.levyOver e.2.2 then (s.breach e.1 3).raise evLevyStalls e.1 [e.1, e.2.2, e.2.1] else s

/-- A millisecond of the levy ends: no work passes its cap, deferred work is reported at most once a second per resource, and X.0F09 shows
the use of the last second. `slots` are the class D levy slots that the market counted, by port and plane. -/
def execLevyMeterPeriod (use : List Nat) (slots : List (Nat × Nat × Nat)) (s : State) : Out :=
  let s1 := slots.foldl (fun s e => s.levyBreach e) s
  let s1 := (List.range 5).foldl (fun s i =>
    let last : Option Nat := (s.recovery.levyEv.find? (fun e => e.1 == i)).map (fun e => e.2)
    if s.levyCap i < use.getD i 0 ∧ dueEvent last s.time 1000000000 then
      (({ s with recovery := { s.recovery with levyEv := mapSet s.recovery.levyEv i s.time } }).raise evLevyDeferred noSubject [i])
    else s) s1
  let seen := ((List.range 5).map (fun i => min (use.getD i 0) (s1.levyCap i)) :: s1.recovery.levyUse).take 1000
  let s1 : State := { s1 with recovery := { s1.recovery with levyUse := seen } }
  .next (s1.setObj .X0F09 0 (((List.range 5).map (fun i =>
    2 ^ (32 * i) * ratF32 ((seen.map (fun l => l.getD i 0)).sum) (1000 * seen.length))).sum))

end Sys2Proof.Machine
end

