-- ==== Sys2Proof/Machine/Lease.lean ====
section
/-!
DEFINITION. The lease (R343, R345, R346, R391): grants, renewals, releases, overlaps and expiries; and base-zone resets (R399, R400), some
of which wait for a switch-over. Units are 0 CU-A and 1 CU-B.
-/

namespace Sys2Proof.Machine

/-! ### Base-zone resets (R399, R400) -/

/-- What is on its way from a port to the base ends with PATH_RESET (R400 step 2). -/
def State.resetGates (s : State) (p : Nat) : State :=
  (List.range 8).foldl (fun s plane =>
    let g := s.gate p plane
    let s := s.setGate p plane { g with bids := [], staging := [] }
    g.bids.foldl (fun s b => s.failBid plane p b .pathReset) s) s

/-- A mover whose reads or writes are under way meets PATH_RESET and stops every channel (R258, R400 step 2). -/
def State.resetMover (s : State) (p : Nat) : State :=
  if (s.mover p).chans.any (fun c => c.2.active.any (fun a => !a.reads.isEmpty || !a.writes.isEmpty)) then s.stopMover p .pathReset else s

/-- A base-zone reset begins (R400 steps 1 and 2): ZONE_RESET, the zone's ports withdrawn abruptly, its I/O die holds its channels (R234), and
the waves of the replicas with stacks there are aborted and their streams suspended; no stack counts as failed. -/
def State.beginReset (s : State) (z trigger : Nat) : State :=
  let s := s.raise evZoneReset z [z, trigger]
  let s := (zonePorts z).foldl (fun s p => ((s.abrupt p false).resetGates p).resetMover p) s
  let s := match iodOfZone z with
    | some i => s.setIod i { s.iod i with held := true }
    | none => s
  let s := [0, 1].foldl (fun s r =>
    match (zonePorts z).find? (fun p => match s.stackOf p with | some l => replicaOf l == r | none => false) with
    | some p => s.suspendReplica r ((s.stackOf p).getD 0) 0
    | none => s) s
  { s with recovery := { s.recovery with resets := mapSet s.recovery.resets z s.time } }

/-- A field's base logic resets (R400 steps 3 and 4): its write queue is in the vaults, unanswered reads and open merge tickets end with
PATH_RESET, its cache reads zero; the arrays of a corner field are kept. -/
def State.resetField (s : State) (f : Nat) : State :=
  let y := s.field f
  let s := y.writeQ.foldl (fun s x => s.vaultWrite x.dst x.ttile x.taddr x.payload) s
  let s := y.reads.foldl (fun s j => (s.answerRead j.record.rport j.record.rid .pathReset []).send (.remoteAnswer j.record.rport j.record.rtile j.record.rid .pathReset [])) s
  let s := [2 * f, 2 * f + 1].foldl (fun s p =>
    (s.station p).openTickets.foldl (fun s t => s.mergeDone p t.tile t.tag t.ticket .pathReset) s) s
  if isCornerField f then
    let s := s.setField f { y with writeQ := [], reads := [] }
    [2 * f, 2 * f + 1].foldl (fun s p => s.setStation p { opens := [], tickets := [] }) s
  else s.fieldOff f

/-! ### Grants (R343, R391) -/

/-- The keeper grants the lease to a unit: the epoch rises by 1 modulo 2³², the unit is active, and the epoch line carries the change. A reset
that waited for a switch-over begins (R399). -/
def State.grantLease (s : State) (u : Nat) : State :=
  let e := (s.keeper.epoch + 1) % 2 ^ 32
  let old := s.keeper.holder.getD 2
  let s : State := { s with keeper := { s.keeper with
    epoch := e, holder := some u, expiry := s.time + 8000000, lastGrant := s.time, granted := true
    requests := s.keeper.requests.filter (fun v => v != u), firstRequest := none } }
  let s := (((s.setUnit u { s.unit u with localExpiry := s.time + 7500000, renewSent := none }).setObj .W0000 u cuActive).setObj
    .W0001 0 e).setObj .W0002 0 u
  let s := (s.raise evLeaseChange noSubject [old, u, e, 3]).islandNotice 3 [e]
  let wait := s.recovery.resetWait
  let s : State := { s with recovery := { s.recovery with resetWait := [] } }
  wait.foldl (fun s e => s.beginReset e.1 e.2) s

/-- A unit in standby with its request pending (R341, R343). -/
def State.standby (s : State) : Option Nat :=
  [0, 1].find? (fun u => s.obj .W0000 u == cuStandby && s.keeper.requests.contains u)

/-- The unit that the first lease goes to: CU-A if it has requested (R391). -/
def State.firstChoice (s : State) : Option Nat := [0, 1].find? (fun u => s.keeper.requests.contains u)

/-- The keeper grants the next lease: to a unit in standby, not within 100 µs of the last grant; with none, once both units have requested it
(R391). -/
def State.leaseGrant (s : State) : State :=
  if s.keeper.holder.isSome ∨ (s.keeper.granted ∧ s.time < s.keeper.lastGrant + 100000) then s
    else match s.standby with
    | some u => s.grantLease u
    | none => if [0, 1].all (fun u => s.keeper.requests.contains u) then
        (match s.firstChoice with
          | some u => s.grantLease u
          | none => s)
      else s

/-- 1 s after the first request the first lease goes to the unit that has requested it (R391). -/
def State.firstLease (s : State) : State :=
  match s.keeper.firstRequest, s.firstChoice with
  | some t, some u => if s.keeper.holder.isNone ∧ t + 1000000000 ≤ s.time then s.grantLease u else s
  | _, _ => s

/-- A unit asks for the lease. -/
def State.requestLease (s : State) (u : Nat) : State :=
  { s with keeper := { s.keeper with
      requests := if s.keeper.requests.contains u then s.keeper.requests else s.keeper.requests ++ [u]
      firstRequest := if s.keeper.holder.isNone then s.keeper.firstRequest.or (some s.time) else s.keeper.firstRequest } }

/-! ### Renewal and expiry (R343) -/

/-- A processor runs, or is less than 40 ms into a restart. -/
def State.procHealthy (s : State) (u p : Nat) : Bool :=
  match (mapGet { crashes := [], restarting := none } (s.unit u).procs p).restarting with
  | some t => decide (s.time < t + 40000000)
  | none => true

/-- Every 2 ms ± 0.1 ms the holder's agent sends RENEW while its processors are healthy. -/
def execLeaseRenew (unit : Nat) (s : State) : Out :=
  let c := s.unit unit
  let due : Bool := match c.renewSent with
    | some t => decide (t + 1900000 ≤ s.time)
    | none => true
  .next (if s.keeper.holder = some unit ∧ s.obj .W0000 unit = cuActive ∧ due = true ∧ (List.range 4).all (fun p => s.procHealthy unit p) then
      s.setUnit unit { c with renewSent := some s.time }
    else s)

/-- The keeper takes a RENEW within 10 µs of its sending: the expiry is 8 ms after it, and the acknowledgement sets the unit's own, 7.5 ms after
it was sent. -/
def execRenewReceive (unit : Nat) (s : State) : Out :=
  let c := s.unit unit
  .next (match c.renewSent with
    | some t =>
      if s.keeper.holder = some unit ∧ s.time ≤ t + 10000 then
        ({ s with keeper := { s.keeper with expiry := s.time + 8000000 } }).setUnit unit { c with localExpiry := t + 7500000 }
      else s
    | none => s)

/-- At its local expiry the unit emits nothing more and enters resyncing. -/
def execLeaseStandDown (unit : Nat) (s : State) : Out :=
  .next (if s.keeper.holder = some unit ∧ s.obj .W0000 unit = cuActive ∧ (s.unit unit).localExpiry ≤ s.time then
      s.setObj .W0000 unit cuResyncing
    else s)

/-- The keeper's expiry passes: the lease ends. -/
def execLeaseExpiry (s : State) : Out :=
  .next (if s.keeper.holder.isSome ∧ s.keeper.expiry ≤ s.time then s.endLease 0 else s)

/-! ### Releases (R345, R346) -/

/-- The holder releases its lease: refused with no unit in standby. With failover_mode overlap the other unit is granted at once and the old
epoch stays current for 200 µs. -/
def State.releaseLease (s : State) : State :=
  match s.keeper.holder, s.standby with
  | some u, some v =>
    if s.obj .W0003 0 = 1 then
      let s := (s.setObj .W0000 u cuResyncing).grantLease v
      { s with keeper := { s.keeper with overlap := some (s.time + 200000) } }
    else s.endLease 1
  | _, _ => s

/-- The holder releases (R345): 0 switchover, 1 second crash, 2 failed self-check, 3 update commit. -/
def execLeaseRelease (unit _cause : Nat) (s : State) : Out :=
  .next (if s.keeper.holder = some unit then s.releaseLease else s)

/-- The keeper revokes at once (R345): 0 the comparator reports the holder demoted, 1 its I/O die is unpowered, 2 its zone is lost. -/
def execLeaseRevoke (cause : Nat) (s : State) : Out :=
  .next (match s.keeper.holder with
    | some u =>
      let i := if u = 0 then 0 else 3
      let holds := if cause = 0 then s.obj .W0000 u == cuDemoted else if cause = 1 then !(s.iod i).powered
        else if cause = 2 then !s.zoneOn (zoneOfIod i) else false
      if holds then s.endLease 2 else s
    | none => s)

/-- 200 µs after an overlap began, the old epoch is no longer current (R346). -/
def execOverlapExpiry (s : State) : Out :=
  .next (match s.keeper.overlap with
    | some t => if t ≤ s.time then { s with keeper := { s.keeper with overlap := none }, compare := { s.compare with seen := [] } } else s
    | none => s)

/-- The epochs that receivers accept (R344, R346). -/
def State.epochCurrent (s : State) (e : Nat) : Bool :=
  s.keeper.holder.isSome && (e == s.keeper.epoch || (s.keeper.overlap.isSome && (e + 1) % 2 ^ 32 == s.keeper.epoch))

/-! ### When a base-zone reset begins (R399) -/

/-- A reset is asked for: at once, or after a switch-over when the zone holds the lease holder's I/O die and a unit is in standby. -/
def State.askReset (s : State) (z trigger : Nat) : State :=
  let mine : Bool := match s.keeper.holder, iodOfZone z with
    | some u, some i => unitOfIod i == some u
    | _, _ => false
  if 14 ≤ z ∨ !s.zoneOn z ∨ (s.recovery.resets.any (fun e => e.1 == z)) then s
  else if mine && s.standby.isSome then
    ({ s with recovery := { s.recovery with resetWait := s.recovery.resetWait ++ [(z, trigger)] } }).releaseLease
  else s.beginReset z trigger

/-- A duplicate-check failure (0) or the restoring of a field time base (1) resets a zone's base logic. -/
def execBaseZoneReset (zone trigger : Nat) (s : State) : Out := .next (s.askReset zone trigger)

/-- The write queues have drained and the base logic has reset (R400 steps 3 and 4); the command of K.0E04, if one ran, is done. -/
def execZoneResetDrainDone (zone : Nat) (s : State) : Out :=
  .next (if !s.recovery.resets.any (fun e => e.1 == zone) then s
    else
      let s : State := { s with recovery := { s.recovery with resets := mapDel s.recovery.resets zone } }
      let s := (zoneFields zone).foldl (fun s f => s.resetField f) s
      s.endCmdOf .K0E04 zone .ok)

/-- A port returns to service at a frame boundary (R147), once the comparator has passed its restoration (R348); an I/O die that held its
channels resumes them (R234, R400 step 5). -/
def State.portBack (s : State) (port : Nat) : State :=
  if !s.passed 3 port then s else
  let s := (s.restorePort port).takePassed 3 port
  match iodOfPort port with
  | some i => if s.inService port then s.unholdDie i else s
  | none => s

end Sys2Proof.Machine
end

