-- ==== Sys2Proof/Machine/Startup.lean ====
section
/-!
DEFINITION. Start-up and reset (chapter 16), standby, feeds and hold-up (R290, R291, R295, R410, R411), the secure wipe (R396), the black-box
slots (R363) and the test port (R414).
-/

namespace Sys2Proof.Machine

/-! ### What a start keeps (Table 16.6) -/

/-- Objects whose home is a fuse or a flash: identity, life cycle, what the last start found in fuses (R388, R394, R402), and the tiles that
the next start is to map out (R90). -/
def inFlash (o : Obj) : Bool :=
  decide (o = .I0D01) || decide (o = .I0D02) || decide (o = .I0D03) || decide (o = .I0D05) || decide (o = .K0E05) || decide (o = .K0E07) ||
    decide (o = .S0406)

/-- The state at a start: reset, but for the flashes and fuses, what the outside holds (input, feeds, pins, open eFuses, sensors), and, when the island ran on, its time counter, lease epoch and black-box ring. -/
def State.fresh (s : State) (island : Bool) : State :=
  let r := State.reset
  let f := (s.objs.filter (fun e => inFlash e.1.1))
  let u : AMap Nat CtrlUnit := s.units.map (fun (e : Nat × CtrlUnit) => (e.1, { (r.unit e.1) with slotA := e.2.slotA, slotB := e.2.slotB, bootB := e.2.bootB, bootOld := e.2.bootOld }))
  let p := s.power
  let s' : State := { r with
    pending := s.pending, out := s.out, freeCount := s.freeCount, store := s.store.loaded, objs := f, units := u
    time := if island then s.time else 0
    log := { r.log with flash := s.log.flash, erased := s.log.erased
                        bb := if island then s.log.bb else [], bbNext := if island then s.log.bbNext else 0 }
    keeper := { r.keeper with epoch := if island then s.keeper.epoch else 0 }
    heat := if island then { s.heat with sensors := s.heat.sensors.filter (fun e => decide (152 ≤ e.1.1)) } else r.heat
    power := { r.power with
      mv := p.mv, inRangeSince := if island then p.inRangeSince else p.inRangeSince.map (fun _ => 0), aonFeed := p.aonFeed, islandRuns := true
      holdUpCharged := p.holdUpCharged && island, feedFrom := if island then p.feedFrom else 0, stby := p.stby
      fuseOpenAt := if island then p.fuseOpenAt else p.fuseOpenAt.map (fun e => (e.1, 0)) }
    startup := { r.startup with warm := island }
    pins := { r.pins with stbyEn := s.pins.stbyEn, slotId := s.pins.slotId, trstN := s.pins.trstN, ir := s.pins.ir, dr := s.pins.dr } }
  let s' := if island then s'.setObj .W0001 0 s.keeper.epoch else s'
  -- the header holds every life-cycle state but those that fuses give (R394)
  let s' := if s.obj .I0D05 0 = 0 ∨ s.obj .I0D05 0 = 4 then s' else s'.setObj .I0D05 0 s.store.inForce.life
  let s' := s'.setObj .I0D04 0 s.pins.slotId
  (s'.setObj .K0D10 0 (objDefault .K0D10 0 + s.pins.slotId * 2 ^ 120)).setObj .P0C00 0 (ratF32 p.mv 1000)

/-- Enter a stage of Table 16.3 (K.0E00). -/
def State.enterStage (s : State) (k : Nat) : State :=
  { (s.setObj .K0E00 0 (k - 1)) with startup := { s.startup with stage := k, started := s.time, running := decide (k < 13) } }

/-- A warm start begins at stage 3 (Table 16.6). -/
def State.warmStart (s : State) : State := ((s.fresh true).enterStage 3).settleIsland

/-- The input has been inside 40.0 V to 59.5 V for 1 s (R291). -/
def State.inputSteady (s : State) : Bool :=
  match s.power.inRangeSince with
  | some t => decide (t + 1000000000 ≤ s.time)
  | none => false

/-- The always-on feed is restored (R306, R390): with the island stopped, or a trip to release, the panel runs a cold start from stage 1,
or waits in standby while STBY_EN is asserted. -/
def execColdStart (s : State) : Out :=
  .next (if s.power.aonFeed then s
    else
      let s := { s with power := { s.power with aonFeed := true, feedFrom := s.time, holdUpFrom := none } }
      if s.power.islandRuns ∧ !s.power.tripped then s.settleIsland
      else
        let s := s.fresh false
        (if s.power.stby then s else s.enterStage 1).settleIsland)

/-- The input has been in range for 1 s: a panel that it had switched off, or that left standby without it, runs a warm start (R291). -/
def execInputRestored (s : State) : Out :=
  .next (if s.startup.stage = 0 ∧ !s.power.stby ∧ !s.power.tripped ∧ s.power.islandRuns ∧ s.inputSteady then s.warmStart else s)

/-! ### Standby (R295, R410) -/

/-- STBY_EN has been asserted for 1 ms: links go DOWN, ports are withdrawn, the black box is flushed, and everything is switched off. -/
def execStandbyEnter (s : State) : Out :=
  .next (if s.power.stby then s
    else
      let s : State := { s with power := { s.power with stby := true }, pins := { s.pins with stbyEn := true, wakeN := false } }
      if s.startup.stage = 0 then s.settleIsland
      else
        let s := (List.range 24).foldl (fun s n => s.dropLink n) s
        let s := usedPorts.foldl (fun s p => if s.inService p then (s.setObj .B0601 p portWithdrawn).raise evPortWithdrawn p [0] else s) s
        ((s.flushBb 2).allOff).settleIsland)

/-- STBY_EN has been released for 1 ms: the panel runs a warm start, once its input is steady (R410, R411). -/
def execStandbyRelease (s : State) : Out :=
  .next (if !s.power.stby then s
    else
      let s : State := { s with power := { s.power with stby := false, tripped := false }, pins := { s.pins with stbyEn := false } }
      if s.power.islandRuns ∧ s.inputSteady then s.warmStart else s.settleIsland)

/-- 20 ms after both its sources failed the hold-up store is exhausted: the island stops, and its time counter, lease epoch and live ring are
lost (R290). -/
def execHoldUpExhausted (s : State) : Out :=
  .next (match s.power.holdUpFrom with
    | some t =>
      if t + 20000000 ≤ s.time ∧ s.power.islandRuns then
        let s := if s.startup.stage = 0 then s else s.allOff
        let s := s.fresh false
        ({ s with power := { s.power with islandRuns := false, holdUpCharged := false } }).showPins
      else s
    | none => s)

/-! ### The stages (R390, Table 16.3) -/

/-- The fuse block of a lamp die (R388). -/
def State.lampFuses (s : State) (d : Nat) : Nat := mapGet (LampFuse.make d 0) s.store.lampFuse d

/-- A lamp die sends its identity (R388, R389): on a fault or a mismatch it is lost, with every lamp die that claims the same position. -/
def State.checkLamp (s : State) (d : Nat) : State :=
  let v := s.lampFuses d
  if s.lampLost d ∨ (!LampFuse.fault v ∧ LampFuse.number v = d) then s
  else
    let s := s.raise evIdentityMismatch (regLamp + d) [regLamp + d, LampFuse.number v]
    ((List.range 12).filter (fun e => e == d || LampFuse.number (s.lampFuses e) == LampFuse.number v)).foldl (fun s e => s.loseLamp e 3) s

/-- The flight times of every port and plane are measured (R121). -/
def State.measureFlights (s : State) : State :=
  { s with startup := { s.startup with flight := some s.freeCount }, freeCount := s.freeCount + 1 }

/-- When the headgate of a port begins to transmit in a slot, in ps of the time counter: early by the flight time, so that its light reaches the
first stage at the slot's boundary (R121). -/
def State.launchAt (s : State) (port plane slot : Nat) : Option Int :=
  s.startup.flight.map (fun k => (64000 * slot : Int) - Config.flightTime k port plane)

/-- I/O dies with supply whose fuses are not those of their position and role (R389). -/
def State.badIods (s : State) : List Nat := (List.range 4).filter (fun i => (s.iod i).powered && !IodFuse.good (s.obj .K0E05 (portOfIod i)) i)

/-- Such a die is reported (R389). -/
def State.reportIod (s : State) (i : Nat) : State :=
  (s.raise evIdentityMismatch (portOfIod i) [portOfIod i, IodFuse.number (s.obj .K0E05 (portOfIod i))]).setBit .K0E06 0 (portOfIod i) true

/-- Supplies close (stage 3): every zone whose eFuse is closed, the base logic of its fields, the I/O dies and their control units. -/
def State.suppliesOn (s : State) : State :=
  let s := (List.range 16).foldl (fun s z => s.setObj .P0C06 z (if s.fuseOpen z then (if z < 14 then zoneFuse else zoneFeedLost) else zoneIsOn)) s
  let s := (List.range 4).foldl (fun s i => if s.zoneOn (zoneOfIod i) then s.setIod i { s.iod i with powered := true } else s) s
  let s := [0, 1].foldl (fun s u => if (s.iod (if u = 0 then 0 else 3)).powered then s.setObj .W0000 u cuRestarting else s) s
  if s.fuseOpen 14 ∧ s.fuseOpen 15 then s.tripPanel 2 else s

/-- Lamp dies with supply light every set and the rings take their orders (stage 5); one without is lost (R206). The lanes of trees with light
hunt for lock (R192). -/
def State.lampsOn (s : State) : State :=
  let s : State := { s with light := [], carryWanted := [], urgent := [], ringBase := some s.freeCount, freeCount := s.freeCount + 1, heaters := [] }
  let s := (List.range 12).foldl (fun s d => s.setObj .L0800 d 0) s
  let s := (List.range 12).foldl (fun s d => if s.zoneOn (zoneOfIod (d / 3)) then s else s.loseLamp d 1) s
  let s := usedPorts.foldl (fun s p => (List.range 8).foldl (fun s plane => s.showBundle p plane) s) s
  (List.range 4).foldl (fun s i => s.startLanes i) s

/-- A site that a stage finds unusable is switched off. -/
def State.failSite (s : State) (p : Nat) : State :=
  ((s.siteOff p).setSite p { (s.siteOff p).site p with usable := false }).showSpare p spareUnusable

/-- A stack is powered, its die's identity checked, and its fused tile map put in force (R84, R389); one that is no use is switched off. -/
def State.powerStack (s : State) (p : Nat) : State :=
  let s := ((s.powerSite p).checkTileDie p).remap p [] []
  if (s.site p).usable then s else s.failSite p

/-- Sites that hold power. -/
def State.poweredSites (s : State) : List Nat := usedPorts.filter (fun p => isSite p && (s.site p).powered)

/-- Stage 8 begins: the active sites are powered (R390). -/
def State.stacksOn (s : State) : State :=
  (usedPorts.filter (fun p => isSite p && !spareSites.contains p)).foldl (fun s p =>
    if (s.site p).usable ∧ s.zoneOn (zoneOf p) then s.powerStack p else s.failSite p) s

/-- What the tests of a stage find of a powered site: it fails whole, or tiles and switches are mapped out (R84 to R86, R390, R393). -/
def State.testSite (s : State) (failed : List Nat) (badTiles : List (Nat × Nat)) (furrows : List (Nat × Nat × Nat)) (p : Nat) : State :=
  let (more, dead) := furrowFailures ((furrows.filter (fun e => e.1 == p)).map (fun e => e.2))
  let bad := (badTiles.filter (fun e => e.1 == p)).map (fun e => e.2) ++ more
  let s := if bad = [] ∧ dead = [] then s else s.settleMap p bad dead
  let s := s.judgeColumns p
  if failed.contains p ∨ !(s.site p).usable then s.failSite p else s

/-- Spares that a side may take (R369, R390). -/
def State.spareFit (s : State) (q : Nat) : Bool :=
  spareSites.contains q && (s.site q).usable && s.zoneOn (zoneOf q) && s.band q != bandB4

/-- Active sites that a side lacks (R368). -/
def State.lacking (s : State) (r : Nat) : Nat :=
  48 - (usedPorts.filter (fun p => isSite p && !spareSites.contains p && sideOf p == r && (s.site p).powered && (s.site p).usable)).length

/-- Spares are powered when they are needed to make up the sites that stage 10 maps (R390). -/
def State.makeUp (s : State) : State :=
  ((List.replicate (s.lacking 0) 0 ++ List.replicate (s.lacking 1) 1).foldl (fun (a : State × List Nat) r =>
    match (spareOrder r).find? (fun q => a.1.spareFit q && !a.2.contains q) with
    | none => a
    | some q => (if (a.1.site q).powered then a.1 else a.1.powerStack q, q :: a.2)) (s, [])).1

/-- The tests of stage 8 or 9 end (R390): the stage goes on while columns are still to be trained and cleared, and while spares are powered to
make up for sites that failed. -/
def State.stackTests (s : State) (failed : List Nat) (badTiles : List (Nat × Nat)) (furrows : List (Nat × Nat × Nat)) : State × Bool :=
  let s := s.poweredSites.foldl (fun s p => s.testSite failed badTiles furrows p) s
  if s.poweredSites.any (fun p => !s.columnsReady p) then (s, false)
  else
    let t := s.makeUp
    (t, s.poweredSites.length == t.poweredSites.length && spareSites.all (fun q => (s.site q).usable == (t.site q).usable))

/-- Plane paths (R393): a port that loses slots toward more than 8 destinations has failed its plane; more than 4 such ports retire it.
Answers the other ports that failed. -/
def State.planePaths (s : State) (paths : List (Nat × Nat × Nat)) : State × List Nat :=
  let fail := paths.filter (fun e => decide (8 < e.2.2))
  let s := fail.foldl (fun s e => s.raise evPathTestFailed e.1 [e.1, e.2.1, e.2.2]) s
  let onPlane (k : Nat) : Nat := (distinct ((fail.filter (fun e => e.2.1 == k)).map (fun e => e.1))).length
  let gone := (List.range 8).filter (fun k => decide (4 < onPlane k))
  let s := gone.foldl (fun s k => s.retirePlane k 3) s
  (s, distinct ((fail.filter (fun e => !gone.contains e.2.1)).map (fun e => e.1)))

/-- A powered spare makes up a side (R390). -/
def State.takeSpare (s : State) (r : Nat) : State × Option Nat :=
  match (spareOrder r).find? (fun q => s.spareFit q && (s.site q).powered && (s.stackOf q).isNone) with
  | none => (s, none)
  | some q =>
    let s := s.showSpare q sparePromoted
    (if sideOf q = r then s else s.raise evReplicaOverlap q [q, r], some q)

/-- A logical stack is mapped to its site (R368), or to a spare, or to none. -/
def State.mapStack (s : State) (l : Nat) (site : Option Nat) : State :=
  match site with
  | some p => (s.setObj .X0F01 l p).setObj .B0601 p portInService
  | none =>
    match s.takeSpare (replicaOf l) with
    | (s, some p) => (s.setObj .X0F01 l p).setObj .B0601 p portInService
    | (s, none) => s.setObj .X0F01 l 255

/-- Stage 10: logical stacks (R368, R369) on the powered sites, ports in service; STARTUP_SHORT with fewer than 96 usable sites, spares
included. -/
def State.mapStacks (s : State) : State :=
  let sites := usedPorts.filter isSite
  let can := sites.filter (fun p => (s.site p).usable && s.zoneOn (zoneOf p))
  let side (r : Nat) : List Nat := can.filter (fun p => !spareSites.contains p && sideOf p == r && (s.site p).powered)
  let s := if can.length < 96 then s.raise evStartupShort noSubject [can.length] else s
  let s := (List.range 96).foldl (fun s l => s.mapStack l ((side (replicaOf l))[l % 48]?)) s
  let s := (List.range 4).foldl (fun s i => if (s.iod i).powered ∧ !s.startup.bad.contains (portOfIod i) then s.setObj .B0601 (portOfIod i) portInService else s) s
  (sites.filter (fun p => (s.site p).powered && (s.stackOf p).isNone)).foldl (fun s p => s.siteOff p) s

/-- A stage ends: its duration goes to K.0E01 and STARTUP_STAGE is raised (R390). -/
def State.stageDone (s : State) (next : Nat) : State :=
  let k := s.startup.stage
  let ms := (s.time - s.startup.started) / 1000000
  ((s.setObj .K0E01 0 (packedSet (s.obj .K0E01 0) 4 (k - 1) ms)).raise evStartupStage noSubject [k, ms]).enterStage next

/-- Start-up stops at its stage (R389, R390). -/
def State.startFailed (s : State) (cause : Nat) : State :=
  ({ s with startup := { s.startup with running := false } }).raise evStartupFailed noSubject [s.startup.stage, cause]

/-- The secure wipe begins, or is taken up again (R396): every usable site is powered. -/
def State.wipeSites (s : State) : State :=
  let s := s.setObj .K0E03 0 1
  (usedPorts.filter (fun p => isSite p && (s.site p).usable && !(s.site p).powered && s.zoneOn (zoneOf p))).foldl (fun s p => s.powerSite p) s

/-- A start-up stage ends and the next begins (Table 16.3). -/
def execStartupStageEnd (ok : Bool) (failed : List Nat) (badTiles : List (Nat × Nat)) (furrows paths : List (Nat × Nat × Nat)) (s : State) : Out :=
  let k := s.startup.stage
  .next (if k = 0 ∨ 13 ≤ k ∨ !s.startup.running then s
    else if k = 1 then (if s.inputSteady then s.stageDone 2 else s)
    else if !ok then s.startFailed 0
    else if k = 2 then s.stageDone 3
    else if k = 3 then (let t := s.suppliesOn
      if t.power.tripped then t else (t.stageDone 4).settleIsland)
    else if k = 4 then
      if s.keeper.holder.isNone then s
      else
        let s := if s.store.wipeFrom.isSome then ({ s with store := { s.store with wipeFrom := some s.time } }).wipeSites else s
        (s.stageDone 5).settleIsland
    else if k = 5 then
      let s := s.lampsOn.stageDone 6
      { s with ptp := { s.ptp with lastAnnounce := s.time } }
    else if k = 6 then
      if s.ptp.set then s.stageDone 7
      else if s.time < s.startup.started + 3000000000 then s
      else (if s.ptp.master.isNone && (List.range 28).any (fun n => s.ptpUp n) then s.ptpEnter ptpGrandmaster else s).stageDone 7
    else if k = 7 then
      if s.badIods ≠ [] then (s.badIods.foldl (fun s i => s.reportIod i) s).startFailed 1
      else (((List.range 12).foldl (fun s d => s.checkLamp d) s.measureFlights).stageDone 8).stacksOn
    else if k = 8 then
      let (s, done) := s.stackTests failed badTiles furrows
      if done then s.stageDone 9 else s
    else if k = 9 then
      let (s, bad) := s.planePaths paths
      let s : State := { s with startup := { s.startup with bad := s.startup.bad ++ bad.filter (fun p => (iodOfPort p).isSome) } }
      let (s, done) := s.stackTests (failed ++ bad) badTiles furrows
      if done then s.stageDone 10 else s
    else if k = 10 then s.mapStacks.stageDone 11
    else if k = 11 then (if s.calibrated then s.stageDone (if s.plan.loading.isSome then 12 else 13) else s)
    else if s.plan.loading.isSome then s
    else s.stageDone 13)

/-! ### The secure wipe (R396) -/

/-- A secure wipe begins toward a life-cycle state: ledger keys leave force, but for key_service on the way to Provisioned, and plan keys their
slots. -/
def State.beginWipe (s : State) (target : Nat) : State :=
  let st := s.store
  let gone := decide (target = 4)
  ({ s with store := { st with
      slotKind := st.slotKind.filter (fun e => e.2 == 2), keyBasic := none, keyExpert := none, keyService := if gone then none else st.keyService
      freshBasic := false, freshExpert := false, wipeFrom := some s.time, wipeTarget := target } }).wipeSites

/-- The wipe ends: vaults, tile stores, field caches, black-box areas and event log read empty, and WIPE_DONE is the first record of the black
box. The last plan generation and the minimum security version stay. -/
def execWipeDone (s : State) : Out :=
  .next (match s.store.wipeFrom with
    | none => s
    | some t =>
      let s := ((s.clearRange 0 (2 ^ 44)).clearRange (2 ^ 44) (2 ^ 45)).clearRange (2 ^ 45) (2 ^ 46)
      let s := (usedPorts.filter (fun p => isSite p && (s.site p).powered && (s.stackOf p).isNone)).foldl (fun s p => s.siteOff p) s
      let s : State := { s with
        store := { s.store with wipeFrom := none }
        fields := s.fields.map (fun (e : Nat × Field) => (e.1, { e.2 with lines := [], writeQ := [], reads := [] }))
        plan := { s.plan with image := none, loading := none }
        log := { s.log with events := [], overwritten := 0, bb := [], flash := [], erased := true } }
      let s := (s.setObj .K0E03 0 2).setObj .X0700 0 planNone
      (s.raise evWipeDone noSubject [(s.time - t) / 1000000000]).endCmd .K0E02 .ok)

/-! ### Black-box slots (R363) -/

/-- Once the power allows, the island erases the oldest slot. -/
def execBlackboxSlotErase (s : State) : Out :=
  .next (if s.log.erased ∨ s.log.flushing.isSome ∨ s.startup.stage = 0 then s
    else { s with log := { s.log with flash := s.log.flash.take 3, erased := true } })

/-- The flush has been written: a flush by command takes its generation now, with its BB_FLUSH, and the command ends. -/
def execBlackboxFlushDone (s : State) : Out :=
  .next (if s.log.flushing.isNone then s
    else
      let mine : Bool := (s.cmds.find? (fun c => c.1 == Obj.W0017)).any (fun c => c.2.running)
      let s := if mine then s.flushBb 3 else s
      ({ s with log := { s.log with flushing := none } }).endCmd .W0017 .ok)

/-! ### The test port (R414) -/

/-- An instruction is shifted: 0 BYPASS, 1 IDCODE, any other a die test, which is open only in Manufacture and Service and is BYPASS
otherwise. -/
def execTapInstruction (ir : Nat) (s : State) : Out :=
  let open' := decide (s.obj .I0D05 0 = 0) || decide (s.obj .I0D05 0 = 3)
  let k := if ir ≤ 1 ∨ open' = true then ir else 0
  .next (if k = 0 then { s with pins := { s.pins with trstN := true, ir := 0, dr := 0 } }
    else if k = 1 then { s with pins := { s.pins with trstN := true, ir := 1, dr := Config.idcode } }
    else { s with freeCount := s.freeCount + 1, pins := { s.pins with trstN := true, ir := k, dr := Config.tapData s.freeCount } })

/-- TRST_N is driven low: the port is held in reset, with IDCODE selected. -/
def execTapReset (s : State) : Out := .next { s with pins := { s.pins with trstN := false, ir := 1, dr := Config.idcode } }

end Sys2Proof.Machine
end

