-- ==== Sys2Proof/Machine/Dictionary.lean ====
section
/-!
DEFINITION. The values of the ledger's objects: what a READ finds (R313, R325), which values an object takes (R314, the range columns and the
cross-object rules), where a Halt object may be written (R319), and what a value brings when it takes effect (R318).
-/

namespace Sys2Proof.Machine

/-- The row that an area letter and a number name (R10). -/
def findObj (area num : Nat) : Option ObjRow := objTable.find? (fun r => r.area == area && r.num == num)

/-- Bytes of one element's value (R334). -/
def ObjRow.size (r : ObjRow) : Nat := r.entries * r.esize

/-! ### What entries read as -/

/-- A spare site that holds no logical stack. -/
def State.unpromoted (s : State) (p : Nat) : Bool := spareSites.contains p && (s.stackOf p).isNone

/-- Entries by port that read 0, or off in T.0120: those of dark ports, of unpromoted spare sites but for tile maps, and of I/O-die ports in
the chapters that say so (R74, R90, R118, R151, R271, R289, R311); and remote-access controllers of corner fields. -/
def State.readsZero (s : State) (o : Obj) (i : Nat) : Bool :=
  let r := objRow o
  let byPort := r.elements == 128
  if o = .B0610 then isCornerField i
  else if !byPort then false
  else if r.area = 0x53 ∧ r.num / 256 = 3 then !isSite i || s.unpromoted i
  else if r.area = 0x53 then !isSite i
  else if r.area = 0x4D then !isSite i || s.unpromoted i
  else if r.area = 0x42 then isDark i
  else if r.area = 0x44 then isDark i || s.unpromoted i
  else if r.area = 0x43 then !isSite i || s.unpromoted i
  else if r.area = 0x50 ∨ r.area = 0x54 then isDark i || s.unpromoted i
  else false

/-! ### Objects whose value other state holds -/

/-- A bitset of the conditions broken within the last millisecond (R134, R247). -/
def recentBits (now : Nat) (n : Nat) (at' : Nat → Option Nat) : Nat :=
  ((List.range n).map (fun b => match at' b with
    | some t => if now < t + 1000000 then 2 ^ b else 0
    | none => 0)).sum

/-- The two bits of a bank in S.0308, coded as BANKPWR st. -/
def bankBits (b : BankSt) : Nat :=
  match b with
  | .on => 0
  | .retention => 1
  | .off => 2

/-- A mailbox as D.0A07 shows it (R271). -/
def Mailbox.show (b : Mailbox) : Nat := (if b.full then 1 else 0) + (if b.collision then 2 else 0) + 2 ^ 8 * b.seq

/-- The ledger key in force at a level (R327, R396): none in Decommissioned. -/
def State.levelKey (s : State) (level : Nat) : Option Nat :=
  if s.obj .I0D05 0 = 4 then none
  else
    let own := if level = 0 then s.store.keyBasic else if level = 1 then s.store.keyExpert else s.store.keyService
    some (own.getD (if level = 2 then Config.serviceKey else transportKey (s.obj .I0D01 0) level))

/-- K.0D1B: for each key the first 4 B of its SHA-384, or 0 for a key never written (R340). -/
def State.keyIds (s : State) : Nat :=
  let one (k : Option Nat) : Nat := (k.map keyId).getD 0
  one s.store.keyBasic + 2 ^ 32 * one s.store.keyExpert + 2 ^ 64 * one s.store.keyService

/-- One 64-B entry of K.0D01 (R340). -/
def sessionEntry (n : Nat) (x : Session) : Nat :=
  n + 2 ^ 16 * x.level + 2 ^ 24 * (if x.proven then 1 else 0) + 2 ^ 32 * x.version + 2 ^ 64 * x.src + 2 ^ 192 * x.sport + 2 ^ 256 * x.name

/-- K.0D01: session n stands in slot n - 1. -/
def State.sessionTable (s : State) : Nat :=
  ((List.range 16).map (fun k => match s.session (k + 1) with
    | some x => sessionEntry (k + 1) x * 2 ^ (512 * k)
    | none => 0)).sum

/-- The image in a slot of W.0006: CU-A slot A, slot B, then CU-B. -/
def State.slotImage (s : State) (k : Nat) : FwImage :=
  ((if k % 2 = 0 then (s.unit (k / 2)).slotA else (s.unit (k / 2)).slotB)).getD Config.factoryImage

/-- The firmware's interface version (W.0007, R335): that of the image the lease holder runs, or with no holder of one that a unit runs. -/
def State.fwInterface (s : State) : Nat :=
  let of' (u : Nat) : Option Nat := (s.unit u).running.map (fun i => i.interface)
  (((s.keeper.holder.bind of').or (of' 0)).or (of' 1)).getD 0

/-- `len` bytes at an offset of a value. -/
def bytesAt (v off len : Nat) : Nat := v / 2 ^ (8 * off) % 2 ^ (8 * len)

/-- A value with `len` bytes at an offset 0. -/
def zeroBytes (v off len : Nat) : Nat := v - bytesAt v off len * 2 ^ (8 * off)

/-- An image header as it is read: the reserved fields of Table 14.6 are 0 (R6): bits 1 to 31 of the flags, bytes 44 to 47 and 288 to 319. -/
def imageShown (h : Nat) : Nat := zeroBytes (zeroBytes (zeroBytes h 44 4) 288 32) 20 4 + bytesAt h 20 4 % 2 * 2 ^ 160

/-- The value of an element as a READ finds it. -/
def State.readObj (s : State) (o : Obj) (i : Nat) : Nat :=
  if s.readsZero o i then (if o = .T0120 then bandOff else 0)
  else match o with
    | .C0B01 => s.time
    | .S0308 => ((List.range 48).map (fun k =>
        2 ^ (64 * k) * ((List.range 32).map (fun b => bankBits ((s.tile i k).bank b).st * 2 ^ (2 * b))).sum)).sum
    | .B0607 => recentBits s.time 4 (fun b => (s.aCond.find? (fun e => e.1 == (i, b))).map (fun e => e.2))
    | .F0911 => recentBits s.time 5 (fun b => ((s.link i).conds.find? (fun e => e.1 == b)).map (fun e => e.2))
    | .B060B => match iodOfPort i with
      | some d => ((s.iod d).tickets.filter (fun t => t.fin.isNone)).length
      | none => (s.station i).openTickets.length
    | .L080D => if isDark (i / 8) then 0
      else if s.clockLost.contains (i / 8, i % 8) || (s.market (i % 8)).recovers (i / 8) s.slotNo then bundleRecovery else s.obj .L080D i
    | .S0400 => if (s.site i).powered then s.obj .S0400 i
      else ((List.range 6).map (fun r => TileFuse.mapValue (s.obj .K0E05 i) r * 2 ^ (8 * r))).sum
    | .S0401 => if (s.site i).powered then s.obj .S0401 i else bitsOf (s.obj .K0E05 i) 32 54
    | .D0A00 => ((List.range 32).map (fun c => s.moverState i c * 2 ^ (16 * c))).sum
    | .D0A07 => (s.box i).show
    | .E0D01 => s.log.next
    | .E0D02 => s.log.overwritten
    | .K0D00 => (s.sessions.filter (fun (e : Nat × Option Session) => e.2.any (fun x => x.proven))).length
    | .K0D01 => s.sessionTable
    | .K0D1B => s.keyIds
    | .W0006 => imageShown ((s.slotImage i).header % 2 ^ (8 * 416))
    | .W0007 => s.fwInterface
    | .K0E07 => s.store.minSecurity
    | o => s.obj o i

/-! ### Rings -/

/-- Widths in bytes of the values in an event's data column: 4 each, but for those of sessions (log 40). -/
def eventWidths (code : Nat) : List Nat :=
  if code = evSessionOpen then [2, 1, 16, 4] else if code = evProofFailed then [16, 1] else if code = evLedgerWrite then [2, 4, 2] else []

/-- Values packed in order at their widths. -/
def packAt : List Nat → List Nat → Nat
  | [], _ => 0
  | v :: r, [] => v % 2 ^ 32 + 2 ^ 32 * packAt r []
  | v :: r, w :: ws => v % 2 ^ (8 * w) + 2 ^ (8 * w) * packAt r ws

/-- An event record (Table 13.11). -/
def Event.num (e : Event) : Nat :=
  e.code + 2 ^ 16 * e.subject + 2 ^ 64 * e.index + 2 ^ 128 * e.time + 2 ^ 192 * (packAt e.data (eventWidths e.code) % 2 ^ 192)

/-- A black-box record (Table 14.10). -/
def BbRec.num (e : BbRec) : Nat :=
  e.index + 2 ^ 32 * e.time + 2 ^ 96 * e.code + 2 ^ 112 * e.source + 2 ^ 120 * e.epoch + 2 ^ 152 * (packAt e.data (eventWidths e.code) % 2 ^ 360)

/-- A record of a firmware log ring (R360). -/
def FwRec.num (e : FwRec) : Nat :=
  e.index % 2 ^ 32 + 2 ^ 32 * (e.time % 2 ^ 64) + 2 ^ 96 * (e.msg.proc % 4) + 2 ^ 98 * (e.msg.level % 4) + 2 ^ 100 * (e.msg.code % 2 ^ 16) +
    2 ^ 116 * e.msg.args.toNat

/-- Entry k of a table that holds a ring: of the firmware logs CU-A's record whose index is k modulo 4,096, then CU-B's; of the event log the record whose index is k modulo 16,384 (R338), of a black-box ring the record
whose index is k modulo 4,096, of the flashes the k-th record of CU-A's generations, newest first, then of CU-B's, and of the trace ring the
records oldest first. -/
def State.ringEntry (s : State) (o : Obj) (k : Nat) : Nat :=
  match o with
  | .E0D00 => ((s.log.events.find? (fun e => e.index % 16384 == k)).map (fun e => e.num)).getD 0
  | .W0010 => (((s.unit (k / 4096)).ring.find? (fun e => e.index % 4096 == k % 4096)).map (fun e => e.num)).getD 0
  | .W0015 => ((s.log.bb.find? (fun e => e.index % 4096 == k)).map (fun e => e.num)).getD 0
  | .W0016 =>
    let g := s.log.flash.getD (k % 16384 / 4096) []
    if k % 4096 < g.length then ((g[g.length - 1 - k % 4096]?).map (fun e => e.num)).getD 0 else 0
  | _ =>
    if k < s.log.trace.length then packAt (s.log.trace.getD (s.log.trace.length - 1 - k) []) [8, 4, 4, 16] else 0

/-- The objects that hold rings. -/
def isRing (o : Obj) : Bool := o = .E0D00 || o = .W0010 || o = .W0015 || o = .W0016 || o = .W0013

/-- `len` bytes at an offset of an element's value. -/
def State.readPart (s : State) (o : Obj) (i off len : Nat) : Nat :=
  if isRing o then
    let z := (objRow o).esize
    let e := off / z
    bytesAt (((List.range ((off + len - 1) / z + 1 - e)).map (fun j => s.ringEntry o (e + j) * 2 ^ (8 * z * j))).sum) (off - e * z) len
  else bytesAt (s.readObj o i) off len

/-- Bytes of a number up to its last one that is not zero. -/
def byteLen (v : Nat) : Nat := (Nat.log2 v + 8) / 8

/-- The bytes an element's value has now: a string ends after its last character (R313). -/
def State.valueLen (s : State) (o : Obj) (i : Nat) : Nat :=
  if (objRow o).type = .string then (if s.readObj o i = 0 then 0 else byteLen (s.readObj o i)) else (objRow o).size

/-! ### Ranges -/

/-- An F32 pattern as an order: below zero as the magnitude falls. -/
def f32Key (v : Nat) : Int := if v < 2 ^ 31 then v else -((v % 2 ^ 31 : Nat) : Int)

/-- Every entry of a value stands between two bounds. -/
def entriesIn (v z n lo hi : Nat) : Bool := (List.range n).all (fun k => decide (lo ≤ packedGet v z k) && decide (packedGet v z k ≤ hi))

/-- A unicast IPv6 address in network byte order: its first byte is not 0xFF, and it is not all 0. -/
def unicast (a : Nat) : Bool := decide (a % 256 ≠ 255) && decide (a ≠ 0)

/-- Bounds of the rate law's parameters (Table 9.5). -/
def rateBounds : List (Nat × Nat) := [(2, 1000), (0, 10000), (1, 64), (5, 1000), (0, 15), (1, 32), (1, 100)]

/-- A value in the range of its object (R314, the range columns): per entry, with the steps, orders and bounds the column names. -/
def State.inRange (s : State) (o : Obj) (i v : Nat) : Bool :=
  let r := objRow o
  if 2 ^ (8 * r.size) ≤ v then false
  else match o with
    | .L0804 | .L0805 => decide (f32Key r.lo ≤ f32Key v) && decide (f32Key v ≤ f32Key r.hi)
    | .C0B0A => decide (v ≤ 5000) || decide (65536 - 5000 ≤ v)
    | .C0B05 => entriesIn v 4 1 400 1800 && decide (v % 25 = 0)
    | .P0C04 => decide (100 ≤ v) && decide (v ≤ objDefault .P0C04 i)
    | .T0122 => (List.range 4).all (fun k => decide (50 ≤ packedGet v 1 k) && decide (packedGet v 1 k ≤ packedGet r.dflt 1 k)) &&
        (List.range 3).all (fun k => decide (packedGet v 1 k < packedGet v 1 (k + 1)))
    | .T0123 => entriesIn v 2 2 400 1800 && (List.range 2).all (fun k => decide (packedGet v 2 k % 25 = 0)) &&
        decide (packedGet v 2 1 ≤ packedGet v 2 0)
    | .D0A03 => entriesIn v 1 2 1 15 && decide (packedGet v 1 0 < packedGet v 1 1)
    | .F090B => (List.range 7).all (fun k => decide ((rateBounds.getD k (0, 0)).1 ≤ packedGet v 4 k) &&
        decide (packedGet v 4 k ≤ (rateBounds.getD k (0, 0)).2)) && [1, 2, 4, 8, 16, 32].contains (packedGet v 4 5)
    | .F0916 => (List.range 16).all (fun k => decide (packedGet v 1 (32 * k + 16) ≤ 128))
    | .K0D10 => unicast v
    | .K0D12 => unicast v || decide (v = 0)
    | .B060A => s.inService v
    | .D0A05 => decide (v ≤ 111) && !isDark v
    | _ => entriesIn v r.esize r.entries r.lo r.hi

/-- The value a WRITE or STAGE leaves: reserved bits are disregarded (R6), in S.0406 bits 54 to 63, and in an entry of F.0916 the bytes 17 to
31. DESIGN CHOICE (log 83): the spec lays out no entry of F.0916; the model takes 32 B, the prefix at 0 and its length at byte 16. -/
def keepBits (o : Obj) (v : Nat) : Nat :=
  match o with
  | .S0406 => v % 2 ^ 54
  | .F0916 => (List.range 16).foldl (fun v k => zeroBytes v (32 * k + 17) 15) v
  | _ => v

/-- Values of objects as a change would leave them. -/
abbrev View := Obj → Nat → Nat

/-- The cross-object rules of the chapters: fade_takeover below fade_warn (R203), and the panel's coordinates within the torus (R212). -/
def crossOk (o : Obj) (v : View) : Bool :=
  if o = .L0804 ∨ o = .L0805 then decide (f32Key (v .L0805 0) < f32Key (v .L0804 0))
  else if o = .F0900 ∨ o = .F0901 then (List.range 3).all (fun d => decide (v .F0900 0 / 32 ^ (2 - d) % 32 < packedGet (v .F0901 0) 1 d))
  else true

/-- The first `n` bits of two addresses in network byte order agree. -/
def samePrefix (a b n : Nat) : Bool :=
  (List.range n).all (fun k =>
    let bit (x : Nat) : Nat := x / 2 ^ (8 * (k / 8) + 7 - k % 8) % 2
    bit a == bit b)

/-- The joint checks of the commit groups (Table 13.3). -/
def groupOk (g : Nat) (v : View) : Bool :=
  if g = 1 then decide (v .K0D12 0 = 0) || samePrefix (v .K0D10 0) (v .K0D12 0) (v .K0D11 0)
  else if g = 2 then decide (v .K0D18 0 ≠ v .K0D19 0) && decide (v .K0D18 0 ≠ v .K0D1A 0) && decide (v .K0D19 0 ≠ v .K0D1A 0)
  else true

/-- The values in force, with the ledger keys that a READ may not see. -/
def State.inForce (s : State) : View := fun o i =>
  match o with
  | .K0D18 => (s.levelKey 0).getD 0
  | .K0D19 => (s.levelKey 1).getD 0
  | .K0D1A => (s.levelKey 2).getD 0
  | o => s.readObj o i

/-! ### Halt objects (Table 13.15) -/

/-- A channel of an I/O die that is open, other than channel 0. -/
def State.openChans (s : State) : List Chan :=
  (s.iods.map (fun (e : Nat × Iod) => ((e.2.chans.filter (fun (c : Nat × Chan) => c.1 != 0 && c.2.live)).map (fun (c : Nat × Chan) => c.2)))).flatten

/-- A Halt object's block runs: a write is refused (R319). -/
def State.blockRuns (s : State) (o : Obj) (i : Nat) : Bool :=
  match o with
  | .S0406 => decide (10 ≤ s.startup.stage) && (s.stackOf i).isSome && s.inService i
  | .X0708 => decide (s.obj .X0702 0 ≠ 0)
  | .L080A => (List.range 4).any (fun d => (List.range 4).any (fun j => s.obj .L0806 (28 * d + 24 + j) != 0))
  | .F0900 | .F0901 | .F0904 => !s.openChans.isEmpty
  | .F0905 | .F0906 | .F0910 => s.openChans.any (fun c => c.commons) ||
      s.sessions.any (fun (e : Nat × Option Session) => e.2.any (fun x => x.commons && x.proven))
  | .F0916 => s.openChans.any (fun c => c.hostpeer)
  | .C0B04 => (List.range 28).any (fun n => s.ptpUp n)
  | _ => false

/-- A write that an owning chapter refuses by state: a Halt object's block runs, or an update is under way (W.0009). -/
def State.refusedByState (s : State) (o : Obj) (i : Nat) : Bool :=
  s.blockRuns o i || (decide (o = .W0009) && (decide (s.obj .W000C 0 = updQueued) || decide (s.obj .W000C 0 = updHanding)))

/-! ### Sessions' ends -/

/-- A session ends (R329): its stage set and subscriptions are discarded. Causes: 0 BYE, 1 idle, 2 a change of mgmt_net, 3 its transport path
is gone, 4 Decommissioned or its level closed. -/
def State.endSession (s : State) (n cause : Nat) : State :=
  match s.session n with
  | none => s
  | some x =>
    let s : State := { s with sessions := mapDel s.sessions n }
    if x.proven then s.raise evSessionEnd n [n, cause] else s

/-- The sessions that pass a test end. -/
def State.endSessions (s : State) (f : Session → Bool) (cause : Nat) : State :=
  (s.sessions.filter (fun (e : Nat × Option Session) => e.2.any f)).foldl (fun s e => s.endSession e.1 cause) s

/-! ### A value takes effect (R318) -/

/-- A ledger key is written by a commit of group keys (R396, Table 16.4). -/
def State.putKey (s : State) (o : Obj) (v : Nat) : State :=
  let t := s.store
  match o with
  | .K0D18 => { s with store := { t with keyBasic := some v, freshBasic := true } }
  | .K0D19 => { s with store := { t with keyExpert := some v, freshExpert := true } }
  | _ => { s with store := { t with keyService := some v } }

/-- A value comes into force, with what it brings: C.0B05 becomes the request of R278, and K.0D05 off ends the sessions on commons
(R329). -/
def State.applyValue (s : State) (o : Obj) (i v : Nat) : State :=
  let s : State := { s with shadow := mapDel s.shadow (o, i) }
  if o = .K0D18 ∨ o = .K0D19 ∨ o = .K0D1A then s.putKey o v
  else
    let s := s.setObj o i (keepBits o v)
    if o = .C0B05 then s.requestFreq i v
    else if o = .X0708 then s.showStreams
    else if o = .L080A then
      (List.range 4).foldl (fun s d => s.showTreeLanes d 1 (decide (s.lightOf (primarySet d 1) 1 ≠ .dark))) s
    else if o = .K0D05 ∧ v = 0 then s.endSessions (fun x => x.commons) 3
    else s

/-- No wave is in flight: the wave boundary falls at the write (R318). -/
def State.waveIdle (s : State) : Bool := s.waveList.isEmpty

/-- A shadow of an Edge object: in the commit that waits with it, or its own (R318, R321). -/
def State.shadowOf (s : State) (o : Obj) (i : Nat) : Option Nat :=
  match (s.commits.map (fun c => c.members)).flatten.find? (fun (m : StageItem) => m.obj == o && m.index == i) with
  | some m => some m.value
  | none => (s.shadow.find? (fun e => e.1 == (o, i))).map (fun e => e.2)

/-- Write an Edge object's shadow: a later write replaces it (R318). -/
def State.setShadow (s : State) (o : Obj) (i v : Nat) : State :=
  let mine (m : StageItem) : Bool := m.obj == o && m.index == i
  if (s.commits.map (fun c => c.members)).flatten.any mine then
    { s with commits := s.commits.map (fun (c : PendCommit) => { c with members := c.members.map (fun m => if mine m then { m with value := v } else m) }) }
  else { s with shadow := mapSet s.shadow (o, i) v }

/-- An element is written now, though it may take effect later (R321 step 1). -/
def State.wroteNow (s : State) (o : Obj) (i : Nat) : State := { s with wrote := mapSet s.wrote (o, i) s.time }

/-- An accepted value takes effect by its apply class (R318). -/
def State.accept (s : State) (o : Obj) (i v : Nat) : State :=
  let s := s.wroteNow o i
  match (objRow o).apply with
  | .edgeFrame => s.setShadow o i v
  | .edgeWave => if s.waveIdle then s.applyValue o i v else s.setShadow o i v
  | _ => s.applyValue o i v

/-- An Edge object of a boundary: a wave's or a frame's. -/
def ObjRow.atBoundary (r : ObjRow) (wave : Bool) : Bool := if wave then r.apply == .edgeWave else r.apply == .edgeFrame

/-- Every shadow of a boundary takes effect (R318). -/
def State.applyShadows (s : State) (wave : Bool) : State :=
  (s.shadow.filter (fun e => (objRow e.1.1).atBoundary wave)).foldl (fun s e => s.applyValue e.1.1 e.1.2 e.2) s

/-- The frame or wave boundary at which Edge shadows take effect. -/
def execEdgeApply (wave : Bool) (s : State) : Out := .next (s.applyShadows wave)

end Sys2Proof.Machine
end

