-- ==== Sys2Proof/Machine/Commands.lean ====
section
/-!
DEFINITION. The ledger's commands (R316): what a WRITE to each CMD object does. A command's own row of the table stands for a WRITE of its
argument by the named session.
-/

namespace Sys2Proof.Machine

/-- An open session (R327). -/
def State.openSession (s : State) (n : Nat) : Option Session := (s.session n).filter (fun x => x.proven)

/-- The session's interface version matches the firmware's: the same major number, and a minor number not above its (R335). -/
def State.matches (s : State) (x : Session) : Bool :=
  decide (x.version / 65536 = s.fwInterface / 65536) && decide (x.version % 65536 ≤ s.fwInterface % 65536)

/-! ### serve_start (R336, R395) -/

/-- A write of 1 to X.070E: from ready or held to serving for a session that matches, in a life-cycle state that allows serving; a session that
does not match has the panel held. -/
def State.startServing (s : State) (n : Nat) (x : Session) : State × Code :=
  let p := s.obj .X0700 0
  if !s.matches x then
    if p = planReady ∨ p = planHeld then
      let why := if x.version / 65536 = s.fwInterface / 65536 then 2 else 1
      (((s.setObj .X0700 0 planHeld).setObj .W0008 0 why).raise evVersionHeld n [n, x.version, s.fwInterface], .accessDenied)
    else (s, .accessDenied)
  else if p = planServing then (s, .ok)
  else if p = planNone ∨ p = planLoading ∨ s.obj .I0D05 0 ≠ 2 then (s, .accessDenied)
  else ((s.setObj .X0700 0 planServing).setObj .W0008 0 0, .ok)

/-! ### The life cycle (R394 to R396) -/

/-- The panel's life-cycle state changes, and with it the header of the key store (R394): LIFE_CYCLE. -/
def State.setLife (s : State) (new n : Nat) : State :=
  (({ s with store := s.store.rewritten new } : State).setObj .I0D05 0 new).raise evLifeCycle n [s.obj .I0D05 0, new, n]

/-- A secure wipe toward a life-cycle state rewrites both headers of the key store (R396). -/
def State.wipeInto (s : State) (new n : Nat) : State :=
  let t := (s.beginWipe new).setLife new n
  { t with store := t.store.rewritten new }

/-- X.0700 leaves serving, or held, for ready (R395). -/
def State.stopServing (s : State) : State :=
  if s.obj .X0700 0 = planServing ∨ s.obj .X0700 0 = planHeld then (s.setObj .X0700 0 planReady).setObj .W0008 0 0 else s

/-- A change of the life-cycle state at a session's level (Table 16.4). -/
def State.changeLife (s : State) (target n level : Nat) : State × Code :=
  let now := s.obj .I0D05 0
  if target = 1 ∧ now = 0 ∧ level = 2 then (s.wipeInto 1 n, .ok)
  else if target = 2 ∧ now = 1 ∧ 1 ≤ level ∧ s.store.freshBasic ∧ s.store.freshExpert then (s.setLife 2 n, .ok)
  else if target = 3 ∧ now = 2 ∧ 1 ≤ level ∧ s.obj .X0702 0 = 0 then (s.stopServing.setLife 3 n, .ok)
  else if target = 2 ∧ now = 3 ∧ 1 ≤ level then ((s.setLife 2 n).endSessions (fun x => x.level == 2) 4, .ok)
  else if target = 4 ∧ now ≠ 4 ∧ (if now = 0 then level = 2 else 1 ≤ level) then
    let s := s.streamList.foldl (fun s x => s.endStream x 4 .aborted) s.stopServing
    ((s.wipeInto 4 n).endSessions (fun _ => true) 4, .ok)
  else (s, .accessDenied)

/-! ### Firmware images (R356, R357) -/

/-- The image in W.0009 as the ROM's checks find it (R354). -/
def State.bufferedImage (s : State) : FwImage :=
  let b := s.obj .W0009 0
  { header := b % 2 ^ (8 * 416), sigOk := imageSigned b && decide (b % 2 ^ 32 = 0x57464D49), hashOk := imageHashes b }

/-- The running image's written hand-over record version lies within an image's readable range (R356). -/
def recordReadable (new running : FwImage) : Bool :=
  decide (new.readsOldest ≤ running.writesRecord) && decide (running.writesRecord ≤ new.writesRecord)

/-- The slot that a unit does not run. -/
def CtrlUnit.putInactive (c : CtrlUnit) (i : FwImage) : CtrlUnit := if c.runsB then { c with slotA := some i } else { c with slotB := some i }

/-- A hand-over begins (R357): the standby restarts from ROM on the new slot, which its boot record names from then on. -/
def State.beginHandover (s : State) (v : Nat) : State :=
  let c := s.unit v
  let s := (s.setUnit v { c.writeBoot (!c.runsB) with running := none, procs := [] }).setObj .W0000 v cuRestarting
  let s : State := { s with
    update := { s.update with startedAt := some s.time, newUnit := v }
    keeper := { s.keeper with requests := s.keeper.requests.filter (fun u => u != v) } }
  s.setObj .W000C 0 updHanding

/-- An image verified by W.000A stands in the inactive slots (R356). -/
def State.imageHeld (s : State) : Bool := s.obj .W000C 0 == updVerified || s.obj .W000C 0 == updAborted

/-- W.000B (R356, R357): 1 begins a live update, or queues it while an emergency bit is set; 2 has both boot records name the inactive slots. -/
def State.activate (s : State) (arg : Nat) : State × Code :=
  if !s.imageHeld then (s, .accessDenied)
  else if arg = 2 then
    ([0, 1].foldl (fun s u => s.setUnit u ((s.unit u).writeBoot (!(s.unit u).runsB))) s, .ok)
  else match s.standby with
    | none => (s, .accessDenied)
    | some v =>
      if s.obj .P0C0C 0 ≠ 0 then ((s.setObj .W000C 0 updQueued).raise evUpdateQueued noSubject [s.obj .P0C0C 0], .ok)
      else (s.beginHandover v, .ok)

/-! ### Starting a command (R316) -/

/-- What a WRITE to a CMD object does once its argument has been checked, the code of its response, and whether the command still runs. -/
def State.startCmd (s : State) (o : Obj) (arg n : Nat) (x : Session) : State × Code × Bool :=
  match o with
  | .X070E => let r := s.startServing n x; (r.1, r.2, false)
  | .D0A05 => let r := s.resumeMover arg; (r.1, if r.2 then .ok else .accessDenied, false)
  | .B060A => (s.orderly arg, .ok, true)
  | .P0C08 => if s.mayReclose arg then ({ s with power := { s.power with fuseTest := s.power.fuseTest ++ [arg] } }, .ok, true) else (s, .accessDenied, false)
  | .X0F0A => if (s.nextSpare (replicaOf arg)).isNone then (s, .accessDenied, false) else (s.stackFail arg 10, .ok, false)
  | .K0E04 => if s.zoneOn arg then (s.askReset arg 2, .ok, true) else (s, .targetAbsent, false)
  | .K0E02 => let r := s.changeLife arg n x.level; (r.1, r.2, r.1.store.wipeFrom.isSome)
  | .W0004 => if s.standby.isSome then (s.releaseLease, .ok, false) else (s, .accessDenied, false)
  | .W000A => (s, .ok, true)
  | .W000B => let r := s.activate arg; (r.1, r.2, false)
  | .W0017 => ({ s with log := { s.log with flushing := s.log.flushing.or (some s.time) } }, .ok, true)
  | _ => (s, .accessDenied, false)

/-- The number of an object in LEDGER_WRITE: its area letter above its four digits. -/
def ObjRow.number (r : ObjRow) : Nat := r.area * 2 ^ 16 + r.num

/-- A session's WRITE of an argument to a CMD object: its level, the version (R335, R336) and the argument are checked, and the command begins;
LEDGER_WRITE for every command begun. -/
def State.command (s : State) (o : Obj) (arg n : Nat) (x : Session) : State × Code :=
  if x.level < (objRow o).level ∨ (o ≠ .X070E ∧ !s.matches x) then (s, .accessDenied)
  else if !s.inRange o 0 arg then (s, .busError)
  else
    let r := s.startCmd o arg n x
    if r.2.1 = .ok then
      let c : Cmd := { arg := arg, code := .ok, running := r.2.2, started := s.time, session := n }
      (State.raise { r.1 with cmds := mapSet r.1.cmds o c } evLedgerWrite n [n, (objRow o).number, 0], .ok)
    else (r.1, r.2.1)

/-- A command's own row: nothing while the session is not open, or while no unit acts on the ledger. -/
def State.commandOf (s : State) (o : Obj) (arg n : Nat) : State :=
  match s.openSession n with
  | some x => if s.cuActs 2 then (s.command o arg n x).1 else s
  | none => s

/-- X.070E = 1. -/
def execServeStart (session : Nat) (s : State) : Out := .next (s.commandOf .X070E 1 session)

/-- D.0A05 = port: the channels of a stopped mover, or a mover's halted channels, resume (R259). -/
def execMoverResume (session port : Nat) (s : State) : Out := .next (s.commandOf .D0A05 port session)

/-- P.0C08 = zone: the pre-charge test of an open eFuse begins (R292). -/
def execEfuseReclose (session zone : Nat) (s : State) : Out := .next (s.commandOf .P0C08 zone session)

/-- B.060A = port: the port is withdrawn in order (R146). -/
def execPortWithdrawCmd (session port : Nat) (s : State) : Out := .next (s.commandOf .B060A port session)

/-- W.0004 = 1: the holder releases its lease to the standby (R345). -/
def execSwitchover (session : Nat) (s : State) : Out := .next (s.commandOf .W0004 1 session)

/-- W.000A = 1: the check of the image in W.0009 begins (R356). -/
def execImageVerify (session : Nat) (s : State) : Out := .next (s.commandOf .W000A 1 session)

/-- W.000B = 1: a live update (R357). -/
def execImageActivateLive (session : Nat) (s : State) : Out := .next (s.commandOf .W000B 1 session)

/-- W.000B = 2: the new image at the next start (R356). -/
def execImageActivateNextStart (session : Nat) (s : State) : Out := .next (s.commandOf .W000B 2 session)

/-- W.0017 = 1: the black box is flushed (R363). -/
def execBlackboxFlush (session : Nat) (s : State) : Out := .next (s.commandOf .W0017 1 session)

/-- X.0F0A = stack: the logical stack is taken out of service as a stack failure (R387). -/
def execStackOut (session stack : Nat) (s : State) : Out := .next (s.commandOf .X0F0A stack session)

/-- K.0E02 = Provisioned (Table 16.4). -/
def execLifeCycleToProvisioned (session : Nat) (s : State) : Out := .next (s.commandOf .K0E02 1 session)

/-- K.0E02 = Deployed, from Provisioned or Service (Table 16.4, R395). -/
def execLifeCycleToDeployed (session : Nat) (s : State) : Out := .next (s.commandOf .K0E02 2 session)

/-- K.0E02 = Service (R395). -/
def execLifeCycleToService (session : Nat) (s : State) : Out := .next (s.commandOf .K0E02 3 session)

/-- K.0E02 = Decommissioned (R396). -/
def execLifeCycleToDecommissioned (session : Nat) (s : State) : Out := .next (s.commandOf .K0E02 4 session)

/-- K.0E04 = zone: its base logic is reset (R399). -/
def execZoneResetCmd (session zone : Nat) (s : State) : Out := .next (s.commandOf .K0E04 zone session)

/-! ### Ends of commands -/

/-- Verification ends (R356): BUS_ERROR for a failed signature or hash, ACCESS_DENIED below the minimum security version or when the running
image's hand-over record is not readable; otherwise the image stands in the inactive slot of both flashes. -/
def State.verifyImage (s : State) (u : Nat) : State :=
  let i := s.bufferedImage
  let c := s.unit u
  let slot := if c.runsB then 0 else 1
  let run := c.running.getD Config.factoryImage
  if !i.sigOk then (s.raise evImageRejected noSubject [u, slot, 1]).endCmd .W000A .busError
  else if !i.hashOk then (s.raise evImageRejected noSubject [u, slot, 2]).endCmd .W000A .busError
  else if i.security < s.store.minSecurity then (s.raise evImageRejected noSubject [u, slot, 3]).endCmd .W000A .accessDenied
  else if !recordReadable i run then (s.raise evImageRejected noSubject [u, slot, 4]).endCmd .W000A .accessDenied
  else
    let s := [0, 1].foldl (fun s v => s.setUnit v ((s.unit v).putInactive i)) s
    (({ s with update := { s.update with verified := some i } }).setObj .W000C 0 updVerified).endCmd .W000A .ok

def execImageVerifyDone (s : State) : Out :=
  .next (match s.keeper.holder with
    | some u => if s.cuActs 3 && s.cmds.any (fun c => c.1 == .W000A && c.2.running) then s.verifyImage u else s
    | none => s)

/-- The limit of a command in ns (R316 and the range columns): 10 s where none is stated. -/
def cmdLimit (o : Obj) : Nat :=
  match o with
  | .W0004 => 10000000
  | .W000A | .K0E02 => 60000000000
  | .W0017 | .X0F0A | .K0E04 | .P0C08 => 1000000000
  | _ => 10000000000

/-- A command that has passed its limit ends with TIMEOUT (R316). -/
def execCommandTimeout (area num : Nat) (s : State) : Out :=
  .next (match findObj area num with
    | some r => if s.cmds.any (fun c => c.1 == r.obj && decide (c.2.started + cmdLimit r.obj ≤ s.time)) then s.endCmd r.obj .timeout else s
    | none => s)

end Sys2Proof.Machine
end

