-- ==== Sys2Proof/Machine/Lanes.lean ====
section
/-!
DEFINITION. External lanes (R192, R194, R195). Lane 28 × i + k is lane k of IODi. States of L.0806: 0 dark, 1 acquire, 2 up, 3
recovery, 4 down.
-/

namespace Sys2Proof.Machine

/-- 64 consecutive correctable codewords: ACQUIRE or RECOVERY goes UP (R192), unless the lane's ring is unlocked (R197). In a compatibility
mode the standard's PMD lane is aligned (R194). -/
def execLaneLock (lane : Nat) (s : State) : Out :=
  .next (if s.laneCompat lane then (s.setLane lane { s.lane lane with std := true }).ptpPorts
    else if (s.obj .L0806 lane = 1 ∨ s.obj .L0806 lane = 3) ∧
      ¬ (s.unlocked.any (fun r => decide (10240 ≤ r) && ringLane r == lane)) then s.enterLane lane 2 else s)

/-- 4 consecutive uncorrectable codewords or a loss of clock lock: UP goes to RECOVERY (R192); the standard's lane is aligned no more (R194). -/
def execLaneRecovery (lane : Nat) (_clockLoss : Bool) (s : State) : Out :=
  .next (if s.laneCompat lane then (s.setLane lane { s.lane lane with std := false }).ptpPorts
    else if s.obj .L0806 lane = 2 then s.enterLane lane 3 else s)

/-- After 1 ms in RECOVERY a lane enters DOWN; so does one whose retry of ACQUIRE has found no lock within the 1 ms that it takes (R192). -/
def execLaneDown (lane : Nat) (s : State) : Out :=
  let l := s.lane lane
  .next (if s.laneCompat lane ∨ s.time < l.since + 1000000 then s
    else if s.obj .L0806 lane = 3 then
      let s := s.enterLane lane 4
      s.setLane lane { s.lane lane with tried := s.time }
    else if s.obj .L0806 lane = 1 ∧ l.retry then
      let s := s.enterLane lane 4
      s.setLane lane { s.lane lane with tried := l.tried }
    else s)

/-- A DOWN lane retries ACQUIRE every 10 ms (R192). -/
def execLaneAcquireRetry (lane : Nat) (s : State) : Out :=
  .next (if s.obj .L0806 lane = 4 ∧ ¬ s.laneCompat lane ∧ (s.lane lane).tried + 10000000 ≤ s.time then
      let s := s.enterLane lane 1
      s.setLane lane { s.lane lane with tried := s.time, retry := true }
    else s)

/-- A second of a lane ends (R192): corrected symbols and uncorrected codewords are counted, the pre-FEC BER is the corrected bits over
the bits received, and LANE_DEGRADED is raised while it exceeds 2.0 × 10⁻⁵. With no bit received there is no estimate. -/
def execLaneBerUpdate (lane corrected received symbols uncorrected : Nat) (s : State) : Out :=
  let s := (s.bump .L0807 lane symbols).bump .L0808 lane uncorrected
  .next (if received = 0 then s
    else
      let b := ratF32 corrected received
      let s := s.setObj .L0809 lane b
      if 2 * received < 100000 * corrected then s.raise evLaneDegraded lane [lane, b] else s)

/-- An elastic buffer of a DR8 port that is being read is empty (R195). -/
def State.pmaEmpty (s : State) (port : Nat) : Bool := (if port = 0 then [0, 1] else [3, 2]).any (fun i => s.pma.any (fun b => b.1 == i && b.2 == (0, true)))

/-- A DR8 port's elastic buffer empties (R195): the PMA sends error symbols for the lanes it lacks. -/
def execDr8Underrun (port lanes : Nat) (s : State) : Out :=
  .next (if s.obj .L080A 0 = 2 ∧ port < 2 ∧ s.pmaEmpty port then (s.send (.errorSymbols port lanes)).raise evDr8Underrun port [port, lanes] else s)

end Sys2Proof.Machine
end

