-- ==== Sys2Proof/Machine/Ledger.lean ====
section
/-!
DEFINITION. The Delusin ledger protocol (R320 to R336): sessions, requests and their responses, stage sets and commits, subscriptions and
listing.
-/

namespace Sys2Proof.Machine

/-! ### Requests (R323, R328, R330, R331) -/

/-- A message is discarded without answer and counted in K.0D03. -/
def State.discardMsg (s : State) : State := s.bump .K0D03 0 1

/-- A message reaches the panel where it answers (R323): at port K.0D13 of the management address, or of a commons address while K.0D05 is on
and from a host prefix. -/
def State.carried (s : State) (src dst dport : Nat) (commons : Bool) : Bool :=
  dport == s.obj .K0D13 0 &&
    (if commons then s.obj .K0D05 0 == 1 && s.prefixMatch src && (List.range 4).any (fun c => dst != 0 && dst == s.commonsAddr c)
    else dst == s.obj .K0D10 0)

/-- A message of an open session, from the source of its HELLO and with a right tag (R324, R328), and of the command's type, or of none of
Table 13.6. -/
def State.valid (s : State) (type : Nat) (m : LedgerMsg) : Option Session :=
  match s.openSession m.session with
  | some x =>
    if m.pver = 1 ∧ s.carried m.src m.dst m.dport m.commons ∧ m.src = x.src ∧ m.sport = x.sport ∧ m.commons = x.commons ∧
        (m.type = type ∨ !requestTypes.contains m.type) ∧ m.tag = messageTag x.key m.head m.body then some x else none
  | none => none

/-- What the number of a request says of it (R330). -/
inductive SeqCase
  | fresh | late | again (r : Reply) | stale
deriving DecidableEq, Repr

/-- The cases of R330: until the first request only number 0 is taken. -/
def seqCase (x : Session) (seq : Nat) : SeqCase :=
  if !x.started then (if seq = 0 then .fresh else .stale)
  else
    let d := (seq + 65536 - x.newest) % 65536
    if 1 ≤ d ∧ d ≤ 32767 then .fresh
    else if (x.newest + 65536 - seq) % 65536 ≤ 63 then
      (match x.answered.find? (fun e => e.1 == seq) with
        | some e => .again e.2
        | none => .late)
    else .stale

/-- What follows once a response has left: nothing, the end of the session (BYE), or of those on the management segment (R318). -/
inductive After
  | nothing | bye | moved
deriving DecidableEq, Repr

/-- The bytes of a message: its header, and its items with the values they carry, padded to 4 B (R324, R325). -/
def messageBytes (values : Bool) (items : List Answer) : Nat :=
  32 + (items.map (fun a => 16 + if values then (a.len + 3) / 4 * 4 else 0)).sum

/-- The class of a message on commons: B up to 512 B, D above (R323); the management segment has none. -/
def messageClass (commons values : Bool) (items : List Answer) : Option Cls :=
  if commons then some (if messageBytes values items ≤ 512 then .B else .D) else none

/-- The class of a response: those of READ and LIST carry values. -/
def Session.replyCls (x : Session) (r : Reply) : Option Cls := messageClass x.commons (r.type == 1 || r.type == 8) r.items

/-- Send a response and keep it for its number (R330). -/
def State.reply (s : State) (n : Nat) (x : Session) (r : Reply) : State :=
  let s := s.send (.ledger x.src x.sport (x.replyCls r) r (replyTag x.key r))
  match s.session n with
  | some y => s.setSession n (some { y with answered := (r.seq, r) :: y.answered.filter (fun e => decide ((y.newest + 65536 - e.1) % 65536 ≤ 63)) })
  | none => s

/-- A request is executed by `run`, once; a number already answered has its response sent again. While no unit acts on the ledger the request
is kept, at most 16 of a session (R331, R350). -/
def State.request (s : State) (c : Instr) (type : Nat) (m : LedgerMsg) (run : State → Session → State × Reply × After) : State :=
  match s.valid type m with
  | none => s.discardMsg
  | some x =>
    let x := { x with lastMsg := s.time }
    let s := s.setSession m.session (some x)
    if !s.cuActs 2 then
      let mine (c : Instr) : Bool := match c with
        | .read k | .write k | .stage k | .commit k | .abort k | .subscribe k | .list k | .bye k => k.session == m.session
        | _ => false
      if 16 ≤ (s.kept.filter mine).length then s.discardMsg else s.keep c
    else
      let go (x : Session) : State :=
        let s := s.setSession m.session (some x)
        let (s, r, a) := if m.wellFormed then run s x
          else (s, { type := m.type, session := m.session, seq := m.seq, code := .busError, pend := false, trunc := false, items := [] }, .nothing)
        let s := s.reply m.session x r
        match a with
        | .nothing => s
        | .bye => s.endSession m.session 0
        | .moved => s.endSessions (fun y => !y.commons) 2
      match seqCase x m.seq with
      | .stale => s.discardMsg
      | .again r => s.send (.ledger x.src x.sport (x.replyCls r) r (replyTag x.key r))
      | .fresh => go { x with newest := m.seq, started := true }
      | .late => go x

/-- A response whose items end with their own codes. -/
def replyTo (m : LedgerMsg) (type : Nat) (code : Code) (items : List Answer) (trunc : Bool) : Reply :=
  { type := type, session := m.session, seq := m.seq, code := code, pend := items.any (fun a => a.pend), trunc := trunc, items := items }

/-- An item's head in a response, with no value. -/
def itemAnswer (it : Item) (code : Code) (pend : Bool) : Answer :=
  { area := it.area, num := it.num, pend := pend, all := it.all, index := it.index, offset := it.offset, len := 0, type := it.type, code := code, value := 0 }

/-! ### READ (R325, R326) -/

/-- An element's value as a READ asks for it: with pend the shadow, where it has one (R318). -/
def State.shown (s : State) (o : Obj) (i : Nat) (pend : Bool) : Nat :=
  if pend then (s.shadowOf o i).getD (s.readObj o i) else s.readObj o i

/-- An element has a shadow that differs from the value in force. -/
def State.pending' (s : State) (o : Obj) (i : Nat) : Bool :=
  match s.shadowOf o i with
  | some v => decide (v ≠ s.readObj o i)
  | none => false

/-- `len` bytes at an offset of every element, packed in index order. -/
def State.readAll (s : State) (r : ObjRow) (off len : Nat) (pend : Bool) : Nat :=
  let e := off / r.size
  bytesAt (((List.range ((off + len - 1) / r.size + 1 - e)).map (fun j => s.shown r.obj (e + j) pend * 2 ^ (8 * r.size * j))).sum) (off - e * r.size) len

/-- An offset that the object's type takes: tables, blobs and strings have one, and so has an array as a whole (R325). -/
def offsetOk (r : ObjRow) (it : Item) : Bool :=
  it.offset == 0 || (decide (it.offset ≤ r.size * (if it.all then r.elements else 1)) &&
    (it.all || r.type == .table || r.type == .blob || r.type == .string))

/-- The record of a command's last run (R316). -/
def State.lastCmd (s : State) (o : Obj) : Cmd := mapGet { arg := 0, code := .ok, running := false, started := 0, session := 0 } s.cmds o

/-- One item of a READ, with `room` bytes left for values, and whether its value was cut. -/
def State.readItem (s : State) (x : Session) (room : Nat) (it : Item) : Answer × Bool :=
  match findObj it.area it.num with
  | none => (itemAnswer it .targetAbsent false, false)
  | some r =>
    if x.level < r.level ∨ r.access = .wo then (itemAnswer it .accessDenied false, false)
    else if !it.all ∧ r.elements ≤ it.index then (itemAnswer it .targetAbsent false, false)
    else if it.type ≠ otypeCode r.type ∨ !offsetOk r it then (itemAnswer it .busError false, false)
    else if r.access = .cmd then
      let c := s.lastCmd r.obj
      ({ itemAnswer it c.code c.running with len := r.size, value := c.arg }, false)
    else
      let whole := if it.all then r.size * r.elements else s.valueLen r.obj it.index
      let want := min it.len (whole - it.offset)
      let give := if want ≤ room then want else room / 4 * 4
      let v := if give = 0 then 0 else if it.all then s.readAll r it.offset give it.pend
        else if it.pend then bytesAt (s.shown r.obj it.index true) it.offset give else s.readPart r.obj it.index it.offset give
      let waits : Bool := it.pend && (if it.all then (List.range r.elements).any (fun i => s.pending' r.obj i) else s.pending' r.obj it.index)
      ({ itemAnswer it .ok waits with len := give, value := v }, decide (give < want))

/-- The items of a READ in their order; a response's body holds 1,200 B. -/
def State.readItems (s : State) (x : Session) : Nat → List Item → List Answer × Bool
  | _, [] => ([], false)
  | room, it :: rest =>
    let (a, cut) := s.readItem x room it
    let (l, c) := s.readItems x (room - (a.len + 3) / 4 * 4) rest
    (a :: l, cut || c)

def execRead (m : LedgerMsg) (s : State) : Out :=
  .next (s.request (.read m) 1 m (fun s x =>
    let (l, cut) := s.readItems x (1200 - 16 * m.items.length) m.items
    (s, replyTo m 1 .ok l cut, .nothing)))

/-! ### WRITE (R318, R326, R337) -/

/-- Replace `len` bytes at an offset. -/
def patch (v off len x : Nat) : Nat := v - bytesAt v off len * 2 ^ (8 * off) + x % 2 ^ (8 * len) * 2 ^ (8 * off)

/-- The element values that an item's bytes give, none where it is malformed: a scalar is written whole, a table, blob or string by offset, and
an array's elements packed in order (R313, R325). -/
def itemValues (r : ObjRow) (base : Nat → Nat) (it : Item) : Option (List (Nat × Nat)) :=
  if it.type ≠ otypeCode r.type ∨ !offsetOk r it ∨ 2 ^ (8 * it.len) ≤ it.value then none
  else if it.all then
    if it.len = 0 ∨ r.size * r.elements < it.offset + it.len then none
    else
      let e := it.offset / r.size
      some ((List.range ((it.offset + it.len - 1) / r.size + 1 - e)).map (fun j =>
        let lo := max it.offset ((e + j) * r.size)
        let hi := min (it.offset + it.len) ((e + j + 1) * r.size)
        (e + j, patch (base (e + j)) (lo - (e + j) * r.size) (hi - lo) (bytesAt it.value (lo - it.offset) (hi - lo)))))
  else if r.type = .string then
    if r.size < it.offset + it.len then none else some [(it.index, bytesAt (base it.index) 0 it.offset + it.value * 2 ^ (8 * it.offset))]
  else if r.type = .table ∨ r.type = .blob then
    if it.len = 0 ∨ r.size < it.offset + it.len then none else some [(it.index, patch (base it.index) it.offset it.len it.value)]
  else if it.len = r.size then some [(it.index, it.value)] else none

/-- The element values that an item asks for: what is reserved is disregarded (R6). -/
def itemChanges (r : ObjRow) (base : Nat → Nat) (it : Item) : Option (List (Nat × Nat)) :=
  (itemValues r base it).map (fun l => l.map (fun e => (e.1, keepBits r.obj e.2)))

/-- The values that an offset write changes part of: the shadow or the value in force. -/
def State.base (s : State) (o : Obj) (i : Nat) : Nat := (s.shadowOf o i).getD (s.inForce o i)

/-- LEDGER_WRITE, for a session at Expert or Service level (R339). -/
def State.ledgerWrite (s : State) (n level : Nat) (o : Obj) (i : Nat) : State :=
  if 1 ≤ level then s.raise evLedgerWrite n [n, (objRow o).number, i] else s

/-- What stops an item before its value is looked at (R315, R317, R335, R337): a session that does not match writes nothing, but may write
X.070E, where R336 refuses it. -/
def State.itemRefused (s : State) (x : Session) (it : Item) (ok : ObjRow → Bool) : Option Code :=
  match findObj it.area it.num with
  | none => some (if s.matches x then .targetAbsent else .accessDenied)
  | some r =>
    if x.level < r.level ∨ !ok r ∨ (r.obj ≠ .X070E ∧ !s.matches x) then some .accessDenied
    else if !it.all ∧ r.elements ≤ it.index then some .targetAbsent
    else none

/-- A WRITE takes RW objects outside groups, and commands. -/
def ObjRow.takesWrite (r : ObjRow) : Bool := (r.access == .rw && r.apply != .group) || r.access == .cmd

/-- A STAGE takes RW and RS objects, and WO objects of a group (Table 13.2). -/
def ObjRow.takesStage (r : ObjRow) : Bool := r.access == .rw || r.access == .rs || (r.access == .wo && r.apply == .group)

/-- One item of a WRITE: its code, and whether its value waits for a boundary. -/
def State.writeItem (s : State) (n : Nat) (x : Session) (it : Item) : State × Code × Bool :=
  match findObj it.area it.num, s.itemRefused x it (fun r => r.takesWrite) with
  | _, some c => (s, c, false)
  | none, none => (s, .targetAbsent, false)
  | some r, none =>
    match itemChanges r (fun i => s.base r.obj i) it with
    | none => (s, if (List.range r.elements).any (fun i => (it.all || i == it.index) && s.refusedByState r.obj i) then .accessDenied else .busError, false)
    | some l =>
      let view : View := fun o i => if o = r.obj then ((l.find? (fun e => e.1 == i)).map (fun e => e.2)).getD (s.inForce o i) else s.inForce o i
      if l.any (fun e => s.refusedByState r.obj e.1) then (s, .accessDenied, false)
      else if r.access = .cmd then
        let q := s.command r.obj ((l.map (fun e => e.2)).headD 0) n x
        (q.1, q.2, (q.1.lastCmd r.obj).running && decide (q.2 = .ok))
      else if l.any (fun e => !s.inRange r.obj e.1 e.2) ∨ !crossOk r.obj view then (s, .busError, false)
      else
        let s := l.foldl (fun s e => (s.accept r.obj e.1 e.2).ledgerWrite n x.level r.obj e.1) s
        (s, .ok, l.any (fun e => s.pending' r.obj e.1))

/-- The items of a WRITE in their order: one item's refusal does not stop the others. -/
def State.writeItems (s : State) (n : Nat) (x : Session) : List Item → State × List Answer
  | [] => (s, [])
  | it :: rest =>
    let (s, c, p) := s.writeItem n x it
    let (s, l) := s.writeItems n x rest
    (s, itemAnswer it c p :: l)

def execWrite (m : LedgerMsg) (s : State) : Out :=
  .next (s.request (.write m) 2 m (fun s x =>
    let (s, l) := s.writeItems m.session x m.items
    (s, replyTo m 2 .ok l false, .nothing)))

/-! ### STAGE, COMMIT and ABORT (R320 to R322) -/

/-- One item of a STAGE: its values join the stage set, which holds 64; the same object and index are replaced. -/
def State.stageItem (s : State) (x : Session) (it : Item) : List StageItem × Code :=
  match findObj it.area it.num, s.itemRefused x it (fun r => r.takesStage) with
  | _, some c => (x.stage, c)
  | none, none => (x.stage, .targetAbsent)
  | some r, none =>
    let staged (i : Nat) : Nat := ((x.stage.find? (fun m => m.obj == r.obj && m.index == i)).map (fun m => m.value)).getD (s.base r.obj i)
    match itemChanges r staged it with
    | none => (x.stage, .busError)
    | some l =>
      let keep := x.stage.filter (fun m => !(m.obj == r.obj && l.any (fun e => e.1 == m.index)))
      if l.any (fun e => !s.inRange r.obj e.1 e.2) ∨ 64 < keep.length + l.length then (x.stage, .busError)
      else (keep ++ l.map (fun e => { obj := r.obj, index := e.1, value := e.2, time := s.time }), .ok)

/-- The items of a STAGE in their order. -/
def State.stageItems (s : State) : Session → List Item → Session × List Answer
  | x, [] => (x, [])
  | x, it :: rest =>
    let (g, c) := s.stageItem x it
    let (x, l) := s.stageItems { x with stage := g } rest
    (x, itemAnswer it c false :: l)

def execStage (m : LedgerMsg) (s : State) : Out :=
  .next (s.request (.stage m) 3 m (fun s x =>
    let (x, l) := s.stageItems x m.items
    (s.setSession m.session (some x), replyTo m 3 .ok l false, .nothing)))

/-- The head of a member in a response or a notification. -/
def StageItem.answer (m : StageItem) (code : Code) (pend : Bool) : Answer :=
  let r := objRow m.obj
  { area := r.area, num := r.num, pend := pend, all := false, index := m.index, offset := 0, len := 0, type := otypeCode r.type, code := code, value := 0 }

/-- A member was written after it was staged (R321 step 1). -/
def State.overtaken (s : State) (m : StageItem) : Bool := s.wrote.any (fun e => e.1 == (m.obj, m.index) && decide (m.time < e.2))

/-- A member's own failure against the combined new state (R321 steps 2 and 3), OK where it has none. -/
def State.memberCode (s : State) (l : List StageItem) (m : StageItem) : Code :=
  let view : View := fun o i => ((l.find? (fun m => m.obj == o && m.index == i)).map (fun m => m.value)).getD (s.inForce o i)
  if s.refusedByState m.obj m.index then .accessDenied
  else if !crossOk m.obj view ∨ !groupOk (objRow m.obj).group view then .busError else .ok

/-- A member takes effect. -/
def State.applyMember (s : State) (n level : Nat) (m : StageItem) : State := (s.applyValue m.obj m.index m.value).ledgerWrite n level m.obj m.index

/-- The boundary of a commit: a wave's if any member is Edge there, while a wave is in flight; else a frame's if any member is Edge there; else
none (R321 step 4). -/
def State.boundaryOf (s : State) (l : List StageItem) : Option Bool :=
  if l.any (fun m => (objRow m.obj).apply == .edgeWave) then (if s.waveIdle then none else some true)
  else if l.any (fun m => (objRow m.obj).apply == .edgeFrame) then some false else none

/-- A COMMIT of a stage set: all of it, or nothing. -/
def State.commitSet (s : State) (n : Nat) (x : Session) : State × List Answer × After :=
  let l := x.stage
  if !s.matches x then (s, l.map (fun m => m.answer .accessDenied false), .nothing)
  else if l.any (fun m => s.overtaken m) then (s, l.map (fun m => m.answer .aborted false), .nothing)
  else if l.any (fun m => s.memberCode l m ≠ .ok) then
    (s, l.map (fun m => m.answer (if s.memberCode l m = .ok then .aborted else s.memberCode l m) false), .nothing)
  else
    let a : After := if l.any (fun m => (objRow m.obj).group == 1) then .moved else .nothing
    let s := l.foldl (fun s m => s.wroteNow m.obj m.index) s
    match s.boundaryOf l with
    | none => (l.foldl (fun s m => s.applyMember n x.level m) s, l.map (fun m => m.answer .ok false), a)
    | some w =>
      let s : State := { s with
        commits := s.commits ++ [{ wave := w, session := n, level := x.level, members := l }]
        shadow := s.shadow.filter (fun e => !l.any (fun m => e.1 == (m.obj, m.index))) }
      (s, l.map (fun m => m.answer .ok true), .nothing)

def execCommit (m : LedgerMsg) (s : State) : Out :=
  .next (s.request (.commit m) 4 m (fun s x =>
    let s := s.setSession m.session (some { x with stage := [] })
    let (s, l, a) := s.commitSet m.session x
    (s, replyTo m 4 (worst (l.map (fun i => i.code))) l false, a)))

def execAbort (m : LedgerMsg) (s : State) : Out :=
  .next (s.request (.abort m) 5 m (fun s x =>
    (s.setSession m.session (some { x with stage := [] }), replyTo m 5 .ok [] false, .nothing)))

/-- The panel sends a NOTIFY to a session; a subscription's is levy work and goes in class D (R15, R383). -/
def State.notifyTo (s : State) (n : Nat) (levy : Bool) (values : List Answer) : State :=
  match s.openSession n with
  | some x => (s.send (.notify n x.notifySeq (if levy then some .D else messageClass x.commons true values) x.gap values (notifyTag x.key n x.notifySeq x.gap values))).setSession n (some { x with notifySeq := (x.notifySeq + 1) % 65536, gap := false })
  | none => s

/-- A member's value in a notification: a value that no READ shows is left out. -/
def StageItem.shown (m : StageItem) : Answer :=
  if (objRow m.obj).access = .wo then m.answer .ok false else { m.answer .ok false with len := (objRow m.obj).size, value := m.value }

/-- Values cut at a 4-B boundary to the room that a message has for them (R325). -/
def fitValues : Nat → List Answer → List Answer
  | _, [] => []
  | room, a :: rest =>
    let give := if a.len ≤ room then a.len else room / 4 * 4
    { a with len := give, value := bytesAt a.value 0 give } :: fitValues (room - (give + 3) / 4 * 4) rest

/-- The commits that wait for a boundary apply, each at once and whole; its session is notified with one item for each member (R321, R332). -/
def State.applyCommits (s : State) (wave : Bool) : State :=
  let due := s.commits.filter (fun (c : PendCommit) => c.wave == wave)
  let s : State := { s with commits := s.commits.filter (fun (c : PendCommit) => c.wave != wave) }
  due.foldl (fun s c =>
    let s := (c.members.foldl (fun s m => s.applyMember c.session c.level m) s).notifyTo c.session false
      (fitValues (1200 - 16 * c.members.length) (c.members.map (fun m => m.shown)))
    if c.members.any (fun m => (objRow m.obj).group == 1) then s.endSessions (fun y => !y.commons) 2 else s) s

def execCommitApply (wave : Bool) (s : State) : Out := .next (s.applyCommits wave)

/-- A wave is dispatched (R160 to R162): its dispatch is a wave boundary, so it runs under the values that waited for one (R318). -/
def execWaveDispatch (replica waveType : Nat) (wp : List (BitVec 32)) (s : State) : Out :=
  let t := (s.applyCommits true).applyShadows true
  let u := t.dispatchWave replica waveType wp
  .next (if u.plan.nextWave = t.plan.nextWave then (if s.cuActs 0 then s.applyCancels replica else s) else u)

/-! ### Subscriptions (R333) -/

/-- The value that a subscription sends: an element's, or every element's packed in index order. -/
def State.subValue (s : State) (o : Obj) (all : Bool) (i : Nat) : Nat :=
  if all then s.readAll (objRow o) 0 ((objRow o).size * (objRow o).elements) false else s.readObj o i

/-- Its length. -/
def State.subLen (s : State) (o : Obj) (all : Bool) (i : Nat) : Nat :=
  if all then (objRow o).size * (objRow o).elements else s.valueLen o i

/-- One item of a SUBSCRIBE: a period of 0 or from 1,000 µs; 0xFFFF_FFFF ends the subscription; a session holds 64. -/
def State.subscribeItem (s : State) (x : Session) (it : Item) : List Sub × Code :=
  match findObj it.area it.num with
  | none => (x.subs, .targetAbsent)
  | some r =>
    let rest := x.subs.filter (fun u => !(u.obj == r.obj && u.all == it.all && (it.all || u.index == it.index)))
    if x.level < r.level ∨ r.access = .wo then (x.subs, .accessDenied)
    else if !it.all ∧ r.elements ≤ it.index then (x.subs, .targetAbsent)
    else if it.value = 0xFFFFFFFF then (rest, .ok)
    else if (1 ≤ it.value ∧ it.value ≤ 999) ∨ 0xFFFFFFFF < it.value ∨ it.len ≠ 4 ∨ 64 ≤ rest.length then (x.subs, .busError)
    else (rest ++ [{ obj := r.obj, all := it.all, index := it.index, period := it.value, last := s.time,
                     sent := if r.obj = .E0D00 then s.log.next else s.subValue r.obj it.all it.index }], .ok)

/-- The items of a SUBSCRIBE in their order. -/
def State.subscribeItems (s : State) : Session → List Item → Session × List Answer
  | x, [] => (x, [])
  | x, it :: rest =>
    let (g, c) := s.subscribeItem x it
    let (x, l) := s.subscribeItems { x with subs := g } rest
    (x, itemAnswer it c false :: l)

def execSubscribe (m : LedgerMsg) (s : State) : Out :=
  .next (s.request (.subscribe m) 6 m (fun s x =>
    let (x, l) := s.subscribeItems x m.items
    (s.setSession m.session (some x), replyTo m 6 .ok l false, .nothing)))

/-- A subscription has something to send: its period has passed, its value changed and a millisecond passed, or the log has new records. -/
def State.subDue (s : State) (u : Sub) : Bool :=
  if u.obj = .E0D00 then decide (u.sent < s.log.next)
  else if u.period = 0 then decide (s.subValue u.obj u.all u.index ≠ u.sent) && decide (u.last + 1000000 ≤ s.time)
  else decide (u.last + 1000 * u.period ≤ s.time)

/-- A notification was dropped: a whole period went by unsent, or records left the ring before they were sent. -/
def State.subLate (s : State) (u : Sub) : Bool :=
  if u.obj = .E0D00 then decide (u.sent + 16384 < s.log.next)
  else decide (u.period ≠ 0) && decide (u.last + 2000 * u.period ≤ s.time)

/-- The answers of a due subscription that fit into `room` bytes, and what it keeps. A value larger than a message is cut. -/
def State.subSend (s : State) (u : Sub) (room : Nat) : List Answer × Sub :=
  let r := objRow u.obj
  let head : Answer := { area := r.area, num := r.num, pend := false, all := u.all, index := u.index, offset := 0, len := 0, type := otypeCode r.type,
                         code := .ok, value := 0 }
  if u.obj = .E0D00 then
    let from' := max u.sent (s.log.next - 16384)
    let k := min (s.log.next - from') (room / 64)
    ((List.range k).map (fun j => { head with offset := (from' + j) % 16384 * 48, len := 48, value := s.ringEntry .E0D00 ((from' + j) % 16384) }),
      { u with sent := from' + k, last := s.time })
  else
    let give := min (s.subLen u.obj u.all u.index) ((room - 16) / 4 * 4)
    ([{ head with len := give, value := if u.all then bytesAt (s.subValue u.obj true 0) 0 give else s.readPart u.obj u.index 0 give }],
      { u with sent := s.subValue u.obj u.all u.index, last := s.time })

/-- The subscriptions in turn, as long as the message has room. -/
def State.subsSend (s : State) : Nat → List Sub → List Answer × List Sub
  | _, [] => ([], [])
  | room, u :: rest =>
    let need := 16 + (if u.obj = .E0D00 then 48 else min (s.subLen u.obj u.all u.index) 1184)
    if s.subDue u ∧ need ≤ room then
      let (a, u') := s.subSend u room
      let (l, us) := s.subsSend (room - (a.map (fun i => 16 + (i.len + 3) / 4 * 4)).sum) rest
      (a ++ l, u' :: us)
    else
      let (l, us) := s.subsSend room rest
      (l, u :: us)

/-- The panel sends what a session has subscribed to (R333): at most 1,000 NOTIFY a second, none while no unit acts (R350). -/
def execNotify (session : Nat) (s : State) : Out :=
  .next (match s.openSession session with
    | none => s
    | some x =>
      if !s.cuActs 2 ∨ !x.subs.any (fun u => s.subDue u) ∨ !dueEvent x.lastNotify s.time 1000000 then s
      else
        let (l, us) := s.subsSend 1200 x.subs
        let x := { x with gap := x.gap || x.subs.any (fun u => s.subDue u && s.subLate u), subs := us, lastNotify := some s.time }
        (s.setSession session (some x)).notifyTo session true l)

/-! ### LIST (R334) -/

/-- The UTF-8 bytes of a character below 2¹⁶ (R313). -/
def utf8Char (c : Nat) : List Nat :=
  if c < 128 then [c] else if c < 2048 then [192 + c / 64, 128 + c % 64] else [224 + c / 4096, 128 + c / 64 % 64, 128 + c % 64]

/-- A text as a number of at most `n` bytes, zero-padded. -/
def textNum (t : String) (n : Nat) : Nat :=
  ((((t.toList.map (fun c => utf8Char c.toNat)).flatten.take n).zipIdx).map (fun p => p.1 * 2 ^ (8 * p.2))).sum

/-- Codes of Table 13.8. -/
def accessCode : OAccess → Nat
  | .ro => 0 | .rw => 1 | .wo => 2 | .rs => 3 | .cmd => 4

def applyCode : OApply → Nat
  | .live => 0 | .edgeFrame => 1 | .edgeWave => 2 | .halt => 3 | .group => 4

/-- The 64-B list entry of an object (Table 13.8). -/
def ObjRow.entry (r : ObjRow) : Nat :=
  r.num + 2 ^ 16 * r.area + 2 ^ 24 * otypeCode r.type + 2 ^ 32 * accessCode r.access + 2 ^ 35 * r.level + 2 ^ 37 * applyCode r.apply +
    2 ^ 40 * r.group + 2 ^ 64 * r.elements + 2 ^ 96 * r.size + 2 ^ 128 * textNum r.name 32 + 2 ^ 384 * textNum r.unit 16

/-- Put a row into a list ordered by number. -/
def insertRow (r : ObjRow) : List ObjRow → List ObjRow
  | [] => [r]
  | q :: l => if r.num ≤ q.num then r :: q :: l else q :: insertRow r l

/-- The objects of an area from a number upward that a level sees, by number. -/
def listRows (level area num : Nat) : List ObjRow :=
  (objTable.filter (fun r => r.area == area && decide (num ≤ r.num) && decide (r.level ≤ level))).foldr insertRow []

def execList (m : LedgerMsg) (s : State) : Out :=
  .next (s.request (.list m) 8 m (fun s x =>
    (s, (match m.items with
      | [it] => replyTo m 8 .ok (((listRows x.level it.area it.num).take 15).map (fun r =>
          { itemAnswer it .ok false with area := r.area, num := r.num, type := otypeCode r.type, len := 64, value := r.entry })) false
      | _ => replyTo m 8 .busError [] false), .nothing)))

/-! ### Sessions open and end (R327 to R329) -/

/-- Session numbers 1 to 16: the first that is free. -/
def State.freeSession (s : State) : Option Nat := ((List.range 16).map (fun k => k + 1)).find? (fun n => (s.session n).isNone)

/-- A HELLO beyond the limits of R317, R329 and Table 16.5. -/
def State.helloRefused (s : State) (level : Nat) : Bool :=
  let service := s.sessions.any (fun (e : Nat × Option Session) => e.2.any (fun x => x.level == 2))
  (s.levelKey level).isNone || s.freeSession.isNone ||
    (decide (level = 2) && (service || !(decide (s.obj .I0D05 0 = 0) || decide (s.obj .I0D05 0 = 3))))

/-- HELLO (R327): CHALLENGE with a new session and a panel nonce, or refused; a locked-out source has no answer (R328). -/
def execHello (src sport dst dport : Nat) (commons : Bool) (level version : Nat) (nonce : BitVec 256) (name : Nat) (s : State) : Out :=
  .next (if !s.carried src dst dport commons then s.discardMsg
    else if s.time < mapGet 0 s.lockouts src then s
    else if !s.cuActs 2 then s.keep (.hello src sport dst dport commons level version nonce name)
    else if 2 < level then s.send (.challenge 0 .busError 0 s.fwInterface)
    else match s.freeSession with
      | none => s.send (.challenge 0 .accessDenied 0 s.fwInterface)
      | some n =>
        if s.helloRefused level then s.send (.challenge 0 .accessDenied 0 s.fwInterface)
        else
          let own := Config.nonce s.freeCount
          let x : Session := {
            level := level, version := version, src := src, sport := sport, commons := commons, hostNonce := nonce, panelNonce := own, name := name
            key := 0, proven := false, challengeAt := s.time, lastMsg := s.time, newest := 0xFFFF, started := false, answered := [], stage := [], subs := []
            notifySeq := 0, lastNotify := none, gap := false }
          ((({ s with freeCount := s.freeCount + 1 }).setSession n (some x)).send (.challenge n .ok own s.fwInterface)))

/-- A wrong proof is counted and raises PROOF_FAILED; the third of a source within 60 s locks it out for 60 s (R328). The session that it was
to open is released. -/
def State.proofFailed (s : State) (n : Nat) (x : Session) (tag : BitVec 128) : State :=
  let recent := s.time :: (mapGet [] s.badProofs x.src).filter (fun t => decide (s.time < t + 60000000000))
  let s := (s.bump .K0D04 0 1).raise evProofFailed noSubject [x.src, x.level]
  let locks := if 3 ≤ recent.length then mapSet s.lockouts x.src (s.time + 60000000000) else s.lockouts
  let s : State := { s with badProofs := mapSet s.badProofs x.src recent, lockouts := locks, sessions := mapDel s.sessions n }
  s.send (.welcome n .accessDenied none 0 tag)

/-- PROOF (R327): with the right H the session is open, and WELCOME carries P; after 1 s the session has been released. -/
def execProof (session src sport dst dport : Nat) (commons : Bool) (h : BitVec 384) (s : State) : Out :=
  .next (match s.session session with
    | none => s.discardMsg
    | some x =>
      if x.proven ∨ x.src ≠ src ∨ x.sport ≠ sport ∨ x.commons ≠ commons ∨ !s.carried src dst dport commons ∨ x.challengeAt + 1000000000 < s.time then s.discardMsg
      else if !s.cuActs 2 then s.keep (.proof session src sport dst dport commons h)
      else match s.levelKey x.level with
        | none => s.proofFailed session x 0
        | some k =>
          let sk := sessionKey k x.hostNonce x.panelNonce session x.level x.version
          if h ≠ hostProof k x.hostNonce x.panelNonce session x.level x.version then
            s.proofFailed session x (welcomeTag sk session .accessDenied none)
          else
            let x := { x with proven := true, key := sk, lastMsg := s.time }
            let s := (s.setSession session (some x)).raise evSessionOpen session [session, x.level, x.src, x.version]
            let p := panelProof k x.hostNonce x.panelNonce session x.level x.version
            s.send (.welcome session .ok (some p) (s.obj .K0D02 0) (welcomeTag sk session .ok (some (p, s.obj .K0D02 0)))))

/-- BYE ends the session once it is answered (R329). -/
def execBye (m : LedgerMsg) (s : State) : Out :=
  .next (s.request (.bye m) 20 m (fun s _ => (s, replyTo m 20 .ok [] false, .bye)))

/-- 1 s after its CHALLENGE a session without PROOF is released (R327). -/
def execChallengeTimeout (session : Nat) (s : State) : Out :=
  .next (match s.session session with
    | some x => if !x.proven ∧ x.challengeAt + 1000000000 ≤ s.time then { s with sessions := mapDel s.sessions session } else s
    | none => s)

/-- K.0D02 has passed with no valid message from the host (R329). -/
def execSessionIdleTimeout (session : Nat) (s : State) : Out :=
  .next (match s.openSession session with
    | some x => if x.lastMsg + 1000000000 * s.obj .K0D02 0 ≤ s.time then s.endSession session 1 else s
    | none => s)

/-- The lockout of a source ends after 60 s (R328). -/
def execHelloLockoutEnd (src : Nat) (s : State) : Out :=
  .next (if s.lockouts.any (fun e => e.1 == src && decide (e.2 ≤ s.time)) then { s with lockouts := mapDel s.lockouts src } else s)

/-! ### Inputs that waited (R350, R355) -/

/-- The state that an outcome goes on with. -/
def stateOr (o : Out) (s : State) : State :=
  match o with
  | .next t => t
  | _ => s

/-- One kept input is taken up. -/
def State.takeUp (s : State) (c : Instr) : State :=
  match c with
  | .admitStream stream promptLen k sb reserve latency sampling table mirrorOk =>
    stateOr (execAdmitStream stream promptLen k sb reserve latency sampling table mirrorOk s) s
  | .prompt stream position tokens => stateOr (execPrompt stream position tokens s) s
  | .cancel stream complete => stateOr (execCancel stream complete s) s
  | .unknownServingMessage head body => stateOr (execUnknownServingMessage head body s) s
  | .read m => stateOr (execRead m s) s
  | .write m => stateOr (execWrite m s) s
  | .stage m => stateOr (execStage m s) s
  | .commit m => stateOr (execCommit m s) s
  | .abort m => stateOr (execAbort m s) s
  | .subscribe m => stateOr (execSubscribe m s) s
  | .list m => stateOr (execList m s) s
  | .hello src sport dst dport commons level version nonce name => stateOr (execHello src sport dst dport commons level version nonce name s) s
  | .proof session src sport dst dport commons h => stateOr (execProof session src sport dst dport commons h s) s
  | .bye m => stateOr (execBye m s) s
  | _ => s

/-- The kept inputs are taken up in their order; those whose processor still does not act are kept again. -/
def State.takeUpAll (s : State) : State := s.kept.foldl (fun s c => s.takeUp c) { s with kept := [] }

/-- The keeper grants the next lease: to a unit in standby, not within 100 µs of the last grant; with none, once both units have requested it
(R343, R391). The new holder takes up what waited. -/
def execLeaseGrant (s : State) : Out := .next s.leaseGrant.takeUpAll

/-- 1 s after the first request the first lease goes to the unit that has requested it (R391). -/
def execFirstLeaseTimeout (s : State) : Out := .next s.firstLease.takeUpAll

/-- A port returns to service at a frame boundary (R147); an I/O die that held its channels resumes them (R234, R400 step 5), and its control
unit takes up what waited. -/
def execPortRestore (port : Nat) (s : State) : Out := .next (s.portBack port).takeUpAll

end Sys2Proof.Machine
end

