-- ==== Sys2Proof/Machine/Matrix.lean ====
section
/-!
DEFINITION. The matrix unit: dense and bin steps (R54, R55), their duration (R56) and their results (R39 to R43, R45, R46).
-/

namespace Sys2Proof.Machine

/-- The regions of a dense step (R54). -/
def denseShape (t : Tile) (w : StepWord) : Shape :=
  let ba := fmtBytes (mFmt (fld w 102 2))
  let bb := fmtBytes (mFmt (fld w 104 2))
  let c : Region := { base := t.ea w 58, len := denseM w * denseN w * 4 / 32 }
  { queue := 1, entry := some .matrix
    reads := [{ base := t.ea w 18, len := denseM w * denseK w * ba / 32 }, { base := t.ea w 38, len := denseK w * denseN w * bb / 32 }] ++
      (if denseLd w then [c] else [])
    writes := [c]
    -- of a BF16 operand beside an FP8 one, detail A names fa (log 19)
    bad := if fld w 102 2 = 3 then some (trStepField, 102) else if fld w 104 2 = 3 then some (trStepField, 104)
      else if (fld w 102 2 = 2) ≠ (fld w 104 2 = 2) then some (trStepField, 102) else none }

/-- The regions of a bin step (R55); the grain streams are not among them (R66). -/
def binShape (t : Tile) (w : StepWord) : Shape :=
  let c : Region := { base := t.ea w 58, len := binM w * binN w * 4 / 32 }
  { queue := 1, entry := some .matrix
    reads := [{ base := t.ea w 18, len := binM w * binVecUnits w }, { base := t.ea w 38, len := binN w * 8 / 32 },
      { base := t.ea w 78, len := 2080 }] ++ (if binLd w then [c] else [])
    writes := [c] }

/-- Join a unit's queue: the step can start at this cycle. -/
def matrixQueue (site tl : Nat) (w : StepWord) (ea : List Nat) (index : Nat) (s : State) : State :=
  let t := s.tile site tl
  s.setTile site tl { t with mq := t.mq ++ [{ word := w, ea := ea, start := (s.site site).cycles, index := index }] }

/-- A dense multiply joins the matrix queue (R54). -/
def execMatrixDense (site tile : Nat) (w : StepWord) (s : State) : Out :=
  let t := s.tile site tile
  .next (s.issue site tile 2 0 w (denseShape t w) (t.pc + 1)
    (matrixQueue site tile w [t.ea w 18, t.ea w 38, t.ea w 58] t.pc))

/-- A bin step joins the matrix queue (R55). -/
def execMatrixBin (site tile : Nat) (w : StepWord) (s : State) : Out :=
  let t := s.tile site tile
  .next (s.issue site tile 2 1 w (binShape t w) (t.pc + 1)
    (matrixQueue site tile w [t.ea w 18, t.ea w 38, t.ea w 58, t.ea w 78] t.pc))

/-- Element (m, n) of a dense result: A row-major, B in column blocks of 32 (R54), accumulated as R39. -/
def State.denseElem (s : State) (site tl : Nat) (t : Tile) (j : Job) (m n : Nat) : Nat :=
  let w := j.word
  let k := denseK w
  let fa := mFmt (fld w 102 2)
  let fb := mFmt (fld w 104 2)
  let prod (i : Nat) : Fv := mulFv (s.elem site tl t.sat fa (j.ea.getD 0 0) (m * k + i))
    (s.elem site tl t.sat fb (j.ea.getD 1 0) (n / 32 * (32 * k) + 32 * i + n % 32))
  let start := if denseLd w then s.elem site tl t.sat .fp32 (j.ea.getD 2 0) (m * denseN w + n) else zeroFv
  encodeFp .fp32 t.sat .rne (denseAcc t.sat (fa == .bf16) start ((List.range k).map prod))

/-- What the walk of row n's grain segment gives for vector m. -/
def State.binWalk (s : State) (site tl : Nat) (t : Tile) (j : Job) (m n : Nat) : RowWalk :=
  let w := j.word
  let rows := j.ea.getD 1 0
  let start := if binLd w then s.elem site tl t.sat .fp32 (j.ea.getD 2 0) (m * binN w + n) else zeroFv
  if s.bytesMarked site tl rows (8 * n) 8 then .value .poison
  else
    let e := s.storeNum site tl rows (8 * n) 8
    s.walkRow site tl t (j.ea.getD 3 0) (e % 2 ^ 17) (e / 2 ^ 17 % 2 ^ 17) (j.ea.getD 0 0 + m * binVecUnits w) (binK w / 64) 0 0 start

/-- What stops a bin step short of its result. -/
inductive BinStop
  | trap (code detail : Nat)
  /-- a grain stream stands in a bank that changes to on: the step waits (R72) -/
  | waits
deriving DecidableEq, Repr

/-- The first row that malformed weight data or a bank that cannot be read keeps from being computed: it traps, or waits for a bank that
changes to on (R38, R55, R72). -/
def State.binStop (s : State) (site tl : Nat) (t : Tile) (j : Job) : Option BinStop :=
  (List.range (binN j.word)).findSome? (fun n => match s.binWalk site tl t j 0 n with
    | .malformed b => some (.trap trWeightData (n % 2 ^ 16 + 2 ^ 16 * (b % 2 ^ 16)))
    | .asleep u => some (if (t.bank (u / 4096)).waking then .waits else .trap trBankAsleep (u % 2 ^ 17 + 2 ^ 24 * (u / 4096 % 32)))
    | .value _ => none)

/-- The FP32 results of a matrix step, row-major. -/
def State.matrixResult (s : State) (site tl : Nat) (t : Tile) (j : Job) : List Nat :=
  if stepOp j.word = 0 then
    ((List.range (denseM j.word)).map (fun m => (List.range (denseN j.word)).map (fun n => s.denseElem site tl t j m n))).flatten
  else
    ((List.range (binM j.word)).map (fun m => (List.range (binN j.word)).map (fun n =>
      match s.binWalk site tl t j m n with
      | .value v => encodeFp .fp32 t.sat .rne v
      | _ => nanCode .fp32))).flatten

/-- The regions that a matrix step reads, by the addresses it took at issue. -/
def Job.matrixReads (j : Job) : List Region :=
  let w := j.word
  if stepOp w = 0 then
    let c : Region := { base := j.ea.getD 2 0, len := denseM w * denseN w * 4 / 32 }
    [{ base := j.ea.getD 0 0, len := denseM w * denseK w * fmtBytes (mFmt (fld w 102 2)) / 32 },
      { base := j.ea.getD 1 0, len := denseK w * denseN w * fmtBytes (mFmt (fld w 104 2)) / 32 }] ++ (if denseLd w then [c] else [])
  else
    let c : Region := { base := j.ea.getD 2 0, len := binM w * binN w * 4 / 32 }
    [{ base := j.ea.getD 0 0, len := binM w * binVecUnits w }, { base := j.ea.getD 1 0, len := binN w * 8 / 32 },
      { base := j.ea.getD 3 0, len := 2080 }] ++ (if binLd w then [c] else [])

/-- A unit that ECC can meet in a matrix step: of its regions, or for a bin step any that its row table can lead to (R66). -/
def Job.matrixRead (j : Job) (u : Nat) : Bool := inRegions j.matrixReads u || stepOp j.word == 1

/-- The head of the matrix queue completes once its cycles and the bank conflicts it met have passed (R56): it writes C,
or traps and writes nothing (R38, R69); it leaves the scoreboard, and the next step can start. Units that ECC finds uncorrectable are
read as poison (R44). A bin step whose grain stream stands in a waking bank waits (R72). -/
def execMatrixStepDone (site tile conflicts : Nat) (ecc : Ecc) (s : State) : Out :=
  let t := s.tile site tile
  .next (match t.mq with
    | [] => s
    | j :: q =>
      let due := j.start + matrixCycles j.word + conflicts
      if (s.site site).cycles < due then s
      else
        let se := s.storeEcc site tile j.matrixRead ecc
        let stop := if stepOp j.word = 1 then se.binStop site tile t j else none
        if stop = some .waits then s
        else
          let q := match q with | [] => [] | k :: r => { k with start := max k.start due } :: r
          let s1 := se.setTile site tile ({ t with mq := q, busyIv := t.busyIv ++ [(j.start, due)] }.release .matrix)
          let s2 := match stop with
            | some (.trap c d) => s1.trapTile site tile c d 2 (stepOp j.word) j.index
            | _ => s1.putStore site tile (j.ea.getD 2 0) (packUnits 4 (se.matrixResult site tile t j) (fun _ => 0))
          s2.settle site tile)

end Sys2Proof.Machine
end

