-- ==== Sys2Proof/Machine/Transfers.lean ====
section
/-!
DEFINITION. The load and store steps (R61), and the base steps BID and SEND (R63).
-/

namespace Sys2Proof.Machine

/-- Fields of Table 3.8. -/
def lsAddr (w : StepWord) : Nat := fld w 38 25
def lsLen (w : StepWord) : Nat := fld w 63 17 + 1
def lsTag (w : StepWord) : Nat := fld w 80 5

/-- The regions, tag and vault range of a load (op 0) or a store (op 1). -/
def lsShape (op : Nat) (t : Tile) (w : StepWord) : Shape :=
  let r : Region := { base := t.ea w 18, len := lsLen w }
  { queue := 3, entry := some (.tag (lsTag w)), reads := if op = 0 then [] else [r], writes := if op = 0 then [r] else []
    vault := some (lsAddr w, lsLen w), tag := some (lsTag w) }

/-- Issue a load or store: it holds its tile-store region and its place in the vertical channel until its tag completes; in B4 it is refused
(R107). -/
def lsIssue (op site tl : Nat) (w : StepWord) (s : State) : State :=
  let t := s.tile site tl
  let r : Region := { base := t.ea w 18, len := lsLen w }
  let first := s.firstAt site tl (lsAddr w)
  let cold := s.band site == bandB4
  let a : AsyncOp := if op = 0 then .load r.base (lsAddr w) r.len first cold else .store r.base (lsAddr w) r.len first cold
  s.issue site tl 4 op w (lsShape op t w) (t.pc + 1) (fun s => s.setTile site tl ((s.tile site tl).openTag (lsTag w) a))

/-- Tagged load from the tile's own vaults into its store (R61). -/
def execLoadVaultToStore (site tile : Nat) (w : StepWord) (s : State) : Out := .next (lsIssue 0 site tile w s)

/-- Tagged store from the tile's store into its own vaults (R61). -/
def execStoreToVault (site tile : Nat) (w : StepWord) (s : State) : Out := .next (lsIssue 1 site tile w s)

/-- The class of a BID: cls, or with scls the class of the stream's admission, A for latency-critical streams and B
otherwise (R14, Table 3.10). -/
def bidClass (t : Tile) (w : StepWord) : Cls := if bit w 30 then (if t.latency then .A else .B) else clsOf (fld w 28 2)

/-- A BID takes a tag and a place in its headgate's queue. -/
def bidShape (w : StepWord) : Shape :=
  { queue := 5 + fld w 18 3, entry := some (.tag (fld w 34 5)), tag := some (fld w 34 5) }

/-- BID opens its tag for its slots and joins its headgate's queue of 64 bids (R63, R124). -/
def execBid (site tile : Nat) (w : StepWord) (s : State) : Out :=
  let t := s.tile site tile
  let plane := s.effPlane (fld w 18 3)
  let tag := fld w 34 5
  let slots := fld w 31 3 + 1
  .next (s.issue site tile 6 0 w (bidShape w) (t.pc + 1) (fun s =>
    let g := s.gate site plane
    let b : Bid := { dst := fld w 21 7, cls := bidClass t w, slots := slots, sender := .tile tile, tag := tag, sidx := 0, retry := false
                     at' := s.time }
    (s.setTile site tile ((s.tile site tile).openTag tag (.bid (fld w 18 3) (fld w 21 7) (bidClass t w) slots 0 []))).setGate site plane
      { g with bids := g.bids ++ [b] }))

/-- The open BID of a tag with an unstaged slot: its plane, destination and class, and how many are staged. -/
def Tile.openBid (t : Tile) (tag : Nat) : Option (Nat × Nat × Cls × Nat) :=
  match t.async.find? (fun p => p.1 == tag) with
  | some (_, .bid pl d c n st _) => if st < n then some (pl, d, c, st) else none
  | _ => none

/-- One more payload of a BID is staged. -/
def Tile.stageOne (t : Tile) (tag : Nat) : Tile :=
  { t with async := t.async.map (fun p => match p.2 with
      | .bid pl d c n st cs => if p.1 = tag then (p.1, .bid pl d c n (st + 1) cs) else p
      | _ => p) }

/-- A SEND reads its payload and needs a staging place of the plane its open BID names; its breaches (Table 3.10). -/
def State.sendShape (s : State) (t : Tile) (w : StepWord) : Shape :=
  let kind := fld w 43 3
  let len := fld w 77 9
  let bid := t.openBid (fld w 38 5)
  { entry := some (.tag (fld w 38 5)), reads := [{ base := t.ea w 18, len := len }]
    staging := bid.map (fun b => s.effPlane b.1)
    bad := if bid.isNone then some (trStepField, 38) else if 4 ≤ kind then some (trStepField, 43)
      else if (kind = 0 ∨ kind = 3) ∧ 48 ≤ fld w 46 6 then some (trStepField, 46)
      else if len = 0 ∨ 368 < len then some (trStepField, 77) else none }

/-- SEND stages one slot payload under an open BID, in order (R63, R123, R124). -/
def execSend (site tile : Nat) (w : StepWord) (ecc : Ecc) (s : State) : Out :=
  let t := s.tile site tile
  let tag := fld w 38 5
  let kind := fld w 43 3
  let len := fld w 77 9
  let bid := t.openBid tag
  .next (s.issue site tile 6 1 w (s.sendShape t w) (t.pc + 1) (fun s =>
      match bid with
      | none => s
      | some (pl, d, c, st) =>
        let plane := s.effPlane pl
        let s := s.storeEcc site tile (inRegions [{ base := t.ea w 18, len := len }]) ecc
        let g := s.gate site plane
        let x : Slot := { src := site, dst := d, cls := c, retry := false, kind := kind, ttile := fld w 46 6, taddr := fld w 52 25, len := len
                          tag := tag, sender := .tile tile, sidx := st, rid := 0, reply := false, code := 0, slotno := 0
                          payload := s.getStore site tile (t.ea w 18) len }
        (s.setTile site tile ((s.tile site tile).stageOne tag)).setGate site plane { g with staging := g.staging ++ [x] }))

end Sys2Proof.Machine
end

