-- ==== Sys2Proof/Machine/Units.lean ====
section
/-!
DEFINITION. The control units at work (chapter 14): the fence and the comparator (R344 to R350), resynchronisation (R352), starts from ROM
(R354), processor crashes (R355), live updates (R357, R358) and the mailboxes that the active unit serves (R359).
-/

namespace Sys2Proof.Machine

/-! ### Units -/

/-- A unit restarts from ROM: what it ran is gone, and so is its lease request. -/
def State.restartUnit (s : State) (u : Nat) : State :=
  let c := s.unit u
  let s := (s.setUnit u { c with procs := [], renewSent := none, resyncFrom := none, words := [], running := none }).setObj .W0000 u cuRestarting
  { s with keeper := { s.keeper with requests := s.keeper.requests.filter (fun v => v != u) } }

/-- A unit enters resyncing. -/
def State.toResync (s : State) (u : Nat) : State :=
  let s := s.setObj .W0000 u cuResyncing
  { s with keeper := { s.keeper with requests := s.keeper.requests.filter (fun v => v != u) } }

/-- The admitted streams whose head is this panel end with reason 4, and X.0700 returns to ready (R349, R355). -/
def State.loseStreams (s : State) : State :=
  ((s.streamList.filter (fun x => x.isHead)).foldl (fun s x => s.endStream x 4 .aborted) s).stopServing

/-- A unit whose processors run. -/
def State.unitRuns (s : State) (u : Nat) : Bool := (s.unit u).running.isSome && decide (s.obj .W0000 u ≠ cuDemoted) && decide (s.obj .W0000 u ≠ cuAbsent)

/-! ### Outputs (R344, R346 to R348) -/

/-- Outputs on the dispatch path (R348). -/
def onDispatchPath (kind : Nat) : Bool := decide (kind ≤ 5)

/-- Outputs that take effect only once the comparator has passed them: dispatches, withdrawals, restorations and promotions. -/
def waitsForCompare (kind : Nat) : Bool := kind == 0 || kind == 2 || kind == 3 || kind == 4

/-- The processor of either unit whose work an output is restarts: the comparator does not judge it (R355, Table 14.2). -/
def State.notJudged (s : State) (kind : Nat) : Bool :=
  let p := if kind ≤ 1 then 0 else 3
  [0, 1].any (fun u => (mapGet { crashes := [], restarting := none } (s.unit u).procs p).restarting.isSome)

/-- Records that a unit's firmware logs enter its ring of 4,096; one below the level of W.0011 is not written, and a processor that restarts logs
nothing (R360). -/
def State.fwLog (s : State) (u : Nat) (logs : List FwMsg) : State :=
  let c := s.unit u
  let runs (p : Nat) : Bool := decide (p < 4) && (mapGet { crashes := [], restarting := none } c.procs p).restarting.isNone
  let l := logs.filter (fun m => runs m.proc && decide (m.level ≤ s.obj .W0011 0))
  if !s.unitRuns u ∨ l = [] then s
  else
    let recs := l.zipIdx.map (fun e => { index := (c.ringNext + e.2) % 2 ^ 32, time := s.time, msg := e.1 : FwRec })
    s.setUnit u { c with ring := (recs.reverse ++ c.ring).take 4096, ringNext := (c.ringNext + l.length) % 2 ^ 32 }

/-- The compare word of an output goes to the comparator with the unit's sequence number. -/
def State.compareWord (s : State) (unit receiver kind content : Nat) : State :=
  let c := s.unit unit
  s.setUnit unit { c with words := c.words ++ [(c.outSeq, s.time, Config.compareWord receiver kind content)], outSeq := (c.outSeq + 1) % 2 ^ 32 }

/-- The comparator passes an output at once: one of those that wait for it may take effect. -/
def State.passNow (s : State) (kind content : Nat) : State :=
  if waitsForCompare kind ∧ !s.compare.passed.contains (kind, content) then
    { s with compare := { s.compare with passed := s.compare.passed ++ [(kind, content)] } }
  else s

/-- A receiver discards an output whose epoch is not current: counted, and OUTPUT_FENCED at most once per millisecond (R344). -/
def State.fence (s : State) (epoch receiver : Nat) : State :=
  let s := s.bump .W000F 0 1
  if dueEvent s.compare.fencedEv s.time 1000000 then
    (State.raise { s with compare := { s.compare with fencedEv := some s.time } } evOutputFenced noSubject [receiver, epoch, s.obj .W000F 0])
  else s

/-- A shadow that would stand ahead of the holder: the comparator does not yet hold the holder's word for the output (R347). -/
def State.aheadOf (s : State) (unit : Nat) : Bool :=
  s.keeper.holder != some unit && (s.unit unit).outSeq == (s.unit (1 - unit)).outSeq

/-- What an output of a unit does. While a hold is in force none is emitted. The holder's is taken at its receiver, and waits there for the comparator if it
must; a shadow's goes to the comparator only, and not before the holder's. In an overlap neither is compared, and the second of two equal outputs is discarded. -/
def State.takeOutput (s : State) (unit epoch receiver kind content : Nat) : State :=
  if !s.epochCurrent epoch then s.fence epoch receiver
    else if s.compare.holding then s
    else if s.keeper.overlap.isSome then
      if s.compare.seen.contains (receiver, kind, content) ∧ kind ≠ 5 then s
      else (({ s with compare := { s.compare with seen := (receiver, kind, content) :: s.compare.seen } } : State)).passNow kind content
    else if !onDispatchPath kind ∨ !s.shadowed then s
    else if s.notJudged kind then (if s.keeper.holder = some unit then s.passNow kind content else s)
    else if s.aheadOf unit then s
    else
      let q := (s.unit unit).outSeq
      let s := s.compareWord unit receiver kind content
      if s.keeper.holder = some unit ∧ waitsForCompare kind then
        { s with compare := { s.compare with pending := s.compare.pending ++ [{ seq := q, receiver := receiver, kind := kind, content := content }] } }
      else s

/-- An output of a unit, and the records that its firmware logs (R344, R346 to R348, R360). -/
def execCuOutputReceive (unit epoch receiver kind content : Nat) (logs : List FwMsg) (s : State) : Out :=
  .next ((s.takeOutput unit epoch receiver kind content).fwLog unit logs)

/-- The words of a window that a unit sent. -/
def State.windowWords (s : State) (u k : Nat) : List (Nat × Nat × BitVec 64) := (s.unit u).words.filter (fun (w : Nat × Nat × BitVec 64) => w.2.1 / 1000 == k)

/-- The sequence numbers of a window whose words differ or have no partner (R348). -/
def State.mismatches (s : State) (k : Nat) : List Nat :=
  let bad (u : Nat) : List Nat := ((s.windowWords u k).filter (fun w =>
    match (s.unit (1 - u)).words.find? (fun v => v.1 == w.1) with
    | some v => v.2.2 != w.2.2
    | none => true)).map (fun w => w.1)
  distinct (bad 0 ++ bad 1)

/-- The comparator judges window k at the end of window k + 1: it passes what agrees, and a mismatch holds both units' outputs (R348, R349). -/
def execCompareWindowEnd (window : Nat) (s : State) : Out :=
  .next (if s.time < (window + 2) * 1000 ∨ s.compare.holding then s
    else
      let seqs := ((s.windowWords 0 window) ++ (s.windowWords 1 window)).map (fun w => w.1)
      let bad := s.mismatches window
      let s := [0, 1].foldl (fun s u => s.setUnit u { s.unit u with words := (s.unit u).words.filter (fun w => !seqs.contains w.1) }) s
      let s := bad.foldl (fun s q => (s.bump .W000E 0 1).raise evCompareMismatch noSubject [q, window]) s
      let passed (h : Held) : Bool := seqs.contains h.seq && !bad.contains h.seq
      { s with compare := { s.compare with
          pending := s.compare.pending.filter (fun h => !passed h)
          passed := s.compare.passed ++ ((s.compare.pending.filter passed).map (fun h => (h.kind, h.content)))
          holding := !bad.isEmpty, holdSince := if bad.isEmpty then s.compare.holdSince else s.time } })

/-- SELF_CHECK of a unit that has reported: the unit, and whether it passed. -/
def State.selfCheck (s : State) (u : Nat) (r : Option Bool) : State :=
  match r with
  | some ok => s.raise evSelfCheck noSubject [u, if ok then 1 else 0, if ok then 0 else Config.failingTest u s.time]
  | none => s

/-- Both units have reported, or 300 µs have passed and who has not fails: the outcome of R349. -/
def execSelfCheckOutcome (a b : Option Bool) (s : State) : Out :=
  .next (match s.keeper.holder with
    | none => s
    | some h =>
      if !s.compare.holding ∨ (!(a.isSome && b.isSome) ∧ s.time < s.compare.holdSince + 300000) then s
      else
        let o := 1 - h
        let pass (u : Nat) : Bool := (if u = 0 then a else b).getD false
        let s := (s.selfCheck 0 a).selfCheck 1 b
        let s : State := { s with compare := { s.compare with holding := false } }
        let s := [0, 1].foldl (fun s u => s.setUnit u { s.unit u with words := [] }) s
        if pass h then
          let s : State := { s with compare := { s.compare with pending := [] } }
          (if pass o then s.toResync o else s.restartUnit o).takeUpAll
        else if pass o then (s.endLease 2).restartUnit h
        else (((s.endLease 2).restartUnit h).restartUnit o).loseStreams)

/-! ### Resynchronisation (R352) -/

/-- A unit in resyncing asks the holder for a snapshot, and the keeper for the lease; a resync that failed is begun again. -/
def execResyncStart (unit : Nat) (s : State) : Out :=
  .next (if s.obj .W0000 unit = cuResyncing ∧ s.keeper.holder.isSome ∧ s.keeper.holder ≠ some unit then
      (s.setUnit unit { s.unit unit with resyncFrom := some s.time }).requestLease unit
    else s)

/-- The delta log is empty and the keeper has acknowledged the request: the unit is standby; W.0018 and RESYNC_DONE give the duration. -/
def execResyncDone (unit : Nat) (s : State) : Out :=
  .next (match (s.unit unit).resyncFrom with
    | some t =>
      if s.obj .W0000 unit = cuResyncing ∧ s.keeper.requests.contains unit then
        let ms := (s.time - t) / 1000000
        let c := s.unit unit
        (((s.setUnit unit { c with resyncFrom := none, words := [], outSeq := (s.unit (1 - unit)).outSeq }).setObj .W0000 unit cuStandby).setObj .W0018 0 ms).raise
          evResyncDone noSubject [unit, ms]
      else s
    | none => s)

/-! ### A start from ROM (R354) -/

/-- The unit runs the image of a slot. During a hand-over the new unit goes on restarting until the commit; otherwise it resyncs, and has its
lease agent request the lease (R357, R391). -/
def State.runImage (s : State) (u : Nat) (b : Bool) (i : FwImage) : State :=
  let s := (s.setUnit u { s.unit u with running := some i, runsB := b, procs := [] }).setObj .W0005 u i.version
  if s.obj .W000C 0 = updHanding ∧ s.update.newUnit = u then s else (s.setObj .W0000 u cuResyncing).requestLease u

/-- The check that an image fails at the ROM (R354): 1 its header under the vendor key (or its flash cannot be read), 3 its security version
below the minimum, 2 the hash of a section. -/
def State.romFault (s : State) (readOk : Bool) (i : FwImage) : Option Nat :=
  if !readOk ∨ !i.sigOk then some 1 else if i.security < s.store.minSecurity then some 3 else if !i.hashOk then some 2 else none

/-- The ROM's self-test and checks end: of the copies of the boot record that hold under their CRC the newer names a slot; that slot, else the
other, is run; a failed slot is rejected, and a unit with none is demoted, as is one with no copy that holds (log 3). -/
def execUnitRomStart (unit : Nat) (newerOk olderOk namedOk otherOk selfTest : Bool) (s : State) : Out :=
  let c := if newerOk then s.unit unit else { s.unit unit with bootB := (s.unit unit).bootOld }
  let idle : Bool := decide (s.obj .W0000 unit ≠ cuRestarting) || c.running.isSome
  let s := if newerOk || idle then s else s.setUnit unit c
  let at' (b : Bool) : FwImage := s.slotImage (2 * unit + (if b then 1 else 0))
  let fault (ok : Bool) (b : Bool) : Option Nat := s.romFault ok (at' b)
  let reject (s : State) (check : Nat) (b : Bool) : State := s.raise evImageRejected noSubject [unit, if b then 1 else 0, check]
  let demote (s : State) (cause : Nat) : State := (s.setObj .W0000 unit cuDemoted).raise evCuDemoted noSubject [unit, cause]
  .next (if idle then s
    else if !selfTest then demote s 0
    else if !newerOk ∧ !olderOk then demote s 1
    else match fault namedOk c.bootB, fault otherOk (!c.bootB) with
      | none, _ => s.runImage unit c.bootB (at' c.bootB)
      | some k, none => (reject s k c.bootB).runImage unit (!c.bootB) (at' (!c.bootB))
      | some k, some j => demote (reject (reject s k c.bootB) j (!c.bootB)) 1)

/-! ### Processors (R355) -/

/-- A processor crashes: PROC_CRASH, and the ROM restarts it alone. At a second crash within 10 s the unit restarts whole, after it has released
a lease that a standby can take; a holder with no standby restarts only the processor. A hand-over is aborted (R358). -/
def State.crash (s : State) (u p cause pc : Nat) : State :=
  if !s.unitRuns u ∨ 4 ≤ p then s
  else
    let s := (s.raise evProcCrash noSubject [u, p, cause, pc]).bump .W000D (4 * u + p) 1
    let s := s.abortUpdate 1
    if !s.unitRuns u then s
    else
      let again : Bool := (s.unit u).procs.any (fun (e : Nat × Proc) => e.2.crashes.any (fun t => decide (s.time < t + 10000000000)))
      let mine : Bool := s.keeper.holder == some u
      if again ∧ (!mine ∨ s.standby.isSome) then (if mine then s.releaseLease else s).restartUnit u
      else
        let c := s.unit u
        let q := mapGet { crashes := [], restarting := none } c.procs p
        s.setUnit u { c with procs := mapSet c.procs p { crashes := s.time :: q.crashes.filter (fun t => decide (s.time < t + 10000000000)), restarting := some s.time } }

/-- An exception, an access to the secure SRAM (R342), or an uncorrectable SRAM word. -/
def execProcCrash (unit proc cause pc : Nat) (s : State) : Out := .next (s.crash unit proc cause pc)

/-- A processor has not serviced its watchdog for 1 ms. -/
def execProcWatchdogExpiry (unit proc pc : Nat) (s : State) : Out := .next (s.crash unit proc 1 pc)

/-- The ROM has restarted a processor: with its context from the other unit, or its own where that holds; otherwise the unit restarts whole,
and if it holds the lease its streams are lost as R349 says. -/
def execProcRestartDone (unit proc : Nat) (contextOk : Bool) (s : State) : Out :=
  let c := s.unit unit
  let q := mapGet { crashes := [], restarting := none } c.procs proc
  let partner : Bool := s.obj .W0000 (1 - unit) == cuStandby || s.obj .W0000 (1 - unit) == cuActive
  .next (if q.restarting.isNone then s
    else if partner || contextOk then (s.setUnit unit { c with procs := mapSet c.procs proc { q with restarting := none } }).takeUpAll
    else if s.keeper.holder = some unit then (s.restartUnit unit).loseStreams else s.restartUnit unit)

/-! ### Live updates (R357, R358) -/

/-- Every emergency bit has cleared: a queued update's hand-over begins. -/
def execUpdateHandoverStart (s : State) : Out :=
  .next (match s.standby with
    | some v => if s.obj .W000C 0 = updQueued ∧ s.obj .P0C0C 0 = 0 then s.beginHandover v else s
    | none => s)

/-- The commit: the holder releases and the keeper grants the lease to the new unit; the minimum security version rises to the new image's, and
the old unit restarts on its new slot. -/
def execUpdateCommit (s : State) : Out :=
  let v := s.update.newUnit
  .next (match s.keeper.holder, (s.unit v).running with
    | some u, some i =>
      if s.obj .W000C 0 ≠ updHanding ∨ u = v then s
      else
        let old := ((s.unit u).running.map (fun r => r.version)).getD 0
        let s := ((s.setObj .W0000 v cuStandby).requestLease v).releaseLease
        let s := if s.keeper.holder = some v then s else s.grantLease v
        let s := s.setUnit u ((s.unit u).writeBoot (!(s.unit u).runsB))
        let s : State := { s.restartUnit u with
          update := { s.update with startedAt := none }, store := ({ s.store with minSecurity := max s.store.minSecurity i.security } : Store).rewritten (s.obj .I0D05 0) }
        ((s.setObj .W000C 0 updCommitted).raise evUpdateCommitted noSubject [old, i.version]).takeUpAll
    | _, _ => s)

/-- More than 150 ms have passed since the hand-over began: it is aborted. -/
def execHandoverTimeout (s : State) : Out :=
  .next (match s.update.startedAt with
    | some t => if t + 150000000 < s.time then s.abortUpdate 2 else s
    | none => s)

/-! ### Mailboxes (R359) -/

/-- A trap report (R163): all traps of one stack within one run count as one; a stack that traps in a second run of a wave number is taken out of
service (witness 1). The wave is aborted. Traps of a zone under reset do not count (R400). -/
def State.trapReport (s : State) (stack wave code : Nat) (counts : Bool) : State :=
  match s.waveList.find? (fun w => w.number == wave && w.replica == replicaOf stack) with
  | none => s
  | some w =>
    if !counts ∨ w.trappedNow.contains stack then s.abortWave w stack code
    else if w.trapped.contains stack then (s.abortWave w stack code).stackFail stack 1
    else
      let w := { w with trappedNow := w.trappedNow ++ [stack] }
      (s.setWave w.replica w.slot (some w)).abortWave w stack code

/-- What a site sequencer's report calls for (Table 14.8): kind 0 a trap record, 2 a tile fault, 3 a dead switch, 4 a die clock or rail fault. -/
def State.actOnReport (s : State) (site : Nat) (msg : BitVec 512) : State :=
  match s.stackOf site with
  | none => s
  | some stack =>
    let kind := fld msg 0 8
    if kind = 0 then s.trapReport stack (fld msg (8 + 64) 32) (fld msg 8 8) (!(s.recovery.resets.any (fun e => e.1 == zoneOf site)))
    else if s.failing stack then s
    else if kind = 2 then s.stackFail stack 0
    else if kind = 3 then (if s.stands site (s.site site).reported then s else s.stackFail stack 2)
    else if kind = 4 then s.stackFail stack (if fld msg 8 16 = evRailFault then 5 else 6)
    else s

/-- The active unit reads a message of one of its mailboxes, acts on it and releases it; its firmware logs what it has to say (R360). -/
def execCuMailboxService (box : Nat) (logs : List FwMsg) (s : State) : Out :=
  .next (match s.keeper.holder with
    | none => s
    | some u =>
      let s := s.fwLog u logs
      let b := s.box box
      let n := box % 32
      let p := if 8 ≤ n ∧ n ≤ 15 then 0 else if 16 ≤ n ∧ n ≤ 19 then 1 else 3
      if 64 ≤ box ∨ box / 32 ≠ u ∨ !b.full ∨ !s.cuActs p then s
      else
        let s := if 8 ≤ n ∧ n ≤ 15 then s.actOnReport (fld b.msg 454 7) b.msg else s
        s.mailRelease box b.seq true)

end Sys2Proof.Machine
end

