-- ==== Sys2Proof/Machine/Approx.lean ====
section
/-!
DEFINITION. The functions that Table 3.7 bounds and does not fix: their real values as dyadic numbers, far more exact than an ulp, and the
choice of a result within the bound (R57, R58, R60). A real is held as an integer over 2^256, or as a dyadic value (Fv.fin).
-/

namespace Sys2Proof.Machine

/-- Bits of a fixed-point real. -/
def fixBits : Nat := 256
def fixOne : Int := 2 ^ fixBits

/-- ln 2, π, and √(2/π), over 2^256. -/
def fixLn2 : Int := 0xb17217f7d1cf79abc9e3b39803f2f6af40f343267298b62d8a0d175b8baafa2b
def fixPi : Int := 0x3243f6a8885a308d313198a2e03707344a4093822299f31d0082efa98ec4e6c89
def fixGelu : Int := 0xcc42299ea1b284687e59e2805d5c717fa7053e60a24e0db1808e369004c73a5d

/-- π as the rotary unit holds it, to 2⁻¹²⁸ (R60), over 2^128. -/
def heldPi : Int := 0x3243f6a8885a308d313198a2e03707344

def fixMul (a b : Int) : Int := a * b / fixOne

/-- A finite value over 2^256, toward −∞ below that. -/
def toFix : Fv → Int
  | .fin n m e =>
    let v : Int := if 0 ≤ e + fixBits then m * 2 ^ (e + fixBits).toNat else m / 2 ^ (-(e + fixBits)).toNat
    if n then -v else v
  | _ => 0

/-- An integer over 2^256, times 2^k, as a value. -/
def ofFix (a k : Int) : Fv := .fin (decide (a < 0)) a.natAbs (k - fixBits)

/-- A quotient of finite values to 256 bits and more. -/
def quotFv : Fv → Fv → Fv
  | .fin a m e, .fin b n g =>
    let k := fixBits + Nat.log2 n
    .fin (a != b) (m * 2 ^ k / n) (e - g - k)
  | _, _ => .nan

/-- e^r by its series, for |r| below 1. -/
def expSeries (r : Int) : Int := ((List.range 70).reverse).foldl (fun a k => fixOne + fixMul r a / ((k : Int) + 1)) fixOne

/-- e^x for a finite x; far outside FP32's range, a value that overflows or rounds to 0. -/
def expReal (x : Fv) : Fv :=
  if ltFv (.fin false 1 10) x then .fin false 1 2000
  else if ltFv x (.fin true 1 10) then .fin false 1 (-2000)
  else
    let t := toFix x
    let k := t / fixLn2
    ofFix (expSeries (t - k * fixLn2)) k

/-- 2^x for a finite x. -/
def exp2Real (x : Fv) : Fv :=
  if ltFv (.fin false 1 10) x then .fin false 1 2000
  else if ltFv x (.fin true 1 10) then .fin false 1 (-2000)
  else
    let t := toFix x
    ofFix (expSeries (fixMul (t % fixOne) fixLn2)) (t / fixOne)

/-- ln x for a finite x above 0: 2^k times a y from 0.75 to 1.5, by the series of the inverse hyperbolic tangent. -/
def lnReal : Fv → Fv
  | .fin _ m e =>
    let l : Int := Nat.log2 m
    let big := decide (3 * 2 ^ l.toNat ≤ 2 * m)
    let k := l + e + if big then 1 else 0
    let y := toFix (.fin false m (e - k))
    let z := (y - fixOne) * fixOne / (y + fixOne)
    let z2 := fixMul z z
    let sum := ((List.range 64).reverse).foldl (fun a i => fixOne / (2 * (i : Int) + 1) + fixMul z2 a) 0
    ofFix (k * fixLn2 + 2 * fixMul z sum) 0
  | v => v

/-- log₂ x for a finite x above 0. -/
def log2Real (x : Fv) : Fv := quotFv (lnReal x) (ofFix fixLn2 0)

/-- 1/(1 + e^−x) for a finite x. -/
def sigReal (x : Fv) : Fv :=
  let one : Fv := .fin false 1 0
  match x with
  | .fin true _ _ => let g := expReal x; quotFv g (addFv one g)
  | _ => quotFv one (addFv one (expReal (negFv x)))

/-- 1/√x for a finite x above 0. -/
def rsqrtReal : Fv → Fv
  | .fin _ m e =>
    let m' := if e % 2 = 0 then m else 2 * m
    let e' := if e % 2 = 0 then e else e - 1
    .fin false (Nat.sqrt (4 ^ fixBits / m')) (-(e' / 2) - fixBits)
  | v => v

/-- tanh x = 2/(1 + e^−2x) − 1, for |x| from 2⁻⁶⁴ up; below that it is x within any bound here. -/
def tanhReal (x : Fv) : Fv :=
  if ltFv (absFv x) (.fin false 1 (-64)) then x
  else addFv (mulFv (.fin false 1 1) (sigReal (mulFv (.fin false 1 1) x))) (.fin true 1 0)

/-- The tanh form of GELU: x/2 × (1 + tanh u) = x/(1 + e^−2u), with u = √(2/π) × (x + 0.044715 x³). -/
def geluReal (x : Fv) : Fv :=
  let cube := quotFv (mulFv (.fin false 44715 0) (mulFv x (mulFv x x))) (.fin false 1000000 0)
  mulFv x (sigReal (mulFv (ofFix fixGelu 1) (addFv x cube)))

/-- cos and sin of an angle over 2^256 from 0 to 2π, by their series. -/
def cosSeries (a : Int) : Int :=
  let q := fixMul a a
  ((List.range 60).reverse).foldl (fun s k => fixOne - fixMul q s / ((2 * (k : Int) + 1) * (2 * k + 2))) fixOne
def sinSeries (a : Int) : Int :=
  let q := fixMul a a
  fixMul a (((List.range 60).reverse).foldl (fun s k => fixOne - fixMul q s / ((2 * (k : Int) + 2) * (2 * k + 3))) fixOne)

/-- The angle a = p × θ, formed exactly and reduced modulo 2π with π held to 2⁻¹²⁸ (R60), over 2^256. -/
def rotaryAngle (p : Nat) : Fv → Int
  | .fin n m e =>
    let a : Int := if n then -(p * m : Nat) else (p * m : Nat)
    if 0 ≤ e + 128 then (a * 2 ^ (e + 128).toNat) % (2 * heldPi) * 2 ^ 128
    else
      let sh := (-(e + 128)).toNat
      a % (2 * heldPi * 2 ^ sh) * 2 ^ 128 / 2 ^ sh
  | _ => 0

/-- The two results of a rotary pair (R60): x cos a − y sin a and x sin a + y cos a. -/
def rotaryReal (second : Bool) (p : Nat) (theta x y : Fv) : Fv :=
  let a := rotaryAngle p theta
  let c := ofFix (cosSeries a) 0
  let d := ofFix (sinSeries a) 0
  if second then addFv (mulFv x d) (mulFv y c) else addFv (mulFv x c) (negFv (mulFv y d))

/-! ### A result within a bound -/

/-- The exponent of one FP32 ulp of a finite value. -/
def ulpExp : Fv → Int
  | .fin _ m e => if m = 0 then eMin .fp32 else max ((Nat.log2 m : Int) + e - 23) (eMin .fp32)
  | _ => eMin .fp32

/-- A candidate lies within k ulps (of the larger of the two), or within an absolute bound, of a real; an infinity does when the real
comes within k ulps of 2^128. The real is known to 2⁻⁶⁴ of an ulp, which the comparison allows for. -/
def within (k : Nat) (abs : Option Int) (ulp : Int) (cand real : Fv) : Bool :=
  let slack : Fv := .fin false (k * 2 ^ 64 + 1) (ulp - 64)
  match cand with
  | .fin .. =>
    let d := absFv (addFv cand (negFv real))
    !ltFv slack d || (match abs with | some e => !ltFv (.fin false 1 e) d | none => false)
  | .inf n => (match real with | .fin n' _ _ => n == n' | _ => false) && !ltFv (addFv (absFv real) slack) (.fin false 1 128)
  | _ => false

/-- A function's result (R58, Table 3.7): the free value where it keeps the bound, else the real itself, which rounds within it. -/
def boundedFv (k : Nat) (abs : Option Int) (free : BitVec 32) (real : Fv) : Fv :=
  let cand := decodeFp .fp32 free.toNat
  if within k abs (max (ulpExp cand) (ulpExp real)) cand real then cand else real

end Sys2Proof.Machine
end

