-- ==== Sys2Proof/Machine/Vector.lean ====
section
/-!
DEFINITION. The vector unit: the ops of Table 3.7, their operands (R57), domain results (R58), reductions (R59), rotary
rotation (R60) and conversions (R25 to R35).
-/

namespace Sys2Proof.Machine

/-- The shape of a vector step (R57, Table 3.5): an fn that Table 3.7 does not give is out of range. -/
def vecShape (t : Tile) (w : StepWord) (bad : Option (Nat × Nat)) : Shape :=
  { queue := 2, entry := some .vector, reads := vecReads t w, writes := vecWrites t w
    bad := if fnAssigned (stepOp w) (vecFn w) then bad else some (trStepField, 124) }

/-- Join the vector queue. -/
def vectorQueue (site tl : Nat) (w : StepWord) (ea : List Nat) (index : Nat) (s : State) : State :=
  let t := s.tile site tl
  s.setTile site tl { t with vq := t.vq ++ [{ word := w, ea := ea, start := (s.site site).cycles, index := index }] }

/-- Issue a vector step of one op. -/
def vecIssue (op : Nat) (site tl : Nat) (w : StepWord) (bad : Option (Nat × Nat)) (s : State) : State :=
  let t := s.tile site tl
  s.issue site tl 3 op w (vecShape t w bad) (t.pc + 1)
    (vectorQueue site tl w [t.ea w 18, t.ea w 38, t.ea w 58, t.ea w 78] t.pc)

/-- Op 0: element-wise arithmetic, max, min, select and copy (R58). -/
def execVectorArithmetic (site tile : Nat) (w : StepWord) (s : State) : Out := .next (vecIssue 0 site tile w none s)

/-- Op 1: functions with fixed results (R58). -/
def execVectorFunction (site tile : Nat) (w : StepWord) (s : State) : Out := .next (vecIssue 1 site tile w none s)

/-- Op 2: row sum, row max, row max of abs (R59). -/
def execVectorReduce (site tile : Nat) (w : StepWord) (s : State) : Out := .next (vecIssue 2 site tile w none s)

/-- Op 3: exp(x − Yᵣ) or x × exp(Yᵣ − Zᵣ) (Table 3.7). -/
def execSoftmaxHelper (site tile : Nat) (w : StepWord) (s : State) : Out := .next (vecIssue 3 site tile w none s)

/-- Op 4: rotary rotation; an odd L raises STEP_FIELD (R60). -/
def execRotary (site tile : Nat) (w : StepWord) (s : State) : Out :=
  .next (vecIssue 4 site tile w (if vecL w % 2 = 1 then some (trStepField, 98) else none) s)

/-- The breaches of a convert (R57, Table 3.6); of a source format equal to the destination's, detail A names src. DESIGN CHOICE (log 19). -/
def cvtBad (w : StepWord) : Option (Nat × Nat) :=
  if 2 ≤ cvtRnd w then some (trStepField, 38)
  else if 5 ≤ cvtSrc w ∨ cvtSrc w = cvtDst w then some (trStepField, 40)
  else if 5 ≤ cvtDst w then some (trStepField, 43)
  else if (cvtSrc w = 4 ∨ cvtDst w = 4) ∧ vecL w % 16 ≠ 0 then some (trStepField, 98)
  else none

/-- Op 5: conversion between formats (R57). -/
def execConvert (site tile : Nat) (w : StepWord) (s : State) : Out := .next (vecIssue 5 site tile w (cvtBad w) s)

/-- Cycles of a vector step: 8 + rows × ceil(L / e), and 8 more per row for a reduce; rotary counts pairs. -/
def vecCycles (w : StepWord) : Nat :=
  let n := if stepOp w = 4 then ceilDiv (vecL w / 2) 128 else ceilDiv (vecL w) (vecRate (stepOp w))
  8 + vecRows w * (n + if stepOp w = 2 then 8 else 0)

/-- NaN and poison of the operands prevail over a function's value (R46). -/
def guardFv (l : List Fv) (v : Fv) : Fv :=
  if l.contains .poison then .poison else if l.contains .nan then .nan else v

/-- The result of a function for an infinite operand, where R58 states none: free, and never the poison code (R24). Log 2. -/
def freeFv (w : BitVec 32) : Fv :=
  match decodeFp .fp32 w.toNat with
  | .poison => .nan
  | v => v

/-- The bits of an operand as FP32. -/
def bits32 (v : Fv) : BitVec 32 := BitVec.ofNat 32 (encodeFp .fp32 false .rne v)

/-- A value is below zero (−0 is not). -/
def negative : Fv → Bool
  | .inf n => n
  | .fin n m _ => n && decide (m ≠ 0)
  | _ => false

/-- A value is a zero of either sign. -/
def isZero : Fv → Bool
  | .fin _ m _ => decide (m = 0)
  | _ => false

/-- The real value of a function of op 1 at a finite operand of its domain. -/
def funcReal (fn : Nat) (x : Fv) : Fv :=
  match fn with
  | 0 => expReal x
  | 1 => exp2Real x
  | 2 => lnReal x
  | 3 => log2Real x
  | 6 => rsqrtReal x
  | 7 => tanhReal x
  | 8 => sigReal x
  | 9 => mulFv x (sigReal x)
  | _ => geluReal x

/-- Its bound in ulps, and the absolute one of ln and log₂ for x from 0.75 to 1.5 (Table 3.7). -/
def funcUlps (fn : Nat) : Nat := match fn with | 1 => 1 | 6 => 1 | 9 => 3 | 10 => 4 | _ => 2
def funcAbs (fn : Nat) (x : Fv) : Option Int :=
  if (fn = 2 ∨ fn = 3) ∧ !ltFv x (.fin false 3 (-2)) ∧ !ltFv (.fin false 3 (-1)) x then some (-30) else none

/-- Op 1 (R58, Table 3.7): the correctly rounded ones, the domain results, and for the rest the fixed result that the table bounds. -/
def funcFv (fn : Nat) (x : Fv) : Fv :=
  let free := Config.vectorResult (16 + fn) (bits32 x) 0 0
  guardFv [x] (
    if fn = 4 then recipFv x
    else if fn = 5 then sqrtFv x
    else if (fn = 2 ∨ fn = 3 ∨ fn = 6) ∧ negative x then .nan
    else if (fn = 2 ∨ fn = 3) ∧ isZero x then .inf true
    else match x with
      | .fin n 0 e => if fn = 6 then .inf n else boundedFv (funcUlps fn) none free (funcReal fn (.fin n 0 e))
      | .fin n m e => boundedFv (funcUlps fn) (funcAbs fn x) free (funcReal fn (.fin n m e))
      | _ => freeFv free)

/-- Op 0 (Table 3.7). `yr` is Yᵣ. -/
def arithFv (fn : Nat) (x y z yr : Fv) : Fv :=
  match fn with
  | 0 => addFv x y
  | 1 => addFv x (negFv y)
  | 2 => mulFv x y
  | 3 => addFv (mulFv x y) z
  | 4 => maxFv x y
  | 5 => minFv x y
  | 6 => absFv x
  | 7 => negFv x
  | 8 => mulFv x yr
  | 9 => addFv x yr
  | 10 => match z with
    | .poison => .poison
    | .nan => .nan
    | v => if isZero v then y else x
  | _ => x

/-- Op 3 (Table 3.7): exp of the rounded difference, and x × exp(Yᵣ − Zᵣ). -/
def softFv (sat : Bool) (fn : Nat) (x yr zr : Fv) : Fv :=
  if fn = 0 then guardFv [x, yr] (
    let d := round32 sat (addFv x (negFv yr))
    let free := Config.vectorResult 48 (bits32 d) 0 0
    guardFv [d] (match d with
      | .fin .. => boundedFv 2 none free (expReal d)
      | _ => freeFv free))
  else guardFv [x, yr, zr] (
    let free := Config.vectorResult 49 (bits32 x) (bits32 yr) (bits32 zr)
    match x, addFv yr (negFv zr) with
    | .fin n m e, .fin n' m' e' => boundedFv 3 none free (mulFv (.fin n m e) (expReal (.fin n' m' e')))
    | _, _ => freeFv free)

/-- One element of ops 0, 1 and 3, rounded to FP32. -/
def State.mapElem (s : State) (site tl : Nat) (t : Tile) (j : Job) (r i : Nat) : Nat :=
  let w := j.word
  let rd (n k : Nat) : Fv :=
    let base := j.ea.getD n 0
    if k = 1 then s.elem site tl t.sat .fp32 (base + r * rowUnits 0 (vecL w)) i
    else if k = 2 then s.elem site tl t.sat .fp32 base r else zeroFv
  let op := stepOp w
  let fn := vecFn w
  let x := rd 0 1
  let y := rd 1 (vecY op fn)
  let z := rd 2 (vecZ op fn)
  encodeFp .fp32 t.sat .rne (if op = 0 then arithFv fn x y z y else if op = 1 then funcFv fn x else softFv t.sat fn x y z)

/-- Merge two lane values, either of which may be empty (R59). -/
def laneMax : Option Fv → Option Fv → Option Fv
  | none, b => b
  | a, none => a
  | some a, some b => some (maxFv a b)

/-- The tree of 8 levels over 256 optional lanes. -/
def pairMax : List (Option Fv) → List (Option Fv)
  | a :: b :: r => laneMax a b :: pairMax r
  | l => l
def treeMax : Nat → List (Option Fv) → Option Fv
  | 0, l => l.headD none
  | k + 1, l => treeMax k (pairMax l)

/-- A row's reduction (R59). -/
def reduceRow (sat : Bool) (fn : Nat) (xs : List Fv) : Fv :=
  let lane (k : Nat) : List Fv := (xs.zipIdx.filter (fun p => p.2 % 256 == k)).map (fun p => p.1)
  if fn = 0 then treeSum (add32 sat) 8 ((List.range 256).map (fun k => (lane k).foldl (add32 sat) zeroFv))
  else
    let f := if fn = 2 then absFv else id
    (treeMax 8 ((List.range 256).map (fun k => (lane k).foldl (fun a x => laneMax a (some (f x))) none))).getD zeroFv

/-- One result of a rotary pair (R60): within 2 ulp of the larger operand (Table 3.7). -/
def rotaryFv (second : Bool) (p : BitVec 32) (th x y : Fv) : Fv :=
  let free := Config.rotaryResult second p (bits32 th) (bits32 x) (bits32 y)
  match th, x, y with
  | .fin .., .fin .., .fin .. =>
    let real := rotaryReal second p.toNat th x y
    let cand := decodeFp .fp32 free.toNat
    if within 2 none (max (ulpExp x) (ulpExp y)) cand real then cand else real
  | _, _, _ => freeFv free

/-- One pair of a rotary step (R60). -/
def State.rotaryPair (s : State) (site tl : Nat) (t : Tile) (j : Job) (r i : Nat) : List Nat :=
  let w := j.word
  let base := j.ea.getD 0 0 + r * rowUnits 0 (vecL w)
  let x := s.elem site tl t.sat .fp32 base (2 * i)
  let y := s.elem site tl t.sat .fp32 base (2 * i + 1)
  let th := s.elem site tl t.sat .fp32 (j.ea.getD 2 0) i
  let marked := s.bytesMarked site tl (j.ea.getD 1 0) (4 * r) 4
  let p := BitVec.ofNat 32 (s.storeNum site tl (j.ea.getD 1 0) (4 * r) 4)
  [false, true].map (fun second => encodeFp .fp32 t.sat .rne
    (if marked then .poison
     else guardFv [x, y, th] (rotaryFv second p th x y)))

/-- The roundings of a convert step's elements, in flat order, and the generator after them (R25 to R27). -/
def cvtRnds (t : Tile) (w : StepWord) : List Rnd × BitVec 32 :=
  let n := vecRows w * vecL w
  if cvtRnd w = 1 then
    let (l, x) := draws n t.rng
    (l.map Rnd.stoch, x)
  else (List.replicate n .rne, t.rng)

/-- An element of a convert's source (R35, R45). -/
def State.cvtElem (s : State) (site tl : Nat) (t : Tile) (j : Job) (r i : Nat) : Fv :=
  let w := j.word
  let base := j.ea.getD 0 0 + r * rowUnits (cvtSrc w) (vecL w)
  if cvtSrc w = 4 then g6Val (s.g6Block site tl base (i / 16)) (i % 16)
  else s.elem site tl t.sat (vFmt (cvtSrc w)) base i

/-- The units of row r of a convert's result. -/
def State.cvtRow (s : State) (site tl : Nat) (t : Tile) (j : Job) (rs : List Rnd) (pad : Nat → BitVec 256) (r : Nat) : List Cell32 :=
  let w := j.word
  let l := vecL w
  let xs := (List.range l).map (fun i => s.cvtElem site tl t j r i)
  let ms := (rs.drop (r * l)).take l
  if cvtDst w = 4 then
    g6Units ((List.range (l / 16)).map (fun b => toG6 t.sat ((ms.drop (16 * b)).take 16) ((xs.drop (16 * b)).take 16)))
  else
    let f := vFmt (cvtDst w)
    packUnits (fmtBytes f) ((xs.zip ms).map (fun p => encodeFp f t.sat p.2 p.1)) pad

/-- The units that a vector step writes from D. -/
def State.vecResult (s : State) (site tl : Nat) (t : Tile) (j : Job) : List Cell32 :=
  let w := j.word
  let l := vecL w
  let rows := List.range (vecRows w)
  let pad (r u : Nat) : BitVec 256 := Config.padding s.freeCount (r * rowUnits 0 l + u)
  match stepOp w with
  | 2 => packUnits 4 (rows.map (fun r => encodeFp .fp32 t.sat .rne (reduceRow t.sat (vecFn w)
      ((List.range l).map (fun i => s.elem site tl t.sat .fp32 (j.ea.getD 0 0 + r * rowUnits 0 l) i))))) (pad 0)
  | 4 => (rows.map (fun r => packUnits 4 ((List.range (l / 2)).map (fun i => s.rotaryPair site tl t j r i)).flatten (pad r))).flatten
  | 5 => (rows.map (fun r => s.cvtRow site tl t j (cvtRnds t w).1 (pad r) r)).flatten
  | _ => (rows.map (fun r => packUnits 4 ((List.range l).map (fun i => s.mapElem site tl t j r i)) (pad r))).flatten

/-- The regions that a vector step reads, by the addresses it took at issue. -/
def Job.vecReads (j : Job) : List Region :=
  let w := j.word
  let op := stepOp w
  let l := vecL w
  let rows := vecRows w
  let side (k base : Nat) : List Region :=
    if k = 1 then [rowsRegion base 0 l rows] else if k = 2 then [{ base := base, len := scalarUnits rows }]
    else if k = 3 then [{ base := base, len := ceilDiv (l / 2 * 4) 32 }] else []
  rowsRegion (j.ea.getD 0 0) (if op = 5 then cvtSrc w else 0) l rows ::
    (side (vecY op (vecFn w)) (j.ea.getD 1 0) ++ side (vecZ op (vecFn w)) (j.ea.getD 2 0))

/-- The head of the vector queue completes once its cycles and conflicts have passed: it writes D, takes its draws (R27),
leaves the scoreboard, and the next step can start. Units that ECC finds uncorrectable are read as poison (R44). -/
def execVectorStepDone (site tile conflicts : Nat) (ecc : Ecc) (s : State) : Out :=
  let t := s.tile site tile
  .next (match t.vq with
    | [] => s
    | j :: q =>
      let due := j.start + vecCycles j.word + conflicts
      if (s.site site).cycles < due then s
      else
        let se := s.storeEcc site tile (inRegions j.vecReads) ecc
        let q := match q with | [] => [] | k :: r => { k with start := max k.start due } :: r
        let rng := if stepOp j.word = 5 then (cvtRnds t j.word).2 else t.rng
        let s1 := se.setTile site tile ({ t with vq := q, rng := rng }.release .vector)
        let s2 := { s1 with freeCount := s1.freeCount + 1 }
        (s2.putStore site tile (j.ea.getD 3 0) (se.vecResult site tile t j)).settle site tile)

end Sys2Proof.Machine
end

