-- ==== Sys2Proof/Machine/Dispatch.lean ====
section
/-!
DEFINITION. What each command does: one arm per constructor, one meaning each.
-/

namespace Sys2Proof.Machine

def exec (i : Instr) (s : State) : Host.Outcome State Fault Refusal :=
  match i with
  | .nop site tile w => Sys2Proof.Machine.execNop site tile w s
  | .wait site tile w => Sys2Proof.Machine.execWait site tile w s
  | .loop site tile w => Sys2Proof.Machine.execLoop site tile w s
  | .setix site tile w => Sys2Proof.Machine.execSetix site tile w s
  | .bankpwr site tile w => Sys2Proof.Machine.execBankpwr site tile w s
  | .fence site tile w => Sys2Proof.Machine.execFence site tile w s
  | .mark site tile w => Sys2Proof.Machine.execMark site tile w s
  | .trap site tile w => Sys2Proof.Machine.execTrap site tile w s
  | .endStep site tile w => Sys2Proof.Machine.execEndStep site tile w s
  | .matrixDense site tile w => Sys2Proof.Machine.execMatrixDense site tile w s
  | .matrixBin site tile w => Sys2Proof.Machine.execMatrixBin site tile w s
  | .matrixStepDone site tile conflicts ecc => Sys2Proof.Machine.execMatrixStepDone site tile conflicts ecc s
  | .vectorArithmetic site tile w => Sys2Proof.Machine.execVectorArithmetic site tile w s
  | .vectorFunction site tile w => Sys2Proof.Machine.execVectorFunction site tile w s
  | .vectorReduce site tile w => Sys2Proof.Machine.execVectorReduce site tile w s
  | .softmaxHelper site tile w => Sys2Proof.Machine.execSoftmaxHelper site tile w s
  | .rotary site tile w => Sys2Proof.Machine.execRotary site tile w s
  | .convert site tile w => Sys2Proof.Machine.execConvert site tile w s
  | .vectorStepDone site tile conflicts ecc => Sys2Proof.Machine.execVectorStepDone site tile conflicts ecc s
  | .loadVaultToStore site tile w => Sys2Proof.Machine.execLoadVaultToStore site tile w s
  | .storeToVault site tile w => Sys2Proof.Machine.execStoreToVault site tile w s
  | .furrowSend site tile w ecc => Sys2Proof.Machine.execFurrowSend site tile w ecc s
  | .furrowSendDone site tile ecc => Sys2Proof.Machine.execFurrowSendDone site tile ecc s
  | .furrowReceive site tile w => Sys2Proof.Machine.execFurrowReceive site tile w s
  | .furrowReceiveDone site tile => Sys2Proof.Machine.execFurrowReceiveDone site tile s
  | .furrowBeatArrival site tile src flow vc bad => Sys2Proof.Machine.execFurrowBeatArrival site tile src flow vc bad s
  | .furrowDeadlineExpiry site tile => Sys2Proof.Machine.execFurrowDeadlineExpiry site tile s
  | .bid site tile w => Sys2Proof.Machine.execBid site tile w s
  | .send site tile w ecc => Sys2Proof.Machine.execSend site tile w ecc s
  | .mergeOpen site tile w => Sys2Proof.Machine.execMergeOpen site tile w s
  | .mergeClose site tile w => Sys2Proof.Machine.execMergeClose site tile w s
  | .tallyWait site tile w => Sys2Proof.Machine.execTallyWait site tile w s
  | .tallyWaitSatisfied site tile => Sys2Proof.Machine.execTallyWaitSatisfied site tile s
  | .tallyWaitTimeout site tile => Sys2Proof.Machine.execTallyWaitTimeout site tile s
  | .tallyPost site tile w => Sys2Proof.Machine.execTallyPost site tile w s
  | .sieveSelect site tile w => Sys2Proof.Machine.execSieveSelect site tile w s
  | .tagComplete site tile tag ueUnits ce ecc head => Sys2Proof.Machine.execTagComplete site tile tag ueUnits ce ecc head s
  | .watchdogExpiry site tile => Sys2Proof.Machine.execWatchdogExpiry site tile s
  | .trapRecordSend site tile => Sys2Proof.Machine.execTrapRecordSend site tile s
  | .siteSequencerTrapHandle site => Sys2Proof.Machine.execSiteSequencerTrapHandle site s
  | .stepListRefill site tile => Sys2Proof.Machine.execStepListRefill site tile s
  | .bankChangeDone site tile bank => Sys2Proof.Machine.execBankChangeDone site tile bank s
  | .tileStoreArrivingWrite site tile addr data clash => Sys2Proof.Machine.execTileStoreArrivingWrite site tile addr data clash s
  | .storeTestInterval site tile ecc => Sys2Proof.Machine.execStoreTestInterval site tile ecc s
  | .storeTestDone site tile failed differ corrected => Sys2Proof.Machine.execStoreTestDone site tile failed differ corrected s
  | .prioBucketRefill site attachment who => Sys2Proof.Machine.execPrioBucketRefill site attachment who s
  | .checkPeriodEnd site tile => Sys2Proof.Machine.execCheckPeriodEnd site tile s
  | .phaseWindowEnd site tile => Sys2Proof.Machine.execPhaseWindowEnd site tile s
  | .tileFault site tile => Sys2Proof.Machine.execTileFault site tile s
  | .linkAliveTimeout site phys => Sys2Proof.Machine.execLinkAliveTimeout site phys s
  | .routeRecomputeDone site => Sys2Proof.Machine.execRouteRecomputeDone site s
  | .vaultColumnPowerUp site tile runs => Sys2Proof.Machine.execVaultColumnPowerUp site tile runs s
  | .vaultClearDone site tile => Sys2Proof.Machine.execVaultClearDone site tile s
  | .retrim site tile layer edges => Sys2Proof.Machine.execRetrim site tile layer edges s
  | .remoteQueueEnqueue site tile write => Sys2Proof.Machine.execRemoteQueueEnqueue site tile write s
  | .remoteAccessServe site tile ue ce => Sys2Proof.Machine.execRemoteAccessServe site tile ue ce s
  | .poisonPatternWrite site tile => Sys2Proof.Machine.execPoisonPatternWrite site tile s
  | .scrubRead site tile ueUnits ce written => Sys2Proof.Machine.execScrubRead site tile ueUnits ce written s
  | .refreshBurst site tile => Sys2Proof.Machine.execRefreshBurst site tile s
  | .trickleRefresh site tile layer bank => Sys2Proof.Machine.execTrickleRefresh site tile layer bank s
  | .ceWitnessWindow site => Sys2Proof.Machine.execCeWitnessWindow site s
  | .marketMatch plane => Sys2Proof.Machine.execMarketMatch plane s
  | .bidWordSend port plane => Sys2Proof.Machine.execBidWordSend port plane s
  | .grantArrival port plane => Sys2Proof.Machine.execGrantArrival port plane s
  | .slotVerdict port plane found => Sys2Proof.Machine.execSlotVerdict port plane found s
  | .slotRetry port plane => Sys2Proof.Machine.execSlotRetry port plane s
  | .receiveBufferDrain port plane => Sys2Proof.Machine.execReceiveBufferDrain port plane s
  | .racReadRequest port plane => Sys2Proof.Machine.execRacReadRequest port plane s
  | .racReadReply port ueUnits ce => Sys2Proof.Machine.execRacReadReply port ueUnits ce s
  | .mergeOpenAccept port => Sys2Proof.Machine.execMergeOpenAccept port s
  | .mergeContribution port plane => Sys2Proof.Machine.execMergeContribution port plane s
  | .mergeResultWrite port ticket => Sys2Proof.Machine.execMergeResultWrite port ticket s
  | .mergeDeadline port ticket => Sys2Proof.Machine.execMergeDeadline port ticket s
  | .orderlyWithdrawal port => Sys2Proof.Machine.execOrderlyWithdrawal port s
  | .withdrawalComplete port => Sys2Proof.Machine.execWithdrawalComplete port s
  | .abruptWithdrawal port supply => Sys2Proof.Machine.execAbruptWithdrawal port supply s
  | .portRestore port => Sys2Proof.Machine.execPortRestore port s
  | .planeRetire plane cause => Sys2Proof.Machine.execPlaneRetire plane cause s
  | .bundleRecoveryFrame lampDie plane tree => Sys2Proof.Machine.execBundleRecoveryFrame lampDie plane tree s
  | .pathTest port plane pass => Sys2Proof.Machine.execPathTest port plane pass s
  | .fieldCacheScrub field ce ueUnits => Sys2Proof.Machine.execFieldCacheScrub field ce ueUnits s
  | .admitStream stream promptLen k sb reserve latency sampling table mirrorOk => Sys2Proof.Machine.execAdmitStream stream promptLen k sb reserve latency sampling table mirrorOk s
  | .prompt stream position tokens => Sys2Proof.Machine.execPrompt stream position tokens s
  | .cancel stream complete => Sys2Proof.Machine.execCancel stream complete s
  | .unknownServingMessage head body => Sys2Proof.Machine.execUnknownServingMessage head body s
  | .admitHoldExpiry stream => Sys2Proof.Machine.execAdmitHoldExpiry stream s
  | .tokenSend stream token last => Sys2Proof.Machine.execTokenSend stream token last s
  | .mirrorWaitExpiry stream token last => Sys2Proof.Machine.execMirrorWaitExpiry stream token last s
  | .headRecordReceive stream position sampling token => Sys2Proof.Machine.execHeadRecordReceive stream position sampling token s
  | .waveDispatch replica waveType wp => Sys2Proof.Machine.execWaveDispatch replica waveType wp s
  | .waveEnd replica slot => Sys2Proof.Machine.execWaveEnd replica slot s
  | .waveRerun replica slot => Sys2Proof.Machine.execWaveRerun replica slot s
  | .queryArrival stream layer position prefill => Sys2Proof.Machine.execQueryArrival stream layer position prefill s
  | .streamTokenRerun stream => Sys2Proof.Machine.execStreamTokenRerun stream s
  | .streamFaultTimeout stream => Sys2Proof.Machine.execStreamFaultTimeout stream s
  | .tallyPostArrival port ctr inc wave16 replica slot step => Sys2Proof.Machine.execTallyPostArrival port ctr inc wave16 replica slot step s
  | .planLoad img => Sys2Proof.Machine.execPlanLoad img s
  | .serveStart session => Sys2Proof.Machine.execServeStart session s
  | .laserPowerLoop laser pd => Sys2Proof.Machine.execLaserPowerLoop laser pd s
  | .reserveSwitch laser matchGhz matchDb => Sys2Proof.Machine.execReserveSwitch laser matchGhz matchDb s
  | .carrySwitch lampDie set wavelength => Sys2Proof.Machine.execCarrySwitch lampDie set wavelength s
  | .fastFade laser drop => Sys2Proof.Machine.execFastFade laser drop s
  | .lampDieLost lampDie cause => Sys2Proof.Machine.execLampDieLost lampDie cause s
  | .ringTrack ring offset => Sys2Proof.Machine.execRingTrack ring offset s
  | .calibration quantity place first second => Sys2Proof.Machine.execCalibration quantity place first second s
  | .laneLock lane => Sys2Proof.Machine.execLaneLock lane s
  | .laneRecovery lane clockLoss => Sys2Proof.Machine.execLaneRecovery lane clockLoss s
  | .laneDown lane => Sys2Proof.Machine.execLaneDown lane s
  | .laneAcquireRetry lane => Sys2Proof.Machine.execLaneAcquireRetry lane s
  | .laneBerUpdate lane corrected received symbols uncorrected => Sys2Proof.Machine.execLaneBerUpdate lane corrected received symbols uncorrected s
  | .dr8Underrun port lanes => Sys2Proof.Machine.execDr8Underrun port lanes s
  | .receiveMaskChange link mask => Sys2Proof.Machine.execReceiveMaskChange link mask s
  | .laneReportRepeat link => Sys2Proof.Machine.execLaneReportRepeat link s
  | .laneReportReceive link mask => Sys2Proof.Machine.execLaneReportReceive link mask s
  | .stripeChangeReceive link mask after => Sys2Proof.Machine.execStripeChangeReceive link mask after s
  | .stripeSwitch link transmit => Sys2Proof.Machine.execStripeSwitch link transmit s
  | .heartbeatSend link => Sys2Proof.Machine.execHeartbeatSend link s
  | .heartbeatReceive link panel iod dir mask count time => Sys2Proof.Machine.execHeartbeatReceive link panel iod dir mask count time s
  | .heartbeatMiss link => Sys2Proof.Machine.execHeartbeatMiss link s
  | .linkUp link => Sys2Proof.Machine.execLinkUp link s
  | .transitFrame iod dir bytes fcsOk p => Sys2Proof.Machine.execTransitFrame iod dir bytes fcsOk p s
  | .msgPacket iod p => Sys2Proof.Machine.execMsgPacket iod p s
  | .copyPacket iod p => Sys2Proof.Machine.execCopyPacket iod p s
  | .writePacket iod p => Sys2Proof.Machine.execWritePacket iod p s
  | .readPacket iod p ueUnits ce => Sys2Proof.Machine.execReadPacket iod p ueUnits ce s
  | .readReplyPacket iod p => Sys2Proof.Machine.execReadReplyPacket iod p s
  | .invalLine iod own p => Sys2Proof.Machine.execInvalLine iod own p s
  | .invalEpoch iod own p => Sys2Proof.Machine.execInvalEpoch iod own p s
  | .mergePacket iod p => Sys2Proof.Machine.execMergePacket iod p s
  | .ackPacket iod p => Sys2Proof.Machine.execAckPacket iod p s
  | .openPacket iod peer addr payload => Sys2Proof.Machine.execOpenPacket iod peer addr payload s
  | .closePacket iod p => Sys2Proof.Machine.execClosePacket iod p s
  | .ackSend iod chan => Sys2Proof.Machine.execAckSend iod chan s
  | .packetSend iod chan field entries => Sys2Proof.Machine.execPacketSend iod chan field entries s
  | .rtoExpiry iod chan => Sys2Proof.Machine.execRtoExpiry iod chan s
  | .increasePeriod iod chan => Sys2Proof.Machine.execIncreasePeriod iod chan s
  | .holdTimeout iod chan => Sys2Proof.Machine.execHoldTimeout iod chan s
  | .remoteReadTimeout iod rid => Sys2Proof.Machine.execRemoteReadTimeout iod rid s
  | .channelCacheFill iod chan => Sys2Proof.Machine.execChannelCacheFill iod chan s
  | .neighbourSolicitation port target src => Sys2Proof.Machine.execNeighbourSolicitation port target src s
  | .icmpEchoRequest port dst src ident => Sys2Proof.Machine.execIcmpEchoRequest port dst src ident s
  | .descriptorPost port chan entries producer => Sys2Proof.Machine.execDescriptorPost port chan entries producer s
  | .descriptorFetch port chan => Sys2Proof.Machine.execDescriptorFetch port chan s
  | .moverReadIssue port chan => Sys2Proof.Machine.execMoverReadIssue port chan s
  | .moverReadData port chan ueUnits ce => Sys2Proof.Machine.execMoverReadData port chan ueUnits ce s
  | .moverWriteIssue port chan => Sys2Proof.Machine.execMoverWriteIssue port chan s
  | .moverResponse port chan isRead => Sys2Proof.Machine.execMoverResponse port chan isRead s
  | .moverStopSettled port => Sys2Proof.Machine.execMoverStopSettled port s
  | .descriptorComplete port chan => Sys2Proof.Machine.execDescriptorComplete port chan s
  | .writeResponseTimeout port chan => Sys2Proof.Machine.execWriteResponseTimeout port chan s
  | .channelResume port chan => Sys2Proof.Machine.execChannelResume port chan s
  | .channelAbort port chan => Sys2Proof.Machine.execChannelAbort port chan s
  | .moverResume session port => Sys2Proof.Machine.execMoverResume session port s
  | .mailboxWrite box payload skind sproc sport stile schan => Sys2Proof.Machine.execMailboxWrite box payload skind sproc sport stile schan s
  | .mailboxWaitWrite box payload skind sproc sport stile schan => Sys2Proof.Machine.execMailboxWaitWrite box payload skind sproc sport stile schan s
  | .mailboxRelease box seq => Sys2Proof.Machine.execMailboxRelease box seq s
  | .mboxWaitExpiry box => Sys2Proof.Machine.execMboxWaitExpiry box s
  | .checkStart unit => Sys2Proof.Machine.execCheckStart unit s
  | .checkRegWrite unit reg value => Sys2Proof.Machine.execCheckRegWrite unit reg value s
  | .feed8 unit v => Sys2Proof.Machine.execFeed8 unit v s
  | .feed16 unit v => Sys2Proof.Machine.execFeed16 unit v s
  | .feed32 unit v => Sys2Proof.Machine.execFeed32 unit v s
  | .checkFeedDone unit => Sys2Proof.Machine.execCheckFeedDone unit s
  | .checkClashClear unit => Sys2Proof.Machine.execCheckClashClear unit s
  | .tick slew skewed => Sys2Proof.Machine.execTick slew skewed s
  | .freqChangeRequest site mhz => Sys2Proof.Machine.execFreqChangeRequest site mhz s
  | .freqChangeGate site => Sys2Proof.Machine.execFreqChangeGate site s
  | .freqChangeRestart site locked => Sys2Proof.Machine.execFreqChangeRestart site locked s
  | .freqChangeResume site => Sys2Proof.Machine.execFreqChangeResume site s
  | .vcoreRampDone site => Sys2Proof.Machine.execVcoreRampDone site s
  | .replicaSlow site => Sys2Proof.Machine.execReplicaSlow site s
  | .crystalLost trimAge => Sys2Proof.Machine.execCrystalLost trimAge s
  | .spinePllUnlock => Sys2Proof.Machine.execSpinePllUnlock s
  | .diePllUnlock site pll => Sys2Proof.Machine.execDiePllUnlock site pll s
  | .fieldTimeBaseLoss field diff => Sys2Proof.Machine.execFieldTimeBaseLoss field diff s
  | .bundleClockLoss port plane => Sys2Proof.Machine.execBundleClockLoss port plane s
  | .ptpSyncSend ptpPort => Sys2Proof.Machine.execPtpSyncSend ptpPort s
  | .ptpMessageReceive ptpPort kind offset priority clockClass identity domain => Sys2Proof.Machine.execPtpMessageReceive ptpPort kind offset priority clockClass identity domain s
  | .announceTimeout => Sys2Proof.Machine.execAnnounceTimeout s
  | .holdoverEnd => Sys2Proof.Machine.execHoldoverEnd s
  | .zoneRealignDone zone skews => Sys2Proof.Machine.execZoneRealignDone zone skews s
  | .inputSample mv => Sys2Proof.Machine.execInputSample mv s
  | .inputRestored => Sys2Proof.Machine.execInputRestored s
  | .efuseShortTrip zone ma => Sys2Proof.Machine.execEfuseShortTrip zone ma s
  | .efuseOvercurrent zone ma => Sys2Proof.Machine.execEfuseOvercurrent zone ma s
  | .efuseReclose session zone => Sys2Proof.Machine.execEfuseReclose session zone s
  | .prechargeTestDone zone faultFound => Sys2Proof.Machine.execPrechargeTestDone zone faultFound s
  | .zoneLost zone => Sys2Proof.Machine.execZoneLost zone s
  | .railFault site rail mv => Sys2Proof.Machine.execRailFault site rail mv s
  | .powerSample watts zones => Sys2Proof.Machine.execPowerSample watts zones s
  | .capLoopStep => Sys2Proof.Machine.execCapLoopStep s
  | .sensorSample readings => Sys2Proof.Machine.execSensorSample readings s
  | .stackTrip site => Sys2Proof.Machine.execStackTrip site s
  | .heatZoneOff zone => Sys2Proof.Machine.execHeatZoneOff zone s
  | .heatZoneReturn zone => Sys2Proof.Machine.execHeatZoneReturn zone s
  | .carryReturn lampDie => Sys2Proof.Machine.execCarryReturn lampDie s
  | .panelTrip cause => Sys2Proof.Machine.execPanelTrip cause s
  | .emergencyBitClear n => Sys2Proof.Machine.execEmergencyBitClear n s
  | .standbyEnter => Sys2Proof.Machine.execStandbyEnter s
  | .standbyRelease => Sys2Proof.Machine.execStandbyRelease s
  | .wakeNAssert => Sys2Proof.Machine.execWakeNAssert s
  | .read m => Sys2Proof.Machine.execRead m s
  | .write m => Sys2Proof.Machine.execWrite m s
  | .stage m => Sys2Proof.Machine.execStage m s
  | .commit m => Sys2Proof.Machine.execCommit m s
  | .commitApply wave => Sys2Proof.Machine.execCommitApply wave s
  | .edgeApply wave => Sys2Proof.Machine.execEdgeApply wave s
  | .abort m => Sys2Proof.Machine.execAbort m s
  | .subscribe m => Sys2Proof.Machine.execSubscribe m s
  | .notify session => Sys2Proof.Machine.execNotify session s
  | .list m => Sys2Proof.Machine.execList m s
  | .hello src sport dst dport commons level version nonce name => Sys2Proof.Machine.execHello src sport dst dport commons level version nonce name s
  | .proof session src sport dst dport commons h => Sys2Proof.Machine.execProof session src sport dst dport commons h s
  | .bye m => Sys2Proof.Machine.execBye m s
  | .challengeTimeout session => Sys2Proof.Machine.execChallengeTimeout session s
  | .sessionIdleTimeout session => Sys2Proof.Machine.execSessionIdleTimeout session s
  | .helloLockoutEnd src => Sys2Proof.Machine.execHelloLockoutEnd src s
  | .commandTimeout area num => Sys2Proof.Machine.execCommandTimeout area num s
  | .portWithdrawCmd session port => Sys2Proof.Machine.execPortWithdrawCmd session port s
  | .switchover session => Sys2Proof.Machine.execSwitchover session s
  | .imageVerify session => Sys2Proof.Machine.execImageVerify session s
  | .imageVerifyDone => Sys2Proof.Machine.execImageVerifyDone s
  | .imageActivateLive session => Sys2Proof.Machine.execImageActivateLive session s
  | .imageActivateNextStart session => Sys2Proof.Machine.execImageActivateNextStart session s
  | .blackboxFlush session => Sys2Proof.Machine.execBlackboxFlush session s
  | .blackboxFlushDone => Sys2Proof.Machine.execBlackboxFlushDone s
  | .blackboxSlotErase => Sys2Proof.Machine.execBlackboxSlotErase s
  | .stackOut session stack => Sys2Proof.Machine.execStackOut session stack s
  | .lifeCycleToProvisioned session => Sys2Proof.Machine.execLifeCycleToProvisioned session s
  | .lifeCycleToDeployed session => Sys2Proof.Machine.execLifeCycleToDeployed session s
  | .lifeCycleToService session => Sys2Proof.Machine.execLifeCycleToService session s
  | .lifeCycleToDecommissioned session => Sys2Proof.Machine.execLifeCycleToDecommissioned session s
  | .wipeDone => Sys2Proof.Machine.execWipeDone s
  | .zoneResetCmd session zone => Sys2Proof.Machine.execZoneResetCmd session zone s
  | .baseZoneReset zone trigger => Sys2Proof.Machine.execBaseZoneReset zone trigger s
  | .zoneResetDrainDone zone => Sys2Proof.Machine.execZoneResetDrainDone zone s
  | .leaseRenew unit => Sys2Proof.Machine.execLeaseRenew unit s
  | .renewReceive unit => Sys2Proof.Machine.execRenewReceive unit s
  | .leaseStandDown unit => Sys2Proof.Machine.execLeaseStandDown unit s
  | .leaseExpiry => Sys2Proof.Machine.execLeaseExpiry s
  | .leaseGrant => Sys2Proof.Machine.execLeaseGrant s
  | .firstLeaseTimeout => Sys2Proof.Machine.execFirstLeaseTimeout s
  | .leaseRelease unit cause => Sys2Proof.Machine.execLeaseRelease unit cause s
  | .leaseRevoke cause => Sys2Proof.Machine.execLeaseRevoke cause s
  | .cuOutputReceive unit epoch receiver kind content logs => Sys2Proof.Machine.execCuOutputReceive unit epoch receiver kind content logs s
  | .compareWindowEnd window => Sys2Proof.Machine.execCompareWindowEnd window s
  | .selfCheckOutcome a b => Sys2Proof.Machine.execSelfCheckOutcome a b s
  | .resyncStart unit => Sys2Proof.Machine.execResyncStart unit s
  | .resyncDone unit => Sys2Proof.Machine.execResyncDone unit s
  | .unitRomStart unit newerOk olderOk namedOk otherOk selfTest => Sys2Proof.Machine.execUnitRomStart unit newerOk olderOk namedOk otherOk selfTest s
  | .procCrash unit proc cause pc => Sys2Proof.Machine.execProcCrash unit proc cause pc s
  | .procWatchdogExpiry unit proc pc => Sys2Proof.Machine.execProcWatchdogExpiry unit proc pc s
  | .procRestartDone unit proc contextOk => Sys2Proof.Machine.execProcRestartDone unit proc contextOk s
  | .updateHandoverStart => Sys2Proof.Machine.execUpdateHandoverStart s
  | .updateCommit => Sys2Proof.Machine.execUpdateCommit s
  | .handoverTimeout => Sys2Proof.Machine.execHandoverTimeout s
  | .cuMailboxService box logs => Sys2Proof.Machine.execCuMailboxService box logs s
  | .stackFailureDetect stack witness => Sys2Proof.Machine.execStackFailureDetect stack witness s
  | .siteLivenessWrite site => Sys2Proof.Machine.execSiteLivenessWrite site s
  | .siteSilent site => Sys2Proof.Machine.execSiteSilent site s
  | .promotionStageDone stack pass bad furrows => Sys2Proof.Machine.execPromotionStageDone stack pass bad furrows s
  | .replicaResume replica => Sys2Proof.Machine.execReplicaResume replica s
  | .suspendedStreamTimeout replica => Sys2Proof.Machine.execSuspendedStreamTimeout replica s
  | .stackRetest site usable => Sys2Proof.Machine.execStackRetest site usable s
  | .panelLost => Sys2Proof.Machine.execPanelLost s
  | .panelFenced => Sys2Proof.Machine.execPanelFenced s
  | .adoption panel mirrored => Sys2Proof.Machine.execAdoption panel mirrored s
  | .remirrorDone streams bytes => Sys2Proof.Machine.execRemirrorDone streams bytes s
  | .levyMeterPeriod use slots => Sys2Proof.Machine.execLevyMeterPeriod use slots s
  | .coldStart => Sys2Proof.Machine.execColdStart s
  | .startupStageEnd ok failed badTiles furrows paths => Sys2Proof.Machine.execStartupStageEnd ok failed badTiles furrows paths s
  | .tapInstruction ir => Sys2Proof.Machine.execTapInstruction ir s
  | .planLoadDone => Sys2Proof.Machine.execPlanLoadDone s
  | .overlapExpiry => Sys2Proof.Machine.execOverlapExpiry s
  | .alwaysOnFeedRemoved => Sys2Proof.Machine.execAlwaysOnFeedRemoved s
  | .holdUpExhausted => Sys2Proof.Machine.execHoldUpExhausted s
  | .holdUpStoreCharged => Sys2Proof.Machine.execHoldUpStoreCharged s
  | .replicaMarginLow site tile path margin => Sys2Proof.Machine.execReplicaMarginLow site tile path margin s
  | .tapReset => Sys2Proof.Machine.execTapReset s

end Sys2Proof.Machine
end

