-- ==== Sys2Proof/Machine/Package.lean ====
section
/-!
DEFINITION. The package (chapter 17): the contacts of the management connector, what their levels mean, the fibre shoes and their lanes, and
the limits that the panel's user must keep. Positions are in mm, voltages in mV, temperatures in tenths of a degree.
-/

namespace Sys2Proof.Machine

/-! ### Outline and power entry (R403, R404, R406) -/

/-- The module outline and its mounting screws (Table 17.1), in mm; the masses in g. -/
def outline : Nat × Nat × Nat := (250, 250, 42)
def massDrained : Nat := 7400
def massFilled : Nat := 7600
def screws : List (Nat × Nat) := [(6, 6), (244, 6), (6, 244), (244, 244)]

/-- The span of a base field in tenths of a mm: its west and north edge, then its east and south edge (R403: the base lies centred in the outline,
8 fields of 26 mm by 7 of 33 mm). -/
def fieldSpan (f : Nat) : (Nat × Nat) × (Nat × Nat) :=
  ((210 + 260 * (f / 7), 95 + 330 * (f % 7)), (210 + 260 * (f / 7 + 1), 95 + 330 * (f % 7 + 1)))

/-- The couplings (R404), the power blades (Table 17.3) and the management connector (R408). -/
def couplings : List (Nat × Nat) := [(105, 125), (145, 125)]
def blades : List (Nat × Nat) := [(95, 250), (125, 250)]
def mgmtConnector : Nat × Nat := (165, 250)

/-- A blade carries a current in mA within its rating at a blade temperature in tenths of a degree (Table 17.3), and the panel's own input limit
(R290). -/
def bladeOk (ma temp : Nat) : Bool := decide (ma ≤ 450000) && decide (temp ≤ 450)
def inputOk (mv ma : Nat) : Bool := decide (40000 ≤ mv) && decide (mv ≤ 59500) && decide (ma ≤ 412500) && decide (mv * ma ≤ 16500 * 1000000)

/-! ### The management connector (R408 to R410, R413) -/

/-- What a contact of the management connector carries (Table 17.5). -/
inductive Contact
  | aon12v | aonRtn | gnd | t1sP | t1sN | pgN | alertN | tripN | wakeN | stbyEn
  | slotId (bit : Nat)
  | tck | tms | tdi | tdo | trstN
  | reserved | chassis
deriving DecidableEq, Repr

/-- The contact map: M01 to M48. -/
def contactOf (m : Nat) : Option Contact :=
  if m = 0 ∨ 48 < m then none
  else if m ≤ 4 then some .aon12v
  else if m ≤ 8 then some .aonRtn
  else if m = 9 ∨ m = 12 ∨ m = 18 ∨ m = 24 ∨ m = 30 then some .gnd
  else if m ≤ 17 then [Contact.t1sP, .t1sN, .gnd, .pgN, .alertN, .tripN, .wakeN, .stbyEn][m - 10]?
  else if m ≤ 23 then some (.slotId (m - 19))
  else if m ≤ 29 then [Contact.tck, .tms, .tdi, .tdo, .trstN][m - 25]?
  else if m ≤ 46 then some .reserved
  else some .chassis

/-- The mating level of a contact (Table 17.4); the blades are not contacts of this map. -/
def matingLevel : Contact → Nat
  | .chassis => 1
  | .aon12v | .aonRtn => 3
  | _ => 4

/-- How an input contact reads (R409): an open one is pulled up; between the thresholds nothing is stated. -/
def readsHigh (level : Option Nat) : Option Bool :=
  match level with
  | none => some true
  | some mv => if 2000 ≤ mv then some true else if mv ≤ 800 then some false else none

/-- The 10BASE-T1S node ID (R413). -/
def State.plcaNode (s : State) : Nat := s.pins.slotId + 1

/-- The management port is silent in standby, while tripped and before start-up stage 4 (R413). -/
def State.t1sSilent (s : State) : Bool := s.power.stby || s.power.tripped || decide (s.startup.stage < 4)

/-- The user may remove the panel (R407): PG_N is released and the panel is in standby or tripped. -/
def State.mayRemove (s : State) : Bool := !s.pins.pgN && (s.power.stby || s.power.tripped)

/-! ### Fibre shoes (R415, R416) -/

/-- The I/O die of a shoe. -/
def iodOfShoe (shoe : Nat) : Nat := shoe / 2

/-- The centre of a shoe (Table 17.6). -/
def shoeCentre (shoe : Nat) : Nat × Nat :=
  ((if shoe / 4 = 0 then 28 else 210) + (if shoe % 2 = 0 then 0 else 12), if iodOfShoe shoe % 2 = 0 then 26 else 224)

/-- The lane of its I/O die that a position of a shoe carries, and whether it transmits; none for the dark reserve fibres (Table 17.7). -/
def fibreOf (shoe position : Nat) : Option (Nat × Bool) :=
  let k := if position ≤ 16 then position else position - 16
  if position = 0 ∨ 32 < position ∨ 14 < k then none
  else some ((if k ≤ 12 then 12 * (shoe % 2) + k - 1 else 24 + 2 * (shoe % 2) + k - 13), decide (position ≤ 16))

/-- The opposite torus direction: X+ 0, X− 1, Y+ 2, Y− 3, Z+ 4, Z− 5. -/
def oppositeDir (d : Nat) : Nat := if d % 2 = 0 then d + 1 else d - 1

/-- The lane of the neighbour at which a torus cable ends (R416): lane 4d + j meets lane 4d′ + j. -/
def cableLane (lane : Nat) : Nat := 4 * oppositeDir (lane / 4) + lane % 4

/-- The commons lanes of an I/O die in the order of an 800GBASE-DR4 harness (R416). -/
def dr4Lanes : List Nat := [24, 25, 26, 27]

/-! ### Coolant and ratings (R404, R405, R417, R418) -/

/-- The coolant as operation needs it (Table 17.2): flow in hundredths of L/min, inlet and dew point in tenths of a degree, inlet pressure in
kPa gauge. -/
def coolantOk (flow inlet dewPoint pressure : Nat) : Bool :=
  decide (1200 ≤ flow) && decide (flow ≤ 2000) && decide (200 ≤ inlet) && decide (inlet ≤ 450) && decide (dewPoint + 20 ≤ inlet) && decide (pressure ≤ 500)

/-- The input power in mW that keeps the outlet at 70 °C at a flow in hundredths of L/min and an inlet in tenths of a degree (R405). -/
def powerLimit (flow inlet : Nat) : Nat := 663 * flow * (700 - inlet) / 10

/-- Within the absolute maximum ratings (Table 17.8): the blades, the always-on feed, a logic contact and the 10BASE-T1S pair; the coolant inlet
(temperature, and pressure in kPa gauge); and the average optical input of a receive fibre in tenths of a dBm. -/
def withinRatings (blades feed logic t1s : Int) (inlet pressure : Nat) (optical : Int) : Bool :=
  decide (-60000 ≤ blades) && decide (blades ≤ 65000) && decide (-13200 ≤ feed) && decide (feed ≤ 15000) && decide (-300 ≤ logic) && decide (logic ≤ 3600) &&
    decide (-5000 ≤ t1s) && decide (t1s ≤ 5000) && decide (inlet ≤ 550) && decide (pressure ≤ 600) && decide (optical ≤ 50)

/-- The operating conditions of the supplies and the air (Table 17.9): operation is defined only within them. -/
def operating (blades feed air : Nat) : Bool :=
  decide (40000 ≤ blades) && decide (blades ≤ 59500) && decide (10800 ≤ feed) && decide (feed ≤ 13200) && decide (100 ≤ air) && decide (air ≤ 400)

end Sys2Proof.Machine
end

