-- ==== Sys2Proof/Safety.lean ====
section
/-!
DEFINITION. What claims speak of: runs that are safe, the parts of the state that a command leaves alone, and the conditions under which a
tile's step issues.
-/

namespace Sys2Proof.Machine

/-- What every reachable state keeps: the memory's canonical form. -/
def Good (s : State) : Prop := s.mem.wf

/-- A run of `k` steps that stays good and never stops. -/
def SafeRun : Nat → State → Prop
  | 0, s => Good s
  | k + 1, s => Good s ∧ ∃ t, step s = .next t ∧ SafeRun k t

/-! ### Parts of the state -/

/-- The parts of the state, one for each field. -/
inductive Part
  | pending | time | freeCount | objs | wrote | shadow | commits | cmds | kept | sessions | badProofs | lockouts | log
  | out | mem | poison | tiles | sites | cols | layers | gates | markets | aCond | withdrawing | pathOk | stations | fields
  | lasers | light | carryWanted | cal | calEv | heaters | unlocked | suspended | lanes | links | iods | movers | boxes
  | checks | streams | waves | posts | plan | power | heat | keeper | units | update | compare | recovery | startup | store
  | ptp | pins | ramps | splits | urgent | shaken | calAt | ringBase | clockLost | pma
deriving DecidableEq, Repr

/-- A part reads the same in both states. -/
def Part.same (s t : State) : Part → Prop
  | .pending => t.pending = s.pending
  | .time => t.time = s.time
  | .freeCount => t.freeCount = s.freeCount
  | .objs => t.objs = s.objs
  | .wrote => t.wrote = s.wrote
  | .shadow => t.shadow = s.shadow
  | .commits => t.commits = s.commits
  | .cmds => t.cmds = s.cmds
  | .kept => t.kept = s.kept
  | .sessions => t.sessions = s.sessions
  | .badProofs => t.badProofs = s.badProofs
  | .lockouts => t.lockouts = s.lockouts
  | .log => t.log = s.log
  | .out => t.out = s.out
  | .mem => t.mem = s.mem
  | .poison => t.poison = s.poison
  | .tiles => t.tiles = s.tiles
  | .sites => t.sites = s.sites
  | .cols => t.cols = s.cols
  | .layers => t.layers = s.layers
  | .gates => t.gates = s.gates
  | .markets => t.markets = s.markets
  | .aCond => t.aCond = s.aCond
  | .withdrawing => t.withdrawing = s.withdrawing
  | .pathOk => t.pathOk = s.pathOk
  | .stations => t.stations = s.stations
  | .fields => t.fields = s.fields
  | .lasers => t.lasers = s.lasers
  | .light => t.light = s.light
  | .carryWanted => t.carryWanted = s.carryWanted
  | .cal => t.cal = s.cal
  | .calEv => t.calEv = s.calEv
  | .heaters => t.heaters = s.heaters
  | .unlocked => t.unlocked = s.unlocked
  | .suspended => t.suspended = s.suspended
  | .lanes => t.lanes = s.lanes
  | .links => t.links = s.links
  | .iods => t.iods = s.iods
  | .movers => t.movers = s.movers
  | .boxes => t.boxes = s.boxes
  | .checks => t.checks = s.checks
  | .streams => t.streams = s.streams
  | .waves => t.waves = s.waves
  | .posts => t.posts = s.posts
  | .plan => t.plan = s.plan
  | .power => t.power = s.power
  | .heat => t.heat = s.heat
  | .keeper => t.keeper = s.keeper
  | .units => t.units = s.units
  | .update => t.update = s.update
  | .compare => t.compare = s.compare
  | .recovery => t.recovery = s.recovery
  | .startup => t.startup = s.startup
  | .store => t.store = s.store
  | .ptp => t.ptp = s.ptp
  | .pins => t.pins = s.pins
  | .ramps => t.ramps = s.ramps
  | .splits => t.splits = s.splits
  | .urgent => t.urgent = s.urgent
  | .shaken => t.shaken = s.shaken
  | .calAt => t.calAt = s.calAt
  | .ringBase => t.ringBase = s.ringBase
  | .clockLost => t.clockLost = s.clockLost
  | .pma => t.pma = s.pma

/-- Every part but the listed ones is unchanged. -/
def unchangedBut (l : List Part) (s t : State) : Prop := ∀ p, p ∉ l → p.same s t

/-- Every element of every ledger object but the listed objects is unchanged. -/
def objsBut (l : List Obj) (s t : State) : Prop := ∀ o i, o ∉ l → t.obj o i = s.obj o i

/-- Every byte of memory and every mark outside a run of bytes is unchanged. -/
def bytesOutside (lo hi : Nat) (s t : State) : Prop :=
  ∀ a, a < lo ∨ hi ≤ a → memByte t.mem a = memByte s.mem a

/-- Every byte and every mark of memory is unchanged. -/
def sameMemory (s t : State) : Prop := (∀ a, memByte t.mem a = memByte s.mem a) ∧ t.poison = s.poison

/-- Every tile but one is unchanged. -/
def tilesBut (site tl : Nat) (s t : State) : Prop := ∀ a b, (a, b) ≠ (site, tl) → t.tile a b = s.tile a b

/-! ### Steps that issue (R49) -/

/-- Nothing keeps a step of class `cls` and op `op` from issuing at a tile (R49): the tile runs and is not trapped, stopped or blocked, its
core clock runs, the word is of this class and op, its gap has passed, its list is in the step buffer, and neither a trap of Table 3.13 nor a
cause of Table 3.17 applies. -/
def State.canIssue (s : State) (site tl cls op : Nat) (w : StepWord) (sh : Shape) : Bool :=
  let t := s.tile site tl
  t.running && !t.trapped && !t.stopped && t.block.isNone && !(s.site site).gated &&
  assigned cls op && stepClass w == cls && stepOp w == op &&
  (!t.issued || decide (t.lastIssue + max 1 (stepGap w) ≤ (s.site site).cycles)) &&
  (decide (t.pc / 2048 ≤ t.half) || decide (t.pc / 2048 < 2) || t.halfReady) &&
  (issueTrap w sh).isNone && (s.stallCause site tl t sh).isNone && (t.stateTrap sh).isNone

end Sys2Proof.Machine
end

