-- ==== Sys2Proof/Certificates/Slice0/Obligations.lean ====
section
/-!
DEFINITION. The statements for the provers. Each docstring says what its statement claims.
-/

open Sys2Proof Sys2Proof.Machine

/-- With a command at the front of the queue, step is exec of that command on the state with the queue's rest. With no command waiting the
panel idles (the model's choice, log 6). -/
def Obligations.StepRunsFrontCommand : Prop :=
  (∀ (s : State) (c : Instr) (rest : List Instr), s.pending = c :: rest → step s = exec c { s with pending := rest }) ∧
  (∀ s : State, s.pending = [] → step s = .next s)

/-- Whatever command stands at the front of the queue, and whatever its operands and the state, if the memory of tile stores, vaults, field
caches and landing buffers is in canonical form (addresses strictly rising, no entry equal to what an unlisted byte reads) and the step
answers a next state, the next state's memory is in canonical form. -/
def Obligations.StepKeepsMemoryCanonical : Prop :=
  ∀ s t : State, s.mem.wf → step s = .next t → t.mem.wf

/-- The state after reset has memory in canonical form: no byte is listed. -/
def Obligations.ResetMemoryCanonical : Prop := State.reset.mem.wf

/-- In canonical memory, a 32-B unit written at a byte address reads back with its data and its mark; every byte outside the 32 written
reads as before, and the mark of every other unit stands (R3, R44). Where the spec leaves it open, the model's choices are those of log 4. -/
def Obligations.UnitReadsBack : Prop :=
  ∀ (s : State) (a : Nat) (u : Cell32), s.mem.wf →
    (s.putUnit a u).unitAt a = u ∧ bytesOutside a (a + 32) s (s.putUnit a u) ∧
    (∀ b, b ≠ a → mapGet false (s.putUnit a u).poison b = mapGet false s.poison b) ∧
    unchangedBut [.mem, .poison] s (s.putUnit a u)

/-- Where nothing keeps a step from issuing (canIssue), its effect takes place in the state that issuing leaves. In that state the tile has
issued in this cycle and stands at the step that LOOP nesting gives; its scoreboard holds the step's entry; its bucket has lost the
step's beats; the queues, tags and blocks are as before; S.0302 counts the cycles waited; nothing but the tile, S.0302, S.0405, W.0014, the trace
and the log changes. Where the spec leaves it open, the model's choices are those of log 14, 15. -/
def Obligations.IssueMovesTheTileOn : Prop :=
  ∀ (s : State) (site tl cls op : Nat) (w : StepWord) (sh : Shape) (next : Nat) (eff : State → State),
    let T := s.tile site tl
    let b := s.issued site tl cls op w sh next
    let B := b.tile site tl
    (s.canIssue site tl cls op w sh = true → s.issue site tl cls op w sh next eff = eff b) ∧
    B.issued = true ∧ B.lastIssue = (s.site site).cycles ∧ B.pc = (loopEnd T.loops next T.ix).2.1 ∧
    B.loops = (loopEnd T.loops next T.ix).1 ∧ B.ix = (loopEnd T.loops next T.ix).2.2 ∧
    B.sb = T.sb ++ (match sh.entry with | some o => [SbEntry.mk o sh.reads sh.writes] | none => []) ∧
    B.bucket = T.bucket - sh.beats ∧ B.mq = T.mq ∧ B.vq = T.vq ∧ B.fq = T.fq ∧ B.tags = T.tags ∧ B.async = T.async ∧
    B.block = T.block ∧ B.banks = T.banks ∧ B.wp = T.wp ∧ B.rng = T.rng ∧ B.trapped = T.trapped ∧ B.traps = T.traps ∧
    b.obj .S0302 site = s.obj .S0302 site + T.waited w (s.site site).cycles ∧
    tilesBut site tl s b ∧ unchangedBut [.tiles, .objs, .log] s b ∧ objsBut [.S0302, .S0405, .W0014] s b

/-- Where nothing holds the step: NOP does nothing beyond issuing. A LOOP whose count is not 0 opens its body with one iteration fewer left; with a
count of 0 it goes on behind its body. SETIX sets its register's value and stride. BANKPWR asks each bank it names for its state and
leaves the others. MARK, at a site enabled in W.0012 whose last record is at least 1 µs old, leaves a record with its identifier. Each
leaves memory and every other tile as they were. -/
def Obligations.ControlStepsComplete : Prop :=
  (∀ (s : State) (site tile : Nat) (w : StepWord), s.canIssue site tile 1 0 w {} = true →
    exec (.nop site tile w) s = .next (s.issued site tile 1 0 w {} ((s.tile site tile).pc + 1))) ∧
  (∀ (s : State) (site tile : Nat) (w : StepWord), s.canIssue site tile 1 2 w (loopShape (s.tile site tile) w) = true →
    let T := s.tile site tile
    let n := loopCount T w
    let b := s.issued site tile 1 2 w (loopShape T w) (if n = 0 then T.pc + 1 + fld w 39 12 else T.pc + 1)
    ∃ t : State, exec (.loop site tile w) s = .next t ∧ tilesBut site tile s t ∧ unchangedBut [.tiles] b t ∧
      (n = 0 → t = b) ∧ (n ≠ 0 → t.tile site tile = { b.tile site tile with
        loops := LoopFrame.mk (T.pc + 1) (T.pc + 1 + fld w 39 12) (n - 1) (fld w 51 7) :: (b.tile site tile).loops })) ∧
  (∀ (s : State) (site tile : Nat) (w : StepWord), s.canIssue site tile 1 3 w (setixShape w) = true →
    let b := s.issued site tile 1 3 w (setixShape w) ((s.tile site tile).pc + 1)
    ∃ t : State, exec (.setix site tile w) s = .next t ∧ tilesBut site tile s t ∧ unchangedBut [.tiles] b t ∧
      (t.tile site tile).ixReg (fld w 18 3) = IxReg.mk (fld w 21 17) (w.extractLsb' 38 18).toInt ∧
      (∀ k, k ≠ fld w 18 3 → (t.tile site tile).ixReg k = (b.tile site tile).ixReg k)) ∧
  (∀ (s : State) (site tile : Nat) (w : StepWord), s.canIssue site tile 1 4 w (bankpwrShape w) = true →
    let T := s.tile site tile
    ∃ t : State, exec (.bankpwr site tile w) s = .next t ∧ tilesBut site tile s t ∧ unchangedBut [.tiles, .objs, .log] s t ∧
      ∀ k, (t.tile site tile).bank k = if k < 32 ∧ bitGet (fld w 18 32) k = true then
        (T.bank k).request (bankOf (fld w 50 2)) (T.holdsBank k) s.time else T.bank k) ∧
  (∀ (s : State) (site tile : Nat) (w : StepWord), s.canIssue site tile 1 6 w {} = true → bitGet (s.obj .W0012 0) site = true →
    (∀ p ∈ s.log.traceAt, p.1 = site → p.2 + 1000 ≤ s.time) →
    ∃ t : State, exec (.mark site tile w) s = .next t ∧ unchangedBut [.tiles, .objs, .log] s t ∧
      t.log.trace.head? = some [s.time, (s.tile site tile).wave, (s.tile site tile).pc, (s.stackOf site).getD 0, tile, 1, fld w 18 16])

/-- Where nothing holds the step: a WAIT with a busy tag in its mask blocks issue, and with none busy and none failed it retires its tags and
does not block. A FENCE blocks unless every unit and tag is idle. A TRAP traps with DELIBERATE (0x10), its detail, and the index, wave and time of
its issue, and S.0300 counts it. An END with no wave waiting at the tile stops it, clears its queues, scoreboard, landing buffers, loops and receive,
and ends its busy tags with ABORTED. -/
def Obligations.BlockingStepsComplete : Prop :=
  (∀ (s : State) (site tile : Nat) (w : StepWord), s.canIssue site tile 1 1 w {} = true →
    ∃ t : State, exec (.wait site tile w) s = .next t ∧ tilesBut site tile s t ∧ sameMemory s t ∧
      ((s.tile site tile).tagsDone (fld w 18 32) = false → (t.tile site tile).block = some (.wait (fld w 18 32))) ∧
      ((s.tile site tile).tagsDone (fld w 18 32) = true → (s.tile site tile).tagFailed (fld w 18 32) = none →
        (t.tile site tile).block = none ∧ (t.tile site tile).trapped = false ∧
        (t.tile site tile).tags = ((s.tile site tile).retire (fld w 18 32)).tags)) ∧
  (∀ (s : State) (site tile : Nat) (w : StepWord), s.canIssue site tile 1 5 w {} = true →
    ∃ t : State, exec (.fence site tile w) s = .next t ∧ tilesBut site tile s t ∧ sameMemory s t ∧
      (t.tile site tile).block = if (s.tile site tile).allIdle then none else some .fence) ∧
  (∀ (s : State) (site tile : Nat) (w : StepWord), s.canIssue site tile 1 7 w {} = true →
    ∃ (t : State) (r : TrapRec), exec (.trap site tile w) s = .next t ∧ tilesBut site tile s t ∧ sameMemory s t ∧
      (t.tile site tile).trapped = true ∧ (t.tile site tile).traps = (s.tile site tile).traps ++ [r] ∧
      r.code = 0x10 ∧ r.detailA = fld w 18 8 ∧ r.cls = 1 ∧ r.op = 7 ∧ r.tile = tile ∧ r.index = (s.tile site tile).pc ∧
      r.wave = (s.tile site tile).wave ∧ r.time = s.time ∧ t.obj .S0300 site = s.obj .S0300 site + 1) ∧
  (∀ (s : State) (site tile : Nat) (w : StepWord), s.canIssue site tile 1 8 w {} = true → (s.tile site tile).waiting = [] →
    ∃ t : State, exec (.endStep site tile w) s = .next t ∧ tilesBut site tile s t ∧ sameMemory s t ∧
      (t.tile site tile).running = false ∧ (t.tile site tile).ended = (s.tile site tile).ended ++ [(s.tile site tile).wave] ∧
      (t.tile site tile).sb = [] ∧ (t.tile site tile).mq = [] ∧ (t.tile site tile).vq = [] ∧ (t.tile site tile).fq = [] ∧
      (t.tile site tile).bulk = [] ∧ (t.tile site tile).prio = [] ∧ (t.tile site tile).recv = none ∧ (t.tile site tile).loops = [] ∧
      (∀ k, (t.tile site tile).tagSt k = if (s.tile site tile).tagSt k = .busy then .done .aborted else (s.tile site tile).tagSt k))

/-- Where nothing holds the step, a matrix step (dense or bin) joins the matrix unit's queue and a vector step (of ops 0 to 5) the vector unit's,
last, with its word, the effective addresses of its operands and its index; everything else is as issuing leaves it. -/
def Obligations.UnitStepsComplete : Prop :=
  ∀ (s : State) (site tile : Nat) (w : StepWord),
    let T := s.tile site tile
    let c := (s.site site).cycles
    let joinsM (sh : Shape) (op : Nat) (ea : List Nat) (o : Out) : Prop := s.canIssue site tile 2 op w sh = true →
      ∃ t : State, o = .next t ∧ t.tile site tile = { (s.issued site tile 2 op w sh (T.pc + 1)).tile site tile with mq := T.mq ++ [Job.mk w ea c T.pc] } ∧
        unchangedBut [.tiles] (s.issued site tile 2 op w sh (T.pc + 1)) t ∧ tilesBut site tile s t
    let joinsV (bad : Option (Nat × Nat)) (op : Nat) (o : Out) : Prop := s.canIssue site tile 3 op w (vecShape T w bad) = true →
      ∃ t : State, o = .next t ∧ t.tile site tile = { (s.issued site tile 3 op w (vecShape T w bad) (T.pc + 1)).tile site tile with
          vq := T.vq ++ [Job.mk w [T.ea w 18, T.ea w 38, T.ea w 58, T.ea w 78] c T.pc] } ∧
        unchangedBut [.tiles] (s.issued site tile 3 op w (vecShape T w bad) (T.pc + 1)) t ∧ tilesBut site tile s t
    joinsM (denseShape T w) 0 [T.ea w 18, T.ea w 38, T.ea w 58] (exec (.matrixDense site tile w) s) ∧
    joinsM (binShape T w) 1 [T.ea w 18, T.ea w 38, T.ea w 58, T.ea w 78] (exec (.matrixBin site tile w) s) ∧
    joinsV none 0 (exec (.vectorArithmetic site tile w) s) ∧ joinsV none 1 (exec (.vectorFunction site tile w) s) ∧
    joinsV none 2 (exec (.vectorReduce site tile w) s) ∧ joinsV none 3 (exec (.softmaxHelper site tile w) s) ∧
    joinsV (if vecL w % 2 = 1 then some (trStepField, 98) else none) 4 (exec (.rotary site tile w) s) ∧
    joinsV (cvtBad w) 5 (exec (.convert site tile w) s)

/-- Once the cycles of the step at the head of the matrix (or vector) queue and its bank conflicts have passed: it writes its result from C (or
D) and leaves the queue, and the next step starts no earlier than that. Units that ECC finds uncorrectable are marked and read so. A bin step that
meets malformed weight data or a sleeping bank traps and writes nothing; one that meets a waking bank waits. Memory outside the result's units is as
before, and so is every other tile. Where the spec leaves it open, the model's choices are those of log 2, 10, 11, 12. -/
def Obligations.UnitStepsWriteTheirResults : Prop :=
  (∀ (s : State) (site tile conflicts : Nat) (ecc : Ecc) (j : Job) (q : List Job), s.mem.wf → (s.tile site tile).mq = j :: q →
    j.start + matrixCycles j.word + conflicts ≤ (s.site site).cycles →
    let u := s.storeEcc site tile j.matrixRead ecc
    let stop := if stepOp j.word = 1 then u.binStop site tile (s.tile site tile) j else none
    let res := packUnits 4 (u.matrixResult site tile (s.tile site tile) j) (fun _ => 0)
    let a := storeAddr site tile (j.ea.getD 2 0)
    (stop = some .waits → exec (.matrixStepDone site tile conflicts ecc) s = .next s) ∧
    (stop ≠ some .waits → ∃ t : State, exec (.matrixStepDone site tile conflicts ecc) s = .next t ∧ tilesBut site tile s t ∧
      (t.tile site tile).mq.length = q.length ∧
      (∀ k, (t.tile site tile).mq.head? = some k → j.start + matrixCycles j.word + conflicts ≤ k.start) ∧
      (stop = none → sameMemory (u.putUnits a res) t ∧ bytesOutside a (a + 32 * res.length) s t) ∧
      (stop ≠ none → (t.tile site tile).trapped = true ∧ sameMemory u t) ∧ unchangedBut [.tiles, .objs, .sites, .mem, .poison] s t)) ∧
  (∀ (s : State) (site tile conflicts : Nat) (ecc : Ecc) (j : Job) (q : List Job), s.mem.wf → (s.tile site tile).vq = j :: q →
    j.start + vecCycles j.word + conflicts ≤ (s.site site).cycles →
    let u := s.storeEcc site tile (inRegions j.vecReads) ecc
    let res := u.vecResult site tile (s.tile site tile) j
    let a := storeAddr site tile (j.ea.getD 3 0)
    ∃ t : State, exec (.vectorStepDone site tile conflicts ecc) s = .next t ∧ tilesBut site tile s t ∧
      (t.tile site tile).vq.length = q.length ∧
      (∀ k, (t.tile site tile).vq.head? = some k → j.start + vecCycles j.word + conflicts ≤ k.start) ∧
      (t.tile site tile).rng = (if stepOp j.word = 5 then (cvtRnds (s.tile site tile) j.word).2 else (s.tile site tile).rng) ∧
      sameMemory (u.putUnits a res) t ∧ bytesOutside a (a + 32 * res.length) s t ∧
      t.freeCount = s.freeCount + 1 ∧ unchangedBut [.tiles, .objs, .sites, .mem, .poison, .freeCount] s t)

/-- A tile that does not run, is trapped, stopped or blocked, whose core clock is gated or whose step's gap has not passed does nothing. Where the
gap has passed and the list is in the buffer, a breach of the step's fields, regions or codes traps with the code and detail A of Table 3.13; a cause of
Table 3.17 makes the tile wait with that cause and leaves its pc, scoreboard, queues and tags; a busy tag or a sleeping bank traps. Where the spec leaves it open, the model's choices are those of log 13, 14, 15, 16. -/
def Obligations.StepsThatDoNotIssue : Prop :=
  ∀ (s : State) (site tl cls op : Nat) (w : StepWord) (sh : Shape) (next : Nat) (eff : State → State),
    let T := s.tile site tl
    let ready : Prop := T.running = true ∧ T.trapped = false ∧ T.stopped = false ∧ T.block = none ∧ (s.site site).gated = false ∧
      stepClass w = cls ∧ stepOp w = op ∧ (T.issued = true → T.lastIssue + max 1 (stepGap w) ≤ (s.site site).cycles) ∧
      (T.pc / 2048 ≤ T.half ∨ T.pc / 2048 < 2 ∨ T.halfReady = true)
    ((T.running = false ∨ T.trapped = true ∨ T.stopped = true ∨ T.block ≠ none ∨ (s.site site).gated = true) →
      s.issue site tl cls op w sh next eff = s) ∧
    (∀ c d, ready → issueTrap w sh = some (c, d) →
      s.issue site tl cls op w sh next eff = (s.countWait site tl (max 1 (stepGap w))).trapTile site tl c d cls op T.pc) ∧
    (∀ c, ready → issueTrap w sh = none → s.stallCause site tl T sh = some c →
      ∃ v : IssueWait, (s.issue site tl cls op w sh next eff).tile site tl = { T with wait := some v } ∧ v.cause = c ∧
        tilesBut site tl s (s.issue site tl cls op w sh next eff) ∧ unchangedBut [.tiles, .objs] s (s.issue site tl cls op w sh next eff) ∧
        objsBut [.S0405] s (s.issue site tl cls op w sh next eff)) ∧
    (∀ c d, ready → issueTrap w sh = none → s.stallCause site tl T sh = none → T.stateTrap sh = some (c, d) →
      s.issue site tl cls op w sh next eff = (s.countWait site tl (max 1 (stepGap w))).trapTile site tl c d cls op T.pc)

/-- A trap marks its tile trapped, keeps the record of Table 3.14 last among the records it has to send (code, class, op, index, wave, time, detail A
and cycles since its wave's first issue), and adds 1 to S.0300. S.0301 takes the record when the tile's wave is the first, or a later one, in which the die
trapped. A wait that the trap ends is counted in S.0302 and S.0405. No other tile, no byte of memory and no other object changes. Where the spec
leaves the record open, the model's choices are those of log 19. -/
def Obligations.TrapRecords : Prop :=
  ∀ (s : State) (site tl code d cls op i : Nat),
    let T := s.tile site tl
    let r : TrapRec := { code := code, cls := cls, op := op, tile := tl, stack := (s.stackOf site).getD 0, index := i, wave := T.wave
                         time := s.time, detailA := d % 2 ^ 32, cycles := if T.issued then (s.site site).cycles - T.firstCycle else 0 }
    let t := s.trapTile site tl code d cls op i
    t.tile site tl = { T with
      trapped := true, wait := none, blockEnd := 0, traps := T.traps ++ [r]
      recWait := if T.bucket = 0 then T.recWait.or (some (s.site site).cycles) else T.recWait } ∧
    t.obj .S0300 site = s.obj .S0300 site + 1 ∧ t.obj .S0302 site = s.obj .S0302 site + T.waitedGap 1 (s.site site).cycles ∧
    (((s.site site).trapWave = none ∨ (∃ v : Nat, (s.site site).trapWave = some v ∧ waveAfter T.wave v = true)) →
      t.obj .S0301 site = r.num ∧ (t.site site).trapWave = some T.wave) ∧
    ((∃ v : Nat, (s.site site).trapWave = some v ∧ waveAfter T.wave v = false) →
      t.obj .S0301 site = s.obj .S0301 site ∧ (t.site site).trapWave = (s.site site).trapWave) ∧
    tilesBut site tl s t ∧ objsBut [.S0300, .S0301, .S0302, .S0405] s t ∧ unchangedBut [.tiles, .objs, .sites] s t

/-- Where nothing holds the step: a load or a store opens its tag for the transfer it names. A BID opens its tag and joins the queue of its headgate with
its class. A SEND stages its payload, read from its region, as the next slot of its open BID. A MERGE_OPEN opens its tag and asks the site's station. A
SIEVE_SELECT opens its tag and joins the die's sieve. A TALLY_POST puts a post with W[15:0] of its wave on the way, and toward another port a bid of class
A at its headgate. Other tiles and memory stay as they were. Where the spec leaves it open, the model's choices are those of log 16, 89. -/
def Obligations.TransferStepsComplete : Prop :=
  ∀ (s : State) (site tile : Nat) (w : StepWord),
    let T := s.tile site tile
    let opens (tag : Nat) (a : AsyncOp) (t : State) : Prop :=
      (t.tile site tile).tagSt tag = .busy ∧ (t.tile site tile).async = mapDel T.async tag ++ [(tag, a)] ∧ tilesBut site tile s t ∧ sameMemory s t
    (s.canIssue site tile 4 0 w (lsShape 0 T w) = true → ∃ t : State, exec (.loadVaultToStore site tile w) s = .next t ∧
      opens (lsTag w) (.load (T.ea w 18) (lsAddr w) (lsLen w) (s.firstAt site tile (lsAddr w)) (s.band site == bandB4)) t ∧ unchangedBut [.tiles, .objs, .log] s t) ∧
    (s.canIssue site tile 4 1 w (lsShape 1 T w) = true → ∃ t : State, exec (.storeToVault site tile w) s = .next t ∧
      opens (lsTag w) (.store (T.ea w 18) (lsAddr w) (lsLen w) (s.firstAt site tile (lsAddr w)) (s.band site == bandB4)) t ∧ unchangedBut [.tiles, .objs, .log] s t) ∧
    (s.canIssue site tile 6 0 w (bidShape w) = true → ∃ t : State, exec (.bid site tile w) s = .next t ∧
      opens (fld w 34 5) (.bid (fld w 18 3) (fld w 21 7) (bidClass T w) (fld w 31 3 + 1) 0 []) t ∧
      (t.gate site (s.effPlane (fld w 18 3))).bids = (s.gate site (s.effPlane (fld w 18 3))).bids ++
        [{ dst := fld w 21 7, cls := bidClass T w, slots := fld w 31 3 + 1, sender := .tile tile, tag := fld w 34 5, sidx := 0, retry := false, gone := false, at' := s.time : Bid }] ∧
      unchangedBut [.tiles, .objs, .log, .gates] s t) ∧
    (∀ pl d c st, ∀ ecc : Ecc, s.canIssue site tile 6 1 w (s.sendShape T w) = true → T.openBid (fld w 38 5) = some (pl, d, c, st) →
      let u := s.storeEcc site tile (inRegions [{ base := T.ea w 18, len := fld w 77 9 }]) ecc
      ∃ (t : State) (x : Slot), exec (.send site tile w ecc) s = .next t ∧ (t.gate site (s.effPlane pl)).staging = (s.gate site (s.effPlane pl)).staging ++ [x] ∧
        x.src = site ∧ x.dst = d ∧ x.cls = c ∧ x.kind = fld w 43 3 ∧ x.ttile = fld w 46 6 ∧ x.taddr = fld w 52 25 ∧ x.tag = fld w 38 5 ∧ x.sidx = st ∧
        x.len = fld w 77 9 ∧ x.payload = u.getStore site tile (T.ea w 18) (fld w 77 9) ∧
        (t.tile site tile).async = (T.stageOne (fld w 38 5)).async ∧ tilesBut site tile s t ∧ sameMemory u t ∧
        unchangedBut [.tiles, .objs, .log, .gates, .poison] s t) ∧
    (s.canIssue site tile 7 0 w (mergeOpenShape T w) = true → ∃ (t : State) (o : OpenReq), exec (.mergeOpen site tile w) s = .next t ∧
      opens (fld w 93 5) (.merge (fld w 18 16) none) t ∧ (t.station site).opens = (s.station site).opens ++ [o] ∧ o.port = fld w 34 7 ∧
      o.dl = fld w 81 12 ∧ o.ticket.ticket = fld w 18 16 ∧ o.ticket.expected = fld w 41 12 + 1 ∧ o.ticket.op = fld w 53 2 ∧
      o.ticket.res = T.ea w 55 ∧ o.ticket.flits = fld w 75 6 + 1 ∧ o.ticket.contribs = [] ∧ unchangedBut [.tiles, .objs, .log, .stations] s t) ∧
    (s.canIssue site tile 9 0 w (sieveShape T w) = true → ∃ t : State, exec (.sieveSelect site tile w) s = .next t ∧
      opens (svTag w) (.sieve w (T.ea w 18) (T.ea w 101) T.pc (mapGet 0 T.sievePass T.pc)) t ∧
      (t.site site).sieveQ = (s.site site).sieveQ ++ [(tile, svTag w)] ∧ unchangedBut [.tiles, .objs, .log, .sites] s t) ∧
    (s.canIssue site tile 8 1 w (tallyPostShape w) = true → ∃ (t : State) (p : Post), exec (.tallyPost site tile w) s = .next t ∧ t.posts = s.posts ++ [p] ∧
      (p.crossing = none ↔ site = fld w 30 7) ∧ (site = fld w 30 7 → t.gates = s.gates) ∧
      (∀ n, p.crossing = some n → let pl := s.effPlane (fld w 18 12 % 8)
        (t.gate site pl).bids = (s.gate site pl).bids ++ [{ dst := fld w 30 7, cls := .A, slots := 1, sender := .post n, tag := n, sidx := 0, retry := false, gone := false, at' := s.time : Bid }]) ∧
      p.src = site ∧ p.port = fld w 30 7 ∧ p.ctr = fld w 18 12 ∧ p.inc = fld w 37 16 ∧ p.step = true ∧ p.wave16 = T.wave % 65536 ∧ p.slot = T.slot ∧
      (t.tile site tile).bucket = T.bucket - 1 ∧ tilesBut site tile s t ∧ unchangedBut [.tiles, .objs, .log, .posts, .gates] s t)

/-- A furrow send that issues joins its unit's queue and spends the bucket on the priority channel; the first of the queue has its len + 1 beats on their way
to its peer; it leaves the scoreboard 4 cycles and one per further beat after it starts, once its beats are handed over, and the next starts. A furrow receive whose landing buffer is empty blocks issue with its deadline. A beat that left
its last switch 2 cycles ago and matches the pending receive of its channel is counted in S.0403 and written at its place; with no receive it waits in the landing buffer. The last
beat written ends the block; a first beat that has not come by its deadline traps FURROW_LATE. Where the spec leaves it open, the model's choices are those of log 16, 22. -/
def Obligations.FurrowStepsComplete : Prop :=
  (∀ (s : State) (site tile : Nat) (w : StepWord) (ecc : Ecc), s.canIssue site tile 5 0 w (furrowSendShape (s.tile site tile) w) = true →
    let T := s.tile site tile
    let u := if T.fq = [] then s.storeEcc site tile (inRegions [{ base := T.ea w 18, len := 2 * furrowBeats w }]) ecc else s
    ∃ t : State, exec (.furrowSend site tile w ecc) s = .next t ∧ tilesBut site tile s t ∧ sameMemory u t ∧
      (t.tile site tile).fq = T.fq ++ [Job.mk w [T.ea w 18] (s.site site).cycles T.pc] ∧
      (t.tile site tile).bucket = T.bucket - (if furrowVc w then furrowBeats w else 0) ∧
      (t.site site).mesh = (s.site site).mesh ++ (if T.fq = [] then u.sendBeats site tile (T.ea w 18) w (s.site site).cycles else [])) ∧
  (∀ (s : State) (site tile : Nat) (ecc : Ecc) (j : Job) (q : List Job), (s.tile site tile).fq = j :: q →
    j.start + 4 + (furrowBeats j.word - 1) ≤ (s.site site).cycles → (∀ b ∈ (s.site site).mesh, b.beat.src = tile → b.since ≠ none) →
    let due := j.start + 4 + (furrowBeats j.word - 1)
    ∃ t : State, exec (.furrowSendDone site tile ecc) s = .next t ∧ tilesBut site tile s t ∧ (t.tile site tile).fq.length = q.length ∧
      (q = [] → sameMemory s t ∧ (t.site site).mesh = (s.site site).mesh) ∧
      (∀ k, q.head? = some k → let u := s.storeEcc site tile (inRegions [{ base := k.ea.getD 0 0, len := 2 * furrowBeats k.word }]) ecc
        sameMemory u t ∧ (t.site site).mesh = (s.site site).mesh ++ u.sendBeats site tile (k.ea.getD 0 0) k.word (max k.start due))) ∧
  (∀ (s : State) (site tile : Nat) (w : StepWord), s.canIssue site tile 5 1 w (furrowReceiveShape (s.tile site tile) w) = true →
    (if furrowVc w then (s.tile site tile).prio else (s.tile site tile).bulk) = [] →
    ∃ (t : State) (r : Recv), exec (.furrowReceive site tile w) s = .next t ∧ tilesBut site tile s t ∧ sameMemory s t ∧ (t.tile site tile).block = some .recv ∧
      (t.tile site tile).recv = some r ∧ r.src = furrowPeer w ∧ r.flow = furrowFlow w ∧ r.len = furrowBeats w ∧ r.vc = furrowVc w ∧ r.got = 0 ∧
      r.base = (s.tile site tile).ea w 18 ∧
      r.deadline = if fld w 77 16 = 0 then none else some ((s.site site).cycles + fld w 77 16)) ∧
  (∀ (s : State) (site tile : Nat) (r : Recv), (s.tile site tile).recv = some r → r.len ≤ r.got → (s.tile site tile).trapped = false →
    (s.tile site tile).holdsWrite { base := r.base, len := 2 * r.len } = false →
    ∃ t : State, exec (.furrowReceiveDone site tile) s = .next t ∧ tilesBut site tile s t ∧ sameMemory s t ∧ (t.tile site tile).recv = none ∧
      (t.tile site tile).block = none) ∧
  (∀ (s : State) (site tile src flow c : Nat) (vc : Bool) (bad : List Nat) (b : MeshBeat) (rest : List MeshBeat),
    takeFirst (fun b => decide (b.dst = tile) && b.vc == vc && decide (b.beat.src = src) && decide (b.beat.flow = flow)) (s.site site).mesh = some (b, rest) →
    b.out = some c → c + 2 ≤ (s.site site).cycles → (s.site site).gated = false → (s.tile site tile).recv = none → (if vc then (s.tile site tile).prio else (s.tile site tile).bulk).length < 32 →
    ∃ t : State, exec (.furrowBeatArrival site tile src flow vc bad) s = .next t ∧ tilesBut site tile s t ∧ sameMemory s t ∧
      t.obj .S0403 site = s.obj .S0403 site + 1 ∧ (t.site site).mesh = rest ∧
      (if vc then (t.tile site tile).prio else (t.tile site tile).bulk) = (if vc then (s.tile site tile).prio else (s.tile site tile).bulk) ++ [{ b.beat with data := poisonBeat b.beat.data bad }]) ∧
  (∀ (s : State) (site tile src flow c : Nat) (vc : Bool) (bad : List Nat) (b : MeshBeat) (rest : List MeshBeat) (r : Recv), s.mem.wf →
    takeFirst (fun b => decide (b.dst = tile) && b.vc == vc && decide (b.beat.src = src) && decide (b.beat.flow = flow)) (s.site site).mesh = some (b, rest) →
    b.out = some c → c + 2 ≤ (s.site site).cycles → (s.site site).gated = false → (s.tile site tile).recv = some r → r.vc = vc → r.got < r.len → (s.tile site tile).trapped = false →
    (s.tile site tile).held = [] → (∀ k, (s.tile site tile).bank k = { st := .on, change := none }) →
    (if vc then (s.tile site tile).prio else (s.tile site tile).bulk) = [] → src = r.src → flow = r.flow → b.beat.len = r.len →
    ∃ t : State, exec (.furrowBeatArrival site tile src flow vc bad) s = .next t ∧ (t.tile site tile).recv = some { r with got := r.got + 1 } ∧
      sameMemory (s.putUnits (storeAddr site tile (r.base + 2 * r.got)) [(poisonBeat b.beat.data bad).lo, (poisonBeat b.beat.data bad).hi]) t) ∧
  (∀ (s : State) (site tile : Nat) (r : Recv) (d : Nat), (s.tile site tile).recv = some r → r.deadline = some d → r.got = 0 →
    d < (s.site site).cycles → (s.tile site tile).trapped = false →
    ∃ (t : State) (k : TrapRec), exec (.furrowDeadlineExpiry site tile) s = .next t ∧ (t.tile site tile).trapped = true ∧ (t.tile site tile).traps = (s.tile site tile).traps ++ [k] ∧
      k.code = 0x07 ∧ k.detailA = r.flow % 2 ^ 32 ∧ tilesBut site tile s t ∧ sameMemory s t)

/-- A TALLY_WAIT that issues blocks until its counter reaches its target, with the deadline of its timeout, and does not block when the counter is there
already; the counter's reaching it ends the block; its timeout traps TALLY_TIMEOUT. A direct post adds its increment to its counter modulo 2⁶⁴. A
wait at issue longer than watchdog_limit traps STALL_LIMIT with the cause that held last. A trapped tile with a beat sends its oldest record to the
site sequencer's mailbox when that is empty. The sequencer, finding a record, stops every tile of the die that runs. Where the spec leaves it open, the model's choices are those of log 14, 18. -/
def Obligations.TallyAndTrapCommandsComplete : Prop :=
  (∀ (s : State) (site tile : Nat) (w : StepWord), s.canIssue site tile 8 0 w {} = true →
    let ctr := siteCtr (fld w 18 12) (s.tile site tile).slot
    ∃ t : State, exec (.tallyWait site tile w) s = .next t ∧ tilesBut site tile s t ∧ unchangedBut [.tiles, .objs, .log] s t ∧
      (t.tile site tile).block = if fld w 30 40 ≤ s.siteTally site ctr then none
        else some (.tally ctr (fld w 30 40) (if fld w 70 16 = 0 then none else some (s.time + 1000 * fld w 70 16)))) ∧
  (∀ (s : State) (site tile ctr target : Nat) (d : Option Nat), (s.tile site tile).block = some (.tally ctr target d) → target ≤ s.siteTally site ctr →
    ∃ t : State, exec (.tallyWaitSatisfied site tile) s = .next t ∧ (t.tile site tile).block = none ∧ tilesBut site tile s t ∧ unchangedBut [.tiles] s t) ∧
  (∀ (s : State) (site tile ctr target d : Nat), (s.tile site tile).block = some (.tally ctr target (some d)) → s.siteTally site ctr < target →
    d ≤ s.time → (s.tile site tile).running = true → (s.tile site tile).trapped = false →
    ∃ (t : State) (k : TrapRec), exec (.tallyWaitTimeout site tile) s = .next t ∧ (t.tile site tile).trapped = true ∧ (t.tile site tile).traps = (s.tile site tile).traps ++ [k] ∧
      k.code = 0x0B ∧ k.cls = 8 ∧ k.op = 0 ∧ tilesBut site tile s t ∧ sameMemory s t) ∧
  (∀ (s : State) (port ctr inc : Nat) (p : Post) (rest : List Post),
    takeFirst (fun p : Post => p.crossing.isNone && p.port == port && p.ctr == ctr && p.inc == inc && p.step == false && (!false || (p.wave16 == 0 && p.replica == 0 && p.slot == 0))) s.posts
      = some (p, rest) → isDark port = false → (p.src = port ∨ s.inService port = true) → iodOfPort port = none →
    ∃ t : State, exec (.tallyPostArrival port ctr inc 0 0 0 false) s = .next t ∧ t.posts = rest ∧ t.siteTally port ctr = (s.siteTally port ctr + inc) % 2 ^ 64 ∧
      (∀ k, k ≠ ctr → t.siteTally port k = s.siteTally port k) ∧ unchangedBut [.posts, .sites] s t) ∧
  (∀ (s : State) (site tile : Nat) (v : IssueWait), (s.tile site tile).wait = some v → (s.tile site tile).running = true → (s.tile site tile).trapped = false →
    v.ns + 1000 * s.obj .S0303 0 < s.time →
    ∃ (t : State) (k : TrapRec), exec (.watchdogExpiry site tile) s = .next t ∧ (t.tile site tile).trapped = true ∧ (t.tile site tile).traps = (s.tile site tile).traps ++ [k] ∧
      k.code = 0x12 ∧ k.detailA = v.cause % 2 ^ 32 ∧ k.cls = v.cls ∧ k.op = v.op ∧ k.index = v.index ∧ tilesBut site tile s t ∧ sameMemory s t) ∧
  (∀ (s : State) (site tile : Nat) (r : TrapRec) (q : List TrapRec), (s.tile site tile).traps = r :: q → 0 < (s.tile site tile).bucket →
    (s.box (64 + site)).full = false →
    ∃ t : State, exec (.trapRecordSend site tile) s = .next t ∧ (t.tile site tile).traps = q ∧ (t.tile site tile).bucket = (s.tile site tile).bucket - 1 ∧
      (t.box (64 + site)).full = true ∧ (t.box (64 + site)).msg.extractLsb' 0 256 = BitVec.ofNat 256 r.num ∧ tilesBut site tile s t ∧ sameMemory s t) ∧
  (∀ (s : State) (site : Nat), (s.box (64 + site)).full = true →
    ∃ t : State, exec (.siteSequencerTrapHandle site) s = .next t ∧ sameMemory s t ∧
      (∀ k, k < 48 → (s.tile site k).running = true → (t.tile site k).stopped = true) ∧ (∀ a b, a ≠ site → t.tile a b = s.tile a b))

/-- A tag of a finished BID takes the worst code of its slots (R18). A load whose turn it is, with its tile clock running and nothing buffered, writes its units, with what ECC
found marked, into its tile-store region; a store its tile-store units into its vaults; with no
block of issue, the tag is done and its operation over. A MERGE_CLOSE that issues releases a ticket whose result is written, and before that ends its open with ABORTED
and drops it. The next half of a list that runs on is in the buffer after its refill. Where the spec leaves it open, the model's choices are those of log 2, 28. -/
def Obligations.TagAndListCommandsComplete : Prop :=
  (∀ (s : State) (site tile tag pl d slots st ce : Nat) (c : Cls) (codes : List Code) (ue : List Nat) (ecc : Ecc),
    (s.tile site tile).async.find? (fun p => p.1 == tag) = some (tag, .bid pl d c slots st codes) → slots ≤ codes.length →
    (s.tile site tile).block = none →
    ∃ t : State, exec (.tagComplete site tile tag ue ce ecc none) s = .next t ∧ (t.tile site tile).tagSt tag = .done (worst codes) ∧
      (t.tile site tile).async = mapDel (s.tile site tile).async tag ∧ tilesBut site tile s t ∧ unchangedBut [.tiles] s t) ∧
  (∀ (s : State) (site tile tag u v n first ce : Nat) (ue : List Nat) (ecc : Ecc),
    (s.tile site tile).async.find? (fun p => p.1 == tag) = some (tag, .load u v n first false) → s.verticalNow site tile tag first = true →
    (s.site site).gated = false → (s.col site tile).buf = none → (s.tile site tile).block = none →
    ∃ t : State, exec (.tagComplete site tile tag ue ce ecc none) s = .next t ∧
      (t.tile site tile).tagSt tag = .done (if anyMark (s.vaultUnits site tile v n ue) then .poisoned else .ok) ∧
      (t.tile site tile).async = mapDel (s.tile site tile).async tag ∧ tilesBut site tile s t ∧
      sameMemory (s.putUnits (storeAddr site tile u) (s.vaultUnits site tile v n ue)) t) ∧
  (∀ (s : State) (site tile tag u v n first ce : Nat) (ue : List Nat) (ecc : Ecc),
    (s.tile site tile).async.find? (fun p => p.1 == tag) = some (tag, .store u v n first false) → s.verticalNow site tile tag first = true →
    (s.site site).gated = false → (s.tile site tile).block = none →
    let r := s.storeEcc site tile (inRegions [{ base := u, len := n }]) ecc
    ∃ t : State, exec (.tagComplete site tile tag ue ce ecc none) s = .next t ∧
      (t.tile site tile).tagSt tag = .done (if anyMark (r.getStore site tile u n) then .poisoned else .ok) ∧ tilesBut site tile s t ∧
      sameMemory (r.putUnits (vaultAddr site tile v) (r.getStore site tile u n)) t ∧ unchangedBut [.tiles, .cols, .objs, .mem, .poison] s t) ∧
  (∀ (s : State) (site tile : Nat) (w : StepWord) (k : Ticket), s.canIssue site tile 7 1 w mergeCloseShape = true →
    (s.station site).ticket (fld w 18 16) = some k → k.fin ≠ none →
    ∃ t : State, exec (.mergeClose site tile w) s = .next t ∧ tilesBut site tile s t ∧ unchangedBut [.tiles, .objs, .log, .stations, .gates] s t ∧
      (t.station site).tickets = (s.station site).tickets.filter (fun x => x.ticket != fld w 18 16)) ∧
  (∀ (s : State) (site tile : Nat) (w : StepWord) (k : Ticket), s.canIssue site tile 7 1 w mergeCloseShape = true →
    (s.station site).ticket (fld w 18 16) = some k → k.fin = none →
    ∃ t : State, exec (.mergeClose site tile w) s = .next t ∧
      (t.station site).tickets = (s.station site).tickets.filter (fun x => x.ticket != fld w 18 16) ∧
      ((k.tag, AsyncOp.merge (fld w 18 16) none) ∈ (s.tile site k.tile).async →
        (k.tag, AsyncOp.merge (fld w 18 16) (some .aborted)) ∈ (t.tile site k.tile).async)) ∧
  (∀ (s : State) (site tile : Nat), (s.tile site tile).running = true → ((s.tile site tile).half + 1) * 2048 < (s.tile site tile).listLen →
    ∃ t : State, exec (.stepListRefill site tile) s = .next t ∧ (t.tile site tile).halfReady = true ∧ tilesBut site tile s t ∧ unchangedBut [.tiles] s t)

/-- An arriving write that meets a bank in retention or off, or changing to one of them, writes nothing and traps BANK_ASLEEP; one that meets a bank changing to on, or a write
held before it, is held last; any other is written. A write that is taken while port A writes the same unit traps WRITE_CLASH as well. A bank whose change has taken its time stands
in its new state, or starts the change asked for meanwhile; one that reaches or leaves off, with no write held, reads zero. Where the spec leaves it open, the model's choices are
those of log 13, 19. -/
def Obligations.TileStoreCommandsComplete : Prop :=
  (∀ (s : State) (site tile addr : Nat) (data : List Cell32) (clash : Bool),
    let T := s.tile site tile
    let codes (l : List TrapRec) : List Nat := l.map (fun r => r.code)
    ∃ t : State, exec (.tileStoreArrivingWrite site tile addr data clash) s = .next t ∧ tilesBut site tile s t ∧
      (∀ b, T.sleeping addr data.length = some b → sameMemory s t ∧ (t.tile site tile).held = T.held ∧ (t.tile site tile).trapped = true ∧
        codes (t.tile site tile).traps = codes T.traps ++ [trBankAsleep]) ∧
      (T.sleeping addr data.length = none → T.wakesFor addr data.length = true ∨ T.held ≠ [] →
        sameMemory s t ∧ (t.tile site tile).held = T.held ++ [{ addr := addr, data := data }]) ∧
      (T.sleeping addr data.length = none → T.wakesFor addr data.length = false → T.held = [] →
        sameMemory (s.putUnits (storeAddr site tile addr) data) t ∧ (t.tile site tile).held = []) ∧
      (T.sleeping addr data.length = none → codes (t.tile site tile).traps = codes T.traps ++ (if clash then [trWriteClash] else [])) ∧
      (clash = false → T.sleeping addr data.length = none → (t.tile site tile).trapped = T.trapped)) ∧
  (∀ (s : State) (site tile k d : Nat) (c : BankChange), ((s.tile site tile).bank k).change = some c → c.doneAt = some d → d ≤ s.time →
    let a := storeAddr site tile (4096 * k)
    ∃ t : State, exec (.bankChangeDone site tile k) s = .next t ∧ tilesBut site tile s t ∧
      (t.tile site tile).bank k = (match c.next with
        | none => { st := c.target, change := none }
        | some n => ({ st := c.target, change := none : Bank }.request n ((s.tile site tile).holdsBank k) s.time)) ∧
      (∀ j, j ≠ k → (t.tile site tile).bank j = (s.tile site tile).bank j) ∧
      ((s.tile site tile).held = [] → bytesOutside a (a + 131072) s t ∧
        (c.target = .off ∨ ((s.tile site tile).bank k).st = .off → ∀ x, a ≤ x → x < a + 131072 → memByte t.mem x = 0) ∧
        (c.target ≠ .off → ((s.tile site tile).bank k).st ≠ .off → sameMemory s t)))

/-- Once the interval has passed the next region of a bank that is on is locked, and what ECC finds in its copy is marked and counted. A test that ends unlocks its region and
moves on; a failed region takes a spare of its bank while one is left; with none left the units that read back different are marked, the tile is flagged in S.0402 and an event is
raised. A bucket gains one beat, up to 4 at a tile once 16 tile cycles have passed since its last, and up to 16 at an attachment point once 4 have; a trap record that waited for
the beat waits no longer. Where the spec leaves it open, the model's choices are those of log 17. -/
def Obligations.TileStoreTestAndBucketsComplete : Prop :=
  (∀ (s : State) (site tile r : Nat) (ecc : Ecc), s.obj .S0304 0 ≠ 0 → (s.tile site tile).testTime + 1000 * s.obj .S0304 0 ≤ s.time →
    (s.tile site tile).testLock = none → (s.tile site tile).nextRegion (s.tile site tile).testNext = some r →
    ∃ t : State, exec (.storeTestInterval site tile ecc) s = .next t ∧
      t.tile site tile = { s.tile site tile with testLock := some r, testTime := s.time } ∧ tilesBut site tile s t ∧
      t.obj .S0307 site = s.obj .S0307 site + ecc.ce ∧ (∀ u ∈ ecc.ue, u < 2 ^ 17 → u / 8 = r → mapGet false t.poison (storeAddr site tile u) = true) ∧
      unchangedBut [.tiles, .objs, .poison] s t ∧ objsBut [.S0307] s t) ∧
  (∀ (s : State) (site tile r corrected : Nat) (failed : Bool) (differ : List Nat), (s.tile site tile).testLock = some r →
    let left := mapGet 2 (s.tile site tile).spares (r / 512)
    ∃ t : State, exec (.storeTestDone site tile failed differ corrected) s = .next t ∧ (t.tile site tile).testLock = none ∧
      (t.tile site tile).testNext = (if 16383 ≤ r then 0 else r + 1) ∧
      t.obj .S0307 site = s.obj .S0307 site + corrected ∧ tilesBut site tile s t ∧ unchangedBut [.tiles, .objs, .poison, .log] s t ∧
      (failed = false → (t.tile site tile).spares = (s.tile site tile).spares ∧ t.poison = s.poison ∧ t.log = s.log) ∧
      (failed = true → 0 < left →
        mapGet 2 (t.tile site tile).spares (r / 512) = left - 1 ∧ t.poison = s.poison ∧ t.log = s.log) ∧
      (failed = true → left = 0 → (t.tile site tile).spares = (s.tile site tile).spares ∧ bitGet (t.obj .S0402 site) tile = true ∧
        (t.log.events.map (fun e => e.code)).head? = some evStoreRegion ∧
        ∀ u ∈ differ, mapGet false t.poison (storeAddr site tile (8 * r + u % 8)) = true)) ∧
  (∀ (s : State) (site who : Nat), (s.tile site who).refillAt + 16 ≤ (s.site site).cycles →
    ∃ t : State, exec (.prioBucketRefill site false who) s = .next t ∧
      t.tile site who = { s.tile site who with
        bucket := min 4 ((s.tile site who).bucket + 1), refillAt := (s.tile site who).refillAt + 16, recWait := none } ∧
      t.obj .S0405 site = s.obj .S0405 site + (match (s.tile site who).recWait with | some c => (s.site site).cycles - c | none => 0) ∧
      tilesBut site who s t ∧ unchangedBut [.tiles, .objs] s t ∧ objsBut [.S0405] s t) ∧
  (∀ (s : State) (site who : Nat), who ∈ attachTiles → mapGet 0 (s.site site).attachAt who + 4 ≤ (s.site site).cycles →
    ∃ t : State, exec (.prioBucketRefill site true who) s = .next t ∧ mapGet 16 (t.site site).attach who = min 16 (mapGet 16 (s.site site).attach who + 1) ∧
      (∀ k, k ≠ who → mapGet 16 (t.site site).attach k = mapGet 16 (s.site site).attach k) ∧
      mapGet 0 (t.site site).attachAt who = mapGet 0 (s.site site).attachAt who + 4 ∧ (∀ p, p ≠ site → t.site p = s.site p) ∧ unchangedBut [.sites] s t)

/-- A check period of 512 cycles of a V window in which the matrix unit was busy for more than 384 of them is a conflict period that M.050C counts, and the next period begins; where phasing
is enforced, one more conflict than the limit traps PHASE_VIOLATION. A window whose check periods have
passed gives way to the next. A tile's fault marks its physical tile to be mapped out at the next recovery and stops the tiles of its die that run. A switch with no link-alive signal is
reported, and the beats that stand in it are lost; new route tables show every reported switch dead in S.0401, no report remains, and a stack that cannot present 48 tiles any more is not usable.
Where the spec leaves it open, the model's choices are those of log 22. -/
def Obligations.DieCommandsComplete : Prop :=
  (∀ (s : State) (site tile : Nat), (s.tile site tile).running = true → (s.tile site tile).issued = true →
    s.phaseWord (s.tile site tile) tile % 2 = 1 → s.obj .M050A 0 = phaseCountOnly → (s.tile site tile).periodAt + 512 ≤ (s.site site).cycles →
    isMWindow (s.phaseWord (s.tile site tile) tile) tile (s.tile site tile).window = false → 384 < (s.tile site tile).busyIn (s.tile site tile).periodAt →
    ∃ t : State, exec (.checkPeriodEnd site tile) s = .next t ∧ t.obj .M050C site = s.obj .M050C site + 1 ∧
      t.tile site tile = { s.tile site tile with
        conflicts := (s.tile site tile).conflicts + 1, periodAt := (s.tile site tile).periodAt + 512
        busyIv := (s.tile site tile).busyIv.filter (fun e => decide ((s.tile site tile).periodAt + 512 < e.2)) } ∧ tilesBut site tile s t ∧
      unchangedBut [.tiles, .objs, .log] s t ∧ objsBut [.M050C] s t) ∧
  (∀ (s : State) (site tile : Nat), (s.tile site tile).running = true → (s.tile site tile).issued = true →
    s.phaseWord (s.tile site tile) tile % 2 = 1 → s.obj .M050A 0 = phasePlan → (s.tile site tile).periodAt + 512 ≤ (s.site site).cycles →
    isMWindow (s.phaseWord (s.tile site tile) tile) tile (s.tile site tile).window = false → 384 < (s.tile site tile).busyIn (s.tile site tile).periodAt →
    s.obj .M050B 0 < (s.tile site tile).conflicts + 1 →
    ∃ (t : State) (k : TrapRec), exec (.checkPeriodEnd site tile) s = .next t ∧ (t.tile site tile).trapped = true ∧
      (t.tile site tile).traps = (s.tile site tile).traps ++ [k] ∧ k.code = trPhaseViolation ∧
      k.detailA = (s.tile site tile).window % 65536 + 65536 * (((s.tile site tile).conflicts + 1) % 256) ∧ tilesBut site tile s t ∧ sameMemory s t) ∧
  (∀ (s : State) (site tile : Nat), (s.tile site tile).running = true → (s.tile site tile).issued = true →
    s.phaseWord (s.tile site tile) tile % 2 = 1 →
    ((s.tile site tile).window + 1) * windowPeriods (s.phaseWord (s.tile site tile) tile) * 512 ≤ (s.site site).cycles - (s.tile site tile).firstCycle →
    ∃ t : State, exec (.phaseWindowEnd site tile) s = .next t ∧
      t.tile site tile = { s.tile site tile with window := (s.tile site tile).window + 1, conflicts := 0 } ∧ tilesBut site tile s t ∧ unchangedBut [.tiles] s t) ∧
  (∀ (s : State) (site tile : Nat),
    ∃ t : State, exec (.tileFault site tile) s = .next t ∧ (t.site site).mapOut = s.physOf site tile :: (s.site site).mapOut ∧
      (∀ k, k < 48 → (s.tile site k).running = true → (t.tile site k).stopped = true) ∧ (∀ a b, a ≠ site → t.tile a b = s.tile a b) ∧ sameMemory s t) ∧
  (∀ (s : State) (site phys : Nat), phys ∉ (s.site site).reported → bitGet (s.obj .S0401 site) phys = false →
    ∃ t : State, exec (.linkAliveTimeout site phys) s = .next t ∧ (t.site site).reported = (s.site site).reported ++ [phys] ∧
      (t.site site).mesh = (s.site site).mesh.filter (fun b => !(b.standing && b.here == phys)) ∧ sameMemory s t ∧
      (∀ a b, t.tile a b = s.tile a b)) ∧
  (∀ (s : State) (site : Nat), (s.site site).reported ≠ [] →
    ∃ t : State, exec (.routeRecomputeDone site) s = .next t ∧ (t.site site).reported = [] ∧
      t.obj .S0401 site = (s.site site).reported.foldl (fun v k => bitSet v k true) (s.obj .S0401 site) ∧
      (t.site site).usable = ((s.site site).usable && s.stands site (s.site site).reported) ∧
      (t.site site).mapOut = (s.site site).reported ++ (s.site site).mapOut ∧ unchangedBut [.sites, .objs] s t ∧ objsBut [.S0401] s t)

/-- A column of a powered stack powered with every run of its 8 receivers at least 16 taps wide begins its clear, each receiver at its run's centre; a narrower run makes it unusable and its tile
mapped out. A clear that
has taken its time leaves every byte of the column's vaults zero and every other byte as it was. A retrim that is due, in a cycle that nothing else wants, moves each receiver of its layer at most
one tap toward the new centre, and a run below 8 makes the stack unusable. A write or a read that the remote-access controller holds for a column joins its queue of 8, or waits while it is full. In a remote group in which the column has served none, the request at the
head moves what one aligned 256-B transfer holds of it: a write's units are written, a read's are read with what ECC finds, M.0507 counts one cycle, and the transfer that completes it takes it out of the queue;
a write, or a read that no controller waits for, is then answered. In B4 a request not yet under way ends ACCESS_DENIED. Where the spec leaves it open, the model's choices are those of log 24, 96. -/
def Obligations.VaultColumnCommandsComplete : Prop :=
  (∀ (s : State) (site tile : Nat) (runs : List (Nat × Nat)), (s.col site tile).powered = false → (s.site site).powered = true →
    (∀ k, k < 8 → 16 ≤ (runs.getD k (0, 0)).1) →
    ∃ t : State, exec (.vaultColumnPowerUp site tile runs) s = .next t ∧ (t.col site tile).powered = true ∧ (t.col site tile).clearing = true ∧
      (t.col site tile).clearAt = s.time + 4200000 ∧
      (∀ k, k < 8 → mapGet (0, 0) (t.col site tile).taps k = ((runs.getD k (0, 0)).2, (runs.getD k (0, 0)).1)) ∧
      unchangedBut [.cols, .objs] s t ∧ objsBut [.M0504, .M0508, .P0C0D] s t) ∧
  (∀ (s : State) (site tile : Nat) (runs : List (Nat × Nat)), (s.col site tile).powered = false → (s.site site).powered = true →
    (∃ k, k < 8 ∧ (runs.getD k (0, 0)).1 < 16) →
    ∃ t : State, exec (.vaultColumnPowerUp site tile runs) s = .next t ∧ t.col site tile = { s.col site tile with usable := false } ∧
      (t.site site).mapOut = s.physOf site tile :: (s.site site).mapOut ∧ unchangedBut [.cols, .sites] s t) ∧
  (∀ (s : State) (site tile : Nat), (s.col site tile).powered = true → (s.col site tile).clearing = true → (s.col site tile).clearAt ≤ s.time →
    ∃ t : State, exec (.vaultClearDone site tile) s = .next t ∧ t.col site tile = { s.col site tile with clearing := false } ∧
      (∀ a, vaultAddr site tile 0 ≤ a → a < vaultAddr site tile 0 + 2 ^ 30 → memByte t.mem a = 0) ∧
      bytesOutside (vaultAddr site tile 0) (vaultAddr site tile 0 + 2 ^ 30) s t ∧ unchangedBut [.cols, .mem, .poison] s t) ∧
  (∀ (s : State) (site tile layer : Nat) (edges : List (Nat × Nat)), (s.col site tile).powered = true → (s.col site tile).clearing = false →
    s.retrimDue site tile layer = true → s.channelIdle site tile = true → layer < 4 →
    let run := ((edges.take 2).map (fun e => e.1)).foldl min 64
    let tap (i run centre : Nat) : Nat := (mapGet (centre, run) (s.col site tile).taps (2 * layer + i)).1
    ∃ t : State, exec (.retrim site tile layer edges) s = .next t ∧
      (∀ i run centre, i < 2 → edges[i]? = some (run, centre) → mapGet (centre, run) (t.col site tile).taps (2 * layer + i) =
        (if tap i run centre < centre then tap i run centre + 1 else if centre < tap i run centre then tap i run centre - 1 else tap i run centre, run)) ∧
      (∀ k, k / 2 ≠ layer → mapGet (0, 0) (t.col site tile).taps k = mapGet (0, 0) (s.col site tile).taps k) ∧
      (run < 8 → (t.site site).usable = false) ∧ (8 ≤ run → t.sites = s.sites) ∧ unchangedBut [.cols, .objs, .log, .sites] s t ∧ objsBut [.M0508] s t) ∧
  (∀ (s : State) (site tile : Nat) (x : Slot) (rest : List Slot),
    takeFirst (fun x : Slot => x.dst == site && x.ttile == tile) (s.field (fieldOf site)).writeQ = some (x, rest) →
    let req : RemoteReq := { write := true, addr := x.taddr, len := x.len, data := x.payload, rid := x.tag }
    ∃ t : State, exec (.remoteQueueEnqueue site tile true) s = .next t ∧ unchangedBut [.cols, .fields] s t ∧
      t.field (fieldOf site) = { s.field (fieldOf site) with writeQ := rest } ∧
      ((s.col site tile).queue.length < 8 → t.col site tile = { s.col site tile with queue := (s.col site tile).queue ++ [req] }) ∧
      (8 ≤ (s.col site tile).queue.length → t.col site tile = { s.col site tile with held := (s.col site tile).held ++ [req] })) ∧
  (∀ (s : State) (site tile : Nat) (j : ReadJob), (s.field (fieldOf site)).reads.find? (fun j => j.passes site tile) = some j →
    s.writeHeld site tile j.record.addr j.record.len = false →
    let req : RemoteReq := { write := false, addr := j.record.addr, len := j.record.len, data := [], rid := j.record.rid }
    ∃ t : State, exec (.remoteQueueEnqueue site tile false) s = .next t ∧ unchangedBut [.cols, .fields] s t ∧
      { j with sent := true } ∈ (t.field (fieldOf site)).reads ∧
      ((s.col site tile).queue.length < 8 → t.col site tile = { s.col site tile with queue := (s.col site tile).queue ++ [req] }) ∧
      (8 ≤ (s.col site tile).queue.length → t.col site tile = { s.col site tile with held := (s.col site tile).held ++ [req] })) ∧
  (∀ (s : State) (site tile ce : Nat) (ue : List Nat) (r : RemoteReq) (q : List RemoteReq), s.mem.wf → (s.col site tile).queue = r :: q →
    (s.col site tile).powered = true → (s.col site tile).clearing = false → (s.col site tile).group ≠ some (s.time / s.groupCycles) →
    (s.band site ≠ bandB4 ∨ (s.col site tile).acc ≠ []) → r.write = true →
    let done := (s.col site tile).acc.length
    let part := (r.data.drop done).take (min (8 - (r.addr + done) % 8) (r.data.length - done))
    let a := vaultAddr site tile (r.addr + done)
    ∃ t : State, exec (.remoteAccessServe site tile ue ce) s = .next t ∧ sameMemory (s.putUnits a part) t ∧ bytesOutside a (a + 32 * part.length) s t ∧
      t.obj .M0507 site = s.obj .M0507 site + 1 ∧ unchangedBut [.cols, .out, .objs, .mem, .poison] s t ∧
      (r.data.length ≤ done + part.length → (t.col site tile).queue = q ++ (s.col site tile).held.take 1 ∧
        t.out = s.out ++ [.remoteAnswer site tile r.rid (if anyMark ((s.col site tile).acc ++ part) then .poisoned else .ok) []]) ∧
      (done + part.length < r.data.length → (t.col site tile).queue = r :: q ∧ (t.col site tile).acc = (s.col site tile).acc ++ part ∧ t.out = s.out)) ∧
  (∀ (s : State) (site tile ce : Nat) (ue : List Nat) (r : RemoteReq) (q : List RemoteReq), (s.col site tile).queue = r :: q →
    (s.col site tile).powered = true → (s.col site tile).clearing = false → (s.col site tile).group ≠ some (s.time / s.groupCycles) →
    (s.band site ≠ bandB4 ∨ (s.col site tile).acc ≠ []) → r.write = false → (s.field (fieldOf site)).reads = [] →
    let done := (s.col site tile).acc.length
    let n := min (8 - (r.addr + done) % 8) (r.len - done)
    let all := (s.col site tile).acc ++ s.vaultUnits site tile (r.addr + done) n ue
    ∃ t : State, exec (.remoteAccessServe site tile ue ce) s = .next t ∧ sameMemory s t ∧
      t.obj .M0507 site = s.obj .M0507 site + 1 ∧ unchangedBut [.cols, .out, .objs, .layers, .log] s t ∧
      (r.len ≤ done + n → (t.col site tile).queue = q ++ (s.col site tile).held.take 1 ∧
        t.out = s.out ++ [.remoteAnswer site tile r.rid (if anyMark all then .poisoned else .ok) all]) ∧
      (done + n < r.len → (t.col site tile).queue = r :: q ∧ (t.col site tile).acc = all ∧ t.out = s.out)) ∧
  (∀ (s : State) (site tile ce : Nat) (ue : List Nat) (r : RemoteReq) (q : List RemoteReq), (s.col site tile).queue = r :: q →
    (s.col site tile).powered = true → (s.col site tile).clearing = false → (s.col site tile).group ≠ some (s.time / s.groupCycles) →
    s.band site = bandB4 → (s.col site tile).acc = [] → r.write = true →
    ∃ t : State, exec (.remoteAccessServe site tile ue ce) s = .next t ∧ t.out = s.out ++ [.remoteAnswer site tile r.rid .accessDenied []] ∧
      (t.col site tile).queue = q ++ (s.col site tile).held.take 1 ∧ unchangedBut [.cols, .out] s t)

/-- The oldest unit found uncorrectable takes the poison pattern. A scrub read in a cycle that nothing else wants, which finds nothing uncorrectable, counts what ECC corrected and moves on. A refresh
burst in a V window leaves nothing owed but by banks for which a first access waits. A bank that owes 16 commands and for which none waits receives one, which M.0505 counts. A layer whose window of 10 ms held at least
64 corrected symbols, more than the limit times the mean of its clear
windows, sets its witness. Where the spec leaves it open, the model's choices are those of log 23, 92. -/
def Obligations.VaultUpkeepCommandsComplete : Prop :=
  (∀ (s : State) (site tile a : Nat) (q : List Nat), (s.col site tile).poisonQ = a :: q →
    ∃ t : State, exec (.poisonPatternWrite site tile) s = .next t ∧ mapGet false t.poison (vaultAddr site tile a) = true ∧
      (∀ b, b ≠ vaultAddr site tile a → mapGet false t.poison b = mapGet false s.poison b) ∧ (t.col site tile).poisonQ = q ∧ unchangedBut [.cols, .poison] s t) ∧
  (∀ (s : State) (site tile ce : Nat) (written : Bool), (s.col site tile).powered = true → (s.col site tile).clearing = false → s.obj .M0500 0 ≠ 0 →
    s.channelIdle site tile = true → ((s.col site tile).scrubAt ≠ 0 ∨ (s.col site tile).scrubNext ≤ s.time) → (s.col site tile).scrubAt + 1 < scrubTransfers →
    let l := (vaultPlace (8 * (s.col site tile).scrubAt)).layer
    ∃ t : State, exec (.scrubRead site tile [] ce written) s = .next t ∧ (t.col site tile).scrubAt = (s.col site tile).scrubAt + 1 ∧
      (t.col site tile).poisonQ = (s.col site tile).poisonQ ∧ t.obj .M0502 site = s.obj .M0502 site + ce ∧ (t.layer site l).now = (s.layer site l).now + ce ∧
      unchangedBut [.cols, .objs, .layers] s t ∧ objsBut [.M0502] s t) ∧
  (∀ (s : State) (site tile : Nat), (s.col site tile).powered = true → s.inVWindow site tile = true → (s.col site tile).poisonQ = [] →
    (s.accrue site tile).atLimit = false →
    ∃ t : State, exec (.refreshBurst site tile) s = .next t ∧ (t.col site tile).owedAt = s.time ∧ unchangedBut [.cols] s t ∧
      (t.col site tile).owed = (s.accrue site tile).owed.filter (fun e => (s.tile site tile).firstWaits s.time (fun k => k == e.1)) ∧
      ((s.tile site tile).async = [] → (t.col site tile).owed = [])) ∧
  (∀ (s : State) (site tile layer bank : Nat), (s.col site tile).powered = true → 16 ≤ mapGet 0 (s.accrue site tile).owed (16 * layer + bank) →
    (s.col site tile).poisonQ = [] → (s.tile site tile).firstWaits s.time (fun k => k == 16 * layer + bank) = false →
    ∃ t : State, exec (.trickleRefresh site tile layer bank) s = .next t ∧
      mapGet 0 (t.col site tile).owed (16 * layer + bank) = mapGet 0 (s.accrue site tile).owed (16 * layer + bank) - 1 ∧
      t.obj .M0505 site = s.obj .M0505 site + 1 ∧ unchangedBut [.cols, .objs] s t ∧ objsBut [.M0505] s t) ∧
  (∀ (s : State) (site l : Nat), (s.site site).powered = true → (s.layer site 0).since + 10000000 ≤ s.time → l < 4 → (s.layer site l).set = false →
    64 ≤ (s.layer site l).now →
    s.obj .M050E 0 * (s.layer site l).windows.foldl (· + ·) 0 < (s.layer site l).now * max 1 (s.layer site l).windows.length →
    ∃ t : State, exec (.ceWitnessWindow site) s = .next t ∧ (t.layer site l).set = true ∧ (t.layer site l).setRun = 0 ∧ (t.layer site l).now = 0 ∧
      unchangedBut [.cols, .layers, .objs, .log, .heat] s t)

/-- When a market matches in a slot in which it has not matched, the grants it adds all name the slot four later, and no two of them share a source or a destination; the
market has then matched in this slot, and a second match in the slot changes nothing. -/
def Obligations.MarketGrantsEachPortOnce : Prop :=
  (∀ (s : State) (plane : Nat), (s.market plane).lastMatch ≠ some s.slotNo →
    ∃ (t : State) (gs : List Grant), exec (.marketMatch plane) s = .next t ∧ (t.market plane).grants = (s.market plane).grants ++ gs ∧
      (t.market plane).lastMatch = some s.slotNo ∧ (∀ g ∈ gs, g.slot = s.slotNo + 4 ∧ g.bid.slots = 1) ∧
      gs.Pairwise (fun a b => a.src ≠ b.src ∧ a.bid.dst ≠ b.bid.dst)) ∧
  (∀ (s : State) (plane : Nat), (s.market plane).lastMatch = some s.slotNo → exec (.marketMatch plane) s = .next s)

/-- A headgate of a plane in service that takes over no other's bids and has sent no bid word in this slot sends its first class A bid, or with none of class A its first bid, among those that reached it 8 ns before the
boundary, to the market of its plane. A market whose table holds one class A
bid between open ports that are not withheld, and to which nothing arrives, grants it one stall, routes it through its sluices, and what is left of the bid is class B. The oldest grant of a headgate whose payload is staged puts that payload in
flight in the granted slot; where the slot has begun without it, its requester bids again. A first loss between open ports joins the retries, which are matched ahead of new bids; a second ends the slot with BUS_ERROR and B.0605 counts it. Where the spec leaves it open, the model's choices are those of log 20, 25, 86, 87. -/
def Obligations.BidsAndGrantsComplete : Prop :=
  (∀ (s : State) (port plane : Nat) (b : Bid) (rest : List Bid), (s.gate port plane).wordSlot ≠ some s.slotNo → s.obj .B0600 plane ≠ planeRetired →
    s.takesOver plane = false →
    (takeFirst (fun b : Bid => decide (b.at' + 8 ≤ 64 * s.slotNo) && decide (b.cls = .A)) (s.gate port plane).bids = some (b, rest) ∨
      (takeFirst (fun b : Bid => decide (b.at' + 8 ≤ 64 * s.slotNo) && decide (b.cls = .A)) (s.gate port plane).bids = none ∧
        takeFirst (fun b : Bid => decide (b.at' + 8 ≤ 64 * s.slotNo)) (s.gate port plane).bids = some (b, rest))) →
    ∃ t : State, exec (.bidWordSend port plane) s = .next t ∧
      (t.market plane).arriving = (s.market plane).arriving ++ [{ src := port, bid := b, since := s.slotNo }] ∧
      t.gate port plane = { s.gate port plane with bids := rest, wordSlot := some s.slotNo } ∧ unchangedBut [.gates, .markets] s t) ∧
  (∀ (s : State) (plane : Nat) (x : TableBid), (s.market plane).lastMatch ≠ some s.slotNo → (s.market plane).arriving = [] → (s.market plane).table = [x] →
    (s.market plane).retries = [] → s.obj .B0600 plane ≠ planeRetired → x.bid.cls = .A → s.portOpen x.src = true → s.portOpen x.bid.dst = true → (s.market plane).holds x.src (s.slotNo + 4) = false →
    (s.market plane).holds x.bid.dst (s.slotNo + 4) = false →
    ∃ t : State, exec (.marketMatch plane) s = .next t ∧
      (t.market plane).grants = (s.market plane).grants ++ [{ src := x.src, bid := { x.bid with slots := 1 }, slot := s.slotNo + 4, since := x.since }] ∧
      (t.market plane).table = (if x.bid.slots ≤ 1 then [] else [{ x with bid := { x.bid with slots := x.bid.slots - 1, sidx := x.bid.sidx + 1, cls := .B } }]) ∧
      (s.slotNo + 4, routeMatching [(x.src, x.bid.dst)]) ∈ (t.market plane).settings ∧
      unchangedBut [.markets, .objs] s t ∧ objsBut [.B0608] s t) ∧
  (∀ (s : State) (port plane : Nat) (g : Grant) (rest : List Grant) (x : Slot), takeFirst (fun g : Grant => g.src == port) (s.market plane).grants = some (g, rest) →
    s.stagedFor port plane g.bid = some x →
    ∃ t : State, exec (.grantArrival port plane) s = .next t ∧ (t.market plane).grants = rest ∧
      (t.market plane).flying = (s.market plane).flying ++
        [{ x with src := port, dst := g.bid.dst, cls := g.bid.cls, retry := g.bid.retry, slotno := g.slot, since := g.since }] ∧ unchangedBut [.markets] s t) ∧
  (∀ (s : State) (port plane : Nat) (g : Grant) (rest : List Grant), takeFirst (fun g : Grant => g.src == port) (s.market plane).grants = some (g, rest) →
    s.stagedFor port plane g.bid = none → g.slot ≤ s.slotNo → s.requesterGone port g.bid = false →
    ∃ t : State, exec (.grantArrival port plane) s = .next t ∧ (t.market plane).grants = rest ∧
      (t.gate port plane).bids = (s.gate port plane).bids ++ [{ g.bid with at' := s.time }] ∧ unchangedBut [.markets, .gates] s t) ∧
  (∀ (s : State) (port plane : Nat) (x : Slot) (rest : List Slot), takeFirst (fun x : Slot => x.src == port) (s.market plane).lost = some (x, rest) → x.retry = false →
    s.portOpen x.dst = true → s.portOpen x.src = true → x.gone = false →
    ∃ t : State, exec (.slotRetry port plane) s = .next t ∧ (t.market plane).lost = rest ∧ (t.market plane).table = (s.market plane).table ∧
      (t.market plane).retries = (s.market plane).retries ++
        [{ src := port, bid := { dst := x.dst, cls := x.cls, slots := 1, sender := x.sender, tag := x.tag, sidx := x.sidx, retry := true }, since := x.since }] ∧
      unchangedBut [.markets] s t) ∧
  (∀ (s : State) (port plane : Nat) (x : Slot) (rest : List Slot), takeFirst (fun x : Slot => x.src == port) (s.market plane).lost = some (x, rest) → x.retry = true →
    ∃ t : State, exec (.slotRetry port plane) s = .next t ∧ (t.market plane).lost = rest ∧ t.obj .B0605 port = s.obj .B0605 port + 1 ∧
      (∃ e ∈ t.log.events.take 2, e.code = evSlotFailed ∧ e.subject = port ∧ e.data = [plane, x.slotno, x.stile, x.headTag]) ∧ sameMemory s t ∧ objsBut [.B0605] s t)

/-- A slot of kind 0 that has run to its port, arrived with nothing wrong, and found room in the receive buffer when it began, is counted in B.0603 at its source and joins the receive buffer when its verdict delivers it; a slot
that the headgate finds lost, or that finds no room, is counted in B.0604 and returns to the market as lost. The oldest kind-0 payload at an I/O die's port is written into the die's landing buffer. A read request's records
join the controller's reads. The oldest read of a port, once it can be answered and with room in the headgate, is answered by one reply slot with a bid. The hourly cache scrub counts what it corrected. Where the spec leaves it open, the model's choices are those of log 7, 25, 88, 95. -/
def Obligations.SlotsAndReadsComplete : Prop :=
  (∀ (s : State) (port plane : Nat) (found : SlotFault) (x y : Slot) (rest : List Slot), (s.market plane).oldestRun port s.slotNo = some (x, rest) →
    x.judge plane found = (none, y) → (s.gate port plane).occupied x.slotno < 4 → y.dst = port → y.kind = 0 → (s.verdict y = .ok ∨ s.verdict y = .poisoned) →
    ∃ t : State, exec (.slotVerdict port plane found) s = .next t ∧ (t.market plane).flying = rest ∧ (t.gate port plane).recv = (s.gate port plane).recv ++ [y] ∧
      t.obj .B0603 x.src = s.obj .B0603 x.src + 1 ∧ objsBut [.B0603] s t ∧
      unchangedBut [.markets, .gates, .tiles, .objs, .movers, .posts, .log, .clockLost] s t) ∧
  (∀ (s : State) (port plane : Nat) (found : SlotFault) (x : Slot) (rest : List Slot), (s.market plane).oldestRun port s.slotNo = some (x, rest) →
    ((x.judge plane found).1 ≠ none ∨ 4 ≤ (s.gate port plane).occupied x.slotno) →
    ∃ t : State, exec (.slotVerdict port plane found) s = .next t ∧ (t.market plane).flying = rest ∧ (t.market plane).lost = (s.market plane).lost ++ [x] ∧
      t.obj .B0604 port = s.obj .B0604 port + 1 ∧ objsBut [.B0603, .B0604] s t ∧ unchangedBut [.markets, .objs, .log, .clockLost] s t) ∧
  (∀ (s : State) (port plane i : Nat) (x : Slot) (rest : List Slot), s.mem.wf →
    takeFirst (fun x : Slot => x.kind != 2 && x.kind != 4) (s.gate port plane).recv = some (x, rest) → x.kind = 0 → iodOfPort port = some i →
    let a := landingAddr i (32 * x.taddr)
    ∃ t : State, exec (.receiveBufferDrain port plane) s = .next t ∧ (t.gate port plane).recv = rest ∧ sameMemory (s.putUnits a x.payload) t ∧
      bytesOutside a (a + 32 * x.payload.length) s t ∧ unchangedBut [.gates, .mem, .poison, .movers, .iods] s t) ∧
  (∀ (s : State) (port plane : Nat) (x : Slot) (rest : List Slot), takeFirst (fun x : Slot => x.kind == 4) (s.gate port plane).recv = some (x, rest) →
    ∃ t : State, exec (.racReadRequest port plane) s = .next t ∧ (t.gate port plane).recv = rest ∧
      (t.field (fieldOf port)).reads = (s.field (fieldOf port)).reads ++
        (((((List.range 46).filterMap (fun i => x.payload[8 * i]?)).map (fun u => readRec u.data)).filter (fun r => r.len != 0)).map
          (fun r => { port := port, record := r, sent := false, answer := none })) ∧
      unchangedBut [.gates, .fields] s t) ∧
  (∀ (s : State) (port ce : Nat) (ue : List Nat) (j : ReadJob) (rest : List ReadJob) (c : Code) (l : List Cell32),
    takeFirst (fun j : ReadJob => j.port == port) (s.field (fieldOf port)).reads = some (j, rest) → s.readAnswer j ue = some (c, l) →
    (s.gate port (s.effPlane (j.record.rid % 8))).staging.length < 8 → (s.gate port (s.effPlane (j.record.rid % 8))).bids.length < 64 →
    ∃ (t : State) (x : Slot), exec (.racReadReply port ue ce) s = .next t ∧ (t.field (fieldOf port)).reads = rest ∧
      (t.gate port (s.effPlane (j.record.rid % 8))).staging = (s.gate port (s.effPlane (j.record.rid % 8))).staging ++ [x] ∧ x.dst = j.record.rport ∧ x.rid = j.record.rid ∧
      x.kind = j.record.rkind ∧ x.cls = j.record.cls ∧ x.payload = l ∧ x.code = codeNum c ∧ x.reply = true ∧
      (t.gate port (s.effPlane (j.record.rid % 8))).bids.length = (s.gate port (s.effPlane (j.record.rid % 8))).bids.length + 1 ∧
      unchangedBut [.fields, .gates, .objs, .log, .poison] s t) ∧
  (∀ (s : State) (field ce : Nat), (s.field field).scrubAt + 3600000000000 ≤ s.time →
    ∃ t : State, exec (.fieldCacheScrub field ce []) s = .next t ∧ t.obj .B060E field = s.obj .B060E field + ce ∧
      (t.field field).scrubAt = s.time ∧ objsBut [.B060E] s t ∧ unchangedBut [.objs, .fields] s t)

/-- The oldest open that names this port, no open ticket of its number, and finds ticket and cells opens its ticket with its deadline; otherwise it is refused. A contribution accepted at its verdict
joins its ticket at a site. A ticket with its count is complete, and one whose deadline passes first, with no contribution of it left to merge, is complete with a code no better than MERGE_TIMEOUT, counted in B.060C; a result
that no sleeping bank refuses does not end ACCESS_DENIED. Where the spec leaves it open, the model's choices are those of log 26, 27. -/
def Obligations.MergeCommandsComplete : Prop :=
  (∀ (s : State) (port : Nat) (o : OpenReq) (q : List OpenReq), (s.station port).opens = o :: q → o.port = port → (s.station port).ticket o.ticket.ticket = none →
    (s.station port).openTickets.length < 64 → (s.station port).cells + o.ticket.flits ≤ 384 →
    ∃ t : State, exec (.mergeOpenAccept port) s = .next t ∧
      t.station port = { opens := q, tickets := (s.station port).tickets ++ [{ o.ticket with deadline := s.time + 100 * o.dl }] } ∧ unchangedBut [.stations] s t) ∧
  (∀ (s : State) (port : Nat) (o : OpenReq) (q : List OpenReq), (s.station port).opens = o :: q →
    (o.port ≠ port ∨ (s.station port).ticket o.ticket.ticket ≠ none ∨ 64 ≤ (s.station port).openTickets.length ∨ 384 < (s.station port).cells + o.ticket.flits) →
    ∃ t : State, exec (.mergeOpenAccept port) s = .next t ∧ t.station port = { s.station port with opens := q } ∧
      t.log.events.head?.map (fun e => e.code) = some evMergeRefused ∧ unchangedBut [.stations, .tiles, .log] s t) ∧
  (∀ (s : State) (port plane : Nat) (x : Slot) (rest : List Slot) (k : Ticket), takeFirst (fun x : Slot => x.kind == 2) (s.gate port plane).recv = some (x, rest) →
    iodOfPort port = none → (s.station port).ticket (x.taddr % 65536) = some k → k.fin = none → k.contribs.length < k.expected →
    ∃ t : State, exec (.mergeContribution port plane) s = .next t ∧ (t.gate port plane).recv = rest ∧
      t.station port = (s.station port).put { k with contribs := k.contribs ++ [x.payload] } ∧ unchangedBut [.gates, .stations] s t) ∧
  (∀ (s : State) (port ticket : Nat) (k : Ticket), (s.station port).ticket ticket = some k → k.fin = none → k.expected ≤ k.contribs.length →
    ∃ (t : State) (c : Code), exec (.mergeResultWrite port ticket) s = .next t ∧ t.station port = (s.station port).put { k with fin := some c } ∧
      (c = .ok ∨ c = .poisoned ∨ c = .accessDenied) ∧ ((∀ b, (s.tile port k.tile).bank b = { st := .on, change := none }) → c ≠ .accessDenied)) ∧
  (∀ (s : State) (port ticket : Nat) (k : Ticket), iodOfPort port = none → (s.station port).ticket ticket = some k → k.fin = none → k.contribs.length < k.expected →
    k.deadline ≤ s.time → s.waitingContribs port ticket = 0 →
    ∃ (t : State) (c : Code), exec (.mergeDeadline port ticket) s = .next t ∧ t.station port = (s.station port).put { k with fin := some c } ∧
      (c = .mergeTimeout ∨ c = .poisoned ∨ c = .accessDenied) ∧ ((∀ b, (s.tile port k.tile).bank b = { st := .on, change := none }) → c ≠ .accessDenied) ∧ t.obj .B060C port = s.obj .B060C port + 1 ∧ t.log.events.head?.map (fun e => e.code) = some evMergeExpired)

/-- An orderly withdrawal of a port in service refuses bids from the next frame on. An abrupt one shows the port withdrawn at once and raises PORT_WITHDRAWN. A withdrawn or dormant port whose test has
passed on every plane in service, and whose zone has realigned, returns to service and PORT_RESTORED is raised. A plane retires once: B.0600 shows it and PLANE_RETIRED is raised. A tree whose
light source is to change has the ports of its tree withheld for the first frame in which no slot has been granted. A path test that a port out of service passes is remembered. -/
def Obligations.PortAndPlaneCommandsComplete : Prop :=
  (∀ (s : State) (port : Nat), s.inService port = true → (∀ x ∈ s.withdrawing, x.1 ≠ port) →
    ∃ t : State, exec (.orderlyWithdrawal port) s = .next t ∧ t.withdrawing = mapSet s.withdrawing port (s.frameNo + 1) ∧ unchangedBut [.withdrawing] s t) ∧
  (∀ (s : State) (port : Nat) (supply : Bool), s.inService port = true →
    ∃ t : State, exec (.abruptWithdrawal port supply) s = .next t ∧ t.obj .B0601 port = portWithdrawn ∧
      t.log.events.head?.map (fun e => (e.code, e.subject, e.data)) = some (evPortWithdrawn, port, [1]) ∧
      (∀ p, p ≠ port → t.obj .B0601 p = s.obj .B0601 p) ∧ (∀ x ∈ t.withdrawing, x.1 ≠ port) ∧ sameMemory s t) ∧
  (∀ (s : State) (port : Nat), s.kept = [] → (s.obj .B0601 port = portWithdrawn ∨ s.obj .B0601 port = portDormant) →
    s.power.realigning.contains (zoneOf port) = false →
    (∀ pl, pl < 8 → s.obj .B0600 pl = planeRetired ∨ ∃ f, ((port, pl), f) ∈ s.pathOk ∧ f < s.frameNo) → s.passed 3 port = true →
    ∃ t : State, exec (.portRestore port) s = .next t ∧ t.obj .B0601 port = portInService ∧
      (∀ p, p ≠ port → t.obj .B0601 p = s.obj .B0601 p) ∧ sameMemory s t) ∧
  (∀ (s : State) (plane cause : Nat), s.obj .B0600 plane ≠ planeRetired →
    ∃ t : State, exec (.planeRetire plane cause) s = .next t ∧ t.obj .B0600 plane = planeRetired ∧
      t.log.events.head?.map (fun e => (e.code, e.data)) = some (evPlaneRetired, [plane, cause]) ∧ objsBut [.B0600] s t ∧ sameMemory s t) ∧
  (∀ (s : State) (plane tree p : Nat), plane < 8 → tree < 7 → s.switchDue (setOfTree plane tree) = true → p ∈ treePorts tree →
    let f := (s.slotNo + 4) / 8 + 1
    ∃ t : State, exec (.bundleRecoveryFrame (setOfTree plane tree / 6) plane tree) s = .next t ∧
      (p, 8 * f, 8 * f + 8) ∈ (t.market plane).withheld ∧
      t.log.events.head?.map (fun e => e.code) = some evBundleRecovery ∧ unchangedBut [.markets, .aCond, .log] s t) ∧
  (∀ (s : State) (port plane : Nat), s.obj .B0600 plane ≠ planeRetired → s.inService port = false → s.treeDark plane (port / 16) = false →
    ∃ t : State, exec (.pathTest port plane true) s = .next t ∧ ((port, plane), s.frameNo) ∈ t.pathOk ∧ (∀ x ∈ s.pathOk, x.1 ≠ (port, plane) → x ∈ t.pathOk) ∧ unchangedBut [.pathOk] s t)

/-- From start-up stage 4 on, while no unit acts, an ADMIT, a PROMPT, a CANCEL and a message of unknown type are kept. An ADMIT that no rule refuses makes its stream and is answered STATUS OK; one that a rule refuses is answered ACCESS_DENIED, changes no stream and raises STREAM_REFUSED.
An ADMIT that names the X− neighbour is that panel's request for a reserve in the mirror region, made where it fits.
A PROMPT of at most 1,020 tokens touches its stream, which goes from admitted to prefill when a token falls in its stretch; a longer one, and a message of unknown type or wrong length, is answered BUS_ERROR with STREAM_REFUSED. A CANCEL of a stream of several panels that nothing has touched and whose admission is not complete
frees it here and at its mirror holder and is answered ABORTED; of a touched stream with a wave of its replica in flight it is remembered. A query touches its stream and is kept; a head record makes the stretch that holds the next position the head. The
admission hold's end frees an untouched stream and raises STREAM_REFUSED. Where the spec leaves it open, the model's choices are those of log 9, 43, 44, 45, 46, 49, 50. -/
def Obligations.ServingMessagesComplete : Prop :=
  (∀ (s : State) (stream pl k sb reserve sampling : Nat) (latency mok : Bool) (table : List Nat), s.cuActs 1 = false → 4 ≤ s.startup.stage →
    exec (.admitStream stream pl k sb reserve latency sampling table mok) s =
      .next { s with kept := s.kept ++ [.admitStream stream pl k sb reserve latency sampling table mok] }) ∧
  (∀ (s : State) (stream position : Nat) (tokens : List Nat) (complete : Bool) (head : BitVec 128) (body : List (BitVec 8)), s.cuActs 1 = false → 4 ≤ s.startup.stage →
    servingFits head body = false →
    exec (.prompt stream position tokens) s = .next { s with kept := s.kept ++ [.prompt stream position tokens] } ∧
    exec (.cancel stream complete) s = .next { s with kept := s.kept ++ [.cancel stream complete] } ∧
    exec (.unknownServingMessage head body) s = .next { s with kept := s.kept ++ [.unknownServingMessage head body] }) ∧
  (∀ (s : State) (stream pl k sb reserve sampling : Nat) (latency mok : Bool) (table : List Nat), s.cuActs 1 = true →
    s.admitRefusal stream pl k sb reserve latency table mok = none →
    ∃ (t : State) (x : Stream), exec (.admitStream stream pl k sb reserve latency sampling table mok) s = .next t ∧ t.stream stream = some x ∧ x.id = stream ∧
      x.k = k ∧ x.sb = sb ∧ x.reserve = reserve ∧ x.latency = latency ∧ x.table = table ∧ x.promptLen = pl ∧ x.touched = false ∧ x.cancelled = false ∧
      x.isHead = ((pl - 1) / 256 / sb == k) ∧ (∀ i, i ≠ stream → t.stream i = s.stream i) ∧ t.out = s.out ++ [servingMsg 5 .ok (stream % 2 ^ 32) 1 []] ∧
      unchangedBut [.streams, .iods, .objs, .out] s t ∧ objsBut [.X070D, .X0702, .X0F07] s t) ∧
  (∀ (s : State) (stream pl k sb reserve sampling r : Nat) (latency mok : Bool) (table : List Nat), s.cuActs 1 = true →
    (s.mirrorOwner = none ∨ table[k]? ≠ s.mirrorOwner) → s.admitRefusal stream pl k sb reserve latency table mok = some r →
    ∃ t : State, exec (.admitStream stream pl k sb reserve latency sampling table mok) s = .next t ∧ t.out = s.out ++ [servingMsg 5 .accessDenied (stream % 2 ^ 32) 1 []] ∧
      t.log.events.head?.map (fun e => (e.code, e.subject)) = some (evStreamRefused, stream) ∧ unchangedBut [.out, .log] s t) ∧
  (∀ (s : State) (stream pl k sb reserve sampling owner : Nat) (latency mok : Bool) (table : List Nat), s.cuActs 1 = true → s.mirrorOwner = some owner →
    table[k]? = some owner → reserve ≠ 0 → s.mirrorOn = true → s.mirrorUsed + s.reserveBytes reserve ≤ 2 ^ 40 →
    ∃ t : State, exec (.admitStream stream pl k sb reserve latency sampling table mok) s = .next t ∧ t.out = s.out ++ [.mirrorAnswer owner stream .ok] ∧
      mapGet 0 t.recovery.mirrorRes stream = reserve ∧ unchangedBut [.out, .recovery] s t) ∧
  (∀ (s : State) (stream position : Nat) (tokens : List Nat) (x : Stream), s.cuActs 1 = true → s.stream stream = some x → x.id = stream → s.stream (adoptedKey stream) = none →
    s.recovery.fenced.contains stream = false → tokens.length ≤ 1020 →
    let placed : List (Nat × Nat) := (tokens.zipIdx.map (fun p => (position + p.2, p.1))).filter (fun p => decide (p.1 < x.promptLen) && p.1 / 256 / x.sb == x.k)
    ∃ t : State, exec (.prompt stream position tokens) s = .next t ∧
      t.stream stream = some { x with touched := true, prompt := placed.foldl (fun m p => mapSet m p.1 p.2) x.prompt
                                      st := if x.st = .admitted ∧ placed ≠ [] then .prefill else x.st } ∧
      (∀ i, i ≠ stream → t.stream i = s.stream i) ∧ unchangedBut [.streams] s t) ∧
  (∀ (s : State) (stream position : Nat) (tokens : List Nat), s.cuActs 1 = true → 1020 < tokens.length →
    ∃ t : State, exec (.prompt stream position tokens) s = .next t ∧ t.out = s.out ++ [servingMsg 5 .busError (stream % 2 ^ 32) 2 []] ∧
      t.log.events.head?.map (fun e => (e.code, e.subject)) = some (evStreamRefused, stream) ∧ unchangedBut [.out, .log] s t) ∧
  (∀ (s : State) (head : BitVec 128) (body : List (BitVec 8)), s.cuActs 1 = true → servingFits head body = false →
    ∃ t : State, exec (.unknownServingMessage head body) s = .next t ∧ t.out = s.out ++ [servingMsg 5 .busError (fld head 32 32 % 2 ^ 32) (fld head 0 8) []] ∧
      t.log.events.head?.map (fun e => (e.code, e.subject)) = some (evStreamRefused, fld head 32 32) ∧ unchangedBut [.out, .log] s t) ∧
  (∀ (s : State) (stream : Nat) (x : Stream), s.cuActs 1 = true → s.stream stream = some x → x.id = stream → s.stream (adoptedKey stream) = none →
    s.recovery.fenced.contains stream = false → x.touched = false → 1 < x.table.length →
    ∃ t : State, exec (.cancel stream false) s = .next t ∧ t.stream stream = none ∧ (∀ i, i ≠ stream → t.stream i = s.stream i) ∧
      t.out = s.out ++ (if s.mirrorOn ∧ s.mirrorHolder ≠ s.panelId then [.blocksFree s.mirrorHolder (stream % 2 ^ 32)] else []) ++
        [servingMsg 5 .aborted (stream % 2 ^ 32) 4 []] ∧ sameMemory s t) ∧
  (∀ (s : State) (stream : Nat) (complete : Bool) (x : Stream) (w : Wave), s.cuActs 1 = true → s.stream stream = some x → x.id = stream → s.stream (adoptedKey stream) = none →
    s.recovery.fenced.contains stream = false → x.touched = true → w ∈ s.waveList → w.replica = x.replica →
    ∃ t : State, exec (.cancel stream complete) s = .next t ∧ t.stream stream = some { x with cancelled := true } ∧ unchangedBut [.streams, .recovery] s t) ∧
  (∀ (s : State) (stream layer position : Nat) (prefill : Bool) (x : Stream), s.stream stream = some x → x.id = stream → s.stream (adoptedKey stream) = none →
    ∃ (t : State) (y : Stream), exec (.queryArrival stream layer position prefill) s = .next t ∧ t.stream stream = some y ∧ y.touched = true ∧ (layer, prefill, position) ∈ y.queries ∧
      (∀ l ∈ x.queries, l ∈ y.queries) ∧ y.position = (if x.isHead ∨ prefill then x.position else position) ∧ unchangedBut [.streams] s t) ∧
  (∀ (s : State) (stream position sampling token : Nat) (x : Stream), s.stream stream = some x → x.id = stream → s.stream (adoptedKey stream) = none →
    x.isHead = false → (position + 1) / 256 / x.sb = x.k →
    ∃ (t : State) (y : Stream), exec (.headRecordReceive stream position sampling token) s = .next t ∧ t.stream stream = some y ∧ y.isHead = true ∧
      y.position = position + 1 ∧ y.delivered = position ∧ y.sampling = sampling ∧ y.lastToken = token ∧ y.st = .ready ∧ y.layer = 0 ∧ unchangedBut [.streams] s t) ∧
  (∀ (s : State) (stream : Nat) (x : Stream), s.stream stream = some x → x.id = stream → x.touched = false →
    x.admittedAt + s.obj .X070F 0 * 10 ^ 9 ≤ s.time →
    ∃ t : State, exec (.admitHoldExpiry stream) s = .next t ∧ t.stream stream = none ∧
      t.log.events.head?.map (fun e => (e.code, e.subject, e.data)) = some (evStreamRefused, stream, [codeNum .aborted, 156]) ∧ sameMemory s t)

/-- The head whose sampled token's mirror copy is complete sends TOKEN; with the plan's end token it sends END with reason 0, tells the stream's other holders and mirror holders to free its blocks, and frees the stream, and otherwise, inside its stretch and
reserve, turns to the next position. When the mirror wait has passed first, it raises MIRROR_LATE and sends TOKEN all the same. Once the wave in which it failed has ended, a faulted stream's token runs again from layer 0; one that could not run within 2 s ends. Where the spec leaves it open, the model's choices are those of log 44, 46, 47. -/
def Obligations.TokenCommandsComplete : Prop :=
  let told (s : State) (x : Stream) : List Sent :=
    (((x.table.map s.holderOf) ++ (if s.mirrorOn then x.table.map (fun p => s.neighbour p 0) else [])).eraseDups.filter (fun p => p != s.panelId)).map
      (fun p => .blocksFree p (x.id % 2 ^ 32))
  (∀ (s : State) (stream token : Nat) (x : Stream), s.stream stream = some x → x.id = stream → s.cuActs 1 = true → x.isHead = true → x.st = .sampled →
    x.cancelled = false → s.recovery.fenced.contains stream = false → s.mirrored x = true →
    ∃ t : State, exec (.tokenSend stream token true) s = .next t ∧ t.stream stream = none ∧ sameMemory s t ∧
      t.out = s.out ++ [servingMsg 3 .ok (stream % 2 ^ 32) x.position [token], servingMsg 6 .ok (stream % 2 ^ 32) x.position [0]] ++ told s x) ∧
  (∀ (s : State) (stream token : Nat) (x : Stream), s.stream stream = some x → x.id = stream → s.cuActs 1 = true → x.isHead = true → x.st = .sampled →
    x.cancelled = false → s.recovery.fenced.contains stream = false → s.mirrored x = true → x.position + 1 < 2 ^ 32 →
    (x.position + 1) / 256 < (x.k + 1) * x.sb → (x.position + 1) / 256 - x.k * x.sb < x.reserve →
    ∃ t : State, exec (.tokenSend stream token false) s = .next t ∧
      t.stream stream = some { x with delivered := x.position, lastToken := token, mirrorSent := none, st := .ready, layer := 0, readyAt := s.time
                                      position := x.position + 1 } ∧
      t.out = s.out ++ [servingMsg 3 .ok (stream % 2 ^ 32) x.position [token]] ∧ unchangedBut [.streams, .out] s t) ∧
  (∀ (s : State) (stream token sent : Nat) (x : Stream), s.stream stream = some x → x.id = stream → x.mirrorSent = some sent → s.cuActs 1 = true → x.isHead = true →
    x.st = .sampled → x.cancelled = false → s.recovery.fenced.contains stream = false → s.mirrored x = false → sent + s.obj .X070A 0 * 1000 ≤ s.time →
    ∃ t : State, exec (.mirrorWaitExpiry stream token true) s = .next t ∧ t.stream stream = none ∧ sameMemory s t ∧
      t.log.events.head?.map (fun e => (e.code, e.subject)) = some (evMirrorLate, stream) ∧
      t.out = s.out ++ [servingMsg 3 .ok (stream % 2 ^ 32) x.position [token], servingMsg 6 .ok (stream % 2 ^ 32) x.position [0]] ++ told s x) ∧
  (∀ (s : State) (stream : Nat) (x : Stream), s.stream stream = some x → x.st = .faulted → (∀ w ∈ s.waveList, stream ∉ w.batch) →
    ∃ t : State, exec (.streamTokenRerun stream) s = .next t ∧ t.stream stream = some { x with st := .ready, layer := 0, readyAt := s.time } ∧
      unchangedBut [.streams] s t) ∧
  (∀ (s : State) (stream : Nat) (x : Stream), s.stream stream = some x → x.id = stream → x.st = .faulted → x.faultedAt + 2 * 10 ^ 9 ≤ s.time →
    ∃ t : State, exec (.streamFaultTimeout stream) s = .next t ∧ t.stream stream = none ∧ sameMemory s t)

/-- With nothing waiting for the boundary, no stream cancelled and the dispatch passed by the comparator where a unit shadows it, a wave type of the plan whose batch is not empty, on a serving replica with a free slot and room for another wave, is dispatched with the next wave number, which
X.0706 counts. A wave whose tiles have all issued END leaves its slot. An aborted wave runs again with its number and inputs. A plan load is refused with ACCESS_DENIED while a stream is admitted; otherwise it begins; once decryption and hashing have had their time, with no fault found it ends ready with the
new plan and its generation, and with a fault of steps 1 to 4 in the state before it, raising PLAN_REFUSED. Where the spec leaves it open, the model's choices are those of log 20, 43, 48, 64. -/
def Obligations.WaveAndPlanCommandsComplete : Prop :=
  (∀ (s : State) (replica wt slot layer : Nat) (wp : List (BitVec 32)) (img : PlanImage) (e : Nat) (prefill : Bool), s.commits = [] → s.shadow = [] →
    s.passed 0 s.plan.nextWave = true → (∀ x ∈ s.streamList, x.cancelled = false) → s.cuActs 0 = true → s.plan.image = some img → img.waveTypes.find? (fun e => e.1 == wt) = some (e, layer, prefill) →
    (List.range 4).find? (fun k => (s.wave replica k).isNone) = some slot → s.obj .X0700 0 = planServing → s.obj .X0F03 replica = 0 →
    s.batch replica img.chunk layer prefill ≠ [] → (s.waveList.filter (fun w => w.replica == replica)).length < s.obj .X0705 0 → s.plan.nextWave < 2 ^ 32 →
    ∃ (t : State) (w : Wave), exec (.waveDispatch replica wt wp) s = .next t ∧ t.wave replica slot = some w ∧ w.number = s.plan.nextWave ∧ w.waveType = wt ∧
      w.prefill = prefill ∧ w.batch = (s.batch replica img.chunk layer prefill).map (fun x => x.id) ∧ w.wp = wp ∧ w.aborted = false ∧
      t.plan.nextWave = (s.plan.nextWave + 1) % 2 ^ 32 ∧ t.obj .X0706 0 = s.obj .X0706 0 + 1 ∧ (img.summaries = [] → img.batchAt = [] → sameMemory s t)) ∧
  (∀ (s : State) (replica slot : Nat) (w : Wave) (img : PlanImage), s.wave replica slot = some w → s.plan.image = some img → w.aborted = false → s.waveOver w = true →
    ∃ t : State, exec (.waveEnd replica slot) s = .next t ∧ t.wave replica slot = none ∧ sameMemory s t) ∧
  (∀ (s : State) (replica slot : Nat) (w : Wave) (img : PlanImage), s.wave replica slot = some w → w.replica = replica → w.slot = slot → s.plan.image = some img →
    w.aborted = true → s.cuActs 0 = true → s.obj .X0F03 replica = 0 →
    ∃ t : State, exec (.waveRerun replica slot) s = .next t ∧ (img.summaries = [] → img.batchAt = [] → sameMemory s t) ∧
      t.wave replica slot = some { w with aborted := false, trapped := w.trapped ++ w.trappedNow, trappedNow := [] }) ∧
  (∀ (s : State) (img : PlanImage), s.obj .X0702 0 ≠ 0 → exec (.planLoad img) s = .next { s with out := s.out ++ [.planAnswer .accessDenied] }) ∧
  (∀ (s : State) (img : PlanImage), s.obj .X0702 0 = 0 → s.obj .X0700 0 ≠ planLoading → loadAllowed (s.obj .I0D05 0) = true →
    ∃ t : State, exec (.planLoad img) s = .next t ∧ t.obj .X0700 0 = planLoading ∧ t.plan = { s.plan with before := s.obj .X0700 0, loading := some (checkImage img), loadAt := s.time } ∧
      objsBut [.X0700] s t ∧ unchangedBut [.objs, .plan] s t) ∧
  (∀ (s : State) (img : PlanImage), s.plan.loading = some img → s.plan.loadAt + loadTime img ≤ s.time → s.planFault img = none →
    ∃ t : State, exec .planLoadDone s = .next t ∧ t.obj .X0700 0 = planReady ∧ t.obj .X0701 0 = img.generation ∧ t.obj .X0704 0 = img.waveBatch ∧
      t.obj .X0705 0 = img.wavesInFlight ∧ t.plan.image = some img ∧ t.plan.loading = none ∧ t.store.lastGen = img.generation) ∧
  (∀ (s : State) (img : PlanImage) (step sect : Nat), s.plan.loading = some img → s.plan.loadAt + loadTime img ≤ s.time → s.planFault img = some (step, sect) → step < 5 →
    ∃ t : State, exec .planLoadDone s = .next t ∧ t.obj .X0700 0 = s.plan.before ∧ t.plan = { s.plan with loading := none } ∧
      t.log.events.head?.map (fun e => (e.code, e.data)) = some (evPlanRefused, [step, sect]) ∧ sameMemory s t)

/-- A laser's power loop shows the reading and moves the bias toward the set power by a free step, at most to 140 % of the commissioning bias. An armed reserve that matches within 5 GHz and 0.2 dB, in a withheld frame, lights its set. A set that waits
for its partner's light, in a withheld frame, takes it when the partner can carry and is dark when it cannot; unless it is an emergency the partner's split is even first. A fade of more than 3 dB of the laser that lights a tree asks for the partner's light and raises FAST_FADE. A lamp die reads lost, once. A ring's heater moves by at most
600 MHz within its 2,400 GHz; beyond 25 GHz the ring is unlocked and L.080E counts it, and within 4 GHz it is locked again. Of a place that is lit and due, two undisturbed measurements that agree and are plausible are accepted, any others are counted in L.080C, and a disturbed pair only has its time noted. A relit die's trees have their own light. Where the spec leaves it open, the model's choices are those of log 2, 51, 52, 93. -/
def Obligations.LightCommandsComplete : Prop :=
  (∀ (s : State) (laser : Nat) (pd : Int),
    ∃ t : State, exec (.laserPowerLoop laser pd) s = .next t ∧ (t.laser laser).power = pd ∧ t.obj .L0801 laser = ratF32 pd 1000 ∧
      (t.laser laser).bias = (if pd < s.setPower laser then min 14000 ((s.laser laser).bias + Config.biasStep s.freeCount)
        else if s.setPower laser < pd then (s.laser laser).bias - Config.biasStep s.freeCount else (s.laser laser).bias) ∧
      t.freeCount = s.freeCount + 1 ∧ unchangedBut [.lasers, .objs, .log, .freeCount, .carryWanted, .ramps, .splits, .urgent] s t ∧ objsBut [.L0801, .L0802] s t) ∧
  (∀ (s : State) (laser set : Nat) (g d : Int), laserSet laser = some set → (s.laser laser).armed = true → g.natAbs ≤ 5 → d.natAbs ≤ 200 →
    s.lampLost (set / 6) = false → s.treeHeld set = true →
    ∃ t : State, exec (.reserveSwitch laser g d) s = .next t ∧ t.lightOf set (laserWave laser) = .reserve ∧ (t.laser laser).armed = false ∧
      t.obj .L0803 (5 * laserDie laser + laserWave laser) = set % 6 ∧ (set, laserWave laser) ∉ t.carryWanted ∧ sameMemory s t) ∧
  (∀ (s : State) (die set w : Nat), (6 * die + set, w) ∈ s.carryWanted → s.treeHeld (6 * die + set) = true →
    ((6 * die + set, w) ∈ s.urgent ∨ baseTree (6 * die + set) = none ∨ s.splitNow2 (partnerSet (6 * die + set)) w = 6600 ∨ s.canCarry (6 * die + set) w = false) →
    ∃ t : State, exec (.carrySwitch die set w) s = .next t ∧ t.lightOf (6 * die + set) w = (if s.canCarry (6 * die + set) w then .carry else .dark) ∧ sameMemory s t) ∧
  (∀ (s : State) (laser set drop : Nat), 3000 < drop → s.servedSet laser = some set → (set, laserWave laser) ∉ s.carryWanted →
    ∃ t : State, exec (.fastFade laser drop) s = .next t ∧ t.carryWanted = s.carryWanted ++ [(set, laserWave laser)] ∧
      t.log.events.head?.map (fun e => (e.code, e.subject, e.data)) = some (evFastFade, laserDie laser, [laser, ratF32 drop 1000]) ∧ unchangedBut [.carryWanted, .urgent, .log] s t) ∧
  (∀ (s : State) (die cause : Nat), s.lampLost die = false →
    ∃ t : State, exec (.lampDieLost die cause) s = .next t ∧ t.obj .L0800 die = 2 ∧ sameMemory s t) ∧
  (∀ (s : State) (die cause : Nat), s.lampLost die = true → exec (.lampDieLost die cause) s = .next s) ∧
  (∀ (s : State) (ring : Nat) (offset : Int),
    ∃ t : State, exec (.ringTrack ring offset) s = .next t ∧ mapGet 0 t.heaters ring = max 0 (min 2400000 (s.heaterOf ring + max (-600) (min 600 (1000 * offset)))) ∧
      (∀ k, k ≠ ring → mapGet 0 t.heaters k = mapGet 0 s.heaters k) ∧
      (25 < offset.natAbs → ring ∉ s.unlocked → ring ∈ t.unlocked ∧ t.obj .L080E 0 = s.obj .L080E 0 + 1) ∧
      (offset.natAbs ≤ 4 → ring ∉ t.unlocked) ∧ sameMemory s t) ∧
  (∀ (s : State) (q place : Nat) (a b : CalMeas), q < 4 → s.calDue q place = true → s.calDisturbed q place = false → s.calPlausible q place a = true →
    s.calPlausible q place b = true → (s.calResult q place a - s.calResult q place b).natAbs ≤ calTolerance q →
    ∃ t : State, exec (.calibration q place a b) s = .next t ∧ t.calAt = mapSet s.calAt (q, place) s.time ∧
      t.cal = mapSet s.cal (q, place) { from2 := s.calNow2 q place, target2 := s.calResult q place a + s.calResult q place b, since := s.time, count := s.calAccepted q place + 1 } ∧
      unchangedBut [.cal, .calAt] s t) ∧
  (∀ (s : State) (q place : Nat) (a b : CalMeas), q < 4 → s.calDue q place = true → s.calDisturbed q place = false →
    (s.calPlausible q place a = false ∨ s.calPlausible q place b = false ∨ calTolerance q < (s.calResult q place a - s.calResult q place b).natAbs) →
    ∃ t : State, exec (.calibration q place a b) s = .next t ∧ t.obj .L080C 0 = s.obj .L080C 0 + 1 ∧ t.cal = s.cal ∧ objsBut [.L080C] s t ∧
      unchangedBut [.objs, .calAt, .calEv, .log] s t) ∧
  (∀ (s : State) (q place : Nat) (a b : CalMeas), q < 4 → s.calDue q place = true → s.calDisturbed q place = true →
    exec (.calibration q place a b) s = .next { s with calAt := mapSet s.calAt (q, place) s.time }) ∧
  (∀ (s : State) (die : Nat), die < 12 → s.lampLost die = true → s.zoneOn (zoneOfIod (die / 3)) = true →
    (∀ i, i < 6 → (∃ w ∈ litWaves (6 * die + i), s.lightOf (6 * die + i) w = .carry) → s.treeHeld (6 * die + i) = true) →
    ∃ t : State, exec (.carryReturn die) s = .next t ∧ (∀ i w, i < 6 → w ∈ litWaves (6 * die + i) → t.lightOf (6 * die + i) w = .own) ∧ sameMemory s t)

/-- Outside the compatibility modes, with its ring locked, a lane in ACQUIRE or RECOVERY that locks is UP; an UP lane whose codewords fail is in RECOVERY; one in RECOVERY for 1 ms, or whose retry of ACQUIRE has found no lock in 1 ms, is DOWN; a DOWN lane is in ACQUIRE 10 ms after it went DOWN or last tried. In a compatibility mode the
standard's own alignment of the lane is held instead. Each change raises LANE_STATE with the
old and the new state. A second's end counts symbols and codewords and shows the corrected bits over the bits received. An empty DR8 buffer sends error symbols and raises DR8_UNDERRUN. Where the spec leaves it open, the model's choices are those of log 52, 97. -/
def Obligations.LaneCommandsComplete : Prop :=
  let entered (s t : State) (lane st : Nat) : Prop :=
    t.obj .L0806 lane = st ∧ (t.lane lane).since = s.time ∧
    t.log.events.head?.map (fun e => (e.code, e.subject, e.data)) = some (evLaneState, lane, [lane, s.obj .L0806 lane, st]) ∧
    (∀ k, k ≠ lane → t.obj .L0806 k = s.obj .L0806 k) ∧ objsBut [.L0806] s t ∧ unchangedBut [.objs, .lanes, .log] s t
  (∀ (s : State) (lane : Nat), (s.obj .L0806 lane = 1 ∨ s.obj .L0806 lane = 3) → s.laneCompat lane = false → (∀ r ∈ s.unlocked, 10240 ≤ r → ringLane r ≠ lane) →
    ∃ t : State, exec (.laneLock lane) s = .next t ∧ entered s t lane 2) ∧
  (∀ (s : State) (lane : Nat) (c : Bool), s.obj .L0806 lane = 2 → s.laneCompat lane = false →
    ∃ t : State, exec (.laneRecovery lane c) s = .next t ∧ entered s t lane 3) ∧
  (∀ (s : State) (lane : Nat), (s.obj .L0806 lane = 3 ∨ s.obj .L0806 lane = 1 ∧ (s.lane lane).retry = true) → s.laneCompat lane = false → (s.lane lane).since + 1000000 ≤ s.time →
    ∃ t : State, exec (.laneDown lane) s = .next t ∧ entered s t lane 4) ∧
  (∀ (s : State) (lane : Nat), s.obj .L0806 lane = 4 → s.laneCompat lane = false → (s.lane lane).tried + 10000000 ≤ s.time →
    ∃ t : State, exec (.laneAcquireRetry lane) s = .next t ∧ entered s t lane 1 ∧ (t.lane lane).retry = true ∧ (t.lane lane).tried = s.time) ∧
  (∀ (s : State) (lane : Nat), s.laneCompat lane = true →
    ∃ t : State, exec (.laneLock lane) s = .next t ∧ (t.lane lane).std = true ∧ (∀ k, t.obj .L0806 k = s.obj .L0806 k) ∧ sameMemory s t) ∧
  (∀ (s : State) (lane : Nat) (c : Bool), s.laneCompat lane = true →
    ∃ t : State, exec (.laneRecovery lane c) s = .next t ∧ (t.lane lane).std = false ∧ (∀ k, t.obj .L0806 k = s.obj .L0806 k) ∧ sameMemory s t) ∧
  (∀ (s : State) (lane corrected received symbols uncorrected : Nat),
    ∃ t : State, exec (.laneBerUpdate lane corrected received symbols uncorrected) s = .next t ∧ t.obj .L0807 lane = s.obj .L0807 lane + symbols ∧
      t.obj .L0808 lane = s.obj .L0808 lane + uncorrected ∧ (received ≠ 0 → t.obj .L0809 lane = ratF32 corrected received) ∧
      (received = 0 → t.obj .L0809 lane = s.obj .L0809 lane) ∧ objsBut [.L0807, .L0808, .L0809] s t ∧ unchangedBut [.objs, .log] s t) ∧
  (∀ (s : State) (port lanes : Nat), s.obj .L080A 0 = 2 → port < 2 → s.pmaEmpty port = true →
    ∃ t : State, exec (.dr8Underrun port lanes) s = .next t ∧ t.out = s.out ++ [.errorSymbols port lanes] ∧
      t.log.events.head?.map (fun e => (e.code, e.subject, e.data)) = some (evDr8Underrun, port, [port, lanes]) ∧ unchangedBut [.out, .log] s t)

/-- A lane's descrambler that starts as the scrambler did gives back the data bits and comes to the scrambler's state, for every data and every state. A slot's second PRBS31 scrambling undoes the first. The bytes of a slot that are sent give the slot back
when its reserved bytes are 0. Where the spec leaves it open, the model's choices are those of log 33. -/
def Obligations.LineCodeIsUndone : Prop :=
  (∀ (bits : List Bool) (st : BitVec 58), laneDescramble st (laneScramble st bits).1 = (bits, (laneScramble st bits).2)) ∧
  (∀ (bits : List Bool) (st : BitVec 31), prbsScramble st (prbsScramble st bits) = bits) ∧
  (∀ a b : List (BitVec 8), a.length = 11982 → b.length = 8 →
    slotRestored (slotSent (a ++ [0#8, 0#8] ++ b ++ List.replicate 8 0#8)) = a ++ [0#8, 0#8] ++ b ++ List.replicate 8 0#8)

/-- A changed receive mask is reported; with no lane the link is down, a link that was down is checked again, and one that was up is in recovery. A report is repeated, 1 µs after the last, while the receive stripe does not match. A lane report that calls for another stripe is
answered by a stripe change 4 codeword periods ahead; an empty one takes the link down. At the boundary the stripe switches, F.0903 shows the transmit width, and a link in recovery whose stripes both match is up. A link that is not down sends its heartbeats, 10 µs ± 0.5 µs apart; one from
the neighbour of R212 in the opposite direction is good, any other raises TORUS_MISWIRE and holds the link in checking. 30 µs without one take the link down; 1 ms of good ones with lanes UP takes a checking link up. No other link changes. Where the spec leaves it open, the model's choices are those of log 30, 34. -/
def Obligations.LinkCommandsComplete : Prop :=
  let only (s t : State) (link : Nat) : Prop :=
    (∀ n, n ≠ link → t.link n = s.link n ∧ t.linkSt n = s.linkSt n ∧ t.obj .F0903 n = s.obj .F0903 n) ∧ objsBut [.F0902, .F0903, .C0B00] s t ∧
    unchangedBut [.links, .objs, .log, .out, .recovery, .ptp] s t
  (∀ (s : State) (link mask : Nat), mask = s.upMask link → mask ≠ (s.link link).rxMask → mask ≠ 0 →
    ∃ t : State, exec (.receiveMaskChange link mask) s = .next t ∧ (t.link link).rxMask = mask ∧ (t.link link).reportAt = some s.time ∧ t.out = s.out ++ [.laneReport link mask] ∧
      (s.linkSt link = 0 → t.linkSt link = 1 ∧ (t.link link).hbGoodSince = none) ∧ (s.linkSt link = 2 → t.linkSt link = 3) ∧ only s t link) ∧
  (∀ (s : State) (link : Nat), s.upMask link = 0 → (s.link link).rxMask ≠ 0 →
    ∃ t : State, exec (.receiveMaskChange link 0) s = .next t ∧ (t.link link).rxMask = 0 ∧ t.linkSt link = 0 ∧ t.out = s.out ++ [.laneReport link 0] ∧ only s t link) ∧
  (∀ (s : State) (link : Nat), (s.link link).rxMask ≠ 0 → (s.link link).rxStripe ≠ stripeOf (s.link link).rxMask →
    dueEvent (s.link link).reportAt s.time 1000 = true →
    ∃ t : State, exec (.laneReportRepeat link) s = .next t ∧ t.out = s.out ++ [.laneReport link (s.link link).rxMask] ∧
      t.link link = { s.link link with reportAt := some s.time } ∧ (∀ k, k ≠ link → t.link k = s.link k) ∧ unchangedBut [.links, .out] s t) ∧
  (∀ (s : State) (link mask : Nat), mask % 16 ≠ 0 → stripeOf (mask % 16) ≠ (s.link link).pendTx.getD (s.link link).txStripe →
    ∃ t : State, exec (.laneReportReceive link mask) s = .next t ∧ (t.link link).farMask = mask % 16 ∧ (t.link link).pendTx = some (stripeOf (mask % 16)) ∧ (t.link link).txDue = 10 * s.time + 256 ∧
      t.out = s.out ++ [.stripeChange link (stripeOf (mask % 16)) 4] ∧ (s.linkSt link = 2 → t.linkSt link = 3) ∧ only s t link) ∧
  (∀ (s : State) (link mask : Nat), mask % 16 = 0 →
    ∃ t : State, exec (.laneReportReceive link mask) s = .next t ∧ (t.link link).farMask = 0 ∧ t.linkSt link = 0 ∧ t.out = s.out ∧ only s t link) ∧
  (∀ (s : State) (link mask after : Nat), 1 ≤ after → after ≤ 16 →
    ∃ t : State, exec (.stripeChangeReceive link mask after) s = .next t ∧ (t.link link).pendRx = some (mask % 16) ∧ (t.link link).rxDue = 10 * s.time + 64 * after ∧ (s.linkSt link = 2 → t.linkSt link = 3) ∧
      t.out = s.out ∧ only s t link) ∧
  (∀ (s : State) (link m : Nat), (s.link link).pendTx = some m → (s.link link).txDue ≤ 10 * s.time →
    ∃ t : State, exec (.stripeSwitch link true) s = .next t ∧ (t.link link).txStripe = m ∧ (t.link link).pendTx = none ∧ t.obj .F0903 link = widthOf m ∧
      t.linkSt link = (if s.linkSt link = 3 ∧ m = stripeOf (s.link link).farMask ∧ (s.link link).rxStripe = stripeOf (s.link link).rxMask then 2 else s.linkSt link) ∧
      t.out = s.out ∧ only s t link) ∧
  (∀ (s : State) (link m : Nat), (s.link link).pendRx = some m → (s.link link).rxDue ≤ 10 * s.time →
    ∃ t : State, exec (.stripeSwitch link false) s = .next t ∧ (t.link link).rxStripe = m ∧ (t.link link).pendRx = none ∧ t.obj .F0903 link = s.obj .F0903 link ∧
      t.linkSt link = (if s.linkSt link = 3 ∧ (s.link link).txStripe = stripeOf (s.link link).farMask ∧ m = stripeOf (s.link link).rxMask then 2 else s.linkSt link) ∧
      t.out = s.out ∧ only s t link) ∧
  (∀ (s : State) (link : Nat), s.linkSt link ≠ 0 → dueEvent (s.link link).hbAt s.time 9500 = true →
    let n := ((s.link link).hbSent + 1) % 2 ^ 32
    ∃ t : State, exec (.heartbeatSend link) s = .next t ∧ (t.link link) = { s.link link with hbSent := n, hbAt := some s.time } ∧ (∀ k, k ≠ link → t.link k = s.link k) ∧
      t.out = s.out ++ [.heartbeat link s.panelId n (s.link link).rxMask s.time] ∧ unchangedBut [.links, .out] s t) ∧
  (∀ (s : State) (link mask count time : Nat), s.linkSt link ≠ 0 →
    ∃ t : State, exec (.heartbeatReceive link (s.neighbour s.panelId (link % 6)) (link / 6) ((link % 6) ^^^ 1) mask count time) s = .next t ∧
      (t.link link).hbLast = s.time ∧ (t.link link).hbGoodSince ≠ none ∧ ((s.link link).hbLast + 19000 ≤ s.time → (t.link link).hbGoodSince = some s.time) ∧
      (∀ k, k ≠ link → t.link k = s.link k) ∧ unchangedBut [.links] s t) ∧
  (∀ (s : State) (link panel iod dir mask count time : Nat), s.linkSt link ≠ 0 →
    (panel ≠ s.neighbour s.panelId (link % 6) ∨ iod ≠ link / 6 ∨ dir ≠ (link % 6) ^^^ 1) →
    ∃ t : State, exec (.heartbeatReceive link panel iod dir mask count time) s = .next t ∧ t.linkSt link = 1 ∧ (t.link link).hbGoodSince = none ∧
      t.log.events.head?.map (fun e => (e.code, e.subject, e.data)) = some (evTorusMiswire, link, [link, panel, dir]) ∧ t.out = s.out ∧ only s t link) ∧
  (∀ (s : State) (link : Nat), s.linkSt link ≠ 0 → (s.link link).hbLast + 30000 ≤ s.time →
    ∃ t : State, exec (.heartbeatMiss link) s = .next t ∧ t.linkSt link = 0 ∧ t.out = s.out ∧ only s t link) ∧
  (∀ (s : State) (link g : Nat), (s.link link).hbGoodSince = some g → s.linkSt link = 1 → (s.link link).rxMask ≠ 0 → (s.link link).txStripe ≠ 0 →
    g + 1000000 ≤ s.time → s.time < (s.link link).hbLast + 19000 →
    ∃ t : State, exec (.linkUp link) s = .next t ∧ t.linkSt link = 2 ∧ t.link link = s.link link ∧ t.out = s.out ∧ only s t link)

/-- A frame whose check fails, of a version or type no engine takes, too long, or shorter than it says, changes only F.0915, by one. A frame for this panel, or from commons, goes to the engine of the I/O die it names, with its hops counted on the torus. A frame of classes B to D for another panel joins the
queue of its preferred output, with its congestion mark when that queue stands above F.0909. A frame at 96 hops is discarded and counted in F.0913. The channel cache brings the entry used to its front, F.090F counts a miss, and no pinned entry leaves.
The commons port answers a solicitation and an echo request for its own address. Where the spec leaves it open, the model's choices are those of log 35, 36, 98. -/
def Obligations.FrameCommandsComplete : Prop :=
  (∀ (s : State) (iod dir bytes : Nat) (ok : Bool) (p : Packet), (ok = false ∨ p.ver ≠ 1 ∨ p.type = 0 ∨ 11 < p.type ∨ 4096 < p.len ∨ bytes < frameBytes dir p) →
    ∃ t : State, exec (.transitFrame iod dir bytes ok p) s = .next t ∧ t.obj .F0915 iod = s.obj .F0915 iod + 1 ∧ (∀ k, k ≠ iod → t.obj .F0915 k = s.obj .F0915 k) ∧
      objsBut [.F0915] s t ∧ unchangedBut [.objs] s t) ∧
  (∀ (s : State) (iod dir bytes : Nat) (p : Packet), p.ver = 1 → 1 ≤ p.type → p.type ≤ 10 → p.len ≤ 4096 → frameBytes dir p ≤ bytes → (p.cls ≠ .A ∨ bytes ≤ 512) → (6 ≤ dir ∨ p.dpanel = s.panelId) →
    exec (.transitFrame iod dir bytes true p) s =
      .next { s with out := s.out ++ [.packet (p.diod % 4) 7 { p with hops := if dir < 6 then p.hops + 1 else p.hops }] }) ∧
  (∀ (s : State) (iod dir bytes d : Nat) (p : Packet), p.ver = 1 → 1 ≤ p.type → p.type ≤ 10 → p.len ≤ 4096 → frameBytes dir p ≤ bytes → p.cls ≠ .A → dir < 6 → p.dpanel ≠ s.panelId → p.hops < 95 →
    s.inTorus p.dpanel = true → s.preferred s.panelId p.dpanel = some d → s.outUsable iod d = true → s.outBusy iod d = false →
    s.lowBytes iod d + frameBytes d p ≤ 524288 →
    ∃ t : State, exec (.transitFrame iod dir bytes true p) s = .next t ∧
      ((t.iod iod).outQ d).bd = ((s.iod iod).outQ d).bd ++ [{ p with hops := p.hops + 1, ce := p.ce || decide (1024 * s.obj .F0909 0 < s.lowBytes iod d) }] ∧
      (∀ o, o ≠ d → (t.iod iod).outQ o = (s.iod iod).outQ o) ∧ (∀ k, k ≠ iod → t.iod k = s.iod k) ∧ unchangedBut [.iods] s t) ∧
  (∀ (s : State) (iod dir bytes : Nat) (p : Packet), p.ver = 1 → 1 ≤ p.type → p.type ≤ 10 → p.len ≤ 4096 → frameBytes dir p ≤ bytes → p.cls ≠ .A → dir < 6 → p.dpanel ≠ s.panelId → 95 ≤ p.hops →
    ∃ t : State, exec (.transitFrame iod dir bytes true p) s = .next t ∧ t.obj .F0913 iod = s.obj .F0913 iod + 1 ∧ objsBut [.F0913] s t ∧
      unchangedBut [.objs, .iods, .log] s t) ∧
  (∀ (s : State) (iod chan : Nat), chan ∈ (s.iod iod).cache →
    ∃ t : State, exec (.channelCacheFill iod chan) s = .next t ∧ (t.iod iod).cache = chan :: (s.iod iod).cache.filter (fun n => n != chan) ∧ unchangedBut [.iods] s t) ∧
  (∀ (s : State) (iod chan : Nat), chan ∉ (s.iod iod).cache →
    ∃ t : State, exec (.channelCacheFill iod chan) s = .next t ∧ (t.iod iod).cache.head? = some chan ∧ t.obj .F090F iod = s.obj .F090F iod + 1 ∧
      ((s.iod iod).cache.length < 1024 → (t.iod iod).cache = chan :: (s.iod iod).cache) ∧
      (∀ n ∈ (s.iod iod).cache, (∀ c, s.chan? iod n = some c → c.pinned = true ∧ c.live = true) → s.chan? iod n ≠ none → n ∈ (t.iod iod).cache) ∧
      ((s.iod iod).cache.length < 1024 → sameMemory s t) ∧ objsBut [.F090F] s t ∧ unchangedBut [.iods, .objs, .mem, .poison] s t) ∧
  (∀ (s : State) (port src : Nat), port < 4 → s.commonsAddr port ≠ 0 →
    exec (.neighbourSolicitation port (s.commonsAddr port) src) s = .next { s with out := s.out ++ [.neighbour port (s.commonsAddr port) src] }) ∧
  (∀ (s : State) (port src ident : Nat), port < 4 → s.commonsAddr port ≠ 0 →
    exec (.icmpEchoRequest port (s.commonsAddr port) src ident) s = .next { s with out := s.out ++ [.echo port (s.commonsAddr port) src ident] })

/-- A packet with the right check, cookie and number on a live channel of a die that is not held advances the channel's receive number by one and is noted for the next ACK, with its code when that is not OK. A MSG is handed over with its status. A COPY or WRITE whose place takes it, with no earlier write to its units waiting, writes exactly its
units and posts when asked. A READ's reply joins the send ring with the line. A reply in time answers its read and, when it may, fills the line. An INVAL drops the line, or every line, of all 56 fields, and kills fills of the line; a requester's own invalidation does so in the one field it names. A whole MERGE contribution joins its
transit ticket. A CLOSE ends what was not sent as ABORTED; with nothing left to acknowledge the channel is closed. Where the spec leaves it open, the model's choices are those of log 27, 38, 39. -/
def Obligations.PacketsInTurnComplete : Prop :=
  let inTurn (s : State) (iod type : Nat) (p : Packet) (c : Chan) : Prop :=
    p.type = type ∧ p.pcrc = pcrcOf p.payload p.len ∧ s.chan? iod p.dchan = some c ∧ c.live = true ∧ (s.iod iod).held = false ∧ p.cookie = c.cookie.toNat ∧
    p.psn = c.rcvNxt ∧ c.rcvNxt < 2 ^ 24 ∧ c.got = []
  let noted (s : State) (p : Packet) (c : Chan) (k : Code) : Chan :=
    { c.note p.ce s.time with rcvNxt := (c.rcvNxt + 1) % 2 ^ 24, rfree := (c.rfree + 1) % 65536
                              ackEntries := c.ackEntries ++ (if k = .ok then [] else [(p.psn, codeNum k)]) }
  let posted (iod n : Nat) (p : Packet) (s t : State) : Prop :=
    let post : Post := { src := portOfIod iod, port := p.tport, ctr := p.ctr, inc := n, step := false, wave16 := 0, replica := 0, slot := 0 }
    (p.post = false → t.posts = s.posts ∧ t.gates = s.gates) ∧
    (p.post = true → p.tport = portOfIod iod → t.posts = s.posts ++ [post] ∧ t.gates = s.gates) ∧
    (p.post = true → p.tport ≠ portOfIod iod → ∃ m, t.posts = s.posts ++ [{ post with crossing := some m }])
  let noWait (s : State) (site tile unit n : Nat) : Prop :=
    (∀ r ∈ (s.col site tile).queue ++ (s.col site tile).held, r.write = false ∨ rangesMeet r.addr r.data.length unit n = false) ∧
    (∀ x ∈ (s.field (fieldOf site)).writeQ, x.dst ≠ site ∨ x.ttile ≠ tile ∨ rangesMeet x.taddr x.len unit n = false)
  (∀ (s : State) (iod : Nat) (p : Packet) (c : Chan), inTurn s iod 1 p c →
    let k : Code := if anyMark p.payload then .poisoned else .ok
    ∃ t : State, exec (.msgPacket iod p) s = .next t ∧ t.out = s.out ++ [.message iod p.dchan p.len k (marksOf p.payload) p.payload] ∧
      t.chan? iod p.dchan = some (noted s p c k) ∧ (c.actr ≠ 0 → t.iodTally iod c.actr = (s.iodTally iod c.actr + 1) % 2 ^ 64) ∧
      unchangedBut [.out, .iods, .links, .log] s t) ∧
  (∀ (s : State) (iod n site tile unit : Nat) (p : Packet) (c : Chan) (k : Code), s.mem.wf → inTurn s iod 2 p c → p.len = 32 * n → 1 ≤ n → n ≤ 128 → p.payload.length = n →
    (p.post = true → ctrInRange p.tport p.ctr = true) → s.globalPlace p.gaddr p.len 32 = .vault site tile unit → s.portOpen site = true →
    (s.col site tile).powered = true → noWait s site tile unit n →
    s.verdict (writeSlot site 3 tile unit p.payload) = k → (k = .ok ∨ k = .poisoned) →
    let a := vaultAddr site tile unit
    ∃ t : State, exec (.copyPacket iod p) s = .next t ∧ sameMemory (s.putUnits a p.payload) t ∧ bytesOutside a (a + 32 * n) s t ∧ posted iod n p s t ∧
      t.chan? iod p.dchan = some (noted s p c k) ∧ unchangedBut [.iods, .mem, .poison, .cols, .posts, .gates, .links, .log] s t) ∧
  (∀ (s : State) (iod n field unit : Nat) (p : Packet) (c : Chan) (k : Code), s.mem.wf → inTurn s iod 2 p c → p.len = 32 * n → 1 ≤ n → n ≤ 128 → p.payload.length = n →
    (p.post = true → ctrInRange p.tport p.ctr = true) → s.globalPlace p.gaddr p.len 32 = .cache field unit → s.portOpen (s.cachePort field) = true →
    s.verdict (writeSlot (s.cachePort field) 1 0 unit p.payload) = k → (k = .ok ∨ k = .poisoned) →
    let a := cacheAddr field (32 * unit)
    ∃ t : State, exec (.copyPacket iod p) s = .next t ∧ sameMemory (s.putUnits a p.payload) t ∧ bytesOutside a (a + 32 * n) s t ∧ posted iod n p s t ∧
      t.chan? iod p.dchan = some (noted s p c k) ∧ unchangedBut [.iods, .mem, .poison, .posts, .gates, .links, .log] s t) ∧
  (∀ (s : State) (iod site tile unit : Nat) (p : Packet) (c : Chan) (k : Code), s.mem.wf → inTurn s iod 3 p c → p.len = 128 → p.payload.length = 4 →
    (p.post = true → ctrInRange p.tport p.ctr = true) → s.globalPlace p.gaddr 128 128 = .vault site tile unit → s.portOpen site = true →
    (s.col site tile).powered = true → noWait s site tile unit 4 →
    s.verdict (writeSlot site 3 tile unit p.payload) = k → (k = .ok ∨ k = .poisoned) →
    let a := vaultAddr site tile unit
    ∃ t : State, exec (.writePacket iod p) s = .next t ∧ sameMemory (s.putUnits a p.payload) t ∧ bytesOutside a (a + 128) s t ∧ posted iod 4 p s t ∧
      t.chan? iod p.dchan = some (noted s p c k) ∧ unchangedBut [.iods, .mem, .poison, .cols, .posts, .gates, .links, .log] s t) ∧
  (∀ (s : State) (iod site tile unit : Nat) (p : Packet) (c : Chan) (ue : List Nat) (ce : Nat), inTurn s iod 4 p c → s.globalPlace p.gaddr 128 128 = .vault site tile unit →
    s.portOpen site = true → s.colServes site tile = true → noWait s site tile unit 4 → isSite site = true → tile < 48 → unit % 2 ^ 23 + 4 ≤ 2 ^ 23 → s.band site ≠ bandB4 →
    let l := s.vaultUnits site tile unit 4 ue
    let k : Code := if anyMark l then .poisoned else .ok
    ∃ (t : State) (r : Packet), exec (.readPacket iod p ue ce) s = .next t ∧ r.type = 5 ∧ r.payload = l ∧ r.code = codeNum k ∧ r.rid = p.rid ∧ r.gaddr = p.gaddr ∧ r.len = 32 * l.length ∧
      t.chan? iod p.dchan = some { noted s p c k with sring := c.sring ++ [r] } ∧ objsBut [.M0502, .M0503] s t ∧ sameMemory s t ∧
      unchangedBut [.iods, .objs, .cols, .layers, .links, .log] s t) ∧
  (∀ (s : State) (iod : Nat) (p : Packet) (c : Chan) (r : RRead), inTurn s iod 5 p c → (s.iod iod).reads.find? (fun r => r.1 == p.rid) = some (p.rid, r) → s.time ≤ r.deadline →
    ∃ t : State, exec (.readReplyPacket iod p) s = .next t ∧ t.out = s.out ++ [.lineAnswer iod p.rid (codeOf p.code) p.payload] ∧
      (t.iod iod).reads = mapDel (s.iod iod).reads p.rid ∧ t.chan? iod p.dchan = some (noted s p c .ok) ∧
      (r.cacheable = true → p.code = 0 → r.killed = false → (s.field r.field).epoch = r.epoch →
        (t.field r.field).lines.getLast? = some { gaddr := r.gaddr, data := p.payload }) ∧
      ((r.cacheable = false ∨ p.code ≠ 0 ∨ r.killed = true ∨ (s.field r.field).epoch ≠ r.epoch) → t.fields = s.fields) ∧
      unchangedBut [.out, .iods, .fields, .links, .log] s t) ∧
  (∀ (s : State) (iod : Nat) (p : Packet) (c : Chan), inTurn s iod 6 p c → p.sub = 0 →
    ∃ t : State, exec (.invalLine iod none p) s = .next t ∧
      (∀ f, f < 56 → t.field f = { s.field f with lines := (s.field f).lines.filter (fun l => l.gaddr != p.gaddr) }) ∧
      (∀ i, i < 4 → ∀ r ∈ (t.iod i).reads, r.2.gaddr = p.gaddr → r.2.killed = true) ∧ t.chan? iod p.dchan = some (noted s p c .ok) ∧
      unchangedBut [.fields, .iods, .links, .log] s t) ∧
  (∀ (s : State) (iod : Nat) (p : Packet) (c : Chan), inTurn s iod 6 p c → p.sub = 1 →
    ∃ t : State, exec (.invalEpoch iod none p) s = .next t ∧ (∀ f, f < 56 → t.field f = { s.field f with epoch := ((s.field f).epoch + 1) % 2 ^ 32, lines := [] }) ∧
      t.chan? iod p.dchan = some (noted s p c .ok) ∧ unchangedBut [.fields, .iods, .links, .log] s t) ∧
  (∀ (s : State) (iod f : Nat) (p : Packet), f < 56 →
    (∃ t : State, exec (.invalLine iod (some f) p) s = .next t ∧
      t.field f = { s.field f with lines := (s.field f).lines.filter (fun l => l.gaddr != p.gaddr) } ∧ (∀ k, k ≠ f → t.field k = s.field k) ∧
      (∀ i, i < 4 → ∀ r ∈ (t.iod i).reads, r.2.gaddr = p.gaddr → r.2.field = f → r.2.killed = true) ∧ unchangedBut [.fields, .iods] s t) ∧
    (∃ t : State, exec (.invalEpoch iod (some f) p) s = .next t ∧
      t.field f = { s.field f with epoch := ((s.field f).epoch + 1) % 2 ^ 32, lines := [] } ∧ (∀ k, k ≠ f → t.field k = s.field k) ∧ unchangedBut [.fields] s t)) ∧
  (∀ (s : State) (iod : Nat) (p : Packet) (c : Chan) (k : Ticket), inTurn s iod 7 p c → (s.iod iod).tickets.find? (fun x => x.ticket == p.ctr) = some k →
    (∀ x ∈ (s.iod iod).straight, x.ticket ≠ k.ticket) → k.accepts s.time 0 = true → p.flit = 0 → p.nflit + 1 = k.flits → p.len = 256 * k.flits → p.payload.length = 8 * k.flits →
    mapGet [] (s.iod iod).partials (p.ctr, 4 * p.spanel + p.siod) = [] → k.contribs.length + 1 < k.expected →
    ∃ t : State, exec (.mergePacket iod p) s = .next t ∧
      (t.iod iod).tickets = (s.iod iod).tickets.map (fun x => if x.ticket = k.ticket then
        { k with contribs := k.contribs ++ [p.payload], worst := worse k.worst (codeOf p.code) } else x) ∧
      t.chan? iod p.dchan = some (noted s p c .ok) ∧ unchangedBut [.iods, .links, .log] s t) ∧
  (∀ (s : State) (iod : Nat) (p : Packet) (c : Chan), inTurn s iod 10 p c →
    ∃ t : State, exec (.closePacket iod p) s = .next t ∧
      t.chan? iod p.dchan = some { noted s p c .ok with state := (if c.inFlight = [] then 0 else 3), sring := [] } ∧
      t.out = s.out ++ c.sring.map (fun q => .entryEnded iod p.dchan q .aborted) ∧
      t.obj .F090D iod = s.obj .F090D iod - (if c.inFlight = [] then 1 else 0) ∧ objsBut [.F090D] s t ∧ unchangedBut [.iods, .objs, .out, .movers, .links, .log] s t)

/-- An OPEN that is admitted takes the first free channel from 1, with a new cookie, both numbers 0 and rto 100 µs; a host's is told to the control unit; one that is not is answered ACCESS_DENIED. A posted entry leaves with the next number, and is in flight, when it is its channel's turn. An ACK that is due tells up to 32 entries; with more, the rest stay due. An ACK
of the one packet in flight ends it; one with hold stops the timers. The oldest packet past its rto is sent again, and after seven times the channel fails with CHANNEL_ERROR. An increase period raises the rate by the rise, 100 ms of hold end it, and a remote read past
its deadline ends with TIMEOUT. The free cookie is the model's free value (log 2). Where the spec leaves it open, the model's choices are those of log 2, 31, 38, 39, 41, 84. -/
def Obligations.ChannelCommandsComplete : Prop :=
  (∀ (s : State) (iod addr n : Nat) (peer : Option PeerOpen) (payload : BitVec 256), s.openRefused iod addr peer.isNone (openOf peer payload) = false → 1 ≤ n → n < 65536 →
    (∀ c, s.chan? iod n = some c → c.live = false) → (∀ m, 1 ≤ m → m < n → ∃ c, s.chan? iod m = some c ∧ c.live = true) →
    let o := openOf peer payload
    ∃ (t : State) (c : Chan), exec (.openPacket iod peer addr payload) s = .next t ∧ t.chan? iod n = some c ∧ c.state = 1 ∧ c.cls = o.cls ∧
      c.kind = o.kind ∧ c.commons = peer.isNone ∧ c.haddr = addr ∧ c.ppanel = o.panel ∧ c.piod = o.iod ∧ c.pchan = o.chan ∧ c.window = o.window ∧
      c.cookie = Config.cookie s.freeCount ∧ c.sndNxt = 0 ∧ c.rcvNxt = 0 ∧
      c.rto = 100 ∧ c.pinned = (o.pinned || decide (o.cls = .A)) ∧ t.freeCount = s.freeCount + 1 ∧ t.obj .F090D iod = s.obj .F090D iod + 1 ∧
      (peer ≠ none → t.out = s.out ++ [.opened iod addr o.chan (openAnswer n (Config.cookie s.freeCount) .ok)] ∧ t.boxes = s.boxes ∧ t.log = s.log) ∧
      (peer = none → Sent.opened iod addr o.chan (openAnswer n (Config.cookie s.freeCount) .ok) ∈ t.out ∧ (iod < 4 → (t.box (16 + iod)).full = true) ∧
        ∃ k, k < 256 ∧ (t.iod iod).hosts[k]? = some addr ∧ c.host = k) ∧ (∀ m, m ≠ n → t.chan? iod m = s.chan? iod m) ∧
      objsBut [.F090D, .D0A08] s t ∧ unchangedBut [.iods, .objs, .out, .freeCount, .boxes, .log] s t) ∧
  (∀ (s : State) (iod addr : Nat) (peer : Option PeerOpen) (payload : BitVec 256), s.openRefused iod addr peer.isNone (openOf peer payload) = true →
    exec (.openPacket iod peer addr payload) s = .next { s with out := s.out ++ [.opened iod addr (openOf peer payload).chan (openAnswer 0 0 .accessDenied)] }) ∧
  (∀ (s : State) (iod chan field : Nat) (p : Packet) (c : Chan) (cr : Nat × Nat × Nat), s.chan? iod chan = some c → c.state = 1 → c.sring = [] → p.type ≠ 3 → p.type ≠ 4 →
    p.type ≠ 10 → s.reachable c = true → (s.iod iod).relayed = [] →
    (s.setChan iod chan { c with sring := [p], shead := (c.shead + 1) % 65536 }).engineTurn iod = some (chan, c.cls, cr) →
    ∃ (t : State) (d : Chan) (o : OutPkt), exec (.packetSend iod chan field [p]) s = .next t ∧ t.chan? iod chan = some d ∧ d.sring = [] ∧
      d.inFlight = c.inFlight ++ [o] ∧ o.pkt.psn = c.sndNxt ∧ o.pkt.cls = c.cls ∧ o.pkt.payload = p.payload ∧ o.sentAt = s.time ∧ o.tries = 0 ∧
      d.sndNxt = (c.sndNxt + 1) % 2 ^ 24 ∧ d.rcvNxt = c.rcvNxt ∧ d.shead = (c.shead + 1) % 65536 ∧ d.stail = (c.stail + 1) % 65536 ∧
      (t.iod iod).credit = cr ∧ unchangedBut [.iods, .objs, .log, .links, .out] s t) ∧
  (∀ (s : State) (iod chan : Nat) (c : Chan), s.chan? iod chan = some c → (s.iod iod).held = false → 0 < c.unacked →
    (16 ≤ c.unacked ∨ c.unackedSince + 2000 ≤ s.time ∨ (c.ackEce = true ∧ dueEvent c.lastEce s.time 2000 = true)) →
    ∃ t : State, exec (.ackSend iod chan) s = .next t ∧
      t.chan? iod chan = some (
        if 32 < c.ackEntries.length then { c with unacked := c.ackEntries.length - 32, ackEntries := c.ackEntries.drop 32 }
        else { c with unacked := 0, ackEce := false, ackEntries := [], lastEce := if c.ackEce then some s.time else c.lastEce }) ∧
      unchangedBut [.iods, .objs, .log, .links, .out] s t) ∧
  (∀ (s : State) (iod : Nat) (p : Packet) (c : Chan), p.type = 8 → s.chan? iod p.dchan = some c → c.live = true → p.cookie = c.cookie.toNat →
    p.pcrc = pcrcOf p.payload p.len → p.hold = true →
    ∃ t : State, exec (.ackPacket iod p) s = .next t ∧ t.chan? iod p.dchan = some { c with heldSince := some s.time } ∧ unchangedBut [.iods, .links, .log] s t) ∧
  (∀ (s : State) (iod : Nat) (p : Packet) (c : Chan) (o : OutPkt), p.type = 8 → s.chan? iod p.dchan = some c → c.state = 1 →
    p.cookie = c.cookie.toNat → p.pcrc = pcrcOf p.payload p.len → p.hold = false → p.ece = false → p.len = 32 → c.heldSince = none → c.inFlight = [o] →
    o.pkt.psn = c.sndUna → p.ack = c.sndUna → c.sndUna < 2 ^ 24 →
    ∃ (t : State) (d : Chan), exec (.ackPacket iod p) s = .next t ∧ t.chan? iod p.dchan = some d ∧ d.inFlight = [] ∧ d.sndUna = c.sndNxt ∧ d.state = 1 ∧
      t.out = s.out ++ [.entryEnded iod p.dchan o.pkt .ok] ∧ unchangedBut [.iods, .out, .movers, .links, .log] s t) ∧
  (∀ (s : State) (iod chan : Nat) (c : Chan) (o : OutPkt) (rest : List OutPkt), s.chan? iod chan = some c → c.live = true → c.heldSince = none → (s.iod iod).held = false →
    c.inFlight = o :: rest → o.shown = false → o.sentAt + 1000 * rtoOf c o ≤ s.time → o.tries < 7 →
    ∃ (t : State) (d : Chan), exec (.rtoExpiry iod chan) s = .next t ∧ t.chan? iod chan = some d ∧
      d.inFlight.head?.map (fun x => (x.pkt.psn, x.pkt.retx, x.sentAt, x.tries)) = some (o.pkt.psn, true, s.time, o.tries + 1) ∧ d.state = c.state ∧
      t.obj .F090E iod = s.obj .F090E iod + 1 ∧ unchangedBut [.iods, .objs, .log, .links, .out] s t) ∧
  (∀ (s : State) (iod chan : Nat) (c : Chan) (o : OutPkt) (rest : List OutPkt), s.chan? iod chan = some c → c.live = true → c.heldSince = none → (s.iod iod).held = false →
    c.inFlight = o :: rest → o.shown = false → o.sentAt + 1000 * rtoOf c o ≤ s.time → 7 ≤ o.tries →
    ∃ (t : State) (d : Chan), exec (.rtoExpiry iod chan) s = .next t ∧ t.chan? iod chan = some d ∧ d.state = 2 ∧ d.inFlight = [] ∧ d.sring = [] ∧
      (∃ e ∈ t.log.events.take 2, (e.code, e.subject, e.data) = (evChannelError, portOfIod iod, [chan, o.pkt.psn])) ∧ (iod < 4 → (t.box (16 + iod)).full = true) ∧
      t.obj .F090D iod = s.obj .F090D iod - 1 ∧ (∀ x ∈ c.inFlight, Sent.entryEnded iod chan x.pkt .timeout ∈ t.out) ∧
      objsBut [.F090D, .D0A08] s t ∧ unchangedBut [.iods, .objs, .log, .out, .boxes, .movers] s t) ∧
  (∀ (s : State) (iod chan u : Nat) (c : Chan), s.chan? iod chan = some c → c.cls ≠ .A → c.lastCut = some u → c.lastStep + 1000 * s.rateParam 3 ≤ s.time →
    ∃ (t : State) (d : Chan), exec (.increasePeriod iod chan) s = .next t ∧ t.chan? iod chan = some d ∧ d.level = c.level - c.rise ∧ d.lastStep = c.lastStep + 1000 * s.rateParam 3 ∧ d.quiet = min 15 (c.quiet + 1) ∧
      d.rise = (if s.rateParam 4 ≤ min 15 (c.quiet + 1) ∧ c.rise < s.rateParam 5 then 2 * c.rise else c.rise) ∧ unchangedBut [.iods] s t) ∧
  (∀ (s : State) (iod chan u : Nat) (c : Chan), s.chan? iod chan = some c → c.heldSince = some u → u + 100000000 ≤ s.time →
    ∃ t : State, exec (.holdTimeout iod chan) s = .next t ∧ t.chan? iod chan = some (c.unhold s.time) ∧ (c.unhold s.time).heldSince = none ∧ unchangedBut [.iods] s t) ∧
  (∀ (s : State) (iod rid : Nat) (r : RRead), (s.iod iod).reads.find? (fun r => r.1 == rid) = some (rid, r) → r.deadline ≤ s.time →
    ∃ t : State, exec (.remoteReadTimeout iod rid) s = .next t ∧ (t.iod iod).reads = mapDel (s.iod iod).reads rid ∧
      t.out = s.out ++ [.lineAnswer iod rid .timeout []] ∧ unchangedBut [.iods, .out] s t)

/-- A post writes its entries and the producer index, whose change ends idleness. A fetch of an entry with own = 1 whose turn has come starts it, and one with dmode 2 locks its check unit; one with own = 0 makes the channel idle; a malformed one halts the channel, is counted in D.0A06 and raises DESC_ERROR.
A read goes out for the units of one 256-B block, by a request slot where an I/O die asks through the base, and an immediate source fills the queue without one. The oldest read's data, from a vault, a tile store or its reply slot, joins the queue. A write leaves the queue: to a local memory, to a check unit, as a COPY on its channel, or as a slot staged with its bid. Reads and writes go out in the turn of R255; a write whose turn it is not changes nothing. Where the spec leaves it open, the model's choices are those of log 32, 54, 55, 85. -/
def Obligations.MoverTransfersComplete : Prop :=
  let noWait (s : State) (site tile unit n : Nat) : Prop :=
    (∀ r ∈ (s.col site tile).queue ++ (s.col site tile).held, r.write = false ∨ rangesMeet r.addr r.data.length unit n = false) ∧
    (∀ x ∈ (s.field (fieldOf site)).writeQ, x.dst ≠ site ∨ x.ttile ≠ tile ∨ rangesMeet x.taddr x.len unit n = false)
  (∀ (s : State) (port chan producer : Nat) (entries : List (Nat × BitVec 512)), moverThere port chan = true →
    ∃ t : State, exec (.descriptorPost port chan entries producer) s = .next t ∧
      t.mchan port chan = { s.mchan port chan with ring := entries.foldl (fun r e => mapSet r (e.1 % ringSize port) e.2) (s.mchan port chan).ring
                                                   producer := producer % ringSize port
                                                   idle := (s.mchan port chan).idle && (s.mchan port chan).producer == producer % ringSize port } ∧
      (∀ p, p ≠ port → t.mover p = s.mover p) ∧ unchangedBut [.movers] s t) ∧
  (∀ (s : State) (port chan : Nat), moverThere port chan = true → (s.mover port).stop = none → (s.mchan port chan).halted = false → (s.mchan port chan).idle = false →
    (∀ a ∈ (s.mchan port chan).active, a.entry ≠ (s.mchan port chan).consumer) →
    let c := s.mchan port chan
    let d := c.entry c.consumer
    (dOwn d = false → ∃ t : State, exec (.descriptorFetch port chan) s = .next t ∧ t.mchan port chan = { c with idle := true } ∧ unchangedBut [.movers] s t) ∧
    (dOwn d = true → (∀ a, c.active.getLast? = some a → a.readsIssued = true) → (dFence d = true → c.active = []) →
      (s.descFault port d = none →
        ∃ t : State, exec (.descriptorFetch port chan) s = .next t ∧
          t.mchan port chan = { c with consumer := (c.consumer + 1) % ringSize port, active := c.active ++ [newActive c.consumer d (dDmode d == 2)] } ∧
          (dDmode d = 2 → t.check (dUnit port d) = { s.check (dUnit port d) with locked := true }) ∧ (dDmode d ≠ 2 → t.checks = s.checks) ∧
          unchangedBut [.movers, .checks] s t) ∧
      (∀ k, s.descFault port d = some k →
        ∃ t : State, exec (.descriptorFetch port chan) s = .next t ∧ (t.mchan port chan).halted = true ∧ t.obj .D0A06 port = s.obj .D0A06 port + 1 ∧
          (t.mchan port chan).active.getLast?.map (fun a => (a.entry, a.halted, a.codes, a.done)) = some (c.consumer, true, [.busError], 0) ∧
          t.log.events.head?.map (fun e => (e.code, e.subject, e.data)) = some (evDescError, port, [chan, c.consumer, k]) ∧ objsBut [.D0A06] s t ∧
          unchangedBut [.movers, .objs, .log] s t))) ∧
  (∀ (s : State) (port chan : Nat) (a : Active) (rest : List Active), (s.mover port).stop = none → s.pacing port (s.mchan port chan) = true →
    (s.mchan port chan).active = a :: rest → a.halted = false → a.readUnits < dLen a.desc →
    let c := s.mchan port chan
    let n := nextRead a
    (dSmode a.desc = 2 → ∃ t : State, exec (.moverReadIssue port chan) s = .next t ∧
      t.mchan port chan = { c with reading := true, active := { a with readUnits := a.readUnits + n, data := a.data ++ List.replicate n (immUnit a.desc) } :: rest } ∧ unchangedBut [.movers] s t) ∧
    (dSmode a.desc ≠ 2 → s.servesNow port chan (s.readReady port chan) = true → s.readBySlot port a = false → ∃ t : State, exec (.moverReadIssue port chan) s = .next t ∧
      t.mchan port chan = { c with reading := true, active := { a with readUnits := a.readUnits + n, reads := a.reads ++ [{ units := n }] } :: rest } ∧ unchangedBut [.movers] s t) ∧
    (∀ q space tile unit : Nat, dSmode a.desc ≠ 2 → s.servesNow port chan (s.readReady port chan) = true → s.readBySlot port a = true →
      s.readTarget (s.srcPlace a.desc a.readUnits (if dSmode a.desc = 0 then n else 1)) = some (q, space, tile, unit) →
      let rid := (s.mover port).serial % 65536
      let plane := s.planeOf chan a
      ∃ (t : State) (x : Slot) (b : Bid), exec (.moverReadIssue port chan) s = .next t ∧
        t.mchan port chan = { c with reading := true, active := { a with
          readUnits := a.readUnits + n, reads := a.reads ++ [{ units := n, slot := some a.slots, rid := rid }], slots := a.slots + 1 } :: rest } ∧
        (t.gate port plane).staging = (s.gate port plane).staging ++ [x] ∧ (t.gate port plane).bids = (s.gate port plane).bids ++ [b] ∧ x.dst = q ∧ x.kind = 4 ∧
        x.payload = recordFlit space tile unit (if dSmode a.desc = 0 then n else 1) port (8 * (rid % 256)) rid (dCls a.desc) ∧ b.dst = q ∧ b.slots = 1 ∧
        unchangedBut [.movers, .gates] s t)) ∧
  (∀ (s : State) (port chan p tile unit ce : Nat) (a : Active) (r : MRead) (more : List MRead) (rest : List Active) (ue : List Nat), (s.mchan port chan).active = a :: rest →
    a.reads = r :: more → r.slot = none → a.halted = false → dSmode a.desc = 0 → s.srcPlace a.desc a.readAt r.units = .vault p tile unit → s.portOpen p = true →
    s.colServes p tile = true → noWait s p tile unit r.units → isSite p = true → tile < 48 → unit % 2 ^ 23 + r.units ≤ 2 ^ 23 → r.units ≤ 368 → s.band p ≠ bandB4 →
    let l := s.vaultUnits p tile unit r.units ue
    ∃ t : State, exec (.moverReadData port chan ue ce) s = .next t ∧
      t.mchan port chan = { s.mchan port chan with
        active := { a with reads := more, data := a.data ++ l, codes := (if anyMark l then .poisoned else .ok) :: a.codes } :: rest } ∧ sameMemory s t ∧
      objsBut [.M0502, .M0503] s t ∧ unchangedBut [.movers, .objs, .cols, .layers, .log] s t) ∧
  (∀ (s : State) (port chan p tile unit ce : Nat) (a : Active) (r : MRead) (more : List MRead) (rest : List Active) (ue : List Nat), (s.mchan port chan).active = a :: rest →
    a.reads = r :: more → r.slot = none → iodOfPort port = none → a.halted = false → dSmode a.desc = 0 → s.srcPlace a.desc a.readAt r.units = .store p tile unit →
    let v := s.storeEcc p tile (inRegions [{ base := unit, len := r.units }]) { ue := ue.map (fun i => unit + i), ce := ce }
    let l := v.unitsAt (storeAddr p tile unit) r.units
    ∃ t : State, exec (.moverReadData port chan ue ce) s = .next t ∧
      t.mchan port chan = { s.mchan port chan with
        active := { a with reads := more, data := a.data ++ l, codes := (if anyMark l then .poisoned else .ok) :: a.codes } :: rest } ∧ sameMemory v t ∧
      (∀ b, memByte t.mem b = memByte s.mem b) ∧ objsBut [.S0307] s t ∧ unchangedBut [.movers, .objs, .poison] s t) ∧
  (∀ (s : State) (port chan i : Nat) (a : Active) (r : MRead) (more : List MRead) (rest : List Active) (k : Code) (l : List Cell32), (s.mchan port chan).active = a :: rest →
    a.reads = r :: more → r.slot = some i → r.answer = some (k, l) → (k = .ok ∨ k = .poisoned) → a.halted = false → dSmode a.desc = 0 →
    ∃ t : State, exec (.moverReadData port chan [] 0) s = .next t ∧
      t.mchan port chan = { s.mchan port chan with active := { a with reads := more, data := a.data ++ l, codes := k :: a.codes } :: rest } ∧ unchangedBut [.movers] s t) ∧
  (∀ (s : State) (port chan : Nat) (a : Active) (rest : List Active), s.servesNow port chan (s.writeReady port chan) = true → (s.mchan port chan).active = a :: rest → a.mayWrite = true →
    let c := s.mchan port chan
    let d := a.desc
    let written (n : Nat) (w : MWrite) : MChan :=
      { c with active := { a with issued := a.issued + n, data := a.data.drop n, writes := a.writes ++ [w], slots := a.slots + 1 } :: rest }
    (s.farDst d = false → dDmode d = 0 → localTo port (s.dstPlace d a.issued 1) = true →
      let n := nextWrite true false false (s.pacing port c) a
      ∃ t : State, exec (.moverWriteIssue port chan) s = .next t ∧
        t.mchan port chan = written n { count := n, land := some a.issued, data := a.data.take n, at' := s.time } ∧ unchangedBut [.movers] s t) ∧
    (dDmode d = 2 → ∃ t : State, exec (.moverWriteIssue port chan) s = .next t ∧
      t.mchan port chan = written 1 { count := 1, land := none, data := [], at' := s.time } ∧
      (t.check (dUnit port d)).value = ((s.check (dUnit port d)).feed (bytesOf (a.data.headD default).data 32)).value ∧
      (t.check (dUnit port d)).feeds = (s.check (dUnit port d)).feeds + 1 ∧ unchangedBut [.movers, .checks] s t) ∧
    (∀ ch : Chan, s.farDst d = true → dDmode d = 0 → iodOfPort port ≠ none → s.chan? (relayIod port d) (dChan d) = some ch → ch.state = 1 →
      let n := nextWrite false true false (s.pacing port c) a
      ∃ (t : State) (p : Packet), exec (.moverWriteIssue port chan) s = .next t ∧
        t.mchan port chan = written n { count := n, land := none, data := [], at' := s.time, copy := some (relayIod port d, dChan d, dDst d + 32 * a.issued) } ∧
        t.chan? (relayIod port d) (dChan d) = some { ch with sring := ch.sring ++ [p], shead := (ch.shead + 1) % 65536 } ∧ p.type = 2 ∧ p.gaddr = dDst d + 32 * a.issued ∧
        p.payload = a.data.take n ∧ p.len = 32 * n ∧ p.post = dPost d ∧ p.ctr = dCtr d ∧ p.tport = dTport d ∧ unchangedBut [.movers, .iods] s t) ∧
    (s.farDst d = true → dDmode d = 0 → iodOfPort port = none →
      let n := nextWrite false true false (s.pacing port c) a
      let plane := s.planeOf chan a
      ∃ (t : State) (x : Slot) (b : Bid) (p : Packet), exec (.moverWriteIssue port chan) s = .next t ∧
        t.mchan port chan = written n
          { count := n, land := none, data := [], at' := s.time, copy := some (relayIod port d, dChan d, dDst d + 32 * a.issued), slot := some a.slots } ∧
        (t.gate port plane).staging = (s.gate port plane).staging ++ [x] ∧ (t.gate port plane).bids = (s.gate port plane).bids ++ [b] ∧
        x.dst = portOfIod (relayIod port d) ∧ x.kind = 0 ∧ x.taddr = relayPlace chan ∧ x.payload = a.data.take n ∧ x.relay = some (dChan d, p) ∧ p.type = 2 ∧
        p.gaddr = dDst d + 32 * a.issued ∧ p.payload = a.data.take n ∧ p.post = dPost d ∧ b.dst = x.dst ∧ unchangedBut [.movers, .gates] s t) ∧
    (∀ q kind tile unit : Nat, s.farDst d = false → dDmode d = 0 → localTo port (s.dstPlace d a.issued 1) = false →
      let n := nextWrite false false false (s.pacing port c) a
      let plane := s.planeOf chan a
      s.slotTarget (s.dstPlace d a.issued n) = some (q, kind, tile, unit) →
      ∃ (t : State) (x : Slot) (b : Bid), exec (.moverWriteIssue port chan) s = .next t ∧
        t.mchan port chan = written n { count := n, land := none, data := [], at' := s.time, slot := some a.slots } ∧
        (t.gate port plane).staging = (s.gate port plane).staging ++ [x] ∧ (t.gate port plane).bids = (s.gate port plane).bids ++ [b] ∧
        x.dst = q ∧ x.kind = kind ∧ x.ttile = tile ∧ x.taddr = unit ∧ x.payload = a.data.take n ∧ b.dst = q ∧ b.slots = 1 ∧ unchangedBut [.movers, .gates] s t)) ∧
  (∀ (s : State) (port chan : Nat), s.servesNow port chan (s.writeReady port chan) = false → exec (.moverWriteIssue port chan) s = .next s)

/-- A response OK to the oldest write counts its units in D.0A02 and in done, and a local write lands at its destination. ACCESS_DENIED, TARGET_ABSENT, ABORTED or TIMEOUT halts the channel; BUS_ERROR or PATH_RESET stops the mover, counted in D.0A01, with MOVER_STOP.
A response later than D.0A04 counts as TIMEOUT and raises RESPONSE_LATE. A stopped mover with every response in is settled. The oldest descriptor, finished, leaves with its status in the ring, its post, and its message. A halted channel's resume goes on at its first entry with own = 1; ABORT ends every
entry not complete with ABORTED; D.0A05 ends a settled stop. Where the spec leaves it open, the model's choices are those of log 54. -/
def Obligations.MoverEndsComplete : Prop :=
  (∀ (s : State) (port chan : Nat) (a : Active) (rest : List Active) (w : MWrite) (ws : List MWrite), (s.mchan port chan).active = a :: rest → a.writes = w :: ws →
    w.land = none → w.data = [] → ((dDmode a.desc ≠ 2 ∧ w.answer = some .ok) ∨ (dDmode a.desc = 2 ∧ (s.check (dUnit port a.desc)).feeds < a.writes.length)) →
    ∃ t : State, exec (.moverResponse port chan false) s = .next t ∧
      t.mchan port chan = { s.mchan port chan with
        active := { a with writes := ws, done := if a.broken then a.done else a.done + w.count, codes := .ok :: a.codes } :: rest } ∧
      t.obj .D0A02 port = s.obj .D0A02 port + w.count ∧ objsBut [.D0A02] s t ∧ unchangedBut [.movers, .objs] s t) ∧
  (∀ (s : State) (port chan off p tile unit : Nat) (a : Active) (rest : List Active) (w : MWrite) (ws : List MWrite), s.mem.wf → (s.mchan port chan).active = a :: rest →
    a.writes = w :: ws → w.land = some off → s.dstPlace a.desc off w.data.length = .vault p tile unit → s.band p ≠ bandB4 → s.colServes p tile = true →
    let x := vaultAddr p tile unit
    ∃ t : State, exec (.moverResponse port chan false) s = .next t ∧ sameMemory (s.putUnits x w.data) t ∧ bytesOutside x (x + 32 * w.data.length) s t ∧
      t.obj .D0A02 port = s.obj .D0A02 port + w.count ∧ objsBut [.D0A02] s t ∧ unchangedBut [.movers, .objs, .mem, .poison, .cols] s t) ∧
  (∀ (s : State) (port chan : Nat) (a : Active) (rest : List Active) (r : MRead) (i : Nat) (more : List MRead) (k : Code) (l : List Cell32), (s.mchan port chan).active = a :: rest → a.reads = r :: more →
    r.slot = some i → r.answer = some (k, l) → haltsChan k = true →
    ∃ t : State, exec (.moverResponse port chan true) s = .next t ∧
      t.mchan port chan = { s.mchan port chan with halted := true, active := { a with reads := more, codes := k :: a.codes, halted := true } :: rest } ∧ unchangedBut [.movers] s t) ∧
  (∀ (s : State) (port chan : Nat) (a : Active) (rest : List Active) (w : MWrite) (ws : List MWrite) (k : Code), (s.mchan port chan).active = a :: rest →
    a.writes = w :: ws → w.land = none → dDmode a.desc ≠ 2 → w.answer = some k → stopsMover k = true → (s.mover port).stop = none →
    ∃ t : State, exec (.moverResponse port chan false) s = .next t ∧ (t.mover port).stop = some k ∧ (t.mover port).settled = false ∧
      (∀ b ∈ (t.mchan port chan).active, b.halted = true ∧ b.reads = []) ∧ t.obj .D0A01 port = s.obj .D0A01 port + 1 ∧
      t.log.events.head?.map (fun e => (e.code, e.subject)) = some (evMoverStop, port) ∧ objsBut [.D0A01] s t ∧ unchangedBut [.movers, .objs, .log] s t) ∧
  (∀ (s : State) (port chan : Nat) (a : Active) (rest : List Active) (w : MWrite) (ws : List MWrite), (s.mchan port chan).active = a :: rest → a.writes = w :: ws →
    w.at' + 1000 * s.obj .D0A04 port < s.time →
    ∃ t : State, exec (.writeResponseTimeout port chan) s = .next t ∧ (t.mchan port chan).halted = true ∧
      (t.mchan port chan).active.head?.map (fun b => (b.writes, b.broken, b.codes)) = some (ws, true, .timeout :: a.codes) ∧
      t.log.events.head?.map (fun e => (e.code, e.subject, e.data)) = some (evResponseLate, port, [chan, a.entry]) ∧ unchangedBut [.movers, .log] s t) ∧
  (∀ (s : State) (port : Nat) (k : Code), (s.mover port).stop = some k → (∀ p ∈ (s.mover port).chans, ∀ a ∈ p.2.active, a.writes = []) →
    ∃ t : State, exec (.moverStopSettled port) s = .next t ∧ t.mover port = { s.mover port with settled := true } ∧ unchangedBut [.movers] s t) ∧
  (∀ (s : State) (port chan : Nat) (a : Active) (rest : List Active), (s.mchan port chan).active = a :: rest → a.finished = true →
    ((s.mover port).stop ≠ none → (s.mover port).settled = true) →
    let posts : Bool := dPost a.desc && !s.farDst a.desc && decide (0 < a.done)
    ((iodOfPort port) = none → beatsOf a.desc posts ≤ mapGet 16 (s.site port).attach 22) →
    let k := (s.mover port).stop.getD (worst a.codes)
    let box := if dMseq a.desc then 64 + port else dMbox a.desc
    let post : Post := { src := port, port := dTport a.desc, ctr := dCtr a.desc, inc := a.done, step := false, wave16 := 0, replica := 0, slot := 0 }
    (∀ x ∈ (s.mover port).mail, x.1 ≠ box) →
    ∃ t : State, exec (.descriptorComplete port chan) s = .next t ∧ (t.mchan port chan).active = rest ∧
      (t.mchan port chan).entry a.entry = withStatus ((s.mchan port chan).entry a.entry) s.time a.done k ∧ dOwn ((t.mchan port chan).entry a.entry) = false ∧
      (posts = false → t.posts = s.posts ∧ t.gates = s.gates) ∧ (posts = true → dTport a.desc = port → t.posts = s.posts ++ [post] ∧ t.gates = s.gates) ∧
      (posts = true → dTport a.desc ≠ port → ∃ m, t.posts = s.posts ++ [{ post with crossing := some m }]) ∧
      (a.lock = true → (t.check (dUnit port a.desc)).locked = false) ∧ (a.lock = false → t.checks = s.checks) ∧
      (dMsg a.desc = false → t.boxes = s.boxes ∧ t.out = s.out) ∧ (dMsg a.desc = true → boxReserved box = false → (t.box box).full = true) ∧
      objsBut [.D0A08] s t ∧ unchangedBut [.movers, .posts, .gates, .checks, .sites, .boxes, .objs, .log, .out] s t) ∧
  (∀ (s : State) (port chan : Nat), (s.mchan port chan).halted = true → (s.mover port).stop = none →
    ∃ t : State, exec (.channelResume port chan) s = .next t ∧ (t.mchan port chan).halted = false ∧ (t.mchan port chan).idle = false ∧
      (t.mchan port chan).consumer = (s.mchan port chan).firstOwned (s.mchan port chan).consumer (ringSize port) ∧
      (t.mchan port chan).active = (s.mchan port chan).active ∧ unchangedBut [.movers] s t) ∧
  (∀ (s : State) (port chan : Nat), moverThere port chan = true →
    ∃ t : State, exec (.channelAbort port chan) s = .next t ∧ (∀ a ∈ (t.mchan port chan).active, a.halted = true ∧ a.codes.head? = some .aborted) ∧
      (t.mchan port chan).active.map (fun a => a.entry) =
        (s.mchan port chan).active.map (fun a => a.entry) ++ (s.mchan port chan).unstarted (ringSize port) ∧
      (t.mchan port chan).ring = (s.mchan port chan).ring ∧ unchangedBut [.movers] s t) ∧
  (∀ (s : State) (session port : Nat) (x : Session), s.openSession session = some x → s.cuActs 2 = true → 1 ≤ x.level → s.matches x = true → s.inRange .D0A05 0 port = true →
    ((s.mover port).stop ≠ none → (s.mover port).settled = true) →
    ∃ t : State, exec (.moverResume session port) s = .next t ∧ (t.mover port).stop = none ∧
      (∀ c ∈ (t.mover port).chans, c.2.halted = false) ∧
      mapGet default t.cmds .D0A05 = { arg := port, code := .ok, running := false, started := s.time, session := session } ∧ unchangedBut [.movers, .cmds, .log] s t)

/-- A write of an empty mailbox stores its message with its stamp and is answered; over a full one it overwrites, sets collision and counts in D.0A08. A wait-mode write over a full mailbox stores nothing and is answered busy. A release with the present count by the lease holder empties the mailbox. A wait of more than
1 ms raises MBOX_WAIT. On an unlocked check unit that is not busy, start loads INIT, register writes keep to the width, and a feed of 1, 2 or 4 bytes makes the value that of R266; its cycles' end lowers busy, and an access that waited for a busy unit then takes effect. A locked unit disregards a processor and sets clash, which its own write clears once unlocked. Where the spec leaves it open, the model's choices are those of log 40, 54, 55. -/
def Obligations.MailboxAndCheckCommandsComplete : Prop :=
  (∀ (s : State) (n skind sproc sport stile schan : Nat) (payload : BitVec 448), boxReserved n = false → (s.box n).full = false →
    let q := ((s.box n).seq + 1) % 256
    ∃ t : State, exec (.mailboxWrite n payload skind sproc sport stile schan) s = .next t ∧
      (∀ m ∈ boxCopies n, t.box m = { s.box n with msg := stampMsg payload skind sproc sport stile schan q s.time, full := true, seq := q }) ∧
      (∀ m, m ∉ boxCopies n → t.box m = s.box m) ∧ t.out = s.out ++ [.writeResponse skind sport n false false .ok] ∧ unchangedBut [.boxes, .out] s t) ∧
  (∀ (s : State) (n skind sproc sport stile schan : Nat) (payload : BitVec 448), boxReserved n = false → (s.box n).full = true →
    let q := ((s.box n).seq + 1) % 256
    ∃ t : State, exec (.mailboxWrite n payload skind sproc sport stile schan) s = .next t ∧
      (∀ m ∈ boxCopies n, (t.box m).msg = stampMsg payload skind sproc sport stile schan q s.time ∧ (t.box m).seq = q ∧ (t.box m).full = true ∧ (t.box m).collision = true) ∧
      (∀ m ∈ boxCopies n, t.obj .D0A08 m = s.obj .D0A08 m + 1) ∧ t.out = s.out ++ [.writeResponse skind sport n true false .ok] ∧ objsBut [.D0A08] s t ∧ unchangedBut [.boxes, .out, .objs, .log] s t) ∧
  (∀ (s : State) (n skind sproc sport stile schan : Nat) (payload : BitVec 448), boxReserved n = false → (s.box n).full = false →
    ∃ t : State, exec (.mailboxWaitWrite n payload skind sproc sport stile schan) s = .next t ∧ (t.box n).full = true ∧ (t.box n).seq = ((s.box n).seq + 1) % 256 ∧
      t.out = s.out ++ [.writeResponse skind sport n false false .ok] ∧ unchangedBut [.boxes, .out] s t) ∧
  (∀ (s : State) (n skind sproc sport stile schan : Nat) (payload : BitVec 448), boxReserved n = false → (s.box n).full = true →
    ∃ t : State, exec (.mailboxWaitWrite n payload skind sproc sport stile schan) s = .next t ∧ (t.box n).msg = (s.box n).msg ∧ (t.box n).seq = (s.box n).seq ∧
      (skind, sport) ∈ (t.box n).waiters ∧ (t.box n).waits.any (fun w => w.1 == (skind, sport)) = true ∧ t.out = s.out ++ [.writeResponse skind sport n false true .ok] ∧ unchangedBut [.boxes, .out] s t) ∧
  (∀ (s : State) (n : Nat), (s.box n).full = true → (∀ w ∈ (s.box n).waiters, w.1 ≠ 2 ∧ w.1 ≠ 4) → (n < 64 → s.keeper.holder = some (n / 32)) →
    ∃ t : State, exec (.mailboxRelease n (s.box n).seq) s = .next t ∧ (t.box n).full = false ∧ (t.box n).collision = false ∧ (t.box n).waiters = [] ∧
      (t.box n).seq = (s.box n).seq ∧ (∀ w ∈ (s.box n).waiters, Sent.emptyNotice w.1 w.2 n ∈ t.out) ∧ unchangedBut [.boxes, .out] s t) ∧
  (∀ (s : State) (n u : Nat), (s.box n).oldestWait = some u → u + 1000000 < s.time → dueEvent (s.box n).evWait s.time 1000000 = true →
    ∃ t : State, exec (.mboxWaitExpiry n) s = .next t ∧ (t.box n) = { s.box n with evWait := some s.time } ∧
      t.log.events.head?.map (fun e => (e.code, e.subject, e.data)) = some (evMboxWait, noSubject, [n, (s.time - u) / 1000]) ∧ unchangedBut [.boxes, .log] s t) ∧
  (∀ (s : State) (unit : Nat), (s.check unit).locked = false → (s.check unit).feeds = 0 →
    let u := s.check unit
    let into (c : Instr) (v : CheckUnit) : Prop :=
      ∃ t : State, exec c s = .next t ∧ t.check unit = v ∧ (∀ k, k ≠ unit → t.check k = s.check k) ∧ unchangedBut [.checks] s t
    into (.checkStart unit) { u with value := u.init } ∧
    (∀ v : BitVec 64, into (.checkRegWrite unit 8 v) { u with poly := v &&& lowMask u.width, init := u.init &&& lowMask u.width, value := u.value &&& lowMask u.width }) ∧
    (∀ v : BitVec 64, into (.checkRegWrite unit 16 v) { u with poly := u.poly &&& lowMask u.width, init := v &&& lowMask u.width, value := u.value &&& lowMask u.width }) ∧
    (∀ v : BitVec 64, into (.checkRegWrite unit 24 v) { u with poly := u.poly &&& lowMask u.width, init := u.init &&& lowMask u.width, value := v &&& lowMask u.width }) ∧
    (∀ v : BitVec 64, bit v 9 = false → into (.checkRegWrite unit 0 v) ({ u with ctrl := (v &&& 0x1FF#64).setWidth 32 }).masked) ∧
    (∀ v : BitVec 32, into (.feed8 unit v) { u with value := crcBytes u.width (bit u.ctrl 6) u.poly u.value (bytesOf v 1), feeds := 1 }) ∧
    (∀ v : BitVec 32, into (.feed16 unit v) { u with value := crcBytes u.width (bit u.ctrl 6) u.poly u.value (bytesOf v 2), feeds := 1 }) ∧
    (∀ v : BitVec 32, into (.feed32 unit v) { u with value := crcBytes u.width (bit u.ctrl 6) u.poly u.value (bytesOf v 4), feeds := 1 })) ∧
  (∀ (s : State) (unit : Nat), (s.check unit).waiting = [] →
    ∃ t : State, exec (.checkFeedDone unit) s = .next t ∧ t.check unit = { s.check unit with feeds := (s.check unit).feeds - 1 } ∧ unchangedBut [.checks] s t) ∧
  (∀ (s : State) (unit : Nat) (v : BitVec 32), (s.check unit).locked = false → (s.check unit).feeds = 1 → (s.check unit).waiting = [] →
    let u := s.check unit
    ∃ t t' : State, exec (.feed32 unit v) s = .next t ∧ t.check unit = { u with waiting := [.feed 4 v] } ∧ unchangedBut [.checks] s t ∧
      exec (.checkFeedDone unit) t = .next t' ∧ t'.check unit = { u with value := crcBytes u.width (bit u.ctrl 6) u.poly u.value (bytesOf v 4) } ∧
      unchangedBut [.checks] t t') ∧
  (∀ (s : State) (unit : Nat), (s.check unit).locked = false →
    ∃ t : State, exec (.checkClashClear unit) s = .next t ∧ t.check unit = { s.check unit with clash := false } ∧ unchangedBut [.checks] s t) ∧
  (∀ (s : State) (unit : Nat) (c : Instr), (s.check unit).locked = true →
    (c = .checkStart unit ∨ c = .checkClashClear unit ∨ ∃ v : BitVec 32, c = .feed8 unit v ∨ c = .feed16 unit v ∨ c = .feed32 unit v) →
    ∃ t : State, exec c s = .next t ∧ t.check unit = { s.check unit with clash := true } ∧
      t.log.events.head?.map (fun e => (e.code, e.subject, e.data)) = some (evCheckClash, noSubject, [unit / 4, unit % 4]) ∧ unchangedBut [.checks, .log] s t)

/-- While the island runs a tick advances time by 40 ns, or by 39 or 41 when a master drives the servo and it may slew, and every running site's cycles by its tick's worth; a gated or unpowered site stands. A lower frequency names frame F two frames ahead and withholds the port's stalls; a higher one raises VCORE first.
The clock is gated in frame F, unless the port leaves, and restarts at the new frequency with FREQ_CHANGED, or without lock at the old one; grants resume at F + 4. A replica margin below one step stretches the cycles until every path is at 2 steps or more, 10 µs of it raise REPLICA_SLOW. A lost crystal, a lost spine PLL, a lost die PLL, a lost field time base
and a lost bundle clock have their reports and effects. Where the spec leaves it open, the model's choices are those of log 22, 57, 95. -/
def Obligations.ClockCommandsComplete : Prop :=
  (∀ (s : State) (slew : Int) (skewed : List (Nat × Nat)), s.power.islandRuns = true →
    let ask : Prop := (slew = 1 ∨ slew = -1) ∧ s.ptp.master ≠ none ∧ 125 ≤ s.ptp.tickSinceSlew
    ∃ t : State, exec (.tick slew skewed) s = .next t ∧ (¬ ask → t.time = s.time + 40) ∧ (ask → (t.time : Int) = s.time + 40 + slew) ∧
      (∀ p, ((s.site p).powered = false ∨ (s.site p).gated = true) → t.site p = s.site p) ∧
      (∀ p, (mapKeys s.sites).Nodup → p ∈ mapKeys s.sites → (s.site p).powered = true → (s.site p).gated = false →
        (t.site p).cycles = (s.site p).cycles + s.cyclesPerTick p) ∧
      unchangedBut [.time, .ptp, .objs, .log, .sites, .iods, .out, .gates, .pma] s t) ∧
  (∀ (s : State) (slew : Int) (skewed : List (Nat × Nat)), s.power.islandRuns = false → exec (.tick slew skewed) s = .next s) ∧
  (∀ (s : State) (site mhz : Nat), (s.site site).powered = true → (s.site site).freq = none → 400 ≤ mhz → mhz ≤ 1800 → mhz % 25 = 0 → mhz ≤ s.allowedMhz site →
    (mhz < s.obj .C0B06 site → ∃ t : State, exec (.freqChangeRequest site mhz) s = .next t ∧
      (t.site site).freq = some { target := mhz, frame := some (s.frameNo + 2), gated := false, restarted := false, later := none } ∧ unchangedBut [.sites, .markets] s t) ∧
    (s.obj .C0B06 site < mhz → ∃ t : State, exec (.freqChangeRequest site mhz) s = .next t ∧
      (t.site site).freq = some { target := mhz, frame := none, gated := false, restarted := false, later := none } ∧
      (t.site site).rampTo = some (vcoreMv mhz, s.time + 100 * (vcoreMv mhz - vcoreMv (s.obj .C0B06 site))) ∧ unchangedBut [.sites] s t)) ∧
  (∀ (s : State) (site mv u : Nat), (s.site site).rampTo = some (mv, u) → u ≤ s.time →
    ∃ t : State, exec (.vcoreRampDone site) s = .next t ∧ (t.site site).rampTo = none ∧
      (∀ f, (s.site site).freq = some f → f.frame = none → (t.site site).freq = some { f with frame := some (s.frameNo + 2) }) ∧
      objsBut [.P0C0D] s t ∧ unchangedBut [.sites, .objs, .markets] s t) ∧
  (∀ (s : State) (site n : Nat) (f : FreqChange), (s.site site).freq = some f → f.frame = some n → f.gated = false → 512 * n + 256 ≤ s.time →
    ∃ t : State, exec (.freqChangeGate site) s = .next t ∧
      (s.leaving site = false → t.site site = { s.site site with gated := true, freq := some { f with gated := true } }) ∧
      (s.leaving site = true → t.site site = { s.site site with freq := none }) ∧ unchangedBut [.sites] s t) ∧
  (∀ (s : State) (site n : Nat) (f : FreqChange), (s.site site).freq = some f → f.frame = some n → f.gated = true → f.restarted = false → 512 * n + 286 ≤ s.time →
    (∃ t : State, exec (.freqChangeRestart site true) s = .next t ∧ t.obj .C0B06 site = f.target ∧ t.obj .C0B07 site = s.obj .C0B07 site + 1 ∧ (t.site site).gated = false ∧ (t.site site).pll = 1 - (s.site site).pll ∧
      (t.site site).freq = some { f with restarted := true } ∧
      t.log.events.head?.map (fun e => (e.code, e.subject, e.data)) = some (evFreqChanged, site, [site, s.obj .C0B06 site, f.target, n]) ∧
      objsBut [.C0B06, .C0B07] s t ∧ unchangedBut [.sites, .objs, .log] s t) ∧
    (∃ t : State, exec (.freqChangeRestart site false) s = .next t ∧ t.site site = { s.site site with gated := false, freq := none } ∧
      t.log.events.head?.map (fun e => (e.code, e.subject, e.data)) = some (evDiePllUnlock, site, [site, 1 - (s.site site).pll]) ∧ unchangedBut [.sites, .log] s t)) ∧
  (∀ (s : State) (site n : Nat) (f : FreqChange), (s.site site).freq = some f → f.frame = some n → f.restarted = true → f.later = none → n + 4 ≤ s.frameNo →
    ∃ t : State, exec (.freqChangeResume site) s = .next t ∧ t.site site = { s.site site with freq := none } ∧ unchangedBut [.sites] s t) ∧
  (∀ (s : State) (site tile path margin : Nat), (s.site site).powered = true → tile < 54 → path < 4 →
    ∃ t : State, exec (.replicaMarginLow site tile path margin) s = .next t ∧
      (∀ e, e ∈ (t.site site).lowPaths ↔ (margin < 2 ∧ e = (tile, path)) ∨ (e ≠ (tile, path) ∧ e ∈ (s.site site).lowPaths)) ∧
      (margin = 0 → (t.site site).stretchSince = (s.site site).stretchSince.or (some s.time)) ∧
      ((t.site site).lowPaths = [] → (t.site site).stretchSince = none) ∧
      ((t.site site).lowPaths ≠ [] → margin ≠ 0 → (t.site site).stretchSince = (s.site site).stretchSince) ∧ unchangedBut [.sites] s t) ∧
  (∀ (s : State) (site u : Nat), (s.site site).stretchSince = some u → u + 10000 < s.time → dueEvent (s.site site).slowAt s.time 1000000 = true →
    ∃ t : State, exec (.replicaSlow site) s = .next t ∧ (t.site site).slowAt = some s.time ∧
      t.log.events.head?.map (fun e => (e.code, e.subject, e.data)) =
        some (evReplicaSlow, site, [site, ((s.site site).lowPaths.head?.map (fun e => e.1)).getD 0, s.obj .C0B08 site]) ∧
      unchangedBut [.sites, .log, .markets] s t) ∧
  (∀ (s : State) (age : Nat), bitGet (s.obj .C0B0B 0) 0 = false →
    ∃ t : State, exec (.crystalLost age) s = .next t ∧ bitGet (t.obj .C0B0B 0) 0 = true ∧ bitGet (t.obj .C0B0B 0) 1 = true ∧ t.time = s.time + 160 ∧
      t.log.events.head?.map (fun e => (e.code, e.data)) = some (evClkXtalLost, [age]) ∧ objsBut [.C0B0B] s t ∧ unchangedBut [.objs, .log, .time] s t) ∧
  (∀ s : State, ∃ t : State, exec .spinePllUnlock s = .next t ∧ bitGet (t.obj .C0B0B 0) 2 = !bitGet (s.obj .C0B0B 0) 2 ∧
      t.log.events.head?.map (fun e => e.code) = some evBasePllSwitch ∧ objsBut [.C0B0B] s t ∧ unchangedBut [.objs, .log] s t) ∧
  (∀ (s : State) (site pll : Nat), (s.site site).powered = true →
    ∃ t : State, exec (.diePllUnlock site pll) s = .next t ∧ (t.site site).gated = true ∧ (∀ k, k < 48 → (s.tile site k).running = true → (t.tile site k).stopped = true) ∧
      t.log.events.head?.map (fun e => (e.code, e.subject, e.data)) = some (evDiePllUnlock, site, [site, pll]) ∧ unchangedBut [.sites, .tiles, .log, .boxes, .out] s t) ∧
  (∀ (s : State) (field diff : Nat), ∃ t : State, exec (.fieldTimeBaseLoss field diff) s = .next t ∧
      (∀ p, (p = 2 * field ∨ p = 2 * field + 1) → isDark p = false → t.inService p = false) ∧
      t.log.events.head?.map (fun e => (e.code, e.subject, e.data)) = some (evTimeSkew, field, [field, diff]) ∧ sameMemory s t) ∧
  (∀ (s : State) (port plane : Nat), ∃ t : State, exec (.bundleClockLoss port plane) s = .next t ∧
      (∀ e, e ∈ t.clockLost ↔ e = (port, plane) ∨ e ∈ s.clockLost) ∧ (plane < 8 → isDark port = false → t.readObj .L080D (8 * port + plane) = 2) ∧
      mapGet 0 t.aCond (port, 1) = s.time ∧ unchangedBut [.clockLost, .aCond] s t)

/-- A PTP port that is up sends a Sync every 2⁻⁷ s, unless its master is there, and a delay request every second. A Sync from the master, corrected by the link's asymmetry, sets C.0B02, and the sixteenth good one in succession makes C.0B00 aligned; at stage 6 of a start it sets the time,
once; a Sync from any other port changes nothing. The best clock announced, if it is better than the panel's own, is the master, and the panel converges; an Announce of the master's renews it; a worse clock than its own from the master or with none makes the panel grandmaster; any other changes nothing. A delay request is answered. A message of another domain than C.0B04 changes nothing.
With no Announce for 3 s an aligned panel holds over, which lasts 1 s. A zone whose fields all read within 1.5 ns is no longer waited for. Where the spec leaves it open, the model's choices are those of log 57, 94. -/
def Obligations.PtpCommandsComplete : Prop :=
  let settled (s : State) : Prop := s.ptpPorts = s
  let due (s : State) (m : AMap Nat Nat) (p every : Nat) : Prop := ∀ e, m.find? (fun e => e.1 == p) = some e → e.2 + every ≤ s.time
  let fixed (s : State) (p : Nat) (offset : Int) : Int := offset - (if p < 24 then (BitVec.ofNat 16 (s.obj .C0B0A p)).toInt else 0) / 1000
  let clock (a b c : Nat) : Nat := State.ownClock.clockOrder (a % 2 ^ 8) (b % 2 ^ 8) (c % 2 ^ 64)
  (∀ (s : State) (p : Nat), s.ptpUp p = true → s.ptp.master ≠ some p → due s s.ptp.syncAt p 7812500 →
    ∃ t : State, exec (.ptpSyncSend p) s = .next t ∧ mapGet 0 t.ptp.syncAt p = s.time ∧
      (24 ≤ p ∨ ¬ due s s.ptp.delayAt p 1000000000 → t.out = s.out ++ [.ptp p 0 s.time (s.obj .C0B04 0)]) ∧
      (p < 24 → due s s.ptp.delayAt p 1000000000 → t.out = s.out ++ [.ptp p 0 s.time (s.obj .C0B04 0), .ptp p 3 s.time (s.obj .C0B04 0)]) ∧ unchangedBut [.ptp, .out] s t) ∧
  (∀ (s : State) (p : Nat), s.ptpUp p = true → s.ptp.master = some p → due s s.ptp.delayAt p 1000000000 →
    ∃ t : State, exec (.ptpSyncSend p) s = .next t ∧ mapGet 0 t.ptp.delayAt p = s.time ∧ t.ptp.syncAt = s.ptp.syncAt ∧
      t.out = s.out ++ [.ptp p (if p < 24 then 3 else 2) s.time (s.obj .C0B04 0)] ∧ unchangedBut [.ptp, .out] s t) ∧
  (∀ (s : State) (p a b c : Nat) (offset : Int), s.ptpUp p = true → settled s → s.startup.stage ≠ 6 → s.ptp.master = some p → (fixed s p offset).natAbs ≤ 20 → 15 ≤ s.ptp.good →
    ∃ t : State, exec (.ptpMessageReceive p 0 offset a b c (s.obj .C0B04 0)) s = .next t ∧ t.obj .C0B00 0 = 2 ∧ t.obj .C0B02 0 = (BitVec.ofInt 32 (fixed s p offset)).toNat ∧ t.ptp.good = 16 ∧
      objsBut [.C0B00, .C0B02] s t ∧ unchangedBut [.objs, .ptp, .log] s t) ∧
  (∀ (s : State) (p a b c : Nat) (offset : Int), s.ptpUp p = true → settled s → s.startup.stage ≠ 6 → s.ptp.master = some p → (fixed s p offset).natAbs ≤ 20 → s.ptp.good < 15 →
    ∃ t : State, exec (.ptpMessageReceive p 0 offset a b c (s.obj .C0B04 0)) s = .next t ∧ t.obj .C0B00 0 = s.obj .C0B00 0 ∧ t.obj .C0B02 0 = (BitVec.ofInt 32 (fixed s p offset)).toNat ∧
      t.ptp.good = s.ptp.good + 1 ∧ objsBut [.C0B02] s t ∧ unchangedBut [.objs, .ptp] s t) ∧
  (∀ (s : State) (p a b c : Nat) (offset : Int), s.ptpUp p = true → settled s → s.startup.stage = 6 → s.ptp.set = false → (s.startup.warm = true → fixed s p offset ≤ 0) →
    s.ptp.master = some p →
    ∃ t : State, exec (.ptpMessageReceive p 0 offset a b c (s.obj .C0B04 0)) s = .next t ∧ t.time = ((s.time : Int) - fixed s p offset).toNat ∧ t.ptp.set = true ∧
      t.obj .C0B02 0 = (BitVec.ofInt 32 (fixed s p offset)).toNat ∧ objsBut [.C0B00, .C0B02] s t ∧ unchangedBut [.objs, .ptp, .log, .time, .startup] s t) ∧
  (∀ (s : State) (p a b c : Nat) (offset : Int), s.ptpUp p = true → settled s → s.ptp.master ≠ some p → exec (.ptpMessageReceive p 0 offset a b c (s.obj .C0B04 0)) s = .next s) ∧
  (∀ (s : State) (p a b c : Nat) (offset : Int), s.ptpUp p = true → settled s → clock a b c < s.ownClock → s.ptp.master ≠ some p →
    (s.ptp.master = none ∨ clock a b c < s.ptp.gm) →
    ∃ t : State, exec (.ptpMessageReceive p 1 offset a b c (s.obj .C0B04 0)) s = .next t ∧ t.ptp.master = some p ∧ t.ptp.gm = clock a b c ∧ t.ptp.lastAnnounce = s.time ∧ t.ptp.good = 0 ∧
      t.obj .C0B00 0 = 1 ∧ objsBut [.C0B00] s t ∧ unchangedBut [.objs, .ptp, .log] s t) ∧
  (∀ (s : State) (p a b c : Nat) (offset : Int), s.ptpUp p = true → settled s → clock a b c < s.ownClock → s.ptp.master = some p →
    exec (.ptpMessageReceive p 1 offset a b c (s.obj .C0B04 0)) s = .next { s with ptp := { s.ptp with gm := clock a b c, lastAnnounce := s.time } }) ∧
  (∀ (s : State) (p a b c : Nat) (offset : Int), s.ptpUp p = true → settled s → s.ownClock ≤ clock a b c → (s.ptp.master = some p ∨ s.ptp.master = none) →
    ∃ t : State, exec (.ptpMessageReceive p 1 offset a b c (s.obj .C0B04 0)) s = .next t ∧ t.ptp.master = none ∧ t.obj .C0B00 0 = 4 ∧ objsBut [.C0B00] s t ∧ unchangedBut [.objs, .ptp, .log] s t) ∧
  (∀ (s : State) (p q a b c : Nat) (offset : Int), s.ptpUp p = true → settled s → s.ptp.master = some q → q ≠ p → (s.ownClock ≤ clock a b c ∨ s.ptp.gm ≤ clock a b c) →
    exec (.ptpMessageReceive p 1 offset a b c (s.obj .C0B04 0)) s = .next s) ∧
  (∀ (s : State) (p a b c : Nat) (offset : Int), s.ptpUp p = true → settled s →
    exec (.ptpMessageReceive p (if p < 24 then 3 else 2) offset a b c (s.obj .C0B04 0)) s = .next { s with out := s.out ++ [.ptp p (if p < 24 then 5 else 4) s.time (s.obj .C0B04 0)] }) ∧
  (∀ (s : State) (p kind a b c domain : Nat) (offset : Int), domain ≠ s.obj .C0B04 0 → exec (.ptpMessageReceive p kind offset a b c domain) s = .next s) ∧
  (∀ s : State, settled s → s.ptp.lastAnnounce + 3000000000 ≤ s.time → s.obj .C0B00 0 = 2 →
    ∃ t : State, exec .announceTimeout s = .next t ∧ t.obj .C0B00 0 = 3 ∧ t.ptp.master = none ∧ t.ptp.holdSince = s.time ∧ objsBut [.C0B00] s t ∧ unchangedBut [.objs, .ptp, .log] s t) ∧
  (∀ s : State, s.obj .C0B00 0 = 3 → s.ptp.holdSince + 1000000000 ≤ s.time →
    ∃ t : State, exec .holdoverEnd s = .next t ∧ t.obj .C0B00 0 = 1 ∧ objsBut [.C0B00] s t ∧ unchangedBut [.objs, .log] s t) ∧
  (∀ (s : State) (zone : Nat) (skews : List (Nat × Nat)), (∀ e ∈ skews, e.1 ∈ zoneFields zone → e.2 ≤ 1500) →
    ∃ t : State, exec (.zoneRealignDone zone skews) s = .next t ∧ t.power = { s.power with realigning := s.power.realigning.filter (fun z => z != zone) } ∧
      objsBut [.C0B09] s t ∧ unchangedBut [.objs, .power] s t) ∧
  (∀ (s : State) (zone f d : Nat), f ∈ zoneFields zone → 1500 < d →
    ∃ t : State, exec (.zoneRealignDone zone [(f, d)]) s = .next t ∧ t.obj .C0B09 f = ratF32 d 1000 ∧ objsBut [.C0B09] s t ∧ unchangedBut [.objs] s t)

/-- A sample in range shows its voltage in P.0C00 and starts no failure; one below 36 V on a panel that runs switches every zone off and ends every stream. An eFuse over its limit opens, counted in P.0C07, and sets emergency bit 1. The end of a pre-charge test leaves the eFuse open on a fault and otherwise closes it and powers the zone. A
zone whose supply is lost reads so, with its ports out of service and its I/O die unpowered. A rail out of range stops its site's tiles and raises RAIL_FAULT. A power sample joins the last 1,000, and the fast guard engages above its limits and counts its time in P.0C0A. The cap loop, every 1 ms, lowers a site's ceiling by 25 MHz while a mean lies above its cap.
The feed's removal releases WAKE_N, and 15 s of feed charge the hold-up store. Where the spec leaves it open, the model's choices are those of log 58, 60, 61. -/
def Obligations.PowerCommandsComplete : Prop :=
  let parts : List Part := [.power, .objs, .boxes, .out, .log, .units, .update, .pins]
  let objects : List Obj := [.P0C0C, .D0A08, .W0000, .W000C]
  (∀ (s : State) (mv : Nat), 40000 ≤ mv → mv ≤ 59500 →
    ∃ t : State, exec (.inputSample mv) s = .next t ∧ t.power.mv = mv ∧ t.power.lowSince = none ∧ t.power.inRangeSince ≠ none ∧ t.power.failed = s.power.failed ∧
      t.obj .P0C00 0 = ratF32 mv 1000 ∧ objsBut (.P0C00 :: objects) s t ∧ unchangedBut parts s t) ∧
  (∀ (s : State) (mv : Nat), mv < 36000 → s.power.failed = false → s.startup.stage ≠ 0 → s.power.holdUpCharged = true →
    ∃ t : State, exec (.inputSample mv) s = .next t ∧ t.power.mv = mv ∧ t.power.failed = true ∧ t.startup.stage = 0 ∧ t.streams = [] ∧ t.waves = [] ∧
      (∀ z, z < 16 → t.obj .P0C06 z = 1)) ∧
  (∀ (s : State) (zone ma : Nat) (c : Instr), s.branchOn zone = true → zone < 14 → (s.fuseOpen 14 = false ∨ s.fuseOpen 15 = false) →
    ((c = .efuseShortTrip zone ma ∧ fuseShort zone < ma) ∨ (c = .efuseOvercurrent zone ma ∧ fuseLimit zone < ma)) →
    ∃ t : State, exec c s = .next t ∧ mapGet 0 t.power.fuseOpenAt zone = s.time ∧ t.fuseOpen zone = true ∧ t.obj .P0C07 zone = s.obj .P0C07 zone + 1 ∧
      bitGet (t.obj .P0C0C 0) 1 = true ∧ t.obj .P0C06 zone = 0 ∧ objsBut (.P0C07 :: objects) s t ∧ unchangedBut parts s t) ∧
  (∀ (s : State) (zone : Nat), zone ∈ s.power.fuseTest →
    ∃ t : State, exec (.prechargeTestDone zone true) s = .next t ∧ mapGet 0 t.power.fuseOpenAt zone = s.time ∧ zone ∉ t.power.fuseTest ∧ unchangedBut [.power, .cmds] s t) ∧
  (∀ (s : State) (zone : Nat), zone ∈ s.power.fuseTest → zone < 14 →
    ∃ t : State, exec (.prechargeTestDone zone false) s = .next t ∧ t.obj .P0C06 zone = 0 ∧ t.fuseOpen zone = false ∧ zone ∉ t.power.fuseTest ∧ zone ∈ t.power.realigning ∧ sameMemory s t) ∧
  (∀ (s : State) (session zone : Nat) (x : Session), s.openSession session = some x → s.cuActs 2 = true → (objRow .P0C08).level ≤ x.level → s.matches x = true →
    s.inRange .P0C08 0 zone = true → s.mayReclose zone = true →
    ∃ t : State, exec (.efuseReclose session zone) s = .next t ∧ t.power.fuseTest = s.power.fuseTest ++ [zone] ∧
      mapGet default t.cmds .P0C08 = { arg := zone, code := .ok, running := true, started := s.time, session := session } ∧ unchangedBut [.power, .cmds, .log] s t) ∧
  (∀ (s : State) (zone : Nat), zone < 14 → s.fuseOpen zone = true → s.obj .P0C06 zone ≠ 3 →
    ∃ t : State, exec (.zoneLost zone) s = .next t ∧ t.obj .P0C06 zone = 3 ∧ (∀ p ∈ zonePorts zone, t.inService p = false) ∧
      (∀ p ∈ zonePorts zone, isSite p = true → (t.site p).powered = false) ∧ (∀ i, iodOfZone zone = some i → (t.iod i).powered = false)) ∧
  (∀ (s : State) (site rail mv : Nat), (s.site site).powered = true → rail < 5 → (mv < (railRange rail).1 ∨ (railRange rail).2 < mv) →
    ∃ t : State, exec (.railFault site rail mv) s = .next t ∧ (∀ k, k < 48 → (s.tile site k).running = true → (t.tile site k).stopped = true) ∧
      t.log.events.head?.map (fun e => (e.code, e.subject, e.data)) = some (evRailFault, site, [site, rail, mv]) ∧ objsBut [.P0C0D, .D0A08] s t ∧
      unchangedBut [.objs, .tiles, .sites, .log, .boxes, .out] s t) ∧
  (∀ (s : State) (watts : Nat) (zones : List Nat),
    let last := ((watts :: s.power.samples).take 1000).take 10
    ∃ t : State, exec (.powerSample watts zones) s = .next t ∧ t.power.samples = (watts :: s.power.samples).take 1000 ∧
      (s.power.guard = false → last.length = 10 → (165000 < last.sum ∨ 1050 * s.capNow < 100 * last.sum) → t.power.guard = true ∧ t.power.guardFrom = s.time) ∧
      (s.power.guard = true → t.obj .P0C0A 0 = s.obj .P0C0A 0 + (s.time - s.power.guardFrom) / 1000) ∧
      (s.power.guard = false → t.obj .P0C0A 0 = s.obj .P0C0A 0) ∧
      (s.power.guard = true → last.sum < s.capNow * last.length → last.sum ≤ 16500 * last.length → t.power.guard = false) ∧
      objsBut [.P0C01, .P0C02, .P0C05, .P0C0A] s t ∧ unchangedBut [.power, .objs] s t) ∧
  (∀ s : State, s.power.capAt ≤ s.time → ∃ t : State, exec .capLoopStep s = .next t ∧ t.power.capAt = s.time + 1000000 ∧
    (∀ p ∈ usedPorts, isSite p = true → ((s.meanAndCap 15).2 < (s.meanAndCap 15).1 ∨ (s.meanAndCap (zoneOf p)).2 < (s.meanAndCap (zoneOf p)).1) →
      t.obj .P0C09 p = max 400 (s.obj .P0C09 p - 25)) ∧
    (∀ p ∈ usedPorts, isSite p = true → (s.meanAndCap 15).1 ≤ (s.meanAndCap 15).2 → (s.meanAndCap (zoneOf p)).1 ≤ (s.meanAndCap (zoneOf p)).2 →
      t.obj .P0C09 p = s.obj .P0C09 p ∨ t.obj .P0C09 p = min 1800 (s.obj .P0C09 p + 25)) ∧
    objsBut (.P0C09 :: objects) s t ∧ unchangedBut (.sites :: .markets :: parts) s t) ∧
  (∀ s : State, s.power.aonFeed = true →
    ∃ t : State, exec .alwaysOnFeedRemoved s = .next t ∧ t.power.aonFeed = false ∧ t.pins.wakeN = false ∧ unchangedBut [.power, .pins] s t) ∧
  (∀ s : State, s.power.aonFeed = true → s.power.feedFrom + 15000000000 ≤ s.time →
    exec .holdUpStoreCharged s = .next { s with power := { s.power with holdUpCharged := true } })

/-- A fresh reading in range of a powered sensor of a port's region is its value; one with bad parity breaks it. A stack sensor at 110 °C makes its stack's trip due, which trips it: port out of service, every rail off, emergency bit 2. A hot zone's ports are withdrawn, and then its supply opens, counted in T.012A; it is powered again once its time has passed and the
inlet is within its limit. A trip cause trips the panel: every zone off, TRIP_N asserted. An emergency bit whose cause has been away for 1 s clears; WAKE_N is asserted 10 s after every trip cause has gone. A withdrawal is complete at the following frame boundary, and a region in B4 is then switched off. Where the spec leaves it open, the model's choices are those of log 58, 59, 60, 62. -/
def Obligations.HeatCommandsComplete : Prop :=
  (∀ (s : State) (r k : Nat) (x : Reading), r < 112 → s.sensorPowered r k = true → x.fresh = true → x.parity = true → -4000 ≤ x.centi → x.centi ≤ 15000 →
    ∃ t : State, exec (.sensorSample [((r, k), x)]) s = .next t ∧ (t.sensor r k).centi = x.centi ∧ (t.sensor r k).misses = 0 ∧ (t.sensor r k).sampled = true ∧
      t.time = s.time ∧ sameMemory s t) ∧
  (∀ (s : State) (site k : Nat) (x : Reading), isSite site = true → s.sensorPowered site k = true → x.fresh = true → x.parity = true → 11000 ≤ x.centi → x.centi ≤ 15000 →
    s.heat.tripDue.find? (fun e => e.1 == site) = none → (s.site site).tripped = false →
    ∃ t : State, exec (.sensorSample [((site, k), x)]) s = .next t ∧ (t.heat.tripDue.any (fun e => e.1 == site)) = true) ∧
  (∀ (s : State) (r k : Nat) (x : Reading), r < 112 → s.sensorPowered r k = true → x.fresh = true → x.parity = false →
    ∃ t : State, exec (.sensorSample [((r, k), x)]) s = .next t ∧ (t.sensor r k).broken = true ∧ sameMemory s t) ∧
  (∀ (s : State) (site k : Nat) (c : Int), isSite site = true → s.heat.tripDue.find? (fun e => e.1 == site) = some (site, k, c) →
    ∃ t : State, exec (.stackTrip site) s = .next t ∧ (t.site site).tripped = true ∧ (t.site site).powered = false ∧ (t.site site).retest = true ∧
      t.inService site = false ∧ bitGet (t.obj .P0C0C 0) 2 = true) ∧
  (∀ (s : State) (zone : Nat), zone < 14 → s.zoneOn zone = true → s.zoneHot zone = true →
    ((zonePorts zone).any (fun p => s.inService p) = true → ∃ t : State, exec (.heatZoneOff zone) s = .next t ∧
      (∀ p ∈ zonePorts zone, s.inService p = true → ∃ f : Nat, (p, f) ∈ t.withdrawing) ∧ unchangedBut [.withdrawing] s t) ∧
    ((zonePorts zone).any (fun p => s.inService p) = false → ∃ t : State, exec (.heatZoneOff zone) s = .next t ∧ t.obj .P0C06 zone = 2 ∧
      t.obj .T012A zone = s.obj .T012A zone + 1 ∧ mapGet 0 t.power.zoneOffAt zone = s.time ∧ (∀ p ∈ zonePorts zone, isSite p = true → (t.site p).powered = false))) ∧
  (∀ (s : State) (zone : Nat), zone < 14 → s.obj .P0C06 zone = 2 → mapGet 0 s.power.zoneOffAt zone + 1000000000 * s.obj .T0129 0 ≤ s.time →
    s.heat.inlet ≤ 100 * (s.obj .T0128 0 : Int) →
    ∃ t : State, exec (.heatZoneReturn zone) s = .next t ∧ t.obj .P0C06 zone = 0 ∧ zone ∈ t.power.realigning ∧ sameMemory s t) ∧
  (∀ (s : State) (cause : Nat), s.power.tripped = false →
    ((cause = 0 ∧ s.heat.island = bandB4) ∨ (cause = 1 ∧ ∃ u : Nat, s.power.outletHotSince = some u ∧ u + 1000000000 ≤ s.time) ∨
      (cause = 2 ∧ s.fuseOpen 14 = true ∧ s.fuseOpen 15 = true) ∨ (cause = 3 ∧ s.power.failed = true ∧ s.power.holdUpCharged = false)) →
    ∃ t : State, exec (.panelTrip cause) s = .next t ∧ t.power.tripped = true ∧ t.pins.tripN = true ∧ t.startup.stage = 0 ∧ (∀ z, z < 16 → t.obj .P0C06 z = 1)) ∧
  (∀ (s : State) (n u : Nat), s.power.emergencyGone.find? (fun e => e.1 == n) = some (n, u) → bitGet (s.obj .P0C0C 0) n = true → s.emergencyCause n = false →
    u + 1000000000 ≤ s.time →
    ∃ t : State, exec (.emergencyBitClear n) s = .next t ∧ bitGet (t.obj .P0C0C 0) n = false ∧ (∀ m, m ≠ n → bitGet (t.obj .P0C0C 0) m = bitGet (s.obj .P0C0C 0) m) ∧
      objsBut [.P0C0C, .D0A08] s t ∧ unchangedBut [.power, .objs, .boxes, .out, .log] s t) ∧
  (∀ (s : State) (u : Nat), s.power.tripped = true → s.power.causesGoneSince = some u → u + 10000000000 ≤ s.time →
    exec .wakeNAssert s = .next { s with pins := { s.pins with wakeN := true } }) ∧
  (∀ (s : State) (port f : Nat), s.withdrawing.find? (fun x => x.1 == port) = some (port, f) → f + 1 ≤ s.frameNo →
    (s.band port ≠ bandB4 → ∃ t : State, exec (.withdrawalComplete port) s = .next t ∧ t.obj .B0601 port = 2 ∧
      t.withdrawing = mapDel s.withdrawing port ∧ t.log.events.head?.map (fun e => (e.code, e.subject, e.data)) = some (evPortWithdrawn, port, [0]) ∧
      objsBut [.B0601] s t ∧ unchangedBut [.withdrawing, .pathOk, .objs, .log, .cmds] s t) ∧
    (s.band port = bandB4 → isSite port = true → ∃ t : State, exec (.withdrawalComplete port) s = .next t ∧ t.obj .B0601 port = 2 ∧ (t.site port).powered = false ∧
      (t.mover port).chans = []))

/-- A request of an open session, from its source, with its tag and a fresh number, while the unit acts, is answered once with its own number. A READ of one object at a level that may see it gives the value in force at its full length. A LIST gives the next entries of an area in order of number, at most 15. A SUBSCRIBE of one object adds its subscription.
A message that is not valid is discarded and counted in K.0D03, and, from start-up stage 4 on, one whose session's unit does not act is kept. A due subscription sends NOTIFY with the session's next notify number. Where the spec leaves it open, the model's choices are those of log 53, 75, 76. -/
def Obligations.LedgerReadsComplete : Prop :=
  let fresh (s : State) (type : Nat) (m : LedgerMsg) (x : Session) : Prop :=
    s.valid type m = some x ∧ s.cuActs 2 = true ∧ m.wellFormed = true ∧ seqCase x m.seq = .fresh
  let answered (s t : State) (m : LedgerMsg) (x : Session) (type : Nat) (r : Reply) : Prop :=
    t.out = s.out ++ [.ledger x.src x.sport (x.replyCls r) r (replyTag x.key r)] ∧ r.type = type ∧ r.session = m.session ∧ r.seq = m.seq ∧
    (∃ y : Session, t.session m.session = some y ∧ y.newest = m.seq ∧ y.lastMsg = s.time ∧ (m.seq, r) ∈ y.answered)
  (∀ (s : State) (m : LedgerMsg) (x : Session) (it : Item) (r : ObjRow), fresh s 1 m x → m.items = [it] → findObj it.area it.num = some r → r.level ≤ x.level →
    r.access ≠ .wo → r.access ≠ .cmd → it.all = false → it.index < r.elements → it.type = otypeCode r.type → it.offset = 0 → it.pend = false →
    s.valueLen r.obj it.index ≤ it.len → s.valueLen r.obj it.index ≤ 1184 →
    ∃ (t : State) (a : Answer) (p : Reply), exec (.read m) s = .next t ∧ answered s t m x 1 p ∧ p.code = .ok ∧ p.trunc = false ∧ p.items = [a] ∧ a.code = .ok ∧
      a.area = it.area ∧ a.num = it.num ∧ a.index = it.index ∧ a.len = s.valueLen r.obj it.index ∧
      (r.obj ≠ .K0D00 → r.obj ≠ .K0D01 → 0 < s.valueLen r.obj it.index → a.value = s.readPart r.obj it.index 0 (s.valueLen r.obj it.index)) ∧
      unchangedBut [.sessions, .out] s t) ∧
  (∀ (s : State) (m : LedgerMsg) (x : Session) (it : Item), fresh s 8 m x → m.items = [it] →
    ∃ (t : State) (p : Reply), exec (.list m) s = .next t ∧ answered s t m x 8 p ∧ p.code = .ok ∧
      p.items.map (fun a => (a.area, a.num, a.len, a.value)) = ((listRows x.level it.area it.num).take 15).map (fun r => (r.area, r.num, 64, r.entry)) ∧
      unchangedBut [.sessions, .out] s t) ∧
  (∀ (s : State) (m : LedgerMsg) (x : Session) (it : Item) (r : ObjRow), fresh s 6 m x → m.items = [it] → findObj it.area it.num = some r → r.level ≤ x.level →
    r.access ≠ .wo → it.index < r.elements → (it.value = 0 ∨ 1000 ≤ it.value) → it.value < 0xFFFFFFFF → it.len = 4 → x.subs.length < 64 →
    ∃ (t : State) (p : Reply) (y : Session) (u : Sub), exec (.subscribe m) s = .next t ∧ answered s t m x 6 p ∧ p.items.map (fun a => a.code) = [.ok] ∧
      t.session m.session = some y ∧ u ∈ y.subs ∧ u.obj = r.obj ∧ u.index = it.index ∧ u.period = it.value ∧ u.last = s.time ∧ unchangedBut [.sessions, .out] s t) ∧
  (∀ (s : State) (m : LedgerMsg), s.valid 1 m = none →
    ∃ t : State, exec (.read m) s = .next t ∧ t.obj .K0D03 0 = s.obj .K0D03 0 + 1 ∧ objsBut [.K0D03] s t ∧ unchangedBut [.objs] s t) ∧
  (∀ (s : State) (m : LedgerMsg) (x : Session), s.valid 1 m = some x → s.cuActs 2 = false → 4 ≤ s.startup.stage → s.kept = [] →
    ∃ t : State, exec (.read m) s = .next t ∧ t.kept = [.read m] ∧ t.out = s.out ∧ unchangedBut [.sessions, .kept] s t) ∧
  (∀ (s : State) (n : Nat) (x : Session), s.openSession n = some x → s.cuActs 2 = true → (∃ u ∈ x.subs, s.subDue u = true) → dueEvent x.lastNotify s.time 1000000 = true →
    ∃ (t : State) (y : Session) (gap : Bool) (l : List Answer), exec (.notify n) s = .next t ∧ t.session n = some y ∧ y.notifySeq = (x.notifySeq + 1) % 65536 ∧
      y.lastNotify = some s.time ∧ y.gap = false ∧ t.out = s.out ++ [.notify n x.notifySeq (some .D) gap l (notifyTag x.key n x.notifySeq gap l)] ∧
      (x.gap = true → gap = true) ∧ unchangedBut [.sessions, .out] s t)

/-- A WRITE of one scalar Live object in range, by a session of its level whose version matches, puts the value in force, is answered OK, and at Expert or Service level raises LEDGER_WRITE. A STAGE of one scalar adds it to the stage set and changes nothing in force. A COMMIT of one group member, not overtaken and agreed by its group's check, puts it in
force; a ledger key goes to the store of keys. ABORT empties the stage set. At its boundary a waiting commit applies and its session is notified, and an Edge shadow takes effect. Where the spec leaves it open, the model's choices are those of log 53, 75, 77, 78. -/
def Obligations.LedgerWritesComplete : Prop :=
  let fresh (s : State) (type : Nat) (m : LedgerMsg) (x : Session) : Prop :=
    s.valid type m = some x ∧ s.cuActs 2 = true ∧ m.wellFormed = true ∧ seqCase x m.seq = .fresh
  let answered (s t : State) (m : LedgerMsg) (x : Session) (type : Nat) (r : Reply) : Prop :=
    t.out = s.out ++ [.ledger x.src x.sport (x.replyCls r) r (replyTag x.key r)] ∧ r.type = type ∧ r.session = m.session ∧ r.seq = m.seq
  let scalar (r : ObjRow) (it : Item) : Prop :=
    r.type ≠ .string ∧ r.type ≠ .table ∧ r.type ≠ .blob ∧ it.all = false ∧ it.index < r.elements ∧ it.type = otypeCode r.type ∧ it.offset = 0 ∧ it.len = r.size
  (∀ (s : State) (m : LedgerMsg) (x : Session) (it : Item) (r : ObjRow), fresh s 2 m x → m.items = [it] → findObj it.area it.num = some r → r.access = .rw → r.apply = .live →
    r.level ≤ x.level → s.matches x = true → scalar r it → s.inRange r.obj it.index (keepBits r.obj it.value) = true →
    crossOk r.obj (fun o i => if o = r.obj ∧ i = it.index then keepBits r.obj it.value else s.inForce o i) = true → s.refusedByState r.obj it.index = false →
    ∃ (t : State) (p : Reply), exec (.write m) s = .next t ∧ answered s t m x 2 p ∧ p.code = .ok ∧ p.items.map (fun a => a.code) = [.ok] ∧
      t.obj r.obj it.index = keepBits r.obj it.value ∧ mapGet 0 t.wrote (r.obj, it.index) = s.time ∧ objsBut [r.obj] s t ∧
      (1 ≤ x.level → t.log.events.head?.map (fun e => (e.code, e.subject, e.data)) = some (evLedgerWrite, m.session, [m.session, r.number, it.index])) ∧ sameMemory s t) ∧
  (∀ (s : State) (m : LedgerMsg) (x : Session) (it : Item) (r : ObjRow), fresh s 3 m x → m.items = [it] → findObj it.area it.num = some r → r.takesStage = true →
    r.level ≤ x.level → s.matches x = true → scalar r it → s.inRange r.obj it.index (keepBits r.obj it.value) = true → x.stage.length < 64 →
    ∃ (t : State) (p : Reply) (y : Session), exec (.stage m) s = .next t ∧ answered s t m x 3 p ∧ p.items.map (fun a => a.code) = [.ok] ∧
      t.session m.session = some y ∧ { obj := r.obj, index := it.index, value := keepBits r.obj it.value, time := s.time } ∈ y.stage ∧ unchangedBut [.sessions, .out] s t) ∧
  (∀ (s : State) (m : LedgerMsg) (x : Session) (g : StageItem), fresh s 4 m x → x.stage = [g] → s.matches x = true → s.overtaken g = false → (objRow g.obj).apply = .group →
    s.memberCode [g] g = .ok →
    ∃ (t : State) (p : Reply), exec (.commit m) s = .next t ∧ answered s t m x 4 p ∧ p.code = .ok ∧
      (g.obj ≠ .K0D18 → g.obj ≠ .K0D19 → g.obj ≠ .K0D1A → t.obj g.obj g.index = keepBits g.obj g.value ∧ objsBut [g.obj] s t) ∧
      (g.obj = .K0D18 → t.store.keyBasic = some g.value ∧ t.store.freshBasic = true) ∧ (g.obj = .K0D19 → t.store.keyExpert = some g.value ∧ t.store.freshExpert = true) ∧
      (g.obj = .K0D1A → t.store.keyService = some g.value) ∧ (∀ y : Session, t.session m.session = some y → y.stage = []) ∧ sameMemory s t) ∧
  (∀ (s : State) (m : LedgerMsg) (x : Session) (g : StageItem), fresh s 4 m x → x.stage = [g] → s.matches x = true → s.overtaken g = true →
    ∃ (t : State) (p : Reply), exec (.commit m) s = .next t ∧ answered s t m x 4 p ∧ p.code = .aborted ∧ unchangedBut [.sessions, .out] s t) ∧
  (∀ (s : State) (m : LedgerMsg) (x : Session), fresh s 5 m x →
    ∃ (t : State) (p : Reply) (y : Session), exec (.abort m) s = .next t ∧ answered s t m x 5 p ∧ p.code = .ok ∧ t.session m.session = some y ∧ y.stage = [] ∧
      unchangedBut [.sessions, .out] s t) ∧
  (∀ (s : State) (wave : Bool) (c : PendCommit) (g : StageItem) (x : Session), s.commits = [c] → c.wave = wave → c.members = [g] → s.openSession c.session = some x →
    (objRow g.obj).apply ≠ .group → g.obj ≠ .K0D05 →
    ∃ (t : State) (gap : Bool) (l : List Answer), exec (.commitApply wave) s = .next t ∧ t.commits = [] ∧ t.obj g.obj g.index = keepBits g.obj g.value ∧ (g.obj ≠ .X0708 → g.obj ≠ .L080A → objsBut [g.obj] s t) ∧
      t.out = s.out ++ [.notify c.session x.notifySeq (messageClass x.commons true l) gap l (notifyTag x.key c.session x.notifySeq gap l)] ∧ l.map (fun a => a.index) = [g.index] ∧ sameMemory s t) ∧
  (∀ (s : State) (wave : Bool) (o : Obj) (i v : Nat), s.shadow = [((o, i), v)] → (objRow o).atBoundary wave = true →
    ∃ t : State, exec (.edgeApply wave) s = .next t ∧ t.shadow = [] ∧ t.obj o i = keepBits o v ∧ objsBut [o] s t ∧ sameMemory s t)

/-- A HELLO within the limits takes the first free session number and a new panel nonce and is answered CHALLENGE; one beyond them is answered ACCESS_DENIED and opens nothing. The right PROOF from its source opens the session, raises SESSION_OPEN and is answered WELCOME with the proof and tag; a wrong one releases the session, counts in K.0D04 and
raises PROOF_FAILED, and the third in 60 s locks its source out. BYE is answered and ends the session, as K.0D02 without a message does; a session without PROOF is released after 1 s; a lockout ends after 60 s. The panel nonce is the model's free value (log 2). Where the spec leaves it open, the model's choices are those of log 2, 43, 62, 80. -/
def Obligations.SessionCommandsComplete : Prop :=
  (∀ (s : State) (src sport dst dport level version name n : Nat) (commons : Bool) (nonce : BitVec 256), s.carried src dst dport commons = true → mapGet 0 s.lockouts src ≤ s.time →
    s.cuActs 2 = true → level ≤ 2 → s.freeSession = some n → s.helloRefused level = false →
    ∃ (t : State) (x : Session), exec (.hello src sport dst dport commons level version nonce name) s = .next t ∧ t.session n = some x ∧ x.proven = false ∧ x.level = level ∧
      x.version = version ∧ x.src = src ∧ x.sport = sport ∧ x.commons = commons ∧ x.hostNonce = nonce ∧ x.panelNonce = Config.nonce s.freeCount ∧ x.name = name ∧
      x.challengeAt = s.time ∧ x.started = false ∧ x.stage = [] ∧ x.subs = [] ∧ t.out = s.out ++ [.challenge n .ok (Config.nonce s.freeCount) s.fwInterface] ∧
      t.freeCount = s.freeCount + 1 ∧ (∀ k, k ≠ n → t.session k = s.session k) ∧ unchangedBut [.sessions, .out, .freeCount] s t) ∧
  (∀ (s : State) (src sport dst dport level version name : Nat) (commons : Bool) (nonce : BitVec 256), s.carried src dst dport commons = true → mapGet 0 s.lockouts src ≤ s.time →
    s.cuActs 2 = true → level ≤ 2 → s.helloRefused level = true →
    exec (.hello src sport dst dport commons level version nonce name) s = .next { s with out := s.out ++ [.challenge 0 .accessDenied 0 s.fwInterface] }) ∧
  (∀ (s : State) (n key dst dport : Nat) (x : Session), s.carried x.src dst dport x.commons = true → s.session n = some x → x.proven = false → s.time ≤ x.challengeAt + 1000000000 → s.cuActs 2 = true → s.levelKey x.level = some key →
    let p := panelProof key x.hostNonce x.panelNonce n x.level x.version
    let k := sessionKey key x.hostNonce x.panelNonce n x.level x.version
    ∃ t : State, exec (.proof n x.src x.sport dst dport x.commons (hostProof key x.hostNonce x.panelNonce n x.level x.version)) s = .next t ∧
      t.session n = some { x with proven := true, key := k, lastMsg := s.time } ∧
      t.out = s.out ++ [.welcome n .ok (some p) (s.obj .K0D02 0) (welcomeTag k n .ok (some (p, s.obj .K0D02 0)))] ∧
      t.log.events.head?.map (fun e => (e.code, e.subject, e.data)) = some (evSessionOpen, n, [n, x.level, x.src, x.version]) ∧ unchangedBut [.sessions, .out, .log] s t) ∧
  (∀ (s : State) (n key dst dport : Nat) (h : BitVec 384) (x : Session), s.carried x.src dst dport x.commons = true → s.session n = some x → x.proven = false → s.time ≤ x.challengeAt + 1000000000 → s.cuActs 2 = true →
    s.levelKey x.level = some key → h ≠ hostProof key x.hostNonce x.panelNonce n x.level x.version →
    ∃ t : State, exec (.proof n x.src x.sport dst dport x.commons h) s = .next t ∧ t.session n = none ∧ t.obj .K0D04 0 = s.obj .K0D04 0 + 1 ∧
      t.log.events.head?.map (fun e => (e.code, e.data)) = some (evProofFailed, [x.src, x.level]) ∧ t.out = s.out ++ [.welcome n .accessDenied none 0
        (welcomeTag (sessionKey key x.hostNonce x.panelNonce n x.level x.version) n .accessDenied none)] ∧
      (2 ≤ ((mapGet [] s.badProofs x.src).filter (fun u => decide (s.time < u + 60000000000))).length → mapGet 0 t.lockouts x.src = s.time + 60000000000) ∧
      objsBut [.K0D04] s t ∧ unchangedBut [.sessions, .objs, .out, .log, .badProofs, .lockouts] s t) ∧
  (∀ (s : State) (m : LedgerMsg) (x : Session), s.valid 20 m = some x → s.cuActs 2 = true → m.wellFormed = true → seqCase x m.seq = .fresh →
    ∃ (t : State) (p : Reply), exec (.bye m) s = .next t ∧ t.session m.session = none ∧ p.code = .ok ∧ p.seq = m.seq ∧
      t.out = s.out ++ [.ledger x.src x.sport (x.replyCls p) p (replyTag x.key p)] ∧
      t.log.events.head?.map (fun e => (e.code, e.subject, e.data)) = some (evSessionEnd, m.session, [m.session, 0]) ∧ unchangedBut [.sessions, .out, .log] s t) ∧
  (∀ (s : State) (n : Nat) (x : Session), s.openSession n = some x → x.lastMsg + 1000000000 * s.obj .K0D02 0 ≤ s.time →
    ∃ t : State, exec (.sessionIdleTimeout n) s = .next t ∧ t.session n = none ∧
      t.log.events.head?.map (fun e => (e.code, e.subject, e.data)) = some (evSessionEnd, n, [n, 1]) ∧ unchangedBut [.sessions, .log] s t) ∧
  (∀ (s : State) (n : Nat) (x : Session), s.session n = some x → x.proven = false → x.challengeAt + 1000000000 ≤ s.time →
    ∃ t : State, exec (.challengeTimeout n) s = .next t ∧ t.session n = none ∧ (∀ k, k ≠ n → t.session k = s.session k) ∧ unchangedBut [.sessions] s t) ∧
  (∀ (s : State) (src e : Nat), (src, e) ∈ s.lockouts → e ≤ s.time →
    ∃ t : State, exec (.helloLockoutEnd src) s = .next t ∧ mapGet 0 t.lockouts src = 0 ∧ unchangedBut [.lockouts] s t)

/-- A command of an open session of its level, whose version matches and whose argument is in range, begins, is recorded with its argument, and raises LEDGER_WRITE: serve_start from ready or held serves; a port's withdrawal is asked for; switchover releases the lease, or overlaps it; an image check runs; a verified image is handed over or named for the
next start; a flush runs; a logical stack is taken out and a spare takes its place; a zone's base logic resets. serve_start of a session that does not match holds the panel. Verification ends with the image in both inactive slots, or rejected; a flush ends with its generation; an erased slot stands; a command past its limit ends with TIMEOUT. Where the spec leaves it open, the model's choices are those of log 61, 62, 78, 79, 81. -/
def Obligations.LedgerCommandsComplete : Prop :=
  let may (s : State) (o : Obj) (arg n : Nat) (x : Session) : Prop :=
    s.openSession n = some x ∧ s.cuActs 2 = true ∧ (objRow o).level ≤ x.level ∧ s.matches x = true ∧ s.inRange o 0 arg = true
  let begun (s t : State) (o : Obj) (arg n : Nat) (running : Bool) : Prop :=
    mapGet default t.cmds o = { arg := arg, code := .ok, running := running, started := s.time, session := n } ∧
    t.log.events.head?.map (fun e => (e.code, e.subject, e.data)) = some (evLedgerWrite, n, [n, (objRow o).number, 0])
  (∀ (s : State) (n : Nat) (x : Session), may s .X070E 1 n x → (s.obj .X0700 0 = planReady ∨ s.obj .X0700 0 = planHeld) → s.obj .I0D05 0 = 2 →
    ∃ t : State, exec (.serveStart n) s = .next t ∧ t.obj .X0700 0 = planServing ∧ t.obj .W0008 0 = 0 ∧ begun s t .X070E 1 n false ∧ objsBut [.X0700, .W0008] s t ∧
      unchangedBut [.objs, .cmds, .log] s t) ∧
  (∀ (s : State) (n : Nat) (x : Session), s.openSession n = some x → s.cuActs 2 = true → (objRow .X070E).level ≤ x.level → s.matches x = false →
    (s.obj .X0700 0 = planReady ∨ s.obj .X0700 0 = planHeld) → s.inRange .X070E 0 1 = true →
    ∃ t : State, exec (.serveStart n) s = .next t ∧ t.obj .X0700 0 = planHeld ∧ t.log.events.head?.map (fun e => (e.code, e.subject)) = some (evVersionHeld, n) ∧
      t.cmds = s.cmds ∧ objsBut [.X0700, .W0008] s t ∧ unchangedBut [.objs, .log] s t) ∧
  (∀ (s : State) (n port : Nat) (x : Session), may s .B060A port n x → (∀ f, (port, f) ∉ s.withdrawing) →
    ∃ t : State, exec (.portWithdrawCmd n port) s = .next t ∧ mapGet 0 t.withdrawing port = s.frameNo + 1 ∧ begun s t .B060A port n true ∧
      unchangedBut [.withdrawing, .cmds, .log] s t) ∧
  (∀ (s : State) (n u v : Nat) (x : Session), may s .W0004 1 n x → s.keeper.holder = some u → s.standby = some v →
    (s.obj .W0003 0 ≠ 1 → ∃ t : State, exec (.switchover n) s = .next t ∧ t.keeper.holder = none ∧ t.obj .W0000 u = 3 ∧ t.keeper.epoch = s.keeper.epoch ∧ begun s t .W0004 1 n false ∧
      objsBut [.W0000, .W0002] s t ∧ unchangedBut [.keeper, .compare, .objs, .cmds, .log] s t) ∧
    (s.obj .W0003 0 = 1 → s.recovery.resetWait = [] → ∃ t : State, exec (.switchover n) s = .next t ∧ t.keeper.holder = some v ∧ t.obj .W0000 u = 3 ∧ t.obj .W0000 v = 0 ∧
      t.keeper.epoch = (s.keeper.epoch + 1) % 2 ^ 32 ∧ t.keeper.overlap = some (s.time + 200000) ∧ begun s t .W0004 1 n false)) ∧
  (∀ (s : State) (n : Nat) (x : Session), may s .W000A 1 n x →
    ∃ t : State, exec (.imageVerify n) s = .next t ∧ begun s t .W000A 1 n true ∧ unchangedBut [.cmds, .log] s t) ∧
  (∀ (s : State) (u : Nat) (c : Cmd), s.keeper.holder = some u → s.cuActs 3 = true → s.cmds.find? (fun c => c.1 == .W000A) = some (.W000A, c) → c.running = true →
    let i := s.bufferedImage
    ∃ t : State, exec .imageVerifyDone s = .next t ∧
      (i.sigOk = true → i.hashOk = true → s.store.minSecurity ≤ i.security → recordReadable i ((s.unit u).running.getD Config.factoryImage) = true →
        (∀ v, v < 2 → t.unit v = (s.unit v).putInactive i) ∧ t.update.verified = some i ∧ t.obj .W000C 0 = 1 ∧
        mapGet default t.cmds .W000A = { c with code := .ok, running := false } ∧ objsBut [.W000C] s t ∧ unchangedBut [.units, .update, .objs, .cmds] s t) ∧
      ((i.sigOk = false ∨ i.hashOk = false) → t.log.events.head?.map (fun e => e.code) = some evImageRejected ∧
        mapGet default t.cmds .W000A = { c with code := .busError, running := false } ∧ unchangedBut [.cmds, .log] s t)) ∧
  (∀ (s : State) (n v : Nat) (x : Session), may s .W000B 1 n x → s.imageHeld = true → s.standby = some v →
    (s.obj .P0C0C 0 = 0 → ∃ t : State, exec (.imageActivateLive n) s = .next t ∧ t.obj .W000C 0 = 3 ∧ t.obj .W0000 v = 2 ∧ (t.unit v).bootB = !(s.unit v).runsB ∧
      (t.unit v).running = none ∧ t.update.startedAt = some s.time ∧ t.update.newUnit = v ∧ begun s t .W000B 1 n false) ∧
    (s.obj .P0C0C 0 ≠ 0 → ∃ t : State, exec (.imageActivateLive n) s = .next t ∧ t.obj .W000C 0 = 2 ∧ begun s t .W000B 1 n false ∧ unchangedBut [.objs, .cmds, .log] s t)) ∧
  (∀ (s : State) (n : Nat) (x : Session), may s .W000B 2 n x → s.imageHeld = true →
    ∃ t : State, exec (.imageActivateNextStart n) s = .next t ∧ (∀ u, u < 2 → t.unit u = { s.unit u with bootB := !(s.unit u).runsB }) ∧ begun s t .W000B 2 n false ∧
      unchangedBut [.units, .cmds, .log] s t) ∧
  (∀ (s : State) (n : Nat) (x : Session), may s .W0017 1 n x → s.log.flushing = none →
    ∃ t : State, exec (.blackboxFlush n) s = .next t ∧ t.log.flushing = some s.time ∧ begun s t .W0017 1 n true ∧ unchangedBut [.cmds, .log] s t) ∧
  (∀ (s : State) (u : Nat) (c : Cmd), s.log.flushing = some u → s.cmds.find? (fun c => c.1 == .W0017) = some (.W0017, c) → c.running = true →
    ∃ t : State, exec .blackboxFlushDone s = .next t ∧ t.log.flushing = none ∧ t.log.erased = false ∧ t.log.flash.head? = some t.log.bb ∧
      t.log.bb.head?.map (fun r => r.code) = some evBbFlush ∧ mapGet default t.cmds .W0017 = { c with code := .ok, running := false } ∧ unchangedBut [.log, .cmds] s t) ∧
  (∀ s : State, s.log.erased = false → s.log.flushing = none → s.startup.stage ≠ 0 →
    exec .blackboxSlotErase s = .next { s with log := { s.log with flash := s.log.flash.take 3, erased := true } }) ∧
  (∀ (s : State) (n stack p q : Nat) (x : Session), may s .X0F0A stack n x → s.siteOf stack = some p → s.nextSpare (replicaOf stack) = some q →
    ∃ t : State, exec (.stackOut n stack) s = .next t ∧ t.obj .X0F01 stack = q ∧ t.obj .X0F08 0 = s.obj .X0F08 0 + 1 ∧ (t.site p).powered = false ∧ t.inService p = false ∧
      begun s t .X0F0A stack n false) ∧
  (∀ (s : State) (n zone : Nat) (x : Session), may s .K0E04 zone n x → zone < 14 → s.zoneOn zone = true → (∀ e ∈ s.recovery.resets, e.1 ≠ zone) → s.standby = none →
    ∃ t : State, exec (.zoneResetCmd n zone) s = .next t ∧ mapGet 0 t.recovery.resets zone = s.time ∧ (∀ p ∈ zonePorts zone, t.inService p = false) ∧ begun s t .K0E04 zone n true) ∧
  (∀ (s : State) (area num : Nat) (r : ObjRow) (c : Cmd), findObj area num = some r → s.cmds.find? (fun c => c.1 == r.obj) = some (r.obj, c) → c.running = true →
    c.started + cmdLimit r.obj ≤ s.time →
    ∃ t : State, exec (.commandTimeout area num) s = .next t ∧ mapGet default t.cmds r.obj = { c with code := .timeout, running := false } ∧ unchangedBut [.cmds] s t)

/-- By a session that may: Manufacture goes to Provisioned with a secure wipe; Provisioned to Deployed once both group keys have been written; Deployed to Service with no stream admitted, and serving ends; Service to Deployed, and Service sessions end; any state to Decommissioned, with a wipe, every stream and session ended. Each change raises LIFE_CYCLE and is written into the key store's other header copy.
The wipe ends with vaults, tile stores and caches reading zero, the event log and black box holding WIPE_DONE alone, and no plan. Where the spec leaves it open, the model's choices are those of log 62, 68, 69. -/
def Obligations.LifeCycleCommandsComplete : Prop :=
  let may (s : State) (arg n : Nat) (x : Session) : Prop :=
    s.openSession n = some x ∧ s.cuActs 2 = true ∧ (objRow .K0E02).level ≤ x.level ∧ s.matches x = true ∧ s.inRange .K0E02 0 arg = true
  (∀ (s : State) (n : Nat) (x : Session), may s 1 n x → s.obj .I0D05 0 = 0 → x.level = 2 →
    ∃ t : State, exec (.lifeCycleToProvisioned n) s = .next t ∧ t.obj .I0D05 0 = 1 ∧ t.obj .K0E03 0 = 1 ∧ t.store.wipeFrom = some s.time ∧ t.store.wipeTarget = 1 ∧
      t.store.keyBasic = none ∧ t.store.keyExpert = none ∧ t.store.keyService = s.store.keyService ∧ (mapGet default t.cmds .K0E02).running = true) ∧
  (∀ (s : State) (n : Nat) (x : Session), may s 2 n x → s.obj .I0D05 0 = 1 → 1 ≤ x.level → s.store.freshBasic = true → s.store.freshExpert = true →
    ∃ t : State, exec (.lifeCycleToDeployed n) s = .next t ∧ t.obj .I0D05 0 = 2 ∧ t.store = s.store.rewritten 2 ∧ objsBut [.I0D05] s t ∧ unchangedBut [.objs, .cmds, .log, .store] s t) ∧
  (∀ (s : State) (n : Nat) (x : Session), may s 2 n x → s.obj .I0D05 0 = 3 → 1 ≤ x.level →
    ∃ t : State, exec (.lifeCycleToDeployed n) s = .next t ∧ t.obj .I0D05 0 = 2 ∧ (∀ k y, t.session k = some y → y.level ≠ 2) ∧ t.store = s.store.rewritten 2 ∧ objsBut [.I0D05] s t ∧
      unchangedBut [.objs, .cmds, .log, .sessions, .store] s t) ∧
  (∀ (s : State) (n : Nat) (x : Session), may s 3 n x → s.obj .I0D05 0 = 2 → 1 ≤ x.level → s.obj .X0702 0 = 0 →
    ∃ t : State, exec (.lifeCycleToService n) s = .next t ∧ t.obj .I0D05 0 = 3 ∧ t.obj .X0700 0 ≠ planServing ∧ t.store = s.store.rewritten 3 ∧ objsBut [.I0D05, .X0700, .W0008] s t ∧
      unchangedBut [.objs, .cmds, .log, .store] s t) ∧
  (∀ (s : State) (n : Nat) (x : Session), may s 4 n x → s.obj .I0D05 0 ≠ 4 → 1 ≤ x.level → (s.obj .I0D05 0 = 0 → x.level = 2) →
    ∃ t : State, exec (.lifeCycleToDecommissioned n) s = .next t ∧ t.obj .I0D05 0 = 4 ∧ (∀ k, t.session k = none) ∧ t.store.wipeTarget = 4 ∧ t.store.keyService = none ∧
      t.store.wipeFrom = some s.time ∧ t.obj .X0700 0 ≠ planServing) ∧
  (∀ (s : State) (u : Nat), s.store.wipeFrom = some u →
    ∃ t : State, exec .wipeDone s = .next t ∧ (∀ a, a < 2 ^ 46 → memByte t.mem a = 0) ∧ t.store.wipeFrom = none ∧ t.obj .K0E03 0 = 2 ∧ t.obj .X0700 0 = 0 ∧ t.plan.image = none ∧
      t.log.events.map (fun e => e.code) = [evWipeDone] ∧ t.log.bb.map (fun r => r.code) = [evWipeDone] ∧ t.log.flash = [] ∧
      t.store.minSecurity = s.store.minSecurity ∧ t.store.lastGen = s.store.lastGen)

/-- A healthy holder's agent sends RENEW every 2 ms; taken within 10 µs it moves the keeper's expiry to 8 ms and the unit's own to 7.5 ms after the sending. At its own expiry the unit enters resyncing; at the keeper's the lease ends. A grant to a unit in standby raises the epoch by 1 and makes it active; so does the first grant, to the unit that has
requested it for 1 s. A release with a unit in standby ends the lease; a revocation whose cause holds ends it; 200 µs end an overlap. A base-zone reset that need not wait begins with its zone's ports out of service, and ends when its queues have drained. The grants' kept inputs are empty here. Where the spec leaves it open, the model's choices are those of log 62, 63, 73. -/
def Obligations.LeaseCommandsComplete : Prop :=
  let granted (s t : State) (u : Nat) : Prop :=
    t.keeper.holder = some u ∧ t.keeper.epoch = (s.keeper.epoch + 1) % 2 ^ 32 ∧ t.keeper.expiry = s.time + 8000000 ∧ t.keeper.lastGrant = s.time ∧
    (t.unit u).localExpiry = s.time + 7500000 ∧ t.obj .W0000 u = 0 ∧ t.obj .W0001 0 = (s.keeper.epoch + 1) % 2 ^ 32 ∧ t.obj .W0002 0 = u ∧ u ∉ t.keeper.requests
  (∀ (s : State) (u : Nat), s.keeper.holder = some u → s.obj .W0000 u = 0 → (∀ r, (s.unit u).renewSent = some r → r + 1900000 ≤ s.time) → (∀ p, p < 4 → s.procHealthy u p = true) →
    ∃ t : State, exec (.leaseRenew u) s = .next t ∧ t.unit u = { s.unit u with renewSent := some s.time } ∧ unchangedBut [.units] s t) ∧
  (∀ (s : State) (u r : Nat), s.keeper.holder = some u → (s.unit u).renewSent = some r → s.time ≤ r + 10000 →
    ∃ t : State, exec (.renewReceive u) s = .next t ∧ t.keeper = { s.keeper with expiry := s.time + 8000000 } ∧ t.unit u = { s.unit u with localExpiry := r + 7500000 } ∧
      unchangedBut [.keeper, .units] s t) ∧
  (∀ (s : State) (u : Nat), s.keeper.holder = some u → s.obj .W0000 u = 0 → (s.unit u).localExpiry ≤ s.time →
    ∃ t : State, exec (.leaseStandDown u) s = .next t ∧ t.obj .W0000 u = 3 ∧ t.keeper = s.keeper ∧ objsBut [.W0000] s t ∧ unchangedBut [.objs] s t) ∧
  (∀ (s : State) (u : Nat), s.keeper.holder = some u → s.keeper.expiry ≤ s.time →
    ∃ t : State, exec .leaseExpiry s = .next t ∧ t.keeper.holder = none ∧ t.keeper.epoch = s.keeper.epoch ∧ t.obj .W0002 0 = 2 ∧
      t.log.events.head?.map (fun e => (e.code, e.data)) = some (evLeaseChange, [u, 2, s.keeper.epoch, 0]) ∧ objsBut [.W0000, .W0002] s t ∧
      unchangedBut [.keeper, .compare, .objs, .log] s t) ∧
  (∀ (s : State) (u : Nat), s.kept = [] → s.recovery.resetWait = [] → s.keeper.holder = none → (s.keeper.granted = true → s.keeper.lastGrant + 100000 ≤ s.time) → s.standby = some u →
    ∃ t : State, exec .leaseGrant s = .next t ∧ granted s t u) ∧
  (∀ (s : State) (u r : Nat), s.kept = [] → s.recovery.resetWait = [] → s.keeper.holder = none → s.firstChoice = some u → s.keeper.firstRequest = some r → r + 1000000000 ≤ s.time →
    ∃ t : State, exec .firstLeaseTimeout s = .next t ∧ granted s t u) ∧
  (∀ (s : State) (u v cause : Nat), s.keeper.holder = some u → s.standby = some v → s.obj .W0003 0 ≠ 1 →
    ∃ t : State, exec (.leaseRelease u cause) s = .next t ∧ t.keeper.holder = none ∧ t.keeper.epoch = s.keeper.epoch ∧ (s.obj .W0000 u = 0 → t.obj .W0000 u = 3) ∧
      objsBut [.W0000, .W0002] s t ∧ unchangedBut [.keeper, .compare, .objs, .log] s t) ∧
  (∀ (s : State) (u cause : Nat), s.keeper.holder = some u → s.standby = none → exec (.leaseRelease u cause) s = .next s) ∧
  (∀ (s : State) (u cause : Nat), s.keeper.holder = some u →
    ((cause = 0 ∧ s.obj .W0000 u = 4) ∨ (cause = 1 ∧ (s.iod (if u = 0 then 0 else 3)).powered = false) ∨ (cause = 2 ∧ s.zoneOn (zoneOfIod (if u = 0 then 0 else 3)) = false)) →
    ∃ t : State, exec (.leaseRevoke cause) s = .next t ∧ t.keeper.holder = none ∧ t.keeper.overlap = none ∧ t.obj .W0002 0 = 2 ∧
      unchangedBut [.keeper, .compare, .objs, .log] s t) ∧
  (∀ (s : State) (u : Nat), s.keeper.overlap = some u → u ≤ s.time →
    exec .overlapExpiry s = .next { s with keeper := { s.keeper with overlap := none }, compare := { s.compare with seen := [] } }) ∧
  (∀ (s : State) (zone trigger : Nat), zone < 14 → s.zoneOn zone = true → (∀ e ∈ s.recovery.resets, e.1 ≠ zone) → (s.standby = none ∨ s.keeper.holder = none ∨ iodOfZone zone = none) →
    ∃ t : State, exec (.baseZoneReset zone trigger) s = .next t ∧ mapGet 0 t.recovery.resets zone = s.time ∧ (∀ p ∈ zonePorts zone, t.inService p = false) ∧
      (∀ i, iodOfZone zone = some i → (t.iod i).held = true)) ∧
  (∀ (s : State) (zone : Nat), zone < 14 → (∃ u : Nat, (zone, u) ∈ s.recovery.resets) →
    ∃ t : State, exec (.zoneResetDrainDone zone) s = .next t ∧ (∀ e ∈ t.recovery.resets, e.1 ≠ zone) ∧
      (∀ f ∈ zoneFields zone, (t.field f).writeQ = [] ∧ (t.field f).reads = [] ∧ (t.station (2 * f)).tickets = [] ∧ (t.station (2 * f + 1)).tickets = []))

/-- An output of an epoch that is not current is counted in W.000F; one of the holder on the dispatch path, while the other unit shadows, gives its compare word and waits. A window that agrees passes what waited. When the holder passes its self-check and the other does not, the holder goes on and the other restarts. A resyncing unit asks for a snapshot and the
lease, and becomes standby. A unit starts on the slot its record names, or is demoted. A first crash restarts one processor; a second within 10 s the unit, when it does not hold the lease. A restarted processor acts again. A queued update is handed over once every emergency bit is clear, and aborted after 150 ms; the commit makes the new unit the holder. The active unit reads a full
mailbox and releases it. The kept inputs are empty here. Where the spec leaves it open, the model's choices are those of log 8, 56, 62, 64, 65. -/
def Obligations.UnitCommandsComplete : Prop :=
  let logged (s t : State) (u : Nat) (logs : List FwMsg) : Prop :=
    let kept : List FwMsg := logs.filter (fun (m : FwMsg) => decide (m.proc < 4) &&
      (mapGet { crashes := [], restarting := none } (s.unit u).procs m.proc).restarting.isNone && decide (m.level ≤ s.obj .W0011 0))
    (t.unit u).ring.map (fun (r : FwRec) => r.msg) =
      if s.unitRuns u = true then (kept.reverse ++ (s.unit u).ring.map (fun (r : FwRec) => r.msg)).take 4096 else (s.unit u).ring.map (fun (r : FwRec) => r.msg)
  (∀ (s : State) (u epoch receiver kind content : Nat) (logs : List FwMsg), s.epochCurrent epoch = false → (s.unit u).ring.length ≤ 4096 →
    ∃ t : State, exec (.cuOutputReceive u epoch receiver kind content logs) s = .next t ∧ t.obj .W000F 0 = s.obj .W000F 0 + 1 ∧ logged s t u logs ∧
      t.compare.pending = s.compare.pending ∧ t.compare.passed = s.compare.passed ∧ objsBut [.W000F] s t ∧ unchangedBut [.objs, .log, .compare, .units] s t) ∧
  (∀ (s : State) (u epoch receiver kind content : Nat) (logs : List FwMsg), s.epochCurrent epoch = true → s.compare.holding = false → s.keeper.overlap = none → s.keeper.holder = some u → kind ≤ 5 →
    s.shadowed = true → s.notJudged kind = false → (s.unit u).ring.length ≤ 4096 →
    let h : Held := { seq := (s.unit u).outSeq, receiver := receiver, kind := kind, content := content }
    ∃ t : State, exec (.cuOutputReceive u epoch receiver kind content logs) s = .next t ∧ logged s t u logs ∧
      (t.unit u).words = (s.unit u).words ++ [((s.unit u).outSeq, s.time, Config.compareWord receiver kind content)] ∧ (t.unit u).outSeq = ((s.unit u).outSeq + 1) % 2 ^ 32 ∧
      t.compare.pending = s.compare.pending ++ (if waitsForCompare kind then [h] else []) ∧ unchangedBut [.units, .compare] s t) ∧
  (∀ (s : State) (k : Nat), (k + 2) * 1000 ≤ s.time → s.compare.holding = false → s.mismatches k = [] →
    ∃ t : State, exec (.compareWindowEnd k) s = .next t ∧ t.compare.holding = false ∧
      t.compare.pending = s.compare.pending.filter (fun h => !(((s.windowWords 0 k) ++ (s.windowWords 1 k)).map (fun w => w.1)).contains h.seq) ∧
      t.compare.passed = s.compare.passed ++ ((s.compare.pending.filter (fun h => (((s.windowWords 0 k) ++ (s.windowWords 1 k)).map (fun w => w.1)).contains h.seq)).map
        (fun h => (h.kind, h.content))) ∧ unchangedBut [.units, .compare] s t) ∧
  (∀ (s : State) (k : Nat), (k + 2) * 1000 ≤ s.time → s.compare.holding = false → s.mismatches k ≠ [] →
    ∃ t : State, exec (.compareWindowEnd k) s = .next t ∧ t.compare.holding = true ∧ t.compare.holdSince = s.time ∧
      t.obj .W000E 0 = s.obj .W000E 0 + (s.mismatches k).length ∧ objsBut [.W000E] s t ∧ unchangedBut [.units, .compare, .objs, .log] s t) ∧
  (∀ s : State, s.kept = [] → s.keeper.holder = some 0 → s.compare.holding = true →
    ∃ t : State, exec (.selfCheckOutcome (some true) (some false)) s = .next t ∧ t.keeper.holder = some 0 ∧ t.compare.holding = false ∧ t.compare.pending = [] ∧ t.obj .W0000 1 = 2 ∧
      (t.unit 1).running = none ∧ objsBut [.W0000] s t) ∧
  (∀ (s : State) (u h : Nat), s.obj .W0000 u = 3 → s.keeper.holder = some h → h ≠ u →
    ∃ t : State, exec (.resyncStart u) s = .next t ∧ t.unit u = { s.unit u with resyncFrom := some s.time } ∧ u ∈ t.keeper.requests ∧ t.keeper.holder = some h ∧
      unchangedBut [.units, .keeper] s t) ∧
  (∀ (s : State) (u r : Nat), (s.unit u).resyncFrom = some r → s.obj .W0000 u = 3 → u ∈ s.keeper.requests →
    ∃ t : State, exec (.resyncDone u) s = .next t ∧ t.obj .W0000 u = 1 ∧ t.obj .W0018 0 = (s.time - r) / 1000000 ∧
      t.log.events.head?.map (fun e => (e.code, e.data)) = some (evResyncDone, [u, (s.time - r) / 1000000]) ∧ objsBut [.W0000, .W0018] s t ∧ unchangedBut [.units, .objs, .log] s t) ∧
  (∀ (s : State) (u : Nat) (olderOk otherOk : Bool), s.obj .W0000 u = 2 → (s.unit u).running = none → s.obj .W000C 0 ≠ 3 →
    let b := (s.unit u).bootB
    let i := s.slotImage (2 * u + (if b then 1 else 0))
    s.store.minSecurity ≤ i.security → i.sigOk = true → i.hashOk = true →
    ∃ t : State, exec (.unitRomStart u true olderOk true otherOk true) s = .next t ∧ (t.unit u).running = some i ∧ (t.unit u).runsB = b ∧ t.obj .W0005 u = i.version ∧ t.obj .W0000 u = 3 ∧
      u ∈ t.keeper.requests ∧ objsBut [.W0000, .W0005] s t ∧ unchangedBut [.units, .objs, .keeper] s t) ∧
  (∀ (s : State) (u : Nat) (olderOk a b : Bool), s.obj .W0000 u = 2 → (s.unit u).running = none →
    ∃ t : State, exec (.unitRomStart u true olderOk a b false) s = .next t ∧ t.obj .W0000 u = 4 ∧
      t.log.events.head?.map (fun e => (e.code, e.data)) = some (evCuDemoted, [u, 0]) ∧ objsBut [.W0000] s t ∧ unchangedBut [.objs, .log] s t) ∧
  (∀ (s : State) (u p cause pc : Nat) (c : Instr), (c = .procCrash u p cause pc ∨ (c = .procWatchdogExpiry u p pc ∧ cause = 1)) → s.unitRuns u = true → p < 4 → s.obj .W000C 0 ≠ 3 →
    let again : Bool := (s.unit u).procs.any (fun (e : Nat × Proc) => e.2.crashes.any (fun r => decide (s.time < r + 10000000000)))
    ∃ t : State, exec c s = .next t ∧ t.obj .W000D (4 * u + p) = s.obj .W000D (4 * u + p) + 1 ∧
      (again = false → (mapGet default (t.unit u).procs p).restarting = some s.time ∧ (t.unit u).running = (s.unit u).running) ∧
      (again = true → s.keeper.holder ≠ some u → t.obj .W0000 u = 2 ∧ (t.unit u).running = none ∧ u ∉ t.keeper.requests)) ∧
  (∀ (s : State) (u p r : Nat) (q : Proc), s.kept = [] → mapGet { crashes := [], restarting := none } (s.unit u).procs p = q → q.restarting = some r →
    ∃ t : State, exec (.procRestartDone u p true) s = .next t ∧ mapGet { crashes := [], restarting := none } (t.unit u).procs p = { q with restarting := none } ∧
      unchangedBut [.units] s t) ∧
  (∀ (s : State) (v : Nat), s.standby = some v → s.obj .W000C 0 = 2 → s.obj .P0C0C 0 = 0 →
    ∃ t : State, exec .updateHandoverStart s = .next t ∧ t.obj .W000C 0 = 3 ∧ t.obj .W0000 v = 2 ∧ t.update.startedAt = some s.time ∧ (t.unit v).bootB = !(s.unit v).runsB ∧
      objsBut [.W0000, .W000C] s t ∧ unchangedBut [.units, .objs, .update, .keeper] s t) ∧
  (∀ (s : State) (u v : Nat) (i : FwImage), s.kept = [] → s.recovery.resetWait = [] → s.update.newUnit = v → s.keeper.holder = some u → (s.unit v).running = some i → s.obj .W000C 0 = 3 →
    u < 2 → v < 2 → u ≠ v → s.obj .W0000 u = 0 →
    ∃ t : State, exec .updateCommit s = .next t ∧ t.keeper.holder = some v ∧ t.obj .W000C 0 = 4 ∧ t.obj .W0000 v = 0 ∧ t.obj .W0000 u = 2 ∧
      t.keeper.epoch = (s.keeper.epoch + 1) % 2 ^ 32 ∧ t.store.minSecurity = max s.store.minSecurity i.security ∧ t.update.startedAt = none ∧ (t.unit u).bootB = !(s.unit u).runsB) ∧
  (∀ (s : State) (u r : Nat), s.update.startedAt = some r → r + 150000000 < s.time → s.obj .W000C 0 = 3 → s.update.newUnit = u →
    ∃ t : State, exec .handoverTimeout s = .next t ∧ t.obj .W000C 0 = 5 ∧ t.obj .W0000 u = 2 ∧ t.update.startedAt = none ∧ (t.unit u).bootB = !(s.unit u).bootB ∧
      t.log.events.head?.map (fun e => (e.code, e.data)) = some (evUpdateAborted, [2]) ∧ objsBut [.W0000, .W000C] s t ∧ unchangedBut [.units, .objs, .update, .log] s t) ∧
  (∀ (s : State) (box u : Nat) (logs : List FwMsg), s.keeper.holder = some u → (s.unit u).ring.length ≤ 4096 → box / 32 = u → box < 64 → 20 ≤ box % 32 → (s.box box).full = true → s.cuActs 3 = true →
    (∀ w ∈ (s.box box).waiters, w.1 ≠ 2 ∧ w.1 ≠ 4) →
    ∃ t : State, exec (.cuMailboxService box logs) s = .next t ∧ (t.box box).full = false ∧ (t.box box).waiters = [] ∧ logged s t u logs ∧ unchangedBut [.boxes, .out, .units] s t)

/-- The first witness of a stack's failure suspends its replica, switches its site off and promotes the spare that is next, or with none puts the replica out of service. A liveness count is shown; 8 µs without one withdraw the port. A stage of a promotion that passes leads to the next, powering the spare in stage 2 and putting its port in service in stage 6; one that fails makes the spare unusable; bad tiles found in stage 5 are mapped out, and the columns that move train again. A replica whose promotions are refilled serves again. Streams of a replica out of service end after 2 s. A retested stack is a dormant spare or unusable. Links down in X− declare the neighbour lost, and in X+ fence this panel. An adopter serves a complete mirrored stretch. Re-mirrored streams are mirrored. The levy's use is capped; class D slots above the cap of a port on a plane end its class A bounds. Where the spec leaves it open, the model's choices are those of log 47, 59, 64, 67, 70, 71, 72, 99. -/
def Obligations.RecoveryCommandsComplete : Prop :=
  (∀ (s : State) (stack witness p q : Nat), s.keeper.holder ≠ none → stack < 96 → s.witnessed stack witness = true → s.failing stack = false → s.siteOf stack = some p →
    s.nextSpare (replicaOf stack) = some q →
    ∃ t : State, exec (.stackFailureDetect stack witness) s = .next t ∧ t.obj .X0F01 stack = q ∧ t.obj .X0F08 0 = s.obj .X0F08 0 + 1 ∧ (t.site p).powered = false ∧
      t.inService p = false ∧ t.obj .X0F03 (replicaOf stack) = (if s.obj .X0F03 (replicaOf stack) = 3 then 3 else 1) ∧
      mapGet default t.recovery.promos stack = { spare := q, old := p, stage := 1, start := s.time, since := s.time }) ∧
  (∀ (s : State) (stack witness p : Nat), s.keeper.holder ≠ none → stack < 96 → s.witnessed stack witness = true → s.failing stack = false → s.siteOf stack = some p →
    s.nextSpare (replicaOf stack) = none →
    ∃ t : State, exec (.stackFailureDetect stack witness) s = .next t ∧ t.obj .X0F01 stack = 255 ∧ t.obj .X0F03 (replicaOf stack) = 3 ∧ (t.site p).powered = false ∧
      t.log.events.head?.map (fun e => (e.code, e.data)) = some (evSparesExhausted, [replicaOf stack])) ∧
  (∀ (s : State) (stack witness : Nat), s.witnessed stack witness = false → exec (.stackFailureDetect stack witness) s = .next s) ∧
  (∀ (s : State) (site : Nat), (s.site site).powered = true →
    ∃ t : State, exec (.siteLivenessWrite site) s = .next t ∧ t.site site = { s.site site with liveAt := s.time, silent := false } ∧ unchangedBut [.sites] s t) ∧
  (∀ (s : State) (site : Nat), (s.site site).powered = true → (s.site site).silent = false → (s.site site).liveAt + 8000 ≤ s.time →
    ∃ t : State, exec (.siteSilent site) s = .next t ∧ (t.site site).silent = true ∧ t.inService site = false ∧ sameMemory s t) ∧
  (∀ (s : State) (stack : Nat) (o : Promo), s.recovery.promos.find? (fun e => e.1 == stack) = some (stack, o) → o.stage ≤ 7 →
    (o.stage = 2 → ((((s.powerSite o.spare).checkTileDie o.spare).remap o.spare [] []).site o.spare).usable = true) →
    (o.stage = 3 ∨ o.stage = 4 → s.columnsReady o.spare = true) → (o.stage = 6 → s.pathsPassed o.spare = true ∧ s.passed 4 o.spare = true) →
    (o.stage = 7 → o.since + s.refillBytes stack / s.obj .X0F04 0 ≤ s.time) →
    ∃ t : State, exec (.promotionStageDone stack true [] []) s = .next t ∧ mapGet default t.recovery.promos stack = { o with stage := o.stage + 1, since := s.time } ∧
      (o.stage = 2 → (t.site o.spare).powered = true) ∧ (o.stage = 6 → t.inService o.spare = true) ∧ (o.stage ≠ 7 → sameMemory s t)) ∧
  (∀ (s : State) (stack : Nat) (o : Promo) (bad : List Nat), s.recovery.promos.find? (fun e => e.1 == stack) = some (stack, o) → o.stage = 5 → bad ≠ [] →
    ((s.remap o.spare bad []).site o.spare).usable = true →
    ∃ t : State, exec (.promotionStageDone stack true bad []) s = .next t ∧ mapGet default t.recovery.promos stack = { o with stage := 3, since := s.time } ∧
      (t.site o.spare).mapOut = ((s.remap o.spare bad []).site o.spare).mapOut ∧
      (∀ k, k < 48 → s.physOf o.spare k ≠ t.physOf o.spare k → t.colServes o.spare k = false) ∧ sameMemory s t) ∧
  (∀ (s : State) (stack : Nat) (o : Promo) (bad : List Nat) (furrows : List (Nat × Nat)), s.recovery.promos.find? (fun e => e.1 == stack) = some (stack, o) → o.stage < 7 → o.spare < 112 →
    ∃ t : State, exec (.promotionStageDone stack false bad furrows) s = .next t ∧ (t.site o.spare).usable = false ∧ (t.site o.spare).powered = false ∧ t.inService o.spare = false ∧
      t.obj .X0F01 stack ≠ o.spare) ∧
  (∀ (s : State) (r : Nat), s.obj .X0F03 r ≠ 0 → s.obj .X0F03 r ≠ 3 → (∀ e ∈ s.recovery.promos, replicaOf e.1 = r → 8 ≤ e.2.stage) → (∀ p ∈ s.replicaSites r, s.inService p = true) →
    ∃ t : State, exec (.replicaResume r) s = .next t ∧ t.obj .X0F03 r = 0 ∧ (∀ e ∈ t.recovery.promos, replicaOf e.1 ≠ r) ∧ (∀ e ∈ t.recovery.suspendedAt, e.1 ≠ r) ∧
      t.log.events.head?.map (fun e => (e.code, e.data.head?)) = some (evReplicaResumed, some r)) ∧
  (∀ (s : State) (r u : Nat), s.recovery.suspendedAt.find? (fun e => e.1 == r) = some (r, u) → s.obj .X0F03 r = 3 → u + 2000000000 ≤ s.time →
    ∃ t : State, exec (.suspendedStreamTimeout r) s = .next t ∧
      (∀ i x, s.stream i = some x → x.id = i → x.replica = r → x.st = .suspended → t.stream i = none) ∧ sameMemory s t) ∧
  (∀ (s : State) (site : Nat), isSite site = true → (s.site site).retest = true → (s.site site).powered = false → s.stackOf site = none → s.band site ≤ 2 →
    s.zoneOn (zoneOf site) = true →
    ∃ t : State, exec (.stackRetest site false) s = .next t ∧ t.site site = { s.site site with retest := false, tripped := false, usable := false } ∧
      objsBut [.X0F02] s t ∧ unchangedBut [.sites, .objs] s t) ∧
  (∀ (s : State) (site : Nat), isSite site = true → (s.site site).retest = true → (s.site site).powered = false → s.stackOf site = none → s.band site ≤ 2 →
    s.zoneOn (zoneOf site) = true → TileFuse.fault (s.obj .K0E05 site) = false → TileFuse.site (s.obj .K0E05 site) = site →
    let u := (s.setSite site { s.site site with retest := false, tripped := false, usable := true }).remap site [] []
    ∃ t : State, exec (.stackRetest site true) s = .next t ∧ t.site site = u.site site ∧ (t.site site).retest = false ∧ (t.site site).tripped = false ∧
      ((t.site site).usable = true → t.obj .B0601 site = 3) ∧ (t.obj .S0400 site, t.obj .S0401 site) = (u.obj .S0400 site, u.obj .S0401 site) ∧
      objsBut [.B0601, .X0F02, .S0400, .S0401, .S0402] s t ∧ unchangedBut [.sites, .objs] s t) ∧
  (∀ s : State, (s.directionDown 1).2 = true → (∀ e ∈ s.recovery.declared, e.1 ≠ s.neighbour s.panelId 1) →
    ∃ t : State, exec .panelLost s = .next t ∧ t.recovery.declared = s.recovery.declared ++ [(s.neighbour s.panelId 1, s.panelId)] ∧ t.recovery.xMinusDownAt = some s.time ∧
      t.log.events.head?.map (fun e => (e.code, e.data)) = some (evPanelLost, [s.neighbour s.panelId 1, linkBits (s.directionDown 1).1]) ∧ objsBut [.X0F06] s t ∧
      unchangedBut [.recovery, .objs, .log] s t) ∧
  (∀ s : State, (s.directionDown 0).2 = true → s.recovery.xPlusDown = false →
    ∃ t : State, exec .panelFenced s = .next t ∧ t.recovery.fenced = s.streamList.map (fun x => x.id) ∧ t.recovery.xPlusDown = true ∧
      t.log.events.head?.map (fun e => e.code) = some evPanelFenced ∧ unchangedBut [.recovery, .log] s t) ∧
  (∀ (s : State) (panel u : Nat) (m : MirrorRec), s.recovery.xMinusDownAt = some u → (∃ a : Nat, (panel, a) ∈ s.recovery.declared) → (∀ e ∈ s.recovery.lost, e.1 ≠ panel) →
    u + 100000 ≤ s.time → m.complete = true →
    (∃ n : Nat, (m.stream, n) ∈ s.recovery.mirrorRes) → s.stream m.stream = none → (∀ e ∈ s.streams, ∀ x, e.2 = some x → x.adopted ≠ some panel) →
    ∃ (t : State) (x : Stream), exec (.adoption panel [m]) s = .next t ∧ t.stream m.stream = some x ∧ x.adopted = some panel ∧ x.k = m.k ∧ x.sb = m.sb ∧ x.position = m.last + 1 ∧
      x.lastToken = m.lastToken ∧ x.isHead = m.isHead ∧ x.table = m.table ∧ x.st = .ready ∧ t.recovery.lost = s.recovery.lost ++ [(panel, s.panelId)] ∧
      Sent.adopted 0 panel m.stream m.k m.isHead m.last ∈ t.out ∧ t.log.events.head?.map (fun e => (e.code, e.data)) = some (evAdopted, [panel, 1, 0]) ∧ sameMemory s t) ∧
  (∀ (s : State) (i bytes u : Nat) (x : Stream), s.stream i = some x → x.unmirrored = true → s.recovery.remirrorFrom = some u → u + bytes / s.obj .X0F05 0 ≤ s.time →
    ∃ t : State, exec (.remirrorDone [i] bytes) s = .next t ∧ t.stream i = some { x with unmirrored := false } ∧ (∀ k, k ≠ i → t.stream k = s.stream k) ∧
      t.recovery = { s.recovery with remirrorFrom := none } ∧ t.log.events.head?.map (fun e => (e.code, e.data)) = some (evRemirrorDone, [1, bytes]) ∧
      objsBut [.X070D, .X0702, .X0F07] s t ∧ unchangedBut [.streams, .objs, .log, .recovery] s t) ∧
  (∀ (s : State) (streams : List Nat) (bytes u : Nat), (s.recovery.remirrorFrom = none ∨ s.recovery.remirrorFrom = some u ∧ s.time < u + bytes / s.obj .X0F05 0) →
    exec (.remirrorDone streams bytes) s = .next s) ∧
  (∀ (s : State) (use : List Nat) (slots : List (Nat × Nat × Nat)), ∃ t : State, exec (.levyMeterPeriod use slots) s = .next t ∧
      t.recovery.levyUse.head? = some ((List.range 5).map (fun i => min (use.getD i 0) (s.levyCap i))) ∧ t.recovery.levyUse.length ≤ 1000 ∧
      (∀ e ∈ slots, s.obj .X0F00 0 * 15625 < 100 * e.2.2 → mapGet 0 t.aCond (e.1, 3) = s.time) ∧
      ((∀ e ∈ slots, 100 * e.2.2 ≤ s.obj .X0F00 0 * 15625) → t.aCond = s.aCond) ∧ objsBut [.X0F09] s t ∧ unchangedBut [.recovery, .objs, .log, .aCond] s t)

/-- The restored feed begins a cold start from stage 1 with time 0, or waits in standby, or leaves a running island as it is. A warm start begins at stage 3 and keeps the time counter and lease epoch. A stage that ends well leads to the next, and the last to service; one that fails stops the start with STARTUP_FAILED. Stage 3 closes every supply whose eFuse is closed; stage 8 begins by powering the usable stacks and switches off those that its tests fail. Standby takes every link down, every port out of service and every zone off. An exhausted hold-up store stops the island with its counter lost. The test port shows IDCODE or BYPASS, and a die test only while it is open; TRST_N selects IDCODE. Where the spec leaves it open, the model's choices are those of log 3, 66, 67, 74. -/
def Obligations.StartupCommandsComplete : Prop :=
  (∀ s : State, s.power.aonFeed = false → (s.power.islandRuns = false ∨ s.power.tripped = true) →
    ∃ t : State, exec .coldStart s = .next t ∧ t.startup.stage = (if s.power.stby then 0 else 1) ∧ t.time = 0 ∧ t.keeper.epoch = 0 ∧ t.keeper.holder = none ∧ t.mem = [] ∧ t.streams = [] ∧
      t.power.aonFeed = true ∧ t.power.islandRuns = true ∧ t.power.tripped = false ∧ t.pending = s.pending ∧ t.store = s.store.loaded) ∧
  (∀ s : State, s.power.aonFeed = false → s.power.islandRuns = true → s.power.tripped = false →
    ∃ t : State, exec .coldStart s = .next t ∧ t.power.aonFeed = true ∧ t.power.feedFrom = s.time ∧ t.time = s.time ∧ t.startup = s.startup ∧ sameMemory s t) ∧
  (∀ s : State, s.startup.stage = 0 → s.power.stby = false → s.power.tripped = false → s.power.islandRuns = true → s.inputSteady = true →
    ∃ t : State, exec .inputRestored s = .next t ∧ t.startup.stage = 3 ∧ t.startup.running = true ∧ t.time = s.time ∧ t.keeper.epoch = s.keeper.epoch ∧ t.mem = [] ∧ t.power.failed = false ∧
      t.obj .K0E00 0 = 2 ∧ t.pending = s.pending) ∧
  (∀ (s : State) (k : Nat), s.startup.stage = k → 1 ≤ k → k ≤ 12 → s.startup.running = true → (k = 1 → s.inputSteady = true) → (k = 3 → s.power.tripped = false ∧ (s.fuseOpen 14 = false ∨ s.fuseOpen 15 = false)) →
    (k = 4 → s.keeper.holder ≠ none) → (k = 6 → s.ptp.set = true ∨ s.startup.started + 3000000000 ≤ s.time) → (k = 7 → s.badIods = []) →
    (k = 8 ∨ k = 9 → (∀ p ∈ s.poweredSites, s.columnsReady p = true ∧ s.columnsFail p = false) ∧ (s.lacking 0 = 0 ∧ s.lacking 1 = 0 ∨ ∀ q ∈ spareSites, s.spareFit q = false)) → (k = 11 → s.calibrated = true) → (k = 12 → s.plan.loading = none) →
    ∃ t : State, exec (.startupStageEnd true [] [] [] []) s = .next t ∧ t.startup.stage = (if k = 11 ∧ s.plan.loading = none then 13 else k + 1) ∧ t.startup.started = s.time ∧
      t.obj .K0E00 0 = t.startup.stage - 1 ∧ t.time = s.time ∧ (k = 3 → ∀ z, z < 16 → t.obj .P0C06 z = (if s.fuseOpen z then (if z < 14 then 3 else 4) else 0))) ∧
  (∀ (s : State) (k : Nat) (failed : List Nat) (bad : List (Nat × Nat)) (furrows paths : List (Nat × Nat × Nat)), s.startup.stage = k → 2 ≤ k → k ≤ 12 → s.startup.running = true →
    ∃ t : State, exec (.startupStageEnd false failed bad furrows paths) s = .next t ∧ t.startup.running = false ∧ t.startup.stage = k ∧
      t.log.events.head?.map (fun e => (e.code, e.data)) = some (evStartupFailed, [k, 0]) ∧ unchangedBut [.startup, .log] s t) ∧
  (∀ (s : State) (failed : List Nat) (bad : List (Nat × Nat)) (furrows paths : List (Nat × Nat × Nat)), s.startup.stage = 7 → s.startup.running = true → s.badIods = [] →
    (∀ p, isSite p = true → TileFuse.fault (s.obj .K0E05 p) = false ∧ TileFuse.site (s.obj .K0E05 p) = p) →
    ∃ t : State, exec (.startupStageEnd true failed bad furrows paths) s = .next t ∧ t.startup.stage = 8 ∧
      (∀ p ∈ usedPorts, isSite p = true → p ∉ spareSites → (s.site p).usable = true → s.zoneOn (zoneOf p) = true → ((s.remap p [] []).site p).usable = true →
        (t.site p).powered = true) ∧
      (∀ p ∈ usedPorts, isSite p = true → p ∉ spareSites → (s.site p).usable = false ∨ s.zoneOn (zoneOf p) = false ∨ ((s.remap p [] []).site p).usable = false →
        (t.site p).powered = false) ∧
      (∀ p ∈ spareSites, (t.site p).powered = (s.site p).powered)) ∧
  (∀ (s : State) (failed : List Nat) (bad : List (Nat × Nat)) (furrows : List (Nat × Nat × Nat)), s.startup.stage = 8 → s.startup.running = true →
    ∃ t : State, exec (.startupStageEnd true failed bad furrows []) s = .next t ∧
      (∀ p ∈ failed, p ∈ s.poweredSites → (t.site p).powered = false ∧ (t.site p).usable = false) ∧ t.obj .K0E00 0 ∈ [s.obj .K0E00 0, 8]) ∧
  (∀ s : State, s.power.stby = false → s.startup.stage ≠ 0 →
    ∃ t : State, exec .standbyEnter s = .next t ∧ t.power.stby = true ∧ t.startup.stage = 0 ∧ (∀ n, n < 24 → t.linkSt n = 0) ∧ (∀ p ∈ usedPorts, t.inService p = false) ∧
      (∀ z, z < 16 → t.obj .P0C06 z = 1) ∧ t.pins.stbyEn = true ∧ t.pins.wakeN = false) ∧
  (∀ s : State, s.power.stby = true → s.power.islandRuns = true → s.inputSteady = true →
    ∃ t : State, exec .standbyRelease s = .next t ∧ t.power.stby = false ∧ t.startup.stage = 3 ∧ t.time = s.time ∧ t.keeper.epoch = s.keeper.epoch ∧ t.mem = [] ∧ t.pins.stbyEn = false) ∧
  (∀ (s : State) (u : Nat), s.power.holdUpFrom = some u → u + 20000000 ≤ s.time → s.power.islandRuns = true →
    ∃ t : State, exec .holdUpExhausted s = .next t ∧ t.power.islandRuns = false ∧ t.power.holdUpCharged = false ∧ t.time = 0 ∧ t.keeper.epoch = 0 ∧ t.log.bb = [] ∧ t.mem = [] ∧ t.startup.stage = 0) ∧
  (∀ (s : State) (ir : Nat), (ir = 0 ∨ (2 ≤ ir ∧ s.obj .I0D05 0 ≠ 0 ∧ s.obj .I0D05 0 ≠ 3)) →
    exec (.tapInstruction ir) s = .next { s with pins := { s.pins with trstN := true, ir := 0, dr := 0 } }) ∧
  (∀ s : State, exec (.tapInstruction 1) s = .next { s with pins := { s.pins with trstN := true, ir := 1, dr := Config.idcode } }) ∧
  (∀ (s : State) (ir : Nat), 2 ≤ ir → (s.obj .I0D05 0 = 0 ∨ s.obj .I0D05 0 = 3) →
    ∃ t : State, exec (.tapInstruction ir) s = .next t ∧ t.pins.ir = ir ∧ t.freeCount = s.freeCount + 1 ∧ unchangedBut [.pins, .freeCount] s t) ∧
  (∀ s : State, exec .tapReset s = .next { s with pins := { s.pins with trstN := false, ir := 1, dr := Config.idcode } })

/-- A write to an empty mailbox stores the message with its stamp and sets full; to a full one it overwrites the message and sets collision. Each accepted write adds 1 to seq modulo 256, and the writer's response states whether it overwrote. D.0A08 counts every overwrite, and none but an overwrite. MBOX_COLLISION is raised on an overwrite unless it was raised for that mailbox less than 1 ms before. A write to a
reserved mailbox of a control unit is refused and stores nothing. -/
def Obligations.MailboxWriteRules : Prop :=
  ∀ (s : State) (n skind sproc sport stile schan : Nat) (payload : BitVec 448),
    let c : Instr := .mailboxWrite n payload skind sproc sport stile schan
    let q := ((s.box n).seq + 1) % 256
    let stored (t : State) : Prop := (t.box n).msg = stampMsg payload skind sproc sport stile schan q s.time ∧ (t.box n).full = true ∧ (t.box n).seq = q
    (boxReserved n = false → (s.box n).full = false →
      ∃ t : State, exec c s = .next t ∧ stored t ∧ (t.box n).collision = (s.box n).collision ∧
        t.out = s.out ++ [.writeResponse skind sport n false false .ok] ∧ unchangedBut [.boxes, .out] s t) ∧
    (boxReserved n = false → (s.box n).full = true →
      ∃ t : State, exec c s = .next t ∧ stored t ∧ (t.box n).collision = true ∧
        t.out = s.out ++ [.writeResponse skind sport n true false .ok] ∧ (∀ k ∈ boxCopies n, t.obj .D0A08 k = s.obj .D0A08 k + 1) ∧
        (∀ o i, (o ≠ Obj.D0A08 ∨ i ∉ boxCopies n) → t.obj o i = s.obj o i) ∧ unchangedBut [.boxes, .out, .objs, .log] s t ∧
        (∀ u, (s.box n).evCollision = some u → s.time < u + 1000000 → t.log = s.log ∧ (t.box n).evCollision = some u) ∧
        (((s.box n).evCollision = none ∨ ∃ u, (s.box n).evCollision = some u ∧ u + 1000000 ≤ s.time) →
          t.log.events.head?.map (fun e => (e.code, e.subject, e.data)) = some (evMboxCollision, noSubject, [n, (s.box n).collisions + 1]) ∧
          (t.box n).evCollision = some s.time)) ∧
    (boxReserved n = true → ∃ t : State, exec c s = .next t ∧ t.out = s.out ++ [.writeResponse skind sport n false false .accessDenied] ∧ unchangedBut [.out] s t)

/-- The receiver reads the mailbox's 64-B message and releases it with the seq it read (of a control unit's mailbox, as lease holder). With the present count, full and collision are clear afterwards, and the message and seq stand. With another seq, or on an empty mailbox, nothing changes. A write that comes between the read and the release leaves its message, full, with collision set, and that release changes nothing. A release of a control unit's
mailbox by the other unit changes nothing. -/
def Obligations.MailboxReleaseRules : Prop :=
  (∀ (s : State) (n : Nat), (n < 64 → s.keeper.holder = some (n / 32)) → (s.box n).full = true → (∀ w ∈ (s.box n).waiters, w.1 ≠ 2 ∧ w.1 ≠ 4) →
    ∃ t : State, exec (.mailboxRelease n (s.box n).seq) s = .next t ∧ (t.box n).full = false ∧ (t.box n).collision = false ∧
      (t.box n).msg = (s.box n).msg ∧ (t.box n).seq = (s.box n).seq ∧ (∀ k, k ∉ boxCopies n → t.box k = s.box k) ∧ unchangedBut [.boxes, .out] s t) ∧
  (∀ (s : State) (n q : Nat), ((s.box n).full = false ∨ q ≠ (s.box n).seq ∨ n < 64 ∧ s.keeper.holder ≠ some (n / 32)) →
    exec (.mailboxRelease n q) s = .next s) ∧
  (∀ (s : State) (n skind sproc sport stile schan : Nat) (payload : BitVec 448), boxReserved n = false → (s.box n).full = true →
    ∃ t : State, exec (.mailboxWrite n payload skind sproc sport stile schan) s = .next t ∧ (t.box n).full = true ∧ (t.box n).collision = true ∧
      (t.box n).msg = stampMsg payload skind sproc sport stile schan (t.box n).seq s.time ∧
      exec (.mailboxRelease n (s.box n).seq) t = .next t)

/-- A unit that keeps to its width (CheckUnitsKeepTheirWidth) and is neither busy nor locked is read: CTRL, POLY, INIT and VALUE. Later, in any state in which a unit is neither busy nor locked, and whatever that unit held, the four writes in that order, with start 0, take effect and restore the four registers, so that after any bytes fed RESULT is what it would have been; nothing
else changes. -/
def Obligations.CheckUnitSaveAndRestore : Prop :=
  ∀ (s t : State) (unit k : Nat),
    let u := s.check unit
    u.masked = u → u.ctrl &&& 0x1FF#32 = u.ctrl → u.feeds = 0 → u.locked = false → (t.check k).feeds = 0 → (t.check k).locked = false →
    ∃ t1 t2 t3 t4 : State, exec (.checkRegWrite k 0 (u.ctrl.setWidth 64)) t = .next t1 ∧ exec (.checkRegWrite k 8 u.poly) t1 = .next t2 ∧
      exec (.checkRegWrite k 16 u.init) t2 = .next t3 ∧ exec (.checkRegWrite k 24 u.value) t3 = .next t4 ∧
      t4.check k = { u with clash := (t.check k).clash, waiting := (t.check k).waiting } ∧ (∀ j, j ≠ k → t4.check j = t.check j) ∧ unchangedBut [.checks] t t4 ∧
      (∀ l : List (BitVec 8), ((t4.check k).feed l).result = (u.feed l).result)

/-- If in every check unit bits [63:w] of POLY, INIT and VALUE are 0 and CTRL holds nothing but its nine bits, then so it is after any step that answers a next state: no feed by a processor or a mover, no lock, no start of the panel and no other command breaks it. -/
def Obligations.CheckUnitsKeepTheirWidth : Prop :=
  ∀ s t : State, (∀ k, (s.check k).masked = s.check k ∧ (s.check k).ctrl &&& 0x1FF#32 = (s.check k).ctrl) → step s = .next t →
    ∀ k, (t.check k).masked = t.check k ∧ (t.check k).ctrl &&& 0x1FF#32 = (t.check k).ctrl

/-- After reset the time counter is 0, no command waits, no stream is admitted, no wave runs and no unit holds the lease; every ledger object stands at its default; every check unit stands at the values of Table 10.6 and keeps to its width. The values the spec does not give are the model's (log 3) and are not stated here. -/
def Obligations.ResetState : Prop :=
  State.reset.time = 0 ∧ State.reset.pending = [] ∧ State.reset.streams = [] ∧ State.reset.waves = [] ∧ State.reset.keeper.holder = none ∧
  (∀ o i, State.reset.obj o i = objDefault o i) ∧
  (∀ k, (State.reset.check k).ctrl = 0x1F#32 ∧ (State.reset.check k).poly = 0x04C11DB7#64 ∧ (State.reset.check k).init = 0xFFFFFFFF#64 ∧
    (State.reset.check k).value = 0 ∧ (State.reset.check k).masked = State.reset.check k ∧
    (State.reset.check k).ctrl &&& 0x1FF#32 = (State.reset.check k).ctrl)

/-- With thresholds that rise by at least one degree, a sample puts a region that is powered and not tripped into the highest band whose threshold its temperature has reached, if that is no lower than its present band; otherwise into the highest band, up to its present one, whose threshold less 3 °C its temperature lies above. A band is thus entered at its threshold and left downward at 3 °C below
it, by any number of bands in one sample. -/
def Obligations.BandsFollowTheirThresholds : Prop :=
  ∀ (s : State) (old : Nat) (temp : Int), old ≤ 4 →
    (∀ k, k < 3 → s.threshold k < s.threshold (k + 1)) →
    let b := s.nextBand old temp
    b ≤ 4 ∧
    (∀ k, k < 4 → s.threshold k ≤ temp → k + 1 ≤ b) ∧
    (old < b → s.threshold (b - 1) ≤ temp) ∧
    (b < old → ∀ k, b ≤ k → k < old → temp ≤ s.threshold k - 300) ∧
    (0 < b → b ≤ old → s.threshold (b - 1) - 300 < temp)

/-- The code reported of several is OK when there is none, is one of them otherwise, and none of them stands before it in the order ACCESS_DENIED, TARGET_ABSENT, PATH_RESET, ABORTED, BUS_ERROR, ECC_UNCORRECTED, POISONED, MERGE_TIMEOUT, TIMEOUT, OK. -/
def Obligations.WorstCodeStandsFirst : Prop :=
  let order : List Code := [.accessDenied, .targetAbsent, .pathReset, .aborted, .busError, .eccUncorrected, .poisoned, .mergeTimeout, .timeout, .ok]
  ∀ l : List Code, (l = [] → worst l = .ok) ∧ (l ≠ [] → worst l ∈ l) ∧ (∀ c ∈ l, order.idxOf (worst l) ≤ order.idxOf c)

/-- In the answer to a WRITE with a fresh number, every item that names an object of apply class Group ends with ACCESS_DENIED, whatever else the request holds. A WRITE of nothing but Group objects changes no value in force and no shadow. ABORT empties the session's stage set, and the end of a session discards it; neither touches a value in force or a shadow. -/
def Obligations.GroupsChangeOnlyByCommit : Prop :=
  let fresh (s : State) (type : Nat) (m : LedgerMsg) (x : Session) : Prop :=
    s.valid type m = some x ∧ s.cuActs 2 = true ∧ m.wellFormed = true ∧ seqCase x m.seq = .fresh
  let group (it : Item) : Prop := ∃ r, findObj it.area it.num = some r ∧ r.apply = .group
  (∀ (s : State) (m : LedgerMsg) (x : Session), fresh s 2 m x →
    ∃ (t : State) (p : Reply), exec (.write m) s = .next t ∧ t.out.getLast? = some (.ledger x.src x.sport (x.replyCls p) p (replyTag x.key p)) ∧
      p.items.length = m.items.length ∧
      (∀ (i : Nat) (it : Item), m.items[i]? = some it → group it → (p.items[i]?).map (fun a => a.code) = some .accessDenied) ∧
      ((∀ it ∈ m.items, group it) → unchangedBut [.sessions, .out] s t)) ∧
  (∀ (s : State) (m : LedgerMsg) (x : Session), fresh s 5 m x →
    ∃ t : State, exec (.abort m) s = .next t ∧ (∃ y, t.session m.session = some y ∧ y.stage = []) ∧ unchangedBut [.sessions, .out] s t) ∧
  (∀ (s : State) (m : LedgerMsg) (x : Session), fresh s 20 m x →
    ∃ t : State, exec (.bye m) s = .next t ∧ t.session m.session = none ∧ unchangedBut [.sessions, .out, .log] s t)

/-- Every command, whatever its operands and whatever the state, answers a next state: none ends in a fault or a refusal (the model's choice for commands that come out of turn is log 1). -/
def Obligations.NoCommandStops : Prop := ∀ (c : Instr) (s : State), ∃ t : State, exec c s = .next t
end

