-- ==== Sys2Proof/Laws/State.lean ====
section
/-!
SUPPORT. One lemma for each field of the state under each of its updates: what the update leaves alone reads as before. No proof
needs to unfold an update.
-/

namespace Sys2Proof.Machine

/-! ### setObj -/

@[simp] theorem State.setObj_pending (s : State) (o : Obj) (i v : Nat) : (s.setObj o i v).pending = s.pending := rfl
@[simp] theorem State.setObj_time (s : State) (o : Obj) (i v : Nat) : (s.setObj o i v).time = s.time := rfl
@[simp] theorem State.setObj_freeCount (s : State) (o : Obj) (i v : Nat) : (s.setObj o i v).freeCount = s.freeCount := rfl
@[simp] theorem State.setObj_wrote (s : State) (o : Obj) (i v : Nat) : (s.setObj o i v).wrote = s.wrote := rfl
@[simp] theorem State.setObj_shadow (s : State) (o : Obj) (i v : Nat) : (s.setObj o i v).shadow = s.shadow := rfl
@[simp] theorem State.setObj_commits (s : State) (o : Obj) (i v : Nat) : (s.setObj o i v).commits = s.commits := rfl
@[simp] theorem State.setObj_cmds (s : State) (o : Obj) (i v : Nat) : (s.setObj o i v).cmds = s.cmds := rfl
@[simp] theorem State.setObj_kept (s : State) (o : Obj) (i v : Nat) : (s.setObj o i v).kept = s.kept := rfl
@[simp] theorem State.setObj_sessions (s : State) (o : Obj) (i v : Nat) : (s.setObj o i v).sessions = s.sessions := rfl
@[simp] theorem State.setObj_badProofs (s : State) (o : Obj) (i v : Nat) : (s.setObj o i v).badProofs = s.badProofs := rfl
@[simp] theorem State.setObj_lockouts (s : State) (o : Obj) (i v : Nat) : (s.setObj o i v).lockouts = s.lockouts := rfl
@[simp] theorem State.setObj_log (s : State) (o : Obj) (i v : Nat) : (s.setObj o i v).log = s.log := rfl
@[simp] theorem State.setObj_out (s : State) (o : Obj) (i v : Nat) : (s.setObj o i v).out = s.out := rfl
@[simp] theorem State.setObj_mem (s : State) (o : Obj) (i v : Nat) : (s.setObj o i v).mem = s.mem := rfl
@[simp] theorem State.setObj_poison (s : State) (o : Obj) (i v : Nat) : (s.setObj o i v).poison = s.poison := rfl
@[simp] theorem State.setObj_tiles (s : State) (o : Obj) (i v : Nat) : (s.setObj o i v).tiles = s.tiles := rfl
@[simp] theorem State.setObj_sites (s : State) (o : Obj) (i v : Nat) : (s.setObj o i v).sites = s.sites := rfl
@[simp] theorem State.setObj_cols (s : State) (o : Obj) (i v : Nat) : (s.setObj o i v).cols = s.cols := rfl
@[simp] theorem State.setObj_layers (s : State) (o : Obj) (i v : Nat) : (s.setObj o i v).layers = s.layers := rfl
@[simp] theorem State.setObj_gates (s : State) (o : Obj) (i v : Nat) : (s.setObj o i v).gates = s.gates := rfl
@[simp] theorem State.setObj_markets (s : State) (o : Obj) (i v : Nat) : (s.setObj o i v).markets = s.markets := rfl
@[simp] theorem State.setObj_aCond (s : State) (o : Obj) (i v : Nat) : (s.setObj o i v).aCond = s.aCond := rfl
@[simp] theorem State.setObj_withdrawing (s : State) (o : Obj) (i v : Nat) : (s.setObj o i v).withdrawing = s.withdrawing := rfl
@[simp] theorem State.setObj_pathOk (s : State) (o : Obj) (i v : Nat) : (s.setObj o i v).pathOk = s.pathOk := rfl
@[simp] theorem State.setObj_stations (s : State) (o : Obj) (i v : Nat) : (s.setObj o i v).stations = s.stations := rfl
@[simp] theorem State.setObj_fields (s : State) (o : Obj) (i v : Nat) : (s.setObj o i v).fields = s.fields := rfl
@[simp] theorem State.setObj_lasers (s : State) (o : Obj) (i v : Nat) : (s.setObj o i v).lasers = s.lasers := rfl
@[simp] theorem State.setObj_light (s : State) (o : Obj) (i v : Nat) : (s.setObj o i v).light = s.light := rfl
@[simp] theorem State.setObj_carryWanted (s : State) (o : Obj) (i v : Nat) : (s.setObj o i v).carryWanted = s.carryWanted := rfl
@[simp] theorem State.setObj_cal (s : State) (o : Obj) (i v : Nat) : (s.setObj o i v).cal = s.cal := rfl
@[simp] theorem State.setObj_ramps (s : State) (o : Obj) (i v : Nat) : (s.setObj o i v).ramps = s.ramps := rfl
@[simp] theorem State.setObj_splits (s : State) (o : Obj) (i v : Nat) : (s.setObj o i v).splits = s.splits := rfl
@[simp] theorem State.setObj_urgent (s : State) (o : Obj) (i v : Nat) : (s.setObj o i v).urgent = s.urgent := rfl
@[simp] theorem State.setObj_shaken (s : State) (o : Obj) (i v : Nat) : (s.setObj o i v).shaken = s.shaken := rfl
@[simp] theorem State.setObj_calAt (s : State) (o : Obj) (i v : Nat) : (s.setObj o i v).calAt = s.calAt := rfl
@[simp] theorem State.setObj_ringBase (s : State) (o : Obj) (i v : Nat) : (s.setObj o i v).ringBase = s.ringBase := rfl
@[simp] theorem State.setObj_clockLost (s : State) (o : Obj) (i v : Nat) : (s.setObj o i v).clockLost = s.clockLost := rfl
@[simp] theorem State.setObj_pma (s : State) (o : Obj) (i v : Nat) : (s.setObj o i v).pma = s.pma := rfl
@[simp] theorem State.setObj_calEv (s : State) (o : Obj) (i v : Nat) : (s.setObj o i v).calEv = s.calEv := rfl
@[simp] theorem State.setObj_heaters (s : State) (o : Obj) (i v : Nat) : (s.setObj o i v).heaters = s.heaters := rfl
@[simp] theorem State.setObj_unlocked (s : State) (o : Obj) (i v : Nat) : (s.setObj o i v).unlocked = s.unlocked := rfl
@[simp] theorem State.setObj_suspended (s : State) (o : Obj) (i v : Nat) : (s.setObj o i v).suspended = s.suspended := rfl
@[simp] theorem State.setObj_lanes (s : State) (o : Obj) (i v : Nat) : (s.setObj o i v).lanes = s.lanes := rfl
@[simp] theorem State.setObj_links (s : State) (o : Obj) (i v : Nat) : (s.setObj o i v).links = s.links := rfl
@[simp] theorem State.setObj_iods (s : State) (o : Obj) (i v : Nat) : (s.setObj o i v).iods = s.iods := rfl
@[simp] theorem State.setObj_movers (s : State) (o : Obj) (i v : Nat) : (s.setObj o i v).movers = s.movers := rfl
@[simp] theorem State.setObj_boxes (s : State) (o : Obj) (i v : Nat) : (s.setObj o i v).boxes = s.boxes := rfl
@[simp] theorem State.setObj_checks (s : State) (o : Obj) (i v : Nat) : (s.setObj o i v).checks = s.checks := rfl
@[simp] theorem State.setObj_streams (s : State) (o : Obj) (i v : Nat) : (s.setObj o i v).streams = s.streams := rfl
@[simp] theorem State.setObj_waves (s : State) (o : Obj) (i v : Nat) : (s.setObj o i v).waves = s.waves := rfl
@[simp] theorem State.setObj_posts (s : State) (o : Obj) (i v : Nat) : (s.setObj o i v).posts = s.posts := rfl
@[simp] theorem State.setObj_plan (s : State) (o : Obj) (i v : Nat) : (s.setObj o i v).plan = s.plan := rfl
@[simp] theorem State.setObj_power (s : State) (o : Obj) (i v : Nat) : (s.setObj o i v).power = s.power := rfl
@[simp] theorem State.setObj_heat (s : State) (o : Obj) (i v : Nat) : (s.setObj o i v).heat = s.heat := rfl
@[simp] theorem State.setObj_keeper (s : State) (o : Obj) (i v : Nat) : (s.setObj o i v).keeper = s.keeper := rfl
@[simp] theorem State.setObj_units (s : State) (o : Obj) (i v : Nat) : (s.setObj o i v).units = s.units := rfl
@[simp] theorem State.setObj_update (s : State) (o : Obj) (i v : Nat) : (s.setObj o i v).update = s.update := rfl
@[simp] theorem State.setObj_compare (s : State) (o : Obj) (i v : Nat) : (s.setObj o i v).compare = s.compare := rfl
@[simp] theorem State.setObj_recovery (s : State) (o : Obj) (i v : Nat) : (s.setObj o i v).recovery = s.recovery := rfl
@[simp] theorem State.setObj_startup (s : State) (o : Obj) (i v : Nat) : (s.setObj o i v).startup = s.startup := rfl
@[simp] theorem State.setObj_store (s : State) (o : Obj) (i v : Nat) : (s.setObj o i v).store = s.store := rfl
@[simp] theorem State.setObj_ptp (s : State) (o : Obj) (i v : Nat) : (s.setObj o i v).ptp = s.ptp := rfl
@[simp] theorem State.setObj_pins (s : State) (o : Obj) (i v : Nat) : (s.setObj o i v).pins = s.pins := rfl

/-! ### bump -/

@[simp] theorem State.bump_pending (s : State) (o : Obj) (i n : Nat) : (s.bump o i n).pending = s.pending := rfl
@[simp] theorem State.bump_time (s : State) (o : Obj) (i n : Nat) : (s.bump o i n).time = s.time := rfl
@[simp] theorem State.bump_freeCount (s : State) (o : Obj) (i n : Nat) : (s.bump o i n).freeCount = s.freeCount := rfl
@[simp] theorem State.bump_wrote (s : State) (o : Obj) (i n : Nat) : (s.bump o i n).wrote = s.wrote := rfl
@[simp] theorem State.bump_shadow (s : State) (o : Obj) (i n : Nat) : (s.bump o i n).shadow = s.shadow := rfl
@[simp] theorem State.bump_commits (s : State) (o : Obj) (i n : Nat) : (s.bump o i n).commits = s.commits := rfl
@[simp] theorem State.bump_cmds (s : State) (o : Obj) (i n : Nat) : (s.bump o i n).cmds = s.cmds := rfl
@[simp] theorem State.bump_kept (s : State) (o : Obj) (i n : Nat) : (s.bump o i n).kept = s.kept := rfl
@[simp] theorem State.bump_sessions (s : State) (o : Obj) (i n : Nat) : (s.bump o i n).sessions = s.sessions := rfl
@[simp] theorem State.bump_badProofs (s : State) (o : Obj) (i n : Nat) : (s.bump o i n).badProofs = s.badProofs := rfl
@[simp] theorem State.bump_lockouts (s : State) (o : Obj) (i n : Nat) : (s.bump o i n).lockouts = s.lockouts := rfl
@[simp] theorem State.bump_log (s : State) (o : Obj) (i n : Nat) : (s.bump o i n).log = s.log := rfl
@[simp] theorem State.bump_out (s : State) (o : Obj) (i n : Nat) : (s.bump o i n).out = s.out := rfl
@[simp] theorem State.bump_mem (s : State) (o : Obj) (i n : Nat) : (s.bump o i n).mem = s.mem := rfl
@[simp] theorem State.bump_poison (s : State) (o : Obj) (i n : Nat) : (s.bump o i n).poison = s.poison := rfl
@[simp] theorem State.bump_tiles (s : State) (o : Obj) (i n : Nat) : (s.bump o i n).tiles = s.tiles := rfl
@[simp] theorem State.bump_sites (s : State) (o : Obj) (i n : Nat) : (s.bump o i n).sites = s.sites := rfl
@[simp] theorem State.bump_cols (s : State) (o : Obj) (i n : Nat) : (s.bump o i n).cols = s.cols := rfl
@[simp] theorem State.bump_layers (s : State) (o : Obj) (i n : Nat) : (s.bump o i n).layers = s.layers := rfl
@[simp] theorem State.bump_gates (s : State) (o : Obj) (i n : Nat) : (s.bump o i n).gates = s.gates := rfl
@[simp] theorem State.bump_markets (s : State) (o : Obj) (i n : Nat) : (s.bump o i n).markets = s.markets := rfl
@[simp] theorem State.bump_aCond (s : State) (o : Obj) (i n : Nat) : (s.bump o i n).aCond = s.aCond := rfl
@[simp] theorem State.bump_withdrawing (s : State) (o : Obj) (i n : Nat) : (s.bump o i n).withdrawing = s.withdrawing := rfl
@[simp] theorem State.bump_pathOk (s : State) (o : Obj) (i n : Nat) : (s.bump o i n).pathOk = s.pathOk := rfl
@[simp] theorem State.bump_stations (s : State) (o : Obj) (i n : Nat) : (s.bump o i n).stations = s.stations := rfl
@[simp] theorem State.bump_fields (s : State) (o : Obj) (i n : Nat) : (s.bump o i n).fields = s.fields := rfl
@[simp] theorem State.bump_lasers (s : State) (o : Obj) (i n : Nat) : (s.bump o i n).lasers = s.lasers := rfl
@[simp] theorem State.bump_light (s : State) (o : Obj) (i n : Nat) : (s.bump o i n).light = s.light := rfl
@[simp] theorem State.bump_carryWanted (s : State) (o : Obj) (i n : Nat) : (s.bump o i n).carryWanted = s.carryWanted := rfl
@[simp] theorem State.bump_cal (s : State) (o : Obj) (i n : Nat) : (s.bump o i n).cal = s.cal := rfl
@[simp] theorem State.bump_ramps (s : State) (o : Obj) (i n : Nat) : (s.bump o i n).ramps = s.ramps := rfl
@[simp] theorem State.bump_splits (s : State) (o : Obj) (i n : Nat) : (s.bump o i n).splits = s.splits := rfl
@[simp] theorem State.bump_urgent (s : State) (o : Obj) (i n : Nat) : (s.bump o i n).urgent = s.urgent := rfl
@[simp] theorem State.bump_shaken (s : State) (o : Obj) (i n : Nat) : (s.bump o i n).shaken = s.shaken := rfl
@[simp] theorem State.bump_calAt (s : State) (o : Obj) (i n : Nat) : (s.bump o i n).calAt = s.calAt := rfl
@[simp] theorem State.bump_ringBase (s : State) (o : Obj) (i n : Nat) : (s.bump o i n).ringBase = s.ringBase := rfl
@[simp] theorem State.bump_clockLost (s : State) (o : Obj) (i n : Nat) : (s.bump o i n).clockLost = s.clockLost := rfl
@[simp] theorem State.bump_pma (s : State) (o : Obj) (i n : Nat) : (s.bump o i n).pma = s.pma := rfl
@[simp] theorem State.bump_calEv (s : State) (o : Obj) (i n : Nat) : (s.bump o i n).calEv = s.calEv := rfl
@[simp] theorem State.bump_heaters (s : State) (o : Obj) (i n : Nat) : (s.bump o i n).heaters = s.heaters := rfl
@[simp] theorem State.bump_unlocked (s : State) (o : Obj) (i n : Nat) : (s.bump o i n).unlocked = s.unlocked := rfl
@[simp] theorem State.bump_suspended (s : State) (o : Obj) (i n : Nat) : (s.bump o i n).suspended = s.suspended := rfl
@[simp] theorem State.bump_lanes (s : State) (o : Obj) (i n : Nat) : (s.bump o i n).lanes = s.lanes := rfl
@[simp] theorem State.bump_links (s : State) (o : Obj) (i n : Nat) : (s.bump o i n).links = s.links := rfl
@[simp] theorem State.bump_iods (s : State) (o : Obj) (i n : Nat) : (s.bump o i n).iods = s.iods := rfl
@[simp] theorem State.bump_movers (s : State) (o : Obj) (i n : Nat) : (s.bump o i n).movers = s.movers := rfl
@[simp] theorem State.bump_boxes (s : State) (o : Obj) (i n : Nat) : (s.bump o i n).boxes = s.boxes := rfl
@[simp] theorem State.bump_checks (s : State) (o : Obj) (i n : Nat) : (s.bump o i n).checks = s.checks := rfl
@[simp] theorem State.bump_streams (s : State) (o : Obj) (i n : Nat) : (s.bump o i n).streams = s.streams := rfl
@[simp] theorem State.bump_waves (s : State) (o : Obj) (i n : Nat) : (s.bump o i n).waves = s.waves := rfl
@[simp] theorem State.bump_posts (s : State) (o : Obj) (i n : Nat) : (s.bump o i n).posts = s.posts := rfl
@[simp] theorem State.bump_plan (s : State) (o : Obj) (i n : Nat) : (s.bump o i n).plan = s.plan := rfl
@[simp] theorem State.bump_power (s : State) (o : Obj) (i n : Nat) : (s.bump o i n).power = s.power := rfl
@[simp] theorem State.bump_heat (s : State) (o : Obj) (i n : Nat) : (s.bump o i n).heat = s.heat := rfl
@[simp] theorem State.bump_keeper (s : State) (o : Obj) (i n : Nat) : (s.bump o i n).keeper = s.keeper := rfl
@[simp] theorem State.bump_units (s : State) (o : Obj) (i n : Nat) : (s.bump o i n).units = s.units := rfl
@[simp] theorem State.bump_update (s : State) (o : Obj) (i n : Nat) : (s.bump o i n).update = s.update := rfl
@[simp] theorem State.bump_compare (s : State) (o : Obj) (i n : Nat) : (s.bump o i n).compare = s.compare := rfl
@[simp] theorem State.bump_recovery (s : State) (o : Obj) (i n : Nat) : (s.bump o i n).recovery = s.recovery := rfl
@[simp] theorem State.bump_startup (s : State) (o : Obj) (i n : Nat) : (s.bump o i n).startup = s.startup := rfl
@[simp] theorem State.bump_store (s : State) (o : Obj) (i n : Nat) : (s.bump o i n).store = s.store := rfl
@[simp] theorem State.bump_ptp (s : State) (o : Obj) (i n : Nat) : (s.bump o i n).ptp = s.ptp := rfl
@[simp] theorem State.bump_pins (s : State) (o : Obj) (i n : Nat) : (s.bump o i n).pins = s.pins := rfl

/-! ### setBit -/

@[simp] theorem State.setBit_pending (s : State) (o : Obj) (i n : Nat) (b : Bool) : (s.setBit o i n b).pending = s.pending := rfl
@[simp] theorem State.setBit_time (s : State) (o : Obj) (i n : Nat) (b : Bool) : (s.setBit o i n b).time = s.time := rfl
@[simp] theorem State.setBit_freeCount (s : State) (o : Obj) (i n : Nat) (b : Bool) : (s.setBit o i n b).freeCount = s.freeCount := rfl
@[simp] theorem State.setBit_wrote (s : State) (o : Obj) (i n : Nat) (b : Bool) : (s.setBit o i n b).wrote = s.wrote := rfl
@[simp] theorem State.setBit_shadow (s : State) (o : Obj) (i n : Nat) (b : Bool) : (s.setBit o i n b).shadow = s.shadow := rfl
@[simp] theorem State.setBit_commits (s : State) (o : Obj) (i n : Nat) (b : Bool) : (s.setBit o i n b).commits = s.commits := rfl
@[simp] theorem State.setBit_cmds (s : State) (o : Obj) (i n : Nat) (b : Bool) : (s.setBit o i n b).cmds = s.cmds := rfl
@[simp] theorem State.setBit_kept (s : State) (o : Obj) (i n : Nat) (b : Bool) : (s.setBit o i n b).kept = s.kept := rfl
@[simp] theorem State.setBit_sessions (s : State) (o : Obj) (i n : Nat) (b : Bool) : (s.setBit o i n b).sessions = s.sessions := rfl
@[simp] theorem State.setBit_badProofs (s : State) (o : Obj) (i n : Nat) (b : Bool) : (s.setBit o i n b).badProofs = s.badProofs := rfl
@[simp] theorem State.setBit_lockouts (s : State) (o : Obj) (i n : Nat) (b : Bool) : (s.setBit o i n b).lockouts = s.lockouts := rfl
@[simp] theorem State.setBit_log (s : State) (o : Obj) (i n : Nat) (b : Bool) : (s.setBit o i n b).log = s.log := rfl
@[simp] theorem State.setBit_out (s : State) (o : Obj) (i n : Nat) (b : Bool) : (s.setBit o i n b).out = s.out := rfl
@[simp] theorem State.setBit_mem (s : State) (o : Obj) (i n : Nat) (b : Bool) : (s.setBit o i n b).mem = s.mem := rfl
@[simp] theorem State.setBit_poison (s : State) (o : Obj) (i n : Nat) (b : Bool) : (s.setBit o i n b).poison = s.poison := rfl
@[simp] theorem State.setBit_tiles (s : State) (o : Obj) (i n : Nat) (b : Bool) : (s.setBit o i n b).tiles = s.tiles := rfl
@[simp] theorem State.setBit_sites (s : State) (o : Obj) (i n : Nat) (b : Bool) : (s.setBit o i n b).sites = s.sites := rfl
@[simp] theorem State.setBit_cols (s : State) (o : Obj) (i n : Nat) (b : Bool) : (s.setBit o i n b).cols = s.cols := rfl
@[simp] theorem State.setBit_layers (s : State) (o : Obj) (i n : Nat) (b : Bool) : (s.setBit o i n b).layers = s.layers := rfl
@[simp] theorem State.setBit_gates (s : State) (o : Obj) (i n : Nat) (b : Bool) : (s.setBit o i n b).gates = s.gates := rfl
@[simp] theorem State.setBit_markets (s : State) (o : Obj) (i n : Nat) (b : Bool) : (s.setBit o i n b).markets = s.markets := rfl
@[simp] theorem State.setBit_aCond (s : State) (o : Obj) (i n : Nat) (b : Bool) : (s.setBit o i n b).aCond = s.aCond := rfl
@[simp] theorem State.setBit_withdrawing (s : State) (o : Obj) (i n : Nat) (b : Bool) : (s.setBit o i n b).withdrawing = s.withdrawing := rfl
@[simp] theorem State.setBit_pathOk (s : State) (o : Obj) (i n : Nat) (b : Bool) : (s.setBit o i n b).pathOk = s.pathOk := rfl
@[simp] theorem State.setBit_stations (s : State) (o : Obj) (i n : Nat) (b : Bool) : (s.setBit o i n b).stations = s.stations := rfl
@[simp] theorem State.setBit_fields (s : State) (o : Obj) (i n : Nat) (b : Bool) : (s.setBit o i n b).fields = s.fields := rfl
@[simp] theorem State.setBit_lasers (s : State) (o : Obj) (i n : Nat) (b : Bool) : (s.setBit o i n b).lasers = s.lasers := rfl
@[simp] theorem State.setBit_light (s : State) (o : Obj) (i n : Nat) (b : Bool) : (s.setBit o i n b).light = s.light := rfl
@[simp] theorem State.setBit_carryWanted (s : State) (o : Obj) (i n : Nat) (b : Bool) : (s.setBit o i n b).carryWanted = s.carryWanted := rfl
@[simp] theorem State.setBit_cal (s : State) (o : Obj) (i n : Nat) (b : Bool) : (s.setBit o i n b).cal = s.cal := rfl
@[simp] theorem State.setBit_ramps (s : State) (o : Obj) (i n : Nat) (b : Bool) : (s.setBit o i n b).ramps = s.ramps := rfl
@[simp] theorem State.setBit_splits (s : State) (o : Obj) (i n : Nat) (b : Bool) : (s.setBit o i n b).splits = s.splits := rfl
@[simp] theorem State.setBit_urgent (s : State) (o : Obj) (i n : Nat) (b : Bool) : (s.setBit o i n b).urgent = s.urgent := rfl
@[simp] theorem State.setBit_shaken (s : State) (o : Obj) (i n : Nat) (b : Bool) : (s.setBit o i n b).shaken = s.shaken := rfl
@[simp] theorem State.setBit_calAt (s : State) (o : Obj) (i n : Nat) (b : Bool) : (s.setBit o i n b).calAt = s.calAt := rfl
@[simp] theorem State.setBit_ringBase (s : State) (o : Obj) (i n : Nat) (b : Bool) : (s.setBit o i n b).ringBase = s.ringBase := rfl
@[simp] theorem State.setBit_clockLost (s : State) (o : Obj) (i n : Nat) (b : Bool) : (s.setBit o i n b).clockLost = s.clockLost := rfl
@[simp] theorem State.setBit_pma (s : State) (o : Obj) (i n : Nat) (b : Bool) : (s.setBit o i n b).pma = s.pma := rfl
@[simp] theorem State.setBit_calEv (s : State) (o : Obj) (i n : Nat) (b : Bool) : (s.setBit o i n b).calEv = s.calEv := rfl
@[simp] theorem State.setBit_heaters (s : State) (o : Obj) (i n : Nat) (b : Bool) : (s.setBit o i n b).heaters = s.heaters := rfl
@[simp] theorem State.setBit_unlocked (s : State) (o : Obj) (i n : Nat) (b : Bool) : (s.setBit o i n b).unlocked = s.unlocked := rfl
@[simp] theorem State.setBit_suspended (s : State) (o : Obj) (i n : Nat) (b : Bool) : (s.setBit o i n b).suspended = s.suspended := rfl
@[simp] theorem State.setBit_lanes (s : State) (o : Obj) (i n : Nat) (b : Bool) : (s.setBit o i n b).lanes = s.lanes := rfl
@[simp] theorem State.setBit_links (s : State) (o : Obj) (i n : Nat) (b : Bool) : (s.setBit o i n b).links = s.links := rfl
@[simp] theorem State.setBit_iods (s : State) (o : Obj) (i n : Nat) (b : Bool) : (s.setBit o i n b).iods = s.iods := rfl
@[simp] theorem State.setBit_movers (s : State) (o : Obj) (i n : Nat) (b : Bool) : (s.setBit o i n b).movers = s.movers := rfl
@[simp] theorem State.setBit_boxes (s : State) (o : Obj) (i n : Nat) (b : Bool) : (s.setBit o i n b).boxes = s.boxes := rfl
@[simp] theorem State.setBit_checks (s : State) (o : Obj) (i n : Nat) (b : Bool) : (s.setBit o i n b).checks = s.checks := rfl
@[simp] theorem State.setBit_streams (s : State) (o : Obj) (i n : Nat) (b : Bool) : (s.setBit o i n b).streams = s.streams := rfl
@[simp] theorem State.setBit_waves (s : State) (o : Obj) (i n : Nat) (b : Bool) : (s.setBit o i n b).waves = s.waves := rfl
@[simp] theorem State.setBit_posts (s : State) (o : Obj) (i n : Nat) (b : Bool) : (s.setBit o i n b).posts = s.posts := rfl
@[simp] theorem State.setBit_plan (s : State) (o : Obj) (i n : Nat) (b : Bool) : (s.setBit o i n b).plan = s.plan := rfl
@[simp] theorem State.setBit_power (s : State) (o : Obj) (i n : Nat) (b : Bool) : (s.setBit o i n b).power = s.power := rfl
@[simp] theorem State.setBit_heat (s : State) (o : Obj) (i n : Nat) (b : Bool) : (s.setBit o i n b).heat = s.heat := rfl
@[simp] theorem State.setBit_keeper (s : State) (o : Obj) (i n : Nat) (b : Bool) : (s.setBit o i n b).keeper = s.keeper := rfl
@[simp] theorem State.setBit_units (s : State) (o : Obj) (i n : Nat) (b : Bool) : (s.setBit o i n b).units = s.units := rfl
@[simp] theorem State.setBit_update (s : State) (o : Obj) (i n : Nat) (b : Bool) : (s.setBit o i n b).update = s.update := rfl
@[simp] theorem State.setBit_compare (s : State) (o : Obj) (i n : Nat) (b : Bool) : (s.setBit o i n b).compare = s.compare := rfl
@[simp] theorem State.setBit_recovery (s : State) (o : Obj) (i n : Nat) (b : Bool) : (s.setBit o i n b).recovery = s.recovery := rfl
@[simp] theorem State.setBit_startup (s : State) (o : Obj) (i n : Nat) (b : Bool) : (s.setBit o i n b).startup = s.startup := rfl
@[simp] theorem State.setBit_store (s : State) (o : Obj) (i n : Nat) (b : Bool) : (s.setBit o i n b).store = s.store := rfl
@[simp] theorem State.setBit_ptp (s : State) (o : Obj) (i n : Nat) (b : Bool) : (s.setBit o i n b).ptp = s.ptp := rfl
@[simp] theorem State.setBit_pins (s : State) (o : Obj) (i n : Nat) (b : Bool) : (s.setBit o i n b).pins = s.pins := rfl

/-! ### record -/

@[simp] theorem State.record_pending (s : State) (c u : Nat) (d : List Nat) : (s.record c u d).pending = s.pending := rfl
@[simp] theorem State.record_time (s : State) (c u : Nat) (d : List Nat) : (s.record c u d).time = s.time := rfl
@[simp] theorem State.record_freeCount (s : State) (c u : Nat) (d : List Nat) : (s.record c u d).freeCount = s.freeCount := rfl
@[simp] theorem State.record_objs (s : State) (c u : Nat) (d : List Nat) : (s.record c u d).objs = s.objs := rfl
@[simp] theorem State.record_wrote (s : State) (c u : Nat) (d : List Nat) : (s.record c u d).wrote = s.wrote := rfl
@[simp] theorem State.record_shadow (s : State) (c u : Nat) (d : List Nat) : (s.record c u d).shadow = s.shadow := rfl
@[simp] theorem State.record_commits (s : State) (c u : Nat) (d : List Nat) : (s.record c u d).commits = s.commits := rfl
@[simp] theorem State.record_cmds (s : State) (c u : Nat) (d : List Nat) : (s.record c u d).cmds = s.cmds := rfl
@[simp] theorem State.record_kept (s : State) (c u : Nat) (d : List Nat) : (s.record c u d).kept = s.kept := rfl
@[simp] theorem State.record_sessions (s : State) (c u : Nat) (d : List Nat) : (s.record c u d).sessions = s.sessions := rfl
@[simp] theorem State.record_badProofs (s : State) (c u : Nat) (d : List Nat) : (s.record c u d).badProofs = s.badProofs := rfl
@[simp] theorem State.record_lockouts (s : State) (c u : Nat) (d : List Nat) : (s.record c u d).lockouts = s.lockouts := rfl
@[simp] theorem State.record_out (s : State) (c u : Nat) (d : List Nat) : (s.record c u d).out = s.out := rfl
@[simp] theorem State.record_mem (s : State) (c u : Nat) (d : List Nat) : (s.record c u d).mem = s.mem := rfl
@[simp] theorem State.record_poison (s : State) (c u : Nat) (d : List Nat) : (s.record c u d).poison = s.poison := rfl
@[simp] theorem State.record_tiles (s : State) (c u : Nat) (d : List Nat) : (s.record c u d).tiles = s.tiles := rfl
@[simp] theorem State.record_sites (s : State) (c u : Nat) (d : List Nat) : (s.record c u d).sites = s.sites := rfl
@[simp] theorem State.record_cols (s : State) (c u : Nat) (d : List Nat) : (s.record c u d).cols = s.cols := rfl
@[simp] theorem State.record_layers (s : State) (c u : Nat) (d : List Nat) : (s.record c u d).layers = s.layers := rfl
@[simp] theorem State.record_gates (s : State) (c u : Nat) (d : List Nat) : (s.record c u d).gates = s.gates := rfl
@[simp] theorem State.record_markets (s : State) (c u : Nat) (d : List Nat) : (s.record c u d).markets = s.markets := rfl
@[simp] theorem State.record_aCond (s : State) (c u : Nat) (d : List Nat) : (s.record c u d).aCond = s.aCond := rfl
@[simp] theorem State.record_withdrawing (s : State) (c u : Nat) (d : List Nat) : (s.record c u d).withdrawing = s.withdrawing := rfl
@[simp] theorem State.record_pathOk (s : State) (c u : Nat) (d : List Nat) : (s.record c u d).pathOk = s.pathOk := rfl
@[simp] theorem State.record_stations (s : State) (c u : Nat) (d : List Nat) : (s.record c u d).stations = s.stations := rfl
@[simp] theorem State.record_fields (s : State) (c u : Nat) (d : List Nat) : (s.record c u d).fields = s.fields := rfl
@[simp] theorem State.record_lasers (s : State) (c u : Nat) (d : List Nat) : (s.record c u d).lasers = s.lasers := rfl
@[simp] theorem State.record_light (s : State) (c u : Nat) (d : List Nat) : (s.record c u d).light = s.light := rfl
@[simp] theorem State.record_carryWanted (s : State) (c u : Nat) (d : List Nat) : (s.record c u d).carryWanted = s.carryWanted := rfl
@[simp] theorem State.record_cal (s : State) (c u : Nat) (d : List Nat) : (s.record c u d).cal = s.cal := rfl
@[simp] theorem State.record_ramps (s : State) (c u : Nat) (d : List Nat) : (s.record c u d).ramps = s.ramps := rfl
@[simp] theorem State.record_splits (s : State) (c u : Nat) (d : List Nat) : (s.record c u d).splits = s.splits := rfl
@[simp] theorem State.record_urgent (s : State) (c u : Nat) (d : List Nat) : (s.record c u d).urgent = s.urgent := rfl
@[simp] theorem State.record_shaken (s : State) (c u : Nat) (d : List Nat) : (s.record c u d).shaken = s.shaken := rfl
@[simp] theorem State.record_calAt (s : State) (c u : Nat) (d : List Nat) : (s.record c u d).calAt = s.calAt := rfl
@[simp] theorem State.record_ringBase (s : State) (c u : Nat) (d : List Nat) : (s.record c u d).ringBase = s.ringBase := rfl
@[simp] theorem State.record_clockLost (s : State) (c u : Nat) (d : List Nat) : (s.record c u d).clockLost = s.clockLost := rfl
@[simp] theorem State.record_pma (s : State) (c u : Nat) (d : List Nat) : (s.record c u d).pma = s.pma := rfl
@[simp] theorem State.record_calEv (s : State) (c u : Nat) (d : List Nat) : (s.record c u d).calEv = s.calEv := rfl
@[simp] theorem State.record_heaters (s : State) (c u : Nat) (d : List Nat) : (s.record c u d).heaters = s.heaters := rfl
@[simp] theorem State.record_unlocked (s : State) (c u : Nat) (d : List Nat) : (s.record c u d).unlocked = s.unlocked := rfl
@[simp] theorem State.record_suspended (s : State) (c u : Nat) (d : List Nat) : (s.record c u d).suspended = s.suspended := rfl
@[simp] theorem State.record_lanes (s : State) (c u : Nat) (d : List Nat) : (s.record c u d).lanes = s.lanes := rfl
@[simp] theorem State.record_links (s : State) (c u : Nat) (d : List Nat) : (s.record c u d).links = s.links := rfl
@[simp] theorem State.record_iods (s : State) (c u : Nat) (d : List Nat) : (s.record c u d).iods = s.iods := rfl
@[simp] theorem State.record_movers (s : State) (c u : Nat) (d : List Nat) : (s.record c u d).movers = s.movers := rfl
@[simp] theorem State.record_boxes (s : State) (c u : Nat) (d : List Nat) : (s.record c u d).boxes = s.boxes := rfl
@[simp] theorem State.record_checks (s : State) (c u : Nat) (d : List Nat) : (s.record c u d).checks = s.checks := rfl
@[simp] theorem State.record_streams (s : State) (c u : Nat) (d : List Nat) : (s.record c u d).streams = s.streams := rfl
@[simp] theorem State.record_waves (s : State) (c u : Nat) (d : List Nat) : (s.record c u d).waves = s.waves := rfl
@[simp] theorem State.record_posts (s : State) (c u : Nat) (d : List Nat) : (s.record c u d).posts = s.posts := rfl
@[simp] theorem State.record_plan (s : State) (c u : Nat) (d : List Nat) : (s.record c u d).plan = s.plan := rfl
@[simp] theorem State.record_power (s : State) (c u : Nat) (d : List Nat) : (s.record c u d).power = s.power := rfl
@[simp] theorem State.record_heat (s : State) (c u : Nat) (d : List Nat) : (s.record c u d).heat = s.heat := rfl
@[simp] theorem State.record_keeper (s : State) (c u : Nat) (d : List Nat) : (s.record c u d).keeper = s.keeper := rfl
@[simp] theorem State.record_units (s : State) (c u : Nat) (d : List Nat) : (s.record c u d).units = s.units := rfl
@[simp] theorem State.record_update (s : State) (c u : Nat) (d : List Nat) : (s.record c u d).update = s.update := rfl
@[simp] theorem State.record_compare (s : State) (c u : Nat) (d : List Nat) : (s.record c u d).compare = s.compare := rfl
@[simp] theorem State.record_recovery (s : State) (c u : Nat) (d : List Nat) : (s.record c u d).recovery = s.recovery := rfl
@[simp] theorem State.record_startup (s : State) (c u : Nat) (d : List Nat) : (s.record c u d).startup = s.startup := rfl
@[simp] theorem State.record_store (s : State) (c u : Nat) (d : List Nat) : (s.record c u d).store = s.store := rfl
@[simp] theorem State.record_ptp (s : State) (c u : Nat) (d : List Nat) : (s.record c u d).ptp = s.ptp := rfl
@[simp] theorem State.record_pins (s : State) (c u : Nat) (d : List Nat) : (s.record c u d).pins = s.pins := rfl

/-! ### raise -/

@[simp] theorem State.raise_pending (s : State) (c u : Nat) (d : List Nat) : (s.raise c u d).pending = s.pending := rfl
@[simp] theorem State.raise_time (s : State) (c u : Nat) (d : List Nat) : (s.raise c u d).time = s.time := rfl
@[simp] theorem State.raise_freeCount (s : State) (c u : Nat) (d : List Nat) : (s.raise c u d).freeCount = s.freeCount := rfl
@[simp] theorem State.raise_objs (s : State) (c u : Nat) (d : List Nat) : (s.raise c u d).objs = s.objs := rfl
@[simp] theorem State.raise_wrote (s : State) (c u : Nat) (d : List Nat) : (s.raise c u d).wrote = s.wrote := rfl
@[simp] theorem State.raise_shadow (s : State) (c u : Nat) (d : List Nat) : (s.raise c u d).shadow = s.shadow := rfl
@[simp] theorem State.raise_commits (s : State) (c u : Nat) (d : List Nat) : (s.raise c u d).commits = s.commits := rfl
@[simp] theorem State.raise_cmds (s : State) (c u : Nat) (d : List Nat) : (s.raise c u d).cmds = s.cmds := rfl
@[simp] theorem State.raise_kept (s : State) (c u : Nat) (d : List Nat) : (s.raise c u d).kept = s.kept := rfl
@[simp] theorem State.raise_sessions (s : State) (c u : Nat) (d : List Nat) : (s.raise c u d).sessions = s.sessions := rfl
@[simp] theorem State.raise_badProofs (s : State) (c u : Nat) (d : List Nat) : (s.raise c u d).badProofs = s.badProofs := rfl
@[simp] theorem State.raise_lockouts (s : State) (c u : Nat) (d : List Nat) : (s.raise c u d).lockouts = s.lockouts := rfl
@[simp] theorem State.raise_out (s : State) (c u : Nat) (d : List Nat) : (s.raise c u d).out = s.out := rfl
@[simp] theorem State.raise_mem (s : State) (c u : Nat) (d : List Nat) : (s.raise c u d).mem = s.mem := rfl
@[simp] theorem State.raise_poison (s : State) (c u : Nat) (d : List Nat) : (s.raise c u d).poison = s.poison := rfl
@[simp] theorem State.raise_tiles (s : State) (c u : Nat) (d : List Nat) : (s.raise c u d).tiles = s.tiles := rfl
@[simp] theorem State.raise_sites (s : State) (c u : Nat) (d : List Nat) : (s.raise c u d).sites = s.sites := rfl
@[simp] theorem State.raise_cols (s : State) (c u : Nat) (d : List Nat) : (s.raise c u d).cols = s.cols := rfl
@[simp] theorem State.raise_layers (s : State) (c u : Nat) (d : List Nat) : (s.raise c u d).layers = s.layers := rfl
@[simp] theorem State.raise_gates (s : State) (c u : Nat) (d : List Nat) : (s.raise c u d).gates = s.gates := rfl
@[simp] theorem State.raise_markets (s : State) (c u : Nat) (d : List Nat) : (s.raise c u d).markets = s.markets := rfl
@[simp] theorem State.raise_aCond (s : State) (c u : Nat) (d : List Nat) : (s.raise c u d).aCond = s.aCond := rfl
@[simp] theorem State.raise_withdrawing (s : State) (c u : Nat) (d : List Nat) : (s.raise c u d).withdrawing = s.withdrawing := rfl
@[simp] theorem State.raise_pathOk (s : State) (c u : Nat) (d : List Nat) : (s.raise c u d).pathOk = s.pathOk := rfl
@[simp] theorem State.raise_stations (s : State) (c u : Nat) (d : List Nat) : (s.raise c u d).stations = s.stations := rfl
@[simp] theorem State.raise_fields (s : State) (c u : Nat) (d : List Nat) : (s.raise c u d).fields = s.fields := rfl
@[simp] theorem State.raise_lasers (s : State) (c u : Nat) (d : List Nat) : (s.raise c u d).lasers = s.lasers := rfl
@[simp] theorem State.raise_light (s : State) (c u : Nat) (d : List Nat) : (s.raise c u d).light = s.light := rfl
@[simp] theorem State.raise_carryWanted (s : State) (c u : Nat) (d : List Nat) : (s.raise c u d).carryWanted = s.carryWanted := rfl
@[simp] theorem State.raise_cal (s : State) (c u : Nat) (d : List Nat) : (s.raise c u d).cal = s.cal := rfl
@[simp] theorem State.raise_ramps (s : State) (c u : Nat) (d : List Nat) : (s.raise c u d).ramps = s.ramps := rfl
@[simp] theorem State.raise_splits (s : State) (c u : Nat) (d : List Nat) : (s.raise c u d).splits = s.splits := rfl
@[simp] theorem State.raise_urgent (s : State) (c u : Nat) (d : List Nat) : (s.raise c u d).urgent = s.urgent := rfl
@[simp] theorem State.raise_shaken (s : State) (c u : Nat) (d : List Nat) : (s.raise c u d).shaken = s.shaken := rfl
@[simp] theorem State.raise_calAt (s : State) (c u : Nat) (d : List Nat) : (s.raise c u d).calAt = s.calAt := rfl
@[simp] theorem State.raise_ringBase (s : State) (c u : Nat) (d : List Nat) : (s.raise c u d).ringBase = s.ringBase := rfl
@[simp] theorem State.raise_clockLost (s : State) (c u : Nat) (d : List Nat) : (s.raise c u d).clockLost = s.clockLost := rfl
@[simp] theorem State.raise_pma (s : State) (c u : Nat) (d : List Nat) : (s.raise c u d).pma = s.pma := rfl
@[simp] theorem State.raise_calEv (s : State) (c u : Nat) (d : List Nat) : (s.raise c u d).calEv = s.calEv := rfl
@[simp] theorem State.raise_heaters (s : State) (c u : Nat) (d : List Nat) : (s.raise c u d).heaters = s.heaters := rfl
@[simp] theorem State.raise_unlocked (s : State) (c u : Nat) (d : List Nat) : (s.raise c u d).unlocked = s.unlocked := rfl
@[simp] theorem State.raise_suspended (s : State) (c u : Nat) (d : List Nat) : (s.raise c u d).suspended = s.suspended := rfl
@[simp] theorem State.raise_lanes (s : State) (c u : Nat) (d : List Nat) : (s.raise c u d).lanes = s.lanes := rfl
@[simp] theorem State.raise_links (s : State) (c u : Nat) (d : List Nat) : (s.raise c u d).links = s.links := rfl
@[simp] theorem State.raise_iods (s : State) (c u : Nat) (d : List Nat) : (s.raise c u d).iods = s.iods := rfl
@[simp] theorem State.raise_movers (s : State) (c u : Nat) (d : List Nat) : (s.raise c u d).movers = s.movers := rfl
@[simp] theorem State.raise_boxes (s : State) (c u : Nat) (d : List Nat) : (s.raise c u d).boxes = s.boxes := rfl
@[simp] theorem State.raise_checks (s : State) (c u : Nat) (d : List Nat) : (s.raise c u d).checks = s.checks := rfl
@[simp] theorem State.raise_streams (s : State) (c u : Nat) (d : List Nat) : (s.raise c u d).streams = s.streams := rfl
@[simp] theorem State.raise_waves (s : State) (c u : Nat) (d : List Nat) : (s.raise c u d).waves = s.waves := rfl
@[simp] theorem State.raise_posts (s : State) (c u : Nat) (d : List Nat) : (s.raise c u d).posts = s.posts := rfl
@[simp] theorem State.raise_plan (s : State) (c u : Nat) (d : List Nat) : (s.raise c u d).plan = s.plan := rfl
@[simp] theorem State.raise_power (s : State) (c u : Nat) (d : List Nat) : (s.raise c u d).power = s.power := rfl
@[simp] theorem State.raise_heat (s : State) (c u : Nat) (d : List Nat) : (s.raise c u d).heat = s.heat := rfl
@[simp] theorem State.raise_keeper (s : State) (c u : Nat) (d : List Nat) : (s.raise c u d).keeper = s.keeper := rfl
@[simp] theorem State.raise_units (s : State) (c u : Nat) (d : List Nat) : (s.raise c u d).units = s.units := rfl
@[simp] theorem State.raise_update (s : State) (c u : Nat) (d : List Nat) : (s.raise c u d).update = s.update := rfl
@[simp] theorem State.raise_compare (s : State) (c u : Nat) (d : List Nat) : (s.raise c u d).compare = s.compare := rfl
@[simp] theorem State.raise_recovery (s : State) (c u : Nat) (d : List Nat) : (s.raise c u d).recovery = s.recovery := rfl
@[simp] theorem State.raise_startup (s : State) (c u : Nat) (d : List Nat) : (s.raise c u d).startup = s.startup := rfl
@[simp] theorem State.raise_store (s : State) (c u : Nat) (d : List Nat) : (s.raise c u d).store = s.store := rfl
@[simp] theorem State.raise_ptp (s : State) (c u : Nat) (d : List Nat) : (s.raise c u d).ptp = s.ptp := rfl
@[simp] theorem State.raise_pins (s : State) (c u : Nat) (d : List Nat) : (s.raise c u d).pins = s.pins := rfl

/-! ### send -/

@[simp] theorem State.send_pending (s : State) (m : Sent) : (s.send m).pending = s.pending := rfl
@[simp] theorem State.send_time (s : State) (m : Sent) : (s.send m).time = s.time := rfl
@[simp] theorem State.send_freeCount (s : State) (m : Sent) : (s.send m).freeCount = s.freeCount := rfl
@[simp] theorem State.send_objs (s : State) (m : Sent) : (s.send m).objs = s.objs := rfl
@[simp] theorem State.send_wrote (s : State) (m : Sent) : (s.send m).wrote = s.wrote := rfl
@[simp] theorem State.send_shadow (s : State) (m : Sent) : (s.send m).shadow = s.shadow := rfl
@[simp] theorem State.send_commits (s : State) (m : Sent) : (s.send m).commits = s.commits := rfl
@[simp] theorem State.send_cmds (s : State) (m : Sent) : (s.send m).cmds = s.cmds := rfl
@[simp] theorem State.send_kept (s : State) (m : Sent) : (s.send m).kept = s.kept := rfl
@[simp] theorem State.send_sessions (s : State) (m : Sent) : (s.send m).sessions = s.sessions := rfl
@[simp] theorem State.send_badProofs (s : State) (m : Sent) : (s.send m).badProofs = s.badProofs := rfl
@[simp] theorem State.send_lockouts (s : State) (m : Sent) : (s.send m).lockouts = s.lockouts := rfl
@[simp] theorem State.send_log (s : State) (m : Sent) : (s.send m).log = s.log := rfl
@[simp] theorem State.send_mem (s : State) (m : Sent) : (s.send m).mem = s.mem := rfl
@[simp] theorem State.send_poison (s : State) (m : Sent) : (s.send m).poison = s.poison := rfl
@[simp] theorem State.send_tiles (s : State) (m : Sent) : (s.send m).tiles = s.tiles := rfl
@[simp] theorem State.send_sites (s : State) (m : Sent) : (s.send m).sites = s.sites := rfl
@[simp] theorem State.send_cols (s : State) (m : Sent) : (s.send m).cols = s.cols := rfl
@[simp] theorem State.send_layers (s : State) (m : Sent) : (s.send m).layers = s.layers := rfl
@[simp] theorem State.send_gates (s : State) (m : Sent) : (s.send m).gates = s.gates := rfl
@[simp] theorem State.send_markets (s : State) (m : Sent) : (s.send m).markets = s.markets := rfl
@[simp] theorem State.send_aCond (s : State) (m : Sent) : (s.send m).aCond = s.aCond := rfl
@[simp] theorem State.send_withdrawing (s : State) (m : Sent) : (s.send m).withdrawing = s.withdrawing := rfl
@[simp] theorem State.send_pathOk (s : State) (m : Sent) : (s.send m).pathOk = s.pathOk := rfl
@[simp] theorem State.send_stations (s : State) (m : Sent) : (s.send m).stations = s.stations := rfl
@[simp] theorem State.send_fields (s : State) (m : Sent) : (s.send m).fields = s.fields := rfl
@[simp] theorem State.send_lasers (s : State) (m : Sent) : (s.send m).lasers = s.lasers := rfl
@[simp] theorem State.send_light (s : State) (m : Sent) : (s.send m).light = s.light := rfl
@[simp] theorem State.send_carryWanted (s : State) (m : Sent) : (s.send m).carryWanted = s.carryWanted := rfl
@[simp] theorem State.send_cal (s : State) (m : Sent) : (s.send m).cal = s.cal := rfl
@[simp] theorem State.send_ramps (s : State) (m : Sent) : (s.send m).ramps = s.ramps := rfl
@[simp] theorem State.send_splits (s : State) (m : Sent) : (s.send m).splits = s.splits := rfl
@[simp] theorem State.send_urgent (s : State) (m : Sent) : (s.send m).urgent = s.urgent := rfl
@[simp] theorem State.send_shaken (s : State) (m : Sent) : (s.send m).shaken = s.shaken := rfl
@[simp] theorem State.send_calAt (s : State) (m : Sent) : (s.send m).calAt = s.calAt := rfl
@[simp] theorem State.send_ringBase (s : State) (m : Sent) : (s.send m).ringBase = s.ringBase := rfl
@[simp] theorem State.send_clockLost (s : State) (m : Sent) : (s.send m).clockLost = s.clockLost := rfl
@[simp] theorem State.send_pma (s : State) (m : Sent) : (s.send m).pma = s.pma := rfl
@[simp] theorem State.send_calEv (s : State) (m : Sent) : (s.send m).calEv = s.calEv := rfl
@[simp] theorem State.send_heaters (s : State) (m : Sent) : (s.send m).heaters = s.heaters := rfl
@[simp] theorem State.send_unlocked (s : State) (m : Sent) : (s.send m).unlocked = s.unlocked := rfl
@[simp] theorem State.send_suspended (s : State) (m : Sent) : (s.send m).suspended = s.suspended := rfl
@[simp] theorem State.send_lanes (s : State) (m : Sent) : (s.send m).lanes = s.lanes := rfl
@[simp] theorem State.send_links (s : State) (m : Sent) : (s.send m).links = s.links := rfl
@[simp] theorem State.send_iods (s : State) (m : Sent) : (s.send m).iods = s.iods := rfl
@[simp] theorem State.send_movers (s : State) (m : Sent) : (s.send m).movers = s.movers := rfl
@[simp] theorem State.send_boxes (s : State) (m : Sent) : (s.send m).boxes = s.boxes := rfl
@[simp] theorem State.send_checks (s : State) (m : Sent) : (s.send m).checks = s.checks := rfl
@[simp] theorem State.send_streams (s : State) (m : Sent) : (s.send m).streams = s.streams := rfl
@[simp] theorem State.send_waves (s : State) (m : Sent) : (s.send m).waves = s.waves := rfl
@[simp] theorem State.send_posts (s : State) (m : Sent) : (s.send m).posts = s.posts := rfl
@[simp] theorem State.send_plan (s : State) (m : Sent) : (s.send m).plan = s.plan := rfl
@[simp] theorem State.send_power (s : State) (m : Sent) : (s.send m).power = s.power := rfl
@[simp] theorem State.send_heat (s : State) (m : Sent) : (s.send m).heat = s.heat := rfl
@[simp] theorem State.send_keeper (s : State) (m : Sent) : (s.send m).keeper = s.keeper := rfl
@[simp] theorem State.send_units (s : State) (m : Sent) : (s.send m).units = s.units := rfl
@[simp] theorem State.send_update (s : State) (m : Sent) : (s.send m).update = s.update := rfl
@[simp] theorem State.send_compare (s : State) (m : Sent) : (s.send m).compare = s.compare := rfl
@[simp] theorem State.send_recovery (s : State) (m : Sent) : (s.send m).recovery = s.recovery := rfl
@[simp] theorem State.send_startup (s : State) (m : Sent) : (s.send m).startup = s.startup := rfl
@[simp] theorem State.send_store (s : State) (m : Sent) : (s.send m).store = s.store := rfl
@[simp] theorem State.send_ptp (s : State) (m : Sent) : (s.send m).ptp = s.ptp := rfl
@[simp] theorem State.send_pins (s : State) (m : Sent) : (s.send m).pins = s.pins := rfl

/-! ### setMark -/

@[simp] theorem State.setMark_pending (s : State) (a : Nat) (b : Bool) : (s.setMark a b).pending = s.pending := rfl
@[simp] theorem State.setMark_time (s : State) (a : Nat) (b : Bool) : (s.setMark a b).time = s.time := rfl
@[simp] theorem State.setMark_freeCount (s : State) (a : Nat) (b : Bool) : (s.setMark a b).freeCount = s.freeCount := rfl
@[simp] theorem State.setMark_objs (s : State) (a : Nat) (b : Bool) : (s.setMark a b).objs = s.objs := rfl
@[simp] theorem State.setMark_wrote (s : State) (a : Nat) (b : Bool) : (s.setMark a b).wrote = s.wrote := rfl
@[simp] theorem State.setMark_shadow (s : State) (a : Nat) (b : Bool) : (s.setMark a b).shadow = s.shadow := rfl
@[simp] theorem State.setMark_commits (s : State) (a : Nat) (b : Bool) : (s.setMark a b).commits = s.commits := rfl
@[simp] theorem State.setMark_cmds (s : State) (a : Nat) (b : Bool) : (s.setMark a b).cmds = s.cmds := rfl
@[simp] theorem State.setMark_kept (s : State) (a : Nat) (b : Bool) : (s.setMark a b).kept = s.kept := rfl
@[simp] theorem State.setMark_sessions (s : State) (a : Nat) (b : Bool) : (s.setMark a b).sessions = s.sessions := rfl
@[simp] theorem State.setMark_badProofs (s : State) (a : Nat) (b : Bool) : (s.setMark a b).badProofs = s.badProofs := rfl
@[simp] theorem State.setMark_lockouts (s : State) (a : Nat) (b : Bool) : (s.setMark a b).lockouts = s.lockouts := rfl
@[simp] theorem State.setMark_log (s : State) (a : Nat) (b : Bool) : (s.setMark a b).log = s.log := rfl
@[simp] theorem State.setMark_out (s : State) (a : Nat) (b : Bool) : (s.setMark a b).out = s.out := rfl
@[simp] theorem State.setMark_mem (s : State) (a : Nat) (b : Bool) : (s.setMark a b).mem = s.mem := rfl
@[simp] theorem State.setMark_tiles (s : State) (a : Nat) (b : Bool) : (s.setMark a b).tiles = s.tiles := rfl
@[simp] theorem State.setMark_sites (s : State) (a : Nat) (b : Bool) : (s.setMark a b).sites = s.sites := rfl
@[simp] theorem State.setMark_cols (s : State) (a : Nat) (b : Bool) : (s.setMark a b).cols = s.cols := rfl
@[simp] theorem State.setMark_layers (s : State) (a : Nat) (b : Bool) : (s.setMark a b).layers = s.layers := rfl
@[simp] theorem State.setMark_gates (s : State) (a : Nat) (b : Bool) : (s.setMark a b).gates = s.gates := rfl
@[simp] theorem State.setMark_markets (s : State) (a : Nat) (b : Bool) : (s.setMark a b).markets = s.markets := rfl
@[simp] theorem State.setMark_aCond (s : State) (a : Nat) (b : Bool) : (s.setMark a b).aCond = s.aCond := rfl
@[simp] theorem State.setMark_withdrawing (s : State) (a : Nat) (b : Bool) : (s.setMark a b).withdrawing = s.withdrawing := rfl
@[simp] theorem State.setMark_pathOk (s : State) (a : Nat) (b : Bool) : (s.setMark a b).pathOk = s.pathOk := rfl
@[simp] theorem State.setMark_stations (s : State) (a : Nat) (b : Bool) : (s.setMark a b).stations = s.stations := rfl
@[simp] theorem State.setMark_fields (s : State) (a : Nat) (b : Bool) : (s.setMark a b).fields = s.fields := rfl
@[simp] theorem State.setMark_lasers (s : State) (a : Nat) (b : Bool) : (s.setMark a b).lasers = s.lasers := rfl
@[simp] theorem State.setMark_light (s : State) (a : Nat) (b : Bool) : (s.setMark a b).light = s.light := rfl
@[simp] theorem State.setMark_carryWanted (s : State) (a : Nat) (b : Bool) : (s.setMark a b).carryWanted = s.carryWanted := rfl
@[simp] theorem State.setMark_cal (s : State) (a : Nat) (b : Bool) : (s.setMark a b).cal = s.cal := rfl
@[simp] theorem State.setMark_ramps (s : State) (a : Nat) (b : Bool) : (s.setMark a b).ramps = s.ramps := rfl
@[simp] theorem State.setMark_splits (s : State) (a : Nat) (b : Bool) : (s.setMark a b).splits = s.splits := rfl
@[simp] theorem State.setMark_urgent (s : State) (a : Nat) (b : Bool) : (s.setMark a b).urgent = s.urgent := rfl
@[simp] theorem State.setMark_shaken (s : State) (a : Nat) (b : Bool) : (s.setMark a b).shaken = s.shaken := rfl
@[simp] theorem State.setMark_calAt (s : State) (a : Nat) (b : Bool) : (s.setMark a b).calAt = s.calAt := rfl
@[simp] theorem State.setMark_ringBase (s : State) (a : Nat) (b : Bool) : (s.setMark a b).ringBase = s.ringBase := rfl
@[simp] theorem State.setMark_clockLost (s : State) (a : Nat) (b : Bool) : (s.setMark a b).clockLost = s.clockLost := rfl
@[simp] theorem State.setMark_pma (s : State) (a : Nat) (b : Bool) : (s.setMark a b).pma = s.pma := rfl
@[simp] theorem State.setMark_calEv (s : State) (a : Nat) (b : Bool) : (s.setMark a b).calEv = s.calEv := rfl
@[simp] theorem State.setMark_heaters (s : State) (a : Nat) (b : Bool) : (s.setMark a b).heaters = s.heaters := rfl
@[simp] theorem State.setMark_unlocked (s : State) (a : Nat) (b : Bool) : (s.setMark a b).unlocked = s.unlocked := rfl
@[simp] theorem State.setMark_suspended (s : State) (a : Nat) (b : Bool) : (s.setMark a b).suspended = s.suspended := rfl
@[simp] theorem State.setMark_lanes (s : State) (a : Nat) (b : Bool) : (s.setMark a b).lanes = s.lanes := rfl
@[simp] theorem State.setMark_links (s : State) (a : Nat) (b : Bool) : (s.setMark a b).links = s.links := rfl
@[simp] theorem State.setMark_iods (s : State) (a : Nat) (b : Bool) : (s.setMark a b).iods = s.iods := rfl
@[simp] theorem State.setMark_movers (s : State) (a : Nat) (b : Bool) : (s.setMark a b).movers = s.movers := rfl
@[simp] theorem State.setMark_boxes (s : State) (a : Nat) (b : Bool) : (s.setMark a b).boxes = s.boxes := rfl
@[simp] theorem State.setMark_checks (s : State) (a : Nat) (b : Bool) : (s.setMark a b).checks = s.checks := rfl
@[simp] theorem State.setMark_streams (s : State) (a : Nat) (b : Bool) : (s.setMark a b).streams = s.streams := rfl
@[simp] theorem State.setMark_waves (s : State) (a : Nat) (b : Bool) : (s.setMark a b).waves = s.waves := rfl
@[simp] theorem State.setMark_posts (s : State) (a : Nat) (b : Bool) : (s.setMark a b).posts = s.posts := rfl
@[simp] theorem State.setMark_plan (s : State) (a : Nat) (b : Bool) : (s.setMark a b).plan = s.plan := rfl
@[simp] theorem State.setMark_power (s : State) (a : Nat) (b : Bool) : (s.setMark a b).power = s.power := rfl
@[simp] theorem State.setMark_heat (s : State) (a : Nat) (b : Bool) : (s.setMark a b).heat = s.heat := rfl
@[simp] theorem State.setMark_keeper (s : State) (a : Nat) (b : Bool) : (s.setMark a b).keeper = s.keeper := rfl
@[simp] theorem State.setMark_units (s : State) (a : Nat) (b : Bool) : (s.setMark a b).units = s.units := rfl
@[simp] theorem State.setMark_update (s : State) (a : Nat) (b : Bool) : (s.setMark a b).update = s.update := rfl
@[simp] theorem State.setMark_compare (s : State) (a : Nat) (b : Bool) : (s.setMark a b).compare = s.compare := rfl
@[simp] theorem State.setMark_recovery (s : State) (a : Nat) (b : Bool) : (s.setMark a b).recovery = s.recovery := rfl
@[simp] theorem State.setMark_startup (s : State) (a : Nat) (b : Bool) : (s.setMark a b).startup = s.startup := rfl
@[simp] theorem State.setMark_store (s : State) (a : Nat) (b : Bool) : (s.setMark a b).store = s.store := rfl
@[simp] theorem State.setMark_ptp (s : State) (a : Nat) (b : Bool) : (s.setMark a b).ptp = s.ptp := rfl
@[simp] theorem State.setMark_pins (s : State) (a : Nat) (b : Bool) : (s.setMark a b).pins = s.pins := rfl

/-! ### putUnit -/

@[simp] theorem State.putUnit_pending (s : State) (a : Nat) (u : Cell32) : (s.putUnit a u).pending = s.pending := by simp only [State.putUnit]
@[simp] theorem State.putUnit_time (s : State) (a : Nat) (u : Cell32) : (s.putUnit a u).time = s.time := by simp only [State.putUnit]
@[simp] theorem State.putUnit_freeCount (s : State) (a : Nat) (u : Cell32) : (s.putUnit a u).freeCount = s.freeCount := by simp only [State.putUnit]
@[simp] theorem State.putUnit_objs (s : State) (a : Nat) (u : Cell32) : (s.putUnit a u).objs = s.objs := by simp only [State.putUnit]
@[simp] theorem State.putUnit_wrote (s : State) (a : Nat) (u : Cell32) : (s.putUnit a u).wrote = s.wrote := by simp only [State.putUnit]
@[simp] theorem State.putUnit_shadow (s : State) (a : Nat) (u : Cell32) : (s.putUnit a u).shadow = s.shadow := by simp only [State.putUnit]
@[simp] theorem State.putUnit_commits (s : State) (a : Nat) (u : Cell32) : (s.putUnit a u).commits = s.commits := by simp only [State.putUnit]
@[simp] theorem State.putUnit_cmds (s : State) (a : Nat) (u : Cell32) : (s.putUnit a u).cmds = s.cmds := by simp only [State.putUnit]
@[simp] theorem State.putUnit_kept (s : State) (a : Nat) (u : Cell32) : (s.putUnit a u).kept = s.kept := by simp only [State.putUnit]
@[simp] theorem State.putUnit_sessions (s : State) (a : Nat) (u : Cell32) : (s.putUnit a u).sessions = s.sessions := by simp only [State.putUnit]
@[simp] theorem State.putUnit_badProofs (s : State) (a : Nat) (u : Cell32) : (s.putUnit a u).badProofs = s.badProofs := by simp only [State.putUnit]
@[simp] theorem State.putUnit_lockouts (s : State) (a : Nat) (u : Cell32) : (s.putUnit a u).lockouts = s.lockouts := by simp only [State.putUnit]
@[simp] theorem State.putUnit_log (s : State) (a : Nat) (u : Cell32) : (s.putUnit a u).log = s.log := by simp only [State.putUnit]
@[simp] theorem State.putUnit_out (s : State) (a : Nat) (u : Cell32) : (s.putUnit a u).out = s.out := by simp only [State.putUnit]
@[simp] theorem State.putUnit_tiles (s : State) (a : Nat) (u : Cell32) : (s.putUnit a u).tiles = s.tiles := by simp only [State.putUnit]
@[simp] theorem State.putUnit_sites (s : State) (a : Nat) (u : Cell32) : (s.putUnit a u).sites = s.sites := by simp only [State.putUnit]
@[simp] theorem State.putUnit_cols (s : State) (a : Nat) (u : Cell32) : (s.putUnit a u).cols = s.cols := by simp only [State.putUnit]
@[simp] theorem State.putUnit_layers (s : State) (a : Nat) (u : Cell32) : (s.putUnit a u).layers = s.layers := by simp only [State.putUnit]
@[simp] theorem State.putUnit_gates (s : State) (a : Nat) (u : Cell32) : (s.putUnit a u).gates = s.gates := by simp only [State.putUnit]
@[simp] theorem State.putUnit_markets (s : State) (a : Nat) (u : Cell32) : (s.putUnit a u).markets = s.markets := by simp only [State.putUnit]
@[simp] theorem State.putUnit_aCond (s : State) (a : Nat) (u : Cell32) : (s.putUnit a u).aCond = s.aCond := by simp only [State.putUnit]
@[simp] theorem State.putUnit_withdrawing (s : State) (a : Nat) (u : Cell32) : (s.putUnit a u).withdrawing = s.withdrawing := by simp only [State.putUnit]
@[simp] theorem State.putUnit_pathOk (s : State) (a : Nat) (u : Cell32) : (s.putUnit a u).pathOk = s.pathOk := by simp only [State.putUnit]
@[simp] theorem State.putUnit_stations (s : State) (a : Nat) (u : Cell32) : (s.putUnit a u).stations = s.stations := by simp only [State.putUnit]
@[simp] theorem State.putUnit_fields (s : State) (a : Nat) (u : Cell32) : (s.putUnit a u).fields = s.fields := by simp only [State.putUnit]
@[simp] theorem State.putUnit_lasers (s : State) (a : Nat) (u : Cell32) : (s.putUnit a u).lasers = s.lasers := by simp only [State.putUnit]
@[simp] theorem State.putUnit_light (s : State) (a : Nat) (u : Cell32) : (s.putUnit a u).light = s.light := by simp only [State.putUnit]
@[simp] theorem State.putUnit_carryWanted (s : State) (a : Nat) (u : Cell32) : (s.putUnit a u).carryWanted = s.carryWanted := by simp only [State.putUnit]
@[simp] theorem State.putUnit_cal (s : State) (a : Nat) (u : Cell32) : (s.putUnit a u).cal = s.cal := by simp only [State.putUnit]
@[simp] theorem State.putUnit_ramps (s : State) (a : Nat) (u : Cell32) : (s.putUnit a u).ramps = s.ramps := by simp only [State.putUnit]
@[simp] theorem State.putUnit_splits (s : State) (a : Nat) (u : Cell32) : (s.putUnit a u).splits = s.splits := by simp only [State.putUnit]
@[simp] theorem State.putUnit_urgent (s : State) (a : Nat) (u : Cell32) : (s.putUnit a u).urgent = s.urgent := by simp only [State.putUnit]
@[simp] theorem State.putUnit_shaken (s : State) (a : Nat) (u : Cell32) : (s.putUnit a u).shaken = s.shaken := by simp only [State.putUnit]
@[simp] theorem State.putUnit_calAt (s : State) (a : Nat) (u : Cell32) : (s.putUnit a u).calAt = s.calAt := by simp only [State.putUnit]
@[simp] theorem State.putUnit_ringBase (s : State) (a : Nat) (u : Cell32) : (s.putUnit a u).ringBase = s.ringBase := by simp only [State.putUnit]
@[simp] theorem State.putUnit_clockLost (s : State) (a : Nat) (u : Cell32) : (s.putUnit a u).clockLost = s.clockLost := by simp only [State.putUnit]
@[simp] theorem State.putUnit_pma (s : State) (a : Nat) (u : Cell32) : (s.putUnit a u).pma = s.pma := by simp only [State.putUnit]
@[simp] theorem State.putUnit_calEv (s : State) (a : Nat) (u : Cell32) : (s.putUnit a u).calEv = s.calEv := by simp only [State.putUnit]
@[simp] theorem State.putUnit_heaters (s : State) (a : Nat) (u : Cell32) : (s.putUnit a u).heaters = s.heaters := by simp only [State.putUnit]
@[simp] theorem State.putUnit_unlocked (s : State) (a : Nat) (u : Cell32) : (s.putUnit a u).unlocked = s.unlocked := by simp only [State.putUnit]
@[simp] theorem State.putUnit_suspended (s : State) (a : Nat) (u : Cell32) : (s.putUnit a u).suspended = s.suspended := by simp only [State.putUnit]
@[simp] theorem State.putUnit_lanes (s : State) (a : Nat) (u : Cell32) : (s.putUnit a u).lanes = s.lanes := by simp only [State.putUnit]
@[simp] theorem State.putUnit_links (s : State) (a : Nat) (u : Cell32) : (s.putUnit a u).links = s.links := by simp only [State.putUnit]
@[simp] theorem State.putUnit_iods (s : State) (a : Nat) (u : Cell32) : (s.putUnit a u).iods = s.iods := by simp only [State.putUnit]
@[simp] theorem State.putUnit_movers (s : State) (a : Nat) (u : Cell32) : (s.putUnit a u).movers = s.movers := by simp only [State.putUnit]
@[simp] theorem State.putUnit_boxes (s : State) (a : Nat) (u : Cell32) : (s.putUnit a u).boxes = s.boxes := by simp only [State.putUnit]
@[simp] theorem State.putUnit_checks (s : State) (a : Nat) (u : Cell32) : (s.putUnit a u).checks = s.checks := by simp only [State.putUnit]
@[simp] theorem State.putUnit_streams (s : State) (a : Nat) (u : Cell32) : (s.putUnit a u).streams = s.streams := by simp only [State.putUnit]
@[simp] theorem State.putUnit_waves (s : State) (a : Nat) (u : Cell32) : (s.putUnit a u).waves = s.waves := by simp only [State.putUnit]
@[simp] theorem State.putUnit_posts (s : State) (a : Nat) (u : Cell32) : (s.putUnit a u).posts = s.posts := by simp only [State.putUnit]
@[simp] theorem State.putUnit_plan (s : State) (a : Nat) (u : Cell32) : (s.putUnit a u).plan = s.plan := by simp only [State.putUnit]
@[simp] theorem State.putUnit_power (s : State) (a : Nat) (u : Cell32) : (s.putUnit a u).power = s.power := by simp only [State.putUnit]
@[simp] theorem State.putUnit_heat (s : State) (a : Nat) (u : Cell32) : (s.putUnit a u).heat = s.heat := by simp only [State.putUnit]
@[simp] theorem State.putUnit_keeper (s : State) (a : Nat) (u : Cell32) : (s.putUnit a u).keeper = s.keeper := by simp only [State.putUnit]
@[simp] theorem State.putUnit_units (s : State) (a : Nat) (u : Cell32) : (s.putUnit a u).units = s.units := by simp only [State.putUnit]
@[simp] theorem State.putUnit_update (s : State) (a : Nat) (u : Cell32) : (s.putUnit a u).update = s.update := by simp only [State.putUnit]
@[simp] theorem State.putUnit_compare (s : State) (a : Nat) (u : Cell32) : (s.putUnit a u).compare = s.compare := by simp only [State.putUnit]
@[simp] theorem State.putUnit_recovery (s : State) (a : Nat) (u : Cell32) : (s.putUnit a u).recovery = s.recovery := by simp only [State.putUnit]
@[simp] theorem State.putUnit_startup (s : State) (a : Nat) (u : Cell32) : (s.putUnit a u).startup = s.startup := by simp only [State.putUnit]
@[simp] theorem State.putUnit_store (s : State) (a : Nat) (u : Cell32) : (s.putUnit a u).store = s.store := by simp only [State.putUnit]
@[simp] theorem State.putUnit_ptp (s : State) (a : Nat) (u : Cell32) : (s.putUnit a u).ptp = s.ptp := by simp only [State.putUnit]
@[simp] theorem State.putUnit_pins (s : State) (a : Nat) (u : Cell32) : (s.putUnit a u).pins = s.pins := by simp only [State.putUnit]

/-! ### clearRange -/

@[simp] theorem State.clearRange_pending (s : State) (a b : Nat) : (s.clearRange a b).pending = s.pending := rfl
@[simp] theorem State.clearRange_time (s : State) (a b : Nat) : (s.clearRange a b).time = s.time := rfl
@[simp] theorem State.clearRange_freeCount (s : State) (a b : Nat) : (s.clearRange a b).freeCount = s.freeCount := rfl
@[simp] theorem State.clearRange_objs (s : State) (a b : Nat) : (s.clearRange a b).objs = s.objs := rfl
@[simp] theorem State.clearRange_wrote (s : State) (a b : Nat) : (s.clearRange a b).wrote = s.wrote := rfl
@[simp] theorem State.clearRange_shadow (s : State) (a b : Nat) : (s.clearRange a b).shadow = s.shadow := rfl
@[simp] theorem State.clearRange_commits (s : State) (a b : Nat) : (s.clearRange a b).commits = s.commits := rfl
@[simp] theorem State.clearRange_cmds (s : State) (a b : Nat) : (s.clearRange a b).cmds = s.cmds := rfl
@[simp] theorem State.clearRange_kept (s : State) (a b : Nat) : (s.clearRange a b).kept = s.kept := rfl
@[simp] theorem State.clearRange_sessions (s : State) (a b : Nat) : (s.clearRange a b).sessions = s.sessions := rfl
@[simp] theorem State.clearRange_badProofs (s : State) (a b : Nat) : (s.clearRange a b).badProofs = s.badProofs := rfl
@[simp] theorem State.clearRange_lockouts (s : State) (a b : Nat) : (s.clearRange a b).lockouts = s.lockouts := rfl
@[simp] theorem State.clearRange_log (s : State) (a b : Nat) : (s.clearRange a b).log = s.log := rfl
@[simp] theorem State.clearRange_out (s : State) (a b : Nat) : (s.clearRange a b).out = s.out := rfl
@[simp] theorem State.clearRange_tiles (s : State) (a b : Nat) : (s.clearRange a b).tiles = s.tiles := rfl
@[simp] theorem State.clearRange_sites (s : State) (a b : Nat) : (s.clearRange a b).sites = s.sites := rfl
@[simp] theorem State.clearRange_cols (s : State) (a b : Nat) : (s.clearRange a b).cols = s.cols := rfl
@[simp] theorem State.clearRange_layers (s : State) (a b : Nat) : (s.clearRange a b).layers = s.layers := rfl
@[simp] theorem State.clearRange_gates (s : State) (a b : Nat) : (s.clearRange a b).gates = s.gates := rfl
@[simp] theorem State.clearRange_markets (s : State) (a b : Nat) : (s.clearRange a b).markets = s.markets := rfl
@[simp] theorem State.clearRange_aCond (s : State) (a b : Nat) : (s.clearRange a b).aCond = s.aCond := rfl
@[simp] theorem State.clearRange_withdrawing (s : State) (a b : Nat) : (s.clearRange a b).withdrawing = s.withdrawing := rfl
@[simp] theorem State.clearRange_pathOk (s : State) (a b : Nat) : (s.clearRange a b).pathOk = s.pathOk := rfl
@[simp] theorem State.clearRange_stations (s : State) (a b : Nat) : (s.clearRange a b).stations = s.stations := rfl
@[simp] theorem State.clearRange_fields (s : State) (a b : Nat) : (s.clearRange a b).fields = s.fields := rfl
@[simp] theorem State.clearRange_lasers (s : State) (a b : Nat) : (s.clearRange a b).lasers = s.lasers := rfl
@[simp] theorem State.clearRange_light (s : State) (a b : Nat) : (s.clearRange a b).light = s.light := rfl
@[simp] theorem State.clearRange_carryWanted (s : State) (a b : Nat) : (s.clearRange a b).carryWanted = s.carryWanted := rfl
@[simp] theorem State.clearRange_cal (s : State) (a b : Nat) : (s.clearRange a b).cal = s.cal := rfl
@[simp] theorem State.clearRange_ramps (s : State) (a b : Nat) : (s.clearRange a b).ramps = s.ramps := rfl
@[simp] theorem State.clearRange_splits (s : State) (a b : Nat) : (s.clearRange a b).splits = s.splits := rfl
@[simp] theorem State.clearRange_urgent (s : State) (a b : Nat) : (s.clearRange a b).urgent = s.urgent := rfl
@[simp] theorem State.clearRange_shaken (s : State) (a b : Nat) : (s.clearRange a b).shaken = s.shaken := rfl
@[simp] theorem State.clearRange_calAt (s : State) (a b : Nat) : (s.clearRange a b).calAt = s.calAt := rfl
@[simp] theorem State.clearRange_ringBase (s : State) (a b : Nat) : (s.clearRange a b).ringBase = s.ringBase := rfl
@[simp] theorem State.clearRange_clockLost (s : State) (a b : Nat) : (s.clearRange a b).clockLost = s.clockLost := rfl
@[simp] theorem State.clearRange_pma (s : State) (a b : Nat) : (s.clearRange a b).pma = s.pma := rfl
@[simp] theorem State.clearRange_calEv (s : State) (a b : Nat) : (s.clearRange a b).calEv = s.calEv := rfl
@[simp] theorem State.clearRange_heaters (s : State) (a b : Nat) : (s.clearRange a b).heaters = s.heaters := rfl
@[simp] theorem State.clearRange_unlocked (s : State) (a b : Nat) : (s.clearRange a b).unlocked = s.unlocked := rfl
@[simp] theorem State.clearRange_suspended (s : State) (a b : Nat) : (s.clearRange a b).suspended = s.suspended := rfl
@[simp] theorem State.clearRange_lanes (s : State) (a b : Nat) : (s.clearRange a b).lanes = s.lanes := rfl
@[simp] theorem State.clearRange_links (s : State) (a b : Nat) : (s.clearRange a b).links = s.links := rfl
@[simp] theorem State.clearRange_iods (s : State) (a b : Nat) : (s.clearRange a b).iods = s.iods := rfl
@[simp] theorem State.clearRange_movers (s : State) (a b : Nat) : (s.clearRange a b).movers = s.movers := rfl
@[simp] theorem State.clearRange_boxes (s : State) (a b : Nat) : (s.clearRange a b).boxes = s.boxes := rfl
@[simp] theorem State.clearRange_checks (s : State) (a b : Nat) : (s.clearRange a b).checks = s.checks := rfl
@[simp] theorem State.clearRange_streams (s : State) (a b : Nat) : (s.clearRange a b).streams = s.streams := rfl
@[simp] theorem State.clearRange_waves (s : State) (a b : Nat) : (s.clearRange a b).waves = s.waves := rfl
@[simp] theorem State.clearRange_posts (s : State) (a b : Nat) : (s.clearRange a b).posts = s.posts := rfl
@[simp] theorem State.clearRange_plan (s : State) (a b : Nat) : (s.clearRange a b).plan = s.plan := rfl
@[simp] theorem State.clearRange_power (s : State) (a b : Nat) : (s.clearRange a b).power = s.power := rfl
@[simp] theorem State.clearRange_heat (s : State) (a b : Nat) : (s.clearRange a b).heat = s.heat := rfl
@[simp] theorem State.clearRange_keeper (s : State) (a b : Nat) : (s.clearRange a b).keeper = s.keeper := rfl
@[simp] theorem State.clearRange_units (s : State) (a b : Nat) : (s.clearRange a b).units = s.units := rfl
@[simp] theorem State.clearRange_update (s : State) (a b : Nat) : (s.clearRange a b).update = s.update := rfl
@[simp] theorem State.clearRange_compare (s : State) (a b : Nat) : (s.clearRange a b).compare = s.compare := rfl
@[simp] theorem State.clearRange_recovery (s : State) (a b : Nat) : (s.clearRange a b).recovery = s.recovery := rfl
@[simp] theorem State.clearRange_startup (s : State) (a b : Nat) : (s.clearRange a b).startup = s.startup := rfl
@[simp] theorem State.clearRange_store (s : State) (a b : Nat) : (s.clearRange a b).store = s.store := rfl
@[simp] theorem State.clearRange_ptp (s : State) (a b : Nat) : (s.clearRange a b).ptp = s.ptp := rfl
@[simp] theorem State.clearRange_pins (s : State) (a b : Nat) : (s.clearRange a b).pins = s.pins := rfl

/-! ### setTile -/

@[simp] theorem State.setTile_pending (s : State) (a b : Nat) (v : Tile) : (s.setTile a b v).pending = s.pending := rfl
@[simp] theorem State.setTile_time (s : State) (a b : Nat) (v : Tile) : (s.setTile a b v).time = s.time := rfl
@[simp] theorem State.setTile_freeCount (s : State) (a b : Nat) (v : Tile) : (s.setTile a b v).freeCount = s.freeCount := rfl
@[simp] theorem State.setTile_objs (s : State) (a b : Nat) (v : Tile) : (s.setTile a b v).objs = s.objs := rfl
@[simp] theorem State.setTile_wrote (s : State) (a b : Nat) (v : Tile) : (s.setTile a b v).wrote = s.wrote := rfl
@[simp] theorem State.setTile_shadow (s : State) (a b : Nat) (v : Tile) : (s.setTile a b v).shadow = s.shadow := rfl
@[simp] theorem State.setTile_commits (s : State) (a b : Nat) (v : Tile) : (s.setTile a b v).commits = s.commits := rfl
@[simp] theorem State.setTile_cmds (s : State) (a b : Nat) (v : Tile) : (s.setTile a b v).cmds = s.cmds := rfl
@[simp] theorem State.setTile_kept (s : State) (a b : Nat) (v : Tile) : (s.setTile a b v).kept = s.kept := rfl
@[simp] theorem State.setTile_sessions (s : State) (a b : Nat) (v : Tile) : (s.setTile a b v).sessions = s.sessions := rfl
@[simp] theorem State.setTile_badProofs (s : State) (a b : Nat) (v : Tile) : (s.setTile a b v).badProofs = s.badProofs := rfl
@[simp] theorem State.setTile_lockouts (s : State) (a b : Nat) (v : Tile) : (s.setTile a b v).lockouts = s.lockouts := rfl
@[simp] theorem State.setTile_log (s : State) (a b : Nat) (v : Tile) : (s.setTile a b v).log = s.log := rfl
@[simp] theorem State.setTile_out (s : State) (a b : Nat) (v : Tile) : (s.setTile a b v).out = s.out := rfl
@[simp] theorem State.setTile_mem (s : State) (a b : Nat) (v : Tile) : (s.setTile a b v).mem = s.mem := rfl
@[simp] theorem State.setTile_poison (s : State) (a b : Nat) (v : Tile) : (s.setTile a b v).poison = s.poison := rfl
@[simp] theorem State.setTile_sites (s : State) (a b : Nat) (v : Tile) : (s.setTile a b v).sites = s.sites := rfl
@[simp] theorem State.setTile_cols (s : State) (a b : Nat) (v : Tile) : (s.setTile a b v).cols = s.cols := rfl
@[simp] theorem State.setTile_layers (s : State) (a b : Nat) (v : Tile) : (s.setTile a b v).layers = s.layers := rfl
@[simp] theorem State.setTile_gates (s : State) (a b : Nat) (v : Tile) : (s.setTile a b v).gates = s.gates := rfl
@[simp] theorem State.setTile_markets (s : State) (a b : Nat) (v : Tile) : (s.setTile a b v).markets = s.markets := rfl
@[simp] theorem State.setTile_aCond (s : State) (a b : Nat) (v : Tile) : (s.setTile a b v).aCond = s.aCond := rfl
@[simp] theorem State.setTile_withdrawing (s : State) (a b : Nat) (v : Tile) : (s.setTile a b v).withdrawing = s.withdrawing := rfl
@[simp] theorem State.setTile_pathOk (s : State) (a b : Nat) (v : Tile) : (s.setTile a b v).pathOk = s.pathOk := rfl
@[simp] theorem State.setTile_stations (s : State) (a b : Nat) (v : Tile) : (s.setTile a b v).stations = s.stations := rfl
@[simp] theorem State.setTile_fields (s : State) (a b : Nat) (v : Tile) : (s.setTile a b v).fields = s.fields := rfl
@[simp] theorem State.setTile_lasers (s : State) (a b : Nat) (v : Tile) : (s.setTile a b v).lasers = s.lasers := rfl
@[simp] theorem State.setTile_light (s : State) (a b : Nat) (v : Tile) : (s.setTile a b v).light = s.light := rfl
@[simp] theorem State.setTile_carryWanted (s : State) (a b : Nat) (v : Tile) : (s.setTile a b v).carryWanted = s.carryWanted := rfl
@[simp] theorem State.setTile_cal (s : State) (a b : Nat) (v : Tile) : (s.setTile a b v).cal = s.cal := rfl
@[simp] theorem State.setTile_ramps (s : State) (a b : Nat) (v : Tile) : (s.setTile a b v).ramps = s.ramps := rfl
@[simp] theorem State.setTile_splits (s : State) (a b : Nat) (v : Tile) : (s.setTile a b v).splits = s.splits := rfl
@[simp] theorem State.setTile_urgent (s : State) (a b : Nat) (v : Tile) : (s.setTile a b v).urgent = s.urgent := rfl
@[simp] theorem State.setTile_shaken (s : State) (a b : Nat) (v : Tile) : (s.setTile a b v).shaken = s.shaken := rfl
@[simp] theorem State.setTile_calAt (s : State) (a b : Nat) (v : Tile) : (s.setTile a b v).calAt = s.calAt := rfl
@[simp] theorem State.setTile_ringBase (s : State) (a b : Nat) (v : Tile) : (s.setTile a b v).ringBase = s.ringBase := rfl
@[simp] theorem State.setTile_clockLost (s : State) (a b : Nat) (v : Tile) : (s.setTile a b v).clockLost = s.clockLost := rfl
@[simp] theorem State.setTile_pma (s : State) (a b : Nat) (v : Tile) : (s.setTile a b v).pma = s.pma := rfl
@[simp] theorem State.setTile_calEv (s : State) (a b : Nat) (v : Tile) : (s.setTile a b v).calEv = s.calEv := rfl
@[simp] theorem State.setTile_heaters (s : State) (a b : Nat) (v : Tile) : (s.setTile a b v).heaters = s.heaters := rfl
@[simp] theorem State.setTile_unlocked (s : State) (a b : Nat) (v : Tile) : (s.setTile a b v).unlocked = s.unlocked := rfl
@[simp] theorem State.setTile_suspended (s : State) (a b : Nat) (v : Tile) : (s.setTile a b v).suspended = s.suspended := rfl
@[simp] theorem State.setTile_lanes (s : State) (a b : Nat) (v : Tile) : (s.setTile a b v).lanes = s.lanes := rfl
@[simp] theorem State.setTile_links (s : State) (a b : Nat) (v : Tile) : (s.setTile a b v).links = s.links := rfl
@[simp] theorem State.setTile_iods (s : State) (a b : Nat) (v : Tile) : (s.setTile a b v).iods = s.iods := rfl
@[simp] theorem State.setTile_movers (s : State) (a b : Nat) (v : Tile) : (s.setTile a b v).movers = s.movers := rfl
@[simp] theorem State.setTile_boxes (s : State) (a b : Nat) (v : Tile) : (s.setTile a b v).boxes = s.boxes := rfl
@[simp] theorem State.setTile_checks (s : State) (a b : Nat) (v : Tile) : (s.setTile a b v).checks = s.checks := rfl
@[simp] theorem State.setTile_streams (s : State) (a b : Nat) (v : Tile) : (s.setTile a b v).streams = s.streams := rfl
@[simp] theorem State.setTile_waves (s : State) (a b : Nat) (v : Tile) : (s.setTile a b v).waves = s.waves := rfl
@[simp] theorem State.setTile_posts (s : State) (a b : Nat) (v : Tile) : (s.setTile a b v).posts = s.posts := rfl
@[simp] theorem State.setTile_plan (s : State) (a b : Nat) (v : Tile) : (s.setTile a b v).plan = s.plan := rfl
@[simp] theorem State.setTile_power (s : State) (a b : Nat) (v : Tile) : (s.setTile a b v).power = s.power := rfl
@[simp] theorem State.setTile_heat (s : State) (a b : Nat) (v : Tile) : (s.setTile a b v).heat = s.heat := rfl
@[simp] theorem State.setTile_keeper (s : State) (a b : Nat) (v : Tile) : (s.setTile a b v).keeper = s.keeper := rfl
@[simp] theorem State.setTile_units (s : State) (a b : Nat) (v : Tile) : (s.setTile a b v).units = s.units := rfl
@[simp] theorem State.setTile_update (s : State) (a b : Nat) (v : Tile) : (s.setTile a b v).update = s.update := rfl
@[simp] theorem State.setTile_compare (s : State) (a b : Nat) (v : Tile) : (s.setTile a b v).compare = s.compare := rfl
@[simp] theorem State.setTile_recovery (s : State) (a b : Nat) (v : Tile) : (s.setTile a b v).recovery = s.recovery := rfl
@[simp] theorem State.setTile_startup (s : State) (a b : Nat) (v : Tile) : (s.setTile a b v).startup = s.startup := rfl
@[simp] theorem State.setTile_store (s : State) (a b : Nat) (v : Tile) : (s.setTile a b v).store = s.store := rfl
@[simp] theorem State.setTile_ptp (s : State) (a b : Nat) (v : Tile) : (s.setTile a b v).ptp = s.ptp := rfl
@[simp] theorem State.setTile_pins (s : State) (a b : Nat) (v : Tile) : (s.setTile a b v).pins = s.pins := rfl

/-! ### setSite -/

@[simp] theorem State.setSite_pending (s : State) (a : Nat) (v : Site) : (s.setSite a v).pending = s.pending := rfl
@[simp] theorem State.setSite_time (s : State) (a : Nat) (v : Site) : (s.setSite a v).time = s.time := rfl
@[simp] theorem State.setSite_freeCount (s : State) (a : Nat) (v : Site) : (s.setSite a v).freeCount = s.freeCount := rfl
@[simp] theorem State.setSite_objs (s : State) (a : Nat) (v : Site) : (s.setSite a v).objs = s.objs := rfl
@[simp] theorem State.setSite_wrote (s : State) (a : Nat) (v : Site) : (s.setSite a v).wrote = s.wrote := rfl
@[simp] theorem State.setSite_shadow (s : State) (a : Nat) (v : Site) : (s.setSite a v).shadow = s.shadow := rfl
@[simp] theorem State.setSite_commits (s : State) (a : Nat) (v : Site) : (s.setSite a v).commits = s.commits := rfl
@[simp] theorem State.setSite_cmds (s : State) (a : Nat) (v : Site) : (s.setSite a v).cmds = s.cmds := rfl
@[simp] theorem State.setSite_kept (s : State) (a : Nat) (v : Site) : (s.setSite a v).kept = s.kept := rfl
@[simp] theorem State.setSite_sessions (s : State) (a : Nat) (v : Site) : (s.setSite a v).sessions = s.sessions := rfl
@[simp] theorem State.setSite_badProofs (s : State) (a : Nat) (v : Site) : (s.setSite a v).badProofs = s.badProofs := rfl
@[simp] theorem State.setSite_lockouts (s : State) (a : Nat) (v : Site) : (s.setSite a v).lockouts = s.lockouts := rfl
@[simp] theorem State.setSite_log (s : State) (a : Nat) (v : Site) : (s.setSite a v).log = s.log := rfl
@[simp] theorem State.setSite_out (s : State) (a : Nat) (v : Site) : (s.setSite a v).out = s.out := rfl
@[simp] theorem State.setSite_mem (s : State) (a : Nat) (v : Site) : (s.setSite a v).mem = s.mem := rfl
@[simp] theorem State.setSite_poison (s : State) (a : Nat) (v : Site) : (s.setSite a v).poison = s.poison := rfl
@[simp] theorem State.setSite_tiles (s : State) (a : Nat) (v : Site) : (s.setSite a v).tiles = s.tiles := rfl
@[simp] theorem State.setSite_cols (s : State) (a : Nat) (v : Site) : (s.setSite a v).cols = s.cols := rfl
@[simp] theorem State.setSite_layers (s : State) (a : Nat) (v : Site) : (s.setSite a v).layers = s.layers := rfl
@[simp] theorem State.setSite_gates (s : State) (a : Nat) (v : Site) : (s.setSite a v).gates = s.gates := rfl
@[simp] theorem State.setSite_markets (s : State) (a : Nat) (v : Site) : (s.setSite a v).markets = s.markets := rfl
@[simp] theorem State.setSite_aCond (s : State) (a : Nat) (v : Site) : (s.setSite a v).aCond = s.aCond := rfl
@[simp] theorem State.setSite_withdrawing (s : State) (a : Nat) (v : Site) : (s.setSite a v).withdrawing = s.withdrawing := rfl
@[simp] theorem State.setSite_pathOk (s : State) (a : Nat) (v : Site) : (s.setSite a v).pathOk = s.pathOk := rfl
@[simp] theorem State.setSite_stations (s : State) (a : Nat) (v : Site) : (s.setSite a v).stations = s.stations := rfl
@[simp] theorem State.setSite_fields (s : State) (a : Nat) (v : Site) : (s.setSite a v).fields = s.fields := rfl
@[simp] theorem State.setSite_lasers (s : State) (a : Nat) (v : Site) : (s.setSite a v).lasers = s.lasers := rfl
@[simp] theorem State.setSite_light (s : State) (a : Nat) (v : Site) : (s.setSite a v).light = s.light := rfl
@[simp] theorem State.setSite_carryWanted (s : State) (a : Nat) (v : Site) : (s.setSite a v).carryWanted = s.carryWanted := rfl
@[simp] theorem State.setSite_cal (s : State) (a : Nat) (v : Site) : (s.setSite a v).cal = s.cal := rfl
@[simp] theorem State.setSite_ramps (s : State) (a : Nat) (v : Site) : (s.setSite a v).ramps = s.ramps := rfl
@[simp] theorem State.setSite_splits (s : State) (a : Nat) (v : Site) : (s.setSite a v).splits = s.splits := rfl
@[simp] theorem State.setSite_urgent (s : State) (a : Nat) (v : Site) : (s.setSite a v).urgent = s.urgent := rfl
@[simp] theorem State.setSite_shaken (s : State) (a : Nat) (v : Site) : (s.setSite a v).shaken = s.shaken := rfl
@[simp] theorem State.setSite_calAt (s : State) (a : Nat) (v : Site) : (s.setSite a v).calAt = s.calAt := rfl
@[simp] theorem State.setSite_ringBase (s : State) (a : Nat) (v : Site) : (s.setSite a v).ringBase = s.ringBase := rfl
@[simp] theorem State.setSite_clockLost (s : State) (a : Nat) (v : Site) : (s.setSite a v).clockLost = s.clockLost := rfl
@[simp] theorem State.setSite_pma (s : State) (a : Nat) (v : Site) : (s.setSite a v).pma = s.pma := rfl
@[simp] theorem State.setSite_calEv (s : State) (a : Nat) (v : Site) : (s.setSite a v).calEv = s.calEv := rfl
@[simp] theorem State.setSite_heaters (s : State) (a : Nat) (v : Site) : (s.setSite a v).heaters = s.heaters := rfl
@[simp] theorem State.setSite_unlocked (s : State) (a : Nat) (v : Site) : (s.setSite a v).unlocked = s.unlocked := rfl
@[simp] theorem State.setSite_suspended (s : State) (a : Nat) (v : Site) : (s.setSite a v).suspended = s.suspended := rfl
@[simp] theorem State.setSite_lanes (s : State) (a : Nat) (v : Site) : (s.setSite a v).lanes = s.lanes := rfl
@[simp] theorem State.setSite_links (s : State) (a : Nat) (v : Site) : (s.setSite a v).links = s.links := rfl
@[simp] theorem State.setSite_iods (s : State) (a : Nat) (v : Site) : (s.setSite a v).iods = s.iods := rfl
@[simp] theorem State.setSite_movers (s : State) (a : Nat) (v : Site) : (s.setSite a v).movers = s.movers := rfl
@[simp] theorem State.setSite_boxes (s : State) (a : Nat) (v : Site) : (s.setSite a v).boxes = s.boxes := rfl
@[simp] theorem State.setSite_checks (s : State) (a : Nat) (v : Site) : (s.setSite a v).checks = s.checks := rfl
@[simp] theorem State.setSite_streams (s : State) (a : Nat) (v : Site) : (s.setSite a v).streams = s.streams := rfl
@[simp] theorem State.setSite_waves (s : State) (a : Nat) (v : Site) : (s.setSite a v).waves = s.waves := rfl
@[simp] theorem State.setSite_posts (s : State) (a : Nat) (v : Site) : (s.setSite a v).posts = s.posts := rfl
@[simp] theorem State.setSite_plan (s : State) (a : Nat) (v : Site) : (s.setSite a v).plan = s.plan := rfl
@[simp] theorem State.setSite_power (s : State) (a : Nat) (v : Site) : (s.setSite a v).power = s.power := rfl
@[simp] theorem State.setSite_heat (s : State) (a : Nat) (v : Site) : (s.setSite a v).heat = s.heat := rfl
@[simp] theorem State.setSite_keeper (s : State) (a : Nat) (v : Site) : (s.setSite a v).keeper = s.keeper := rfl
@[simp] theorem State.setSite_units (s : State) (a : Nat) (v : Site) : (s.setSite a v).units = s.units := rfl
@[simp] theorem State.setSite_update (s : State) (a : Nat) (v : Site) : (s.setSite a v).update = s.update := rfl
@[simp] theorem State.setSite_compare (s : State) (a : Nat) (v : Site) : (s.setSite a v).compare = s.compare := rfl
@[simp] theorem State.setSite_recovery (s : State) (a : Nat) (v : Site) : (s.setSite a v).recovery = s.recovery := rfl
@[simp] theorem State.setSite_startup (s : State) (a : Nat) (v : Site) : (s.setSite a v).startup = s.startup := rfl
@[simp] theorem State.setSite_store (s : State) (a : Nat) (v : Site) : (s.setSite a v).store = s.store := rfl
@[simp] theorem State.setSite_ptp (s : State) (a : Nat) (v : Site) : (s.setSite a v).ptp = s.ptp := rfl
@[simp] theorem State.setSite_pins (s : State) (a : Nat) (v : Site) : (s.setSite a v).pins = s.pins := rfl

/-! ### setCol -/

@[simp] theorem State.setCol_pending (s : State) (a b : Nat) (v : VaultCol) : (s.setCol a b v).pending = s.pending := rfl
@[simp] theorem State.setCol_time (s : State) (a b : Nat) (v : VaultCol) : (s.setCol a b v).time = s.time := rfl
@[simp] theorem State.setCol_freeCount (s : State) (a b : Nat) (v : VaultCol) : (s.setCol a b v).freeCount = s.freeCount := rfl
@[simp] theorem State.setCol_objs (s : State) (a b : Nat) (v : VaultCol) : (s.setCol a b v).objs = s.objs := rfl
@[simp] theorem State.setCol_wrote (s : State) (a b : Nat) (v : VaultCol) : (s.setCol a b v).wrote = s.wrote := rfl
@[simp] theorem State.setCol_shadow (s : State) (a b : Nat) (v : VaultCol) : (s.setCol a b v).shadow = s.shadow := rfl
@[simp] theorem State.setCol_commits (s : State) (a b : Nat) (v : VaultCol) : (s.setCol a b v).commits = s.commits := rfl
@[simp] theorem State.setCol_cmds (s : State) (a b : Nat) (v : VaultCol) : (s.setCol a b v).cmds = s.cmds := rfl
@[simp] theorem State.setCol_kept (s : State) (a b : Nat) (v : VaultCol) : (s.setCol a b v).kept = s.kept := rfl
@[simp] theorem State.setCol_sessions (s : State) (a b : Nat) (v : VaultCol) : (s.setCol a b v).sessions = s.sessions := rfl
@[simp] theorem State.setCol_badProofs (s : State) (a b : Nat) (v : VaultCol) : (s.setCol a b v).badProofs = s.badProofs := rfl
@[simp] theorem State.setCol_lockouts (s : State) (a b : Nat) (v : VaultCol) : (s.setCol a b v).lockouts = s.lockouts := rfl
@[simp] theorem State.setCol_log (s : State) (a b : Nat) (v : VaultCol) : (s.setCol a b v).log = s.log := rfl
@[simp] theorem State.setCol_out (s : State) (a b : Nat) (v : VaultCol) : (s.setCol a b v).out = s.out := rfl
@[simp] theorem State.setCol_mem (s : State) (a b : Nat) (v : VaultCol) : (s.setCol a b v).mem = s.mem := rfl
@[simp] theorem State.setCol_poison (s : State) (a b : Nat) (v : VaultCol) : (s.setCol a b v).poison = s.poison := rfl
@[simp] theorem State.setCol_tiles (s : State) (a b : Nat) (v : VaultCol) : (s.setCol a b v).tiles = s.tiles := rfl
@[simp] theorem State.setCol_sites (s : State) (a b : Nat) (v : VaultCol) : (s.setCol a b v).sites = s.sites := rfl
@[simp] theorem State.setCol_layers (s : State) (a b : Nat) (v : VaultCol) : (s.setCol a b v).layers = s.layers := rfl
@[simp] theorem State.setCol_gates (s : State) (a b : Nat) (v : VaultCol) : (s.setCol a b v).gates = s.gates := rfl
@[simp] theorem State.setCol_markets (s : State) (a b : Nat) (v : VaultCol) : (s.setCol a b v).markets = s.markets := rfl
@[simp] theorem State.setCol_aCond (s : State) (a b : Nat) (v : VaultCol) : (s.setCol a b v).aCond = s.aCond := rfl
@[simp] theorem State.setCol_withdrawing (s : State) (a b : Nat) (v : VaultCol) : (s.setCol a b v).withdrawing = s.withdrawing := rfl
@[simp] theorem State.setCol_pathOk (s : State) (a b : Nat) (v : VaultCol) : (s.setCol a b v).pathOk = s.pathOk := rfl
@[simp] theorem State.setCol_stations (s : State) (a b : Nat) (v : VaultCol) : (s.setCol a b v).stations = s.stations := rfl
@[simp] theorem State.setCol_fields (s : State) (a b : Nat) (v : VaultCol) : (s.setCol a b v).fields = s.fields := rfl
@[simp] theorem State.setCol_lasers (s : State) (a b : Nat) (v : VaultCol) : (s.setCol a b v).lasers = s.lasers := rfl
@[simp] theorem State.setCol_light (s : State) (a b : Nat) (v : VaultCol) : (s.setCol a b v).light = s.light := rfl
@[simp] theorem State.setCol_carryWanted (s : State) (a b : Nat) (v : VaultCol) : (s.setCol a b v).carryWanted = s.carryWanted := rfl
@[simp] theorem State.setCol_cal (s : State) (a b : Nat) (v : VaultCol) : (s.setCol a b v).cal = s.cal := rfl
@[simp] theorem State.setCol_ramps (s : State) (a b : Nat) (v : VaultCol) : (s.setCol a b v).ramps = s.ramps := rfl
@[simp] theorem State.setCol_splits (s : State) (a b : Nat) (v : VaultCol) : (s.setCol a b v).splits = s.splits := rfl
@[simp] theorem State.setCol_urgent (s : State) (a b : Nat) (v : VaultCol) : (s.setCol a b v).urgent = s.urgent := rfl
@[simp] theorem State.setCol_shaken (s : State) (a b : Nat) (v : VaultCol) : (s.setCol a b v).shaken = s.shaken := rfl
@[simp] theorem State.setCol_calAt (s : State) (a b : Nat) (v : VaultCol) : (s.setCol a b v).calAt = s.calAt := rfl
@[simp] theorem State.setCol_ringBase (s : State) (a b : Nat) (v : VaultCol) : (s.setCol a b v).ringBase = s.ringBase := rfl
@[simp] theorem State.setCol_clockLost (s : State) (a b : Nat) (v : VaultCol) : (s.setCol a b v).clockLost = s.clockLost := rfl
@[simp] theorem State.setCol_pma (s : State) (a b : Nat) (v : VaultCol) : (s.setCol a b v).pma = s.pma := rfl
@[simp] theorem State.setCol_calEv (s : State) (a b : Nat) (v : VaultCol) : (s.setCol a b v).calEv = s.calEv := rfl
@[simp] theorem State.setCol_heaters (s : State) (a b : Nat) (v : VaultCol) : (s.setCol a b v).heaters = s.heaters := rfl
@[simp] theorem State.setCol_unlocked (s : State) (a b : Nat) (v : VaultCol) : (s.setCol a b v).unlocked = s.unlocked := rfl
@[simp] theorem State.setCol_suspended (s : State) (a b : Nat) (v : VaultCol) : (s.setCol a b v).suspended = s.suspended := rfl
@[simp] theorem State.setCol_lanes (s : State) (a b : Nat) (v : VaultCol) : (s.setCol a b v).lanes = s.lanes := rfl
@[simp] theorem State.setCol_links (s : State) (a b : Nat) (v : VaultCol) : (s.setCol a b v).links = s.links := rfl
@[simp] theorem State.setCol_iods (s : State) (a b : Nat) (v : VaultCol) : (s.setCol a b v).iods = s.iods := rfl
@[simp] theorem State.setCol_movers (s : State) (a b : Nat) (v : VaultCol) : (s.setCol a b v).movers = s.movers := rfl
@[simp] theorem State.setCol_boxes (s : State) (a b : Nat) (v : VaultCol) : (s.setCol a b v).boxes = s.boxes := rfl
@[simp] theorem State.setCol_checks (s : State) (a b : Nat) (v : VaultCol) : (s.setCol a b v).checks = s.checks := rfl
@[simp] theorem State.setCol_streams (s : State) (a b : Nat) (v : VaultCol) : (s.setCol a b v).streams = s.streams := rfl
@[simp] theorem State.setCol_waves (s : State) (a b : Nat) (v : VaultCol) : (s.setCol a b v).waves = s.waves := rfl
@[simp] theorem State.setCol_posts (s : State) (a b : Nat) (v : VaultCol) : (s.setCol a b v).posts = s.posts := rfl
@[simp] theorem State.setCol_plan (s : State) (a b : Nat) (v : VaultCol) : (s.setCol a b v).plan = s.plan := rfl
@[simp] theorem State.setCol_power (s : State) (a b : Nat) (v : VaultCol) : (s.setCol a b v).power = s.power := rfl
@[simp] theorem State.setCol_heat (s : State) (a b : Nat) (v : VaultCol) : (s.setCol a b v).heat = s.heat := rfl
@[simp] theorem State.setCol_keeper (s : State) (a b : Nat) (v : VaultCol) : (s.setCol a b v).keeper = s.keeper := rfl
@[simp] theorem State.setCol_units (s : State) (a b : Nat) (v : VaultCol) : (s.setCol a b v).units = s.units := rfl
@[simp] theorem State.setCol_update (s : State) (a b : Nat) (v : VaultCol) : (s.setCol a b v).update = s.update := rfl
@[simp] theorem State.setCol_compare (s : State) (a b : Nat) (v : VaultCol) : (s.setCol a b v).compare = s.compare := rfl
@[simp] theorem State.setCol_recovery (s : State) (a b : Nat) (v : VaultCol) : (s.setCol a b v).recovery = s.recovery := rfl
@[simp] theorem State.setCol_startup (s : State) (a b : Nat) (v : VaultCol) : (s.setCol a b v).startup = s.startup := rfl
@[simp] theorem State.setCol_store (s : State) (a b : Nat) (v : VaultCol) : (s.setCol a b v).store = s.store := rfl
@[simp] theorem State.setCol_ptp (s : State) (a b : Nat) (v : VaultCol) : (s.setCol a b v).ptp = s.ptp := rfl
@[simp] theorem State.setCol_pins (s : State) (a b : Nat) (v : VaultCol) : (s.setCol a b v).pins = s.pins := rfl

/-! ### setLayer -/

@[simp] theorem State.setLayer_pending (s : State) (a b : Nat) (v : Layer) : (s.setLayer a b v).pending = s.pending := rfl
@[simp] theorem State.setLayer_time (s : State) (a b : Nat) (v : Layer) : (s.setLayer a b v).time = s.time := rfl
@[simp] theorem State.setLayer_freeCount (s : State) (a b : Nat) (v : Layer) : (s.setLayer a b v).freeCount = s.freeCount := rfl
@[simp] theorem State.setLayer_objs (s : State) (a b : Nat) (v : Layer) : (s.setLayer a b v).objs = s.objs := rfl
@[simp] theorem State.setLayer_wrote (s : State) (a b : Nat) (v : Layer) : (s.setLayer a b v).wrote = s.wrote := rfl
@[simp] theorem State.setLayer_shadow (s : State) (a b : Nat) (v : Layer) : (s.setLayer a b v).shadow = s.shadow := rfl
@[simp] theorem State.setLayer_commits (s : State) (a b : Nat) (v : Layer) : (s.setLayer a b v).commits = s.commits := rfl
@[simp] theorem State.setLayer_cmds (s : State) (a b : Nat) (v : Layer) : (s.setLayer a b v).cmds = s.cmds := rfl
@[simp] theorem State.setLayer_kept (s : State) (a b : Nat) (v : Layer) : (s.setLayer a b v).kept = s.kept := rfl
@[simp] theorem State.setLayer_sessions (s : State) (a b : Nat) (v : Layer) : (s.setLayer a b v).sessions = s.sessions := rfl
@[simp] theorem State.setLayer_badProofs (s : State) (a b : Nat) (v : Layer) : (s.setLayer a b v).badProofs = s.badProofs := rfl
@[simp] theorem State.setLayer_lockouts (s : State) (a b : Nat) (v : Layer) : (s.setLayer a b v).lockouts = s.lockouts := rfl
@[simp] theorem State.setLayer_log (s : State) (a b : Nat) (v : Layer) : (s.setLayer a b v).log = s.log := rfl
@[simp] theorem State.setLayer_out (s : State) (a b : Nat) (v : Layer) : (s.setLayer a b v).out = s.out := rfl
@[simp] theorem State.setLayer_mem (s : State) (a b : Nat) (v : Layer) : (s.setLayer a b v).mem = s.mem := rfl
@[simp] theorem State.setLayer_poison (s : State) (a b : Nat) (v : Layer) : (s.setLayer a b v).poison = s.poison := rfl
@[simp] theorem State.setLayer_tiles (s : State) (a b : Nat) (v : Layer) : (s.setLayer a b v).tiles = s.tiles := rfl
@[simp] theorem State.setLayer_sites (s : State) (a b : Nat) (v : Layer) : (s.setLayer a b v).sites = s.sites := rfl
@[simp] theorem State.setLayer_cols (s : State) (a b : Nat) (v : Layer) : (s.setLayer a b v).cols = s.cols := rfl
@[simp] theorem State.setLayer_gates (s : State) (a b : Nat) (v : Layer) : (s.setLayer a b v).gates = s.gates := rfl
@[simp] theorem State.setLayer_markets (s : State) (a b : Nat) (v : Layer) : (s.setLayer a b v).markets = s.markets := rfl
@[simp] theorem State.setLayer_aCond (s : State) (a b : Nat) (v : Layer) : (s.setLayer a b v).aCond = s.aCond := rfl
@[simp] theorem State.setLayer_withdrawing (s : State) (a b : Nat) (v : Layer) : (s.setLayer a b v).withdrawing = s.withdrawing := rfl
@[simp] theorem State.setLayer_pathOk (s : State) (a b : Nat) (v : Layer) : (s.setLayer a b v).pathOk = s.pathOk := rfl
@[simp] theorem State.setLayer_stations (s : State) (a b : Nat) (v : Layer) : (s.setLayer a b v).stations = s.stations := rfl
@[simp] theorem State.setLayer_fields (s : State) (a b : Nat) (v : Layer) : (s.setLayer a b v).fields = s.fields := rfl
@[simp] theorem State.setLayer_lasers (s : State) (a b : Nat) (v : Layer) : (s.setLayer a b v).lasers = s.lasers := rfl
@[simp] theorem State.setLayer_light (s : State) (a b : Nat) (v : Layer) : (s.setLayer a b v).light = s.light := rfl
@[simp] theorem State.setLayer_carryWanted (s : State) (a b : Nat) (v : Layer) : (s.setLayer a b v).carryWanted = s.carryWanted := rfl
@[simp] theorem State.setLayer_cal (s : State) (a b : Nat) (v : Layer) : (s.setLayer a b v).cal = s.cal := rfl
@[simp] theorem State.setLayer_ramps (s : State) (a b : Nat) (v : Layer) : (s.setLayer a b v).ramps = s.ramps := rfl
@[simp] theorem State.setLayer_splits (s : State) (a b : Nat) (v : Layer) : (s.setLayer a b v).splits = s.splits := rfl
@[simp] theorem State.setLayer_urgent (s : State) (a b : Nat) (v : Layer) : (s.setLayer a b v).urgent = s.urgent := rfl
@[simp] theorem State.setLayer_shaken (s : State) (a b : Nat) (v : Layer) : (s.setLayer a b v).shaken = s.shaken := rfl
@[simp] theorem State.setLayer_calAt (s : State) (a b : Nat) (v : Layer) : (s.setLayer a b v).calAt = s.calAt := rfl
@[simp] theorem State.setLayer_ringBase (s : State) (a b : Nat) (v : Layer) : (s.setLayer a b v).ringBase = s.ringBase := rfl
@[simp] theorem State.setLayer_clockLost (s : State) (a b : Nat) (v : Layer) : (s.setLayer a b v).clockLost = s.clockLost := rfl
@[simp] theorem State.setLayer_pma (s : State) (a b : Nat) (v : Layer) : (s.setLayer a b v).pma = s.pma := rfl
@[simp] theorem State.setLayer_calEv (s : State) (a b : Nat) (v : Layer) : (s.setLayer a b v).calEv = s.calEv := rfl
@[simp] theorem State.setLayer_heaters (s : State) (a b : Nat) (v : Layer) : (s.setLayer a b v).heaters = s.heaters := rfl
@[simp] theorem State.setLayer_unlocked (s : State) (a b : Nat) (v : Layer) : (s.setLayer a b v).unlocked = s.unlocked := rfl
@[simp] theorem State.setLayer_suspended (s : State) (a b : Nat) (v : Layer) : (s.setLayer a b v).suspended = s.suspended := rfl
@[simp] theorem State.setLayer_lanes (s : State) (a b : Nat) (v : Layer) : (s.setLayer a b v).lanes = s.lanes := rfl
@[simp] theorem State.setLayer_links (s : State) (a b : Nat) (v : Layer) : (s.setLayer a b v).links = s.links := rfl
@[simp] theorem State.setLayer_iods (s : State) (a b : Nat) (v : Layer) : (s.setLayer a b v).iods = s.iods := rfl
@[simp] theorem State.setLayer_movers (s : State) (a b : Nat) (v : Layer) : (s.setLayer a b v).movers = s.movers := rfl
@[simp] theorem State.setLayer_boxes (s : State) (a b : Nat) (v : Layer) : (s.setLayer a b v).boxes = s.boxes := rfl
@[simp] theorem State.setLayer_checks (s : State) (a b : Nat) (v : Layer) : (s.setLayer a b v).checks = s.checks := rfl
@[simp] theorem State.setLayer_streams (s : State) (a b : Nat) (v : Layer) : (s.setLayer a b v).streams = s.streams := rfl
@[simp] theorem State.setLayer_waves (s : State) (a b : Nat) (v : Layer) : (s.setLayer a b v).waves = s.waves := rfl
@[simp] theorem State.setLayer_posts (s : State) (a b : Nat) (v : Layer) : (s.setLayer a b v).posts = s.posts := rfl
@[simp] theorem State.setLayer_plan (s : State) (a b : Nat) (v : Layer) : (s.setLayer a b v).plan = s.plan := rfl
@[simp] theorem State.setLayer_power (s : State) (a b : Nat) (v : Layer) : (s.setLayer a b v).power = s.power := rfl
@[simp] theorem State.setLayer_heat (s : State) (a b : Nat) (v : Layer) : (s.setLayer a b v).heat = s.heat := rfl
@[simp] theorem State.setLayer_keeper (s : State) (a b : Nat) (v : Layer) : (s.setLayer a b v).keeper = s.keeper := rfl
@[simp] theorem State.setLayer_units (s : State) (a b : Nat) (v : Layer) : (s.setLayer a b v).units = s.units := rfl
@[simp] theorem State.setLayer_update (s : State) (a b : Nat) (v : Layer) : (s.setLayer a b v).update = s.update := rfl
@[simp] theorem State.setLayer_compare (s : State) (a b : Nat) (v : Layer) : (s.setLayer a b v).compare = s.compare := rfl
@[simp] theorem State.setLayer_recovery (s : State) (a b : Nat) (v : Layer) : (s.setLayer a b v).recovery = s.recovery := rfl
@[simp] theorem State.setLayer_startup (s : State) (a b : Nat) (v : Layer) : (s.setLayer a b v).startup = s.startup := rfl
@[simp] theorem State.setLayer_store (s : State) (a b : Nat) (v : Layer) : (s.setLayer a b v).store = s.store := rfl
@[simp] theorem State.setLayer_ptp (s : State) (a b : Nat) (v : Layer) : (s.setLayer a b v).ptp = s.ptp := rfl
@[simp] theorem State.setLayer_pins (s : State) (a b : Nat) (v : Layer) : (s.setLayer a b v).pins = s.pins := rfl

/-! ### setGate -/

@[simp] theorem State.setGate_pending (s : State) (a b : Nat) (v : Gate) : (s.setGate a b v).pending = s.pending := rfl
@[simp] theorem State.setGate_time (s : State) (a b : Nat) (v : Gate) : (s.setGate a b v).time = s.time := rfl
@[simp] theorem State.setGate_freeCount (s : State) (a b : Nat) (v : Gate) : (s.setGate a b v).freeCount = s.freeCount := rfl
@[simp] theorem State.setGate_objs (s : State) (a b : Nat) (v : Gate) : (s.setGate a b v).objs = s.objs := rfl
@[simp] theorem State.setGate_wrote (s : State) (a b : Nat) (v : Gate) : (s.setGate a b v).wrote = s.wrote := rfl
@[simp] theorem State.setGate_shadow (s : State) (a b : Nat) (v : Gate) : (s.setGate a b v).shadow = s.shadow := rfl
@[simp] theorem State.setGate_commits (s : State) (a b : Nat) (v : Gate) : (s.setGate a b v).commits = s.commits := rfl
@[simp] theorem State.setGate_cmds (s : State) (a b : Nat) (v : Gate) : (s.setGate a b v).cmds = s.cmds := rfl
@[simp] theorem State.setGate_kept (s : State) (a b : Nat) (v : Gate) : (s.setGate a b v).kept = s.kept := rfl
@[simp] theorem State.setGate_sessions (s : State) (a b : Nat) (v : Gate) : (s.setGate a b v).sessions = s.sessions := rfl
@[simp] theorem State.setGate_badProofs (s : State) (a b : Nat) (v : Gate) : (s.setGate a b v).badProofs = s.badProofs := rfl
@[simp] theorem State.setGate_lockouts (s : State) (a b : Nat) (v : Gate) : (s.setGate a b v).lockouts = s.lockouts := rfl
@[simp] theorem State.setGate_log (s : State) (a b : Nat) (v : Gate) : (s.setGate a b v).log = s.log := rfl
@[simp] theorem State.setGate_out (s : State) (a b : Nat) (v : Gate) : (s.setGate a b v).out = s.out := rfl
@[simp] theorem State.setGate_mem (s : State) (a b : Nat) (v : Gate) : (s.setGate a b v).mem = s.mem := rfl
@[simp] theorem State.setGate_poison (s : State) (a b : Nat) (v : Gate) : (s.setGate a b v).poison = s.poison := rfl
@[simp] theorem State.setGate_tiles (s : State) (a b : Nat) (v : Gate) : (s.setGate a b v).tiles = s.tiles := rfl
@[simp] theorem State.setGate_sites (s : State) (a b : Nat) (v : Gate) : (s.setGate a b v).sites = s.sites := rfl
@[simp] theorem State.setGate_cols (s : State) (a b : Nat) (v : Gate) : (s.setGate a b v).cols = s.cols := rfl
@[simp] theorem State.setGate_layers (s : State) (a b : Nat) (v : Gate) : (s.setGate a b v).layers = s.layers := rfl
@[simp] theorem State.setGate_markets (s : State) (a b : Nat) (v : Gate) : (s.setGate a b v).markets = s.markets := rfl
@[simp] theorem State.setGate_aCond (s : State) (a b : Nat) (v : Gate) : (s.setGate a b v).aCond = s.aCond := rfl
@[simp] theorem State.setGate_withdrawing (s : State) (a b : Nat) (v : Gate) : (s.setGate a b v).withdrawing = s.withdrawing := rfl
@[simp] theorem State.setGate_pathOk (s : State) (a b : Nat) (v : Gate) : (s.setGate a b v).pathOk = s.pathOk := rfl
@[simp] theorem State.setGate_stations (s : State) (a b : Nat) (v : Gate) : (s.setGate a b v).stations = s.stations := rfl
@[simp] theorem State.setGate_fields (s : State) (a b : Nat) (v : Gate) : (s.setGate a b v).fields = s.fields := rfl
@[simp] theorem State.setGate_lasers (s : State) (a b : Nat) (v : Gate) : (s.setGate a b v).lasers = s.lasers := rfl
@[simp] theorem State.setGate_light (s : State) (a b : Nat) (v : Gate) : (s.setGate a b v).light = s.light := rfl
@[simp] theorem State.setGate_carryWanted (s : State) (a b : Nat) (v : Gate) : (s.setGate a b v).carryWanted = s.carryWanted := rfl
@[simp] theorem State.setGate_cal (s : State) (a b : Nat) (v : Gate) : (s.setGate a b v).cal = s.cal := rfl
@[simp] theorem State.setGate_ramps (s : State) (a b : Nat) (v : Gate) : (s.setGate a b v).ramps = s.ramps := rfl
@[simp] theorem State.setGate_splits (s : State) (a b : Nat) (v : Gate) : (s.setGate a b v).splits = s.splits := rfl
@[simp] theorem State.setGate_urgent (s : State) (a b : Nat) (v : Gate) : (s.setGate a b v).urgent = s.urgent := rfl
@[simp] theorem State.setGate_shaken (s : State) (a b : Nat) (v : Gate) : (s.setGate a b v).shaken = s.shaken := rfl
@[simp] theorem State.setGate_calAt (s : State) (a b : Nat) (v : Gate) : (s.setGate a b v).calAt = s.calAt := rfl
@[simp] theorem State.setGate_ringBase (s : State) (a b : Nat) (v : Gate) : (s.setGate a b v).ringBase = s.ringBase := rfl
@[simp] theorem State.setGate_clockLost (s : State) (a b : Nat) (v : Gate) : (s.setGate a b v).clockLost = s.clockLost := rfl
@[simp] theorem State.setGate_pma (s : State) (a b : Nat) (v : Gate) : (s.setGate a b v).pma = s.pma := rfl
@[simp] theorem State.setGate_calEv (s : State) (a b : Nat) (v : Gate) : (s.setGate a b v).calEv = s.calEv := rfl
@[simp] theorem State.setGate_heaters (s : State) (a b : Nat) (v : Gate) : (s.setGate a b v).heaters = s.heaters := rfl
@[simp] theorem State.setGate_unlocked (s : State) (a b : Nat) (v : Gate) : (s.setGate a b v).unlocked = s.unlocked := rfl
@[simp] theorem State.setGate_suspended (s : State) (a b : Nat) (v : Gate) : (s.setGate a b v).suspended = s.suspended := rfl
@[simp] theorem State.setGate_lanes (s : State) (a b : Nat) (v : Gate) : (s.setGate a b v).lanes = s.lanes := rfl
@[simp] theorem State.setGate_links (s : State) (a b : Nat) (v : Gate) : (s.setGate a b v).links = s.links := rfl
@[simp] theorem State.setGate_iods (s : State) (a b : Nat) (v : Gate) : (s.setGate a b v).iods = s.iods := rfl
@[simp] theorem State.setGate_movers (s : State) (a b : Nat) (v : Gate) : (s.setGate a b v).movers = s.movers := rfl
@[simp] theorem State.setGate_boxes (s : State) (a b : Nat) (v : Gate) : (s.setGate a b v).boxes = s.boxes := rfl
@[simp] theorem State.setGate_checks (s : State) (a b : Nat) (v : Gate) : (s.setGate a b v).checks = s.checks := rfl
@[simp] theorem State.setGate_streams (s : State) (a b : Nat) (v : Gate) : (s.setGate a b v).streams = s.streams := rfl
@[simp] theorem State.setGate_waves (s : State) (a b : Nat) (v : Gate) : (s.setGate a b v).waves = s.waves := rfl
@[simp] theorem State.setGate_posts (s : State) (a b : Nat) (v : Gate) : (s.setGate a b v).posts = s.posts := rfl
@[simp] theorem State.setGate_plan (s : State) (a b : Nat) (v : Gate) : (s.setGate a b v).plan = s.plan := rfl
@[simp] theorem State.setGate_power (s : State) (a b : Nat) (v : Gate) : (s.setGate a b v).power = s.power := rfl
@[simp] theorem State.setGate_heat (s : State) (a b : Nat) (v : Gate) : (s.setGate a b v).heat = s.heat := rfl
@[simp] theorem State.setGate_keeper (s : State) (a b : Nat) (v : Gate) : (s.setGate a b v).keeper = s.keeper := rfl
@[simp] theorem State.setGate_units (s : State) (a b : Nat) (v : Gate) : (s.setGate a b v).units = s.units := rfl
@[simp] theorem State.setGate_update (s : State) (a b : Nat) (v : Gate) : (s.setGate a b v).update = s.update := rfl
@[simp] theorem State.setGate_compare (s : State) (a b : Nat) (v : Gate) : (s.setGate a b v).compare = s.compare := rfl
@[simp] theorem State.setGate_recovery (s : State) (a b : Nat) (v : Gate) : (s.setGate a b v).recovery = s.recovery := rfl
@[simp] theorem State.setGate_startup (s : State) (a b : Nat) (v : Gate) : (s.setGate a b v).startup = s.startup := rfl
@[simp] theorem State.setGate_store (s : State) (a b : Nat) (v : Gate) : (s.setGate a b v).store = s.store := rfl
@[simp] theorem State.setGate_ptp (s : State) (a b : Nat) (v : Gate) : (s.setGate a b v).ptp = s.ptp := rfl
@[simp] theorem State.setGate_pins (s : State) (a b : Nat) (v : Gate) : (s.setGate a b v).pins = s.pins := rfl

/-! ### setMarket -/

@[simp] theorem State.setMarket_pending (s : State) (a : Nat) (v : Market) : (s.setMarket a v).pending = s.pending := rfl
@[simp] theorem State.setMarket_time (s : State) (a : Nat) (v : Market) : (s.setMarket a v).time = s.time := rfl
@[simp] theorem State.setMarket_freeCount (s : State) (a : Nat) (v : Market) : (s.setMarket a v).freeCount = s.freeCount := rfl
@[simp] theorem State.setMarket_objs (s : State) (a : Nat) (v : Market) : (s.setMarket a v).objs = s.objs := rfl
@[simp] theorem State.setMarket_wrote (s : State) (a : Nat) (v : Market) : (s.setMarket a v).wrote = s.wrote := rfl
@[simp] theorem State.setMarket_shadow (s : State) (a : Nat) (v : Market) : (s.setMarket a v).shadow = s.shadow := rfl
@[simp] theorem State.setMarket_commits (s : State) (a : Nat) (v : Market) : (s.setMarket a v).commits = s.commits := rfl
@[simp] theorem State.setMarket_cmds (s : State) (a : Nat) (v : Market) : (s.setMarket a v).cmds = s.cmds := rfl
@[simp] theorem State.setMarket_kept (s : State) (a : Nat) (v : Market) : (s.setMarket a v).kept = s.kept := rfl
@[simp] theorem State.setMarket_sessions (s : State) (a : Nat) (v : Market) : (s.setMarket a v).sessions = s.sessions := rfl
@[simp] theorem State.setMarket_badProofs (s : State) (a : Nat) (v : Market) : (s.setMarket a v).badProofs = s.badProofs := rfl
@[simp] theorem State.setMarket_lockouts (s : State) (a : Nat) (v : Market) : (s.setMarket a v).lockouts = s.lockouts := rfl
@[simp] theorem State.setMarket_log (s : State) (a : Nat) (v : Market) : (s.setMarket a v).log = s.log := rfl
@[simp] theorem State.setMarket_out (s : State) (a : Nat) (v : Market) : (s.setMarket a v).out = s.out := rfl
@[simp] theorem State.setMarket_mem (s : State) (a : Nat) (v : Market) : (s.setMarket a v).mem = s.mem := rfl
@[simp] theorem State.setMarket_poison (s : State) (a : Nat) (v : Market) : (s.setMarket a v).poison = s.poison := rfl
@[simp] theorem State.setMarket_tiles (s : State) (a : Nat) (v : Market) : (s.setMarket a v).tiles = s.tiles := rfl
@[simp] theorem State.setMarket_sites (s : State) (a : Nat) (v : Market) : (s.setMarket a v).sites = s.sites := rfl
@[simp] theorem State.setMarket_cols (s : State) (a : Nat) (v : Market) : (s.setMarket a v).cols = s.cols := rfl
@[simp] theorem State.setMarket_layers (s : State) (a : Nat) (v : Market) : (s.setMarket a v).layers = s.layers := rfl
@[simp] theorem State.setMarket_gates (s : State) (a : Nat) (v : Market) : (s.setMarket a v).gates = s.gates := rfl
@[simp] theorem State.setMarket_aCond (s : State) (a : Nat) (v : Market) : (s.setMarket a v).aCond = s.aCond := rfl
@[simp] theorem State.setMarket_withdrawing (s : State) (a : Nat) (v : Market) : (s.setMarket a v).withdrawing = s.withdrawing := rfl
@[simp] theorem State.setMarket_pathOk (s : State) (a : Nat) (v : Market) : (s.setMarket a v).pathOk = s.pathOk := rfl
@[simp] theorem State.setMarket_stations (s : State) (a : Nat) (v : Market) : (s.setMarket a v).stations = s.stations := rfl
@[simp] theorem State.setMarket_fields (s : State) (a : Nat) (v : Market) : (s.setMarket a v).fields = s.fields := rfl
@[simp] theorem State.setMarket_lasers (s : State) (a : Nat) (v : Market) : (s.setMarket a v).lasers = s.lasers := rfl
@[simp] theorem State.setMarket_light (s : State) (a : Nat) (v : Market) : (s.setMarket a v).light = s.light := rfl
@[simp] theorem State.setMarket_carryWanted (s : State) (a : Nat) (v : Market) : (s.setMarket a v).carryWanted = s.carryWanted := rfl
@[simp] theorem State.setMarket_cal (s : State) (a : Nat) (v : Market) : (s.setMarket a v).cal = s.cal := rfl
@[simp] theorem State.setMarket_ramps (s : State) (a : Nat) (v : Market) : (s.setMarket a v).ramps = s.ramps := rfl
@[simp] theorem State.setMarket_splits (s : State) (a : Nat) (v : Market) : (s.setMarket a v).splits = s.splits := rfl
@[simp] theorem State.setMarket_urgent (s : State) (a : Nat) (v : Market) : (s.setMarket a v).urgent = s.urgent := rfl
@[simp] theorem State.setMarket_shaken (s : State) (a : Nat) (v : Market) : (s.setMarket a v).shaken = s.shaken := rfl
@[simp] theorem State.setMarket_calAt (s : State) (a : Nat) (v : Market) : (s.setMarket a v).calAt = s.calAt := rfl
@[simp] theorem State.setMarket_ringBase (s : State) (a : Nat) (v : Market) : (s.setMarket a v).ringBase = s.ringBase := rfl
@[simp] theorem State.setMarket_clockLost (s : State) (a : Nat) (v : Market) : (s.setMarket a v).clockLost = s.clockLost := rfl
@[simp] theorem State.setMarket_pma (s : State) (a : Nat) (v : Market) : (s.setMarket a v).pma = s.pma := rfl
@[simp] theorem State.setMarket_calEv (s : State) (a : Nat) (v : Market) : (s.setMarket a v).calEv = s.calEv := rfl
@[simp] theorem State.setMarket_heaters (s : State) (a : Nat) (v : Market) : (s.setMarket a v).heaters = s.heaters := rfl
@[simp] theorem State.setMarket_unlocked (s : State) (a : Nat) (v : Market) : (s.setMarket a v).unlocked = s.unlocked := rfl
@[simp] theorem State.setMarket_suspended (s : State) (a : Nat) (v : Market) : (s.setMarket a v).suspended = s.suspended := rfl
@[simp] theorem State.setMarket_lanes (s : State) (a : Nat) (v : Market) : (s.setMarket a v).lanes = s.lanes := rfl
@[simp] theorem State.setMarket_links (s : State) (a : Nat) (v : Market) : (s.setMarket a v).links = s.links := rfl
@[simp] theorem State.setMarket_iods (s : State) (a : Nat) (v : Market) : (s.setMarket a v).iods = s.iods := rfl
@[simp] theorem State.setMarket_movers (s : State) (a : Nat) (v : Market) : (s.setMarket a v).movers = s.movers := rfl
@[simp] theorem State.setMarket_boxes (s : State) (a : Nat) (v : Market) : (s.setMarket a v).boxes = s.boxes := rfl
@[simp] theorem State.setMarket_checks (s : State) (a : Nat) (v : Market) : (s.setMarket a v).checks = s.checks := rfl
@[simp] theorem State.setMarket_streams (s : State) (a : Nat) (v : Market) : (s.setMarket a v).streams = s.streams := rfl
@[simp] theorem State.setMarket_waves (s : State) (a : Nat) (v : Market) : (s.setMarket a v).waves = s.waves := rfl
@[simp] theorem State.setMarket_posts (s : State) (a : Nat) (v : Market) : (s.setMarket a v).posts = s.posts := rfl
@[simp] theorem State.setMarket_plan (s : State) (a : Nat) (v : Market) : (s.setMarket a v).plan = s.plan := rfl
@[simp] theorem State.setMarket_power (s : State) (a : Nat) (v : Market) : (s.setMarket a v).power = s.power := rfl
@[simp] theorem State.setMarket_heat (s : State) (a : Nat) (v : Market) : (s.setMarket a v).heat = s.heat := rfl
@[simp] theorem State.setMarket_keeper (s : State) (a : Nat) (v : Market) : (s.setMarket a v).keeper = s.keeper := rfl
@[simp] theorem State.setMarket_units (s : State) (a : Nat) (v : Market) : (s.setMarket a v).units = s.units := rfl
@[simp] theorem State.setMarket_update (s : State) (a : Nat) (v : Market) : (s.setMarket a v).update = s.update := rfl
@[simp] theorem State.setMarket_compare (s : State) (a : Nat) (v : Market) : (s.setMarket a v).compare = s.compare := rfl
@[simp] theorem State.setMarket_recovery (s : State) (a : Nat) (v : Market) : (s.setMarket a v).recovery = s.recovery := rfl
@[simp] theorem State.setMarket_startup (s : State) (a : Nat) (v : Market) : (s.setMarket a v).startup = s.startup := rfl
@[simp] theorem State.setMarket_store (s : State) (a : Nat) (v : Market) : (s.setMarket a v).store = s.store := rfl
@[simp] theorem State.setMarket_ptp (s : State) (a : Nat) (v : Market) : (s.setMarket a v).ptp = s.ptp := rfl
@[simp] theorem State.setMarket_pins (s : State) (a : Nat) (v : Market) : (s.setMarket a v).pins = s.pins := rfl

/-! ### setStation -/

@[simp] theorem State.setStation_pending (s : State) (a : Nat) (v : Station) : (s.setStation a v).pending = s.pending := rfl
@[simp] theorem State.setStation_time (s : State) (a : Nat) (v : Station) : (s.setStation a v).time = s.time := rfl
@[simp] theorem State.setStation_freeCount (s : State) (a : Nat) (v : Station) : (s.setStation a v).freeCount = s.freeCount := rfl
@[simp] theorem State.setStation_objs (s : State) (a : Nat) (v : Station) : (s.setStation a v).objs = s.objs := rfl
@[simp] theorem State.setStation_wrote (s : State) (a : Nat) (v : Station) : (s.setStation a v).wrote = s.wrote := rfl
@[simp] theorem State.setStation_shadow (s : State) (a : Nat) (v : Station) : (s.setStation a v).shadow = s.shadow := rfl
@[simp] theorem State.setStation_commits (s : State) (a : Nat) (v : Station) : (s.setStation a v).commits = s.commits := rfl
@[simp] theorem State.setStation_cmds (s : State) (a : Nat) (v : Station) : (s.setStation a v).cmds = s.cmds := rfl
@[simp] theorem State.setStation_kept (s : State) (a : Nat) (v : Station) : (s.setStation a v).kept = s.kept := rfl
@[simp] theorem State.setStation_sessions (s : State) (a : Nat) (v : Station) : (s.setStation a v).sessions = s.sessions := rfl
@[simp] theorem State.setStation_badProofs (s : State) (a : Nat) (v : Station) : (s.setStation a v).badProofs = s.badProofs := rfl
@[simp] theorem State.setStation_lockouts (s : State) (a : Nat) (v : Station) : (s.setStation a v).lockouts = s.lockouts := rfl
@[simp] theorem State.setStation_log (s : State) (a : Nat) (v : Station) : (s.setStation a v).log = s.log := rfl
@[simp] theorem State.setStation_out (s : State) (a : Nat) (v : Station) : (s.setStation a v).out = s.out := rfl
@[simp] theorem State.setStation_mem (s : State) (a : Nat) (v : Station) : (s.setStation a v).mem = s.mem := rfl
@[simp] theorem State.setStation_poison (s : State) (a : Nat) (v : Station) : (s.setStation a v).poison = s.poison := rfl
@[simp] theorem State.setStation_tiles (s : State) (a : Nat) (v : Station) : (s.setStation a v).tiles = s.tiles := rfl
@[simp] theorem State.setStation_sites (s : State) (a : Nat) (v : Station) : (s.setStation a v).sites = s.sites := rfl
@[simp] theorem State.setStation_cols (s : State) (a : Nat) (v : Station) : (s.setStation a v).cols = s.cols := rfl
@[simp] theorem State.setStation_layers (s : State) (a : Nat) (v : Station) : (s.setStation a v).layers = s.layers := rfl
@[simp] theorem State.setStation_gates (s : State) (a : Nat) (v : Station) : (s.setStation a v).gates = s.gates := rfl
@[simp] theorem State.setStation_markets (s : State) (a : Nat) (v : Station) : (s.setStation a v).markets = s.markets := rfl
@[simp] theorem State.setStation_aCond (s : State) (a : Nat) (v : Station) : (s.setStation a v).aCond = s.aCond := rfl
@[simp] theorem State.setStation_withdrawing (s : State) (a : Nat) (v : Station) : (s.setStation a v).withdrawing = s.withdrawing := rfl
@[simp] theorem State.setStation_pathOk (s : State) (a : Nat) (v : Station) : (s.setStation a v).pathOk = s.pathOk := rfl
@[simp] theorem State.setStation_fields (s : State) (a : Nat) (v : Station) : (s.setStation a v).fields = s.fields := rfl
@[simp] theorem State.setStation_lasers (s : State) (a : Nat) (v : Station) : (s.setStation a v).lasers = s.lasers := rfl
@[simp] theorem State.setStation_light (s : State) (a : Nat) (v : Station) : (s.setStation a v).light = s.light := rfl
@[simp] theorem State.setStation_carryWanted (s : State) (a : Nat) (v : Station) : (s.setStation a v).carryWanted = s.carryWanted := rfl
@[simp] theorem State.setStation_cal (s : State) (a : Nat) (v : Station) : (s.setStation a v).cal = s.cal := rfl
@[simp] theorem State.setStation_ramps (s : State) (a : Nat) (v : Station) : (s.setStation a v).ramps = s.ramps := rfl
@[simp] theorem State.setStation_splits (s : State) (a : Nat) (v : Station) : (s.setStation a v).splits = s.splits := rfl
@[simp] theorem State.setStation_urgent (s : State) (a : Nat) (v : Station) : (s.setStation a v).urgent = s.urgent := rfl
@[simp] theorem State.setStation_shaken (s : State) (a : Nat) (v : Station) : (s.setStation a v).shaken = s.shaken := rfl
@[simp] theorem State.setStation_calAt (s : State) (a : Nat) (v : Station) : (s.setStation a v).calAt = s.calAt := rfl
@[simp] theorem State.setStation_ringBase (s : State) (a : Nat) (v : Station) : (s.setStation a v).ringBase = s.ringBase := rfl
@[simp] theorem State.setStation_clockLost (s : State) (a : Nat) (v : Station) : (s.setStation a v).clockLost = s.clockLost := rfl
@[simp] theorem State.setStation_pma (s : State) (a : Nat) (v : Station) : (s.setStation a v).pma = s.pma := rfl
@[simp] theorem State.setStation_calEv (s : State) (a : Nat) (v : Station) : (s.setStation a v).calEv = s.calEv := rfl
@[simp] theorem State.setStation_heaters (s : State) (a : Nat) (v : Station) : (s.setStation a v).heaters = s.heaters := rfl
@[simp] theorem State.setStation_unlocked (s : State) (a : Nat) (v : Station) : (s.setStation a v).unlocked = s.unlocked := rfl
@[simp] theorem State.setStation_suspended (s : State) (a : Nat) (v : Station) : (s.setStation a v).suspended = s.suspended := rfl
@[simp] theorem State.setStation_lanes (s : State) (a : Nat) (v : Station) : (s.setStation a v).lanes = s.lanes := rfl
@[simp] theorem State.setStation_links (s : State) (a : Nat) (v : Station) : (s.setStation a v).links = s.links := rfl
@[simp] theorem State.setStation_iods (s : State) (a : Nat) (v : Station) : (s.setStation a v).iods = s.iods := rfl
@[simp] theorem State.setStation_movers (s : State) (a : Nat) (v : Station) : (s.setStation a v).movers = s.movers := rfl
@[simp] theorem State.setStation_boxes (s : State) (a : Nat) (v : Station) : (s.setStation a v).boxes = s.boxes := rfl
@[simp] theorem State.setStation_checks (s : State) (a : Nat) (v : Station) : (s.setStation a v).checks = s.checks := rfl
@[simp] theorem State.setStation_streams (s : State) (a : Nat) (v : Station) : (s.setStation a v).streams = s.streams := rfl
@[simp] theorem State.setStation_waves (s : State) (a : Nat) (v : Station) : (s.setStation a v).waves = s.waves := rfl
@[simp] theorem State.setStation_posts (s : State) (a : Nat) (v : Station) : (s.setStation a v).posts = s.posts := rfl
@[simp] theorem State.setStation_plan (s : State) (a : Nat) (v : Station) : (s.setStation a v).plan = s.plan := rfl
@[simp] theorem State.setStation_power (s : State) (a : Nat) (v : Station) : (s.setStation a v).power = s.power := rfl
@[simp] theorem State.setStation_heat (s : State) (a : Nat) (v : Station) : (s.setStation a v).heat = s.heat := rfl
@[simp] theorem State.setStation_keeper (s : State) (a : Nat) (v : Station) : (s.setStation a v).keeper = s.keeper := rfl
@[simp] theorem State.setStation_units (s : State) (a : Nat) (v : Station) : (s.setStation a v).units = s.units := rfl
@[simp] theorem State.setStation_update (s : State) (a : Nat) (v : Station) : (s.setStation a v).update = s.update := rfl
@[simp] theorem State.setStation_compare (s : State) (a : Nat) (v : Station) : (s.setStation a v).compare = s.compare := rfl
@[simp] theorem State.setStation_recovery (s : State) (a : Nat) (v : Station) : (s.setStation a v).recovery = s.recovery := rfl
@[simp] theorem State.setStation_startup (s : State) (a : Nat) (v : Station) : (s.setStation a v).startup = s.startup := rfl
@[simp] theorem State.setStation_store (s : State) (a : Nat) (v : Station) : (s.setStation a v).store = s.store := rfl
@[simp] theorem State.setStation_ptp (s : State) (a : Nat) (v : Station) : (s.setStation a v).ptp = s.ptp := rfl
@[simp] theorem State.setStation_pins (s : State) (a : Nat) (v : Station) : (s.setStation a v).pins = s.pins := rfl

/-! ### setField -/

@[simp] theorem State.setField_pending (s : State) (a : Nat) (v : Field) : (s.setField a v).pending = s.pending := rfl
@[simp] theorem State.setField_time (s : State) (a : Nat) (v : Field) : (s.setField a v).time = s.time := rfl
@[simp] theorem State.setField_freeCount (s : State) (a : Nat) (v : Field) : (s.setField a v).freeCount = s.freeCount := rfl
@[simp] theorem State.setField_objs (s : State) (a : Nat) (v : Field) : (s.setField a v).objs = s.objs := rfl
@[simp] theorem State.setField_wrote (s : State) (a : Nat) (v : Field) : (s.setField a v).wrote = s.wrote := rfl
@[simp] theorem State.setField_shadow (s : State) (a : Nat) (v : Field) : (s.setField a v).shadow = s.shadow := rfl
@[simp] theorem State.setField_commits (s : State) (a : Nat) (v : Field) : (s.setField a v).commits = s.commits := rfl
@[simp] theorem State.setField_cmds (s : State) (a : Nat) (v : Field) : (s.setField a v).cmds = s.cmds := rfl
@[simp] theorem State.setField_kept (s : State) (a : Nat) (v : Field) : (s.setField a v).kept = s.kept := rfl
@[simp] theorem State.setField_sessions (s : State) (a : Nat) (v : Field) : (s.setField a v).sessions = s.sessions := rfl
@[simp] theorem State.setField_badProofs (s : State) (a : Nat) (v : Field) : (s.setField a v).badProofs = s.badProofs := rfl
@[simp] theorem State.setField_lockouts (s : State) (a : Nat) (v : Field) : (s.setField a v).lockouts = s.lockouts := rfl
@[simp] theorem State.setField_log (s : State) (a : Nat) (v : Field) : (s.setField a v).log = s.log := rfl
@[simp] theorem State.setField_out (s : State) (a : Nat) (v : Field) : (s.setField a v).out = s.out := rfl
@[simp] theorem State.setField_mem (s : State) (a : Nat) (v : Field) : (s.setField a v).mem = s.mem := rfl
@[simp] theorem State.setField_poison (s : State) (a : Nat) (v : Field) : (s.setField a v).poison = s.poison := rfl
@[simp] theorem State.setField_tiles (s : State) (a : Nat) (v : Field) : (s.setField a v).tiles = s.tiles := rfl
@[simp] theorem State.setField_sites (s : State) (a : Nat) (v : Field) : (s.setField a v).sites = s.sites := rfl
@[simp] theorem State.setField_cols (s : State) (a : Nat) (v : Field) : (s.setField a v).cols = s.cols := rfl
@[simp] theorem State.setField_layers (s : State) (a : Nat) (v : Field) : (s.setField a v).layers = s.layers := rfl
@[simp] theorem State.setField_gates (s : State) (a : Nat) (v : Field) : (s.setField a v).gates = s.gates := rfl
@[simp] theorem State.setField_markets (s : State) (a : Nat) (v : Field) : (s.setField a v).markets = s.markets := rfl
@[simp] theorem State.setField_aCond (s : State) (a : Nat) (v : Field) : (s.setField a v).aCond = s.aCond := rfl
@[simp] theorem State.setField_withdrawing (s : State) (a : Nat) (v : Field) : (s.setField a v).withdrawing = s.withdrawing := rfl
@[simp] theorem State.setField_pathOk (s : State) (a : Nat) (v : Field) : (s.setField a v).pathOk = s.pathOk := rfl
@[simp] theorem State.setField_stations (s : State) (a : Nat) (v : Field) : (s.setField a v).stations = s.stations := rfl
@[simp] theorem State.setField_lasers (s : State) (a : Nat) (v : Field) : (s.setField a v).lasers = s.lasers := rfl
@[simp] theorem State.setField_light (s : State) (a : Nat) (v : Field) : (s.setField a v).light = s.light := rfl
@[simp] theorem State.setField_carryWanted (s : State) (a : Nat) (v : Field) : (s.setField a v).carryWanted = s.carryWanted := rfl
@[simp] theorem State.setField_cal (s : State) (a : Nat) (v : Field) : (s.setField a v).cal = s.cal := rfl
@[simp] theorem State.setField_ramps (s : State) (a : Nat) (v : Field) : (s.setField a v).ramps = s.ramps := rfl
@[simp] theorem State.setField_splits (s : State) (a : Nat) (v : Field) : (s.setField a v).splits = s.splits := rfl
@[simp] theorem State.setField_urgent (s : State) (a : Nat) (v : Field) : (s.setField a v).urgent = s.urgent := rfl
@[simp] theorem State.setField_shaken (s : State) (a : Nat) (v : Field) : (s.setField a v).shaken = s.shaken := rfl
@[simp] theorem State.setField_calAt (s : State) (a : Nat) (v : Field) : (s.setField a v).calAt = s.calAt := rfl
@[simp] theorem State.setField_ringBase (s : State) (a : Nat) (v : Field) : (s.setField a v).ringBase = s.ringBase := rfl
@[simp] theorem State.setField_clockLost (s : State) (a : Nat) (v : Field) : (s.setField a v).clockLost = s.clockLost := rfl
@[simp] theorem State.setField_pma (s : State) (a : Nat) (v : Field) : (s.setField a v).pma = s.pma := rfl
@[simp] theorem State.setField_calEv (s : State) (a : Nat) (v : Field) : (s.setField a v).calEv = s.calEv := rfl
@[simp] theorem State.setField_heaters (s : State) (a : Nat) (v : Field) : (s.setField a v).heaters = s.heaters := rfl
@[simp] theorem State.setField_unlocked (s : State) (a : Nat) (v : Field) : (s.setField a v).unlocked = s.unlocked := rfl
@[simp] theorem State.setField_suspended (s : State) (a : Nat) (v : Field) : (s.setField a v).suspended = s.suspended := rfl
@[simp] theorem State.setField_lanes (s : State) (a : Nat) (v : Field) : (s.setField a v).lanes = s.lanes := rfl
@[simp] theorem State.setField_links (s : State) (a : Nat) (v : Field) : (s.setField a v).links = s.links := rfl
@[simp] theorem State.setField_iods (s : State) (a : Nat) (v : Field) : (s.setField a v).iods = s.iods := rfl
@[simp] theorem State.setField_movers (s : State) (a : Nat) (v : Field) : (s.setField a v).movers = s.movers := rfl
@[simp] theorem State.setField_boxes (s : State) (a : Nat) (v : Field) : (s.setField a v).boxes = s.boxes := rfl
@[simp] theorem State.setField_checks (s : State) (a : Nat) (v : Field) : (s.setField a v).checks = s.checks := rfl
@[simp] theorem State.setField_streams (s : State) (a : Nat) (v : Field) : (s.setField a v).streams = s.streams := rfl
@[simp] theorem State.setField_waves (s : State) (a : Nat) (v : Field) : (s.setField a v).waves = s.waves := rfl
@[simp] theorem State.setField_posts (s : State) (a : Nat) (v : Field) : (s.setField a v).posts = s.posts := rfl
@[simp] theorem State.setField_plan (s : State) (a : Nat) (v : Field) : (s.setField a v).plan = s.plan := rfl
@[simp] theorem State.setField_power (s : State) (a : Nat) (v : Field) : (s.setField a v).power = s.power := rfl
@[simp] theorem State.setField_heat (s : State) (a : Nat) (v : Field) : (s.setField a v).heat = s.heat := rfl
@[simp] theorem State.setField_keeper (s : State) (a : Nat) (v : Field) : (s.setField a v).keeper = s.keeper := rfl
@[simp] theorem State.setField_units (s : State) (a : Nat) (v : Field) : (s.setField a v).units = s.units := rfl
@[simp] theorem State.setField_update (s : State) (a : Nat) (v : Field) : (s.setField a v).update = s.update := rfl
@[simp] theorem State.setField_compare (s : State) (a : Nat) (v : Field) : (s.setField a v).compare = s.compare := rfl
@[simp] theorem State.setField_recovery (s : State) (a : Nat) (v : Field) : (s.setField a v).recovery = s.recovery := rfl
@[simp] theorem State.setField_startup (s : State) (a : Nat) (v : Field) : (s.setField a v).startup = s.startup := rfl
@[simp] theorem State.setField_store (s : State) (a : Nat) (v : Field) : (s.setField a v).store = s.store := rfl
@[simp] theorem State.setField_ptp (s : State) (a : Nat) (v : Field) : (s.setField a v).ptp = s.ptp := rfl
@[simp] theorem State.setField_pins (s : State) (a : Nat) (v : Field) : (s.setField a v).pins = s.pins := rfl

/-! ### setLaser -/

@[simp] theorem State.setLaser_pending (s : State) (a : Nat) (v : Laser) : (s.setLaser a v).pending = s.pending := rfl
@[simp] theorem State.setLaser_time (s : State) (a : Nat) (v : Laser) : (s.setLaser a v).time = s.time := rfl
@[simp] theorem State.setLaser_freeCount (s : State) (a : Nat) (v : Laser) : (s.setLaser a v).freeCount = s.freeCount := rfl
@[simp] theorem State.setLaser_objs (s : State) (a : Nat) (v : Laser) : (s.setLaser a v).objs = s.objs := rfl
@[simp] theorem State.setLaser_wrote (s : State) (a : Nat) (v : Laser) : (s.setLaser a v).wrote = s.wrote := rfl
@[simp] theorem State.setLaser_shadow (s : State) (a : Nat) (v : Laser) : (s.setLaser a v).shadow = s.shadow := rfl
@[simp] theorem State.setLaser_commits (s : State) (a : Nat) (v : Laser) : (s.setLaser a v).commits = s.commits := rfl
@[simp] theorem State.setLaser_cmds (s : State) (a : Nat) (v : Laser) : (s.setLaser a v).cmds = s.cmds := rfl
@[simp] theorem State.setLaser_kept (s : State) (a : Nat) (v : Laser) : (s.setLaser a v).kept = s.kept := rfl
@[simp] theorem State.setLaser_sessions (s : State) (a : Nat) (v : Laser) : (s.setLaser a v).sessions = s.sessions := rfl
@[simp] theorem State.setLaser_badProofs (s : State) (a : Nat) (v : Laser) : (s.setLaser a v).badProofs = s.badProofs := rfl
@[simp] theorem State.setLaser_lockouts (s : State) (a : Nat) (v : Laser) : (s.setLaser a v).lockouts = s.lockouts := rfl
@[simp] theorem State.setLaser_log (s : State) (a : Nat) (v : Laser) : (s.setLaser a v).log = s.log := rfl
@[simp] theorem State.setLaser_out (s : State) (a : Nat) (v : Laser) : (s.setLaser a v).out = s.out := rfl
@[simp] theorem State.setLaser_mem (s : State) (a : Nat) (v : Laser) : (s.setLaser a v).mem = s.mem := rfl
@[simp] theorem State.setLaser_poison (s : State) (a : Nat) (v : Laser) : (s.setLaser a v).poison = s.poison := rfl
@[simp] theorem State.setLaser_tiles (s : State) (a : Nat) (v : Laser) : (s.setLaser a v).tiles = s.tiles := rfl
@[simp] theorem State.setLaser_sites (s : State) (a : Nat) (v : Laser) : (s.setLaser a v).sites = s.sites := rfl
@[simp] theorem State.setLaser_cols (s : State) (a : Nat) (v : Laser) : (s.setLaser a v).cols = s.cols := rfl
@[simp] theorem State.setLaser_layers (s : State) (a : Nat) (v : Laser) : (s.setLaser a v).layers = s.layers := rfl
@[simp] theorem State.setLaser_gates (s : State) (a : Nat) (v : Laser) : (s.setLaser a v).gates = s.gates := rfl
@[simp] theorem State.setLaser_markets (s : State) (a : Nat) (v : Laser) : (s.setLaser a v).markets = s.markets := rfl
@[simp] theorem State.setLaser_aCond (s : State) (a : Nat) (v : Laser) : (s.setLaser a v).aCond = s.aCond := rfl
@[simp] theorem State.setLaser_withdrawing (s : State) (a : Nat) (v : Laser) : (s.setLaser a v).withdrawing = s.withdrawing := rfl
@[simp] theorem State.setLaser_pathOk (s : State) (a : Nat) (v : Laser) : (s.setLaser a v).pathOk = s.pathOk := rfl
@[simp] theorem State.setLaser_stations (s : State) (a : Nat) (v : Laser) : (s.setLaser a v).stations = s.stations := rfl
@[simp] theorem State.setLaser_fields (s : State) (a : Nat) (v : Laser) : (s.setLaser a v).fields = s.fields := rfl
@[simp] theorem State.setLaser_light (s : State) (a : Nat) (v : Laser) : (s.setLaser a v).light = s.light := rfl
@[simp] theorem State.setLaser_carryWanted (s : State) (a : Nat) (v : Laser) : (s.setLaser a v).carryWanted = s.carryWanted := rfl
@[simp] theorem State.setLaser_cal (s : State) (a : Nat) (v : Laser) : (s.setLaser a v).cal = s.cal := rfl
@[simp] theorem State.setLaser_ramps (s : State) (a : Nat) (v : Laser) : (s.setLaser a v).ramps = s.ramps := rfl
@[simp] theorem State.setLaser_splits (s : State) (a : Nat) (v : Laser) : (s.setLaser a v).splits = s.splits := rfl
@[simp] theorem State.setLaser_urgent (s : State) (a : Nat) (v : Laser) : (s.setLaser a v).urgent = s.urgent := rfl
@[simp] theorem State.setLaser_shaken (s : State) (a : Nat) (v : Laser) : (s.setLaser a v).shaken = s.shaken := rfl
@[simp] theorem State.setLaser_calAt (s : State) (a : Nat) (v : Laser) : (s.setLaser a v).calAt = s.calAt := rfl
@[simp] theorem State.setLaser_ringBase (s : State) (a : Nat) (v : Laser) : (s.setLaser a v).ringBase = s.ringBase := rfl
@[simp] theorem State.setLaser_clockLost (s : State) (a : Nat) (v : Laser) : (s.setLaser a v).clockLost = s.clockLost := rfl
@[simp] theorem State.setLaser_pma (s : State) (a : Nat) (v : Laser) : (s.setLaser a v).pma = s.pma := rfl
@[simp] theorem State.setLaser_calEv (s : State) (a : Nat) (v : Laser) : (s.setLaser a v).calEv = s.calEv := rfl
@[simp] theorem State.setLaser_heaters (s : State) (a : Nat) (v : Laser) : (s.setLaser a v).heaters = s.heaters := rfl
@[simp] theorem State.setLaser_unlocked (s : State) (a : Nat) (v : Laser) : (s.setLaser a v).unlocked = s.unlocked := rfl
@[simp] theorem State.setLaser_suspended (s : State) (a : Nat) (v : Laser) : (s.setLaser a v).suspended = s.suspended := rfl
@[simp] theorem State.setLaser_lanes (s : State) (a : Nat) (v : Laser) : (s.setLaser a v).lanes = s.lanes := rfl
@[simp] theorem State.setLaser_links (s : State) (a : Nat) (v : Laser) : (s.setLaser a v).links = s.links := rfl
@[simp] theorem State.setLaser_iods (s : State) (a : Nat) (v : Laser) : (s.setLaser a v).iods = s.iods := rfl
@[simp] theorem State.setLaser_movers (s : State) (a : Nat) (v : Laser) : (s.setLaser a v).movers = s.movers := rfl
@[simp] theorem State.setLaser_boxes (s : State) (a : Nat) (v : Laser) : (s.setLaser a v).boxes = s.boxes := rfl
@[simp] theorem State.setLaser_checks (s : State) (a : Nat) (v : Laser) : (s.setLaser a v).checks = s.checks := rfl
@[simp] theorem State.setLaser_streams (s : State) (a : Nat) (v : Laser) : (s.setLaser a v).streams = s.streams := rfl
@[simp] theorem State.setLaser_waves (s : State) (a : Nat) (v : Laser) : (s.setLaser a v).waves = s.waves := rfl
@[simp] theorem State.setLaser_posts (s : State) (a : Nat) (v : Laser) : (s.setLaser a v).posts = s.posts := rfl
@[simp] theorem State.setLaser_plan (s : State) (a : Nat) (v : Laser) : (s.setLaser a v).plan = s.plan := rfl
@[simp] theorem State.setLaser_power (s : State) (a : Nat) (v : Laser) : (s.setLaser a v).power = s.power := rfl
@[simp] theorem State.setLaser_heat (s : State) (a : Nat) (v : Laser) : (s.setLaser a v).heat = s.heat := rfl
@[simp] theorem State.setLaser_keeper (s : State) (a : Nat) (v : Laser) : (s.setLaser a v).keeper = s.keeper := rfl
@[simp] theorem State.setLaser_units (s : State) (a : Nat) (v : Laser) : (s.setLaser a v).units = s.units := rfl
@[simp] theorem State.setLaser_update (s : State) (a : Nat) (v : Laser) : (s.setLaser a v).update = s.update := rfl
@[simp] theorem State.setLaser_compare (s : State) (a : Nat) (v : Laser) : (s.setLaser a v).compare = s.compare := rfl
@[simp] theorem State.setLaser_recovery (s : State) (a : Nat) (v : Laser) : (s.setLaser a v).recovery = s.recovery := rfl
@[simp] theorem State.setLaser_startup (s : State) (a : Nat) (v : Laser) : (s.setLaser a v).startup = s.startup := rfl
@[simp] theorem State.setLaser_store (s : State) (a : Nat) (v : Laser) : (s.setLaser a v).store = s.store := rfl
@[simp] theorem State.setLaser_ptp (s : State) (a : Nat) (v : Laser) : (s.setLaser a v).ptp = s.ptp := rfl
@[simp] theorem State.setLaser_pins (s : State) (a : Nat) (v : Laser) : (s.setLaser a v).pins = s.pins := rfl

/-! ### setLane -/

@[simp] theorem State.setLane_pending (s : State) (a : Nat) (v : Lane) : (s.setLane a v).pending = s.pending := rfl
@[simp] theorem State.setLane_time (s : State) (a : Nat) (v : Lane) : (s.setLane a v).time = s.time := rfl
@[simp] theorem State.setLane_freeCount (s : State) (a : Nat) (v : Lane) : (s.setLane a v).freeCount = s.freeCount := rfl
@[simp] theorem State.setLane_objs (s : State) (a : Nat) (v : Lane) : (s.setLane a v).objs = s.objs := rfl
@[simp] theorem State.setLane_wrote (s : State) (a : Nat) (v : Lane) : (s.setLane a v).wrote = s.wrote := rfl
@[simp] theorem State.setLane_shadow (s : State) (a : Nat) (v : Lane) : (s.setLane a v).shadow = s.shadow := rfl
@[simp] theorem State.setLane_commits (s : State) (a : Nat) (v : Lane) : (s.setLane a v).commits = s.commits := rfl
@[simp] theorem State.setLane_cmds (s : State) (a : Nat) (v : Lane) : (s.setLane a v).cmds = s.cmds := rfl
@[simp] theorem State.setLane_kept (s : State) (a : Nat) (v : Lane) : (s.setLane a v).kept = s.kept := rfl
@[simp] theorem State.setLane_sessions (s : State) (a : Nat) (v : Lane) : (s.setLane a v).sessions = s.sessions := rfl
@[simp] theorem State.setLane_badProofs (s : State) (a : Nat) (v : Lane) : (s.setLane a v).badProofs = s.badProofs := rfl
@[simp] theorem State.setLane_lockouts (s : State) (a : Nat) (v : Lane) : (s.setLane a v).lockouts = s.lockouts := rfl
@[simp] theorem State.setLane_log (s : State) (a : Nat) (v : Lane) : (s.setLane a v).log = s.log := rfl
@[simp] theorem State.setLane_out (s : State) (a : Nat) (v : Lane) : (s.setLane a v).out = s.out := rfl
@[simp] theorem State.setLane_mem (s : State) (a : Nat) (v : Lane) : (s.setLane a v).mem = s.mem := rfl
@[simp] theorem State.setLane_poison (s : State) (a : Nat) (v : Lane) : (s.setLane a v).poison = s.poison := rfl
@[simp] theorem State.setLane_tiles (s : State) (a : Nat) (v : Lane) : (s.setLane a v).tiles = s.tiles := rfl
@[simp] theorem State.setLane_sites (s : State) (a : Nat) (v : Lane) : (s.setLane a v).sites = s.sites := rfl
@[simp] theorem State.setLane_cols (s : State) (a : Nat) (v : Lane) : (s.setLane a v).cols = s.cols := rfl
@[simp] theorem State.setLane_layers (s : State) (a : Nat) (v : Lane) : (s.setLane a v).layers = s.layers := rfl
@[simp] theorem State.setLane_gates (s : State) (a : Nat) (v : Lane) : (s.setLane a v).gates = s.gates := rfl
@[simp] theorem State.setLane_markets (s : State) (a : Nat) (v : Lane) : (s.setLane a v).markets = s.markets := rfl
@[simp] theorem State.setLane_aCond (s : State) (a : Nat) (v : Lane) : (s.setLane a v).aCond = s.aCond := rfl
@[simp] theorem State.setLane_withdrawing (s : State) (a : Nat) (v : Lane) : (s.setLane a v).withdrawing = s.withdrawing := rfl
@[simp] theorem State.setLane_pathOk (s : State) (a : Nat) (v : Lane) : (s.setLane a v).pathOk = s.pathOk := rfl
@[simp] theorem State.setLane_stations (s : State) (a : Nat) (v : Lane) : (s.setLane a v).stations = s.stations := rfl
@[simp] theorem State.setLane_fields (s : State) (a : Nat) (v : Lane) : (s.setLane a v).fields = s.fields := rfl
@[simp] theorem State.setLane_lasers (s : State) (a : Nat) (v : Lane) : (s.setLane a v).lasers = s.lasers := rfl
@[simp] theorem State.setLane_light (s : State) (a : Nat) (v : Lane) : (s.setLane a v).light = s.light := rfl
@[simp] theorem State.setLane_carryWanted (s : State) (a : Nat) (v : Lane) : (s.setLane a v).carryWanted = s.carryWanted := rfl
@[simp] theorem State.setLane_cal (s : State) (a : Nat) (v : Lane) : (s.setLane a v).cal = s.cal := rfl
@[simp] theorem State.setLane_ramps (s : State) (a : Nat) (v : Lane) : (s.setLane a v).ramps = s.ramps := rfl
@[simp] theorem State.setLane_splits (s : State) (a : Nat) (v : Lane) : (s.setLane a v).splits = s.splits := rfl
@[simp] theorem State.setLane_urgent (s : State) (a : Nat) (v : Lane) : (s.setLane a v).urgent = s.urgent := rfl
@[simp] theorem State.setLane_shaken (s : State) (a : Nat) (v : Lane) : (s.setLane a v).shaken = s.shaken := rfl
@[simp] theorem State.setLane_calAt (s : State) (a : Nat) (v : Lane) : (s.setLane a v).calAt = s.calAt := rfl
@[simp] theorem State.setLane_ringBase (s : State) (a : Nat) (v : Lane) : (s.setLane a v).ringBase = s.ringBase := rfl
@[simp] theorem State.setLane_clockLost (s : State) (a : Nat) (v : Lane) : (s.setLane a v).clockLost = s.clockLost := rfl
@[simp] theorem State.setLane_pma (s : State) (a : Nat) (v : Lane) : (s.setLane a v).pma = s.pma := rfl
@[simp] theorem State.setLane_calEv (s : State) (a : Nat) (v : Lane) : (s.setLane a v).calEv = s.calEv := rfl
@[simp] theorem State.setLane_heaters (s : State) (a : Nat) (v : Lane) : (s.setLane a v).heaters = s.heaters := rfl
@[simp] theorem State.setLane_unlocked (s : State) (a : Nat) (v : Lane) : (s.setLane a v).unlocked = s.unlocked := rfl
@[simp] theorem State.setLane_suspended (s : State) (a : Nat) (v : Lane) : (s.setLane a v).suspended = s.suspended := rfl
@[simp] theorem State.setLane_links (s : State) (a : Nat) (v : Lane) : (s.setLane a v).links = s.links := rfl
@[simp] theorem State.setLane_iods (s : State) (a : Nat) (v : Lane) : (s.setLane a v).iods = s.iods := rfl
@[simp] theorem State.setLane_movers (s : State) (a : Nat) (v : Lane) : (s.setLane a v).movers = s.movers := rfl
@[simp] theorem State.setLane_boxes (s : State) (a : Nat) (v : Lane) : (s.setLane a v).boxes = s.boxes := rfl
@[simp] theorem State.setLane_checks (s : State) (a : Nat) (v : Lane) : (s.setLane a v).checks = s.checks := rfl
@[simp] theorem State.setLane_streams (s : State) (a : Nat) (v : Lane) : (s.setLane a v).streams = s.streams := rfl
@[simp] theorem State.setLane_waves (s : State) (a : Nat) (v : Lane) : (s.setLane a v).waves = s.waves := rfl
@[simp] theorem State.setLane_posts (s : State) (a : Nat) (v : Lane) : (s.setLane a v).posts = s.posts := rfl
@[simp] theorem State.setLane_plan (s : State) (a : Nat) (v : Lane) : (s.setLane a v).plan = s.plan := rfl
@[simp] theorem State.setLane_power (s : State) (a : Nat) (v : Lane) : (s.setLane a v).power = s.power := rfl
@[simp] theorem State.setLane_heat (s : State) (a : Nat) (v : Lane) : (s.setLane a v).heat = s.heat := rfl
@[simp] theorem State.setLane_keeper (s : State) (a : Nat) (v : Lane) : (s.setLane a v).keeper = s.keeper := rfl
@[simp] theorem State.setLane_units (s : State) (a : Nat) (v : Lane) : (s.setLane a v).units = s.units := rfl
@[simp] theorem State.setLane_update (s : State) (a : Nat) (v : Lane) : (s.setLane a v).update = s.update := rfl
@[simp] theorem State.setLane_compare (s : State) (a : Nat) (v : Lane) : (s.setLane a v).compare = s.compare := rfl
@[simp] theorem State.setLane_recovery (s : State) (a : Nat) (v : Lane) : (s.setLane a v).recovery = s.recovery := rfl
@[simp] theorem State.setLane_startup (s : State) (a : Nat) (v : Lane) : (s.setLane a v).startup = s.startup := rfl
@[simp] theorem State.setLane_store (s : State) (a : Nat) (v : Lane) : (s.setLane a v).store = s.store := rfl
@[simp] theorem State.setLane_ptp (s : State) (a : Nat) (v : Lane) : (s.setLane a v).ptp = s.ptp := rfl
@[simp] theorem State.setLane_pins (s : State) (a : Nat) (v : Lane) : (s.setLane a v).pins = s.pins := rfl

/-! ### setLink -/

@[simp] theorem State.setLink_pending (s : State) (a : Nat) (v : Link) : (s.setLink a v).pending = s.pending := rfl
@[simp] theorem State.setLink_time (s : State) (a : Nat) (v : Link) : (s.setLink a v).time = s.time := rfl
@[simp] theorem State.setLink_freeCount (s : State) (a : Nat) (v : Link) : (s.setLink a v).freeCount = s.freeCount := rfl
@[simp] theorem State.setLink_objs (s : State) (a : Nat) (v : Link) : (s.setLink a v).objs = s.objs := rfl
@[simp] theorem State.setLink_wrote (s : State) (a : Nat) (v : Link) : (s.setLink a v).wrote = s.wrote := rfl
@[simp] theorem State.setLink_shadow (s : State) (a : Nat) (v : Link) : (s.setLink a v).shadow = s.shadow := rfl
@[simp] theorem State.setLink_commits (s : State) (a : Nat) (v : Link) : (s.setLink a v).commits = s.commits := rfl
@[simp] theorem State.setLink_cmds (s : State) (a : Nat) (v : Link) : (s.setLink a v).cmds = s.cmds := rfl
@[simp] theorem State.setLink_kept (s : State) (a : Nat) (v : Link) : (s.setLink a v).kept = s.kept := rfl
@[simp] theorem State.setLink_sessions (s : State) (a : Nat) (v : Link) : (s.setLink a v).sessions = s.sessions := rfl
@[simp] theorem State.setLink_badProofs (s : State) (a : Nat) (v : Link) : (s.setLink a v).badProofs = s.badProofs := rfl
@[simp] theorem State.setLink_lockouts (s : State) (a : Nat) (v : Link) : (s.setLink a v).lockouts = s.lockouts := rfl
@[simp] theorem State.setLink_log (s : State) (a : Nat) (v : Link) : (s.setLink a v).log = s.log := rfl
@[simp] theorem State.setLink_out (s : State) (a : Nat) (v : Link) : (s.setLink a v).out = s.out := rfl
@[simp] theorem State.setLink_mem (s : State) (a : Nat) (v : Link) : (s.setLink a v).mem = s.mem := rfl
@[simp] theorem State.setLink_poison (s : State) (a : Nat) (v : Link) : (s.setLink a v).poison = s.poison := rfl
@[simp] theorem State.setLink_tiles (s : State) (a : Nat) (v : Link) : (s.setLink a v).tiles = s.tiles := rfl
@[simp] theorem State.setLink_sites (s : State) (a : Nat) (v : Link) : (s.setLink a v).sites = s.sites := rfl
@[simp] theorem State.setLink_cols (s : State) (a : Nat) (v : Link) : (s.setLink a v).cols = s.cols := rfl
@[simp] theorem State.setLink_layers (s : State) (a : Nat) (v : Link) : (s.setLink a v).layers = s.layers := rfl
@[simp] theorem State.setLink_gates (s : State) (a : Nat) (v : Link) : (s.setLink a v).gates = s.gates := rfl
@[simp] theorem State.setLink_markets (s : State) (a : Nat) (v : Link) : (s.setLink a v).markets = s.markets := rfl
@[simp] theorem State.setLink_aCond (s : State) (a : Nat) (v : Link) : (s.setLink a v).aCond = s.aCond := rfl
@[simp] theorem State.setLink_withdrawing (s : State) (a : Nat) (v : Link) : (s.setLink a v).withdrawing = s.withdrawing := rfl
@[simp] theorem State.setLink_pathOk (s : State) (a : Nat) (v : Link) : (s.setLink a v).pathOk = s.pathOk := rfl
@[simp] theorem State.setLink_stations (s : State) (a : Nat) (v : Link) : (s.setLink a v).stations = s.stations := rfl
@[simp] theorem State.setLink_fields (s : State) (a : Nat) (v : Link) : (s.setLink a v).fields = s.fields := rfl
@[simp] theorem State.setLink_lasers (s : State) (a : Nat) (v : Link) : (s.setLink a v).lasers = s.lasers := rfl
@[simp] theorem State.setLink_light (s : State) (a : Nat) (v : Link) : (s.setLink a v).light = s.light := rfl
@[simp] theorem State.setLink_carryWanted (s : State) (a : Nat) (v : Link) : (s.setLink a v).carryWanted = s.carryWanted := rfl
@[simp] theorem State.setLink_cal (s : State) (a : Nat) (v : Link) : (s.setLink a v).cal = s.cal := rfl
@[simp] theorem State.setLink_ramps (s : State) (a : Nat) (v : Link) : (s.setLink a v).ramps = s.ramps := rfl
@[simp] theorem State.setLink_splits (s : State) (a : Nat) (v : Link) : (s.setLink a v).splits = s.splits := rfl
@[simp] theorem State.setLink_urgent (s : State) (a : Nat) (v : Link) : (s.setLink a v).urgent = s.urgent := rfl
@[simp] theorem State.setLink_shaken (s : State) (a : Nat) (v : Link) : (s.setLink a v).shaken = s.shaken := rfl
@[simp] theorem State.setLink_calAt (s : State) (a : Nat) (v : Link) : (s.setLink a v).calAt = s.calAt := rfl
@[simp] theorem State.setLink_ringBase (s : State) (a : Nat) (v : Link) : (s.setLink a v).ringBase = s.ringBase := rfl
@[simp] theorem State.setLink_clockLost (s : State) (a : Nat) (v : Link) : (s.setLink a v).clockLost = s.clockLost := rfl
@[simp] theorem State.setLink_pma (s : State) (a : Nat) (v : Link) : (s.setLink a v).pma = s.pma := rfl
@[simp] theorem State.setLink_calEv (s : State) (a : Nat) (v : Link) : (s.setLink a v).calEv = s.calEv := rfl
@[simp] theorem State.setLink_heaters (s : State) (a : Nat) (v : Link) : (s.setLink a v).heaters = s.heaters := rfl
@[simp] theorem State.setLink_unlocked (s : State) (a : Nat) (v : Link) : (s.setLink a v).unlocked = s.unlocked := rfl
@[simp] theorem State.setLink_suspended (s : State) (a : Nat) (v : Link) : (s.setLink a v).suspended = s.suspended := rfl
@[simp] theorem State.setLink_lanes (s : State) (a : Nat) (v : Link) : (s.setLink a v).lanes = s.lanes := rfl
@[simp] theorem State.setLink_iods (s : State) (a : Nat) (v : Link) : (s.setLink a v).iods = s.iods := rfl
@[simp] theorem State.setLink_movers (s : State) (a : Nat) (v : Link) : (s.setLink a v).movers = s.movers := rfl
@[simp] theorem State.setLink_boxes (s : State) (a : Nat) (v : Link) : (s.setLink a v).boxes = s.boxes := rfl
@[simp] theorem State.setLink_checks (s : State) (a : Nat) (v : Link) : (s.setLink a v).checks = s.checks := rfl
@[simp] theorem State.setLink_streams (s : State) (a : Nat) (v : Link) : (s.setLink a v).streams = s.streams := rfl
@[simp] theorem State.setLink_waves (s : State) (a : Nat) (v : Link) : (s.setLink a v).waves = s.waves := rfl
@[simp] theorem State.setLink_posts (s : State) (a : Nat) (v : Link) : (s.setLink a v).posts = s.posts := rfl
@[simp] theorem State.setLink_plan (s : State) (a : Nat) (v : Link) : (s.setLink a v).plan = s.plan := rfl
@[simp] theorem State.setLink_power (s : State) (a : Nat) (v : Link) : (s.setLink a v).power = s.power := rfl
@[simp] theorem State.setLink_heat (s : State) (a : Nat) (v : Link) : (s.setLink a v).heat = s.heat := rfl
@[simp] theorem State.setLink_keeper (s : State) (a : Nat) (v : Link) : (s.setLink a v).keeper = s.keeper := rfl
@[simp] theorem State.setLink_units (s : State) (a : Nat) (v : Link) : (s.setLink a v).units = s.units := rfl
@[simp] theorem State.setLink_update (s : State) (a : Nat) (v : Link) : (s.setLink a v).update = s.update := rfl
@[simp] theorem State.setLink_compare (s : State) (a : Nat) (v : Link) : (s.setLink a v).compare = s.compare := rfl
@[simp] theorem State.setLink_recovery (s : State) (a : Nat) (v : Link) : (s.setLink a v).recovery = s.recovery := rfl
@[simp] theorem State.setLink_startup (s : State) (a : Nat) (v : Link) : (s.setLink a v).startup = s.startup := rfl
@[simp] theorem State.setLink_store (s : State) (a : Nat) (v : Link) : (s.setLink a v).store = s.store := rfl
@[simp] theorem State.setLink_ptp (s : State) (a : Nat) (v : Link) : (s.setLink a v).ptp = s.ptp := rfl
@[simp] theorem State.setLink_pins (s : State) (a : Nat) (v : Link) : (s.setLink a v).pins = s.pins := rfl

/-! ### setIod -/

@[simp] theorem State.setIod_pending (s : State) (a : Nat) (v : Iod) : (s.setIod a v).pending = s.pending := rfl
@[simp] theorem State.setIod_time (s : State) (a : Nat) (v : Iod) : (s.setIod a v).time = s.time := rfl
@[simp] theorem State.setIod_freeCount (s : State) (a : Nat) (v : Iod) : (s.setIod a v).freeCount = s.freeCount := rfl
@[simp] theorem State.setIod_objs (s : State) (a : Nat) (v : Iod) : (s.setIod a v).objs = s.objs := rfl
@[simp] theorem State.setIod_wrote (s : State) (a : Nat) (v : Iod) : (s.setIod a v).wrote = s.wrote := rfl
@[simp] theorem State.setIod_shadow (s : State) (a : Nat) (v : Iod) : (s.setIod a v).shadow = s.shadow := rfl
@[simp] theorem State.setIod_commits (s : State) (a : Nat) (v : Iod) : (s.setIod a v).commits = s.commits := rfl
@[simp] theorem State.setIod_cmds (s : State) (a : Nat) (v : Iod) : (s.setIod a v).cmds = s.cmds := rfl
@[simp] theorem State.setIod_kept (s : State) (a : Nat) (v : Iod) : (s.setIod a v).kept = s.kept := rfl
@[simp] theorem State.setIod_sessions (s : State) (a : Nat) (v : Iod) : (s.setIod a v).sessions = s.sessions := rfl
@[simp] theorem State.setIod_badProofs (s : State) (a : Nat) (v : Iod) : (s.setIod a v).badProofs = s.badProofs := rfl
@[simp] theorem State.setIod_lockouts (s : State) (a : Nat) (v : Iod) : (s.setIod a v).lockouts = s.lockouts := rfl
@[simp] theorem State.setIod_log (s : State) (a : Nat) (v : Iod) : (s.setIod a v).log = s.log := rfl
@[simp] theorem State.setIod_out (s : State) (a : Nat) (v : Iod) : (s.setIod a v).out = s.out := rfl
@[simp] theorem State.setIod_mem (s : State) (a : Nat) (v : Iod) : (s.setIod a v).mem = s.mem := rfl
@[simp] theorem State.setIod_poison (s : State) (a : Nat) (v : Iod) : (s.setIod a v).poison = s.poison := rfl
@[simp] theorem State.setIod_tiles (s : State) (a : Nat) (v : Iod) : (s.setIod a v).tiles = s.tiles := rfl
@[simp] theorem State.setIod_sites (s : State) (a : Nat) (v : Iod) : (s.setIod a v).sites = s.sites := rfl
@[simp] theorem State.setIod_cols (s : State) (a : Nat) (v : Iod) : (s.setIod a v).cols = s.cols := rfl
@[simp] theorem State.setIod_layers (s : State) (a : Nat) (v : Iod) : (s.setIod a v).layers = s.layers := rfl
@[simp] theorem State.setIod_gates (s : State) (a : Nat) (v : Iod) : (s.setIod a v).gates = s.gates := rfl
@[simp] theorem State.setIod_markets (s : State) (a : Nat) (v : Iod) : (s.setIod a v).markets = s.markets := rfl
@[simp] theorem State.setIod_aCond (s : State) (a : Nat) (v : Iod) : (s.setIod a v).aCond = s.aCond := rfl
@[simp] theorem State.setIod_withdrawing (s : State) (a : Nat) (v : Iod) : (s.setIod a v).withdrawing = s.withdrawing := rfl
@[simp] theorem State.setIod_pathOk (s : State) (a : Nat) (v : Iod) : (s.setIod a v).pathOk = s.pathOk := rfl
@[simp] theorem State.setIod_stations (s : State) (a : Nat) (v : Iod) : (s.setIod a v).stations = s.stations := rfl
@[simp] theorem State.setIod_fields (s : State) (a : Nat) (v : Iod) : (s.setIod a v).fields = s.fields := rfl
@[simp] theorem State.setIod_lasers (s : State) (a : Nat) (v : Iod) : (s.setIod a v).lasers = s.lasers := rfl
@[simp] theorem State.setIod_light (s : State) (a : Nat) (v : Iod) : (s.setIod a v).light = s.light := rfl
@[simp] theorem State.setIod_carryWanted (s : State) (a : Nat) (v : Iod) : (s.setIod a v).carryWanted = s.carryWanted := rfl
@[simp] theorem State.setIod_cal (s : State) (a : Nat) (v : Iod) : (s.setIod a v).cal = s.cal := rfl
@[simp] theorem State.setIod_ramps (s : State) (a : Nat) (v : Iod) : (s.setIod a v).ramps = s.ramps := rfl
@[simp] theorem State.setIod_splits (s : State) (a : Nat) (v : Iod) : (s.setIod a v).splits = s.splits := rfl
@[simp] theorem State.setIod_urgent (s : State) (a : Nat) (v : Iod) : (s.setIod a v).urgent = s.urgent := rfl
@[simp] theorem State.setIod_shaken (s : State) (a : Nat) (v : Iod) : (s.setIod a v).shaken = s.shaken := rfl
@[simp] theorem State.setIod_calAt (s : State) (a : Nat) (v : Iod) : (s.setIod a v).calAt = s.calAt := rfl
@[simp] theorem State.setIod_ringBase (s : State) (a : Nat) (v : Iod) : (s.setIod a v).ringBase = s.ringBase := rfl
@[simp] theorem State.setIod_clockLost (s : State) (a : Nat) (v : Iod) : (s.setIod a v).clockLost = s.clockLost := rfl
@[simp] theorem State.setIod_pma (s : State) (a : Nat) (v : Iod) : (s.setIod a v).pma = s.pma := rfl
@[simp] theorem State.setIod_calEv (s : State) (a : Nat) (v : Iod) : (s.setIod a v).calEv = s.calEv := rfl
@[simp] theorem State.setIod_heaters (s : State) (a : Nat) (v : Iod) : (s.setIod a v).heaters = s.heaters := rfl
@[simp] theorem State.setIod_unlocked (s : State) (a : Nat) (v : Iod) : (s.setIod a v).unlocked = s.unlocked := rfl
@[simp] theorem State.setIod_suspended (s : State) (a : Nat) (v : Iod) : (s.setIod a v).suspended = s.suspended := rfl
@[simp] theorem State.setIod_lanes (s : State) (a : Nat) (v : Iod) : (s.setIod a v).lanes = s.lanes := rfl
@[simp] theorem State.setIod_links (s : State) (a : Nat) (v : Iod) : (s.setIod a v).links = s.links := rfl
@[simp] theorem State.setIod_movers (s : State) (a : Nat) (v : Iod) : (s.setIod a v).movers = s.movers := rfl
@[simp] theorem State.setIod_boxes (s : State) (a : Nat) (v : Iod) : (s.setIod a v).boxes = s.boxes := rfl
@[simp] theorem State.setIod_checks (s : State) (a : Nat) (v : Iod) : (s.setIod a v).checks = s.checks := rfl
@[simp] theorem State.setIod_streams (s : State) (a : Nat) (v : Iod) : (s.setIod a v).streams = s.streams := rfl
@[simp] theorem State.setIod_waves (s : State) (a : Nat) (v : Iod) : (s.setIod a v).waves = s.waves := rfl
@[simp] theorem State.setIod_posts (s : State) (a : Nat) (v : Iod) : (s.setIod a v).posts = s.posts := rfl
@[simp] theorem State.setIod_plan (s : State) (a : Nat) (v : Iod) : (s.setIod a v).plan = s.plan := rfl
@[simp] theorem State.setIod_power (s : State) (a : Nat) (v : Iod) : (s.setIod a v).power = s.power := rfl
@[simp] theorem State.setIod_heat (s : State) (a : Nat) (v : Iod) : (s.setIod a v).heat = s.heat := rfl
@[simp] theorem State.setIod_keeper (s : State) (a : Nat) (v : Iod) : (s.setIod a v).keeper = s.keeper := rfl
@[simp] theorem State.setIod_units (s : State) (a : Nat) (v : Iod) : (s.setIod a v).units = s.units := rfl
@[simp] theorem State.setIod_update (s : State) (a : Nat) (v : Iod) : (s.setIod a v).update = s.update := rfl
@[simp] theorem State.setIod_compare (s : State) (a : Nat) (v : Iod) : (s.setIod a v).compare = s.compare := rfl
@[simp] theorem State.setIod_recovery (s : State) (a : Nat) (v : Iod) : (s.setIod a v).recovery = s.recovery := rfl
@[simp] theorem State.setIod_startup (s : State) (a : Nat) (v : Iod) : (s.setIod a v).startup = s.startup := rfl
@[simp] theorem State.setIod_store (s : State) (a : Nat) (v : Iod) : (s.setIod a v).store = s.store := rfl
@[simp] theorem State.setIod_ptp (s : State) (a : Nat) (v : Iod) : (s.setIod a v).ptp = s.ptp := rfl
@[simp] theorem State.setIod_pins (s : State) (a : Nat) (v : Iod) : (s.setIod a v).pins = s.pins := rfl

/-! ### setMover -/

@[simp] theorem State.setMover_pending (s : State) (a : Nat) (v : Mover) : (s.setMover a v).pending = s.pending := rfl
@[simp] theorem State.setMover_time (s : State) (a : Nat) (v : Mover) : (s.setMover a v).time = s.time := rfl
@[simp] theorem State.setMover_freeCount (s : State) (a : Nat) (v : Mover) : (s.setMover a v).freeCount = s.freeCount := rfl
@[simp] theorem State.setMover_objs (s : State) (a : Nat) (v : Mover) : (s.setMover a v).objs = s.objs := rfl
@[simp] theorem State.setMover_wrote (s : State) (a : Nat) (v : Mover) : (s.setMover a v).wrote = s.wrote := rfl
@[simp] theorem State.setMover_shadow (s : State) (a : Nat) (v : Mover) : (s.setMover a v).shadow = s.shadow := rfl
@[simp] theorem State.setMover_commits (s : State) (a : Nat) (v : Mover) : (s.setMover a v).commits = s.commits := rfl
@[simp] theorem State.setMover_cmds (s : State) (a : Nat) (v : Mover) : (s.setMover a v).cmds = s.cmds := rfl
@[simp] theorem State.setMover_kept (s : State) (a : Nat) (v : Mover) : (s.setMover a v).kept = s.kept := rfl
@[simp] theorem State.setMover_sessions (s : State) (a : Nat) (v : Mover) : (s.setMover a v).sessions = s.sessions := rfl
@[simp] theorem State.setMover_badProofs (s : State) (a : Nat) (v : Mover) : (s.setMover a v).badProofs = s.badProofs := rfl
@[simp] theorem State.setMover_lockouts (s : State) (a : Nat) (v : Mover) : (s.setMover a v).lockouts = s.lockouts := rfl
@[simp] theorem State.setMover_log (s : State) (a : Nat) (v : Mover) : (s.setMover a v).log = s.log := rfl
@[simp] theorem State.setMover_out (s : State) (a : Nat) (v : Mover) : (s.setMover a v).out = s.out := rfl
@[simp] theorem State.setMover_mem (s : State) (a : Nat) (v : Mover) : (s.setMover a v).mem = s.mem := rfl
@[simp] theorem State.setMover_poison (s : State) (a : Nat) (v : Mover) : (s.setMover a v).poison = s.poison := rfl
@[simp] theorem State.setMover_tiles (s : State) (a : Nat) (v : Mover) : (s.setMover a v).tiles = s.tiles := rfl
@[simp] theorem State.setMover_sites (s : State) (a : Nat) (v : Mover) : (s.setMover a v).sites = s.sites := rfl
@[simp] theorem State.setMover_cols (s : State) (a : Nat) (v : Mover) : (s.setMover a v).cols = s.cols := rfl
@[simp] theorem State.setMover_layers (s : State) (a : Nat) (v : Mover) : (s.setMover a v).layers = s.layers := rfl
@[simp] theorem State.setMover_gates (s : State) (a : Nat) (v : Mover) : (s.setMover a v).gates = s.gates := rfl
@[simp] theorem State.setMover_markets (s : State) (a : Nat) (v : Mover) : (s.setMover a v).markets = s.markets := rfl
@[simp] theorem State.setMover_aCond (s : State) (a : Nat) (v : Mover) : (s.setMover a v).aCond = s.aCond := rfl
@[simp] theorem State.setMover_withdrawing (s : State) (a : Nat) (v : Mover) : (s.setMover a v).withdrawing = s.withdrawing := rfl
@[simp] theorem State.setMover_pathOk (s : State) (a : Nat) (v : Mover) : (s.setMover a v).pathOk = s.pathOk := rfl
@[simp] theorem State.setMover_stations (s : State) (a : Nat) (v : Mover) : (s.setMover a v).stations = s.stations := rfl
@[simp] theorem State.setMover_fields (s : State) (a : Nat) (v : Mover) : (s.setMover a v).fields = s.fields := rfl
@[simp] theorem State.setMover_lasers (s : State) (a : Nat) (v : Mover) : (s.setMover a v).lasers = s.lasers := rfl
@[simp] theorem State.setMover_light (s : State) (a : Nat) (v : Mover) : (s.setMover a v).light = s.light := rfl
@[simp] theorem State.setMover_carryWanted (s : State) (a : Nat) (v : Mover) : (s.setMover a v).carryWanted = s.carryWanted := rfl
@[simp] theorem State.setMover_cal (s : State) (a : Nat) (v : Mover) : (s.setMover a v).cal = s.cal := rfl
@[simp] theorem State.setMover_ramps (s : State) (a : Nat) (v : Mover) : (s.setMover a v).ramps = s.ramps := rfl
@[simp] theorem State.setMover_splits (s : State) (a : Nat) (v : Mover) : (s.setMover a v).splits = s.splits := rfl
@[simp] theorem State.setMover_urgent (s : State) (a : Nat) (v : Mover) : (s.setMover a v).urgent = s.urgent := rfl
@[simp] theorem State.setMover_shaken (s : State) (a : Nat) (v : Mover) : (s.setMover a v).shaken = s.shaken := rfl
@[simp] theorem State.setMover_calAt (s : State) (a : Nat) (v : Mover) : (s.setMover a v).calAt = s.calAt := rfl
@[simp] theorem State.setMover_ringBase (s : State) (a : Nat) (v : Mover) : (s.setMover a v).ringBase = s.ringBase := rfl
@[simp] theorem State.setMover_clockLost (s : State) (a : Nat) (v : Mover) : (s.setMover a v).clockLost = s.clockLost := rfl
@[simp] theorem State.setMover_pma (s : State) (a : Nat) (v : Mover) : (s.setMover a v).pma = s.pma := rfl
@[simp] theorem State.setMover_calEv (s : State) (a : Nat) (v : Mover) : (s.setMover a v).calEv = s.calEv := rfl
@[simp] theorem State.setMover_heaters (s : State) (a : Nat) (v : Mover) : (s.setMover a v).heaters = s.heaters := rfl
@[simp] theorem State.setMover_unlocked (s : State) (a : Nat) (v : Mover) : (s.setMover a v).unlocked = s.unlocked := rfl
@[simp] theorem State.setMover_suspended (s : State) (a : Nat) (v : Mover) : (s.setMover a v).suspended = s.suspended := rfl
@[simp] theorem State.setMover_lanes (s : State) (a : Nat) (v : Mover) : (s.setMover a v).lanes = s.lanes := rfl
@[simp] theorem State.setMover_links (s : State) (a : Nat) (v : Mover) : (s.setMover a v).links = s.links := rfl
@[simp] theorem State.setMover_iods (s : State) (a : Nat) (v : Mover) : (s.setMover a v).iods = s.iods := rfl
@[simp] theorem State.setMover_boxes (s : State) (a : Nat) (v : Mover) : (s.setMover a v).boxes = s.boxes := rfl
@[simp] theorem State.setMover_checks (s : State) (a : Nat) (v : Mover) : (s.setMover a v).checks = s.checks := rfl
@[simp] theorem State.setMover_streams (s : State) (a : Nat) (v : Mover) : (s.setMover a v).streams = s.streams := rfl
@[simp] theorem State.setMover_waves (s : State) (a : Nat) (v : Mover) : (s.setMover a v).waves = s.waves := rfl
@[simp] theorem State.setMover_posts (s : State) (a : Nat) (v : Mover) : (s.setMover a v).posts = s.posts := rfl
@[simp] theorem State.setMover_plan (s : State) (a : Nat) (v : Mover) : (s.setMover a v).plan = s.plan := rfl
@[simp] theorem State.setMover_power (s : State) (a : Nat) (v : Mover) : (s.setMover a v).power = s.power := rfl
@[simp] theorem State.setMover_heat (s : State) (a : Nat) (v : Mover) : (s.setMover a v).heat = s.heat := rfl
@[simp] theorem State.setMover_keeper (s : State) (a : Nat) (v : Mover) : (s.setMover a v).keeper = s.keeper := rfl
@[simp] theorem State.setMover_units (s : State) (a : Nat) (v : Mover) : (s.setMover a v).units = s.units := rfl
@[simp] theorem State.setMover_update (s : State) (a : Nat) (v : Mover) : (s.setMover a v).update = s.update := rfl
@[simp] theorem State.setMover_compare (s : State) (a : Nat) (v : Mover) : (s.setMover a v).compare = s.compare := rfl
@[simp] theorem State.setMover_recovery (s : State) (a : Nat) (v : Mover) : (s.setMover a v).recovery = s.recovery := rfl
@[simp] theorem State.setMover_startup (s : State) (a : Nat) (v : Mover) : (s.setMover a v).startup = s.startup := rfl
@[simp] theorem State.setMover_store (s : State) (a : Nat) (v : Mover) : (s.setMover a v).store = s.store := rfl
@[simp] theorem State.setMover_ptp (s : State) (a : Nat) (v : Mover) : (s.setMover a v).ptp = s.ptp := rfl
@[simp] theorem State.setMover_pins (s : State) (a : Nat) (v : Mover) : (s.setMover a v).pins = s.pins := rfl

/-! ### setBox -/

@[simp] theorem State.setBox_pending (s : State) (a : Nat) (v : Mailbox) : (s.setBox a v).pending = s.pending := rfl
@[simp] theorem State.setBox_time (s : State) (a : Nat) (v : Mailbox) : (s.setBox a v).time = s.time := rfl
@[simp] theorem State.setBox_freeCount (s : State) (a : Nat) (v : Mailbox) : (s.setBox a v).freeCount = s.freeCount := rfl
@[simp] theorem State.setBox_objs (s : State) (a : Nat) (v : Mailbox) : (s.setBox a v).objs = s.objs := rfl
@[simp] theorem State.setBox_wrote (s : State) (a : Nat) (v : Mailbox) : (s.setBox a v).wrote = s.wrote := rfl
@[simp] theorem State.setBox_shadow (s : State) (a : Nat) (v : Mailbox) : (s.setBox a v).shadow = s.shadow := rfl
@[simp] theorem State.setBox_commits (s : State) (a : Nat) (v : Mailbox) : (s.setBox a v).commits = s.commits := rfl
@[simp] theorem State.setBox_cmds (s : State) (a : Nat) (v : Mailbox) : (s.setBox a v).cmds = s.cmds := rfl
@[simp] theorem State.setBox_kept (s : State) (a : Nat) (v : Mailbox) : (s.setBox a v).kept = s.kept := rfl
@[simp] theorem State.setBox_sessions (s : State) (a : Nat) (v : Mailbox) : (s.setBox a v).sessions = s.sessions := rfl
@[simp] theorem State.setBox_badProofs (s : State) (a : Nat) (v : Mailbox) : (s.setBox a v).badProofs = s.badProofs := rfl
@[simp] theorem State.setBox_lockouts (s : State) (a : Nat) (v : Mailbox) : (s.setBox a v).lockouts = s.lockouts := rfl
@[simp] theorem State.setBox_log (s : State) (a : Nat) (v : Mailbox) : (s.setBox a v).log = s.log := rfl
@[simp] theorem State.setBox_out (s : State) (a : Nat) (v : Mailbox) : (s.setBox a v).out = s.out := rfl
@[simp] theorem State.setBox_mem (s : State) (a : Nat) (v : Mailbox) : (s.setBox a v).mem = s.mem := rfl
@[simp] theorem State.setBox_poison (s : State) (a : Nat) (v : Mailbox) : (s.setBox a v).poison = s.poison := rfl
@[simp] theorem State.setBox_tiles (s : State) (a : Nat) (v : Mailbox) : (s.setBox a v).tiles = s.tiles := rfl
@[simp] theorem State.setBox_sites (s : State) (a : Nat) (v : Mailbox) : (s.setBox a v).sites = s.sites := rfl
@[simp] theorem State.setBox_cols (s : State) (a : Nat) (v : Mailbox) : (s.setBox a v).cols = s.cols := rfl
@[simp] theorem State.setBox_layers (s : State) (a : Nat) (v : Mailbox) : (s.setBox a v).layers = s.layers := rfl
@[simp] theorem State.setBox_gates (s : State) (a : Nat) (v : Mailbox) : (s.setBox a v).gates = s.gates := rfl
@[simp] theorem State.setBox_markets (s : State) (a : Nat) (v : Mailbox) : (s.setBox a v).markets = s.markets := rfl
@[simp] theorem State.setBox_aCond (s : State) (a : Nat) (v : Mailbox) : (s.setBox a v).aCond = s.aCond := rfl
@[simp] theorem State.setBox_withdrawing (s : State) (a : Nat) (v : Mailbox) : (s.setBox a v).withdrawing = s.withdrawing := rfl
@[simp] theorem State.setBox_pathOk (s : State) (a : Nat) (v : Mailbox) : (s.setBox a v).pathOk = s.pathOk := rfl
@[simp] theorem State.setBox_stations (s : State) (a : Nat) (v : Mailbox) : (s.setBox a v).stations = s.stations := rfl
@[simp] theorem State.setBox_fields (s : State) (a : Nat) (v : Mailbox) : (s.setBox a v).fields = s.fields := rfl
@[simp] theorem State.setBox_lasers (s : State) (a : Nat) (v : Mailbox) : (s.setBox a v).lasers = s.lasers := rfl
@[simp] theorem State.setBox_light (s : State) (a : Nat) (v : Mailbox) : (s.setBox a v).light = s.light := rfl
@[simp] theorem State.setBox_carryWanted (s : State) (a : Nat) (v : Mailbox) : (s.setBox a v).carryWanted = s.carryWanted := rfl
@[simp] theorem State.setBox_cal (s : State) (a : Nat) (v : Mailbox) : (s.setBox a v).cal = s.cal := rfl
@[simp] theorem State.setBox_ramps (s : State) (a : Nat) (v : Mailbox) : (s.setBox a v).ramps = s.ramps := rfl
@[simp] theorem State.setBox_splits (s : State) (a : Nat) (v : Mailbox) : (s.setBox a v).splits = s.splits := rfl
@[simp] theorem State.setBox_urgent (s : State) (a : Nat) (v : Mailbox) : (s.setBox a v).urgent = s.urgent := rfl
@[simp] theorem State.setBox_shaken (s : State) (a : Nat) (v : Mailbox) : (s.setBox a v).shaken = s.shaken := rfl
@[simp] theorem State.setBox_calAt (s : State) (a : Nat) (v : Mailbox) : (s.setBox a v).calAt = s.calAt := rfl
@[simp] theorem State.setBox_ringBase (s : State) (a : Nat) (v : Mailbox) : (s.setBox a v).ringBase = s.ringBase := rfl
@[simp] theorem State.setBox_clockLost (s : State) (a : Nat) (v : Mailbox) : (s.setBox a v).clockLost = s.clockLost := rfl
@[simp] theorem State.setBox_pma (s : State) (a : Nat) (v : Mailbox) : (s.setBox a v).pma = s.pma := rfl
@[simp] theorem State.setBox_calEv (s : State) (a : Nat) (v : Mailbox) : (s.setBox a v).calEv = s.calEv := rfl
@[simp] theorem State.setBox_heaters (s : State) (a : Nat) (v : Mailbox) : (s.setBox a v).heaters = s.heaters := rfl
@[simp] theorem State.setBox_unlocked (s : State) (a : Nat) (v : Mailbox) : (s.setBox a v).unlocked = s.unlocked := rfl
@[simp] theorem State.setBox_suspended (s : State) (a : Nat) (v : Mailbox) : (s.setBox a v).suspended = s.suspended := rfl
@[simp] theorem State.setBox_lanes (s : State) (a : Nat) (v : Mailbox) : (s.setBox a v).lanes = s.lanes := rfl
@[simp] theorem State.setBox_links (s : State) (a : Nat) (v : Mailbox) : (s.setBox a v).links = s.links := rfl
@[simp] theorem State.setBox_iods (s : State) (a : Nat) (v : Mailbox) : (s.setBox a v).iods = s.iods := rfl
@[simp] theorem State.setBox_movers (s : State) (a : Nat) (v : Mailbox) : (s.setBox a v).movers = s.movers := rfl
@[simp] theorem State.setBox_checks (s : State) (a : Nat) (v : Mailbox) : (s.setBox a v).checks = s.checks := rfl
@[simp] theorem State.setBox_streams (s : State) (a : Nat) (v : Mailbox) : (s.setBox a v).streams = s.streams := rfl
@[simp] theorem State.setBox_waves (s : State) (a : Nat) (v : Mailbox) : (s.setBox a v).waves = s.waves := rfl
@[simp] theorem State.setBox_posts (s : State) (a : Nat) (v : Mailbox) : (s.setBox a v).posts = s.posts := rfl
@[simp] theorem State.setBox_plan (s : State) (a : Nat) (v : Mailbox) : (s.setBox a v).plan = s.plan := rfl
@[simp] theorem State.setBox_power (s : State) (a : Nat) (v : Mailbox) : (s.setBox a v).power = s.power := rfl
@[simp] theorem State.setBox_heat (s : State) (a : Nat) (v : Mailbox) : (s.setBox a v).heat = s.heat := rfl
@[simp] theorem State.setBox_keeper (s : State) (a : Nat) (v : Mailbox) : (s.setBox a v).keeper = s.keeper := rfl
@[simp] theorem State.setBox_units (s : State) (a : Nat) (v : Mailbox) : (s.setBox a v).units = s.units := rfl
@[simp] theorem State.setBox_update (s : State) (a : Nat) (v : Mailbox) : (s.setBox a v).update = s.update := rfl
@[simp] theorem State.setBox_compare (s : State) (a : Nat) (v : Mailbox) : (s.setBox a v).compare = s.compare := rfl
@[simp] theorem State.setBox_recovery (s : State) (a : Nat) (v : Mailbox) : (s.setBox a v).recovery = s.recovery := rfl
@[simp] theorem State.setBox_startup (s : State) (a : Nat) (v : Mailbox) : (s.setBox a v).startup = s.startup := rfl
@[simp] theorem State.setBox_store (s : State) (a : Nat) (v : Mailbox) : (s.setBox a v).store = s.store := rfl
@[simp] theorem State.setBox_ptp (s : State) (a : Nat) (v : Mailbox) : (s.setBox a v).ptp = s.ptp := rfl
@[simp] theorem State.setBox_pins (s : State) (a : Nat) (v : Mailbox) : (s.setBox a v).pins = s.pins := rfl

/-! ### setCheck -/

@[simp] theorem State.setCheck_pending (s : State) (a : Nat) (v : CheckUnit) : (s.setCheck a v).pending = s.pending := rfl
@[simp] theorem State.setCheck_time (s : State) (a : Nat) (v : CheckUnit) : (s.setCheck a v).time = s.time := rfl
@[simp] theorem State.setCheck_freeCount (s : State) (a : Nat) (v : CheckUnit) : (s.setCheck a v).freeCount = s.freeCount := rfl
@[simp] theorem State.setCheck_objs (s : State) (a : Nat) (v : CheckUnit) : (s.setCheck a v).objs = s.objs := rfl
@[simp] theorem State.setCheck_wrote (s : State) (a : Nat) (v : CheckUnit) : (s.setCheck a v).wrote = s.wrote := rfl
@[simp] theorem State.setCheck_shadow (s : State) (a : Nat) (v : CheckUnit) : (s.setCheck a v).shadow = s.shadow := rfl
@[simp] theorem State.setCheck_commits (s : State) (a : Nat) (v : CheckUnit) : (s.setCheck a v).commits = s.commits := rfl
@[simp] theorem State.setCheck_cmds (s : State) (a : Nat) (v : CheckUnit) : (s.setCheck a v).cmds = s.cmds := rfl
@[simp] theorem State.setCheck_kept (s : State) (a : Nat) (v : CheckUnit) : (s.setCheck a v).kept = s.kept := rfl
@[simp] theorem State.setCheck_sessions (s : State) (a : Nat) (v : CheckUnit) : (s.setCheck a v).sessions = s.sessions := rfl
@[simp] theorem State.setCheck_badProofs (s : State) (a : Nat) (v : CheckUnit) : (s.setCheck a v).badProofs = s.badProofs := rfl
@[simp] theorem State.setCheck_lockouts (s : State) (a : Nat) (v : CheckUnit) : (s.setCheck a v).lockouts = s.lockouts := rfl
@[simp] theorem State.setCheck_log (s : State) (a : Nat) (v : CheckUnit) : (s.setCheck a v).log = s.log := rfl
@[simp] theorem State.setCheck_out (s : State) (a : Nat) (v : CheckUnit) : (s.setCheck a v).out = s.out := rfl
@[simp] theorem State.setCheck_mem (s : State) (a : Nat) (v : CheckUnit) : (s.setCheck a v).mem = s.mem := rfl
@[simp] theorem State.setCheck_poison (s : State) (a : Nat) (v : CheckUnit) : (s.setCheck a v).poison = s.poison := rfl
@[simp] theorem State.setCheck_tiles (s : State) (a : Nat) (v : CheckUnit) : (s.setCheck a v).tiles = s.tiles := rfl
@[simp] theorem State.setCheck_sites (s : State) (a : Nat) (v : CheckUnit) : (s.setCheck a v).sites = s.sites := rfl
@[simp] theorem State.setCheck_cols (s : State) (a : Nat) (v : CheckUnit) : (s.setCheck a v).cols = s.cols := rfl
@[simp] theorem State.setCheck_layers (s : State) (a : Nat) (v : CheckUnit) : (s.setCheck a v).layers = s.layers := rfl
@[simp] theorem State.setCheck_gates (s : State) (a : Nat) (v : CheckUnit) : (s.setCheck a v).gates = s.gates := rfl
@[simp] theorem State.setCheck_markets (s : State) (a : Nat) (v : CheckUnit) : (s.setCheck a v).markets = s.markets := rfl
@[simp] theorem State.setCheck_aCond (s : State) (a : Nat) (v : CheckUnit) : (s.setCheck a v).aCond = s.aCond := rfl
@[simp] theorem State.setCheck_withdrawing (s : State) (a : Nat) (v : CheckUnit) : (s.setCheck a v).withdrawing = s.withdrawing := rfl
@[simp] theorem State.setCheck_pathOk (s : State) (a : Nat) (v : CheckUnit) : (s.setCheck a v).pathOk = s.pathOk := rfl
@[simp] theorem State.setCheck_stations (s : State) (a : Nat) (v : CheckUnit) : (s.setCheck a v).stations = s.stations := rfl
@[simp] theorem State.setCheck_fields (s : State) (a : Nat) (v : CheckUnit) : (s.setCheck a v).fields = s.fields := rfl
@[simp] theorem State.setCheck_lasers (s : State) (a : Nat) (v : CheckUnit) : (s.setCheck a v).lasers = s.lasers := rfl
@[simp] theorem State.setCheck_light (s : State) (a : Nat) (v : CheckUnit) : (s.setCheck a v).light = s.light := rfl
@[simp] theorem State.setCheck_carryWanted (s : State) (a : Nat) (v : CheckUnit) : (s.setCheck a v).carryWanted = s.carryWanted := rfl
@[simp] theorem State.setCheck_cal (s : State) (a : Nat) (v : CheckUnit) : (s.setCheck a v).cal = s.cal := rfl
@[simp] theorem State.setCheck_ramps (s : State) (a : Nat) (v : CheckUnit) : (s.setCheck a v).ramps = s.ramps := rfl
@[simp] theorem State.setCheck_splits (s : State) (a : Nat) (v : CheckUnit) : (s.setCheck a v).splits = s.splits := rfl
@[simp] theorem State.setCheck_urgent (s : State) (a : Nat) (v : CheckUnit) : (s.setCheck a v).urgent = s.urgent := rfl
@[simp] theorem State.setCheck_shaken (s : State) (a : Nat) (v : CheckUnit) : (s.setCheck a v).shaken = s.shaken := rfl
@[simp] theorem State.setCheck_calAt (s : State) (a : Nat) (v : CheckUnit) : (s.setCheck a v).calAt = s.calAt := rfl
@[simp] theorem State.setCheck_ringBase (s : State) (a : Nat) (v : CheckUnit) : (s.setCheck a v).ringBase = s.ringBase := rfl
@[simp] theorem State.setCheck_clockLost (s : State) (a : Nat) (v : CheckUnit) : (s.setCheck a v).clockLost = s.clockLost := rfl
@[simp] theorem State.setCheck_pma (s : State) (a : Nat) (v : CheckUnit) : (s.setCheck a v).pma = s.pma := rfl
@[simp] theorem State.setCheck_calEv (s : State) (a : Nat) (v : CheckUnit) : (s.setCheck a v).calEv = s.calEv := rfl
@[simp] theorem State.setCheck_heaters (s : State) (a : Nat) (v : CheckUnit) : (s.setCheck a v).heaters = s.heaters := rfl
@[simp] theorem State.setCheck_unlocked (s : State) (a : Nat) (v : CheckUnit) : (s.setCheck a v).unlocked = s.unlocked := rfl
@[simp] theorem State.setCheck_suspended (s : State) (a : Nat) (v : CheckUnit) : (s.setCheck a v).suspended = s.suspended := rfl
@[simp] theorem State.setCheck_lanes (s : State) (a : Nat) (v : CheckUnit) : (s.setCheck a v).lanes = s.lanes := rfl
@[simp] theorem State.setCheck_links (s : State) (a : Nat) (v : CheckUnit) : (s.setCheck a v).links = s.links := rfl
@[simp] theorem State.setCheck_iods (s : State) (a : Nat) (v : CheckUnit) : (s.setCheck a v).iods = s.iods := rfl
@[simp] theorem State.setCheck_movers (s : State) (a : Nat) (v : CheckUnit) : (s.setCheck a v).movers = s.movers := rfl
@[simp] theorem State.setCheck_boxes (s : State) (a : Nat) (v : CheckUnit) : (s.setCheck a v).boxes = s.boxes := rfl
@[simp] theorem State.setCheck_streams (s : State) (a : Nat) (v : CheckUnit) : (s.setCheck a v).streams = s.streams := rfl
@[simp] theorem State.setCheck_waves (s : State) (a : Nat) (v : CheckUnit) : (s.setCheck a v).waves = s.waves := rfl
@[simp] theorem State.setCheck_posts (s : State) (a : Nat) (v : CheckUnit) : (s.setCheck a v).posts = s.posts := rfl
@[simp] theorem State.setCheck_plan (s : State) (a : Nat) (v : CheckUnit) : (s.setCheck a v).plan = s.plan := rfl
@[simp] theorem State.setCheck_power (s : State) (a : Nat) (v : CheckUnit) : (s.setCheck a v).power = s.power := rfl
@[simp] theorem State.setCheck_heat (s : State) (a : Nat) (v : CheckUnit) : (s.setCheck a v).heat = s.heat := rfl
@[simp] theorem State.setCheck_keeper (s : State) (a : Nat) (v : CheckUnit) : (s.setCheck a v).keeper = s.keeper := rfl
@[simp] theorem State.setCheck_units (s : State) (a : Nat) (v : CheckUnit) : (s.setCheck a v).units = s.units := rfl
@[simp] theorem State.setCheck_update (s : State) (a : Nat) (v : CheckUnit) : (s.setCheck a v).update = s.update := rfl
@[simp] theorem State.setCheck_compare (s : State) (a : Nat) (v : CheckUnit) : (s.setCheck a v).compare = s.compare := rfl
@[simp] theorem State.setCheck_recovery (s : State) (a : Nat) (v : CheckUnit) : (s.setCheck a v).recovery = s.recovery := rfl
@[simp] theorem State.setCheck_startup (s : State) (a : Nat) (v : CheckUnit) : (s.setCheck a v).startup = s.startup := rfl
@[simp] theorem State.setCheck_store (s : State) (a : Nat) (v : CheckUnit) : (s.setCheck a v).store = s.store := rfl
@[simp] theorem State.setCheck_ptp (s : State) (a : Nat) (v : CheckUnit) : (s.setCheck a v).ptp = s.ptp := rfl
@[simp] theorem State.setCheck_pins (s : State) (a : Nat) (v : CheckUnit) : (s.setCheck a v).pins = s.pins := rfl

/-! ### setStream -/

@[simp] theorem State.setStream_pending (s : State) (a : Nat) (v : Option Stream) : (s.setStream a v).pending = s.pending := rfl
@[simp] theorem State.setStream_time (s : State) (a : Nat) (v : Option Stream) : (s.setStream a v).time = s.time := rfl
@[simp] theorem State.setStream_freeCount (s : State) (a : Nat) (v : Option Stream) : (s.setStream a v).freeCount = s.freeCount := rfl
@[simp] theorem State.setStream_objs (s : State) (a : Nat) (v : Option Stream) : (s.setStream a v).objs = s.objs := rfl
@[simp] theorem State.setStream_wrote (s : State) (a : Nat) (v : Option Stream) : (s.setStream a v).wrote = s.wrote := rfl
@[simp] theorem State.setStream_shadow (s : State) (a : Nat) (v : Option Stream) : (s.setStream a v).shadow = s.shadow := rfl
@[simp] theorem State.setStream_commits (s : State) (a : Nat) (v : Option Stream) : (s.setStream a v).commits = s.commits := rfl
@[simp] theorem State.setStream_cmds (s : State) (a : Nat) (v : Option Stream) : (s.setStream a v).cmds = s.cmds := rfl
@[simp] theorem State.setStream_kept (s : State) (a : Nat) (v : Option Stream) : (s.setStream a v).kept = s.kept := rfl
@[simp] theorem State.setStream_sessions (s : State) (a : Nat) (v : Option Stream) : (s.setStream a v).sessions = s.sessions := rfl
@[simp] theorem State.setStream_badProofs (s : State) (a : Nat) (v : Option Stream) : (s.setStream a v).badProofs = s.badProofs := rfl
@[simp] theorem State.setStream_lockouts (s : State) (a : Nat) (v : Option Stream) : (s.setStream a v).lockouts = s.lockouts := rfl
@[simp] theorem State.setStream_log (s : State) (a : Nat) (v : Option Stream) : (s.setStream a v).log = s.log := rfl
@[simp] theorem State.setStream_out (s : State) (a : Nat) (v : Option Stream) : (s.setStream a v).out = s.out := rfl
@[simp] theorem State.setStream_mem (s : State) (a : Nat) (v : Option Stream) : (s.setStream a v).mem = s.mem := rfl
@[simp] theorem State.setStream_poison (s : State) (a : Nat) (v : Option Stream) : (s.setStream a v).poison = s.poison := rfl
@[simp] theorem State.setStream_tiles (s : State) (a : Nat) (v : Option Stream) : (s.setStream a v).tiles = s.tiles := rfl
@[simp] theorem State.setStream_sites (s : State) (a : Nat) (v : Option Stream) : (s.setStream a v).sites = s.sites := rfl
@[simp] theorem State.setStream_cols (s : State) (a : Nat) (v : Option Stream) : (s.setStream a v).cols = s.cols := rfl
@[simp] theorem State.setStream_layers (s : State) (a : Nat) (v : Option Stream) : (s.setStream a v).layers = s.layers := rfl
@[simp] theorem State.setStream_gates (s : State) (a : Nat) (v : Option Stream) : (s.setStream a v).gates = s.gates := rfl
@[simp] theorem State.setStream_markets (s : State) (a : Nat) (v : Option Stream) : (s.setStream a v).markets = s.markets := rfl
@[simp] theorem State.setStream_aCond (s : State) (a : Nat) (v : Option Stream) : (s.setStream a v).aCond = s.aCond := rfl
@[simp] theorem State.setStream_withdrawing (s : State) (a : Nat) (v : Option Stream) : (s.setStream a v).withdrawing = s.withdrawing := rfl
@[simp] theorem State.setStream_pathOk (s : State) (a : Nat) (v : Option Stream) : (s.setStream a v).pathOk = s.pathOk := rfl
@[simp] theorem State.setStream_stations (s : State) (a : Nat) (v : Option Stream) : (s.setStream a v).stations = s.stations := rfl
@[simp] theorem State.setStream_fields (s : State) (a : Nat) (v : Option Stream) : (s.setStream a v).fields = s.fields := rfl
@[simp] theorem State.setStream_lasers (s : State) (a : Nat) (v : Option Stream) : (s.setStream a v).lasers = s.lasers := rfl
@[simp] theorem State.setStream_light (s : State) (a : Nat) (v : Option Stream) : (s.setStream a v).light = s.light := rfl
@[simp] theorem State.setStream_carryWanted (s : State) (a : Nat) (v : Option Stream) : (s.setStream a v).carryWanted = s.carryWanted := rfl
@[simp] theorem State.setStream_cal (s : State) (a : Nat) (v : Option Stream) : (s.setStream a v).cal = s.cal := rfl
@[simp] theorem State.setStream_ramps (s : State) (a : Nat) (v : Option Stream) : (s.setStream a v).ramps = s.ramps := rfl
@[simp] theorem State.setStream_splits (s : State) (a : Nat) (v : Option Stream) : (s.setStream a v).splits = s.splits := rfl
@[simp] theorem State.setStream_urgent (s : State) (a : Nat) (v : Option Stream) : (s.setStream a v).urgent = s.urgent := rfl
@[simp] theorem State.setStream_shaken (s : State) (a : Nat) (v : Option Stream) : (s.setStream a v).shaken = s.shaken := rfl
@[simp] theorem State.setStream_calAt (s : State) (a : Nat) (v : Option Stream) : (s.setStream a v).calAt = s.calAt := rfl
@[simp] theorem State.setStream_ringBase (s : State) (a : Nat) (v : Option Stream) : (s.setStream a v).ringBase = s.ringBase := rfl
@[simp] theorem State.setStream_clockLost (s : State) (a : Nat) (v : Option Stream) : (s.setStream a v).clockLost = s.clockLost := rfl
@[simp] theorem State.setStream_pma (s : State) (a : Nat) (v : Option Stream) : (s.setStream a v).pma = s.pma := rfl
@[simp] theorem State.setStream_calEv (s : State) (a : Nat) (v : Option Stream) : (s.setStream a v).calEv = s.calEv := rfl
@[simp] theorem State.setStream_heaters (s : State) (a : Nat) (v : Option Stream) : (s.setStream a v).heaters = s.heaters := rfl
@[simp] theorem State.setStream_unlocked (s : State) (a : Nat) (v : Option Stream) : (s.setStream a v).unlocked = s.unlocked := rfl
@[simp] theorem State.setStream_suspended (s : State) (a : Nat) (v : Option Stream) : (s.setStream a v).suspended = s.suspended := rfl
@[simp] theorem State.setStream_lanes (s : State) (a : Nat) (v : Option Stream) : (s.setStream a v).lanes = s.lanes := rfl
@[simp] theorem State.setStream_links (s : State) (a : Nat) (v : Option Stream) : (s.setStream a v).links = s.links := rfl
@[simp] theorem State.setStream_iods (s : State) (a : Nat) (v : Option Stream) : (s.setStream a v).iods = s.iods := rfl
@[simp] theorem State.setStream_movers (s : State) (a : Nat) (v : Option Stream) : (s.setStream a v).movers = s.movers := rfl
@[simp] theorem State.setStream_boxes (s : State) (a : Nat) (v : Option Stream) : (s.setStream a v).boxes = s.boxes := rfl
@[simp] theorem State.setStream_checks (s : State) (a : Nat) (v : Option Stream) : (s.setStream a v).checks = s.checks := rfl
@[simp] theorem State.setStream_waves (s : State) (a : Nat) (v : Option Stream) : (s.setStream a v).waves = s.waves := rfl
@[simp] theorem State.setStream_posts (s : State) (a : Nat) (v : Option Stream) : (s.setStream a v).posts = s.posts := rfl
@[simp] theorem State.setStream_plan (s : State) (a : Nat) (v : Option Stream) : (s.setStream a v).plan = s.plan := rfl
@[simp] theorem State.setStream_power (s : State) (a : Nat) (v : Option Stream) : (s.setStream a v).power = s.power := rfl
@[simp] theorem State.setStream_heat (s : State) (a : Nat) (v : Option Stream) : (s.setStream a v).heat = s.heat := rfl
@[simp] theorem State.setStream_keeper (s : State) (a : Nat) (v : Option Stream) : (s.setStream a v).keeper = s.keeper := rfl
@[simp] theorem State.setStream_units (s : State) (a : Nat) (v : Option Stream) : (s.setStream a v).units = s.units := rfl
@[simp] theorem State.setStream_update (s : State) (a : Nat) (v : Option Stream) : (s.setStream a v).update = s.update := rfl
@[simp] theorem State.setStream_compare (s : State) (a : Nat) (v : Option Stream) : (s.setStream a v).compare = s.compare := rfl
@[simp] theorem State.setStream_recovery (s : State) (a : Nat) (v : Option Stream) : (s.setStream a v).recovery = s.recovery := rfl
@[simp] theorem State.setStream_startup (s : State) (a : Nat) (v : Option Stream) : (s.setStream a v).startup = s.startup := rfl
@[simp] theorem State.setStream_store (s : State) (a : Nat) (v : Option Stream) : (s.setStream a v).store = s.store := rfl
@[simp] theorem State.setStream_ptp (s : State) (a : Nat) (v : Option Stream) : (s.setStream a v).ptp = s.ptp := rfl
@[simp] theorem State.setStream_pins (s : State) (a : Nat) (v : Option Stream) : (s.setStream a v).pins = s.pins := rfl

/-! ### setWave -/

@[simp] theorem State.setWave_pending (s : State) (a b : Nat) (v : Option Wave) : (s.setWave a b v).pending = s.pending := rfl
@[simp] theorem State.setWave_time (s : State) (a b : Nat) (v : Option Wave) : (s.setWave a b v).time = s.time := rfl
@[simp] theorem State.setWave_freeCount (s : State) (a b : Nat) (v : Option Wave) : (s.setWave a b v).freeCount = s.freeCount := rfl
@[simp] theorem State.setWave_objs (s : State) (a b : Nat) (v : Option Wave) : (s.setWave a b v).objs = s.objs := rfl
@[simp] theorem State.setWave_wrote (s : State) (a b : Nat) (v : Option Wave) : (s.setWave a b v).wrote = s.wrote := rfl
@[simp] theorem State.setWave_shadow (s : State) (a b : Nat) (v : Option Wave) : (s.setWave a b v).shadow = s.shadow := rfl
@[simp] theorem State.setWave_commits (s : State) (a b : Nat) (v : Option Wave) : (s.setWave a b v).commits = s.commits := rfl
@[simp] theorem State.setWave_cmds (s : State) (a b : Nat) (v : Option Wave) : (s.setWave a b v).cmds = s.cmds := rfl
@[simp] theorem State.setWave_kept (s : State) (a b : Nat) (v : Option Wave) : (s.setWave a b v).kept = s.kept := rfl
@[simp] theorem State.setWave_sessions (s : State) (a b : Nat) (v : Option Wave) : (s.setWave a b v).sessions = s.sessions := rfl
@[simp] theorem State.setWave_badProofs (s : State) (a b : Nat) (v : Option Wave) : (s.setWave a b v).badProofs = s.badProofs := rfl
@[simp] theorem State.setWave_lockouts (s : State) (a b : Nat) (v : Option Wave) : (s.setWave a b v).lockouts = s.lockouts := rfl
@[simp] theorem State.setWave_log (s : State) (a b : Nat) (v : Option Wave) : (s.setWave a b v).log = s.log := rfl
@[simp] theorem State.setWave_out (s : State) (a b : Nat) (v : Option Wave) : (s.setWave a b v).out = s.out := rfl
@[simp] theorem State.setWave_mem (s : State) (a b : Nat) (v : Option Wave) : (s.setWave a b v).mem = s.mem := rfl
@[simp] theorem State.setWave_poison (s : State) (a b : Nat) (v : Option Wave) : (s.setWave a b v).poison = s.poison := rfl
@[simp] theorem State.setWave_tiles (s : State) (a b : Nat) (v : Option Wave) : (s.setWave a b v).tiles = s.tiles := rfl
@[simp] theorem State.setWave_sites (s : State) (a b : Nat) (v : Option Wave) : (s.setWave a b v).sites = s.sites := rfl
@[simp] theorem State.setWave_cols (s : State) (a b : Nat) (v : Option Wave) : (s.setWave a b v).cols = s.cols := rfl
@[simp] theorem State.setWave_layers (s : State) (a b : Nat) (v : Option Wave) : (s.setWave a b v).layers = s.layers := rfl
@[simp] theorem State.setWave_gates (s : State) (a b : Nat) (v : Option Wave) : (s.setWave a b v).gates = s.gates := rfl
@[simp] theorem State.setWave_markets (s : State) (a b : Nat) (v : Option Wave) : (s.setWave a b v).markets = s.markets := rfl
@[simp] theorem State.setWave_aCond (s : State) (a b : Nat) (v : Option Wave) : (s.setWave a b v).aCond = s.aCond := rfl
@[simp] theorem State.setWave_withdrawing (s : State) (a b : Nat) (v : Option Wave) : (s.setWave a b v).withdrawing = s.withdrawing := rfl
@[simp] theorem State.setWave_pathOk (s : State) (a b : Nat) (v : Option Wave) : (s.setWave a b v).pathOk = s.pathOk := rfl
@[simp] theorem State.setWave_stations (s : State) (a b : Nat) (v : Option Wave) : (s.setWave a b v).stations = s.stations := rfl
@[simp] theorem State.setWave_fields (s : State) (a b : Nat) (v : Option Wave) : (s.setWave a b v).fields = s.fields := rfl
@[simp] theorem State.setWave_lasers (s : State) (a b : Nat) (v : Option Wave) : (s.setWave a b v).lasers = s.lasers := rfl
@[simp] theorem State.setWave_light (s : State) (a b : Nat) (v : Option Wave) : (s.setWave a b v).light = s.light := rfl
@[simp] theorem State.setWave_carryWanted (s : State) (a b : Nat) (v : Option Wave) : (s.setWave a b v).carryWanted = s.carryWanted := rfl
@[simp] theorem State.setWave_cal (s : State) (a b : Nat) (v : Option Wave) : (s.setWave a b v).cal = s.cal := rfl
@[simp] theorem State.setWave_ramps (s : State) (a b : Nat) (v : Option Wave) : (s.setWave a b v).ramps = s.ramps := rfl
@[simp] theorem State.setWave_splits (s : State) (a b : Nat) (v : Option Wave) : (s.setWave a b v).splits = s.splits := rfl
@[simp] theorem State.setWave_urgent (s : State) (a b : Nat) (v : Option Wave) : (s.setWave a b v).urgent = s.urgent := rfl
@[simp] theorem State.setWave_shaken (s : State) (a b : Nat) (v : Option Wave) : (s.setWave a b v).shaken = s.shaken := rfl
@[simp] theorem State.setWave_calAt (s : State) (a b : Nat) (v : Option Wave) : (s.setWave a b v).calAt = s.calAt := rfl
@[simp] theorem State.setWave_ringBase (s : State) (a b : Nat) (v : Option Wave) : (s.setWave a b v).ringBase = s.ringBase := rfl
@[simp] theorem State.setWave_clockLost (s : State) (a b : Nat) (v : Option Wave) : (s.setWave a b v).clockLost = s.clockLost := rfl
@[simp] theorem State.setWave_pma (s : State) (a b : Nat) (v : Option Wave) : (s.setWave a b v).pma = s.pma := rfl
@[simp] theorem State.setWave_calEv (s : State) (a b : Nat) (v : Option Wave) : (s.setWave a b v).calEv = s.calEv := rfl
@[simp] theorem State.setWave_heaters (s : State) (a b : Nat) (v : Option Wave) : (s.setWave a b v).heaters = s.heaters := rfl
@[simp] theorem State.setWave_unlocked (s : State) (a b : Nat) (v : Option Wave) : (s.setWave a b v).unlocked = s.unlocked := rfl
@[simp] theorem State.setWave_suspended (s : State) (a b : Nat) (v : Option Wave) : (s.setWave a b v).suspended = s.suspended := rfl
@[simp] theorem State.setWave_lanes (s : State) (a b : Nat) (v : Option Wave) : (s.setWave a b v).lanes = s.lanes := rfl
@[simp] theorem State.setWave_links (s : State) (a b : Nat) (v : Option Wave) : (s.setWave a b v).links = s.links := rfl
@[simp] theorem State.setWave_iods (s : State) (a b : Nat) (v : Option Wave) : (s.setWave a b v).iods = s.iods := rfl
@[simp] theorem State.setWave_movers (s : State) (a b : Nat) (v : Option Wave) : (s.setWave a b v).movers = s.movers := rfl
@[simp] theorem State.setWave_boxes (s : State) (a b : Nat) (v : Option Wave) : (s.setWave a b v).boxes = s.boxes := rfl
@[simp] theorem State.setWave_checks (s : State) (a b : Nat) (v : Option Wave) : (s.setWave a b v).checks = s.checks := rfl
@[simp] theorem State.setWave_streams (s : State) (a b : Nat) (v : Option Wave) : (s.setWave a b v).streams = s.streams := rfl
@[simp] theorem State.setWave_posts (s : State) (a b : Nat) (v : Option Wave) : (s.setWave a b v).posts = s.posts := rfl
@[simp] theorem State.setWave_plan (s : State) (a b : Nat) (v : Option Wave) : (s.setWave a b v).plan = s.plan := rfl
@[simp] theorem State.setWave_power (s : State) (a b : Nat) (v : Option Wave) : (s.setWave a b v).power = s.power := rfl
@[simp] theorem State.setWave_heat (s : State) (a b : Nat) (v : Option Wave) : (s.setWave a b v).heat = s.heat := rfl
@[simp] theorem State.setWave_keeper (s : State) (a b : Nat) (v : Option Wave) : (s.setWave a b v).keeper = s.keeper := rfl
@[simp] theorem State.setWave_units (s : State) (a b : Nat) (v : Option Wave) : (s.setWave a b v).units = s.units := rfl
@[simp] theorem State.setWave_update (s : State) (a b : Nat) (v : Option Wave) : (s.setWave a b v).update = s.update := rfl
@[simp] theorem State.setWave_compare (s : State) (a b : Nat) (v : Option Wave) : (s.setWave a b v).compare = s.compare := rfl
@[simp] theorem State.setWave_recovery (s : State) (a b : Nat) (v : Option Wave) : (s.setWave a b v).recovery = s.recovery := rfl
@[simp] theorem State.setWave_startup (s : State) (a b : Nat) (v : Option Wave) : (s.setWave a b v).startup = s.startup := rfl
@[simp] theorem State.setWave_store (s : State) (a b : Nat) (v : Option Wave) : (s.setWave a b v).store = s.store := rfl
@[simp] theorem State.setWave_ptp (s : State) (a b : Nat) (v : Option Wave) : (s.setWave a b v).ptp = s.ptp := rfl
@[simp] theorem State.setWave_pins (s : State) (a b : Nat) (v : Option Wave) : (s.setWave a b v).pins = s.pins := rfl

/-! ### setUnit -/

@[simp] theorem State.setUnit_pending (s : State) (a : Nat) (v : CtrlUnit) : (s.setUnit a v).pending = s.pending := rfl
@[simp] theorem State.setUnit_time (s : State) (a : Nat) (v : CtrlUnit) : (s.setUnit a v).time = s.time := rfl
@[simp] theorem State.setUnit_freeCount (s : State) (a : Nat) (v : CtrlUnit) : (s.setUnit a v).freeCount = s.freeCount := rfl
@[simp] theorem State.setUnit_objs (s : State) (a : Nat) (v : CtrlUnit) : (s.setUnit a v).objs = s.objs := rfl
@[simp] theorem State.setUnit_wrote (s : State) (a : Nat) (v : CtrlUnit) : (s.setUnit a v).wrote = s.wrote := rfl
@[simp] theorem State.setUnit_shadow (s : State) (a : Nat) (v : CtrlUnit) : (s.setUnit a v).shadow = s.shadow := rfl
@[simp] theorem State.setUnit_commits (s : State) (a : Nat) (v : CtrlUnit) : (s.setUnit a v).commits = s.commits := rfl
@[simp] theorem State.setUnit_cmds (s : State) (a : Nat) (v : CtrlUnit) : (s.setUnit a v).cmds = s.cmds := rfl
@[simp] theorem State.setUnit_kept (s : State) (a : Nat) (v : CtrlUnit) : (s.setUnit a v).kept = s.kept := rfl
@[simp] theorem State.setUnit_sessions (s : State) (a : Nat) (v : CtrlUnit) : (s.setUnit a v).sessions = s.sessions := rfl
@[simp] theorem State.setUnit_badProofs (s : State) (a : Nat) (v : CtrlUnit) : (s.setUnit a v).badProofs = s.badProofs := rfl
@[simp] theorem State.setUnit_lockouts (s : State) (a : Nat) (v : CtrlUnit) : (s.setUnit a v).lockouts = s.lockouts := rfl
@[simp] theorem State.setUnit_log (s : State) (a : Nat) (v : CtrlUnit) : (s.setUnit a v).log = s.log := rfl
@[simp] theorem State.setUnit_out (s : State) (a : Nat) (v : CtrlUnit) : (s.setUnit a v).out = s.out := rfl
@[simp] theorem State.setUnit_mem (s : State) (a : Nat) (v : CtrlUnit) : (s.setUnit a v).mem = s.mem := rfl
@[simp] theorem State.setUnit_poison (s : State) (a : Nat) (v : CtrlUnit) : (s.setUnit a v).poison = s.poison := rfl
@[simp] theorem State.setUnit_tiles (s : State) (a : Nat) (v : CtrlUnit) : (s.setUnit a v).tiles = s.tiles := rfl
@[simp] theorem State.setUnit_sites (s : State) (a : Nat) (v : CtrlUnit) : (s.setUnit a v).sites = s.sites := rfl
@[simp] theorem State.setUnit_cols (s : State) (a : Nat) (v : CtrlUnit) : (s.setUnit a v).cols = s.cols := rfl
@[simp] theorem State.setUnit_layers (s : State) (a : Nat) (v : CtrlUnit) : (s.setUnit a v).layers = s.layers := rfl
@[simp] theorem State.setUnit_gates (s : State) (a : Nat) (v : CtrlUnit) : (s.setUnit a v).gates = s.gates := rfl
@[simp] theorem State.setUnit_markets (s : State) (a : Nat) (v : CtrlUnit) : (s.setUnit a v).markets = s.markets := rfl
@[simp] theorem State.setUnit_aCond (s : State) (a : Nat) (v : CtrlUnit) : (s.setUnit a v).aCond = s.aCond := rfl
@[simp] theorem State.setUnit_withdrawing (s : State) (a : Nat) (v : CtrlUnit) : (s.setUnit a v).withdrawing = s.withdrawing := rfl
@[simp] theorem State.setUnit_pathOk (s : State) (a : Nat) (v : CtrlUnit) : (s.setUnit a v).pathOk = s.pathOk := rfl
@[simp] theorem State.setUnit_stations (s : State) (a : Nat) (v : CtrlUnit) : (s.setUnit a v).stations = s.stations := rfl
@[simp] theorem State.setUnit_fields (s : State) (a : Nat) (v : CtrlUnit) : (s.setUnit a v).fields = s.fields := rfl
@[simp] theorem State.setUnit_lasers (s : State) (a : Nat) (v : CtrlUnit) : (s.setUnit a v).lasers = s.lasers := rfl
@[simp] theorem State.setUnit_light (s : State) (a : Nat) (v : CtrlUnit) : (s.setUnit a v).light = s.light := rfl
@[simp] theorem State.setUnit_carryWanted (s : State) (a : Nat) (v : CtrlUnit) : (s.setUnit a v).carryWanted = s.carryWanted := rfl
@[simp] theorem State.setUnit_cal (s : State) (a : Nat) (v : CtrlUnit) : (s.setUnit a v).cal = s.cal := rfl
@[simp] theorem State.setUnit_ramps (s : State) (a : Nat) (v : CtrlUnit) : (s.setUnit a v).ramps = s.ramps := rfl
@[simp] theorem State.setUnit_splits (s : State) (a : Nat) (v : CtrlUnit) : (s.setUnit a v).splits = s.splits := rfl
@[simp] theorem State.setUnit_urgent (s : State) (a : Nat) (v : CtrlUnit) : (s.setUnit a v).urgent = s.urgent := rfl
@[simp] theorem State.setUnit_shaken (s : State) (a : Nat) (v : CtrlUnit) : (s.setUnit a v).shaken = s.shaken := rfl
@[simp] theorem State.setUnit_calAt (s : State) (a : Nat) (v : CtrlUnit) : (s.setUnit a v).calAt = s.calAt := rfl
@[simp] theorem State.setUnit_ringBase (s : State) (a : Nat) (v : CtrlUnit) : (s.setUnit a v).ringBase = s.ringBase := rfl
@[simp] theorem State.setUnit_clockLost (s : State) (a : Nat) (v : CtrlUnit) : (s.setUnit a v).clockLost = s.clockLost := rfl
@[simp] theorem State.setUnit_pma (s : State) (a : Nat) (v : CtrlUnit) : (s.setUnit a v).pma = s.pma := rfl
@[simp] theorem State.setUnit_calEv (s : State) (a : Nat) (v : CtrlUnit) : (s.setUnit a v).calEv = s.calEv := rfl
@[simp] theorem State.setUnit_heaters (s : State) (a : Nat) (v : CtrlUnit) : (s.setUnit a v).heaters = s.heaters := rfl
@[simp] theorem State.setUnit_unlocked (s : State) (a : Nat) (v : CtrlUnit) : (s.setUnit a v).unlocked = s.unlocked := rfl
@[simp] theorem State.setUnit_suspended (s : State) (a : Nat) (v : CtrlUnit) : (s.setUnit a v).suspended = s.suspended := rfl
@[simp] theorem State.setUnit_lanes (s : State) (a : Nat) (v : CtrlUnit) : (s.setUnit a v).lanes = s.lanes := rfl
@[simp] theorem State.setUnit_links (s : State) (a : Nat) (v : CtrlUnit) : (s.setUnit a v).links = s.links := rfl
@[simp] theorem State.setUnit_iods (s : State) (a : Nat) (v : CtrlUnit) : (s.setUnit a v).iods = s.iods := rfl
@[simp] theorem State.setUnit_movers (s : State) (a : Nat) (v : CtrlUnit) : (s.setUnit a v).movers = s.movers := rfl
@[simp] theorem State.setUnit_boxes (s : State) (a : Nat) (v : CtrlUnit) : (s.setUnit a v).boxes = s.boxes := rfl
@[simp] theorem State.setUnit_checks (s : State) (a : Nat) (v : CtrlUnit) : (s.setUnit a v).checks = s.checks := rfl
@[simp] theorem State.setUnit_streams (s : State) (a : Nat) (v : CtrlUnit) : (s.setUnit a v).streams = s.streams := rfl
@[simp] theorem State.setUnit_waves (s : State) (a : Nat) (v : CtrlUnit) : (s.setUnit a v).waves = s.waves := rfl
@[simp] theorem State.setUnit_posts (s : State) (a : Nat) (v : CtrlUnit) : (s.setUnit a v).posts = s.posts := rfl
@[simp] theorem State.setUnit_plan (s : State) (a : Nat) (v : CtrlUnit) : (s.setUnit a v).plan = s.plan := rfl
@[simp] theorem State.setUnit_power (s : State) (a : Nat) (v : CtrlUnit) : (s.setUnit a v).power = s.power := rfl
@[simp] theorem State.setUnit_heat (s : State) (a : Nat) (v : CtrlUnit) : (s.setUnit a v).heat = s.heat := rfl
@[simp] theorem State.setUnit_keeper (s : State) (a : Nat) (v : CtrlUnit) : (s.setUnit a v).keeper = s.keeper := rfl
@[simp] theorem State.setUnit_update (s : State) (a : Nat) (v : CtrlUnit) : (s.setUnit a v).update = s.update := rfl
@[simp] theorem State.setUnit_compare (s : State) (a : Nat) (v : CtrlUnit) : (s.setUnit a v).compare = s.compare := rfl
@[simp] theorem State.setUnit_recovery (s : State) (a : Nat) (v : CtrlUnit) : (s.setUnit a v).recovery = s.recovery := rfl
@[simp] theorem State.setUnit_startup (s : State) (a : Nat) (v : CtrlUnit) : (s.setUnit a v).startup = s.startup := rfl
@[simp] theorem State.setUnit_store (s : State) (a : Nat) (v : CtrlUnit) : (s.setUnit a v).store = s.store := rfl
@[simp] theorem State.setUnit_ptp (s : State) (a : Nat) (v : CtrlUnit) : (s.setUnit a v).ptp = s.ptp := rfl
@[simp] theorem State.setUnit_pins (s : State) (a : Nat) (v : CtrlUnit) : (s.setUnit a v).pins = s.pins := rfl

/-! ### setSession -/

@[simp] theorem State.setSession_pending (s : State) (a : Nat) (v : Option Session) : (s.setSession a v).pending = s.pending := rfl
@[simp] theorem State.setSession_time (s : State) (a : Nat) (v : Option Session) : (s.setSession a v).time = s.time := rfl
@[simp] theorem State.setSession_freeCount (s : State) (a : Nat) (v : Option Session) : (s.setSession a v).freeCount = s.freeCount := rfl
@[simp] theorem State.setSession_objs (s : State) (a : Nat) (v : Option Session) : (s.setSession a v).objs = s.objs := rfl
@[simp] theorem State.setSession_wrote (s : State) (a : Nat) (v : Option Session) : (s.setSession a v).wrote = s.wrote := rfl
@[simp] theorem State.setSession_shadow (s : State) (a : Nat) (v : Option Session) : (s.setSession a v).shadow = s.shadow := rfl
@[simp] theorem State.setSession_commits (s : State) (a : Nat) (v : Option Session) : (s.setSession a v).commits = s.commits := rfl
@[simp] theorem State.setSession_cmds (s : State) (a : Nat) (v : Option Session) : (s.setSession a v).cmds = s.cmds := rfl
@[simp] theorem State.setSession_kept (s : State) (a : Nat) (v : Option Session) : (s.setSession a v).kept = s.kept := rfl
@[simp] theorem State.setSession_badProofs (s : State) (a : Nat) (v : Option Session) : (s.setSession a v).badProofs = s.badProofs := rfl
@[simp] theorem State.setSession_lockouts (s : State) (a : Nat) (v : Option Session) : (s.setSession a v).lockouts = s.lockouts := rfl
@[simp] theorem State.setSession_log (s : State) (a : Nat) (v : Option Session) : (s.setSession a v).log = s.log := rfl
@[simp] theorem State.setSession_out (s : State) (a : Nat) (v : Option Session) : (s.setSession a v).out = s.out := rfl
@[simp] theorem State.setSession_mem (s : State) (a : Nat) (v : Option Session) : (s.setSession a v).mem = s.mem := rfl
@[simp] theorem State.setSession_poison (s : State) (a : Nat) (v : Option Session) : (s.setSession a v).poison = s.poison := rfl
@[simp] theorem State.setSession_tiles (s : State) (a : Nat) (v : Option Session) : (s.setSession a v).tiles = s.tiles := rfl
@[simp] theorem State.setSession_sites (s : State) (a : Nat) (v : Option Session) : (s.setSession a v).sites = s.sites := rfl
@[simp] theorem State.setSession_cols (s : State) (a : Nat) (v : Option Session) : (s.setSession a v).cols = s.cols := rfl
@[simp] theorem State.setSession_layers (s : State) (a : Nat) (v : Option Session) : (s.setSession a v).layers = s.layers := rfl
@[simp] theorem State.setSession_gates (s : State) (a : Nat) (v : Option Session) : (s.setSession a v).gates = s.gates := rfl
@[simp] theorem State.setSession_markets (s : State) (a : Nat) (v : Option Session) : (s.setSession a v).markets = s.markets := rfl
@[simp] theorem State.setSession_aCond (s : State) (a : Nat) (v : Option Session) : (s.setSession a v).aCond = s.aCond := rfl
@[simp] theorem State.setSession_withdrawing (s : State) (a : Nat) (v : Option Session) : (s.setSession a v).withdrawing = s.withdrawing := rfl
@[simp] theorem State.setSession_pathOk (s : State) (a : Nat) (v : Option Session) : (s.setSession a v).pathOk = s.pathOk := rfl
@[simp] theorem State.setSession_stations (s : State) (a : Nat) (v : Option Session) : (s.setSession a v).stations = s.stations := rfl
@[simp] theorem State.setSession_fields (s : State) (a : Nat) (v : Option Session) : (s.setSession a v).fields = s.fields := rfl
@[simp] theorem State.setSession_lasers (s : State) (a : Nat) (v : Option Session) : (s.setSession a v).lasers = s.lasers := rfl
@[simp] theorem State.setSession_light (s : State) (a : Nat) (v : Option Session) : (s.setSession a v).light = s.light := rfl
@[simp] theorem State.setSession_carryWanted (s : State) (a : Nat) (v : Option Session) : (s.setSession a v).carryWanted = s.carryWanted := rfl
@[simp] theorem State.setSession_cal (s : State) (a : Nat) (v : Option Session) : (s.setSession a v).cal = s.cal := rfl
@[simp] theorem State.setSession_ramps (s : State) (a : Nat) (v : Option Session) : (s.setSession a v).ramps = s.ramps := rfl
@[simp] theorem State.setSession_splits (s : State) (a : Nat) (v : Option Session) : (s.setSession a v).splits = s.splits := rfl
@[simp] theorem State.setSession_urgent (s : State) (a : Nat) (v : Option Session) : (s.setSession a v).urgent = s.urgent := rfl
@[simp] theorem State.setSession_shaken (s : State) (a : Nat) (v : Option Session) : (s.setSession a v).shaken = s.shaken := rfl
@[simp] theorem State.setSession_calAt (s : State) (a : Nat) (v : Option Session) : (s.setSession a v).calAt = s.calAt := rfl
@[simp] theorem State.setSession_ringBase (s : State) (a : Nat) (v : Option Session) : (s.setSession a v).ringBase = s.ringBase := rfl
@[simp] theorem State.setSession_clockLost (s : State) (a : Nat) (v : Option Session) : (s.setSession a v).clockLost = s.clockLost := rfl
@[simp] theorem State.setSession_pma (s : State) (a : Nat) (v : Option Session) : (s.setSession a v).pma = s.pma := rfl
@[simp] theorem State.setSession_calEv (s : State) (a : Nat) (v : Option Session) : (s.setSession a v).calEv = s.calEv := rfl
@[simp] theorem State.setSession_heaters (s : State) (a : Nat) (v : Option Session) : (s.setSession a v).heaters = s.heaters := rfl
@[simp] theorem State.setSession_unlocked (s : State) (a : Nat) (v : Option Session) : (s.setSession a v).unlocked = s.unlocked := rfl
@[simp] theorem State.setSession_suspended (s : State) (a : Nat) (v : Option Session) : (s.setSession a v).suspended = s.suspended := rfl
@[simp] theorem State.setSession_lanes (s : State) (a : Nat) (v : Option Session) : (s.setSession a v).lanes = s.lanes := rfl
@[simp] theorem State.setSession_links (s : State) (a : Nat) (v : Option Session) : (s.setSession a v).links = s.links := rfl
@[simp] theorem State.setSession_iods (s : State) (a : Nat) (v : Option Session) : (s.setSession a v).iods = s.iods := rfl
@[simp] theorem State.setSession_movers (s : State) (a : Nat) (v : Option Session) : (s.setSession a v).movers = s.movers := rfl
@[simp] theorem State.setSession_boxes (s : State) (a : Nat) (v : Option Session) : (s.setSession a v).boxes = s.boxes := rfl
@[simp] theorem State.setSession_checks (s : State) (a : Nat) (v : Option Session) : (s.setSession a v).checks = s.checks := rfl
@[simp] theorem State.setSession_streams (s : State) (a : Nat) (v : Option Session) : (s.setSession a v).streams = s.streams := rfl
@[simp] theorem State.setSession_waves (s : State) (a : Nat) (v : Option Session) : (s.setSession a v).waves = s.waves := rfl
@[simp] theorem State.setSession_posts (s : State) (a : Nat) (v : Option Session) : (s.setSession a v).posts = s.posts := rfl
@[simp] theorem State.setSession_plan (s : State) (a : Nat) (v : Option Session) : (s.setSession a v).plan = s.plan := rfl
@[simp] theorem State.setSession_power (s : State) (a : Nat) (v : Option Session) : (s.setSession a v).power = s.power := rfl
@[simp] theorem State.setSession_heat (s : State) (a : Nat) (v : Option Session) : (s.setSession a v).heat = s.heat := rfl
@[simp] theorem State.setSession_keeper (s : State) (a : Nat) (v : Option Session) : (s.setSession a v).keeper = s.keeper := rfl
@[simp] theorem State.setSession_units (s : State) (a : Nat) (v : Option Session) : (s.setSession a v).units = s.units := rfl
@[simp] theorem State.setSession_update (s : State) (a : Nat) (v : Option Session) : (s.setSession a v).update = s.update := rfl
@[simp] theorem State.setSession_compare (s : State) (a : Nat) (v : Option Session) : (s.setSession a v).compare = s.compare := rfl
@[simp] theorem State.setSession_recovery (s : State) (a : Nat) (v : Option Session) : (s.setSession a v).recovery = s.recovery := rfl
@[simp] theorem State.setSession_startup (s : State) (a : Nat) (v : Option Session) : (s.setSession a v).startup = s.startup := rfl
@[simp] theorem State.setSession_store (s : State) (a : Nat) (v : Option Session) : (s.setSession a v).store = s.store := rfl
@[simp] theorem State.setSession_ptp (s : State) (a : Nat) (v : Option Session) : (s.setSession a v).ptp = s.ptp := rfl
@[simp] theorem State.setSession_pins (s : State) (a : Nat) (v : Option Session) : (s.setSession a v).pins = s.pins := rfl

/-! ### Adding to a counter when there is something to add -/

@[simp] theorem State.count_pending (s : State) (o : Obj) (i n : Nat) : (s.count o i n).pending = s.pending := by unfold State.count; split <;> rfl
@[simp] theorem State.count_time (s : State) (o : Obj) (i n : Nat) : (s.count o i n).time = s.time := by unfold State.count; split <;> rfl
@[simp] theorem State.count_freeCount (s : State) (o : Obj) (i n : Nat) : (s.count o i n).freeCount = s.freeCount := by unfold State.count; split <;> rfl
@[simp] theorem State.count_wrote (s : State) (o : Obj) (i n : Nat) : (s.count o i n).wrote = s.wrote := by unfold State.count; split <;> rfl
@[simp] theorem State.count_shadow (s : State) (o : Obj) (i n : Nat) : (s.count o i n).shadow = s.shadow := by unfold State.count; split <;> rfl
@[simp] theorem State.count_commits (s : State) (o : Obj) (i n : Nat) : (s.count o i n).commits = s.commits := by unfold State.count; split <;> rfl
@[simp] theorem State.count_cmds (s : State) (o : Obj) (i n : Nat) : (s.count o i n).cmds = s.cmds := by unfold State.count; split <;> rfl
@[simp] theorem State.count_kept (s : State) (o : Obj) (i n : Nat) : (s.count o i n).kept = s.kept := by unfold State.count; split <;> rfl
@[simp] theorem State.count_sessions (s : State) (o : Obj) (i n : Nat) : (s.count o i n).sessions = s.sessions := by unfold State.count; split <;> rfl
@[simp] theorem State.count_badProofs (s : State) (o : Obj) (i n : Nat) : (s.count o i n).badProofs = s.badProofs := by unfold State.count; split <;> rfl
@[simp] theorem State.count_lockouts (s : State) (o : Obj) (i n : Nat) : (s.count o i n).lockouts = s.lockouts := by unfold State.count; split <;> rfl
@[simp] theorem State.count_log (s : State) (o : Obj) (i n : Nat) : (s.count o i n).log = s.log := by unfold State.count; split <;> rfl
@[simp] theorem State.count_out (s : State) (o : Obj) (i n : Nat) : (s.count o i n).out = s.out := by unfold State.count; split <;> rfl
@[simp] theorem State.count_mem (s : State) (o : Obj) (i n : Nat) : (s.count o i n).mem = s.mem := by unfold State.count; split <;> rfl
@[simp] theorem State.count_poison (s : State) (o : Obj) (i n : Nat) : (s.count o i n).poison = s.poison := by unfold State.count; split <;> rfl
@[simp] theorem State.count_tiles (s : State) (o : Obj) (i n : Nat) : (s.count o i n).tiles = s.tiles := by unfold State.count; split <;> rfl
@[simp] theorem State.count_sites (s : State) (o : Obj) (i n : Nat) : (s.count o i n).sites = s.sites := by unfold State.count; split <;> rfl
@[simp] theorem State.count_cols (s : State) (o : Obj) (i n : Nat) : (s.count o i n).cols = s.cols := by unfold State.count; split <;> rfl
@[simp] theorem State.count_layers (s : State) (o : Obj) (i n : Nat) : (s.count o i n).layers = s.layers := by unfold State.count; split <;> rfl
@[simp] theorem State.count_gates (s : State) (o : Obj) (i n : Nat) : (s.count o i n).gates = s.gates := by unfold State.count; split <;> rfl
@[simp] theorem State.count_markets (s : State) (o : Obj) (i n : Nat) : (s.count o i n).markets = s.markets := by unfold State.count; split <;> rfl
@[simp] theorem State.count_aCond (s : State) (o : Obj) (i n : Nat) : (s.count o i n).aCond = s.aCond := by unfold State.count; split <;> rfl
@[simp] theorem State.count_withdrawing (s : State) (o : Obj) (i n : Nat) : (s.count o i n).withdrawing = s.withdrawing := by unfold State.count; split <;> rfl
@[simp] theorem State.count_pathOk (s : State) (o : Obj) (i n : Nat) : (s.count o i n).pathOk = s.pathOk := by unfold State.count; split <;> rfl
@[simp] theorem State.count_stations (s : State) (o : Obj) (i n : Nat) : (s.count o i n).stations = s.stations := by unfold State.count; split <;> rfl
@[simp] theorem State.count_fields (s : State) (o : Obj) (i n : Nat) : (s.count o i n).fields = s.fields := by unfold State.count; split <;> rfl
@[simp] theorem State.count_lasers (s : State) (o : Obj) (i n : Nat) : (s.count o i n).lasers = s.lasers := by unfold State.count; split <;> rfl
@[simp] theorem State.count_light (s : State) (o : Obj) (i n : Nat) : (s.count o i n).light = s.light := by unfold State.count; split <;> rfl
@[simp] theorem State.count_carryWanted (s : State) (o : Obj) (i n : Nat) : (s.count o i n).carryWanted = s.carryWanted := by unfold State.count; split <;> rfl
@[simp] theorem State.count_cal (s : State) (o : Obj) (i n : Nat) : (s.count o i n).cal = s.cal := by unfold State.count; split <;> rfl
@[simp] theorem State.count_ramps (s : State) (o : Obj) (i n : Nat) : (s.count o i n).ramps = s.ramps := by unfold State.count; split <;> rfl
@[simp] theorem State.count_splits (s : State) (o : Obj) (i n : Nat) : (s.count o i n).splits = s.splits := by unfold State.count; split <;> rfl
@[simp] theorem State.count_urgent (s : State) (o : Obj) (i n : Nat) : (s.count o i n).urgent = s.urgent := by unfold State.count; split <;> rfl
@[simp] theorem State.count_shaken (s : State) (o : Obj) (i n : Nat) : (s.count o i n).shaken = s.shaken := by unfold State.count; split <;> rfl
@[simp] theorem State.count_calAt (s : State) (o : Obj) (i n : Nat) : (s.count o i n).calAt = s.calAt := by unfold State.count; split <;> rfl
@[simp] theorem State.count_ringBase (s : State) (o : Obj) (i n : Nat) : (s.count o i n).ringBase = s.ringBase := by unfold State.count; split <;> rfl
@[simp] theorem State.count_clockLost (s : State) (o : Obj) (i n : Nat) : (s.count o i n).clockLost = s.clockLost := by unfold State.count; split <;> rfl
@[simp] theorem State.count_pma (s : State) (o : Obj) (i n : Nat) : (s.count o i n).pma = s.pma := by unfold State.count; split <;> rfl
@[simp] theorem State.count_calEv (s : State) (o : Obj) (i n : Nat) : (s.count o i n).calEv = s.calEv := by unfold State.count; split <;> rfl
@[simp] theorem State.count_heaters (s : State) (o : Obj) (i n : Nat) : (s.count o i n).heaters = s.heaters := by unfold State.count; split <;> rfl
@[simp] theorem State.count_unlocked (s : State) (o : Obj) (i n : Nat) : (s.count o i n).unlocked = s.unlocked := by unfold State.count; split <;> rfl
@[simp] theorem State.count_suspended (s : State) (o : Obj) (i n : Nat) : (s.count o i n).suspended = s.suspended := by unfold State.count; split <;> rfl
@[simp] theorem State.count_lanes (s : State) (o : Obj) (i n : Nat) : (s.count o i n).lanes = s.lanes := by unfold State.count; split <;> rfl
@[simp] theorem State.count_links (s : State) (o : Obj) (i n : Nat) : (s.count o i n).links = s.links := by unfold State.count; split <;> rfl
@[simp] theorem State.count_iods (s : State) (o : Obj) (i n : Nat) : (s.count o i n).iods = s.iods := by unfold State.count; split <;> rfl
@[simp] theorem State.count_movers (s : State) (o : Obj) (i n : Nat) : (s.count o i n).movers = s.movers := by unfold State.count; split <;> rfl
@[simp] theorem State.count_boxes (s : State) (o : Obj) (i n : Nat) : (s.count o i n).boxes = s.boxes := by unfold State.count; split <;> rfl
@[simp] theorem State.count_checks (s : State) (o : Obj) (i n : Nat) : (s.count o i n).checks = s.checks := by unfold State.count; split <;> rfl
@[simp] theorem State.count_streams (s : State) (o : Obj) (i n : Nat) : (s.count o i n).streams = s.streams := by unfold State.count; split <;> rfl
@[simp] theorem State.count_waves (s : State) (o : Obj) (i n : Nat) : (s.count o i n).waves = s.waves := by unfold State.count; split <;> rfl
@[simp] theorem State.count_posts (s : State) (o : Obj) (i n : Nat) : (s.count o i n).posts = s.posts := by unfold State.count; split <;> rfl
@[simp] theorem State.count_plan (s : State) (o : Obj) (i n : Nat) : (s.count o i n).plan = s.plan := by unfold State.count; split <;> rfl
@[simp] theorem State.count_power (s : State) (o : Obj) (i n : Nat) : (s.count o i n).power = s.power := by unfold State.count; split <;> rfl
@[simp] theorem State.count_heat (s : State) (o : Obj) (i n : Nat) : (s.count o i n).heat = s.heat := by unfold State.count; split <;> rfl
@[simp] theorem State.count_keeper (s : State) (o : Obj) (i n : Nat) : (s.count o i n).keeper = s.keeper := by unfold State.count; split <;> rfl
@[simp] theorem State.count_units (s : State) (o : Obj) (i n : Nat) : (s.count o i n).units = s.units := by unfold State.count; split <;> rfl
@[simp] theorem State.count_update (s : State) (o : Obj) (i n : Nat) : (s.count o i n).update = s.update := by unfold State.count; split <;> rfl
@[simp] theorem State.count_compare (s : State) (o : Obj) (i n : Nat) : (s.count o i n).compare = s.compare := by unfold State.count; split <;> rfl
@[simp] theorem State.count_recovery (s : State) (o : Obj) (i n : Nat) : (s.count o i n).recovery = s.recovery := by unfold State.count; split <;> rfl
@[simp] theorem State.count_startup (s : State) (o : Obj) (i n : Nat) : (s.count o i n).startup = s.startup := by unfold State.count; split <;> rfl
@[simp] theorem State.count_store (s : State) (o : Obj) (i n : Nat) : (s.count o i n).store = s.store := by unfold State.count; split <;> rfl
@[simp] theorem State.count_ptp (s : State) (o : Obj) (i n : Nat) : (s.count o i n).ptp = s.ptp := by unfold State.count; split <;> rfl
@[simp] theorem State.count_pins (s : State) (o : Obj) (i n : Nat) : (s.count o i n).pins = s.pins := by unfold State.count; split <;> rfl

/-! ### Several units of memory -/

@[simp] theorem State.putUnits_pending (s : State) (a : Nat) (l : List Cell32) : (s.putUnits a l).pending = s.pending := by
  induction l generalizing s a with
  | nil => rfl
  | cons u r ih => rw [State.putUnits, ih, State.putUnit_pending]
@[simp] theorem State.putUnits_time (s : State) (a : Nat) (l : List Cell32) : (s.putUnits a l).time = s.time := by
  induction l generalizing s a with
  | nil => rfl
  | cons u r ih => rw [State.putUnits, ih, State.putUnit_time]
@[simp] theorem State.putUnits_freeCount (s : State) (a : Nat) (l : List Cell32) : (s.putUnits a l).freeCount = s.freeCount := by
  induction l generalizing s a with
  | nil => rfl
  | cons u r ih => rw [State.putUnits, ih, State.putUnit_freeCount]
@[simp] theorem State.putUnits_objs (s : State) (a : Nat) (l : List Cell32) : (s.putUnits a l).objs = s.objs := by
  induction l generalizing s a with
  | nil => rfl
  | cons u r ih => rw [State.putUnits, ih, State.putUnit_objs]
@[simp] theorem State.putUnits_wrote (s : State) (a : Nat) (l : List Cell32) : (s.putUnits a l).wrote = s.wrote := by
  induction l generalizing s a with
  | nil => rfl
  | cons u r ih => rw [State.putUnits, ih, State.putUnit_wrote]
@[simp] theorem State.putUnits_shadow (s : State) (a : Nat) (l : List Cell32) : (s.putUnits a l).shadow = s.shadow := by
  induction l generalizing s a with
  | nil => rfl
  | cons u r ih => rw [State.putUnits, ih, State.putUnit_shadow]
@[simp] theorem State.putUnits_commits (s : State) (a : Nat) (l : List Cell32) : (s.putUnits a l).commits = s.commits := by
  induction l generalizing s a with
  | nil => rfl
  | cons u r ih => rw [State.putUnits, ih, State.putUnit_commits]
@[simp] theorem State.putUnits_cmds (s : State) (a : Nat) (l : List Cell32) : (s.putUnits a l).cmds = s.cmds := by
  induction l generalizing s a with
  | nil => rfl
  | cons u r ih => rw [State.putUnits, ih, State.putUnit_cmds]
@[simp] theorem State.putUnits_kept (s : State) (a : Nat) (l : List Cell32) : (s.putUnits a l).kept = s.kept := by
  induction l generalizing s a with
  | nil => rfl
  | cons u r ih => rw [State.putUnits, ih, State.putUnit_kept]
@[simp] theorem State.putUnits_sessions (s : State) (a : Nat) (l : List Cell32) : (s.putUnits a l).sessions = s.sessions := by
  induction l generalizing s a with
  | nil => rfl
  | cons u r ih => rw [State.putUnits, ih, State.putUnit_sessions]
@[simp] theorem State.putUnits_badProofs (s : State) (a : Nat) (l : List Cell32) : (s.putUnits a l).badProofs = s.badProofs := by
  induction l generalizing s a with
  | nil => rfl
  | cons u r ih => rw [State.putUnits, ih, State.putUnit_badProofs]
@[simp] theorem State.putUnits_lockouts (s : State) (a : Nat) (l : List Cell32) : (s.putUnits a l).lockouts = s.lockouts := by
  induction l generalizing s a with
  | nil => rfl
  | cons u r ih => rw [State.putUnits, ih, State.putUnit_lockouts]
@[simp] theorem State.putUnits_log (s : State) (a : Nat) (l : List Cell32) : (s.putUnits a l).log = s.log := by
  induction l generalizing s a with
  | nil => rfl
  | cons u r ih => rw [State.putUnits, ih, State.putUnit_log]
@[simp] theorem State.putUnits_out (s : State) (a : Nat) (l : List Cell32) : (s.putUnits a l).out = s.out := by
  induction l generalizing s a with
  | nil => rfl
  | cons u r ih => rw [State.putUnits, ih, State.putUnit_out]
@[simp] theorem State.putUnits_tiles (s : State) (a : Nat) (l : List Cell32) : (s.putUnits a l).tiles = s.tiles := by
  induction l generalizing s a with
  | nil => rfl
  | cons u r ih => rw [State.putUnits, ih, State.putUnit_tiles]
@[simp] theorem State.putUnits_sites (s : State) (a : Nat) (l : List Cell32) : (s.putUnits a l).sites = s.sites := by
  induction l generalizing s a with
  | nil => rfl
  | cons u r ih => rw [State.putUnits, ih, State.putUnit_sites]
@[simp] theorem State.putUnits_cols (s : State) (a : Nat) (l : List Cell32) : (s.putUnits a l).cols = s.cols := by
  induction l generalizing s a with
  | nil => rfl
  | cons u r ih => rw [State.putUnits, ih, State.putUnit_cols]
@[simp] theorem State.putUnits_layers (s : State) (a : Nat) (l : List Cell32) : (s.putUnits a l).layers = s.layers := by
  induction l generalizing s a with
  | nil => rfl
  | cons u r ih => rw [State.putUnits, ih, State.putUnit_layers]
@[simp] theorem State.putUnits_gates (s : State) (a : Nat) (l : List Cell32) : (s.putUnits a l).gates = s.gates := by
  induction l generalizing s a with
  | nil => rfl
  | cons u r ih => rw [State.putUnits, ih, State.putUnit_gates]
@[simp] theorem State.putUnits_markets (s : State) (a : Nat) (l : List Cell32) : (s.putUnits a l).markets = s.markets := by
  induction l generalizing s a with
  | nil => rfl
  | cons u r ih => rw [State.putUnits, ih, State.putUnit_markets]
@[simp] theorem State.putUnits_aCond (s : State) (a : Nat) (l : List Cell32) : (s.putUnits a l).aCond = s.aCond := by
  induction l generalizing s a with
  | nil => rfl
  | cons u r ih => rw [State.putUnits, ih, State.putUnit_aCond]
@[simp] theorem State.putUnits_withdrawing (s : State) (a : Nat) (l : List Cell32) : (s.putUnits a l).withdrawing = s.withdrawing := by
  induction l generalizing s a with
  | nil => rfl
  | cons u r ih => rw [State.putUnits, ih, State.putUnit_withdrawing]
@[simp] theorem State.putUnits_pathOk (s : State) (a : Nat) (l : List Cell32) : (s.putUnits a l).pathOk = s.pathOk := by
  induction l generalizing s a with
  | nil => rfl
  | cons u r ih => rw [State.putUnits, ih, State.putUnit_pathOk]
@[simp] theorem State.putUnits_stations (s : State) (a : Nat) (l : List Cell32) : (s.putUnits a l).stations = s.stations := by
  induction l generalizing s a with
  | nil => rfl
  | cons u r ih => rw [State.putUnits, ih, State.putUnit_stations]
@[simp] theorem State.putUnits_fields (s : State) (a : Nat) (l : List Cell32) : (s.putUnits a l).fields = s.fields := by
  induction l generalizing s a with
  | nil => rfl
  | cons u r ih => rw [State.putUnits, ih, State.putUnit_fields]
@[simp] theorem State.putUnits_lasers (s : State) (a : Nat) (l : List Cell32) : (s.putUnits a l).lasers = s.lasers := by
  induction l generalizing s a with
  | nil => rfl
  | cons u r ih => rw [State.putUnits, ih, State.putUnit_lasers]
@[simp] theorem State.putUnits_light (s : State) (a : Nat) (l : List Cell32) : (s.putUnits a l).light = s.light := by
  induction l generalizing s a with
  | nil => rfl
  | cons u r ih => rw [State.putUnits, ih, State.putUnit_light]
@[simp] theorem State.putUnits_carryWanted (s : State) (a : Nat) (l : List Cell32) : (s.putUnits a l).carryWanted = s.carryWanted := by
  induction l generalizing s a with
  | nil => rfl
  | cons u r ih => rw [State.putUnits, ih, State.putUnit_carryWanted]
@[simp] theorem State.putUnits_cal (s : State) (a : Nat) (l : List Cell32) : (s.putUnits a l).cal = s.cal := by
  induction l generalizing s a with
  | nil => rfl
  | cons u r ih => rw [State.putUnits, ih, State.putUnit_cal]
@[simp] theorem State.putUnits_ramps (s : State) (a : Nat) (l : List Cell32) : (s.putUnits a l).ramps = s.ramps := by
  induction l generalizing s a with
  | nil => rfl
  | cons u r ih => rw [State.putUnits, ih, State.putUnit_ramps]
@[simp] theorem State.putUnits_splits (s : State) (a : Nat) (l : List Cell32) : (s.putUnits a l).splits = s.splits := by
  induction l generalizing s a with
  | nil => rfl
  | cons u r ih => rw [State.putUnits, ih, State.putUnit_splits]
@[simp] theorem State.putUnits_urgent (s : State) (a : Nat) (l : List Cell32) : (s.putUnits a l).urgent = s.urgent := by
  induction l generalizing s a with
  | nil => rfl
  | cons u r ih => rw [State.putUnits, ih, State.putUnit_urgent]
@[simp] theorem State.putUnits_shaken (s : State) (a : Nat) (l : List Cell32) : (s.putUnits a l).shaken = s.shaken := by
  induction l generalizing s a with
  | nil => rfl
  | cons u r ih => rw [State.putUnits, ih, State.putUnit_shaken]
@[simp] theorem State.putUnits_calAt (s : State) (a : Nat) (l : List Cell32) : (s.putUnits a l).calAt = s.calAt := by
  induction l generalizing s a with
  | nil => rfl
  | cons u r ih => rw [State.putUnits, ih, State.putUnit_calAt]
@[simp] theorem State.putUnits_ringBase (s : State) (a : Nat) (l : List Cell32) : (s.putUnits a l).ringBase = s.ringBase := by
  induction l generalizing s a with
  | nil => rfl
  | cons u r ih => rw [State.putUnits, ih, State.putUnit_ringBase]
@[simp] theorem State.putUnits_clockLost (s : State) (a : Nat) (l : List Cell32) : (s.putUnits a l).clockLost = s.clockLost := by
  induction l generalizing s a with
  | nil => rfl
  | cons u r ih => rw [State.putUnits, ih, State.putUnit_clockLost]
@[simp] theorem State.putUnits_pma (s : State) (a : Nat) (l : List Cell32) : (s.putUnits a l).pma = s.pma := by
  induction l generalizing s a with
  | nil => rfl
  | cons u r ih => rw [State.putUnits, ih, State.putUnit_pma]
@[simp] theorem State.putUnits_calEv (s : State) (a : Nat) (l : List Cell32) : (s.putUnits a l).calEv = s.calEv := by
  induction l generalizing s a with
  | nil => rfl
  | cons u r ih => rw [State.putUnits, ih, State.putUnit_calEv]
@[simp] theorem State.putUnits_heaters (s : State) (a : Nat) (l : List Cell32) : (s.putUnits a l).heaters = s.heaters := by
  induction l generalizing s a with
  | nil => rfl
  | cons u r ih => rw [State.putUnits, ih, State.putUnit_heaters]
@[simp] theorem State.putUnits_unlocked (s : State) (a : Nat) (l : List Cell32) : (s.putUnits a l).unlocked = s.unlocked := by
  induction l generalizing s a with
  | nil => rfl
  | cons u r ih => rw [State.putUnits, ih, State.putUnit_unlocked]
@[simp] theorem State.putUnits_suspended (s : State) (a : Nat) (l : List Cell32) : (s.putUnits a l).suspended = s.suspended := by
  induction l generalizing s a with
  | nil => rfl
  | cons u r ih => rw [State.putUnits, ih, State.putUnit_suspended]
@[simp] theorem State.putUnits_lanes (s : State) (a : Nat) (l : List Cell32) : (s.putUnits a l).lanes = s.lanes := by
  induction l generalizing s a with
  | nil => rfl
  | cons u r ih => rw [State.putUnits, ih, State.putUnit_lanes]
@[simp] theorem State.putUnits_links (s : State) (a : Nat) (l : List Cell32) : (s.putUnits a l).links = s.links := by
  induction l generalizing s a with
  | nil => rfl
  | cons u r ih => rw [State.putUnits, ih, State.putUnit_links]
@[simp] theorem State.putUnits_iods (s : State) (a : Nat) (l : List Cell32) : (s.putUnits a l).iods = s.iods := by
  induction l generalizing s a with
  | nil => rfl
  | cons u r ih => rw [State.putUnits, ih, State.putUnit_iods]
@[simp] theorem State.putUnits_movers (s : State) (a : Nat) (l : List Cell32) : (s.putUnits a l).movers = s.movers := by
  induction l generalizing s a with
  | nil => rfl
  | cons u r ih => rw [State.putUnits, ih, State.putUnit_movers]
@[simp] theorem State.putUnits_boxes (s : State) (a : Nat) (l : List Cell32) : (s.putUnits a l).boxes = s.boxes := by
  induction l generalizing s a with
  | nil => rfl
  | cons u r ih => rw [State.putUnits, ih, State.putUnit_boxes]
@[simp] theorem State.putUnits_checks (s : State) (a : Nat) (l : List Cell32) : (s.putUnits a l).checks = s.checks := by
  induction l generalizing s a with
  | nil => rfl
  | cons u r ih => rw [State.putUnits, ih, State.putUnit_checks]
@[simp] theorem State.putUnits_streams (s : State) (a : Nat) (l : List Cell32) : (s.putUnits a l).streams = s.streams := by
  induction l generalizing s a with
  | nil => rfl
  | cons u r ih => rw [State.putUnits, ih, State.putUnit_streams]
@[simp] theorem State.putUnits_waves (s : State) (a : Nat) (l : List Cell32) : (s.putUnits a l).waves = s.waves := by
  induction l generalizing s a with
  | nil => rfl
  | cons u r ih => rw [State.putUnits, ih, State.putUnit_waves]
@[simp] theorem State.putUnits_posts (s : State) (a : Nat) (l : List Cell32) : (s.putUnits a l).posts = s.posts := by
  induction l generalizing s a with
  | nil => rfl
  | cons u r ih => rw [State.putUnits, ih, State.putUnit_posts]
@[simp] theorem State.putUnits_plan (s : State) (a : Nat) (l : List Cell32) : (s.putUnits a l).plan = s.plan := by
  induction l generalizing s a with
  | nil => rfl
  | cons u r ih => rw [State.putUnits, ih, State.putUnit_plan]
@[simp] theorem State.putUnits_power (s : State) (a : Nat) (l : List Cell32) : (s.putUnits a l).power = s.power := by
  induction l generalizing s a with
  | nil => rfl
  | cons u r ih => rw [State.putUnits, ih, State.putUnit_power]
@[simp] theorem State.putUnits_heat (s : State) (a : Nat) (l : List Cell32) : (s.putUnits a l).heat = s.heat := by
  induction l generalizing s a with
  | nil => rfl
  | cons u r ih => rw [State.putUnits, ih, State.putUnit_heat]
@[simp] theorem State.putUnits_keeper (s : State) (a : Nat) (l : List Cell32) : (s.putUnits a l).keeper = s.keeper := by
  induction l generalizing s a with
  | nil => rfl
  | cons u r ih => rw [State.putUnits, ih, State.putUnit_keeper]
@[simp] theorem State.putUnits_units (s : State) (a : Nat) (l : List Cell32) : (s.putUnits a l).units = s.units := by
  induction l generalizing s a with
  | nil => rfl
  | cons u r ih => rw [State.putUnits, ih, State.putUnit_units]
@[simp] theorem State.putUnits_update (s : State) (a : Nat) (l : List Cell32) : (s.putUnits a l).update = s.update := by
  induction l generalizing s a with
  | nil => rfl
  | cons u r ih => rw [State.putUnits, ih, State.putUnit_update]
@[simp] theorem State.putUnits_compare (s : State) (a : Nat) (l : List Cell32) : (s.putUnits a l).compare = s.compare := by
  induction l generalizing s a with
  | nil => rfl
  | cons u r ih => rw [State.putUnits, ih, State.putUnit_compare]
@[simp] theorem State.putUnits_recovery (s : State) (a : Nat) (l : List Cell32) : (s.putUnits a l).recovery = s.recovery := by
  induction l generalizing s a with
  | nil => rfl
  | cons u r ih => rw [State.putUnits, ih, State.putUnit_recovery]
@[simp] theorem State.putUnits_startup (s : State) (a : Nat) (l : List Cell32) : (s.putUnits a l).startup = s.startup := by
  induction l generalizing s a with
  | nil => rfl
  | cons u r ih => rw [State.putUnits, ih, State.putUnit_startup]
@[simp] theorem State.putUnits_store (s : State) (a : Nat) (l : List Cell32) : (s.putUnits a l).store = s.store := by
  induction l generalizing s a with
  | nil => rfl
  | cons u r ih => rw [State.putUnits, ih, State.putUnit_store]
@[simp] theorem State.putUnits_ptp (s : State) (a : Nat) (l : List Cell32) : (s.putUnits a l).ptp = s.ptp := by
  induction l generalizing s a with
  | nil => rfl
  | cons u r ih => rw [State.putUnits, ih, State.putUnit_ptp]
@[simp] theorem State.putUnits_pins (s : State) (a : Nat) (l : List Cell32) : (s.putUnits a l).pins = s.pins := by
  induction l generalizing s a with
  | nil => rfl
  | cons u r ih => rw [State.putUnits, ih, State.putUnit_pins]

end Sys2Proof.Machine
end

