-- ==== Sys2Proof/Laws/Store.lean ====
section
/-!
SUPPORT. The stores: reading after writing, and that every memory operation keeps the canonical form.
-/

namespace Sys2Proof.Machine

/-! ### Finite maps -/

@[simp] theorem mapGet_mapSet_same {κ α : Type} [DecidableEq κ] (d : α) (m : AMap κ α) (k : κ) (v : α) :
    mapGet d (mapSet m k v) k = v := by
  induction m with
  | nil => simp [mapSet, mapGet]
  | cons p r ih => simp only [mapSet]; split <;> simp_all [mapGet]

theorem mapGet_mapSet_ne {κ α : Type} [DecidableEq κ] (d : α) (m : AMap κ α) {k k' : κ} (v : α) (h : k' ≠ k) :
    mapGet d (mapSet m k v) k' = mapGet d m k' := by
  induction m with
  | nil => simp [mapSet, mapGet, h.symm]
  | cons p r ih =>
    simp only [mapSet]
    split
    · subst_vars; simp [mapGet, h.symm]
    · simp only [mapGet, ih]

theorem mapGet_mapSet {κ α : Type} [DecidableEq κ] (d : α) (m : AMap κ α) (k k' : κ) (v : α) :
    mapGet d (mapSet m k v) k' = if k' = k then v else mapGet d m k' := by
  split
  · subst_vars; simp
  · exact mapGet_mapSet_ne d m v ‹_›

@[simp] theorem mapGet_mapDel_same {κ α : Type} [DecidableEq κ] (d : α) (m : AMap κ α) (k : κ) :
    mapGet d (mapDel m k) k = d := by
  induction m with
  | nil => rfl
  | cons p r ih => simp only [mapDel]; split <;> simp_all [mapGet]

theorem mapGet_mapDel_ne {κ α : Type} [DecidableEq κ] (d : α) (m : AMap κ α) {k k' : κ} (h : k' ≠ k) :
    mapGet d (mapDel m k) k' = mapGet d m k' := by
  induction m with
  | nil => rfl
  | cons p r ih =>
    simp only [mapDel]
    split
    · subst_vars; simp [mapGet, h.symm, ih]
    · simp only [mapGet, ih]

/-! ### Byte memory -/

/-- The canonical form as one fact about the list: its head is not 0, the rest follows it, and the rest is canonical. -/
theorem memOk_cons {p : Nat × BitVec 8} {r : Memory} :
    memOk (p :: r) = true ↔ p.2 ≠ 0 ∧ (∀ q, r.head? = some q → p.1 < q.1) ∧ memOk r = true := by
  cases r with
  | nil => simp [memOk]
  | cons q r => simp [memOk, and_assoc]

/-- Every address behind the head of a canonical memory is higher. -/
theorem memOk_above {p : Nat × BitVec 8} {r : Memory} (h : memOk (p :: r) = true) : ∀ q ∈ r, p.1 < q.1 := by
  induction r generalizing p with
  | nil => simp
  | cons x r ih =>
    obtain ⟨_, h2, h3⟩ := memOk_cons.1 h
    intro q hq
    rcases List.mem_cons.1 hq with rfl | hq
    · exact h2 _ rfl
    · exact lt_trans (h2 x rfl) (ih h3 q hq)

/-- A canonical memory, from its head and what follows. -/
theorem memOk_mk {p : Nat × BitVec 8} {r : Memory} (h0 : p.2 ≠ 0) (h1 : ∀ q ∈ r, p.1 < q.1) (h2 : memOk r = true) :
    memOk (p :: r) = true :=
  memOk_cons.2 ⟨h0, fun q hq => h1 q (List.mem_of_head? hq), h2⟩

/-- The addresses listed after a write were listed before, or are the one written. -/
theorem memPut_mem {m : Memory} {a : Nat} {b : BitVec 8} : ∀ q ∈ memPut m a b, q ∈ m ∨ q.1 = a := by
  induction m with
  | nil => intro q; simp only [memPut]; split <;> simp_all
  | cons p r ih =>
    intro q hq
    simp only [memPut] at hq
    split at hq
    · split at hq
      · exact .inl hq
      · rcases List.mem_cons.1 hq with rfl | hq
        · exact .inr rfl
        · exact .inl hq
    · split at hq
      · split at hq
        · exact .inl (List.mem_cons_of_mem _ hq)
        · rcases List.mem_cons.1 hq with rfl | hq
          · exact .inr rfl
          · exact .inl (List.mem_cons_of_mem _ hq)
      · rcases List.mem_cons.1 hq with rfl | hq
        · exact .inl (List.mem_cons_self ..)
        · exact (ih q hq).imp (List.mem_cons_of_mem _) id

/-- A write keeps the canonical form. -/
theorem memPut_wf {m : Memory} (a : Nat) (b : BitVec 8) (h : m.wf) : (memPut m a b).wf := by
  induction m with
  | nil => simp only [memPut]; split <;> simp_all [Memory.wf, memOk]
  | cons p r ih =>
    have hr : memOk r = true := (memOk_cons.1 h).2.2
    have h0 := (memOk_cons.1 h).1
    have ha := memOk_above h
    simp only [memPut]
    split
    · split
      · exact h
      · rename_i hlt hb
        refine memOk_mk hb (fun q hq => ?_) h
        rcases List.mem_cons.1 hq with rfl | hq
        · exact hlt
        · exact lt_trans hlt (ha q hq)
    · split
      · split
        · exact hr
        · rename_i hne hb
          exact memOk_mk hb (fun q hq => by subst_vars; exact ha q hq) hr
      · refine memOk_mk h0 (fun q hq => ?_) (ih hr)
        rcases memPut_mem q hq with hq | hq
        · exact ha q hq
        · omega

/-- A clear keeps the canonical form. -/
theorem memClear_wf {m : Memory} (lo hi : Nat) (h : m.wf) : (memClear m lo hi).wf := by
  induction m with
  | nil => rfl
  | cons p r ih =>
    have hr : memOk r = true := (memOk_cons.1 h).2.2
    simp only [memClear, List.filter_cons]
    split
    · exact memOk_mk (memOk_cons.1 h).1 (fun q hq => memOk_above h q (List.mem_filter.1 hq).1) (ih hr)
    · exact ih hr

/-- A write of several bytes keeps the canonical form. -/
theorem memPutNum_wf {m : Memory} (a n v : Nat) (h : m.wf) : (memPutNum m a n v).wf := by
  induction n generalizing m a v with
  | zero => exact h
  | succ n ih => exact ih _ _ (memPut_wf _ _ h)

/-- No byte is listed before the head of a canonical memory: it reads 0. -/
theorem memByte_below {r : Memory} {a : Nat} (h : ∀ q ∈ r, a < q.1) : memByte r a = 0 := by
  induction r with
  | nil => rfl
  | cons p r ih =>
    have := h p (List.mem_cons_self ..)
    simp only [memByte]
    rw [if_neg (by omega)]
    exact ih (fun q hq => h q (List.mem_cons_of_mem _ hq))

/-- A byte reads what was written to it, and every other byte as before. -/
theorem memByte_memPut {m : Memory} (a a' : Nat) (b : BitVec 8) (h : m.wf) :
    memByte (memPut m a b) a' = if a' = a then b else memByte m a' := by
  induction m with
  | nil =>
    simp only [memPut]
    split <;> split <;> (simp_all [memByte]; try omega)
  | cons p r ih =>
    have hr : memOk r = true := (memOk_cons.1 h).2.2
    have ha := memOk_above h
    simp only [memPut]
    split
    · rename_i hlt
      have h0 : memByte (p :: r) a = 0 := memByte_below (fun q hq => by
        rcases List.mem_cons.1 hq with rfl | hq
        · exact hlt
        · exact lt_trans hlt (ha q hq))
      split
      · rename_i hb
        by_cases he : a' = a
        · subst he; rw [if_pos rfl, hb]; exact h0
        · rw [if_neg he]
      · by_cases he : a' = a
        · subst he; simp [memByte]
        · rw [if_neg he]; simp only [memByte]; rw [if_neg (Ne.symm he)]
    · split
      · rename_i hne heq
        have hb0 : memByte r a = 0 := memByte_below (fun q hq => by subst heq; exact ha q hq)
        split
        · rename_i hb
          by_cases he : a' = a
          · subst he; rw [if_pos rfl, hb]; exact hb0
          · rw [if_neg he]; simp only [memByte]; rw [if_neg (by omega)]
        · by_cases he : a' = a
          · subst he; simp [memByte]
          · rw [if_neg he]; simp only [memByte]; rw [if_neg (Ne.symm he), if_neg (by omega)]
      · rename_i h1 h2
        simp only [memByte, ih hr]
        by_cases he : a' = a
        · subst he; rw [if_neg h2]; simp
        · simp [he]

/-- A write of several bytes leaves every byte outside them as it was. -/
theorem memByte_memPutNum_out {m : Memory} (a n v a' : Nat) (h : m.wf) (ho : a' < a ∨ a + n ≤ a') :
    memByte (memPutNum m a n v) a' = memByte m a' := by
  induction n generalizing m a v with
  | zero => rfl
  | succ n ih =>
    simp only [memPutNum]
    rw [ih _ _ (memPut_wf _ _ h) (by omega), memByte_memPut _ _ _ h, if_neg (by omega)]

/-- The number written reads back. -/
theorem memNum_memPutNum {m : Memory} (a n v : Nat) (h : m.wf) : memNum (memPutNum m a n v) a n = v % 256 ^ n := by
  induction n generalizing m a v with
  | zero => simp [memNum, Nat.mod_one]
  | succ n ih =>
    simp only [memPutNum, memNum]
    rw [ih _ _ (memPut_wf _ _ h), memByte_memPutNum_out _ _ _ _ (memPut_wf _ _ h) (by omega), memByte_memPut _ _ _ h, if_pos rfl]
    rw [BitVec.toNat_ofNat, show (256 : Nat) ^ (n + 1) = 2 ^ 8 * 256 ^ n from Nat.pow_succ', Nat.mod_mul (a := 2 ^ 8)]
    norm_num

/-- Clearing a range makes it read 0 and leaves the rest. -/
theorem memByte_memClear {m : Memory} (lo hi a : Nat) :
    memByte (memClear m lo hi) a = if lo ≤ a ∧ a < hi then 0 else memByte m a := by
  induction m with
  | nil => simp [memClear, memByte]
  | cons p r ih =>
    simp only [memClear, List.filter_cons] at *
    split
    · rename_i h
      simp only [memByte]
      split
      · rename_i he; subst he; simp at h; rw [if_neg (by omega)]
      · exact ih
    · rename_i h
      rw [ih]
      simp at h
      simp only [memByte]
      split
      · rfl
      · rw [if_neg (by omega)]

end Sys2Proof.Machine
end

