-- ==== Sys2Proof/Laws/Ops.lean ====
section
/-!
SUPPORT. What each accessor reads after each update of its own part, and the lemmas of the operations that every meaning shares: ledger
objects, events, counters, the parts a command leaves alone, and a step that issues.
-/

namespace Sys2Proof.Machine

/-! ### Units -/

@[simp] theorem State.tile_setTile (s : State) (a b : Nat) (v : Tile) : (s.setTile a b v).tile a b = v := mapGet_mapSet_same ..
theorem State.tile_setTile_ne (s : State) {a b c d : Nat} (v : Tile) (h : (c, d) ≠ (a, b)) : (s.setTile a b v).tile c d = s.tile c d :=
  mapGet_mapSet_ne _ _ _ h
@[simp] theorem State.site_setSite (s : State) (a : Nat) (v : Site) : (s.setSite a v).site a = v := mapGet_mapSet_same ..
theorem State.site_setSite_ne (s : State) {a b : Nat} (v : Site) (h : b ≠ a) : (s.setSite a v).site b = s.site b := mapGet_mapSet_ne _ _ _ h
@[simp] theorem State.col_setCol (s : State) (a b : Nat) (v : VaultCol) : (s.setCol a b v).col a b = v := mapGet_mapSet_same ..
theorem State.col_setCol_ne (s : State) {a b c d : Nat} (v : VaultCol) (h : (c, d) ≠ (a, b)) : (s.setCol a b v).col c d = s.col c d :=
  mapGet_mapSet_ne _ _ _ h
@[simp] theorem State.layer_setLayer (s : State) (a b : Nat) (v : Layer) : (s.setLayer a b v).layer a b = v := mapGet_mapSet_same ..
theorem State.layer_setLayer_ne (s : State) {a b c d : Nat} (v : Layer) (h : (c, d) ≠ (a, b)) : (s.setLayer a b v).layer c d = s.layer c d :=
  mapGet_mapSet_ne _ _ _ h
@[simp] theorem State.gate_setGate (s : State) (a b : Nat) (v : Gate) : (s.setGate a b v).gate a b = v := mapGet_mapSet_same ..
theorem State.gate_setGate_ne (s : State) {a b c d : Nat} (v : Gate) (h : (c, d) ≠ (a, b)) : (s.setGate a b v).gate c d = s.gate c d :=
  mapGet_mapSet_ne _ _ _ h
@[simp] theorem State.market_setMarket (s : State) (a : Nat) (v : Market) : (s.setMarket a v).market a = v := mapGet_mapSet_same ..
theorem State.market_setMarket_ne (s : State) {a b : Nat} (v : Market) (h : b ≠ a) : (s.setMarket a v).market b = s.market b := mapGet_mapSet_ne _ _ _ h
@[simp] theorem State.station_setStation (s : State) (a : Nat) (v : Station) : (s.setStation a v).station a = v := mapGet_mapSet_same ..
theorem State.station_setStation_ne (s : State) {a b : Nat} (v : Station) (h : b ≠ a) : (s.setStation a v).station b = s.station b := mapGet_mapSet_ne _ _ _ h
@[simp] theorem State.field_setField (s : State) (a : Nat) (v : Field) : (s.setField a v).field a = v := mapGet_mapSet_same ..
theorem State.field_setField_ne (s : State) {a b : Nat} (v : Field) (h : b ≠ a) : (s.setField a v).field b = s.field b := mapGet_mapSet_ne _ _ _ h
@[simp] theorem State.laser_setLaser (s : State) (a : Nat) (v : Laser) : (s.setLaser a v).laser a = v := mapGet_mapSet_same ..
theorem State.laser_setLaser_ne (s : State) {a b : Nat} (v : Laser) (h : b ≠ a) : (s.setLaser a v).laser b = s.laser b := mapGet_mapSet_ne _ _ _ h
@[simp] theorem State.lane_setLane (s : State) (a : Nat) (v : Lane) : (s.setLane a v).lane a = v := mapGet_mapSet_same ..
theorem State.lane_setLane_ne (s : State) {a b : Nat} (v : Lane) (h : b ≠ a) : (s.setLane a v).lane b = s.lane b := mapGet_mapSet_ne _ _ _ h
@[simp] theorem State.link_setLink (s : State) (a : Nat) (v : Link) : (s.setLink a v).link a = v := mapGet_mapSet_same ..
theorem State.link_setLink_ne (s : State) {a b : Nat} (v : Link) (h : b ≠ a) : (s.setLink a v).link b = s.link b := mapGet_mapSet_ne _ _ _ h
@[simp] theorem State.iod_setIod (s : State) (a : Nat) (v : Iod) : (s.setIod a v).iod a = v := mapGet_mapSet_same ..
theorem State.iod_setIod_ne (s : State) {a b : Nat} (v : Iod) (h : b ≠ a) : (s.setIod a v).iod b = s.iod b := mapGet_mapSet_ne _ _ _ h
@[simp] theorem State.mover_setMover (s : State) (a : Nat) (v : Mover) : (s.setMover a v).mover a = v := mapGet_mapSet_same ..
theorem State.mover_setMover_ne (s : State) {a b : Nat} (v : Mover) (h : b ≠ a) : (s.setMover a v).mover b = s.mover b := mapGet_mapSet_ne _ _ _ h
@[simp] theorem State.box_setBox (s : State) (a : Nat) (v : Mailbox) : (s.setBox a v).box a = v := mapGet_mapSet_same ..
theorem State.box_setBox_ne (s : State) {a b : Nat} (v : Mailbox) (h : b ≠ a) : (s.setBox a v).box b = s.box b := mapGet_mapSet_ne _ _ _ h
@[simp] theorem State.check_setCheck (s : State) (a : Nat) (v : CheckUnit) : (s.setCheck a v).check a = v := mapGet_mapSet_same ..
theorem State.check_setCheck_ne (s : State) {a b : Nat} (v : CheckUnit) (h : b ≠ a) : (s.setCheck a v).check b = s.check b := mapGet_mapSet_ne _ _ _ h
@[simp] theorem State.stream_setStream (s : State) (a : Nat) (v : Option Stream) : (s.setStream a v).stream a = v := mapGet_mapSet_same ..
theorem State.stream_setStream_ne (s : State) {a b : Nat} (v : Option Stream) (h : b ≠ a) : (s.setStream a v).stream b = s.stream b := mapGet_mapSet_ne _ _ _ h
@[simp] theorem State.wave_setWave (s : State) (a b : Nat) (v : Option Wave) : (s.setWave a b v).wave a b = v := mapGet_mapSet_same ..
theorem State.wave_setWave_ne (s : State) {a b c d : Nat} (v : Option Wave) (h : (c, d) ≠ (a, b)) : (s.setWave a b v).wave c d = s.wave c d :=
  mapGet_mapSet_ne _ _ _ h
@[simp] theorem State.unit_setUnit (s : State) (a : Nat) (v : CtrlUnit) : (s.setUnit a v).unit a = v := mapGet_mapSet_same ..
theorem State.unit_setUnit_ne (s : State) {a b : Nat} (v : CtrlUnit) (h : b ≠ a) : (s.setUnit a v).unit b = s.unit b := mapGet_mapSet_ne _ _ _ h
@[simp] theorem State.session_setSession (s : State) (a : Nat) (v : Option Session) : (s.setSession a v).session a = v := mapGet_mapSet_same ..
theorem State.session_setSession_ne (s : State) {a b : Nat} (v : Option Session) (h : b ≠ a) : (s.setSession a v).session b = s.session b := mapGet_mapSet_ne _ _ _ h

/-! ### Ledger objects -/

@[simp] theorem State.obj_setObj (s : State) (o : Obj) (i v : Nat) : (s.setObj o i v).obj o i = v := mapGet_mapSet_same ..

theorem State.obj_setObj_ne (s : State) {o o' : Obj} {i i' : Nat} (v : Nat) (h : o' ≠ o ∨ i' ≠ i) :
    (s.setObj o i v).obj o' i' = s.obj o' i' :=
  mapGet_mapSet_ne _ _ _ (by rintro ⟨⟩; simp at h)

/-- What any element reads after a write. -/
@[simp] theorem State.obj_setObj_eq (s : State) (o o' : Obj) (i i' v : Nat) :
    (s.setObj o i v).obj o' i' = if o' = o ∧ i' = i then v else s.obj o' i' := by
  unfold State.obj State.setObj
  rw [mapGet_mapSet]
  simp only [Prod.mk.injEq]

@[simp] theorem State.obj_bump (s : State) (o : Obj) (i n : Nat) : (s.bump o i n).obj o i = s.obj o i + n := State.obj_setObj ..

@[simp] theorem State.obj_count (s : State) (o : Obj) (i n : Nat) : (s.count o i n).obj o i = s.obj o i + n := by
  unfold State.count
  split
  · simp_all
  · exact State.obj_bump ..

theorem State.obj_bump_ne (s : State) {o o' : Obj} (i i' n : Nat) (h : o' ≠ o) : (s.bump o i n).obj o' i' = s.obj o' i' :=
  State.obj_setObj_ne _ _ (.inl h)

theorem State.obj_count_ne (s : State) {o o' : Obj} (i i' n : Nat) (h : o' ≠ o) : (s.count o i n).obj o' i' = s.obj o' i' := by
  unfold State.count
  split
  · rfl
  · exact State.obj_bump_ne _ _ _ _ h

/-! ### Parts left alone -/

theorem unchangedBut.refl (l : List Part) (s : State) : unchangedBut l s s := fun p _ => by cases p <;> rfl

theorem unchangedBut.trans {l : List Part} {s t u : State} (h : unchangedBut l s t) (h' : unchangedBut l t u) : unchangedBut l s u :=
  fun p hp => by
    have a := h p hp
    have b := h' p hp
    cases p <;> exact Eq.trans b a

theorem unchangedBut.mono {l l' : List Part} {s t : State} (h : unchangedBut l s t) (hl : ∀ p ∈ l, p ∈ l') : unchangedBut l' s t :=
  fun p hp => h p (fun hm => hp (hl p hm))

/-- The parts one by one: what simp needs to show that an operation leaves them alone. -/
theorem unchangedBut_iff {l : List Part} {s t : State} : unchangedBut l s t ↔
    (Part.pending ∈ l ∨ t.pending = s.pending) ∧
    (Part.time ∈ l ∨ t.time = s.time) ∧
    (Part.freeCount ∈ l ∨ t.freeCount = s.freeCount) ∧
    (Part.objs ∈ l ∨ t.objs = s.objs) ∧
    (Part.wrote ∈ l ∨ t.wrote = s.wrote) ∧
    (Part.shadow ∈ l ∨ t.shadow = s.shadow) ∧
    (Part.commits ∈ l ∨ t.commits = s.commits) ∧
    (Part.cmds ∈ l ∨ t.cmds = s.cmds) ∧
    (Part.kept ∈ l ∨ t.kept = s.kept) ∧
    (Part.sessions ∈ l ∨ t.sessions = s.sessions) ∧
    (Part.badProofs ∈ l ∨ t.badProofs = s.badProofs) ∧
    (Part.lockouts ∈ l ∨ t.lockouts = s.lockouts) ∧
    (Part.log ∈ l ∨ t.log = s.log) ∧
    (Part.out ∈ l ∨ t.out = s.out) ∧
    (Part.mem ∈ l ∨ t.mem = s.mem) ∧
    (Part.poison ∈ l ∨ t.poison = s.poison) ∧
    (Part.tiles ∈ l ∨ t.tiles = s.tiles) ∧
    (Part.sites ∈ l ∨ t.sites = s.sites) ∧
    (Part.cols ∈ l ∨ t.cols = s.cols) ∧
    (Part.layers ∈ l ∨ t.layers = s.layers) ∧
    (Part.gates ∈ l ∨ t.gates = s.gates) ∧
    (Part.markets ∈ l ∨ t.markets = s.markets) ∧
    (Part.aCond ∈ l ∨ t.aCond = s.aCond) ∧
    (Part.withdrawing ∈ l ∨ t.withdrawing = s.withdrawing) ∧
    (Part.pathOk ∈ l ∨ t.pathOk = s.pathOk) ∧
    (Part.stations ∈ l ∨ t.stations = s.stations) ∧
    (Part.fields ∈ l ∨ t.fields = s.fields) ∧
    (Part.lasers ∈ l ∨ t.lasers = s.lasers) ∧
    (Part.light ∈ l ∨ t.light = s.light) ∧
    (Part.carryWanted ∈ l ∨ t.carryWanted = s.carryWanted) ∧
    (Part.cal ∈ l ∨ t.cal = s.cal) ∧
    (Part.calEv ∈ l ∨ t.calEv = s.calEv) ∧
    (Part.heaters ∈ l ∨ t.heaters = s.heaters) ∧
    (Part.unlocked ∈ l ∨ t.unlocked = s.unlocked) ∧
    (Part.suspended ∈ l ∨ t.suspended = s.suspended) ∧
    (Part.lanes ∈ l ∨ t.lanes = s.lanes) ∧
    (Part.links ∈ l ∨ t.links = s.links) ∧
    (Part.iods ∈ l ∨ t.iods = s.iods) ∧
    (Part.movers ∈ l ∨ t.movers = s.movers) ∧
    (Part.boxes ∈ l ∨ t.boxes = s.boxes) ∧
    (Part.checks ∈ l ∨ t.checks = s.checks) ∧
    (Part.streams ∈ l ∨ t.streams = s.streams) ∧
    (Part.waves ∈ l ∨ t.waves = s.waves) ∧
    (Part.posts ∈ l ∨ t.posts = s.posts) ∧
    (Part.plan ∈ l ∨ t.plan = s.plan) ∧
    (Part.power ∈ l ∨ t.power = s.power) ∧
    (Part.heat ∈ l ∨ t.heat = s.heat) ∧
    (Part.keeper ∈ l ∨ t.keeper = s.keeper) ∧
    (Part.units ∈ l ∨ t.units = s.units) ∧
    (Part.update ∈ l ∨ t.update = s.update) ∧
    (Part.compare ∈ l ∨ t.compare = s.compare) ∧
    (Part.recovery ∈ l ∨ t.recovery = s.recovery) ∧
    (Part.startup ∈ l ∨ t.startup = s.startup) ∧
    (Part.store ∈ l ∨ t.store = s.store) ∧
    (Part.ptp ∈ l ∨ t.ptp = s.ptp) ∧
    (Part.pins ∈ l ∨ t.pins = s.pins) ∧
    (Part.ramps ∈ l ∨ t.ramps = s.ramps) ∧
    (Part.splits ∈ l ∨ t.splits = s.splits) ∧
    (Part.urgent ∈ l ∨ t.urgent = s.urgent) ∧
    (Part.shaken ∈ l ∨ t.shaken = s.shaken) ∧
    (Part.calAt ∈ l ∨ t.calAt = s.calAt) ∧
    (Part.ringBase ∈ l ∨ t.ringBase = s.ringBase) ∧
    (Part.clockLost ∈ l ∨ t.clockLost = s.clockLost) ∧
    (Part.pma ∈ l ∨ t.pma = s.pma) := by
  constructor
  · intro h
    refine ⟨?_, ?_, ?_, ?_, ?_, ?_, ?_, ?_, ?_, ?_, ?_, ?_, ?_, ?_, ?_, ?_, ?_, ?_, ?_, ?_, ?_, ?_, ?_, ?_, ?_, ?_, ?_, ?_, ?_, ?_, ?_, ?_, ?_, ?_, ?_, ?_, ?_, ?_, ?_, ?_, ?_, ?_, ?_, ?_, ?_, ?_, ?_, ?_, ?_, ?_, ?_, ?_, ?_, ?_, ?_, ?_, ?_, ?_, ?_, ?_, ?_, ?_, ?_, ?_⟩ <;> exact or_iff_not_imp_left.2 (h _)
  · rintro ⟨h0, h1, h2, h3, h4, h5, h6, h7, h8, h9, h10, h11, h12, h13, h14, h15, h16, h17, h18, h19, h20, h21, h22, h23, h24, h25, h26, h27, h28, h29, h30, h31, h32, h33, h34, h35, h36, h37, h38, h39, h40, h41, h42, h43, h44, h45, h46, h47, h48, h49, h50, h51, h52, h53, h54, h55, h56, h57, h58, h59, h60, h61, h62, h63⟩ p hp
    cases p <;> exact Or.resolve_left (by assumption) hp

theorem State.setTile_tilesBut (s : State) (a b : Nat) (v : Tile) : tilesBut a b s (s.setTile a b v) :=
  fun _ _ h => State.tile_setTile_ne _ _ h

/-! ### Events and the black box (R338, R362) -/

/-- What an event does: it stands first in the log with its code, subject, index and time, and the index moves on. -/
theorem State.raise_events (s : State) (c u : Nat) (d : List Nat) :
    (s.raise c u d).log.events = (Event.mk c u s.log.next s.time d :: s.log.events).take 16384 ∧
    (s.raise c u d).log.next = s.log.next + 1 := ⟨rfl, rfl⟩

theorem State.raise_unchanged (s : State) (c u : Nat) (d : List Nat) : unchangedBut [.log] s (s.raise c u d) :=
  fun p hp => by cases p <;> first | rfl | simp at hp

/-! ### Steps that issue (R49) -/

/-- A step that nothing holds has its effect in the state that issuing leaves. -/
theorem State.issue_of_canIssue {s : State} {site tl cls op : Nat} {w : StepWord} {sh : Shape} (next : Nat) (eff : State → State)
    (h : s.canIssue site tl cls op w sh = true) :
    s.issue site tl cls op w sh next eff = eff (s.issued site tl cls op w sh next) := by
  simp only [State.canIssue, Bool.and_eq_true, beq_iff_eq, Bool.not_eq_true', Option.isNone_iff_eq_none, Bool.or_eq_true,
    decide_eq_true_eq] at h
  obtain ⟨⟨⟨⟨⟨⟨⟨⟨⟨⟨⟨⟨h1, h2⟩, h3⟩, h4⟩, h5⟩, h6⟩, h7⟩, h8⟩, h9⟩, h10⟩, h11⟩, h12⟩, h13⟩ := h
  have e9 : ((s.tile site tl).issued && decide ((s.site site).cycles < (s.tile site tl).lastIssue + max 1 (stepGap w))) = false := by
    rcases h9 with h9 | h9
    · simp [h9]
    · simp; omega
  have e10 : (decide ((s.tile site tl).half < (s.tile site tl).pc / 2048) && decide (2 ≤ (s.tile site tl).pc / 2048) &&
      !(s.tile site tl).halfReady) = false := by
    rcases h10 with (h10 | h10) | h10
    · simp; omega
    · simp; omega
    · simp [h10]
  simp only [State.issue, h1, h2, h3, h4, h5, h6, h7, h8, h11, h12, h13, e9, e10, Option.isSome_none, Bool.not_true, Bool.or_self,
    bne_self_eq_false, Bool.and_false, Bool.false_eq_true, if_false]

/-- The tile right after it issues a step. -/
theorem State.issued_tile (s : State) (site tl cls op : Nat) (w : StepWord) (sh : Shape) (next : Nat) :
    (s.issued site tl cls op w sh next).tile site tl =
      Tile.advance { s.tile site tl with
        sb := (s.tile site tl).sb ++ (match sh.entry with
          | some o => [{ owner := o, reads := sh.reads, writes := sh.writes : SbEntry }]
          | none => [])
        bucket := (s.tile site tl).bucket - sh.beats
        refillAt := if (s.tile site tl).bucket = 4 ∧ 0 < sh.beats then (s.site site).cycles else (s.tile site tl).refillAt
        half := max (s.tile site tl).half ((s.tile site tl).pc / 2048)
        halfReady := if decide ((s.tile site tl).pc / 2048 ≤ (s.tile site tl).half) then (s.tile site tl).halfReady
          else decide ((s.tile site tl).listLen ≤ ((s.tile site tl).pc / 2048 + 1) * 2048) }
        (s.site site).cycles next := State.tile_setTile ..

end Sys2Proof.Machine
end

