-- ==== Sys2Proof/Laws/Steps.lean ====
section
/-!
SUPPORT. What the operations that a tile's steps share can change: trace records, traps, issue, completion (R49, R64, R69, R361).
-/

namespace Sys2Proof.Machine

theorem State.count_unchanged (s : State) (o : Obj) (i n : Nat) : unchangedBut [.objs] s (s.count o i n) := by
  rw [unchangedBut_iff]; simp

theorem State.setTile_unchanged (s : State) (a b : Nat) (v : Tile) : unchangedBut [.tiles] s (s.setTile a b v) := by
  rw [unchangedBut_iff]; simp

@[simp] theorem State.obj_setTile (s : State) (a b : Nat) (v : Tile) (o : Obj) (i : Nat) : (s.setTile a b v).obj o i = s.obj o i := rfl
@[simp] theorem State.obj_setSite (s : State) (a : Nat) (v : Site) (o : Obj) (i : Nat) : (s.setSite a v).obj o i = s.obj o i := rfl
@[simp] theorem State.tile_setSite (s : State) (a : Nat) (v : Site) (x y : Nat) : (s.setSite a v).tile x y = s.tile x y := rfl
@[simp] theorem State.site_setTile (s : State) (a b : Nat) (v : Tile) (x : Nat) : (s.setTile a b v).site x = s.site x := rfl

/-- A part of the state that reads the same gives the same units. -/
theorem unchangedBut.tile {l : List Part} {s t : State} (h : unchangedBut l s t) (hl : Part.tiles ∉ l) (a b : Nat) :
    t.tile a b = s.tile a b := by
  have e : t.tiles = s.tiles := h .tiles hl
  simp only [State.tile, e]

theorem unchangedBut.site {l : List Part} {s t : State} (h : unchangedBut l s t) (hl : Part.sites ∉ l) (a : Nat) : t.site a = s.site a := by
  have e : t.sites = s.sites := h .sites hl
  simp only [State.site, e]

theorem unchangedBut.time {l : List Part} {s t : State} (h : unchangedBut l s t) (hl : Part.time ∉ l) : t.time = s.time := h .time hl

theorem unchangedBut.mem {l : List Part} {s t : State} (h : unchangedBut l s t) (hl : Part.mem ∉ l) : t.mem = s.mem := h .mem hl

theorem unchangedBut.memory {l : List Part} {s t : State} (h : unchangedBut l s t) (hl : Part.mem ∉ l) (hp : Part.poison ∉ l) :
    sameMemory s t :=
  ⟨fun a => by rw [h.mem hl], h .poison hp⟩

theorem objsBut.trans {l : List Obj} {s t u : State} (h : objsBut l s t) (h' : objsBut l t u) : objsBut l s u :=
  fun o i ho => (h' o i ho).trans (h o i ho)

theorem objsBut.mono {l l' : List Obj} {s t : State} (h : objsBut l s t) (hl : ∀ o ∈ l, o ∈ l') : objsBut l' s t :=
  fun o i ho => h o i (fun hm => ho (hl o hm))

theorem tilesBut.trans {a b : Nat} {s t u : State} (h : tilesBut a b s t) (h' : tilesBut a b t u) : tilesBut a b s u :=
  fun x y hn => (h' x y hn).trans (h x y hn)

theorem unchangedBut.tilesBut {l : List Part} {s t : State} (h : unchangedBut l s t) (hl : Part.tiles ∉ l) (a b : Nat) : tilesBut a b s t :=
  fun x y _ => h.tile hl x y

/-! ### Counters -/

theorem State.count_objs (s : State) (o : Obj) (i n : Nat) : objsBut [o] s (s.count o i n) := by
  intro o' k h
  exact State.obj_count_ne _ _ _ _ (by simpa using h)

theorem State.count_tile (s : State) (o : Obj) (i n a b : Nat) : (s.count o i n).tile a b = s.tile a b :=
  (s.count_unchanged o i n).tile (by simp) a b

/-! ### Trace records (R361) -/

theorem State.traceRecord_unchanged (s : State) (site tl i : Nat) (m : Bool) (id : Nat) :
    unchangedBut [.objs, .log] s (s.traceRecord site tl i m id) := by
  unfold State.traceRecord
  split
  · exact .refl _ _
  · split
    · rw [unchangedBut_iff]; simp
    · dsimp only
      split
      · rw [unchangedBut_iff]; simp
      · rw [unchangedBut_iff]; simp

theorem State.traceRecord_objs (s : State) (site tl i : Nat) (m : Bool) (id : Nat) :
    objsBut [.W0014] s (s.traceRecord site tl i m id) := by
  intro o k h
  simp only [List.mem_singleton] at h
  unfold State.traceRecord
  split
  · rfl
  · split
    · rfl
    · dsimp only
      split
      · exact State.obj_bump_ne _ _ _ _ h
      · exact State.obj_bump_ne _ _ _ _ h

/-! ### A wait that ends (R65) -/

theorem State.countWait_unchanged (s : State) (site tl gap : Nat) : unchangedBut [.tiles, .objs] s (s.countWait site tl gap) := by
  unfold State.countWait
  dsimp only
  split
  · exact .refl _ _
  · exact (((s.count_unchanged _ _ _).trans (State.count_unchanged _ _ _ _)).mono (by simp)).trans ((State.setTile_unchanged _ _ _ _).mono (by simp))

theorem State.countWait_objs (s : State) (site tl gap : Nat) : objsBut [.S0302, .S0405] s (s.countWait site tl gap) := by
  unfold State.countWait
  dsimp only
  split
  · exact fun _ _ _ => rfl
  · have h1 := (s.count_objs .S0302 site ((s.tile site tl).waitedGap gap (s.site site).cycles)).mono (l' := [.S0302, .S0405]) (by simp)
    exact h1.trans ((State.count_objs _ .S0405 site _).mono (by simp))

theorem State.countWait_tilesBut (s : State) (site tl gap : Nat) : tilesBut site tl s (s.countWait site tl gap) := by
  intro a b h
  unfold State.countWait
  dsimp only
  split
  · rfl
  · rw [State.tile_setTile_ne _ _ h, State.count_tile, State.count_tile]

/-- The tile waits no more. -/
theorem State.countWait_tile (s : State) (site tl gap : Nat) :
    (s.countWait site tl gap).tile site tl = { s.tile site tl with wait := none, blockEnd := 0 } := by
  unfold State.countWait
  dsimp only
  split
  · next h =>
    simp only [Bool.and_eq_true, Option.isNone_iff_eq_none, beq_iff_eq] at h
    obtain ⟨⟨h1, -⟩, h3⟩ := h
    rw [← h1, ← h3]
  · exact State.tile_setTile ..

theorem State.countWait_site (s : State) (site tl gap x : Nat) : (s.countWait site tl gap).site x = s.site x :=
  (s.countWait_unchanged site tl gap).site (by simp) x

theorem State.countWait_time (s : State) (site tl gap : Nat) : (s.countWait site tl gap).time = s.time :=
  (s.countWait_unchanged site tl gap).time (by simp)

/-! ### Traps (R69) -/

theorem State.trapTile_unchanged (s : State) (site tl code d cls op i : Nat) :
    unchangedBut [.tiles, .objs, .sites] s (s.trapTile site tl code d cls op i) := by
  refine ((s.countWait_unchanged site tl 1).mono (by simp)).trans ?_
  unfold State.trapTile
  dsimp only
  split <;> split <;> (rw [unchangedBut_iff]; simp)

theorem State.trapTile_tilesBut (s : State) (site tl code d cls op i : Nat) : tilesBut site tl s (s.trapTile site tl code d cls op i) := by
  intro a b h
  rw [← s.countWait_tilesBut site tl 1 a b h]
  unfold State.trapTile
  dsimp only
  split <;> split <;> exact State.tile_setTile_ne _ _ h

/-- A trap's own tile: it is trapped, and its record waits last. -/
theorem State.trapTile_tile (s : State) (site tl code d cls op i : Nat) :
    (s.trapTile site tl code d cls op i).tile site tl = { s.tile site tl with
      trapped := true, wait := none, blockEnd := 0
      recWait := if (s.tile site tl).bucket = 0 then (s.tile site tl).recWait.or (some (s.site site).cycles) else (s.tile site tl).recWait
      traps := (s.tile site tl).traps ++ [{
        code := code, cls := cls, op := op, tile := tl, stack := ((s.countWait site tl 1).stackOf site).getD 0, index := i
        wave := (s.tile site tl).wave, time := s.time, detailA := d % 2 ^ 32
        cycles := ({ s.tile site tl with wait := none, blockEnd := 0 } : Tile).runCycles (s.site site).cycles }] } := by
  unfold State.trapTile
  dsimp only
  rw [s.countWait_tile site tl 1, s.countWait_site site tl 1, s.countWait_time site tl 1]
  split <;> split <;> exact State.tile_setTile _ _ _ _

theorem State.trapTile_objs (s : State) (site tl code d cls op i : Nat) :
    objsBut [.S0300, .S0301, .S0302, .S0405] s (s.trapTile site tl code d cls op i) := by
  intro o k h
  rw [← s.countWait_objs site tl 1 o k (fun hm => h (by simp at hm ⊢; tauto))]
  simp only [List.mem_cons, List.not_mem_nil, or_false, not_or] at h
  unfold State.trapTile
  dsimp only
  split <;> split <;> simp [h, State.bump]

theorem State.trapTile_S0300 (s : State) (site tl code d cls op i : Nat) :
    (s.trapTile site tl code d cls op i).obj .S0300 site = s.obj .S0300 site + 1 := by
  rw [← s.countWait_objs site tl 1 .S0300 site (by decide)]
  unfold State.trapTile
  dsimp only
  split <;> split <;> simp [State.bump]

/-! ### Issue (R49) -/

theorem State.issued_unchanged (s : State) (site tl cls op : Nat) (w : StepWord) (sh : Shape) (next : Nat) :
    unchangedBut [.tiles, .objs, .log] s (s.issued site tl cls op w sh next) := by
  unfold State.issued
  have h1 := (s.count_unchanged .S0302 site ((s.tile site tl).waited w (s.site site).cycles)).mono (l' := [.tiles, .objs, .log]) (by simp)
  have h2 := h1.trans ((State.count_unchanged _ .S0405 site ((s.tile site tl).bucketWaited (s.site site).cycles)).mono (by simp))
  refine unchangedBut.trans ?_ ((State.setTile_unchanged _ _ _ _).mono (by simp))
  split
  · exact h2.trans ((State.traceRecord_unchanged _ _ _ _ _ _).mono (by simp))
  · exact h2

theorem State.issued_objs (s : State) (site tl cls op : Nat) (w : StepWord) (sh : Shape) (next : Nat) :
    objsBut [.S0302, .S0405, .W0014] s (s.issued site tl cls op w sh next) := by
  have h1 := (s.count_objs .S0302 site ((s.tile site tl).waited w (s.site site).cycles)).mono (l' := [.S0302, .S0405, .W0014]) (by simp)
  have h2 := h1.trans ((State.count_objs _ .S0405 site ((s.tile site tl).bucketWaited (s.site site).cycles)).mono (by simp))
  intro o i h
  unfold State.issued
  simp only [State.obj_setTile]
  split
  · exact (h2.trans ((State.traceRecord_objs _ _ _ _ _ _).mono (by simp))) o i h
  · exact h2 o i h

theorem State.issued_tilesBut (s : State) (site tl cls op : Nat) (w : StepWord) (sh : Shape) (next : Nat) :
    tilesBut site tl s (s.issued site tl cls op w sh next) := by
  intro a b h
  unfold State.issued
  simp only [State.tile_setTile_ne _ _ h]
  split
  · rw [(State.traceRecord_unchanged _ _ _ _ _ _).tile (by simp), State.count_tile, State.count_tile]
  · rw [State.count_tile, State.count_tile]

theorem State.issued_site (s : State) (site tl cls op : Nat) (w : StepWord) (sh : Shape) (next x : Nat) :
    (s.issued site tl cls op w sh next).site x = s.site x := (s.issued_unchanged site tl cls op w sh next).site (by simp) x

theorem State.issued_time (s : State) (site tl cls op : Nat) (w : StepWord) (sh : Shape) (next : Nat) :
    (s.issued site tl cls op w sh next).time = s.time := (s.issued_unchanged site tl cls op w sh next).time (by simp)

/-! ### After a completion (R64, R72) -/

theorem State.settle_unchanged (s : State) (site tl : Nat) : unchangedBut [.tiles, .objs, .sites] s (s.settle site tl) := by
  unfold State.settle
  dsimp only
  have h (v : Tile) := (s.setTile_unchanged site tl v).mono (l' := [.tiles, .objs, .sites]) (by simp)
  split
  · split
    · split
      · exact ((h _).trans ((State.setTile_unchanged _ _ _ _).mono (by simp))).trans (State.trapTile_unchanged _ _ _ _ _ _ _ _)
      · exact (h _).trans ((State.setTile_unchanged _ _ _ _).mono (by simp))
    · exact h _
  · split
    · exact (h _).trans ((State.setTile_unchanged _ _ _ _).mono (by simp))
    · exact h _
  · exact h _

theorem State.settle_tilesBut (s : State) (site tl : Nat) : tilesBut site tl s (s.settle site tl) := by
  unfold State.settle
  dsimp only
  have h := s.setTile_tilesBut site tl
  split
  · split
    · split
      · exact ((h _).trans (State.setTile_tilesBut _ _ _ _)).trans (State.trapTile_tilesBut _ _ _ _ _ _ _ _)
      · exact (h _).trans (State.setTile_tilesBut _ _ _ _)
    · exact h _
  · split
    · exact (h _).trans (State.setTile_tilesBut _ _ _ _)
    · exact h _
  · exact h _

end Sys2Proof.Machine
end

