-- ==== Sys2Proof/Machine/Reed.lean ====
section
/-!
DEFINITION. What a receiver does with RS(272,256) codewords (R190): it corrects up to 8 symbol errors in each, and takes a slot back out of
its symbols (R191). Polynomials are lists of coefficients in rising order.
-/

namespace Sys2Proof.Machine

/-! ### The field and its polynomials -/

/-- aⁿ. -/
def gfPow (a : BitVec 10) : Nat → BitVec 10
  | 0 => 1#10
  | n + 1 => gfMul a (gfPow a n)

/-- The inverse: a¹⁰²² by squaring, since a¹⁰²³ = 1 for every a but 0. -/
def gfInv (a : BitVec 10) : BitVec 10 :=
  ((List.range 9).foldl (fun (p : BitVec 10 × BitVec 10) _ => let q := gfMul p.1 p.1; (q, gfMul p.2 q)) (a, 1#10)).2

/-- The sum of two polynomials. -/
def polyAdd : List (BitVec 10) → List (BitVec 10) → List (BitVec 10)
  | [], q => q
  | p, [] => p
  | a :: p, b :: q => (a ^^^ b) :: polyAdd p q

/-- A polynomial times a constant. -/
def polyScale (c : BitVec 10) (p : List (BitVec 10)) : List (BitVec 10) := p.map (gfMul c)

/-- A polynomial's value at x. -/
def polyEval (p : List (BitVec 10)) (x : BitVec 10) : BitVec 10 := p.foldr (fun c v => gfMul v x ^^^ c) 0#10

/-- The product of two polynomials. -/
def polyMul : List (BitVec 10) → List (BitVec 10) → List (BitVec 10)
  | [], _ => []
  | a :: p, q => polyAdd (polyScale a q) (0#10 :: polyMul p q)

/-- The derivative: of an even power it is 0 in this field. -/
def polyDerive (p : List (BitVec 10)) : List (BitVec 10) := (p.drop 1).zipIdx.map (fun c => if c.2 % 2 = 0 then c.1 else 0#10)

/-! ### Correction (R190) -/

/-- The error locator after some syndromes: the locator, the correction term for the next discrepancy, and its length. -/
structure RsLocator where
  loc : List (BitVec 10)
  aux : List (BitVec 10)
  len : Nat
deriving DecidableEq, Repr

/-- The next syndrome, the n-th, enters the locator (Berlekamp and Massey). -/
def RsLocator.next (k : RsLocator) (syn : List (BitVec 10)) (n : Nat) : RsLocator :=
  let d := (List.range (k.len + 1)).foldl (fun v i => if i ≤ n then v ^^^ gfMul (k.loc.getD i 0#10) (syn.getD (n - i) 0#10) else v) 0#10
  if d = 0#10 then { k with aux := 0#10 :: k.aux }
  else
    let loc := polyAdd k.loc (polyScale d k.aux)
    if 2 * k.len ≤ n then { loc := loc, aux := 0#10 :: polyScale (gfInv d) k.loc, len := n + 1 - k.len }
    else { k with loc := loc, aux := 0#10 :: k.aux }

/-- The locator of a word with these sixteen syndromes. -/
def rsLocator (syn : List (BitVec 10)) : RsLocator :=
  (List.range 16).foldl (fun k n => k.next syn n) { loc := [1#10], aux := [0#10, 1#10], len := 0 }

/-- The error at the symbol of power `p`, where the locator has the root α⁻ᵖ (Forney): with the first root α⁰ it is αᵖ Ω(α⁻ᵖ) ÷ Λ'(α⁻ᵖ). -/
def rsErrorAt (loc eval : List (BitVec 10)) (p : Nat) : BitVec 10 :=
  let x := gfAlpha (1023 - p)
  if polyEval loc x = 0#10 then gfMul (gfAlpha p) (gfMul (polyEval eval x) (gfInv (polyEval (polyDerive loc) x))) else 0#10

/-- Every value at α⁰ to α¹⁵ is 0: the word is a codeword. -/
def rsIsCodeword (word : List (BitVec 10)) : Bool := (List.range 16).all (fun i => decide (rsSyndrome word i = 0#10))

/-- A received word with its errors put right, and the number of symbols changed; none where more than 8 symbols are wrong (R190). The symbols of
a word of n symbols stand at the powers n − 1 down to 0; those left out of a short codeword are 0 and cannot be wrong. -/
def rsCorrect (word : List (BitVec 10)) : Option (List (BitVec 10) × Nat) :=
  if rsIsCodeword word then some (word, 0)
  else
    let syn := (List.range 16).map (rsSyndrome word)
    let k := rsLocator syn
    let eval := (polyMul syn k.loc).take 16
    let fixed := word.zipIdx.map (fun c => c.1 ^^^ rsErrorAt k.loc eval (word.length - 1 - c.2))
    let changed := (List.zipWith (fun a b => decide (a ≠ b)) word fixed).countP id
    if k.len ≤ 8 ∧ changed ≤ 8 ∧ rsIsCodeword fixed then some (fixed, changed) else none

/-- The data symbols of a received word, its parity left off. -/
def rsData (word : List (BitVec 10)) : Option (List (BitVec 10)) := (rsCorrect word).map (fun p => p.1.take (word.length - 16))

/-! ### A slot at its receiver (R191) -/

/-- Full codewords off the front, then the short one that is left; none where one of them is uncorrectable. -/
def rsDataOf : Nat → List (BitVec 10) → Option (List (BitVec 10))
  | 0, l => if l = [] then some [] else rsData l
  | n + 1, l => match rsData (l.take 272), rsDataOf n (l.drop 272) with
    | some a, some b => some (a ++ b)
    | _, _ => none

/-- The symbols that the four wavelengths bring, back in the slot's order (R191). -/
def fromWavelengths (w : Nat → List (BitVec 10)) (n : Nat) : List (BitVec 10) :=
  (List.range n).map (fun i => (w (i % 4)).getD (i / 4) 0#10)

/-- Bits of symbols, bit 0 first. -/
def symbolBits (l : List (BitVec 10)) : List Bool := l.flatMap (fun b => (List.range 10).map (fun i => b.getLsbD i))

/-- `n` bytes of a bit string. -/
def bitsToBytes : Nat → List Bool → List (BitVec 8)
  | 0, _ => []
  | n + 1, l => BitVec.ofNat 8 (((l.take 8).zipIdx.map (fun p => if p.1 then 2 ^ p.2 else 0)).sum) :: bitsToBytes n (l.drop 8)

/-- The level's bit pair. -/
def pamPair (level : Nat) : Nat := if level = 0 then 0 else if level = 1 then 1 else if level = 2 then 3 else 2

/-- A symbol of five UI, low bit pair first. -/
def levelsSymbol (l : List Nat) : BitVec 10 := BitVec.ofNat 10 ((l.take 5).zipIdx.map (fun p => pamPair p.1 * 4 ^ p.2)).sum

/-- The 12,000 bytes of a slot from its 10,200 symbols as received: corrected, unscrambled with its slot number, the reserved bytes 0; none
where a codeword is uncorrectable. -/
def slotReceived (slotno : Nat) (line : List (BitVec 10)) : Option (List (BitVec 8)) :=
  (rsDataOf 37 line).map (fun data =>
    let bits := symbolBits data
    slotRestored (bitsToBytes 11990 (bits.take 768 ++ prbsScramble (BitVec.ofNat 31 slotno ||| 1#31) (bits.drop 768))))

end Sys2Proof.Machine
end

