-- ==== Sys2Proof/WellFormed.lean ====
section
/-!
DEFINITION. Which commands name places that exist: sites and ports of R7 and R8, 48 logical tiles, 8 planes, and so on. A
command of another form is no command of this panel.
-/

namespace Sys2Proof

open Machine

/-- A used port (R8). -/
def usedPort (p : Nat) : Bool := !isDark p

/-- The places a command names exist. -/
def Instr.wellFormed : Instr → Bool
  | .nop site tile _ => isSite site && decide (tile < 48)
  | .wait site tile _ => isSite site && decide (tile < 48)
  | .loop site tile _ => isSite site && decide (tile < 48)
  | .setix site tile _ => isSite site && decide (tile < 48)
  | .bankpwr site tile _ => isSite site && decide (tile < 48)
  | .fence site tile _ => isSite site && decide (tile < 48)
  | .mark site tile _ => isSite site && decide (tile < 48)
  | .trap site tile _ => isSite site && decide (tile < 48)
  | .endStep site tile _ => isSite site && decide (tile < 48)
  | .matrixDense site tile _ => isSite site && decide (tile < 48)
  | .matrixBin site tile _ => isSite site && decide (tile < 48)
  | .matrixStepDone site tile _ _ => isSite site && decide (tile < 48)
  | .vectorArithmetic site tile _ => isSite site && decide (tile < 48)
  | .vectorFunction site tile _ => isSite site && decide (tile < 48)
  | .vectorReduce site tile _ => isSite site && decide (tile < 48)
  | .softmaxHelper site tile _ => isSite site && decide (tile < 48)
  | .rotary site tile _ => isSite site && decide (tile < 48)
  | .convert site tile _ => isSite site && decide (tile < 48)
  | .vectorStepDone site tile _ _ => isSite site && decide (tile < 48)
  | .loadVaultToStore site tile _ => isSite site && decide (tile < 48)
  | .storeToVault site tile _ => isSite site && decide (tile < 48)
  | .furrowSend site tile _ _ => isSite site && decide (tile < 48)
  | .furrowSendDone site tile _ => isSite site && decide (tile < 48)
  | .furrowReceive site tile _ => isSite site && decide (tile < 48)
  | .furrowReceiveDone site tile => isSite site && decide (tile < 48)
  | .furrowBeatArrival site tile _ _ _ _ => isSite site && decide (tile < 48)
  | .furrowDeadlineExpiry site tile => isSite site && decide (tile < 48)
  | .bid site tile _ => isSite site && decide (tile < 48)
  | .send site tile _ _ => isSite site && decide (tile < 48)
  | .mergeOpen site tile _ => isSite site && decide (tile < 48)
  | .mergeClose site tile _ => isSite site && decide (tile < 48)
  | .tallyWait site tile _ => isSite site && decide (tile < 48)
  | .tallyWaitSatisfied site tile => isSite site && decide (tile < 48)
  | .tallyWaitTimeout site tile => isSite site && decide (tile < 48)
  | .tallyPost site tile _ => isSite site && decide (tile < 48)
  | .sieveSelect site tile _ => isSite site && decide (tile < 48)
  | .tagComplete site tile tag _ _ _ _ => isSite site && decide (tile < 48) && decide (tag < 32)
  | .watchdogExpiry site tile => isSite site && decide (tile < 48)
  | .trapRecordSend site tile => isSite site && decide (tile < 48)
  | .siteSequencerTrapHandle site => isSite site
  | .stepListRefill site tile => isSite site && decide (tile < 48)
  | .bankChangeDone site tile bank => isSite site && decide (tile < 48) && decide (bank < 32)
  | .tileStoreArrivingWrite site tile _ _ _ => isSite site && decide (tile < 48)
  | .storeTestInterval site tile _ => isSite site && decide (tile < 48)
  | .storeTestDone site tile _ _ _ => isSite site && decide (tile < 48)
  | .prioBucketRefill site _ _ => isSite site
  | .checkPeriodEnd site tile => isSite site && decide (tile < 48)
  | .phaseWindowEnd site tile => isSite site && decide (tile < 48)
  | .tileFault site tile => isSite site && decide (tile < 48)
  | .linkAliveTimeout site phys => isSite site && decide (phys < 54)
  | .routeRecomputeDone site => isSite site
  | .vaultColumnPowerUp site tile _ => isSite site && decide (tile < 48)
  | .vaultClearDone site tile => isSite site && decide (tile < 48)
  | .retrim site tile layer _ => isSite site && decide (tile < 48) && decide (layer < 4)
  | .remoteQueueEnqueue site tile _ => isSite site && decide (tile < 48)
  | .remoteAccessServe site tile _ _ => isSite site && decide (tile < 48)
  | .poisonPatternWrite site tile => isSite site && decide (tile < 48)
  | .scrubRead site tile _ _ _ => isSite site && decide (tile < 48)
  | .refreshBurst site tile => isSite site && decide (tile < 48)
  | .trickleRefresh site tile layer bank => isSite site && decide (tile < 48) && decide (layer < 4) && decide (bank < 16)
  | .ceWitnessWindow site => isSite site
  | .marketMatch plane => decide (plane < 8)
  | .bidWordSend port plane => usedPort port && decide (plane < 8)
  | .grantArrival port plane => usedPort port && decide (plane < 8)
  | .slotVerdict port plane _ => usedPort port && decide (plane < 8)
  | .slotRetry port plane => usedPort port && decide (plane < 8)
  | .receiveBufferDrain port plane => usedPort port && decide (plane < 8)
  | .racReadRequest port plane => usedPort port && decide (plane < 8)
  | .racReadReply port _ _ => usedPort port
  | .mergeOpenAccept port => usedPort port
  | .mergeContribution port plane => usedPort port && decide (plane < 8)
  | .mergeResultWrite port ticket => usedPort port && decide (ticket < 65536)
  | .mergeDeadline port ticket => usedPort port && decide (ticket < 65536)
  | .orderlyWithdrawal port => usedPort port
  | .withdrawalComplete port => usedPort port
  | .abruptWithdrawal port _ => usedPort port
  | .portRestore port => usedPort port
  | .planeRetire plane _ => decide (plane < 8)
  | .bundleRecoveryFrame lampDie plane tree => decide (lampDie < 12) && decide (plane < 8) && decide (tree < 7)
  | .pathTest port plane _ => usedPort port && decide (plane < 8)
  | .fieldCacheScrub field _ _ => decide (field < 56)
  | .admitStream _ _ _ _ _ _ _ _ _ => true
  | .prompt _ _ _ => true
  | .cancel _ _ => true
  | .unknownServingMessage _ _ => true
  | .admitHoldExpiry _ => true
  | .tokenSend _ _ _ => true
  | .mirrorWaitExpiry _ _ _ => true
  | .headRecordReceive _ _ _ _ => true
  | .waveDispatch replica _ _ => decide (replica < 2)
  | .waveEnd replica slot => decide (replica < 2) && decide (slot < 4)
  | .waveRerun replica slot => decide (replica < 2) && decide (slot < 4)
  | .queryArrival _ layer _ _ => decide (layer < 256)
  | .streamTokenRerun _ => true
  | .streamFaultTimeout _ => true
  | .tallyPostArrival port _ _ _ replica slot _ => usedPort port && decide (replica < 2) && decide (slot < 4)
  | .planLoad _ => true
  | .serveStart _ => true
  | .laserPowerLoop laser _ => decide (laser < 420)
  | .reserveSwitch laser _ _ => decide (laser < 420)
  | .carrySwitch lampDie set wavelength => decide (lampDie < 12) && decide (set < 6) && decide (wavelength < 5)
  | .fastFade laser _ => decide (laser < 420)
  | .lampDieLost lampDie _ => decide (lampDie < 12)
  | .ringTrack _ _ => true
  | .calibration quantity _ _ _ => decide (quantity < 4)
  | .laneLock lane => decide (lane < 112)
  | .laneRecovery lane _ => decide (lane < 112)
  | .laneDown lane => decide (lane < 112)
  | .laneAcquireRetry lane => decide (lane < 112)
  | .laneBerUpdate lane _ _ _ _ => decide (lane < 112)
  | .dr8Underrun port _ => usedPort port
  | .receiveMaskChange link _ => decide (link < 24)
  | .laneReportRepeat link => decide (link < 24)
  | .laneReportReceive link _ => decide (link < 24)
  | .stripeChangeReceive link _ _ => decide (link < 24)
  | .stripeSwitch link _ => decide (link < 24)
  | .heartbeatSend link => decide (link < 24)
  | .heartbeatReceive link _ iod dir _ _ _ => decide (link < 24) && decide (iod < 4) && decide (dir < 7)
  | .heartbeatMiss link => decide (link < 24)
  | .linkUp link => decide (link < 24)
  | .transitFrame iod dir _ _ _ => decide (iod < 4) && decide (dir < 7)
  | .msgPacket iod _ => decide (iod < 4)
  | .copyPacket iod _ => decide (iod < 4)
  | .writePacket iod _ => decide (iod < 4)
  | .readPacket iod _ _ _ => decide (iod < 4)
  | .readReplyPacket iod _ => decide (iod < 4)
  | .invalLine iod own _ => decide (iod < 4) && own.all (fun f => decide (f < 56))
  | .invalEpoch iod own _ => decide (iod < 4) && own.all (fun f => decide (f < 56))
  | .mergePacket iod _ => decide (iod < 4)
  | .ackPacket iod _ => decide (iod < 4)
  | .openPacket iod _ _ _ => decide (iod < 4)
  | .closePacket iod _ => decide (iod < 4)
  | .ackSend iod _ => decide (iod < 4)
  | .packetSend iod _ field _ => decide (iod < 4) && decide (field < 56)
  | .rtoExpiry iod _ => decide (iod < 4)
  | .increasePeriod iod _ => decide (iod < 4)
  | .holdTimeout iod _ => decide (iod < 4)
  | .remoteReadTimeout iod _ => decide (iod < 4)
  | .channelCacheFill iod _ => decide (iod < 4)
  | .neighbourSolicitation port _ _ => usedPort port
  | .icmpEchoRequest port _ _ _ => usedPort port
  | .descriptorPost port _ _ _ => usedPort port
  | .descriptorFetch port _ => usedPort port
  | .moverReadIssue port _ => usedPort port
  | .moverReadData port _ _ _ => usedPort port
  | .moverWriteIssue port _ => usedPort port
  | .moverResponse port _ _ => usedPort port
  | .moverStopSettled port => usedPort port
  | .descriptorComplete port _ => usedPort port
  | .writeResponseTimeout port _ => usedPort port
  | .channelResume port _ => usedPort port
  | .channelAbort port _ => usedPort port
  | .moverResume _ port => usedPort port
  | .mailboxWrite box _ _ _ _ _ _ => decide (box < 192)
  | .mailboxWaitWrite box _ _ _ _ _ _ => decide (box < 192)
  | .mailboxRelease box _ => decide (box < 192)
  | .mboxWaitExpiry box => decide (box < 192)
  | .checkStart unit => decide (unit < 8)
  | .checkRegWrite unit _ _ => decide (unit < 8)
  | .feed8 unit _ => decide (unit < 8)
  | .feed16 unit _ => decide (unit < 8)
  | .feed32 unit _ => decide (unit < 8)
  | .checkFeedDone unit => decide (unit < 8)
  | .checkClashClear unit => decide (unit < 8)
  | .tick _ _ => true
  | .freqChangeRequest site mhz => isSite site && decide (400 ≤ mhz ∧ mhz ≤ 1800 ∧ mhz % 25 = 0)
  | .freqChangeGate site => isSite site
  | .freqChangeRestart site _ => isSite site
  | .freqChangeResume site => isSite site
  | .vcoreRampDone site => isSite site
  | .replicaSlow site => isSite site
  | .crystalLost _ => true
  | .spinePllUnlock => true
  | .diePllUnlock site _ => isSite site
  | .fieldTimeBaseLoss field _ => decide (field < 56)
  | .bundleClockLoss port plane => usedPort port && decide (plane < 8)
  | .ptpSyncSend _ => true
  | .ptpMessageReceive _ _ _ _ _ _ _ => true
  | .announceTimeout => true
  | .holdoverEnd => true
  | .zoneRealignDone zone _ => decide (zone < 16)
  | .inputSample _ => true
  | .inputRestored => true
  | .efuseShortTrip zone _ => decide (zone < 16)
  | .efuseOvercurrent zone _ => decide (zone < 16)
  | .efuseReclose _ zone => decide (zone < 16)
  | .prechargeTestDone zone _ => decide (zone < 16)
  | .zoneLost zone => decide (zone < 16)
  | .railFault site _ _ => isSite site
  | .powerSample _ _ => true
  | .capLoopStep => true
  | .sensorSample _ => true
  | .stackTrip site => isSite site
  | .heatZoneOff zone => decide (zone < 16)
  | .heatZoneReturn zone => decide (zone < 16)
  | .carryReturn lampDie => decide (lampDie < 12)
  | .panelTrip _ => true
  | .emergencyBitClear _ => true
  | .standbyEnter => true
  | .standbyRelease => true
  | .wakeNAssert => true
  | .read _ => true
  | .write _ => true
  | .stage _ => true
  | .commit _ => true
  | .commitApply _ => true
  | .edgeApply _ => true
  | .abort _ => true
  | .subscribe _ => true
  | .notify _ => true
  | .list _ => true
  | .hello _ _ _ _ _ _ _ _ _ => true
  | .proof _ _ _ _ _ _ _ => true
  | .bye _ => true
  | .challengeTimeout _ => true
  | .sessionIdleTimeout _ => true
  | .helloLockoutEnd _ => true
  | .commandTimeout _ _ => true
  | .portWithdrawCmd _ port => usedPort port
  | .switchover _ => true
  | .imageVerify _ => true
  | .imageVerifyDone => true
  | .imageActivateLive _ => true
  | .imageActivateNextStart _ => true
  | .blackboxFlush _ => true
  | .blackboxFlushDone => true
  | .blackboxSlotErase => true
  | .stackOut _ stack => decide (stack < 96)
  | .lifeCycleToProvisioned _ => true
  | .lifeCycleToDeployed _ => true
  | .lifeCycleToService _ => true
  | .lifeCycleToDecommissioned _ => true
  | .wipeDone => true
  | .zoneResetCmd _ zone => decide (zone < 16)
  | .baseZoneReset zone _ => decide (zone < 16)
  | .zoneResetDrainDone zone => decide (zone < 16)
  | .leaseRenew unit => decide (unit < 2)
  | .renewReceive unit => decide (unit < 2)
  | .leaseStandDown unit => decide (unit < 2)
  | .leaseExpiry => true
  | .leaseGrant => true
  | .firstLeaseTimeout => true
  | .leaseRelease unit _ => decide (unit < 2)
  | .leaseRevoke _ => true
  | .cuOutputReceive unit _ _ _ _ _ => decide (unit < 2)
  | .compareWindowEnd _ => true
  | .selfCheckOutcome _ _ => true
  | .resyncStart unit => decide (unit < 2)
  | .resyncDone unit => decide (unit < 2)
  | .unitRomStart unit _ _ _ _ _ => decide (unit < 2)
  | .procCrash unit proc _ _ => decide (unit < 2) && decide (proc < 4)
  | .procWatchdogExpiry unit proc _ => decide (unit < 2) && decide (proc < 4)
  | .procRestartDone unit proc _ => decide (unit < 2) && decide (proc < 4)
  | .updateHandoverStart => true
  | .updateCommit => true
  | .handoverTimeout => true
  | .cuMailboxService box _ => decide (box < 192)
  | .stackFailureDetect stack _ => decide (stack < 96)
  | .siteLivenessWrite site => isSite site
  | .siteSilent site => isSite site
  | .promotionStageDone stack _ _ _ => decide (stack < 96)
  | .replicaResume replica => decide (replica < 2)
  | .suspendedStreamTimeout replica => decide (replica < 2)
  | .stackRetest site _ => isSite site
  | .panelLost => true
  | .panelFenced => true
  | .adoption _ _ => true
  | .remirrorDone _ _ => true
  | .levyMeterPeriod _ _ => true
  | .coldStart => true
  | .startupStageEnd _ _ _ _ _ => true
  | .tapInstruction _ => true
  | .planLoadDone => true
  | .overlapExpiry => true
  | .alwaysOnFeedRemoved => true
  | .holdUpExhausted => true
  | .holdUpStoreCharged => true
  | .replicaMarginLow site tile _ _ => isSite site && decide (tile < 48)
  | .tapReset => true

end Sys2Proof
end

