-- ==== Sys2Proof/Tests/Slice0.lean ====
section
/-!
SUPPORT. Small tests: ill-formed terms that WellFormed refuses, worked examples of the spec, and for each statement states and operands that
meet its hypotheses together, one for each of its clauses.
-/

namespace Sys2Proof.Tests

open Sys2Proof Sys2Proof.Machine

set_option exponentiation.threshold 1400
set_option maxRecDepth 2000

/-- A step word from (lowest bit, value) pairs. -/
def aWord (l : List (Nat × Nat)) : StepWord := BitVec.ofNat 128 ((l.map (fun p => p.2 * 2 ^ p.1)).sum)

/-- A unit of given data, not marked. -/
def aUnit (n : Nat) : Cell32 := { data := BitVec.ofNat 256 n, mark := false }

/-- A tile that runs, at step 7 of wave 9. -/
def runs : Tile := { Tile.reset with running := true, listLen := 100, pc := 7, wave := 9 }

/-- A state with one tile set, at site 5, tile 3. -/
def at' (t : Tile) : State := State.reset.setTile 5 3 t

theorem test_StepRunsFrontCommand_1 :
    let s : State := { State.reset with pending := [.checkStart 2, .checkStart 3] }
    let c : Instr := .checkStart 2
    let rest : List Instr := [.checkStart 3]
    (s.pending = c :: rest) := by decide

theorem test_StepRunsFrontCommand_2 :
    let s : State := State.reset
    (s.pending = []) := by decide

theorem test_StepKeepsMemoryCanonical_1 :
    let s : State := { State.reset with pending := [.checkStart 2] }
    let t : State := { State.reset with checks := [(2, { CheckUnit.reset with value := 0xFFFFFFFF#64 })] }
    (s.mem.wf) ∧
    (step s = .next t) := ⟨by decide, rfl⟩

theorem test_UnitReadsBack_1 :
    let s : State := State.reset
    (s.mem.wf) := by decide

theorem test_ControlStepsComplete_1 :
    let s : State := at' runs
    let site : Nat := 5
    let tile : Nat := 3
    let w : StepWord := aWord [(0, 1)]
    (s.canIssue site tile 1 0 w {} = true) := by decide

theorem test_ControlStepsComplete_2 :
    let s : State := at' runs
    let site : Nat := 5
    let tile : Nat := 3
    let w : StepWord := aWord [(0, 1), (4, 2), (18, 4), (39, 3), (51, 5)]
    (s.canIssue site tile 1 2 w (loopShape (s.tile site tile) w) = true) := by decide

theorem test_ControlStepsComplete_3 :
    let s : State := at' runs
    let site : Nat := 5
    let tile : Nat := 3
    let w : StepWord := aWord [(0, 1), (4, 3), (18, 7), (21, 100), (38, 2 ^ 18 - 1)]
    (s.canIssue site tile 1 3 w (setixShape w) = true) := by decide

theorem test_ControlStepsComplete_4 :
    let s : State := at' { runs with banks := [(3, { st := .off, change := none })] }
    let site : Nat := 5
    let tile : Nat := 3
    let w : StepWord := aWord [(0, 1), (4, 4), (18, 2 ^ 31 + 10), (50, 0)]
    (s.canIssue site tile 1 4 w (bankpwrShape w) = true) := by decide

theorem test_ControlStepsComplete_5 :
    let s : State := { at' runs with objs := [((.W0012, 0), 32)], time := 5000, log := { State.reset.log with traceAt := [(5, 4000)] } }
    let site : Nat := 5
    let tile : Nat := 3
    let w : StepWord := aWord [(0, 1), (4, 6), (18, 77)]
    (s.canIssue site tile 1 6 w {} = true) ∧
    (bitGet (s.obj .W0012 0) site = true) ∧
    ((∀ p ∈ s.log.traceAt, p.1 = site → p.2 + 1000 ≤ s.time)) := by decide

theorem test_BlockingStepsComplete_1 :
    let s : State := at' { runs with tags := [(4, .busy)] }
    let site : Nat := 5
    let tile : Nat := 3
    let w : StepWord := aWord [(0, 1), (4, 1), (18, 16)]
    (s.canIssue site tile 1 1 w {} = true) := by decide

theorem test_BlockingStepsComplete_1b :
    let s : State := at' { runs with tags := [(4, .done .poisoned)] }
    let site : Nat := 5
    let tile : Nat := 3
    let w : StepWord := aWord [(0, 1), (4, 1), (18, 16)]
    (s.canIssue site tile 1 1 w {} = true) := by decide

theorem test_BlockingStepsComplete_2 :
    let s : State := at' { runs with vq := [default] }
    let site : Nat := 5
    let tile : Nat := 3
    let w : StepWord := aWord [(0, 1), (4, 5)]
    (s.canIssue site tile 1 5 w {} = true) := by decide

theorem test_BlockingStepsComplete_3 :
    let s : State := at' runs
    let site : Nat := 5
    let tile : Nat := 3
    let w : StepWord := aWord [(0, 1), (4, 7), (18, 255)]
    (s.canIssue site tile 1 7 w {} = true) := by decide

theorem test_BlockingStepsComplete_4 :
    let s : State := at' { runs with tags := [(31, .busy), (0, .done .ok)], async := [(31, .load 0 0 1 0 false)], bulk := [default] }
    let site : Nat := 5
    let tile : Nat := 3
    let w : StepWord := aWord [(0, 1), (4, 8)]
    (s.canIssue site tile 1 8 w {} = true) ∧
    ((s.tile site tile).waiting = []) := by decide


/-- A step of class c and op o with operands at units 0, 1000, 2000 and 3000. -/
def stepAt (c o : Nat) (l : List (Nat × Nat)) : StepWord := aWord ([(0, c), (4, o), (38, 1000), (58, 2000), (78, 3000)] ++ l)

theorem test_UnitStepsComplete :
    let s : State := at' runs
    s.canIssue 5 3 2 0 (aWord [(0, 2), (38, 1000), (58, 2000)]) (denseShape (s.tile 5 3) (aWord [(0, 2), (38, 1000), (58, 2000)])) = true ∧
    s.canIssue 5 3 2 1 (stepAt 2 1 []) (binShape (s.tile 5 3) (stepAt 2 1 [])) = true ∧
    s.canIssue 5 3 3 0 (stepAt 3 0 []) (vecShape (s.tile 5 3) (stepAt 3 0 []) none) = true ∧
    s.canIssue 5 3 3 1 (stepAt 3 1 []) (vecShape (s.tile 5 3) (stepAt 3 1 []) none) = true ∧
    s.canIssue 5 3 3 2 (stepAt 3 2 []) (vecShape (s.tile 5 3) (stepAt 3 2 []) none) = true ∧
    s.canIssue 5 3 3 3 (stepAt 3 3 []) (vecShape (s.tile 5 3) (stepAt 3 3 []) none) = true ∧
    s.canIssue 5 3 3 4 (stepAt 3 4 [(98, 1)]) (vecShape (s.tile 5 3) (stepAt 3 4 [(98, 1)]) none) = true ∧
    s.canIssue 5 3 3 5 (aWord [(0, 3), (4, 5), (43, 1), (78, 3000)]) (vecShape (s.tile 5 3) (aWord [(0, 3), (4, 5), (43, 1), (78, 3000)]) (cvtBad (aWord [(0, 3), (4, 5), (43, 1), (78, 3000)]))) = true := by decide


/-- Reads that ECC finds sound, and reads whose units 0 and 1000 it cannot correct. -/
def sound : Ecc := { ue := [], ce := 0 }
def broken : Ecc := { ue := [0, 1000], ce := 2 }

/-- A job of a word. -/
def aJob (w : StepWord) (ea : List Nat) : Job := { word := w, ea := ea, start := 0, index := 6 }

/-- Site 5 has run 10,000 tile cycles. -/
def later (s : State) : State := s.setSite 5 { Site.reset with powered := true, cycles := 10000 }

theorem test_UnitStepsWriteTheirResults_1 :
    let s : State := later (at' { runs with mq := [aJob (aWord [(0, 2), (38, 1000), (58, 2000)]) [0, 1000, 2000]] })
    let site : Nat := 5
    let tile : Nat := 3
    let conflicts : Nat := 2
    let j : Job := aJob (aWord [(0, 2), (38, 1000), (58, 2000)]) [0, 1000, 2000]
    let q : List Job := []
    (s.mem.wf) ∧
    ((s.tile site tile).mq = j :: q) ∧
    (j.start + matrixCycles j.word + conflicts ≤ (s.site site).cycles) := by decide

theorem test_UnitStepsWriteTheirResults_1b :
    let s : State := later (at' { runs with mq := [aJob (stepAt 2 1 []) [0, 1000, 2000, 3000]] })
    let site : Nat := 5
    let tile : Nat := 3
    let conflicts : Nat := 2
    let j : Job := aJob (stepAt 2 1 []) [0, 1000, 2000, 3000]
    let q : List Job := []
    (s.mem.wf) ∧
    ((s.tile site tile).mq = j :: q) ∧
    (j.start + matrixCycles j.word + conflicts ≤ (s.site site).cycles) := by decide

theorem test_UnitStepsWriteTheirResults_2 :
    let s : State := (later (at' { runs with vq := [aJob (stepAt 3 0 []) [0, 1000, 2000, 3000], aJob (stepAt 3 1 []) [0, 1000, 2000, 3000]] })).putUnit (storeAddr 5 3 0) (aUnit 0x3F800000)
    let site : Nat := 5
    let tile : Nat := 3
    let conflicts : Nat := 0
    let j : Job := aJob (stepAt 3 0 []) [0, 1000, 2000, 3000]
    let q : List Job := [aJob (stepAt 3 1 []) [0, 1000, 2000, 3000]]
    (s.mem.wf) ∧
    ((s.tile site tile).vq = j :: q) ∧
    (j.start + vecCycles j.word + conflicts ≤ (s.site site).cycles) := by decide


theorem test_StepsThatDoNotIssue :
    let s : State := at' { runs with tags := [(4, .busy)], mq := [default, default, default, default] }
    (at' { runs with stopped := true }).tile 5 3 ≠ runs ∧
    issueTrap (aWord [(0, 1), (4, 9)]) {} = some (trIllegalStep, 0x91) ∧ issueTrap (aWord [(0, 1)]) { queue := 1 } = none ∧
    s.stallCause 5 3 (s.tile 5 3) { queue := 1 } = some 1 ∧ s.stallCause 5 3 (s.tile 5 3) { tag := some 4 } = none ∧
    (s.tile 5 3).stateTrap { tag := some 4 } = some (trTagBusy, 4) ∧ (s.tile 5 3).running = true ∧ (s.tile 5 3).trapped = false ∧
    (s.tile 5 3).stopped = false ∧ (s.tile 5 3).block = none ∧ (s.site 5).gated = false ∧ (s.tile 5 3).issued = false ∧ (s.tile 5 3).pc / 2048 < 2 := by decide

theorem test_TransferStepsComplete_1_1 :
    let s : State := at' runs
    let site : Nat := 5
    let tile : Nat := 3
    let w : StepWord := aWord [(0, 4), (18, 10), (38, 2 ^ 23 - 2), (63, 1), (80, 31)]
    let T := s.tile site tile
    (s.canIssue site tile 4 0 w (lsShape 0 T w) = true) := by decide

theorem test_TransferStepsComplete_1_2 :
    let s : State := at' runs
    let site : Nat := 5
    let tile : Nat := 3
    let w : StepWord := aWord [(0, 4), (4, 1), (18, 10), (38, 2 ^ 23 - 2), (63, 1), (80, 31)]
    let T := s.tile site tile
    (s.canIssue site tile 4 1 w (lsShape 1 T w) = true) := by decide

theorem test_TransferStepsComplete_1_3 :
    let s : State := at' runs
    let site : Nat := 5
    let tile : Nat := 3
    let w : StepWord := aWord [(0, 6), (18, 7), (21, 111), (28, 2), (31, 7), (34, 9)]
    (s.canIssue site tile 6 0 w (bidShape w) = true) := by decide

theorem test_TransferStepsComplete_1_5 :
    let s : State := at' runs
    let site : Nat := 5
    let tile : Nat := 3
    let w : StepWord := aWord [(0, 7), (18, 65535), (34, 96), (41, 3), (53, 2), (55, 4000), (75, 45), (81, 1), (93, 31)]
    let T := s.tile site tile
    (s.canIssue site tile 7 0 w (mergeOpenShape T w) = true) := by decide

theorem test_TransferStepsComplete_1_6 :
    let s : State := at' runs
    let site : Nat := 5
    let tile : Nat := 3
    let w : StepWord := aWord [(0, 9), (38, 500), (63, 15), (79, 512), (101, 900), (121, 30)]
    let T := s.tile site tile
    (s.canIssue site tile 9 0 w (sieveShape T w) = true) := by decide

theorem test_TransferStepsComplete_1_7 :
    let s : State := at' { runs with bucket := 1 }
    let site : Nat := 5
    let tile : Nat := 3
    let w : StepWord := aWord [(0, 8), (4, 1), (18, 4095), (30, 111), (37, 1)]
    (s.canIssue site tile 8 1 w (tallyPostShape w) = true) := by decide

theorem test_FurrowStepsComplete_1 :
    let s : State := at' runs
    let site : Nat := 5
    let tile : Nat := 3
    let w : StepWord := aWord [(0, 5), (18, 64), (38, 47), (44, 1), (45, 3), (61, 1000)]
    (s.canIssue site tile 5 0 w (furrowSendShape (s.tile site tile) w) = true) := by decide

theorem test_FurrowStepsComplete_2 :
    let s : State := later (at' { runs with fq := [aJob (aWord [(0, 5), (45, 9)]) [64]] })
    let site : Nat := 5
    let tile : Nat := 3
    let j : Job := aJob (aWord [(0, 5), (45, 9)]) [64]
    let q : List Job := []
    ((s.tile site tile).fq = j :: q) ∧
    (j.start + 4 + (furrowBeats j.word - 1) ≤ (s.site site).cycles) ∧
    ((∀ b ∈ (s.site site).mesh, b.beat.src = tile → b.since ≠ none)) := by decide

theorem test_FurrowStepsComplete_3 :
    let s : State := at' runs
    let site : Nat := 5
    let tile : Nat := 3
    let w : StepWord := aWord [(0, 5), (4, 1), (18, 64), (38, 47), (45, 3), (61, 1000), (77, 65535)]
    (s.canIssue site tile 5 1 w (furrowReceiveShape (s.tile site tile) w) = true) ∧
    ((if furrowVc w then (s.tile site tile).prio else (s.tile site tile).bulk) = []) := by decide


/-- A pending receive of two beats of flow 8 from tile 4. -/
def waitsBeat : Recv := { src := 4, flow := 8, len := 2, vc := true, base := 64, got := 0, deadline := some 900 }

/-- A beat of flow 8 from tile 4 to tile 3 that left at cycle 100. -/
def aBeat : MeshBeat := { dst := 3, vc := true, rill := 8, sentAt := 100, beat := { src := 4, flow := 8, len := 2, data := { lo := aUnit 5, hi := aUnit 6 } }, here := 3, came := 1, path := [], since := some 98, out := some 100 }

theorem test_FurrowStepsComplete_4 :
    let s : State := at' { runs with block := some .recv, recv := some { waitsBeat with got := 2 } }
    let site : Nat := 5
    let tile : Nat := 3
    let r : Recv := { waitsBeat with got := 2 }
    ((s.tile site tile).recv = some r) ∧
    (r.len ≤ r.got) ∧
    ((s.tile site tile).trapped = false) ∧
    ((s.tile site tile).holdsWrite { base := r.base, len := 2 * r.len } = false) := by decide

theorem test_FurrowStepsComplete_5 :
    let s : State := (at' runs).setSite 5 { Site.reset with powered := true, cycles := 10000, mesh := [aBeat] }
    let site : Nat := 5
    let tile : Nat := 3
    let src : Nat := 4
    let flow : Nat := 8
    let c : Nat := 100
    let vc : Bool := true
    let b : MeshBeat := aBeat
    let rest : List MeshBeat := []
    (takeFirst (fun b => decide (b.dst = tile) && b.vc == vc && decide (b.beat.src = src) && decide (b.beat.flow = flow)) (s.site site).mesh = some (b, rest)) ∧
    (b.out = some c) ∧
    (c + 2 ≤ (s.site site).cycles) ∧
    ((s.site site).gated = false) ∧
    ((s.tile site tile).recv = none) ∧
    ((if vc then (s.tile site tile).prio else (s.tile site tile).bulk).length < 32) := by decide

theorem test_FurrowStepsComplete_6 :
    let s : State := (at' { runs with block := some .recv, recv := some waitsBeat }).setSite 5 { Site.reset with powered := true, cycles := 10000, mesh := [aBeat] }
    let site : Nat := 5
    let tile : Nat := 3
    let src : Nat := 4
    let flow : Nat := 8
    let c : Nat := 100
    let vc : Bool := true
    let b : MeshBeat := aBeat
    let rest : List MeshBeat := []
    let r : Recv := waitsBeat
    (s.mem.wf) ∧
    (takeFirst (fun b => decide (b.dst = tile) && b.vc == vc && decide (b.beat.src = src) && decide (b.beat.flow = flow)) (s.site site).mesh = some (b, rest)) ∧
    (b.out = some c) ∧
    (c + 2 ≤ (s.site site).cycles) ∧
    ((s.site site).gated = false) ∧
    ((s.tile site tile).recv = some r) ∧
    (r.vc = vc) ∧
    (r.got < r.len) ∧
    ((s.tile site tile).trapped = false) ∧
    ((s.tile site tile).held = []) ∧
    ((∀ k, (s.tile site tile).bank k = { st := .on, change := none })) ∧
    ((if vc then (s.tile site tile).prio else (s.tile site tile).bulk) = []) ∧
    (src = r.src) ∧
    (flow = r.flow) ∧
    (b.beat.len = r.len) := by refine ⟨by decide, by decide, by decide, by decide, by decide, by decide, by decide, by decide, by decide, by decide, fun k => rfl, by decide, by decide, by decide, by decide⟩

theorem test_FurrowStepsComplete_7 :
    let s : State := later (at' { runs with block := some .recv, recv := some waitsBeat })
    let site : Nat := 5
    let tile : Nat := 3
    let r : Recv := waitsBeat
    let d : Nat := 900
    ((s.tile site tile).recv = some r) ∧
    (r.deadline = some d) ∧
    (r.got = 0) ∧
    (d < (s.site site).cycles) ∧
    ((s.tile site tile).trapped = false) := by decide

theorem test_TallyAndTrapCommandsComplete_1 :
    let s : State := at' runs
    let site : Nat := 5
    let tile : Nat := 3
    let w : StepWord := aWord [(0, 8), (18, 4095), (30, 2 ^ 40 - 1), (70, 65535)]
    (s.canIssue site tile 8 0 w {} = true) := by decide

theorem test_TallyAndTrapCommandsComplete_2 :
    let s : State := (at' { runs with block := some (.tally 70 9 none) }).setSite 5 { Site.reset with tally := [(70, 9)] }
    let site : Nat := 5
    let tile : Nat := 3
    let ctr : Nat := 70
    let target : Nat := 9
    let d : Option Nat := none
    ((s.tile site tile).block = some (.tally ctr target d)) ∧
    (target ≤ s.siteTally site ctr) := by decide

theorem test_TallyAndTrapCommandsComplete_3 :
    let s : State := { at' { runs with block := some (.tally 70 9 (some 60)) } with time := 60 }
    let site : Nat := 5
    let tile : Nat := 3
    let ctr : Nat := 70
    let target : Nat := 9
    let d : Nat := 60
    ((s.tile site tile).block = some (.tally ctr target (some d))) ∧
    (s.siteTally site ctr < target) ∧
    (d ≤ s.time) ∧
    ((s.tile site tile).running = true) ∧
    ((s.tile site tile).trapped = false) := by decide


/-- A direct post to counter 9 of port 5. -/
def aPost : Post := { src := 0, port := 5, ctr := 9, inc := 3, step := false, wave16 := 0, replica := 0, slot := 0 }

theorem test_TallyAndTrapCommandsComplete_4 :
    let s : State := { State.reset with posts := [{ aPost with src := 5 }], sites := [(5, { Site.reset with tally := [(9, 2 ^ 64 - 1)] })] }
    let port : Nat := 5
    let ctr : Nat := 9
    let inc : Nat := 3
    let p : Post := { aPost with src := 5 }
    let rest : List Post := []
    (takeFirst (fun p : Post => p.crossing.isNone && p.port == port && p.ctr == ctr && p.inc == inc && p.step == false && (!false || (p.wave16 == 0 && p.replica == 0 && p.slot == 0))) s.posts
          = some (p, rest)) ∧
    (isDark port = false) ∧
    ((p.src = port ∨ s.inService port = true)) ∧
    (iodOfPort port = none) := by decide

theorem test_TallyAndTrapCommandsComplete_5 :
    let s : State := { at' { runs with wait := some { (default : IssueWait) with cause := 2, ns := 40, index := 7 } } with time := 2 ^ 60 }
    let site : Nat := 5
    let tile : Nat := 3
    let v : IssueWait := { (default : IssueWait) with cause := 2, ns := 40, index := 7 }
    ((s.tile site tile).wait = some v) ∧
    ((s.tile site tile).running = true) ∧
    ((s.tile site tile).trapped = false) ∧
    (v.ns + 1000 * s.obj .S0303 0 < s.time) := by decide

theorem test_TallyAndTrapCommandsComplete_6 :
    let s : State := at' { runs with traps := [{ (default : TrapRec) with code := 16, tile := 3 }], bucket := 1 }
    let site : Nat := 5
    let tile : Nat := 3
    let r : TrapRec := { (default : TrapRec) with code := 16, tile := 3 }
    let q : List TrapRec := []
    ((s.tile site tile).traps = r :: q) ∧
    (0 < (s.tile site tile).bucket) ∧
    ((s.box (64 + site)).full = false) := by decide

theorem test_TallyAndTrapCommandsComplete_7 :
    let s : State := { at' runs with boxes := [(69, { (default : Mailbox) with full := true, msg := 16 })] }
    let site : Nat := 5
    ((s.box (64 + site)).full = true) := by decide


/-- A ticket 9 of tile 3, tag 4. -/
def aTicket : Ticket := { (default : Ticket) with ticket := 9, tile := 3, tag := 4, expected := 2, flits := 1 }

/-- A vault column at site 5, tile 3, that serves. -/
def column (c : VaultCol) : State := State.reset.setCol 5 3 { c with powered := true, usable := true }

/-- A mover's write into tile 3's vaults. -/
def remoteSlot : Slot := { (default : Slot) with dst := 5, ttile := 3, taddr := 4, len := 1, tag := 6, payload := [aUnit 1] }

/-- A read of two units of tile 3's vaults. -/
def remoteRead : ReadJob := { port := 5, record := { (default : ReadRec) with ttile := 3, addr := 4, len := 2, rid := 6 }, sent := false, answer := none }

/-- A plan whose wave type 0 is phased at tile 3. -/
def phased : PlanImage := { (default : PlanImage) with phase := [((0, 3), 1)] }

/-- A site whose stack is powered. -/
def siteOn : Site := { Site.reset with powered := true, cycles := 9000 }

theorem test_TagAndListCommandsComplete_1b :
    let s : State := at' { runs with tags := [(31, .busy)], async := [(31, .bid 7 111 .C 2 2 [.timeout, .poisoned])] }
    let site : Nat := 5
    let tile : Nat := 3
    let tag : Nat := 31
    let pl : Nat := 7
    let d : Nat := 111
    let slots : Nat := 2
    let st : Nat := 2
    let c : Cls := .C
    let codes : List Code := [.timeout, .poisoned]
    ((s.tile site tile).async.find? (fun p => p.1 == tag) = some (tag, .bid pl d c slots st codes)) ∧
    (slots ≤ codes.length) ∧
    ((s.tile site tile).block = none) := by decide

theorem test_TagAndListCommandsComplete_2 :
    let s : State := { at' { runs with tags := [(0, .busy)], async := [(0, .load 100 (2 ^ 23 - 2) 2 0 false)] } with cols := [((5, 3), { VaultCol.reset with powered := true })] }
    let site : Nat := 5
    let tile : Nat := 3
    let tag : Nat := 0
    let u : Nat := 100
    let v : Nat := 2 ^ 23 - 2
    let n : Nat := 2
    let first : Nat := 0
    ((s.tile site tile).async.find? (fun p => p.1 == tag) = some (tag, .load u v n first false)) ∧
    (s.verticalNow site tile tag first = true) ∧
    ((s.site site).gated = false) ∧
    ((s.col site tile).buf = none) ∧
    ((s.tile site tile).block = none) := by decide

theorem test_TagAndListCommandsComplete_3 :
    let s : State := { at' { runs with tags := [(0, .busy)], async := [(0, .store 100 (2 ^ 23 - 2) 2 0 false)] } with cols := [((5, 3), { VaultCol.reset with powered := true })] }
    let site : Nat := 5
    let tile : Nat := 3
    let tag : Nat := 0
    let u : Nat := 100
    let v : Nat := 2 ^ 23 - 2
    let n : Nat := 2
    let first : Nat := 0
    ((s.tile site tile).async.find? (fun p => p.1 == tag) = some (tag, .store u v n first false)) ∧
    (s.verticalNow site tile tag first = true) ∧
    ((s.site site).gated = false) ∧
    ((s.tile site tile).block = none) := by decide

theorem test_TagAndListCommandsComplete_4 :
    let s : State := { at' runs with stations := [(5, { opens := [], tickets := [{ aTicket with fin := some .ok }] })] }
    let site : Nat := 5
    let tile : Nat := 3
    let w : StepWord := aWord [(0, 7), (4, 1), (18, 9)]
    let k : Ticket := { aTicket with fin := some .ok }
    (s.canIssue site tile 7 1 w mergeCloseShape = true) ∧
    ((s.station site).ticket (fld w 18 16) = some k) ∧
    (k.fin ≠ none) := by decide

theorem test_TagAndListCommandsComplete_5 :
    let s : State := { at' { runs with async := [(4, .merge 9 none)], tags := [(4, .busy)] } with stations := [(5, { opens := [], tickets := [aTicket] })] }
    let site : Nat := 5
    let tile : Nat := 3
    let w : StepWord := aWord [(0, 7), (4, 1), (18, 9)]
    let k : Ticket := aTicket
    (s.canIssue site tile 7 1 w mergeCloseShape = true) ∧
    ((s.station site).ticket (fld w 18 16) = some k) ∧
    (k.fin = none) := by decide

theorem test_TagAndListCommandsComplete_6 :
    let s : State := at' { runs with half := 0, listLen := 4097 }
    let site : Nat := 5
    let tile : Nat := 3
    ((s.tile site tile).running = true) ∧
    (((s.tile site tile).half + 1) * 2048 < (s.tile site tile).listLen) := by decide

theorem test_TileStoreCommandsComplete_2 :
    let s : State := { (at' { runs with banks := [(31, { st := .on, change := some { target := .off, doneAt := some 50, next := none } })] }).putUnit (storeAddr 5 3 (2 ^ 17 - 1)) (aUnit 7) with time := 50 }
    let site : Nat := 5
    let tile : Nat := 3
    let k : Nat := 31
    let d : Nat := 50
    let c : BankChange := { target := .off, doneAt := some 50, next := none }
    (((s.tile site tile).bank k).change = some c) ∧
    (c.doneAt = some d) ∧
    (d ≤ s.time) := by decide

theorem test_TileStoreCommandsComplete_2b :
    let s : State := { (at' { runs with banks := [(31, { st := .on, change := some { target := .retention, doneAt := some 50, next := some .on } })] }).putUnit (storeAddr 5 3 (2 ^ 17 - 1)) (aUnit 7) with time := 50 }
    let site : Nat := 5
    let tile : Nat := 3
    let k : Nat := 31
    let d : Nat := 50
    let c : BankChange := { target := .retention, doneAt := some 50, next := some .on }
    (((s.tile site tile).bank k).change = some c) ∧
    (c.doneAt = some d) ∧
    (d ≤ s.time) := by decide

theorem test_TileStoreTestAndBucketsComplete_1 :
    let s : State := { at' { runs with testNext := 16383, banks := [(31, { st := .off, change := none })] } with time := 2 ^ 60 }
    let site : Nat := 5
    let tile : Nat := 3
    let r : Nat := 0
    (s.obj .S0304 0 ≠ 0) ∧
    ((s.tile site tile).testTime + 1000 * s.obj .S0304 0 ≤ s.time) ∧
    ((s.tile site tile).testLock = none) ∧
    ((s.tile site tile).nextRegion (s.tile site tile).testNext = some r) := by decide

theorem test_TileStoreTestAndBucketsComplete_2 :
    let s : State := at' { runs with testLock := some 16383 }
    let site : Nat := 5
    let tile : Nat := 3
    let r : Nat := 16383
    ((s.tile site tile).testLock = some r) := by decide

theorem test_TileStoreTestAndBucketsComplete_2b :
    let s : State := at' { runs with testLock := some 511, spares := [(0, 0)] }
    let site : Nat := 5
    let tile : Nat := 3
    let r : Nat := 511
    ((s.tile site tile).testLock = some r) := by decide

theorem test_TileStoreTestAndBucketsComplete_2c :
    let s : State := at' { runs with testLock := some 511, spares := [(0, 0)] }
    let site : Nat := 5
    let tile : Nat := 3
    let r : Nat := 511
    ((s.tile site tile).testLock = some r) := by decide

theorem test_TileStoreTestAndBucketsComplete_3 :
    let s : State := (at' { runs with bucket := 4, refillAt := 8984, recWait := some 8000 }).setSite 5 siteOn
    let site : Nat := 5
    let who : Nat := 3
    ((s.tile site who).refillAt + 16 ≤ (s.site site).cycles) := by decide

theorem test_TileStoreTestAndBucketsComplete_4 :
    let s : State := (at' runs).setSite 5 { siteOn with attach := [(31, 15)], attachAt := [(31, 8996)] }
    let site : Nat := 5
    let who : Nat := 31
    (who ∈ attachTiles) ∧
    (mapGet 0 (s.site site).attachAt who + 4 ≤ (s.site site).cycles) := by decide

theorem test_DieCommandsComplete_1 :
    let s : State := { (at' { runs with issued := true, window := 0, periodAt := 8192, busyIv := [(8000, 8577)] }).setSite 5 siteOn with plan := { State.reset.plan with image := some phased }, objs := [((.M050A, 0), 1)] }
    let site : Nat := 5
    let tile : Nat := 3
    ((s.tile site tile).running = true) ∧
    ((s.tile site tile).issued = true) ∧
    (s.phaseWord (s.tile site tile) tile % 2 = 1) ∧
    (s.obj .M050A 0 = phaseCountOnly) ∧
    ((s.tile site tile).periodAt + 512 ≤ (s.site site).cycles) ∧
    (isMWindow (s.phaseWord (s.tile site tile) tile) tile (s.tile site tile).window = false) ∧
    (384 < (s.tile site tile).busyIn (s.tile site tile).periodAt) := by decide

theorem test_DieCommandsComplete_2 :
    let s : State := { (at' { runs with issued := true, window := 0, conflicts := 16, periodAt := 8192, busyIv := [(8000, 8577)] }).setSite 5 siteOn with plan := { State.reset.plan with image := some phased }, objs := [((.M050B, 0), 16)] }
    let site : Nat := 5
    let tile : Nat := 3
    ((s.tile site tile).running = true) ∧
    ((s.tile site tile).issued = true) ∧
    (s.phaseWord (s.tile site tile) tile % 2 = 1) ∧
    (s.obj .M050A 0 = phasePlan) ∧
    ((s.tile site tile).periodAt + 512 ≤ (s.site site).cycles) ∧
    (isMWindow (s.phaseWord (s.tile site tile) tile) tile (s.tile site tile).window = false) ∧
    (384 < (s.tile site tile).busyIn (s.tile site tile).periodAt) ∧
    (s.obj .M050B 0 < (s.tile site tile).conflicts + 1) := by decide

theorem test_DieCommandsComplete_3 :
    let s : State := { (at' { runs with issued := true, window := 1 }).setSite 5 { Site.reset with cycles := 8192 } with plan := { State.reset.plan with image := some phased } }
    let site : Nat := 5
    let tile : Nat := 3
    ((s.tile site tile).running = true) ∧
    ((s.tile site tile).issued = true) ∧
    (s.phaseWord (s.tile site tile) tile % 2 = 1) ∧
    (((s.tile site tile).window + 1) * windowPeriods (s.phaseWord (s.tile site tile) tile) * 512 ≤ (s.site site).cycles - (s.tile site tile).firstCycle) := by decide

theorem test_DieCommandsComplete_5 :
    let s : State := at' runs
    let site : Nat := 5
    let phys : Nat := 53
    (phys ∉ (s.site site).reported) ∧
    (bitGet (s.obj .S0401 site) phys = false) := by decide

theorem test_DieCommandsComplete_6 :
    let s : State := (at' runs).setSite 5 { Site.reset with reported := [53, 0] }
    let site : Nat := 5
    ((s.site site).reported ≠ []) := by decide

theorem test_VaultColumnCommandsComplete_1 :
    let s : State := State.reset.setSite 5 siteOn
    let site : Nat := 5
    let tile : Nat := 3
    let runs : List (Nat × Nat) := [(16, 40), (20, 30), (16, 63), (64, 32), (16, 1), (17, 2), (18, 3), (19, 4)]
    ((s.col site tile).powered = false) ∧
    ((s.site site).powered = true) ∧
    ((∀ k, k < 8 → 16 ≤ (runs.getD k (0, 0)).1)) := by decide

theorem test_VaultColumnCommandsComplete_2 :
    let s : State := State.reset.setSite 5 siteOn
    let site : Nat := 5
    let tile : Nat := 3
    let runs : List (Nat × Nat) := [(16, 40), (20, 30), (16, 63), (64, 32), (16, 1), (17, 2), (18, 3), (15, 4)]
    ((s.col site tile).powered = false) ∧
    ((s.site site).powered = true) ∧
    ((∃ k, k < 8 ∧ (runs.getD k (0, 0)).1 < 16)) := ⟨by decide, by decide, 7, by decide⟩

theorem test_VaultColumnCommandsComplete_3 :
    let s : State := { (column { VaultCol.reset with clearing := true, clearAt := 77 }).putUnit (vaultAddr 5 3 4) (aUnit 7) with time := 77 }
    let site : Nat := 5
    let tile : Nat := 3
    ((s.col site tile).powered = true) ∧
    ((s.col site tile).clearing = true) ∧
    ((s.col site tile).clearAt ≤ s.time) := by decide

theorem test_VaultColumnCommandsComplete_4 :
    let s : State := { column { VaultCol.reset with taps := [(4, (30, 20)), (5, (33, 20))] } with time := 10 ^ 12 }
    let site : Nat := 5
    let tile : Nat := 3
    let layer : Nat := 2
    ((s.col site tile).powered = true) ∧
    ((s.col site tile).clearing = false) ∧
    (s.retrimDue site tile layer = true) ∧
    (s.channelIdle site tile = true) ∧
    (layer < 4) := by decide

theorem test_VaultColumnCommandsComplete_4b :
    let s : State := { column { VaultCol.reset with taps := [(4, (30, 20))], retrimWant := [2] } with time := 7 }
    let site : Nat := 5
    let tile : Nat := 3
    let layer : Nat := 2
    ((s.col site tile).powered = true) ∧
    ((s.col site tile).clearing = false) ∧
    (s.retrimDue site tile layer = true) ∧
    (s.channelIdle site tile = true) ∧
    (layer < 4) := by decide

theorem test_VaultColumnCommandsComplete_5 :
    let s : State := State.reset.setField 2 { State.reset.field 2 with writeQ := [remoteSlot, { remoteSlot with tag := 7 }] }
    let site : Nat := 5
    let tile : Nat := 3
    let x : Slot := remoteSlot
    let rest : List Slot := [{ remoteSlot with tag := 7 }]
    (takeFirst (fun x : Slot => x.dst == site && x.ttile == tile) (s.field (fieldOf site)).writeQ = some (x, rest)) := by decide

theorem test_VaultColumnCommandsComplete_5b :
    let s : State := (column { VaultCol.reset with queue := List.replicate 8 default }).setField 2 { State.reset.field 2 with writeQ := [remoteSlot] }
    let site : Nat := 5
    let tile : Nat := 3
    let x : Slot := remoteSlot
    let rest : List Slot := []
    (takeFirst (fun x : Slot => x.dst == site && x.ttile == tile) (s.field (fieldOf site)).writeQ = some (x, rest)) := by decide

theorem test_VaultColumnCommandsComplete_6 :
    let s : State := State.reset.setField 2 { State.reset.field 2 with reads := [remoteRead] }
    let site : Nat := 5
    let tile : Nat := 3
    let j : ReadJob := remoteRead
    ((s.field (fieldOf site)).reads.find? (fun j => j.passes site tile) = some j) ∧
    (s.writeHeld site tile j.record.addr j.record.len = false) := by decide

theorem test_VaultColumnCommandsComplete_7 :
    let s : State := column { VaultCol.reset with queue := [{ write := true, addr := 4, len := 2, data := [aUnit 1, { aUnit 2 with mark := true }], rid := 6 }], held := [default] }
    let site : Nat := 5
    let tile : Nat := 3
    let r : RemoteReq := { write := true, addr := 4, len := 2, data := [aUnit 1, { aUnit 2 with mark := true }], rid := 6 }
    let q : List RemoteReq := []
    (s.mem.wf) ∧
    ((s.col site tile).queue = r :: q) ∧
    ((s.col site tile).powered = true) ∧
    ((s.col site tile).clearing = false) ∧
    ((s.col site tile).group ≠ some (s.time / s.groupCycles)) ∧
    ((s.band site ≠ bandB4 ∨ (s.col site tile).acc ≠ [])) ∧
    (r.write = true) := by decide

theorem test_VaultColumnCommandsComplete_7b :
    let s : State := column { VaultCol.reset with queue := [{ write := true, addr := 7, len := 2, data := [aUnit 1, aUnit 2], rid := 6 }] }
    let site : Nat := 5
    let tile : Nat := 3
    let r : RemoteReq := { write := true, addr := 7, len := 2, data := [aUnit 1, aUnit 2], rid := 6 }
    let q : List RemoteReq := []
    (s.mem.wf) ∧
    ((s.col site tile).queue = r :: q) ∧
    ((s.col site tile).powered = true) ∧
    ((s.col site tile).clearing = false) ∧
    ((s.col site tile).group ≠ some (s.time / s.groupCycles)) ∧
    ((s.band site ≠ bandB4 ∨ (s.col site tile).acc ≠ [])) ∧
    (r.write = true) := by decide

theorem test_VaultColumnCommandsComplete_8 :
    let s : State := (column { VaultCol.reset with queue := [{ write := false, addr := 4, len := 2, data := [], rid := 6 }] }).putUnit (vaultAddr 5 3 5) (aUnit 8)
    let site : Nat := 5
    let tile : Nat := 3
    let r : RemoteReq := { write := false, addr := 4, len := 2, data := [], rid := 6 }
    let q : List RemoteReq := []
    ((s.col site tile).queue = r :: q) ∧
    ((s.col site tile).powered = true) ∧
    ((s.col site tile).clearing = false) ∧
    ((s.col site tile).group ≠ some (s.time / s.groupCycles)) ∧
    ((s.band site ≠ bandB4 ∨ (s.col site tile).acc ≠ [])) ∧
    (r.write = false) ∧
    ((s.field (fieldOf site)).reads = []) := by decide

theorem test_VaultColumnCommandsComplete_8b :
    let s : State := column { VaultCol.reset with queue := [{ write := false, addr := 7, len := 9, data := [], rid := 6 }], acc := [aUnit 3] }
    let site : Nat := 5
    let tile : Nat := 3
    let r : RemoteReq := { write := false, addr := 7, len := 9, data := [], rid := 6 }
    let q : List RemoteReq := []
    ((s.col site tile).queue = r :: q) ∧
    ((s.col site tile).powered = true) ∧
    ((s.col site tile).clearing = false) ∧
    ((s.col site tile).group ≠ some (s.time / s.groupCycles)) ∧
    ((s.band site ≠ bandB4 ∨ (s.col site tile).acc ≠ [])) ∧
    (r.write = false) ∧
    ((s.field (fieldOf site)).reads = []) := by decide

theorem test_VaultColumnCommandsComplete_9 :
    let s : State := { column { VaultCol.reset with queue := [{ write := true, addr := 7, len := 1, data := [aUnit 1], rid := 6 }] } with objs := [((.T0120, 5), bandB4)] }
    let site : Nat := 5
    let tile : Nat := 3
    let r : RemoteReq := { write := true, addr := 7, len := 1, data := [aUnit 1], rid := 6 }
    let q : List RemoteReq := []
    ((s.col site tile).queue = r :: q) ∧
    ((s.col site tile).powered = true) ∧
    ((s.col site tile).clearing = false) ∧
    ((s.col site tile).group ≠ some (s.time / s.groupCycles)) ∧
    (s.band site = bandB4) ∧
    ((s.col site tile).acc = []) ∧
    (r.write = true) := by decide

theorem test_VaultUpkeepCommandsComplete_1 :
    let s : State := column { VaultCol.reset with poisonQ := [4, 6] }
    let site : Nat := 5
    let tile : Nat := 3
    let a : Nat := 4
    let q : List Nat := [6]
    ((s.col site tile).poisonQ = a :: q) := by decide

theorem test_VaultUpkeepCommandsComplete_2 :
    let s : State := column { VaultCol.reset with scrubAt := 2 ^ 22 - 2 }
    let site : Nat := 5
    let tile : Nat := 3
    ((s.col site tile).powered = true) ∧
    ((s.col site tile).clearing = false) ∧
    (s.obj .M0500 0 ≠ 0) ∧
    (s.channelIdle site tile = true) ∧
    (((s.col site tile).scrubAt ≠ 0 ∨ (s.col site tile).scrubNext ≤ s.time)) ∧
    ((s.col site tile).scrubAt + 1 < scrubTransfers) := by decide

theorem test_VaultUpkeepCommandsComplete_3 :
    let s : State := { column { VaultCol.reset with owed := [(0, 3)], owedAt := 1000000 } with time := 1000000 }
    let site : Nat := 5
    let tile : Nat := 3
    ((s.col site tile).powered = true) ∧
    (s.inVWindow site tile = true) ∧
    ((s.col site tile).poisonQ = []) ∧
    ((s.accrue site tile).atLimit = false) := by decide

theorem test_VaultUpkeepCommandsComplete_4 :
    let s : State := column { VaultCol.reset with owed := [(63, 16)] }
    let site : Nat := 5
    let tile : Nat := 3
    let layer : Nat := 3
    let bank : Nat := 15
    ((s.col site tile).powered = true) ∧
    (16 ≤ mapGet 0 (s.accrue site tile).owed (16 * layer + bank)) ∧
    ((s.col site tile).poisonQ = []) ∧
    ((s.tile site tile).firstWaits s.time (fun k => k == 16 * layer + bank) = false) := by decide

theorem test_VaultUpkeepCommandsComplete_5 :
    let s : State := { State.reset.setSite 5 siteOn with time := 10000000, layers := [((5, 3), { (default : Layer) with now := 64 })] }
    let site : Nat := 5
    let l : Nat := 3
    ((s.site site).powered = true) ∧
    ((s.layer site 0).since + 10000000 ≤ s.time) ∧
    (l < 4) ∧
    ((s.layer site l).set = false) ∧
    (64 ≤ (s.layer site l).now) ∧
    (s.obj .M050E 0 * (s.layer site l).windows.foldl (· + ·) 0 < (s.layer site l).now * max 1 (s.layer site l).windows.length) := by decide


/-- Ports in service. -/
def open' (l : List Nat) : AMap (Obj × Nat) Nat := l.map (fun p => ((.B0601, p), portInService))

/-- A bid of tile 3, tag 4. -/
def aBid (dst : Nat) (c : Cls) (n : Nat) : Bid := { dst := dst, cls := c, slots := n, sender := .tile 3, tag := 4, sidx := 0, retry := false }

/-- A staged slot of tile 3, tag 4. -/
def aSlot : Slot := { (default : Slot) with src := 5, dst := 7, cls := .B, ttile := 3, taddr := 10, len := 1, tag := 4, sender := .tile 3, payload := [aUnit 5] }

/-- A state in which plane 7 has a market. -/
def market (m : Market) : State := { State.reset with markets := [(7, m)], objs := open' [5, 7, 9, 111], time := 6400 }

theorem test_MarketGrantsEachPortOnce_1 :
    let s : State := market { (default : Market) with table := [⟨5, aBid 7 .A 3, 0⟩, ⟨5, aBid 9 .B 3, 0⟩, ⟨9, aBid 7 .B 2, 1⟩, ⟨7, aBid 9 .D 1, 1⟩] }
    let plane : Nat := 7
    ((s.market plane).lastMatch ≠ some s.slotNo) := by decide

theorem test_MarketGrantsEachPortOnce_2 :
    let s : State := market { (default : Market) with lastMatch := some 100 }
    let plane : Nat := 7
    ((s.market plane).lastMatch = some s.slotNo) := by decide

theorem test_BidsAndGrantsComplete_1 :
    let s : State := ({ State.reset with time := 64 } : State).setGate 5 7 { Gate.reset with bids := [aBid 7 .B 3, aBid 7 .A 3, aBid 9 .A 1] }
    let port : Nat := 5
    let plane : Nat := 7
    let b : Bid := aBid 7 .A 3
    let rest : List Bid := [aBid 7 .B 3, aBid 9 .A 1]
    ((s.gate port plane).wordSlot ≠ some s.slotNo) ∧
    (s.obj .B0600 plane ≠ planeRetired) ∧
    (s.takesOver plane = false) ∧
    ((takeFirst (fun b : Bid => decide (b.at' + 8 ≤ 64 * s.slotNo) && decide (b.cls = .A)) (s.gate port plane).bids = some (b, rest) ∨
          (takeFirst (fun b : Bid => decide (b.at' + 8 ≤ 64 * s.slotNo) && decide (b.cls = .A)) (s.gate port plane).bids = none ∧
            takeFirst (fun b : Bid => decide (b.at' + 8 ≤ 64 * s.slotNo)) (s.gate port plane).bids = some (b, rest)))) := by decide

theorem test_BidsAndGrantsComplete_1b :
    let s : State := ({ State.reset with time := 64 } : State).setGate 5 7 { Gate.reset with bids := [aBid 7 .D 3, aBid 9 .B 3], wordSlot := some 0 }
    let port : Nat := 5
    let plane : Nat := 7
    let b : Bid := aBid 7 .D 3
    let rest : List Bid := [aBid 9 .B 3]
    ((s.gate port plane).wordSlot ≠ some s.slotNo) ∧
    (s.obj .B0600 plane ≠ planeRetired) ∧
    (s.takesOver plane = false) ∧
    ((takeFirst (fun b : Bid => decide (b.at' + 8 ≤ 64 * s.slotNo) && decide (b.cls = .A)) (s.gate port plane).bids = some (b, rest) ∨
          (takeFirst (fun b : Bid => decide (b.at' + 8 ≤ 64 * s.slotNo) && decide (b.cls = .A)) (s.gate port plane).bids = none ∧
            takeFirst (fun b : Bid => decide (b.at' + 8 ≤ 64 * s.slotNo)) (s.gate port plane).bids = some (b, rest)))) := by decide

theorem test_BidsAndGrantsComplete_2 :
    let s : State := market { (default : Market) with table := [⟨5, aBid 7 .A 3, 0⟩] }
    let plane : Nat := 7
    let x : TableBid := ⟨5, aBid 7 .A 3, 0⟩
    ((s.market plane).lastMatch ≠ some s.slotNo) ∧
    ((s.market plane).arriving = []) ∧
    ((s.market plane).table = [x]) ∧
    ((s.market plane).retries = []) ∧
    (s.obj .B0600 plane ≠ planeRetired) ∧
    (x.bid.cls = .A) ∧
    (s.portOpen x.src = true) ∧
    (s.portOpen x.bid.dst = true) ∧
    ((s.market plane).holds x.src (s.slotNo + 4) = false) ∧
    ((s.market plane).holds x.bid.dst (s.slotNo + 4) = false) := by decide

theorem test_BidsAndGrantsComplete_3 :
    let s : State := (market { (default : Market) with grants := [⟨5, aBid 7 .A 1, 104, 90⟩] }).setGate 5 7 { Gate.reset with staging := [aSlot] }
    let port : Nat := 5
    let plane : Nat := 7
    let g : Grant := ⟨5, aBid 7 .A 1, 104, 90⟩
    let rest : List Grant := []
    let x : Slot := aSlot
    (takeFirst (fun g : Grant => g.src == port) (s.market plane).grants = some (g, rest)) ∧
    (s.stagedFor port plane g.bid = some x) := by decide

theorem test_BidsAndGrantsComplete_4 :
    let s : State := (market { (default : Market) with grants := [⟨5, aBid 7 .A 1, 100, 90⟩] }).setTile 5 3 { runs with async := [(4, .bid 7 7 .A 1 0 [])] }
    let port : Nat := 5
    let plane : Nat := 7
    let g : Grant := ⟨5, aBid 7 .A 1, 100, 90⟩
    let rest : List Grant := []
    (takeFirst (fun g : Grant => g.src == port) (s.market plane).grants = some (g, rest)) ∧
    (s.stagedFor port plane g.bid = none) ∧
    (g.slot ≤ s.slotNo) ∧
    (s.requesterGone port g.bid = false) := by decide

theorem test_BidsAndGrantsComplete_5 :
    let s : State := market { (default : Market) with lost := [aSlot] }
    let port : Nat := 5
    let plane : Nat := 7
    let x : Slot := aSlot
    let rest : List Slot := []
    (takeFirst (fun x : Slot => x.src == port) (s.market plane).lost = some (x, rest)) ∧
    (x.retry = false) ∧
    (s.portOpen x.dst = true) ∧
    (s.portOpen x.src = true) ∧
    (x.gone = false) := by decide

theorem test_BidsAndGrantsComplete_6 :
    let s : State := market { (default : Market) with lost := [{ aSlot with retry := true }] }
    let port : Nat := 5
    let plane : Nat := 7
    let x : Slot := { aSlot with retry := true }
    let rest : List Slot := []
    (takeFirst (fun x : Slot => x.src == port) (s.market plane).lost = some (x, rest)) ∧
    (x.retry = true) := by decide


/-- A slot arrives whole. -/
def whole : SlotFault := { lock := true, fec := false, flips := 0 }

theorem test_SlotsAndReadsComplete_1 :
    let s : State := market { (default : Market) with flying := [{ aSlot with slotno := 99 }] }
    let port : Nat := 7
    let plane : Nat := 7
    let found : SlotFault := whole
    let x : Slot := { aSlot with slotno := 99 }
    let y : Slot := { aSlot with slotno := 99 }
    let rest : List Slot := []
    ((s.market plane).oldestRun port s.slotNo = some (x, rest)) ∧
    (x.judge plane found = (none, y)) ∧
    ((s.gate port plane).occupied x.slotno < 4) ∧
    (y.dst = port) ∧
    (y.kind = 0) ∧
    ((s.verdict y = .ok ∨ s.verdict y = .poisoned)) := by decide

theorem test_SlotsAndReadsComplete_2 :
    let s : State := market { (default : Market) with flying := [{ aSlot with slotno := 99 }] }
    let port : Nat := 7
    let plane : Nat := 7
    let found : SlotFault := { whole with fec := true }
    let x : Slot := { aSlot with slotno := 99 }
    let rest : List Slot := []
    ((s.market plane).oldestRun port s.slotNo = some (x, rest)) ∧
    (((x.judge plane found).1 ≠ none ∨ 4 ≤ (s.gate port plane).occupied x.slotno)) := by decide

theorem test_SlotsAndReadsComplete_3 :
    let s : State := State.reset.setGate 12 7 { Gate.reset with recv := [{ aSlot with kind := 2 }, { aSlot with taddr := 2 ^ 17 - 1 }] }
    let port : Nat := 12
    let plane : Nat := 7
    let i : Nat := 1
    let x : Slot := { aSlot with taddr := 2 ^ 17 - 1 }
    let rest : List Slot := [{ aSlot with kind := 2 }]
    (s.mem.wf) ∧
    (takeFirst (fun x : Slot => x.kind != 2 && x.kind != 4) (s.gate port plane).recv = some (x, rest)) ∧
    (x.kind = 0) ∧
    (iodOfPort port = some i) := by decide

theorem test_SlotsAndReadsComplete_4 :
    let s : State := State.reset.setGate 5 7 { Gate.reset with recv := [{ aSlot with kind := 4, payload := [aUnit (2 ^ 60 - 1)] }] }
    let port : Nat := 5
    let plane : Nat := 7
    let x : Slot := { aSlot with kind := 4, payload := [aUnit (2 ^ 60 - 1)] }
    let rest : List Slot := []
    (takeFirst (fun x : Slot => x.kind == 4) (s.gate port plane).recv = some (x, rest)) := by decide


/-- A read of two units of the field cache, for port 9. -/
def readOne : ReadJob :=
  { port := 5, record := { space := 1, ttile := 0, addr := 4, len := 2, rport := 9, rkind := 0, rtile := 3, raddr := 60, cls := .B, rid := 15 }, sent := false, answer := none }

theorem test_SlotsAndReadsComplete_5 :
    let s : State := (State.reset.setField 2 { (default : Field) with reads := [readOne] }).putUnit (cacheAddr 2 128) (aUnit 6)
    let port : Nat := 5
    let ue : List Nat := [1]
    let j : ReadJob := readOne
    let rest : List ReadJob := []
    let c : Code := .poisoned
    let l : List Cell32 := [aUnit 6, { aUnit 0 with mark := true }]
    (takeFirst (fun j : ReadJob => j.port == port) (s.field (fieldOf port)).reads = some (j, rest)) ∧
    (s.readAnswer j ue = some (c, l)) ∧
    ((s.gate port (s.effPlane (j.record.rid % 8))).staging.length < 8) ∧
    ((s.gate port (s.effPlane (j.record.rid % 8))).bids.length < 64) := by decide

theorem test_SlotsAndReadsComplete_6 :
    let s : State := { State.reset with time := 3600000000000 }
    let field : Nat := 2
    ((s.field field).scrubAt + 3600000000000 ≤ s.time) := by decide

theorem test_MergeCommandsComplete_1 :
    let s : State := State.reset.setStation 5 { opens := [{ ticket := aTicket, port := 5, dl := 10 }], tickets := [] }
    let port : Nat := 5
    let o : OpenReq := { ticket := aTicket, port := 5, dl := 10 }
    let q : List OpenReq := []
    ((s.station port).opens = o :: q) ∧
    (o.port = port) ∧
    ((s.station port).ticket o.ticket.ticket = none) ∧
    ((s.station port).openTickets.length < 64) ∧
    ((s.station port).cells + o.ticket.flits ≤ 384) := by decide

theorem test_MergeCommandsComplete_2 :
    let s : State := State.reset.setStation 5 { opens := [{ ticket := aTicket, port := 5, dl := 10 }], tickets := [{ aTicket with ticket := 1, flits := 384 }] }
    let port : Nat := 5
    let o : OpenReq := { ticket := aTicket, port := 5, dl := 10 }
    let q : List OpenReq := []
    ((s.station port).opens = o :: q) ∧
    ((o.port ≠ port ∨ (s.station port).ticket o.ticket.ticket ≠ none ∨ 64 ≤ (s.station port).openTickets.length ∨ 384 < (s.station port).cells + o.ticket.flits)) := by decide

theorem test_MergeCommandsComplete_3 :
    let s : State := (State.reset.setStation 5 { opens := [], tickets := [aTicket] }).setGate 5 7 { Gate.reset with recv := [{ aSlot with kind := 2, taddr := 65536 + 9 }] }
    let port : Nat := 5
    let plane : Nat := 7
    let x : Slot := { aSlot with kind := 2, taddr := 65536 + 9 }
    let rest : List Slot := []
    let k : Ticket := aTicket
    (takeFirst (fun x : Slot => x.kind == 2) (s.gate port plane).recv = some (x, rest)) ∧
    (iodOfPort port = none) ∧
    ((s.station port).ticket (x.taddr % 65536) = some k) ∧
    (k.fin = none) ∧
    (k.contribs.length < k.expected) := by decide

theorem test_MergeCommandsComplete_4 :
    let s : State := State.reset.setStation 5 { opens := [], tickets := [{ aTicket with contribs := [List.replicate 8 (aUnit 1), List.replicate 8 (aUnit 2)] }] }
    let port : Nat := 5
    let ticket : Nat := 9
    let k : Ticket := { aTicket with contribs := [List.replicate 8 (aUnit 1), List.replicate 8 (aUnit 2)] }
    ((s.station port).ticket ticket = some k) ∧
    (k.fin = none) ∧
    (k.expected ≤ k.contribs.length) := by decide

theorem test_MergeCommandsComplete_4b :
    let s : State := (State.reset.setStation 5 { opens := [], tickets := [{ aTicket with contribs := [List.replicate 8 (aUnit 1), List.replicate 8 (aUnit 2)] }] }).setTile 5 3 { runs with banks := [(0, { st := .off, change := none })] }
    let port : Nat := 5
    let ticket : Nat := 9
    let k : Ticket := { aTicket with contribs := [List.replicate 8 (aUnit 1), List.replicate 8 (aUnit 2)] }
    ((s.station port).ticket ticket = some k) ∧
    (k.fin = none) ∧
    (k.expected ≤ k.contribs.length) := by decide

theorem test_MergeCommandsComplete_5 :
    let s : State := { State.reset.setStation 5 { opens := [], tickets := [{ aTicket with contribs := [List.replicate 8 (aUnit 1)], deadline := 50 }] } with time := 50 }
    let port : Nat := 5
    let ticket : Nat := 9
    let k : Ticket := { aTicket with contribs := [List.replicate 8 (aUnit 1)], deadline := 50 }
    (iodOfPort port = none) ∧
    ((s.station port).ticket ticket = some k) ∧
    (k.fin = none) ∧
    (k.contribs.length < k.expected) ∧
    (k.deadline ≤ s.time) ∧
    (s.waitingContribs port ticket = 0) := by decide

theorem test_PortAndPlaneCommandsComplete_1 :
    let s : State := market default
    let port : Nat := 5
    (s.inService port = true) ∧
    ((∀ x ∈ s.withdrawing, x.1 ≠ port)) := by decide

theorem test_PortAndPlaneCommandsComplete_2 :
    let s : State := market default
    let port : Nat := 5
    (s.inService port = true) := by decide

theorem test_PortAndPlaneCommandsComplete_3 :
    let s : State := { State.reset with time := 5120, objs := [((.B0601, 5), portWithdrawn), ((.B0600, 7), planeRetired)], pathOk := (List.range 7).map (fun p => ((5, p), 0)) }
    let port : Nat := 5
    (s.kept = []) ∧
    ((s.obj .B0601 port = portWithdrawn ∨ s.obj .B0601 port = portDormant)) ∧
    (s.power.realigning.contains (zoneOf port) = false) ∧
    ((∀ pl, pl < 8 → s.obj .B0600 pl = planeRetired ∨ ∃ f, ((port, pl), f) ∈ s.pathOk ∧ f < s.frameNo)) ∧
    (s.passed 3 port = true) := ⟨by decide, by decide, by decide, fun pl h => by interval_cases pl <;> first | exact Or.inl (by decide) | exact Or.inr ⟨0, by decide, by decide⟩, by decide⟩

theorem test_PortAndPlaneCommandsComplete_4 :
    let s : State := State.reset
    let plane : Nat := 7
    (s.obj .B0600 plane ≠ planeRetired) := by decide

theorem test_PortAndPlaneCommandsComplete_5 :
    let s : State := { State.reset with time := 5120, lasers := [(laserOf (setOfTree 3 3) 3, { Laser.reset with armed := true })] }
    let plane : Nat := 3
    let tree : Nat := 3
    let p : Nat := 59
    (plane < 8) ∧
    (tree < 7) ∧
    (s.switchDue (setOfTree plane tree) = true) ∧
    (p ∈ treePorts tree) := by decide

theorem test_PortAndPlaneCommandsComplete_6 :
    let s : State := { State.reset with light := [((0, 0), .own)], objs := [((.B0601, 5), portWithdrawn)] }
    let port : Nat := 5
    let plane : Nat := 0
    (s.obj .B0600 plane ≠ planeRetired) ∧
    (s.inService port = false) ∧
    (s.treeDark plane (port / 16) = false) := by decide


/-- A plan with one layer whose wave type 2 is a decode wave and 3 a prefill wave of layer 0. -/
def aPlan : PlanImage := { (default : PlanImage) with header := planHeader 0 1 2 0 256 0 5#32 0, sigOk := true, shape := { (default : ModelShape) with queryHeads := 64, kvHeads := 1 }, waveBatch := 8, wavesInFlight := 4, blockLimit := 16, kvSizes := [2, 8], chunk := 2, tickets := 2, ticketFlits := 3, waveTypes := [(2, (0, false)), (3, (0, true))] }

/-- The same plan of another generation. -/
def aPlanOf (generation : Nat) : PlanImage := { aPlan with header := planHeader generation 1 2 0 256 0 5#32 0 }

/-- CU-A holds the lease and acts; the plan serves. -/
def serves (l : AMap (Obj × Nat) Nat) : State :=
  { State.reset with keeper := { State.reset.keeper with holder := some 0 }, plan := { State.reset.plan with image := some aPlan }
                     power := { State.reset.power with stby := false }, time := 10 ^ 10
                     objs := [((.W0000, 0), 0), ((.X0700, 0), planServing), ((.X0704, 0), 8), ((.X0705, 0), 4), ((.X0F03, 0), 0), ((.X0F03, 1), 0)] ++ l }

/-- A stream of two panels whose stretch of 4 blocks is this panel's, at position 700. -/
def aStream : Stream :=
  { (default : Stream) with id := 77, sb := 4, reserve := 4, table := [0, 1], promptLen := 500, position := 700, isHead := true, st := .ready, touched := true, counter := 8192 }

/-- A state with a stream. -/
def with' (x : Stream) : State := (serves []).setStream 77 (some x)

theorem test_ServingMessagesComplete_1 :
    let s : State := { State.reset with startup := { State.reset.startup with stage := 5 } }
    (s.cuActs 1 = false) ∧
    (4 ≤ s.startup.stage) := by decide

theorem test_ServingMessagesComplete_2 :
    let s : State := { State.reset with startup := { State.reset.startup with stage := 5 } }
    let head : BitVec 128 := servingHead 9 .ok 0 7 0
    let body : List (BitVec 8) := []
    (s.cuActs 1 = false) ∧
    (4 ≤ s.startup.stage) ∧
    (servingFits head body = false) := by decide

theorem test_ServingMessagesComplete_3 :
    let s : State := serves [((.X070C, 0), 1)]
    let stream : Nat := 2 ^ 32 - 1
    let pl : Nat := 513
    let k : Nat := 0
    let sb : Nat := 65536
    let reserve : Nat := 32
    let latency : Bool := true
    let mok : Bool := true
    let table : List Nat := [State.reset.panelId, 1]
    (s.cuActs 1 = true) ∧
    (s.admitRefusal stream pl k sb reserve latency table mok = none) := by decide

theorem test_ServingMessagesComplete_4 :
    let s : State := serves []
    let stream : Nat := 77
    let pl : Nat := 500
    let k : Nat := 0
    let sb : Nat := 65537
    let reserve : Nat := 4
    let r : Nat := 153
    let latency : Bool := false
    let mok : Bool := true
    let table : List Nat := [State.reset.panelId, 1]
    (s.cuActs 1 = true) ∧
    ((s.mirrorOwner = none ∨ table[k]? ≠ s.mirrorOwner)) ∧
    (s.admitRefusal stream pl k sb reserve latency table mok = some r) := by decide

theorem test_ServingMessagesComplete_5 :
    let s : State := serves [((.F0901, 0), 2)]
    let k : Nat := 1
    let reserve : Nat := 4
    let owner : Nat := 1024
    let table : List Nat := [0, 1024]
    (s.cuActs 1 = true) ∧
    (s.mirrorOwner = some owner) ∧
    (table[k]? = some owner) ∧
    (reserve ≠ 0) ∧
    (s.mirrorOn = true) ∧
    (s.mirrorUsed + s.reserveBytes reserve ≤ 2 ^ 40) := by decide

theorem test_ServingMessagesComplete_6 :
    let s : State := with' { aStream with st := .admitted, touched := false }
    let stream : Nat := 77
    let tokens : List Nat := [8, 9]
    let x : Stream := { aStream with st := .admitted, touched := false }
    (s.cuActs 1 = true) ∧
    (s.stream stream = some x) ∧
    (x.id = stream) ∧
    (s.stream (adoptedKey stream) = none) ∧
    (s.recovery.fenced.contains stream = false) ∧
    (tokens.length ≤ 1020) := by decide

theorem test_ServingMessagesComplete_7 :
    let s : State := serves []
    let tokens : List Nat := List.replicate 1021 0
    (s.cuActs 1 = true) ∧
    (1020 < tokens.length) := by intro tokens; simp only [tokens, List.length_replicate]; decide

theorem test_ServingMessagesComplete_8 :
    let s : State := serves []
    let head : BitVec 128 := servingHead 4 .ok 1 77 0
    let body : List (BitVec 8) := [1#8]
    (s.cuActs 1 = true) ∧
    (servingFits head body = false) := by decide

theorem test_ServingMessagesComplete_9 :
    let s : State := (with' { aStream with st := .admitted, touched := false }).setObj .F0901 0 3
    let stream : Nat := 77
    let x : Stream := { aStream with st := .admitted, touched := false }
    (s.cuActs 1 = true) ∧
    (s.stream stream = some x) ∧
    (x.id = stream) ∧
    (s.stream (adoptedKey stream) = none) ∧
    (s.recovery.fenced.contains stream = false) ∧
    (x.touched = false) ∧
    (1 < x.table.length) := by decide


/-- A wave of replica 0 in slot 1. -/
def aWave : Wave := { (default : Wave) with number := 9, replica := 0, slot := 1, waveType := 2, batch := [77] }

theorem test_ServingMessagesComplete_10 :
    let s : State := (with' aStream).setWave 0 1 (some aWave)
    let stream : Nat := 77
    let x : Stream := aStream
    let w : Wave := aWave
    (s.cuActs 1 = true) ∧
    (s.stream stream = some x) ∧
    (x.id = stream) ∧
    (s.stream (adoptedKey stream) = none) ∧
    (s.recovery.fenced.contains stream = false) ∧
    (x.touched = true) ∧
    (w ∈ s.waveList) ∧
    (w.replica = x.replica) := by decide

theorem test_ServingMessagesComplete_11 :
    let s : State := with' { aStream with isHead := false, position := 5 }
    let stream : Nat := 77
    let position : Nat := 900
    let x : Stream := { aStream with isHead := false, position := 5 }
    (s.stream stream = some x) ∧
    (x.id = stream) ∧
    (s.stream (adoptedKey stream) = none) := by decide

theorem test_ServingMessagesComplete_12 :
    let s : State := with' { aStream with isHead := false, k := 1 }
    let stream : Nat := 77
    let position : Nat := 1023
    let x : Stream := { aStream with isHead := false, k := 1 }
    (s.stream stream = some x) ∧
    (x.id = stream) ∧
    (s.stream (adoptedKey stream) = none) ∧
    (x.isHead = false) ∧
    ((position + 1) / 256 / x.sb = x.k) := by decide

theorem test_ServingMessagesComplete_13 :
    let s : State := { with' { aStream with touched := false, admittedAt := 0 } with time := 10 ^ 12 }
    let stream : Nat := 77
    let x : Stream := { aStream with touched := false, admittedAt := 0 }
    (s.stream stream = some x) ∧
    (x.id = stream) ∧
    (x.touched = false) ∧
    (x.admittedAt + s.obj .X070F 0 * 10 ^ 9 ≤ s.time) := by decide

theorem test_TokenCommandsComplete_1 :
    let s : State := with' { aStream with st := .sampled }
    let stream : Nat := 77
    let x : Stream := { aStream with st := .sampled }
    (s.stream stream = some x) ∧
    (x.id = stream) ∧
    (s.cuActs 1 = true) ∧
    (x.isHead = true) ∧
    (x.st = .sampled) ∧
    (x.cancelled = false) ∧
    (s.recovery.fenced.contains stream = false) ∧
    (s.mirrored x = true) := by decide

theorem test_TokenCommandsComplete_2 :
    let s : State := with' { aStream with st := .sampled, position := 1022 }
    let stream : Nat := 77
    let x : Stream := { aStream with st := .sampled, position := 1022 }
    (s.stream stream = some x) ∧
    (x.id = stream) ∧
    (s.cuActs 1 = true) ∧
    (x.isHead = true) ∧
    (x.st = .sampled) ∧
    (x.cancelled = false) ∧
    (s.recovery.fenced.contains stream = false) ∧
    (s.mirrored x = true) ∧
    (x.position + 1 < 2 ^ 32) ∧
    ((x.position + 1) / 256 < (x.k + 1) * x.sb) ∧
    ((x.position + 1) / 256 - x.k * x.sb < x.reserve) := by decide

theorem test_TokenCommandsComplete_3 :
    let s : State := with' { aStream with st := .sampled, mirrorSent := some 5, mirrorTarget := 3 }
    let stream : Nat := 77
    let sent : Nat := 5
    let x : Stream := { aStream with st := .sampled, mirrorSent := some 5, mirrorTarget := 3 }
    (s.stream stream = some x) ∧
    (x.id = stream) ∧
    (x.mirrorSent = some sent) ∧
    (s.cuActs 1 = true) ∧
    (x.isHead = true) ∧
    (x.st = .sampled) ∧
    (x.cancelled = false) ∧
    (s.recovery.fenced.contains stream = false) ∧
    (s.mirrored x = false) ∧
    (sent + s.obj .X070A 0 * 1000 ≤ s.time) := by decide

theorem test_TokenCommandsComplete_4 :
    let s : State := with' { aStream with st := .faulted, layer := 7 }
    let stream : Nat := 77
    let x : Stream := { aStream with st := .faulted, layer := 7 }
    (s.stream stream = some x) ∧
    (x.st = .faulted) ∧
    ((∀ w ∈ s.waveList, stream ∉ w.batch)) := by decide

theorem test_TokenCommandsComplete_5 :
    let s : State := with' { aStream with st := .faulted, faultedAt := 8 * 10 ^ 9 }
    let stream : Nat := 77
    let x : Stream := { aStream with st := .faulted, faultedAt := 8 * 10 ^ 9 }
    (s.stream stream = some x) ∧
    (x.id = stream) ∧
    (x.st = .faulted) ∧
    (x.faultedAt + 2 * 10 ^ 9 ≤ s.time) := by decide

theorem test_WaveAndPlanCommandsComplete_1 :
    let s : State := (with' aStream).setWave 0 0 (some aWave)
    let replica : Nat := 0
    let wt : Nat := 2
    let slot : Nat := 1
    let layer : Nat := 0
    let img : PlanImage := aPlan
    let e : Nat := 2
    let prefill : Bool := false
    (s.commits = []) ∧
    (s.shadow = []) ∧
    (s.passed 0 s.plan.nextWave = true) ∧
    ((∀ x ∈ s.streamList, x.cancelled = false)) ∧
    (s.cuActs 0 = true) ∧
    (s.plan.image = some img) ∧
    (img.waveTypes.find? (fun e => e.1 == wt) = some (e, layer, prefill)) ∧
    ((List.range 4).find? (fun k => (s.wave replica k).isNone) = some slot) ∧
    (s.obj .X0700 0 = planServing) ∧
    (s.obj .X0F03 replica = 0) ∧
    (s.batch replica img.chunk layer prefill ≠ []) ∧
    ((s.waveList.filter (fun w => w.replica == replica)).length < s.obj .X0705 0) ∧
    (s.plan.nextWave < 2 ^ 32) := by decide

theorem test_WaveAndPlanCommandsComplete_2b :
    let s : State := { (with' { aStream with st := .inWave }).setWave 0 1 (some aWave) with tiles := (List.range 48).map (fun k => ((5, k), { Tile.reset with ended := [9] })), objs := (serves []).objs ++ (List.range 96).map (fun l => ((.X0F01, l), if l = 0 then 5 else 65535)) }
    let replica : Nat := 0
    let slot : Nat := 1
    let w : Wave := aWave
    let img : PlanImage := aPlan
    (s.wave replica slot = some w) ∧
    (s.plan.image = some img) ∧
    (w.aborted = false) ∧
    (s.waveOver w = true) := by decide

theorem test_WaveAndPlanCommandsComplete_3 :
    let s : State := (with' aStream).setWave 0 1 (some { aWave with aborted := true, trappedNow := [3] })
    let replica : Nat := 0
    let slot : Nat := 1
    let w : Wave := { aWave with aborted := true, trappedNow := [3] }
    let img : PlanImage := aPlan
    (s.wave replica slot = some w) ∧
    (w.replica = replica) ∧
    (w.slot = slot) ∧
    (s.plan.image = some img) ∧
    (w.aborted = true) ∧
    (s.cuActs 0 = true) ∧
    (s.obj .X0F03 replica = 0) := by decide

theorem test_WaveAndPlanCommandsComplete_4 :
    let s : State := serves [((.X0702, 0), 1)]
    (s.obj .X0702 0 ≠ 0) := by decide

theorem test_WaveAndPlanCommandsComplete_5 :
    let s : State := serves []
    (s.obj .X0702 0 = 0) ∧
    (s.obj .X0700 0 ≠ planLoading) ∧
    (loadAllowed (s.obj .I0D05 0) = true) := by decide

theorem test_WaveAndPlanCommandsComplete_6 :
    let s : State := { State.reset with plan := { State.reset.plan with loading := some (aPlanOf 32767) } }
    let img : PlanImage := (aPlanOf 32767)
    (s.plan.loading = some img) ∧
    (s.plan.loadAt + loadTime img ≤ s.time) ∧
    (s.planFault img = none) := by decide

theorem test_WaveAndPlanCommandsComplete_7 :
    let s : State := { State.reset with plan := { State.reset.plan with loading := some (aPlanOf 32768), before := 2 } }
    let img : PlanImage := (aPlanOf 32768)
    let step : Nat := 2
    let sect : Nat := 0
    (s.plan.loading = some img) ∧
    (s.plan.loadAt + loadTime img ≤ s.time) ∧
    (s.planFault img = some (step, sect)) ∧
    (step < 5) := by decide


/-- The ports of base tree 0 of plane 0 withheld in slots 0 to 99, and every lamp die lit. -/
def lampsLit : State :=
  { State.reset with markets := [(0, { (default : Market) with withheld := (treePorts 0).map (fun p => (p, (0, 100))) })]
                     objs := (List.range 12).map (fun d => ((.L0800, d), 0)), time := 640 }

theorem test_LightCommandsComplete_2 :
    let s : State := { lampsLit.setLaser 4 { Laser.reset with armed := true } with carryWanted := [(0, 4)], light := [((0, 4), .carry)] }
    let laser : Nat := 4
    let set : Nat := 0
    let g : Int := -5
    let d : Int := 200
    (laserSet laser = some set) ∧
    ((s.laser laser).armed = true) ∧
    (g.natAbs ≤ 5) ∧
    (d.natAbs ≤ 200) ∧
    (s.lampLost (set / 6) = false) ∧
    (s.treeHeld set = true) := by decide

theorem test_LightCommandsComplete_3 :
    let s : State := { lampsLit with carryWanted := [(0, 4)], urgent := [(0, 4)] }
    let die : Nat := 0
    let set : Nat := 0
    let w : Nat := 4
    ((6 * die + set, w) ∈ s.carryWanted) ∧
    (s.treeHeld (6 * die + set) = true) ∧
    (((6 * die + set, w) ∈ s.urgent ∨ baseTree (6 * die + set) = none ∨ s.splitNow2 (partnerSet (6 * die + set)) w = 6600 ∨ s.canCarry (6 * die + set) w = false)) := by decide

theorem test_LightCommandsComplete_3b :
    let s : State := { State.reset with carryWanted := [(10, 1)] }
    let die : Nat := 1
    let set : Nat := 4
    let w : Nat := 1
    ((6 * die + set, w) ∈ s.carryWanted) ∧
    (s.treeHeld (6 * die + set) = true) ∧
    (((6 * die + set, w) ∈ s.urgent ∨ baseTree (6 * die + set) = none ∨ s.splitNow2 (partnerSet (6 * die + set)) w = 6600 ∨ s.canCarry (6 * die + set) w = false)) := by decide

theorem test_LightCommandsComplete_4 :
    let s : State := lampsLit
    let laser : Nat := 4
    let set : Nat := 0
    let drop : Nat := 3001
    (3000 < drop) ∧
    (s.servedSet laser = some set) ∧
    ((set, laserWave laser) ∉ s.carryWanted) := by decide

theorem test_LightCommandsComplete_5 :
    let s : State := lampsLit
    let die : Nat := 11
    (s.lampLost die = false) := by decide

theorem test_LightCommandsComplete_6 :
    let s : State := State.reset
    let die : Nat := 11
    (s.lampLost die = true) := by decide


/-- The outer-level spreads of a ring at its setpoint, 1 GHz below and 1 GHz above. -/
def aMeas (here below above : Nat) : CalMeas := { (default : CalMeas) with spread := [here, below, above] }

/-- Lane 0 is up. -/
def lane0 : State := { lampsLit with objs := ((.L0806, 0), 2) :: lampsLit.objs }

theorem test_LightCommandsComplete_8 :
    let s : State := lane0
    let q : Nat := 0
    let place : Nat := 10240
    let a : CalMeas := aMeas 300 200 200
    let b : CalMeas := aMeas 301 299 300
    (q < 4) ∧
    (s.calDue q place = true) ∧
    (s.calDisturbed q place = false) ∧
    (s.calPlausible q place a = true) ∧
    (s.calPlausible q place b = true) ∧
    ((s.calResult q place a - s.calResult q place b).natAbs ≤ calTolerance q) := by decide

theorem test_LightCommandsComplete_9 :
    let s : State := lane0
    let q : Nat := 0
    let place : Nat := 10240
    let a : CalMeas := aMeas 300 200 200
    let b : CalMeas := aMeas 300 301 300
    (q < 4) ∧
    (s.calDue q place = true) ∧
    (s.calDisturbed q place = false) ∧
    ((s.calPlausible q place a = false ∨ s.calPlausible q place b = false ∨ calTolerance q < (s.calResult q place a - s.calResult q place b).natAbs)) := by decide

theorem test_LightCommandsComplete_9b :
    let s : State := lane0
    let q : Nat := 0
    let place : Nat := 10240
    let a : CalMeas := aMeas 300 200 200
    let b : CalMeas := aMeas 199 1 1
    (q < 4) ∧
    (s.calDue q place = true) ∧
    (s.calDisturbed q place = false) ∧
    ((s.calPlausible q place a = false ∨ s.calPlausible q place b = false ∨ calTolerance q < (s.calResult q place a - s.calResult q place b).natAbs)) := by decide

theorem test_LightCommandsComplete_10 :
    let s : State := { lane0 with unlocked := [10241] }
    let q : Nat := 0
    let place : Nat := 10240
    (q < 4) ∧
    (s.calDue q place = true) ∧
    (s.calDisturbed q place = true) := by decide

theorem test_LightCommandsComplete_11 :
    let s : State := { lampsLit with objs := [((.L0800, 0), 2), ((.P0C06, 0), zoneIsOn)], light := [((0, 4), .carry), ((1, 0), .dark)] }
    let die : Nat := 0
    (die < 12) ∧
    (s.lampLost die = true) ∧
    (s.zoneOn (zoneOfIod (die / 3)) = true) ∧
    ((∀ i, i < 6 → (∃ w ∈ litWaves (6 * die + i), s.lightOf (6 * die + i) w = .carry) → s.treeHeld (6 * die + i) = true)) := by decide

theorem test_LaneCommandsComplete_1 :
    let s : State := { State.reset with objs := [((.L0806, 111), 3)], unlocked := [10239] }
    let lane : Nat := 111
    ((s.obj .L0806 lane = 1 ∨ s.obj .L0806 lane = 3)) ∧
    (s.laneCompat lane = false) ∧
    ((∀ r ∈ s.unlocked, 10240 ≤ r → ringLane r ≠ lane)) := by decide

theorem test_LaneCommandsComplete_2 :
    let s : State := { State.reset with objs := [((.L0806, 0), 2)] }
    let lane : Nat := 0
    (s.obj .L0806 lane = 2) ∧
    (s.laneCompat lane = false) := by decide

theorem test_LaneCommandsComplete_3 :
    let s : State := { State.reset with objs := [((.L0806, 23), 3)], lanes := [(23, { since := 7 })], time := 1000007 }
    let lane : Nat := 23
    ((s.obj .L0806 lane = 3 ∨ s.obj .L0806 lane = 1 ∧ (s.lane lane).retry = true)) ∧
    (s.laneCompat lane = false) ∧
    ((s.lane lane).since + 1000000 ≤ s.time) := by decide

theorem test_LaneCommandsComplete_3b :
    let s : State := { State.reset with objs := [((.L0806, 23), 1)], lanes := [(23, { since := 7, retry := true, tried := 7 })], time := 1000007 }
    let lane : Nat := 23
    ((s.obj .L0806 lane = 3 ∨ s.obj .L0806 lane = 1 ∧ (s.lane lane).retry = true)) ∧
    (s.laneCompat lane = false) ∧
    ((s.lane lane).since + 1000000 ≤ s.time) := by decide

theorem test_LaneCommandsComplete_4 :
    let s : State := { State.reset with objs := [((.L0806, 23), 4)], lanes := [(23, { since := 1000007, tried := 7 })], time := 10000007 }
    let lane : Nat := 23
    (s.obj .L0806 lane = 4) ∧
    (s.laneCompat lane = false) ∧
    ((s.lane lane).tried + 10000000 ≤ s.time) := by decide

theorem test_LaneCommandsComplete_5 :
    let s : State := { State.reset with objs := [((.L080A, 0), 1)] }
    let lane : Nat := 24
    (s.laneCompat lane = true) := by decide

theorem test_LaneCommandsComplete_6 :
    let s : State := { State.reset with objs := [((.L080A, 0), 1)], lanes := [(111, { since := 7, std := true })] }
    let lane : Nat := 111
    (s.laneCompat lane = true) := by decide

theorem test_LaneCommandsComplete_8 :
    let s : State := { State.reset with objs := [((.L080A, 0), 2)], pma := [(3, (0, true))] }
    let port : Nat := 1
    (s.obj .L080A 0 = 2) ∧
    (port < 2) ∧
    (s.pmaEmpty port = true) := by decide

theorem test_LineCodeIsUndone_3 :
    let a : List (BitVec 8) := List.replicate 11982 1#8
    let b : List (BitVec 8) := [1#8, 2#8, 3#8, 4#8, 5#8, 6#8, 7#8, 8#8]
    (a.length = 11982) ∧
    (b.length = 8) := by refine ⟨List.length_replicate, by decide⟩


/-- A codeword is a multiple of g(x): its value at each αⁱ is 0 (R190). -/
theorem test_rs_codeword_has_no_syndrome : (List.range 16).all (fun i => rsSyndrome (rsCodeword [1#10, 0x2A5#10, 1023#10]) i == 0#10) = true := by decide +kernel

/-- One error shows at α⁰ with its value. -/
theorem test_rs_error_shows : rsSyndrome ((rsCodeword [5#10, 7#10]).set 1 (7#10 ^^^ 0x155#10)) 0 = 0x155#10 := by decide +kernel

/-- Bit pairs 00, 01, 11, 10, low pair first, are levels 0 to 3 (R190). -/
theorem test_symbol_levels : symbolLevels 0b0010110100#10 = [0, 1, 2, 3, 0] := by decide


/-- A state with these objects at these values. -/
def withObjs (l : List (Obj × Nat × Nat)) : State := { State.reset with objs := l.map (fun e => ((e.1, e.2.1), e.2.2)) }

/-- Link 8 of I/O die 1, direction 2, in a state; its lanes 2 and 3 are UP. -/
def link8 (st : Nat) (l : Link) : State := { withObjs [(.F0902, 8, st), (.L0806, 38, 2), (.L0806, 39, 2)] with links := [(8, l)], time := 10 ^ 9 }

theorem test_LinkCommandsComplete_1 :
    let s : State := link8 2 Link.reset
    let link : Nat := 8
    let mask : Nat := 12
    (mask = s.upMask link) ∧
    (mask ≠ (s.link link).rxMask) ∧
    (mask ≠ 0) := by decide

theorem test_LinkCommandsComplete_1b :
    let s : State := link8 0 { Link.reset with rxMask := 4 }
    let link : Nat := 8
    let mask : Nat := 12
    (mask = s.upMask link) ∧
    (mask ≠ (s.link link).rxMask) ∧
    (mask ≠ 0) := by decide

theorem test_LinkCommandsComplete_2 :
    let s : State := { link8 2 { Link.reset with rxMask := 4 } with objs := [((.F0902, 8), 2)] }
    let link : Nat := 8
    (s.upMask link = 0) ∧
    ((s.link link).rxMask ≠ 0) := by decide

theorem test_LinkCommandsComplete_3 :
    let s : State := link8 2 { Link.reset with rxMask := 15, rxStripe := 3, reportAt := some (10 ^ 9 - 1000) }
    let link : Nat := 8
    ((s.link link).rxMask ≠ 0) ∧
    ((s.link link).rxStripe ≠ stripeOf (s.link link).rxMask) ∧
    (dueEvent (s.link link).reportAt s.time 1000 = true) := by decide

theorem test_LinkCommandsComplete_4 :
    let s : State := link8 2 { Link.reset with txStripe := 15 }
    let link : Nat := 8
    let mask : Nat := 16 + 14
    (mask % 16 ≠ 0) ∧
    (stripeOf (mask % 16) ≠ (s.link link).pendTx.getD (s.link link).txStripe) := by decide

theorem test_LinkCommandsComplete_5 :
    let mask : Nat := 16
    (mask % 16 = 0) := by decide

theorem test_LinkCommandsComplete_6 :
    let after : Nat := 16
    (1 ≤ after) ∧
    (after ≤ 16) := by decide

theorem test_LinkCommandsComplete_7 :
    let s : State := link8 3 { Link.reset with pendTx := some 12, txDue := 10 ^ 10, farMask := 12, rxMask := 15, rxStripe := 15 }
    let link : Nat := 8
    let m : Nat := 12
    ((s.link link).pendTx = some m) ∧
    ((s.link link).txDue ≤ 10 * s.time) := by decide

theorem test_LinkCommandsComplete_7b :
    let s : State := link8 3 { Link.reset with pendTx := some 8, farMask := 12, rxMask := 15, rxStripe := 15 }
    let link : Nat := 8
    let m : Nat := 8
    ((s.link link).pendTx = some m) ∧
    ((s.link link).txDue ≤ 10 * s.time) := by decide

theorem test_LinkCommandsComplete_8 :
    let s : State := link8 3 { Link.reset with pendRx := some 12, rxDue := 10 ^ 10, farMask := 12, txStripe := 12, rxMask := 12, rxStripe := 15 }
    let link : Nat := 8
    let m : Nat := 12
    ((s.link link).pendRx = some m) ∧
    ((s.link link).rxDue ≤ 10 * s.time) := by decide

theorem test_LinkCommandsComplete_9 :
    let s : State := link8 1 { Link.reset with hbSent := 2 ^ 32 - 1, rxMask := 12, hbAt := some (10 ^ 9 - 9500) }
    let link : Nat := 8
    (s.linkSt link ≠ 0) ∧
    (dueEvent (s.link link).hbAt s.time 9500 = true) := by decide

theorem test_LinkCommandsComplete_10 :
    let s : State := link8 1 { Link.reset with hbLast := 10 ^ 9 - 19000, hbGoodSince := some 4 }
    let link : Nat := 8
    (s.linkSt link ≠ 0) := by decide

theorem test_LinkCommandsComplete_10b :
    let s : State := link8 1 { Link.reset with hbLast := 10 ^ 9 - 18999, hbGoodSince := some 4 }
    let link : Nat := 8
    (s.linkSt link ≠ 0) := by decide

theorem test_LinkCommandsComplete_11 :
    let s : State := link8 2 { Link.reset with hbLast := 10 ^ 9 - 18999, hbGoodSince := some 4 }
    let link : Nat := 8
    let panel : Nat := 32
    let iod : Nat := 1
    let dir : Nat := 2
    (s.linkSt link ≠ 0) ∧
    ((panel ≠ s.neighbour s.panelId (link % 6) ∨ iod ≠ link / 6 ∨ dir ≠ (link % 6) ^^^ 1)) := by decide

theorem test_LinkCommandsComplete_12 :
    let s : State := link8 3 { Link.reset with hbLast := 10 ^ 9 - 30000, rxMask := 12 }
    let link : Nat := 8
    (s.linkSt link ≠ 0) ∧
    ((s.link link).hbLast + 30000 ≤ s.time) := by decide

theorem test_LinkCommandsComplete_13 :
    let s : State := link8 1 { Link.reset with hbLast := 10 ^ 9 - 18999, rxMask := 12, txStripe := 12, hbGoodSince := some (10 ^ 9 - 1000000) }
    let link : Nat := 8
    let g : Nat := 10 ^ 9 - 1000000
    ((s.link link).hbGoodSince = some g) ∧
    (s.linkSt link = 1) ∧
    ((s.link link).rxMask ≠ 0) ∧
    ((s.link link).txStripe ≠ 0) ∧
    (g + 1000000 ≤ s.time) ∧
    (s.time < (s.link link).hbLast + 19000) := by decide


/-- The global address of a unit of a tile's vaults of logical stack 0, and of a unit of a field cache (Table 9.7). -/
def stackAddr (tile unit : Nat) : Nat := tile * 2 ^ 30 + 32 * unit
def fieldAddr (field unit : Nat) : Nat := 8 * 2 ^ 40 + field * 2 ^ 24 + 32 * unit

/-- A MSG of class B from panel 1024 to this panel. -/
def pkt : Packet :=
  { (default : Packet) with ver := 1, type := 1, cls := .B, dpanel := 0, spanel := 1024, diod := 2, siod := 1, hops := 4, dchan := 6, psn := 70, len := 0, payload := [], pcrc := 0, cookie := 99 }

/-- The same with a payload. -/
def filled (p : Packet) (n : Nat) : Packet :=
  { p with len := 32 * n, payload := List.replicate n (aUnit 5), pcrc := pcrcOf (List.replicate n (aUnit 5)) (32 * n) }

theorem filled_pcrc (p : Packet) (n : Nat) : (filled p n).pcrc = pcrcOf (filled p n).payload (filled p n).len := rfl

theorem test_FrameCommandsComplete_1 :
    let dir : Nat := 0
    let bytes : Nat := 400
    let ok : Bool := true
    let p : Packet := { pkt with type := 12 }
    ((ok = false ∨ p.ver ≠ 1 ∨ p.type = 0 ∨ 11 < p.type ∨ 4096 < p.len ∨ bytes < frameBytes dir p)) := by decide

theorem test_FrameCommandsComplete_1b :
    let dir : Nat := 0
    let bytes : Nat := 73
    let ok : Bool := true
    let p : Packet := pkt
    ((ok = false ∨ p.ver ≠ 1 ∨ p.type = 0 ∨ 11 < p.type ∨ 4096 < p.len ∨ bytes < frameBytes dir p)) := by decide

theorem test_FrameCommandsComplete_2 :
    let s : State := State.reset
    let dir : Nat := 5
    let bytes : Nat := 512
    let p : Packet := { pkt with cls := .A }
    (p.ver = 1) ∧
    (1 ≤ p.type) ∧
    (p.type ≤ 10) ∧
    (p.len ≤ 4096) ∧
    (frameBytes dir p ≤ bytes) ∧
    ((p.cls ≠ .A ∨ bytes ≤ 512)) ∧
    ((6 ≤ dir ∨ p.dpanel = s.panelId)) := by decide

theorem test_FrameCommandsComplete_2b :
    let s : State := State.reset
    let dir : Nat := 6
    let bytes : Nat := 513
    let p : Packet := pkt
    (p.ver = 1) ∧
    (1 ≤ p.type) ∧
    (p.type ≤ 10) ∧
    (p.len ≤ 4096) ∧
    (frameBytes dir p ≤ bytes) ∧
    ((p.cls ≠ .A ∨ bytes ≤ 512)) ∧
    ((6 ≤ dir ∨ p.dpanel = s.panelId)) := by decide

theorem test_FrameCommandsComplete_3 :
    let s : State := withObjs [(.F0902, 7, 2)]
    let iod : Nat := 1
    let dir : Nat := 0
    let bytes : Nat := 400
    let d : Nat := 1
    let p : Packet := { pkt with dpanel := 17 * 1024, hops := 94 }
    (p.ver = 1) ∧
    (1 ≤ p.type) ∧
    (p.type ≤ 10) ∧
    (p.len ≤ 4096) ∧
    (frameBytes dir p ≤ bytes) ∧
    (p.cls ≠ .A) ∧
    (dir < 6) ∧
    (p.dpanel ≠ s.panelId) ∧
    (p.hops < 95) ∧
    (s.inTorus p.dpanel = true) ∧
    (s.preferred s.panelId p.dpanel = some d) ∧
    (s.outUsable iod d = true) ∧
    (s.outBusy iod d = false) ∧
    (s.lowBytes iod d + frameBytes d p ≤ 524288) := by decide

theorem test_FrameCommandsComplete_3b :
    let s : State := { withObjs [(.F0902, 7, 3), (.F0909, 0, 0)] with iods := [(1, { Iod.reset with outs := [(1, { (default : OutQ) with bd := [pkt] })] })] }
    let iod : Nat := 1
    let dir : Nat := 0
    let bytes : Nat := 400
    let d : Nat := 1
    let p : Packet := { pkt with dpanel := 17 * 1024 }
    (p.ver = 1) ∧
    (1 ≤ p.type) ∧
    (p.type ≤ 10) ∧
    (p.len ≤ 4096) ∧
    (frameBytes dir p ≤ bytes) ∧
    (p.cls ≠ .A) ∧
    (dir < 6) ∧
    (p.dpanel ≠ s.panelId) ∧
    (p.hops < 95) ∧
    (s.inTorus p.dpanel = true) ∧
    (s.preferred s.panelId p.dpanel = some d) ∧
    (s.outUsable iod d = true) ∧
    (s.outBusy iod d = false) ∧
    (s.lowBytes iod d + frameBytes d p ≤ 524288) := by decide

theorem test_FrameCommandsComplete_4 :
    let s : State := State.reset
    let dir : Nat := 0
    let bytes : Nat := 400
    let p : Packet := { pkt with dpanel := 17 * 1024, hops := 95 }
    (p.ver = 1) ∧
    (1 ≤ p.type) ∧
    (p.type ≤ 10) ∧
    (p.len ≤ 4096) ∧
    (frameBytes dir p ≤ bytes) ∧
    (p.cls ≠ .A) ∧
    (dir < 6) ∧
    (p.dpanel ≠ s.panelId) ∧
    (95 ≤ p.hops) := by decide


/-- An open channel that expects number 70. -/
def aChan : Chan := { (default : Chan) with state := 1, cls := .B, cookie := 99#32, ppanel := 1024, piod := 1, rcvNxt := 70, sndNxt := 31, sndUna := 30, window := 4, rto := 100, rfree := 65535 }

/-- I/O die 2 with channel 6. -/
def chan6 (c : Chan) : State := { State.reset with iods := [(2, { Iod.reset with powered := true, chans := [(6, c)] })], objs := ((.X0F01, 0), 10) :: open' [10, 20], cols := [((10, 47), { VaultCol.reset with powered := true })], time := 10 ^ 9 }

theorem test_FrameCommandsComplete_5 :
    let s : State := { State.reset with iods := [(2, { Iod.reset with cache := [4, 6, 5] })] }
    let iod : Nat := 2
    let chan : Nat := 6
    (chan ∈ (s.iod iod).cache) := by decide

theorem test_FrameCommandsComplete_6 :
    let s : State := { State.reset with iods := [(2, { Iod.reset with cache := (List.range 1024).map (fun k => k + 7), chans := [(1030, { aChan with pinned := true })] })] }
    let iod : Nat := 2
    let chan : Nat := 6
    (chan ∉ (s.iod iod).cache) := by decide +kernel

theorem test_FrameCommandsComplete_7 :
    let s : State := withObjs [(.F0906, 0, 2 ^ 384 * 5)]
    let port : Nat := 3
    (port < 4) ∧
    (s.commonsAddr port ≠ 0) := by decide

theorem test_FrameCommandsComplete_8 :
    let s : State := withObjs [(.F0906, 0, 2 ^ 384 * 5)]
    let port : Nat := 3
    (port < 4) ∧
    (s.commonsAddr port ≠ 0) := by decide

theorem test_PacketsInTurnComplete_1 :
    let inTurn (s : State) (iod type : Nat) (p : Packet) (c : Chan) : Prop :=
      p.type = type ∧ p.pcrc = pcrcOf p.payload p.len ∧ s.chan? iod p.dchan = some c ∧ c.live = true ∧ (s.iod iod).held = false ∧ p.cookie = c.cookie.toNat ∧
      p.psn = c.rcvNxt ∧ c.rcvNxt < 2 ^ 24 ∧ c.got = []
    let s : State := chan6 { aChan with actr := 5, rcvNxt := 2 ^ 24 - 1 }
    let iod : Nat := 2
    let p : Packet := { pkt with psn := 2 ^ 24 - 1, ce := true }
    let c : Chan := { aChan with actr := 5, rcvNxt := 2 ^ 24 - 1 }
    (inTurn s iod 1 p c) := by decide

theorem test_PacketsInTurnComplete_2 :
    let inTurn (s : State) (iod type : Nat) (p : Packet) (c : Chan) : Prop :=
      p.type = type ∧ p.pcrc = pcrcOf p.payload p.len ∧ s.chan? iod p.dchan = some c ∧ c.live = true ∧ (s.iod iod).held = false ∧ p.cookie = c.cookie.toNat ∧
      p.psn = c.rcvNxt ∧ c.rcvNxt < 2 ^ 24 ∧ c.got = []
    let noWait (s : State) (site tile unit n : Nat) : Prop :=
      (∀ r ∈ (s.col site tile).queue ++ (s.col site tile).held, r.write = false ∨ rangesMeet r.addr r.data.length unit n = false) ∧
      (∀ x ∈ (s.field (fieldOf site)).writeQ, x.dst ≠ site ∨ x.ttile ≠ tile ∨ rangesMeet x.taddr x.len unit n = false)
    let s : State := chan6 aChan
    let iod : Nat := 2
    let n : Nat := 1
    let site : Nat := 10
    let tile : Nat := 47
    let unit : Nat := 6
    let p : Packet := filled { pkt with type := 2, gaddr := stackAddr 47 6, post := true, tport := 10, ctr := 4095 } 1
    let c : Chan := aChan
    let k : Code := .ok
    (s.mem.wf) ∧
    (inTurn s iod 2 p c) ∧
    (p.len = 32 * n) ∧
    (1 ≤ n) ∧
    (n ≤ 128) ∧
    (p.payload.length = n) ∧
    ((p.post = true → ctrInRange p.tport p.ctr = true)) ∧
    (s.globalPlace p.gaddr p.len 32 = .vault site tile unit) ∧
    (s.portOpen site = true) ∧
    ((s.col site tile).powered = true) ∧
    (noWait s site tile unit n) ∧
    (s.verdict (writeSlot site 3 tile unit p.payload) = k) ∧
    ((k = .ok ∨ k = .poisoned)) := by decide +kernel

theorem test_PacketsInTurnComplete_3 :
    let inTurn (s : State) (iod type : Nat) (p : Packet) (c : Chan) : Prop :=
      p.type = type ∧ p.pcrc = pcrcOf p.payload p.len ∧ s.chan? iod p.dchan = some c ∧ c.live = true ∧ (s.iod iod).held = false ∧ p.cookie = c.cookie.toNat ∧
      p.psn = c.rcvNxt ∧ c.rcvNxt < 2 ^ 24 ∧ c.got = []
    let s : State := chan6 aChan
    let iod : Nat := 2
    let n : Nat := 1
    let field : Nat := 10
    let unit : Nat := 6
    let p : Packet := filled { pkt with type := 2, gaddr := fieldAddr 10 6 } 1
    let c : Chan := aChan
    let k : Code := .ok
    (s.mem.wf) ∧
    (inTurn s iod 2 p c) ∧
    (p.len = 32 * n) ∧
    (1 ≤ n) ∧
    (n ≤ 128) ∧
    (p.payload.length = n) ∧
    ((p.post = true → ctrInRange p.tport p.ctr = true)) ∧
    (s.globalPlace p.gaddr p.len 32 = .cache field unit) ∧
    (s.portOpen (s.cachePort field) = true) ∧
    (s.verdict (writeSlot (s.cachePort field) 1 0 unit p.payload) = k) ∧
    ((k = .ok ∨ k = .poisoned)) := by decide +kernel

theorem test_PacketsInTurnComplete_4 :
    let inTurn (s : State) (iod type : Nat) (p : Packet) (c : Chan) : Prop :=
      p.type = type ∧ p.pcrc = pcrcOf p.payload p.len ∧ s.chan? iod p.dchan = some c ∧ c.live = true ∧ (s.iod iod).held = false ∧ p.cookie = c.cookie.toNat ∧
      p.psn = c.rcvNxt ∧ c.rcvNxt < 2 ^ 24 ∧ c.got = []
    let noWait (s : State) (site tile unit n : Nat) : Prop :=
      (∀ r ∈ (s.col site tile).queue ++ (s.col site tile).held, r.write = false ∨ rangesMeet r.addr r.data.length unit n = false) ∧
      (∀ x ∈ (s.field (fieldOf site)).writeQ, x.dst ≠ site ∨ x.ttile ≠ tile ∨ rangesMeet x.taddr x.len unit n = false)
    let s : State := chan6 aChan
    let iod : Nat := 2
    let site : Nat := 10
    let tile : Nat := 47
    let unit : Nat := 8
    let p : Packet := filled { pkt with type := 3, gaddr := stackAddr 47 8 } 4
    let c : Chan := aChan
    let k : Code := .ok
    (s.mem.wf) ∧
    (inTurn s iod 3 p c) ∧
    (p.len = 128) ∧
    (p.payload.length = 4) ∧
    ((p.post = true → ctrInRange p.tport p.ctr = true)) ∧
    (s.globalPlace p.gaddr 128 128 = .vault site tile unit) ∧
    (s.portOpen site = true) ∧
    ((s.col site tile).powered = true) ∧
    (noWait s site tile unit 4) ∧
    (s.verdict (writeSlot site 3 tile unit p.payload) = k) ∧
    ((k = .ok ∨ k = .poisoned)) := by intro _ _ _ _ _ _ _ _ _; exact ⟨by decide, ⟨by decide, filled_pcrc _ _, by decide, by decide, by decide, by decide, by decide, by decide, by decide⟩, by decide, by decide, by decide, by decide, by decide, by decide, by decide, by decide, by decide⟩

theorem test_PacketsInTurnComplete_5 :
    let inTurn (s : State) (iod type : Nat) (p : Packet) (c : Chan) : Prop :=
      p.type = type ∧ p.pcrc = pcrcOf p.payload p.len ∧ s.chan? iod p.dchan = some c ∧ c.live = true ∧ (s.iod iod).held = false ∧ p.cookie = c.cookie.toNat ∧
      p.psn = c.rcvNxt ∧ c.rcvNxt < 2 ^ 24 ∧ c.got = []
    let noWait (s : State) (site tile unit n : Nat) : Prop :=
      (∀ r ∈ (s.col site tile).queue ++ (s.col site tile).held, r.write = false ∨ rangesMeet r.addr r.data.length unit n = false) ∧
      (∀ x ∈ (s.field (fieldOf site)).writeQ, x.dst ≠ site ∨ x.ttile ≠ tile ∨ rangesMeet x.taddr x.len unit n = false)
    let s : State := (chan6 aChan).putUnit (vaultAddr 10 47 9) (aUnit 77)
    let iod : Nat := 2
    let site : Nat := 10
    let tile : Nat := 47
    let unit : Nat := 8
    let p : Packet := { pkt with type := 4, gaddr := stackAddr 47 8, len := 0, payload := [], pcrc := 0, rid := 3 }
    let c : Chan := aChan
    (inTurn s iod 4 p c) ∧
    (s.globalPlace p.gaddr 128 128 = .vault site tile unit) ∧
    (s.portOpen site = true) ∧
    (s.colServes site tile = true) ∧
    (noWait s site tile unit 4) ∧
    (isSite site = true) ∧
    (tile < 48) ∧
    (unit % 2 ^ 23 + 4 ≤ 2 ^ 23) ∧
    (s.band site ≠ bandB4) := by decide


/-- A read outstanding of a line. -/
def aRead : RRead := { (default : RRead) with chan := 6, gaddr := stackAddr 47 8, field := 10, cacheable := true, deadline := 10 ^ 9 }

/-- Die 2 with channel 6, a read 3 outstanding and a line cached. -/
def reading : State :=
  { chan6 aChan with iods := [(2, { Iod.reset with powered := true, chans := [(6, aChan)], reads := [(3, aRead)] })], fields := [(10, { (default : Field) with lines := [{ gaddr := stackAddr 47 8, data := [] }, { gaddr := 0, data := [] }] })] }

theorem test_PacketsInTurnComplete_6 :
    let inTurn (s : State) (iod type : Nat) (p : Packet) (c : Chan) : Prop :=
      p.type = type ∧ p.pcrc = pcrcOf p.payload p.len ∧ s.chan? iod p.dchan = some c ∧ c.live = true ∧ (s.iod iod).held = false ∧ p.cookie = c.cookie.toNat ∧
      p.psn = c.rcvNxt ∧ c.rcvNxt < 2 ^ 24 ∧ c.got = []
    let s : State := reading
    let iod : Nat := 2
    let p : Packet := { pkt with type := 5, rid := 3 }
    let c : Chan := aChan
    let r : RRead := aRead
    (inTurn s iod 5 p c) ∧
    ((s.iod iod).reads.find? (fun r => r.1 == p.rid) = some (p.rid, r)) ∧
    (s.time ≤ r.deadline) := by decide

theorem test_PacketsInTurnComplete_6b :
    let inTurn (s : State) (iod type : Nat) (p : Packet) (c : Chan) : Prop :=
      p.type = type ∧ p.pcrc = pcrcOf p.payload p.len ∧ s.chan? iod p.dchan = some c ∧ c.live = true ∧ (s.iod iod).held = false ∧ p.cookie = c.cookie.toNat ∧
      p.psn = c.rcvNxt ∧ c.rcvNxt < 2 ^ 24 ∧ c.got = []
    let s : State := { reading with fields := [(10, { (default : Field) with epoch := 1#32 })] }
    let iod : Nat := 2
    let p : Packet := { pkt with type := 5, rid := 3 }
    let c : Chan := aChan
    let r : RRead := aRead
    (inTurn s iod 5 p c) ∧
    ((s.iod iod).reads.find? (fun r => r.1 == p.rid) = some (p.rid, r)) ∧
    (s.time ≤ r.deadline) := by decide

theorem test_PacketsInTurnComplete_7 :
    let inTurn (s : State) (iod type : Nat) (p : Packet) (c : Chan) : Prop :=
      p.type = type ∧ p.pcrc = pcrcOf p.payload p.len ∧ s.chan? iod p.dchan = some c ∧ c.live = true ∧ (s.iod iod).held = false ∧ p.cookie = c.cookie.toNat ∧
      p.psn = c.rcvNxt ∧ c.rcvNxt < 2 ^ 24 ∧ c.got = []
    let s : State := reading
    let iod : Nat := 2
    let p : Packet := { pkt with type := 6, sub := 0, gaddr := stackAddr 47 8 }
    let c : Chan := aChan
    (inTurn s iod 6 p c) ∧
    (p.sub = 0) := by decide

theorem test_PacketsInTurnComplete_8 :
    let inTurn (s : State) (iod type : Nat) (p : Packet) (c : Chan) : Prop :=
      p.type = type ∧ p.pcrc = pcrcOf p.payload p.len ∧ s.chan? iod p.dchan = some c ∧ c.live = true ∧ (s.iod iod).held = false ∧ p.cookie = c.cookie.toNat ∧
      p.psn = c.rcvNxt ∧ c.rcvNxt < 2 ^ 24 ∧ c.got = []
    let s : State := reading
    let iod : Nat := 2
    let p : Packet := { pkt with type := 6, sub := 1 }
    let c : Chan := aChan
    (inTurn s iod 6 p c) ∧
    (p.sub = 1) := by decide

theorem test_PacketsInTurnComplete_9 :
    let f : Nat := 55
    (f < 56) := by decide

theorem test_PacketsInTurnComplete_10 :
    let inTurn (s : State) (iod type : Nat) (p : Packet) (c : Chan) : Prop :=
      p.type = type ∧ p.pcrc = pcrcOf p.payload p.len ∧ s.chan? iod p.dchan = some c ∧ c.live = true ∧ (s.iod iod).held = false ∧ p.cookie = c.cookie.toNat ∧
      p.psn = c.rcvNxt ∧ c.rcvNxt < 2 ^ 24 ∧ c.got = []
    let s : State := { chan6 aChan with iods := [(2, { Iod.reset with powered := true, chans := [(6, aChan)], tickets := [{ aTicket with deadline := 10 ^ 9 }] })] }
    let iod : Nat := 2
    let p : Packet := filled { pkt with type := 7, ctr := 9, flit := 0, nflit := 0 } 8
    let c : Chan := aChan
    let k : Ticket := { aTicket with deadline := 10 ^ 9 }
    (inTurn s iod 7 p c) ∧
    ((s.iod iod).tickets.find? (fun x => x.ticket == p.ctr) = some k) ∧
    ((∀ x ∈ (s.iod iod).straight, x.ticket ≠ k.ticket)) ∧
    (k.accepts s.time 0 = true) ∧
    (p.flit = 0) ∧
    (p.nflit + 1 = k.flits) ∧
    (p.len = 256 * k.flits) ∧
    (p.payload.length = 8 * k.flits) ∧
    (mapGet [] (s.iod iod).partials (p.ctr, 4 * p.spanel + p.siod) = []) ∧
    (k.contribs.length + 1 < k.expected) := by intro _ _ _ _ _ _; exact ⟨⟨by decide, filled_pcrc _ _, by decide, by decide, by decide, by decide, by decide, by decide, by decide⟩, by decide, by decide, by decide, by decide, by decide, by decide, by decide, by decide⟩

theorem test_PacketsInTurnComplete_11 :
    let inTurn (s : State) (iod type : Nat) (p : Packet) (c : Chan) : Prop :=
      p.type = type ∧ p.pcrc = pcrcOf p.payload p.len ∧ s.chan? iod p.dchan = some c ∧ c.live = true ∧ (s.iod iod).held = false ∧ p.cookie = c.cookie.toNat ∧
      p.psn = c.rcvNxt ∧ c.rcvNxt < 2 ^ 24 ∧ c.got = []
    let s : State := chan6 { aChan with sring := [pkt] }
    let iod : Nat := 2
    let p : Packet := { pkt with type := 10 }
    let c : Chan := { aChan with sring := [pkt] }
    (inTurn s iod 10 p c) := by decide

theorem test_PacketsInTurnComplete_11b :
    let inTurn (s : State) (iod type : Nat) (p : Packet) (c : Chan) : Prop :=
      p.type = type ∧ p.pcrc = pcrcOf p.payload p.len ∧ s.chan? iod p.dchan = some c ∧ c.live = true ∧ (s.iod iod).held = false ∧ p.cookie = c.cookie.toNat ∧
      p.psn = c.rcvNxt ∧ c.rcvNxt < 2 ^ 24 ∧ c.got = []
    let s : State := chan6 { aChan with sring := [pkt], inFlight := [default] }
    let iod : Nat := 2
    let p : Packet := { pkt with type := 10 }
    let c : Chan := { aChan with sring := [pkt], inFlight := [default] }
    (inTurn s iod 10 p c) := by decide

/-- An OPEN's payload: a host channel 3 of class B, window 256; and a peer's, of class A. -/
def hostAsks : BitVec 256 := packBits 256 [(0, 16, 3), (16, 2, 1), (19, 9, 256)]
def peerAsks : PeerOpen := { panel := 1024, iod := 1, chan := 3, kind := 1, cls := .A, pinned := false, window := 1, sring := 0, ssize := 0, rring := 0, rsize := 0, actr := 0, cctr := 0 }

/-- Die 2 with channel 1 live and channel 2 in error. -/
def twoChans : State := { withObjs [(.F0916, 0, 5 + 2 ^ 128 * 8)] with iods := [(2, { Iod.reset with chans := [(1, aChan), (2, { aChan with state := 2 })] })] }

theorem test_ChannelCommandsComplete_1 :
    let s : State := twoChans
    let iod : Nat := 2
    let addr : Nat := 5
    let n : Nat := 2
    let peer : Option PeerOpen := none
    let payload : BitVec 256 := hostAsks
    (s.openRefused iod addr peer.isNone (openOf peer payload) = false) ∧
    (1 ≤ n) ∧
    (n < 65536) ∧
    ((∀ c, s.chan? iod n = some c → c.live = false)) ∧
    ((∀ m, 1 ≤ m → m < n → ∃ c, s.chan? iod m = some c ∧ c.live = true)) := by refine ⟨by decide, by decide, by decide, (fun c h => by cases h; rfl), (fun m h1 h2 => ⟨aChan, by obtain rfl : m = 1 := (by omega); exact ⟨rfl, rfl⟩⟩)⟩

theorem test_ChannelCommandsComplete_1b :
    let s : State := twoChans
    let iod : Nat := 2
    let addr : Nat := 5
    let n : Nat := 2
    let peer : Option PeerOpen := some peerAsks
    let payload : BitVec 256 := hostAsks
    (s.openRefused iod addr peer.isNone (openOf peer payload) = false) ∧
    (1 ≤ n) ∧
    (n < 65536) ∧
    ((∀ c, s.chan? iod n = some c → c.live = false)) ∧
    ((∀ m, 1 ≤ m → m < n → ∃ c, s.chan? iod m = some c ∧ c.live = true)) := by refine ⟨by decide, by decide, by decide, (fun c h => by cases h; rfl), (fun m h1 h2 => ⟨aChan, by obtain rfl : m = 1 := (by omega); exact ⟨rfl, rfl⟩⟩)⟩

theorem test_ChannelCommandsComplete_2 :
    let s : State := State.reset
    let iod : Nat := 2
    let addr : Nat := 5
    let peer : Option PeerOpen := none
    let payload : BitVec 256 := hostAsks
    (s.openRefused iod addr peer.isNone (openOf peer payload) = true) := by decide

theorem test_ChannelCommandsComplete_2b :
    let s : State := State.reset
    let iod : Nat := 2
    let addr : Nat := 5
    let peer : Option PeerOpen := some { peerAsks with window := 257 }
    let payload : BitVec 256 := hostAsks
    (s.openRefused iod addr peer.isNone (openOf peer payload) = true) := by decide

theorem test_ChannelCommandsComplete_3 :
    let s : State := chan6 { aChan with recent := [(10 ^ 9 - 1000, 10 ^ 6)] }
    let iod : Nat := 2
    let chan : Nat := 6
    let p : Packet := pkt
    let c : Chan := { aChan with recent := [(10 ^ 9 - 1000, 10 ^ 6)] }
    let cr : Nat × Nat × Nat := spend State.reset.weights .B
    (s.chan? iod chan = some c) ∧
    (c.state = 1) ∧
    (c.sring = []) ∧
    (p.type ≠ 3) ∧
    (p.type ≠ 4) ∧
    (p.type ≠ 10) ∧
    (s.reachable c = true) ∧
    ((s.iod iod).relayed = []) ∧
    ((s.setChan iod chan { c with sring := [p], shead := (c.shead + 1) % 65536 }).engineTurn iod = some (chan, c.cls, cr)) := by decide

theorem test_ChannelCommandsComplete_4 :
    let s : State := chan6 { aChan with unacked := 16, unackedSince := 10 ^ 9, ackEce := true, ackEntries := List.replicate 33 (70, 9) }
    let iod : Nat := 2
    let chan : Nat := 6
    let c : Chan := { aChan with unacked := 16, unackedSince := 10 ^ 9, ackEce := true, ackEntries := List.replicate 33 (70, 9) }
    (s.chan? iod chan = some c) ∧
    ((s.iod iod).held = false) ∧
    (0 < c.unacked) ∧
    ((16 ≤ c.unacked ∨ c.unackedSince + 2000 ≤ s.time ∨ (c.ackEce = true ∧ dueEvent c.lastEce s.time 2000 = true))) := by decide

theorem test_ChannelCommandsComplete_4b :
    let s : State := chan6 { aChan with unacked := 1, unackedSince := 10 ^ 9 - 2000 }
    let iod : Nat := 2
    let chan : Nat := 6
    let c : Chan := { aChan with unacked := 1, unackedSince := 10 ^ 9 - 2000 }
    (s.chan? iod chan = some c) ∧
    ((s.iod iod).held = false) ∧
    (0 < c.unacked) ∧
    ((16 ≤ c.unacked ∨ c.unackedSince + 2000 ≤ s.time ∨ (c.ackEce = true ∧ dueEvent c.lastEce s.time 2000 = true))) := by decide

theorem test_ChannelCommandsComplete_5 :
    let s : State := chan6 aChan
    let iod : Nat := 2
    let p : Packet := { pkt with type := 8, hold := true }
    let c : Chan := aChan
    (p.type = 8) ∧
    (s.chan? iod p.dchan = some c) ∧
    (c.live = true) ∧
    (p.cookie = c.cookie.toNat) ∧
    (p.pcrc = pcrcOf p.payload p.len) ∧
    (p.hold = true) := by decide


/-- The packet in flight of channel 6. -/
def flying : OutPkt := { pkt := { pkt with psn := 30 }, sentAt := 10 ^ 9 - 100000, tries := 0, shown := false }

theorem test_ChannelCommandsComplete_6 :
    let s : State := chan6 { aChan with inFlight := [flying] }
    let iod : Nat := 2
    let p : Packet := filled { pkt with type := 8, ack := 30 } 1
    let c : Chan := { aChan with inFlight := [flying] }
    let o : OutPkt := flying
    (p.type = 8) ∧
    (s.chan? iod p.dchan = some c) ∧
    (c.state = 1) ∧
    (p.cookie = c.cookie.toNat) ∧
    (p.pcrc = pcrcOf p.payload p.len) ∧
    (p.hold = false) ∧
    (p.ece = false) ∧
    (p.len = 32) ∧
    (c.heldSince = none) ∧
    (c.inFlight = [o]) ∧
    (o.pkt.psn = c.sndUna) ∧
    (p.ack = c.sndUna) ∧
    (c.sndUna < 2 ^ 24) := by decide +kernel

theorem test_ChannelCommandsComplete_7 :
    let s : State := chan6 { aChan with inFlight := [{ flying with tries := 0 }] }
    let iod : Nat := 2
    let chan : Nat := 6
    let c : Chan := { aChan with inFlight := [{ flying with tries := 0 }] }
    let o : OutPkt := { flying with tries := 0 }
    let rest : List OutPkt := []
    (s.chan? iod chan = some c) ∧
    (c.live = true) ∧
    (c.heldSince = none) ∧
    ((s.iod iod).held = false) ∧
    (c.inFlight = o :: rest) ∧
    (o.shown = false) ∧
    (o.sentAt + 1000 * rtoOf c o ≤ s.time) ∧
    (o.tries < 7) := by decide

theorem test_ChannelCommandsComplete_7b :
    let s : State := chan6 { aChan with inFlight := [{ flying with tries := 6, sentAt := 10 ^ 9 - 1000000 }] }
    let iod : Nat := 2
    let chan : Nat := 6
    let c : Chan := { aChan with inFlight := [{ flying with tries := 6, sentAt := 10 ^ 9 - 1000000 }] }
    let o : OutPkt := { flying with tries := 6, sentAt := 10 ^ 9 - 1000000 }
    let rest : List OutPkt := []
    (s.chan? iod chan = some c) ∧
    (c.live = true) ∧
    (c.heldSince = none) ∧
    ((s.iod iod).held = false) ∧
    (c.inFlight = o :: rest) ∧
    (o.shown = false) ∧
    (o.sentAt + 1000 * rtoOf c o ≤ s.time) ∧
    (o.tries < 7) := by decide

theorem test_ChannelCommandsComplete_8 :
    let s : State := (chan6 { aChan with inFlight := [{ flying with tries := 7, sentAt := 10 ^ 9 - 1000000 }] }).setObj .F090D 2 3
    let iod : Nat := 2
    let chan : Nat := 6
    let c : Chan := { aChan with inFlight := [{ flying with tries := 7, sentAt := 10 ^ 9 - 1000000 }] }
    let o : OutPkt := { flying with tries := 7, sentAt := 10 ^ 9 - 1000000 }
    let rest : List OutPkt := []
    (s.chan? iod chan = some c) ∧
    (c.live = true) ∧
    (c.heldSince = none) ∧
    ((s.iod iod).held = false) ∧
    (c.inFlight = o :: rest) ∧
    (o.shown = false) ∧
    (o.sentAt + 1000 * rtoOf c o ≤ s.time) ∧
    (7 ≤ o.tries) := by decide

theorem test_ChannelCommandsComplete_9 :
    let s : State := chan6 { aChan with lastCut := some 4, level := 8, rise := 2, quiet := 14 }
    let iod : Nat := 2
    let chan : Nat := 6
    let u : Nat := 4
    let c : Chan := { aChan with lastCut := some 4, level := 8, rise := 2, quiet := 14 }
    (s.chan? iod chan = some c) ∧
    (c.cls ≠ .A) ∧
    (c.lastCut = some u) ∧
    (c.lastStep + 1000 * s.rateParam 3 ≤ s.time) := by decide

theorem test_ChannelCommandsComplete_10 :
    let s : State := chan6 { aChan with heldSince := some (9 * 10 ^ 8), inFlight := [flying] }
    let iod : Nat := 2
    let chan : Nat := 6
    let u : Nat := 9 * 10 ^ 8
    let c : Chan := { aChan with heldSince := some (9 * 10 ^ 8), inFlight := [flying] }
    (s.chan? iod chan = some c) ∧
    (c.heldSince = some u) ∧
    (u + 100000000 ≤ s.time) := by decide

theorem test_ChannelCommandsComplete_11 :
    let s : State := reading
    let iod : Nat := 2
    let rid : Nat := 3
    let r : RRead := aRead
    ((s.iod iod).reads.find? (fun r => r.1 == rid) = some (rid, r)) ∧
    (r.deadline ≤ s.time) := by decide


/-- A descriptor from (lowest bit, value) pairs: own = 1, 8 units, from the vaults of site 10, tile 47, unit 8, to the cache of field 10. -/
def aDesc (l : List (Nat × Nat)) : BitVec 512 :=
  BitVec.ofNat 512 (([(0, 1), (16, 7), (64, stackAddr 47 8), (128, fieldAddr 10 6)] ++ l).map (fun p : Nat × Nat => p.2 * 2 ^ p.1)).sum

/-- The same from an address to an address. -/
def moving (src dst : Nat) (l : List (Nat × Nat)) : BitVec 512 :=
  BitVec.ofNat 512 (([(0, 1), (16, 7), (64, src), (128, dst)] ++ l).map (fun p : Nat × Nat => p.2 * 2 ^ p.1)).sum

/-- A descriptor at ring entry 5 that has read and holds units. -/
def anActive (d : BitVec 512) (n : Nat) : Active := { newActive 5 d false with readUnits := n, data := List.replicate n (aUnit 5) }

/-- A channel of a mover. -/
def onChan (port chan : Nat) (c : MChan) : State := { withObjs [(.X0F01, 0, 10), (.B0601, 10, portInService), (.B0601, 20, portInService)] with movers := [(port, { chans := [(chan, c)], stop := none, settled := false })], cols := [((10, 47), { VaultCol.reset with powered := true, clearing := false })], time := 10 ^ 9 }

/-- A channel with these descriptors. -/
def chanOf (l : List Active) : MChan := { MChan.reset with active := l, idle := false }

theorem test_MoverTransfersComplete_1 :
    let port : Nat := 10
    let chan : Nat := 15
    (moverThere port chan = true) := by decide

theorem test_MoverTransfersComplete_2_1 :
    let s : State := onChan 10 15 { MChan.reset with idle := false, consumer := 63 }
    let port : Nat := 10
    let chan : Nat := 15
    (moverThere port chan = true) ∧
    ((s.mover port).stop = none) ∧
    ((s.mchan port chan).halted = false) ∧
    ((s.mchan port chan).idle = false) ∧
    ((∀ a ∈ (s.mchan port chan).active, a.entry ≠ (s.mchan port chan).consumer)) ∧
    let c := s.mchan port chan
    let d := c.entry c.consumer
    (dOwn d = false) := by decide

theorem test_MoverTransfersComplete_2_2_1 :
    let s : State := onChan 10 15 { MChan.reset with idle := false, consumer := 63, ring := [(63, aDesc [])] }
    let port : Nat := 10
    let chan : Nat := 15
    (moverThere port chan = true) ∧
    ((s.mover port).stop = none) ∧
    ((s.mchan port chan).halted = false) ∧
    ((s.mchan port chan).idle = false) ∧
    ((∀ a ∈ (s.mchan port chan).active, a.entry ≠ (s.mchan port chan).consumer)) ∧
    let c := s.mchan port chan
    let d := c.entry c.consumer
    (dOwn d = true) ∧
    ((∀ a, c.active.getLast? = some a → a.readsIssued = true)) ∧
    ((dFence d = true → c.active = [])) ∧
    (s.descFault port d = none) := by decide

theorem test_MoverTransfersComplete_2_2_1b :
    let s : State := onChan 0 31 { MChan.reset with idle := false, consumer := 255, ring := [(255, moving (stackAddr 47 8) 3 [(8, 2)])] }
    let port : Nat := 0
    let chan : Nat := 31
    (moverThere port chan = true) ∧
    ((s.mover port).stop = none) ∧
    ((s.mchan port chan).halted = false) ∧
    ((s.mchan port chan).idle = false) ∧
    ((∀ a ∈ (s.mchan port chan).active, a.entry ≠ (s.mchan port chan).consumer)) ∧
    let c := s.mchan port chan
    let d := c.entry c.consumer
    (dOwn d = true) ∧
    ((∀ a, c.active.getLast? = some a → a.readsIssued = true)) ∧
    ((dFence d = true → c.active = [])) ∧
    (s.descFault port d = none) := by decide

theorem test_MoverTransfersComplete_2_2_2 :
    let s : State := onChan 10 15 { MChan.reset with idle := false, consumer := 63, ring := [(63, moving 1 0 [])] }
    let port : Nat := 10
    let chan : Nat := 15
    (moverThere port chan = true) ∧
    ((s.mover port).stop = none) ∧
    ((s.mchan port chan).halted = false) ∧
    ((s.mchan port chan).idle = false) ∧
    ((∀ a ∈ (s.mchan port chan).active, a.entry ≠ (s.mchan port chan).consumer)) ∧
    let c := s.mchan port chan
    let d := c.entry c.consumer
    (dOwn d = true) ∧
    ((∀ a, c.active.getLast? = some a → a.readsIssued = true)) ∧
    ((dFence d = true → c.active = [])) ∧
    let k := 1
    (s.descFault port d = some k) := by decide

theorem test_MoverTransfersComplete_3_1 :
    let s : State := onChan 10 15 (chanOf [anActive (moving 0 0 [(6, 2)]) 0])
    let port : Nat := 10
    let chan : Nat := 15
    let a : Active := anActive (moving 0 0 [(6, 2)]) 0
    let rest : List Active := []
    ((s.mover port).stop = none) ∧
    (s.pacing port (s.mchan port chan) = true) ∧
    ((s.mchan port chan).active = a :: rest) ∧
    (a.halted = false) ∧
    (a.readUnits < dLen a.desc) ∧
    (dSmode a.desc = 2) := by decide

theorem test_MoverTransfersComplete_3_2 :
    let s : State := onChan 10 15 (chanOf [anActive (moving (stackAddr 47 6) 0 []) 0])
    let port : Nat := 10
    let chan : Nat := 15
    let a : Active := anActive (moving (stackAddr 47 6) 0 []) 0
    let rest : List Active := []
    ((s.mover port).stop = none) ∧
    (s.pacing port (s.mchan port chan) = true) ∧
    ((s.mchan port chan).active = a :: rest) ∧
    (a.halted = false) ∧
    (a.readUnits < dLen a.desc) ∧
    (dSmode a.desc ≠ 2) ∧
    (s.servesNow port chan (s.readReady port chan) = true) ∧
    (s.readBySlot port a = false) := by decide


theorem test_MoverTransfersComplete_3_3 :
    let s : State := onChan 98 31 (chanOf [anActive (moving (fieldAddr 10 6) 0 []) 0])
    let port : Nat := 98
    let chan : Nat := 31
    let a : Active := anActive (moving (fieldAddr 10 6) 0 []) 0
    let rest : List Active := []
    ((s.mover port).stop = none) ∧
    (s.pacing port (s.mchan port chan) = true) ∧
    ((s.mchan port chan).active = a :: rest) ∧
    (a.halted = false) ∧
    (a.readUnits < dLen a.desc) ∧
    let n := nextRead a
    let q : Nat := 20
    let space : Nat := 1
    let tile : Nat := 0
    let unit : Nat := 6
    (dSmode a.desc ≠ 2) ∧
    (s.servesNow port chan (s.readReady port chan) = true) ∧
    (s.readBySlot port a = true) ∧
    (s.readTarget (s.srcPlace a.desc a.readUnits (if dSmode a.desc = 0 then n else 1)) = some (q, space, tile, unit)) := by decide


/-- A descriptor with a read of units outstanding. -/
def awaiting (d : BitVec 512) (r : MRead) : Active := { newActive 5 d false with readUnits := r.units, reads := [r] }

/-- Two units read straight from a memory; and by a slot, with what its reply brought. -/
def ofTwo : MRead := { units := 2 }
def replied (k : Code) (l : List Cell32) : MRead := { units := 2, slot := some 0, rid := 4, answer := some (k, l) }

theorem test_MoverTransfersComplete_4 :
    let noWait (s : State) (site tile unit n : Nat) : Prop :=
      (∀ r ∈ (s.col site tile).queue ++ (s.col site tile).held, r.write = false ∨ rangesMeet r.addr r.data.length unit n = false) ∧
      (∀ x ∈ (s.field (fieldOf site)).writeQ, x.dst ≠ site ∨ x.ttile ≠ tile ∨ rangesMeet x.taddr x.len unit n = false)
    let s : State := (onChan 10 15 (chanOf [awaiting (aDesc []) ofTwo])).putUnit (vaultAddr 10 47 9) (aUnit 77)
    let port : Nat := 10
    let chan : Nat := 15
    let p : Nat := 10
    let tile : Nat := 47
    let unit : Nat := 8
    let a : Active := awaiting (aDesc []) ofTwo
    let r : MRead := ofTwo
    let more : List MRead := []
    let rest : List Active := []
    ((s.mchan port chan).active = a :: rest) ∧
    (a.reads = r :: more) ∧
    (r.slot = none) ∧
    (a.halted = false) ∧
    (dSmode a.desc = 0) ∧
    (s.srcPlace a.desc a.readAt r.units = .vault p tile unit) ∧
    (s.portOpen p = true) ∧
    (s.colServes p tile = true) ∧
    (noWait s p tile unit r.units) ∧
    (isSite p = true) ∧
    (tile < 48) ∧
    (unit % 2 ^ 23 + r.units ≤ 2 ^ 23) ∧
    (r.units ≤ 368) ∧
    (s.band p ≠ bandB4) := by decide

theorem test_MoverTransfersComplete_5 :
    let s : State := (onChan 10 15 (chanOf [awaiting (moving (9 * 2 ^ 40 + 3 * 2 ^ 22 + 64) 0 []) ofTwo])).putUnit (storeAddr 10 3 3) (aUnit 77)
    let port : Nat := 10
    let chan : Nat := 15
    let p : Nat := 10
    let tile : Nat := 3
    let unit : Nat := 2
    let a : Active := awaiting (moving (9 * 2 ^ 40 + 3 * 2 ^ 22 + 64) 0 []) ofTwo
    let r : MRead := ofTwo
    let more : List MRead := []
    let rest : List Active := []
    ((s.mchan port chan).active = a :: rest) ∧
    (a.reads = r :: more) ∧
    (r.slot = none) ∧
    (iodOfPort port = none) ∧
    (a.halted = false) ∧
    (dSmode a.desc = 0) ∧
    (s.srcPlace a.desc a.readAt r.units = .store p tile unit) := by decide

theorem test_MoverTransfersComplete_6 :
    let s : State := onChan 98 31 (chanOf [awaiting (moving (fieldAddr 10 6) 0 []) (replied .poisoned [aUnit 1, aUnit 2])])
    let port : Nat := 98
    let chan : Nat := 31
    let i : Nat := 0
    let a : Active := awaiting (moving (fieldAddr 10 6) 0 []) (replied .poisoned [aUnit 1, aUnit 2])
    let r : MRead := replied .poisoned [aUnit 1, aUnit 2]
    let more : List MRead := []
    let rest : List Active := []
    let k : Code := .poisoned
    let l : List Cell32 := [aUnit 1, aUnit 2]
    ((s.mchan port chan).active = a :: rest) ∧
    (a.reads = r :: more) ∧
    (r.slot = some i) ∧
    (r.answer = some (k, l)) ∧
    ((k = .ok ∨ k = .poisoned)) ∧
    (a.halted = false) ∧
    (dSmode a.desc = 0) := by decide

theorem test_MoverTransfersComplete_7_1 :
    let s : State := onChan 10 15 (chanOf [anActive (moving 0 (stackAddr 47 6) []) 3])
    let port : Nat := 10
    let chan : Nat := 15
    let a : Active := anActive (moving 0 (stackAddr 47 6) []) 3
    let rest : List Active := []
    (s.servesNow port chan (s.writeReady port chan) = true) ∧
    ((s.mchan port chan).active = a :: rest) ∧
    (a.mayWrite = true) ∧
    let d := a.desc
    (s.farDst d = false) ∧
    (dDmode d = 0) ∧
    (localTo port (s.dstPlace d a.issued 1) = true) := by decide

theorem test_MoverTransfersComplete_7_2 :
    let s : State := onChan 110 31 (chanOf [anActive (moving 0 3 [(8, 2)]) 3])
    let port : Nat := 110
    let chan : Nat := 31
    let a : Active := anActive (moving 0 3 [(8, 2)]) 3
    let rest : List Active := []
    (s.servesNow port chan (s.writeReady port chan) = true) ∧
    ((s.mchan port chan).active = a :: rest) ∧
    (a.mayWrite = true) ∧
    let d := a.desc
    (dDmode d = 2) := by decide

theorem test_MoverTransfersComplete_7_3 :
    let s : State := { onChan 98 31 (chanOf [anActive (moving 0 (2 ^ 49) [(48, 6)]) 8]) with iods := [(2, { Iod.reset with chans := [(6, aChan)] })] }
    let port : Nat := 98
    let chan : Nat := 31
    let a : Active := anActive (moving 0 (2 ^ 49) [(48, 6)]) 8
    let rest : List Active := []
    (s.servesNow port chan (s.writeReady port chan) = true) ∧
    ((s.mchan port chan).active = a :: rest) ∧
    (a.mayWrite = true) ∧
    let d := a.desc
    let ch : Chan := aChan
    (s.farDst d = true) ∧
    (dDmode d = 0) ∧
    (iodOfPort port ≠ none) ∧
    (s.chan? (relayIod port d) (dChan d) = some ch) ∧
    (ch.state = 1) := by decide

theorem test_MoverTransfersComplete_7_4 :
    let s : State := onChan 10 15 (chanOf [anActive (moving 0 (2 ^ 49) [(48, 6)]) 8])
    let port : Nat := 10
    let chan : Nat := 15
    let a : Active := anActive (moving 0 (2 ^ 49) [(48, 6)]) 8
    let rest : List Active := []
    (s.servesNow port chan (s.writeReady port chan) = true) ∧
    ((s.mchan port chan).active = a :: rest) ∧
    (a.mayWrite = true) ∧
    let d := a.desc
    (s.farDst d = true) ∧
    (dDmode d = 0) ∧
    (iodOfPort port = none) := by decide

theorem test_MoverTransfersComplete_7_5 :
    let s : State := onChan 10 15 (chanOf [anActive (aDesc []) 8])
    let port : Nat := 10
    let chan : Nat := 15
    let a : Active := anActive (aDesc []) 8
    let rest : List Active := []
    (s.servesNow port chan (s.writeReady port chan) = true) ∧
    ((s.mchan port chan).active = a :: rest) ∧
    (a.mayWrite = true) ∧
    let c := s.mchan port chan
    let d := a.desc
    let q : Nat := 20
    let kind : Nat := 1
    let tile : Nat := 0
    let unit : Nat := 6
    (s.farDst d = false) ∧
    (dDmode d = 0) ∧
    (localTo port (s.dstPlace d a.issued 1) = false) ∧
    let n := nextWrite false false false (s.pacing port c) a
    (s.slotTarget (s.dstPlace d a.issued n) = some (q, kind, tile, unit)) := by decide

theorem test_MoverTransfersComplete_8 :
    let s : State := onChan 10 15 (chanOf [anActive (aDesc []) 8])
    let port : Nat := 10
    let chan : Nat := 14
    (s.servesNow port chan (s.writeReady port chan) = false) := by decide


/-- A descriptor whose oldest write is outstanding. -/
def writing (d : BitVec 512) (w : MWrite) : Active := { newActive 5 d false with readUnits := 8, issued := 8, writes := [w] }

/-- A write of units, local or answered with a code. -/
def aWrite (land : Option Nat) (l : List Cell32) : MWrite := { count := 8, land := land, data := l, at' := 0 }
def answered (k : Code) : MWrite := { aWrite none [] with slot := some 0, answer := some k }

theorem test_MoverEndsComplete_1 :
    let s : State := onChan 10 15 (chanOf [writing (aDesc []) (answered .ok)])
    let port : Nat := 10
    let chan : Nat := 15
    let a : Active := writing (aDesc []) (answered .ok)
    let rest : List Active := []
    let w : MWrite := answered .ok
    let ws : List MWrite := []
    ((s.mchan port chan).active = a :: rest) ∧
    (a.writes = w :: ws) ∧
    (w.land = none) ∧
    (w.data = []) ∧
    (((dDmode a.desc ≠ 2 ∧ w.answer = some .ok) ∨ (dDmode a.desc = 2 ∧ (s.check (dUnit port a.desc)).feeds < a.writes.length))) := by decide

theorem test_MoverEndsComplete_1b :
    let s : State := onChan 110 31 (chanOf [writing (moving 0 3 [(8, 2)]) (aWrite none [])])
    let port : Nat := 110
    let chan : Nat := 31
    let a : Active := writing (moving 0 3 [(8, 2)]) (aWrite none [])
    let rest : List Active := []
    let w : MWrite := aWrite none []
    let ws : List MWrite := []
    ((s.mchan port chan).active = a :: rest) ∧
    (a.writes = w :: ws) ∧
    (w.land = none) ∧
    (w.data = []) ∧
    (((dDmode a.desc ≠ 2 ∧ w.answer = some .ok) ∨ (dDmode a.desc = 2 ∧ (s.check (dUnit port a.desc)).feeds < a.writes.length))) := by decide

theorem test_MoverEndsComplete_2 :
    let s : State := onChan 10 15 (chanOf [writing (moving 0 (stackAddr 47 8) []) (aWrite (some 0) (List.replicate 8 (aUnit 9)))])
    let port : Nat := 10
    let chan : Nat := 15
    let off : Nat := 0
    let p : Nat := 10
    let tile : Nat := 47
    let unit : Nat := 8
    let a : Active := writing (moving 0 (stackAddr 47 8) []) (aWrite (some 0) (List.replicate 8 (aUnit 9)))
    let rest : List Active := []
    let w : MWrite := aWrite (some 0) (List.replicate 8 (aUnit 9))
    let ws : List MWrite := []
    (s.mem.wf) ∧
    ((s.mchan port chan).active = a :: rest) ∧
    (a.writes = w :: ws) ∧
    (w.land = some off) ∧
    (s.dstPlace a.desc off w.data.length = .vault p tile unit) ∧
    (s.band p ≠ bandB4) ∧
    (s.colServes p tile = true) := by decide

theorem test_MoverEndsComplete_3 :
    let s : State := onChan 98 31 (chanOf [awaiting (moving (fieldAddr 10 6) 0 []) (replied .targetAbsent [])])
    let port : Nat := 98
    let chan : Nat := 31
    let a : Active := awaiting (moving (fieldAddr 10 6) 0 []) (replied .targetAbsent [])
    let rest : List Active := []
    let r : MRead := replied .targetAbsent []
    let i : Nat := 0
    let more : List MRead := []
    let k : Code := .targetAbsent
    let l : List Cell32 := []
    ((s.mchan port chan).active = a :: rest) ∧
    (a.reads = r :: more) ∧
    (r.slot = some i) ∧
    (r.answer = some (k, l)) ∧
    (haltsChan k = true) := by decide

theorem test_MoverEndsComplete_4 :
    let s : State := onChan 10 15 (chanOf [writing (aDesc []) (answered .pathReset)])
    let port : Nat := 10
    let chan : Nat := 15
    let a : Active := writing (aDesc []) (answered .pathReset)
    let rest : List Active := []
    let w : MWrite := answered .pathReset
    let ws : List MWrite := []
    let k : Code := .pathReset
    ((s.mchan port chan).active = a :: rest) ∧
    (a.writes = w :: ws) ∧
    (w.land = none) ∧
    (dDmode a.desc ≠ 2) ∧
    (w.answer = some k) ∧
    (stopsMover k = true) ∧
    ((s.mover port).stop = none) := by decide

theorem test_MoverEndsComplete_5 :
    let s : State := onChan 10 15 (chanOf [writing (aDesc []) (aWrite none [])])
    let port : Nat := 10
    let chan : Nat := 15
    let a : Active := writing (aDesc []) (aWrite none [])
    let rest : List Active := []
    let w : MWrite := aWrite none []
    let ws : List MWrite := []
    ((s.mchan port chan).active = a :: rest) ∧
    (a.writes = w :: ws) ∧
    (w.at' + 1000 * s.obj .D0A04 port < s.time) := by decide

theorem test_MoverEndsComplete_6 :
    let s : State := { State.reset with movers := [(10, { chans := [(15, chanOf [awaiting (aDesc []) ofTwo])], stop := some .busError, settled := false })] }
    let port : Nat := 10
    let k : Code := .busError
    ((s.mover port).stop = some k) ∧
    ((∀ p ∈ (s.mover port).chans, ∀ a ∈ p.2.active, a.writes = [])) := by decide


/-- A descriptor that has moved all its units. -/
def ending (d : BitVec 512) : Active := { newActive 5 d true with readUnits := 8, issued := 8, done := 8 }

theorem test_MoverEndsComplete_7 :
    let s : State := onChan 10 15 (chanOf [ending (aDesc [(1, 1), (3, 1), (40, 24), (192, 4095), (208, 10)])])
    let port : Nat := 10
    let chan : Nat := 15
    let a : Active := ending (aDesc [(1, 1), (3, 1), (40, 24), (192, 4095), (208, 10)])
    let rest : List Active := []
    ((s.mchan port chan).active = a :: rest) ∧
    (a.finished = true) ∧
    (((s.mover port).stop ≠ none → (s.mover port).settled = true)) ∧
    let posts : Bool := dPost a.desc && !s.farDst a.desc && decide (0 < a.done)
    (((iodOfPort port) = none → beatsOf a.desc posts ≤ mapGet 16 (s.site port).attach 22)) ∧
    let box := if dMseq a.desc then 64 + port else dMbox a.desc
    ((∀ x ∈ (s.mover port).mail, x.1 ≠ box)) := by decide

theorem test_MoverEndsComplete_7b :
    let s : State := { (onChan 10 15 (chanOf [awaiting (aDesc [(1, 1), (45, 1)]) ofTwo])) with movers := [(10, { chans := [(15, chanOf [{ awaiting (aDesc [(1, 1), (45, 1)]) ofTwo with halted := true, reads := [] }])], stop := some .busError, settled := true })], boxes := [(74, { msg := 0, full := true, collision := false, seq := 255, waiters := [], waits := [], evCollision := none, evWait := none, collisions := 0 })] }
    let port : Nat := 10
    let chan : Nat := 15
    let a : Active := { awaiting (aDesc [(1, 1), (45, 1)]) ofTwo with halted := true, reads := [] }
    let rest : List Active := []
    ((s.mchan port chan).active = a :: rest) ∧
    (a.finished = true) ∧
    (((s.mover port).stop ≠ none → (s.mover port).settled = true)) ∧
    let posts : Bool := dPost a.desc && !s.farDst a.desc && decide (0 < a.done)
    (((iodOfPort port) = none → beatsOf a.desc posts ≤ mapGet 16 (s.site port).attach 22)) ∧
    let box := if dMseq a.desc then 64 + port else dMbox a.desc
    ((∀ x ∈ (s.mover port).mail, x.1 ≠ box)) := by decide

theorem test_MoverEndsComplete_8 :
    let s : State := onChan 10 15 { chanOf [] with halted := true, ring := [(3, aDesc [])] }
    let port : Nat := 10
    let chan : Nat := 15
    ((s.mchan port chan).halted = true) ∧
    ((s.mover port).stop = none) := by decide

theorem test_MoverEndsComplete_9 :
    let port : Nat := 10
    let chan : Nat := 15
    (moverThere port chan = true) := by decide


/-- An open session of a level. -/
def aSession (level : Nat) : Session := { level := level, version := 0, src := 9, sport := 8, commons := false, hostNonce := 0, panelNonce := 0, name := 0, key := 0, proven := true, challengeAt := 0, lastMsg := 0, newest := 0, started := false, answered := [], stage := [], subs := [], notifySeq := 0, lastNotify := none, gap := false }

/-- Control unit 0 holds the lease and acts; session 1 is open. -/
def acting (level : Nat) : State := { withObjs [(.W0000, 0, 0)] with keeper := { State.reset.keeper with holder := some 0, epoch := 1 }, sessions := [(1, some (aSession level))], time := 10 ^ 9 }

theorem test_MoverEndsComplete_10 :
    let s : State := { acting 1 with movers := [(10, { chans := [(15, chanOf [ending (aDesc [])])], stop := some .busError, settled := true })] }
    let session : Nat := 1
    let port : Nat := 10
    let x : Session := aSession 1
    (s.openSession session = some x) ∧
    (s.cuActs 2 = true) ∧
    (1 ≤ x.level) ∧
    (s.matches x = true) ∧
    (s.inRange .D0A05 0 port = true) ∧
    (((s.mover port).stop ≠ none → (s.mover port).settled = true)) := by decide


/-- A mailbox that holds a message. -/
def fullBox (q : Nat) : Mailbox := { msg := 5, full := true, collision := false, seq := q, waiters := [(1, 3)], waits := [((1, 3), 4)], evCollision := none, evWait := none, collisions := 0 }

theorem test_MailboxAndCheckCommandsComplete_1 :
    let s : State := State.reset
    let n : Nat := 24
    (boxReserved n = false) ∧
    ((s.box n).full = false) := by decide

theorem test_MailboxAndCheckCommandsComplete_1b :
    let s : State := State.reset
    let n : Nat := 175
    (boxReserved n = false) ∧
    ((s.box n).full = false) := by decide

theorem test_MailboxAndCheckCommandsComplete_2 :
    let s : State := { State.reset with boxes := [(56, fullBox 255)] }
    let n : Nat := 56
    (boxReserved n = false) ∧
    ((s.box n).full = true) := by decide

theorem test_MailboxAndCheckCommandsComplete_3 :
    let s : State := State.reset
    let n : Nat := 56
    (boxReserved n = false) ∧
    ((s.box n).full = false) := by decide

theorem test_MailboxAndCheckCommandsComplete_4 :
    let s : State := { State.reset with boxes := [(56, fullBox 255)] }
    let n : Nat := 56
    (boxReserved n = false) ∧
    ((s.box n).full = true) := by decide

theorem test_MailboxAndCheckCommandsComplete_5 :
    let s : State := { State.reset with boxes := [(56, fullBox 255)], keeper := { State.reset.keeper with holder := some 1 } }
    let n : Nat := 56
    ((s.box n).full = true) ∧
    ((∀ w ∈ (s.box n).waiters, w.1 ≠ 2 ∧ w.1 ≠ 4)) ∧
    ((n < 64 → s.keeper.holder = some (n / 32))) := by decide

theorem test_MailboxAndCheckCommandsComplete_6 :
    let s : State := { State.reset with boxes := [(56, fullBox 255)], time := 1000005 }
    let n : Nat := 56
    let u : Nat := 4
    ((s.box n).oldestWait = some u) ∧
    (u + 1000000 < s.time) ∧
    (dueEvent (s.box n).evWait s.time 1000000 = true) := by decide

theorem test_MailboxAndCheckCommandsComplete_7_1 :
    let s : State := State.reset
    let unit : Nat := 7
    ((s.check unit).locked = false) ∧
    ((s.check unit).feeds = 0) := by decide

theorem test_MailboxAndCheckCommandsComplete_7_2 :
    let s : State := State.reset
    let unit : Nat := 7
    ((s.check unit).locked = false) ∧
    ((s.check unit).feeds = 0) := by decide

theorem test_MailboxAndCheckCommandsComplete_7_3 :
    let s : State := State.reset
    let unit : Nat := 7
    ((s.check unit).locked = false) ∧
    ((s.check unit).feeds = 0) := by decide

theorem test_MailboxAndCheckCommandsComplete_7_4 :
    let s : State := State.reset
    let unit : Nat := 7
    ((s.check unit).locked = false) ∧
    ((s.check unit).feeds = 0) := by decide

theorem test_MailboxAndCheckCommandsComplete_7_5 :
    let s : State := State.reset
    let unit : Nat := 7
    ((s.check unit).locked = false) ∧
    ((s.check unit).feeds = 0) ∧
    let v : BitVec 64 := 0x1CF
    (bit v 9 = false) := by decide

theorem test_MailboxAndCheckCommandsComplete_7_6 :
    let s : State := State.reset
    let unit : Nat := 7
    ((s.check unit).locked = false) ∧
    ((s.check unit).feeds = 0) := by decide

theorem test_MailboxAndCheckCommandsComplete_7_7 :
    let s : State := State.reset
    let unit : Nat := 7
    ((s.check unit).locked = false) ∧
    ((s.check unit).feeds = 0) := by decide

theorem test_MailboxAndCheckCommandsComplete_7_8 :
    let s : State := State.reset
    let unit : Nat := 7
    ((s.check unit).locked = false) ∧
    ((s.check unit).feeds = 0) := by decide

theorem test_MailboxAndCheckCommandsComplete_8 :
    let s : State := { State.reset with checks := [(7, { CheckUnit.reset with feeds := 1 })] }
    let unit : Nat := 7
    ((s.check unit).waiting = []) := by decide

theorem test_MailboxAndCheckCommandsComplete_9 :
    let s : State := { State.reset with checks := [(7, { CheckUnit.reset with feeds := 1 })] }
    let unit : Nat := 7
    ((s.check unit).locked = false) ∧
    ((s.check unit).feeds = 1) ∧
    ((s.check unit).waiting = []) := by decide

theorem test_MailboxAndCheckCommandsComplete_10 :
    let s : State := State.reset
    let unit : Nat := 7
    ((s.check unit).locked = false) := by decide

theorem test_MailboxAndCheckCommandsComplete_11 :
    let s : State := { State.reset with checks := [(7, { CheckUnit.reset with locked := true })] }
    let unit : Nat := 7
    let c : Instr := .feed16 7 2
    ((s.check unit).locked = true) ∧
    ((c = .checkStart unit ∨ c = .checkClashClear unit ∨ ∃ v : BitVec 32, c = .feed8 unit v ∨ c = .feed16 unit v ∨ c = .feed32 unit v)) := ⟨rfl, Or.inr (Or.inr ⟨2, Or.inr (Or.inl rfl)⟩)⟩


/-- Site 10 powered, in service and at 1,000 MHz. -/
def clocked (q : Site) : State := { withObjs [(.B0601, 10, portInService), (.C0B05, 10, 1800), (.P0C09, 10, 1800), (.T0120, 10, 0), (.C0B06, 10, 1000), (.X0F01, 0, 10)] with sites := [(10, { q with powered := true })], time := 10 ^ 7 }

/-- A frequency change that has named frame 9. -/
def changing (gated restarted : Bool) : FreqChange := { target := 900, frame := some 9, gated := gated, restarted := restarted, later := none }

theorem test_ClockCommandsComplete_1 :
    let s : State := clocked Site.reset
    (s.power.islandRuns = true) := by decide

theorem test_ClockCommandsComplete_1b :
    let s : State := { clocked { Site.reset with stretchSince := some 3, powered := true } with ptp := { State.reset.ptp with tickSinceSlew := 124 } }
    (s.power.islandRuns = true) := by decide

theorem test_ClockCommandsComplete_1c :
    let s : State := clocked Site.reset
    (s.power.islandRuns = true) := by decide

theorem test_ClockCommandsComplete_2 :
    let s : State := { State.reset with power := { State.reset.power with islandRuns := false } }
    (s.power.islandRuns = false) := by decide

theorem test_ClockCommandsComplete_3_1 :
    let s : State := clocked Site.reset
    let site : Nat := 10
    let mhz : Nat := 400
    ((s.site site).powered = true) ∧
    ((s.site site).freq = none) ∧
    (400 ≤ mhz) ∧
    (mhz ≤ 1800) ∧
    (mhz % 25 = 0) ∧
    (mhz ≤ s.allowedMhz site) ∧
    (mhz < s.obj .C0B06 site) := by decide

theorem test_ClockCommandsComplete_3_2 :
    let s : State := clocked Site.reset
    let site : Nat := 10
    let mhz : Nat := 1800
    ((s.site site).powered = true) ∧
    ((s.site site).freq = none) ∧
    (400 ≤ mhz) ∧
    (mhz ≤ 1800) ∧
    (mhz % 25 = 0) ∧
    (mhz ≤ s.allowedMhz site) ∧
    (s.obj .C0B06 site < mhz) := by decide

theorem test_ClockCommandsComplete_4 :
    let s : State := clocked { Site.reset with rampTo := some (830, 10 ^ 7), freq := some { changing false false with frame := none, target := 1800 } }
    let site : Nat := 10
    let mv : Nat := 830
    let u : Nat := 10 ^ 7
    ((s.site site).rampTo = some (mv, u)) ∧
    (u ≤ s.time) := by decide

theorem test_ClockCommandsComplete_4b :
    let s : State := clocked { Site.reset with rampTo := some (550, 5) }
    let site : Nat := 10
    let mv : Nat := 550
    let u : Nat := 5
    ((s.site site).rampTo = some (mv, u)) ∧
    (u ≤ s.time) := by decide

theorem test_ClockCommandsComplete_5 :
    let s : State := clocked { Site.reset with freq := some (changing false false) }
    let site : Nat := 10
    let n : Nat := 9
    let f : FreqChange := changing false false
    ((s.site site).freq = some f) ∧
    (f.frame = some n) ∧
    (f.gated = false) ∧
    (512 * n + 256 ≤ s.time) := by decide

theorem test_ClockCommandsComplete_5b :
    let s : State := { clocked { Site.reset with freq := some (changing false false) } with withdrawing := [(10, 9)] }
    let site : Nat := 10
    let n : Nat := 9
    let f : FreqChange := changing false false
    ((s.site site).freq = some f) ∧
    (f.frame = some n) ∧
    (f.gated = false) ∧
    (512 * n + 256 ≤ s.time) := by decide

theorem test_ClockCommandsComplete_6_1 :
    let s : State := clocked { Site.reset with gated := true, freq := some (changing true false) }
    let site : Nat := 10
    let n : Nat := 9
    let f : FreqChange := changing true false
    ((s.site site).freq = some f) ∧
    (f.frame = some n) ∧
    (f.gated = true) ∧
    (f.restarted = false) ∧
    (512 * n + 286 ≤ s.time) := by decide

theorem test_ClockCommandsComplete_6_2 :
    let s : State := clocked { Site.reset with gated := true, freq := some (changing true false) }
    let site : Nat := 10
    let n : Nat := 9
    let f : FreqChange := changing true false
    ((s.site site).freq = some f) ∧
    (f.frame = some n) ∧
    (f.gated = true) ∧
    (f.restarted = false) ∧
    (512 * n + 286 ≤ s.time) := by decide

theorem test_ClockCommandsComplete_7 :
    let s : State := { clocked { Site.reset with freq := some (changing true true) } with time := 512 * 13 }
    let site : Nat := 10
    let n : Nat := 9
    let f : FreqChange := changing true true
    ((s.site site).freq = some f) ∧
    (f.frame = some n) ∧
    (f.restarted = true) ∧
    (f.later = none) ∧
    (n + 4 ≤ s.frameNo) := by decide

theorem test_ClockCommandsComplete_8 :
    let s : State := clocked { Site.reset with stretchSince := some 5, lowPaths := [(53, 3)] }
    let site : Nat := 10
    let tile : Nat := 53
    let path : Nat := 3
    ((s.site site).powered = true) ∧
    (tile < 54) ∧
    (path < 4) := by decide

theorem test_ClockCommandsComplete_8b :
    let s : State := clocked Site.reset
    let site : Nat := 10
    let tile : Nat := 0
    let path : Nat := 0
    ((s.site site).powered = true) ∧
    (tile < 54) ∧
    (path < 4) := by decide

theorem test_ClockCommandsComplete_8c :
    let s : State := clocked { Site.reset with stretchSince := some 5, lowPaths := [(4, 1), (53, 3)] }
    let site : Nat := 10
    let tile : Nat := 53
    let path : Nat := 3
    ((s.site site).powered = true) ∧
    (tile < 54) ∧
    (path < 4) := by decide

theorem test_ClockCommandsComplete_9 :
    let s : State := clocked { Site.reset with stretchSince := some (10 ^ 7 - 10001), slowAt := some 5, lowPaths := [(4, 1)] }
    let site : Nat := 10
    let u : Nat := 10 ^ 7 - 10001
    ((s.site site).stretchSince = some u) ∧
    (u + 10000 < s.time) ∧
    (dueEvent (s.site site).slowAt s.time 1000000 = true) := by decide

theorem test_ClockCommandsComplete_10 :
    let s : State := State.reset
    (bitGet (s.obj .C0B0B 0) 0 = false) := by decide

theorem test_ClockCommandsComplete_12 :
    let s : State := { clocked Site.reset with tiles := [((10, 3), runs)] }
    let site : Nat := 10
    ((s.site site).powered = true) := by decide


/-- Torus links 8 and 9 are up, and the panel follows PTP port 8. -/
def follows (st : Nat) (p : Ptp) : State := { withObjs [(.F0902, 8, 2), (.F0902, 9, 3), (.C0B00, 0, st)] with ptp := { p with master := some 8 }, time := 5 * 10 ^ 9 }

/-- Two that the algorithm compares with this panel's clock: a better one and a worse one (R283). -/
def better : Nat := 1
def worseClock : Nat := 255

theorem test_PtpCommandsComplete_1 :
    let due (s : State) (m : AMap Nat Nat) (p every : Nat) : Prop := ∀ e, m.find? (fun e => e.1 == p) = some e → e.2 + every ≤ s.time
    let s : State := follows 1 State.reset.ptp
    let p : Nat := 9
    (s.ptpUp p = true) ∧
    (s.ptp.master ≠ some p) ∧
    (due s s.ptp.syncAt p 7812500) := by decide

theorem test_PtpCommandsComplete_1b :
    let due (s : State) (m : AMap Nat Nat) (p every : Nat) : Prop := ∀ e, m.find? (fun e => e.1 == p) = some e → e.2 + every ≤ s.time
    let s : State := follows 1 { State.reset.ptp with syncAt := [(9, 5 * 10 ^ 9 - 7812500)], delayAt := [(9, 4 * 10 ^ 9 + 1)] }
    let p : Nat := 9
    (s.ptpUp p = true) ∧
    (s.ptp.master ≠ some p) ∧
    (due s s.ptp.syncAt p 7812500) := by decide

theorem test_PtpCommandsComplete_2 :
    let due (s : State) (m : AMap Nat Nat) (p every : Nat) : Prop := ∀ e, m.find? (fun e => e.1 == p) = some e → e.2 + every ≤ s.time
    let s : State := follows 1 { State.reset.ptp with delayAt := [(8, 4 * 10 ^ 9)] }
    let p : Nat := 8
    (s.ptpUp p = true) ∧
    (s.ptp.master = some p) ∧
    (due s s.ptp.delayAt p 1000000000) := by decide

theorem test_PtpCommandsComplete_3 :
    let settled (s : State) : Prop := s.ptpPorts = s
    let fixed (s : State) (p : Nat) (offset : Int) : Int := offset - (if p < 24 then (BitVec.ofNat 16 (s.obj .C0B0A p)).toInt else 0) / 1000
    let s : State := follows 1 { State.reset.ptp with good := 15 }
    let p : Nat := 8
    let offset : Int := -20
    (s.ptpUp p = true) ∧
    (settled s) ∧
    (s.startup.stage ≠ 6) ∧
    (s.ptp.master = some p) ∧
    ((fixed s p offset).natAbs ≤ 20) ∧
    (15 ≤ s.ptp.good) := by decide

theorem test_PtpCommandsComplete_4 :
    let settled (s : State) : Prop := s.ptpPorts = s
    let fixed (s : State) (p : Nat) (offset : Int) : Int := offset - (if p < 24 then (BitVec.ofNat 16 (s.obj .C0B0A p)).toInt else 0) / 1000
    let s : State := follows 1 { State.reset.ptp with good := 14 }
    let p : Nat := 8
    let offset : Int := -20
    (s.ptpUp p = true) ∧
    (settled s) ∧
    (s.startup.stage ≠ 6) ∧
    (s.ptp.master = some p) ∧
    ((fixed s p offset).natAbs ≤ 20) ∧
    (s.ptp.good < 15) := by decide

theorem test_PtpCommandsComplete_4b :
    let settled (s : State) : Prop := s.ptpPorts = s
    let fixed (s : State) (p : Nat) (offset : Int) : Int := offset - (if p < 24 then (BitVec.ofNat 16 (s.obj .C0B0A p)).toInt else 0) / 1000
    let s : State := follows 2 { State.reset.ptp with good := 0 }
    let p : Nat := 8
    let offset : Int := 20
    (s.ptpUp p = true) ∧
    (settled s) ∧
    (s.startup.stage ≠ 6) ∧
    (s.ptp.master = some p) ∧
    ((fixed s p offset).natAbs ≤ 20) ∧
    (s.ptp.good < 15) := by decide

theorem test_PtpCommandsComplete_5 :
    let settled (s : State) : Prop := s.ptpPorts = s
    let fixed (s : State) (p : Nat) (offset : Int) : Int := offset - (if p < 24 then (BitVec.ofNat 16 (s.obj .C0B0A p)).toInt else 0) / 1000
    let s : State := { follows 1 State.reset.ptp with startup := { State.reset.startup with stage := 6, warm := true } }
    let p : Nat := 8
    let offset : Int := -10 ^ 9
    (s.ptpUp p = true) ∧
    (settled s) ∧
    (s.startup.stage = 6) ∧
    (s.ptp.set = false) ∧
    ((s.startup.warm = true → fixed s p offset ≤ 0)) ∧
    (s.ptp.master = some p) := by decide

theorem test_PtpCommandsComplete_6 :
    let settled (s : State) : Prop := s.ptpPorts = s
    let s : State := follows 1 State.reset.ptp
    let p : Nat := 9
    (s.ptpUp p = true) ∧
    (settled s) ∧
    (s.ptp.master ≠ some p) := by decide

theorem test_PtpCommandsComplete_7 :
    let settled (s : State) : Prop := s.ptpPorts = s
    let clock (a b c : Nat) : Nat := State.ownClock.clockOrder (a % 2 ^ 8) (b % 2 ^ 8) (c % 2 ^ 64)
    let s : State := follows 2 { State.reset.ptp with gm := State.ownClock.clockOrder 1 1 2 }
    let p : Nat := 9
    let a : Nat := better
    let b : Nat := 1
    let c : Nat := 1
    (s.ptpUp p = true) ∧
    (settled s) ∧
    (clock a b c < s.ownClock) ∧
    (s.ptp.master ≠ some p) ∧
    ((s.ptp.master = none ∨ clock a b c < s.ptp.gm)) := by decide

theorem test_PtpCommandsComplete_7b :
    let settled (s : State) : Prop := s.ptpPorts = s
    let clock (a b c : Nat) : Nat := State.ownClock.clockOrder (a % 2 ^ 8) (b % 2 ^ 8) (c % 2 ^ 64)
    let s : State := { follows 1 State.reset.ptp with ptp := State.reset.ptp }
    let p : Nat := 9
    let a : Nat := better
    let b : Nat := 1
    let c : Nat := 1
    (s.ptpUp p = true) ∧
    (settled s) ∧
    (clock a b c < s.ownClock) ∧
    (s.ptp.master ≠ some p) ∧
    ((s.ptp.master = none ∨ clock a b c < s.ptp.gm)) := by decide

theorem test_PtpCommandsComplete_8 :
    let settled (s : State) : Prop := s.ptpPorts = s
    let clock (a b c : Nat) : Nat := State.ownClock.clockOrder (a % 2 ^ 8) (b % 2 ^ 8) (c % 2 ^ 64)
    let s : State := follows 2 State.reset.ptp
    let p : Nat := 8
    let a : Nat := better
    let b : Nat := 255
    let c : Nat := 1
    (s.ptpUp p = true) ∧
    (settled s) ∧
    (clock a b c < s.ownClock) ∧
    (s.ptp.master = some p) := by decide

theorem test_PtpCommandsComplete_9 :
    let settled (s : State) : Prop := s.ptpPorts = s
    let clock (a b c : Nat) : Nat := State.ownClock.clockOrder (a % 2 ^ 8) (b % 2 ^ 8) (c % 2 ^ 64)
    let s : State := follows 2 State.reset.ptp
    let p : Nat := 8
    let a : Nat := worseClock
    let b : Nat := 1
    let c : Nat := 1
    (s.ptpUp p = true) ∧
    (settled s) ∧
    (s.ownClock ≤ clock a b c) ∧
    ((s.ptp.master = some p ∨ s.ptp.master = none)) := by decide

theorem test_PtpCommandsComplete_10 :
    let settled (s : State) : Prop := s.ptpPorts = s
    let clock (a b c : Nat) : Nat := State.ownClock.clockOrder (a % 2 ^ 8) (b % 2 ^ 8) (c % 2 ^ 64)
    let s : State := follows 2 { State.reset.ptp with gm := State.ownClock.clockOrder 1 1 1 }
    let p : Nat := 9
    let q : Nat := 8
    let a : Nat := better
    let b : Nat := 1
    let c : Nat := 1
    (s.ptpUp p = true) ∧
    (settled s) ∧
    (s.ptp.master = some q) ∧
    (q ≠ p) ∧
    ((s.ownClock ≤ clock a b c ∨ s.ptp.gm ≤ clock a b c)) := by decide

theorem test_PtpCommandsComplete_11 :
    let settled (s : State) : Prop := s.ptpPorts = s
    let s : State := follows 2 State.reset.ptp
    let p : Nat := 9
    (s.ptpUp p = true) ∧
    (settled s) := by decide

theorem test_PtpCommandsComplete_12 :
    let s : State := follows 2 State.reset.ptp
    let domain : Nat := 1
    (domain ≠ s.obj .C0B04 0) := by decide

theorem test_PtpCommandsComplete_13 :
    let settled (s : State) : Prop := s.ptpPorts = s
    let s : State := follows 2 { State.reset.ptp with lastAnnounce := 2 * 10 ^ 9 }
    (settled s) ∧
    (s.ptp.lastAnnounce + 3000000000 ≤ s.time) ∧
    (s.obj .C0B00 0 = 2) := by decide

theorem test_PtpCommandsComplete_14 :
    let s : State := { follows 3 { State.reset.ptp with holdSince := 4 * 10 ^ 9 } with ptp := { State.reset.ptp with holdSince := 4 * 10 ^ 9 } }
    (s.obj .C0B00 0 = 3) ∧
    (s.ptp.holdSince + 1000000000 ≤ s.time) := by decide

theorem test_PtpCommandsComplete_15 :
    let zone : Nat := 3
    let skews : List (Nat × Nat) := [((zoneFields 3).headD 0, 1500)]
    ((∀ e ∈ skews, e.1 ∈ zoneFields zone → e.2 ≤ 1500)) := by decide

theorem test_PtpCommandsComplete_16 :
    let zone : Nat := 3
    let f : Nat := (zoneFields 3).headD 0
    let d : Nat := 1501
    (f ∈ zoneFields zone) ∧
    (1500 < d) := by decide


/-- A panel that has started and runs from a charged hold-up store, with every zone on. -/
def running' (w : Power) : State := { withObjs ((List.range 16).map (fun z => (.P0C06, z, 0))) with startup := { State.reset.startup with stage := 13 }, power := { w with mv := 48000, stby := false, holdUpCharged := true }, time := 10 ^ 11 }

theorem test_PowerCommandsComplete_1 :
    let mv : Nat := 40000
    (40000 ≤ mv) ∧
    (mv ≤ 59500) := by decide

theorem test_PowerCommandsComplete_1b :
    let mv : Nat := 59500
    (40000 ≤ mv) ∧
    (mv ≤ 59500) := by decide

theorem test_PowerCommandsComplete_2 :
    let s : State := running' State.reset.power
    let mv : Nat := 35999
    (mv < 36000) ∧
    (s.power.failed = false) ∧
    (s.startup.stage ≠ 0) ∧
    (s.power.holdUpCharged = true) := by decide

theorem test_PowerCommandsComplete_3 :
    let s : State := running' State.reset.power
    let zone : Nat := 13
    let ma : Nat := 60001
    let c : Instr := .efuseShortTrip 13 60001
    (s.branchOn zone = true) ∧
    (zone < 14) ∧
    ((s.fuseOpen 14 = false ∨ s.fuseOpen 15 = false)) ∧
    (((c = .efuseShortTrip zone ma ∧ fuseShort zone < ma) ∨ (c = .efuseOvercurrent zone ma ∧ fuseLimit zone < ma))) := ⟨by decide, by decide, by decide, Or.inl ⟨rfl, by decide⟩⟩

theorem test_PowerCommandsComplete_3b :
    let s : State := running' State.reset.power
    let zone : Nat := 0
    let ma : Nat := 30001
    let c : Instr := .efuseOvercurrent 0 30001
    (s.branchOn zone = true) ∧
    (zone < 14) ∧
    ((s.fuseOpen 14 = false ∨ s.fuseOpen 15 = false)) ∧
    (((c = .efuseShortTrip zone ma ∧ fuseShort zone < ma) ∨ (c = .efuseOvercurrent zone ma ∧ fuseLimit zone < ma))) := ⟨by decide, by decide, by decide, Or.inr ⟨rfl, by decide⟩⟩

theorem test_PowerCommandsComplete_4 :
    let s : State := running' { State.reset.power with fuseTest := [2, 3], fuseOpenAt := [(3, 5)] }
    let zone : Nat := 3
    (zone ∈ s.power.fuseTest) := by decide

theorem test_PowerCommandsComplete_5 :
    let s : State := running' { State.reset.power with fuseTest := [2, 3], fuseOpenAt := [(3, 5)] }
    let zone : Nat := 3
    (zone ∈ s.power.fuseTest) ∧
    (zone < 14) := by decide

theorem test_PowerCommandsComplete_6 :
    let s : State := { acting 3 with power := { State.reset.power with fuseOpenAt := [(3, 10 ^ 9)] }, time := 61 * 10 ^ 9 }
    let session : Nat := 1
    let zone : Nat := 3
    let x : Session := aSession 3
    (s.openSession session = some x) ∧
    (s.cuActs 2 = true) ∧
    ((objRow .P0C08).level ≤ x.level) ∧
    (s.matches x = true) ∧
    (s.inRange .P0C08 0 zone = true) ∧
    (s.mayReclose zone = true) := by decide

theorem test_PowerCommandsComplete_7 :
    let s : State := running' { State.reset.power with fuseOpenAt := [(13, 5)] }
    let zone : Nat := 13
    (zone < 14) ∧
    (s.fuseOpen zone = true) ∧
    (s.obj .P0C06 zone ≠ 3) := by decide

theorem test_PowerCommandsComplete_8 :
    let s : State := { clocked Site.reset with tiles := [((10, 3), runs)] }
    let site : Nat := 10
    let rail : Nat := 4
    let mv : Nat := 1851
    ((s.site site).powered = true) ∧
    (rail < 5) ∧
    ((mv < (railRange rail).1 ∨ (railRange rail).2 < mv)) := by decide

theorem test_PowerCommandsComplete_8b :
    let s : State := { clocked Site.reset with tiles := [((10, 3), runs)] }
    let site : Nat := 10
    let rail : Nat := 0
    let mv : Nat := 549
    ((s.site site).powered = true) ∧
    (rail < 5) ∧
    ((mv < (railRange rail).1 ∨ (railRange rail).2 < mv)) := by decide

theorem test_PowerCommandsComplete_10 :
    let s : State := { clocked Site.reset with power := { State.reset.power with samples := [17000], zoneSamples := [[0, 900, 2000]] } }
    (s.power.capAt ≤ s.time) := by decide

theorem test_PowerCommandsComplete_11 :
    let s : State := running' State.reset.power
    (s.power.aonFeed = true) := by decide

theorem test_PowerCommandsComplete_12 :
    let s : State := running' { State.reset.power with holdUpCharged := false }
    (s.power.aonFeed = true) ∧
    (s.power.feedFrom + 15000000000 ≤ s.time) := by decide


/-- A sensor at a temperature. -/
def warm (c : Int) : Sensor := { centi := c, changedAt := 0, misses := 0, broken := false, others := [], below := 0, sampled := true }

/-- A reading. -/
def aReading (parity : Bool) (c : Int) : Reading := { (default : Reading) with fresh := true, parity := parity, centi := c }

theorem test_HeatCommandsComplete_1 :
    let s : State := clocked Site.reset
    let r : Nat := 10
    let k : Nat := 29
    let x : Reading := aReading true 15000
    (r < 112) ∧
    (s.sensorPowered r k = true) ∧
    (x.fresh = true) ∧
    (x.parity = true) ∧
    (-4000 ≤ x.centi) ∧
    (x.centi ≤ 15000) := by decide

theorem test_HeatCommandsComplete_1b :
    let s : State := clocked Site.reset
    let r : Nat := 10
    let k : Nat := 3
    let x : Reading := aReading true (-4000)
    (r < 112) ∧
    (s.sensorPowered r k = true) ∧
    (x.fresh = true) ∧
    (x.parity = true) ∧
    (-4000 ≤ x.centi) ∧
    (x.centi ≤ 15000) := by decide

theorem test_HeatCommandsComplete_2 :
    let s : State := clocked Site.reset
    let site : Nat := 10
    let k : Nat := 29
    let x : Reading := aReading true 11000
    (isSite site = true) ∧
    (s.sensorPowered site k = true) ∧
    (x.fresh = true) ∧
    (x.parity = true) ∧
    (11000 ≤ x.centi) ∧
    (x.centi ≤ 15000) ∧
    (s.heat.tripDue.find? (fun e => e.1 == site) = none) ∧
    ((s.site site).tripped = false) := by decide

theorem test_HeatCommandsComplete_2b :
    let s : State := (clocked Site.reset).setObj .P0C06 (zoneOf 10) 0
    let site : Nat := 10
    let k : Nat := 31
    let x : Reading := aReading true 15000
    (isSite site = true) ∧
    (s.sensorPowered site k = true) ∧
    (x.fresh = true) ∧
    (x.parity = true) ∧
    (11000 ≤ x.centi) ∧
    (x.centi ≤ 15000) ∧
    (s.heat.tripDue.find? (fun e => e.1 == site) = none) ∧
    ((s.site site).tripped = false) := by decide

theorem test_HeatCommandsComplete_3 :
    let s : State := clocked Site.reset
    let r : Nat := 10
    let k : Nat := 29
    let x : Reading := aReading false 2000
    (r < 112) ∧
    (s.sensorPowered r k = true) ∧
    (x.fresh = true) ∧
    (x.parity = false) := by decide

theorem test_HeatCommandsComplete_4 :
    let s : State := { clocked Site.reset with heat := { State.reset.heat with sensors := [((10, 29), warm 11000)], tripDue := [(10, (29, 11000))] } }
    let site : Nat := 10
    let k : Nat := 29
    let c : Int := 11000
    (isSite site = true) ∧
    (s.heat.tripDue.find? (fun e => e.1 == site) = some (site, k, c)) := by decide


/-- Sites 16, 17 and 30, of one zone, have entered B4. -/
def hot' (s : State) : State := { s with heat := { s.heat with hot := [(10 ^ 11, 16), (10 ^ 11, 17), (9 * 10 ^ 10, 30)] } }

theorem test_HeatCommandsComplete_5_1 :
    let s : State := { (hot' (running' State.reset.power)).setObj .B0601 30 portInService with time := 2000 }
    let zone : Nat := zoneOf 16
    (zone < 14) ∧
    (s.zoneOn zone = true) ∧
    (s.zoneHot zone = true) ∧
    ((zonePorts zone).any (fun p => s.inService p) = true) := by decide

theorem test_HeatCommandsComplete_5_2 :
    let s : State := hot' (running' State.reset.power)
    let zone : Nat := zoneOf 16
    (zone < 14) ∧
    (s.zoneOn zone = true) ∧
    (s.zoneHot zone = true) ∧
    ((zonePorts zone).any (fun p => s.inService p) = false) := by decide

theorem test_HeatCommandsComplete_6 :
    let s : State := (running' { State.reset.power with zoneOffAt := [(13, 10 ^ 10)] }).setObj .P0C06 13 2
    let zone : Nat := 13
    (zone < 14) ∧
    (s.obj .P0C06 zone = 2) ∧
    (mapGet 0 s.power.zoneOffAt zone + 1000000000 * s.obj .T0129 0 ≤ s.time) ∧
    (s.heat.inlet ≤ 100 * (s.obj .T0128 0 : Int)) := by decide

theorem test_HeatCommandsComplete_7 :
    let s : State := { running' State.reset.power with heat := { State.reset.heat with island := 4 } }
    let cause : Nat := 0
    (s.power.tripped = false) ∧
    (((cause = 0 ∧ s.heat.island = bandB4) ∨ (cause = 1 ∧ ∃ u : Nat, s.power.outletHotSince = some u ∧ u + 1000000000 ≤ s.time) ∨
          (cause = 2 ∧ s.fuseOpen 14 = true ∧ s.fuseOpen 15 = true) ∨ (cause = 3 ∧ s.power.failed = true ∧ s.power.holdUpCharged = false))) := ⟨rfl, Or.inl ⟨rfl, rfl⟩⟩

theorem test_HeatCommandsComplete_7b :
    let s : State := running' { State.reset.power with outletHotSince := some (99 * 10 ^ 9) }
    let cause : Nat := 1
    (s.power.tripped = false) ∧
    (((cause = 0 ∧ s.heat.island = bandB4) ∨ (cause = 1 ∧ ∃ u : Nat, s.power.outletHotSince = some u ∧ u + 1000000000 ≤ s.time) ∨
          (cause = 2 ∧ s.fuseOpen 14 = true ∧ s.fuseOpen 15 = true) ∨ (cause = 3 ∧ s.power.failed = true ∧ s.power.holdUpCharged = false))) := ⟨rfl, Or.inr (Or.inl ⟨rfl, 99 * 10 ^ 9, rfl, by decide⟩)⟩

theorem test_HeatCommandsComplete_7c :
    let s : State := running' { State.reset.power with fuseOpenAt := [(14, 1), (15, 2)] }
    let cause : Nat := 2
    (s.power.tripped = false) ∧
    (((cause = 0 ∧ s.heat.island = bandB4) ∨ (cause = 1 ∧ ∃ u : Nat, s.power.outletHotSince = some u ∧ u + 1000000000 ≤ s.time) ∨
          (cause = 2 ∧ s.fuseOpen 14 = true ∧ s.fuseOpen 15 = true) ∨ (cause = 3 ∧ s.power.failed = true ∧ s.power.holdUpCharged = false))) := ⟨rfl, Or.inr (Or.inr (Or.inl ⟨rfl, by decide, by decide⟩))⟩

theorem test_HeatCommandsComplete_7d :
    let s : State := { running' State.reset.power with power := { State.reset.power with failed := true } }
    let cause : Nat := 3
    (s.power.tripped = false) ∧
    (((cause = 0 ∧ s.heat.island = bandB4) ∨ (cause = 1 ∧ ∃ u : Nat, s.power.outletHotSince = some u ∧ u + 1000000000 ≤ s.time) ∨
          (cause = 2 ∧ s.fuseOpen 14 = true ∧ s.fuseOpen 15 = true) ∨ (cause = 3 ∧ s.power.failed = true ∧ s.power.holdUpCharged = false))) := ⟨rfl, Or.inr (Or.inr (Or.inr ⟨rfl, rfl, rfl⟩))⟩

theorem test_HeatCommandsComplete_8 :
    let s : State := (running' { State.reset.power with emergencyGone := [(1, 99 * 10 ^ 9)] }).setObj .P0C0C 0 6
    let n : Nat := 1
    let u : Nat := 99 * 10 ^ 9
    (s.power.emergencyGone.find? (fun e => e.1 == n) = some (n, u)) ∧
    (bitGet (s.obj .P0C0C 0) n = true) ∧
    (s.emergencyCause n = false) ∧
    (u + 1000000000 ≤ s.time) := by decide

theorem test_HeatCommandsComplete_9 :
    let s : State := running' { State.reset.power with tripped := true, causesGoneSince := some (9 * 10 ^ 10) }
    let u : Nat := 9 * 10 ^ 10
    (s.power.tripped = true) ∧
    (s.power.causesGoneSince = some u) ∧
    (u + 10000000000 ≤ s.time) := by decide

theorem test_HeatCommandsComplete_10_1 :
    let s : State := { clocked Site.reset with withdrawing := [(10, 5)] }
    let port : Nat := 10
    let f : Nat := 5
    (s.withdrawing.find? (fun x => x.1 == port) = some (port, f)) ∧
    (f + 1 ≤ s.frameNo) ∧
    (s.band port ≠ bandB4) := by decide

theorem test_HeatCommandsComplete_10_2 :
    let s : State := { (clocked Site.reset).setObj .T0120 10 4 with withdrawing := [(10, 5)] }
    let port : Nat := 10
    let f : Nat := 5
    (s.withdrawing.find? (fun x => x.1 == port) = some (port, f)) ∧
    (f + 1 ≤ s.frameNo) ∧
    (s.band port = bandB4) ∧
    (isSite port = true) := by decide


/-- The bytes of a request's items: those of WRITE, STAGE and SUBSCRIBE carry values. -/
def bodyOf (type : Nat) (items : List Item) : List (BitVec 8) :=
  items.flatMap (fun it => itemHead it.area it.num it.pend it.all it.index it.offset it.len it.type 0 ++
    if type = 2 ∨ type = 3 ∨ type = 6 then valueOctets it.len it.value else [])

/-- The header of a request with number 0. -/
def headOf (type session : Nat) (items : List Item) : BitVec 128 :=
  BitVec.ofNat 128 (1 + 2 ^ 8 * type + 2 ^ 16 * session + 2 ^ 64 * (bodyOf type items).length + 2 ^ 80 * items.length)

/-- A request of a session with its tag, to the panel's management address. -/
def aMsgOf (type session : Nat) (items : List Item) : LedgerMsg :=
  { head := headOf type session items, tag := messageTag 0 (headOf type session items) (bodyOf type items), body := bodyOf type items, src := 9, sport := 8, dst := objDefault .K0D10 0, dport := 47621, commons := false }

/-- A request of session 1 with number 0. -/
def aMsg (type : Nat) (items : List Item) : LedgerMsg := aMsgOf type 1 items

/-- An item that names a scalar with a value. -/
def anItem (r : ObjRow) (v : Nat) : Item := { area := r.area, num := r.num, pend := false, all := false, index := 0, offset := 0, len := r.size, type := otypeCode r.type, value := v }

theorem valid_of {s : State} {type : Nat} {m : LedgerMsg} {x : Session} (h : s.openSession m.session = some x)
    (c : m.pver = 1 ∧ s.carried m.src m.dst m.dport m.commons ∧ m.src = x.src ∧ m.sport = x.sport ∧ m.commons = x.commons ∧
      (m.type = type ∨ !requestTypes.contains m.type) ∧ m.tag = messageTag x.key m.head m.body) : s.valid type m = some x := by
  unfold State.valid; rw [h]; exact if_pos c

theorem invalid_of {s : State} {type : Nat} {m : LedgerMsg} (h : s.openSession m.session = none) : s.valid type m = none := by
  unfold State.valid; rw [h]

theorem test_LedgerReadsComplete_1 :
    let fresh (s : State) (type : Nat) (m : LedgerMsg) (x : Session) : Prop :=
      s.valid type m = some x ∧ s.cuActs 2 = true ∧ m.wellFormed = true ∧ seqCase x m.seq = .fresh
    let s : State := acting 0
    let m : LedgerMsg := aMsg 1 [anItem (objRow .P0C03) 0]
    let x : Session := aSession 0
    let it : Item := anItem (objRow .P0C03) 0
    let r : ObjRow := objRow .P0C03
    (fresh s 1 m x) ∧
    (m.items = [it]) ∧
    (findObj it.area it.num = some r) ∧
    (r.level ≤ x.level) ∧
    (r.access ≠ .wo) ∧
    (r.access ≠ .cmd) ∧
    (it.all = false) ∧
    (it.index < r.elements) ∧
    (it.type = otypeCode r.type) ∧
    (it.offset = 0) ∧
    (it.pend = false) ∧
    (s.valueLen r.obj it.index ≤ it.len) ∧
    (s.valueLen r.obj it.index ≤ 1184) := ⟨⟨valid_of rfl ⟨by decide, by decide, rfl, rfl, rfl, Or.inl (by decide), rfl⟩, by decide, rfl, by decide⟩, rfl, rfl, by decide, by decide, by decide, by decide, by decide, by decide, by decide, by decide, by decide, by decide⟩

theorem test_LedgerReadsComplete_1b :
    let fresh (s : State) (type : Nat) (m : LedgerMsg) (x : Session) : Prop :=
      s.valid type m = some x ∧ s.cuActs 2 = true ∧ m.wellFormed = true ∧ seqCase x m.seq = .fresh
    let s : State := (acting 0).setObj .T0120 37 2
    let m : LedgerMsg := aMsg 1 [{ anItem (objRow .T0120) 0 with index := 37, len := 8 }]
    let x : Session := aSession 0
    let it : Item := { anItem (objRow .T0120) 0 with index := 37, len := 8 }
    let r : ObjRow := objRow .T0120
    (fresh s 1 m x) ∧
    (m.items = [it]) ∧
    (findObj it.area it.num = some r) ∧
    (r.level ≤ x.level) ∧
    (r.access ≠ .wo) ∧
    (r.access ≠ .cmd) ∧
    (it.all = false) ∧
    (it.index < r.elements) ∧
    (it.type = otypeCode r.type) ∧
    (it.offset = 0) ∧
    (it.pend = false) ∧
    (s.valueLen r.obj it.index ≤ it.len) ∧
    (s.valueLen r.obj it.index ≤ 1184) := ⟨⟨valid_of rfl ⟨by decide, by decide, rfl, rfl, rfl, Or.inl (by decide), rfl⟩, by decide, rfl, by decide⟩, rfl, rfl, by decide, by decide, by decide, by decide, by decide, by decide, by decide, by decide, by decide, by decide⟩

theorem test_LedgerReadsComplete_2 :
    let fresh (s : State) (type : Nat) (m : LedgerMsg) (x : Session) : Prop :=
      s.valid type m = some x ∧ s.cuActs 2 = true ∧ m.wellFormed = true ∧ seqCase x m.seq = .fresh
    let s : State := acting 1
    let m : LedgerMsg := aMsg 8 [anItem (objRow .B0600) 0]
    let x : Session := aSession 1
    let it : Item := anItem (objRow .B0600) 0
    (fresh s 8 m x) ∧
    (m.items = [it]) := ⟨⟨valid_of rfl ⟨by decide, by decide, rfl, rfl, rfl, Or.inl (by decide), rfl⟩, by decide, rfl, by decide⟩, rfl⟩

theorem test_LedgerReadsComplete_3 :
    let fresh (s : State) (type : Nat) (m : LedgerMsg) (x : Session) : Prop :=
      s.valid type m = some x ∧ s.cuActs 2 = true ∧ m.wellFormed = true ∧ seqCase x m.seq = .fresh
    let s : State := acting 1
    let m : LedgerMsg := aMsg 6 [{ anItem (objRow .T0128) 1000 with len := 4 }]
    let x : Session := aSession 1
    let it : Item := { anItem (objRow .T0128) 1000 with len := 4 }
    let r : ObjRow := objRow .T0128
    (fresh s 6 m x) ∧
    (m.items = [it]) ∧
    (findObj it.area it.num = some r) ∧
    (r.level ≤ x.level) ∧
    (r.access ≠ .wo) ∧
    (it.index < r.elements) ∧
    ((it.value = 0 ∨ 1000 ≤ it.value)) ∧
    (it.value < 0xFFFFFFFF) ∧
    (it.len = 4) ∧
    (x.subs.length < 64) := ⟨⟨valid_of rfl ⟨by decide, by decide, rfl, rfl, rfl, Or.inl (by decide), rfl⟩, by decide, rfl, by decide⟩, rfl, rfl, by decide, by decide, by decide, by decide, by decide, by decide, by decide⟩

theorem test_LedgerReadsComplete_4 :
    let s : State := acting 1
    let m : LedgerMsg := aMsgOf 1 2 []
    (s.valid 1 m = none) := invalid_of rfl

theorem test_LedgerReadsComplete_5 :
    let s : State := { acting 1 with keeper := State.reset.keeper, startup := { State.reset.startup with stage := 4 } }
    let m : LedgerMsg := aMsg 1 []
    let x : Session := aSession 1
    (s.valid 1 m = some x) ∧
    (s.cuActs 2 = false) ∧
    (4 ≤ s.startup.stage) ∧
    (s.kept = []) := ⟨valid_of rfl ⟨by decide, by decide, rfl, rfl, rfl, Or.inl (by decide), rfl⟩, by decide, by decide, rfl⟩


/-- The same session with a subscription to the cap. -/
def subscribed (l : Nat) : Session := { aSession 1 with subs := [{ obj := .P0C03, all := false, index := 0, period := 1000, last := l, sent := 5 }], notifySeq := 65535 }

theorem test_LedgerReadsComplete_6 :
    let s : State := { acting 1 with sessions := [(1, some (subscribed 10))] }
    let n : Nat := 1
    let x : Session := subscribed 10
    (s.openSession n = some x) ∧
    (s.cuActs 2 = true) ∧
    ((∃ u ∈ x.subs, s.subDue u = true)) ∧
    (dueEvent x.lastNotify s.time 1000000 = true) := ⟨by decide, by decide, ⟨_, List.mem_singleton.mpr rfl, by decide⟩, by decide⟩

theorem test_LedgerWritesComplete_1 :
    let fresh (s : State) (type : Nat) (m : LedgerMsg) (x : Session) : Prop :=
      s.valid type m = some x ∧ s.cuActs 2 = true ∧ m.wellFormed = true ∧ seqCase x m.seq = .fresh
    let scalar (r : ObjRow) (it : Item) : Prop :=
      r.type ≠ .string ∧ r.type ≠ .table ∧ r.type ≠ .blob ∧ it.all = false ∧ it.index < r.elements ∧ it.type = otypeCode r.type ∧ it.offset = 0 ∧ it.len = r.size
    let s : State := acting 1
    let m : LedgerMsg := aMsg 2 [anItem (objRow .T0128) 20]
    let x : Session := aSession 1
    let it : Item := anItem (objRow .T0128) 20
    let r : ObjRow := objRow .T0128
    (fresh s 2 m x) ∧
    (m.items = [it]) ∧
    (findObj it.area it.num = some r) ∧
    (r.access = .rw) ∧
    (r.apply = .live) ∧
    (r.level ≤ x.level) ∧
    (s.matches x = true) ∧
    (scalar r it) ∧
    (s.inRange r.obj it.index (keepBits r.obj it.value) = true) ∧
    (crossOk r.obj (fun o i => if o = r.obj ∧ i = it.index then keepBits r.obj it.value else s.inForce o i) = true) ∧
    (s.refusedByState r.obj it.index = false) := ⟨⟨valid_of rfl ⟨by decide, by decide, rfl, rfl, rfl, Or.inl (by decide), rfl⟩, by decide, rfl, by decide⟩, rfl, rfl, by decide, by decide, by decide, by decide, ⟨by decide, by decide, by decide, rfl, by decide, rfl, rfl, rfl⟩, by decide, by decide, by decide⟩

theorem test_LedgerWritesComplete_1b :
    let fresh (s : State) (type : Nat) (m : LedgerMsg) (x : Session) : Prop :=
      s.valid type m = some x ∧ s.cuActs 2 = true ∧ m.wellFormed = true ∧ seqCase x m.seq = .fresh
    let scalar (r : ObjRow) (it : Item) : Prop :=
      r.type ≠ .string ∧ r.type ≠ .table ∧ r.type ≠ .blob ∧ it.all = false ∧ it.index < r.elements ∧ it.type = otypeCode r.type ∧ it.offset = 0 ∧ it.len = r.size
    let s : State := acting 1
    let m : LedgerMsg := aMsg 2 [anItem (objRow .L0805) 0xC0200000]
    let x : Session := aSession 1
    let it : Item := anItem (objRow .L0805) 0xC0200000
    let r : ObjRow := objRow .L0805
    (fresh s 2 m x) ∧
    (m.items = [it]) ∧
    (findObj it.area it.num = some r) ∧
    (r.access = .rw) ∧
    (r.apply = .live) ∧
    (r.level ≤ x.level) ∧
    (s.matches x = true) ∧
    (scalar r it) ∧
    (s.inRange r.obj it.index (keepBits r.obj it.value) = true) ∧
    (crossOk r.obj (fun o i => if o = r.obj ∧ i = it.index then keepBits r.obj it.value else s.inForce o i) = true) ∧
    (s.refusedByState r.obj it.index = false) := ⟨⟨valid_of rfl ⟨by decide, by decide, rfl, rfl, rfl, Or.inl (by decide), rfl⟩, by decide, rfl, by decide⟩, rfl, rfl, by decide, by decide, by decide, by decide, ⟨by decide, by decide, by decide, rfl, by decide, rfl, rfl, rfl⟩, by decide, by decide, by decide⟩

theorem test_LedgerWritesComplete_2 :
    let fresh (s : State) (type : Nat) (m : LedgerMsg) (x : Session) : Prop :=
      s.valid type m = some x ∧ s.cuActs 2 = true ∧ m.wellFormed = true ∧ seqCase x m.seq = .fresh
    let scalar (r : ObjRow) (it : Item) : Prop :=
      r.type ≠ .string ∧ r.type ≠ .table ∧ r.type ≠ .blob ∧ it.all = false ∧ it.index < r.elements ∧ it.type = otypeCode r.type ∧ it.offset = 0 ∧ it.len = r.size
    let s : State := acting 1
    let m : LedgerMsg := aMsg 3 [anItem (objRow .K0D11) 48]
    let x : Session := aSession 1
    let it : Item := anItem (objRow .K0D11) 48
    let r : ObjRow := objRow .K0D11
    (fresh s 3 m x) ∧
    (m.items = [it]) ∧
    (findObj it.area it.num = some r) ∧
    (r.takesStage = true) ∧
    (r.level ≤ x.level) ∧
    (s.matches x = true) ∧
    (scalar r it) ∧
    (s.inRange r.obj it.index (keepBits r.obj it.value) = true) ∧
    (x.stage.length < 64) := ⟨⟨valid_of rfl ⟨by decide, by decide, rfl, rfl, rfl, Or.inl (by decide), rfl⟩, by decide, rfl, by decide⟩, rfl, rfl, by decide, by decide, by decide, ⟨by decide, by decide, by decide, rfl, by decide, rfl, rfl, rfl⟩, by decide, by decide⟩


/-- A staged member. -/
def staged (o : Obj) (v : Nat) : StageItem := { obj := o, index := 0, value := v, time := 5 }

/-- Session 1 with a stage set of one member, and every ledger key written. -/
def staging' (g : StageItem) (wrote : AMap (Obj × Nat) Nat) : State :=
  { acting 2 with sessions := [(1, some { aSession 2 with stage := [g] })], wrote := wrote, store := { State.reset.store with keyBasic := some 1, keyExpert := some 2, keyService := some 3 } }

theorem test_LedgerWritesComplete_3 :
    let fresh (s : State) (type : Nat) (m : LedgerMsg) (x : Session) : Prop :=
      s.valid type m = some x ∧ s.cuActs 2 = true ∧ m.wellFormed = true ∧ seqCase x m.seq = .fresh
    let s : State := staging' (staged .K0D18 9) [((.K0D18, 0), 5)]
    let m : LedgerMsg := aMsg 4 []
    let x : Session := { aSession 2 with stage := [staged .K0D18 9] }
    let g : StageItem := staged .K0D18 9
    (fresh s 4 m x) ∧
    (x.stage = [g]) ∧
    (s.matches x = true) ∧
    (s.overtaken g = false) ∧
    ((objRow g.obj).apply = .group) ∧
    (s.memberCode [g] g = .ok) := ⟨⟨valid_of rfl ⟨by decide, by decide, rfl, rfl, rfl, Or.inl (by decide), rfl⟩, by decide, rfl, by decide⟩, rfl, by decide, by decide, by decide, by decide⟩

theorem test_LedgerWritesComplete_3b :
    let fresh (s : State) (type : Nat) (m : LedgerMsg) (x : Session) : Prop :=
      s.valid type m = some x ∧ s.cuActs 2 = true ∧ m.wellFormed = true ∧ seqCase x m.seq = .fresh
    let s : State := staging' (staged .K0D19 9) [((.K0D19, 0), 5)]
    let m : LedgerMsg := aMsg 4 []
    let x : Session := { aSession 2 with stage := [staged .K0D19 9] }
    let g : StageItem := staged .K0D19 9
    (fresh s 4 m x) ∧
    (x.stage = [g]) ∧
    (s.matches x = true) ∧
    (s.overtaken g = false) ∧
    ((objRow g.obj).apply = .group) ∧
    (s.memberCode [g] g = .ok) := ⟨⟨valid_of rfl ⟨by decide, by decide, rfl, rfl, rfl, Or.inl (by decide), rfl⟩, by decide, rfl, by decide⟩, rfl, by decide, by decide, by decide, by decide⟩

theorem test_LedgerWritesComplete_3c :
    let fresh (s : State) (type : Nat) (m : LedgerMsg) (x : Session) : Prop :=
      s.valid type m = some x ∧ s.cuActs 2 = true ∧ m.wellFormed = true ∧ seqCase x m.seq = .fresh
    let s : State := staging' (staged .K0D1A 9) [((.K0D1A, 0), 5)]
    let m : LedgerMsg := aMsg 4 []
    let x : Session := { aSession 2 with stage := [staged .K0D1A 9] }
    let g : StageItem := staged .K0D1A 9
    (fresh s 4 m x) ∧
    (x.stage = [g]) ∧
    (s.matches x = true) ∧
    (s.overtaken g = false) ∧
    ((objRow g.obj).apply = .group) ∧
    (s.memberCode [g] g = .ok) := ⟨⟨valid_of rfl ⟨by decide, by decide, rfl, rfl, rfl, Or.inl (by decide), rfl⟩, by decide, rfl, by decide⟩, rfl, by decide, by decide, by decide, by decide⟩

theorem test_LedgerWritesComplete_3d :
    let fresh (s : State) (type : Nat) (m : LedgerMsg) (x : Session) : Prop :=
      s.valid type m = some x ∧ s.cuActs 2 = true ∧ m.wellFormed = true ∧ seqCase x m.seq = .fresh
    let s : State := staging' (staged .K0D11 64) [((.K0D11, 0), 5)]
    let m : LedgerMsg := aMsg 4 []
    let x : Session := { aSession 2 with stage := [staged .K0D11 64] }
    let g : StageItem := staged .K0D11 64
    (fresh s 4 m x) ∧
    (x.stage = [g]) ∧
    (s.matches x = true) ∧
    (s.overtaken g = false) ∧
    ((objRow g.obj).apply = .group) ∧
    (s.memberCode [g] g = .ok) := ⟨⟨valid_of rfl ⟨by decide, by decide, rfl, rfl, rfl, Or.inl (by decide), rfl⟩, by decide, rfl, by decide⟩, rfl, by decide, by decide, by decide, by decide⟩

theorem test_LedgerWritesComplete_4 :
    let fresh (s : State) (type : Nat) (m : LedgerMsg) (x : Session) : Prop :=
      s.valid type m = some x ∧ s.cuActs 2 = true ∧ m.wellFormed = true ∧ seqCase x m.seq = .fresh
    let s : State := staging' (staged .K0D18 9) [((.K0D18, 0), 6)]
    let m : LedgerMsg := aMsg 4 []
    let x : Session := { aSession 2 with stage := [staged .K0D18 9] }
    let g : StageItem := staged .K0D18 9
    (fresh s 4 m x) ∧
    (x.stage = [g]) ∧
    (s.matches x = true) ∧
    (s.overtaken g = true) := ⟨⟨valid_of rfl ⟨by decide, by decide, rfl, rfl, rfl, Or.inl (by decide), rfl⟩, by decide, rfl, by decide⟩, rfl, by decide, by decide⟩

theorem test_LedgerWritesComplete_5 :
    let fresh (s : State) (type : Nat) (m : LedgerMsg) (x : Session) : Prop :=
      s.valid type m = some x ∧ s.cuActs 2 = true ∧ m.wellFormed = true ∧ seqCase x m.seq = .fresh
    let s : State := staging' (staged .K0D18 9) []
    let m : LedgerMsg := aMsg 5 []
    let x : Session := { aSession 2 with stage := [staged .K0D18 9] }
    (fresh s 5 m x) := ⟨valid_of rfl ⟨by decide, by decide, rfl, rfl, rfl, Or.inl (by decide), rfl⟩, by decide, rfl, by decide⟩

theorem test_LedgerWritesComplete_6 :
    let s : State := { acting 1 with commits := [{ wave := true, session := 1, level := 1, members := [staged .X0703 1] }] }
    let wave : Bool := true
    let c : PendCommit := { wave := true, session := 1, level := 1, members := [staged .X0703 1] }
    let g : StageItem := staged .X0703 1
    let x : Session := aSession 1
    (s.commits = [c]) ∧
    (c.wave = wave) ∧
    (c.members = [g]) ∧
    (s.openSession c.session = some x) ∧
    ((objRow g.obj).apply ≠ .group) ∧
    (g.obj ≠ .K0D05) := by decide

theorem test_LedgerWritesComplete_7 :
    let s : State := { State.reset with shadow := [((.X0141, 0), 0xFFFFFFFF)] }
    let wave : Bool := true
    let o : Obj := .X0141
    let i : Nat := 0
    let v : Nat := 0xFFFFFFFF
    (s.shadow = [((o, i), v)]) ∧
    ((objRow o).atBoundary wave = true) := by decide

theorem test_LedgerWritesComplete_7b :
    let s : State := { State.reset with shadow := [((.M0506, 0), 2)] }
    let wave : Bool := false
    let o : Obj := .M0506
    let i : Nat := 0
    let v : Nat := 2
    (s.shadow = [((o, i), v)]) ∧
    ((objRow o).atBoundary wave = true) := by decide

theorem test_SessionCommandsComplete_1 :
    let s : State := acting 1
    let src : Nat := 7
    let dst : Nat := objDefault .K0D10 0
    let dport : Nat := 47621
    let level : Nat := 2
    let n : Nat := 2
    let commons : Bool := false
    (s.carried src dst dport commons = true) ∧
    (mapGet 0 s.lockouts src ≤ s.time) ∧
    (s.cuActs 2 = true) ∧
    (level ≤ 2) ∧
    (s.freeSession = some n) ∧
    (s.helloRefused level = false) := by decide

theorem test_SessionCommandsComplete_1b :
    let s : State := acting 1
    let src : Nat := 7
    let dst : Nat := objDefault .K0D10 0
    let dport : Nat := 47621
    let level : Nat := 0
    let n : Nat := 2
    let commons : Bool := false
    (s.carried src dst dport commons = true) ∧
    (mapGet 0 s.lockouts src ≤ s.time) ∧
    (s.cuActs 2 = true) ∧
    (level ≤ 2) ∧
    (s.freeSession = some n) ∧
    (s.helloRefused level = false) := by decide

theorem test_SessionCommandsComplete_2 :
    let s : State := { acting 1 with sessions := [(1, some (aSession 2))] }
    let src : Nat := 7
    let dst : Nat := objDefault .K0D10 0
    let dport : Nat := 47621
    let level : Nat := 2
    let commons : Bool := false
    (s.carried src dst dport commons = true) ∧
    (mapGet 0 s.lockouts src ≤ s.time) ∧
    (s.cuActs 2 = true) ∧
    (level ≤ 2) ∧
    (s.helloRefused level = true) := by decide


theorem plus_one_ne (x : BitVec 384) : x + 1#384 ≠ x := by simp

/-- Session 3 has been challenged. -/
def challenged : State := { acting 1 with sessions := [(3, some { aSession 1 with proven := false, challengeAt := 5 })], store := { State.reset.store with keyExpert := some 6 }, badProofs := [(9, [3, 4])] }

theorem test_SessionCommandsComplete_3 :
    let s : State := challenged
    let n : Nat := 3
    let key : Nat := 6
    let dst : Nat := objDefault .K0D10 0
    let dport : Nat := 47621
    let x : Session := { aSession 1 with proven := false, challengeAt := 5 }
    (s.carried x.src dst dport x.commons = true) ∧
    (s.session n = some x) ∧
    (x.proven = false) ∧
    (s.time ≤ x.challengeAt + 1000000000) ∧
    (s.cuActs 2 = true) ∧
    (s.levelKey x.level = some key) := by decide

theorem test_SessionCommandsComplete_4 :
    let s : State := challenged
    let n : Nat := 3
    let key : Nat := 6
    let dst : Nat := objDefault .K0D10 0
    let dport : Nat := 47621
    let h : BitVec 384 := hostProof 6 0 0 3 1 0 + 1#384
    let x : Session := { aSession 1 with proven := false, challengeAt := 5 }
    (s.carried x.src dst dport x.commons = true) ∧
    (s.session n = some x) ∧
    (x.proven = false) ∧
    (s.time ≤ x.challengeAt + 1000000000) ∧
    (s.cuActs 2 = true) ∧
    (s.levelKey x.level = some key) ∧
    (h ≠ hostProof key x.hostNonce x.panelNonce n x.level x.version) := ⟨by decide, rfl, rfl, by decide, by decide, rfl, plus_one_ne _⟩

theorem test_SessionCommandsComplete_5 :
    let s : State := acting 1
    let m : LedgerMsg := aMsg 20 []
    let x : Session := aSession 1
    (s.valid 20 m = some x) ∧
    (s.cuActs 2 = true) ∧
    (m.wellFormed = true) ∧
    (seqCase x m.seq = .fresh) := ⟨valid_of rfl ⟨by decide, by decide, rfl, rfl, rfl, Or.inl (by decide), rfl⟩, by decide, rfl, by decide⟩

theorem test_SessionCommandsComplete_6 :
    let s : State := { acting 1 with time := 30 * 10 ^ 9 }
    let n : Nat := 1
    let x : Session := aSession 1
    (s.openSession n = some x) ∧
    (x.lastMsg + 1000000000 * s.obj .K0D02 0 ≤ s.time) := by decide

theorem test_SessionCommandsComplete_7 :
    let s : State := { challenged with time := 10 ^ 9 + 5 }
    let n : Nat := 3
    let x : Session := { aSession 1 with proven := false, challengeAt := 5 }
    (s.session n = some x) ∧
    (x.proven = false) ∧
    (x.challengeAt + 1000000000 ≤ s.time) := by decide

theorem test_SessionCommandsComplete_8 :
    let s : State := { State.reset with lockouts := [(7, 90), (9, 60)], time := 60 }
    let src : Nat := 9
    let e : Nat := 60
    ((src, e) ∈ s.lockouts) ∧
    (e ≤ s.time) := by decide


/-- Control unit 0 acts, unit 1 stands by; session 1 is open. -/
def ready' (level : Nat) (l : List (Obj × Nat × Nat)) : State :=
  { acting level with objs := ([(Obj.W0000, 0, 0), (Obj.W0000, 1, 1)] ++ l).map (fun e : Obj × Nat × Nat => ((e.1, e.2.1), e.2.2)), keeper := { State.reset.keeper with holder := some 0, epoch := 2 ^ 32 - 1, requests := [1] } }

theorem test_LedgerCommandsComplete_1 :
    let may (s : State) (o : Obj) (arg n : Nat) (x : Session) : Prop :=
      s.openSession n = some x ∧ s.cuActs 2 = true ∧ (objRow o).level ≤ x.level ∧ s.matches x = true ∧ s.inRange o 0 arg = true
    let s : State := ready' 1 [(.X0700, 0, planHeld), (.I0D05, 0, 2)]
    let n : Nat := 1
    let x : Session := aSession 1
    (may s .X070E 1 n x) ∧
    ((s.obj .X0700 0 = planReady ∨ s.obj .X0700 0 = planHeld)) ∧
    (s.obj .I0D05 0 = 2) := ⟨by decide, Or.inr rfl, rfl⟩

theorem test_LedgerCommandsComplete_2 :
    let s : State := { ready' 1 [(.X0700, 0, planReady), (.I0D05, 0, 2)] with sessions := [(1, some { aSession 1 with version := 1 })] }
    let n : Nat := 1
    let x : Session := { aSession 1 with version := 1 }
    (s.openSession n = some x) ∧
    (s.cuActs 2 = true) ∧
    ((objRow .X070E).level ≤ x.level) ∧
    (s.matches x = false) ∧
    ((s.obj .X0700 0 = planReady ∨ s.obj .X0700 0 = planHeld)) ∧
    (s.inRange .X070E 0 1 = true) := ⟨by decide, by decide, by decide, by decide, Or.inl rfl, by decide⟩

theorem test_LedgerCommandsComplete_3 :
    let may (s : State) (o : Obj) (arg n : Nat) (x : Session) : Prop :=
      s.openSession n = some x ∧ s.cuActs 2 = true ∧ (objRow o).level ≤ x.level ∧ s.matches x = true ∧ s.inRange o 0 arg = true
    let s : State := ready' 2 [(.B0601, 12, portInService)]
    let n : Nat := 1
    let port : Nat := 12
    let x : Session := aSession 2
    (may s .B060A port n x) ∧
    ((∀ f, (port, f) ∉ s.withdrawing)) := ⟨by decide, fun f h => by cases h⟩

theorem test_LedgerCommandsComplete_4_1 :
    let may (s : State) (o : Obj) (arg n : Nat) (x : Session) : Prop :=
      s.openSession n = some x ∧ s.cuActs 2 = true ∧ (objRow o).level ≤ x.level ∧ s.matches x = true ∧ s.inRange o 0 arg = true
    let s : State := ready' 1 []
    let n : Nat := 1
    let u : Nat := 0
    let v : Nat := 1
    let x : Session := aSession 1
    (may s .W0004 1 n x) ∧
    (s.keeper.holder = some u) ∧
    (s.standby = some v) ∧
    (s.obj .W0003 0 ≠ 1) := by decide

theorem test_LedgerCommandsComplete_4_2 :
    let may (s : State) (o : Obj) (arg n : Nat) (x : Session) : Prop :=
      s.openSession n = some x ∧ s.cuActs 2 = true ∧ (objRow o).level ≤ x.level ∧ s.matches x = true ∧ s.inRange o 0 arg = true
    let s : State := ready' 1 [(.W0003, 0, 1)]
    let n : Nat := 1
    let u : Nat := 0
    let v : Nat := 1
    let x : Session := aSession 1
    (may s .W0004 1 n x) ∧
    (s.keeper.holder = some u) ∧
    (s.standby = some v) ∧
    (s.obj .W0003 0 = 1) ∧
    (s.recovery.resetWait = []) := by decide

theorem test_LedgerCommandsComplete_5 :
    let may (s : State) (o : Obj) (arg n : Nat) (x : Session) : Prop :=
      s.openSession n = some x ∧ s.cuActs 2 = true ∧ (objRow o).level ≤ x.level ∧ s.matches x = true ∧ s.inRange o 0 arg = true
    let s : State := ready' 1 []
    let n : Nat := 1
    let x : Session := aSession 1
    (may s .W000A 1 n x) := by decide

theorem test_LedgerCommandsComplete_6 :
    let s : State := { ready' 1 [] with cmds := [(.W000A, { arg := 1, code := .ok, running := true, started := 0, session := 1 })] }
    let u : Nat := 0
    let c : Cmd := { arg := 1, code := .ok, running := true, started := 0, session := 1 }
    (s.keeper.holder = some u) ∧
    (s.cuActs 3 = true) ∧
    (s.cmds.find? (fun c => c.1 == .W000A) = some (.W000A, c)) ∧
    (c.running = true) := by decide

theorem test_LedgerCommandsComplete_7_1 :
    let may (s : State) (o : Obj) (arg n : Nat) (x : Session) : Prop :=
      s.openSession n = some x ∧ s.cuActs 2 = true ∧ (objRow o).level ≤ x.level ∧ s.matches x = true ∧ s.inRange o 0 arg = true
    let s : State := ready' 1 [(.W000C, 0, 1)]
    let n : Nat := 1
    let v : Nat := 1
    let x : Session := aSession 1
    (may s .W000B 1 n x) ∧
    (s.imageHeld = true) ∧
    (s.standby = some v) ∧
    (s.obj .P0C0C 0 = 0) := by decide

theorem test_LedgerCommandsComplete_7_2 :
    let may (s : State) (o : Obj) (arg n : Nat) (x : Session) : Prop :=
      s.openSession n = some x ∧ s.cuActs 2 = true ∧ (objRow o).level ≤ x.level ∧ s.matches x = true ∧ s.inRange o 0 arg = true
    let s : State := ready' 1 [(.W000C, 0, 5), (.P0C0C, 0, 1)]
    let n : Nat := 1
    let v : Nat := 1
    let x : Session := aSession 1
    (may s .W000B 1 n x) ∧
    (s.imageHeld = true) ∧
    (s.standby = some v) ∧
    (s.obj .P0C0C 0 ≠ 0) := by decide

theorem test_LedgerCommandsComplete_8 :
    let may (s : State) (o : Obj) (arg n : Nat) (x : Session) : Prop :=
      s.openSession n = some x ∧ s.cuActs 2 = true ∧ (objRow o).level ≤ x.level ∧ s.matches x = true ∧ s.inRange o 0 arg = true
    let s : State := ready' 1 [(.W000C, 0, 1)]
    let n : Nat := 1
    let x : Session := aSession 1
    (may s .W000B 2 n x) ∧
    (s.imageHeld = true) := by decide

theorem test_LedgerCommandsComplete_9 :
    let may (s : State) (o : Obj) (arg n : Nat) (x : Session) : Prop :=
      s.openSession n = some x ∧ s.cuActs 2 = true ∧ (objRow o).level ≤ x.level ∧ s.matches x = true ∧ s.inRange o 0 arg = true
    let s : State := ready' 1 []
    let n : Nat := 1
    let x : Session := aSession 1
    (may s .W0017 1 n x) ∧
    (s.log.flushing = none) := by decide

theorem test_LedgerCommandsComplete_10 :
    let s : State := { ready' 1 [] with cmds := [(.W0017, { arg := 1, code := .ok, running := true, started := 0, session := 1 })], log := { State.reset.log with flushing := some 5 } }
    let u : Nat := 5
    let c : Cmd := { arg := 1, code := .ok, running := true, started := 0, session := 1 }
    (s.log.flushing = some u) ∧
    (s.cmds.find? (fun c => c.1 == .W0017) = some (.W0017, c)) ∧
    (c.running = true) := by decide

theorem test_LedgerCommandsComplete_11 :
    let s : State := { State.reset with log := { State.reset.log with erased := false, flash := [[], [], [], []] }, startup := { State.reset.startup with stage := 13 } }
    (s.log.erased = false) ∧
    (s.log.flushing = none) ∧
    (s.startup.stage ≠ 0) := by decide

theorem test_LedgerCommandsComplete_12 :
    let may (s : State) (o : Obj) (arg n : Nat) (x : Session) : Prop :=
      s.openSession n = some x ∧ s.cuActs 2 = true ∧ (objRow o).level ≤ x.level ∧ s.matches x = true ∧ s.inRange o 0 arg = true
    let s : State := ready' 2 [(.X0F01, 95, 97), (.B0601, 97, portInService), (.B0601, 62, portDormant), (.B0601, 6, portDormant), (.P0C06, 14, 0), (.P0C06, zoneOf 62, 0), (.T0120, 62, 0)]
    let n : Nat := 1
    let stack : Nat := 95
    let p : Nat := 97
    let q : Nat := 62
    let x : Session := aSession 2
    (may s .X0F0A stack n x) ∧
    (s.siteOf stack = some p) ∧
    (s.nextSpare (replicaOf stack) = some q) := by decide

theorem test_LedgerCommandsComplete_13 :
    let may (s : State) (o : Obj) (arg n : Nat) (x : Session) : Prop :=
      s.openSession n = some x ∧ s.cuActs 2 = true ∧ (objRow o).level ≤ x.level ∧ s.matches x = true ∧ s.inRange o 0 arg = true
    let s : State := { ready' 2 [] with objs := [((.W0000, 0), 0), ((.P0C06, 6), 0), ((.B0601, 26), portInService)] }
    let n : Nat := 1
    let zone : Nat := 6
    let x : Session := aSession 2
    (may s .K0E04 zone n x) ∧
    (zone < 14) ∧
    (s.zoneOn zone = true) ∧
    ((∀ e ∈ s.recovery.resets, e.1 ≠ zone)) ∧
    (s.standby = none) := by decide

theorem test_LedgerCommandsComplete_14 :
    let s : State := { ready' 1 [] with cmds := [(.W0004, { arg := 1, code := .ok, running := true, started := 10 ^ 9 - 10 ^ 7, session := 1 })] }
    let area : Nat := 0x57
    let num : Nat := 4
    let r : ObjRow := objRow .W0004
    let c : Cmd := { arg := 1, code := .ok, running := true, started := 10 ^ 9 - 10 ^ 7, session := 1 }
    (findObj area num = some r) ∧
    (s.cmds.find? (fun c => c.1 == r.obj) = some (r.obj, c)) ∧
    (c.running = true) ∧
    (c.started + cmdLimit r.obj ≤ s.time) := ⟨rfl, by decide, by decide, by decide⟩

theorem test_LifeCycleCommandsComplete_1 :
    let may (s : State) (arg n : Nat) (x : Session) : Prop :=
      s.openSession n = some x ∧ s.cuActs 2 = true ∧ (objRow .K0E02).level ≤ x.level ∧ s.matches x = true ∧ s.inRange .K0E02 0 arg = true
    let s : State := { ready' 2 [(.I0D05, 0, 0)] with store := { State.reset.store with keyBasic := some 4, keyService := some 3 } }
    let n : Nat := 1
    let x : Session := aSession 2
    (may s 1 n x) ∧
    (s.obj .I0D05 0 = 0) ∧
    (x.level = 2) := by decide

theorem test_LifeCycleCommandsComplete_2 :
    let may (s : State) (arg n : Nat) (x : Session) : Prop :=
      s.openSession n = some x ∧ s.cuActs 2 = true ∧ (objRow .K0E02).level ≤ x.level ∧ s.matches x = true ∧ s.inRange .K0E02 0 arg = true
    let s : State := { ready' 1 [(.I0D05, 0, 1)] with store := { State.reset.store with freshBasic := true, freshExpert := true } }
    let n : Nat := 1
    let x : Session := aSession 1
    (may s 2 n x) ∧
    (s.obj .I0D05 0 = 1) ∧
    (1 ≤ x.level) ∧
    (s.store.freshBasic = true) ∧
    (s.store.freshExpert = true) := by decide

theorem test_LifeCycleCommandsComplete_3 :
    let may (s : State) (arg n : Nat) (x : Session) : Prop :=
      s.openSession n = some x ∧ s.cuActs 2 = true ∧ (objRow .K0E02).level ≤ x.level ∧ s.matches x = true ∧ s.inRange .K0E02 0 arg = true
    let s : State := { ready' 2 [(.I0D05, 0, 3)] with sessions := [(1, some (aSession 2)), (2, some (aSession 0)), (3, some (aSession 2))] }
    let n : Nat := 1
    let x : Session := aSession 2
    (may s 2 n x) ∧
    (s.obj .I0D05 0 = 3) ∧
    (1 ≤ x.level) := by decide

theorem test_LifeCycleCommandsComplete_4 :
    let may (s : State) (arg n : Nat) (x : Session) : Prop :=
      s.openSession n = some x ∧ s.cuActs 2 = true ∧ (objRow .K0E02).level ≤ x.level ∧ s.matches x = true ∧ s.inRange .K0E02 0 arg = true
    let s : State := ready' 1 [(.I0D05, 0, 2), (.X0700, 0, planServing)]
    let n : Nat := 1
    let x : Session := aSession 1
    (may s 3 n x) ∧
    (s.obj .I0D05 0 = 2) ∧
    (1 ≤ x.level) ∧
    (s.obj .X0702 0 = 0) := by decide

theorem test_LifeCycleCommandsComplete_5 :
    let may (s : State) (arg n : Nat) (x : Session) : Prop :=
      s.openSession n = some x ∧ s.cuActs 2 = true ∧ (objRow .K0E02).level ≤ x.level ∧ s.matches x = true ∧ s.inRange .K0E02 0 arg = true
    let s : State := ready' 1 [(.I0D05, 0, 3), (.X0700, 0, planServing)]
    let n : Nat := 1
    let x : Session := aSession 1
    (may s 4 n x) ∧
    (s.obj .I0D05 0 ≠ 4) ∧
    (1 ≤ x.level) ∧
    ((s.obj .I0D05 0 = 0 → x.level = 2)) := by decide

theorem test_LifeCycleCommandsComplete_5b :
    let may (s : State) (arg n : Nat) (x : Session) : Prop :=
      s.openSession n = some x ∧ s.cuActs 2 = true ∧ (objRow .K0E02).level ≤ x.level ∧ s.matches x = true ∧ s.inRange .K0E02 0 arg = true
    let s : State := ready' 2 [(.I0D05, 0, 0)]
    let n : Nat := 1
    let x : Session := aSession 2
    (may s 4 n x) ∧
    (s.obj .I0D05 0 ≠ 4) ∧
    (1 ≤ x.level) ∧
    ((s.obj .I0D05 0 = 0 → x.level = 2)) := by decide

theorem test_LifeCycleCommandsComplete_6 :
    let s : State := ({ State.reset with store := { State.reset.store with wipeFrom := some 5, wipeTarget := 4 } }).putUnit (vaultAddr 5 3 9) (aUnit 6)
    let u : Nat := 5
    (s.store.wipeFrom = some u) := by decide


/-- Both units on, unit 0 with the lease, unit 1 standing by with its request. -/
def holding' (l : List (Obj × Nat × Nat)) : State := { ready' 1 l with sessions := [] }

/-- A unit that runs an image from slot A. -/
def runsImage : CtrlUnit := { (default : CtrlUnit) with running := some { header := 2 ^ 128 * 7 + 2 ^ 32 * 3, sigOk := true, hashOk := true }, slotA := some { header := 2 ^ 128 * 7 + 2 ^ 32 * 3, sigOk := true, hashOk := true } }

theorem test_LeaseCommandsComplete_1 :
    let s : State := { holding' [] with units := [(0, { runsImage with renewSent := some (10 ^ 9 - 1900000) })] }
    let u : Nat := 0
    (s.keeper.holder = some u) ∧
    (s.obj .W0000 u = 0) ∧
    ((∀ r, (s.unit u).renewSent = some r → r + 1900000 ≤ s.time)) ∧
    ((∀ p, p < 4 → s.procHealthy u p = true)) := ⟨by decide, by decide, fun r h => by cases h; decide, by decide⟩

theorem test_LeaseCommandsComplete_2 :
    let s : State := { holding' [] with units := [(0, { runsImage with renewSent := some (10 ^ 9 - 10000) })] }
    let u : Nat := 0
    let r : Nat := 10 ^ 9 - 10000
    (s.keeper.holder = some u) ∧
    ((s.unit u).renewSent = some r) ∧
    (s.time ≤ r + 10000) := by decide

theorem test_LeaseCommandsComplete_3 :
    let s : State := { holding' [] with units := [(0, { runsImage with localExpiry := 10 ^ 9 })] }
    let u : Nat := 0
    (s.keeper.holder = some u) ∧
    (s.obj .W0000 u = 0) ∧
    ((s.unit u).localExpiry ≤ s.time) := by decide

theorem test_LeaseCommandsComplete_4 :
    let s : State := { holding' [] with keeper := { (holding' []).keeper with expiry := 10 ^ 9 } }
    let u : Nat := 0
    (s.keeper.holder = some u) ∧
    (s.keeper.expiry ≤ s.time) := by decide

theorem test_LeaseCommandsComplete_5 :
    let granted (s t : State) (u : Nat) : Prop :=
      t.keeper.holder = some u ∧ t.keeper.epoch = (s.keeper.epoch + 1) % 2 ^ 32 ∧ t.keeper.expiry = s.time + 8000000 ∧ t.keeper.lastGrant = s.time ∧
      (t.unit u).localExpiry = s.time + 7500000 ∧ t.obj .W0000 u = 0 ∧ t.obj .W0001 0 = (s.keeper.epoch + 1) % 2 ^ 32 ∧ t.obj .W0002 0 = u ∧ u ∉ t.keeper.requests
    let s : State := { holding' [(.W0000, 0, 3)] with keeper := { (holding' []).keeper with holder := none, granted := true, lastGrant := 10 ^ 9 - 100000 } }
    let u : Nat := 1
    (s.kept = []) ∧
    (s.recovery.resetWait = []) ∧
    (s.keeper.holder = none) ∧
    ((s.keeper.granted = true → s.keeper.lastGrant + 100000 ≤ s.time)) ∧
    (s.standby = some u) := by decide

theorem test_LeaseCommandsComplete_6 :
    let s : State := { withObjs [(.W0000, 1, 3)] with keeper := { State.reset.keeper with requests := [1], firstRequest := some 0 }, time := 10 ^ 9 }
    let u : Nat := 1
    let r : Nat := 0
    (s.kept = []) ∧
    (s.recovery.resetWait = []) ∧
    (s.keeper.holder = none) ∧
    (s.firstChoice = some u) ∧
    (s.keeper.firstRequest = some r) ∧
    (r + 1000000000 ≤ s.time) := by decide

theorem test_LeaseCommandsComplete_7 :
    let s : State := holding' []
    let u : Nat := 0
    let v : Nat := 1
    (s.keeper.holder = some u) ∧
    (s.standby = some v) ∧
    (s.obj .W0003 0 ≠ 1) := by decide

theorem test_LeaseCommandsComplete_8 :
    let s : State := { holding' [] with keeper := { (holding' []).keeper with requests := [] } }
    let u : Nat := 0
    (s.keeper.holder = some u) ∧
    (s.standby = none) := by decide

theorem test_LeaseCommandsComplete_9 :
    let s : State := { holding' [] with objs := [((.W0000, 0), 4)] }
    let u : Nat := 0
    let cause : Nat := 0
    (s.keeper.holder = some u) ∧
    (((cause = 0 ∧ s.obj .W0000 u = 4) ∨ (cause = 1 ∧ (s.iod (if u = 0 then 0 else 3)).powered = false) ∨ (cause = 2 ∧ s.zoneOn (zoneOfIod (if u = 0 then 0 else 3)) = false))) := ⟨rfl, Or.inl ⟨rfl, rfl⟩⟩

theorem test_LeaseCommandsComplete_9b :
    let s : State := holding' []
    let u : Nat := 0
    let cause : Nat := 1
    (s.keeper.holder = some u) ∧
    (((cause = 0 ∧ s.obj .W0000 u = 4) ∨ (cause = 1 ∧ (s.iod (if u = 0 then 0 else 3)).powered = false) ∨ (cause = 2 ∧ s.zoneOn (zoneOfIod (if u = 0 then 0 else 3)) = false))) := ⟨rfl, Or.inr (Or.inl ⟨rfl, rfl⟩)⟩

theorem test_LeaseCommandsComplete_9c :
    let s : State := holding' [(.P0C06, 0, 1)]
    let u : Nat := 0
    let cause : Nat := 2
    (s.keeper.holder = some u) ∧
    (((cause = 0 ∧ s.obj .W0000 u = 4) ∨ (cause = 1 ∧ (s.iod (if u = 0 then 0 else 3)).powered = false) ∨ (cause = 2 ∧ s.zoneOn (zoneOfIod (if u = 0 then 0 else 3)) = false))) := ⟨rfl, Or.inr (Or.inr ⟨rfl, by decide⟩)⟩

theorem test_LeaseCommandsComplete_10 :
    let s : State := { holding' [] with keeper := { (holding' []).keeper with overlap := some 10 } }
    let u : Nat := 10
    (s.keeper.overlap = some u) ∧
    (u ≤ s.time) := by decide

theorem test_LeaseCommandsComplete_11 :
    let s : State := { holding' [(.P0C06, 13, 0), (.B0601, 110, portInService)] with keeper := State.reset.keeper }
    let zone : Nat := 13
    (zone < 14) ∧
    (s.zoneOn zone = true) ∧
    ((∀ e ∈ s.recovery.resets, e.1 ≠ zone)) ∧
    ((s.standby = none ∨ s.keeper.holder = none ∨ iodOfZone zone = none)) := ⟨by decide, by decide, by decide, Or.inr (Or.inl rfl)⟩

theorem test_LeaseCommandsComplete_12 :
    let s : State := { State.reset with recovery := { State.reset.recovery with resets := [(1, 5)] }, fields := [(1, { (default : Field) with writeQ := [{ aSlot with kind := 3 }], reads := [readOne] })], stations := [(2, { opens := [], tickets := [aTicket] })] }
    let zone : Nat := 1
    (zone < 14) ∧
    ((∃ u : Nat, (zone, u) ∈ s.recovery.resets)) := ⟨by decide, 5, List.mem_singleton.mpr rfl⟩


/-- A record that processor 2 logs at a level. -/
def aLog (level : Nat) : FwMsg := { (default : FwMsg) with proc := 2, level := level }

/-- An output of the holder. -/
def aHeld : Held := { seq := 0, receiver := 5, kind := 0, content := 9 }

/-- A compare word sent in window 3. -/
def wordOf (q v : Nat) : Nat × Nat × BitVec 64 := (q, 3500, BitVec.ofNat 64 v)

/-- Both units with words in window 3. -/
def comparing (a b : List (Nat × Nat × BitVec 64)) : State :=
  { holding' [] with units := [(0, { runsImage with words := a }), (1, { runsImage with words := b })], compare := { State.reset.compare with pending := [aHeld] } }

theorem test_UnitCommandsComplete_1 :
    let s : State := { holding' [(.W0011, 0, 1)] with units := [(0, runsImage)] }
    let u : Nat := 0
    let epoch : Nat := 5
    (s.epochCurrent epoch = false) ∧
    ((s.unit u).ring.length ≤ 4096) := by decide

theorem test_UnitCommandsComplete_2 :
    let s : State := holding' []
    let u : Nat := 0
    let epoch : Nat := 2 ^ 32 - 1
    let kind : Nat := 0
    (s.epochCurrent epoch = true) ∧
    (s.compare.holding = false) ∧
    (s.keeper.overlap = none) ∧
    (s.keeper.holder = some u) ∧
    (kind ≤ 5) ∧
    (s.shadowed = true) ∧
    (s.notJudged kind = false) ∧
    ((s.unit u).ring.length ≤ 4096) := by decide

theorem test_UnitCommandsComplete_2b :
    let s : State := { holding' [] with units := [(0, { runsImage with procs := [(2, { crashes := [], restarting := some 5 })] })] }
    let u : Nat := 0
    let epoch : Nat := 2 ^ 32 - 1
    let kind : Nat := 5
    (s.epochCurrent epoch = true) ∧
    (s.compare.holding = false) ∧
    (s.keeper.overlap = none) ∧
    (s.keeper.holder = some u) ∧
    (kind ≤ 5) ∧
    (s.shadowed = true) ∧
    (s.notJudged kind = false) ∧
    ((s.unit u).ring.length ≤ 4096) := by decide

theorem test_UnitCommandsComplete_3 :
    let s : State := comparing [wordOf 0 7] [wordOf 0 7]
    let k : Nat := 3
    ((k + 2) * 1000 ≤ s.time) ∧
    (s.compare.holding = false) ∧
    (s.mismatches k = []) := by decide

theorem test_UnitCommandsComplete_4 :
    let s : State := comparing [wordOf 0 7, wordOf 1 6] [wordOf 0 8]
    let k : Nat := 3
    ((k + 2) * 1000 ≤ s.time) ∧
    (s.compare.holding = false) ∧
    (s.mismatches k ≠ []) := by decide

theorem test_UnitCommandsComplete_5 :
    let s : State := { comparing [] [] with compare := { State.reset.compare with holding := true, pending := [aHeld] } }
    (s.kept = []) ∧
    (s.keeper.holder = some 0) ∧
    (s.compare.holding = true) := by decide

theorem test_UnitCommandsComplete_6 :
    let s : State := { holding' [] with objs := [((.W0000, 0), 0), ((.W0000, 1), 3)] }
    let u : Nat := 1
    let h : Nat := 0
    (s.obj .W0000 u = 3) ∧
    (s.keeper.holder = some h) ∧
    (h ≠ u) := ⟨by decide, by decide, by decide⟩

theorem test_UnitCommandsComplete_7 :
    let s : State := { withObjs [(.W0000, 0, 0), (.W0000, 1, 3)] with keeper := { State.reset.keeper with requests := [1] }, units := [(1, { runsImage with resyncFrom := some 5 })], time := 7000005 }
    let u : Nat := 1
    let r : Nat := 5
    ((s.unit u).resyncFrom = some r) ∧
    (s.obj .W0000 u = 3) ∧
    (u ∈ s.keeper.requests) := by decide

theorem test_UnitCommandsComplete_8 :
    let s : State := { withObjs [(.W0000, 1, 2)] with units := [(1, { runsImage with running := none })], store := { State.reset.store with minSecurity := 7 } }
    let u : Nat := 1
    (s.obj .W0000 u = 2) ∧
    ((s.unit u).running = none) ∧
    (s.obj .W000C 0 ≠ 3) ∧
    let b := (s.unit u).bootB
    let i := s.slotImage (2 * u + (if b then 1 else 0))
    (s.store.minSecurity ≤ i.security) ∧
    (i.sigOk = true) ∧
    (i.hashOk = true) := by decide

theorem test_UnitCommandsComplete_9 :
    let s : State := { withObjs [(.W0000, 1, 2)] with units := [(1, { runsImage with running := none })] }
    let u : Nat := 1
    (s.obj .W0000 u = 2) ∧
    ((s.unit u).running = none) := by decide

theorem test_UnitCommandsComplete_10 :
    let s : State := { holding' [] with units := [(1, runsImage)] }
    let u : Nat := 1
    let p : Nat := 3
    let cause : Nat := 0
    let pc : Nat := 8
    let c : Instr := .procCrash 1 3 0 8
    ((c = .procCrash u p cause pc ∨ (c = .procWatchdogExpiry u p pc ∧ cause = 1))) ∧
    (s.unitRuns u = true) ∧
    (p < 4) ∧
    (s.obj .W000C 0 ≠ 3) := ⟨Or.inl rfl, by decide, by decide, by decide⟩

theorem test_UnitCommandsComplete_10b :
    let s : State := { holding' [] with units := [(1, { runsImage with procs := [(2, { crashes := [5], restarting := none })] })] }
    let u : Nat := 1
    let p : Nat := 3
    let cause : Nat := 1
    let pc : Nat := 8
    let c : Instr := .procWatchdogExpiry 1 3 8
    ((c = .procCrash u p cause pc ∨ (c = .procWatchdogExpiry u p pc ∧ cause = 1))) ∧
    (s.unitRuns u = true) ∧
    (p < 4) ∧
    (s.obj .W000C 0 ≠ 3) := ⟨Or.inr ⟨rfl, rfl⟩, by decide, by decide, by decide⟩

theorem test_UnitCommandsComplete_11 :
    let s : State := { holding' [] with units := [(1, { runsImage with procs := [(2, { crashes := [5], restarting := some 5 })] })] }
    let u : Nat := 1
    let p : Nat := 2
    let r : Nat := 5
    let q : Proc := { crashes := [5], restarting := some 5 }
    (s.kept = []) ∧
    (mapGet { crashes := [], restarting := none } (s.unit u).procs p = q) ∧
    (q.restarting = some r) := by decide

theorem test_UnitCommandsComplete_12 :
    let s : State := holding' [(.W000C, 0, 2)]
    let v : Nat := 1
    (s.standby = some v) ∧
    (s.obj .W000C 0 = 2) ∧
    (s.obj .P0C0C 0 = 0) := by decide

theorem test_UnitCommandsComplete_13 :
    let s : State := { holding' [(.W000C, 0, 3)] with units := [(0, runsImage), (1, runsImage)], update := { State.reset.update with newUnit := 1 } }
    let u : Nat := 0
    let v : Nat := 1
    let i : FwImage := { header := 2 ^ 128 * 7 + 2 ^ 32 * 3, sigOk := true, hashOk := true }
    (s.kept = []) ∧
    (s.recovery.resetWait = []) ∧
    (s.update.newUnit = v) ∧
    (s.keeper.holder = some u) ∧
    ((s.unit v).running = some i) ∧
    (s.obj .W000C 0 = 3) ∧
    (u < 2) ∧
    (v < 2) ∧
    (u ≠ v) ∧
    (s.obj .W0000 u = 0) := by decide

theorem test_UnitCommandsComplete_14 :
    let s : State := { holding' [(.W000C, 0, 3)] with update := { State.reset.update with newUnit := 1, startedAt := some 5 } }
    let u : Nat := 1
    let r : Nat := 5
    (s.update.startedAt = some r) ∧
    (r + 150000000 < s.time) ∧
    (s.obj .W000C 0 = 3) ∧
    (s.update.newUnit = u) := by decide

theorem test_UnitCommandsComplete_15 :
    let s : State := { holding' [] with boxes := [(20, fullBox 9)], units := [(0, runsImage)] }
    let box : Nat := 20
    let u : Nat := 0
    (s.keeper.holder = some u) ∧
    ((s.unit u).ring.length ≤ 4096) ∧
    (box / 32 = u) ∧
    (box < 64) ∧
    (20 ≤ box % 32) ∧
    ((s.box box).full = true) ∧
    (s.cuActs 3 = true) ∧
    ((∀ w ∈ (s.box box).waiters, w.1 ≠ 2 ∧ w.1 ≠ 4)) := by decide


/-- Logical stack 95 at site 97, in service; site 62 a dormant spare. -/
def served (l : List (Obj × Nat × Nat)) : State :=
  { holding' ([(.X0F01, 95, 97), (.B0601, 97, portInService), (.B0601, 62, portDormant), (.P0C06, 14, 0), (.P0C06, zoneOf 62, 0), (.T0120, 62, 0)] ++ l) with time := 10 ^ 10 }

/-- A promotion of site 62 at a stage. -/
def aPromo (k : Nat) : Promo := { spare := 62, old := 97, stage := k, start := 5 }

/-- Every column of site 62 serves. -/
def serving62 : AMap (Nat × Nat) VaultCol := (List.range 48).map (fun k => ((62, k), { VaultCol.reset with powered := true }))

/-- Site 62 has passed its path test on every plane in an earlier frame. -/
def paths62 : AMap (Nat × Nat) Nat := (List.range 8).map (fun k => ((62, k), 3))

/-- Site 10 waits for its retest. -/
def retests : State := { clocked Site.reset with sites := [(10, { Site.reset with retest := true, tripped := true })], objs := [((.T0120, 10), 2), ((.P0C06, zoneOf 10), 0)] }

theorem test_RecoveryCommandsComplete_1 :
    let s : State := { served [(.T0120, 97, 4)] with sites := [(97, { Site.reset with powered := true })] }
    let stack : Nat := 95
    let witness : Nat := 4
    let p : Nat := 97
    let q : Nat := 62
    (s.keeper.holder ≠ none) ∧
    (stack < 96) ∧
    (s.witnessed stack witness = true) ∧
    (s.failing stack = false) ∧
    (s.siteOf stack = some p) ∧
    (s.nextSpare (replicaOf stack) = some q) := by decide

theorem test_RecoveryCommandsComplete_2 :
    let s : State := { holding' [(.X0F01, 95, 97), (.B0601, 97, portInService)] with sites := [(97, { Site.reset with powered := true, stopped := true })] }
    let stack : Nat := 95
    let witness : Nat := 0
    let p : Nat := 97
    (s.keeper.holder ≠ none) ∧
    (stack < 96) ∧
    (s.witnessed stack witness = true) ∧
    (s.failing stack = false) ∧
    (s.siteOf stack = some p) ∧
    (s.nextSpare (replicaOf stack) = none) := by decide

theorem test_RecoveryCommandsComplete_3 :
    let s : State := served []
    let stack : Nat := 95
    let witness : Nat := 7
    (s.witnessed stack witness = false) := by decide

theorem test_RecoveryCommandsComplete_4 :
    let s : State := clocked Site.reset
    let site : Nat := 10
    ((s.site site).powered = true) := by decide

theorem test_RecoveryCommandsComplete_5 :
    let s : State := clocked { Site.reset with liveAt := 10 ^ 7 - 8000 }
    let site : Nat := 10
    ((s.site site).powered = true) ∧
    ((s.site site).silent = false) ∧
    ((s.site site).liveAt + 8000 ≤ s.time) := by decide

theorem test_RecoveryCommandsComplete_6 :
    let s : State := { served [] with recovery := { State.reset.recovery with promos := [(95, aPromo 1)] } }
    let stack : Nat := 95
    let o : Promo := aPromo 1
    (s.recovery.promos.find? (fun e => e.1 == stack) = some (stack, o)) ∧
    (o.stage ≤ 7) ∧
    ((o.stage = 2 → ((((s.powerSite o.spare).checkTileDie o.spare).remap o.spare [] []).site o.spare).usable = true)) ∧
    ((o.stage = 3 ∨ o.stage = 4 → s.columnsReady o.spare = true)) ∧
    ((o.stage = 6 → s.pathsPassed o.spare = true ∧ s.passed 4 o.spare = true)) ∧
    ((o.stage = 7 → o.since + s.refillBytes stack / s.obj .X0F04 0 ≤ s.time)) := by decide

theorem test_RecoveryCommandsComplete_6c :
    let s : State := { served [] with recovery := { State.reset.recovery with promos := [(95, aPromo 4)] }, cols := serving62 }
    let stack : Nat := 95
    let o : Promo := aPromo 4
    (s.recovery.promos.find? (fun e => e.1 == stack) = some (stack, o)) ∧
    (o.stage ≤ 7) ∧
    ((o.stage = 2 → ((((s.powerSite o.spare).checkTileDie o.spare).remap o.spare [] []).site o.spare).usable = true)) ∧
    ((o.stage = 3 ∨ o.stage = 4 → s.columnsReady o.spare = true)) ∧
    ((o.stage = 6 → s.pathsPassed o.spare = true ∧ s.passed 4 o.spare = true)) ∧
    ((o.stage = 7 → o.since + s.refillBytes stack / s.obj .X0F04 0 ≤ s.time)) := by decide

theorem test_RecoveryCommandsComplete_6d :
    let s : State := { served [(.X0F03, 1, 1)] with recovery := { State.reset.recovery with promos := [(95, aPromo 6)] }, pathOk := paths62, compare := { State.reset.compare with passed := [(4, 62)] } }
    let stack : Nat := 95
    let o : Promo := aPromo 6
    (s.recovery.promos.find? (fun e => e.1 == stack) = some (stack, o)) ∧
    (o.stage ≤ 7) ∧
    ((o.stage = 2 → ((((s.powerSite o.spare).checkTileDie o.spare).remap o.spare [] []).site o.spare).usable = true)) ∧
    ((o.stage = 3 ∨ o.stage = 4 → s.columnsReady o.spare = true)) ∧
    ((o.stage = 6 → s.pathsPassed o.spare = true ∧ s.passed 4 o.spare = true)) ∧
    ((o.stage = 7 → o.since + s.refillBytes stack / s.obj .X0F04 0 ≤ s.time)) := by decide

theorem test_RecoveryCommandsComplete_6e :
    let s : State := { served [] with recovery := { State.reset.recovery with promos := [(95, aPromo 7)] } }
    let stack : Nat := 95
    let o : Promo := aPromo 7
    (s.recovery.promos.find? (fun e => e.1 == stack) = some (stack, o)) ∧
    (o.stage ≤ 7) ∧
    ((o.stage = 2 → ((((s.powerSite o.spare).checkTileDie o.spare).remap o.spare [] []).site o.spare).usable = true)) ∧
    ((o.stage = 3 ∨ o.stage = 4 → s.columnsReady o.spare = true)) ∧
    ((o.stage = 6 → s.pathsPassed o.spare = true ∧ s.passed 4 o.spare = true)) ∧
    ((o.stage = 7 → o.since + s.refillBytes stack / s.obj .X0F04 0 ≤ s.time)) := by decide

theorem test_RecoveryCommandsComplete_8 :
    let s : State := { (served []).setObj .X0F01 95 62 with recovery := { State.reset.recovery with promos := [(95, aPromo 4)] } }
    let stack : Nat := 95
    let o : Promo := aPromo 4
    (s.recovery.promos.find? (fun e => e.1 == stack) = some (stack, o)) ∧
    (o.stage < 7) ∧
    (o.spare < 112) := by decide

theorem test_RecoveryCommandsComplete_9 :
    let s : State := { served [(.X0F03, 1, 2)] with recovery := { State.reset.recovery with promos := [(95, aPromo 8)], suspendedAt := [(1, 5)] } }
    let r : Nat := 1
    (s.obj .X0F03 r ≠ 0) ∧
    (s.obj .X0F03 r ≠ 3) ∧
    ((∀ e ∈ s.recovery.promos, replicaOf e.1 = r → 8 ≤ e.2.stage)) ∧
    ((∀ p ∈ s.replicaSites r, s.inService p = true)) := by decide

theorem test_RecoveryCommandsComplete_10 :
    let s : State := { served [(.X0F03, 1, 3)] with recovery := { State.reset.recovery with suspendedAt := [(1, 5)] }, streams := [(4, some { aStream with id := 4, replica := 1, st := .suspended }), (5, some { aStream with id := 5, replica := 1 })] }
    let r : Nat := 1
    let u : Nat := 5
    (s.recovery.suspendedAt.find? (fun e => e.1 == r) = some (r, u)) ∧
    (s.obj .X0F03 r = 3) ∧
    (u + 2000000000 ≤ s.time) := by decide

theorem test_RecoveryCommandsComplete_11 :
    let s : State := retests
    let site : Nat := 10
    (isSite site = true) ∧
    ((s.site site).retest = true) ∧
    ((s.site site).powered = false) ∧
    (s.stackOf site = none) ∧
    (s.band site ≤ 2) ∧
    (s.zoneOn (zoneOf site) = true) := by decide


/-- I/O die 1 powered in a torus of four panels in X, of which this is panel 0, with its X links down. -/
def inRing : State := { withObjs [(.F0900, 0, 4)] with iods := [(1, { Iod.reset with powered := true })], streams := [(4, some { aStream with id := 4 })] }

theorem test_RecoveryCommandsComplete_13 :
    let s : State := inRing
    ((s.directionDown 1).2 = true) ∧
    ((∀ e ∈ s.recovery.declared, e.1 ≠ s.neighbour s.panelId 1)) := by decide

theorem test_RecoveryCommandsComplete_14 :
    let s : State := inRing
    ((s.directionDown 0).2 = true) ∧
    (s.recovery.xPlusDown = false) := by decide


/-- A complete mirror of a stretch. -/
def aMirror : MirrorRec := { (default : MirrorRec) with stream := 9, complete := true, k := 1, sb := 2, isHead := true, last := 77, lastToken := 8, table := [3, 0, 5] }

theorem test_RecoveryCommandsComplete_15 :
    let s : State := { inRing with recovery := { State.reset.recovery with xMinusDownAt := some 5, declared := [(3, 0)], mirrorRes := [(9, 64)] }, time := 100005 }
    let panel : Nat := 3
    let u : Nat := 5
    let m : MirrorRec := aMirror
    (s.recovery.xMinusDownAt = some u) ∧
    ((∃ a : Nat, (panel, a) ∈ s.recovery.declared)) ∧
    ((∀ e ∈ s.recovery.lost, e.1 ≠ panel)) ∧
    (u + 100000 ≤ s.time) ∧
    (m.complete = true) ∧
    ((∃ n : Nat, (m.stream, n) ∈ s.recovery.mirrorRes)) ∧
    (s.stream m.stream = none) ∧
    ((∀ e ∈ s.streams, ∀ x, e.2 = some x → x.adopted ≠ some panel)) := ⟨rfl, ⟨0, List.mem_singleton.mpr rfl⟩, by decide, by decide, rfl, ⟨64, List.mem_singleton.mpr rfl⟩, by decide, by decide⟩

theorem test_RecoveryCommandsComplete_16 :
    let s : State := { State.reset with streams := [(4, some { aStream with id := 4, unmirrored := true })], recovery := { State.reset.recovery with remirrorFrom := some 5 }, time := 10 ^ 9 }
    let i : Nat := 4
    let bytes : Nat := 2 ^ 20
    let u : Nat := 5
    let x : Stream := { aStream with id := 4, unmirrored := true }
    (s.stream i = some x) ∧
    (x.unmirrored = true) ∧
    (s.recovery.remirrorFrom = some u) ∧
    (u + bytes / s.obj .X0F05 0 ≤ s.time) := by decide

theorem test_RecoveryCommandsComplete_17 :
    let s : State := { State.reset with recovery := { State.reset.recovery with remirrorFrom := some 5 }, time := 6 }
    let bytes : Nat := 2 ^ 20
    let u : Nat := 5
    ((s.recovery.remirrorFrom = none ∨ s.recovery.remirrorFrom = some u ∧ s.time < u + bytes / s.obj .X0F05 0)) := by decide


/-- A panel in a stage of its start, its input steady. -/
def starting (k : Nat) : State :=
  { withObjs [(.P0C06, 0, 0)] with startup := { State.reset.startup with stage := k, running := true }, power := { State.reset.power with stby := false, mv := 48000, inRangeSince := some 5 }, keeper := { State.reset.keeper with holder := some 0, epoch := 6 }, time := 2 * 10 ^ 9 }

/-- A panel in standby whose input is steady. -/
def waiting' : State := { starting 0 with power := { (starting 0).power with stby := true } }

/-- Two results of every quantity have been accepted in stage 11. -/
def calibrating : State := { starting 11 with cal := (List.range 4).map (fun q => ((q, 0), { from2 := 0, target2 := 0, since := 0, count := 2 })) }

theorem test_StartupCommandsComplete_1 :
    let s : State := { starting 13 with power := { (starting 13).power with aonFeed := false, islandRuns := false } }
    (s.power.aonFeed = false) ∧
    ((s.power.islandRuns = false ∨ s.power.tripped = true)) := by decide

theorem test_StartupCommandsComplete_1b :
    let s : State := { waiting' with power := { waiting'.power with aonFeed := false, tripped := true } }
    (s.power.aonFeed = false) ∧
    ((s.power.islandRuns = false ∨ s.power.tripped = true)) := by decide

theorem test_StartupCommandsComplete_2 :
    let s : State := { starting 13 with power := { (starting 13).power with aonFeed := false } }
    (s.power.aonFeed = false) ∧
    (s.power.islandRuns = true) ∧
    (s.power.tripped = false) := by decide

theorem test_StartupCommandsComplete_3 :
    let s : State := starting 0
    (s.startup.stage = 0) ∧
    (s.power.stby = false) ∧
    (s.power.tripped = false) ∧
    (s.power.islandRuns = true) ∧
    (s.inputSteady = true) := by decide

theorem test_StartupCommandsComplete_4s1 :
    let s : State := starting 1
    let k : Nat := 1
    (s.startup.stage = k) ∧
    (1 ≤ k) ∧
    (k ≤ 12) ∧
    (s.startup.running = true) ∧
    ((k = 1 → s.inputSteady = true)) ∧
    ((k = 3 → s.power.tripped = false ∧ (s.fuseOpen 14 = false ∨ s.fuseOpen 15 = false))) ∧
    ((k = 4 → s.keeper.holder ≠ none)) ∧
    ((k = 6 → s.ptp.set = true ∨ s.startup.started + 3000000000 ≤ s.time)) ∧
    ((k = 7 → s.badIods = [])) ∧
    ((k = 8 ∨ k = 9 → (∀ p ∈ s.poweredSites, s.columnsReady p = true ∧ s.columnsFail p = false) ∧ (s.lacking 0 = 0 ∧ s.lacking 1 = 0 ∨ ∀ q ∈ spareSites, s.spareFit q = false))) ∧
    ((k = 11 → s.calibrated = true)) ∧
    ((k = 12 → s.plan.loading = none)) := by decide

theorem test_StartupCommandsComplete_4s3 :
    let s : State := starting 3
    let k : Nat := 3
    (s.startup.stage = k) ∧
    (1 ≤ k) ∧
    (k ≤ 12) ∧
    (s.startup.running = true) ∧
    ((k = 1 → s.inputSteady = true)) ∧
    ((k = 3 → s.power.tripped = false ∧ (s.fuseOpen 14 = false ∨ s.fuseOpen 15 = false))) ∧
    ((k = 4 → s.keeper.holder ≠ none)) ∧
    ((k = 6 → s.ptp.set = true ∨ s.startup.started + 3000000000 ≤ s.time)) ∧
    ((k = 7 → s.badIods = [])) ∧
    ((k = 8 ∨ k = 9 → (∀ p ∈ s.poweredSites, s.columnsReady p = true ∧ s.columnsFail p = false) ∧ (s.lacking 0 = 0 ∧ s.lacking 1 = 0 ∨ ∀ q ∈ spareSites, s.spareFit q = false))) ∧
    ((k = 11 → s.calibrated = true)) ∧
    ((k = 12 → s.plan.loading = none)) := by decide

theorem test_StartupCommandsComplete_4s12 :
    let s : State := starting 12
    let k : Nat := 12
    (s.startup.stage = k) ∧
    (1 ≤ k) ∧
    (k ≤ 12) ∧
    (s.startup.running = true) ∧
    ((k = 1 → s.inputSteady = true)) ∧
    ((k = 3 → s.power.tripped = false ∧ (s.fuseOpen 14 = false ∨ s.fuseOpen 15 = false))) ∧
    ((k = 4 → s.keeper.holder ≠ none)) ∧
    ((k = 6 → s.ptp.set = true ∨ s.startup.started + 3000000000 ≤ s.time)) ∧
    ((k = 7 → s.badIods = [])) ∧
    ((k = 8 ∨ k = 9 → (∀ p ∈ s.poweredSites, s.columnsReady p = true ∧ s.columnsFail p = false) ∧ (s.lacking 0 = 0 ∧ s.lacking 1 = 0 ∨ ∀ q ∈ spareSites, s.spareFit q = false))) ∧
    ((k = 11 → s.calibrated = true)) ∧
    ((k = 12 → s.plan.loading = none)) := by decide

theorem test_StartupCommandsComplete_4x :
    let s : State := { starting 3 with power := { (starting 3).power with fuseOpenAt := [(13, 5), (15, 6)] } }
    let k : Nat := 3
    (s.startup.stage = k) ∧
    (1 ≤ k) ∧
    (k ≤ 12) ∧
    (s.startup.running = true) ∧
    ((k = 1 → s.inputSteady = true)) ∧
    ((k = 3 → s.power.tripped = false ∧ (s.fuseOpen 14 = false ∨ s.fuseOpen 15 = false))) ∧
    ((k = 4 → s.keeper.holder ≠ none)) ∧
    ((k = 6 → s.ptp.set = true ∨ s.startup.started + 3000000000 ≤ s.time)) ∧
    ((k = 7 → s.badIods = [])) ∧
    ((k = 8 ∨ k = 9 → (∀ p ∈ s.poweredSites, s.columnsReady p = true ∧ s.columnsFail p = false) ∧ (s.lacking 0 = 0 ∧ s.lacking 1 = 0 ∨ ∀ q ∈ spareSites, s.spareFit q = false))) ∧
    ((k = 11 → s.calibrated = true)) ∧
    ((k = 12 → s.plan.loading = none)) := by decide

theorem test_StartupCommandsComplete_4y :
    let s : State := { calibrating with plan := { State.reset.plan with loading := some phased } }
    let k : Nat := 11
    (s.startup.stage = k) ∧
    (1 ≤ k) ∧
    (k ≤ 12) ∧
    (s.startup.running = true) ∧
    ((k = 1 → s.inputSteady = true)) ∧
    ((k = 3 → s.power.tripped = false ∧ (s.fuseOpen 14 = false ∨ s.fuseOpen 15 = false))) ∧
    ((k = 4 → s.keeper.holder ≠ none)) ∧
    ((k = 6 → s.ptp.set = true ∨ s.startup.started + 3000000000 ≤ s.time)) ∧
    ((k = 7 → s.badIods = [])) ∧
    ((k = 8 ∨ k = 9 → (∀ p ∈ s.poweredSites, s.columnsReady p = true ∧ s.columnsFail p = false) ∧ (s.lacking 0 = 0 ∧ s.lacking 1 = 0 ∨ ∀ q ∈ spareSites, s.spareFit q = false))) ∧
    ((k = 11 → s.calibrated = true)) ∧
    ((k = 12 → s.plan.loading = none)) := by decide

theorem test_StartupCommandsComplete_5 :
    let s : State := starting 9
    let k : Nat := 9
    (s.startup.stage = k) ∧
    (2 ≤ k) ∧
    (k ≤ 12) ∧
    (s.startup.running = true) := by decide

theorem test_StartupCommandsComplete_7 :
    let s : State := { starting 8 with sites := [(2, { Site.reset with powered := true }), (3, { Site.reset with powered := true })] }
    (s.startup.stage = 8) ∧
    (s.startup.running = true) := by decide

theorem test_StartupCommandsComplete_8 :
    let s : State := (starting 13).setObj .B0601 10 portInService
    (s.power.stby = false) ∧
    (s.startup.stage ≠ 0) := by decide

theorem test_StartupCommandsComplete_9 :
    let s : State := waiting'
    (s.power.stby = true) ∧
    (s.power.islandRuns = true) ∧
    (s.inputSteady = true) := by decide

theorem test_StartupCommandsComplete_10 :
    let s : State := { starting 13 with power := { (starting 13).power with holdUpFrom := some 7 } }
    let u : Nat := 7
    (s.power.holdUpFrom = some u) ∧
    (u + 20000000 ≤ s.time) ∧
    (s.power.islandRuns = true) := by decide

theorem test_StartupCommandsComplete_11 :
    let s : State := withObjs [(.I0D05, 0, 2)]
    let ir : Nat := 2
    ((ir = 0 ∨ (2 ≤ ir ∧ s.obj .I0D05 0 ≠ 0 ∧ s.obj .I0D05 0 ≠ 3))) := by decide

theorem test_StartupCommandsComplete_13 :
    let s : State := withObjs [(.I0D05, 0, 3)]
    let ir : Nat := 2
    (2 ≤ ir) ∧
    ((s.obj .I0D05 0 = 0 ∨ s.obj .I0D05 0 = 3)) := by decide


theorem test_MailboxWriteRules_1_1 :
    let s : State := State.reset
    let n : Nat := 24
    (boxReserved n = false) ∧
    ((s.box n).full = false) := by decide

theorem test_MailboxWriteRules_1_2 :
    let s : State := { State.reset with boxes := [(56, { fullBox 255 with evCollision := some 5 })], time := 1000004 }
    let n : Nat := 56
    (boxReserved n = false) ∧
    ((s.box n).full = true) := by decide

theorem test_MailboxWriteRules_1_2b :
    let s : State := { State.reset with boxes := [(56, { fullBox 255 with evCollision := some 5 })], time := 1000005 }
    let n : Nat := 56
    (boxReserved n = false) ∧
    ((s.box n).full = true) := by decide

theorem test_MailboxWriteRules_1_3 :
    let n : Nat := 25
    (boxReserved n = true) := by decide

theorem test_MailboxReleaseRules_1 :
    let s : State := { holding' [] with keeper := { (holding' []).keeper with holder := some 1 }, boxes := [(56, fullBox 255)] }
    let n : Nat := 56
    ((n < 64 → s.keeper.holder = some (n / 32))) ∧
    ((s.box n).full = true) ∧
    ((∀ w ∈ (s.box n).waiters, w.1 ≠ 2 ∧ w.1 ≠ 4)) := by decide

theorem test_MailboxReleaseRules_2 :
    let s : State := { holding' [] with boxes := [(56, fullBox 255)] }
    let n : Nat := 56
    let q : Nat := 255
    (((s.box n).full = false ∨ q ≠ (s.box n).seq ∨ n < 64 ∧ s.keeper.holder ≠ some (n / 32))) := by decide

theorem test_MailboxReleaseRules_3 :
    let s : State := { State.reset with boxes := [(24, fullBox 255), (56, fullBox 255)] }
    let n : Nat := 56
    (boxReserved n = false) ∧
    ((s.box n).full = true) := by decide

theorem test_CheckUnitSaveAndRestore_1 :
    let s : State := { State.reset with checks := [(3, { CheckUnit.reset with ctrl := 0x1DF#32, value := 0x1234#64 })] }
    let t : State := { State.reset with checks := [(7, { CheckUnit.reset with ctrl := 7#32, poly := 5#64, init := 1#64, clash := true })] }
    let unit : Nat := 3
    let k : Nat := 7
    let u := s.check unit
    (u.masked = u) ∧
    (u.ctrl &&& 0x1FF#32 = u.ctrl) ∧
    (u.feeds = 0) ∧
    (u.locked = false) ∧
    ((t.check k).feeds = 0) ∧
    ((t.check k).locked = false) := by decide

theorem test_CheckUnitsKeepTheirWidth_1 :
    let s : State := { State.reset with pending := [.checkStart 2] }
    let t : State := { State.reset with checks := [(2, { CheckUnit.reset with value := 0xFFFFFFFF#64 })] }
    ((∀ k, (s.check k).masked = s.check k ∧ (s.check k).ctrl &&& 0x1FF#32 = (s.check k).ctrl)) ∧
    (step s = .next t) := ⟨fun _ => ⟨(by decide : CheckUnit.reset.masked = CheckUnit.reset), (by decide : CheckUnit.reset.ctrl &&& 0x1FF#32 = CheckUnit.reset.ctrl)⟩, rfl⟩

theorem test_BandsFollowTheirThresholds_1 :
    let s : State := State.reset
    let old : Nat := 3
    (old ≤ 4) ∧
    ((∀ k, k < 3 → s.threshold k < s.threshold (k + 1))) := by decide


/-- An item that names a member of a group. -/
def aKeyItem : Item := anItem (objRow .K0D18) 9

theorem test_GroupsChangeOnlyByCommit_1 :
    let fresh (s : State) (type : Nat) (m : LedgerMsg) (x : Session) : Prop :=
      s.valid type m = some x ∧ s.cuActs 2 = true ∧ m.wellFormed = true ∧ seqCase x m.seq = .fresh
    let s : State := acting 2
    let m : LedgerMsg := aMsg 2 [anItem (objRow .T0128) 20, aKeyItem]
    let x : Session := aSession 2
    (fresh s 2 m x) := ⟨valid_of rfl ⟨by decide, by decide, rfl, rfl, rfl, Or.inl (by decide), rfl⟩, by decide, rfl, by decide⟩

theorem test_GroupsChangeOnlyByCommit_2 :
    let fresh (s : State) (type : Nat) (m : LedgerMsg) (x : Session) : Prop :=
      s.valid type m = some x ∧ s.cuActs 2 = true ∧ m.wellFormed = true ∧ seqCase x m.seq = .fresh
    let s : State := staging' (staged .K0D18 9) []
    let m : LedgerMsg := aMsg 5 []
    let x : Session := { aSession 2 with stage := [staged .K0D18 9] }
    (fresh s 5 m x) := ⟨valid_of rfl ⟨by decide, by decide, rfl, rfl, rfl, Or.inl (by decide), rfl⟩, by decide, rfl, by decide⟩

theorem test_GroupsChangeOnlyByCommit_3 :
    let fresh (s : State) (type : Nat) (m : LedgerMsg) (x : Session) : Prop :=
      s.valid type m = some x ∧ s.cuActs 2 = true ∧ m.wellFormed = true ∧ seqCase x m.seq = .fresh
    let s : State := staging' (staged .K0D18 9) []
    let m : LedgerMsg := aMsg 20 []
    let x : Session := { aSession 2 with stage := [staged .K0D18 9] }
    (fresh s 20 m x) := ⟨valid_of rfl ⟨by decide, by decide, rfl, rfl, rfl, Or.inl (by decide), rfl⟩, by decide, rfl, by decide⟩


/-- R416's example: the X+ lane 0 of IOD2 leaves shoe FS4 at position 1 and lands on lane 4 of its neighbour, received at position 21. -/
theorem test_fibre_map : fibreOf 4 1 = some (0, true) ∧ cableLane 0 = 4 ∧ fibreOf 4 21 = some (4, false) ∧ fibreOf 5 13 = some (26, true) ∧ fibreOf 4 15 = none := by decide

/-- Contacts M13 and M23 of Table 17.5, and R405's example: 12 L/min at 45 °C takes 19,890 W. -/
theorem test_contacts : contactOf 13 = some .pgN ∧ contactOf 23 = some (.slotId 4) ∧ contactOf 17 = some .stbyEn ∧ contactOf 29 = some .trstN ∧ powerLimit 1200 450 = 19890000 := by decide

/-! ### Ill-formed commands -/

theorem test_wf_places : ([.nop 13 0 0, .tileFault 0 1, .nop 2 48 0, .linkAliveTimeout 2 54, .retrim 2 0 4 [], .trickleRefresh 2 0 0 16,
    .tagComplete 2 0 32 [] 0 sound none, .bankChangeDone 2 0 32, .siteSilent 0, .freqChangeRequest 2 410, .freqChangeRequest 2 1825, .stackOut 1 96,
    .efuseReclose 1 16, .zoneLost 16, .leaseRenew 2, .procCrash 0 4 0 0, .promotionStageDone 96 true [] []] : List Instr).all (fun c => !c.wellFormed) := by decide

theorem test_wf_base : ([.marketMatch 8, .portRestore 13, .portRestore 99, .portRestore 112, .slotRetry 2 8, .mergeDeadline 2 65536,
    .bundleRecoveryFrame 12 0 0, .bundleRecoveryFrame 0 0 7, .fieldCacheScrub 56 0 [], .waveEnd 2 0, .waveEnd 0 4, .queryArrival 0 256 0 false,
    .fastFade 420 0, .carrySwitch 0 6 0, .carrySwitch 0 0 5, .laneDown 112, .linkUp 24, .heartbeatReceive 0 0 4 0 0 0 0,
    .heartbeatReceive 0 0 0 7 0 0 0, .mboxWaitExpiry 192, .checkStart 8] : List Instr).all (fun c => !c.wellFormed) := by decide

/-! ### Worked examples of the spec -/

/-- R9: site 37 stands in column 2 and row 4, in zone W4. -/
theorem test_zone_W4 : (colOf 37, rowOf 37, zoneOf 37, (zonePorts 4).filter isSite) = (2, 4, 4, [8, 9, 22, 23, 36, 37]) := by decide

/-- The four blocks of the example after R43: scales 0x78, 0x79, 0x70 and 0x7C. -/
def grainBlocks : List G6 :=
  [⟨(List.range 16).map (fun k => BitVec.ofInt 6 (k - 8)), 0x78⟩, ⟨List.replicate 16 2, 0x79⟩,
   ⟨(List.range 16).map (fun k => BitVec.ofInt 6 (-k)), 0x70⟩, ⟨(List.range 16).map (fun k => BitVec.ofInt 6 ((k % 4 : Nat) - 1)), 0x7C⟩]

/-- Its indices, i mod 16, and its codebook. -/
def grainIdx : List Nat := (List.range 64).map (fun i => i % 16)
def grainBook (k : Nat) : Fv :=
  operand .e4m3 true ([0xC0, 0xBC, 0xB8, 0xB4, 0xB0, 0xAC, 0xA8, 0xA0, 0x20, 0x28, 0x2C, 0x30, 0x34, 0x38, 0x3C, 0x40].getD k 0)

/-- Table 2.7. -/
theorem test_bins : bins grainBlocks grainIdx = [-116, -84, -52, -20, -84, -52, -20, 12, -52, -20, 12, 44, -20, 12, 44, 76] := by decide +kernel

theorem test_grain_sum : encodeFp .fp32 true .rne (grainSum true grainBlocks grainIdx grainBook) = 0x40340000 := by decide +kernel

/-- The accumulator's tie goes to the even significand. -/
theorem test_grain_tie :
    encodeFp .fp32 true .rne (add32 true (operand .fp32 true 0x49800000) (operand .fp32 true 0x40340000)) = 0x49800016 := by decide +kernel

/-- The example after R56: a bin step of 64 or 1 vectors, 1,024 rows and K = 4,096. -/
theorem test_bin_cycles : (matrixCycles (BitVec.ofNat 128 (1 * 2 ^ 4 + 63 * 2 ^ 98 + 7 * 2 ^ 106 + 63 * 2 ^ 114)),
    matrixCycles (BitVec.ofNat 128 (1 * 2 ^ 4 + 7 * 2 ^ 106 + 63 * 2 ^ 114))) = (32790, 1046) := by decide

/-- The example after R89: row 1 has a dead switch in column 4, row 3 a mapped-out tile in column 1. -/
theorem test_route : (9 * 1 + physCol 4 2, 9 * 3 + physCol 1 5, presents48 [28] [13], route [13] 11 33) =
    (11, 33, true, [12, 21, 22, 23, 24, 33]) := by decide

/-- The example after R145: the exact total 2 whatever the order, and the attention partials (3, 1.5) and (5, 0.25). -/
theorem test_merge_sum : exactSum true ([0x4B800000, 0x3F800000, 0xCB800000, 0x3F800000].map (operand .fp32 true)) = 0x40000000 := by decide +kernel

theorem test_merge_attention : (mergeFlit true [[⟨0x3FC0000040400000#256, false⟩], [⟨0x3E80000040A00000#256, false⟩]] 0).1.take 2 =
    [0x40A00000, 0x3F200000] := by decide +kernel

/-- The example after R207: laser 17 of L4 is λ2 of set 3, which feeds plane 3, tree 2. -/
theorem test_laser : (laserSet (35 * 4 + 17), laserWave (35 * 4 + 17), baseTree (6 * 4 + 3)) = (some (6 * 4 + 3), 2, some (3, 2)) := by decide

/-- The example after R228, to 0.1 Gb/s. -/
theorem test_ladder : ([0, 16, 48, 47, 46, 45, 44, 42, 38, 30].map (fun L => (ladderRate 1600000 L + 50) / 100)) =
    [16000, 11314, 5657, 5781, 5907, 6037, 6169, 6442, 7025, 8354] := by decide

/-- The example after R269: "123456789" under the two polynomials. -/
theorem test_crc : ([0x04C11DB7, 0x1EDC6F41].map (fun p => crcResult 32 true true
    (crcBytes 32 true (BitVec.ofNat 64 p) 0xFFFFFFFF#64 [0x31, 0x32, 0x33, 0x34, 0x35, 0x36, 0x37, 0x38, 0x39]))) =
    [0xCBF43926#64, 0xE3069283#64] := by decide +kernel

/-- The example after R376: the spares of replica 0 in the order of promotion. -/
theorem test_spares : (spareOrder 0).filter (fun p => spareSites.contains p) = [6, 20, 34, 48, 62, 76, 90, 104] := by decide

/-- Table 13.10: L.0804 = −2.0 alone is refused; staged with L.0805 = −2.5 both members pass and both are in force. -/
theorem test_pair_alone : ((acting 1).writeItem 1 (aSession 1) (anItem (objRow .L0804) 0xC0000000)).2.1 = .busError := by decide +kernel

theorem test_pair_staged :
    let x := ((acting 1).stageItems (aSession 1) [anItem (objRow .L0804) 0xC0000000, anItem (objRow .L0805) 0xC0200000]).1
    let r := (acting 1).commitSet 1 x
    (r.2.1.map (fun a => a.code), r.1.obj .L0804 0, r.1.obj .L0805 0) = ([Code.ok, .ok], 0xC0000000, 0xC0200000) := by decide +kernel

/-- FIPS 180-4: SHA-384 of "abc" begins with these bytes. -/
theorem test_sha384 : (sha384 (label "abc")).take 6 = [0xCB#8, 0x00, 0x75, 0x3F, 0x45, 0xA3] := by decide +kernel

end Sys2Proof.Tests
end

section
/-!
The 32-B unit as memory's cell: what a unit's write leaves to be read of its bytes, its mark and the rest of the state (R3, R44).
-/

namespace Sys2Proof.Machine

theorem State.putUnit_mem (s : State) (a : Nat) (u : Cell32) : (s.putUnit a u).mem = memPutNum s.mem a 32 u.data.toNat := by
  simp only [State.putUnit]

/-- The mark of any unit after a write: a write without a mark clears the one that stood there (R44). -/
theorem State.mapGet_poison_putUnit (s : State) (a b : Nat) (u : Cell32) :
    mapGet false (s.putUnit a u).poison b = if b = a then u.mark else mapGet false s.poison b := by
  cases hm : u.mark with
  | true => simp [State.putUnit, hm, mapGet_mapSet]
  | false =>
    by_cases hb : b = a
    · simp [State.putUnit, hm, hb]
    · simp [State.putUnit, hm, hb, mapGet_mapDel_ne]

/-- The 32 bytes at a unit's address spell the data written there, least significant byte first (R3). -/
theorem State.memNum_putUnit {s : State} (a : Nat) (u : Cell32) (h : s.mem.wf) : memNum (s.putUnit a u).mem a 32 = u.data.toNat := by
  rw [State.putUnit_mem, memNum_memPutNum _ _ _ h]
  exact Nat.mod_eq_of_lt u.data.isLt

theorem State.unitAt_putUnit {s : State} (a : Nat) (u : Cell32) (h : s.mem.wf) : (s.putUnit a u).unitAt a = u := by
  simp only [State.unitAt, State.memNum_putUnit a u h, BitVec.ofNat_toNat, BitVec.setWidth_eq, State.mapGet_poison_putUnit, if_true]

theorem State.putUnit_bytesOutside {s : State} (a : Nat) (u : Cell32) (h : s.mem.wf) : bytesOutside a (a + 32) s (s.putUnit a u) := by
  intro a' ho
  rw [State.putUnit_mem]
  exact memByte_memPutNum_out _ _ _ _ h ho

theorem State.putUnit_unchanged (s : State) (a : Nat) (u : Cell32) : unchangedBut [.mem, .poison] s (s.putUnit a u) := by
  rw [unchangedBut_iff]
  simp

/-- Settles O4, from what a unit's write leaves of its bytes, its mark and the other parts. -/
theorem unitReadsBack : Obligations.UnitReadsBack := by
  unfold Obligations.UnitReadsBack
  intro s a u h
  refine ⟨State.unitAt_putUnit a u h, State.putUnit_bytesOutside a u h, fun b hb => ?_, State.putUnit_unchanged s a u⟩
  rw [State.mapGet_poison_putUnit, if_neg hb]

end Sys2Proof.Machine
end

section
/-!
Of several completion codes the one of the lowest rank is reported: `worst` folds `worse`, which keeps the lower of two ranks (R18).
-/

namespace Sys2Proof.Machine

/-- The order of R18, from the code that is reported before every other. -/
def codeOrder : List Code :=
  [.accessDenied, .targetAbsent, .pathReset, .aborted, .busError, .eccUncorrected, .poisoned, .mergeTimeout, .timeout, .ok]

theorem codeOrder_idxOf (c : Code) : codeOrder.idxOf c = codeRank c := by cases c <;> rfl

theorem worse_ok_left (c : Code) : worse .ok c = c := by cases c <;> rfl

theorem worse_eq_or (a b : Code) : worse a b = a ∨ worse a b = b := by
  unfold worse
  exact ite_eq_or_eq _ a b

theorem codeRank_worse (a b : Code) : codeRank (worse a b) = min (codeRank a) (codeRank b) := by
  unfold worse
  split <;> omega

theorem foldl_worse_mem (a : Code) (l : List Code) : l.foldl worse a ∈ a :: l := by
  induction l generalizing a with
  | nil => simp
  | cons c r ih =>
    rcases List.mem_cons.1 (ih (worse a c)) with h | h
    · rw [List.foldl_cons, h]
      rcases worse_eq_or a c with e | e <;> simp [e]
    · exact List.mem_cons_of_mem _ (List.mem_cons_of_mem _ h)

theorem codeRank_foldl_worse_le (a : Code) (l : List Code) : ∀ c ∈ a :: l, codeRank (l.foldl worse a) ≤ codeRank c := by
  induction l generalizing a with
  | nil => simp
  | cons b r ih =>
    obtain ⟨hw, hr⟩ := List.forall_mem_cons.1 (ih (worse a b))
    rw [codeRank_worse] at hw
    exact List.forall_mem_cons.2 ⟨hw.trans (min_le_left _ _), List.forall_mem_cons.2 ⟨hw.trans (min_le_right _ _), hr⟩⟩

/-- OK, from which `worst` starts, stands last in the order: the first code of the list takes its place. -/
theorem worst_cons (c : Code) (l : List Code) : worst (c :: l) = l.foldl worse c := by
  rw [worst, List.foldl_cons, worse_ok_left]

theorem worst_mem {l : List Code} (h : l ≠ []) : worst l ∈ l := by
  cases l with
  | nil => exact absurd rfl h
  | cons c r => rw [worst_cons]; exact foldl_worse_mem c r

theorem codeRank_worst_le {l : List Code} {c : Code} (h : c ∈ l) : codeRank (worst l) ≤ codeRank c :=
  codeRank_foldl_worse_le .ok l c (List.mem_cons_of_mem _ h)

/-- Settles O58: a code's place in the order is its rank, and `worst` takes the lowest rank of its list. -/
theorem worstCodeStandsFirst : Obligations.WorstCodeStandsFirst := by
  unfold Obligations.WorstCodeStandsFirst
  intro order l
  refine ⟨fun h => by rw [h]; rfl, worst_mem, fun c hc => ?_⟩
  change codeOrder.idxOf (worst l) ≤ codeOrder.idxOf c
  rw [codeOrder_idxOf, codeOrder_idxOf]
  exact codeRank_worst_le hc

end Sys2Proof.Machine
end

section
/-!
What marks and ECC findings leave of the state (R19, R44, R71), the background test of the tile store (R73) and the priority buckets (R81).
-/

namespace Sys2Proof.Machine

/-! ### Parts and bits -/

theorem unchangedBut.obj {l : List Part} {s t : State} (h : unchangedBut l s t) (hl : Part.objs ∉ l) (o : Obj) (i : Nat) :
    t.obj o i = s.obj o i := by
  have e : t.objs = s.objs := h .objs hl
  simp only [State.obj, e]

theorem bitGet_bitSet_true (v n : Nat) : bitGet (bitSet v n true) n = true := by
  unfold bitSet
  split
  · assumption
  · next h =>
    simp only [bitGet, beq_iff_eq, if_true, Nat.add_div_right _ (Nat.two_pow_pos n)] at h ⊢
    omega

theorem State.setObj_unchanged (s : State) (o : Obj) (i v : Nat) : unchangedBut [.objs] s (s.setObj o i v) := by
  rw [unchangedBut_iff]; simp

theorem State.setSite_unchanged (s : State) (a : Nat) (v : Site) : unchangedBut [.sites] s (s.setSite a v) := by
  rw [unchangedBut_iff]; simp

/-! ### Marking several units (R44) -/

theorem State.setMark_unchanged (s : State) (a : Nat) (b : Bool) : unchangedBut [.poison] s (s.setMark a b) := by
  rw [unchangedBut_iff]; simp

theorem State.foldl_setMark_unchanged {α : Type} (f : α → Nat) (l : List α) (s : State) :
    unchangedBut [.poison] s (l.foldl (fun s u => s.setMark (f u) true) s) := by
  induction l generalizing s with
  | nil => exact .refl _ _
  | cons u r ih => exact (s.setMark_unchanged (f u) true).trans (ih _)

/-- A mark stands where one was set or stood before. -/
theorem State.mapGet_poison_foldl_setMark {α : Type} (f : α → Nat) (l : List α) (s : State) (a : Nat) :
    mapGet false (l.foldl (fun s u => s.setMark (f u) true) s).poison a = true ↔
      (∃ u ∈ l, f u = a) ∨ mapGet false s.poison a = true := by
  induction l generalizing s with
  | nil => simp
  | cons u r ih =>
    have hu : mapGet false (s.setMark (f u) true).poison a = true ↔ f u = a ∨ mapGet false s.poison a = true := by
      simp only [State.setMark, if_true, mapGet_mapSet, ite_eq_iff, and_true, eq_comm (a := a)]
      tauto
    simp only [List.foldl_cons, ih, hu, List.mem_cons, exists_eq_or_imp]
    rw [or_assoc, or_left_comm]

/-! ### What ECC finds in a tile store (R19, R71) -/

theorem State.storeEcc_unchanged (s : State) (site tl : Nat) (read : Nat → Bool) (e : Ecc) :
    unchangedBut [.objs, .poison] s (s.storeEcc site tl read e) :=
  ((State.foldl_setMark_unchanged _ _ s).mono (by simp)).trans ((State.count_unchanged _ _ _ _).mono (by simp))

theorem State.storeEcc_objs (s : State) (site tl : Nat) (read : Nat → Bool) (e : Ecc) :
    objsBut [.S0307] s (s.storeEcc site tl read e) := by
  intro o i h
  rw [State.storeEcc, State.count_objs _ _ _ _ o i h]
  exact (State.foldl_setMark_unchanged _ _ s).obj (by simp) o i

theorem State.storeEcc_S0307 (s : State) (site tl : Nat) (read : Nat → Bool) (e : Ecc) :
    (s.storeEcc site tl read e).obj .S0307 site = s.obj .S0307 site + e.ce := by
  rw [State.storeEcc, State.obj_count, (State.foldl_setMark_unchanged _ _ s).obj (by simp)]

/-- A unit that is read and found uncorrectable carries a mark. -/
theorem State.storeEcc_marks (s : State) (site tl : Nat) (read : Nat → Bool) (e : Ecc) {u : Nat} (hu : u ∈ e.ue) (hl : u < 2 ^ 17)
    (hr : read u = true) : mapGet false (s.storeEcc site tl read e).poison (storeAddr site tl u) = true := by
  rw [State.storeEcc, State.count_poison, State.mapGet_poison_foldl_setMark]
  exact .inl ⟨u, List.mem_filter.2 ⟨hu, by rw [decide_eq_true hl, hr]; rfl⟩, rfl⟩

/-! ### The next region is locked (R73) -/

theorem exec_storeTestInterval_of_due {s : State} {site tile r : Nat} (ecc : Ecc) (hi : s.obj .S0304 0 ≠ 0)
    (ht : (s.tile site tile).testTime + 1000 * s.obj .S0304 0 ≤ s.time) (hl : (s.tile site tile).testLock = none)
    (hr : (s.tile site tile).nextRegion (s.tile site tile).testNext = some r) :
    exec (.storeTestInterval site tile ecc) s =
      .next ((s.setTile site tile { s.tile site tile with testLock := some r, testTime := s.time }).storeEcc site tile (fun u => u / 8 == r) ecc) := by
  simp only [exec, execStoreTestInterval, hi, hl, hr, Nat.not_lt.2 ht, Option.isSome_none, Bool.false_eq_true, or_self, if_false]

/-! ### A region's test ends (R73) -/

/-- The tile once the march over region `r` has ended: unlocked, and moved on to the region behind it. -/
def Tile.afterTest (t : Tile) (r : Nat) : Tile :=
  { t with
    testLock := none, testNext := if 16383 ≤ r then 0 else r + 1
    testPasses :=
      if (match t.nextRegion (r + 1) with
        | some x => decide (16384 ≤ r + 1) || decide (x < r + 1)
        | none => true) then t.testPasses + 1 else t.testPasses }

/-- A region that failed with no spare left (R73): the units that read back different are marked, the tile is flagged for the next recovery,
and an event is raised. -/
def State.reportRegion (s : State) (site tile r : Nat) (differ : List Nat) : State :=
  ((differ.foldl (fun s u => s.setMark (storeAddr site tile (8 * r + u % 8)) true) s).setBit .S0402 site tile true).raise evStoreRegion site
    [tile, r]

/-- What the verdict over region `r` changes before the die's counters take it: a spare row pair of its bank, or the marks, the flag and the
event of a region that none is left for. -/
def State.testVerdict (s : State) (site tile r : Nat) (failed : Bool) (differ : List Nat) : State :=
  let t := s.tile site tile
  let left := mapGet 2 t.spares (r / 512)
  if failed && decide (0 < left) then
    (s.setTile site tile { t.afterTest r with spares := mapSet t.spares (r / 512) (left - 1) }).setObj .S0306 site
      (min (s.obj .S0306 site) (left - 1))
  else if failed then
    (s.setTile site tile (t.afterTest r)).reportRegion site tile r differ
  else s.setTile site tile (t.afterTest r)

/-- The die's counters after a march: the passes of its slowest tile, and the words corrected. -/
def State.countTest (s : State) (site corrected : Nat) : State :=
  (s.setObj .S0305 site (s.slowestPasses site)).count .S0307 site corrected

theorem exec_storeTestDone {s : State} {site tile r : Nat} (failed : Bool) (differ : List Nat) (corrected : Nat)
    (h : (s.tile site tile).testLock = some r) :
    exec (.storeTestDone site tile failed differ corrected) s =
      .next ((s.testVerdict site tile r failed differ).countTest site corrected) := by
  simp only [exec, execStoreTestDone, h]
  rfl

section
variable (s : State) (site tile r : Nat) (differ : List Nat)

theorem State.reportRegion_unchanged : unchangedBut [.objs, .poison, .log] s (s.reportRegion site tile r differ) :=
  (((State.foldl_setMark_unchanged _ differ s).mono (by simp)).trans ((State.setObj_unchanged _ _ _ _).mono (by simp))).trans
    ((State.raise_unchanged _ _ _ _).mono (by simp))

theorem State.reportRegion_objs : objsBut [.S0402] s (s.reportRegion site tile r differ) := by
  intro o i h
  rw [State.reportRegion, (State.raise_unchanged _ _ _ _).obj (by simp), State.setBit,
    State.obj_setObj_ne _ _ (.inl (by simpa using h)), (State.foldl_setMark_unchanged _ differ s).obj (by simp)]

theorem State.reportRegion_flags : bitGet ((s.reportRegion site tile r differ).obj .S0402 site) tile = true := by
  rw [State.reportRegion, (State.raise_unchanged _ _ _ _).obj (by simp), State.setBit, State.obj_setObj, bitGet_bitSet_true]

theorem State.reportRegion_event :
    ((s.reportRegion site tile r differ).log.events.map (fun e => e.code)).head? = some evStoreRegion := by
  rw [State.reportRegion, (State.raise_events _ _ _ _).1]
  rfl

theorem State.reportRegion_marks {u : Nat} (hu : u ∈ differ) :
    mapGet false (s.reportRegion site tile r differ).poison (storeAddr site tile (8 * r + u % 8)) = true := by
  rw [State.reportRegion, State.raise_poison, State.setBit_poison, State.mapGet_poison_foldl_setMark]
  exact .inl ⟨u, hu, rfl⟩

end

theorem State.countTest_unchanged (s : State) (site n : Nat) : unchangedBut [.objs] s (s.countTest site n) :=
  (s.setObj_unchanged _ _ _).trans (State.count_unchanged _ _ _ _)

theorem State.countTest_poison (s : State) (site n : Nat) : (s.countTest site n).poison = s.poison :=
  s.countTest_unchanged site n .poison (by simp)

theorem State.countTest_log (s : State) (site n : Nat) : (s.countTest site n).log = s.log :=
  s.countTest_unchanged site n .log (by simp)

theorem State.countTest_objs (s : State) (site n : Nat) : objsBut [.S0305, .S0307] s (s.countTest site n) := by
  intro o i h
  simp only [List.mem_cons, List.not_mem_nil, or_false, not_or] at h
  obtain ⟨h5, h7⟩ := h
  rw [State.countTest, State.obj_count_ne _ _ _ _ h7, State.obj_setObj_ne _ _ (.inl h5)]

theorem State.countTest_S0307 (s : State) (site n : Nat) : (s.countTest site n).obj .S0307 site = s.obj .S0307 site + n := by
  rw [State.countTest, State.obj_count, State.obj_setObj_ne _ _ (.inl (by decide))]

section
variable (s : State) (site tile r : Nat) (differ : List Nat)

/-- The verdict over a region that passed. -/
theorem State.testVerdict_of_passed :
    s.testVerdict site tile r false differ = s.setTile site tile ((s.tile site tile).afterTest r) := by
  simp [State.testVerdict]

/-- The verdict over a failed region of a bank with a spare left. -/
theorem State.testVerdict_of_spare (h : 0 < mapGet 2 (s.tile site tile).spares (r / 512)) :
    s.testVerdict site tile r true differ =
      (s.setTile site tile { (s.tile site tile).afterTest r with
        spares := mapSet (s.tile site tile).spares (r / 512) (mapGet 2 (s.tile site tile).spares (r / 512) - 1) }).setObj .S0306 site
      (min (s.obj .S0306 site) (mapGet 2 (s.tile site tile).spares (r / 512) - 1)) := by
  simp [State.testVerdict, h]

/-- The verdict over a failed region of a bank with no spare left. -/
theorem State.testVerdict_of_noSpare (h : mapGet 2 (s.tile site tile).spares (r / 512) = 0) :
    s.testVerdict site tile r true differ =
      (s.setTile site tile ((s.tile site tile).afterTest r)).reportRegion site tile r differ := by
  simp [State.testVerdict, h]

end

/-- What every end of a region's test has in common: the tile is unlocked and moved on, the words corrected are counted, and other tiles and
parts are left. -/
def TestEnded (site tile r corrected : Nat) (s t : State) : Prop :=
  (t.tile site tile).testLock = none ∧ (t.tile site tile).testNext = (if 16383 ≤ r then 0 else r + 1) ∧
  t.obj .S0307 site = s.obj .S0307 site + corrected ∧ tilesBut site tile s t ∧ unchangedBut [.tiles, .objs, .poison, .log] s t

/-- An end of a region's test, from what the tile was set to and what followed without touching a tile or S.0307. -/
theorem TestEnded.of_verdict {site tile r corrected : Nat} {s u : State} {v : Tile}
    (hl : v.testLock = none) (hn : v.testNext = if 16383 ≤ r then 0 else r + 1)
    (hu : unchangedBut [.objs, .poison, .log] (s.setTile site tile v) u) (ho : u.obj .S0307 site = s.obj .S0307 site) :
    TestEnded site tile r corrected s (u.countTest site corrected) := by
  have hc := hu.trans ((u.countTest_unchanged site corrected).mono (by simp))
  refine ⟨?_, ?_, ?_, (s.setTile_tilesBut site tile v).trans (hc.tilesBut (by simp) _ _),
    ((s.setTile_unchanged site tile v).mono (by simp)).trans (hc.mono (by simp))⟩
  · rw [hc.tile (by simp), State.tile_setTile, hl]
  · rw [hc.tile (by simp), State.tile_setTile, hn]
  · rw [State.countTest_S0307, ho]

/-- Every end of a region's test: it passed, or failed with a spare of its bank left, or with none. -/
theorem State.testVerdict_ended (s : State) (site tile r corrected : Nat) (failed : Bool) (differ : List Nat) :
    TestEnded site tile r corrected s ((s.testVerdict site tile r failed differ).countTest site corrected) := by
  cases failed with
  | false =>
    rw [State.testVerdict_of_passed]
    exact .of_verdict rfl rfl (.refl _ _) rfl
  | true =>
    rcases Nat.eq_zero_or_pos (mapGet 2 (s.tile site tile).spares (r / 512)) with h | h
    · rw [State.testVerdict_of_noSpare _ _ _ _ _ h]
      exact .of_verdict rfl rfl (State.reportRegion_unchanged _ _ _ _ _) (State.reportRegion_objs _ _ _ _ _ _ _ (by decide))
    · rw [State.testVerdict_of_spare _ _ _ _ _ h]
      exact .of_verdict rfl rfl ((State.setObj_unchanged _ _ _ _).mono (by simp)) (State.obj_setObj_ne _ _ (.inl (by decide)))

/-! ### A beat for a bucket (R81) -/

/-- A tile's bucket takes a beat, and a trap record that waited for one waits no longer. -/
def Tile.refilled (t : Tile) : Tile :=
  { t with bucket := min 4 (t.bucket + 1), refillAt := t.refillAt + 16, recWait := none }

/-- Cycles since a trap record began to wait for a beat. -/
def Tile.recWaited (t : Tile) (cyc : Nat) : Nat :=
  match t.recWait with
  | some c => cyc - c
  | none => 0

theorem exec_prioBucketRefill_tile {s : State} {site who : Nat} (h : (s.tile site who).refillAt + 16 ≤ (s.site site).cycles) :
    exec (.prioBucketRefill site false who) s =
      .next ((s.setTile site who (s.tile site who).refilled).count .S0405 site ((s.tile site who).recWaited (s.site site).cycles)) := by
  simp only [exec, execPrioBucketRefill, Nat.not_lt.2 h, Bool.false_eq_true, if_false, Tile.recWaited, Tile.refilled]
  cases (s.tile site who).recWait with
  | some c => rfl
  | none => rfl

/-- An attachment point's bucket of a site takes a beat. -/
def Site.refilled (p : Site) (who : Nat) : Site :=
  { p with
    attach := mapSet p.attach who (min 16 (mapGet 16 p.attach who + 1))
    attachAt := mapSet p.attachAt who (mapGet 0 p.attachAt who + 4) }

theorem exec_prioBucketRefill_attachment {s : State} {site who : Nat} (ha : who ∈ attachTiles)
    (h : mapGet 0 (s.site site).attachAt who + 4 ≤ (s.site site).cycles) :
    exec (.prioBucketRefill site true who) s = .next (s.setSite site ((s.site site).refilled who)) := by
  have hc : attachTiles.contains who = true := List.contains_iff_mem.2 ha
  simp only [exec, execPrioBucketRefill, hc, Nat.not_lt.2 h, if_true, Bool.not_true, decide_false, Bool.or_self, Bool.false_eq_true,
    if_false, Site.refilled]

/-- Settles O17: each command's next state is written out once, and every clause is read off what its updates change. -/
theorem tileStoreTestAndBucketsComplete : Obligations.TileStoreTestAndBucketsComplete := by
  unfold Obligations.TileStoreTestAndBucketsComplete
  refine ⟨fun s site tile r ecc hi ht hl hr => ?interval, fun s site tile r corrected failed differ hl => ?done,
    fun s site who h => ?tileBucket, fun s site who ha h => ?attachBucket⟩
  case interval =>
    have hu := State.storeEcc_unchanged (s.setTile site tile { s.tile site tile with testLock := some r, testTime := s.time }) site tile
      (fun u => u / 8 == r) ecc
    refine ⟨_, exec_storeTestInterval_of_due ecc hi ht hl hr, ?_, (State.setTile_tilesBut _ _ _ _).trans (hu.tilesBut (by simp) _ _),
      State.storeEcc_S0307 _ _ _ _ _, fun u hue hlt hur => State.storeEcc_marks _ _ _ _ _ hue hlt (beq_iff_eq.2 hur),
      ((State.setTile_unchanged _ _ _ _).mono (by simp)).trans (hu.mono (by simp)), State.storeEcc_objs _ _ _ _ _⟩
    rw [hu.tile (by simp), State.tile_setTile]
  case done =>
    intro left
    have hc := State.countTest_unchanged (s.testVerdict site tile r failed differ) site corrected
    obtain ⟨hlock, hnext, hcount, htiles, hparts⟩ := State.testVerdict_ended s site tile r corrected failed differ
    refine ⟨_, exec_storeTestDone failed differ corrected hl, hlock, hnext, hcount, htiles, hparts, ?passed, ?spare, ?noSpare⟩
    all_goals rw [hc.tile (by simp), State.countTest_poison, State.countTest_log]
    case passed =>
      rintro rfl
      rw [State.testVerdict_of_passed, State.tile_setTile]
      exact ⟨rfl, rfl, rfl⟩
    case spare =>
      rintro rfl h
      rw [State.testVerdict_of_spare _ _ _ _ _ h, (State.setObj_unchanged _ _ _ _).tile (by simp), State.tile_setTile]
      exact ⟨mapGet_mapSet_same _ _ _ _, rfl, rfl⟩
    case noSpare =>
      rintro rfl h
      rw [State.countTest_objs _ _ _ _ _ (by decide), State.testVerdict_of_noSpare _ _ _ _ _ h,
        (State.reportRegion_unchanged _ _ _ _ _).tile (by simp), State.tile_setTile]
      exact ⟨rfl, State.reportRegion_flags _ _ _ _ _, State.reportRegion_event _ _ _ _ _, fun u => State.reportRegion_marks _ _ _ _ _⟩
  case tileBucket =>
    exact ⟨_, exec_prioBucketRefill_tile h, by rw [State.count_tile, State.tile_setTile]; rfl, State.obj_count _ _ _ _,
      (State.setTile_tilesBut _ _ _ _).trans ((State.count_unchanged _ _ _ _).tilesBut (by simp) _ _),
      ((State.setTile_unchanged _ _ _ _).mono (by simp)).trans ((State.count_unchanged _ _ _ _).mono (by simp)),
      State.count_objs _ _ _ _⟩
  case attachBucket =>
    refine ⟨_, exec_prioBucketRefill_attachment ha h, ?_, fun k hk => ?_, ?_, fun p hp => State.site_setSite_ne _ _ hp,
      State.setSite_unchanged _ _ _⟩
    · rw [State.site_setSite, Site.refilled, mapGet_mapSet_same]
    · rw [State.site_setSite, Site.refilled, mapGet_mapSet_ne _ _ _ hk]
    · rw [State.site_setSite, Site.refilled, mapGet_mapSet_same]

end Sys2Proof.Machine
end

section
/-!
The head of a unit's queue completes (R38, R56, R57): what a run of units leaves of memory, what is done after a completion leaves of the
tile's queues (R64, R72), and the ends of matrix and vector steps.
-/

namespace Sys2Proof.Machine

/-! ### Several units written (R44, R71) -/

theorem State.putUnits_unchanged (s : State) (a : Nat) (l : List Cell32) : unchangedBut [.mem, .poison] s (s.putUnits a l) := by
  induction l generalizing s a with
  | nil => exact .refl _ _
  | cons u r ih =>
    rw [State.putUnits]
    exact (s.putUnit_unchanged a u).trans (ih _ _)

theorem State.putUnits_bytesOutside {s : State} (a : Nat) (l : List Cell32) (h : s.mem.wf) :
    bytesOutside a (a + 32 * l.length) s (s.putUnits a l) := by
  induction l generalizing s a with
  | nil => exact fun _ _ => rfl
  | cons u r ih =>
    intro b hb
    rw [List.length_cons] at hb
    have hw : (s.putUnit a u).mem.wf := by rw [State.putUnit_mem]; exact memPutNum_wf _ _ _ h
    rw [State.putUnits, ih (a + 32) hw b (by omega), State.putUnit_bytesOutside a u h b (by omega)]

/-- What is written to memory and marks depends on memory and marks alone. -/
theorem State.putUnits_congr {s t : State} (a : Nat) (l : List Cell32) (hm : t.mem = s.mem) (hp : t.poison = s.poison) :
    (t.putUnits a l).mem = (s.putUnits a l).mem ∧ (t.putUnits a l).poison = (s.putUnits a l).poison := by
  induction l generalizing s t a with
  | nil => exact ⟨hm, hp⟩
  | cons u r ih =>
    rw [State.putUnits, State.putUnits]
    exact ih (a + 32) (by rw [State.putUnit_mem, State.putUnit_mem, hm]) (by simp only [State.putUnit, hp])

/-! ### What a completion leaves of the tile's queues (R64, R72) -/

/-- The tile has the same matrix and vector queues and the same generator, and is trapped if it was. -/
def Tile.KeepsUnits (t t' : Tile) : Prop := t'.mq = t.mq ∧ t'.vq = t.vq ∧ t'.rng = t.rng ∧ (t.trapped = true → t'.trapped = true)

/-- A WAIT or FENCE that ends, a trap for its failed tag and a bank that begins to change leave the units' queues. -/
theorem State.settle_keepsUnits (s : State) (site tl : Nat) :
    Tile.KeepsUnits (s.tile site tl) ((s.settle site tl).tile site tl) := by
  unfold State.settle
  dsimp only
  split
  · split
    · split
      · rw [State.trapTile_tile, State.tile_setTile]
        exact ⟨rfl, rfl, rfl, fun _ => rfl⟩
      · rw [State.tile_setTile]
        exact ⟨rfl, rfl, rfl, id⟩
    · rw [State.tile_setTile]
      exact ⟨rfl, rfl, rfl, id⟩
  · split <;> (rw [State.tile_setTile]; exact ⟨rfl, rfl, rfl, id⟩)
  · rw [State.tile_setTile]
    exact ⟨rfl, rfl, rfl, id⟩

/-! ### A result that is written and settled -/

section
variable {s u x : State} (site tl a : Nat) (l : List Cell32)

theorem State.settle_putUnits_unchanged (x : State) :
    unchangedBut [.tiles, .objs, .sites, .mem, .poison] x ((x.putUnits a l).settle site tl) :=
  ((x.putUnits_unchanged a l).mono (by simp)).trans ((State.settle_unchanged _ _ _).mono (by simp))

theorem State.settle_putUnits_tilesBut (x : State) : tilesBut site tl x ((x.putUnits a l).settle site tl) :=
  ((x.putUnits_unchanged a l).tilesBut (by simp) _ _).trans (State.settle_tilesBut _ _ _)

theorem State.settle_putUnits_keepsUnits (x : State) :
    Tile.KeepsUnits (x.tile site tl) (((x.putUnits a l).settle site tl).tile site tl) := by
  rw [← (x.putUnits_unchanged a l).tile (by simp)]
  exact State.settle_keepsUnits _ _ _

/-- A result that is written from a state with the memory and marks of `u` leaves those that it leaves in `u`. -/
theorem State.settle_putUnits_sameMemory (hx : unchangedBut [.tiles, .freeCount] u x) :
    sameMemory (u.putUnits a l) ((x.putUnits a l).settle site tl) := by
  obtain ⟨hm, hp⟩ := State.putUnits_congr a l (hx .mem (by simp)) (hx .poison (by simp))
  have hs := (x.putUnits a l).settle_unchanged site tl
  exact ⟨fun b => by rw [hs.mem (by simp), hm], (hs .poison (by simp)).trans hp⟩

theorem State.settle_putUnits_bytesOutside (hm : x.mem = s.mem) (h : s.mem.wf) :
    bytesOutside a (a + 32 * l.length) s ((x.putUnits a l).settle site tl) := by
  intro b hb
  rw [(State.settle_unchanged _ _ _).mem (by simp), State.putUnits_bytesOutside a l (hm ▸ h) b hb, hm]

end

/-! ### The head leaves its queue (R49, R56) -/

/-- The rest of a queue once its head has completed: its first step starts no earlier than that. -/
def startsFrom (due : Nat) : List Job → List Job
  | [] => []
  | k :: r => { k with start := max k.start due } :: r

/-- What a queue shows that stands behind a completed step: no step was lost, and the next one has not begun before. -/
theorem queue_of_startsFrom {due : Nat} {l q : List Job} (h : l = startsFrom due q) :
    l.length = q.length ∧ ∀ k, l.head? = some k → due ≤ k.start := by
  subst h
  cases q with
  | nil => exact ⟨rfl, fun k hk => nomatch hk⟩
  | cons j r =>
    refine ⟨rfl, fun k hk => ?_⟩
    cases hk
    exact le_max_right _ _

section
variable (s : State) (site tl : Nat) (ecc : Ecc) (j : Job) (q : List Job) (due : Nat)

/-- The state once matrix step `j`, with `q` behind it, has completed at cycle `due` and not yet written or trapped. -/
def State.matrixLeft : State :=
  let t := s.tile site tl
  (s.storeEcc site tl j.matrixRead ecc).setTile site tl
    ({ t with mq := startsFrom due q, busyIv := t.busyIv ++ [(j.start, due)] }.release .matrix)

theorem State.matrixLeft_mq : ((s.matrixLeft site tl ecc j q due).tile site tl).mq = startsFrom due q := by
  rw [State.matrixLeft, State.tile_setTile]
  rfl

theorem State.matrixLeft_of_storeEcc : unchangedBut [.tiles] (s.storeEcc site tl j.matrixRead ecc) (s.matrixLeft site tl ecc j q due) :=
  State.setTile_unchanged _ _ _ _

theorem State.matrixLeft_unchanged : unchangedBut [.tiles, .objs, .poison] s (s.matrixLeft site tl ecc j q due) :=
  ((s.storeEcc_unchanged _ _ _ _).mono (by simp)).trans ((s.matrixLeft_of_storeEcc site tl ecc j q due).mono (by simp))

theorem State.matrixLeft_tilesBut : tilesBut site tl s (s.matrixLeft site tl ecc j q due) :=
  ((s.storeEcc_unchanged _ _ _ _).tilesBut (by simp) _ _).trans (State.setTile_tilesBut _ _ _ _)

/-- The state once vector step `j`, with `q` behind it, has completed at cycle `due` and not yet written: a CONVERT has taken its
draws (R27), and the result the free values of its padding. -/
def State.vectorLeft : State :=
  let t := s.tile site tl
  let u := s.storeEcc site tl (inRegions j.vecReads) ecc
  { u.setTile site tl ({ t with vq := startsFrom due q, rng := if stepOp j.word = 5 then (cvtRnds t j.word).2 else t.rng }.release .vector) with
    freeCount := u.freeCount + 1 }

theorem State.vectorLeft_tile : ((s.vectorLeft site tl ecc j q due).tile site tl).vq = startsFrom due q ∧
    ((s.vectorLeft site tl ecc j q due).tile site tl).rng =
      if stepOp j.word = 5 then (cvtRnds (s.tile site tl) j.word).2 else (s.tile site tl).rng := by
  have h (u : State) (v : Tile) (n : Nat) : { u.setTile site tl v with freeCount := n }.tile site tl = v := State.tile_setTile _ _ _ _
  rw [State.vectorLeft, h]
  exact ⟨rfl, rfl⟩

theorem State.vectorLeft_of_storeEcc :
    unchangedBut [.tiles, .freeCount] (s.storeEcc site tl (inRegions j.vecReads) ecc) (s.vectorLeft site tl ecc j q due) := by
  rw [unchangedBut_iff]
  simp [State.vectorLeft]

theorem State.vectorLeft_unchanged : unchangedBut [.tiles, .objs, .poison, .freeCount] s (s.vectorLeft site tl ecc j q due) :=
  ((s.storeEcc_unchanged _ _ _ _).mono (by simp)).trans ((s.vectorLeft_of_storeEcc site tl ecc j q due).mono (by simp))

theorem State.vectorLeft_freeCount : (s.vectorLeft site tl ecc j q due).freeCount = s.freeCount + 1 :=
  congrArg (· + 1) (s.storeEcc_unchanged site tl (inRegions j.vecReads) ecc .freeCount (by simp))

theorem State.vectorLeft_tilesBut : tilesBut site tl s (s.vectorLeft site tl ecc j q due) :=
  ((s.storeEcc_unchanged _ _ _ _).tilesBut (by simp) _ _).trans (State.setTile_tilesBut _ _ _ _)

end

/-! ### The ends of a matrix step (R38, R56, R72) -/

/-- What stops matrix step `j` short of its result, in a state whose ECC findings are marked: only a bin step can be stopped. -/
def State.matrixStop (u : State) (site tl : Nat) (t : Tile) (j : Job) : Option BinStop :=
  if stepOp j.word = 1 then u.binStop site tl t j else none

section
variable {s : State} {site tile conflicts due : Nat} (ecc : Ecc) {j : Job} {q : List Job} (hq : (s.tile site tile).mq = j :: q)
  (he : j.start + matrixCycles j.word + conflicts = due) (hd : due ≤ (s.site site).cycles)

include hq he hd

theorem exec_matrixStepDone_of_waits
    (h : (s.storeEcc site tile j.matrixRead ecc).matrixStop site tile (s.tile site tile) j = some .waits) :
    exec (.matrixStepDone site tile conflicts ecc) s = .next s := by
  rw [State.matrixStop] at h
  simp only [exec, execMatrixStepDone, hq, he, Nat.not_lt.2 hd, h, if_true, if_false]

theorem exec_matrixStepDone_of_trap {c d : Nat}
    (h : (s.storeEcc site tile j.matrixRead ecc).matrixStop site tile (s.tile site tile) j = some (.trap c d)) :
    exec (.matrixStepDone site tile conflicts ecc) s =
      .next (((s.matrixLeft site tile ecc j q due).trapTile site tile c d 2 (stepOp j.word)
        j.index).settle site tile) := by
  rw [State.matrixStop] at h
  simp only [exec, execMatrixStepDone, hq, he, Nat.not_lt.2 hd, h, if_false, Option.some.injEq, reduceCtorEq]
  cases q <;> rfl

theorem exec_matrixStepDone_of_result
    (h : (s.storeEcc site tile j.matrixRead ecc).matrixStop site tile (s.tile site tile) j = none) :
    exec (.matrixStepDone site tile conflicts ecc) s =
      .next (((s.matrixLeft site tile ecc j q due).putUnits (storeAddr site tile (j.ea.getD 2 0))
        (packUnits 4 ((s.storeEcc site tile j.matrixRead ecc).matrixResult site tile (s.tile site tile) j) (fun _ => 0))).settle
          site tile) := by
  rw [State.matrixStop] at h
  simp only [exec, execMatrixStepDone, hq, he, Nat.not_lt.2 hd, h, if_false, reduceCtorEq]
  cases q <;> rfl

end

section
variable (x : State) (site tl c d cls op i : Nat)

theorem State.settle_trapTile_unchanged : unchangedBut [.tiles, .objs, .sites] x ((x.trapTile site tl c d cls op i).settle site tl) :=
  (x.trapTile_unchanged _ _ _ _ _ _ _).trans (State.settle_unchanged _ _ _)

theorem State.settle_trapTile_tilesBut : tilesBut site tl x ((x.trapTile site tl c d cls op i).settle site tl) :=
  (x.trapTile_tilesBut _ _ _ _ _ _ _).trans (State.settle_tilesBut _ _ _)

theorem State.settle_trapTile_mq :
    (((x.trapTile site tl c d cls op i).settle site tl).tile site tl).mq = (x.tile site tl).mq := by
  obtain ⟨hmq, -⟩ := (x.trapTile site tl c d cls op i).settle_keepsUnits site tl
  rw [hmq, State.trapTile_tile]

theorem State.settle_trapTile_trapped : (((x.trapTile site tl c d cls op i).settle site tl).tile site tl).trapped = true := by
  obtain ⟨-, -, -, h⟩ := (x.trapTile site tl c d cls op i).settle_keepsUnits site tl
  exact h (by rw [State.trapTile_tile])

end

/-! ### The end of a vector step (R57) -/

theorem exec_vectorStepDone_of_due {s : State} {site tile conflicts due : Nat} (ecc : Ecc) {j : Job} {q : List Job}
    (hq : (s.tile site tile).vq = j :: q) (he : j.start + vecCycles j.word + conflicts = due) (hd : due ≤ (s.site site).cycles) :
    exec (.vectorStepDone site tile conflicts ecc) s =
      .next (((s.vectorLeft site tile ecc j q due).putUnits (storeAddr site tile (j.ea.getD 3 0))
        ((s.storeEcc site tile (inRegions j.vecReads) ecc).vecResult site tile (s.tile site tile) j)).settle site tile) := by
  simp only [exec, execVectorStepDone, hq, he, Nat.not_lt.2 hd, if_false]
  cases q <;> rfl

/-- Settles O9: every end of a step writes its result, or traps, in the state that its head has left, and each clause is read off what that
and the settling behind it change. -/
theorem unitStepsWriteTheirResults : Obligations.UnitStepsWriteTheirResults := by
  unfold Obligations.UnitStepsWriteTheirResults
  refine ⟨fun s site tile conflicts ecc j q hw hq hd => ?matrix, fun s site tile conflicts ecc j q hw hq hd => ?vector⟩
  case matrix =>
    intro u stop res a
    generalize he : j.start + matrixCycles j.word + conflicts = due at hd ⊢
    have hleft := s.matrixLeft_mq site tile ecc j q due
    have hu := s.matrixLeft_of_storeEcc site tile ecc j q due
    have hs := s.matrixLeft_unchanged site tile ecc j q due
    have ht := s.matrixLeft_tilesBut site tile ecc j q due
    refine ⟨exec_matrixStepDone_of_waits ecc hq he hd, fun hwait => ?_⟩
    cases h : stop with
    | none =>
      obtain ⟨hmq, -⟩ := (s.matrixLeft site tile ecc j q due).settle_putUnits_keepsUnits site tile a res
      obtain ⟨hlength, hhead⟩ := queue_of_startsFrom (hmq.trans hleft)
      exact ⟨_, exec_matrixStepDone_of_result ecc hq he hd h, ht.trans (State.settle_putUnits_tilesBut _ _ _ _ _), hlength, hhead,
        fun _ => ⟨State.settle_putUnits_sameMemory _ _ _ _ (hu.mono (by simp)),
          State.settle_putUnits_bytesOutside _ _ _ _ (hs.mem (by simp)) hw⟩,
        fun hn => absurd rfl hn, (hs.mono (by simp)).trans (State.settle_putUnits_unchanged _ _ _ _ _)⟩
    | some b =>
      cases b with
      | waits => exact absurd h hwait
      | trap c d =>
        have hp := (s.matrixLeft site tile ecc j q due).settle_trapTile_unchanged site tile c d 2 (stepOp j.word) j.index
        obtain ⟨hlength, hhead⟩ := queue_of_startsFrom ((State.settle_trapTile_mq _ site tile c d 2 (stepOp j.word) j.index).trans hleft)
        exact ⟨_, exec_matrixStepDone_of_trap ecc hq he hd h, ht.trans (State.settle_trapTile_tilesBut _ _ _ _ _ _ _ _), hlength, hhead,
          fun hn => absurd hn (Option.some_ne_none _),
          fun _ => ⟨State.settle_trapTile_trapped _ _ _ _ _ _ _ _, ((hu.mono (by simp)).trans hp).memory (by simp) (by simp)⟩,
          (hs.mono (by simp)).trans (hp.mono (by simp))⟩
  case vector =>
    intro u res a
    generalize he : j.start + vecCycles j.word + conflicts = due at hd ⊢
    have hu := s.vectorLeft_of_storeEcc site tile ecc j q due
    have hs := s.vectorLeft_unchanged site tile ecc j q due
    have ht := s.vectorLeft_tilesBut site tile ecc j q due
    have hp := (s.vectorLeft site tile ecc j q due).settle_putUnits_unchanged site tile a res
    obtain ⟨hleft, hdraws⟩ := s.vectorLeft_tile site tile ecc j q due
    obtain ⟨-, hvq, hrng, -⟩ := (s.vectorLeft site tile ecc j q due).settle_putUnits_keepsUnits site tile a res
    obtain ⟨hlength, hhead⟩ := queue_of_startsFrom (hvq.trans hleft)
    exact ⟨_, exec_vectorStepDone_of_due ecc hq he hd, ht.trans (State.settle_putUnits_tilesBut _ _ _ _ _), hlength, hhead,
      hrng.trans hdraws, State.settle_putUnits_sameMemory _ _ _ _ hu, State.settle_putUnits_bytesOutside _ _ _ _ (hs.mem (by simp)) hw,
      (hp .freeCount (by simp)).trans (s.vectorLeft_freeCount _ _ _ _ _ _), (hs.mono (by simp)).trans (hp.mono (by simp))⟩

end Sys2Proof.Machine
end

section
/-!
Steps that issue (R49, R53, R64, R65): the tile that issuing leaves, field by field, and the steps whose effect on it is one update of the
tile: control steps (Table 3.12), and steps that join a unit's queue.
-/

namespace Sys2Proof.Machine

/-! ### The tile that issuing leaves -/

/-- The sequencer's move as one record, with what LOOP nesting gives read off its three parts. -/
theorem Tile.advance_eq (t : Tile) (cyc next : Nat) :
    t.advance cyc next = { t with
      issued := true, firstCycle := if t.issued then t.firstCycle else cyc, lastIssue := cyc
      loops := (loopEnd t.loops next t.ix).1, pc := (loopEnd t.loops next t.ix).2.1, ix := (loopEnd t.loops next t.ix).2.2
      wait := none, blockEnd := 0, periodAt := if t.issued then t.periodAt else cyc } := rfl

/-- The tile holds the same tags and transfers, queues, blocks, banks and records, and runs the same wave with the same parameters. -/
def Tile.SameWork (t t' : Tile) : Prop :=
  t'.mq = t.mq ∧ t'.vq = t.vq ∧ t'.fq = t.fq ∧ t'.tags = t.tags ∧ t'.async = t.async ∧ t'.block = t.block ∧ t'.banks = t.banks ∧
  t'.wp = t.wp ∧ t'.rng = t.rng ∧ t'.trapped = t.trapped ∧ t'.traps = t.traps

section
variable (s : State) (site tl cls op : Nat) (w : StepWord) (sh : Shape) (next : Nat)

theorem State.issued_sameWork : Tile.SameWork (s.tile site tl) ((s.issued site tl cls op w sh next).tile site tl) := by
  rw [State.issued_tile, Tile.advance_eq]
  exact ⟨rfl, rfl, rfl, rfl, rfl, rfl, rfl, rfl, rfl, rfl, rfl⟩

theorem State.issued_S0302 :
    (s.issued site tl cls op w sh next).obj .S0302 site = s.obj .S0302 site + (s.tile site tl).waited w (s.site site).cycles := by
  have hcount (n : Nat) : ((s.count .S0302 site ((s.tile site tl).waited w (s.site site).cycles)).count .S0405 site n).obj .S0302 site =
      s.obj .S0302 site + (s.tile site tl).waited w (s.site site).cycles := by
    rw [State.obj_count_ne _ _ _ _ (by decide), State.obj_count]
  unfold State.issued
  simp only [State.obj_setTile]
  split
  · rw [State.traceRecord_objs _ _ _ _ _ _ _ _ (by decide), hcount]
  · rw [hcount]

end

/-- Settles O5: what issuing leaves of the tile is read off `issued_tile`, and the rest off what counters and the trace change. -/
theorem issueMovesTheTileOn : Obligations.IssueMovesTheTileOn := by
  unfold Obligations.IssueMovesTheTileOn
  intro s site tl cls op w sh next eff T b B
  have hB : B = _ := (s.issued_tile site tl cls op w sh next).trans (Tile.advance_eq _ _ _)
  have hmoved : B.issued = true ∧ B.lastIssue = (s.site site).cycles ∧ B.pc = (loopEnd T.loops next T.ix).2.1 ∧
      B.loops = (loopEnd T.loops next T.ix).1 ∧ B.ix = (loopEnd T.loops next T.ix).2.2 ∧
      B.sb = T.sb ++ (match sh.entry with | some o => [SbEntry.mk o sh.reads sh.writes] | none => []) ∧
      B.bucket = T.bucket - sh.beats := by
    rw [hB]
    exact ⟨rfl, rfl, rfl, rfl, rfl, rfl, rfl⟩
  obtain ⟨hissued, hlast, hpc, hloops, hix, hsb, hbucket⟩ := hmoved
  obtain ⟨hmq, hvq, hfq, htags, hasync, hblock, hbanks, hwp, hrng, htrapped, htraps⟩ := s.issued_sameWork site tl cls op w sh next
  exact ⟨State.issue_of_canIssue next eff, hissued, hlast, hpc, hloops, hix, hsb, hbucket, hmq, hvq, hfq, htags, hasync, hblock, hbanks,
    hwp, hrng, htrapped, htraps, s.issued_S0302 site tl cls op w sh next, s.issued_tilesBut site tl cls op w sh next,
    s.issued_unchanged site tl cls op w sh next, s.issued_objs site tl cls op w sh next⟩

end Sys2Proof.Machine
end

section
/-!
The record that a trap leaves (R69, Table 3.14), the wait that it ends, and S.0301, which follows the wave in which the die trapped before.
-/

namespace Sys2Proof.Machine

/-! ### A trap's records (R69) -/

/-- The logical stack of a site depends on the map of stacks alone. -/
theorem State.stackOf_congr {s t : State} (h : ∀ l, t.obj .X0F01 l = s.obj .X0F01 l) (site : Nat) : t.stackOf site = s.stackOf site := by
  simp only [State.stackOf, h]

/-- Nothing is counted when nothing waits: the cycles of no wait are 0. -/
theorem State.countWait_S0302 (s : State) (site tl gap : Nat) :
    (s.countWait site tl gap).obj .S0302 site = s.obj .S0302 site + (s.tile site tl).waitedGap gap (s.site site).cycles := by
  unfold State.countWait
  dsimp only
  split
  · next h =>
    simp only [Bool.and_eq_true, Option.isNone_iff_eq_none, beq_iff_eq] at h
    obtain ⟨⟨hwait, hblock⟩, hend⟩ := h
    simp [Tile.waitedGap, hwait, hblock, hend]
  · rw [State.obj_setTile, State.obj_count_ne _ _ _ _ (by decide), State.obj_count]

/-- The record of Table 3.14 that a trap leaves. -/
def State.trapRec (s : State) (site tl code d cls op i : Nat) : TrapRec :=
  { code := code, cls := cls, op := op, tile := tl, stack := (s.stackOf site).getD 0, index := i, wave := (s.tile site tl).wave, time := s.time
    detailA := d % 2 ^ 32, cycles := (s.tile site tl).runCycles (s.site site).cycles }

section
variable (s : State) (site tl code d cls op i : Nat)

/-- The first trap of a die, or one of a later wave than the last that S.0301 took. -/
def State.trapsFirst : Bool :=
  match (s.site site).trapWave with
  | none => true
  | some w => waveAfter (s.tile site tl).wave w

theorem State.trapTile_trapped : ((s.trapTile site tl code d cls op i).tile site tl).trapped = true := by
  rw [State.trapTile_tile]

theorem State.trapTile_traps :
    ((s.trapTile site tl code d cls op i).tile site tl).traps = (s.tile site tl).traps ++ [s.trapRec site tl code d cls op i] := by
  rw [State.trapTile_tile, State.stackOf_congr (fun l => s.countWait_objs site tl 1 .X0F01 l (by decide))]
  rfl

/-- A trap in two parts: the wait that it ends, then what it marks and records. -/
theorem State.trapTile_eq : s.trapTile site tl code d cls op i =
    let u := s.countWait site tl 1
    let v := (u.setTile site tl { u.tile site tl with
      trapped := true, traps := (u.tile site tl).traps ++ [s.trapRec site tl code d cls op i], wait := none
      recWait := if (u.tile site tl).bucket = 0 then (u.tile site tl).recWait.or (some (s.site site).cycles) else (u.tile site tl).recWait }).bump .S0300 site 1
    if s.trapsFirst site tl then
      (v.setSite site { s.site site with trapWave := some (s.tile site tl).wave }).setObj .S0301 site (s.trapRec site tl code d cls op i).num
    else v := by
  simp only [State.trapTile, State.trapsFirst, State.trapRec, s.countWait_site, s.countWait_tile, s.countWait_time,
    State.stackOf_congr (fun l => s.countWait_objs site tl 1 .X0F01 l (by decide))]
  rfl

theorem State.trapTile_S0302 :
    (s.trapTile site tl code d cls op i).obj .S0302 site = s.obj .S0302 site + (s.tile site tl).waitedGap 1 (s.site site).cycles := by
  rw [← s.countWait_S0302 site tl 1, State.trapTile_eq]
  dsimp only
  split <;> simp [State.bump]

theorem State.trapTile_of_first (h : s.trapsFirst site tl = true) :
    (s.trapTile site tl code d cls op i).obj .S0301 site = (s.trapRec site tl code d cls op i).num ∧
      ((s.trapTile site tl code d cls op i).site site).trapWave = some (s.tile site tl).wave := by
  rw [State.trapTile_eq]
  simp only [h, if_true, State.obj_setObj, true_and]
  exact congrArg Site.trapWave (State.site_setSite _ _ _)

theorem State.trapTile_of_not_first (h : s.trapsFirst site tl = false) :
    (s.trapTile site tl code d cls op i).obj .S0301 site = s.obj .S0301 site ∧
      ((s.trapTile site tl code d cls op i).site site).trapWave = (s.site site).trapWave := by
  rw [← s.countWait_objs site tl 1 .S0301 site (by decide), ← s.countWait_site site tl 1 site, State.trapTile_eq]
  simp only [h, Bool.false_eq_true, if_false, State.obj_bump_ne _ _ _ _ (show Obj.S0301 ≠ Obj.S0300 by decide), State.obj_setTile, true_and]
  rfl

end

/-- Settles O11: the tile and its record are what `trapTile_tile` gives; S.0301 follows the wave in which the die trapped before. -/
theorem trapRecords : Obligations.TrapRecords := by
  unfold Obligations.TrapRecords
  intro s site tl code d cls op i T r t
  have hr : r = s.trapRec site tl code d cls op i := rfl
  refine ⟨?tile, s.trapTile_S0300 site tl code d cls op i, s.trapTile_S0302 site tl code d cls op i, ?first, ?later,
    s.trapTile_tilesBut site tl code d cls op i, s.trapTile_objs site tl code d cls op i, s.trapTile_unchanged site tl code d cls op i⟩
  case tile =>
    rw [hr]
    refine (s.trapTile_tile site tl code d cls op i).trans ?_
    rw [State.stackOf_congr (fun l => s.countWait_objs site tl 1 .X0F01 l (by decide))]
    rfl
  case first =>
    intro h
    rw [hr]
    refine s.trapTile_of_first site tl code d cls op i ?_
    rcases h with h | ⟨v, hv, h⟩ <;> simp only [State.trapsFirst, *]
    exact h
  case later =>
    rintro ⟨v, hv, h⟩
    refine s.trapTile_of_not_first site tl code d cls op i ?_
    simp only [State.trapsFirst, hv]
    exact h

end Sys2Proof.Machine
end

section
/-!
Steps whose whole effect is one update of the tile that issuing leaves: steps that join a unit's queue (R49, R54, R55, R57), and the control
steps of Table 3.12 that do not block.
-/

namespace Sys2Proof.Machine

/-- A command that issues a step answers the step's effect in the state that issuing leaves. -/
theorem exec_of_canIssue {i : Instr} {s : State} {site tl cls op : Nat} {w : StepWord} {sh : Shape} {next : Nat} {eff : State → State}
    (hi : exec i s = .next (s.issue site tl cls op w sh next eff)) (h : s.canIssue site tl cls op w sh = true) :
    exec i s = .next (eff (s.issued site tl cls op w sh next)) := by
  rw [hi, State.issue_of_canIssue next eff h]

/-! ### Steps that join a unit's queue -/

section
variable (s : State) (site tl cls op : Nat) (w w' : StepWord) (sh : Shape) (next : Nat) (ea : List Nat) (i : Nat)

theorem matrixQueue_issued : matrixQueue site tl w' ea i (s.issued site tl cls op w sh next) =
    (s.issued site tl cls op w sh next).setTile site tl { (s.issued site tl cls op w sh next).tile site tl with
      mq := (s.tile site tl).mq ++ [Job.mk w' ea (s.site site).cycles i] } := by
  obtain ⟨hmq, -⟩ := s.issued_sameWork site tl cls op w sh next
  simp only [matrixQueue, hmq, s.issued_site]

theorem vectorQueue_issued : vectorQueue site tl w' ea i (s.issued site tl cls op w sh next) =
    (s.issued site tl cls op w sh next).setTile site tl { (s.issued site tl cls op w sh next).tile site tl with
      vq := (s.tile site tl).vq ++ [Job.mk w' ea (s.site site).cycles i] } := by
  obtain ⟨-, hvq, -⟩ := s.issued_sameWork site tl cls op w sh next
  simp only [vectorQueue, hvq, s.issued_site]

/-- What follows when a step's effect is one update of its tile. -/
theorem State.issued_setTile (v : Tile) :
    ((s.issued site tl cls op w sh next).setTile site tl v).tile site tl = v ∧
      unchangedBut [.tiles] (s.issued site tl cls op w sh next) ((s.issued site tl cls op w sh next).setTile site tl v) ∧
      tilesBut site tl s ((s.issued site tl cls op w sh next).setTile site tl v) :=
  ⟨State.tile_setTile _ _ _ _, State.setTile_unchanged _ _ _ _, (s.issued_tilesBut _ _ _ _ _ _ _).trans (State.setTile_tilesBut _ _ _ _)⟩

end

theorem vecIssue_of_canIssue {s : State} {site tl op : Nat} {w : StepWord} {bad : Option (Nat × Nat)}
    (h : s.canIssue site tl 3 op w (vecShape (s.tile site tl) w bad) = true) :
    vecIssue op site tl w bad s =
      let b := s.issued site tl 3 op w (vecShape (s.tile site tl) w bad) ((s.tile site tl).pc + 1)
      b.setTile site tl { b.tile site tl with vq := (s.tile site tl).vq ++
        [Job.mk w [(s.tile site tl).ea w 18, (s.tile site tl).ea w 38, (s.tile site tl).ea w 58, (s.tile site tl).ea w 78] (s.site site).cycles
          (s.tile site tl).pc] } :=
  (State.issue_of_canIssue _ _ h).trans (vectorQueue_issued _ _ _ _ _ _ _ _ _ _ _)

/-- Settles O8: each step's effect is one update of the tile that issuing leaves, its unit's queue. -/
theorem unitStepsComplete : Obligations.UnitStepsComplete := by
  unfold Obligations.UnitStepsComplete
  intro s site tile w T c joinsM joinsV
  have hM {op : Nat} {sh : Shape} {ea : List Nat} {o : Out}
      (ho : o = .next (s.issue site tile 2 op w sh (T.pc + 1) (matrixQueue site tile w ea T.pc))) : joinsM sh op ea o := fun h =>
    ⟨_, ho.trans (congrArg _ ((State.issue_of_canIssue _ _ h).trans (matrixQueue_issued _ _ _ _ _ _ _ _ _ _ _))),
      s.issued_setTile _ _ _ _ _ _ _ _⟩
  have hV {op : Nat} {bad : Option (Nat × Nat)} {o : Out} (ho : o = .next (vecIssue op site tile w bad s)) : joinsV bad op o := fun h =>
    ⟨_, ho.trans (congrArg _ (vecIssue_of_canIssue h)), s.issued_setTile _ _ _ _ _ _ _ _⟩
  exact ⟨hM rfl, hM rfl, hV rfl, hV rfl, hV rfl, hV rfl, hV rfl, hV rfl⟩

/-! ### Control steps that do not block (Table 3.12) -/

/-- An index register after a SETIX. -/
theorem Tile.ixReg_mapSet (t : Tile) (k n : Nat) (r : IxReg) :
    ({ t with ix := mapSet t.ix n r } : Tile).ixReg k = if k = n then r else t.ixReg k := by
  simp only [Tile.ixReg, mapGet_mapSet]

/-- A fold that sets some keys of a map, each once to a value of its own. -/
theorem mapGet_foldl_mapSet {κ α : Type} [DecidableEq κ] (d : α) (f : κ → α) (l : List κ) (m : AMap κ α) (k : κ) :
    mapGet d (l.foldl (fun m b => mapSet m b (f b)) m) k = if k ∈ l then f k else mapGet d m k := by
  induction l generalizing m with
  | nil => simp
  | cons b r ih =>
    rw [List.foldl_cons, ih, mapGet_mapSet]
    by_cases hk : k = b <;> simp [hk]

/-- The tile after a BANKPWR with a mask of banks and a state to reach. -/
def Tile.requestBanks (t : Tile) (mask : Nat) (target : BankSt) (now : Nat) : Tile :=
  { t with
    banks := ((List.range 32).filter (fun b => bitGet mask b)).foldl
      (fun m b => mapSet m b ((t.bank b).request target (t.holdsBank b) now)) t.banks }

theorem Tile.bank_requestBanks (t : Tile) (mask : Nat) (target : BankSt) (now k : Nat) :
    (t.requestBanks mask target now).bank k =
      if k < 32 ∧ bitGet mask k = true then (t.bank k).request target (t.holdsBank k) now else t.bank k := by
  unfold Tile.requestBanks
  rw [Tile.bank, mapGet_foldl_mapSet]
  simp only [List.mem_filter, List.mem_range, Tile.bank]

/-- The request of a bank reads the bank's state and whether the scoreboard holds it. -/
theorem Tile.bank_congr {t t' : Tile} (hb : t'.banks = t.banks) (hs : t'.sb = t.sb) (k : Nat) :
    t'.bank k = t.bank k ∧ t'.holdsBank k = t.holdsBank k := by
  simp only [Tile.bank, Tile.holdsBank, hb, hs, true_and]

/-- A step whose shape names no holder leaves the scoreboard as it is. -/
theorem State.issued_sb (s : State) (site tl cls op : Nat) (w : StepWord) (sh : Shape) (next : Nat) (h : sh.entry = none) :
    ((s.issued site tl cls op w sh next).tile site tl).sb = (s.tile site tl).sb := by
  rw [State.issued_tile, Tile.advance_eq, h]
  exact List.append_nil _

/-- A MARK leaves no other trace record as it issues (R361). -/
theorem State.issued_mark_log (s : State) (site tl : Nat) (w : StepWord) (sh : Shape) (next : Nat) :
    (s.issued site tl 1 6 w sh next).log = s.log := by
  simp [State.issued]

theorem State.issued_wave (s : State) (site tl cls op : Nat) (w : StepWord) (sh : Shape) (next : Nat) :
    ((s.issued site tl cls op w sh next).tile site tl).wave = (s.tile site tl).wave := by
  rw [State.issued_tile, Tile.advance_eq]

theorem State.issued_stackOf (s : State) (site tl cls op : Nat) (w : StepWord) (sh : Shape) (next x : Nat) :
    (s.issued site tl cls op w sh next).stackOf x = s.stackOf x := by
  simp only [State.stackOf, s.issued_objs site tl cls op w sh next .X0F01 _ (by decide)]

/-- At an enabled site whose last record is 1 µs old, a trace record stands first (R361). -/
theorem State.traceRecord_of_due {s : State} {site tl i id : Nat} {m : Bool} (he : bitGet (s.obj .W0012 0) site = true)
    (hd : ∀ p ∈ s.log.traceAt, p.1 = site → p.2 + 1000 ≤ s.time) :
    (s.traceRecord site tl i m id).log.trace.head? =
      some (traceNum s.time (s.tile site tl).wave i ((s.stackOf site).getD 0) tl m id) := by
  have hdue : dueEvent ((s.log.traceAt.find? (fun p => p.1 == site)).map (fun p => p.2)) s.time 1000 = true := by
    cases hf : s.log.traceAt.find? (fun p => p.1 == site) with
    | none => rfl
    | some p => 
      have hsite := List.find?_some hf
      exact decide_eq_true (hd p (List.mem_of_find?_eq_some hf) (beq_iff_eq.1 hsite))
  simp [State.traceRecord, he, hdue]

/-- Settles O6: NOP has no effect beyond issuing; LOOP, SETIX and BANKPWR each make one update of the tile that issuing leaves; MARK leaves a
record. -/
theorem controlStepsComplete : Obligations.ControlStepsComplete := by
  unfold Obligations.ControlStepsComplete
  refine ⟨fun s site tile w h => congrArg Host.Outcome.next (State.issue_of_canIssue _ id h), fun s site tile w h => ?loop, fun s site tile w h => ?setix,
    fun s site tile w h => ?bankpwr, fun s site tile w h hon hdue => ?mark⟩
  case loop =>
    intro T n b
    refine ⟨_, exec_of_canIssue rfl h, ?_⟩
    by_cases hn : loopCount (s.tile site tile) w = 0
    · rw [if_pos hn]
      exact ⟨s.issued_tilesBut _ _ _ _ _ _ _, .refl _ _, fun _ => rfl, fun h0 => absurd hn h0⟩
    · rw [if_neg hn]
      obtain ⟨htile, hparts, htiles⟩ := s.issued_setTile site tile 1 2 w (loopShape T w) (if n = 0 then T.pc + 1 + fld w 39 12 else T.pc + 1) _
      exact ⟨htiles, hparts, fun h0 => absurd h0 hn, fun _ => htile⟩
  case setix =>
    intro b
    obtain ⟨htile, hparts, htiles⟩ := s.issued_setTile site tile 1 3 w (setixShape w) ((s.tile site tile).pc + 1)
      { b.tile site tile with ix := mapSet (b.tile site tile).ix (fld w 18 3) (IxReg.mk (fld w 21 17) (w.extractLsb' 38 18).toInt) }
    refine ⟨_, exec_of_canIssue rfl h, htiles, hparts, ?_, fun k hk => ?_⟩
    · rw [htile, Tile.ixReg_mapSet, if_pos rfl]
    · rw [htile, Tile.ixReg_mapSet, if_neg hk]
  case bankpwr =>
    intro T
    obtain ⟨-, -, -, -, -, -, hbanks, -⟩ := s.issued_sameWork site tile 1 4 w (bankpwrShape w) (T.pc + 1)
    obtain ⟨htile, hparts, htiles⟩ := s.issued_setTile site tile 1 4 w (bankpwrShape w) (T.pc + 1)
      (((s.issued site tile 1 4 w (bankpwrShape w) (T.pc + 1)).tile site tile).requestBanks (fld w 18 32) (bankOf (fld w 50 2))
        (s.issued site tile 1 4 w (bankpwrShape w) (T.pc + 1)).time)
    refine ⟨_, exec_of_canIssue rfl h, htiles,
      (s.issued_unchanged _ _ _ _ _ _ _).trans (hparts.mono (by simp)), fun k => ?_⟩
    obtain ⟨hbank, hholds⟩ := Tile.bank_congr hbanks (s.issued_sb site tile 1 4 w (bankpwrShape w) (T.pc + 1) rfl) k
    exact (congrArg (Tile.bank · k) htile).trans (by rw [Tile.bank_requestBanks, hbank, hholds, s.issued_time])
  case mark =>
    have hb := s.issued_objs site tile 1 6 w {} ((s.tile site tile).pc + 1) .W0012 0 (by decide)
    refine ⟨_, exec_of_canIssue rfl h,
      (s.issued_unchanged _ _ _ _ _ _ _).trans ((State.traceRecord_unchanged _ _ _ _ _ _).mono (by simp)), ?_⟩
    refine (State.traceRecord_of_due (hb ▸ hon) (by rw [s.issued_mark_log, s.issued_time]; exact hdue)).trans ?_
    rw [s.issued_time, s.issued_wave, s.issued_stackOf]
    rfl

end Sys2Proof.Machine
end

section
/-!
What ends a block of issue (R64), and the control steps that block, trap or end their tile's part of a wave (R69, R70).
-/

namespace Sys2Proof.Machine

/-! ### Blocks of issue that end (R64) -/

section
variable {x : State} {site tl mask : Nat}

/-- With no block of issue, a completion only lets banks begin to change. -/
theorem State.settle_of_unblocked (h : (x.tile site tl).block = none) :
    x.settle site tl = x.setTile site tl ((x.tile site tl).beginBanks x.time) := by
  have hb : ((x.tile site tl).beginBanks x.time).block = none := h
  simp only [State.settle, hb]

/-- A WAIT goes on while a tag of its mask is busy. -/
theorem State.settle_of_wait_busy (h : (x.tile site tl).block = some (.wait mask)) (hd : (x.tile site tl).tagsDone mask = false) :
    x.settle site tl = x.setTile site tl ((x.tile site tl).beginBanks x.time) := by
  have hb : ((x.tile site tl).beginBanks x.time).block = some (.wait mask) := h
  have hd' : ((x.tile site tl).beginBanks x.time).tagsDone mask = false := hd
  simp only [State.settle, hb, hd', Bool.false_eq_true, if_false]

/-- A WAIT whose tags have all completed, none of them failed, retires them. -/
theorem State.settle_tile_of_wait_done (h : (x.tile site tl).block = some (.wait mask)) (hd : (x.tile site tl).tagsDone mask = true)
    (hf : (x.tile site tl).tagFailed mask = none) : (x.settle site tl).tile site tl =
      Tile.retire { (x.tile site tl).beginBanks x.time with block := none, wait := none, blockEnd := (x.site site).cycles } mask := by
  have hb : ((x.tile site tl).beginBanks x.time).block = some (.wait mask) := h
  have hd' : ((x.tile site tl).beginBanks x.time).tagsDone mask = true := hd
  have hf' : ((x.tile site tl).beginBanks x.time).tagFailed mask = none := hf
  simp only [State.settle, hb, hd', hf', if_true, State.tile_setTile, State.site_setTile]

/-- A FENCE ends once every unit is idle. -/
theorem State.settle_block_of_fence (h : (x.tile site tl).block = some .fence) :
    ((x.settle site tl).tile site tl).block = if (x.tile site tl).allIdle then none else some .fence := by
  have hb : ((x.tile site tl).beginBanks x.time).block = some .fence := h
  have hi : ((x.tile site tl).beginBanks x.time).allIdle = (x.tile site tl).allIdle := rfl
  simp only [State.settle, hb, hi]
  split
  · rw [State.tile_setTile]
  · rw [State.tile_setTile, hb]

end

theorem State.canIssue_running {s : State} {site tl cls op : Nat} {w : StepWord} {sh : Shape} (h : s.canIssue site tl cls op w sh = true) :
    (s.tile site tl).running = true ∧ (s.tile site tl).trapped = false ∧ (s.tile site tl).stopped = false ∧ (s.tile site tl).block = none := by
  simp only [State.canIssue, Bool.and_eq_true, Bool.not_eq_true', Option.isNone_iff_eq_none] at h
  obtain ⟨⟨⟨⟨⟨⟨⟨⟨⟨⟨⟨⟨hrun, htrap⟩, hstop⟩, hblock⟩, -⟩, -⟩, -⟩, -⟩, -⟩, -⟩, -⟩, -⟩, -⟩ := h
  exact ⟨hrun, htrap, hstop, hblock⟩

/-! ### The end of a tile's part of a wave (R70) -/

theorem unchangedBut.foldl {α : Type} {l : List Part} {f : State → α → State} (h : ∀ s x, unchangedBut l s (f s x)) (xs : List α) (s : State) :
    unchangedBut l s (xs.foldl f s) := by
  induction xs generalizing s with
  | nil => exact .refl _ _
  | cons x r ih => exact (h s x).trans (ih _)

theorem State.setBoxes_unchanged (s : State) (n : Nat) (b : Mailbox) : unchangedBut [.boxes] s (s.setBoxes n b) :=
  unchangedBut.foldl (fun s k => by rw [unchangedBut_iff]; simp) _ _

theorem State.send_unchanged (s : State) (o : Sent) : unchangedBut [.out] s (s.send o) := by
  rw [unchangedBut_iff]; simp

theorem State.setStation_unchanged (s : State) (a : Nat) (v : Station) : unchangedBut [.stations] s (s.setStation a v) := by
  rw [unchangedBut_iff]; simp

theorem State.setGate_unchanged (s : State) (a b : Nat) (v : Gate) : unchangedBut [.gates] s (s.setGate a b v) := by
  rw [unchangedBut_iff]; simp

theorem State.setMarket_unchanged (s : State) (a : Nat) (v : Market) : unchangedBut [.markets] s (s.setMarket a v) := by
  rw [unchangedBut_iff]; simp

theorem State.mailWait_unchanged (s : State) (n : Nat) (p : BitVec 448) (k a b c d : Nat) :
    unchangedBut [.boxes, .out] s (s.mailWait n p k a b c d).1 := by
  have hsend (s : State) (o : Sent) : unchangedBut [.boxes, .out] s (s.send o) := (s.send_unchanged o).mono (by simp)
  have hbox (s : State) (b : Mailbox) : unchangedBut [.boxes, .out] s (s.setBoxes n b) := (s.setBoxes_unchanged n b).mono (by simp)
  unfold State.mailWait
  dsimp only
  split
  · exact hsend _ _
  split
  · exact (hbox _ _).trans (hsend _ _)
  · exact ((hbox _ _).trans (hbox _ _)).trans (hsend _ _)

theorem State.pushReport_unchanged (s : State) (site : Nat) : unchangedBut [.sites, .boxes, .out] s (s.pushReport site) := by
  unfold State.pushReport
  split
  · exact .refl _ _
  · have hwait (m : BitVec 448) := (s.mailWait_unchanged (8 + site % 8) m 2 0 site 63 0).mono (l' := [.sites, .boxes, .out]) (by simp)
    dsimp only
    split
    · exact (hwait _).trans ((State.setSite_unchanged _ _ _).mono (by simp))
    · exact hwait _

/-- A report waits at the site sequencer or takes its mailbox (R262). -/
theorem State.siteReport_unchanged (s : State) (site : Nat) (r : BitVec 448) : unchangedBut [.sites, .boxes, .out] s (s.siteReport site r) := by
  have hsite (p : Site) : unchangedBut [.sites, .boxes, .out] s (s.setSite site p) := (s.setSite_unchanged site p).mono (by simp)
  unfold State.siteReport
  dsimp only
  split
  · exact (hsite _).trans (State.pushReport_unchanged _ _)
  · exact hsite _

theorem State.dropBids_unchanged (s : State) (site tl : Nat) : unchangedBut [.gates, .markets] s (s.dropBids site tl) := by
  have hgate (s : State) (p : Nat) (g : Gate) : unchangedBut [.gates, .markets] s (s.setGate site p g) := (s.setGate_unchanged _ _ g).mono (by simp)
  have hmarket (s : State) (p : Nat) (m : Market) : unchangedBut [.gates, .markets] s (s.setMarket p m) := (s.setMarket_unchanged _ m).mono (by simp)
  refine unchangedBut.foldl (fun s p => ?_) _ _
  dsimp only
  split_ifs
  · exact (hgate _ _ _).trans (hmarket _ _ _)
  · exact hmarket _ _ _
  · exact hgate _ _ _
  · exact .refl _ _

/-- What a cleared tile leaves behind in the parts that hold its work. -/
theorem State.clearTile_tile (s : State) (site tl : Nat) : ∃ u : State, unchangedBut [.sites, .stations, .gates, .markets] u (s.clearTile site tl) ∧
    u = (s.countWait site tl 1).setTile site tl (((s.countWait site tl 1).tile site tl).cleared.beginBanks (s.countWait site tl 1).time) := by
  refine ⟨_, ?_, rfl⟩
  have hdrop (s : State) := (s.dropBids_unchanged site tl).mono (l' := [.sites, .stations, .gates, .markets]) (by simp)
  have hsite (s : State) (p : Site) := (s.setSite_unchanged site p).mono (l' := [.sites, .stations, .gates, .markets]) (by simp)
  have hstation (s : State) (y : Station) := (s.setStation_unchanged site y).mono (l' := [.sites, .stations, .gates, .markets]) (by simp)
  unfold State.clearTile
  dsimp only
  split_ifs
  · exact ((hsite _ _).trans (hstation _ _)).trans (hdrop _)
  · exact (hsite _ _).trans (hdrop _)

theorem Tile.tagSt_cleared (t : Tile) (k : Nat) : t.cleared.tagSt k = if t.tagSt k = .busy then .done .aborted else t.tagSt k := by
  have hget (m : AMap Nat TagSt) : mapGet .free (m.map (fun p => (p.1, match p.2 with | .busy => TagSt.done .aborted | x => x))) k =
      if mapGet .free m k = .busy then .done .aborted else mapGet .free m k := by
    induction m with
    | nil => rfl
    | cons p r ih =>
      obtain ⟨n, st⟩ := p
      simp only [List.map_cons, mapGet]
      split
      · cases st <;> rfl
      · exact ih
  exact hget t.tags

/-! ### The steps -/

/-- What a control step at a tile may change. -/
def TouchesTile (site tl : Nat) (s t : State) : Prop := unchangedBut [.tiles, .objs, .log, .sites] s t ∧ tilesBut site tl s t

theorem TouchesTile.trans {site tl : Nat} {s t u : State} (h : TouchesTile site tl s t) (h' : TouchesTile site tl t u) : TouchesTile site tl s u :=
  ⟨h.1.trans h'.1, h.2.trans h'.2⟩

theorem TouchesTile.sameMemory {site tl : Nat} {s t : State} (h : TouchesTile site tl s t) : sameMemory s t :=
  h.1.memory (by simp) (by simp)

section
variable (s : State) (site tl : Nat)

theorem State.issued_touchesTile (cls op : Nat) (w : StepWord) (sh : Shape) (next : Nat) :
    TouchesTile site tl s (s.issued site tl cls op w sh next) :=
  ⟨(s.issued_unchanged site tl cls op w sh next).mono (by simp), s.issued_tilesBut site tl cls op w sh next⟩

theorem State.setTile_touchesTile (v : Tile) : TouchesTile site tl s (s.setTile site tl v) :=
  ⟨(s.setTile_unchanged site tl v).mono (by simp), s.setTile_tilesBut site tl v⟩

theorem State.blockIssue_settle_touchesTile (b : Block) (cause cls op i : Nat) :
    TouchesTile site tl s ((s.blockIssue site tl b cause cls op i).settle site tl) :=
  TouchesTile.trans (s.setTile_touchesTile site tl _) ⟨(State.settle_unchanged _ _ _).mono (by simp), State.settle_tilesBut _ _ _⟩

theorem State.trapTile_touchesTile (code d cls op i : Nat) : TouchesTile site tl s (s.trapTile site tl code d cls op i) :=
  ⟨(s.trapTile_unchanged site tl code d cls op i).mono (by simp), s.trapTile_tilesBut site tl code d cls op i⟩

theorem State.blockIssue_tile (b : Block) (cause cls op i : Nat) :
    ((s.blockIssue site tl b cause cls op i).tile site tl).block = some b ∧
      ((s.blockIssue site tl b cause cls op i).tile site tl).tags = (s.tile site tl).tags ∧
      ((s.blockIssue site tl b cause cls op i).tile site tl).trapped = (s.tile site tl).trapped ∧
      ((s.blockIssue site tl b cause cls op i).tile site tl).allIdle = (s.tile site tl).allIdle := by
  rw [State.blockIssue, State.tile_setTile]
  exact ⟨rfl, rfl, rfl, rfl⟩

end

/-- The state of a tile's tags is all that a WAIT reads. -/
theorem Tile.tags_congr {t t' : Tile} (h : t'.tags = t.tags) (mask : Nat) : t'.tagsDone mask = t.tagsDone mask ∧
    t'.tagFailed mask = t.tagFailed mask ∧ (t'.retire mask).tags = (t.retire mask).tags := by
  simp only [Tile.tagsDone, Tile.tagFailed, Tile.retire, Tile.tagSt, h, true_and]

/-- A WAIT on a mask: it blocks while a tag of the mask is busy, and otherwise retires the mask's tags unless one has failed (R64). -/
theorem waitEffect_tile (u : State) (site tl mask i : Nat) :
    ((u.tile site tl).tagsDone mask = false → ((waitEffect site tl mask i u).tile site tl).block = some (.wait mask)) ∧
      ((u.tile site tl).tagsDone mask = true → (u.tile site tl).tagFailed mask = none →
        ((waitEffect site tl mask i u).tile site tl).block = none ∧
        ((waitEffect site tl mask i u).tile site tl).trapped = (u.tile site tl).trapped ∧
        ((waitEffect site tl mask i u).tile site tl).tags = ((u.tile site tl).retire mask).tags) := by
  obtain ⟨hblock, htags, htrapped, -⟩ := u.blockIssue_tile site tl (.wait mask) 6 1 1 i
  obtain ⟨hdone, hfailed, hretire⟩ := Tile.tags_congr htags mask
  unfold waitEffect
  refine ⟨fun hd => ?_, fun hd hf => ?_⟩
  · rw [State.settle_of_wait_busy hblock (hdone.trans hd), State.tile_setTile]
    exact hblock
  · rw [State.settle_tile_of_wait_done hblock (hdone.trans hd) (hfailed.trans hf)]
    exact ⟨rfl, htrapped, hretire⟩

/-- The tile that an END leaves: cleared, with its wave last among the waves that it has ended (R70). -/
def Tile.endsWave (t : Tile) (now : Nat) : Tile :=
  { ({ t with wait := none, blockEnd := 0 } : Tile).cleared.beginBanks now with ended := t.ended ++ [t.wave] }

section
variable (b : State) (site tl : Nat)

/-- The wave that an END has ended at the tile, last among the ended ones. -/
def State.clearEnd : State :=
  let c := b.clearTile site tl
  c.setTile site tl { c.tile site tl with ended := (c.tile site tl).ended ++ [(c.tile site tl).wave] }

/-- An END before the next wave starts: the tile is cleared, and the die reports a wave that all its tiles have ended. -/
def State.endPart : State :=
  let e := b.clearEnd site tl
  let n := ((b.clearTile site tl).tile site tl).wave
  if (List.range 48).all (fun k => (e.tile site k).ended.contains n) then e.siteReport site (BitVec.ofNat 448 (1 + 2 ^ 8 * n)) else e

theorem State.clearEnd_tile : (b.clearEnd site tl).tile site tl = (b.tile site tl).endsWave b.time := by
  obtain ⟨u, huc, hu⟩ := b.clearTile_tile site tl
  have hc : (b.clearTile site tl).tile site tl = ({ b.tile site tl with wait := none, blockEnd := 0 } : Tile).cleared.beginBanks b.time := by
    rw [huc.tile (by simp), hu, State.tile_setTile, State.countWait_tile, State.countWait_time]
  rw [State.clearEnd, State.tile_setTile, hc]
  rfl

theorem State.clearEnd_frame : unchangedBut [.tiles, .objs, .sites, .stations, .gates, .markets] b (b.clearEnd site tl) ∧
    tilesBut site tl b (b.clearEnd site tl) := by
  obtain ⟨u, huc, hu⟩ := b.clearTile_tile site tl
  have hbu : unchangedBut [.tiles, .objs] b u ∧ tilesBut site tl b u := by
    rw [hu]
    exact ⟨(b.countWait_unchanged site tl 1).trans ((State.setTile_unchanged _ _ _ _).mono (by simp)),
      (b.countWait_tilesBut site tl 1).trans (State.setTile_tilesBut _ _ _ _)⟩
  obtain ⟨hparts, htiles⟩ := hbu
  exact ⟨((hparts.mono (by simp)).trans (huc.mono (by simp))).trans ((State.setTile_unchanged _ _ _ _).mono (by simp)),
    (htiles.trans (huc.tilesBut (by simp) _ _)).trans (State.setTile_tilesBut _ _ _ _)⟩

theorem State.endPart_of_clearEnd : unchangedBut [.sites, .boxes, .out] (b.clearEnd site tl) (b.endPart site tl) := by
  unfold State.endPart
  dsimp only
  split
  · exact State.siteReport_unchanged _ _ _
  · exact .refl _ _

theorem State.endPart_tile : (b.endPart site tl).tile site tl = (b.tile site tl).endsWave b.time := by
  rw [(b.endPart_of_clearEnd site tl).tile (by simp), State.clearEnd_tile]

theorem State.endPart_sameMemory : sameMemory b (b.endPart site tl) :=
  (((b.clearEnd_frame site tl).1.mono (l' := [.tiles, .objs, .sites, .stations, .gates, .markets, .boxes, .out]) (by simp)).trans
    ((b.endPart_of_clearEnd site tl).mono (by simp))).memory (by simp) (by simp)

theorem State.endPart_tilesBut : tilesBut site tl b (b.endPart site tl) :=
  (b.clearEnd_frame site tl).2.trans ((b.endPart_of_clearEnd site tl).tilesBut (by simp) _ _)

theorem State.leaveRun_of_waiting_nil (h : (b.tile site tl).waiting = []) : b.leaveRun site tl = b := by
  simp only [State.leaveRun, h]

end

theorem exec_endStep (s : State) (site tile : Nat) (w : StepWord) : exec (.endStep site tile w) s =
    .next (s.issue site tile 1 8 w {} ((s.tile site tile).pc + 1) (fun b => (b.endPart site tile).leaveRun site tile)) := by
  change execEndStep site tile w s = _
  simp only [execEndStep, State.endPart, State.clearEnd]
  rfl

/-- The end of a tile's part of a wave, where no other wave waits at the tile (R70). -/
theorem endStep_of_canIssue {s : State} {site tile : Nat} {w : StepWord} (h : s.canIssue site tile 1 8 w {} = true)
    (hw : (s.tile site tile).waiting = []) :
    exec (.endStep site tile w) s = .next ((s.issued site tile 1 8 w {} ((s.tile site tile).pc + 1)).endPart site tile) := by
  have hwaiting : (((s.issued site tile 1 8 w {} ((s.tile site tile).pc + 1)).endPart site tile).tile site tile).waiting = [] := by
    rw [State.endPart_tile, State.issued_tile, Tile.advance_eq]
    exact hw
  rw [exec_of_canIssue (exec_endStep s site tile w) h, State.leaveRun_of_waiting_nil _ _ _ hwaiting]

/-- Settles O7: a block ends as `settle` ends it, a TRAP's record is `trapRec`, and an END leaves what `cleared` leaves of its tile. -/
theorem blockingStepsComplete : Obligations.BlockingStepsComplete := by
  unfold Obligations.BlockingStepsComplete
  refine ⟨fun s site tile w h => ?wait, fun s site tile w h => ?fence, fun s site tile w h => ?trap, fun s site tile w h hw => ?endStep⟩
  case wait =>
    obtain ⟨-, hrun, -⟩ := State.canIssue_running h
    obtain ⟨-, -, -, htags, -, -, -, -, -, htrapped, -⟩ := s.issued_sameWork site tile 1 1 w {} ((s.tile site tile).pc + 1)
    obtain ⟨hdone, hfailed, hretire⟩ := Tile.tags_congr htags (fld w 18 32)
    obtain ⟨hbusy, hfree⟩ := waitEffect_tile (s.issued site tile 1 1 w {} ((s.tile site tile).pc + 1)) site tile (fld w 18 32) (s.tile site tile).pc
    have ht := (s.issued_touchesTile site tile 1 1 w {} ((s.tile site tile).pc + 1)).trans
      (State.blockIssue_settle_touchesTile _ site tile (.wait (fld w 18 32)) 6 1 1 (s.tile site tile).pc)
    refine ⟨_, exec_of_canIssue rfl h, ht.2, ht.sameMemory, fun hd => hbusy (hdone.trans hd), fun hd hf => ?_⟩
    obtain ⟨hblock, htrap, htags'⟩ := hfree (hdone.trans hd) (hfailed.trans hf)
    exact ⟨hblock, htrap.trans (htrapped.trans hrun), htags'.trans hretire⟩
  case fence =>
    have ht := (s.issued_touchesTile site tile 1 5 w {} ((s.tile site tile).pc + 1)).trans
      (State.blockIssue_settle_touchesTile _ site tile .fence 7 1 5 (s.tile site tile).pc)
    refine ⟨_, exec_of_canIssue rfl h, ht.2, ht.sameMemory, ?_⟩
    obtain ⟨hblock, -, -, hidle⟩ :=
      (s.issued site tile 1 5 w {} ((s.tile site tile).pc + 1)).blockIssue_tile site tile .fence 7 1 5 (s.tile site tile).pc
    rw [State.settle_block_of_fence hblock, hidle, State.issued_tile, Tile.advance_eq]
    rfl
  case trap =>
    let b := s.issued site tile 1 7 w {} ((s.tile site tile).pc + 1)
    obtain ⟨-, -, -, -, -, -, -, -, -, -, htraps⟩ := s.issued_sameWork site tile 1 7 w {} ((s.tile site tile).pc + 1)
    have ht := (s.issued_touchesTile site tile 1 7 w {} ((s.tile site tile).pc + 1)).trans
      (State.trapTile_touchesTile _ site tile trDeliberate (fld w 18 8) 1 7 (s.tile site tile).pc)
    refine ⟨_, b.trapRec site tile trDeliberate (fld w 18 8) 1 7 (s.tile site tile).pc, exec_of_canIssue rfl h, ht.2, ht.sameMemory,
      b.trapTile_trapped site tile _ _ _ _ _, (b.trapTile_traps site tile _ _ _ _ _).trans (congrArg (· ++ _) htraps), rfl, ?_, rfl, rfl, rfl, rfl,
      s.issued_wave site tile 1 7 w {} ((s.tile site tile).pc + 1), s.issued_time site tile 1 7 w {} ((s.tile site tile).pc + 1), ?_⟩
    · exact Nat.mod_eq_of_lt (lt_trans (Nat.mod_lt _ (by decide)) (by decide))
    · exact (b.trapTile_S0300 site tile _ _ _ _ _).trans
        (congrArg (· + 1) (s.issued_objs site tile 1 7 w {} ((s.tile site tile).pc + 1) .S0300 site (by decide)))
  case endStep =>
    have htag (k : Nat) := Tile.tagSt_cleared (s.tile site tile) k
    have hs := s.issued_touchesTile site tile 1 8 w {} ((s.tile site tile).pc + 1)
    obtain ⟨hmem, hpoison⟩ := hs.sameMemory
    obtain ⟨hmem', hpoison'⟩ := (s.issued site tile 1 8 w {} ((s.tile site tile).pc + 1)).endPart_sameMemory site tile
    refine ⟨_, endStep_of_canIssue h hw, hs.2.trans (State.endPart_tilesBut _ _ _),
      ⟨fun a => (hmem' a).trans (hmem a), hpoison'.trans hpoison⟩, ?_⟩
    rw [State.endPart_tile, State.issued_tile, Tile.advance_eq]
    exact ⟨rfl, rfl, rfl, rfl, rfl, rfl, rfl, rfl, rfl, rfl, htag⟩

end Sys2Proof.Machine
end

section
/-!
A SIEVE_SELECT that ends the body of a loop reads its operands' addresses after the loop has advanced its registers (R53, R64).
-/

namespace Sys2Proof.Machine

/-- A SIEVE_SELECT whose query stands at IX1. -/
def sieveAtIx1 : StepWord := BitVec.ofNat 128 (9 + 2 ^ 35)

/-- A tile at the last step of a loop's body that runs once more; each iteration advances IX1 by 2. -/
def sieveEndsBody : State :=
  State.reset.setTile 0 0 { Tile.reset with
    running := true, pc := 1, listLen := 3, ix := [(1, { val := 0, stride := 2 })], loops := [{ start := 1, stop := 2, left := 1, adv := 1 }] }

theorem sieveEndsBody_canIssue :
    sieveEndsBody.canIssue 0 0 9 0 sieveAtIx1 (sieveShape (sieveEndsBody.tile 0 0) sieveAtIx1) = true := by decide

/-- The operation that the step opens names the query at 2, where IX1 stands for the next iteration. -/
theorem sieveEndsBody_async {t : State} (h : exec (.sieveSelect 0 0 sieveAtIx1) sieveEndsBody = .next t) :
    (t.tile 0 0).async = [(0, .sieve sieveAtIx1 2 0 1 0)] := by
  rw [exec_of_canIssue rfl sieveEndsBody_canIssue] at h
  cases h
  rw [State.tile_setSite, State.tile_setTile, State.issued_tile]
  decide

/-- Refutes O12: at `sieveEndsBody` the step issues with its query at 0, and the operation that it opens names the query at 2. -/
theorem not_transferStepsComplete : ¬ Obligations.TransferStepsComplete := by
  unfold Obligations.TransferStepsComplete
  intro h
  obtain ⟨-, -, -, -, -, hsieve, -⟩ := h sieveEndsBody 0 0 sieveAtIx1
  obtain ⟨t, he, ⟨-, hasync, -⟩, -⟩ := hsieve sieveEndsBody_canIssue
  rw [sieveEndsBody_async he] at hasync
  exact absurd hasync (by decide)

end Sys2Proof.Machine
end

section
/-!
Tally waits and posts (R175, R176, R420), the watchdog (R67), trap records that reach the site sequencer (R69, R264), and what it does about them.
-/

namespace Sys2Proof.Machine

/-! ### The first element of a list that meets a test -/

theorem takeFirst_test {α : Type} {f : α → Bool} {l r : List α} {x : α} (h : takeFirst f l = some (x, r)) : f x = true := by
  induction l generalizing r with
  | nil => exact absurd h (by simp [takeFirst])
  | cons y q ih =>
    rw [takeFirst] at h
    split at h
    · next hy =>
      obtain ⟨rfl, -⟩ := Prod.mk.inj (Option.some.inj h)
      exact hy
    · split at h
      · exact absurd h (by simp)
      · next z r' hq =>
        obtain ⟨rfl, -⟩ := Prod.mk.inj (Option.some.inj h)
        exact ih hq

/-! ### Counters (R175) -/

theorem State.addSite_siteTally (s : State) (site ctr n k : Nat) :
    (s.addSite site ctr n).siteTally site k = if k = ctr then (s.siteTally site ctr + n) % 2 ^ 64 else s.siteTally site k := by
  simp only [State.addSite, State.siteTally, State.site_setSite, mapGet_mapSet]

/-- A direct post to a die in service adds to its counter. -/
theorem State.arrivePost_of_direct {s : State} {p : Post} (hd : isDark p.port = false) (hs : p.src = p.port ∨ s.inService p.port = true)
    (hstep : p.step = false) (hi : iodOfPort p.port = none) : s.arrivePost p = s.addSite p.port p.ctr p.inc := by
  have hlost : ¬ (isDark p.port = true ∨ (p.src ≠ p.port ∧ ¬ s.inService p.port = true)) := by
    rintro (h | ⟨h, h'⟩)
    · rw [hd] at h
      exact Bool.false_ne_true h
    · exact hs.elim h h'
  simp only [State.arrivePost, if_neg hlost, hstep, Bool.not_false, if_true, State.directPost, hi]

/-- A tally wait blocks issue until its counter has reached its target (R49, R175). -/
theorem tallyWaitEffect_eq (u : State) (site tl : Nat) (w : StepWord) (i : Nat) :
    let ctr := siteCtr (fld w 18 12) (u.tile site tl).slot
    TouchesTile site tl u (tallyWaitEffect site tl w i u) ∧ unchangedBut [.tiles] u (tallyWaitEffect site tl w i u) ∧
      ((tallyWaitEffect site tl w i u).tile site tl).block = if fld w 30 40 ≤ u.siteTally site ctr then (u.tile site tl).block
        else some (.tally ctr (fld w 30 40) (if fld w 70 16 = 0 then none else some (u.time + 1000 * fld w 70 16))) := by
  intro ctr
  unfold tallyWaitEffect
  dsimp only
  split
  · exact ⟨⟨.refl _ _, fun _ _ _ => rfl⟩, .refl _ _, rfl⟩
  · exact ⟨u.setTile_touchesTile site tl _, u.setTile_unchanged site tl _, (u.blockIssue_tile site tl _ 9 8 0 i).1⟩

/-! ### Mailboxes of the site sequencers (R261, R264) -/

/-- The mailboxes of the site sequencers have one copy. -/
theorem boxCopies_site (site : Nat) : boxCopies (64 + site) = [64 + site] := by
  rw [boxCopies, if_neg (by omega)]

theorem State.box_setBoxes_site (s : State) (site : Nat) (b : Mailbox) : (s.setBoxes (64 + site) b).box (64 + site) = b := by
  rw [State.setBoxes, boxCopies_site]
  exact State.box_setBox _ _ _

theorem State.box_send (s : State) (m : Sent) (n : Nat) : (s.send m).box n = s.box n := rfl

/-- A message in wait mode that finds the mailbox of a site sequencer empty is stored. -/
theorem State.mailWait_site {s : State} {site : Nat} (p : BitVec 448) (k a b c d : Nat) (h : (s.box (64 + site)).full = false) :
    (s.mailWait (64 + site) p k a b c d).2 = true ∧
      ((s.mailWait (64 + site) p k a b c d).1.box (64 + site)).full = true ∧
      ∃ q, ((s.mailWait (64 + site) p k a b c d).1.box (64 + site)).msg = stampMsg p k a b c d q s.time := by
  have hr : boxReserved (64 + site) = false := by simp [boxReserved]
  simp only [State.mailWait, hr, h, Bool.false_eq_true, if_false, State.mailStore, State.box_send, State.box_setBoxes_site, true_and]
  refine ⟨_, congrArg (stampMsg p k a b c d _) ?_⟩
  exact (s.setBoxes_unchanged _ _).time (by simp)

/-- The payload stands in the message's first 56 bytes (Table 10.5). -/
theorem stampMsg_payload (p : Nat) (k a b c d q t : Nat) :
    (stampMsg (BitVec.ofNat 448 p) k a b c d q t).extractLsb' 0 256 = BitVec.ofNat 256 p := by
  apply BitVec.eq_of_toNat_eq
  simp only [stampMsg, BitVec.extractLsb'_toNat, BitVec.toNat_ofNat, Nat.shiftRight_zero]
  omega

/-! ### What the sequencer does about a record (R69) -/

theorem State.setMover_unchanged (s : State) (a : Nat) (v : Mover) : unchangedBut [.movers] s (s.setMover a v) := by
  rw [unchangedBut_iff]; simp

theorem State.pushMoverMail_unchanged (s : State) (port box : Nat) : unchangedBut [.movers, .boxes, .out] s (s.pushMoverMail port box) := by
  unfold State.pushMoverMail
  split
  · exact .refl _ _
  · have hwait (m : BitVec 448) (c : Nat) := (s.mailWait_unchanged box m 4 0 port 63 c).mono (l' := [.movers, .boxes, .out]) (by simp)
    dsimp only
    split
    · exact (hwait _ _).trans ((State.setMover_unchanged _ _ _).mono (by simp))
    · exact hwait _ _

theorem State.mailRelease_unchanged (s : State) (n seq : Nat) (by' : Bool) :
    unchangedBut [.sites, .movers, .boxes, .out] s (s.mailRelease n seq by') := by
  unfold State.mailRelease
  dsimp only
  split
  · exact .refl _ _
  · have hsend (l : List (Nat × Nat)) (u : State) : unchangedBut [.sites, .movers, .boxes, .out] u
        (l.foldl (fun s p => s.send (.emptyNotice p.1 p.2 n)) u) :=
      unchangedBut.foldl (fun s _ => (s.send_unchanged _).mono (by simp)) l u
    refine unchangedBut.trans (((s.setBoxes_unchanged n _).mono (by simp)).trans (hsend _ _)) (unchangedBut.foldl (fun s p => ?_) _ _)
    split
    · exact (s.pushReport_unchanged _).mono (by simp)
    · split
      · exact (s.pushMoverMail_unchanged _ _).mono (by simp)
      · exact .refl _ _

/-- Stopping one tile of a die, if it runs. -/
def State.stopOne (site : Nat) (s : State) (k : Nat) : State :=
  if (s.tile site k).running then s.setTile site k { s.tile site k with stopped := true } else s

theorem State.stopDie_eq (s : State) (site : Nat) : s.stopDie site = (List.range 48).foldl (State.stopOne site) s := rfl

theorem State.stopOne_unchanged (site : Nat) (s : State) (k : Nat) : unchangedBut [.tiles] s (s.stopOne site k) := by
  unfold State.stopOne
  split
  · exact s.setTile_unchanged _ _ _
  · exact .refl _ _

theorem State.stopDie_unchanged (s : State) (site : Nat) : unchangedBut [.tiles] s (s.stopDie site) := by
  rw [State.stopDie_eq]
  exact unchangedBut.foldl (State.stopOne_unchanged site) _ _

theorem State.stopOne_tile (site : Nat) (s : State) (k a b : Nat) : (s.stopOne site k).tile a b =
    if (a, b) = (site, k) ∧ (s.tile a b).running = true then { s.tile a b with stopped := true } else s.tile a b := by
  unfold State.stopOne
  by_cases hk : (a, b) = (site, k)
  · obtain ⟨rfl, rfl⟩ := Prod.mk.inj hk
    split <;> simp [*]
  · rw [if_neg (c := (a, b) = (site, k) ∧ _) (fun h => hk h.1)]
    split
    · exact s.tile_setTile_ne _ hk
    · rfl

theorem State.foldl_stopOne_other (site : Nat) (l : List Nat) (s : State) {a : Nat} (b : Nat) (h : a ≠ site) :
    (l.foldl (State.stopOne site) s).tile a b = s.tile a b := by
  induction l generalizing s with
  | nil => rfl
  | cons k r ih =>
    rw [List.foldl_cons, ih, State.stopOne_tile, if_neg (fun hk => h (Prod.mk.inj hk.1).1)]

/-- Each listed tile of the die that runs is stopped, and goes on counting as one that runs. -/
theorem State.foldl_stopOne_stopped (site : Nat) (l : List Nat) (s : State) {b : Nat} (hr : (s.tile site b).running = true)
    (h : b ∈ l ∨ (s.tile site b).stopped = true) : ((l.foldl (State.stopOne site) s).tile site b).stopped = true := by
  induction l generalizing s with
  | nil => simpa using h
  | cons k r ih =>
    have hrun : ((s.stopOne site k).tile site b).running = true := by
      rw [State.stopOne_tile]
      split <;> exact hr
    refine ih _ hrun ?_
    rw [State.stopOne_tile]
    by_cases hk : b = k
    · exact .inr (by rw [if_pos ⟨by rw [hk], hr⟩])
    · rw [if_neg (fun h => hk (Prod.mk.inj h.1).2)]
      simpa [hk] using h

theorem State.stopDie_other (s : State) {site a : Nat} (b : Nat) (h : a ≠ site) : (s.stopDie site).tile a b = s.tile a b := by
  rw [State.stopDie_eq, State.foldl_stopOne_other site _ s b h]

theorem State.stopDie_stopped (s : State) (site : Nat) {b : Nat} (hb : b < 48) (hr : (s.tile site b).running = true) :
    ((s.stopDie site).tile site b).stopped = true := by
  rw [State.stopDie_eq]
  exact State.foldl_stopOne_stopped site _ s hr (.inl (List.mem_range.mpr hb))

/-- Settles O14: blocks and traps are those of the tile's rules; the mailbox of the sequencer takes the record, and `stopDie` stops the die. -/
theorem tallyAndTrapCommandsComplete : Obligations.TallyAndTrapCommandsComplete := by
  unfold Obligations.TallyAndTrapCommandsComplete
  refine ⟨fun s site tile w h => ?wait, fun s site tile ctr target d hb ht => ?satisfied, fun s site tile ctr target d hb ht hd hrun htr => ?timeout,
    fun s port ctr inc p rest hp hdark hserv hiod => ?post, fun s site tile v hv hrun htr hlim => ?watchdog,
    fun s site tile r q hq hbeat hbox => ?send, fun s site hbox => ?handle⟩
  case wait =>
    intro ctr
    let b := s.issued site tile 8 0 w {} ((s.tile site tile).pc + 1)
    obtain ⟨-, -, -, hnone⟩ := State.canIssue_running h
    obtain ⟨-, -, -, -, -, hblock, -⟩ := s.issued_sameWork site tile 8 0 w {} ((s.tile site tile).pc + 1)
    have hctr : siteCtr (fld w 18 12) (b.tile site tile).slot = ctr := by rw [State.issued_tile, Tile.advance_eq]
    have htally : b.siteTally site ctr = s.siteTally site ctr := by simp only [State.siteTally, b, s.issued_site]
    obtain ⟨⟨-, htiles⟩, hparts, heff⟩ := tallyWaitEffect_eq b site tile w (s.tile site tile).pc
    refine ⟨_, exec_of_canIssue rfl h, (s.issued_tilesBut _ _ _ _ _ _ _).trans htiles,
      (s.issued_unchanged _ _ _ _ _ _ _).trans (hparts.mono (by simp)), ?_⟩
    rw [heff, hctr, htally, hblock, hnone, s.issued_time]
  case satisfied =>
    refine ⟨_, rfl, ?_⟩
    simp only [hb, if_pos ht]
    exact ⟨by rw [State.tile_setTile], State.setTile_tilesBut _ _ _ _, State.setTile_unchanged _ _ _ _⟩
  case timeout =>
    refine ⟨_, s.trapRec site tile trTallyTimeout (siteCtr ctr (s.tile site tile).slot + 2 ^ 12 * (s.siteTally site ctr % 2 ^ 20)) 8 0
      (s.tile site tile).blockedIndex, rfl, ?_⟩
    simp only [hb, hd, ht, hrun, htr, decide_true, Bool.not_false, Bool.and_self, if_true]
    exact ⟨State.trapTile_trapped _ _ _ _ _ _ _ _, State.trapTile_traps _ _ _ _ _ _ _ _, rfl, rfl, rfl, State.trapTile_tilesBut _ _ _ _ _ _ _ _,
      (State.trapTile_touchesTile _ _ _ _ _ _ _ _).sameMemory⟩
  case post =>
    have htest := takeFirst_test hp
    simp only [Bool.and_eq_true, beq_iff_eq, Bool.not_false, Bool.true_or, and_true, Option.isNone_iff_eq_none] at htest
    obtain ⟨⟨⟨⟨-, rfl⟩, rfl⟩, rfl⟩, hstep⟩ := htest
    have harr := State.arrivePost_of_direct (s := { s with posts := rest }) hdark hserv hstep hiod
    refine ⟨_, rfl, ?_⟩
    simp only [hp, harr]
    refine ⟨rfl, ?_, fun k hk => ?_, ?_⟩
    · rw [State.addSite_siteTally, if_pos rfl]
      rfl
    · rw [State.addSite_siteTally, if_neg hk]
      rfl
    · rw [unchangedBut_iff]
      simp [State.addSite]
  case watchdog =>
    refine ⟨_, s.trapRec site tile trStallLimit v.cause v.cls v.op v.index, rfl, ?_⟩
    simp only [hv, hlim, hrun, htr, decide_true, Bool.not_false, Bool.and_self, if_true]
    exact ⟨State.trapTile_trapped _ _ _ _ _ _ _ _, State.trapTile_traps _ _ _ _ _ _ _ _, rfl, rfl, rfl, rfl, rfl, State.trapTile_tilesBut _ _ _ _ _ _ _ _,
      (State.trapTile_touchesTile _ _ _ _ _ _ _ _).sameMemory⟩
  case send =>
    obtain ⟨htaken, hfull, n, hmsg⟩ := State.mailWait_site (BitVec.ofNat 448 r.num) 3 0 site tile 0 hbox
    have hwait := s.mailWait_unchanged (64 + site) (BitVec.ofNat 448 r.num) 3 0 site tile 0
    refine ⟨_, rfl, ?_⟩
    simp only [hq, if_neg (Nat.pos_iff_ne_zero.mp hbeat), htaken, if_true, State.tile_setTile, true_and]
    refine ⟨hfull, ?_, (hwait.tilesBut (by simp) _ _).trans (State.setTile_tilesBut _ _ _ _),
      ((hwait.mono (l' := [.boxes, .out, .tiles]) (by simp)).trans ((State.setTile_unchanged _ _ _ _).mono (by simp))).memory (by simp) (by simp)⟩
    exact (congrArg (·.extractLsb' 0 256) hmsg).trans (stampMsg_payload _ _ _ _ _ _ _ _)
  case handle =>
    have hrest (r : BitVec 448) (n : Nat) : unchangedBut [.sites, .movers, .boxes, .out] (s.stopDie site)
        (((s.stopDie site).siteReport site r).mailRelease (64 + site) n true) :=
      ((State.siteReport_unchanged _ _ _).mono (by simp)).trans (State.mailRelease_unchanged _ _ _ _)
    refine ⟨_, rfl, ?_⟩
    simp only [hbox, Bool.not_true, Bool.false_eq_true, if_false]
    refine ⟨(((s.stopDie_unchanged site).mono (l' := [.tiles, .sites, .movers, .boxes, .out]) (by simp)).trans
      ((hrest _ _).mono (by simp))).memory (by simp) (by simp), fun k hk hr => ?_, fun a b ha => ?_⟩
    · rw [(hrest _ _).tile (by simp)]
      exact s.stopDie_stopped site hk hr
    · rw [(hrest _ _).tile (by simp)]
      exact s.stopDie_other b ha

end Sys2Proof.Machine
end

section
/-!
Writes that arrive at a tile store (R66, R68) and changes of its banks that end (R72).
-/

namespace Sys2Proof.Machine

/-! ### Arriving writes -/

section
variable {s : State} {site tl addr : Nat} {data : List Cell32}

theorem State.arrive_of_sleeping {b : Nat} (h : (s.tile site tl).sleeping addr data.length = some b) :
    s.arrive site tl addr data = (s.refuseWrite site tl addr b, false) := by
  simp only [State.arrive, h]

theorem State.arrive_of_held (h : (s.tile site tl).sleeping addr data.length = none)
    (hw : (s.tile site tl).wakesFor addr data.length = true ∨ (s.tile site tl).held ≠ []) : s.arrive site tl addr data =
      (s.setTile site tl { s.tile site tl with held := (s.tile site tl).held ++ [{ addr := addr, data := data }] }, true) := by
  have hc : ((s.tile site tl).wakesFor addr data.length || !(s.tile site tl).held.isEmpty) = true := by simpa using hw
  simp only [State.arrive, h, hc, if_true]

theorem State.arrive_of_awake (h : (s.tile site tl).sleeping addr data.length = none)
    (hw : (s.tile site tl).wakesFor addr data.length = false) (hh : (s.tile site tl).held = []) :
    s.arrive site tl addr data = (s.putUnits (storeAddr site tl addr) data, true) := by
  simp only [State.arrive, h, hw, hh, List.isEmpty_nil, Bool.not_true, Bool.or_self, Bool.false_eq_true, if_false, State.putStore]

end

/-- What a write that is taken leaves, with WRITE_CLASH where port A writes the same unit (R66). -/
def State.clashed (s : State) (site tl addr index : Nat) (clash : Bool) : State :=
  if clash then s.trapTile site tl trWriteClash (addr % 2 ^ 17) 0 0 index else s

section
variable (s : State) (site tl addr i : Nat) (clash : Bool)

theorem State.clashed_touchesTile : TouchesTile site tl s (s.clashed site tl addr i clash) := by
  unfold State.clashed
  split
  · exact s.trapTile_touchesTile site tl _ _ _ _ _
  · exact ⟨.refl _ _, fun _ _ _ => rfl⟩

theorem State.trapTile_held (code d cls op : Nat) : ((s.trapTile site tl code d cls op i).tile site tl).held = (s.tile site tl).held := by
  rw [State.trapTile_tile]

theorem State.clashed_held : ((s.clashed site tl addr i clash).tile site tl).held = (s.tile site tl).held := by
  unfold State.clashed
  split
  · exact s.trapTile_held site tl i _ _ _ _
  · rfl

theorem State.clashed_traps : ((s.clashed site tl addr i clash).tile site tl).traps.map (fun r => r.code) =
    (s.tile site tl).traps.map (fun r => r.code) ++ (if clash then [trWriteClash] else []) := by
  cases clash with
  | true => simp [State.clashed, State.trapTile_traps, State.trapRec]
  | false => simp [State.clashed]

end

theorem exec_arrivingWrite (s : State) (site tile addr : Nat) (data : List Cell32) (clash : Bool) :
    exec (.tileStoreArrivingWrite site tile addr data clash) s = .next (
      if (s.arrive site tile addr data).2 && clash then
        (s.arrive site tile addr data).1.trapTile site tile trWriteClash (addr % 2 ^ 17) 0 0 (s.tile site tile).pc
      else (s.arrive site tile addr data).1) := rfl

/-- Each way in which an arriving write is taken or refused. -/
theorem arrivingWrite_cases (s : State) (site tile addr : Nat) (data : List Cell32) (clash : Bool) :
    let T := s.tile site tile
    let i := T.pc
    (∃ b, T.sleeping addr data.length = some b ∧
      exec (.tileStoreArrivingWrite site tile addr data clash) s = .next (s.refuseWrite site tile addr b)) ∨
    (T.sleeping addr data.length = none ∧ (T.wakesFor addr data.length = true ∨ T.held ≠ []) ∧
      exec (.tileStoreArrivingWrite site tile addr data clash) s =
        .next ((s.setTile site tile { T with held := T.held ++ [{ addr := addr, data := data }] }).clashed site tile addr i clash)) ∨
    (T.sleeping addr data.length = none ∧ T.wakesFor addr data.length = false ∧ T.held = [] ∧
      exec (.tileStoreArrivingWrite site tile addr data clash) s =
        .next ((s.putUnits (storeAddr site tile addr) data).clashed site tile addr i clash)) := by
  intro T i
  cases h : T.sleeping addr data.length with
  | some b => exact .inl ⟨b, rfl, by simp only [exec_arrivingWrite, State.arrive_of_sleeping h, Bool.false_and, Bool.false_eq_true, if_false]⟩
  | none =>
    by_cases hw : T.wakesFor addr data.length = true ∨ T.held ≠ []
    · exact .inr (.inl ⟨rfl, hw, by simp only [exec_arrivingWrite, State.arrive_of_held h hw, Bool.true_and, State.clashed]; rfl⟩)
    · obtain ⟨hwake, hheld⟩ := not_or.mp hw
      have hawake : T.wakesFor addr data.length = false := by simpa using hwake
      have hempty : T.held = [] := not_not.mp hheld
      exact .inr (.inr ⟨rfl, hawake, hempty, by
        simp only [exec_arrivingWrite, State.arrive_of_awake h hawake hempty, Bool.true_and, State.clashed]; rfl⟩)

/-! ### Bank changes (R72) -/

/-- The banks, and the scoreboard that holds them. -/
def Tile.SameBanks (t t' : Tile) : Prop := t'.banks = t.banks ∧ t'.sb = t.sb

theorem Tile.SameBanks.trans {t t' t'' : Tile} (h : t.SameBanks t') (h' : t'.SameBanks t'') : t.SameBanks t'' :=
  ⟨h'.1.trans h.1, h'.2.trans h.2⟩

/-- What draining the held writes of a tile may change. -/
def Drains (site tl : Nat) (s t : State) : Prop :=
  unchangedBut [.tiles, .objs, .sites, .mem, .poison] s t ∧ tilesBut site tl s t ∧ (s.tile site tl).SameBanks (t.tile site tl)

theorem Drains.refl (site tl : Nat) (s : State) : Drains site tl s s := ⟨.refl _ _, fun _ _ _ => rfl, rfl, rfl⟩

theorem Drains.trans {site tl : Nat} {s t u : State} (h : Drains site tl s t) (h' : Drains site tl t u) : Drains site tl s u :=
  ⟨h.1.trans h'.1, h.2.1.trans h'.2.1, h.2.2.trans h'.2.2⟩

section
variable (s : State) (site tl : Nat)

theorem State.setHeld_drains (l : List HeldWrite) : Drains site tl s (s.setTile site tl { s.tile site tl with held := l }) :=
  ⟨(s.setTile_unchanged _ _ _).mono (by simp), s.setTile_tilesBut _ _ _, by rw [State.tile_setTile]; exact ⟨rfl, rfl⟩⟩

theorem State.refuseWrite_drains (addr b : Nat) : Drains site tl s (s.refuseWrite site tl addr b) :=
  ⟨(s.trapTile_unchanged _ _ _ _ _ _ _).mono (by simp), s.trapTile_tilesBut _ _ _ _ _ _ _, by
    rw [State.refuseWrite, State.trapTile_tile]; exact ⟨rfl, rfl⟩⟩

theorem State.putUnits_drains (a : Nat) (l : List Cell32) : Drains site tl s (s.putUnits a l) := by
  have h := s.putUnits_unchanged a l
  exact ⟨h.mono (by simp), h.tilesBut (by simp) _ _, by rw [h.tile (by simp)]; exact ⟨rfl, rfl⟩⟩

theorem State.drainHeld_drains (l : List HeldWrite) : Drains site tl s (s.drainHeld site tl l) := by
  induction l generalizing s with
  | nil => exact .refl _ _ _
  | cons w r ih =>
    unfold State.drainHeld
    dsimp only
    split
    · exact ((s.setHeld_drains site tl r).trans (State.refuseWrite_drains _ _ _ _ _)).trans (ih _)
    · split
      · exact s.setHeld_drains site tl (w :: r)
      · have hput := s.putUnits_drains site tl (storeAddr site tl w.addr) w.data
        refine (hput.trans ?_).trans (ih _)
        have htile : (s.putUnits (storeAddr site tl w.addr) w.data).tile site tl = s.tile site tl := (s.putUnits_unchanged _ _).tile (by simp) _ _
        rw [← htile]
        exact State.setHeld_drains _ _ _ _

/-- A bank that has reached a state and asks for nothing more; one that reaches or leaves off reads zero. -/
def State.bankReached (k : Nat) (target : BankSt) : State :=
  let u := s.setTile site tl { s.tile site tl with banks := mapSet (s.tile site tl).banks k { st := target, change := none } }
  if target = .off ∨ ((s.tile site tl).bank k).st = .off then u.clearBank site tl k else u

/-- A bank whose change has ended, with the writes that it held. -/
def State.bankDrained (k : Nat) (target : BankSt) : State := (s.bankReached site tl k target).drainHeld site tl (s.tile site tl).held

theorem State.bankReached_unchanged (k : Nat) (target : BankSt) :
    unchangedBut [.tiles, .mem, .poison] s (s.bankReached site tl k target) := by
  unfold State.bankReached
  dsimp only
  split
  · rw [unchangedBut_iff]
    simp [State.clearBank, State.clearRange]
  · exact (s.setTile_unchanged _ _ _).mono (by simp)

theorem State.bankReached_tile (k : Nat) (target : BankSt) : (s.bankReached site tl k target).tile site tl =
    { s.tile site tl with banks := mapSet (s.tile site tl).banks k { st := target, change := none } } := by
  unfold State.bankReached
  dsimp only
  split <;> exact State.tile_setTile _ _ _ _

theorem State.bankReached_tilesBut (k : Nat) (target : BankSt) : tilesBut site tl s (s.bankReached site tl k target) := by
  intro a b h
  unfold State.bankReached
  dsimp only
  split <;> exact s.tile_setTile_ne _ h

theorem State.bankReached_mem_of_off {k : Nat} {target : BankSt} (h : target = .off ∨ ((s.tile site tl).bank k).st = .off) (a : Nat) :
    memByte (s.bankReached site tl k target).mem a =
      if storeAddr site tl (4096 * k) ≤ a ∧ a < storeAddr site tl (4096 * k) + 131072 then 0 else memByte s.mem a := by
  simp only [State.bankReached, if_pos h]
  exact memByte_memClear _ _ _

theorem State.bankReached_of_on {k : Nat} {target : BankSt} (h : target ≠ .off) (h' : ((s.tile site tl).bank k).st ≠ .off) :
    sameMemory s (s.bankReached site tl k target) := by
  simp only [State.bankReached, if_neg (not_or.mpr ⟨h, h'⟩)]
  exact (s.setTile_unchanged _ _ _).memory (by simp) (by simp)

theorem State.bankDrained_tile (k : Nat) (target : BankSt) :
    ((s.bankDrained site tl k target).tile site tl).banks = mapSet (s.tile site tl).banks k { st := target, change := none } ∧
      ((s.bankDrained site tl k target).tile site tl).sb = (s.tile site tl).sb := by
  obtain ⟨-, -, hbanks, hsb⟩ := (s.bankReached site tl k target).drainHeld_drains site tl (s.tile site tl).held
  rw [State.bankReached_tile] at hbanks hsb
  exact ⟨hbanks, hsb⟩

theorem State.bankReached_bytesOutside (k : Nat) (target : BankSt) :
    bytesOutside (storeAddr site tl (4096 * k)) (storeAddr site tl (4096 * k) + 131072) s (s.bankReached site tl k target) := by
  intro x hx
  by_cases h : target = .off ∨ ((s.tile site tl).bank k).st = .off
  · rw [State.bankReached_mem_of_off _ _ _ h, if_neg (by omega)]
  · obtain ⟨h, h'⟩ := not_or.mp h
    exact (State.bankReached_of_on _ _ _ h h').1 x

theorem State.bankDrained_of_held_nil {k : Nat} {target : BankSt} (h : (s.tile site tl).held = []) :
    s.bankDrained site tl k target = s.bankReached site tl k target := by
  rw [State.bankDrained, h]
  rfl

/-- What the end of a change does to memory where no write is held. -/
theorem State.bankDrained_memory (k : Nat) (target : BankSt) (t : State) (h : (s.tile site tl).held = [])
    (hm : t.mem = (s.bankDrained site tl k target).mem) (hp : t.poison = (s.bankDrained site tl k target).poison) :
    let a := storeAddr site tl (4096 * k)
    bytesOutside a (a + 131072) s t ∧
      (target = .off ∨ ((s.tile site tl).bank k).st = .off → ∀ x, a ≤ x → x < a + 131072 → memByte t.mem x = 0) ∧
      (target ≠ .off → ((s.tile site tl).bank k).st ≠ .off → sameMemory s t) := by
  rw [State.bankDrained_of_held_nil _ _ _ h] at hm hp
  refine ⟨fun x hx => ?_, fun hoff x hlo hhi => ?_, fun hon hon' => ?_⟩
  · rw [hm]
    exact s.bankReached_bytesOutside site tl k target x hx
  · rw [hm, State.bankReached_mem_of_off _ _ _ hoff, if_pos ⟨hlo, hhi⟩]
  · obtain ⟨hbytes, hmarks⟩ := s.bankReached_of_on site tl hon hon'
    exact ⟨fun x => by rw [hm]; exact hbytes x, hp.trans hmarks⟩

end

theorem exec_bankChangeDone {s : State} {site tile k d : Nat} {c : BankChange} (hc : ((s.tile site tile).bank k).change = some c)
    (hd : c.doneAt = some d) (hle : d ≤ s.time) : exec (.bankChangeDone site tile k) s = .next (
      let u := s.bankDrained site tile k c.target
      match c.next with
      | some n => u.setTile site tile { u.tile site tile with
          banks := mapSet (u.tile site tile).banks k (((u.tile site tile).bank k).request n ((u.tile site tile).holdsBank k) u.time) }
      | none => u) := by
  change execBankChangeDone site tile k s = _
  simp only [execBankChangeDone, hc, hd, if_neg (Nat.not_lt.mpr hle)]
  rfl

theorem Tile.bank_mapSet (t : Tile) (m : AMap Nat Bank) (k j : Nat) (b : Bank) (h : t.banks = mapSet m k b) :
    t.bank j = if j = k then b else mapGet { st := .on, change := none } m j := by
  rw [Tile.bank, h, mapGet_mapSet]

/-- Settles O16: each way of an arriving write, and a bank's change with the writes that it held. -/
theorem tileStoreCommandsComplete : Obligations.TileStoreCommandsComplete := by
  unfold Obligations.TileStoreCommandsComplete
  refine ⟨fun s site tile addr data clash => ?write, fun s site tile k d c hc hd hle => ?bank⟩
  case write =>
    intro T codes
    rcases arrivingWrite_cases s site tile addr data clash with ⟨b, hb, he⟩ | ⟨hnone, hw, he⟩ | ⟨hnone, hwake, hheld, he⟩
    · have hn : ¬ T.sleeping addr data.length = none := fun h => absurd (hb.symm.trans h) (by simp)
      refine ⟨_, he, s.trapTile_tilesBut _ _ _ _ _ _ _, fun b' _ => ⟨(s.trapTile_touchesTile site tile _ _ _ _ _).sameMemory, ?_, ?_, ?_⟩,
        fun h => absurd h hn, fun h => absurd h hn, fun h => absurd h hn, fun _ h => absurd h hn⟩
      · exact s.trapTile_held site tile _ _ _ _ _
      · exact s.trapTile_trapped site tile _ _ _ _ _
      · exact (congrArg codes (s.trapTile_traps site tile _ _ _ _ _)).trans List.map_append
    · let u := s.setTile site tile { T with held := T.held ++ [{ addr := addr, data := data }] }
      have hu : u.tile site tile = { T with held := T.held ++ [{ addr := addr, data := data }] } := State.tile_setTile _ _ _ _
      have ht := (s.setTile_touchesTile site tile _).trans (u.clashed_touchesTile site tile addr T.pc clash)
      refine ⟨_, he, ht.2, fun b hb => absurd (hnone.symm.trans hb) (by simp), fun _ _ => ⟨ht.sameMemory, ?_⟩, fun _ hwake hheld => ?_, fun _ => ?_,
        fun hclash _ => ?_⟩
      · rw [State.clashed_held, hu]
      · exact (hw.elim (fun h => absurd (hwake.symm.trans h) (by simp)) (fun h => absurd hheld h))
      · exact (u.clashed_traps site tile addr T.pc clash).trans (by rw [hu])
      · rw [hclash]
        change (u.tile site tile).trapped = _
        rw [hu]
    · let u := s.putUnits (storeAddr site tile addr) data
      have hput : unchangedBut [.mem, .poison] s u := s.putUnits_unchanged _ _
      have hu : u.tile site tile = T := hput.tile (by simp) _ _
      have ht := u.clashed_touchesTile site tile addr T.pc clash
      refine ⟨_, he, (hput.tilesBut (by simp) _ _).trans ht.2, fun b hb => absurd (hnone.symm.trans hb) (by simp), fun _ hw => ?_,
        fun _ _ _ => ⟨ht.sameMemory, ?_⟩, fun _ => ?_, fun hclash _ => ?_⟩
      · exact hw.elim (fun h => absurd (hwake.symm.trans h) (by simp)) (fun h => absurd hheld h)
      · rw [State.clashed_held, hu, hheld]
      · exact (u.clashed_traps site tile addr T.pc clash).trans (by rw [hu])
      · rw [hclash]
        exact congrArg Tile.trapped hu
  case bank =>
    intro a
    let u := s.bankDrained site tile k c.target
    have hreach := s.bankReached_unchanged site tile k c.target
    obtain ⟨hdrained, hdtiles, -⟩ := (s.bankReached site tile k c.target).drainHeld_drains site tile (s.tile site tile).held
    obtain ⟨hbanks, hsb⟩ := s.bankDrained_tile site tile k c.target
    have hbank (j : Nat) : (u.tile site tile).bank j = if j = k then { st := c.target, change := none } else (s.tile site tile).bank j :=
      Tile.bank_mapSet _ _ _ _ _ hbanks
    have htime : u.time = s.time := (hdrained.time (by simp)).trans (hreach.time (by simp))
    have hholds : (u.tile site tile).holdsBank k = (s.tile site tile).holdsBank k := by simp only [Tile.holdsBank, u, hsb]
    have htiles : tilesBut site tile s u := (s.bankReached_tilesBut site tile k c.target).trans hdtiles
    have hmem := s.bankDrained_memory site tile k c.target
    cases hn : c.next with
    | none =>
      refine ⟨u, by rw [exec_bankChangeDone hc hd hle, hn], htiles, ?_, fun j hj => ?_, fun h => hmem u h rfl rfl⟩
      · rw [hbank, if_pos rfl]
      · rw [hbank, if_neg hj]
    | some n =>
      refine ⟨_, by rw [exec_bankChangeDone hc hd hle, hn], htiles.trans (State.setTile_tilesBut _ _ _ _), ?_, fun j hj => ?_, fun h => hmem _ h rfl rfl⟩
      · rw [State.tile_setTile, Tile.bank_mapSet _ _ _ _ _ rfl, if_pos rfl, hbank, if_pos rfl, hholds, htime]
      · rw [State.tile_setTile, Tile.bank_mapSet _ _ _ _ _ rfl, if_neg hj]
        exact (hbank j).trans (if_neg hj)

end Sys2Proof.Machine
end

section
/-!
Tags that complete (R51, R61, R63), the close of a merge ticket (R141) and the refill of a list (R48).
-/

namespace Sys2Proof.Machine

/-! ### A tag that ends with no block of issue -/

section
variable {u : State} {site tl tag : Nat} {c : Code}

/-- With no block of issue, the end of a tag changes the tile alone. -/
theorem State.endTag_of_unblocked (h : (u.tile site tl).block = none) : u.endTag site tl tag c =
    (u.setTile site tl ((u.tile site tl).closeTag tag c)).setTile site tl (((u.tile site tl).closeTag tag c).beginBanks u.time) := by
  have hb : ((u.setTile site tl ((u.tile site tl).closeTag tag c)).tile site tl).block = none := by
    rw [State.tile_setTile]
    exact h
  rw [State.endTag, State.settle_of_unblocked hb, State.tile_setTile]
  rfl

/-- An ended tag shows its code, and its operation is over. -/
theorem State.endTag_tile (h : (u.tile site tl).block = none) :
    ((u.endTag site tl tag c).tile site tl).tagSt tag = .done c ∧
      ((u.endTag site tl tag c).tile site tl).async = mapDel (u.tile site tl).async tag := by
  rw [State.endTag_of_unblocked h, State.tile_setTile]
  exact ⟨mapGet_mapSet_same _ _ _ _, rfl⟩

theorem State.endTag_unchanged (h : (u.tile site tl).block = none) : unchangedBut [.tiles] u (u.endTag site tl tag c) := by
  rw [State.endTag_of_unblocked h]
  exact (u.setTile_unchanged _ _ _).trans (State.setTile_unchanged _ _ _ _)

theorem State.endTag_tilesBut (u : State) (site tl tag : Nat) (c : Code) : tilesBut site tl u (u.endTag site tl tag c) :=
  (u.setTile_tilesBut _ _ _).trans (State.settle_tilesBut _ _ _)

/-- A command for a tag whose operation can finish answers the state with the tag ended. -/
theorem exec_tagComplete {s : State} {a : AsyncOp} {ue : List Nat} {ce : Nat} {ecc : Ecc}
    (ha : (s.tile site tl).async.find? (fun p => p.1 == tag) = some (tag, a)) (hf : s.finishTag site tl tag a ue ce ecc = some (u, c)) :
    exec (.tagComplete site tl tag ue ce ecc none) s = .next (u.endTag site tl tag c) := by
  change execTagComplete site tl tag ue ce ecc none s = _
  simp only [execTagComplete, ha, hf]

end

/-! ### Loads -/

theorem State.dramUe_unchanged (s : State) (site tl v : Nat) : unchangedBut [.objs, .log, .cols] s (s.dramUe site tl v) := by
  rw [unchangedBut_iff]
  simp [State.dramUe]

theorem State.symbols_unchanged (s : State) (site v ce : Nat) : unchangedBut [.objs, .layers] s (s.symbols site v ce) := by
  unfold State.symbols
  split
  · exact .refl _ _
  · rw [unchangedBut_iff]
    simp

theorem State.vaultRead_unchanged (s : State) (site tl v n : Nat) (ue : List Nat) (ce : Nat) :
    unchangedBut [.objs, .log, .cols, .layers] s (s.vaultRead site tl v n ue ce) := by
  have hmarked (l : List Nat) : unchangedBut [.objs, .log, .cols, .layers] s (l.foldl (fun s i => s.dramUe site tl (v + i)) s) :=
    unchangedBut.foldl (fun s i => (s.dramUe_unchanged site tl _).mono (by simp)) l s
  exact (hmarked _).trans ((State.symbols_unchanged _ _ _ _).mono (by simp))

/-- With nothing buffered, a load reads all its units from its vault. -/
theorem State.endLoad_of_buf_none {s : State} {site tl : Nat} (tag u v n : Nat) (ue : List Nat) (ce : Nat) (h : (s.col site tl).buf = none) :
    s.endLoad site tl tag u v n ue ce =
      ((s.vaultRead site tl v n ue ce).putUnits (storeAddr site tl u) (s.vaultUnits site tl v n ue),
        if anyMark (s.vaultUnits site tl v n ue) then .poisoned else .ok) := by
  simp only [State.endLoad, h, List.length_nil, Nat.add_zero, Nat.sub_zero, if_true, List.nil_append, State.putStore]

theorem State.vaultWrite_unchanged (s : State) (site tl v : Nat) (l : List Cell32) :
    unchangedBut [.mem, .poison, .cols] s (s.vaultWrite site tl v l) := by
  have hcol (u : State) (c : VaultCol) : unchangedBut [.mem, .poison, .cols] u (u.setCol site tl c) := by
    rw [unchangedBut_iff]
    simp
  exact ((s.putUnits_unchanged _ _).mono (by simp)).trans (hcol _ _)

/-! ### Merge tickets (R141) -/

theorem State.dropContribs_unchanged (s : State) (port ticket : Nat) : unchangedBut [.gates] s (s.dropContribs port ticket) := by
  refine unchangedBut.foldl (fun s pl => ?_) _ _
  dsimp only
  split
  · exact s.setGate_unchanged _ _ _
  · exact .refl _ _

/-- A ticket leaves its station, and the contributions that wait for it leave the receive buffers. -/
def State.releaseTicket (s : State) (port ticket : Nat) : State :=
  (s.setStation port { s.station port with tickets := (s.station port).tickets.filter (fun x => x.ticket != ticket) }).dropContribs port ticket

theorem State.releaseTicket_unchanged (s : State) (port ticket : Nat) : unchangedBut [.stations, .gates] s (s.releaseTicket port ticket) :=
  ((s.setStation_unchanged _ _).mono (by simp)).trans ((State.dropContribs_unchanged _ _ _).mono (by simp))

theorem State.releaseTicket_station (s : State) (port ticket : Nat) :
    ((s.releaseTicket port ticket).station port).tickets = (s.station port).tickets.filter (fun x => x.ticket != ticket) := by
  have h : (s.releaseTicket port ticket).stations = _ := State.dropContribs_unchanged _ _ _ .stations (by simp)
  rw [State.station, h]
  exact congrArg Station.tickets (State.station_setStation s port _)

theorem State.closeTicket_of_fin {s : State} {port ticket : Nat} {k : Ticket} (hk : (s.station port).ticket ticket = some k) (hf : k.fin ≠ none) :
    s.closeTicket port ticket = s.releaseTicket port ticket := by
  have h : k.fin.isSome = true := Option.isSome_iff_ne_none.mpr hf
  simp only [State.closeTicket, hk, h, if_true, State.releaseTicket]

theorem State.closeTicket_of_open {s : State} {port ticket : Nat} {k : Ticket} (hk : (s.station port).ticket ticket = some k) (hf : k.fin = none) :
    s.closeTicket port ticket =
      (((s.releaseTicket port ticket).arrive port k.tile (k.res + 8 * k.flits) [statusUnit k .aborted s.time]).1).mergeDone port k.tile k.tag
        ticket .aborted := by
  simp only [State.closeTicket, hk, hf, Option.isSome_none, Bool.false_eq_true, if_false, State.releaseTicket]

theorem State.arrive_unchanged (s : State) (site tl addr : Nat) (l : List Cell32) :
    unchangedBut [.tiles, .objs, .sites, .mem, .poison] s (s.arrive site tl addr l).1 := by
  unfold State.arrive
  dsimp only
  split
  · exact (s.trapTile_unchanged _ _ _ _ _ _ _).mono (by simp)
  · split
    · exact (s.setTile_unchanged _ _ _).mono (by simp)
    · exact (s.putUnits_unchanged _ _).mono (by simp)

/-- A write that arrives at a tile leaves the operations of its tags. -/
theorem State.arrive_async (s : State) (site tl addr : Nat) (l : List Cell32) :
    ((s.arrive site tl addr l).1.tile site tl).async = (s.tile site tl).async := by
  unfold State.arrive
  dsimp only
  split
  · simp only [State.refuseWrite, State.trapTile_tile]
  · split
    · simp only [State.tile_setTile]
    · exact congrArg Tile.async ((s.putUnits_unchanged _ _).tile (by simp) _ _)

theorem State.mergeDone_async {s : State} {port tl tag ticket : Nat} (c : Code) {fin : Option Code}
    (h : (tag, AsyncOp.merge ticket fin) ∈ (s.tile port tl).async) :
    (tag, AsyncOp.merge ticket (some c)) ∈ ((s.mergeDone port tl tag ticket c).tile port tl).async := by
  rw [State.mergeDone, State.tile_setTile]
  exact List.mem_map.mpr ⟨_, h, by simp⟩

theorem State.issued_async (s : State) (site tl cls op : Nat) (w : StepWord) (sh : Shape) (next b : Nat) :
    ((s.issued site tl cls op w sh next).tile site b).async = (s.tile site b).async := by
  by_cases h : b = tl
  · rw [h]
    obtain ⟨-, -, -, -, hasync, -⟩ := s.issued_sameWork site tl cls op w sh next
    exact hasync
  · rw [s.issued_tilesBut site tl cls op w sh next site b (fun hp => h (Prod.mk.inj hp).2)]

/-- Settles O15: a finished operation gives the tag's code; a ticket's close releases it; a refill marks the next half as read. -/
theorem tagAndListCommandsComplete : Obligations.TagAndListCommandsComplete := by
  unfold Obligations.TagAndListCommandsComplete
  refine ⟨fun s site tile tag pl d slots st ce c codes ue ecc ha hs hb => ?bid,
    fun s site tile tag u v n first ce ue ecc ha hv hg hbuf hb => ?load,
    fun s site tile tag u v n first ce ue ecc ha hv hg hb => ?store,
    fun s site tile w k h hk hf => ?release, fun s site tile w k h hk hf => ?abort, fun s site tile hr hl => ?refill⟩
  case bid =>
    obtain ⟨hcode, hasync⟩ := State.endTag_tile (c := worst codes) (tag := tag) hb
    exact ⟨_, exec_tagComplete ha (if_pos hs), hcode, hasync, s.endTag_tilesBut _ _ _ _, State.endTag_unchanged hb⟩
  case load =>
    let r := s.vaultRead site tile v n ue ce
    let e := r.putUnits (storeAddr site tile u) (s.vaultUnits site tile v n ue)
    have hread := s.vaultRead_unchanged site tile v n ue ce
    have hput := r.putUnits_unchanged (storeAddr site tile u) (s.vaultUnits site tile v n ue)
    have hfinish : s.finishTag site tile tag (.load u v n first false) ue ce ecc =
        some (e, if anyMark (s.vaultUnits site tile v n ue) then .poisoned else .ok) := by
      simp only [State.finishTag, Bool.false_eq_true, if_false, hv, hg, Bool.not_true, or_self, State.endLoad_of_buf_none tag u v n ue ce hbuf]
      rfl
    have htile : e.tile site tile = s.tile site tile := (hput.tile (by simp) _ _).trans (hread.tile (by simp) _ _)
    have hb' : (e.tile site tile).block = none := by rw [htile]; exact hb
    obtain ⟨hcode, hasync⟩ := State.endTag_tile (u := e) (tag := tag) hb'
    refine ⟨_, exec_tagComplete ha hfinish, hcode, hasync.trans (by rw [htile]), ?_, ?_⟩
    · exact ((hread.tilesBut (by simp) _ _).trans (hput.tilesBut (by simp) _ _)).trans (e.endTag_tilesBut _ _ _ _)
    · obtain ⟨hmem, hpoison⟩ := State.putUnits_congr (storeAddr site tile u) (s.vaultUnits site tile v n ue) (hread.mem (by simp))
        (hread .poison (by simp))
      obtain ⟨hmem', hpoison'⟩ := (State.endTag_unchanged hb').memory (by simp) (by simp)
      exact ⟨fun a => (hmem' a).trans (by rw [hmem]), hpoison'.trans hpoison⟩
  case store =>
    intro r
    let l := r.getStore site tile u n
    let e := r.vaultWrite site tile v l
    have hecc := s.storeEcc_unchanged site tile (inRegions [{ base := u, len := n }]) ecc
    have hwrite := r.vaultWrite_unchanged site tile v l
    have hfinish : s.finishTag site tile tag (.store u v n first false) ue ce ecc = some (e, if anyMark l then .poisoned else .ok) := by
      simp only [State.finishTag, Bool.false_eq_true, if_false, hv, hg, Bool.not_true, or_self]
      rfl
    have htile : e.tile site tile = s.tile site tile := (hwrite.tile (by simp) _ _).trans (hecc.tile (by simp) _ _)
    have hb' : (e.tile site tile).block = none := by rw [htile]; exact hb
    have hend := State.endTag_unchanged (tag := tag) (c := if anyMark l then .poisoned else .ok) hb'
    refine ⟨_, exec_tagComplete ha hfinish, (State.endTag_tile hb').1, ?_, hend.memory (by simp) (by simp), ?_⟩
    · exact ((hecc.tilesBut (by simp) _ _).trans (hwrite.tilesBut (by simp) _ _)).trans (e.endTag_tilesBut _ _ _ _)
    · exact ((hecc.mono (by simp)).trans (hwrite.mono (by simp))).trans (hend.mono (by simp))
  case release =>
    let b := s.issued site tile 7 1 w mergeCloseShape ((s.tile site tile).pc + 1)
    have hb := s.issued_unchanged site tile 7 1 w mergeCloseShape ((s.tile site tile).pc + 1)
    have hst : b.station site = s.station site := by rw [State.station, hb .stations (by simp)]; rfl
    have hclose := b.releaseTicket_unchanged site (fld w 18 16)
    have he := (exec_of_canIssue (i := .mergeClose site tile w) rfl h).trans (congrArg _ (State.closeTicket_of_fin (hst ▸ hk) hf))
    exact ⟨_, he, (s.issued_tilesBut _ _ _ _ _ _ _).trans (hclose.tilesBut (by simp) _ _), (hb.mono (by simp)).trans (hclose.mono (by simp)),
      (b.releaseTicket_station site _).trans (by rw [hst])⟩
  case abort =>
    let b := s.issued site tile 7 1 w mergeCloseShape ((s.tile site tile).pc + 1)
    have hb := s.issued_unchanged site tile 7 1 w mergeCloseShape ((s.tile site tile).pc + 1)
    have hst : b.station site = s.station site := by rw [State.station, hb .stations (by simp)]; rfl
    let r := b.releaseTicket site (fld w 18 16)
    have hclose := b.releaseTicket_unchanged site (fld w 18 16)
    have he := (exec_of_canIssue (i := .mergeClose site tile w) rfl h).trans (congrArg _ (State.closeTicket_of_open (hst ▸ hk) hf))
    have harrive := r.arrive_unchanged site k.tile (k.res + 8 * k.flits) [statusUnit k .aborted b.time]
    refine ⟨_, he, ?_, fun hmem => State.mergeDone_async (fin := none) .aborted ?_⟩
    · have hstations := harrive .stations (by simp)
      rw [← hst, ← b.releaseTicket_station site]
      exact congrArg (fun m => (mapGet { opens := [], tickets := [] : Station } m site).tickets) hstations
    · rw [State.arrive_async, hclose.tile (by simp), State.issued_async]
      exact hmem
  case refill =>
    refine ⟨_, rfl, ?_⟩
    simp only [hr, hl, decide_true, Bool.and_self, if_true]
    exact ⟨by rw [State.tile_setTile], State.setTile_tilesBut _ _ _ _, State.setTile_unchanged _ _ _ _⟩

end Sys2Proof.Machine
end

section
/-!
Check periods and windows of the matrix unit (R109, R111, R112), faults of tiles (R87) and dead switches (R88).
-/

namespace Sys2Proof.Machine

/-! ### Check periods (R111, R112) -/

/-- The tile in its next check period. -/
def Tile.nextPeriod (t : Tile) : Tile :=
  { t with periodAt := t.periodAt + 512, busyIv := t.busyIv.filter (fun e => decide (t.periodAt + 512 < e.2)) }

/-- A conflict period that M.050C counts; the first of a window is reported. -/
def State.conflictCounted (s : State) (site tl : Nat) : State :=
  let t := (s.tile site tl).nextPeriod
  let u := (s.bump .M050C site 1).setTile site tl { t with conflicts := t.conflicts + 1 }
  if t.conflicts + 1 = 1 then u.raise evPhaseConflict site [tl, t.window] else u

section
variable (s : State) (site tl : Nat)

theorem State.conflictCounted_tile :
    (s.conflictCounted site tl).tile site tl = { (s.tile site tl).nextPeriod with conflicts := (s.tile site tl).conflicts + 1 } := by
  unfold State.conflictCounted
  dsimp only
  split
  · exact ((State.raise_unchanged _ _ _ _).tile (by simp) _ _).trans (State.tile_setTile _ _ _ _)
  · exact State.tile_setTile _ _ _ _

theorem State.conflictCounted_unchanged : unchangedBut [.tiles, .objs, .log] s (s.conflictCounted site tl) := by
  have hset (v : Tile) : unchangedBut [.tiles, .objs, .log] s ((s.bump .M050C site 1).setTile site tl v) :=
    ((s.setObj_unchanged _ _ _).mono (by simp)).trans ((State.setTile_unchanged _ _ _ _).mono (by simp))
  unfold State.conflictCounted
  dsimp only
  split
  · exact (hset _).trans ((State.raise_unchanged _ _ _ _).mono (by simp))
  · exact hset _

theorem State.conflictCounted_tilesBut : tilesBut site tl s (s.conflictCounted site tl) := by
  have hset (v : Tile) : tilesBut site tl s ((s.bump .M050C site 1).setTile site tl v) := State.setTile_tilesBut _ _ _ _
  unfold State.conflictCounted
  dsimp only
  split
  · exact (hset _).trans ((State.raise_unchanged _ _ _ _).tilesBut (by simp) _ _)
  · exact hset _

theorem State.conflictCounted_obj (o : Obj) (i : Nat) : (s.conflictCounted site tl).obj o i = (s.bump .M050C site 1).obj o i := by
  unfold State.conflictCounted
  dsimp only
  split
  · exact (State.raise_unchanged _ _ _ _).obj (by simp) _ _
  · rfl

end

/-- A check period of a V window in which the matrix unit was busy for more than 384 cycles is a conflict period. -/
theorem exec_checkPeriodEnd_of_conflict {s : State} {site tile : Nat} (hrun : (s.tile site tile).running = true)
    (hiss : (s.tile site tile).issued = true) (hphase : s.phaseWord (s.tile site tile) tile % 2 = 1) (hon : s.obj .M050A 0 ≠ phaseOff)
    (hdue : (s.tile site tile).periodAt + 512 ≤ (s.site site).cycles)
    (hV : isMWindow (s.phaseWord (s.tile site tile) tile) tile (s.tile site tile).window = false)
    (hbusy : 384 < (s.tile site tile).busyIn (s.tile site tile).periodAt) :
    exec (.checkPeriodEnd site tile) s = .next (
      let T := s.tile site tile
      let u := s.conflictCounted site tile
      if u.obj .M050A 0 = phasePlan ∧ u.obj .M050B 0 < T.conflicts + 1 then
        u.trapTile site tile trPhaseViolation (T.window % 65536 + 65536 * ((T.conflicts + 1) % 256)) 0 0 T.pc
      else u) := by
  change execCheckPeriodEnd site tile s = _
  have hgo : ¬ (!(s.tile site tile).running || !(s.tile site tile).issued || s.phaseWord (s.tile site tile) tile % 2 == 0 ||
      s.obj .M050A 0 == phaseOff || decide ((s.site site).cycles < (s.tile site tile).periodAt + 512)) = true := by
    simp [hrun, hiss, hphase, hon, hdue]
  have hconflict : ¬ (isMWindow (s.phaseWord (s.tile site tile) tile) tile (s.tile site tile).window ||
      decide ((s.tile site tile).busyIn (s.tile site tile).periodAt ≤ 384)) = true := by
    simp [hV, hbusy]
  unfold execCheckPeriodEnd
  dsimp only
  rw [if_neg hgo, if_neg hconflict]
  rfl

/-! ### Reports of the site sequencer -/

/-- A report changes nothing of its site but the reports that wait. -/
theorem State.siteReport_site (s : State) (site : Nat) (r : BitVec 448) :
    ∃ q, (s.siteReport site r).site site = { s.site site with reports := q } := by
  have hpush (u : State) : ∃ q, (u.pushReport site).site site = { u.site site with reports := q } := by
    unfold State.pushReport
    split
    · exact ⟨_, rfl⟩
    · next m l _ =>
      have hwait := (u.mailWait_unchanged (8 + site % 8) m 2 0 site 63 0).site (by simp) site
      dsimp only
      split
      · exact ⟨l, by rw [State.site_setSite, hwait]⟩
      · exact ⟨(u.site site).reports, hwait⟩
  unfold State.siteReport
  dsimp only
  split
  · obtain ⟨q, hq⟩ := hpush (s.setSite site { s.site site with reports := [r] })
    exact ⟨q, by rw [hq, State.site_setSite]⟩
  · exact ⟨_, State.site_setSite _ _ _⟩

/-! ### Route tables (R88) -/

theorem State.foldl_setBit_unchanged (s : State) (o : Obj) (i : Nat) (l : List Nat) :
    unchangedBut [.objs] s (l.foldl (fun s k => s.setBit o i k true) s) :=
  unchangedBut.foldl (fun s _ => s.setObj_unchanged _ _ _) l s

theorem State.foldl_setBit_objs (s : State) (o : Obj) (i : Nat) (l : List Nat) :
    objsBut [o] s (l.foldl (fun s k => s.setBit o i k true) s) := by
  intro o' i' h
  induction l generalizing s with
  | nil => rfl
  | cons k r ih => exact (ih _).trans (State.obj_setObj_ne _ _ (.inl (by simpa using h)))

theorem State.foldl_setBit_obj (s : State) (o : Obj) (i : Nat) (l : List Nat) :
    (l.foldl (fun s k => s.setBit o i k true) s).obj o i = l.foldl (fun v k => bitSet v k true) (s.obj o i) := by
  induction l generalizing s with
  | nil => rfl
  | cons k r ih => rw [List.foldl_cons, ih, List.foldl_cons, State.setBit, State.obj_setObj]

/-- Settles O18: conflict periods, windows, and the two faults that a die's sequencer reports. -/
theorem dieCommandsComplete : Obligations.DieCommandsComplete := by
  unfold Obligations.DieCommandsComplete
  refine ⟨fun s site tile hrun hiss hphase hcount hdue hV hbusy => ?count, fun s site tile hrun hiss hphase hplan hdue hV hbusy hlim => ?violation,
    fun s site tile hrun hiss hphase hdue => ?window, fun s site tile => ?fault, fun s site phys hr hd => ?dead, fun s site hr => ?routes⟩
  case count =>
    have he := exec_checkPeriodEnd_of_conflict hrun hiss hphase (by rw [hcount]; decide) hdue hV hbusy
    have hno : ¬ ((s.conflictCounted site tile).obj .M050A 0 = phasePlan ∧ (s.conflictCounted site tile).obj .M050B 0 < (s.tile site tile).conflicts + 1) := by
      rw [State.conflictCounted_obj, State.obj_bump_ne _ _ _ _ (by decide), hcount]
      exact fun h => absurd h.1 (by decide)
    refine ⟨_, he.trans (congrArg _ (if_neg hno)), ?_, s.conflictCounted_tile site tile, s.conflictCounted_tilesBut site tile,
      s.conflictCounted_unchanged site tile, fun o i ho => ?_⟩
    · rw [State.conflictCounted_obj, State.obj_bump]
    · rw [State.conflictCounted_obj, State.obj_bump_ne _ _ _ _ (by simpa using ho)]
  case violation =>
    have he := exec_checkPeriodEnd_of_conflict hrun hiss hphase (by rw [hplan]; decide) hdue hV hbusy
    let u := s.conflictCounted site tile
    have hu := s.conflictCounted_tile site tile
    have hyes : u.obj .M050A 0 = phasePlan ∧ u.obj .M050B 0 < (s.tile site tile).conflicts + 1 := by
      rw [State.conflictCounted_obj, State.conflictCounted_obj, State.obj_bump_ne _ _ _ _ (by decide), State.obj_bump_ne _ _ _ _ (by decide)]
      exact ⟨hplan, hlim⟩
    have ht := u.trapTile_touchesTile site tile trPhaseViolation
      ((s.tile site tile).window % 65536 + 65536 * (((s.tile site tile).conflicts + 1) % 256)) 0 0 (s.tile site tile).pc
    refine ⟨_, u.trapRec site tile trPhaseViolation _ 0 0 _, he.trans (congrArg _ (if_pos hyes)), u.trapTile_trapped site tile _ _ _ _ _,
      (u.trapTile_traps site tile _ _ _ _ _).trans (by rw [hu]; rfl), rfl, ?_, (s.conflictCounted_tilesBut site tile).trans ht.2, ?_⟩
    · exact Nat.mod_eq_of_lt (by omega)
    · exact (((s.conflictCounted_unchanged site tile).mono (by simp)).trans ht.1).memory (by simp) (by simp)
  case window =>
    refine ⟨_, rfl, ?_⟩
    simp only [hrun, hiss, hphase, hdue, decide_true, beq_self_eq_true, Bool.and_self, if_true]
    exact ⟨State.tile_setTile _ _ _ _, State.setTile_tilesBut _ _ _ _, State.setTile_unchanged _ _ _ _⟩
  case fault =>
    let d := s.stopDie site
    let m := d.setSite site { d.site site with mapOut := d.physOf site tile :: (d.site site).mapOut }
    have hstop := s.stopDie_unchanged site
    have hset : unchangedBut [.sites] d m := d.setSite_unchanged _ _
    have hreport := m.siteReport_unchanged site (BitVec.ofNat 448 (2 + 2 ^ 8 * tile))
    obtain ⟨q, hq⟩ := m.siteReport_site site (BitVec.ofNat 448 (2 + 2 ^ 8 * tile))
    have htile (a b : Nat) : (m.siteReport site (BitVec.ofNat 448 (2 + 2 ^ 8 * tile))).tile a b = d.tile a b :=
      (hreport.tile (by simp) a b).trans (hset.tile (by simp) a b)
    have hphys : d.physOf site tile = s.physOf site tile := by
      simp only [State.physOf, State.mapValue, d, hstop.obj (show Part.objs ∉ [Part.tiles] by simp)]
    refine ⟨_, rfl, ?_, fun k hk hr => ?_, fun a b ha => ?_, ?_⟩
    · refine (congrArg Site.mapOut hq).trans ?_
      rw [State.site_setSite, hphys, hstop.site (by simp)]
    · refine (congrArg Tile.stopped (htile site k)).trans ?_
      exact s.stopDie_stopped site hk hr
    · exact (htile a b).trans (s.stopDie_other b ha)
    · exact ((hstop.mono (l' := [.tiles, .sites, .boxes, .out]) (by simp)).trans ((hset.mono (by simp)).trans (hreport.mono (by simp)))).memory
        (by simp) (by simp)
  case dead =>
    let m := s.setSite site { s.site site with
      reported := (s.site site).reported ++ [phys], mesh := (s.site site).mesh.filter (fun b => !(b.standing && b.here == phys)) }
    have hset : unchangedBut [.sites] s m := s.setSite_unchanged _ _
    have hreport := m.siteReport_unchanged site (BitVec.ofNat 448 (3 + 2 ^ 8 * phys))
    obtain ⟨q, hq⟩ := m.siteReport_site site (BitVec.ofNat 448 (3 + 2 ^ 8 * phys))
    have hnew : ¬ ((s.site site).reported.contains phys || bitGet (s.obj .S0401 site) phys) = true := by simp [hr, hd]
    have hall := (hset.mono (l' := [.sites, .boxes, .out]) (by simp)).trans hreport
    refine ⟨_, congrArg Host.Outcome.next (if_neg hnew), ?_, ?_, hall.memory (by simp) (by simp), fun a b => hall.tile (by simp) a b⟩
    · exact (congrArg Site.reported hq).trans (by rw [State.site_setSite])
    · exact (congrArg Site.mesh hq).trans (by rw [State.site_setSite])
  case routes =>
    have hsome : ¬ (s.site site).reported.isEmpty = true := by simpa using hr
    let u := (s.site site).reported.foldl (fun s k => s.setBit .S0401 site k true) s
    refine ⟨_, congrArg Host.Outcome.next (if_neg hsome), ?_⟩
    rw [State.site_setSite]
    refine ⟨rfl, s.foldl_setBit_obj .S0401 site _, rfl, rfl, ?_, s.foldl_setBit_objs .S0401 site _⟩
    exact ((s.foldl_setBit_unchanged .S0401 site _).mono (by simp)).trans ((State.setSite_unchanged _ _ _).mono (by simp))

end Sys2Proof.Machine
end

section
/-!
Bids that leave their headgate, a lone class A bid at its market, grants that meet a payload or none, and slots lost on the light (R124 to R136).
-/

namespace Sys2Proof.Machine

/-! ### Bid words (R125) -/

theorem firstBid_of_classA {boundary : Nat} {l : List Bid} {p : Bid × List Bid}
    (h : takeFirst (fun b : Bid => decide (b.at' + 8 ≤ boundary) && decide (b.cls = .A)) l = some p) : firstBid boundary l = some p := by
  simp only [firstBid, h]

theorem firstBid_of_noClassA {boundary : Nat} {l : List Bid} {p : Bid × List Bid}
    (hA : takeFirst (fun b : Bid => decide (b.at' + 8 ≤ boundary) && decide (b.cls = .A)) l = none)
    (h : takeFirst (fun b : Bid => decide (b.at' + 8 ≤ boundary)) l = some p) : firstBid boundary l = some p := by
  simp only [firstBid, hA, h]

/-- A headgate that takes over no other's bids sends its own first bid. -/
theorem exec_bidWordSend {s : State} {port plane : Nat} {b : Bid} {rest : List Bid} (hw : (s.gate port plane).wordSlot ≠ some s.slotNo)
    (hp : s.obj .B0600 plane ≠ planeRetired) (ht : s.takesOver plane = false)
    (hf : firstBid (64 * s.slotNo) (s.gate port plane).bids = some (b, rest)) : exec (.bidWordSend port plane) s = .next (
      (s.setGate port plane { s.gate port plane with bids := rest, wordSlot := some s.slotNo }).setMarket plane
        { s.market plane with arriving := (s.market plane).arriving ++ [{ src := port, bid := b, since := s.slotNo }] }) := by
  change execBidWordSend port plane s = _
  simp only [execBidWordSend, hf, ht, Bool.false_eq_true, if_false, if_neg (not_or.mpr ⟨hw, hp⟩)]
  rfl

/-! ### A market with one bid (R127 to R131) -/

/-- Alone in its class A, a bid is matched in the first pass. -/
theorem passOne_singleton {x : TableBid} (h : x.bid.cls = .A) : passOne [x] = [x] := by
  cases hr : x.bid.retry <;> simp [passOne, byAge, insertAge, distinct, h, hr]

theorem passTwo_nil (weights : Nat × Nat × Nat) (m : Market) : passTwo weights m [] = ([], m) := by
  simp [passTwo, distinct]

theorem stillFree_self (x : TableBid) : stillFree [x] [x] = [] := by
  simp [stillFree]

/-- The lone class A bid of a table, between ports that are not withheld, is the whole matching. -/
theorem Market.matching_of_lone {m : Market} {x : TableBid} {slot : Nat} (weights : Nat × Nat × Nat) (hr : m.retries = []) (ht : m.table = [x])
    (hA : x.bid.cls = .A) (hs : m.holds x.src slot = false) (hd : m.holds x.bid.dst slot = false) : m.matching weights slot = ([x], m) := by
  have hlive : (m.retries ++ m.table).filter (fun x => !m.holds x.src slot && !m.holds x.bid.dst slot) = [x] := by simp [hr, ht, hs, hd]
  simp only [Market.matching, hlive, passOne_singleton hA, stillFree_self, passTwo_nil, List.append_nil]

theorem takeSlot_singleton {x : TableBid} (h : x.bid.cls = .A) : takeSlot x [x] =
    if x.bid.slots ≤ 1 then [] else [{ x with bid := { x.bid with slots := x.bid.slots - 1, sidx := x.bid.sidx + 1, cls := .B } }] := by
  simp [takeSlot, h]

/-- With no bid word on its way and no bid that ends, a market only notes the slot. -/
theorem State.takeBids_of_quiet {s : State} {plane : Nat} (ha : (s.market plane).arriving = [])
    (hend : ∀ x ∈ (s.market plane).table, s.bidEnds plane x = false) :
    (s.takeBids plane).market plane = { s.market plane with lastMatch := some s.slotNo } ∧ unchangedBut [.markets] s (s.takeBids plane) := by
  let u := s.setMarket plane { s.market plane with arriving := [], lastMatch := some s.slotNo }
  have hu : u.market plane = { s.market plane with arriving := [], lastMatch := some s.slotNo } := State.market_setMarket _ _ _
  have hbad : (u.market plane).table.filter (fun x => u.bidEnds plane x) = [] := by
    rw [hu, List.filter_eq_nil_iff]
    exact fun x hx => Bool.not_eq_true _ ▸ hend x hx
  have hkept : (u.market plane).table.filter (fun x => !u.bidEnds plane x) = (u.market plane).table := by
    rw [hu, List.filter_eq_self]
    exact fun x hx => by
      have h : u.bidEnds plane x = false := hend x hx
      rw [h]
      rfl
  have htake : s.takeBids plane = u.setMarket plane (u.market plane) := by
    simp only [State.takeBids, ha, List.filter_nil, List.foldl_nil]
    change List.foldl _ (u.setMarket plane { u.market plane with table := _ }) ((u.market plane).table.filter (fun x => u.bidEnds plane x)) = _
    rw [hbad, hkept]
    rfl
  rw [htake]
  refine ⟨?_, (s.setMarket_unchanged _ _).trans (State.setMarket_unchanged _ _ _)⟩
  rw [State.market_setMarket, hu, ← ha]

/-- The grant of a lone bid: what the market makes of it, and the wait that B.0608 shows of its source. -/
theorem exec_marketMatch_of_lone {s : State} {plane : Nat} {x : TableBid} (hm : (s.market plane).lastMatch ≠ some s.slotNo)
    (hmatch : ((s.takeBids plane).market plane).matching (s.takeBids plane).weights ((s.takeBids plane).slotNo + 4) =
      ([x], (s.takeBids plane).market plane)) : exec (.marketMatch plane) s = .next (
      let u := s.takeBids plane
      let m := u.market plane
      let v := u.setMarket plane { m with
        table := takeSlot x m.table, retries := takeSlot x m.retries
        grants := m.grants ++ [{ src := x.src, bid := { x.bid with slots := 1 }, slot := u.slotNo + 4, since := x.since }]
        settings := m.settings.filter (fun e => decide (u.slotNo ≤ e.1)) ++ [(u.slotNo + 4, routeMatching [(x.src, x.bid.dst)])] }
      if !x.bid.retry then v.setObj .B0608 x.src (max (v.obj .B0608 x.src) (v.slotNo - x.since)) else v) := by
  have hnew : [x].filter (fun y => !y.bid.retry) = if !x.bid.retry then [x] else [] := List.filter_cons
  change execMarketMatch plane s = _
  simp only [execMarketMatch, if_neg hm, hmatch, hnew, List.foldl_cons, List.foldl_nil, List.map_cons, List.map_nil, List.cons_ne_nil, if_false]
  split <;> rfl

/-! ### Slots lost on the light (R136) -/

theorem State.bidCode_unchanged (s : State) (port : Nat) (who : Sender) (tag sidx : Nat) (codes : List Code) :
    unchangedBut [.tiles, .posts, .log, .movers] s (s.bidCode port who tag sidx codes) := by
  unfold State.bidCode
  split
  · dsimp only
    split
    · exact (s.setTile_unchanged _ _ _).mono (by simp)
    · exact .refl _ _
  · unfold State.postEnds
    split
    · exact .refl _ _
    · split
      · rw [unchangedBut_iff]
        simp
      · refine unchangedBut.trans ?_ ((State.raise_unchanged _ _ _ _).mono (by simp))
        rw [unchangedBut_iff]
        simp
  · exact (s.setMover_unchanged _ _).mono (by simp)
  · exact .refl _ _

/-- What the end of a part of a bid leaves in the log: at most one event, of a post that is lost. -/
theorem State.bidCode_events (s : State) (port : Nat) (who : Sender) (tag sidx : Nat) (codes : List Code) :
    (s.bidCode port who tag sidx codes).log.events = s.log.events ∨
      ∃ e, (s.bidCode port who tag sidx codes).log.events = (e :: s.log.events).take 16384 := by
  unfold State.bidCode
  split
  · dsimp only
    split
    · exact .inl rfl
    · exact .inl rfl
  · unfold State.postEnds
    split
    · exact .inl rfl
    · split
      · exact .inl rfl
      · exact .inr ⟨_, (State.raise_events _ _ _ _).1⟩
  · exact .inl rfl
  · exact .inl rfl

theorem State.unstage_unchanged (s : State) (port plane : Nat) (x : Slot) : unchangedBut [.gates] s (s.unstage port plane x) := by
  refine unchangedBut.foldl (fun s pl => ?_) _ _
  dsimp only
  split
  · exact s.setGate_unchanged _ _ _
  · exact .refl _ _

/-- What the verdict on a slot may change: its requester, what it staged, and the post that it carried. -/
theorem State.settleSlot_unchanged (s : State) (plane : Nat) (x : Slot) (c : Code) :
    unchangedBut [.gates, .tiles, .posts, .log, .movers] s (s.settleSlot plane x c) := by
  unfold State.settleSlot
  split
  · exact .refl _ _
  · exact ((s.unstage_unchanged _ _ _).mono (by simp)).trans ((State.bidCode_unchanged _ _ _ _ _ _).mono (by simp))

/-- An event that stands first in the log stands among its first two after the verdict on a slot. -/
theorem State.settleSlot_events {s : State} {e : Event} (plane : Nat) (x : Slot) (c : Code) (h : s.log.events.head? = some e) :
    e ∈ (s.settleSlot plane x c).log.events.take 2 := by
  obtain ⟨l, hl⟩ : ∃ l, s.log.events = e :: l := by
    cases hs : s.log.events with
    | nil => simp [hs] at h
    | cons d l => exact ⟨l, by simpa [hs] using h⟩
  unfold State.settleSlot
  split
  · simp [hl]
  · have hlog : (s.unstage x.src plane x).log = s.log := s.unstage_unchanged x.src plane x .log (by simp)
    rcases (s.unstage x.src plane x).bidCode_events x.src x.sender x.tag x.sidx [c] with h | ⟨d, h⟩
    · simp [h, hlog, hl]
    · simp [h, hlog, hl]

/-- Settles O22: each clause is one branch of its command, with what the market and the headgate read after it. -/
theorem bidsAndGrantsComplete : Obligations.BidsAndGrantsComplete := by
  unfold Obligations.BidsAndGrantsComplete
  refine ⟨fun s port plane b rest hw hp ht hf => ?word, fun s plane x hm ha ht hr hp hA hso hdo hs hd => ?lone,
    fun s port plane g rest x hg hx => ?staged, fun s port plane g rest hg hx hslot hreq => ?late,
    fun s port plane x rest hx hretry hdo hso hgone => ?first, fun s port plane x rest hx hretry => ?second⟩
  case word =>
    have hfirst : firstBid (64 * s.slotNo) (s.gate port plane).bids = some (b, rest) :=
      hf.elim firstBid_of_classA (fun h => firstBid_of_noClassA h.1 h.2)
    refine ⟨_, exec_bidWordSend hw hp ht hfirst, ?_, ?_, ?_⟩
    · rw [State.market_setMarket]
    · exact State.gate_setGate _ _ _ _
    · exact ((s.setGate_unchanged _ _ _).mono (by simp)).trans ((State.setMarket_unchanged _ _ _).mono (by simp))
  case lone =>
    have hends : ∀ y ∈ (s.market plane).table, s.bidEnds plane y = false := by
      intro y hy
      rw [ht, List.mem_singleton] at hy
      simp [State.bidEnds, hy, hso, hdo, hp]
    obtain ⟨hmarket, hparts⟩ := State.takeBids_of_quiet ha hends
    have htime := hparts.time (by simp)
    have hslot : (s.takeBids plane).slotNo = s.slotNo := by simp only [State.slotNo, htime]
    have hmatch := Market.matching_of_lone (m := (s.takeBids plane).market plane) (s.takeBids plane).weights (slot := (s.takeBids plane).slotNo + 4)
      (by rw [hmarket]; exact hr) (by rw [hmarket]; exact ht) hA (by rw [hmarket, hslot]; exact hs) (by rw [hmarket, hslot]; exact hd)
    refine ⟨_, exec_marketMatch_of_lone hm hmatch, ?_⟩
    have hv (m : Market) : unchangedBut [.markets] s ((s.takeBids plane).setMarket plane m) := hparts.trans (State.setMarket_unchanged _ _ _)
    have hwait (v : State) (n : Nat) (b : Bool) : unchangedBut [.objs] v (if b then v.setObj .B0608 x.src n else v) ∧
        objsBut [.B0608] v (if b then v.setObj .B0608 x.src n else v) := by
      split
      · exact ⟨v.setObj_unchanged _ _ _, fun o i ho => State.obj_setObj_ne _ _ (.inl (by simpa using ho))⟩
      · exact ⟨.refl _ _, fun _ _ _ => rfl⟩
    have hread (v : State) (n : Nat) (b : Bool) : (if b then v.setObj .B0608 x.src n else v).market plane = v.market plane := by
      split <;> rfl
    dsimp only
    rw [hread, State.market_setMarket, hslot, hmarket]
    refine ⟨rfl, ?_, ?_, ((hv _).mono (by simp)).trans ((hwait _ _ _).1.mono (by simp)), fun o i ho => ?_⟩
    · exact (congrArg (takeSlot x) ht).trans (takeSlot_singleton hA)
    · exact List.mem_append_right _ (List.mem_singleton.mpr rfl)
    · exact ((hwait _ _ _).2 o i ho).trans ((hv _).obj (by simp) o i)
  case staged =>
    refine ⟨_, rfl, ?_⟩
    simp only [hg, hx, State.market_setMarket, true_and]
    exact State.setMarket_unchanged _ _ _
  case late =>
    refine ⟨_, rfl, ?_⟩
    have hreq' : (s.setMarket plane { s.market plane with grants := rest }).requesterGone port g.bid = false := hreq
    simp only [hg, hx, if_neg (Nat.not_lt.mpr hslot), hreq', Bool.false_eq_true, if_false]
    refine ⟨?_, ?_, ?_⟩
    · exact congrArg Market.grants (State.market_setMarket s plane _)
    · rw [State.gate_setGate]
      rfl
    · exact ((s.setMarket_unchanged _ _).mono (by simp)).trans ((State.setGate_unchanged _ _ _ _).mono (by simp))
  case first =>
    have hdo' : (s.setMarket plane { s.market plane with lost := rest }).portOpen x.dst = true := hdo
    have hso' : (s.setMarket plane { s.market plane with lost := rest }).portOpen x.src = true := hso
    refine ⟨_, rfl, ?_⟩
    simp only [hx, hretry, hdo', hso', hgone, Bool.false_eq_true, if_false, Bool.not_true, Bool.or_self, State.market_setMarket, true_and]
    exact (s.setMarket_unchanged _ _).trans (State.setMarket_unchanged _ _ _)
  case second =>
    let u := (((s.setMarket plane { s.market plane with lost := rest }).bump .B0605 port 1).raise evSlotFailed port [plane, x.slotno, x.stile, x.headTag])
    have hu : unchangedBut [.markets, .objs, .log] s u :=
      (((s.setMarket_unchanged _ _).mono (by simp)).trans ((State.setObj_unchanged _ _ _ _).mono (by simp))).trans
        ((State.raise_unchanged _ _ _ _).mono (by simp))
    have hsettle := u.settleSlot_unchanged plane x .busError
    refine ⟨u.settleSlot plane x .busError, ?_, ?_, ?_, ?_, ?_, ?_⟩
    · change execSlotRetry port plane s = _
      simp only [execSlotRetry, hx, hretry, if_true]
      rfl
    · have hmarkets : (u.settleSlot plane x .busError).markets = u.markets := hsettle .markets (by simp)
      rw [State.market, hmarkets]
      exact congrArg Market.lost (State.market_setMarket s plane _)
    · exact (hsettle.obj (by simp) _ _).trans (State.obj_bump (s.setMarket plane { s.market plane with lost := rest }) _ _ _)
    · exact ⟨_, State.settleSlot_events plane x .busError rfl, rfl, rfl, rfl⟩
    · exact ((hu.mono (l' := [.markets, .objs, .log, .gates, .tiles, .posts, .movers]) (by simp)).trans (hsettle.mono (by simp))).memory
        (by simp) (by simp)
    · exact fun o i ho => (hsettle.obj (by simp) _ _).trans
        (State.obj_bump_ne (s.setMarket plane { s.market plane with lost := rest }) _ _ _ (by simpa using ho))

end Sys2Proof.Machine
end

section
/-!
The canonical form of memory (R71, R92) is kept by every step: what it means that an operation leaves memory or keeps its form, and what folds,
branches and issue make of it. Of each operation of the model one lemma follows, in the order of the model: `_mem` says that it leaves memory as it is,
`_wf` that it keeps the form, `_canonical` that the state which a command answers has it.
-/

namespace Sys2Proof.Machine

/-- A step that leaves memory as it is. -/
def LeavesMem (s t : State) : Prop := t.mem = s.mem

/-- A step that keeps the canonical form. -/
def KeepsCanonical (s t : State) : Prop := Good s → Good t

@[simp] theorem leavesMem_iff (s t : State) : LeavesMem s t ↔ t.mem = s.mem := Iff.rfl

@[simp] theorem Memory.wf_iff (m : Memory) : m.wf ↔ memOk m = true := Iff.rfl

@[simp] theorem good_iff (s : State) : Good s ↔ memOk s.mem = true := Iff.rfl

theorem Good.wf {s : State} (h : Good s) : s.mem.wf := h

@[simp] theorem keepsCanonical_iff (s t : State) : KeepsCanonical s t ↔ (memOk s.mem = true → memOk t.mem = true) := Iff.rfl

@[simp] theorem foldl_mem {α : Type} {f : State → α → State} (h : ∀ s x, LeavesMem s (f s x)) (l : List α) (s : State) :
    (l.foldl f s).mem = s.mem := by
  induction l generalizing s with
  | nil => rfl
  | cons x r ih => rw [List.foldl_cons, ih, h]

@[simp] theorem foldl_memWf {α : Type} {f : State → α → State} (h : ∀ s x, KeepsCanonical s (f s x)) (l : List α) {s : State}
    (hs : Good s) : (l.foldl f s).mem.wf := by
  induction l generalizing s with
  | nil => exact hs
  | cons x r ih => exact ih (h s x hs)

@[simp] theorem State.mem_ite (c : Prop) [Decidable c] (s t : State) : (if c then s else t).mem = if c then s.mem else t.mem :=
  apply_ite State.mem c s t

@[simp] theorem State.mem_fst_ite {α : Type} (c : Prop) [Decidable c] (p q : State × α) :
    (if c then p else q).1.mem = if c then p.1.mem else q.1.mem := apply_ite (fun p => p.1.mem) c p q

@[simp] theorem memOk_ite (c : Prop) [Decidable c] (m m' : Memory) : memOk (if c then m else m') = if c then memOk m else memOk m' :=
  apply_ite memOk c m m'

/-- The memory of the next state that a command answers. -/
def Out.canonical : Out → Prop
  | .next t => t.mem.wf
  | _ => True

@[simp] theorem Out.canonical_next (t : State) : Out.canonical (.next t) ↔ t.mem.wf := Iff.rfl

@[simp] theorem State.putUnit_wf {s : State} (a : Nat) (u : Cell32) (h : Good s) : (s.putUnit a u).mem.wf := by
  rw [State.putUnit_mem]
  exact memPutNum_wf _ _ _ h

@[simp] theorem State.putUnits_wf {s : State} (a : Nat) (l : List Cell32) (h : Good s) : (s.putUnits a l).mem.wf := by
  induction l generalizing s a with
  | nil => exact h
  | cons u r ih => rw [State.putUnits]; exact ih _ (s.putUnit_wf a u h)

@[simp] theorem State.clearRange_wf {s : State} (lo hi : Nat) (h : Good s) : (s.clearRange lo hi).mem.wf := memClear_wf lo hi h

/-- A step that is issued keeps the canonical form if its effect does: waits, traps and what issuing leaves do not touch memory. -/
@[simp] theorem State.issue_wf {s : State} {site tl cls op : Nat} {w : StepWord} {sh : Shape} {next : Nat} {eff : State → State} (h : Good s)
    (he : ∀ u : State, KeepsCanonical u (eff u)) : (s.issue site tl cls op w sh next eff).mem.wf := by
  have hwait (gap : Nat) : (s.countWait site tl gap).mem = s.mem := (s.countWait_unchanged site tl gap).mem (by simp)
  have htrap (u : State) (c d k o i : Nat) (hu : u.mem = s.mem) : (u.trapTile site tl c d k o i).mem.wf := by
    rw [(u.trapTile_unchanged site tl c d k o i).mem (by simp), hu]
    exact h
  have hissued : (s.issued site tl cls op w sh next).mem.wf := by
    rw [(s.issued_unchanged site tl cls op w sh next).mem (by simp)]
    exact h
  unfold State.issue
  dsimp only
  split_ifs
  case pos | pos | pos => exact h
  case pos => exact htrap _ _ _ _ _ _ (hwait _)
  case neg =>
    split
    · exact htrap _ _ _ _ _ _ (hwait _)
    · split
      · simp [h.wf]
      · split
        · exact htrap _ _ _ _ _ _ (hwait _)
        · exact he _ hissued

end Sys2Proof.Machine
end

section
/-!
What keeps the canonical form of memory. The tile engine: issue, mailboxes, the tile store and the mesh.
-/

namespace Sys2Proof.Machine

/-! ### The named operations over the state -/

@[simp] theorem State.endCmd_mem (s : State) (o : Obj) (k : Code) : (s.endCmd o k).mem = s.mem := by
  unfold State.endCmd
  split <;> simp

@[simp] theorem State.endCmdOf_mem (s : State) (o : Obj) (arg : Nat) (k : Code) : (s.endCmdOf o arg k).mem = s.mem := by
  simp [State.endCmdOf]

@[simp] theorem State.takePassed_mem (s : State) (kind content : Nat) : (s.takePassed kind content).mem = s.mem := by
  simp [State.takePassed]

/-! ### The operands of steps -/

@[simp] theorem State.putStore_wf (s : State) (site tl base : Nat) (l : List Cell32) (h : Good s) : (s.putStore site tl base l).mem.wf := by
  simp [State.putStore, h.wf]

/-! ### Issue, traps, blocks and tags -/

@[simp] theorem State.storeEcc_mem (s : State) (site tl : Nat) (read : Nat → Bool) (e : Ecc) : (s.storeEcc site tl read e).mem = s.mem := by
  simp [State.storeEcc]

@[simp] theorem State.countWait_mem (s : State) (site tl gap : Nat) : (s.countWait site tl gap).mem = s.mem := by
  simp [State.countWait]

@[simp] theorem State.trapTile_mem (s : State) (site tl code detail cls op index : Nat) :
    (s.trapTile site tl code detail cls op index).mem = s.mem := by
  simp [State.trapTile]

@[simp] theorem State.traceRecord_mem (s : State) (site tl index : Nat) (mark : Bool) (id : Nat) :
    (s.traceRecord site tl index mark id).mem = s.mem := by
  simp [State.traceRecord]

@[simp] theorem State.settle_mem (s : State) (site tl : Nat) : (s.settle site tl).mem = s.mem := by
  unfold State.settle
  dsimp only
  (repeat' split) <;> simp

@[simp] theorem State.blockIssue_mem (s : State) (site tl : Nat) (b : Block) (cause cls op index : Nat) :
    (s.blockIssue site tl b cause cls op index).mem = s.mem := by
  simp [State.blockIssue]

@[simp] theorem State.endTag_mem (s : State) (site tl n : Nat) (c : Code) : (s.endTag site tl n c).mem = s.mem := by
  simp [State.endTag]

/-! ### Mailboxes and reports -/

@[simp] theorem State.setBoxes_mem (s : State) (n : Nat) (b : Mailbox) : (s.setBoxes n b).mem = s.mem := by
  unfold State.setBoxes
  exact foldl_mem (fun _ _ => by simp) _ _

@[simp] theorem State.mailStore_mem (s : State) (n : Nat) (payload : BitVec 448) (skind sproc sport stile schan : Nat) :
    (s.mailStore n payload skind sproc sport stile schan).mem = s.mem := by
  simp [State.mailStore]

@[simp] theorem State.mailWrite_mem (s : State) (n : Nat) (payload : BitVec 448) (skind sproc sport stile schan : Nat) :
    (s.mailWrite n payload skind sproc sport stile schan).mem = s.mem := by
  simp [State.mailWrite]

@[simp] theorem State.mailWait_mem (s : State) (n : Nat) (payload : BitVec 448) (skind sproc sport stile schan : Nat) :
    (s.mailWait n payload skind sproc sport stile schan).1.mem = s.mem := by
  simp [State.mailWait]

@[simp] theorem State.pushReport_mem (s : State) (site : Nat) : (s.pushReport site).mem = s.mem := by
  unfold State.pushReport
  split <;> simp

@[simp] theorem State.pushMoverMail_mem (s : State) (port box : Nat) : (s.pushMoverMail port box).mem = s.mem := by
  unfold State.pushMoverMail
  split <;> simp

@[simp] theorem State.moverMail_mem (s : State) (port box : Nat) (payload : BitVec 448) (chan : Nat) :
    (s.moverMail port box payload chan).mem = s.mem := by
  simp [State.moverMail]

@[simp] theorem State.siteReport_mem (s : State) (site : Nat) (r : BitVec 448) : (s.siteReport site r).mem = s.mem := by
  simp [State.siteReport]

@[simp] theorem State.mailRelease_mem (s : State) (n seq : Nat) (byHolder : Bool) : (s.mailRelease n seq byHolder).mem = s.mem := by
  simp [State.mailRelease]

@[simp] theorem State.engineNotice_mem (s : State) (port iod kind chan psn : Nat) : (s.engineNotice port iod kind chan psn).mem = s.mem := by
  simp [State.engineNotice]

@[simp] theorem State.stopDie_mem (s : State) (site : Nat) : (s.stopDie site).mem = s.mem := by
  unfold State.stopDie
  exact foldl_mem (fun _ _ => by simp) _ _

/-! ### Tile stores, their banks and their test -/

@[simp] theorem State.refuseWrite_mem (s : State) (site tl addr b : Nat) : (s.refuseWrite site tl addr b).mem = s.mem := by
  simp [State.refuseWrite]

@[simp] theorem State.drainHeld_wf (s : State) (site tl : Nat) (l : List HeldWrite) (h : Good s) : (s.drainHeld site tl l).mem.wf := by
  induction l generalizing s with
  | nil => exact h
  | cons w r ih =>
    unfold State.drainHeld
    dsimp only
    split
    · exact ih _ (by simp [h.wf])
    · split
      · simp [h.wf]
      · exact ih _ (by simp [h.wf])

@[simp] theorem State.arrive_wf (s : State) (site tl addr : Nat) (data : List Cell32) (h : Good s) : (s.arrive site tl addr data).1.mem.wf := by
  unfold State.arrive
  dsimp only
  split <;> simp [h.wf]

@[simp] theorem execTileStoreArrivingWrite_canonical (site tile addr : Nat) (data : List Cell32) (clash : Bool) (s : State) (h : Good s) :
    (execTileStoreArrivingWrite site tile addr data clash s).canonical := by
  simp [execTileStoreArrivingWrite, h.wf]

@[simp] theorem State.clearBank_wf (s : State) (site tl b : Nat) (h : Good s) : (s.clearBank site tl b).mem.wf := by
  simp [State.clearBank, h.wf]

@[simp] theorem execBankChangeDone_canonical (site tile bank : Nat) (s : State) (h : Good s) : (execBankChangeDone site tile bank s).canonical := by
  unfold execBankChangeDone
  dsimp only
  (repeat' split) <;> simp [h.wf]

@[simp] theorem execStoreTestInterval_canonical (site tile : Nat) (ecc : Ecc) (s : State) (h : Good s) :
    (execStoreTestInterval site tile ecc s).canonical := by
  unfold execStoreTestInterval
  dsimp only
  split
  · exact h
  · split <;> simp [h.wf]

@[simp] theorem execStoreTestDone_canonical (site tile : Nat) (failed : Bool) (differ : List Nat) (corrected : Nat) (s : State) (h : Good s) :
    (execStoreTestDone site tile failed differ corrected s).canonical := by
  unfold execStoreTestDone
  dsimp only
  split <;> simp [h.wf]

@[simp] theorem execCheckPeriodEnd_canonical (site tile : Nat) (s : State) (h : Good s) : (execCheckPeriodEnd site tile s).canonical := by
  simp [execCheckPeriodEnd, h.wf]

@[simp] theorem execPhaseWindowEnd_canonical (site tile : Nat) (s : State) (h : Good s) : (execPhaseWindowEnd site tile s).canonical := by
  simp [execPhaseWindowEnd, h.wf]

@[simp] theorem execPrioBucketRefill_canonical (site : Nat) (attachment : Bool) (who : Nat) (s : State) (h : Good s) :
    (execPrioBucketRefill site attachment who s).canonical := by
  unfold execPrioBucketRefill
  dsimp only
  (repeat' split) <;> simp [h.wf]

/-! ### The tile mesh and furrow beats -/

@[simp] theorem State.runMesh_mem (s : State) (site n : Nat) : (s.runMesh site n).mem = s.mem := by
  simp [State.runMesh]

@[simp] theorem State.startSend_mem (s : State) (site tl : Nat) (ecc : Ecc) : (s.startSend site tl ecc).mem = s.mem := by
  unfold State.startSend
  split <;> simp

@[simp] theorem execFurrowSend_canonical (site tile : Nat) (w : StepWord) (ecc : Ecc) (s : State) (h : Good s) :
    (execFurrowSend site tile w ecc s).canonical := by
  simp [execFurrowSend, h.wf]

@[simp] theorem execFurrowSendDone_canonical (site tile : Nat) (ecc : Ecc) (s : State) (h : Good s) :
    (execFurrowSendDone site tile ecc s).canonical := by
  unfold execFurrowSendDone
  dsimp only
  split <;> simp [h.wf]

@[simp] theorem State.writeBeat_wf (s : State) (site tl : Nat) (r : Recv) (b : Beat) (h : Good s) : (State.writeBeat s site tl r b).mem.wf := by
  simp [State.writeBeat, h.wf]

@[simp] theorem State.absorb_wf (s : State) (site tl : Nat) (l : List Beat) (h : Good s) : (s.absorb site tl l).mem.wf := by
  induction l generalizing s with
  | nil => exact h
  | cons b q ih =>
    have hq (v : Tile) : Good (s.setTile site tl v) := by simp [h.wf]
    unfold State.absorb
    dsimp only
    split
    · exact h
    · split_ifs
      · exact h
      · exact ih _ (State.writeBeat_wf _ _ _ _ _ (hq _))
      · exact ih _ (State.writeBeat_wf _ _ _ _ _ (hq _))
      · simp [h.wf]
      · simp [h.wf]

@[simp] theorem execFurrowReceive_canonical (site tile : Nat) (w : StepWord) (s : State) (h : Good s) :
    (execFurrowReceive site tile w s).canonical := by
  unfold execFurrowReceive
  exact State.issue_wf h (fun _ hs => by simp [hs.wf])

@[simp] theorem execFurrowReceiveDone_canonical (site tile : Nat) (s : State) (h : Good s) : (execFurrowReceiveDone site tile s).canonical := by
  unfold execFurrowReceiveDone
  dsimp only
  split <;> simp [h.wf]

@[simp] theorem execFurrowDeadlineExpiry_canonical (site tile : Nat) (s : State) (h : Good s) : (execFurrowDeadlineExpiry site tile s).canonical := by
  unfold execFurrowDeadlineExpiry
  dsimp only
  split
  · simp [h.wf]
  · split <;> simp [h.wf]

@[simp] theorem execFurrowBeatArrival_canonical (site tile src flow : Nat) (vc : Bool) (bad : List Nat) (s : State) (h : Good s) :
    (execFurrowBeatArrival site tile src flow vc bad s).canonical := by
  unfold execFurrowBeatArrival
  dsimp only
  split <;> simp [h.wf]

@[simp] theorem execTileFault_canonical (site tile : Nat) (s : State) (h : Good s) : (execTileFault site tile s).canonical := by
  simp [execTileFault, h.wf]

@[simp] theorem execLinkAliveTimeout_canonical (site phys : Nat) (s : State) (h : Good s) : (execLinkAliveTimeout site phys s).canonical := by
  simp [execLinkAliveTimeout, h.wf]

@[simp] theorem execRouteRecomputeDone_canonical (site : Nat) (s : State) (h : Good s) : (execRouteRecomputeDone site s).canonical := by
  simp [execRouteRecomputeDone, h.wf]

end Sys2Proof.Machine
end

section
/-!
What keeps the canonical form of memory. Stacked memory, the photonic base, posts and tickets.
-/

namespace Sys2Proof.Machine

/-! ### Vaults, remote access and scrubs -/

@[simp] theorem State.dramUe_mem (s : State) (site tl vaddr : Nat) : (s.dramUe site tl vaddr).mem = s.mem := by
  simp [State.dramUe]

@[simp] theorem State.symbols_mem (s : State) (site vaddr ce : Nat) : (s.symbols site vaddr ce).mem = s.mem := by
  simp [State.symbols]

@[simp] theorem State.vaultRead_mem (s : State) (site tl vaddr n : Nat) (ue : List Nat) (ce : Nat) :
    (s.vaultRead site tl vaddr n ue ce).mem = s.mem := by
  simp [State.vaultRead]

@[simp] theorem State.vaultWrite_wf (s : State) (site tl vaddr : Nat) (l : List Cell32) (h : Good s) : (s.vaultWrite site tl vaddr l).mem.wf := by
  simp [State.vaultWrite, h.wf]

@[simp] theorem State.showTrim_mem (s : State) (site l : Nat) : (s.showTrim site l).mem = s.mem := by
  simp [State.showTrim]

@[simp] theorem State.setScales_mem (s : State) (site : Nat) : (s.setScales site).mem = s.mem := by
  simp [State.setScales]

@[simp] theorem State.accrueSite_mem (s : State) (site : Nat) : (s.accrueSite site).mem = s.mem := by
  unfold State.accrueSite
  exact foldl_mem (fun _ _ => by simp) _ _

@[simp] theorem execVaultColumnPowerUp_canonical (site tile : Nat) (runs : List (Nat × Nat)) (s : State) (h : Good s) :
    (execVaultColumnPowerUp site tile runs s).canonical := by
  simp [execVaultColumnPowerUp, h.wf]

@[simp] theorem execVaultClearDone_canonical (site tile : Nat) (s : State) (h : Good s) : (execVaultClearDone site tile s).canonical := by
  simp [execVaultClearDone, h.wf]

@[simp] theorem execRetrim_canonical (site tile layer : Nat) (edges : List (Nat × Nat)) (s : State) (h : Good s) :
    (execRetrim site tile layer edges s).canonical := by
  simp [execRetrim, h.wf]

@[simp] theorem execRemoteQueueEnqueue_canonical (site tile : Nat) (write : Bool) (s : State) (h : Good s) :
    (execRemoteQueueEnqueue site tile write s).canonical := by
  unfold execRemoteQueueEnqueue
  dsimp only
  (repeat' split) <;> simp [h.wf]

@[simp] theorem State.remoteDone_mem (s : State) (site tl : Nat) (r : RemoteReq) (c : Code) (l : List Cell32) :
    (s.remoteDone site tl r c l).mem = s.mem := by
  simp [State.remoteDone]

@[simp] theorem execRemoteAccessServe_canonical (site tile : Nat) (ue : List Nat) (ce : Nat) (s : State) (h : Good s) :
    (execRemoteAccessServe site tile ue ce s).canonical := by
  unfold execRemoteAccessServe
  dsimp only
  split <;> simp [h.wf]

@[simp] theorem execPoisonPatternWrite_canonical (site tile : Nat) (s : State) (h : Good s) : (execPoisonPatternWrite site tile s).canonical := by
  unfold execPoisonPatternWrite
  dsimp only
  split <;> simp [h.wf]

@[simp] theorem execScrubRead_canonical (site tile : Nat) (ueUnits : List Nat) (ce : Nat) (written : Bool) (s : State) (h : Good s) :
    (execScrubRead site tile ueUnits ce written s).canonical := by
  simp [execScrubRead, h.wf]

@[simp] theorem execRefreshBurst_canonical (site tile : Nat) (s : State) (h : Good s) : (execRefreshBurst site tile s).canonical := by
  simp [execRefreshBurst, h.wf]

@[simp] theorem execTrickleRefresh_canonical (site tile layer bank : Nat) (s : State) (h : Good s) :
    (execTrickleRefresh site tile layer bank s).canonical := by
  simp [execTrickleRefresh, h.wf]

@[simp] theorem State.setSensor_mem (s : State) (r k : Nat) (v : Sensor) : (s.setSensor r k v).mem = s.mem := by
  simp [State.setSensor]

@[simp] theorem State.breakSensor_mem (s : State) (r k cause : Nat) : (s.breakSensor r k cause).mem = s.mem := by
  simp [State.breakSensor]

@[simp] theorem State.layerImplausible_mem (s : State) (site l sensor : Nat) (readings : List Nat) :
    (s.layerImplausible site l sensor readings).mem = s.mem := by
  simp [State.layerImplausible]

@[simp] theorem State.ceWindow_mem (s : State) (site l : Nat) : (s.ceWindow site l).mem = s.mem := by
  simp [State.ceWindow]

@[simp] theorem execCeWitnessWindow_canonical (site : Nat) (s : State) (h : Good s) : (execCeWitnessWindow site s).canonical := by
  simp [execCeWitnessWindow, h.wf]

@[simp] theorem State.bandColumns_mem (s : State) (site : Nat) : (s.bandColumns site).mem = s.mem := by
  simp [State.bandColumns]

@[simp] theorem State.refuseLocal_mem (s : State) (site : Nat) : (s.refuseLocal site).mem = s.mem := by
  unfold State.refuseLocal
  exact foldl_mem (fun _ _ => by simp) _ _

/-! ### Bids, grants, slots and field caches -/

@[simp] theorem State.breach_mem (s : State) (port bit : Nat) : (s.breach port bit).mem = s.mem := by
  simp [State.breach]

@[simp] theorem State.postEnds_mem (s : State) (n : Nat) (arrived : Bool) : (s.postEnds n arrived).mem = s.mem := by
  unfold State.postEnds
  split <;> simp

@[simp] theorem State.sendPost_mem (s : State) (p : Post) : (s.sendPost p).mem = s.mem := by
  simp [State.sendPost]

@[simp] theorem State.moverAnswer_mem (s : State) (port chan tag sidx : Nat) (k : Code) : (s.moverAnswer port chan tag sidx k).mem = s.mem := by
  simp [State.moverAnswer]

@[simp] theorem State.answerRead_mem (s : State) (port rid : Nat) (k : Code) (l : List Cell32) : (s.answerRead port rid k l).mem = s.mem := by
  simp [State.answerRead]

@[simp] theorem State.bidCode_mem (s : State) (port : Nat) (who : Sender) (tag sidx : Nat) (codes : List Code) :
    (s.bidCode port who tag sidx codes).mem = s.mem := by
  unfold State.bidCode
  dsimp only
  (repeat' split) <;> simp

@[simp] theorem State.unstageAll_mem (s : State) (port plane : Nat) (f : Slot → Bool) : (s.unstageAll port plane f).mem = s.mem :=
  foldl_mem (fun _ _ => by simp) _ _

@[simp] theorem State.unstage_mem (s : State) (port plane : Nat) (x : Slot) : (s.unstage port plane x).mem = s.mem := by
  unfold State.unstage
  exact foldl_mem (fun _ _ => by simp) _ _

@[simp] theorem State.settleSlot_mem (s : State) (plane : Nat) (x : Slot) (c : Code) : (s.settleSlot plane x c).mem = s.mem := by
  simp [State.settleSlot]

@[simp] theorem State.failBid_mem (s : State) (plane src : Nat) (b : Bid) (c : Code) : (s.failBid plane src b c).mem = s.mem := by
  simp [State.failBid]

@[simp] theorem execBidWordSend_canonical (port plane : Nat) (s : State) (h : Good s) : (execBidWordSend port plane s).canonical := by
  unfold execBidWordSend
  dsimp only
  split
  · simp [h.wf]
  · split <;> simp [h.wf]

@[simp] theorem State.checkBid_mem (s : State) (plane : Nat) (x : TableBid) : (s.checkBid plane x).mem = s.mem := by
  simp [State.checkBid]

@[simp] theorem State.withhold_mem (s : State) (plane port a b : Nat) : (s.withhold plane port a b).mem = s.mem := by
  simp [State.withhold]

@[simp] theorem State.takeBids_mem (s : State) (plane : Nat) : (s.takeBids plane).mem = s.mem := by
  simp [State.takeBids]

@[simp] theorem execMarketMatch_canonical (plane : Nat) (s : State) (h : Good s) : (execMarketMatch plane s).canonical := by
  simp [execMarketMatch, h.wf]

@[simp] theorem execGrantArrival_canonical (port plane : Nat) (s : State) (h : Good s) : (execGrantArrival port plane s).canonical := by
  unfold execGrantArrival
  dsimp only
  split
  · simp [h.wf]
  · split <;> simp [h.wf]

@[simp] theorem State.mergeRefuse_mem (s : State) (port plane ticket : Nat) (c : Code) : (s.mergeRefuse port plane ticket c).mem = s.mem := by
  simp [State.mergeRefuse]

@[simp] theorem State.deliver_wf (s : State) (plane : Nat) (x : Slot) (c : Code) (h : Good s) : (s.deliver plane x c).mem.wf := by
  unfold State.deliver
  dsimp only
  (repeat' split) <;> simp [h.wf]

@[simp] theorem State.countLoss_mem (s : State) (port plane cause : Nat) : (s.countLoss port plane cause).mem = s.mem := by
  unfold State.countLoss
  dsimp only
  split <;> simp

@[simp] theorem execSlotVerdict_canonical (port plane : Nat) (found : SlotFault) (s : State) (h : Good s) :
    (execSlotVerdict port plane found s).canonical := by
  unfold execSlotVerdict
  dsimp only
  split
  · simp [h.wf]
  · split <;> simp [h.wf]

@[simp] theorem execSlotRetry_canonical (port plane : Nat) (s : State) (h : Good s) : (execSlotRetry port plane s).canonical := by
  unfold execSlotRetry
  dsimp only
  split <;> simp [h.wf]

@[simp] theorem execReceiveBufferDrain_canonical (port plane : Nat) (s : State) (h : Good s) : (execReceiveBufferDrain port plane s).canonical := by
  unfold execReceiveBufferDrain
  dsimp only
  (repeat' split) <;> simp [h.wf]

@[simp] theorem execRacReadRequest_canonical (port plane : Nat) (s : State) (h : Good s) : (execRacReadRequest port plane s).canonical := by
  unfold execRacReadRequest
  dsimp only
  split <;> simp [h.wf]

@[simp] theorem State.cacheUe_mem (s : State) (field unit : Nat) : (s.cacheUe field unit).mem = s.mem := by
  simp [State.cacheUe]

@[simp] theorem State.cacheRead_mem (s : State) (field addr n : Nat) (ue : List Nat) (ce : Nat) : (s.cacheRead field addr n ue ce).mem = s.mem := by
  simp [State.cacheRead]

@[simp] theorem execRacReadReply_canonical (port : Nat) (ueUnits : List Nat) (ce : Nat) (s : State) (h : Good s) :
    (execRacReadReply port ueUnits ce s).canonical := by
  unfold execRacReadReply
  dsimp only
  (repeat' split) <;> simp [h.wf]

@[simp] theorem execFieldCacheScrub_canonical (field ce : Nat) (ueUnits : List Nat) (s : State) (h : Good s) :
    (execFieldCacheScrub field ce ueUnits s).canonical := by
  simp [execFieldCacheScrub, h.wf]

@[simp] theorem State.orderly_mem (s : State) (port : Nat) : (s.orderly port).mem = s.mem := by
  simp [State.orderly]

@[simp] theorem execOrderlyWithdrawal_canonical (port : Nat) (s : State) (h : Good s) : (execOrderlyWithdrawal port s).canonical := by
  simp [execOrderlyWithdrawal, h.wf]

@[simp] theorem State.abruptPlane_mem (s : State) (port plane : Nat) (supply : Bool) : (s.abruptPlane port plane supply).mem = s.mem := by
  simp [State.abruptPlane]

@[simp] theorem State.abrupt_mem (s : State) (port : Nat) (supply : Bool) : (s.abrupt port supply).mem = s.mem := by
  simp [State.abrupt]

@[simp] theorem execAbruptWithdrawal_canonical (port : Nat) (supply : Bool) (s : State) (h : Good s) :
    (execAbruptWithdrawal port supply s).canonical := by
  simp [execAbruptWithdrawal, h.wf]

@[simp] theorem State.retirePlane_mem (s : State) (plane cause : Nat) : (s.retirePlane plane cause).mem = s.mem := by
  simp [State.retirePlane]

@[simp] theorem execPlaneRetire_canonical (plane cause : Nat) (s : State) (h : Good s) : (execPlaneRetire plane cause s).canonical := by
  simp [execPlaneRetire, h.wf]

@[simp] theorem State.recoveryFrame_mem (s : State) (lampDie plane tree : Nat) : (s.recoveryFrame lampDie plane tree).mem = s.mem := by
  simp [State.recoveryFrame]

@[simp] theorem execBundleRecoveryFrame_canonical (lampDie plane tree : Nat) (s : State) (h : Good s) :
    (execBundleRecoveryFrame lampDie plane tree s).canonical := by
  simp [execBundleRecoveryFrame, h.wf]

@[simp] theorem State.joinBase_mem (s : State) (port : Nat) : (s.joinBase port).mem = s.mem := by
  simp [State.joinBase]

@[simp] theorem State.restorePort_mem (s : State) (port : Nat) : (s.restorePort port).mem = s.mem := by
  simp [State.restorePort]

@[simp] theorem execPathTest_canonical (port plane : Nat) (pass : Bool) (s : State) (h : Good s) : (execPathTest port plane pass s).canonical := by
  simp [execPathTest, h.wf]

/-! ### Mailbox commands and check units -/

@[simp] theorem execMailboxWrite_canonical (box : Nat) (payload : BitVec 448) (skind sproc sport stile schan : Nat) (s : State) (h : Good s) :
    (execMailboxWrite box payload skind sproc sport stile schan s).canonical := by
  simp [execMailboxWrite, h.wf]

@[simp] theorem execMailboxWaitWrite_canonical (box : Nat) (payload : BitVec 448) (skind sproc sport stile schan : Nat) (s : State) (h : Good s) :
    (execMailboxWaitWrite box payload skind sproc sport stile schan s).canonical := by
  simp [execMailboxWaitWrite, h.wf]

@[simp] theorem execMailboxRelease_canonical (box seq : Nat) (s : State) (h : Good s) : (execMailboxRelease box seq s).canonical := by
  simp [execMailboxRelease, h.wf]

@[simp] theorem execMboxWaitExpiry_canonical (box : Nat) (s : State) (h : Good s) : (execMboxWaitExpiry box s).canonical := by
  unfold execMboxWaitExpiry
  dsimp only
  split <;> simp [h.wf]

@[simp] theorem State.checkClash_mem (s : State) (unit : Nat) : (s.checkClash unit).mem = s.mem := by
  simp [State.checkClash]

@[simp] theorem State.checkAccess_mem (s : State) (unit : Nat) (x : CheckOp) : (s.checkAccess unit x).mem = s.mem := by
  simp [State.checkAccess]

@[simp] theorem execCheckStart_canonical (unit : Nat) (s : State) (h : Good s) : (execCheckStart unit s).canonical := by
  simp [execCheckStart, h.wf]

@[simp] theorem execCheckRegWrite_canonical (unit reg : Nat) (value : BitVec 64) (s : State) (h : Good s) :
    (execCheckRegWrite unit reg value s).canonical := by
  simp [execCheckRegWrite, h.wf]

@[simp] theorem execFeed8_canonical (unit : Nat) (v : BitVec 32) (s : State) (h : Good s) : (execFeed8 unit v s).canonical := by
  simp [execFeed8, h.wf]

@[simp] theorem execFeed16_canonical (unit : Nat) (v : BitVec 32) (s : State) (h : Good s) : (execFeed16 unit v s).canonical := by
  simp [execFeed16, h.wf]

@[simp] theorem execFeed32_canonical (unit : Nat) (v : BitVec 32) (s : State) (h : Good s) : (execFeed32 unit v s).canonical := by
  simp [execFeed32, h.wf]

@[simp] theorem execCheckFeedDone_canonical (unit : Nat) (s : State) (h : Good s) : (execCheckFeedDone unit s).canonical := by
  simp [execCheckFeedDone, h.wf]

@[simp] theorem execCheckClashClear_canonical (unit : Nat) (s : State) (h : Good s) : (execCheckClashClear unit s).canonical := by
  simp [execCheckClashClear, h.wf]

/-! ### Tally counters and posts -/

@[simp] theorem State.addSite_mem (s : State) (site ctr n : Nat) : (s.addSite site ctr n).mem = s.mem := by
  simp [State.addSite]

@[simp] theorem State.addIod_mem (s : State) (i ctr n : Nat) : (s.addIod i ctr n).mem = s.mem := by
  simp [State.addIod]

@[simp] theorem State.directPost_mem (s : State) (port ctr n : Nat) : (s.directPost port ctr n).mem = s.mem := by
  unfold State.directPost
  split <;> simp

@[simp] theorem State.clearBanks_mem (s : State) (replica slot wave : Nat) : (s.clearBanks replica slot wave).mem = s.mem := by
  simp [State.clearBanks]

@[simp] theorem tallyWaitEffect_mem (site tl : Nat) (w : StepWord) (index : Nat) (s : State) : (tallyWaitEffect site tl w index s).mem = s.mem := by
  simp [tallyWaitEffect]

@[simp] theorem execTallyWait_canonical (site tile : Nat) (w : StepWord) (s : State) (h : Good s) : (execTallyWait site tile w s).canonical := by
  simp [execTallyWait, h.wf]

@[simp] theorem execTallyWaitSatisfied_canonical (site tile : Nat) (s : State) (h : Good s) : (execTallyWaitSatisfied site tile s).canonical := by
  unfold execTallyWaitSatisfied
  dsimp only
  split <;> simp [h.wf]

@[simp] theorem execTallyWaitTimeout_canonical (site tile : Nat) (s : State) (h : Good s) : (execTallyWaitTimeout site tile s).canonical := by
  unfold execTallyWaitTimeout
  dsimp only
  split <;> simp [h.wf]

@[simp] theorem execTallyPost_canonical (site tile : Nat) (w : StepWord) (s : State) (h : Good s) : (execTallyPost site tile w s).canonical := by
  simp [execTallyPost, h.wf]

@[simp] theorem State.arrivePost_mem (s : State) (p : Post) : (s.arrivePost p).mem = s.mem := by
  unfold State.arrivePost
  split_ifs
  · simp
  · simp
  · simp
  · split <;> simp

@[simp] theorem execTallyPostArrival_canonical (port ctr inc wave16 replica slot : Nat) (step : Bool) (s : State) (h : Good s) :
    (execTallyPostArrival port ctr inc wave16 replica slot step s).canonical := by
  unfold execTallyPostArrival
  split <;> simp [h.wf]

/-! ### Reads and writes by address -/

@[simp] theorem State.passWrites_wf (s : State) (p t u n : Nat) (h : Good s) : (s.passWrites p t u n).mem.wf := by
  have hold (l : List RemoteReq) (v : VaultCol) : Good (if l = [] then s else s.setCol p t v) := by simp [h.wf]
  have hwritten (l : List RemoteReq) (v : VaultCol) : Good (l.foldl (fun s r => (s.vaultWrite p t r.addr r.data).remoteDone p t r
      (if anyMark r.data then .poisoned else .ok) []) (if l = [] then s else s.setCol p t v)) :=
    foldl_memWf (fun _ _ hs => by simp [Good.wf hs]) _ (hold l v)
  unfold State.passWrites
  dsimp only
  refine foldl_memWf (fun _ _ hs => State.vaultWrite_wf _ _ _ _ _ hs) _ ?_
  split
  · exact hwritten _ _
  · exact hwritten _ _

@[simp] theorem State.writePlace_wf (s : State) (x : Place) (l : List Cell32) (h : Good s) : (s.writePlace x l).1.mem.wf := by
  unfold State.writePlace
  split <;> simp [h.wf]

@[simp] theorem State.readPlace_wf (s : State) (x : Place) (n : Nat) (ue : List Nat) (ce : Nat) (h : Good s) : (s.readPlace x n ue ce).1.mem.wf := by
  unfold State.readPlace
  split <;> simp [h.wf]

/-! ### Lamps, rings and calibration -/

@[simp] theorem State.showBundle_mem (s : State) (p plane : Nat) : (s.showBundle p plane).mem = s.mem := by
  simp [State.showBundle]

@[simp] theorem State.showLamp_mem (s : State) (die : Nat) : (s.showLamp die).mem = s.mem := by
  simp [State.showLamp]

@[simp] theorem State.enterLane_mem (s : State) (n st : Nat) : (s.enterLane n st).mem = s.mem := by
  simp [State.enterLane]

@[simp] theorem State.showTreeLanes_mem (s : State) (iod e : Nat) (lit : Bool) : (s.showTreeLanes iod e lit).mem = s.mem := by
  unfold State.showTreeLanes
  exact foldl_mem (fun _ _ => by simp) _ _

@[simp] theorem State.setLight_mem (s : State) (set w : Nat) (v : LightSrc) : (s.setLight set w v).mem = s.mem := by
  unfold State.setLight
  dsimp only
  (repeat' split) <;> simp

@[simp] theorem State.startLanes_mem (s : State) (i : Nat) : (s.startLanes i).mem = s.mem := by
  simp [State.startLanes]

@[simp] theorem State.powerIod_mem (s : State) (i : Nat) : (s.powerIod i).mem = s.mem := by
  simp [State.powerIod]

@[simp] theorem State.rampPower_mem (s : State) (n : Nat) (base target : ℤ) (back : Bool) : (s.rampPower n base target back).mem = s.mem := by
  simp [State.rampPower]

@[simp] theorem State.beginSplit_mem (s : State) (set w : Nat) (atOnce : Bool) : (s.beginSplit set w atOnce).mem = s.mem := by
  simp [State.beginSplit]

@[simp] theorem State.endSplit_mem (s : State) (set w : Nat) : (s.endSplit set w).mem = s.mem := by
  simp [State.endSplit]

@[simp] theorem State.wantCarry_mem (s : State) (set w : Nat) (now : Bool) : (s.wantCarry set w now).mem = s.mem := by
  simp [State.wantCarry]

@[simp] theorem State.carrySettled_mem (s : State) (set w : Nat) : (s.carrySettled set w).mem = s.mem := by
  simp [State.carrySettled]

@[simp] theorem State.armReserve_mem (s : State) (set w : Nat) : (s.armReserve set w).mem = s.mem := by
  simp [State.armReserve]

@[simp] theorem execLaserPowerLoop_canonical (laser : Nat) (pd : ℤ) (s : State) (h : Good s) : (execLaserPowerLoop laser pd s).canonical := by
  unfold execLaserPowerLoop
  split <;> simp [h.wf]

@[simp] theorem State.restCal_mem (s : State) (set : Nat) : (s.restCal set).mem = s.mem := by
  simp [State.restCal]

@[simp] theorem State.fillLanes_mem (s : State) (set : Nat) : (s.fillLanes set).mem = s.mem := by
  unfold State.fillLanes
  split <;> simp

@[simp] theorem execReserveSwitch_canonical (laser : Nat) (matchGhz matchDb : ℤ) (s : State) (h : Good s) :
    (execReserveSwitch laser matchGhz matchDb s).canonical := by
  unfold execReserveSwitch
  split <;> simp [h.wf]

@[simp] theorem State.goDark_mem (s : State) (set w : Nat) : (s.goDark set w).mem = s.mem := by
  simp [State.goDark]

@[simp] theorem execCarrySwitch_canonical (lampDie set wavelength : Nat) (s : State) (h : Good s) :
    (execCarrySwitch lampDie set wavelength s).canonical := by
  simp [execCarrySwitch, h.wf]

@[simp] theorem execFastFade_canonical (laser drop : Nat) (s : State) (h : Good s) : (execFastFade laser drop s).canonical := by
  unfold execFastFade
  dsimp only
  split
  · simp [h.wf]
  · split <;> simp [h.wf]

@[simp] theorem State.loseLamp_mem (s : State) (die cause : Nat) : (s.loseLamp die cause).mem = s.mem := by
  simp [State.loseLamp]

@[simp] theorem execLampDieLost_canonical (lampDie cause : Nat) (s : State) (h : Good s) : (execLampDieLost lampDie cause s).canonical := by
  simp [execLampDieLost, h.wf]

@[simp] theorem execRingTrack_canonical (ring : Nat) (offset : ℤ) (s : State) (h : Good s) : (execRingTrack ring offset s).canonical := by
  unfold execRingTrack
  split <;> simp [h.wf]

@[simp] theorem execCalibration_canonical (quantity place : Nat) (first second : CalMeas) (s : State) (h : Good s) :
    (execCalibration quantity place first second s).canonical := by
  unfold execCalibration
  dsimp only
  (repeat' split) <;> simp [h.wf]

/-! ### PTP -/

@[simp] theorem State.ptpEnter_mem (s : State) (v : Nat) : (s.ptpEnter v).mem = s.mem := by
  simp [State.ptpEnter]

@[simp] theorem State.masterLost_mem (s : State) : s.masterLost.mem = s.mem := by
  simp [State.masterLost]

@[simp] theorem State.ptpPorts_mem (s : State) : s.ptpPorts.mem = s.mem := by
  unfold State.ptpPorts
  split <;> simp

/-! ### Torus links -/

@[simp] theorem State.linkBreach_mem (s : State) (n bit : Nat) : (s.linkBreach n bit).mem = s.mem := by
  simp [State.linkBreach]

@[simp] theorem State.enterLink_mem (s : State) (n st : Nat) : (s.enterLink n st).mem = s.mem := by
  simp [State.enterLink]

@[simp] theorem State.dropLink_mem (s : State) (n : Nat) : (s.dropLink n).mem = s.mem := by
  simp [State.dropLink]

@[simp] theorem State.restripe_mem (s : State) (n : Nat) : (s.restripe n).mem = s.mem := by
  simp [State.restripe]

@[simp] theorem State.restriped_mem (s : State) (n : Nat) : (s.restriped n).mem = s.mem := by
  simp [State.restriped]

@[simp] theorem State.sendLaneReport_mem (s : State) (n : Nat) : (s.sendLaneReport n).mem = s.mem := by
  simp [State.sendLaneReport]

@[simp] theorem execReceiveMaskChange_canonical (link mask : Nat) (s : State) (h : Good s) : (execReceiveMaskChange link mask s).canonical := by
  simp [execReceiveMaskChange, h.wf]

@[simp] theorem execLaneReportRepeat_canonical (link : Nat) (s : State) (h : Good s) : (execLaneReportRepeat link s).canonical := by
  simp [execLaneReportRepeat, h.wf]

@[simp] theorem execLaneReportReceive_canonical (link mask : Nat) (s : State) (h : Good s) : (execLaneReportReceive link mask s).canonical := by
  simp [execLaneReportReceive, h.wf]

@[simp] theorem execStripeChangeReceive_canonical (link mask after : Nat) (s : State) (h : Good s) :
    (execStripeChangeReceive link mask after s).canonical := by
  simp [execStripeChangeReceive, h.wf]

@[simp] theorem execStripeSwitch_canonical (link : Nat) (transmit : Bool) (s : State) (h : Good s) :
    (execStripeSwitch link transmit s).canonical := by
  unfold execStripeSwitch
  dsimp only
  (repeat' split) <;> simp [h.wf]

@[simp] theorem execHeartbeatSend_canonical (link : Nat) (s : State) (h : Good s) : (execHeartbeatSend link s).canonical := by
  simp [execHeartbeatSend, h.wf]

@[simp] theorem execHeartbeatReceive_canonical (link panel iod dir a b c : Nat) (s : State) (h : Good s) :
    (execHeartbeatReceive link panel iod dir a b c s).canonical := by
  simp [execHeartbeatReceive, h.wf]

@[simp] theorem execHeartbeatMiss_canonical (link : Nat) (s : State) (h : Good s) : (execHeartbeatMiss link s).canonical := by
  simp [execHeartbeatMiss, h.wf]

@[simp] theorem execLinkUp_canonical (link : Nat) (s : State) (h : Good s) : (execLinkUp link s).canonical := by
  unfold execLinkUp
  dsimp only
  split <;> simp [h.wf]

/-! ### Merge stations and tickets -/

@[simp] theorem State.mergeDone_mem (s : State) (port tl tag ticket : Nat) (c : Code) : (s.mergeDone port tl tag ticket c).mem = s.mem := by
  simp [State.mergeDone]

@[simp] theorem execMergeOpen_canonical (site tile : Nat) (w : StepWord) (s : State) (h : Good s) : (execMergeOpen site tile w s).canonical := by
  simp [execMergeOpen, h.wf]

@[simp] theorem execMergeOpenAccept_canonical (port : Nat) (s : State) (h : Good s) : (execMergeOpenAccept port s).canonical := by
  unfold execMergeOpenAccept
  dsimp only
  split <;> simp [h.wf]

@[simp] theorem State.transitDone_mem (s : State) (i : Nat) (t : Ticket) (code : Code → Code) : (s.transitDone i t code).mem = s.mem := by
  simp [State.transitDone]

@[simp] theorem State.transitAdd_mem (s : State) (i : Nat) (t : Ticket) (units : List Cell32) (k : Code) :
    (s.transitAdd i t units k).mem = s.mem := by
  simp [State.transitAdd]

@[simp] theorem execMergeContribution_canonical (port plane : Nat) (s : State) (h : Good s) : (execMergeContribution port plane s).canonical := by
  unfold execMergeContribution
  dsimp only
  (repeat' split) <;> simp [h.wf]

@[simp] theorem State.writeResult_wf (s : State) (port : Nat) (t : Ticket) (code : Code → Code) (h : Good s) :
    (s.writeResult port t code).mem.wf := by
  have hunits (l : List Cell32) : Good (if l = [] then (s, true) else s.arrive port t.tile t.res l).1 := by
    split
    · exact h
    · exact State.arrive_wf _ _ _ _ _ h
  simp only [State.writeResult, State.mergeDone_mem, State.setStation_mem]
  rw [foldl_mem (fun _ _ => by simp)]
  exact State.arrive_wf _ _ _ _ _ (hunits _)

@[simp] theorem execMergeResultWrite_canonical (port ticket : Nat) (s : State) (h : Good s) : (execMergeResultWrite port ticket s).canonical := by
  unfold execMergeResultWrite
  split <;> simp [h.wf]

@[simp] theorem execMergeDeadline_canonical (port ticket : Nat) (s : State) (h : Good s) : (execMergeDeadline port ticket s).canonical := by
  unfold execMergeDeadline
  split
  · exact h
  · split
    · split <;> simp [h.wf]
    · exact h

@[simp] theorem State.dropContribs_mem (s : State) (port ticket : Nat) : (s.dropContribs port ticket).mem = s.mem := by
  unfold State.dropContribs
  exact foldl_mem (fun _ _ => by simp) _ _

@[simp] theorem State.closeTicket_wf (s : State) (port ticket : Nat) (h : Good s) : (s.closeTicket port ticket).mem.wf := by
  unfold State.closeTicket
  split <;> simp [h.wf]

@[simp] theorem execMergeClose_canonical (site tile : Nat) (w : StepWord) (s : State) (h : Good s) : (execMergeClose site tile w s).canonical := by
  unfold execMergeClose
  exact State.issue_wf h (fun _ hs => by simp [hs.wf])

end Sys2Proof.Machine
end

section
/-!
What keeps the canonical form of memory. The torus, clocks, waves, the sieve, streams and movers.
-/

namespace Sys2Proof.Machine

/-! ### Transit switches -/

@[simp] theorem State.pushOut_mem (s : State) (i o : Nat) (p : Packet) : (s.pushOut i o p).mem = s.mem := by
  simp [State.pushOut]

@[simp] theorem State.dropOut_mem (s : State) (i o : Nat) : (s.dropOut i o).mem = s.mem := by
  simp [State.dropOut]

@[simp] theorem State.joinLow_mem (s : State) (i o : Nat) (p : Packet) : (s.joinLow i o p).mem = s.mem := by
  simp [State.joinLow]

@[simp] theorem State.join_mem (s : State) (i o : Nat) (p : Packet) : (s.join i o p).mem = s.mem := by
  simp [State.join]

@[simp] theorem State.placeBusy_mem (s : State) (i d : Nat) (p : Packet) : (s.placeBusy i d p).mem = s.mem := by
  unfold State.placeBusy
  dsimp only
  (repeat' split) <;> simp

@[simp] theorem State.routeTorus_mem (s : State) (i : Nat) (p : Packet) : (s.routeTorus i p).mem = s.mem := by
  unfold State.routeTorus
  dsimp only
  (repeat' split) <;> simp

@[simp] theorem State.toEngine_mem (s : State) (i : Nat) (p : Packet) : (s.toEngine i p).mem = s.mem := by
  simp [State.toEngine]

@[simp] theorem State.drainQ_mem (s : State) (i o n : Nat) : (s.drainQ i o n).mem = s.mem := by
  induction n generalizing s with
  | zero => rfl
  | succ n ih =>
    unfold State.drainQ
    dsimp only
    split
    · simp
    · split
      · rfl
      · rw [ih]
        simp

@[simp] theorem State.drainOut_mem (s : State) (i o ns : Nat) : (s.drainOut i o ns).mem = s.mem := by
  simp [State.drainOut]

@[simp] theorem State.drainFabric_mem (s : State) (ns : Nat) : (s.drainFabric ns).mem = s.mem := by
  simp [State.drainFabric]

@[simp] theorem State.discard_mem (s : State) (i : Nat) : (s.discard i).mem = s.mem := by
  simp [State.discard]

@[simp] theorem execTransitFrame_canonical (iod dir bytes : Nat) (fcsOk : Bool) (p : Packet) (s : State) (h : Good s) :
    (execTransitFrame iod dir bytes fcsOk p s).canonical := by
  simp [execTransitFrame, h.wf]

/-! ### Channels -/

@[simp] theorem State.setChan_mem (s : State) (i n : Nat) (c : Chan) : (s.setChan i n c).mem = s.mem := by
  simp [State.setChan]

@[simp] theorem State.copyEnded_mem (s : State) (i n : Nat) (p : Packet) (k : Code) : (s.copyEnded i n p k).mem = s.mem := by
  unfold State.copyEnded
  dsimp only
  split <;> simp

@[simp] theorem State.entryEnd_mem (s : State) (i n : Nat) (p : Packet) (c : Code) : (s.entryEnd i n p c).mem = s.mem := by
  simp [State.entryEnd]

@[simp] theorem State.closeIfDone_mem (s : State) (i n : Nat) : (s.closeIfDone i n).mem = s.mem := by
  unfold State.closeIfDone
  split <;> simp

@[simp] theorem execIncreasePeriod_canonical (iod chan : Nat) (s : State) (h : Good s) : (execIncreasePeriod iod chan s).canonical := by
  unfold execIncreasePeriod
  split <;> simp [h.wf]

@[simp] theorem State.transmit_mem (s : State) (i n : Nat) (c : Chan) (p : Packet) : (s.transmit i n c p).mem = s.mem := by
  simp [State.transmit]

@[simp] theorem State.slice_mem (s : State) (i n k : Nat) : (s.slice i n k).mem = s.mem := by
  induction k generalizing s with
  | zero => rfl
  | succ k ih =>
    unfold State.slice
    split
    · rfl
    · split
      · rfl
      · dsimp only
        split_ifs <;> simp [ih]

@[simp] theorem State.dropLine_mem (s : State) (field g : Nat) : (s.dropLine field g).mem = s.mem := by
  simp [State.dropLine]

@[simp] theorem State.postEntry_mem (s : State) (i n field : Nat) (p : Packet) : (s.postEntry i n field p).mem = s.mem := by
  unfold State.postEntry
  dsimp only
  (repeat' split) <;> simp

@[simp] theorem State.serveChan_mem (s : State) (i : Nat) : (s.serveChan i).mem = s.mem := by
  unfold State.serveChan
  split <;> simp

@[simp] theorem State.postRelayed_mem (s : State) (i : Nat) : (s.postRelayed i).mem = s.mem := by
  unfold State.postRelayed
  exact foldl_mem (fun _ _ => by simp) _ _

@[simp] theorem execPacketSend_canonical (iod chan field : Nat) (entries : List Packet) (s : State) (h : Good s) :
    (execPacketSend iod chan field entries s).canonical := by
  simp [execPacketSend, h.wf]

@[simp] theorem State.sendAck_mem (s : State) (i n : Nat) : (s.sendAck i n).mem = s.mem := by
  unfold State.sendAck
  split
  · rfl
  · split <;> rw [State.transmit_mem, State.setChan_mem]

@[simp] theorem execAckSend_canonical (iod chan : Nat) (s : State) (h : Good s) : (execAckSend iod chan s).canonical := by
  unfold execAckSend
  split <;> simp [h.wf]

@[simp] theorem State.acked_mem (s : State) (i n : Nat) (o : OutPkt) (k : Code) : (s.acked i n o k).mem = s.mem := by
  unfold State.acked
  split <;> simp

@[simp] theorem State.takeAck_mem (s : State) (i n : Nat) (c : Chan) (p : Packet) : (s.takeAck i n c p).mem = s.mem := by
  simp [State.takeAck]

@[simp] theorem State.rejectCookie_mem (s : State) (i ch : Nat) : (s.rejectCookie i ch).mem = s.mem := by
  simp [State.rejectCookie]

@[simp] theorem State.judgeLate_mem (s : State) (i ch : Nat) (p : Packet) : (s.judgeLate i ch p).mem = s.mem := by
  unfold State.judgeLate
  dsimp only
  (repeat' split) <;> simp

@[simp] theorem execAckPacket_canonical (iod : Nat) (p : Packet) (s : State) (h : Good s) : (execAckPacket iod p s).canonical := by
  unfold execAckPacket
  split
  · simp [h.wf]
  · split <;> simp [h.wf]

@[simp] theorem State.failChan_mem (s : State) (i n psn : Nat) : (s.failChan i n psn).mem = s.mem := by
  unfold State.failChan
  split <;> simp

@[simp] theorem execRtoExpiry_canonical (iod chan : Nat) (s : State) (h : Good s) : (execRtoExpiry iod chan s).canonical := by
  unfold execRtoExpiry
  dsimp only
  (repeat' split) <;> simp [h.wf]

@[simp] theorem execHoldTimeout_canonical (iod chan : Nat) (s : State) (h : Good s) : (execHoldTimeout iod chan s).canonical := by
  unfold execHoldTimeout
  split
  · simp [h.wf]
  · split <;> simp [h.wf]

@[simp] theorem State.unholdDie_mem (s : State) (i : Nat) : (s.unholdDie i).mem = s.mem := by
  simp [State.unholdDie]

@[simp] theorem execOpenPacket_canonical (iod : Nat) (peer : Option PeerOpen) (addr : Nat) (payload : BitVec 256) (s : State) (h : Good s) :
    (execOpenPacket iod peer addr payload s).canonical := by
  unfold execOpenPacket
  split <;> simp [h.wf]

@[simp] theorem State.writeBack_wf (s : State) (i n : Nat) (h : Good s) : (s.writeBack i n).mem.wf := by
  unfold State.writeBack
  split <;> simp [h.wf]

@[simp] theorem execChannelCacheFill_canonical (iod chan : Nat) (s : State) (h : Good s) : (execChannelCacheFill iod chan s).canonical := by
  unfold execChannelCacheFill
  dsimp only
  split
  · simp [h.wf]
  · split <;> simp [h.wf]

@[simp] theorem execNeighbourSolicitation_canonical (port target src : Nat) (s : State) (h : Good s) :
    (execNeighbourSolicitation port target src s).canonical := by
  simp [execNeighbourSolicitation, h.wf]

@[simp] theorem execIcmpEchoRequest_canonical (port dst src ident : Nat) (s : State) (h : Good s) :
    (execIcmpEchoRequest port dst src ident s).canonical := by
  simp [execIcmpEchoRequest, h.wf]

/-! ### Control steps and the ends of waves -/

@[simp] theorem State.startRun_mem (s : State) (site tl : Nat) (r : Run) : (s.startRun site tl r).mem = s.mem := by
  simp [State.startRun]

@[simp] theorem State.dropBids_mem (s : State) (site tl : Nat) : (s.dropBids site tl).mem = s.mem := by
  unfold State.dropBids
  exact foldl_mem (fun _ _ => by simp) _ _

@[simp] theorem State.clearTile_mem (s : State) (site tl : Nat) : (s.clearTile site tl).mem = s.mem := by
  simp [State.clearTile]

@[simp] theorem State.leaveRun_mem (s : State) (site tl : Nat) : (s.leaveRun site tl).mem = s.mem := by
  unfold State.leaveRun
  split <;> simp

@[simp] theorem execNop_canonical (site tile : Nat) (w : StepWord) (s : State) (h : Good s) : (execNop site tile w s).canonical := by
  simp [execNop, h.wf]

@[simp] theorem waitEffect_mem (site tl mask index : Nat) (s : State) : (waitEffect site tl mask index s).mem = s.mem := by
  simp [waitEffect]

@[simp] theorem execWait_canonical (site tile : Nat) (w : StepWord) (s : State) (h : Good s) : (execWait site tile w s).canonical := by
  simp [execWait, h.wf]

@[simp] theorem execLoop_canonical (site tile : Nat) (w : StepWord) (s : State) (h : Good s) : (execLoop site tile w s).canonical := by
  simp [execLoop, h.wf]

@[simp] theorem execSetix_canonical (site tile : Nat) (w : StepWord) (s : State) (h : Good s) : (execSetix site tile w s).canonical := by
  simp [execSetix, h.wf]

@[simp] theorem execBankpwr_canonical (site tile : Nat) (w : StepWord) (s : State) (h : Good s) : (execBankpwr site tile w s).canonical := by
  simp [execBankpwr, h.wf]

@[simp] theorem execFence_canonical (site tile : Nat) (w : StepWord) (s : State) (h : Good s) : (execFence site tile w s).canonical := by
  simp [execFence, h.wf]

@[simp] theorem execMark_canonical (site tile : Nat) (w : StepWord) (s : State) (h : Good s) : (execMark site tile w s).canonical := by
  simp [execMark, h.wf]

@[simp] theorem execTrap_canonical (site tile : Nat) (w : StepWord) (s : State) (h : Good s) : (execTrap site tile w s).canonical := by
  simp [execTrap, h.wf]

@[simp] theorem execEndStep_canonical (site tile : Nat) (w : StepWord) (s : State) (h : Good s) : (execEndStep site tile w s).canonical := by
  simp [execEndStep, h.wf]

@[simp] theorem execStepListRefill_canonical (site tile : Nat) (s : State) (h : Good s) : (execStepListRefill site tile s).canonical := by
  simp [execStepListRefill, h.wf]

@[simp] theorem execWatchdogExpiry_canonical (site tile : Nat) (s : State) (h : Good s) : (execWatchdogExpiry site tile s).canonical := by
  unfold execWatchdogExpiry
  dsimp only
  split <;> simp [h.wf]

@[simp] theorem execTrapRecordSend_canonical (site tile : Nat) (s : State) (h : Good s) : (execTrapRecordSend site tile s).canonical := by
  unfold execTrapRecordSend
  dsimp only
  split <;> simp [h.wf]

@[simp] theorem execSiteSequencerTrapHandle_canonical (site : Nat) (s : State) (h : Good s) : (execSiteSequencerTrapHandle site s).canonical := by
  simp [execSiteSequencerTrapHandle, h.wf]

/-! ### Clocks -/

@[simp] theorem State.tickSite_mem (s : State) (p : Nat) : (s.tickSite p).mem = s.mem := by
  simp [State.tickSite]

@[simp] theorem State.pmaFrame_mem (s : State) : s.pmaFrame.mem = s.mem := by
  simp [State.pmaFrame]

@[simp] theorem execTick_canonical (slew : ℤ) (skewed : List (Nat × Nat)) (s : State) (h : Good s) : (execTick slew skewed s).canonical := by
  simp [execTick, h.wf]

@[simp] theorem State.showRail_mem (s : State) (p r mv : Nat) : (s.showRail p r mv).mem = s.mem := by
  simp [State.showRail]

@[simp] theorem State.withholdAll_mem (s : State) (port a b : Nat) : (s.withholdAll port a b).mem = s.mem := by
  unfold State.withholdAll
  exact foldl_mem (fun _ _ => by simp) _ _

@[simp] theorem State.nameFrame_mem (s : State) (p : Nat) (f : FreqChange) : (s.nameFrame p f).mem = s.mem := by
  simp [State.nameFrame]

@[simp] theorem State.beginFreq_mem (s : State) (p mhz : Nat) : (s.beginFreq p mhz).mem = s.mem := by
  simp [State.beginFreq]

@[simp] theorem State.requestFreq_mem (s : State) (p mhz : Nat) : (s.requestFreq p mhz).mem = s.mem := by
  unfold State.requestFreq
  dsimp only
  split
  · simp
  · split <;> simp

@[simp] theorem execFreqChangeRequest_canonical (site mhz : Nat) (s : State) (h : Good s) : (execFreqChangeRequest site mhz s).canonical := by
  simp [execFreqChangeRequest, h.wf]

@[simp] theorem execVcoreRampDone_canonical (site : Nat) (s : State) (h : Good s) : (execVcoreRampDone site s).canonical := by
  unfold execVcoreRampDone
  dsimp only
  (repeat' split) <;> simp [h.wf]

@[simp] theorem execFreqChangeGate_canonical (site : Nat) (s : State) (h : Good s) : (execFreqChangeGate site s).canonical := by
  unfold execFreqChangeGate
  dsimp only
  split <;> simp [h.wf]

@[simp] theorem execFreqChangeRestart_canonical (site : Nat) (locked : Bool) (s : State) (h : Good s) :
    (execFreqChangeRestart site locked s).canonical := by
  unfold execFreqChangeRestart
  dsimp only
  split <;> simp [h.wf]

@[simp] theorem execFreqChangeResume_canonical (site : Nat) (s : State) (h : Good s) : (execFreqChangeResume site s).canonical := by
  unfold execFreqChangeResume
  dsimp only
  (repeat' split) <;> simp [h.wf]

@[simp] theorem execReplicaMarginLow_canonical (site tile path margin : Nat) (s : State) (h : Good s) :
    (execReplicaMarginLow site tile path margin s).canonical := by
  simp [execReplicaMarginLow, h.wf]

@[simp] theorem execReplicaSlow_canonical (site : Nat) (s : State) (h : Good s) : (execReplicaSlow site s).canonical := by
  unfold execReplicaSlow
  dsimp only
  split <;> simp [h.wf]

@[simp] theorem execCrystalLost_canonical (trimAge : Nat) (s : State) (h : Good s) : (execCrystalLost trimAge s).canonical := by
  simp [execCrystalLost, h.wf]

@[simp] theorem execSpinePllUnlock_canonical (s : State) (h : Good s) : (execSpinePllUnlock s).canonical := by
  simp [execSpinePllUnlock, h.wf]

@[simp] theorem execDiePllUnlock_canonical (site pll : Nat) (s : State) (h : Good s) : (execDiePllUnlock site pll s).canonical := by
  simp [execDiePllUnlock, h.wf]

@[simp] theorem execFieldTimeBaseLoss_canonical (field diff : Nat) (s : State) (h : Good s) : (execFieldTimeBaseLoss field diff s).canonical := by
  simp [execFieldTimeBaseLoss, h.wf]

@[simp] theorem execBundleClockLoss_canonical (port plane : Nat) (s : State) (h : Good s) : (execBundleClockLoss port plane s).canonical := by
  simp [execBundleClockLoss, h.wf]

@[simp] theorem execPtpSyncSend_canonical (ptpPort : Nat) (s : State) (h : Good s) : (execPtpSyncSend ptpPort s).canonical := by
  simp [execPtpSyncSend, h.wf]

@[simp] theorem State.announced_mem (s : State) (port v : Nat) : (s.announced port v).mem = s.mem := by
  simp [State.announced]

@[simp] theorem State.ptpSync_mem (s : State) (offset : ℤ) : (s.ptpSync offset).mem = s.mem := by
  simp [State.ptpSync]

@[simp] theorem State.ptpSet_mem (s : State) (offset : ℤ) : (s.ptpSet offset).mem = s.mem := by
  simp [State.ptpSet]

@[simp] theorem execPtpMessageReceive_canonical (ptpPort kind : Nat) (offset : ℤ) (priority clockClass identity domain : Nat) (s : State)
    (h : Good s) :
    (execPtpMessageReceive ptpPort kind offset priority clockClass identity domain s).canonical := by
  simp [execPtpMessageReceive, h.wf]

@[simp] theorem execAnnounceTimeout_canonical (s : State) (h : Good s) : (execAnnounceTimeout s).canonical := by
  simp [execAnnounceTimeout, h.wf]

@[simp] theorem execHoldoverEnd_canonical (s : State) (h : Good s) : (execHoldoverEnd s).canonical := by
  simp [execHoldoverEnd, h.wf]

@[simp] theorem execZoneRealignDone_canonical (zone : Nat) (skews : List (Nat × Nat)) (s : State) (h : Good s) :
    (execZoneRealignDone zone skews s).canonical := by
  simp [execZoneRealignDone, h.wf]

/-! ### The sieve and the completion of tags -/

@[simp] theorem execSieveSelect_canonical (site tile : Nat) (w : StepWord) (s : State) (h : Good s) : (execSieveSelect site tile w s).canonical := by
  simp [execSieveSelect, h.wf]

@[simp] theorem State.runSieve_wf (s : State) (site tl : Nat) (w : StepWord) (q list index pass : Nat) (ue : List Nat) (ce : Nat) (ecc : Ecc)
    (h : Good s) :
    (s.runSieve site tl w q list index pass ue ce ecc).1.mem.wf := by
  have hread (n : Nat) (e : Ecc) (r : Nat → Bool) : Good { (s.storeEcc site tl r e).vaultRead site tl (svVaddr w) (svBlocks w + 1) ue ce with freeCount := n } := by
    simp [h.wf]
  unfold State.runSieve
  dsimp only
  split
  · simp only [State.mem_ite, State.raise_mem, ite_self]
    exact State.arrive_wf _ _ _ _ _ (hread _ _ _)
  · refine foldl_memWf (fun _ _ hs => State.arrive_wf _ _ _ _ _ hs) _ (foldl_memWf (fun _ _ hs => State.arrive_wf _ _ _ _ _ hs) _
      (foldl_memWf (fun _ _ hs => by simp [Good.wf hs]) _ ?_))
    simp only [good_iff, State.mem_ite, State.raise_mem, ite_self]
    exact State.arrive_wf _ _ _ _ _ (hread _ _ _)

@[simp] theorem State.bufferLoad_mem (s : State) (site tl tag v n : Nat) (ue : List Nat) (ce : Nat) :
    (s.bufferLoad site tl tag v n ue ce).mem = s.mem := by
  simp [State.bufferLoad]

@[simp] theorem State.endLoad_wf (s : State) (site tl tag u v n : Nat) (ue : List Nat) (ce : Nat) (h : Good s) :
    (s.endLoad site tl tag u v n ue ce).1.mem.wf := by
  simp [State.endLoad, h.wf]

theorem State.finishTag_wf {s : State} {site tl tag : Nat} {a : AsyncOp} {ue : List Nat} {ce : Nat} {ecc : Ecc} {p : State × Code} (h : Good s)
    (hp : s.finishTag site tl tag a ue ce ecc = some p) :
    p.1.mem.wf := by
  unfold State.finishTag at hp
  cases a with
  | load u v n first denied =>
    dsimp only at hp
    split_ifs at hp <;> cases hp <;> simp [h.wf]
  | store u v n first denied =>
    dsimp only at hp
    split_ifs at hp <;> cases hp <;> simp [h.wf]
  | bid p d c n st codes =>
    dsimp only at hp
    split_ifs at hp
    cases hp
    exact h
  | merge ticket fin =>
    obtain ⟨c, -, rfl⟩ := Option.map_eq_some_iff.mp hp
    exact h
  | sieve w q list index pass =>
    dsimp only at hp
    split_ifs at hp <;> cases hp <;> simp [h.wf]

@[simp] theorem State.fillBuffer_mem (s : State) (site tl tag : Nat) (a : AsyncOp) (ue : List Nat) (ce : Nat) :
    (s.fillBuffer site tl tag a ue ce).mem = s.mem := by
  unfold State.fillBuffer
  split <;> simp

@[simp] theorem State.faultStream_mem (s : State) (id : Nat) (c : Code) : (s.faultStream id c).mem = s.mem := by
  unfold State.faultStream
  split <;> simp

@[simp] theorem execTagComplete_canonical (site tile tag : Nat) (ueUnits : List Nat) (ce : Nat) (ecc : Ecc) (head : Option Nat) (s : State)
    (h : Good s) :
    (execTagComplete site tile tag ueUnits ce ecc head s).canonical := by
  unfold execTagComplete
  dsimp only
  split
  · exact h
  · split
    · simp [h.wf]
    · next hp =>
      have hdone := State.finishTag_wf h hp
      split <;> simpa using hdone

/-! ### Streams, waves and plan images -/

@[simp] theorem State.showStreams_mem (s : State) : s.showStreams.mem = s.mem := by
  simp [State.showStreams]

@[simp] theorem State.status_mem (s : State) (stream type : Nat) (c : Code) : (s.status stream type c).mem = s.mem := by
  simp [State.status]

@[simp] theorem State.keep_mem (s : State) (c : Instr) : (s.keep c).mem = s.mem := by
  simp [State.keep]

@[simp] theorem State.reserveMirror_mem (s : State) (panel stream reserve : Nat) : (s.reserveMirror panel stream reserve).mem = s.mem := by
  simp [State.reserveMirror]

@[simp] theorem State.freeMirror_mem (s : State) (stream : Nat) : (s.freeMirror stream).mem = s.mem := by
  simp [State.freeMirror]

@[simp] theorem execAdmitStream_canonical (stream promptLen k sb reserve : Nat) (latency : Bool) (sampling : Nat) (table : List Nat)
    (mirrorOk : Bool) (s : State) (h : Good s) :
    (execAdmitStream stream promptLen k sb reserve latency sampling table mirrorOk s).canonical := by
  unfold execAdmitStream
  dsimp only
  (repeat' split) <;> simp [h.wf]

@[simp] theorem State.showDeclared_mem (s : State) : s.showDeclared.mem = s.mem := by
  simp [State.showDeclared]

@[simp] theorem State.dropAdopted_mem (s : State) (panel : Option Nat) : (s.dropAdopted panel).mem = s.mem := by
  unfold State.dropAdopted
  split <;> simp

@[simp] theorem State.dropStream_mem (s : State) (x : Stream) : (s.dropStream x).mem = s.mem := by
  simp [State.dropStream]

@[simp] theorem State.tellFree_mem (s : State) (x : Stream) : (s.tellFree x).mem = s.mem := by
  unfold State.tellFree
  exact foldl_mem (fun _ _ => by simp) _ _

@[simp] theorem State.endStream_mem (s : State) (x : Stream) (reason : Nat) (c : Code) : (s.endStream x reason c).mem = s.mem := by
  simp [State.endStream]

@[simp] theorem State.applyCancels_mem (s : State) (replica : Nat) : (s.applyCancels replica).mem = s.mem := by
  unfold State.applyCancels
  exact foldl_mem (fun _ _ => by simp) _ _

@[simp] theorem State.fencedStatus_mem (s : State) (stream type : Nat) : (s.fencedStatus stream type).mem = s.mem := by
  simp [State.fencedStatus]

@[simp] theorem State.onStretches_mem (s : State) (stream : Nat) (f : State → Stream → State) (hf : ∀ u x, LeavesMem u (f u x)) :
    (s.onStretches stream f).mem = s.mem := by
  refine foldl_mem (fun u k => ?_) _ _
  split
  · exact hf _ _
  · rfl

@[simp] theorem State.tellMirror_mem (s : State) (x : Stream) : (s.tellMirror x).mem = s.mem := by
  simp [State.tellMirror]

@[simp] theorem State.cancelStream_mem (s : State) (complete : Bool) (x : Stream) : (s.cancelStream complete x).mem = s.mem := by
  simp [State.cancelStream]

@[simp] theorem execCancel_canonical (stream : Nat) (complete : Bool) (s : State) (h : Good s) : (execCancel stream complete s).canonical := by
  simp [execCancel, h.wf]

@[simp] theorem State.misfit_mem (s : State) (stream type : Nat) : (s.misfit stream type).mem = s.mem := by
  simp [State.misfit]

@[simp] theorem execPrompt_canonical (stream position : Nat) (tokens : List Nat) (s : State) (h : Good s) :
    (execPrompt stream position tokens s).canonical := by
  unfold execPrompt
  dsimp only
  split_ifs
  · simp [h.wf]
  · simp [h.wf]
  · rw [Out.canonical_next, State.onStretches_mem _ _ _ (fun u x => by simp)]
    exact h

@[simp] theorem execUnknownServingMessage_canonical (head : BitVec 128) (body : List Byte) (s : State) (h : Good s) :
    (execUnknownServingMessage head body s).canonical := by
  simp [execUnknownServingMessage, h.wf]

@[simp] theorem execAdmitHoldExpiry_canonical (stream : Nat) (s : State) (h : Good s) : (execAdmitHoldExpiry stream s).canonical := by
  unfold execAdmitHoldExpiry
  split <;> simp [h.wf]

@[simp] theorem State.nextToken_mem (s : State) (x : Stream) (p : Nat) : (s.nextToken x p).mem = s.mem := by
  unfold State.nextToken
  split
  · split <;> simp
  · split <;> simp

@[simp] theorem State.deliverToken_mem (s : State) (x : Stream) (token : Nat) (last : Bool) : (s.deliverToken x token last).mem = s.mem := by
  simp [State.deliverToken]

@[simp] theorem execTokenSend_canonical (stream token : Nat) (last : Bool) (s : State) (h : Good s) :
    (execTokenSend stream token last s).canonical := by
  unfold execTokenSend
  split <;> simp [h.wf]

@[simp] theorem execMirrorWaitExpiry_canonical (stream token : Nat) (last : Bool) (s : State) (h : Good s) :
    (execMirrorWaitExpiry stream token last s).canonical := by
  unfold execMirrorWaitExpiry
  split
  · split
    · rw [Out.canonical_next]
      split
      · rw [State.deliverToken_mem, State.raise_mem, State.showStreams_mem, State.setStream_mem]
        exact h
      · exact h
    · exact h
  · exact h

@[simp] theorem execHeadRecordReceive_canonical (stream position sampling token : Nat) (s : State) (h : Good s) :
    (execHeadRecordReceive stream position sampling token s).canonical := by
  unfold execHeadRecordReceive
  exact foldl_memWf (fun _ _ hs => by split <;> simp [hs.wf]) _ h

@[simp] theorem execQueryArrival_canonical (stream layer position : Nat) (prefill : Bool) (s : State) (h : Good s) :
    (execQueryArrival stream layer position prefill s).canonical := by
  unfold execQueryArrival
  exact foldl_memWf (fun _ _ hs => by split <;> simp [hs.wf]) _ h

@[simp] theorem State.closeTransit_mem (s : State) (batch : List Nat) : (s.closeTransit batch).mem = s.mem := by
  unfold State.closeTransit
  exact foldl_mem (fun _ _ => by simp) _ _

@[simp] theorem State.openTransit_mem (s : State) (img : PlanImage) (sat prefill : Bool) (batch : List Nat) :
    (s.openTransit img sat prefill batch).mem = s.mem := by
  simp [State.openTransit]

@[simp] theorem State.sendQueries_mem (s : State) (layer : Nat) (prefill : Bool) (batch : List Nat) :
    (s.sendQueries layer prefill batch).mem = s.mem := by
  simp [State.sendQueries]

@[simp] theorem State.writeHeads_wf (s : State) (img : PlanImage) (layer : Nat) (prefill : Bool) (batch : List Nat) (h : Good s) :
    (s.writeHeads img layer prefill batch).mem.wf := by
  unfold State.writeHeads
  split
  · exact h
  · refine foldl_memWf (fun _ _ hs => foldl_memWf (fun _ _ hs => ?_) _ hs) _ h
    split
    · exact hs
    · exact State.vaultWrite_wf _ _ _ _ _ hs

@[simp] theorem State.writeBatch_wf (s : State) (img : PlanImage) (w : Wave) (h : Good s) : (s.writeBatch img w).mem.wf := by
  unfold State.writeBatch
  split
  · simp [h.wf]
  · split <;> simp [h.wf]

@[simp] theorem State.giveRun_mem (s : State) (site tl : Nat) (r : Run) : (s.giveRun site tl r).mem = s.mem := by
  simp [State.giveRun]

@[simp] theorem State.runWave_wf (s : State) (img : PlanImage) (w : Wave) (h : Good s) : (s.runWave img w).mem.wf := by
  have hsent : Good (((s.clearBanks w.replica w.slot w.number).openTransit img w.sat w.prefill w.batch).sendQueries
      (layerOfType img w.waveType) w.prefill w.batch) := by simp [h.wf]
  have hheads := State.writeHeads_wf _ img (layerOfType img w.waveType) w.prefill w.batch hsent
  have hbatch := State.writeBatch_wf _ img w hheads
  simp only [State.runWave, State.setWave_mem, State.setObj_mem]
  refine foldl_memWf (fun _ _ hs => ?_) _ hbatch
  split
  · exact hs
  · exact foldl_memWf (fun _ _ hs => by simp [Good.wf hs]) _ hs

@[simp] theorem State.dispatchWave_wf (s : State) (replica waveType : Nat) (wp : List (BitVec 32)) (h : Good s) :
    (s.dispatchWave replica waveType wp).mem.wf := by
  unfold State.dispatchWave
  dsimp only
  (repeat' split) <;> simp [h.wf]

@[simp] theorem State.mirrorCopy_mem (s : State) (x : Stream) (position units : Nat) (data : List Cell32) :
    (s.mirrorCopy x position units data).1.mem = s.mem := by
  simp [State.mirrorCopy]

@[simp] theorem State.layerDone_mem (s : State) (img : PlanImage) (w : Wave) (x : Stream) : (s.layerDone img w x).mem = s.mem := by
  unfold State.layerDone
  split
  · simp
  · split <;> simp

@[simp] theorem State.forgetWave_mem (s : State) (replica number : Nat) : (s.forgetWave replica number).mem = s.mem := by
  simp [State.forgetWave]

@[simp] theorem execWaveEnd_canonical (replica slot : Nat) (s : State) (h : Good s) : (execWaveEnd replica slot s).canonical := by
  unfold execWaveEnd
  split <;> simp [h.wf]

@[simp] theorem State.abortRun_mem (s : State) (site tl number : Nat) : (s.abortRun site tl number).mem = s.mem := by
  simp [State.abortRun]

@[simp] theorem State.abortWave_mem (s : State) (w : Wave) (stack trapCode : Nat) : (s.abortWave w stack trapCode).mem = s.mem := by
  simp [State.abortWave]

@[simp] theorem State.rerunWave_wf (s : State) (w : Wave) (h : Good s) : (s.rerunWave w).mem.wf := by
  unfold State.rerunWave
  split <;> simp [h.wf]

@[simp] theorem execWaveRerun_canonical (replica slot : Nat) (s : State) (h : Good s) : (execWaveRerun replica slot s).canonical := by
  unfold execWaveRerun
  split <;> simp [h.wf]

@[simp] theorem execStreamTokenRerun_canonical (stream : Nat) (s : State) (h : Good s) : (execStreamTokenRerun stream s).canonical := by
  unfold execStreamTokenRerun
  split <;> simp [h.wf]

@[simp] theorem execStreamFaultTimeout_canonical (stream : Nat) (s : State) (h : Good s) : (execStreamFaultTimeout stream s).canonical := by
  unfold execStreamFaultTimeout
  split <;> simp [h.wf]

@[simp] theorem execPlanLoad_canonical (img : PlanImage) (s : State) (h : Good s) : (execPlanLoad img s).canonical := by
  simp [execPlanLoad, h.wf]

@[simp] theorem State.writePlan_wf (s : State) (img : PlanImage) (f : Nat → Cell32 → Cell32) (h : Good s) : (s.writePlan img f).mem.wf :=
  foldl_memWf (fun _ _ hs => foldl_memWf (fun _ _ hs => State.putUnits_wf _ _ hs) _ hs) _
    (foldl_memWf (fun _ _ hs => foldl_memWf (fun _ _ hs => State.putUnits_wf _ _ hs) _ hs) _ h)

@[simp] theorem execPlanLoadDone_canonical (s : State) (h : Good s) : (execPlanLoadDone s).canonical := by
  unfold execPlanLoadDone
  split
  · exact h
  · dsimp only
    split
    · exact h
    · split
      · split <;> simp [h.wf]
      · simp [h.wf]

/-! ### Packets received -/

@[simp] theorem State.doMsg_mem (s : State) (i ch : Nat) (p : Packet) : (s.doMsg i ch p).1.mem = s.mem := by
  unfold State.doMsg
  dsimp only
  split <;> simp

@[simp] theorem State.doWrite_wf (s : State) (i : Nat) (p : Packet) (h : Good s) : (s.doWrite i p).1.mem.wf := by
  simp [State.doWrite, h.wf]

@[simp] theorem State.doRead_wf (s : State) (i ch : Nat) (p : Packet) (ue : List Nat) (ce : Nat) (h : Good s) : (s.doRead i ch p ue ce).1.mem.wf := by
  unfold State.doRead
  dsimp only
  split <;> simp [h.wf]

@[simp] theorem State.fillLine_mem (s : State) (field g : Nat) (l : List Cell32) : (s.fillLine field g l).mem = s.mem := by
  simp [State.fillLine]

@[simp] theorem State.doReply_mem (s : State) (i : Nat) (p : Packet) : (s.doReply i p).1.mem = s.mem := by
  unfold State.doReply
  dsimp only
  split <;> simp

@[simp] theorem State.killFills_mem (s : State) (only : Option Nat) (g : Nat) : (s.killFills only g).mem = s.mem := by
  unfold State.killFills
  exact foldl_mem (fun _ _ => by simp) _ _

@[simp] theorem State.invalidateLine_mem (s : State) (field g : Nat) : (s.invalidateLine field g).mem = s.mem := by
  simp [State.invalidateLine]

@[simp] theorem State.invalidateEpoch_mem (s : State) (field : Nat) : (s.invalidateEpoch field).mem = s.mem := by
  simp [State.invalidateEpoch]

@[simp] theorem State.doInval_mem (s : State) (p : Packet) : (s.doInval p).1.mem = s.mem := by
  simp [State.doInval]

@[simp] theorem State.doMerge_mem (s : State) (i : Nat) (p : Packet) : (s.doMerge i p).1.mem = s.mem := by
  unfold State.doMerge
  dsimp only
  split <;> simp

@[simp] theorem State.doClose_mem (s : State) (i ch : Nat) : (s.doClose i ch).1.mem = s.mem := by
  unfold State.doClose
  split <;> simp

@[simp] theorem State.perform_wf (s : State) (i ch : Nat) (p : Packet) (ue : Ecc) (h : Good s) : (s.perform i ch p ue).1.mem.wf := by
  unfold State.perform
  split <;> simp [h.wf]

@[simp] theorem State.runInOrder_wf (s : State) (i ch psn : Nat) (ue : Ecc) (n : Nat) (h : Good s) : (s.runInOrder i ch psn ue n).mem.wf := by
  induction n generalizing s with
  | zero => exact h
  | succ n ih =>
    unfold State.runInOrder
    split
    · exact h
    · split
      · exact h
      · next c _ _ p r _ =>
        have hperform (e : Ecc) (v : Chan) := State.perform_wf (s.setChan i ch v) i ch p e (by simp [h.wf])
        dsimp only
        refine ih _ ?_
        generalize (if p.psn = psn then ue else noEcc) = e
        split
        · split
          · exact hperform _ _
          · simpa using hperform _ _
        · exact hperform _ _

@[simp] theorem State.answerAbsent_mem (s : State) (i : Nat) (p : Packet) : (s.answerAbsent i p).mem = s.mem := by
  simp [State.answerAbsent]

@[simp] theorem State.answerHold_mem (s : State) (i ch : Nat) (c : Chan) : (s.answerHold i ch c).mem = s.mem := by
  simp [State.answerHold]

@[simp] theorem State.receivePacket_wf (s : State) (i : Nat) (p : Packet) (ue : Ecc) (h : Good s) : (s.receivePacket i p ue).mem.wf := by
  unfold State.receivePacket
  dsimp only
  split
  · simp [h.wf]
  · split <;> simp [h.wf]

@[simp] theorem execMsgPacket_canonical (iod : Nat) (p : Packet) (s : State) (h : Good s) : (execMsgPacket iod p s).canonical := by
  simp [execMsgPacket, h.wf]

@[simp] theorem execCopyPacket_canonical (iod : Nat) (p : Packet) (s : State) (h : Good s) : (execCopyPacket iod p s).canonical := by
  simp [execCopyPacket, h.wf]

@[simp] theorem execWritePacket_canonical (iod : Nat) (p : Packet) (s : State) (h : Good s) : (execWritePacket iod p s).canonical := by
  simp [execWritePacket, h.wf]

@[simp] theorem execReadPacket_canonical (iod : Nat) (p : Packet) (ueUnits : List Nat) (ce : Nat) (s : State) (h : Good s) :
    (execReadPacket iod p ueUnits ce s).canonical := by
  simp [execReadPacket, h.wf]

@[simp] theorem execReadReplyPacket_canonical (iod : Nat) (p : Packet) (s : State) (h : Good s) : (execReadReplyPacket iod p s).canonical := by
  simp [execReadReplyPacket, h.wf]

@[simp] theorem execInvalLine_canonical (iod : Nat) (own : Option Nat) (p : Packet) (s : State) (h : Good s) :
    (execInvalLine iod own p s).canonical := by
  unfold execInvalLine
  split <;> simp [h.wf]

@[simp] theorem execInvalEpoch_canonical (iod : Nat) (own : Option Nat) (p : Packet) (s : State) (h : Good s) :
    (execInvalEpoch iod own p s).canonical := by
  unfold execInvalEpoch
  split <;> simp [h.wf]

@[simp] theorem execMergePacket_canonical (iod : Nat) (p : Packet) (s : State) (h : Good s) : (execMergePacket iod p s).canonical := by
  simp [execMergePacket, h.wf]

@[simp] theorem execClosePacket_canonical (iod : Nat) (p : Packet) (s : State) (h : Good s) : (execClosePacket iod p s).canonical := by
  simp [execClosePacket, h.wf]

@[simp] theorem execRemoteReadTimeout_canonical (iod rid : Nat) (s : State) (h : Good s) : (execRemoteReadTimeout iod rid s).canonical := by
  unfold execRemoteReadTimeout
  dsimp only
  split <;> simp [h.wf]

/-! ### Movers -/

@[simp] theorem State.setMchan_mem (s : State) (port c : Nat) (v : MChan) : (s.setMchan port c v).mem = s.mem := by
  simp [State.setMchan]

@[simp] theorem execDescriptorPost_canonical (port chan : Nat) (entries : List (Nat × BitVec 512)) (producer : Nat) (s : State) (h : Good s) :
    (execDescriptorPost port chan entries producer s).canonical := by
  simp [execDescriptorPost, h.wf]

@[simp] theorem execDescriptorFetch_canonical (port chan : Nat) (s : State) (h : Good s) : (execDescriptorFetch port chan s).canonical := by
  unfold execDescriptorFetch
  dsimp only
  (repeat' split) <;> simp [h.wf]

@[simp] theorem State.stopMover_mem (s : State) (port : Nat) (k : Code) : (s.stopMover port k).mem = s.mem := by
  simp [State.stopMover]

@[simp] theorem State.judgeResponse_mem (s : State) (port chan : Nat) (f : Active → Bool) (k : Code) :
    (s.judgeResponse port chan f k).mem = s.mem := by
  simp [State.judgeResponse]

@[simp] theorem State.moverRead_wf (s : State) (x : Place) (k : Nat) (ue : List Nat) (ce : Nat) (h : Good s) : (s.moverRead x k ue ce).1.mem.wf := by
  unfold State.moverRead
  split <;> simp [h.wf]

theorem State.readBrings_wf {s : State} {port : Nat} {a : Active} {r : MRead} {ue : List Nat} {ce : Nat} {p : State × Code × List Cell32}
    (h : Good s) (hp : s.readBrings port a r ue ce = some p) :
    p.1.mem.wf := by
  unfold State.readBrings at hp
  dsimp only at hp
  split at hp
  · obtain ⟨x, -, rfl⟩ := Option.map_eq_some_iff.mp hp
    exact h
  · cases hp
    split <;> simp [h.wf]

@[simp] theorem State.readEnds_wf (s : State) (port chan : Nat) (errorOnly : Bool) (ue : List Nat) (ce : Nat) (h : Good s) :
    (s.readEnds port chan errorOnly ue ce).mem.wf := by
  unfold State.readEnds
  split
  · exact h
  · dsimp only
    split
    · exact h
    · next hp =>
      have hread := State.readBrings_wf h hp
      split
      · exact h
      · split <;> simpa using hread

@[simp] theorem execMoverReadData_canonical (port chan : Nat) (ueUnits : List Nat) (ce : Nat) (s : State) (h : Good s) :
    (execMoverReadData port chan ueUnits ce s).canonical := by
  simp [execMoverReadData, h.wf]

@[simp] theorem State.wrote'_mem (s : State) (port chan entry n : Nat) (w : MWrite) : (s.wrote' port chan entry n w).mem = s.mem := by
  simp [State.wrote']

@[simp] theorem State.takeTurn_mem (s : State) (port : Nat) : (s.takeTurn port).mem = s.mem := by
  unfold State.takeTurn
  split <;> simp

@[simp] theorem State.sendRead_mem (s : State) (port chan : Nat) (a : Active) (n : Nat) : (s.sendRead port chan a n).1.mem = s.mem := by
  unfold State.sendRead
  dsimp only
  split <;> simp

@[simp] theorem execMoverReadIssue_canonical (port chan : Nat) (s : State) (h : Good s) : (execMoverReadIssue port chan s).canonical := by
  unfold execMoverReadIssue
  dsimp only
  split <;> simp [h.wf]

@[simp] theorem State.stageWrite_mem (s : State) (port chan : Nat) (a : Active) (x : Slot) : (s.stageWrite port chan a x).mem = s.mem := by
  simp [State.stageWrite]

@[simp] theorem execMoverWriteIssue_canonical (port chan : Nat) (s : State) (h : Good s) : (execMoverWriteIssue port chan s).canonical := by
  unfold execMoverWriteIssue
  dsimp only
  (repeat' split) <;> simp [h.wf]

@[simp] theorem State.writeEnds_wf (s : State) (port chan : Nat) (a : Active) (w : MWrite) (k : Code) (h : Good s) :
    (s.writeEnds port chan a w k).mem.wf := by
  unfold State.writeEnds
  have hcount (b : Bool) (u : State) (n : Nat) (hu : Good u) : Good (if b then u.bump .D0A02 port n else u) := by simp [hu.wf]
  simp only [State.judgeResponse_mem, State.setMchan_mem]
  refine hcount _ _ _ ?_
  split
  · split
    · split <;> simp [h.wf]
    · exact h
  · exact h

@[simp] theorem execMoverResponse_canonical (port chan : Nat) (isRead : Bool) (s : State) (h : Good s) :
    (execMoverResponse port chan isRead s).canonical := by
  unfold execMoverResponse
  dsimp only
  (repeat' split) <;> simp [h.wf]

@[simp] theorem execWriteResponseTimeout_canonical (port chan : Nat) (s : State) (h : Good s) : (execWriteResponseTimeout port chan s).canonical := by
  unfold execWriteResponseTimeout
  dsimp only
  split <;> simp [h.wf]

@[simp] theorem execMoverStopSettled_canonical (port : Nat) (s : State) (h : Good s) : (execMoverStopSettled port s).canonical := by
  simp [execMoverStopSettled, h.wf]

@[simp] theorem execDescriptorComplete_canonical (port chan : Nat) (s : State) (h : Good s) : (execDescriptorComplete port chan s).canonical := by
  unfold execDescriptorComplete
  dsimp only
  split <;> simp [h.wf]

@[simp] theorem execChannelResume_canonical (port chan : Nat) (s : State) (h : Good s) : (execChannelResume port chan s).canonical := by
  simp [execChannelResume, h.wf]

@[simp] theorem execChannelAbort_canonical (port chan : Nat) (s : State) (h : Good s) : (execChannelAbort port chan s).canonical := by
  simp [execChannelAbort, h.wf]

@[simp] theorem State.resumeMover_mem (s : State) (port : Nat) : (s.resumeMover port).1.mem = s.mem := by
  simp [State.resumeMover]

end Sys2Proof.Machine
end

section
/-!
What keeps the canonical form of memory. Supplies, temperature, recovery and start-up.
-/

namespace Sys2Proof.Machine

/-! ### Losses of supplies and zones -/

@[simp] theorem State.flushBb_mem (s : State) (cause : Nat) : (s.flushBb cause).mem = s.mem := by
  simp [State.flushBb]

@[simp] theorem State.islandNotice_mem (s : State) (kind : Nat) (data : List Nat) : (s.islandNotice kind data).mem = s.mem := by
  simp [State.islandNotice]

@[simp] theorem State.abortUpdate_mem (s : State) (cause : Nat) : (s.abortUpdate cause).mem = s.mem := by
  simp [State.abortUpdate]

@[simp] theorem State.setEmergency_mem (s : State) (n : Nat) : (s.setEmergency n).mem = s.mem := by
  simp [State.setEmergency]

@[simp] theorem State.pulseEmergency_mem (s : State) (n : Nat) : (s.pulseEmergency n).mem = s.mem := by
  simp [State.pulseEmergency]

@[simp] theorem State.judgeEmergency_mem (s : State) : s.judgeEmergency.mem = s.mem := by
  simp [State.judgeEmergency]

@[simp] theorem State.showPins_mem (s : State) : s.showPins.mem = s.mem := by
  simp [State.showPins]

@[simp] theorem State.judgeTrip_mem (s : State) : s.judgeTrip.mem = s.mem := by
  simp [State.judgeTrip]

@[simp] theorem State.judgeHoldUp_mem (s : State) : s.judgeHoldUp.mem = s.mem := by
  simp [State.judgeHoldUp]

@[simp] theorem State.settleIsland_mem (s : State) : s.settleIsland.mem = s.mem := by
  simp [State.settleIsland]

@[simp] theorem State.endLease_mem (s : State) (cause : Nat) : (s.endLease cause).mem = s.mem := by
  unfold State.endLease
  dsimp only
  split
  · simp
  · split <;> simp

@[simp] theorem State.siteOff_wf (s : State) (p : Nat) (h : Good s) : (s.siteOff p).mem.wf := by
  simp [State.siteOff, h.wf]

@[simp] theorem State.moveStreams_mem (s : State) (i : Nat) : (s.moveStreams i).mem = s.mem := by
  simp [State.moveStreams]

@[simp] theorem State.iodOff_wf (s : State) (i : Nat) (h : Good s) : (s.iodOff i).mem.wf := by
  unfold State.iodOff
  dsimp only
  (repeat' split) <;> simp [h.wf]

@[simp] theorem State.fieldOff_wf (s : State) (f : Nat) (h : Good s) : (s.fieldOff f).mem.wf := by
  simp [State.fieldOff, h.wf]

@[simp] theorem State.showSpare_mem (s : State) (p v : Nat) : (s.showSpare p v).mem = s.mem := by
  unfold State.showSpare
  split <;> simp

@[simp] theorem State.siteLost_wf (s : State) (p : Nat) (h : Good s) : (s.siteLost p).mem.wf := by
  simp [State.siteLost, h.wf]

@[simp] theorem State.zoneDown_wf (s : State) (z : Nat) (h : Good s) : (s.zoneDown z).mem.wf := by
  have hports := foldl_memWf (f := fun s p => if isSite p then s.siteLost p else s) (fun _ _ hs => by split <;> simp [Good.wf hs]) (zonePorts z) h
  have hfields := foldl_memWf (f := fun s f => s.fieldOff f) (fun _ _ hs => by simp [Good.wf hs]) (zoneFields z) hports
  unfold State.zoneDown
  dsimp only
  split
  · exact foldl_memWf (fun _ _ hs => by simp [Good.wf hs]) _ (State.iodOff_wf _ _ hfields)
  · exact hfields

@[simp] theorem State.allOff_wf (s : State) (h : Good s) : s.allOff.mem.wf := by
  have hports (l : List Nat) : Good (l.foldl (fun s p => if s.inService p then s.setObj .B0601 p portWithdrawn else s) s) := by simp [h.wf]
  have hcut (u : State) (hu : Good u) : Good { u with withdrawing := [], markets := [], posts := [] } := hu
  have hzones (u : State) (l : List Nat) (hu : Good u) : Good (l.foldl (fun s z => s.zoneDown z) u) :=
    foldl_memWf (fun _ _ hs => State.zoneDown_wf _ _ hs) l hu
  have hstates (u : State) (l : List Nat) (hu : Good u) : Good (l.foldl (fun s z => s.setObj .P0C06 z zoneIsOff) u) := by simp [hu.wf]
  have hcleared (u : State) (hu : Good u) : Good { u with
      startup := { u.startup with stage := 0 }, streams := [], waves := [], kept := []
      power := { u.power with guard := false, samples := [], zoneSamples := [], lowMean := [], fuseTest := [] } } := hu
  exact hcleared _ (hstates _ _ (hzones _ _ (hcut _ (hports _))))

@[simp] theorem State.bringUp_mem (s : State) (r lo hi : Nat) : (s.bringUp r lo hi).mem = s.mem := by
  simp [State.bringUp]

@[simp] theorem State.zoneReturn_mem (s : State) (z : Nat) : (s.zoneReturn z).mem = s.mem := by
  unfold State.zoneReturn
  dsimp only
  (repeat' split) <;> simp

@[simp] theorem State.tripPanel_wf (s : State) (cause : Nat) (h : Good s) : (s.tripPanel cause).mem.wf := by
  simp [State.tripPanel, h.wf]

/-! ### Power -/

@[simp] theorem State.inputFail_wf (s : State) (cause : Nat) (h : Good s) : (State.inputFail s cause).mem.wf := by
  simp [State.inputFail, h.wf]

@[simp] theorem execInputSample_canonical (mv : Nat) (s : State) (h : Good s) : (execInputSample mv s).canonical := by
  simp [execInputSample, h.wf]

@[simp] theorem State.openFuse_wf (s : State) (z ma : Nat) (h : Good s) : (s.openFuse z ma).mem.wf := by
  unfold State.openFuse
  dsimp only
  (repeat' split) <;> simp [h.wf]

@[simp] theorem execEfuseShortTrip_canonical (zone ma : Nat) (s : State) (h : Good s) : (execEfuseShortTrip zone ma s).canonical := by
  simp [execEfuseShortTrip, h.wf]

@[simp] theorem execEfuseOvercurrent_canonical (zone ma : Nat) (s : State) (h : Good s) : (execEfuseOvercurrent zone ma s).canonical := by
  simp [execEfuseOvercurrent, h.wf]

@[simp] theorem execPrechargeTestDone_canonical (zone : Nat) (faultFound : Bool) (s : State) (h : Good s) :
    (execPrechargeTestDone zone faultFound s).canonical := by
  simp [execPrechargeTestDone, h.wf]

@[simp] theorem execZoneLost_canonical (zone : Nat) (s : State) (h : Good s) : (execZoneLost zone s).canonical := by
  simp [execZoneLost, h.wf]

@[simp] theorem execRailFault_canonical (site rail mv : Nat) (s : State) (h : Good s) : (execRailFault site rail mv s).canonical := by
  simp [execRailFault, h.wf]

@[simp] theorem execPowerSample_canonical (watts : Nat) (zones : List Nat) (s : State) (h : Good s) : (execPowerSample watts zones s).canonical := by
  simp [execPowerSample, h.wf]

@[simp] theorem State.capSite_mem (s : State) (p : Nat) : (s.capSite p).mem = s.mem := by
  simp [State.capSite]

@[simp] theorem execCapLoopStep_canonical (s : State) (h : Good s) : (execCapLoopStep s).canonical := by
  simp [execCapLoopStep, h.wf]

@[simp] theorem execAlwaysOnFeedRemoved_canonical (s : State) (h : Good s) : (execAlwaysOnFeedRemoved s).canonical := by
  simp [execAlwaysOnFeedRemoved, h.wf]

@[simp] theorem execHoldUpStoreCharged_canonical (s : State) (h : Good s) : (execHoldUpStoreCharged s).canonical := by
  simp [execHoldUpStoreCharged, h.wf]

/-! ### Temperature -/

@[simp] theorem State.takeReading_mem (s : State) (r k : Nat) (x : Reading) : (s.takeReading r k x).mem = s.mem := by
  simp [State.takeReading]

@[simp] theorem State.judgeStuck_mem (s : State) (r k : Nat) : (s.judgeStuck r k).mem = s.mem := by
  simp [State.judgeStuck]

@[simp] theorem State.judgeLayer_mem (s : State) (p l k : Nat) : (s.judgeLayer p l k).mem = s.mem := by
  simp [State.judgeLayer]

@[simp] theorem State.showBand_mem (s : State) (r b : Nat) : (s.showBand r b).mem = s.mem := by
  simp [State.showBand]

@[simp] theorem State.markHot_mem (s : State) (p : Nat) : (s.markHot p).mem = s.mem := by
  simp [State.markHot]

@[simp] theorem State.bandEffect_wf (s : State) (r b : Nat) (h : Good s) : (s.bandEffect r b).mem.wf := by
  unfold State.bandEffect
  dsimp only
  (repeat' split) <;> simp [h.wf]

@[simp] theorem State.judgeRegion_wf (s : State) (r : Nat) (h : Good s) : (s.judgeRegion r).mem.wf := by
  unfold State.judgeRegion
  split <;> simp [h.wf]

@[simp] theorem State.markTrip_mem (s : State) (p : Nat) : (s.markTrip p).mem = s.mem := by
  unfold State.markTrip
  split <;> simp

@[simp] theorem execSensorSample_canonical (readings : List ((Nat × Nat) × Reading)) (s : State) (h : Good s) :
    (execSensorSample readings s).canonical := by
  have htaken (l : List ((Nat × Nat) × Reading)) : Good (l.foldl (fun s x => s.takeReading x.1.1 x.1.2 x.2) s) := by simp [h.wf]
  have hstuck (u : State) (l : List ((Nat × Nat) × Reading)) (hu : Good u) : Good (l.foldl (fun s x => s.judgeStuck x.1.1 x.1.2) u) := by simp [hu.wf]
  have hlayers (u : State) (l : List Nat) (hu : Good u) : Good (l.foldl (fun s p =>
      (List.range 3).foldl (fun s l => (List.range 6).foldl (fun s k => s.judgeLayer p l k) s) s) u) :=
    foldl_memWf (fun _ _ hs => foldl_memWf (fun _ _ hs => by simp [Good.wf hs]) _ hs) l hu
  have hregions (u : State) (l : List Nat) (hu : Good u) : Good (l.foldl (fun s r => s.judgeRegion r) u) :=
    foldl_memWf (fun _ _ hs => State.judgeRegion_wf _ _ hs) l hu
  have htrips (u : State) (l : List Nat) (hu : Good u) : Good (l.foldl (fun s p => s.markTrip p) u) := by simp [hu.wf]
  have hall (a b c : List Nat) := htrips _ a (hregions _ b (hlayers _ c (hstuck _ readings (htaken readings))))
  unfold execSensorSample
  dsimp only
  rw [Out.canonical_next, State.settleIsland_mem]
  generalize hu : List.foldl (fun (s : State) p => s.markTrip p) _ _ = u
  have hgood : Good u := by
    rw [← hu]
    exact hall _ _ _
  simp [hgood.wf]

@[simp] theorem execWithdrawalComplete_canonical (port : Nat) (s : State) (h : Good s) : (execWithdrawalComplete port s).canonical := by
  unfold execWithdrawalComplete
  dsimp only
  (repeat' split) <;> simp [h.wf]

@[simp] theorem execStackTrip_canonical (site : Nat) (s : State) (h : Good s) : (execStackTrip site s).canonical := by
  unfold execStackTrip
  split <;> simp [h.wf]

@[simp] theorem execHeatZoneOff_canonical (zone : Nat) (s : State) (h : Good s) : (execHeatZoneOff zone s).canonical := by
  simp [execHeatZoneOff, h.wf]

@[simp] theorem execHeatZoneReturn_canonical (zone : Nat) (s : State) (h : Good s) : (execHeatZoneReturn zone s).canonical := by
  simp [execHeatZoneReturn, h.wf]

@[simp] theorem execCarryReturn_canonical (lampDie : Nat) (s : State) (h : Good s) : (execCarryReturn lampDie s).canonical := by
  unfold execCarryReturn
  dsimp only
  split_ifs
  · exact h
  · exact foldl_memWf (fun _ _ hs => by split <;> simp [Good.wf hs]) _ h
  · exact foldl_memWf (fun _ _ hs => foldl_memWf (fun _ _ hs => by simp [Good.wf hs]) _ hs) _ (by simp [h.wf])

@[simp] theorem execPanelTrip_canonical (cause : Nat) (s : State) (h : Good s) : (execPanelTrip cause s).canonical := by
  simp [execPanelTrip, h.wf]

@[simp] theorem execEmergencyBitClear_canonical (n : Nat) (s : State) (h : Good s) : (execEmergencyBitClear n s).canonical := by
  unfold execEmergencyBitClear
  split <;> simp [h.wf]

@[simp] theorem execWakeNAssert_canonical (s : State) (h : Good s) : (execWakeNAssert s).canonical := by
  unfold execWakeNAssert
  split <;> simp [h.wf]

/-! ### Recovery -/

@[simp] theorem State.suspendReplica_mem (s : State) (r stack cause : Nat) : (s.suspendReplica r stack cause).mem = s.mem := by
  simp [State.suspendReplica]

@[simp] theorem State.loseWeights_mem (s : State) (stack : Nat) : (s.loseWeights stack).mem = s.mem := by
  unfold State.loseWeights
  exact foldl_mem (fun _ _ => by simp) _ _

@[simp] theorem State.promote_mem (s : State) (stack old start : Nat) : (s.promote stack old start).mem = s.mem := by
  unfold State.promote
  dsimp only
  split <;> simp

@[simp] theorem State.stackFail_wf (s : State) (stack witness : Nat) (h : Good s) : (s.stackFail stack witness).mem.wf := by
  unfold State.stackFail
  split <;> simp [h.wf]

@[simp] theorem execStackFailureDetect_canonical (stack witness : Nat) (s : State) (h : Good s) :
    (execStackFailureDetect stack witness s).canonical := by
  simp [execStackFailureDetect, h.wf]

@[simp] theorem State.claimBad_mem (s : State) (p claim : Nat) : (s.claimBad p claim).mem = s.mem := by
  simp [State.claimBad]

@[simp] theorem State.checkTileDie_mem (s : State) (p : Nat) : (s.checkTileDie p).mem = s.mem := by
  simp [State.checkTileDie]

@[simp] theorem State.powerSite_mem (s : State) (p : Nat) : (s.powerSite p).mem = s.mem := by
  simp [State.powerSite]

@[simp] theorem State.remap_mem (s : State) (p : Nat) (bad dead : List Nat) : (s.remap p bad dead).mem = s.mem := by
  simp [State.remap]

@[simp] theorem State.settleMap_mem (s : State) (p : Nat) (bad dead : List Nat) : (s.settleMap p bad dead).mem = s.mem := by
  unfold State.settleMap
  exact foldl_mem (fun _ _ => by simp) _ _

@[simp] theorem State.judgeColumns_mem (s : State) (p : Nat) : (s.judgeColumns p).mem = s.mem := by
  simp [State.judgeColumns]

@[simp] theorem State.refill_wf (s : State) (stack : Nat) (h : Good s) : (s.refill stack).mem.wf := by
  unfold State.refill
  split
  · exact foldl_memWf (fun _ _ hs => by dsimp only; split <;> simp [Good.wf hs]) _
      (foldl_memWf (fun _ _ hs => by dsimp only; split <;> simp [Good.wf hs]) _ h)
  · exact h

@[simp] theorem State.promoNext_mem (s : State) (stack : Nat) (o : Promo) (stage : Nat) : (s.promoNext stack o stage).mem = s.mem := by
  simp [State.promoNext]

@[simp] theorem State.promoFail_wf (s : State) (stack : Nat) (o : Promo) (h : Good s) : (s.promoFail stack o).mem.wf := by
  simp [State.promoFail, h.wf]

@[simp] theorem State.promoStage_wf (s : State) (stack : Nat) (o : Promo) (bad : List Nat) (furrows : List (Nat × Nat)) (h : Good s) :
    (s.promoStage stack o bad furrows).mem.wf := by
  simp [State.promoStage, h.wf]

@[simp] theorem execPromotionStageDone_canonical (stack : Nat) (pass : Bool) (bad : List Nat) (furrows : List (Nat × Nat)) (s : State) (h : Good s) :
    (execPromotionStageDone stack pass bad furrows s).canonical := by
  unfold execPromotionStageDone
  split <;> simp [h.wf]

@[simp] theorem execReplicaResume_canonical (replica : Nat) (s : State) (h : Good s) : (execReplicaResume replica s).canonical := by
  have hend (u : State) (l : List Stream) : (l.foldl (fun s x => s.endStream x 4 .aborted) u).mem = u.mem := by simp
  have hset (u : State) (l : List Stream) : (l.foldl (fun s x => s.setStream x.id (some (s.resumed x))) u).mem = u.mem := by simp
  have hmovers (u : State) (l : List Nat) : (l.foldl (fun s p => (s.resumeMover p).1) u).mem = u.mem := by simp
  have hwaves (u : State) (l : List Wave) (hu : Good u) : Good (l.foldl (fun s w => s.rerunWave w) u) :=
    foldl_memWf (fun _ _ hs => by simp [Good.wf hs]) l hu
  unfold execReplicaResume
  rw [Out.canonical_next]
  split
  · exact h
  · dsimp only
    rw [State.raise_mem]
    refine hwaves _ _ ?_
    rw [good_iff, hmovers, hset, hend]
    exact h

@[simp] theorem execSuspendedStreamTimeout_canonical (replica : Nat) (s : State) (h : Good s) : (execSuspendedStreamTimeout replica s).canonical := by
  unfold execSuspendedStreamTimeout
  split <;> simp [h.wf]

@[simp] theorem execStackRetest_canonical (site : Nat) (usable : Bool) (s : State) (h : Good s) : (execStackRetest site usable s).canonical := by
  simp [execStackRetest, h.wf]

@[simp] theorem execSiteLivenessWrite_canonical (site : Nat) (s : State) (h : Good s) : (execSiteLivenessWrite site s).canonical := by
  simp [execSiteLivenessWrite, h.wf]

@[simp] theorem execSiteSilent_canonical (site : Nat) (s : State) (h : Good s) : (execSiteSilent site s).canonical := by
  simp [execSiteSilent, h.wf]

@[simp] theorem execPanelLost_canonical (s : State) (h : Good s) : (execPanelLost s).canonical := by
  simp [execPanelLost, h.wf]

@[simp] theorem execPanelFenced_canonical (s : State) (h : Good s) : (execPanelFenced s).canonical := by
  simp [execPanelFenced, h.wf]

@[simp] theorem State.remirror_mem (s : State) : s.remirror.mem = s.mem := by
  simp [State.remirror]

@[simp] theorem State.adopt_mem (s : State) (panel : Nat) (m : MirrorRec) : (s.adopt panel m).mem = s.mem := by
  simp [State.adopt]

@[simp] theorem execAdoption_canonical (panel : Nat) (mirrored : List MirrorRec) (s : State) (h : Good s) :
    (execAdoption panel mirrored s).canonical := by
  have hadopt (u : State) (l : List MirrorRec) : (l.foldl (fun s m => s.adopt panel m) u).mem = u.mem := by simp
  unfold execAdoption
  split
  · rw [Out.canonical_next]
    split
    · rw [State.dropAdopted_mem, State.raise_mem, State.showStreams_mem, State.remirror_mem, hadopt]
      exact h
    · exact h
  · exact h

@[simp] theorem execRemirrorDone_canonical (streams : List Nat) (bytes : Nat) (s : State) (h : Good s) :
    (execRemirrorDone streams bytes s).canonical := by
  have hdone (u : State) (l : List Nat) (hu : Good u) : Good (l.foldl (fun s i => match s.stream i with
      | some x => s.setStream i (some { x with unmirrored := false })
      | none => s) u) :=
    foldl_memWf (fun _ _ hs => by split <;> simp [Good.wf hs]) l hu
  unfold execRemirrorDone
  dsimp only [Out.canonical]
  split_ifs
  · exact h
  · rw [State.raise_mem, State.showStreams_mem]
    exact hdone _ _ h

@[simp] theorem State.levyBreach_mem (s : State) (e : Nat × Nat × Nat) : (s.levyBreach e).mem = s.mem := by
  simp [State.levyBreach]

@[simp] theorem execLevyMeterPeriod_canonical (use : List Nat) (slots : List (Nat × Nat × Nat)) (s : State) (h : Good s) :
    (execLevyMeterPeriod use slots s).canonical := by
  simp [execLevyMeterPeriod, h.wf]

/-! ### The lease and zone resets -/

@[simp] theorem State.resetGates_mem (s : State) (p : Nat) : (s.resetGates p).mem = s.mem := by
  simp [State.resetGates]

@[simp] theorem State.resetMover_mem (s : State) (p : Nat) : (s.resetMover p).mem = s.mem := by
  simp [State.resetMover]

@[simp] theorem State.beginReset_mem (s : State) (z trigger : Nat) : (s.beginReset z trigger).mem = s.mem := by
  unfold State.beginReset
  dsimp only
  rw [foldl_mem (fun _ _ => by split <;> simp)]
  split
  · simp
  · simp

@[simp] theorem State.resetField_wf (s : State) (f : Nat) (h : Good s) : (s.resetField f).mem.wf := by
  have hwrites (l : List Slot) : Good (l.foldl (fun s x => s.vaultWrite x.dst x.ttile x.taddr x.payload) s) :=
    foldl_memWf (fun _ _ hs => State.vaultWrite_wf _ _ _ _ _ hs) l h
  have hreads (u : State) (l : List ReadJob) (hu : Good u) : Good (l.foldl (fun s j =>
      (s.answerRead j.record.rport j.record.rid .pathReset []).send (.remoteAnswer j.record.rport j.record.rtile j.record.rid .pathReset [])) u) := by
    simp [hu.wf]
  have hmerges (u : State) (l : List Nat) (hu : Good u) : Good (l.foldl (fun s p =>
      (s.station p).openTickets.foldl (fun s t => s.mergeDone p t.tile t.tag t.ticket .pathReset) s) u) := by simp [hu.wf]
  have hdone := hmerges _ [2 * f, 2 * f + 1] (hreads _ (s.field f).reads (hwrites (s.field f).writeQ))
  unfold State.resetField
  dsimp only
  split
  · rw [foldl_mem (fun _ _ => by simp), State.setField_mem]
    exact hdone
  · exact State.fieldOff_wf _ _ hdone

@[simp] theorem State.grantLease_mem (s : State) (u : Nat) : (s.grantLease u).mem = s.mem := by
  simp [State.grantLease]

@[simp] theorem State.leaseGrant_mem (s : State) : s.leaseGrant.mem = s.mem := by
  unfold State.leaseGrant
  split
  · rfl
  · split
    · simp
    · split
      · split <;> simp
      · rfl

@[simp] theorem State.firstLease_mem (s : State) : s.firstLease.mem = s.mem := by
  unfold State.firstLease
  split <;> simp

@[simp] theorem State.requestLease_mem (s : State) (u : Nat) : (s.requestLease u).mem = s.mem := by
  simp [State.requestLease]

@[simp] theorem execLeaseRenew_canonical (unit : Nat) (s : State) (h : Good s) : (execLeaseRenew unit s).canonical := by
  simp [execLeaseRenew, h.wf]

@[simp] theorem execRenewReceive_canonical (unit : Nat) (s : State) (h : Good s) : (execRenewReceive unit s).canonical := by
  unfold execRenewReceive
  dsimp only
  split <;> simp [h.wf]

@[simp] theorem execLeaseStandDown_canonical (unit : Nat) (s : State) (h : Good s) : (execLeaseStandDown unit s).canonical := by
  simp [execLeaseStandDown, h.wf]

@[simp] theorem execLeaseExpiry_canonical (s : State) (h : Good s) : (execLeaseExpiry s).canonical := by
  simp [execLeaseExpiry, h.wf]

@[simp] theorem State.releaseLease_mem (s : State) : s.releaseLease.mem = s.mem := by
  unfold State.releaseLease
  split <;> simp

@[simp] theorem execLeaseRelease_canonical (unit n : Nat) (s : State) (h : Good s) : (execLeaseRelease unit n s).canonical := by
  simp [execLeaseRelease, h.wf]

@[simp] theorem execLeaseRevoke_canonical (cause : Nat) (s : State) (h : Good s) : (execLeaseRevoke cause s).canonical := by
  unfold execLeaseRevoke
  split <;> simp [h.wf]

@[simp] theorem execOverlapExpiry_canonical (s : State) (h : Good s) : (execOverlapExpiry s).canonical := by
  unfold execOverlapExpiry
  split <;> simp [h.wf]

@[simp] theorem State.askReset_mem (s : State) (z trigger : Nat) : (s.askReset z trigger).mem = s.mem := by
  simp [State.askReset]

@[simp] theorem execBaseZoneReset_canonical (zone trigger : Nat) (s : State) (h : Good s) : (execBaseZoneReset zone trigger s).canonical := by
  simp [execBaseZoneReset, h.wf]

@[simp] theorem execZoneResetDrainDone_canonical (zone : Nat) (s : State) (h : Good s) : (execZoneResetDrainDone zone s).canonical := by
  unfold execZoneResetDrainDone
  dsimp only
  rw [Out.canonical_next]
  split
  · exact h
  · rw [State.endCmdOf_mem]
    exact foldl_memWf (fun _ _ hs => State.resetField_wf _ _ hs) _ h

@[simp] theorem State.portBack_mem (s : State) (port : Nat) : (s.portBack port).mem = s.mem := by
  unfold State.portBack
  split
  · simp
  · split <;> simp

/-! ### Start-up, standby and the secure wipe -/

theorem State.reset_good : Good State.reset := rfl

@[simp] theorem State.fresh_wf (s : State) (island : Bool) : (s.fresh island).mem.wf := by
  have hclock (b : Bool) (u : State) (v : Nat) (hu : Good u) : Good (if b then u.setObj .W0001 0 v else u) := by simp [hu.wf]
  have hlife (p : Prop) [Decidable p] (u : State) (v : Nat) (hu : Good u) : Good (if p then u else u.setObj .I0D05 0 v) := by simp [hu.wf]
  simp only [State.fresh, State.setObj_mem]
  exact hlife _ _ _ (hclock _ _ _ State.reset_good)

@[simp] theorem State.enterStage_mem (s : State) (k : Nat) : (s.enterStage k).mem = s.mem := by
  simp [State.enterStage]

@[simp] theorem State.warmStart_wf (s : State) : s.warmStart.mem.wf := by
  simp [State.warmStart]

@[simp] theorem execColdStart_canonical (s : State) (h : Good s) : (execColdStart s).canonical := by
  simp [execColdStart, h.wf]

@[simp] theorem execInputRestored_canonical (s : State) (h : Good s) : (execInputRestored s).canonical := by
  simp [execInputRestored, h.wf]

@[simp] theorem execStandbyEnter_canonical (s : State) (h : Good s) : (execStandbyEnter s).canonical := by
  simp [execStandbyEnter, h.wf]

@[simp] theorem execStandbyRelease_canonical (s : State) (h : Good s) : (execStandbyRelease s).canonical := by
  simp [execStandbyRelease, h.wf]

@[simp] theorem execHoldUpExhausted_canonical (s : State) (h : Good s) : (execHoldUpExhausted s).canonical := by
  unfold execHoldUpExhausted
  split <;> simp [h.wf]

@[simp] theorem State.checkLamp_mem (s : State) (d : Nat) : (s.checkLamp d).mem = s.mem := by
  simp [State.checkLamp]

@[simp] theorem State.measureFlights_mem (s : State) : s.measureFlights.mem = s.mem := by
  simp [State.measureFlights]

@[simp] theorem State.reportIod_mem (s : State) (i : Nat) : (s.reportIod i).mem = s.mem := by
  simp [State.reportIod]

@[simp] theorem State.suppliesOn_wf (s : State) (h : Good s) : s.suppliesOn.mem.wf := by
  simp [State.suppliesOn, h.wf]

@[simp] theorem State.lampsOn_mem (s : State) : s.lampsOn.mem = s.mem := by
  simp [State.lampsOn]

@[simp] theorem State.failSite_wf (s : State) (p : Nat) (h : Good s) : (s.failSite p).mem.wf := by
  simp [State.failSite, h.wf]

@[simp] theorem State.powerStack_wf (s : State) (p : Nat) (h : Good s) : (s.powerStack p).mem.wf := by
  simp [State.powerStack, h.wf]

@[simp] theorem State.stacksOn_wf (s : State) (h : Good s) : s.stacksOn.mem.wf := by
  unfold State.stacksOn
  exact foldl_memWf (fun _ _ hs => by simp [hs.wf]) _ h

@[simp] theorem State.testSite_wf (s : State) (failed : List Nat) (badTiles : List (Nat × Nat)) (furrows : List (Nat × Nat × Nat)) (p : Nat)
    (h : Good s) :
    (s.testSite failed badTiles furrows p).mem.wf := by
  simp [State.testSite, h.wf]

/-- Spares are looked for one after another; each that is taken is powered (R86). -/
theorem State.powerStacks_wf (f : State × List Nat → Nat → Option Nat) (l : List Nat) (a : State × List Nat) (h : Good a.1) :
    Good (l.foldl (fun a r => match f a r with
      | none => a
      | some q => (if (a.1.site q).powered then a.1 else a.1.powerStack q, q :: a.2)) a).1 := by
  induction l generalizing a with
  | nil => exact h
  | cons r l ih =>
    refine ih _ ?_
    dsimp only
    split
    · exact h
    · split <;> simp [h.wf]

@[simp] theorem State.makeUp_wf (s : State) (h : Good s) : s.makeUp.mem.wf :=
  State.powerStacks_wf (fun a r => (spareOrder r).find? (fun q => a.1.spareFit q && !a.2.contains q)) _ (s, []) h

@[simp] theorem State.stackTests_wf (s : State) (failed : List Nat) (badTiles : List (Nat × Nat)) (furrows : List (Nat × Nat × Nat)) (h : Good s) :
    (s.stackTests failed badTiles furrows).1.mem.wf := by
  have htested : Good (s.poweredSites.foldl (fun s p => s.testSite failed badTiles furrows p) s) :=
    foldl_memWf (fun _ _ hs => by simp [Good.wf hs]) _ h
  unfold State.stackTests
  dsimp only
  split
  · exact htested
  · exact State.makeUp_wf _ htested

@[simp] theorem State.planePaths_mem (s : State) (paths : List (Nat × Nat × Nat)) : (s.planePaths paths).1.mem = s.mem := by
  simp [State.planePaths]

@[simp] theorem State.takeSpare_mem (s : State) (r : Nat) : (s.takeSpare r).1.mem = s.mem := by
  unfold State.takeSpare
  split <;> simp

@[simp] theorem State.mapStack_mem (s : State) (l : Nat) (site : Option Nat) : (s.mapStack l site).mem = s.mem := by
  have hspare := State.takeSpare_mem s (replicaOf l)
  unfold State.mapStack
  split
  · simp
  · split <;> rename_i hq <;> rw [hq] at hspare <;> simpa using hspare

@[simp] theorem State.mapStacks_wf (s : State) (h : Good s) : s.mapStacks.mem.wf := by
  have hshort (p : Prop) [Decidable p] (d : List Nat) : Good (if p then s.raise evStartupShort noSubject d else s) := by simp [h.wf]
  have hmap (u : State) (f : Nat → Option Nat) (l : List Nat) (hu : Good u) : Good (l.foldl (fun s k => s.mapStack k (f k)) u) := by simp [hu.wf]
  have hiods (u : State) (l : List Nat) (hu : Good u) : Good (l.foldl (fun s i =>
      if (s.iod i).powered ∧ !s.startup.bad.contains (portOfIod i) then s.setObj .B0601 (portOfIod i) portInService else s) u) := by simp [hu.wf]
  have hoff (u : State) (l : List Nat) (hu : Good u) : (l.foldl (fun s p => s.siteOff p) u).mem.wf :=
    foldl_memWf (fun _ _ hs => by simp [Good.wf hs]) l hu
  unfold State.mapStacks
  dsimp only
  exact hoff _ _ (hiods _ _ (hmap _ _ _ (hshort _ _)))

@[simp] theorem State.stageDone_mem (s : State) (next : Nat) : (s.stageDone next).mem = s.mem := by
  simp [State.stageDone]

@[simp] theorem State.startFailed_mem (s : State) (cause : Nat) : (s.startFailed cause).mem = s.mem := by
  simp [State.startFailed]

@[simp] theorem State.wipeSites_mem (s : State) : s.wipeSites.mem = s.mem := by
  unfold State.wipeSites
  exact foldl_mem (fun _ _ => by simp) _ _

@[simp] theorem execStartupStageEnd_canonical (ok : Bool) (failed : List Nat) (badTiles : List (Nat × Nat)) (furrows paths : List
    (Nat × Nat × Nat)) (s : State) (h : Good s) :
    (execStartupStageEnd ok failed badTiles furrows paths s).canonical := by
  simp [execStartupStageEnd, h.wf]

@[simp] theorem State.beginWipe_mem (s : State) (target : Nat) : (s.beginWipe target).mem = s.mem := by
  simp [State.beginWipe]

@[simp] theorem execWipeDone_canonical (s : State) (h : Good s) : (execWipeDone s).canonical := by
  have hcleared := State.clearRange_wf (2 ^ 45) (2 ^ 46) (State.clearRange_wf (2 ^ 44) (2 ^ 45) (State.clearRange_wf 0 (2 ^ 44) h))
  unfold execWipeDone
  rw [Out.canonical_next]
  split
  · exact h
  · dsimp only
    rw [State.endCmd_mem, State.raise_mem, State.setObj_mem, State.setObj_mem]
    exact foldl_memWf (fun _ _ hs => State.siteOff_wf _ _ hs) _ hcleared

@[simp] theorem execBlackboxSlotErase_canonical (s : State) (h : Good s) : (execBlackboxSlotErase s).canonical := by
  simp [execBlackboxSlotErase, h.wf]

@[simp] theorem execBlackboxFlushDone_canonical (s : State) (h : Good s) : (execBlackboxFlushDone s).canonical := by
  simp [execBlackboxFlushDone, h.wf]

@[simp] theorem execTapInstruction_canonical (ir : Nat) (s : State) (h : Good s) : (execTapInstruction ir s).canonical := by
  simp [execTapInstruction, h.wf]

@[simp] theorem execTapReset_canonical (s : State) (h : Good s) : (execTapReset s).canonical := by
  simp [execTapReset, h.wf]

end Sys2Proof.Machine
end

section
/-!
What keeps the canonical form of memory. The ledger, the control units, and the steps of the matrix and vector units.
-/

namespace Sys2Proof.Machine

/-! ### The values of objects -/

@[simp] theorem State.endSession_mem (s : State) (n cause : Nat) : (s.endSession n cause).mem = s.mem := by
  unfold State.endSession
  split <;> simp

@[simp] theorem State.endSessions_mem (s : State) (f : Session → Bool) (cause : Nat) : (s.endSessions f cause).mem = s.mem := by
  simp [State.endSessions]

@[simp] theorem State.putKey_mem (s : State) (o : Obj) (v : Nat) : (s.putKey o v).mem = s.mem := by
  unfold State.putKey
  split <;> simp

@[simp] theorem State.applyValue_mem (s : State) (o : Obj) (i v : Nat) : (s.applyValue o i v).mem = s.mem := by
  unfold State.applyValue
  dsimp only
  split_ifs <;> simp

@[simp] theorem State.setShadow_mem (s : State) (o : Obj) (i v : Nat) : (s.setShadow o i v).mem = s.mem := by
  simp [State.setShadow]

@[simp] theorem State.wroteNow_mem (s : State) (o : Obj) (i : Nat) : (s.wroteNow o i).mem = s.mem := by
  simp [State.wroteNow]

@[simp] theorem State.accept_mem (s : State) (o : Obj) (i v : Nat) : (s.accept o i v).mem = s.mem := by
  unfold State.accept
  split <;> simp

@[simp] theorem State.applyShadows_mem (s : State) (wave : Bool) : (s.applyShadows wave).mem = s.mem := by
  unfold State.applyShadows
  exact foldl_mem (fun _ _ => by simp) _ _

@[simp] theorem execEdgeApply_canonical (wave : Bool) (s : State) (h : Good s) : (execEdgeApply wave s).canonical := by
  simp [execEdgeApply, h.wf]

/-! ### The ledger's commands -/

@[simp] theorem State.startServing_mem (s : State) (n : Nat) (x : Session) : (s.startServing n x).1.mem = s.mem := by
  simp [State.startServing]

@[simp] theorem State.setLife_mem (s : State) (new n : Nat) : (s.setLife new n).mem = s.mem := by
  simp [State.setLife]

@[simp] theorem State.wipeInto_mem (s : State) (new n : Nat) : (s.wipeInto new n).mem = s.mem := by
  simp [State.wipeInto]

@[simp] theorem State.stopServing_mem (s : State) : s.stopServing.mem = s.mem := by
  simp [State.stopServing]

@[simp] theorem State.changeLife_mem (s : State) (target n level : Nat) : (s.changeLife target n level).1.mem = s.mem := by
  unfold State.changeLife
  dsimp only
  split_ifs <;> simp

@[simp] theorem State.beginHandover_mem (s : State) (v : Nat) : (s.beginHandover v).mem = s.mem := by
  simp [State.beginHandover]

@[simp] theorem State.activate_mem (s : State) (arg : Nat) : (s.activate arg).1.mem = s.mem := by
  unfold State.activate
  split
  · rfl
  · split
    · simp
    · split
      · rfl
      · split <;> simp

@[simp] theorem State.startCmd_wf (s : State) (o : Obj) (arg n : Nat) (x : Session) (h : Good s) : (s.startCmd o arg n x).1.mem.wf := by
  unfold State.startCmd
  split <;> simp [h.wf]

@[simp] theorem State.command_wf (s : State) (o : Obj) (arg n : Nat) (x : Session) (h : Good s) : (s.command o arg n x).1.mem.wf := by
  simp [State.command, h.wf]

@[simp] theorem State.commandOf_wf (s : State) (o : Obj) (arg n : Nat) (h : Good s) : (s.commandOf o arg n).mem.wf := by
  unfold State.commandOf
  split <;> simp [h.wf]

@[simp] theorem execServeStart_canonical (session : Nat) (s : State) (h : Good s) : (execServeStart session s).canonical := by
  simp [execServeStart, h.wf]

@[simp] theorem execMoverResume_canonical (session port : Nat) (s : State) (h : Good s) : (execMoverResume session port s).canonical := by
  simp [execMoverResume, h.wf]

@[simp] theorem execEfuseReclose_canonical (session zone : Nat) (s : State) (h : Good s) : (execEfuseReclose session zone s).canonical := by
  simp [execEfuseReclose, h.wf]

@[simp] theorem execPortWithdrawCmd_canonical (session port : Nat) (s : State) (h : Good s) : (execPortWithdrawCmd session port s).canonical := by
  simp [execPortWithdrawCmd, h.wf]

@[simp] theorem execSwitchover_canonical (session : Nat) (s : State) (h : Good s) : (execSwitchover session s).canonical := by
  simp [execSwitchover, h.wf]

@[simp] theorem execImageVerify_canonical (session : Nat) (s : State) (h : Good s) : (execImageVerify session s).canonical := by
  simp [execImageVerify, h.wf]

@[simp] theorem execImageActivateLive_canonical (session : Nat) (s : State) (h : Good s) : (execImageActivateLive session s).canonical := by
  simp [execImageActivateLive, h.wf]

@[simp] theorem execImageActivateNextStart_canonical (session : Nat) (s : State) (h : Good s) : (execImageActivateNextStart session s).canonical := by
  simp [execImageActivateNextStart, h.wf]

@[simp] theorem execBlackboxFlush_canonical (session : Nat) (s : State) (h : Good s) : (execBlackboxFlush session s).canonical := by
  simp [execBlackboxFlush, h.wf]

@[simp] theorem execStackOut_canonical (session stack : Nat) (s : State) (h : Good s) : (execStackOut session stack s).canonical := by
  simp [execStackOut, h.wf]

@[simp] theorem execLifeCycleToProvisioned_canonical (session : Nat) (s : State) (h : Good s) : (execLifeCycleToProvisioned session s).canonical := by
  simp [execLifeCycleToProvisioned, h.wf]

@[simp] theorem execLifeCycleToDeployed_canonical (session : Nat) (s : State) (h : Good s) : (execLifeCycleToDeployed session s).canonical := by
  simp [execLifeCycleToDeployed, h.wf]

@[simp] theorem execLifeCycleToService_canonical (session : Nat) (s : State) (h : Good s) : (execLifeCycleToService session s).canonical := by
  simp [execLifeCycleToService, h.wf]

@[simp] theorem execLifeCycleToDecommissioned_canonical (session : Nat) (s : State) (h : Good s) :
    (execLifeCycleToDecommissioned session s).canonical := by
  simp [execLifeCycleToDecommissioned, h.wf]

@[simp] theorem execZoneResetCmd_canonical (session zone : Nat) (s : State) (h : Good s) : (execZoneResetCmd session zone s).canonical := by
  simp [execZoneResetCmd, h.wf]

@[simp] theorem State.verifyImage_mem (s : State) (u : Nat) : (s.verifyImage u).mem = s.mem := by
  simp [State.verifyImage]

@[simp] theorem execImageVerifyDone_canonical (s : State) (h : Good s) : (execImageVerifyDone s).canonical := by
  unfold execImageVerifyDone
  split <;> simp [h.wf]

@[simp] theorem execCommandTimeout_canonical (area num : Nat) (s : State) (h : Good s) : (execCommandTimeout area num s).canonical := by
  unfold execCommandTimeout
  split <;> simp [h.wf]

/-! ### External lanes -/

@[simp] theorem execLaneLock_canonical (lane : Nat) (s : State) (h : Good s) : (execLaneLock lane s).canonical := by
  simp [execLaneLock, h.wf]

@[simp] theorem execLaneRecovery_canonical (lane : Nat) (b : Bool) (s : State) (h : Good s) : (execLaneRecovery lane b s).canonical := by
  simp [execLaneRecovery, h.wf]

@[simp] theorem execLaneDown_canonical (lane : Nat) (s : State) (h : Good s) : (execLaneDown lane s).canonical := by
  simp [execLaneDown, h.wf]

@[simp] theorem execLaneAcquireRetry_canonical (lane : Nat) (s : State) (h : Good s) : (execLaneAcquireRetry lane s).canonical := by
  simp [execLaneAcquireRetry, h.wf]

@[simp] theorem execLaneBerUpdate_canonical (lane corrected received symbols uncorrected : Nat) (s : State) (h : Good s) :
    (execLaneBerUpdate lane corrected received symbols uncorrected s).canonical := by
  simp [execLaneBerUpdate, h.wf]

@[simp] theorem execDr8Underrun_canonical (port lanes : Nat) (s : State) (h : Good s) : (execDr8Underrun port lanes s).canonical := by
  simp [execDr8Underrun, h.wf]

/-! ### The ledger protocol -/

@[simp] theorem State.discardMsg_mem (s : State) : s.discardMsg.mem = s.mem := by
  simp [State.discardMsg]

@[simp] theorem State.reply_mem (s : State) (n : Nat) (x : Session) (r : Reply) : (s.reply n x r).mem = s.mem := by
  unfold State.reply
  dsimp only
  split <;> simp

/-- A message that is run, or answered BUS_ERROR when it is not well formed (R350). -/
theorem ran_wf {run : State → Session → State × Reply × After} (hr : ∀ u x, KeepsCanonical u (run u x).1) {u : State} (hu : Good u) (ok : Bool)
    (x : Session) (r : Reply) : Good (if ok then run u x else (u, r, .nothing)).1 := by
  split
  · exact hr _ _ hu
  · exact hu

/-- What follows the message: its reply, and the sessions that its effect ends (R350). -/
theorem afterRun_wf {p : State × Reply × After} (hp : Good p.1) (n : Nat) (x : Session) : Good (match p.2.2 with
    | .nothing => p.1.reply n x p.2.1
    | .bye => (p.1.reply n x p.2.1).endSession n 0
    | .moved => (p.1.reply n x p.2.1).endSessions (fun y => !y.commons) 2) := by
  split <;> simp [hp.wf]

@[simp] theorem State.request_wf (s : State) (c : Instr) (type : Nat) (m : LedgerMsg) (run : State → Session → State × Reply × After) (h : Good s)
    (hr : ∀ u x, KeepsCanonical u (run u x).1) : (s.request c type m run).mem.wf := by
  have hset (n : Nat) (x y : Session) : Good ((s.setSession n (some x)).setSession n (some y)) := by simp [h.wf]
  unfold State.request
  split
  · simp [h.wf]
  · dsimp only
    split
    · split <;> simp [h.wf]
    · split
      · simp [h.wf]
      · simp [h.wf]
      · exact afterRun_wf (ran_wf hr (hset _ _ _) _ _ _) _ _
      · exact afterRun_wf (ran_wf hr (hset _ _ _) _ _ _) _ _

@[simp] theorem execRead_canonical (m : LedgerMsg) (s : State) (h : Good s) : (execRead m s).canonical :=
  State.request_wf _ _ _ _ _ h (fun _ _ hu => hu)

@[simp] theorem State.ledgerWrite_mem (s : State) (n level : Nat) (o : Obj) (i : Nat) : (s.ledgerWrite n level o i).mem = s.mem := by
  simp [State.ledgerWrite]

@[simp] theorem State.writeItem_wf (s : State) (n : Nat) (x : Session) (it : Item) (h : Good s) : (s.writeItem n x it).1.mem.wf := by
  unfold State.writeItem
  dsimp only
  (repeat' split) <;> simp [h.wf]

@[simp] theorem State.writeItems_wf (s : State) (n : Nat) (x : Session) (l : List Item) (h : Good s) : (s.writeItems n x l).1.mem.wf := by
  induction l generalizing s with
  | nil => exact h
  | cons it r ih => exact ih _ (State.writeItem_wf _ _ _ _ h)

@[simp] theorem execWrite_canonical (m : LedgerMsg) (s : State) (h : Good s) : (execWrite m s).canonical :=
  State.request_wf _ _ _ _ _ h (fun _ _ hu => State.writeItems_wf _ _ _ _ hu)

@[simp] theorem execStage_canonical (m : LedgerMsg) (s : State) (h : Good s) : (execStage m s).canonical :=
  State.request_wf _ _ _ _ _ h (fun _ _ hu => hu)

@[simp] theorem State.applyMember_mem (s : State) (n level : Nat) (m : StageItem) : (s.applyMember n level m).mem = s.mem := by
  simp [State.applyMember]

@[simp] theorem State.commitSet_mem (s : State) (n : Nat) (x : Session) : (s.commitSet n x).1.mem = s.mem := by
  unfold State.commitSet
  dsimp only
  (repeat' split) <;> simp

@[simp] theorem execCommit_canonical (m : LedgerMsg) (s : State) (h : Good s) : (execCommit m s).canonical :=
  State.request_wf _ _ _ _ _ h (fun _ _ hu => by simpa using hu)

@[simp] theorem execAbort_canonical (m : LedgerMsg) (s : State) (h : Good s) : (execAbort m s).canonical :=
  State.request_wf _ _ _ _ _ h (fun _ _ hu => hu)

@[simp] theorem State.notifyTo_mem (s : State) (n : Nat) (levy : Bool) (values : List Answer) : (s.notifyTo n levy values).mem = s.mem := by
  unfold State.notifyTo
  split <;> simp

@[simp] theorem State.applyCommits_mem (s : State) (wave : Bool) : (s.applyCommits wave).mem = s.mem := by
  refine foldl_mem (fun u c => ?_) _ _
  dsimp only
  split <;> simp

@[simp] theorem execCommitApply_canonical (wave : Bool) (s : State) (h : Good s) : (execCommitApply wave s).canonical := by
  simp [execCommitApply, h.wf]

@[simp] theorem execWaveDispatch_canonical (replica waveType : Nat) (wp : List (BitVec 32)) (s : State) (h : Good s) :
    (execWaveDispatch replica waveType wp s).canonical := by
  simp [execWaveDispatch, h.wf]

@[simp] theorem execSubscribe_canonical (m : LedgerMsg) (s : State) (h : Good s) : (execSubscribe m s).canonical :=
  State.request_wf _ _ _ _ _ h (fun _ _ hu => hu)

@[simp] theorem execNotify_canonical (session : Nat) (s : State) (h : Good s) : (execNotify session s).canonical := by
  unfold execNotify
  split <;> simp [h.wf]

@[simp] theorem execList_canonical (m : LedgerMsg) (s : State) (h : Good s) : (execList m s).canonical :=
  State.request_wf _ _ _ _ _ h (fun _ _ hu => hu)

@[simp] theorem execHello_canonical (src sport dst dport : Nat) (commons : Bool) (level version : Nat) (nonce : BitVec 256) (name : Nat)
    (s : State) (h : Good s) :
    (execHello src sport dst dport commons level version nonce name s).canonical := by
  unfold execHello
  dsimp only
  (repeat' split) <;> simp [h.wf]

@[simp] theorem State.proofFailed_mem (s : State) (n : Nat) (x : Session) (tag : BitVec 128) : (s.proofFailed n x tag).mem = s.mem := by
  simp [State.proofFailed]

@[simp] theorem execProof_canonical (session src sport dst dport : Nat) (commons : Bool) (h : BitVec 384) (s : State) (hm : Good s) :
    (execProof session src sport dst dport commons h s).canonical := by
  unfold execProof
  split
  · simp [hm.wf]
  · rw [Out.canonical_next]
    split
    · simp [hm.wf]
    · split
      · simp [hm.wf]
      · split
        · simp [hm.wf]
        · dsimp only
          split <;> simp [hm.wf]

@[simp] theorem execBye_canonical (m : LedgerMsg) (s : State) (h : Good s) : (execBye m s).canonical :=
  State.request_wf _ _ _ _ _ h (fun _ _ hu => hu)

@[simp] theorem execChallengeTimeout_canonical (session : Nat) (s : State) (h : Good s) : (execChallengeTimeout session s).canonical := by
  unfold execChallengeTimeout
  split <;> simp [h.wf]

@[simp] theorem execSessionIdleTimeout_canonical (session : Nat) (s : State) (h : Good s) : (execSessionIdleTimeout session s).canonical := by
  unfold execSessionIdleTimeout
  split <;> simp [h.wf]

@[simp] theorem execHelloLockoutEnd_canonical (src : Nat) (s : State) (h : Good s) : (execHelloLockoutEnd src s).canonical := by
  simp [execHelloLockoutEnd, h.wf]

@[simp] theorem stateOr_wf {o : Out} {s : State} (ho : o.canonical) (h : Good s) : (stateOr o s).mem.wf := by
  cases o with
  | next t => exact ho
  | fault r => exact h
  | refused r => exact h

@[simp] theorem State.takeUp_wf (s : State) (c : Instr) (h : Good s) : (s.takeUp c).mem.wf := by
  unfold State.takeUp
  split <;> simp [h.wf]

@[simp] theorem State.takeUpAll_wf (s : State) (h : Good s) : s.takeUpAll.mem.wf := by
  unfold State.takeUpAll
  exact foldl_memWf (fun _ _ hs => by simp [hs.wf]) _ h

@[simp] theorem execLeaseGrant_canonical (s : State) (h : Good s) : (execLeaseGrant s).canonical := by
  simp [execLeaseGrant, h.wf]

@[simp] theorem execFirstLeaseTimeout_canonical (s : State) (h : Good s) : (execFirstLeaseTimeout s).canonical := by
  simp [execFirstLeaseTimeout, h.wf]

@[simp] theorem execPortRestore_canonical (port : Nat) (s : State) (h : Good s) : (execPortRestore port s).canonical := by
  simp [execPortRestore, h.wf]

/-! ### The matrix unit -/

@[simp] theorem matrixQueue_mem (site tl : Nat) (w : StepWord) (ea : List Nat) (index : Nat) (s : State) :
    (matrixQueue site tl w ea index s).mem = s.mem := by
  simp [matrixQueue]

@[simp] theorem execMatrixDense_canonical (site tile : Nat) (w : StepWord) (s : State) (h : Good s) : (execMatrixDense site tile w s).canonical := by
  simp [execMatrixDense, h.wf]

@[simp] theorem execMatrixBin_canonical (site tile : Nat) (w : StepWord) (s : State) (h : Good s) : (execMatrixBin site tile w s).canonical := by
  simp [execMatrixBin, h.wf]

@[simp] theorem execMatrixStepDone_canonical (site tile conflicts : Nat) (ecc : Ecc) (s : State) (h : Good s) :
    (execMatrixStepDone site tile conflicts ecc s).canonical := by
  unfold execMatrixStepDone
  dsimp only
  split
  · exact h
  · rw [Out.canonical_next]
    split
    · exact h
    · generalize (if stepOp _ = 1 then _ else none) = stop
      split
      · exact h
      · rw [State.settle_mem]
        split <;> simp [h.wf]

/-! ### Loads, stores, bids and sends -/

@[simp] theorem lsIssue_wf (op site tl : Nat) (w : StepWord) (s : State) (h : Good s) : (lsIssue op site tl w s).mem.wf :=
  State.issue_wf h (fun _ hs => by simp [Good.wf hs])

@[simp] theorem execLoadVaultToStore_canonical (site tile : Nat) (w : StepWord) (s : State) (h : Good s) :
    (execLoadVaultToStore site tile w s).canonical := by
  simp [execLoadVaultToStore, h.wf]

@[simp] theorem execStoreToVault_canonical (site tile : Nat) (w : StepWord) (s : State) (h : Good s) :
    (execStoreToVault site tile w s).canonical := by
  simp [execStoreToVault, h.wf]

@[simp] theorem execBid_canonical (site tile : Nat) (w : StepWord) (s : State) (h : Good s) : (execBid site tile w s).canonical := by
  simp [execBid, h.wf]

@[simp] theorem execSend_canonical (site tile : Nat) (w : StepWord) (ecc : Ecc) (s : State) (h : Good s) :
    (execSend site tile w ecc s).canonical := by
  refine State.issue_wf h (fun _ hs => ?_)
  split <;> simp [Good.wf hs]

/-! ### The control units -/

@[simp] theorem State.restartUnit_mem (s : State) (u : Nat) : (s.restartUnit u).mem = s.mem := by
  simp [State.restartUnit]

@[simp] theorem State.toResync_mem (s : State) (u : Nat) : (s.toResync u).mem = s.mem := by
  simp [State.toResync]

@[simp] theorem State.loseStreams_mem (s : State) : s.loseStreams.mem = s.mem := by
  simp [State.loseStreams]

@[simp] theorem State.fwLog_mem (s : State) (u : Nat) (logs : List FwMsg) : (s.fwLog u logs).mem = s.mem := by
  simp [State.fwLog]

@[simp] theorem State.compareWord_mem (s : State) (unit receiver kind content : Nat) : (s.compareWord unit receiver kind content).mem = s.mem := by
  simp [State.compareWord]

@[simp] theorem State.passNow_mem (s : State) (kind content : Nat) : (s.passNow kind content).mem = s.mem := by
  simp [State.passNow]

@[simp] theorem State.fence_mem (s : State) (epoch receiver : Nat) : (s.fence epoch receiver).mem = s.mem := by
  simp [State.fence]

@[simp] theorem State.takeOutput_mem (s : State) (unit epoch receiver kind content : Nat) :
    (s.takeOutput unit epoch receiver kind content).mem = s.mem := by
  simp [State.takeOutput]

@[simp] theorem execCuOutputReceive_canonical (unit epoch receiver kind content : Nat) (logs : List FwMsg) (s : State) (h : Good s) :
    (execCuOutputReceive unit epoch receiver kind content logs s).canonical := by
  simp [execCuOutputReceive, h.wf]

@[simp] theorem execCompareWindowEnd_canonical (window : Nat) (s : State) (h : Good s) : (execCompareWindowEnd window s).canonical := by
  simp [execCompareWindowEnd, h.wf]

@[simp] theorem State.selfCheck_mem (s : State) (u : Nat) (r : Option Bool) : (s.selfCheck u r).mem = s.mem := by
  unfold State.selfCheck
  split <;> simp

@[simp] theorem execSelfCheckOutcome_canonical (a b : Option Bool) (s : State) (h : Good s) : (execSelfCheckOutcome a b s).canonical := by
  unfold execSelfCheckOutcome
  split <;> simp [h.wf]

@[simp] theorem execResyncStart_canonical (unit : Nat) (s : State) (h : Good s) : (execResyncStart unit s).canonical := by
  simp [execResyncStart, h.wf]

@[simp] theorem execResyncDone_canonical (unit : Nat) (s : State) (h : Good s) : (execResyncDone unit s).canonical := by
  unfold execResyncDone
  split <;> simp [h.wf]

@[simp] theorem State.runImage_mem (s : State) (u : Nat) (b : Bool) (i : FwImage) : (s.runImage u b i).mem = s.mem := by
  simp [State.runImage]

@[simp] theorem execUnitRomStart_canonical (unit : Nat) (newerOk olderOk namedOk otherOk selfTest : Bool) (s : State) (h : Good s) :
    (execUnitRomStart unit newerOk olderOk namedOk otherOk selfTest s).canonical := by
  unfold execUnitRomStart
  dsimp only
  (repeat' split) <;> simp [h.wf]

@[simp] theorem State.crash_mem (s : State) (u p cause pc : Nat) : (s.crash u p cause pc).mem = s.mem := by
  simp [State.crash]

@[simp] theorem execProcCrash_canonical (unit proc cause pc : Nat) (s : State) (h : Good s) : (execProcCrash unit proc cause pc s).canonical := by
  simp [execProcCrash, h.wf]

@[simp] theorem execProcWatchdogExpiry_canonical (unit proc pc : Nat) (s : State) (h : Good s) :
    (execProcWatchdogExpiry unit proc pc s).canonical := by
  simp [execProcWatchdogExpiry, h.wf]

@[simp] theorem execProcRestartDone_canonical (unit proc : Nat) (contextOk : Bool) (s : State) (h : Good s) :
    (execProcRestartDone unit proc contextOk s).canonical := by
  simp [execProcRestartDone, h.wf]

@[simp] theorem execUpdateHandoverStart_canonical (s : State) (h : Good s) : (execUpdateHandoverStart s).canonical := by
  unfold execUpdateHandoverStart
  split <;> simp [h.wf]

@[simp] theorem execUpdateCommit_canonical (s : State) (h : Good s) : (execUpdateCommit s).canonical := by
  unfold execUpdateCommit
  dsimp only
  split <;> simp [h.wf]

@[simp] theorem execHandoverTimeout_canonical (s : State) (h : Good s) : (execHandoverTimeout s).canonical := by
  unfold execHandoverTimeout
  split <;> simp [h.wf]

@[simp] theorem State.trapReport_wf (s : State) (stack wave code : Nat) (counts : Bool) (h : Good s) :
    (s.trapReport stack wave code counts).mem.wf := by
  unfold State.trapReport
  split <;> simp [h.wf]

@[simp] theorem State.actOnReport_wf (s : State) (site : Nat) (msg : BitVec 512) (h : Good s) : (s.actOnReport site msg).mem.wf := by
  unfold State.actOnReport
  split <;> simp [h.wf]

@[simp] theorem execCuMailboxService_canonical (box : Nat) (logs : List FwMsg) (s : State) (h : Good s) :
    (execCuMailboxService box logs s).canonical := by
  unfold execCuMailboxService
  split <;> simp [h.wf]

/-! ### The vector unit -/

@[simp] theorem vectorQueue_mem (site tl : Nat) (w : StepWord) (ea : List Nat) (index : Nat) (s : State) :
    (vectorQueue site tl w ea index s).mem = s.mem := by
  simp [vectorQueue]

@[simp] theorem vecIssue_wf (op site tl : Nat) (w : StepWord) (bad : Option (Nat × Nat)) (s : State) (h : Good s) :
    (vecIssue op site tl w bad s).mem.wf :=
  State.issue_wf h (fun _ hs => by simp [Good.wf hs])

@[simp] theorem execVectorArithmetic_canonical (site tile : Nat) (w : StepWord) (s : State) (h : Good s) :
    (execVectorArithmetic site tile w s).canonical := by
  simp [execVectorArithmetic, h.wf]

@[simp] theorem execVectorFunction_canonical (site tile : Nat) (w : StepWord) (s : State) (h : Good s) :
    (execVectorFunction site tile w s).canonical := by
  simp [execVectorFunction, h.wf]

@[simp] theorem execVectorReduce_canonical (site tile : Nat) (w : StepWord) (s : State) (h : Good s) :
    (execVectorReduce site tile w s).canonical := by
  simp [execVectorReduce, h.wf]

@[simp] theorem execSoftmaxHelper_canonical (site tile : Nat) (w : StepWord) (s : State) (h : Good s) :
    (execSoftmaxHelper site tile w s).canonical := by
  simp [execSoftmaxHelper, h.wf]

@[simp] theorem execRotary_canonical (site tile : Nat) (w : StepWord) (s : State) (h : Good s) : (execRotary site tile w s).canonical := by
  simp [execRotary, h.wf]

@[simp] theorem execConvert_canonical (site tile : Nat) (w : StepWord) (s : State) (h : Good s) : (execConvert site tile w s).canonical := by
  simp [execConvert, h.wf]

@[simp] theorem execVectorStepDone_canonical (site tile conflicts : Nat) (ecc : Ecc) (s : State) (h : Good s) :
    (execVectorStepDone site tile conflicts ecc s).canonical := by
  unfold execVectorStepDone
  dsimp only
  split
  · exact h
  · rw [Out.canonical_next]
    split
    · exact h
    · rw [State.settle_mem]
      exact State.putStore_wf _ _ _ _ _ (by simp [h.wf])

end Sys2Proof.Machine
end

section
/-!
Every command keeps the canonical form, and so does every step.
-/

namespace Sys2Proof.Machine

/-- Each command's own lemma, by its constructor. -/
theorem exec_canonical (i : Instr) (s : State) (h : Good s) : Out.canonical (exec i s) := by
  cases i <;> simp [exec, h.wf]

theorem step_canonical (s : State) (h : Good s) : Out.canonical (step s) := by
  unfold step
  split
  · exact h
  · exact exec_canonical _ _ h

/-- Settles O2: a step is the execution of the command at the front of the queue, and each command keeps the form. -/
theorem stepKeepsMemoryCanonical : Obligations.StepKeepsMemoryCanonical := by
  unfold Obligations.StepKeepsMemoryCanonical
  intro s t h hstep
  have hcanonical := step_canonical s h
  rw [hstep] at hcanonical
  exact hcanonical

end Sys2Proof.Machine
end

section
/-!
The rules of stacked memory (chapter 5): what the accessors of columns, layers and fields leave of the state, what ECC's findings leave of a
column and of its counters (R102), the shown settings (R97, R104), and the parts that a frame keeps.
-/

namespace Sys2Proof.Machine

/-! ### Frames of the accessors -/

theorem State.setCol_unchanged (s : State) (a b : Nat) (v : VaultCol) : unchangedBut [.cols] s (s.setCol a b v) := by
  rw [unchangedBut_iff]; simp

theorem State.setLayer_unchanged (s : State) (a b : Nat) (v : Layer) : unchangedBut [.layers] s (s.setLayer a b v) := by
  rw [unchangedBut_iff]; simp

theorem State.setField_unchanged (s : State) (a : Nat) (v : Field) : unchangedBut [.fields] s (s.setField a v) := by
  rw [unchangedBut_iff]; simp

theorem State.bump_unchanged (s : State) (o : Obj) (i n : Nat) : unchangedBut [.objs] s (s.bump o i n) := s.setObj_unchanged _ _ _

theorem State.setBit_unchanged (s : State) (o : Obj) (i n : Nat) (b : Bool) : unchangedBut [.objs] s (s.setBit o i n b) :=
  s.setObj_unchanged _ _ _

theorem unchangedBut.col {l : List Part} {s t : State} (h : unchangedBut l s t) (hl : Part.cols ∉ l) (a b : Nat) : t.col a b = s.col a b := by
  have e : t.cols = s.cols := h .cols hl
  simp only [State.col, e]

theorem unchangedBut.layer {l : List Part} {s t : State} (h : unchangedBut l s t) (hl : Part.layers ∉ l) (a b : Nat) :
    t.layer a b = s.layer a b := by
  have e : t.layers = s.layers := h .layers hl
  simp only [State.layer, e]

theorem unchangedBut.field {l : List Part} {s t : State} (h : unchangedBut l s t) (hl : Part.fields ∉ l) (a : Nat) : t.field a = s.field a := by
  have e : t.fields = s.fields := h .fields hl
  simp only [State.field, e]

/-- A frame over the parts is a frame over the ledger objects where it keeps them. -/
theorem unchangedBut.objsBut {l : List Part} {s t : State} (h : unchangedBut l s t) (hl : Part.objs ∉ l) (os : List Obj) : objsBut os s t :=
  fun o i _ => h.obj hl o i

theorem State.setObj_objs (s : State) (o : Obj) (i v : Nat) : objsBut [o] s (s.setObj o i v) :=
  fun _ _ h => State.obj_setObj_ne _ _ (.inl (by simpa using h))

theorem State.bump_objs (s : State) (o : Obj) (i n : Nat) : objsBut [o] s (s.bump o i n) := s.setObj_objs _ _ _

theorem objsBut.foldl {α : Type} {l : List Obj} {f : State → α → State} (h : ∀ s x, objsBut l s (f s x)) (xs : List α) (s : State) :
    objsBut l s (xs.foldl f s) := by
  induction xs generalizing s with
  | nil => exact fun _ _ _ => rfl
  | cons x r ih => exact (h s x).trans (ih _)

/-! ### What ECC finds (R102) -/

/-- Units found uncorrectable join the queue of poison patterns, and nothing else of the column changes. -/
theorem State.dramUe_col (s : State) (site tl v : Nat) :
    (s.dramUe site tl v).col site tl = { s.col site tl with poisonQ := (s.col site tl).poisonQ ++ [v] } := State.col_setCol _ _ _ _

theorem State.foldl_dramUe_col (s : State) (site tl v : Nat) (l : List Nat) :
    ∃ q, (l.foldl (fun s i => s.dramUe site tl (v + i)) s).col site tl = { s.col site tl with poisonQ := q } := by
  induction l generalizing s with
  | nil => exact ⟨_, rfl⟩
  | cons i r ih =>
    obtain ⟨q, hq⟩ := ih (s.dramUe site tl (v + i))
    exact ⟨q, hq.trans (by rw [State.dramUe_col])⟩

/-- A read of units changes nothing of its column but the queue of poison patterns. -/
theorem State.vaultRead_col (s : State) (site tl v n : Nat) (ue : List Nat) (ce : Nat) :
    ∃ q, (s.vaultRead site tl v n ue ce).col site tl = { s.col site tl with poisonQ := q } := by
  obtain ⟨q, hq⟩ := s.foldl_dramUe_col site tl v (ue.filter (fun i => decide (i < n)))
  exact ⟨q, ((State.symbols_unchanged _ _ _ _).col (by simp) _ _).trans hq⟩

/-- A write of units changes nothing of its column but the queue of poison patterns. -/
theorem State.vaultWrite_col (s : State) (site tl v : Nat) (l : List Cell32) :
    ∃ q, (s.vaultWrite site tl v l).col site tl = { s.col site tl with poisonQ := q } :=
  ⟨_, State.col_setCol _ _ _ _⟩

theorem State.dramUe_objs (s : State) (site tl v : Nat) : objsBut [.M0503] s (s.dramUe site tl v) :=
  s.bump_objs .M0503 site 1

theorem State.symbols_objs (s : State) (site v ce : Nat) : objsBut [.M0502] s (s.symbols site v ce) := by
  unfold State.symbols
  split
  · exact fun _ _ _ => rfl
  · exact s.bump_objs .M0502 site ce

theorem State.vaultRead_objs (s : State) (site tl v n : Nat) (ue : List Nat) (ce : Nat) :
    objsBut [.M0502, .M0503] s (s.vaultRead site tl v n ue ce) := by
  have hfound := objsBut.foldl (fun s i => s.dramUe_objs site tl (v + i)) (ue.filter (fun i => decide (i < n))) s
  exact (hfound.mono (by simp)).trans ((State.symbols_objs _ _ _ _).mono (by simp))

/-- Corrected symbols are counted in M.0502 and in the window of their layer. -/
theorem State.symbols_counted (s : State) (site v ce : Nat) :
    (s.symbols site v ce).obj .M0502 site = s.obj .M0502 site + ce ∧
      ((s.symbols site v ce).layer site (vaultPlace v).layer).now = (s.layer site (vaultPlace v).layer).now + ce := by
  unfold State.symbols
  split
  · next h => rw [h]; exact ⟨rfl, rfl⟩
  · exact ⟨s.obj_bump .M0502 site ce, congrArg Layer.now (State.layer_setLayer _ _ _ _)⟩

/-- A read that finds nothing uncorrectable counts the corrected symbols and does nothing else. -/
theorem State.vaultRead_nil (s : State) (site tl v n ce : Nat) : s.vaultRead site tl v n [] ce = s.symbols site v ce := rfl

theorem State.vaultUnits_length (s : State) (site tl v n : Nat) (ue : List Nat) : (s.vaultUnits site tl v n ue).length = n := by
  have hunits (a k : Nat) : (s.unitsAt a k).length = k := by
    induction k generalizing a with
    | zero => rfl
    | succ k ih => rw [State.unitsAt, List.length_cons, ih]
  rw [State.vaultUnits, List.length_map, List.length_zipIdx, hunits]

/-! ### Shown settings (R97, R104) -/

theorem State.showTrim_unchanged (s : State) (site l : Nat) : unchangedBut [.objs] s (s.showTrim site l) := s.setObj_unchanged _ _ _

theorem State.showTrim_objs (s : State) (site l : Nat) : objsBut [.M0508] s (s.showTrim site l) := s.setObj_objs _ _ _

theorem State.setScales_unchanged (s : State) (site : Nat) : unchangedBut [.objs] s (s.setScales site) := by
  unfold State.setScales
  split
  · exact s.setObj_unchanged _ _ _
  · exact unchangedBut.foldl (fun s _ => s.setObj_unchanged _ _ _) _ s

theorem State.setScales_objs (s : State) (site : Nat) : objsBut [.M0504] s (s.setScales site) := by
  unfold State.setScales
  split
  · exact s.setObj_objs _ _ _
  · exact objsBut.foldl (fun s _ => s.setObj_objs _ _ _) _ s

end Sys2Proof.Machine
end

section
/-!
The upkeep of vault columns: poison patterns (R102), the scrub (R103), refresh (R105, R106) and the corrected-symbol witness (R114).
-/

namespace Sys2Proof.Machine

/-! ### Accrual and refresh (R105, R106) -/

/-- Accrual changes nothing of a column but what it owes and since when. -/
theorem State.accrue_keeps (s : State) (site tl : Nat) :
    ∃ o, s.accrue site tl = { s.col site tl with owed := o, owedAt := s.time } := by
  unfold State.accrue
  dsimp only
  split <;> exact ⟨_, rfl⟩

theorem State.accrueSite_unchanged (s : State) (site : Nat) : unchangedBut [.cols] s (s.accrueSite site) := by
  refine unchangedBut.foldl (fun s k => ?_) _ s
  split
  · exact s.setCol_unchanged _ _ _
  · exact .refl _ _

theorem Tile.firstWaits_of_async_nil {t : Tile} (h : t.async = []) (now : Nat) (bank : Nat → Bool) : t.firstWaits now bank = false := by
  rw [Tile.firstWaits, h]
  rfl

/-! ### A scrub read within a pass (R103) -/

/-- The column after the scrub has read one more transfer of a pass; the first one begins the pass. -/
def VaultCol.scrubbed (c : VaultCol) (now interval : Nat) : VaultCol :=
  let c1 := if c.scrubAt = 0 then { c with scrubStart := now, scrubNext := now + interval * 3600 * 10 ^ 9 } else c
  { c1 with scrubAt := c.scrubAt + 1 }

theorem VaultCol.scrubbed_poisonQ (c : VaultCol) (now interval : Nat) : (c.scrubbed now interval).poisonQ = c.poisonQ := by
  simp only [VaultCol.scrubbed]
  split <;> rfl

/-- A scrub read that finds nothing uncorrectable and does not end its pass. -/
theorem exec_scrubRead_of_corrected {s : State} {site tile : Nat} (ce : Nat) (written : Bool) (hp : (s.col site tile).powered = true)
    (hc : (s.col site tile).clearing = false) (hiv : s.obj .M0500 0 ≠ 0) (hidle : s.channelIdle site tile = true)
    (hdue : (s.col site tile).scrubAt ≠ 0 ∨ (s.col site tile).scrubNext ≤ s.time) (hmore : (s.col site tile).scrubAt + 1 < scrubTransfers) :
    exec (.scrubRead site tile [] ce written) s =
      .next ((s.symbols site (8 * (s.col site tile).scrubAt) ce).setCol site tile
        ((s.col site tile).scrubbed s.time (s.obj .M0500 0))) := by
  have hcol : (s.symbols site (8 * (s.col site tile).scrubAt) ce).col site tile = s.col site tile :=
    (s.symbols_unchanged _ _ _).col (by simp) _ _
  have hgo : ¬ (!(s.col site tile).powered || (s.col site tile).clearing || s.obj .M0500 0 == 0 || !s.channelIdle site tile ||
      ((s.col site tile).scrubAt == 0 && decide (s.time < (s.col site tile).scrubNext))) = true := by
    simp only [hp, hc, hidle, Bool.or_eq_true, Bool.and_eq_true, beq_iff_eq, decide_eq_true_eq, hiv, Bool.not_true, Bool.false_eq_true, false_or]
    omega
  change execScrubRead site tile [] ce written s = _
  unfold execScrubRead
  dsimp only
  rw [if_neg hgo, if_pos hmore, State.vaultRead_nil, hcol]
  cases written <;> rfl

/-! ### The witness (R114) -/

theorem State.setSensor_unchanged (s : State) (r k : Nat) (v : Sensor) : unchangedBut [.heat] s (s.setSensor r k v) := by
  rw [unchangedBut_iff]; simp [State.setSensor]

theorem State.breakSensor_unchanged (s : State) (r k cause : Nat) : unchangedBut [.objs, .log, .heat] s (s.breakSensor r k cause) := by
  have hcounted (u : State) : unchangedBut [.objs, .log, .heat] u (if r < 128 then u.bump .T0126 r 1 else u) := by
    split
    · exact (u.bump_unchanged _ _ _).mono (by simp)
    · exact .refl _ _
  unfold State.breakSensor
  split
  · exact .refl _ _
  · exact (((s.setSensor_unchanged _ _ _).mono (by simp)).trans (hcounted _)).trans ((State.raise_unchanged _ _ _ _).mono (by simp))

theorem State.breakSensor_objs (s : State) (r k cause : Nat) : objsBut [.T0126] s (s.breakSensor r k cause) := by
  have hcounted (u : State) : objsBut [.T0126] u (if r < 128 then u.bump .T0126 r 1 else u) := by
    split
    · exact u.bump_objs _ _ _
    · exact fun _ _ _ => rfl
  unfold State.breakSensor
  split
  · exact fun _ _ _ => rfl
  · exact (((s.setSensor_unchanged _ _ _).objsBut (by simp) _).trans (hcounted _)).trans ((State.raise_unchanged _ _ _ _).objsBut (by simp) _)

theorem State.layerImplausible_unchanged (s : State) (site l sensor : Nat) (readings : List Nat) :
    unchangedBut [.objs, .log, .heat] s (s.layerImplausible site l sensor readings) := by
  unfold State.layerImplausible
  split
  · exact .refl _ _
  · exact (((s.setBit_unchanged _ _ _ _).mono (by simp)).trans ((State.raise_unchanged _ _ _ _).mono (by simp))).trans
      (unchangedBut.foldl (fun s _ => s.breakSensor_unchanged _ _ _) _ _)

theorem State.layerImplausible_objs (s : State) (site l sensor : Nat) (readings : List Nat) :
    objsBut [.M050D, .T0126] s (s.layerImplausible site l sensor readings) := by
  unfold State.layerImplausible
  split
  · exact fun _ _ _ => rfl
  · exact (((s.setObj_objs _ _ _).mono (by simp)).trans ((State.raise_unchanged _ _ _ _).objsBut (by simp) _)).trans
      ((objsBut.foldl (fun s _ => s.breakSensor_objs _ _ _) _ _).mono (by simp))

/-- What the close of a layer's window can do: put a layer's new witness in place, and then change ledger objects, the log and sensors, but
not the limit M.050E. -/
theorem State.ceWindow_cases (s : State) (site l : Nat) : ∃ y : Layer,
    unchangedBut [.objs, .log, .heat] (s.setLayer site l y) (s.ceWindow site l) ∧
      objsBut [.M050D, .M050F, .T0126] (s.setLayer site l y) (s.ceWindow site l) := by
  have hbit (u : State) (b : Bool) : unchangedBut [.objs, .log, .heat] u (u.setBit .M050F site l b) ∧
      objsBut [.M050D, .M050F, .T0126] u (u.setBit .M050F site l b) :=
    ⟨(u.setBit_unchanged _ _ _ _).mono (by simp), (u.setObj_objs _ _ _).mono (by simp)⟩
  unfold State.ceWindow
  dsimp only
  generalize decide (s.obj .M050E 0 * _ < _) = high
  generalize (if high = true then 0 else (s.layer site l).clearRun + 1) = clearRun
  split
  · split
    · exact ⟨_, hbit _ _⟩
    · split
      · exact ⟨_, State.layerImplausible_unchanged _ _ _ _ _, (State.layerImplausible_objs _ _ _ _ _).mono (by simp)⟩
      · exact ⟨_, .refl _ _, fun _ _ _ => rfl⟩
  · split
    · obtain ⟨hparts, hobjs⟩ := hbit (s.setLayer site l { s.layer site l with now := 0, since := s.time, set := true, setRun := 0, clearRun := 0 }) true
      exact ⟨_, hparts.trans ((State.raise_unchanged _ _ _ _).mono (by simp)), hobjs.trans ((State.raise_unchanged _ _ _ _).objsBut (by simp) _)⟩
    · exact ⟨_, .refl _ _, fun _ _ _ => rfl⟩

theorem State.ceWindow_unchanged (s : State) (site l : Nat) : unchangedBut [.layers, .objs, .log, .heat] s (s.ceWindow site l) := by
  obtain ⟨y, hparts, -⟩ := s.ceWindow_cases site l
  exact ((s.setLayer_unchanged _ _ _).mono (by simp)).trans (hparts.mono (by simp))

/-- The close of a layer's window reads and changes its own layer alone, and leaves the limit. -/
theorem State.ceWindow_other (s : State) (site : Nat) {k l : Nat} (h : l ≠ k) :
    (s.ceWindow site k).layer site l = s.layer site l ∧ (s.ceWindow site k).obj .M050E 0 = s.obj .M050E 0 := by
  obtain ⟨y, hparts, hobjs⟩ := s.ceWindow_cases site k
  refine ⟨(hparts.layer (by simp) _ _).trans (s.layer_setLayer_ne y ?_), hobjs .M050E 0 (by simp)⟩
  simpa using h

theorem State.foldl_ceWindow_other (s : State) (site : Nat) {l : Nat} {ks : List Nat} (h : l ∉ ks) :
    (ks.foldl (fun s k => s.ceWindow site k) s).layer site l = s.layer site l ∧
      (ks.foldl (fun s k => s.ceWindow site k) s).obj .M050E 0 = s.obj .M050E 0 := by
  induction ks generalizing s with
  | nil => exact ⟨rfl, rfl⟩
  | cons k r ih =>
    obtain ⟨hk, hr⟩ := List.ne_and_not_mem_of_not_mem_cons h
    obtain ⟨hlayer, hlimit⟩ := s.ceWindow_other site hk
    obtain ⟨hlayer', hlimit'⟩ := ih (s.ceWindow site k) hr
    exact ⟨hlayer'.trans hlayer, hlimit'.trans hlimit⟩

/-- A layer whose witness is clear and whose window held at least 64 corrected symbols, more than the limit times the mean of its clear
windows. -/
def State.witnessDue (s : State) (site l : Nat) : Prop :=
  (s.layer site l).set = false ∧ 64 ≤ (s.layer site l).now ∧
    s.obj .M050E 0 * (s.layer site l).windows.foldl (· + ·) 0 < (s.layer site l).now * max 1 (s.layer site l).windows.length

theorem State.ceWindow_layer_of_witnessDue {s : State} {site l : Nat} (h : s.witnessDue site l) :
    (s.ceWindow site l).layer site l =
      { s.layer site l with now := 0, since := s.time, set := true, setRun := 0, clearRun := 0 } := by
  obtain ⟨hset, hmany, hhigh⟩ := h
  simp only [State.ceWindow, hset, hhigh, hmany, decide_true, Bool.false_eq_true, if_false, and_self, if_true]
  exact ((State.raise_unchanged _ _ _ _).layer (by simp) _ _).trans (((State.setBit_unchanged _ _ _ _ _).layer (by simp) _ _).trans
    (State.layer_setLayer _ _ _ _))

/-- Among the layers whose windows close, one whose witness is due has it set at the end. -/
theorem State.foldl_ceWindow_of_witnessDue {s : State} {site l : Nat} {ks : List Nat} (hl : l ∈ ks) (hks : ks.Nodup) (h : s.witnessDue site l) :
    let y := (ks.foldl (fun s k => s.ceWindow site k) s).layer site l
    y.set = true ∧ y.setRun = 0 ∧ y.now = 0 := by
  induction ks generalizing s with
  | nil => cases hl
  | cons k r ih =>
    obtain ⟨hk, hr⟩ := List.nodup_cons.mp hks
    dsimp only [List.foldl_cons]
    by_cases he : l = k
    · subst he
      rw [((s.ceWindow site l).foldl_ceWindow_other site hk).1, State.ceWindow_layer_of_witnessDue h]
      exact ⟨rfl, rfl, rfl⟩
    · obtain ⟨hlayer, hlimit⟩ := s.ceWindow_other site he
      exact ih (List.mem_of_ne_of_mem he hl) hr (by rw [State.witnessDue, hlayer, hlimit]; exact h)

/-! ### The obligation -/

/-- Settles O20: each upkeep command in the case where it acts. -/
theorem vaultUpkeepCommandsComplete : Obligations.VaultUpkeepCommandsComplete := by
  unfold Obligations.VaultUpkeepCommandsComplete
  refine ⟨fun s site tile a q hq => ?poison, fun s site tile ce written hp hc hiv hidle hdue hmore => ?scrub,
    fun s site tile hp hV hq hlim => ?burst, fun s site tile layer bank hp howed hq hw => ?trickle,
    fun s site l hp hdue hl hset hmany hhigh => ?witness⟩
  case poison =>
    have he : exec (.poisonPatternWrite site tile) s =
        .next ((s.setCol site tile { s.col site tile with poisonQ := q }).setMark (vaultAddr site tile a) true) := by
      change execPoisonPatternWrite site tile s = _
      simp only [execPoisonPatternWrite, hq]
    refine ⟨_, he, mapGet_mapSet_same _ _ _ _, fun b hb => mapGet_mapSet_ne _ _ _ hb, ?_, ?_⟩
    · rw [(State.setMark_unchanged _ _ _).col (by simp), State.col_setCol]
    · exact ((s.setCol_unchanged _ _ _).mono (by simp)).trans ((State.setMark_unchanged _ _ _).mono (by simp))
  case scrub =>
    intro l
    let v := 8 * (s.col site tile).scrubAt
    obtain ⟨hcount, hnow⟩ := s.symbols_counted site v ce
    have hset := (s.symbols site v ce).setCol_unchanged site tile
      ((s.col site tile).scrubbed s.time (s.obj .M0500 0))
    refine ⟨_, exec_scrubRead_of_corrected ce written hp hc hiv hidle hdue hmore, ?_, ?_, (hset.obj (by simp) _ _).trans hcount,
      (congrArg Layer.now (hset.layer (by simp) _ _)).trans hnow, ?_, ?_⟩
    · rw [State.col_setCol]
      rfl
    · rw [State.col_setCol, VaultCol.scrubbed_poisonQ]
    · exact ((s.symbols_unchanged site v ce).mono (by simp)).trans (hset.mono (by simp))
    · exact (s.symbols_objs site v ce).trans (hset.objsBut (by simp) _)
  case burst =>
    obtain ⟨o, ho⟩ := s.accrue_keeps site tile
    have hgo : ((s.accrue site tile).powered && s.inVWindow site tile && (s.accrue site tile).poisonQ.isEmpty && !(s.accrue site tile).atLimit) = true := by
      rw [hlim, ho]
      simp only [hp, hV, hq, List.isEmpty_nil, Bool.not_false, Bool.and_self]
    refine ⟨_, congrArg Host.Outcome.next (if_pos hgo), ?_, s.setCol_unchanged _ _ _, ?_, fun hidle => ?_⟩
    · rw [State.col_setCol, ho]
    · rw [State.col_setCol]
    · rw [State.col_setCol]
      exact List.filter_eq_nil_iff.mpr fun e _ => by simp only [Tile.firstWaits_of_async_nil hidle, Bool.false_eq_true, not_false_iff]
  case trickle =>
    obtain ⟨o, ho⟩ := s.accrue_keeps site tile
    have hgo : ((s.accrue site tile).powered && decide (16 ≤ mapGet 0 (s.accrue site tile).owed (16 * layer + bank)) &&
        (s.accrue site tile).poisonQ.isEmpty && !(s.tile site tile).firstWaits s.time (fun k => k == 16 * layer + bank)) = true := by
      rw [hw, decide_eq_true howed, ho]
      simp only [hp, hq, List.isEmpty_nil, Bool.not_false, Bool.and_self]
    have hset := s.setCol_unchanged site tile { s.accrue site tile with
      owed := mapSet (s.accrue site tile).owed (16 * layer + bank) (mapGet 0 (s.accrue site tile).owed (16 * layer + bank) - 1)
      busy := mapSet (s.accrue site tile).busy (16 * layer + bank) (s.time + 40) }
    refine ⟨_, congrArg Host.Outcome.next (if_pos hgo), ?_, ?_, (hset.mono (by simp)).trans ((State.bump_unchanged _ _ _ _).mono (by simp)),
      (hset.objsBut (by simp) _).trans (State.bump_objs _ _ _ _)⟩
    · rw [(State.bump_unchanged _ _ _ _).col (by simp), State.col_setCol, mapGet_mapSet_same]
    · rw [State.obj_bump, hset.obj (by simp)]
  case witness =>
    have hgo : ¬ (!(s.site site).powered || decide (s.time < (s.layer site 0).since + 10000000)) = true := by
      simp only [hp, Bool.not_true, Bool.false_or, decide_eq_true_eq]
      omega
    have haccrue := s.accrueSite_unchanged site
    have hscales := ((List.range 4).foldl (fun s l => s.ceWindow site l) (s.accrueSite site)).setScales_unchanged site
    have hw : (s.accrueSite site).witnessDue site l := by
      rw [State.witnessDue, haccrue.layer (by simp), haccrue.obj (by simp)]
      exact ⟨hset, hmany, hhigh⟩
    refine ⟨_, congrArg Host.Outcome.next (if_neg hgo), ?_⟩
    rw [hscales.layer (by simp)]
    obtain ⟨hset', hrun, hnow⟩ := State.foldl_ceWindow_of_witnessDue (List.mem_range.mpr hl) List.nodup_range hw
    refine ⟨hset', hrun, hnow, (haccrue.mono (by simp)).trans (unchangedBut.trans ?_ (hscales.mono (by simp)))⟩
    exact (unchangedBut.foldl (fun s l => s.ceWindow_unchanged site l) _ _).mono (by simp)

end Sys2Proof.Machine
end

section
/-!
Vault columns at work: power-up and clear (R92, R97), retrim (R98) and remote access (R99, R100, R107, R139).
-/

namespace Sys2Proof.Machine

/-! ### Power-up and training (R92, R97) -/

theorem mapGet_map_of_mem {κ α : Type} [DecidableEq κ] (d : α) (f : κ → α) {l : List κ} {k : κ} (h : k ∈ l) :
    mapGet d (l.map (fun k => (k, f k))) k = f k := by
  induction l with
  | nil => cases h
  | cons x r ih =>
    rw [List.map_cons, mapGet]
    split
    · next hx => rw [hx]
    · next hx => exact ih (List.mem_of_ne_of_mem (Ne.symm hx) h)

/-- A column whose receivers are trained to these runs and whose clear begins now. -/
def VaultCol.trained (now : Nat) (runs : List (Nat × Nat)) : VaultCol :=
  { VaultCol.reset with
    powered := true, clearing := true, clearAt := now + 4200000, owedAt := now, scrubStart := now, scrubNext := now
    taps := (List.range 8).map (fun k => (k, ((runs.getD k (0, 0)).2, (runs.getD k (0, 0)).1)))
    retrimAt := (List.range 4).map (fun l => (l, now)) }

/-- What a powered column shows of its site: the supplies of Table 12.2, the narrowest run of each layer and the refresh multipliers. -/
def State.showPowered (s : State) (site : Nat) : State :=
  ((List.range 4).foldl (fun s l => s.showTrim site l)
    (s.setObj .P0C0D site (packedSet (packedSet (s.obj .P0C0D site) 4 3 0x3F866666) 4 4 0x3FE66666))).setScales site

theorem State.showPowered_unchanged (s : State) (site : Nat) : unchangedBut [.objs] s (s.showPowered site) :=
  ((s.setObj_unchanged _ _ _).trans (unchangedBut.foldl (fun s _ => s.showTrim_unchanged _ _) _ _)).trans (State.setScales_unchanged _ _)

theorem State.showPowered_objs (s : State) (site : Nat) : objsBut [.M0504, .M0508, .P0C0D] s (s.showPowered site) :=
  (((s.setObj_objs _ _ _).mono (by simp)).trans ((objsBut.foldl (fun s _ => s.showTrim_objs _ _) _ _).mono (by simp))).trans
    ((State.setScales_objs _ _).mono (by simp))

/-- One of the 8 receivers has a passing run below 16 taps. -/
def someNarrow (runs : List (Nat × Nat)) : Bool := (List.range 8).any (fun k => decide ((runs.getD k (0, 0)).1 < 16))

theorem someNarrow_iff (runs : List (Nat × Nat)) : someNarrow runs = true ↔ ∃ k, k < 8 ∧ (runs.getD k (0, 0)).1 < 16 := by
  simp only [someNarrow, List.any_eq_true, List.mem_range, decide_eq_true_eq]

theorem exec_vaultColumnPowerUp {s : State} {site tile : Nat} (runs : List (Nat × Nat)) (hp : (s.col site tile).powered = false)
    (hs : (s.site site).powered = true) : exec (.vaultColumnPowerUp site tile runs) s = .next (if someNarrow runs then
      (s.setCol site tile { s.col site tile with usable := false }).setSite site { s.site site with mapOut := s.physOf site tile :: (s.site site).mapOut }
    else (s.setCol site tile (VaultCol.trained s.time runs)).showPowered site) := by
  have hgo : ¬ ((s.col site tile).powered || !(s.site site).powered) = true := by simp [hp, hs]
  change execVaultColumnPowerUp site tile runs s = _
  unfold execVaultColumnPowerUp
  dsimp only
  rw [if_neg hgo]
  rfl

/-! ### Retrim (R98) -/

/-- One receiver of a layer seen with a passing run and its centre: its tap moves at most one toward the centre. -/
def moveTap (m : AMap Nat (Nat × Nat)) (layer i : Nat) (seen : Nat × Nat) : AMap Nat (Nat × Nat) :=
  let tap := (mapGet (seen.2, seen.1) m (2 * layer + i)).1
  mapSet m (2 * layer + i) (if tap = seen.2 then tap else toward tap seen.2, seen.1)

theorem mapGet_moveTap_same (m : AMap Nat (Nat × Nat)) (layer i run centre : Nat) :
    mapGet (centre, run) (moveTap m layer i (run, centre)) (2 * layer + i) =
      (let tap := (mapGet (centre, run) m (2 * layer + i)).1
       if tap < centre then tap + 1 else if centre < tap then tap - 1 else tap, run) := by
  rw [moveTap, mapGet_mapSet_same, toward]
  refine Prod.ext ?_ rfl
  dsimp only
  split_ifs <;> omega

theorem mapGet_moveTap_ne (d : Nat × Nat) (m : AMap Nat (Nat × Nat)) (layer i : Nat) (seen : Nat × Nat) {k : Nat} (h : k ≠ 2 * layer + i) :
    mapGet d (moveTap m layer i seen) k = mapGet d m k := mapGet_mapSet_ne _ _ _ h

/-- The taps of a column after a retrim of a layer with what is seen of its two receivers. -/
def retrimTaps (layer : Nat) (edges : List (Nat × Nat)) (m : AMap Nat (Nat × Nat)) : AMap Nat (Nat × Nat) :=
  (edges.take 2).zipIdx.foldl (fun m e => moveTap m layer e.2 e.1) m

theorem mapGet_retrimTaps_seen {layer : Nat} {edges : List (Nat × Nat)} (m : AMap Nat (Nat × Nat)) {i run centre : Nat} (hi : i < 2)
    (he : edges[i]? = some (run, centre)) : mapGet (centre, run) (retrimTaps layer edges m) (2 * layer + i) =
      (let tap := (mapGet (centre, run) m (2 * layer + i)).1
       if tap < centre then tap + 1 else if centre < tap then tap - 1 else tap, run) := by
  match edges, i, hi, he with
  | [_], 0, _, rfl => exact mapGet_moveTap_same _ _ _ _ _
  | _ :: f :: _, 0, _, rfl => exact (mapGet_moveTap_ne _ _ layer 1 f (by omega)).trans (mapGet_moveTap_same _ _ _ _ _)
  | e :: _ :: _, 1, _, rfl =>
    refine (mapGet_moveTap_same _ _ _ _ _).trans ?_
    rw [mapGet_moveTap_ne _ m layer 0 e (by omega)]

theorem mapGet_retrimTaps_other {layer k : Nat} (edges : List (Nat × Nat)) (d : Nat × Nat) (m : AMap Nat (Nat × Nat)) (hk : k / 2 ≠ layer) :
    mapGet d (retrimTaps layer edges m) k = mapGet d m k := by
  match edges with
  | [] => rfl
  | [e] => exact mapGet_moveTap_ne _ _ layer 0 e (by omega)
  | e :: f :: _ => exact (mapGet_moveTap_ne _ _ layer 1 f (by omega)).trans (mapGet_moveTap_ne _ _ layer 0 e (by omega))

/-- The column after a retrim of a layer. -/
def VaultCol.retrimmed (c : VaultCol) (layer : Nat) (edges : List (Nat × Nat)) (now : Nat) : VaultCol :=
  { c with
    taps := retrimTaps layer edges c.taps, retrimAt := mapSet c.retrimAt layer now, retrimWant := c.retrimWant.filter (fun l => l != layer)
    layerBusy := mapSet c.layerBusy layer (now + 8) }

/-- What a retrim reports of the narrower run it has seen: a run below 12 taps is an event, below 8 the end of the stack's use. -/
def State.judgeTrim (s : State) (site tile layer run : Nat) : State :=
  let s := if run < 12 then s.raise evTrimNarrow site [layer, s.physOf site tile, run] else s
  if run < 8 then
    (s.raise evLayerUnusable site [layer, s.physOf site tile, run]).setSite site { s.site site with usable := false }
  else s

theorem State.judgeTrim_unchanged (s : State) (site tile layer run : Nat) : unchangedBut [.log, .sites] s (s.judgeTrim site tile layer run) := by
  have hraise (u : State) (c : Nat) (d : List Nat) : unchangedBut [.log, .sites] u (u.raise c site d) := (u.raise_unchanged _ _ _).mono (by simp)
  have hwarned : unchangedBut [.log, .sites] s (if run < 12 then s.raise evTrimNarrow site [layer, s.physOf site tile, run] else s) := by
    split
    · exact hraise _ _ _
    · exact .refl _ _
  by_cases h : run < 8
  · rw [State.judgeTrim, if_pos h]
    exact (hwarned.trans (hraise _ _ _)).trans ((State.setSite_unchanged _ _ _).mono (by simp))
  · rw [State.judgeTrim, if_neg h]
    exact hwarned

theorem State.judgeTrim_of_lt (s : State) (site tile layer : Nat) {run : Nat} (h : run < 8) :
    ((s.judgeTrim site tile layer run).site site).usable = false := by
  rw [State.judgeTrim, if_pos h, State.site_setSite]

theorem State.judgeTrim_of_le (s : State) (site tile layer : Nat) {run : Nat} (h : 8 ≤ run) :
    (s.judgeTrim site tile layer run).sites = s.sites := by
  rw [State.judgeTrim, if_neg (Nat.not_lt.mpr h)]
  split
  · exact s.raise_unchanged _ _ _ .sites (by simp)
  · rfl

theorem exec_retrim_of_due {s : State} {site tile layer : Nat} (edges : List (Nat × Nat)) (hp : (s.col site tile).powered = true)
    (hc : (s.col site tile).clearing = false) (hd : s.retrimDue site tile layer = true) (hidle : s.channelIdle site tile = true) (hl : layer < 4) :
    exec (.retrim site tile layer edges) s =
      .next (((s.setCol site tile ((s.col site tile).retrimmed layer edges s.time)).showTrim site layer).judgeTrim site tile layer
        (((edges.take 2).map (fun e => e.1)).foldl min 64)) := by
  have hgo : ¬ (!(s.col site tile).powered || (s.col site tile).clearing || !s.retrimDue site tile layer || !s.channelIdle site tile ||
      decide (4 ≤ layer)) = true := by
    simp only [hp, hc, hd, hidle, Bool.not_true, Bool.or_self, Bool.false_or, decide_eq_true_eq]
    omega
  exact congrArg Host.Outcome.next (if_neg hgo)

/-! ### The remote queue (R100, R139) -/

/-- A request joins the queue of 8, or waits while it is full. -/
def VaultCol.join (c : VaultCol) (r : RemoteReq) : VaultCol :=
  if c.queue.length < 8 then { c with queue := c.queue ++ [r] } else { c with held := c.held ++ [r] }

/-- What a request that leaves its controller for a column leaves of the state. -/
theorem State.remoteJoin_spec (s : State) (site tile : Nat) (f : Field) (r : RemoteReq) :
    let c := s.col site tile
    let t := (s.setField (fieldOf site) f).setCol site tile (c.join r)
    unchangedBut [.cols, .fields] s t ∧ t.field (fieldOf site) = f ∧
      (c.queue.length < 8 → t.col site tile = { c with queue := c.queue ++ [r] }) ∧
      (8 ≤ c.queue.length → t.col site tile = { c with held := c.held ++ [r] }) := by
  intro c t
  have hset := (s.setField (fieldOf site) f).setCol_unchanged site tile (c.join r)
  refine ⟨((s.setField_unchanged _ _).mono (by simp)).trans (hset.mono (by simp)), (hset.field (by simp) _).trans (State.field_setField _ _ _),
    fun h => (State.col_setCol _ _ _ _).trans (if_pos h), fun h => (State.col_setCol _ _ _ _).trans (if_neg (Nat.not_lt.mpr h))⟩

theorem mapFirst_mem_of_find? {α : Type} {f : α → Bool} (g : α → α) {l : List α} {x : α} (h : l.find? f = some x) : g x ∈ mapFirst f g l := by
  induction l with
  | nil => cases h
  | cons y r ih =>
    rw [List.find?_cons] at h
    rw [mapFirst]
    cases hy : f y with
    | true =>
      rw [hy] at h
      rw [if_pos rfl, Option.some.inj h]
      exact List.mem_cons_self
    | false =>
      rw [hy] at h
      rw [if_neg Bool.false_ne_true]
      exact List.mem_cons_of_mem _ (ih h)

/-! ### A transfer of a remote access (R99, R100, R107) -/

/-- The column without the request at its queue's head, in the group that served it. -/
def VaultCol.pop (c : VaultCol) (q : List RemoteReq) (group : Nat) : VaultCol :=
  { c with queue := q ++ c.held.take 1, held := c.held.drop 1, acc := [], group := some group }

/-- The column after a transfer that leaves `all` moved of the `total` units of the request at its queue's head. -/
def VaultCol.served (c : VaultCol) (r : RemoteReq) (q : List RemoteReq) (group total : Nat) (all : List Cell32) : VaultCol :=
  if total ≤ all.length then c.pop q group else { c with queue := r :: q, acc := all, group := some group }

/-- The answer to whoever asked, once every unit of a request has moved. -/
def State.answerServed (s : State) (site tile total : Nat) (r : RemoteReq) (all l : List Cell32) : State :=
  if total ≤ all.length then s.send (.remoteAnswer site tile r.rid (if anyMark all then .poisoned else .ok) l) else s

theorem State.answerServed_unchanged (s : State) (site tile total : Nat) (r : RemoteReq) (all l : List Cell32) :
    unchangedBut [.out] s (s.answerServed site tile total r all l) := by
  unfold State.answerServed
  split
  · exact s.send_unchanged _
  · exact .refl _ _

/-- What a transfer leaves of the queue and the wire, from the state in which its units have moved: what ECC found may have joined the queue of
poison patterns. -/
theorem State.answerServed_spec {s u : State} {site tile total group : Nat} {r : RemoteReq} {q : List RemoteReq} {p : List Nat} (all l : List Cell32)
    (hout : u.out = s.out)
    (hcol : u.col site tile = { (s.col site tile).served r q group total all with poisonQ := p }) :
    let t := (u.bump .M0507 site 1).answerServed site tile total r all l
    (total ≤ all.length → (t.col site tile).queue = q ++ (s.col site tile).held.take 1 ∧
      t.out = s.out ++ [.remoteAnswer site tile r.rid (if anyMark all then .poisoned else .ok) l]) ∧
    (all.length < total → (t.col site tile).queue = r :: q ∧ (t.col site tile).acc = all ∧ t.out = s.out) := by
  intro t
  have htcol : t.col site tile = { (s.col site tile).served r q group total all with poisonQ := p } :=
    ((State.answerServed_unchanged _ _ _ _ _ _ _).col (by simp) _ _).trans (((u.bump_unchanged _ _ _).col (by simp) _ _).trans hcol)
  rw [htcol]
  refine ⟨fun h => ?_, fun h => ?_⟩
  · rw [VaultCol.served, if_pos h]
    exact ⟨rfl, (congrArg State.out (if_pos h)).trans (by rw [State.send, State.bump_out, hout])⟩
  · have hn := Nat.not_le.mpr h
    rw [VaultCol.served, if_neg hn]
    exact ⟨rfl, rfl, (congrArg State.out (if_neg hn)).trans hout⟩

theorem State.remoteDone_of_write {s : State} {site tl : Nat} {r : RemoteReq} (c : Code) (l : List Cell32) (h : r.write = true) :
    s.remoteDone site tl r c l = s.send (.remoteAnswer site tl r.rid c l) := if_pos h

/-- A read that no controller waits for is answered on the wire. -/
theorem State.remoteDone_of_no_reads {s : State} {site tl : Nat} {r : RemoteReq} (c : Code) (l : List Cell32) (h : r.write = false)
    (hf : (s.field (fieldOf site)).reads = []) : s.remoteDone site tl r c l = s.send (.remoteAnswer site tl r.rid c l) := by
  simp only [State.remoteDone, h, hf, List.any_nil, Bool.false_eq_true, if_false]

section
variable {s : State} {site tile : Nat} (ce : Nat) (ue : List Nat) {r : RemoteReq} {q : List RemoteReq} (hq : (s.col site tile).queue = r :: q)
  (hp : (s.col site tile).powered = true) (hc : (s.col site tile).clearing = false)
  (hg : (s.col site tile).group ≠ some (s.time / s.groupCycles))
include hp hc hg

/-- The column has a transfer to give in this group. -/
theorem remoteGroup_free : (!(s.col site tile).powered || (s.col site tile).clearing ||
    (s.col site tile).group == some (s.time / s.groupCycles)) = false := by
  simp only [hp, hc, Bool.not_true, Bool.false_or, beq_eq_false_iff_ne]
  exact hg

include hq

theorem exec_remoteAccessServe_denied (hb : s.band site = bandB4) (ha : (s.col site tile).acc = []) (hw : r.write = true) :
    exec (.remoteAccessServe site tile ue ce) s =
      .next ((s.setCol site tile ((s.col site tile).pop q (s.time / s.groupCycles))).send (.remoteAnswer site tile r.rid .accessDenied [])) := by
  change execRemoteAccessServe site tile ue ce s = _
  simp only [execRemoteAccessServe, hq, remoteGroup_free hp hc hg, Bool.false_eq_true, if_false, hb, ha, and_self, if_true,
    State.remoteDone_of_write _ _ hw]
  rfl

theorem exec_remoteAccessServe_write (hb : s.band site ≠ bandB4 ∨ (s.col site tile).acc ≠ []) (hw : r.write = true) :
    let served := (s.col site tile).acc.length
    let part := (r.data.drop served).take (min (8 - (r.addr + served) % 8) (r.data.length - served))
    let all := (s.col site tile).acc ++ part
    exec (.remoteAccessServe site tile ue ce) s =
      .next ((((s.setCol site tile ((s.col site tile).served r q (s.time / s.groupCycles) r.data.length all)).vaultWrite site tile (r.addr + served)
        part).bump .M0507 site 1).answerServed site tile r.data.length r all []) := by
  intro served part all
  change execRemoteAccessServe site tile ue ce s = _
  simp only [execRemoteAccessServe, hq, remoteGroup_free hp hc hg, Bool.false_eq_true, if_false, if_neg (not_and_or.mpr hb), hw, if_true,
    State.remoteDone_of_write _ _ hw]
  rfl

theorem exec_remoteAccessServe_read (hb : s.band site ≠ bandB4 ∨ (s.col site tile).acc ≠ []) (hw : r.write = false)
    (hf : (s.field (fieldOf site)).reads = []) :
    let served := (s.col site tile).acc.length
    let n := min (8 - (r.addr + served) % 8) (r.len - served)
    let all := (s.col site tile).acc ++ s.vaultUnits site tile (r.addr + served) n ue
    exec (.remoteAccessServe site tile ue ce) s =
      .next ((((s.setCol site tile ((s.col site tile).served r q (s.time / s.groupCycles) r.len all)).vaultRead site tile (r.addr + served) n ue
        ce).bump .M0507 site 1).answerServed site tile r.len r all all) := by
  intro served n all
  let u := ((s.setCol site tile ((s.col site tile).served r q (s.time / s.groupCycles) r.len all)).vaultRead site tile (r.addr + served) n ue
    ce).bump .M0507 site 1
  have hfield : (u.field (fieldOf site)).reads = [] := by
    rw [(State.bump_unchanged _ _ _ _).field (by simp), (State.vaultRead_unchanged _ _ _ _ _ _ _).field (by simp),
      (s.setCol_unchanged _ _ _).field (by simp), hf]
  change execRemoteAccessServe site tile ue ce s = .next (u.answerServed site tile r.len r all all)
  rw [State.answerServed, ← State.remoteDone_of_no_reads _ _ hw hfield]
  simp only [execRemoteAccessServe, hq, remoteGroup_free hp hc hg, Bool.false_eq_true, if_false, if_neg (not_and_or.mpr hb), hw]
  rfl

end

/-! ### The obligation -/

/-- Settles O19: each command of a vault column, by what it leaves of the column, of memory and of the answers. -/
theorem vaultColumnCommandsComplete : Obligations.VaultColumnCommandsComplete := by
  unfold Obligations.VaultColumnCommandsComplete
  refine ⟨fun s site tile runs hp hs hwide => ?wide, fun s site tile runs hp hs hnarrow => ?narrow, fun s site tile hp hc hdue => ?clear,
    fun s site tile layer edges hp hc hd hidle hl => ?retrim, fun s site tile x rest hx => ?queueWrite,
    fun s site tile j hj hheld => ?queueRead, fun s site tile ce ue r q hwf hq hp hc hg hb hw => ?write,
    fun s site tile ce ue r q hq hp hc hg hb hw hf => ?read, fun s site tile ce ue r q hq hp hc hg hb ha hw => ?denied⟩
  case wide =>
    have hno : ¬ someNarrow runs = true := by
      rw [someNarrow_iff]
      rintro ⟨k, hk, hlt⟩
      exact absurd (hwide k hk) (Nat.not_le.mpr hlt)
    have hset := s.setCol_unchanged site tile (VaultCol.trained s.time runs)
    have hshow := (s.setCol site tile (VaultCol.trained s.time runs)).showPowered_unchanged site
    have hcol := (hshow.col (by simp) site tile).trans (State.col_setCol s site tile _)
    refine ⟨_, (exec_vaultColumnPowerUp runs hp hs).trans (congrArg _ (if_neg hno)), ?_⟩
    rw [hcol]
    exact ⟨rfl, rfl, rfl, fun k hk => mapGet_map_of_mem _ _ (List.mem_range.mpr hk), (hset.mono (by simp)).trans (hshow.mono (by simp)),
      (hset.objsBut (by simp) _).trans (State.showPowered_objs _ _)⟩
  case narrow =>
    refine ⟨_, (exec_vaultColumnPowerUp runs hp hs).trans (congrArg _ (if_pos ((someNarrow_iff runs).mpr hnarrow))), ?_, ?_, ?_⟩
    · rw [(State.setSite_unchanged _ _ _).col (by simp), State.col_setCol]
    · rw [State.site_setSite]
    · exact ((s.setCol_unchanged _ _ _).mono (by simp)).trans ((State.setSite_unchanged _ _ _).mono (by simp))
  case clear =>
    have hgo : ((s.col site tile).powered && (s.col site tile).clearing && decide ((s.col site tile).clearAt ≤ s.time)) = true := by
      simp only [hp, hc, hdue, decide_true, Bool.and_self]
    refine ⟨_, congrArg Host.Outcome.next (if_pos hgo), State.col_setCol _ _ _ _, fun a hlo hhi => ?_, fun a ha => ?_, ?_⟩
    · exact (memByte_memClear _ _ _).trans (if_pos ⟨hlo, hhi⟩)
    · exact (memByte_memClear _ _ _).trans (if_neg (by omega))
    · rw [unchangedBut_iff]; simp
  case retrim =>
    intro run tap
    have hset := s.setCol_unchanged site tile ((s.col site tile).retrimmed layer edges s.time)
    have hshow := (s.setCol site tile ((s.col site tile).retrimmed layer edges s.time)).showTrim_unchanged site layer
    have hjudge := ((s.setCol site tile ((s.col site tile).retrimmed layer edges s.time)).showTrim site layer).judgeTrim_unchanged site tile layer run
    refine ⟨_, exec_retrim_of_due edges hp hc hd hidle hl, ?_⟩
    rw [hjudge.col (by simp), hshow.col (by simp), State.col_setCol]
    refine ⟨fun i run' centre hi he => mapGet_retrimTaps_seen _ hi he, fun k hk => mapGet_retrimTaps_other _ _ _ hk,
      fun h => State.judgeTrim_of_lt _ _ _ _ h, fun h => State.judgeTrim_of_le _ _ _ _ h, ?_, ?_⟩
    · exact ((hset.mono (by simp)).trans (hshow.mono (by simp))).trans (hjudge.mono (by simp))
    · exact ((hset.objsBut (by simp) _).trans (State.showTrim_objs _ _ _)).trans (hjudge.objsBut (by simp) _)
  case queueWrite =>
    intro req
    have he : exec (.remoteQueueEnqueue site tile true) s =
        .next ((s.setField (fieldOf site) { s.field (fieldOf site) with writeQ := rest }).setCol site tile ((s.col site tile).join req)) := by
      change execRemoteQueueEnqueue site tile true s = _
      simp only [execRemoteQueueEnqueue, hx, if_true]
      rfl
    exact ⟨_, he, s.remoteJoin_spec site tile _ req⟩
  case queueRead =>
    intro req
    let reads := mapFirst (fun x => x.passes site tile) (fun x => { x with sent := true }) (s.field (fieldOf site)).reads
    have he : exec (.remoteQueueEnqueue site tile false) s =
        .next ((s.setField (fieldOf site) { s.field (fieldOf site) with reads := reads }).setCol site tile ((s.col site tile).join req)) := by
      change execRemoteQueueEnqueue site tile false s = _
      simp only [execRemoteQueueEnqueue, hj, hheld, Bool.false_eq_true, if_false]
      rfl
    obtain ⟨hparts, hfield, hroom, hfull⟩ := s.remoteJoin_spec site tile { s.field (fieldOf site) with reads := reads } req
    refine ⟨_, he, hparts, ?_, hroom, hfull⟩
    rw [hfield]
    exact mapFirst_mem_of_find? _ hj
  case write =>
    intro served part a
    let u := s.setCol site tile ((s.col site tile).served r q (s.time / s.groupCycles) r.data.length ((s.col site tile).acc ++ part))
    have hset : unchangedBut [.cols] s u := s.setCol_unchanged _ _ _
    have hwrite := u.vaultWrite_unchanged site tile (r.addr + served) part
    have hbump := (u.vaultWrite site tile (r.addr + served) part).bump_unchanged .M0507 site 1
    have hanswer := ((u.vaultWrite site tile (r.addr + served) part).bump .M0507 site 1).answerServed_unchanged site tile r.data.length r
      ((s.col site tile).acc ++ part) []
    obtain ⟨p, hcol⟩ := u.vaultWrite_col site tile (r.addr + served) part
    have hserved := State.answerServed_spec ((s.col site tile).acc ++ part) [] ((hwrite .out (by simp)).trans (hset .out (by simp)))
      (hcol.trans (by rw [State.col_setCol]))
    rw [List.length_append] at hserved
    obtain ⟨hmem, hpoison⟩ := State.putUnits_congr (s := s) (t := u) a part rfl rfl
    have hafter := (hbump.mono (l' := [.objs, .out]) (by simp)).trans (hanswer.mono (by simp))
    have htmem := (hafter.mem (by simp)).trans hmem
    refine ⟨_, exec_remoteAccessServe_write ce ue hq hp hc hg hb hw, ⟨fun b => by rw [htmem], (hafter .poison (by simp)).trans hpoison⟩,
      fun b hout => ?_, ?_, ?_, hserved⟩
    · rw [htmem]
      exact s.putUnits_bytesOutside a part hwf b hout
    · rw [hanswer.obj (by simp), State.obj_bump, hwrite.obj (by simp), hset.obj (by simp)]
    · exact ((hset.mono (by simp)).trans (hwrite.mono (by simp))).trans (hafter.mono (by simp))
  case read =>
    intro served n all
    let u := s.setCol site tile ((s.col site tile).served r q (s.time / s.groupCycles) r.len all)
    have hset : unchangedBut [.cols] s u := s.setCol_unchanged _ _ _
    have hread := u.vaultRead_unchanged site tile (r.addr + served) n ue ce
    have hbump := (u.vaultRead site tile (r.addr + served) n ue ce).bump_unchanged .M0507 site 1
    have hanswer := ((u.vaultRead site tile (r.addr + served) n ue ce).bump .M0507 site 1).answerServed_unchanged site tile r.len r all all
    obtain ⟨p, hcol⟩ := u.vaultRead_col site tile (r.addr + served) n ue ce
    have hserved := State.answerServed_spec all all ((hread .out (by simp)).trans (hset .out (by simp))) (hcol.trans (by rw [State.col_setCol]))
    have hlen : all.length = served + n := by rw [List.length_append, State.vaultUnits_length]
    rw [hlen] at hserved
    have hall := ((hset.mono (l' := [.cols, .out, .objs, .layers, .log]) (by simp)).trans (hread.mono (by simp))).trans
      ((hbump.mono (by simp)).trans (hanswer.mono (by simp)))
    refine ⟨_, exec_remoteAccessServe_read ce ue hq hp hc hg hb hw hf, hall.memory (by simp) (by simp), ?_, hall, hserved⟩
    rw [hanswer.obj (by simp), State.obj_bump, State.vaultRead_objs _ _ _ _ _ _ _ _ _ (by simp), hset.obj (by simp)]
  case denied =>
    have hset := s.setCol_unchanged site tile ((s.col site tile).pop q (s.time / s.groupCycles))
    have hsend := (s.setCol site tile ((s.col site tile).pop q (s.time / s.groupCycles))).send_unchanged
      (.remoteAnswer site tile r.rid .accessDenied [])
    refine ⟨_, exec_remoteAccessServe_denied ce ue hq hp hc hg hb ha hw, rfl, ?_, (hset.mono (by simp)).trans (hsend.mono (by simp))⟩
    rw [hsend.col (by simp), State.col_setCol]
    rfl

end Sys2Proof.Machine
end

section
/-!
The matching of a market (R126 to R130): the passes give each source and each destination at most one bid, and what comes before them leaves
the grants that stand.
-/

namespace Sys2Proof.Machine

/-! ### Distinct values -/

theorem nodup_distinct (l : List Nat) : (distinct l).Nodup := by
  have step (l a : List Nat) (ha : a.Nodup) : (l.foldl (fun a x => if a.contains x then a else a ++ [x]) a).Nodup := by
    induction l generalizing a with
    | nil => exact ha
    | cons x r ih =>
      rw [List.foldl_cons]
      split
      · exact ih a ha
      · next h =>
        rw [List.contains_iff_mem] at h
        exact ih _ (List.nodup_append.mpr ⟨ha, List.nodup_singleton x, fun y hy z hz => by
          rw [List.mem_singleton.mp hz]
          exact fun e => h (e ▸ hy)⟩)
  exact step l [] List.nodup_nil

/-- What is chosen by a key, one for each distinct value of it, differs in that key. -/
theorem pairwise_chosen {α : Type} {key : α → Nat} {choose : Nat → Option α} (h : ∀ k x, choose k = some x → key x = k) (l : List Nat) :
    ((distinct l).filterMap choose).Pairwise (fun a b => key a ≠ key b) := by
  rw [List.pairwise_filterMap]
  refine (nodup_distinct l).imp fun hne x hx y hy => ?_
  rw [h _ _ hx, h _ _ hy]
  exact hne

/-- Each source accepts one offer of a list that offers each destination once: what is accepted differs in both. -/
theorem pairwise_accepted {α : Type} {src dst : α → Nat} {offers : List α} {choose : Nat → Option α}
    (hdst : offers.Pairwise (fun a b => dst a ≠ dst b)) (h : ∀ p x, choose p = some x → x ∈ offers ∧ src x = p) (l : List Nat) :
    ((distinct l).filterMap choose).Pairwise (fun a b => src a ≠ src b ∧ dst a ≠ dst b) := by
  have hmem : ∀ x ∈ (distinct l).filterMap choose, x ∈ offers := by
    intro x hx
    obtain ⟨p, -, hp⟩ := List.mem_filterMap.mp hx
    exact (h p x hp).1
  refine (pairwise_chosen (fun p x hp => (h p x hp).2) l).imp_of_mem fun ha hb hne => ⟨hne, ?_⟩
  have hsymm : Std.Symm (fun a b : α => dst a ≠ dst b) := ⟨fun _ _ => Ne.symm⟩
  exact hdst.forall (hmem _ ha) (hmem _ hb) (fun e => hne (congrArg src e))

/-! ### The passes (R127) -/

/-- Bids that share no source and no destination. -/
def apart (l : List TableBid) : Prop := l.Pairwise (fun a b => a.src ≠ b.src ∧ a.bid.dst ≠ b.bid.dst)

theorem find?_key {α : Type} {f : α → Nat} {l : List α} {k : Nat} {x : α} (h : l.find? (fun x => f x == k) = some x) : x ∈ l ∧ f x = k :=
  ⟨List.mem_of_find?_eq_some h, beq_iff_eq.mp (List.find?_some h :)⟩

theorem mem_insertAge {x y : TableBid} {l : List TableBid} (h : y ∈ insertAge x l) : y = x ∨ y ∈ l := by
  induction l with
  | nil => exact .inl (List.mem_singleton.mp h)
  | cons z r ih =>
    rw [insertAge] at h
    split at h
    · exact List.mem_cons.mp h
    · rcases List.mem_cons.mp h with h | h
      · exact .inr (h ▸ List.mem_cons_self)
      · exact (ih h).imp_right (List.mem_cons_of_mem z)

theorem mem_byAge {y : TableBid} {l : List TableBid} (h : y ∈ byAge l) : y ∈ l := by
  induction l with
  | nil => exact h
  | cons x r ih =>
    rcases mem_insertAge h with h | h
    · exact h ▸ List.mem_cons_self
    · exact List.mem_cons_of_mem x (ih h)

/-- Pass 1: each destination makes one offer, and each source accepts one. -/
theorem apart_passOne (l : List TableBid) : apart (passOne l) :=
  pairwise_accepted (pairwise_chosen (key := fun x : TableBid => x.bid.dst) (fun _ _ h => (find?_key h).2) _) (fun _ _ h => find?_key h) _

/-- What a destination grants in pass 2 or 3 is a bid for it among those still free. -/
theorem destGrant_bid {weights : Nat × Nat × Nat} {m : Market} {free : List TableBid} {d : Nat} {o : TableBid × (Nat × Nat × Nat)}
    (h : destGrant weights m free d = some o) : o.1 ∈ free ∧ o.1.bid.dst = d := by
  have hpool (c : Cls) {x : TableBid} (hx : x ∈ ((free.filter (fun x => x.bid.dst == d)).filter (fun x => decide (x.bid.cls = c)))) :
      x ∈ free ∧ x.bid.dst = d := by
    obtain ⟨hfree, hdst⟩ := List.mem_filter.mp (List.mem_filter.mp hx).1
    exact ⟨hfree, beq_iff_eq.mp hdst⟩
  unfold destGrant at h
  dsimp only at h
  split at h
  · cases h
  · split at h
    · cases h
    · obtain ⟨x, hx, rfl⟩ := Option.map_eq_some_iff.mp h
      have hx := mem_byAge (List.mem_of_find?_eq_some hx)
      split at hx
      · exact hpool _ (List.mem_filter.mp hx).1
      · exact hpool _ hx

/-- A fold that keeps or takes each element ends with one of them. -/
theorem foldl_choice_mem {α : Type} {f : Option α → α → Option α} (h : ∀ a x, f a x = a ∨ f a x = some x) {l : List α} {a : Option α} {x : α}
    (hx : l.foldl f a = some x) : a = some x ∨ x ∈ l := by
  induction l generalizing a with
  | nil => exact .inl hx
  | cons y r ih =>
    rcases ih hx with hy | hy
    · rcases h a y with e | e
      · exact .inl (e.symm.trans hy)
      · exact .inr (Option.some.inj (e.symm.trans hy) ▸ List.mem_cons_self)
    · exact .inr (List.mem_cons_of_mem y hy)

/-- Passes 2 and 3: each destination makes one offer of the bids still free, and each source accepts one. -/
theorem passTwo_spec (weights : Nat × Nat × Nat) (m : Market) (free : List TableBid) :
    apart (passTwo weights m free).1 ∧ ∀ x ∈ (passTwo weights m free).1, x ∈ free := by
  let low := free.filter (fun x => decide (x.bid.cls ≠ .A))
  let offers := (distinct (low.map (fun x => x.bid.dst))).filterMap (fun d => destGrant weights m low d)
  have hoffers : offers.Pairwise (fun a b => a.1.bid.dst ≠ b.1.bid.dst) := pairwise_chosen (fun _ _ h => (destGrant_bid h).2) _
  have hfree : ∀ o ∈ offers, o.1 ∈ free := by
    intro o ho
    obtain ⟨d, -, hd⟩ := List.mem_filterMap.mp ho
    exact (List.mem_filter.mp (destGrant_bid hd).1).1
  have hchoice {f : Option (TableBid × (Nat × Nat × Nat)) → TableBid × (Nat × Nat × Nat) → Option (TableBid × (Nat × Nat × Nat))}
      (hf : ∀ a x, f a x = a ∨ f a x = some x) (p : Nat) (o : TableBid × (Nat × Nat × Nat))
      (ho : (offers.filter (fun o => o.1.src == p)).foldl f none = some o) : o ∈ offers ∧ o.1.src = p := by
    rcases foldl_choice_mem hf ho with h | h
    · cases h
    · exact ⟨(List.mem_filter.mp h).1, beq_iff_eq.mp (List.mem_filter.mp h).2⟩
  have hall {choose : Nat → Option (TableBid × (Nat × Nat × Nat))} (h : ∀ p o, choose p = some o → o ∈ offers ∧ o.1.src = p) (l : List Nat) :
      apart (((distinct l).filterMap choose).map (fun o => o.1)) ∧ ∀ x ∈ ((distinct l).filterMap choose).map (fun o => o.1), x ∈ free := by
    refine ⟨List.pairwise_map.mpr (pairwise_accepted hoffers h l), fun x hx => ?_⟩
    obtain ⟨o, ho, rfl⟩ := List.mem_map.mp hx
    obtain ⟨p, -, hp⟩ := List.mem_filterMap.mp ho
    exact hfree o (h p o hp).1
  unfold passTwo
  refine hall (hchoice fun a x => ?_) _
  split
  · exact .inr rfl
  · split
    · exact .inr rfl
    · exact .inl rfl

theorem stillFree_apart {matched l : List TableBid} {x y : TableBid} (hx : x ∈ stillFree matched l) (hy : y ∈ matched) :
    y.src ≠ x.src ∧ y.bid.dst ≠ x.bid.dst := by
  have h := (List.mem_filter.mp hx).2
  simp only [Bool.not_eq_true', List.any_eq_false, Bool.or_eq_true, beq_iff_eq, not_or] at h
  exact h y hy

/-- The matching of a slot gives each source and each destination at most one bid. -/
theorem Market.apart_matching (m : Market) (weights : Nat × Nat × Nat) (slot : Nat) : apart (m.matching weights slot).1 := by
  unfold Market.matching
  dsimp only
  have htwo (n : Market) (g l : List TableBid) (hg : apart g) : apart (g ++ (passTwo weights n (stillFree g l)).1) := by
    obtain ⟨hpass, hfree⟩ := passTwo_spec weights n (stillFree g l)
    exact List.pairwise_append.mpr ⟨hg, hpass, fun y hy x hx => stillFree_apart (hfree x hx) hy⟩
  exact htwo _ _ _ (htwo _ _ _ (apart_passOne _))

theorem passTwo_lastMatch (weights : Nat × Nat × Nat) (m : Market) (free : List TableBid) :
    (passTwo weights m free).2.lastMatch = m.lastMatch := by
  unfold passTwo
  dsimp only
  generalize List.filterMap _ _ = taken
  induction taken generalizing m with
  | nil => rfl
  | cons o r ih => exact ih _

theorem Market.matching_lastMatch (m : Market) (weights : Nat × Nat × Nat) (slot : Nat) :
    (m.matching weights slot).2.lastMatch = m.lastMatch := by
  unfold Market.matching
  dsimp only
  rw [passTwo_lastMatch, passTwo_lastMatch]

/-! ### What comes before the passes (R125, R126, R131) -/

/-- A market's grants and the slot in which it matched last stand as they were, and so does the time. -/
def State.KeepsGrants (plane : Nat) (s t : State) : Prop :=
  t.time = s.time ∧ (t.market plane).grants = (s.market plane).grants ∧ (t.market plane).lastMatch = (s.market plane).lastMatch

theorem State.KeepsGrants.trans {plane : Nat} {s t u : State} (h : s.KeepsGrants plane t) (h' : t.KeepsGrants plane u) : s.KeepsGrants plane u :=
  ⟨h'.1.trans h.1, h'.2.1.trans h.2.1, h'.2.2.trans h.2.2⟩

theorem State.KeepsGrants.foldl {α : Type} {plane : Nat} {f : State → α → State} (h : ∀ s x, KeepsGrants plane s (f s x)) (l : List α) (s : State) :
    KeepsGrants plane s (l.foldl f s) := by
  induction l generalizing s with
  | nil => exact ⟨rfl, rfl, rfl⟩
  | cons x r ih => exact (h s x).trans (ih _)

theorem unchangedBut.market {l : List Part} {s t : State} (h : unchangedBut l s t) (hl : Part.markets ∉ l) (a : Nat) : t.market a = s.market a := by
  have e : t.markets = s.markets := h .markets hl
  simp only [State.market, e]

theorem unchangedBut.keepsGrants {l : List Part} {s t : State} (h : unchangedBut l s t) (hm : Part.markets ∉ l) (ht : Part.time ∉ l) (plane : Nat) :
    s.KeepsGrants plane t := by
  have e := h.market hm plane
  exact ⟨h.time ht, congrArg Market.grants e, congrArg Market.lastMatch e⟩

theorem State.setMarket_keepsGrants {s : State} {plane : Nat} {m : Market} (hg : m.grants = (s.market plane).grants)
    (hl : m.lastMatch = (s.market plane).lastMatch) : s.KeepsGrants plane (s.setMarket plane m) := by
  refine ⟨rfl, ?_, ?_⟩
  · rw [State.market_setMarket, hg]
  · rw [State.market_setMarket, hl]

theorem State.unstageAll_unchanged (s : State) (port plane : Nat) (f : Slot → Bool) : unchangedBut [.gates] s (s.unstageAll port plane f) := by
  refine unchangedBut.foldl (fun s pl => ?_) _ _
  dsimp only
  split
  · exact s.setGate_unchanged _ _ _
  · exact .refl _ _

theorem State.failBid_unchanged (s : State) (plane src : Nat) (b : Bid) (c : Code) :
    unchangedBut [.gates, .tiles, .posts, .log, .movers] s (s.failBid plane src b c) := by
  unfold State.failBid
  split
  · exact .refl _ _
  · exact ((s.bidCode_unchanged _ _ _ _ _).mono (by simp)).trans ((State.unstageAll_unchanged _ _ _ _).mono (by simp))

theorem State.breach_unchanged (s : State) (port bit : Nat) : unchangedBut [.aCond] s (s.breach port bit) := by
  rw [unchangedBut_iff]; simp [State.breach]

theorem State.checkBid_keepsGrants (s : State) (plane : Nat) (x : TableBid) : KeepsGrants plane s (s.checkBid plane x) := by
  have htable {u : State} (h : unchangedBut [.gates] s u) (l : List TableBid) (d : AMap Nat Nat) :
      KeepsGrants plane s (u.setMarket plane { s.market plane with table := l, dstRefill := d }) := by
    refine (h.keepsGrants (by simp) (by simp) plane).trans (State.setMarket_keepsGrants ?_ ?_)
    · exact (congrArg Market.grants (h.market (by simp) plane)).symm
    · exact (congrArg Market.lastMatch (h.market (by simp) plane)).symm
  have hcount (u : State) (n : Nat) (d : List Nat) : KeepsGrants plane u (((u.bump .B0606 x.src n).breach x.src 0).raise evAPoliced x.src d) := by
    have h : unchangedBut [.objs, .aCond, .log] u (((u.bump .B0606 x.src n).breach x.src 0).raise evAPoliced x.src d) :=
      (((u.bump_unchanged _ _ _).mono (by simp)).trans ((State.breach_unchanged _ _ _).mono (by simp))).trans
        ((State.raise_unchanged _ _ _ _).mono (by simp))
    exact h.keepsGrants (by simp) (by simp) plane
  refine iteInduction (motive := KeepsGrants plane s) (fun _ => ?absent) fun _ =>
    iteInduction (motive := KeepsGrants plane s) (fun _ => ?full) fun _ =>
      iteInduction (motive := KeepsGrants plane s) (fun _ => ?lower) fun _ => ?classA
  case absent => exact (s.failBid_unchanged _ _ _ _).keepsGrants (by simp) (by simp) plane
  case full => exact (s.setGate_unchanged _ _ _).keepsGrants (by simp) (by simp) plane
  case lower => exact htable (.refl _ _) _ _
  case classA =>
    have htaken (l l' : List TableBid) (d : AMap Nat Nat) (g : Gate) : KeepsGrants plane s (if s.policed plane x then
        (s.setGate x.src plane g).setMarket plane { s.market plane with table := l, dstRefill := d }
        else s.setMarket plane { s.market plane with table := l' }) :=
      iteInduction (motive := KeepsGrants plane s) (fun _ => htable (s.setGate_unchanged _ _ _) _ _) (fun _ => htable (.refl _ _) _ _)
    exact iteInduction (motive := KeepsGrants plane s) (fun _ => htaken _ _ _ _) (fun _ => (htaken _ _ _ _).trans (hcount _ _ _))

/-- A market takes its bid words with its grants as they were, and has then matched in this slot. -/
theorem State.takeBids_grants (s : State) (plane : Nat) :
    ((s.takeBids plane).market plane).grants = (s.market plane).grants ∧ ((s.takeBids plane).market plane).lastMatch = some s.slotNo ∧
      (s.takeBids plane).slotNo = s.slotNo := by
  let due (x : TableBid) : Bool := decide (x.since < s.slotNo)
  let u := s.setMarket plane { s.market plane with arriving := (s.market plane).arriving.filter (fun x => !due x), lastMatch := some s.slotNo }
  let v := ((s.market plane).arriving.filter due).foldl (fun s x => s.checkBid plane x) u
  have hv : KeepsGrants plane u v := State.KeepsGrants.foldl (fun s x => s.checkBid_keepsGrants plane x) _ u
  have hdrop : KeepsGrants plane v (v.setMarket plane { v.market plane with table := (v.market plane).table.filter (fun x => !v.bidEnds plane x) }) :=
    State.setMarket_keepsGrants rfl rfl
  have hfail : KeepsGrants plane _ (s.takeBids plane) := State.KeepsGrants.foldl
    (fun s (x : TableBid) => (s.failBid_unchanged plane x.src x.bid .targetAbsent).keepsGrants (by simp) (by simp) plane) _ _
  obtain ⟨htime, hgrants, hlast⟩ := (hv.trans hdrop).trans hfail
  have hu : u.market plane = _ := State.market_setMarket _ _ _
  rw [hu] at hgrants hlast
  exact ⟨hgrants, hlast, congrArg (· / 64) htime⟩

/-! ### The obligation -/

/-- The grants that a matching gives in a slot (R128). -/
def grantsOf (slot : Nat) (l : List TableBid) : List Grant :=
  l.map (fun x => { src := x.src, bid := { x.bid with slots := 1 }, slot := slot + 4, since := x.since })

/-- A market that has not matched in the slot adds the grants of its matching, and has then matched. -/
theorem exec_marketMatch_grants {s : State} {plane : Nat} (h : (s.market plane).lastMatch ≠ some s.slotNo) :
    ∃ t : State, exec (.marketMatch plane) s = .next t ∧
      (t.market plane).grants = (s.market plane).grants ++
        grantsOf s.slotNo (((s.takeBids plane).market plane).matching (s.takeBids plane).weights (s.slotNo + 4)).1 ∧
      (t.market plane).lastMatch = some s.slotNo := by
  obtain ⟨hgrants, hlast, hslot⟩ := s.takeBids_grants plane
  have hkept := Market.matching_lastMatch ((s.takeBids plane).market plane) (s.takeBids plane).weights (s.slotNo + 4)
  have hwait (v : State) (l : List TableBid) (f : State → TableBid → Nat) :
      (l.foldl (fun s x => s.setObj .B0608 x.src (f s x)) v).market plane = v.market plane :=
    (unchangedBut.foldl (fun s x => s.setObj_unchanged _ _ _) l v).market (by simp) plane
  refine ⟨_, (show execMarketMatch plane s = _ by rw [execMarketMatch, if_neg h]), ?_⟩
  dsimp only
  rw [hslot]
  revert hkept
  generalize ((s.takeBids plane).market plane).matching (s.takeBids plane).weights (s.slotNo + 4) = p
  obtain ⟨all, m⟩ := p
  intro hkept
  rw [hwait, State.market_setMarket, hgrants]
  exact ⟨rfl, hkept.trans hlast⟩

/-- Settles O21: the grants added are those of a matching, whose passes give each source and each destination at most one bid. -/
theorem marketGrantsEachPortOnce : Obligations.MarketGrantsEachPortOnce := by
  unfold Obligations.MarketGrantsEachPortOnce
  refine ⟨fun s plane h => ?_, fun s plane h => congrArg Host.Outcome.next (if_pos h)⟩
  obtain ⟨t, ht, hgrants, hlast⟩ := exec_marketMatch_grants h
  refine ⟨t, _, ht, hgrants, hlast, fun g hg => ?_, List.pairwise_map.mpr (Market.apart_matching _ _ _)⟩
  obtain ⟨x, -, rfl⟩ := List.mem_map.mp hg
  exact ⟨rfl, rfl⟩

end Sys2Proof.Machine
end

section
/-!
Slots and reads of the photonic base: the verdict on a slot that has run (R124, R135, R136), the drain into an I/O die (R250), and the reads
of a remote-access controller and a field cache (R137 to R139).
-/

namespace Sys2Proof.Machine

theorem unchangedBut.gate {l : List Part} {s t : State} (h : unchangedBut l s t) (hl : Part.gates ∉ l) (a b : Nat) : t.gate a b = s.gate a b := by
  have e : t.gates = s.gates := h .gates hl
  simp only [State.gate, e]

/-! ### The verdict on a slot (R135, R136) -/

/-- A slot that has run leaves what flies and is counted at its source (B.0603); one that found no lock has been noticed. -/
def State.judged (s : State) (plane : Nat) (found : SlotFault) (x : Slot) (rest : List Slot) : State :=
  let u := (s.setMarket plane { s.market plane with flying := rest }).bump .B0603 x.src 1
  if found.lock then { u with clockLost := u.clockLost.filter (fun e => e != (x.src, plane)) } else u

/-- What `judged` leaves, whether or not the slot found its lock. -/
theorem State.judged_spec (s : State) (plane : Nat) (found : SlotFault) (x : Slot) (rest : List Slot) :
    unchangedBut [.markets, .objs, .clockLost] s (s.judged plane found x rest) ∧ objsBut [.B0603] s (s.judged plane found x rest) ∧
      (s.judged plane found x rest).market plane = { s.market plane with flying := rest } ∧
      (s.judged plane found x rest).obj .B0603 x.src = s.obj .B0603 x.src + 1 := by
  let u := (s.setMarket plane { s.market plane with flying := rest }).bump .B0603 x.src 1
  have hparts : unchangedBut [.markets, .objs, .clockLost] s u :=
    ((s.setMarket_unchanged _ _).mono (by simp)).trans ((State.bump_unchanged _ _ _ _).mono (by simp))
  have hobjs : objsBut [.B0603] s u := (s.setMarket_unchanged _ _).objsBut (by simp) _ |>.trans (State.bump_objs _ _ _ _)
  have hmarket : u.market plane = { s.market plane with flying := rest } := State.market_setMarket _ _ _
  have hcount : u.obj .B0603 x.src = s.obj .B0603 x.src + 1 := State.obj_bump _ _ _ _
  have hlock (l : List (Nat × Nat)) : unchangedBut [.clockLost] u { u with clockLost := l } := by
    rw [unchangedBut_iff]; simp
  unfold State.judged
  dsimp only
  split
  · exact ⟨hparts.trans ((hlock _).mono (by simp)), hobjs.trans ((hlock _).objsBut (by simp) _), hmarket, hcount⟩
  · exact ⟨hparts, hobjs, hmarket, hcount⟩

/-- The verdict on a kind-0 slot asks only the tile that it is for. -/
theorem State.verdict_of_tiles {s t : State} {x : Slot} (hk : x.kind = 0) (h : ∀ a b, t.tile a b = s.tile a b) : t.verdict x = s.verdict x := by
  simp only [State.verdict, hk, h]

theorem State.unstageAll_recv (s : State) (port plane : Nat) (f : Slot → Bool) (a b : Nat) :
    ((s.unstageAll port plane f).gate a b).recv = (s.gate a b).recv := by
  unfold State.unstageAll
  generalize s.stagedAt plane = l
  induction l generalizing s with
  | nil => rfl
  | cons pl r ih =>
    rw [List.foldl_cons, ih]
    dsimp only
    split
    · by_cases h : (a, b) = (port, pl)
      · obtain ⟨rfl, rfl⟩ := Prod.mk.inj h
        rw [State.gate_setGate]
      · rw [State.gate_setGate_ne _ _ h]
    · rfl

/-- The verdict on a slot takes nothing out of a receive buffer. -/
theorem State.settleSlot_recv (s : State) (plane : Nat) (x : Slot) (c : Code) (a b : Nat) :
    ((s.settleSlot plane x c).gate a b).recv = (s.gate a b).recv := by
  unfold State.settleSlot
  split
  · rfl
  · rw [(State.bidCode_unchanged _ _ _ _ _ _).gate (by simp)]
    exact s.unstageAll_recv _ _ _ _ _

/-- A kind-0 slot that its verdict takes joins the receive buffer, and nothing else changes until it is drained. -/
theorem State.deliver_of_kind_zero (s : State) (plane : Nat) {y : Slot} {c : Code} (hk : y.kind = 0) (hc : c = .ok ∨ c = .poisoned) :
    s.deliver plane y c = s.setGate y.dst plane { s.gate y.dst plane with recv := (s.gate y.dst plane).recv ++ [y] } := by
  rcases hc with rfl | rfl
  · simp [State.deliver, hk]
  · simp [State.deliver, hk]

theorem State.countLoss_spec (s : State) (port plane cause : Nat) :
    unchangedBut [.markets, .objs, .log] s (s.countLoss port plane cause) ∧ objsBut [.B0604] s (s.countLoss port plane cause) ∧
      (s.countLoss port plane cause).obj .B0604 port = s.obj .B0604 port + 1 ∧
      ∃ l, (s.countLoss port plane cause).market plane = { s.market plane with lostEvent := l } := by
  let u := s.bump .B0604 port 1
  have hu : unchangedBut [.objs] s u := s.bump_unchanged _ _ _
  have hcounted (m : Market) : unchangedBut [.markets, .objs] s (u.setMarket plane m) :=
    (hu.mono (by simp)).trans ((u.setMarket_unchanged _ _).mono (by simp))
  have hobjs (m : Market) : objsBut [.B0604] s (u.setMarket plane m) :=
    (s.bump_objs _ _ _).trans ((u.setMarket_unchanged _ _).objsBut (by simp) _)
  have hcount (m : Market) : (u.setMarket plane m).obj .B0604 port = s.obj .B0604 port + 1 := s.obj_bump _ _ _
  unfold State.countLoss
  dsimp only
  split
  · have hraise (m : Market) (d : List Nat) := (u.setMarket plane m).raise_unchanged evSlotLost port d
    exact ⟨((hcounted _).mono (by simp)).trans ((hraise _ _).mono (by simp)), (hobjs _).trans ((hraise _ _).objsBut (by simp) _),
      ((hraise _ _).obj (by simp) _ _).trans (hcount _), _, ((hraise _ _).market (by simp) _).trans (State.market_setMarket _ _ _)⟩
  · exact ⟨(hcounted _).mono (by simp), hobjs _, hcount _, _, State.market_setMarket _ _ _⟩

/-- Why a headgate loses a slot (R135): for what it found, or for want of room when the slot began. -/
def State.lossOf (s : State) (port plane : Nat) (found : SlotFault) (x : Slot) : Option Loss :=
  if (x.judge plane found).1.isNone && decide (4 ≤ (s.gate port plane).occupied x.slotno) then some .room else (x.judge plane found).1

theorem State.lossOf_of_room {s : State} {port plane : Nat} {found : SlotFault} {x : Slot} (h : (s.gate port plane).occupied x.slotno < 4) :
    s.lossOf port plane found x = (x.judge plane found).1 := by
  simp [State.lossOf, Nat.not_le.mpr h]

theorem State.lossOf_of_lost {s : State} {port plane : Nat} {found : SlotFault} {x : Slot}
    (h : (x.judge plane found).1 ≠ none ∨ 4 ≤ (s.gate port plane).occupied x.slotno) : ∃ l, s.lossOf port plane found x = some l := by
  rw [← Option.isSome_iff_exists, State.lossOf]
  cases hj : (x.judge plane found).1 with
  | none => simpa [hj] using h
  | some l => simp

theorem exec_slotVerdict_of_kept {s : State} {port plane : Nat} {found : SlotFault} {x y : Slot} {rest : List Slot}
    (h : (s.market plane).oldestRun port s.slotNo = some (x, rest)) (hj : x.judge plane found = (none, y))
    (hroom : (s.gate port plane).occupied x.slotno < 4) :
    let u := s.judged plane found x rest
    exec (.slotVerdict port plane found) s = .next ((u.deliver plane y (u.verdict y)).settleSlot plane x (u.verdict y)) := by
  have hloss : (s.judged plane found x rest).lossOf port plane found x = none := by
    rw [State.lossOf_of_room (by rw [(s.judged_spec plane found x rest).1.gate (by simp)]; exact hroom), hj]
  change execSlotVerdict port plane found s = _
  simp only [execSlotVerdict, h]
  change Host.Outcome.next (match (s.judged plane found x rest).lossOf port plane found x with | some l => _ | none => _) = _
  rw [hloss, hj]
  rfl

theorem exec_slotVerdict_of_lost {s : State} {port plane : Nat} {found : SlotFault} {x : Slot} {rest : List Slot}
    (h : (s.market plane).oldestRun port s.slotNo = some (x, rest))
    (hl : (x.judge plane found).1 ≠ none ∨ 4 ≤ (s.gate port plane).occupied x.slotno) : ∃ cause,
    let u := (s.judged plane found x rest).countLoss port plane cause
    exec (.slotVerdict port plane found) s = .next (u.setMarket plane { u.market plane with lost := (u.market plane).lost ++ [x] }) := by
  obtain ⟨l, hloss⟩ := State.lossOf_of_lost (s := s.judged plane found x rest)
    (by rw [(s.judged_spec plane found x rest).1.gate (by simp)]; exact hl)
  refine ⟨lossNum l, ?_⟩
  change execSlotVerdict port plane found s = _
  simp only [execSlotVerdict, h]
  change Host.Outcome.next (match (s.judged plane found x rest).lossOf port plane found x with | some l => _ | none => _) = _
  rw [hloss]
  rfl

/-! ### Drains and reads (R138, R139, R250) -/

theorem State.setIod_unchanged (s : State) (a : Nat) (v : Iod) : unchangedBut [.iods] s (s.setIod a v) := by
  rw [unchangedBut_iff]; simp

theorem State.answerRead_unchanged (s : State) (port rid : Nat) (c : Code) (l : List Cell32) : unchangedBut [.movers] s (s.answerRead port rid c l) :=
  s.setMover_unchanged _ _

/-- The end of a drain at an I/O die: a reply answers its mover's read, and a relayed piece waits for the transport engine. -/
def State.landed (s : State) (port i : Nat) (x : Slot) : State :=
  let s := if x.reply then s.answerRead port x.rid (codeOf x.code) x.payload else s
  match x.relay with
  | some e => s.setIod i { s.iod i with relayed := (s.iod i).relayed ++ [e] }
  | none => s

theorem State.landed_unchanged (s : State) (port i : Nat) (x : Slot) : unchangedBut [.movers, .iods] s (s.landed port i x) := by
  have hreply : unchangedBut [.movers, .iods] s (if x.reply then s.answerRead port x.rid (codeOf x.code) x.payload else s) :=
    iteInduction (motive := unchangedBut [.movers, .iods] s) (fun _ => (s.answerRead_unchanged _ _ _ _).mono (by simp)) (fun _ => .refl _ _)
  unfold State.landed
  dsimp only
  split
  · exact hreply.trans ((State.setIod_unchanged _ _ _).mono (by simp))
  · exact hreply

theorem exec_receiveBufferDrain_iod {s : State} {port plane i : Nat} {x : Slot} {rest : List Slot}
    (hx : takeFirst (fun x : Slot => x.kind != 2 && x.kind != 4) (s.gate port plane).recv = some (x, rest)) (hk : x.kind = 0)
    (hi : iodOfPort port = some i) : exec (.receiveBufferDrain port plane) s = .next
      (((s.setGate port plane ((s.gate port plane).free x rest s.time)).putUnits (landingAddr i (32 * x.taddr)) x.payload).landed port i x) := by
  change execReceiveBufferDrain port plane s = _
  simp only [execReceiveBufferDrain, hx, hi, hk, Option.isNone_some, Bool.and_false, Bool.false_and, Bool.false_eq_true, if_false, ne_eq,
    not_true_eq_false]
  rfl

theorem State.cacheRead_unchanged (s : State) (field addr n : Nat) (ue : List Nat) (ce : Nat) :
    unchangedBut [.objs, .log, .poison] s (s.cacheRead field addr n ue ce) := by
  have hue (s : State) (i : Nat) : unchangedBut [.objs, .log, .poison] s (s.cacheUe field (addr + i)) :=
    (((s.bump_unchanged _ _ _).mono (by simp)).trans ((State.raise_unchanged _ _ _ _).mono (by simp))).trans
      ((State.setMark_unchanged _ _ _).mono (by simp))
  exact (unchangedBut.foldl hue _ s).trans ((State.count_unchanged _ _ _ _).mono (by simp))

/-- The reply slot of a read: what the headgate stages for it. -/
def replySlot (port serial : Nat) (r : ReadRec) (c : Code) (l : List Cell32) : Slot :=
  { src := port, dst := r.rport, cls := r.cls, retry := false, kind := r.rkind, ttile := r.rtile, taddr := r.raddr, len := l.length, tag := serial
    sender := .reads, sidx := 0, rid := r.rid, reply := true, code := codeNum c, slotno := 0, payload := l }

/-- A read leaves its field, and the words that a field cache gave for it are counted. -/
def State.readGiven (s : State) (port : Nat) (r : ReadRec) (rest : List ReadJob) (l : List Cell32) (ue : List Nat) (ce : Nat) : State :=
  let u := s.setField (fieldOf port) { s.field (fieldOf port) with reads := rest }
  if r.space = 1 then u.cacheRead (fieldOf port) r.addr l.length ue ce else u

theorem State.readGiven_spec (s : State) (port : Nat) (r : ReadRec) (rest : List ReadJob) (l : List Cell32) (ue : List Nat) (ce : Nat) :
    unchangedBut [.fields, .objs, .log, .poison] s (s.readGiven port r rest l ue ce) ∧
      ((s.readGiven port r rest l ue ce).field (fieldOf port)).reads = rest := by
  let u := s.setField (fieldOf port) { s.field (fieldOf port) with reads := rest }
  have hu : unchangedBut [.fields] s u := s.setField_unchanged _ _
  have hreads : (u.field (fieldOf port)).reads = rest := by rw [State.field_setField]
  unfold State.readGiven
  dsimp only
  split
  · have hread := u.cacheRead_unchanged (fieldOf port) r.addr l.length ue ce
    exact ⟨(hu.mono (by simp)).trans (hread.mono (by simp)), by rw [hread.field (by simp), hreads]⟩
  · exact ⟨hu.mono (by simp), hreads⟩

theorem exec_racReadReply {s : State} {port ce : Nat} {ue : List Nat} {j : ReadJob} {rest : List ReadJob} {c : Code} {l : List Cell32}
    (hj : takeFirst (fun j : ReadJob => j.port == port) (s.field (fieldOf port)).reads = some (j, rest)) (ha : s.readAnswer j ue = some (c, l))
    (hstaging : (s.gate port (s.effPlane (j.record.rid % 8))).staging.length < 8)
    (hbids : (s.gate port (s.effPlane (j.record.rid % 8))).bids.length < 64) :
    let plane := s.effPlane (j.record.rid % 8)
    let g := s.gate port plane
    exec (.racReadReply port ue ce) s = .next (
      (s.readGiven port j.record rest l ue ce).setGate port plane { g with
        staging := g.staging ++ [replySlot port g.serial j.record c l]
        bids := g.bids ++ [{ dst := j.record.rport, cls := j.record.cls, slots := 1, sender := .reads, tag := g.serial, sidx := 0, retry := false
                             at' := (s.readGiven port j.record rest l ue ce).time }]
        serial := g.serial + 1 }) := by
  change execRacReadReply port ue ce s = _
  simp only [execRacReadReply, hj, ha, decide_eq_false (Nat.not_le.mpr hstaging), decide_eq_false (Nat.not_le.mpr hbids)]
  rfl

/-! ### The obligation -/

/-- Settles O23: the verdict loses or delivers, and each later command takes the oldest of what waits. -/
theorem slotsAndReadsComplete : Obligations.SlotsAndReadsComplete := by
  unfold Obligations.SlotsAndReadsComplete
  refine ⟨fun s port plane found x y rest hx hj hroom hd hk hv => ?delivered, fun s port plane found x rest hx hl => ?lost,
    fun s port plane i x rest hwf hx hk hi => ?drain, fun s port plane x rest hx => ?request,
    fun s port ce ue j rest c l hj ha hstaging hbids => ?reply, fun s field ce h => ?scrub⟩
  case delivered =>
    obtain ⟨hparts, hobjs, hmarket, hcount⟩ := s.judged_spec plane found x rest
    let u := s.judged plane found x rest
    have hverdict : u.verdict y = s.verdict y := State.verdict_of_tiles hk (hparts.tile (by simp))
    have hdeliver : u.deliver plane y (s.verdict y) = u.setGate port plane { s.gate port plane with recv := (s.gate port plane).recv ++ [y] } := by
      rw [u.deliver_of_kind_zero plane hk hv, hd, hparts.gate (by simp)]
    let v := u.setGate port plane { s.gate port plane with recv := (s.gate port plane).recv ++ [y] }
    have hv : unchangedBut [.gates] u v := u.setGate_unchanged _ _ _
    have hsettle := v.settleSlot_unchanged plane x (s.verdict y)
    have hafter := (hv.mono (l' := [.gates, .tiles, .posts, .log, .movers]) (by simp)).trans hsettle
    refine ⟨v.settleSlot plane x (s.verdict y), ?_, ?_, ?_, ?_, hobjs.trans (hafter.objsBut (by simp) _),
      (hparts.mono (by simp)).trans (hafter.mono (by simp))⟩
    · rw [exec_slotVerdict_of_kept hx hj hroom, hverdict, hdeliver]
    · rw [hafter.market (by simp), hmarket]
    · rw [State.settleSlot_recv, State.gate_setGate]
    · rw [hafter.obj (by simp), hcount]
  case lost =>
    obtain ⟨hparts, hobjs, hmarket, -⟩ := s.judged_spec plane found x rest
    obtain ⟨cause, he⟩ := exec_slotVerdict_of_lost hx hl
    obtain ⟨hlparts, hlobjs, hlcount, l, hlmarket⟩ := (s.judged plane found x rest).countLoss_spec port plane cause
    have hset (m : Market) := ((s.judged plane found x rest).countLoss port plane cause).setMarket_unchanged plane m
    refine ⟨_, he, ?_⟩
    rw [State.market_setMarket, (hset _).obj (by simp), hlcount, hobjs _ _ (by simp)]
    refine ⟨?_, ?_, rfl, ?_, ?_⟩
    · rw [hlmarket, hmarket]
    · rw [hlmarket, hmarket]
    · exact ((hobjs.mono (by simp)).trans (hlobjs.mono (by simp))).trans ((hset _).objsBut (by simp) _)
    · exact ((hparts.mono (by simp)).trans (hlparts.mono (by simp))).trans ((hset _).mono (by simp))
  case drain =>
    intro a
    let u := s.setGate port plane ((s.gate port plane).free x rest s.time)
    have hgate : unchangedBut [.gates] s u := s.setGate_unchanged _ _ _
    have hput := u.putUnits_unchanged a x.payload
    have hland := (u.putUnits a x.payload).landed_unchanged port i x
    obtain ⟨hmem, hpoison⟩ := State.putUnits_congr (s := s) (t := u) a x.payload rfl rfl
    have htmem := (hland.mem (by simp)).trans hmem
    refine ⟨_, exec_receiveBufferDrain_iod hx hk hi, ?_, ⟨fun b => by rw [htmem], (hland .poison (by simp)).trans hpoison⟩, fun b hout => ?_,
      ((hgate.mono (by simp)).trans (hput.mono (by simp))).trans (hland.mono (by simp))⟩
    · rw [hland.gate (by simp), hput.gate (by simp), State.gate_setGate]
      rfl
    · rw [htmem]
      exact s.putUnits_bytesOutside a x.payload hwf b hout
  case request =>
    have he := show execRacReadRequest port plane s = _ by rw [execRacReadRequest, hx]
    refine ⟨_, he, ?_, ?_, ?_⟩
    · rw [(State.setField_unchanged _ _ _).gate (by simp), State.gate_setGate]
      rfl
    · exact congrArg Field.reads (State.field_setField _ _ _)
    · exact ((s.setGate_unchanged _ _ _).mono (by simp)).trans ((State.setField_unchanged _ _ _).mono (by simp))
  case reply =>
    obtain ⟨hparts, hreads⟩ := s.readGiven_spec port j.record rest l ue ce
    have hset (g : Gate) := (s.readGiven port j.record rest l ue ce).setGate_unchanged port (s.effPlane (j.record.rid % 8)) g
    refine ⟨_, replySlot port (s.gate port (s.effPlane (j.record.rid % 8))).serial j.record c l, exec_racReadReply hj ha hstaging hbids, ?_, ?_, rfl,
      rfl, rfl, rfl, rfl, rfl, rfl, ?_, (hparts.mono (by simp)).trans ((hset _).mono (by simp))⟩
    · rw [(hset _).field (by simp), hreads]
    · rw [State.gate_setGate]
    · rw [State.gate_setGate, List.length_append, List.length_singleton]
  case scrub =>
    have hset := s.setField_unchanged field { s.field field with scrubAt := s.time }
    have hcount := (s.setField field { s.field field with scrubAt := s.time }).count_unchanged .B060E field ce
    refine ⟨_, congrArg Host.Outcome.next (if_neg (Nat.not_lt.mpr h)), State.obj_count _ _ _ _, ?_, ?_, ?_⟩
    · exact (congrArg Field.scrubAt (hcount.field (by simp) field)).trans (congrArg Field.scrubAt (State.field_setField _ _ _))
    · exact (hset.objsBut (by simp) _).trans (State.count_objs _ _ _ _)
    · exact (hset.mono (by simp)).trans (hcount.mono (by simp))

end Sys2Proof.Machine
end

section
/-!
Merge stations: opens taken and refused (R140, R141), contributions, and how a ticket's result is written (R141 to R145).
-/

namespace Sys2Proof.Machine

theorem unchangedBut.station {l : List Part} {s t : State} (h : unchangedBut l s t) (hl : Part.stations ∉ l) (a : Nat) :
    t.station a = s.station a := by
  have e : t.stations = s.stations := h .stations hl
  simp only [State.station, e]

theorem State.mergeDone_unchanged (s : State) (port tl tag ticket : Nat) (c : Code) :
    unchangedBut [.tiles] s (s.mergeDone port tl tag ticket c) := s.setTile_unchanged _ _ _

/-! ### Writes that arrive (R72) -/

theorem State.arrive_objs (s : State) (site tl addr : Nat) (l : List Cell32) :
    objsBut [.S0300, .S0301, .S0302, .S0405] s (s.arrive site tl addr l).1 := by
  unfold State.arrive
  dsimp only
  split
  · exact s.trapTile_objs _ _ _ _ _ _ _
  · split
    · exact (s.setTile_unchanged _ _ _).objsBut (by simp) _
    · exact (s.putUnits_unchanged _ _).objsBut (by simp) _

/-- Every bank of a tile store stands on, and asks for nothing more. -/
def Tile.allOn (t : Tile) : Prop := ∀ b, t.bank b = { st := .on, change := none }

theorem Tile.sleeping_of_allOn {t : Tile} (h : t.allOn) (addr n : Nat) : t.sleeping addr n = none := by
  rw [Tile.sleeping, List.find?_eq_none]
  intro b _
  rw [h b]
  decide

/-- A tile store whose banks are all on takes a write, and its banks stay on. -/
theorem State.arrive_of_allOn {s : State} {site tl : Nat} (addr : Nat) (l : List Cell32) (h : (s.tile site tl).allOn) :
    (s.arrive site tl addr l).2 = true ∧ ((s.arrive site tl addr l).1.tile site tl).allOn := by
  simp only [State.arrive, Tile.sleeping_of_allOn h]
  split
  · refine ⟨rfl, ?_⟩
    rw [State.tile_setTile]
    exact h
  · exact ⟨rfl, by rw [State.putStore, (s.putUnits_unchanged _ _).tile (by simp)]; exact h⟩

/-! ### Results (R141 to R145) -/

/-- A ticket's result and its status unit reach the opener's tile store; whether both were taken. -/
def State.storeResult (s : State) (port : Nat) (k : Ticket) (units : List Cell32) (c : Code) : State × Bool :=
  let p := if units = [] then (s, true) else s.arrive port k.tile k.res units
  let q := p.1.arrive port k.tile (k.res + 8 * k.flits) [statusUnit k c p.1.time]
  (q.1, p.2 && q.2)

theorem State.storeResult_keeps (s : State) (port : Nat) (k : Ticket) (units : List Cell32) (c : Code) :
    unchangedBut [.tiles, .objs, .sites, .mem, .poison] s (s.storeResult port k units c).1 ∧
      objsBut [.S0300, .S0301, .S0302, .S0405] s (s.storeResult port k units c).1 := by
  unfold State.storeResult
  split
  · exact ⟨s.arrive_unchanged _ _ _ _, s.arrive_objs _ _ _ _⟩
  · exact ⟨(s.arrive_unchanged _ _ _ _).trans (State.arrive_unchanged _ _ _ _ _), (s.arrive_objs _ _ _ _).trans (State.arrive_objs _ _ _ _ _)⟩

theorem State.storeResult_taken {s : State} {port : Nat} {k : Ticket} (units : List Cell32) (c : Code) (h : (s.tile port k.tile).allOn) :
    (s.storeResult port k units c).2 = true := by
  unfold State.storeResult
  split
  · dsimp only
    rw [(State.arrive_of_allOn _ _ h).1]
    rfl
  · obtain ⟨htaken, hon⟩ := State.arrive_of_allOn k.res units h
    simp only [htaken, (State.arrive_of_allOn _ _ hon).1, Bool.and_self]

/-- A ticket is complete with a code, with which its open's tag will end; its wrong formats are reported. -/
def State.completeTicket (s : State) (port : Nat) (k : Ticket) (c : Code) (bad : List Nat) : State :=
  let u := bad.foldl (fun s f => s.raise evMergeFormat port [k.ticket, f]) s
  (u.setStation port ((u.station port).put { k with fin := some c })).mergeDone port k.tile k.tag k.ticket c

theorem State.completeTicket_spec (s : State) (port : Nat) (k : Ticket) (c : Code) (bad : List Nat) :
    unchangedBut [.log, .stations, .tiles] s (s.completeTicket port k c bad) ∧
      (s.completeTicket port k c bad).station port = (s.station port).put { k with fin := some c } := by
  have hbad := unchangedBut.foldl (fun s f => s.raise_unchanged evMergeFormat port [k.ticket, f]) bad s
  have hset (u : State) (y : Station) := (u.setStation_unchanged port y)
  have hdone (u : State) := u.mergeDone_unchanged port k.tile k.tag k.ticket c
  refine ⟨((hbad.mono (by simp)).trans ((hset _ _).mono (by simp))).trans ((hdone _).mono (by simp)), ?_⟩
  rw [State.completeTicket, (hdone _).station (by simp), State.station_setStation, hbad.station (by simp)]

/-- The code of a result before its deadline and its writes have their say (R47). -/
def Ticket.codeOfMerge (k : Ticket) : Code :=
  if k.contribs = [] then .ok else resultCode k (mergeWords k.op k.sat k.flits k.contribs).1

theorem Ticket.codeOfMerge_eq_or (k : Ticket) : k.codeOfMerge = .ok ∨ k.codeOfMerge = .poisoned := by
  unfold Ticket.codeOfMerge resultCode
  split
  · exact .inl rfl
  · split
    · exact .inr rfl
    · exact .inl rfl

theorem State.writeResult_eq (s : State) (port : Nat) (k : Ticket) (code : Code → Code) : ∃ units bad,
    let r := s.storeResult port k units (code k.codeOfMerge)
    s.writeResult port k code = r.1.completeTicket port k (if r.2 then code k.codeOfMerge else worse (code k.codeOfMerge) .accessDenied) bad :=
  ⟨_, _, rfl⟩

theorem worse_accessDenied (c : Code) : worse c .accessDenied = .accessDenied := by cases c <;> rfl

/-- A ticket whose result is written is complete with the code of its merge, or ACCESS_DENIED where a bank that is not on refuses a write. -/
theorem State.writeResult_spec (s : State) (port : Nat) (k : Ticket) (code : Code → Code) : ∃ c,
    (s.writeResult port k code).station port = (s.station port).put { k with fin := some c } ∧ (c = code k.codeOfMerge ∨ c = .accessDenied) ∧
      ((s.tile port k.tile).allOn → c = code k.codeOfMerge) ∧ objsBut [.S0300, .S0301, .S0302, .S0405] s (s.writeResult port k code) := by
  obtain ⟨units, bad, he⟩ := s.writeResult_eq port k code
  obtain ⟨hparts, hobjs⟩ := s.storeResult_keeps port k units (code k.codeOfMerge)
  rw [worse_accessDenied] at he
  let r := s.storeResult port k units (code k.codeOfMerge)
  let c := if r.2 then code k.codeOfMerge else .accessDenied
  obtain ⟨hdone, hstation⟩ := r.1.completeTicket_spec port k c bad
  refine ⟨c, ?_, ite_eq_or_eq _ _ _, fun h => if_pos (State.storeResult_taken _ _ h), ?_⟩
  · rw [he, hstation, hparts.station (by simp)]
  · rw [he]
    exact hobjs.trans (hdone.objsBut (by simp) _)

/-! ### The commands -/

/-- What makes a station refuse an open (R140, R141): it names another port or an open ticket, or finds too few tickets or cells. -/
def Station.refuses (y : Station) (port : Nat) (o : OpenReq) : Prop :=
  o.port ≠ port ∨ (y.ticket o.ticket.ticket).isSome ∨ 64 ≤ y.openTickets.length ∨ 384 < y.cells + o.ticket.flits

theorem exec_mergeOpenAccept_refused {s : State} {port : Nat} {o : OpenReq} {q : List OpenReq} (h : (s.station port).opens = o :: q)
    (hr : (s.station port).refuses port o) : exec (.mergeOpenAccept port) s = .next
      (((s.setStation port { s.station port with opens := q }).mergeDone port o.ticket.tile o.ticket.tag o.ticket.ticket .accessDenied).raise
        evMergeRefused port [o.ticket.ticket, codeNum .accessDenied]) := by
  rw [Station.refuses] at hr
  change execMergeOpenAccept port s = _
  simp only [execMergeOpenAccept, h, if_pos hr]

theorem exec_mergeOpenAccept_taken {s : State} {port : Nat} {o : OpenReq} {q : List OpenReq} (h : (s.station port).opens = o :: q)
    (hr : ¬ (s.station port).refuses port o) : exec (.mergeOpenAccept port) s = .next
      ((s.setStation port { s.station port with opens := q }).setStation port
        { opens := q, tickets := (s.station port).tickets ++ [{ o.ticket with deadline := s.time + 100 * o.dl }] }) := by
  rw [Station.refuses] at hr
  change execMergeOpenAccept port s = _
  simp only [execMergeOpenAccept, h, if_neg hr]
  rfl

theorem exec_mergeContribution_of_station {s : State} {port plane : Nat} {x : Slot} {rest : List Slot} {k : Ticket}
    (hx : takeFirst (fun x : Slot => x.kind == 2) (s.gate port plane).recv = some (x, rest)) (hi : iodOfPort port = none)
    (hk : (s.station port).ticket (x.taddr % 65536) = some k) (hf : k.fin = none) (hc : k.contribs.length < k.expected) :
    exec (.mergeContribution port plane) s = .next ((s.setGate port plane ((s.gate port plane).free x rest s.time)).setStation port
      ((s.station port).put { k with contribs := k.contribs ++ [x.payload] })) := by
  have hticket (u : State) (hu : u.station port = s.station port) : u.mergeTicket port (x.taddr % 65536) = some k := by
    simp only [State.mergeTicket, hi, hu, hk]
  change execMergeContribution port plane s = _
  simp only [execMergeContribution, hx, hi, hf, hticket (s.setGate port plane ((s.gate port plane).free x rest s.time)) rfl,
    decide_eq_false (Nat.not_le.mpr hc), Option.isSome_none, Bool.or_self, Bool.false_eq_true, if_false]
  rfl

/-- Settles O24: opens and contributions change one station; a ticket's end is that of `writeResult`, from its count or from its deadline. -/
theorem mergeCommandsComplete : Obligations.MergeCommandsComplete := by
  unfold Obligations.MergeCommandsComplete
  refine ⟨fun s port o q ho hport hnew htickets hcells => ?opened, fun s port o q ho hr => ?refused,
    fun s port plane x rest k hx hi hk hf hc => ?contribution, fun s port ticket k hk hf hc => ?result,
    fun s port ticket k hi hk hf hc hd hw => ?deadline⟩
  case opened =>
    have hr : ¬ (s.station port).refuses port o := by
      rintro (h | h | h | h)
      · exact h hport
      · simp [hnew] at h
      · exact Nat.not_le.mpr htickets h
      · exact Nat.not_lt.mpr hcells h
    exact ⟨_, exec_mergeOpenAccept_taken ho hr, State.station_setStation _ _ _, (s.setStation_unchanged _ _).trans (State.setStation_unchanged _ _ _)⟩
  case refused =>
    refine ⟨_, exec_mergeOpenAccept_refused ho (by rw [Station.refuses, Option.isSome_iff_ne_none]; exact hr), ?_, ?_, ?_⟩
    · rw [(State.raise_unchanged _ _ _ _).station (by simp), (State.mergeDone_unchanged _ _ _ _ _ _).station (by simp), State.station_setStation]
    · rw [(State.raise_events _ _ _ _).1]
      rfl
    · exact (((s.setStation_unchanged _ _).mono (by simp)).trans ((State.mergeDone_unchanged _ _ _ _ _ _).mono (by simp))).trans
        ((State.raise_unchanged _ _ _ _).mono (by simp))
  case contribution =>
    refine ⟨_, exec_mergeContribution_of_station hx hi hk hf hc, ?_, State.station_setStation _ _ _,
      ((s.setGate_unchanged _ _ _).mono (by simp)).trans ((State.setStation_unchanged _ _ _).mono (by simp))⟩
    rw [(State.setStation_unchanged _ _ _).gate (by simp), State.gate_setGate]
    rfl
  case result =>
    obtain ⟨c, hstation, hc', hon, -⟩ := s.writeResult_spec port k id
    have he : exec (.mergeResultWrite port ticket) s = .next (s.writeResult port k id) := by
      change execMergeResultWrite port ticket s = _
      simp only [execMergeResultWrite, hk, hf, decide_eq_true hc, Option.isNone_none, Bool.and_self, if_true]
    refine ⟨_, c, he, hstation, ?_, fun h => ?_⟩
    · rcases k.codeOfMerge_eq_or with h | h <;> rw [h] at hc' <;> tauto
    · rw [hon h]
      rcases k.codeOfMerge_eq_or with h | h <;> rw [h] <;> decide
  case deadline =>
    obtain ⟨c, hstation, hc', hon, hobjs⟩ := s.writeResult_spec port k (fun c => worse c .mergeTimeout)
    have hticket : s.mergeTicket port ticket = some k := by simp only [State.mergeTicket, hi, hk]
    have he : exec (.mergeDeadline port ticket) s = .next (((s.writeResult port k (fun c => worse c .mergeTimeout)).bump .B060C port 1).raise
        evMergeExpired port [ticket, k.contribs.length, k.expected]) := by
      change execMergeDeadline port ticket s = _
      simp only [execMergeDeadline, hticket, hf, hw, hi, decide_eq_true hc, decide_eq_true hd, Option.isNone_none, beq_self_eq_true, Bool.and_self,
        if_true]
    refine ⟨_, c, he, ?_, ?_, fun h => ?_, ?_, ?_⟩
    · rw [(State.raise_unchanged _ _ _ _).station (by simp), (State.bump_unchanged _ _ _ _).station (by simp), hstation]
    · rcases k.codeOfMerge_eq_or with h | h <;> rw [h] at hc' <;> tauto
    · rw [hon h]
      rcases k.codeOfMerge_eq_or with h | h <;> rw [h] <;> decide
    · rw [(State.raise_unchanged _ _ _ _).obj (by simp), State.obj_bump, hobjs _ _ (by simp)]
    · rw [(State.raise_events _ _ _ _).1]
      rfl

end Sys2Proof.Machine
end

section
/-!
An image named for the next start writes the boot record of each unit (R353, R357): the older copy takes the slot that the newer one named, so
more of a unit changes than the slot it is to start on.
-/

namespace Sys2Proof.Machine

/-- A Service session that matches the firmware's interface. -/
def serviceSession : Session := 
  { level := 2, version := 0, src := 9, sport := 8, commons := false, hostNonce := 0, panelNonce := 0, name := 0, key := 0, proven := true
    challengeAt := 0, lastMsg := 0, newest := 0, started := false, answered := [], stage := [], subs := [], notifySeq := 0, lastNotify := none
    gap := false }

/-- Unit 0 acts and runs slot B, which its last update named; the older copy of its boot record names slot A still. An image is verified, and
session 1 is open. -/
def updatedOnce : State :=
  { State.reset with
    objs := [((.W0000, 0), 0), ((.W000C, 0), 1)]
    keeper := { State.reset.keeper with holder := some 0 }
    sessions := [(1, some serviceSession)]
    units := [(0, { State.reset.unit 0 with bootB := true, bootOld := false, runsB := true })] }

theorem updatedOnce_may : updatedOnce.openSession 1 = some serviceSession ∧ updatedOnce.cuActs 2 = true ∧ (objRow .W000B).level ≤ serviceSession.level ∧
    updatedOnce.matches serviceSession = true ∧ updatedOnce.inRange .W000B 0 2 = true := by decide

/-- The older copy of unit 0's boot record names slot B once W.000B = 2 has been written. -/
theorem updatedOnce_bootOld {t : State} (h : exec (.imageActivateNextStart 1) updatedOnce = .next t) : (t.unit 0).bootOld = true := by
  obtain rfl : updatedOnce.commandOf .W000B 2 1 = t := Host.Outcome.next.inj h
  rfl

/-- Refutes O46: at `updatedOnce` the command begins, and it leaves unit 0 with the older copy of its boot record rewritten as well. -/
theorem not_ledgerCommandsComplete : ¬ Obligations.LedgerCommandsComplete := by
  unfold Obligations.LedgerCommandsComplete
  intro h
  obtain ⟨-, -, -, -, -, -, -, hnext, -⟩ := h
  obtain ⟨t, he, hunits, -⟩ := hnext updatedOnce 1 serviceSession updatedOnce_may (by decide)
  have hold := updatedOnce_bootOld he
  rw [hunits 0 (by decide)] at hold
  exact absurd hold (by decide)

end Sys2Proof.Machine
end

section
/-!
Frames over the parts and the ledger objects at once, and what the island's own operations leave alone (R303, R306, R308, R412).
-/

namespace Sys2Proof.Machine

/-- Every part but the listed ones, and every ledger object but the listed objects, is unchanged. -/
def Keeps (l : List Part) (os : List Obj) (s t : State) : Prop := unchangedBut l s t ∧ objsBut os s t

namespace Keeps
variable {l l' : List Part} {os os' : List Obj} {s t u : State}

theorem refl (l : List Part) (os : List Obj) (s : State) : Keeps l os s s := ⟨.refl _ _, fun _ _ _ => rfl⟩

theorem trans (h : Keeps l os s t) (h' : Keeps l os t u) : Keeps l os s u := ⟨h.1.trans h'.1, h.2.trans h'.2⟩

theorem mono (h : Keeps l os s t) (hsub : (∀ p ∈ l, p ∈ l') ∧ ∀ o ∈ os, o ∈ os') : Keeps l' os' s t :=
  ⟨h.1.mono hsub.1, h.2.mono hsub.2⟩

theorem foldl {α : Type} {f : State → α → State} (h : ∀ s x, Keeps l os s (f s x)) (xs : List α) (s : State) : Keeps l os s (xs.foldl f s) :=
  ⟨unchangedBut.foldl (fun s x => (h s x).1) xs s, objsBut.foldl (fun s x => (h s x).2) xs s⟩

theorem ite {c : Prop} [Decidable c] (ht : Keeps l os s t) (hu : Keeps l os s u) : Keeps l os s (if c then t else u) :=
  iteInduction (motive := Keeps l os s) (fun _ => ht) (fun _ => hu)

/-- A frame over the parts that keeps the ledger objects. -/
theorem of_parts (h : unchangedBut l s t) (hl : Part.objs ∉ l) : Keeps l [] s t := ⟨h, h.objsBut hl _⟩

theorem obj (h : Keeps l os s t) (o : Obj) (i : Nat) (ho : o ∉ os) : t.obj o i = s.obj o i := h.2 o i ho

end Keeps

/-! ### Updates of one part -/

theorem State.setObj_keeps (s : State) (o : Obj) (i v : Nat) : Keeps [.objs] [o] s (s.setObj o i v) := ⟨s.setObj_unchanged _ _ _, s.setObj_objs _ _ _⟩

theorem State.bump_keeps (s : State) (o : Obj) (i n : Nat) : Keeps [.objs] [o] s (s.bump o i n) := s.setObj_keeps _ _ _

theorem State.setBit_keeps (s : State) (o : Obj) (i n : Nat) (b : Bool) : Keeps [.objs] [o] s (s.setBit o i n b) := s.setObj_keeps _ _ _

theorem State.raise_keeps (s : State) (c u : Nat) (d : List Nat) : Keeps [.log] [] s (s.raise c u d) := .of_parts (s.raise_unchanged _ _ _) (by decide)

theorem State.setUnit_keeps (s : State) (u : Nat) (c : CtrlUnit) : Keeps [.units] [] s (s.setUnit u c) :=
  .of_parts (by rw [unchangedBut_iff]; simp) (by decide)

theorem State.update_keeps (s : State) (x : Update) : Keeps [.update] [] s { s with update := x } := .of_parts (by rw [unchangedBut_iff]; simp) (by decide)

theorem State.power_keeps (s : State) (x : Power) : Keeps [.power] [] s { s with power := x } := .of_parts (by rw [unchangedBut_iff]; simp) (by decide)

/-! ### The island's notices (R261, R308) -/

/-- The parts that a message to a mailbox may change. -/
def mailParts : List Part := [.objs, .boxes, .out, .log]

theorem State.mailWrite_keeps (s : State) (n : Nat) (p : BitVec 448) (a b c d e : Nat) : Keeps mailParts [.D0A08] s (s.mailWrite n p a b c d e) := by
  have hsend (u : State) (o : Sent) : Keeps mailParts [.D0A08] u (u.send o) := (Keeps.of_parts (u.send_unchanged o) (by decide)).mono (by decide)
  have hbox (u : State) (m : Mailbox) : Keeps mailParts [.D0A08] u (u.setBoxes n m) :=
    (Keeps.of_parts (u.setBoxes_unchanged n m) (by decide)).mono (by decide)
  have hstore (u : State) : Keeps mailParts [.D0A08] u (u.mailStore n p a b c d e) := hbox u _
  have hcount : Keeps mailParts [.D0A08] s ((boxCopies n).foldl (fun s k => s.bump .D0A08 k 1) s) :=
    .foldl (fun s k => (s.bump_keeps .D0A08 k 1).mono (by decide)) _ s
  unfold State.mailWrite
  dsimp only
  refine .ite (hsend _ _) (.ite ?_ ((hstore _).trans (hsend _ _)))
  exact ((hcount.trans (hstore _)).trans (.ite ((hbox _ _).trans ((State.raise_keeps _ _ _ _).mono (by decide))) (hbox _ _))).trans (hsend _ _)

theorem State.islandNotice_keeps (s : State) (k : Nat) (d : List Nat) : Keeps mailParts [.D0A08] s (s.islandNotice k d) :=
  s.mailWrite_keeps _ _ _ _ _ _ _

theorem State.abortUpdate_keeps (s : State) (cause : Nat) : Keeps [.units, .objs, .update, .log] [.W0000, .W000C] s (s.abortUpdate cause) := by
  unfold State.abortUpdate
  dsimp only
  refine .ite (.refl _ _ _) ?_
  exact (((((s.setUnit_keeps _ _).mono (by decide)).trans ((State.setObj_keeps _ _ _ _).mono (by decide))).trans
    ((State.update_keeps _ _).mono (by decide))).trans ((State.setObj_keeps _ _ _ _).mono (by decide))).trans ((State.raise_keeps _ _ _ _).mono (by decide))

/-! ### Emergency bits (R308) -/

theorem bitGet_add_two_pow {w n : Nat} (h : bitGet w n = false) (m : Nat) : bitGet (w + 2 ^ n) m = if m = n then true else bitGet w m := by
  simp only [bitGet, beq_eq_false_iff_ne, ne_eq, Nat.mod_two_not_eq_one] at h ⊢
  rcases lt_trichotomy m n with hm | rfl | hm
  · obtain ⟨k, rfl⟩ : ∃ k, n = m + 1 + k := ⟨n - m - 1, by omega⟩
    have e : 2 ^ (m + 1 + k) = 2 ^ m * (2 * 2 ^ k) := by ring
    rw [if_neg hm.ne, e, Nat.add_mul_div_left _ _ (Nat.two_pow_pos m), Nat.add_mul_mod_self_left]
  · rw [if_pos rfl, Nat.add_div_right _ (Nat.two_pow_pos m), beq_iff_eq]
    omega
  · obtain ⟨k, rfl⟩ : ∃ k, m = n + 1 + k := ⟨m - n - 1, by omega⟩
    have hdiv (x : Nat) : x / 2 ^ (n + 1 + k) = x / 2 ^ n / 2 / 2 ^ k := by
      rw [Nat.div_div_eq_div_mul, Nat.div_div_eq_div_mul, Nat.pow_add, Nat.pow_succ, Nat.mul_assoc]
    have hhalf : (w / 2 ^ n + 1) / 2 = w / 2 ^ n / 2 := by omega
    rw [if_neg hm.ne', hdiv, hdiv, Nat.add_div_right _ (Nat.two_pow_pos n), hhalf]

theorem bitGet_sub_two_pow {v n : Nat} (h : bitGet v n = true) (m : Nat) : bitGet (v - 2 ^ n) m = if m = n then false else bitGet v m := by
  have hle : 2 ^ n ≤ v := by
    by_contra hlt
    rw [bitGet, Nat.div_eq_of_lt (Nat.not_le.mp hlt)] at h
    exact absurd h (by decide)
  have hclear : bitGet (v - 2 ^ n) n = false := by
    rw [bitGet, ← Nat.sub_add_cancel hle, Nat.add_div_right _ (Nat.two_pow_pos n), beq_iff_eq] at h
    rw [bitGet, beq_eq_false_iff_ne]
    omega
  split
  · next hm => rw [hm, hclear]
  · next hm =>
    have hadd := bitGet_add_two_pow hclear m
    rw [Nat.sub_add_cancel hle, if_neg hm] at hadd
    exact hadd.symm

/-- Every bit of a bitset after one of them is set or cleared. -/
theorem bitGet_bitSet (v n : Nat) (b : Bool) (m : Nat) : bitGet (bitSet v n b) m = if m = n then b else bitGet v m := by
  unfold bitSet
  cases hv : bitGet v n with
  | false =>
    cases b with
    | true => exact bitGet_add_two_pow hv m
    | false => exact (ite_eq_right_iff.mpr fun h => h ▸ hv.symm).symm
  | true =>
    cases b with
    | true => exact (ite_eq_right_iff.mpr fun h => h ▸ hv.symm).symm
    | false => exact bitGet_sub_two_pow hv m

/-- What an emergency may change: its bit, the notice of it, and a hand-over under way (R308, R358). -/
theorem State.setEmergency_keeps (s : State) (n : Nat) :
    Keeps (.units :: .update :: mailParts) [.P0C0C, .D0A08, .W0000, .W000C] s (s.setEmergency n) := by
  have hset := (s.setBit_keeps .P0C0C 0 n true).mono (l' := .units :: .update :: mailParts) (os' := [.P0C0C, .D0A08, .W0000, .W000C]) (by decide)
  exact .ite hset ((hset.trans ((State.islandNotice_keeps _ _ _).mono (by decide))).trans ((State.abortUpdate_keeps _ _).mono (by decide)))

theorem State.setEmergency_bits (s : State) (n : Nat) : (s.setEmergency n).obj .P0C0C 0 = bitSet (s.obj .P0C0C 0) n true := by
  have hset : (s.setBit .P0C0C 0 n true).obj .P0C0C 0 = bitSet (s.obj .P0C0C 0) n true := State.obj_setObj _ _ _ _
  unfold State.setEmergency
  dsimp only
  split
  · exact hset
  · rw [(State.abortUpdate_keeps _ _).obj _ _ (by decide), (State.islandNotice_keeps _ _ _).obj _ _ (by decide), hset]

/-! ### What follows every change of supply or heat -/

/-- The supplies of two states are alike but for what the island notes of emergencies, trips and the hold-up store. -/
def Power.alike (p q : Power) : Prop := ∃ gone causes hold, q = { p with emergencyGone := gone, causesGoneSince := causes, holdUpFrom := hold }

theorem Power.alike.trans {p q r : Power} (h : p.alike q) (h' : q.alike r) : p.alike r := by
  obtain ⟨g, c, k, rfl⟩ := h
  obtain ⟨g', c', k', rfl⟩ := h'
  exact ⟨g', c', k', rfl⟩

/-- The parts and objects that the island's judgement may change. -/
def islandParts : List Part := [.objs, .boxes, .out, .log, .units, .update, .power, .pins]
def islandObjs : List Obj := [.P0C0C, .D0A08, .W0000, .W000C]

/-- What the island's judgement leaves: a frame, the supplies but for its notes, and every emergency bit that is set. -/
def State.Judged (s t : State) : Prop :=
  Keeps islandParts islandObjs s t ∧ s.power.alike t.power ∧ ∀ n, bitGet (s.obj .P0C0C 0) n = true → bitGet (t.obj .P0C0C 0) n = true

theorem State.Judged.trans {s t u : State} (h : s.Judged t) (h' : t.Judged u) : s.Judged u :=
  ⟨h.1.trans h'.1, h.2.1.trans h'.2.1, fun n hn => h'.2.2 n (h.2.2 n hn)⟩

theorem State.Judged.refl (s : State) : s.Judged s := ⟨.refl _ _ _, ⟨_, _, _, rfl⟩, fun _ h => h⟩

theorem State.judged_of_power {s : State} {x : Power} (h : s.power.alike x) : s.Judged { s with power := x } :=
  ⟨(s.power_keeps x).mono (by decide), h, fun _ hn => hn⟩

theorem State.setEmergency_judged (s : State) (n : Nat) : s.Judged (s.setEmergency n) := by
  have hpower : (s.setEmergency n).power = s.power := (s.setEmergency_keeps n).1 .power (by decide)
  refine ⟨(s.setEmergency_keeps n).mono (by decide), ⟨_, _, _, hpower⟩, fun m hm => ?_⟩
  rw [State.setEmergency_bits, bitGet_bitSet, hm, ite_self]

theorem State.judgeEmergency_judged (s : State) : s.Judged s.judgeEmergency := by
  have hall (l : List Nat) {f : State → Nat → State} (hf : ∀ s n, State.Judged s (f s n)) (s : State) : s.Judged (l.foldl f s) := by
    induction l generalizing s with
    | nil => exact .refl s
    | cons n r ih => exact (hf s n).trans (ih _)
  refine hall _ (fun s n => ?_) s
  dsimp only
  split
  · exact (s.setEmergency_judged n).trans (State.judged_of_power ⟨_, _, _, rfl⟩)
  · split
    · exact State.judged_of_power ⟨_, _, _, rfl⟩
    · exact .refl s

theorem State.settleIsland_judged (s : State) : s.Judged s.settleIsland := by
  have htrip : s.Judged s.judgeTrip := State.judged_of_power ⟨_, _, _, rfl⟩
  have hhold (u : State) : u.Judged u.judgeHoldUp := State.judged_of_power ⟨_, _, _, rfl⟩
  have hpins (u : State) : u.Judged u.showPins :=
    ⟨(Keeps.of_parts (l := [.pins]) (by rw [unchangedBut_iff]; simp [State.showPins]) (by decide)).mono (by decide), ⟨_, _, _, rfl⟩, fun _ h => h⟩
  exact ((htrip.trans (State.judgeEmergency_judged _)).trans (hhold _)).trans (hpins _)

theorem State.settleIsland_keeps (s : State) : Keeps islandParts islandObjs s s.settleIsland := s.settleIsland_judged.1

theorem State.settleIsland_power (s : State) : s.power.alike s.settleIsland.power := s.settleIsland_judged.2.1

/-- TRIP_N shows whether the panel has tripped. -/
theorem State.settleIsland_tripN (s : State) : s.settleIsland.pins.tripN = s.power.tripped := by
  obtain ⟨g, c, k, h⟩ := s.settleIsland_power
  have hshown : s.settleIsland.pins.tripN = s.settleIsland.power.tripped := rfl
  rw [hshown, h]

/-- An emergency whose cause is an instant has its bit set. -/
theorem State.pulseEmergency_judged (s : State) (n : Nat) :
    s.Judged (s.pulseEmergency n) ∧ bitGet ((s.pulseEmergency n).obj .P0C0C 0) n = true := by
  refine ⟨(s.setEmergency_judged n).trans (State.judged_of_power ⟨_, _, _, rfl⟩), ?_⟩
  have hbits : (s.pulseEmergency n).obj .P0C0C 0 = (s.setEmergency n).obj .P0C0C 0 := rfl
  rw [hbits, State.setEmergency_bits, bitGet_bitSet, if_pos rfl]

end Sys2Proof.Machine
end

section
/-!
What lanes, links, lamp dies, I/O dies, fields and sites change when supply or light goes (R192, R206, R213, R309, R345, R376, R400), as frames.
-/

namespace Sys2Proof.Machine

/-! ### Lanes (R192) -/

theorem State.enterLane_keeps (s : State) (n st : Nat) : Keeps [.objs, .lanes, .log] [.L0806] s (s.enterLane n st) := by
  have hlane (u : State) (l : Lane) : Keeps [.lanes] [] u (u.setLane n l) := .of_parts (by rw [unchangedBut_iff]; simp [State.setLane]) (by decide)
  exact (((s.setObj_keeps _ _ _).mono (by decide)).trans ((hlane _ _).mono (by decide))).trans ((State.raise_keeps _ _ _ _).mono (by decide))

theorem State.showTreeLanes_keeps (s : State) (i e : Nat) (lit : Bool) : Keeps [.objs, .lanes, .log] [.L0806] s (s.showTreeLanes i e lit) :=
  .foldl (fun s _ => .ite (.ite (s.enterLane_keeps _ _) (.refl _ _ _)) (.ite (.refl _ _ _) (s.enterLane_keeps _ _))) _ s

theorem State.startLanes_keeps (s : State) (i : Nat) : Keeps [.objs, .lanes, .log] [.L0806] s (s.startLanes i) :=
  .foldl (fun s _ => s.showTreeLanes_keeps _ _ _) _ s

theorem State.setIod_keeps (s : State) (i : Nat) (d : Iod) : Keeps [.iods] [] s (s.setIod i d) := .of_parts (s.setIod_unchanged i d) (by decide)

theorem State.powerIod_keeps (s : State) (i : Nat) : Keeps [.iods, .objs, .lanes, .log] [.L0806] s (s.powerIod i) :=
  ((s.setIod_keeps _ _).mono (by decide)).trans ((State.startLanes_keeps _ _).mono (by decide))

/-! ### The frame of a loss -/

/-- The parts and objects that the loss of an I/O die, a lamp die or a field may change. -/
def lossParts : List Part :=
  [.objs, .log, .lanes, .links, .recovery, .ptp, .keeper, .compare, .units, .iods, .streams, .movers, .mem, .poison, .fields, .stations, .ramps,
    .splits, .lasers, .light, .shaken, .carryWanted, .urgent]
def lossObjs : List Obj := [.L0800, .L0803, .L0806, .L080D, .F0902, .F090D, .C0B00, .W0000, .W0002]

/-- What such a loss leaves alone. -/
def Lost (s t : State) : Prop := Keeps lossParts lossObjs s t

theorem Keeps.lost {l : List Part} {os : List Obj} {s t : State} (h : Keeps l os s t)
    (hsub : (∀ p ∈ l, p ∈ lossParts) ∧ ∀ o ∈ os, o ∈ lossObjs) : Lost s t := h.mono hsub

theorem unchangedBut.lost {l : List Part} {s t : State} (h : unchangedBut l s t) (hsub : ∀ p ∈ l, p ∈ lossParts ∧ p ≠ .objs) : Lost s t :=
  (Keeps.of_parts h fun hm => (hsub _ hm).2 rfl).lost ⟨fun p hp => (hsub p hp).1, fun _ ho => absurd ho List.not_mem_nil⟩

theorem Lost.refl (s : State) : Lost s s := Keeps.refl _ _ s

theorem Lost.trans {s t u : State} (h : Lost s t) (h' : Lost t u) : Lost s u := Keeps.trans h h'

theorem Lost.foldl {α : Type} {f : State → α → State} (h : ∀ s x, Lost s (f s x)) (xs : List α) (s : State) : Lost s (xs.foldl f s) :=
  Keeps.foldl h xs s

theorem Lost.ite {c : Prop} [Decidable c] {s t u : State} (ht : Lost s t) (hu : Lost s u) : Lost s (if c then t else u) := Keeps.ite ht hu

theorem State.raise_lost (s : State) (c u : Nat) (d : List Nat) : Lost s (s.raise c u d) := (s.raise_keeps _ _ _).lost (by decide)

theorem State.clearRange_lost (s : State) (lo hi : Nat) : Lost s (s.clearRange lo hi) :=
  unchangedBut.lost (l := [.mem, .poison]) (by rw [unchangedBut_iff]; simp [State.clearRange]) (by decide)

theorem State.setMover_lost (s : State) (p : Nat) (m : Mover) : Lost s (s.setMover p m) :=
  unchangedBut.lost (s.setMover_unchanged p m) (by decide)

/-! ### Links (R213, R283) -/

theorem State.ptpEnter_lost (s : State) (v : Nat) : Lost s (s.ptpEnter v) :=
  .ite (.refl _) (((s.setObj_keeps _ _ _).lost (by decide)).trans (State.raise_lost _ _ _ _))

theorem State.masterLost_lost (s : State) : Lost s s.masterLost := by
  have hptp (x : Ptp) : Lost s { s with ptp := x } := unchangedBut.lost (l := [.ptp]) (by rw [unchangedBut_iff]; simp) (by decide)
  exact .ite ((hptp _).trans (State.ptpEnter_lost _ _)) (hptp _)

theorem State.ptpPorts_lost (s : State) : Lost s s.ptpPorts := by
  have hports (u : State) : Lost u (if !((List.range 28).any (fun n => u.ptpUp n)) then u.ptpEnter ptpFree
      else if u.obj .C0B00 0 = ptpFree then u.ptpEnter ptpConverging else u) :=
    .ite (u.ptpEnter_lost _) (.ite (u.ptpEnter_lost _) (.refl u))
  have hmaster : Lost s (match s.ptp.master with
      | some n => if s.ptpUp n then s else s.masterLost
      | none => s) := by
    split
    · exact .ite (.refl s) s.masterLost_lost
    · exact .refl s
  exact hmaster.trans (hports _)

theorem State.setLink_lost (s : State) (n : Nat) (v : Link) : Lost s (s.setLink n v) :=
  unchangedBut.lost (l := [.links]) (by rw [unchangedBut_iff]; simp [State.setLink]) (by decide)

theorem State.enterLink_lost (s : State) (n st : Nat) : Lost s (s.enterLink n st) := by
  have hrecovery (u : State) (x : Recovery) : Lost u { u with recovery := x } :=
    unchangedBut.lost (l := [.recovery]) (by rw [unchangedBut_iff]; simp) (by decide)
  have hbreach (u : State) (b : Nat) : Lost u (u.linkBreach n b) := u.setLink_lost _ _
  have hplus (u : State) : Lost u (if n % 6 = 0 ∧ st ≠ linkDown then { u with recovery := { u.recovery with xPlusDown := false } } else u) :=
    .ite (hrecovery u _) (.refl u)
  have hshown := ((s.setObj_keeps .F0902 n st).lost (by decide)).trans (State.raise_lost _ evLinkState n [n, s.linkSt n, st, s.obj .F0903 n])
  exact .ite (.refl s) (((hshown.trans (hplus _)).trans (.ite (hbreach _ _) (.ite (hbreach _ _) (.refl _)))).trans (State.ptpPorts_lost _))

theorem State.dropLink_lost (s : State) (n : Nat) : Lost s (s.dropLink n) := (s.setLink_lost _ _).trans (State.enterLink_lost _ _ _)

/-! ### I/O dies (R345, R376) -/

theorem State.setUnit_lost (s : State) (u : Nat) (c : CtrlUnit) : Lost s (s.setUnit u c) := (s.setUnit_keeps _ _).lost (by decide)

theorem State.endLease_lost (s : State) (cause : Nat) : Lost s (s.endLease cause) := by
  have hlease (u : State) (x : Keeper) (y : Compare) : Lost u { u with keeper := x, compare := y } :=
    unchangedBut.lost (l := [.keeper, .compare]) (by rw [unchangedBut_iff]; simp) (by decide)
  have hrole (u : State) (k : Nat) : Lost u (if u.obj .W0000 k = cuActive then u.setObj .W0000 k cuResyncing else u) :=
    .ite ((u.setObj_keeps _ _ _).lost (by decide)) (.refl u)
  unfold State.endLease
  split
  · exact .refl s
  · exact (((s.raise_lost _ _ _).trans (hlease _ _ _)).trans (hrole _ _)).trans ((State.setObj_keeps _ _ _ _).lost (by decide))

theorem State.moveStreams_lost (s : State) (i : Nat) : Lost s (s.moveStreams i) := by
  have hstreams (u : State) (x : AMap Nat (Option Stream)) : Lost u { u with streams := x } :=
    unchangedBut.lost (l := [.streams]) (by rw [unchangedBut_iff]; simp) (by decide)
  exact .ite (.refl s) (((s.setIod_keeps _ _).lost (by decide)).trans (hstreams _ _))

theorem State.iodOff_lost (s : State) (i : Nat) : Lost s (s.iodOff i) := by
  have hkeeper (u : State) (x : Keeper) : Lost u { u with keeper := x } :=
    unchangedBut.lost (l := [.keeper]) (by rw [unchangedBut_iff]; simp) (by decide)
  have hlinks := s.moveStreams_lost i |>.trans (Lost.foldl (fun s d => s.dropLink_lost (6 * i + d)) (List.range 6) _)
  have hdark (u : State) : Lost u ((((u.setIod i Iod.reset).setObj .F090D i 0).startLanes i)) :=
    (((u.setIod_keeps _ _).lost (by decide)).trans ((State.setObj_keeps _ _ _ _).lost (by decide))).trans ((State.startLanes_keeps _ _).lost (by decide))
  unfold State.iodOff
  dsimp only
  have hoff := (hlinks.trans (hdark _)).trans ((State.setMover_lost _ (portOfIod i) { chans := [], stop := none, settled := true }).trans
    (State.clearRange_lost _ (landingAddr i 0) (landingAddr (i + 1) 0)))
  split
  · exact ((hoff.trans (.ite (State.endLease_lost _ _) (.refl _))).trans (hkeeper _ _)).trans
      ((State.setUnit_lost _ _ _).trans ((State.setObj_keeps _ _ _ _).lost (by decide)))
  · exact hoff

/-! ### Lamp dies (R206, R207) -/

theorem State.setLight_lost (s : State) (set w : Nat) (v : LightSrc) : Lost s (s.setLight set w v) := by
  have hlight : Lost s { s with light := mapSet s.light (set, w) v, shaken := mapSet s.shaken set s.time } :=
    unchangedBut.lost (l := [.light, .shaken]) (by rw [unchangedBut_iff]; simp) (by decide)
  have hbundles (u : State) (tree plane : Nat) : Lost u ((treePorts tree).foldl (fun (s : State) p => s.showBundle p plane) u) :=
    .foldl (fun s _ => (s.setObj_keeps _ _ _).lost (by decide)) _ u
  have hlamp (u : State) (die : Nat) : Lost u (u.showLamp die) := .ite (.refl u) ((u.setObj_keeps _ _ _).lost (by decide))
  have hbase (u : State) : Lost u (match baseTree set with
      | some (plane, tree) => (treePorts tree).foldl (fun (s : State) p => s.showBundle p plane) u
      | none => u) := by
    split
    · exact hbundles u _ _
    · exact .refl u
  have hext (u : State) : Lost u (match extTree set with
      | some (i, e, alt) => if alt then u else u.showTreeLanes i e (decide (v ≠ LightSrc.dark))
      | none => u) := by
    split
    · exact .ite (.refl u) ((u.showTreeLanes_keeps _ _ _).lost (by decide))
    · exact .refl u
  exact ((hlight.trans (hbase _)).trans (hext _)).trans (hlamp _ _)

theorem State.setLaser_lost (s : State) (n : Nat) (v : Laser) : Lost s (s.setLaser n v) :=
  unchangedBut.lost (l := [.lasers]) (by rw [unchangedBut_iff]; simp [State.setLaser]) (by decide)

theorem State.beginSplit_lost (s : State) (set w : Nat) (atOnce : Bool) : Lost s (s.beginSplit set w atOnce) :=
  .ite (.refl s) (unchangedBut.lost (l := [.ramps, .splits]) (by rw [unchangedBut_iff]; simp [State.rampPower]) (by decide))

theorem State.wantCarry_lost (s : State) (set w : Nat) (now : Bool) : Lost s (s.wantCarry set w now) := by
  have hwant (u : State) (x y : List (Nat × Nat)) : Lost u { u with carryWanted := x, urgent := y } :=
    unchangedBut.lost (l := [.carryWanted, .urgent]) (by rw [unchangedBut_iff]; simp) (by decide)
  exact .ite (.refl s) (Lost.trans (.ite (.refl s) (s.beginSplit_lost _ _ _)) (hwant _ _ _))

theorem State.armReserve_lost (s : State) (set w : Nat) : Lost s (s.armReserve set w) :=
  .ite (.refl s) (.ite (.ite (.refl s) ((s.raise_lost _ _ _).trans (State.wantCarry_lost _ _ _ _)))
    ((s.setLaser_lost _ _).trans (State.raise_lost _ _ _ _)))

theorem State.loseLamp_lost (s : State) (die cause : Nat) : Lost s (s.loseLamp die cause) := by
  have hramps (u : State) (x : AMap Nat (CalVal × Bool)) (y : AMap (Nat × Nat) CalVal) : Lost u { u with ramps := x, splits := y } :=
    unchangedBut.lost (l := [.ramps, .splits]) (by rw [unchangedBut_iff]; simp) (by decide)
  have hreserves (u : State) : Lost u ((List.range 5).foldl (fun s w => s.setObj .L0803 (5 * die + w) 0xFF) u) :=
    .foldl (fun s _ => (s.setObj_keeps _ _ _).lost (by decide)) _ u
  have hlost := (((s.setObj_keeps .L0800 die 2).lost (by decide)).trans (State.raise_lost _ evLampDieLost die [cause])).trans (hreserves _)
  refine .ite (.refl s) ((hlost.trans (hramps _ _ _)).trans (.foldl (fun s i => .foldl (fun s w => ?_) _ s) _ _))
  dsimp only
  have hlaser (n : Nat) : Lost s (if (s.laser n).armed then s.setLaser n { s.laser n with armed := false } else s) := .ite (s.setLaser_lost _ _) (.refl s)
  have hown (u : State) : Lost u (if u.lightOf (6 * die + i) w = .carry then u else if isAlternate (6 * die + i) then u.setLight (6 * die + i) w .dark
      else (u.setLight (6 * die + i) w .dark).wantCarry (6 * die + i) w true) :=
    .ite (.refl u) (.ite (u.setLight_lost _ _ _) ((u.setLight_lost _ _ _).trans (State.wantCarry_lost _ _ _ _)))
  have hcarried (u : State) (n : Nat) : Lost u (if u.lightOf n w = .carry then
      (if (u.setLight n w .dark).reserveBusy (n / 6) w then u.setLight n w .dark else (u.setLight n w .dark).armReserve n w) else u) :=
    .ite (.ite (u.setLight_lost _ _ _) ((u.setLight_lost _ _ _).trans (State.armReserve_lost _ _ _))) (.refl u)
  exact ((hlaser _).trans (hown _)).trans (hcarried _ _)

/-! ### Fields (R400) -/

theorem State.fieldOff_lost (s : State) (f : Nat) : Lost s (s.fieldOff f) := by
  have hfield (u : State) (x : Field) : Lost u (u.setField f x) := unchangedBut.lost (u.setField_unchanged f x) (by decide)
  exact ((s.clearRange_lost _ _).trans (hfield _ _)).trans (.foldl (fun s p => unchangedBut.lost (s.setStation_unchanged p _) (by decide)) _ _)

end Sys2Proof.Machine
end

section
/-!
Zones: what their sites, fields and dies lose when the supply goes, and what comes up when it returns (R293, R304, R309, R421).
-/

namespace Sys2Proof.Machine

/-! ### A site without supply (R304) -/

/-- What every rail of a site off leaves of it. -/
def Site.withoutSupply (q : Site) : Site := { Site.reset with usable := q.usable, mapOut := q.mapOut, tripped := q.tripped, retest := q.retest }

theorem State.siteOff_site (s : State) (p q : Nat) : (s.siteOff p).site q = if q = p then (s.site p).withoutSupply else s.site q :=
  mapGet_mapSet _ _ _ _ _

theorem State.siteOff_mover (s : State) (p : Nat) : ((s.siteOff p).mover p).chans = [] := congrArg Mover.chans (mapGet_mapSet_same _ _ _ _)

/-- The parts and objects that go with a site's rails. -/
def siteOffParts : List Part := [.mem, .poison, .sites, .movers, .tiles, .cols, .layers, .gates, .objs]
def siteOffObjs : List Obj := [.C0B06, .P0C0D, .M0504, .M050F]

theorem State.siteOff_keeps (s : State) (p : Nat) : Keeps siteOffParts siteOffObjs s (s.siteOff p) := by
  have hparts {u v : State} (h : unchangedBut [.mem, .poison, .sites, .movers, .tiles, .cols, .layers, .gates] u v) : Keeps siteOffParts siteOffObjs u v :=
    (Keeps.of_parts h (by decide)).mono (by decide)
  have hclear (u : State) (lo hi : Nat) : Keeps siteOffParts siteOffObjs u (u.clearRange lo hi) :=
    hparts (by rw [unchangedBut_iff]; simp [State.clearRange])
  have hunits (u : State) (x : Site) (m : Mover) : Keeps siteOffParts siteOffObjs u ((u.setSite p x).setMover p m) :=
    hparts (by rw [unchangedBut_iff]; simp [State.setSite, State.setMover])
  have hlists (u : State) (w : AMap (Nat × Nat) Tile) (x : AMap (Nat × Nat) VaultCol) (y : AMap (Nat × Nat) Layer) (z : AMap (Nat × Nat) Gate) :
      Keeps siteOffParts siteOffObjs u { u with tiles := w, cols := x, layers := y, gates := z } := hparts (by rw [unchangedBut_iff]; simp)
  have hshow (u : State) (o : Obj) (ho : o ∈ siteOffObjs) : Keeps siteOffParts siteOffObjs u (u.setObj o p 0) :=
    (u.setObj_keeps o p 0).mono ⟨by decide, fun _ h => List.mem_singleton.mp h ▸ ho⟩
  have hshown (u : State) : Keeps siteOffParts siteOffObjs u ((((u.setObj .C0B06 p 0).setObj .P0C0D p 0).setObj .M0504 p 0).setObj .M050F p 0) :=
    (((hshow _ _ (by decide)).trans (hshow _ _ (by decide))).trans (hshow _ _ (by decide))).trans (hshow _ _ (by decide))
  exact ((((hclear s _ _).trans (hclear _ _ _)).trans (hunits _ _ _)).trans (hlists _ _ _ _ _)).trans (hshown _)

theorem State.showSpare_keeps (s : State) (p v : Nat) : Keeps [.objs] [.X0F02] s (s.showSpare p v) := by
  unfold State.showSpare
  split
  · exact s.setObj_keeps _ _ _
  · exact .refl _ _ s

theorem State.siteLost_keeps (s : State) (p : Nat) : Keeps siteOffParts (.X0F02 :: siteOffObjs) s (s.siteLost p) := by
  have hsite (q : Site) : Keeps [.sites] [] s (s.setSite p q) := .of_parts (s.setSite_unchanged p q) (by decide)
  have hspare (u : State) (b : Bool) : Keeps [.objs] [.X0F02] u (if u.obj .B0601 p = portDormant ∧ !b then u.showSpare p 3 else u) :=
    .ite (u.showSpare_keeps _ _) (.refl _ _ u)
  exact (((hsite _).mono (by decide)).trans ((hspare _ _).mono (by decide))).trans ((State.siteOff_keeps _ _).mono (by decide))

/-- No site gains supply from the loss of another. -/
theorem State.siteLost_powered (s : State) (p q : Nat) (h : q = p ∨ (s.site q).powered = false) : ((s.siteLost p).site q).powered = false := by
  unfold State.siteLost
  dsimp only
  rw [State.siteOff_site]
  split
  · rfl
  · next hne =>
    have hspare (u : State) (c : Prop) [Decidable c] : (if c then u.showSpare p 3 else u).site q = u.site q :=
      (Keeps.ite (u.showSpare_keeps _ _) (.refl _ _ u)).1.site (by decide) q
    rw [hspare, State.site_setSite_ne _ _ hne]
    exact h.resolve_left hne

/-! ### A zone without supply (R293, R309) -/

/-- The parts and objects that go with a zone's supply. -/
def zoneParts : List Part := lossParts ++ siteOffParts
def zoneObjs : List Obj := lossObjs ++ .X0F02 :: siteOffObjs

/-- Without supply a zone's sites go first, and then its fields, its resets, its I/O die and its lamp dies. -/
theorem State.zoneDown_lost (s : State) (z : Nat) :
    Lost ((zonePorts z).foldl (fun s p => if isSite p then s.siteLost p else s) s) (s.zoneDown z) := by
  have hfields (u : State) : Lost u ((zoneFields z).foldl (fun s f => s.fieldOff f) u) := .foldl (fun s f => s.fieldOff_lost f) _ u
  have hresets (u : State) (x : Recovery) : Lost u { u with recovery := x } :=
    unchangedBut.lost (l := [.recovery]) (by rw [unchangedBut_iff]; simp) (by decide)
  have hlamps (u : State) (l : List Nat) : Lost u (l.foldl (fun s d => s.loseLamp d 1) u) := .foldl (fun s d => s.loseLamp_lost d 1) l u
  unfold State.zoneDown
  dsimp only
  split
  · exact ((hfields _).trans (hresets _ _)).trans ((State.iodOff_lost _ _).trans (hlamps _ _))
  · exact (hfields _).trans (hresets _ _)

theorem State.zoneDown_keeps (s : State) (z : Nat) : Keeps zoneParts zoneObjs s (s.zoneDown z) := by
  have hsites := Keeps.foldl (fun s p => Keeps.ite (c := isSite p) (s.siteLost_keeps p) (.refl _ _ s)) (zonePorts z) s
  exact (hsites.mono (by decide)).trans (Keeps.mono (s.zoneDown_lost z) (by decide))

theorem State.zoneDown_powered (s : State) {z p : Nat} (hp : p ∈ zonePorts z) (hsite : isSite p = true) : ((s.zoneDown z).site p).powered = false := by
  have hfold (l : List Nat) (s : State) (h : p ∈ l ∨ (s.site p).powered = false) :
      ((l.foldl (fun s p => if isSite p then s.siteLost p else s) s).site p).powered = false := by
    induction l generalizing s with
    | nil => exact h.resolve_left List.not_mem_nil
    | cons q r ih =>
      refine ih _ ?_
      dsimp only
      rcases h with h | h
      · rcases List.mem_cons.mp h with rfl | h
        · rw [if_pos hsite]
          exact .inr (s.siteLost_powered p p (.inl rfl))
        · exact .inl h
      · split
        · exact .inr (s.siteLost_powered q p (.inr h))
        · exact .inr h
  rw [(s.zoneDown_lost z).1.site (by decide)]
  exact hfold _ _ (.inl hp)

/-! ### The return of a zone (R421) -/

theorem State.bringUp_keeps (s : State) (r lo hi : Nat) : Keeps [.heat, .objs] [.T0126] s (s.bringUp r lo hi) := by
  have hheat (x : Heat) : Keeps [.heat] [] s { s with heat := x } := .of_parts (by rw [unchangedBut_iff]; simp) (by decide)
  exact .ite (((hheat _).mono (by decide)).trans ((State.setObj_keeps _ _ _ _).mono (by decide))) ((hheat _).mono (by decide))

/-- A zone that returns reads on, its repeaters realign, and then only its spares, its I/O die and its control unit follow. -/
theorem State.zoneReturn_realigning (s : State) (z : Nat) : ∃ u : State, Keeps [.heat, .objs] [.T0126] (s.setObj .P0C06 z zoneIsOn) u ∧
    Keeps [.objs, .iods, .lanes, .log] [.X0F02, .L0806, .W0000]
      { u with power := { u.power with realigning := z :: u.power.realigning.filter (fun x => x != z) } } (s.zoneReturn z) := by
  refine ⟨_, .foldl (fun s p => s.bringUp_keeps p 0 32) (zonePorts z) _, ?_⟩
  have hspares (u : State) : Keeps [.objs] [.X0F02] u ((zonePorts z).foldl (fun s p =>
      if isSite p ∧ !(s.site p).retest ∧ (s.site p).usable ∧ s.obj .B0601 p = portDormant then s.showSpare p 0 else s) u) :=
    .foldl (fun s p => .ite (s.showSpare_keeps _ _) (.refl _ _ s)) _ u
  unfold State.zoneReturn
  dsimp only
  split
  · split
    · exact (((hspares _).mono (by decide)).trans ((State.powerIod_keeps _ _).mono (by decide))).trans ((State.setObj_keeps _ _ _ _).mono (by decide))
    · exact ((hspares _).mono (by decide)).trans ((State.powerIod_keeps _ _).mono (by decide))
  · exact (hspares _).mono (by decide)

/-! ### Every zone off (R306) -/

theorem State.allOff_stage (s : State) : s.allOff.startup.stage = 0 := rfl

theorem State.obj_foldl_setObj (s : State) (o : Obj) (v : Nat) (l : List Nat) (i : Nat) :
    (l.foldl (fun s i => s.setObj o i v) s).obj o i = if i ∈ l then v else s.obj o i := by
  induction l generalizing s with
  | nil => rfl
  | cons j r ih =>
    rw [List.foldl_cons, ih]
    by_cases hr : i ∈ r
    · rw [if_pos hr, if_pos (List.mem_cons_of_mem j hr)]
    · by_cases hj : i = j
      · rw [if_neg hr, hj, State.obj_setObj, if_pos List.mem_cons_self]
      · rw [if_neg hr, State.obj_setObj_ne _ _ (.inr hj), if_neg fun h => (List.mem_cons.mp h).elim hj hr]

theorem State.allOff_zone (s : State) {z : Nat} (h : z < 16) : s.allOff.obj .P0C06 z = zoneIsOff := by
  have hrest (v : State) (a : Startup) (b : AMap Nat (Option Stream)) (c : AMap (Nat × Nat) (Option Wave)) (d : List Instr) (p : Power) :
      State.obj { v with startup := a, streams := b, waves := c, kept := d, power := p } .P0C06 z = v.obj .P0C06 z := rfl
  exact (hrest _ _ _ _ _ _).trans ((State.obj_foldl_setObj _ _ _ _ _).trans (if_pos (List.mem_range.mpr h)))

end Sys2Proof.Machine
end

section
/-!
A reading of one sensor (R113, R299 to R302): what the judgements that follow it keep of the sensor, of the sites and of what is powered.
-/

namespace Sys2Proof.Machine

/-- A later state of a sensor that has not been read again: its value stays, and it is no less sampled and no less broken. -/
def Sensor.after (v w : Sensor) : Prop :=
  w.centi = v.centi ∧ w.misses = v.misses ∧ (v.sampled = true → w.sampled = true) ∧ (v.broken = true → w.broken = true)

theorem Sensor.after.refl (v : Sensor) : v.after v := ⟨rfl, rfl, id, id⟩

theorem Sensor.after.trans {u v w : Sensor} (h : u.after v) (h' : v.after w) : u.after w := by
  obtain ⟨hc, hm, hs, hb⟩ := h
  obtain ⟨hc', hm', hs', hb'⟩ := h'
  exact ⟨hc'.trans hc, hm'.trans hm, hs' ∘ hs, hb' ∘ hb⟩

/-- The parts and objects that the judgement of a reading may change. -/
def judgeParts : List Part := [.objs, .heat, .log, .boxes, .out, .cols, .tiles, .sites, .markets, .withdrawing, .iods, .lanes]
def judgeObjs : List Obj := [.M050D, .M0504, .T0120, .T0121, .T0126, .T012B, .D0A08, .L0806]

/-- What the judgement of a reading keeps: the sensor, the trips that are due, and which sites and I/O dies have supply. -/
structure State.Judging (r k : Nat) (s t : State) : Prop where
  keeps : Keeps judgeParts judgeObjs s t
  sensor : (s.sensor r k).after (t.sensor r k)
  due : t.heat.tripDue = s.heat.tripDue
  sites : ∀ p, (t.site p).powered = (s.site p).powered ∧ (t.site p).tripped = (s.site p).tripped
  iods : ∀ i, (s.iod i).powered = true → (t.iod i).powered = true

namespace State.Judging
variable {r k : Nat} {s t u : State}

theorem refl (s : State) : s.Judging r k s := ⟨.refl _ _ _, .refl _, rfl, fun _ => ⟨rfl, rfl⟩, fun _ h => h⟩

theorem trans (h : s.Judging r k t) (h' : t.Judging r k u) : s.Judging r k u :=
  ⟨h.keeps.trans h'.keeps, h.sensor.trans h'.sensor, h'.due.trans h.due,
    fun p => ⟨(h'.sites p).1.trans (h.sites p).1, (h'.sites p).2.trans (h.sites p).2⟩, fun i hi => h'.iods i (h.iods i hi)⟩

theorem foldl {α : Type} {f : State → α → State} (h : ∀ s x, State.Judging r k s (f s x)) (xs : List α) (s : State) :
    s.Judging r k (xs.foldl f s) := by
  induction xs generalizing s with
  | nil => exact .refl s
  | cons x l ih => exact (h s x).trans (ih _)

theorem ite {c : Prop} [Decidable c] (ht : s.Judging r k t) (hu : s.Judging r k u) : s.Judging r k (if c then t else u) :=
  iteInduction (motive := s.Judging r k) (fun _ => ht) (fun _ => hu)

/-- A change of the sensors that keeps this one, and of nothing else of heat, sites and I/O dies. -/
theorem of_sensor {l : List Part} {os : List Obj} (h : Keeps l os s t) (hsensor : (s.sensor r k).after (t.sensor r k))
    (hdue : t.heat.tripDue = s.heat.tripDue) (hsub : (∀ p ∈ l, p ∈ judgeParts ∧ p ≠ .sites ∧ p ≠ .iods) ∧ ∀ o ∈ os, o ∈ judgeObjs) :
    s.Judging r k t := by
  obtain ⟨hl, hos⟩ := hsub
  have hsites (p : Nat) : t.site p = s.site p := h.1.site (fun hm => (hl _ hm).2.1 rfl) p
  have hiods : t.iods = s.iods := h.1 .iods fun hm => (hl _ hm).2.2 rfl
  refine ⟨h.mono ⟨fun p hp => (hl p hp).1, hos⟩, hsensor, hdue, fun p => ?_, fun i hi => ?_⟩
  · rw [hsites]
    exact ⟨rfl, rfl⟩
  · rw [State.iod, hiods]
    exact hi

/-- A change that leaves heat, sites and I/O dies alone. -/
theorem of_keeps {l : List Part} {os : List Obj} (h : Keeps l os s t)
    (hsub : (∀ p ∈ l, p ∈ judgeParts ∧ p ≠ .sites ∧ p ≠ .iods ∧ p ≠ .heat) ∧ ∀ o ∈ os, o ∈ judgeObjs) : s.Judging r k t := by
  obtain ⟨hl, hos⟩ := hsub
  have e : t.heat = s.heat := h.1 .heat fun hm => (hl _ hm).2.2.2 rfl
  have hsensor : t.sensor r k = s.sensor r k := by simp only [State.sensor, e]
  exact of_sensor h (hsensor ▸ .refl _) (congrArg Heat.tripDue e)
    ⟨fun p hp => ⟨(hl p hp).1, (hl p hp).2.1, (hl p hp).2.2.1⟩, hos⟩

/-- A change of heat that is not one of its sensors or of the trips due. -/
theorem of_heat (x : Heat) (hs : x.sensors = s.heat.sensors) (hd : x.tripDue = s.heat.tripDue) : s.Judging r k { s with heat := x } := by
  have hsensor : State.sensor { s with heat := x } r k = s.sensor r k := by simp only [State.sensor, hs]
  exact of_sensor (.of_parts (l := [.heat]) (by rw [unchangedBut_iff]; simp) (by decide)) (hsensor ▸ .refl _) hd (by decide)

theorem setSite (s : State) (p : Nat) {q : Site} (hp : q.powered = (s.site p).powered) (ht : q.tripped = (s.site p).tripped) :
    s.Judging r k (s.setSite p q) := by
  refine ⟨(Keeps.of_parts (s.setSite_unchanged p q) (by decide)).mono (by decide), .refl _, rfl, fun n => ?_, fun _ h => h⟩
  by_cases h : n = p
  · rw [h, State.site_setSite]
    exact ⟨hp, ht⟩
  · rw [State.site_setSite_ne _ _ h]
    exact ⟨rfl, rfl⟩

theorem setSensor (s : State) (r' k' : Nat) {v : Sensor} (h : (s.sensor r' k').after v) : s.Judging r k (s.setSensor r' k' v) := by
  refine of_sensor (.of_parts (s.setSensor_unchanged r' k' v) (by decide)) ?_ rfl (by decide)
  have e : (s.setSensor r' k' v).sensor r k = if (r, k) = (r', k') then v else s.sensor r k := mapGet_mapSet _ _ _ _ _
  rw [e]
  split
  · next hk =>
    obtain ⟨rfl, rfl⟩ := Prod.mk.injEq .. ▸ hk
    exact h
  · exact .refl _

/-- A sensor that was powered still is. -/
theorem powered (h : s.Judging r k t) (hp : s.sensorPowered r k = true) : t.sensorPowered r k = true := by
  have hzone (z : Nat) : t.zoneOn z = s.zoneOn z := by simp only [State.zoneOn, h.keeps.obj .P0C06 _ (by decide)]
  have hpower : t.power = s.power := h.keeps.1 .power (by decide)
  have hlamp (n : Nat) : t.lampLost n = s.lampLost n := by simp only [State.lampLost, h.keeps.obj .L0800 _ (by decide)]
  unfold State.sensorPowered at hp ⊢
  simp only [hzone, hpower, hlamp, (h.sites r).1, h.keeps.obj .B0600 _ (by decide), Bool.and_eq_true] at hp ⊢
  refine ⟨hp.1, ?_⟩
  have hlast := hp.2
  split
  · next hr =>
    rw [if_pos hr] at hlast
    split
    · next i hi =>
      simp only [hi, Bool.and_eq_true, Bool.or_eq_true] at hlast ⊢
      exact ⟨hlast.1, hlast.2.imp_right (h.iods i)⟩
    · next hi => simpa only [hi] using hlast
  · next hr => rwa [if_neg hr] at hlast

end State.Judging

/-! ### Sensors that break (R113, R300) -/

theorem State.raise_judging (s : State) (r k c u : Nat) (d : List Nat) : s.Judging r k (s.raise c u d) := .of_keeps (s.raise_keeps _ _ _) (by decide)

theorem State.breakSensor_judging (s : State) (r k r' k' cause : Nat) : s.Judging r k (s.breakSensor r' k' cause) := by
  have hcount (u : State) : u.Judging r k (if r' < 128 then u.bump .T0126 r' 1 else u) := .ite (.of_keeps (u.bump_keeps _ _ _) (by decide)) (.refl u)
  have hset : s.Judging r k (s.setSensor r' k' { s.sensor r' k' with broken := true, sampled := true }) :=
    .setSensor s r' k' ⟨rfl, rfl, fun _ => rfl, fun _ => rfl⟩
  exact .ite (.refl s) ((hset.trans (hcount _)).trans (State.raise_judging _ _ _ _ _ _))

/-- A sensor that is broken reads so. -/
theorem State.breakSensor_broken (s : State) (r k cause : Nat) : ((s.breakSensor r k cause).sensor r k).broken = true := by
  have hset : (s.setSensor r k { s.sensor r k with broken := true, sampled := true }).Judging r k
      ((if r < 128 then (s.setSensor r k { s.sensor r k with broken := true, sampled := true }).bump .T0126 r 1
        else s.setSensor r k { s.sensor r k with broken := true, sampled := true }).raise evSensorBroken r [r, k, cause]) :=
    (State.Judging.ite (.of_keeps (State.bump_keeps _ _ _ _) (by decide)) (.refl _)).trans (State.raise_judging _ _ _ _ _ _)
  obtain ⟨-, -, -, hbroken⟩ := hset.sensor
  unfold State.breakSensor
  split
  · assumption
  · exact hbroken (congrArg Sensor.broken (mapGet_mapSet_same _ _ _ _))

theorem State.judgeStuck_judging (s : State) (r k r' k' : Nat) : s.Judging r k (s.judgeStuck r' k') :=
  .ite (.setSensor s r' k' ⟨rfl, rfl, id, id⟩) (.ite (s.breakSensor_judging _ _ _ _ _) (.refl s))

theorem State.layerImplausible_judging (s : State) (r k p l n : Nat) (d : List Nat) : s.Judging r k (s.layerImplausible p l n d) :=
  .ite (.refl s) (((State.Judging.of_keeps (s.setBit_keeps _ _ _ _) (by decide)).trans (State.raise_judging _ _ _ _ _ _)).trans
    (.foldl (fun s _ => s.breakSensor_judging _ _ _ _ _) _ _))

theorem State.judgeLayer_judging (s : State) (r k p l n : Nat) : s.Judging r k (s.judgeLayer p l n) := by
  have hset (b : Nat) : s.Judging r k (s.setSensor p (6 + 6 * l + n) { s.sensor p (6 + 6 * l + n) with below := b }) :=
    .setSensor s _ _ ⟨rfl, rfl, id, id⟩
  exact .ite ((hset _).trans (State.layerImplausible_judging _ _ _ _ _ _ _)) (hset _)

/-! ### What a band changes (Table 12.5) -/

theorem State.withholdAll_keeps (s : State) (port a b : Nat) : Keeps [.markets] [] s (s.withholdAll port a b) :=
  .foldl (fun s plane => .of_parts (s.setMarket_unchanged plane _) (by decide)) _ s

theorem State.requestFreq_judging (s : State) (r k p mhz : Nat) : s.Judging r k (s.requestFreq p mhz) := by
  have hfreq (f : Option FreqChange) : s.Judging r k (s.setSite p { s.site p with freq := f }) := .setSite s p rfl rfl
  have hname (f : FreqChange) : s.Judging r k (s.nameFrame p f) := (hfreq _).trans (.of_keeps (State.withholdAll_keeps _ _ _ _) (by decide))
  have hbegin (m : Nat) : s.Judging r k (s.beginFreq p m) := .ite (.setSite s p rfl rfl) (hname _)
  unfold State.requestFreq
  dsimp only
  refine .ite (.refl s) ?_
  split
  · exact .ite (.refl s) (hbegin _)
  · exact .ite (hfreq _) (.ite (hbegin _) (hfreq _))

theorem State.markHot_judging (s : State) (r k p : Nat) : s.Judging r k (s.markHot p) :=
  (State.Judging.setSite s p (q := { s.site p with retest := true }) rfl rfl).trans (.of_heat _ rfl rfl)

theorem State.orderly_keeps (s : State) (port : Nat) : Keeps [.withdrawing] [] s (s.orderly port) :=
  .ite (.of_parts (by rw [unchangedBut_iff]; simp) (by decide)) (.refl _ _ s)

theorem State.bandColumns_keeps (s : State) (p : Nat) : Keeps [.cols, .objs] [.M0504] s (s.bandColumns p) := by
  have haccrued : Keeps [.cols] [] s (s.accrueSite p) := .of_parts (s.accrueSite_unchanged p) (by decide)
  have hscales (u : State) : Keeps [.objs] [.M0504] u (u.setScales p) := ⟨u.setScales_unchanged p, u.setScales_objs p⟩
  have hretrim (u : State) : Keeps [.cols] [] u ((List.range 48).foldl (fun s n =>
      if (s.col p n).powered then s.setCol p n { s.col p n with retrimWant := [0, 1, 2, 3] } else s) u) :=
    .foldl (fun s n => .ite (.of_parts (s.setCol_unchanged _ _ _) (by decide)) (.refl _ _ s)) _ u
  exact ((haccrued.mono (by decide)).trans ((hscales _).mono (by decide))).trans ((hretrim _).mono (by decide))

theorem State.refuseLocal_keeps (s : State) (p : Nat) : Keeps [.tiles] [] s (s.refuseLocal p) :=
  .foldl (fun s n => .ite (.refl _ _ s) (.of_parts (s.setTile_unchanged _ _ _) (by decide))) _ s

/-- An I/O die that starts brings up only sensors that were not powered. -/
theorem State.startIod_judging (s : State) {r k i : Nat} (hi : iodOfPort r = some i) (hp : s.sensorPowered r k = true) (hr : r < 112)
    (hoff : (s.iod i).powered = false) : s.Judging r k ((s.bringUp r 0 4).powerIod i) := by
  have hk : 4 ≤ k := by
    simp only [State.sensorPowered, if_pos hr, hi, hoff, Bool.and_eq_true, Bool.or_eq_true, decide_eq_true_eq] at hp
    simpa using hp.2.2
  have hsensor : (s.bringUp r 0 4).sensor r k = s.sensor r k := by
    have hkeep (l : AMap (Nat × Nat) Sensor) (d : Sensor) :
        mapGet d (l.filter (fun e => !(e.1.1 == r && decide (0 ≤ e.1.2) && decide (e.1.2 < 4)))) (r, k) = mapGet d l (r, k) := by
      induction l with
      | nil => rfl
      | cons e l ih =>
        obtain ⟨⟨r', k'⟩, v⟩ := e
        by_cases h : (r', k') = (r, k)
        · obtain ⟨rfl, rfl⟩ := Prod.mk.injEq .. ▸ h
          simp [mapGet, Nat.not_lt.mpr hk]
        · rw [List.filter_cons]
          split
          · simp only [mapGet, if_neg h, ih]
          · simp only [mapGet, if_neg h, ih]
    have hheat : (s.bringUp r 0 4).heat.sensors = s.heat.sensors.filter (fun e => !(e.1.1 == r && decide (0 ≤ e.1.2) && decide (e.1.2 < 4))) := by
      unfold State.bringUp
      dsimp only
      split <;> rfl
    rw [State.sensor, hheat]
    exact hkeep _ _
  have hdue : (s.bringUp r 0 4).heat.tripDue = s.heat.tripDue := by
    unfold State.bringUp
    dsimp only
    split <;> rfl
  have hup : s.Judging r k (s.bringUp r 0 4) := .of_sensor (s.bringUp_keeps r 0 4) (hsensor ▸ .refl _) hdue (by decide)
  have hiod (u : State) : u.Judging r k (u.setIod i { u.iod i with powered := true }) := by
    refine ⟨(u.setIod_keeps _ _).mono (by decide), .refl _, rfl, fun _ => ⟨rfl, rfl⟩, fun n hn => ?_⟩
    by_cases h : n = i
    · rw [h, State.iod_setIod]
    · rwa [State.iod_setIod_ne _ _ h]
  exact (hup.trans (hiod _)).trans (.of_keeps (State.startLanes_keeps _ _) (by decide))

theorem State.bandEffect_judging (s : State) {r k : Nat} (b : Nat) (hr : r < 112) (hp : s.sensorPowered r k = true) :
    s.Judging r k (s.bandEffect r b) := by
  have hcols (u : State) : u.Judging r k (u.bandColumns r) := .of_keeps (u.bandColumns_keeps r) (by decide)
  have hhot (u : State) : u.Judging r k (if b = bandB4 then ((u.refuseLocal r).orderly r).markHot r else u) :=
    .ite (((State.Judging.of_keeps (u.refuseLocal_keeps r) (by decide)).trans (.of_keeps (State.orderly_keeps _ _) (by decide))).trans
      (State.markHot_judging _ _ _ _)) (.refl u)
  have hslow (u : State) : u.Judging r k (if (u.site r).powered ∧ u.allowedMhz r ≠ u.obj .C0B06 r then u.requestFreq r (u.allowedMhz r) else u) :=
    .ite (u.requestFreq_judging _ _ _ _) (.refl u)
  unfold State.bandEffect
  rw [if_pos hr]
  split
  · next i hi =>
    refine .ite (.of_keeps (s.orderly_keeps r) (by decide)) (iteInduction (motive := s.Judging r k) (fun h => ?_) (fun _ => .refl s))
    exact s.startIod_judging hi hp hr (by simpa using h.2.1)
  · exact ((hcols s).trans (hhot _)).trans (hslow _)

/-- A port's region is judged with its powered sensor left as it was. -/
theorem State.judgeRegion_judging (s : State) {r k : Nat} (hr : r < 112) (hp : s.sensorPowered r k = true) : s.Judging r k (s.judgeRegion r) := by
  have htemp (u : State) (v : Nat) : u.Judging r k (if r < 128 then u.setObj .T0121 r v else u) :=
    .ite (.of_keeps (u.setObj_keeps _ _ _) (by decide)) (.refl u)
  have hshow (u : State) (b : Nat) : u.Judging r k (u.showBand r b) := by
    rw [State.showBand, if_pos (by omega)]
    exact .of_keeps (u.setObj_keeps _ _ _) (by decide)
  have hcount (u : State) : u.Judging r k (if r < 128 then u.bump .T012B r 1 else u) := .ite (.of_keeps (u.bump_keeps _ _ _) (by decide)) (.refl u)
  have heffect {u : State} (b : Nat) (h : s.Judging r k u) : s.Judging r k (u.bandEffect r b) := h.trans (u.bandEffect_judging b hr (h.powered hp))
  have hraise (u : State) (c : Bool) (d : List Nat) : u.Judging r k (if c then u.raise evTempSlew r d else u) := .ite (u.raise_judging _ _ _ _ _) (.refl u)
  have hchange {u : State} (hu : s.Judging r k u) (old b : Nat) (d d' : List Nat) : s.Judging r k (if decide (b = old) then u
      else if old = bandOff ∧ b = 0 then (u.showBand r b).bandEffect r b
      else (((if r < 128 then (u.showBand r b).bump .T012B r 1 else u.showBand r b).raise evBandChange r d).islandNotice 0 d').bandEffect r b) := by
    have hshown := hu.trans (hshow u b)
    refine .ite hu (.ite (heffect _ hshown) (heffect _ ?_))
    exact ((hshown.trans (hcount _)).trans (State.raise_judging _ _ _ _ _ _)).trans (.of_keeps (State.islandNotice_keeps _ _ _) (by decide))
  unfold State.judgeRegion
  split
  · exact .ite (.refl s) ((htemp s _).trans (hshow _ _))
  · next temp _ =>
    extract_lets u seen rise was heat v w old b
    have hu : s.Judging r k u := htemp s _
    have hv : u.Judging r k v := .of_heat v.heat rfl rfl
    have hw : v.Judging r k w := hraise v _ _
    exact hchange ((hu.trans hv).trans hw) old b _ _

end Sys2Proof.Machine
end

section
/-!
O42: sensors, trips, zones off for heat and emergencies (R146, R299 to R308, R412, R421).
-/

namespace Sys2Proof.Machine

/-! ### One reading (R299, R304) -/

/-- A trip that becomes due changes no sensor. -/
theorem State.markTrip_sensors (s : State) (p : Nat) : unchangedBut [.heat] s (s.markTrip p) ∧ (s.markTrip p).heat.sensors = s.heat.sensors := by
  unfold State.markTrip
  split
  · split
    · exact ⟨.refl _ s, rfl⟩
    · exact ⟨by rw [unchangedBut_iff]; simp, rfl⟩
  · exact ⟨.refl _ s, rfl⟩

/-- A sensor that reads 110 °C makes the trip of its stack due. -/
theorem State.markTrip_due {s : State} {p k : Nat} (hp : s.sensorPowered p k = true) (hs : (s.sensor p k).sampled = true) (hx : 11000 ≤ s.reads p k)
    (ht : (s.site p).tripped = false) : (s.markTrip p).heat.tripDue.any (fun e => e.1 == p) = true := by
  have hlive : k ∈ s.liveSensors p := by
    have hk : k < sensorCount p := by
      simp only [State.sensorPowered, Bool.and_eq_true, decide_eq_true_eq] at hp
      exact hp.1.1
    exact List.mem_filter.mpr ⟨List.mem_range.mpr hk, by rw [hp, hs, Bool.and_self]⟩
  have hset (l : AMap Nat (Nat × Int)) (v : Nat × Int) : (mapSet l p v).any (fun e => e.1 == p) = true := by
    induction l with
    | nil => simp [mapSet]
    | cons e l ih =>
      rw [mapSet]
      split
      · simp
      · simp only [List.any_cons, ih, Bool.or_true]
  unfold State.markTrip
  split
  · split
    · next h => exact h.resolve_right (by rw [ht]; decide)
    · exact hset _ _
  · next h => exact absurd hx (by simpa using List.find?_eq_none.mp h k hlive)

/-- After one reading of a powered sensor of a port come the judgements of its region and its stack. -/
theorem exec_sensorSample_one {s : State} {r k : Nat} {x : Reading} (hr : r < 112) (hp : (s.takeReading r k x).sensorPowered r k = true) :
    ∃ u : State, (s.takeReading r k x).Judging r k u ∧
      exec (.sensorSample [((r, k), x)]) s = .next (if isSite r then u.markTrip r else u).settleIsland := by
  let v := (s.takeReading r k x).judgeStuck r k
  let w := ([r].filter (fun r => decide (r < 112) && isSite r && (v.site r).powered)).foldl (fun s p =>
    (List.range 3).foldl (fun s l => (List.range 6).foldl (fun s k => s.judgeLayer p l k) s) s) v
  have hv : (s.takeReading r k x).Judging r k v := State.judgeStuck_judging _ _ _ _ _
  have hw : v.Judging r k w := .foldl (fun s p => .foldl (fun s l => .foldl (fun s n => s.judgeLayer_judging r k p l n) _ s) _ s) _ v
  refine ⟨w.judgeRegion r, (hv.trans hw).trans (w.judgeRegion_judging hr ((hv.trans hw).powered hp)), ?_⟩
  have hone : distinct (List.map (fun x => x.1.1) [((r, k), x)]) = [r] := rfl
  have hcool : (r != regCoolant) = true := by simp only [regCoolant, bne_iff_ne, ne_eq]; omega
  have hno : [r].contains regCoolant = false := by simp only [regCoolant, List.contains_cons, List.contains_nil, Bool.or_false, beq_eq_false_iff_ne]; omega
  change execSensorSample [((r, k), x)] s = _
  unfold execSensorSample
  dsimp only
  rw [hone, hno, List.filter_cons_of_pos (p := fun r => r != regCoolant) hcool]
  have hmark (u : State) : ([r].filter isSite).foldl (fun s p => s.markTrip p) u = if isSite r then u.markTrip r else u := by
    cases hsite : isSite r with
    | true => rw [List.filter_cons_of_pos hsite]; rfl
    | false => rw [List.filter_cons_of_neg (by rw [hsite]; decide)]; rfl
  rw [Bool.not_false, if_pos rfl, hmark]
  rfl

/-- What one reading of a powered sensor of a port leaves: the sensor as it was read, time and memory. -/
theorem exec_sensorSample_sensor {s : State} {r k : Nat} {x : Reading} (hr : r < 112) (hp : (s.takeReading r k x).sensorPowered r k = true) :
    ∃ t : State, exec (.sensorSample [((r, k), x)]) s = .next t ∧ ((s.takeReading r k x).sensor r k).after (t.sensor r k) ∧
      t.time = (s.takeReading r k x).time ∧ sameMemory (s.takeReading r k x) t := by
  obtain ⟨u, hu, hexec⟩ := exec_sensorSample_one hr hp
  have hmark : unchangedBut [.heat] u (if isSite r then u.markTrip r else u) ∧ (if isSite r then u.markTrip r else u).heat.sensors = u.heat.sensors := by
    split
    · exact u.markTrip_sensors r
    · exact ⟨.refl _ u, rfl⟩
  refine ⟨_, hexec, ?_⟩
  generalize (if isSite r then u.markTrip r else u) = v at hmark
  obtain ⟨hmark, hsensors⟩ := hmark
  have hsettled := v.settleIsland_keeps.1
  have hheat : v.settleIsland.heat = v.heat := hsettled .heat (by decide)
  have hsensor : v.settleIsland.sensor r k = u.sensor r k := by simp only [State.sensor, hheat, hsensors]
  have hframe : unchangedBut (judgeParts ++ .heat :: islandParts) (s.takeReading r k x) v.settleIsland :=
    ((hu.keeps.1.mono (by decide)).trans (hmark.mono (by decide))).trans (hsettled.mono (by decide))
  exact ⟨hsensor ▸ hu.sensor, hframe.time (by decide), hframe.memory (by decide) (by decide)⟩

/-- A fresh reading in range with good parity is the value of a powered sensor. -/
theorem State.takeReading_fresh {s : State} {r k : Nat} {x : Reading} (hp : s.sensorPowered r k = true) (hf : x.fresh = true) (hpar : x.parity = true)
    (hlo : -4000 ≤ x.centi) (hhi : x.centi ≤ 15000) : ∃ v : Sensor, s.takeReading r k x = s.setSensor r k v ∧ v.centi = x.centi ∧ v.misses = 0 ∧
      v.sampled = true := by
  have hrange : ¬(x.centi < -4000 ∨ 15000 < x.centi) := by omega
  unfold State.takeReading
  simp only [hp, hf, hpar, Bool.not_true, Bool.false_eq_true, if_false, if_neg hrange]
  exact ⟨_, rfl, rfl, rfl, rfl⟩

/-- A fresh reading with bad parity breaks a powered sensor. -/
theorem State.takeReading_parity {s : State} {r k : Nat} {x : Reading} (hp : s.sensorPowered r k = true) (hf : x.fresh = true) (hpar : x.parity = false) :
    s.takeReading r k x = s.breakSensor r k 2 := by
  simp [State.takeReading, hp, hf, hpar]

theorem State.sensor_setSensor (s : State) (r k : Nat) (v : Sensor) : (s.setSensor r k v).sensor r k = v := mapGet_mapSet_same _ _ _ _

theorem exec_sensorSample_fresh {s : State} {r k : Nat} {x : Reading} (hr : r < 112) (hp : s.sensorPowered r k = true) (hf : x.fresh = true)
    (hpar : x.parity = true) (hlo : -4000 ≤ x.centi) (hhi : x.centi ≤ 15000) :
    ∃ t : State, exec (.sensorSample [((r, k), x)]) s = .next t ∧ (t.sensor r k).centi = x.centi ∧ (t.sensor r k).misses = 0 ∧
      (t.sensor r k).sampled = true ∧ t.time = s.time ∧ sameMemory s t := by
  obtain ⟨v, hv, hcenti, hmisses, hsampled⟩ := State.takeReading_fresh hp hf hpar hlo hhi
  obtain ⟨t, ht, hafter, htime, hmem⟩ := exec_sensorSample_sensor (s := s) (x := x) hr (by rw [hv]; exact hp)
  rw [hv, State.sensor_setSensor] at hafter
  rw [hv] at htime hmem
  obtain ⟨hc, hm, hs, -⟩ := hafter
  exact ⟨t, ht, hc.trans hcenti, hm.trans hmisses, hs hsampled, htime, hmem⟩

theorem exec_sensorSample_parity {s : State} {r k : Nat} {x : Reading} (hr : r < 112) (hp : s.sensorPowered r k = true) (hf : x.fresh = true)
    (hpar : x.parity = false) : ∃ t : State, exec (.sensorSample [((r, k), x)]) s = .next t ∧ (t.sensor r k).broken = true ∧ sameMemory s t := by
  have hread := State.takeReading_parity hp hf hpar
  have hbreak := s.breakSensor_judging r k r k 2
  obtain ⟨t, ht, ⟨-, -, -, hbroken⟩, -, hmem⟩ := exec_sensorSample_sensor (s := s) (x := x) hr (by rw [hread]; exact hbreak.powered hp)
  rw [hread] at hbroken hmem
  have hsame := hbreak.keeps.1.memory (by decide) (by decide)
  exact ⟨t, ht, hbroken (s.breakSensor_broken r k 2), fun a => (hmem.1 a).trans (hsame.1 a), hmem.2.trans hsame.2⟩

/-- A port of a site is one of the 112. -/
theorem lt_of_isSite {p : Nat} (h : isSite p = true) : p < 112 := by
  simp only [isSite, isDark, Bool.and_eq_true, Bool.not_eq_true', Bool.or_eq_false_iff, decide_eq_false_iff_not] at h
  omega

theorem exec_sensorSample_trip {s : State} {p k : Nat} {x : Reading} (hsite : isSite p = true) (hp : s.sensorPowered p k = true) (hf : x.fresh = true)
    (hpar : x.parity = true) (hlo : 11000 ≤ x.centi) (hhi : x.centi ≤ 15000) (ht : (s.site p).tripped = false) :
    ∃ t : State, exec (.sensorSample [((p, k), x)]) s = .next t ∧ t.heat.tripDue.any (fun e => e.1 == p) = true := by
  obtain ⟨v, hv, hcenti, -, hsampled⟩ := State.takeReading_fresh hp hf hpar (by omega) hhi
  have hpow : (s.takeReading p k x).sensorPowered p k = true := by rw [hv]; exact hp
  obtain ⟨u, hu, hexec⟩ := exec_sensorSample_one (lt_of_isSite hsite) hpow
  have hread : (s.takeReading p k x).sensor p k = v := by rw [hv, State.sensor_setSensor]
  obtain ⟨hc, -, hs, -⟩ := hread ▸ hu.sensor
  have hhot : 11000 ≤ u.reads p k := by
    unfold State.reads
    split
    · decide
    · omega
  have htrip : (u.site p).tripped = false := by rw [(hu.sites p).2, hv]; exact ht
  have hheat : (u.markTrip p).settleIsland.heat = (u.markTrip p).heat := (u.markTrip p).settleIsland_keeps.1 .heat (by decide)
  refine ⟨_, hexec, ?_⟩
  rw [if_pos hsite, hheat]
  exact State.markTrip_due (hu.powered hpow) (hs hsampled) hhot htrip

/-! ### Stack trips (R304) -/

/-- A port whose withdrawal is abrupt is not in service. -/
theorem State.abrupt_inService (s : State) (p : Nat) (supply : Bool) : (s.abrupt p supply).inService p = false := by
  have hshown (u : State) : ((u.setObj .B0601 p portWithdrawn).raise evPortWithdrawn p [1]).inService p = false :=
    congrArg (· == portInService) (State.obj_setObj u .B0601 p portWithdrawn)
  unfold State.abrupt
  split
  · next h => simpa using h
  · exact hshown _

theorem exec_stackTrip {s : State} {p k : Nat} {c : Int} (h : s.heat.tripDue.find? (fun e => e.1 == p) = some (p, k, c)) :
    ∃ t : State, exec (.stackTrip p) s = .next t ∧ (t.site p).tripped = true ∧ (t.site p).powered = false ∧ (t.site p).retest = true ∧
      t.inService p = false ∧ bitGet (t.obj .P0C0C 0) 2 = true := by
  let a := (({ s with heat := { s.heat with tripDue := mapDel s.heat.tripDue p } } : State).abrupt p false).raise evStackTrip p [p, k, c.toNat]
  let b := (a.markHot p).siteOff p
  let d := b.setSite p { b.site p with tripped := true }
  have hexec : exec (.stackTrip p) s = .next (d.pulseEmergency 2).settleIsland := by
    change execStackTrip p s = _
    simp only [execStackTrip, h]
    rfl
  obtain ⟨⟨hkeeps, -, -⟩, hbit⟩ := d.pulseEmergency_judged 2
  obtain ⟨hsettled, -, hbits⟩ := (d.pulseEmergency 2).settleIsland_judged
  have hall : Keeps islandParts islandObjs d (d.pulseEmergency 2).settleIsland := hkeeps.trans hsettled
  have hoff : b.site p = ((a.markHot p).site p).withoutSupply := (State.siteOff_site _ _ _).trans (if_pos rfl)
  have hhot : ((a.markHot p).site p).retest = true := congrArg Site.retest (State.site_setSite _ _ _)
  have hsite : (d.pulseEmergency 2).settleIsland.site p = { ((a.markHot p).site p).withoutSupply with tripped := true } := by
    rw [hall.1.site (by decide), State.site_setSite, hoff]
  refine ⟨_, hexec, ?_, ?_, ?_, ?_, hbits 2 hbit⟩
  · rw [hsite]
  · rw [hsite]; rfl
  · rw [hsite]; exact hhot
  · have hout : d.inService p = a.inService p := congrArg (· == portInService) ((State.siteOff_keeps (a.markHot p) p).obj .B0601 p (by decide))
    have hin : (d.pulseEmergency 2).settleIsland.inService p = d.inService p := congrArg (· == portInService) (hall.obj .B0601 p (by decide))
    rw [hin, hout]
    exact State.abrupt_inService _ p false

/-! ### Zones off for heat (R305) -/

/-- A port in service whose withdrawal is asked for has a frame in which it begins. -/
theorem State.orderly_withdrawing (s : State) (p : Nat) (h : s.inService p = true) : ∃ f, (p, f) ∈ (s.orderly p).withdrawing := by
  have hset (l : AMap Nat Nat) (v : Nat) : (p, v) ∈ mapSet l p v := by
    induction l with
    | nil => exact List.mem_singleton.mpr rfl
    | cons e l ih =>
      rw [mapSet]
      split
      · exact List.mem_cons_self
      · exact List.mem_cons_of_mem _ ih
  unfold State.orderly
  rw [h, Bool.true_and]
  split
  · exact ⟨_, hset _ _⟩
  · next hany =>
    obtain ⟨⟨q, f⟩, hmem, hq⟩ := List.any_eq_true.mp (by simpa using hany : s.withdrawing.any (fun x => x.1 == p) = true)
    obtain rfl : q = p := eq_of_beq hq
    exact ⟨f, hmem⟩

/-- A withdrawal asked for stays asked for while others are. -/
theorem State.mem_withdrawing_orderly {s : State} {p f : Nat} (q : Nat) (h : (p, f) ∈ s.withdrawing) : (p, f) ∈ (s.orderly q).withdrawing := by
  have hset (l : AMap Nat Nat) (v : Nat) (hl : (p, f) ∈ l) (hq : l.any (fun x => x.1 == q) = false) : (p, f) ∈ mapSet l q v := by
    induction l with
    | nil => exact absurd hl List.not_mem_nil
    | cons e l ih =>
      rw [List.any_cons, Bool.or_eq_false_iff] at hq
      rw [mapSet, if_neg (by simpa using hq.1)]
      rcases List.mem_cons.mp hl with rfl | hl
      · exact List.mem_cons_self
      · exact List.mem_cons_of_mem _ (ih hl hq.2)
  unfold State.orderly
  split
  · next hq =>
    rw [Bool.and_eq_true, Bool.not_eq_true'] at hq
    exact hset _ _ h hq.2
  · exact h

/-- The withdrawal of every port of a list that is in service is asked for. -/
theorem State.foldl_orderly (l : List Nat) (s : State) {p : Nat} (h : p ∈ l ∧ s.inService p = true ∨ ∃ f, (p, f) ∈ s.withdrawing) :
    ∃ f, (p, f) ∈ (l.foldl (fun s p => s.orderly p) s).withdrawing := by
  induction l generalizing s with
  | nil => exact h.resolve_left fun h => List.not_mem_nil h.1
  | cons q l ih =>
    refine ih _ ?_
    rcases h with ⟨hp, hin⟩ | ⟨f, hf⟩
    · rcases List.mem_cons.mp hp with rfl | hp
      · exact .inr (s.orderly_withdrawing p hin)
      · exact .inl ⟨hp, (congrArg (· == portInService) ((s.orderly_keeps q).obj .B0601 p (by decide))).trans hin⟩
    · exact .inr ⟨f, State.mem_withdrawing_orderly q hf⟩

theorem exec_heatZoneOff_withdraw {s : State} {z : Nat} (hz : z < 14) (hon : s.zoneOn z = true) (hhot : s.zoneHot z = true)
    (hin : (zonePorts z).any (fun p => s.inService p) = true) : ∃ t : State, exec (.heatZoneOff z) s = .next t ∧
      (∀ p ∈ zonePorts z, s.inService p = true → ∃ f : Nat, (p, f) ∈ t.withdrawing) ∧ unchangedBut [.withdrawing] s t := by
  have hgo : ¬(14 ≤ z ∨ (!s.zoneOn z) = true ∨ (!s.zoneHot z) = true) := by rw [hon, hhot]; simpa using hz
  have hexec : exec (.heatZoneOff z) s = .next ((zonePorts z).foldl (fun s p => s.orderly p) s) :=
    congrArg Host.Outcome.next ((if_neg hgo).trans (if_pos hin))
  exact ⟨_, hexec, fun p hp hp' => State.foldl_orderly _ s (.inl ⟨hp, hp'⟩), unchangedBut.foldl (fun s p => (s.orderly_keeps p).1) _ s⟩

theorem exec_heatZoneOff_open {s : State} {z : Nat} (hz : z < 14) (hon : s.zoneOn z = true) (hhot : s.zoneHot z = true)
    (hout : (zonePorts z).any (fun p => s.inService p) = false) : ∃ t : State, exec (.heatZoneOff z) s = .next t ∧ t.obj .P0C06 z = 2 ∧
      t.obj .T012A z = s.obj .T012A z + 1 ∧ mapGet 0 t.power.zoneOffAt z = s.time ∧
      (∀ p ∈ zonePorts z, isSite p = true → (t.site p).powered = false) := by
  let a := ((s.setObj .P0C06 z zoneHeat).bump .T012A z 1).raise evHeatZoneOff z [z]
  let b : State := { a with power := { a.power with zoneOffAt := mapSet a.power.zoneOffAt z a.time } }
  let d := (b.islandNotice 1 [z, zoneHeat]).zoneDown z
  have hgo : ¬(14 ≤ z ∨ (!s.zoneOn z) = true ∨ (!s.zoneHot z) = true) := by rw [hon, hhot]; simpa using hz
  have hexec : exec (.heatZoneOff z) s = .next d.settleIsland :=
    congrArg Host.Outcome.next ((if_neg hgo).trans (if_neg (by rw [hout]; decide)))
  have hnotice : Keeps (zoneParts ++ [.boxes, .out]) (zoneObjs ++ [.D0A08]) b d :=
    ((State.islandNotice_keeps b 1 [z, zoneHeat]).mono (by decide)).trans ((State.zoneDown_keeps _ z).mono (by decide))
  obtain ⟨hsettled, ⟨_, _, _, hpower⟩, -⟩ := d.settleIsland_judged
  have hobj (o : Obj) (ho : o ∉ zoneObjs ++ [.D0A08]) (ho' : o ∉ islandObjs) : d.settleIsland.obj o z = b.obj o z :=
    (hsettled.obj o z ho').trans (hnotice.obj o z ho)
  have hoff : b.obj .P0C06 z = zoneHeat := (State.obj_bump_ne _ _ _ _ (by decide)).trans (State.obj_setObj _ _ _ _)
  have hcount : b.obj .T012A z = s.obj .T012A z + 1 := (State.obj_bump _ _ _ _).trans (congrArg (· + 1) (State.obj_setObj_ne _ _ (.inl (by decide))))
  have hdpower : d.power = b.power := hnotice.1 .power (by decide)
  refine ⟨_, hexec, ?_, ?_, ?_, fun p hp hp' => ?_⟩
  · exact (hobj .P0C06 (by decide) (by decide)).trans hoff
  · exact (hobj .T012A (by decide) (by decide)).trans hcount
  · rw [hpower, hdpower]
    exact mapGet_mapSet_same _ _ _ _
  · rw [hsettled.1.site (by decide)]
    exact State.zoneDown_powered _ hp hp'

theorem exec_heatZoneReturn {s : State} {z : Nat} (hz : z < 14) (hoff : s.obj .P0C06 z = 2)
    (htime : mapGet 0 s.power.zoneOffAt z + 1000000000 * s.obj .T0129 0 ≤ s.time) (hinlet : s.heat.inlet ≤ 100 * (s.obj .T0128 0 : Int)) :
    ∃ t : State, exec (.heatZoneReturn z) s = .next t ∧ t.obj .P0C06 z = 0 ∧ z ∈ t.power.realigning ∧ sameMemory s t := by
  have hgo : ¬(s.obj .P0C06 z ≠ zoneHeat ∨ 14 ≤ z ∨ s.time < mapGet 0 s.power.zoneOffAt z + 1000000000 * s.obj .T0129 0 ∨
      100 * (s.obj .T0128 0 : Int) < s.heat.inlet) := by
    simp only [hoff, zoneHeat]
    omega
  obtain ⟨u, hup, hrest⟩ := s.zoneReturn_realigning z
  obtain ⟨hsettled, ⟨_, _, _, hpower⟩, -⟩ := (s.zoneReturn z).settleIsland_judged
  have hrestPower : (s.zoneReturn z).power = _ := hrest.1 .power (by decide)
  have hframe : unchangedBut (.heat :: .iods :: .lanes :: islandParts) s (s.zoneReturn z).settleIsland :=
    ((((s.setObj_keeps .P0C06 z zoneIsOn).1.mono (by decide)).trans (hup.1.mono (by decide))).trans ((u.power_keeps _).1.mono (by decide))).trans
      ((hrest.1.mono (by decide)).trans (hsettled.1.mono (by decide)))
  refine ⟨_, congrArg Host.Outcome.next (if_neg hgo), ?_, ?_, hframe.memory (by decide) (by decide)⟩
  · have hlast : (s.zoneReturn z).obj .P0C06 z = u.obj .P0C06 z := hrest.obj .P0C06 z (by decide)
    rw [hsettled.obj .P0C06 z (by decide), hlast, hup.obj .P0C06 z (by decide), State.obj_setObj]
    rfl
  · rw [hpower, hrestPower]
    exact List.mem_cons_self

/-! ### Trips and emergencies (R306, R308, R412) -/

/-- A panel that trips is off, in start-up stage 0, with TRIP_N asserted. -/
theorem State.tripPanel_off {s : State} (cause : Nat) (h : s.power.tripped = false) : (s.tripPanel cause).power.tripped = true ∧
    (s.tripPanel cause).pins.tripN = true ∧ (s.tripPanel cause).startup.stage = 0 ∧ ∀ z, z < 16 → (s.tripPanel cause).obj .P0C06 z = 1 := by
  let a := ((s.raise evPanelTrip noSubject [cause]).flushBb 0).allOff
  let b : State := { a with power := { a.power with tripped := true, causesGoneSince := none } }
  have htrip : s.tripPanel cause = b.settleIsland := if_neg (by rw [h]; decide)
  obtain ⟨hsettled, ⟨_, _, _, hpower⟩, -⟩ := b.settleIsland_judged
  have hstartup : b.settleIsland.startup = a.startup := hsettled.1 .startup (by decide)
  rw [htrip]
  refine ⟨by rw [hpower], b.settleIsland_tripN, by rw [hstartup, State.allOff_stage], fun z hz => ?_⟩
  have hzone : b.obj .P0C06 z = a.obj .P0C06 z := (a.power_keeps _).obj .P0C06 z (by decide)
  rw [hsettled.obj .P0C06 z (by decide), hzone]
  exact State.allOff_zone _ hz

theorem exec_panelTrip {s : State} {cause : Nat} (h : s.power.tripped = false)
    (hcause : (cause = 0 ∧ s.heat.island = bandB4) ∨ (cause = 1 ∧ ∃ u : Nat, s.power.outletHotSince = some u ∧ u + 1000000000 ≤ s.time) ∨
      (cause = 2 ∧ s.fuseOpen 14 = true ∧ s.fuseOpen 15 = true) ∨ (cause = 3 ∧ s.power.failed = true ∧ s.power.holdUpCharged = false)) :
    ∃ t : State, exec (.panelTrip cause) s = .next t ∧ t.power.tripped = true ∧ t.pins.tripN = true ∧ t.startup.stage = 0 ∧
      (∀ z, z < 16 → t.obj .P0C06 z = 1) := by
  have hexec : exec (.panelTrip cause) s = .next (s.tripPanel cause) := by
    change execPanelTrip cause s = _
    rcases hcause with ⟨rfl, hisland⟩ | ⟨rfl, u, hsince, htime⟩ | ⟨rfl, hfirst, hsecond⟩ | ⟨rfl, hfailed, hstore⟩
    · simp [execPanelTrip, hisland]
    · simp [execPanelTrip, hsince, htime]
    · simp [execPanelTrip, hfirst, hsecond]
    · simp [execPanelTrip, hfailed, hstore]
  exact ⟨_, hexec, State.tripPanel_off cause h⟩

theorem exec_emergencyBitClear {s : State} {n u : Nat} (hgone : s.power.emergencyGone.find? (fun e => e.1 == n) = some (n, u))
    (hset : bitGet (s.obj .P0C0C 0) n = true) (hcause : s.emergencyCause n = false) (htime : u + 1000000000 ≤ s.time) :
    ∃ t : State, exec (.emergencyBitClear n) s = .next t ∧ bitGet (t.obj .P0C0C 0) n = false ∧
      (∀ m, m ≠ n → bitGet (t.obj .P0C0C 0) m = bitGet (s.obj .P0C0C 0) m) ∧ objsBut [.P0C0C, .D0A08] s t ∧
      unchangedBut [.power, .objs, .boxes, .out, .log] s t := by
  let a : State := { s with power := { s.power with emergencyGone := mapDel s.power.emergencyGone n } }
  let b := a.setBit .P0C0C 0 n false
  have hexec : exec (.emergencyBitClear n) s = .next (b.islandNotice 2 [bitSet (s.obj .P0C0C 0) n false]) := by
    change execEmergencyBitClear n s = _
    simp only [execEmergencyBitClear, hgone]
    rw [if_pos ⟨hset, by rw [hcause]; rfl, htime⟩]
  have hnotice := b.islandNotice_keeps 2 [bitSet (s.obj .P0C0C 0) n false]
  have hframe : Keeps [.power, .objs, .boxes, .out, .log] [.P0C0C, .D0A08] s _ :=
    (((s.power_keeps _).mono (by decide)).trans ((a.setBit_keeps .P0C0C 0 n false).mono (by decide))).trans (hnotice.mono (by decide))
  have hbits : (b.islandNotice 2 [bitSet (s.obj .P0C0C 0) n false]).obj .P0C0C 0 = bitSet (s.obj .P0C0C 0) n false :=
    (hnotice.obj .P0C0C 0 (by decide)).trans (State.obj_setObj _ _ _ _)
  refine ⟨_, hexec, ?_, fun m hm => ?_, hframe.2, hframe.1⟩
  · rw [hbits, bitGet_bitSet, if_pos rfl]
  · rw [hbits, bitGet_bitSet, if_neg hm]

theorem exec_wakeNAssert {s : State} {u : Nat} (htrip : s.power.tripped = true) (hgone : s.power.causesGoneSince = some u)
    (htime : u + 10000000000 ≤ s.time) : exec .wakeNAssert s = .next { s with pins := { s.pins with wakeN := true } } := by
  change execWakeNAssert s = _
  simp only [execWakeNAssert, hgone]
  rw [if_pos ⟨htrip, htime⟩]

/-! ### Withdrawals that end in darkness (R146) -/

theorem State.endCmdOf_unchanged (s : State) (o : Obj) (arg : Nat) (c : Code) : unchangedBut [.cmds] s (s.endCmdOf o arg c) := by
  have hend : unchangedBut [.cmds] s (s.endCmd o c) := by
    unfold State.endCmd
    split
    · split
      · rw [unchangedBut_iff]; simp
      · exact .refl _ s
    · exact .refl _ s
  exact iteInduction (motive := unchangedBut [.cmds] s) (fun _ => hend) (fun _ => .refl _ s)

/-- A withdrawal that is complete, with PORT_WITHDRAWN and the end of its command. -/
def State.withdrawn (s : State) (port : Nat) : State :=
  ((({ s with withdrawing := mapDel s.withdrawing port, pathOk := s.pathOk.filter (fun x => x.1.1 != port) } : State).setObj
    .B0601 port portWithdrawn).raise evPortWithdrawn port [0]).endCmdOf .B060A port .ok

theorem State.withdrawn_keeps (s : State) (port : Nat) : Keeps [.withdrawing, .pathOk, .objs, .log, .cmds] [.B0601] s (s.withdrawn port) := by
  have hasked (x : AMap Nat Nat) (y : List ((Nat × Nat) × Nat)) : Keeps [.withdrawing, .pathOk] [] s { s with withdrawing := x, pathOk := y } :=
    .of_parts (by rw [unchangedBut_iff]; simp) (by decide)
  exact ((((hasked _ _).mono (by decide)).trans ((State.setObj_keeps _ _ _ _).mono (by decide))).trans ((State.raise_keeps _ _ _ _).mono (by decide))).trans
    ((Keeps.of_parts (State.endCmdOf_unchanged _ _ _ _) (by decide)).mono (by decide))

theorem State.withdrawn_obj (s : State) (port : Nat) : (s.withdrawn port).obj .B0601 port = 2 :=
  ((State.endCmdOf_unchanged _ _ _ _).obj (by decide) _ _).trans (State.obj_setObj _ _ _ _)

theorem exec_withdrawalComplete {s : State} {port f : Nat} (h : s.withdrawing.find? (fun x => x.1 == port) = some (port, f)) (hf : f + 1 ≤ s.frameNo) :
    exec (.withdrawalComplete port) s = .next (if s.band port ≠ bandB4 then s.withdrawn port else
      match iodOfPort port with
      | some i => (s.withdrawn port).iodOff i
      | none => (s.withdrawn port).siteOff port) := by
  have hband : (s.withdrawn port).band port = s.band port := (s.withdrawn_keeps port).obj .T0120 port (by decide)
  rw [← hband]
  change execWithdrawalComplete port s = _
  simp only [execWithdrawalComplete, h]
  rw [if_neg (Nat.not_lt.mpr hf)]
  rfl

theorem iodOfPort_of_isSite {p : Nat} (h : isSite p = true) : iodOfPort p = none := by
  rw [isSite, Bool.and_eq_true] at h
  exact Option.isNone_iff_eq_none.mp h.2

/-- Settles O42: each clause is one command's branch, read through what the operations after it leave alone. -/
theorem heatCommandsComplete : Obligations.HeatCommandsComplete := by
  unfold Obligations.HeatCommandsComplete
  refine ⟨fun s r k x hr hp hf hpar hlo hhi => exec_sensorSample_fresh hr hp hf hpar hlo hhi,
    fun s p k x hsite hp hf hpar hlo hhi _ ht => exec_sensorSample_trip hsite hp hf hpar hlo hhi ht,
    fun s r k x hr hp hf hpar => exec_sensorSample_parity hr hp hf hpar,
    fun s p k c _ h => exec_stackTrip h,
    fun s z hz hon hhot => ⟨exec_heatZoneOff_withdraw hz hon hhot, exec_heatZoneOff_open hz hon hhot⟩,
    fun s z hz hoff htime hinlet => exec_heatZoneReturn hz hoff htime hinlet,
    fun s cause h hcause => exec_panelTrip h hcause,
    fun s n u hgone hset hcause htime => exec_emergencyBitClear hgone hset hcause htime,
    fun s u htrip hgone htime => exec_wakeNAssert htrip hgone htime,
    fun s port f h hf => ⟨fun hband => ?lit, fun hband hsite => ?dark⟩⟩
  case lit =>
    refine ⟨_, (exec_withdrawalComplete h hf).trans (congrArg _ (if_pos hband)), s.withdrawn_obj port, ?_, ?_, (s.withdrawn_keeps port).2,
      (s.withdrawn_keeps port).1⟩
    · exact State.endCmdOf_unchanged _ _ _ _ .withdrawing (by decide)
    · have hlog : (s.withdrawn port).log = _ := State.endCmdOf_unchanged _ _ _ _ .log (by decide)
      rw [hlog, (State.raise_events _ _ _ _).1]
      rfl
  case dark =>
    have hexec := exec_withdrawalComplete h hf
    rw [if_neg (not_not.mpr hband), iodOfPort_of_isSite hsite] at hexec
    refine ⟨_, hexec, ?_, ?_, State.siteOff_mover _ _⟩
    · exact ((State.siteOff_keeps _ _).obj .B0601 port (by decide)).trans (s.withdrawn_obj port)
    · rw [State.siteOff_site, if_pos rfl]
      rfl

end Sys2Proof.Machine
end

section
/-!
What the operations on streams change and leave alone (R154 to R159, R178, R381): frames, and the streams, waves and messages that they leave.
-/

namespace Sys2Proof.Machine

/-! ### Streams and waves, and updates of one part -/

theorem unchangedBut.stream {l : List Part} {s t : State} (h : unchangedBut l s t) (hl : Part.streams ∉ l) (i : Nat) : t.stream i = s.stream i := by
  have e : t.streams = s.streams := h .streams hl
  simp only [State.stream, e]

theorem unchangedBut.wave {l : List Part} {s t : State} (h : unchangedBut l s t) (hl : Part.waves ∉ l) (r k : Nat) : t.wave r k = s.wave r k := by
  have e : t.waves = s.waves := h .waves hl
  simp only [State.wave, e]

theorem State.setStream_keeps (s : State) (i : Nat) (v : Option Stream) : Keeps [.streams] [] s (s.setStream i v) :=
  .of_parts (by rw [unchangedBut_iff]; simp) (by decide)

theorem State.setWave_keeps (s : State) (r k : Nat) (v : Option Wave) : Keeps [.waves] [] s (s.setWave r k v) :=
  .of_parts (by rw [unchangedBut_iff]; simp) (by decide)

theorem State.send_keeps (s : State) (m : Sent) : Keeps [.out] [] s (s.send m) := .of_parts (s.send_unchanged m) (by decide)

theorem State.recovery_keeps (s : State) (x : Recovery) : Keeps [.recovery] [] s { s with recovery := x } :=
  .of_parts (by rw [unchangedBut_iff]; simp) (by decide)

/-! ### The set of streams changes (R155, R156, R381) -/

/-- The objects that show the set of streams. -/
def streamObjs : List Obj := [.X070D, .X0702, .X0F07]

theorem State.showStreams_keeps (s : State) : Keeps [.objs] streamObjs s s.showStreams :=
  (((s.setObj_keeps _ _ _).mono (by decide)).trans ((State.setObj_keeps _ _ _ _).mono (by decide))).trans ((State.setObj_keeps _ _ _ _).mono (by decide))

theorem State.freeMirror_keeps (s : State) (i : Nat) : Keeps [.recovery] [] s (s.freeMirror i) := .ite (s.recovery_keeps _) (.refl _ _ _)

theorem State.dropAdopted_keeps (s : State) (panel : Option Nat) : Keeps [.recovery, .objs] [.X0F06] s (s.dropAdopted panel) := by
  cases panel with
  | none => exact .refl _ _ _
  | some p => exact .ite (.refl _ _ _) (((s.recovery_keeps _).mono (by decide)).trans ((State.setObj_keeps _ _ _ _).mono (by decide)))

/-- A wave without a stream that ends while it runs (R156). -/
def Wave.without (w : Wave) (id : Nat) : Wave := { w with batch := w.batch.filter (fun i => i != id) }

/-- What a stream held besides its place among the streams is free again: its transit tickets, its results in running waves, its mirror. -/
def State.released (s : State) (x : Stream) : State :=
  let (t, c) := (s.plan.image.map (fun p => transitNeed p x.table)).getD (0, 0)
  let u := s.setIod x.iod { s.iod x.iod with resTickets := (s.iod x.iod).resTickets - t, resCells := (s.iod x.iod).resCells - c }
  let u := { u with waves := u.waves.map (fun p => (p.1, p.2.map (fun w => w.without x.id))) }
  if x.adopted.isSome then u.freeMirror (x.id % 2 ^ 32) else u

theorem State.dropStream_eq (s : State) (x : Stream) : s.dropStream x =
    (({ s.released x with streams := mapDel (s.released x).streams x.id }).dropAdopted x.adopted).showStreams := rfl

theorem State.released_spec (s : State) (x : Stream) : Keeps [.iods, .waves, .recovery] [] s (s.released x) ∧
    (s.released x).waves = s.waves.map (fun p => (p.1, p.2.map (fun w => w.without x.id))) := by
  have hwaves (u : State) (m : AMap (Nat × Nat) (Option Wave)) : Keeps [.iods, .waves, .recovery] [] u { u with waves := m } :=
    .of_parts (by rw [unchangedBut_iff]; simp) (by decide)
  have hheld (d : Iod) (m : AMap (Nat × Nat) (Option Wave)) := ((s.setIod_keeps x.iod d).mono (by decide)).trans (hwaves _ m)
  have hmirror (u : State) := u.freeMirror_keeps (x.id % 2 ^ 32)
  unfold State.released
  dsimp only
  split
  · exact ⟨(hheld _ _).trans ((hmirror _).mono (by decide)), (hmirror _).1 .waves (by decide)⟩
  · exact ⟨hheld _ _, rfl⟩

/-- The parts and objects that the end of a stream may change on its panel. -/
def dropParts : List Part := [.iods, .waves, .recovery, .streams, .objs]
def dropObjs : List Obj := [.X0F06, .X070D, .X0702, .X0F07]

/-- What leaves with a stream's place among the streams: what shows the streams and the declared panels. -/
theorem State.shown_keeps (s : State) (panel : Option Nat) : Keeps [.recovery, .objs] dropObjs s (s.dropAdopted panel).showStreams :=
  ((s.dropAdopted_keeps panel).mono (by decide)).trans ((State.showStreams_keeps _).mono (by decide))

theorem State.dropStream_keeps (s : State) (x : Stream) : Keeps dropParts dropObjs s (s.dropStream x) := by
  have hstreams (u : State) (m : AMap Nat (Option Stream)) : Keeps dropParts dropObjs u { u with streams := m } :=
    (Keeps.of_parts (l := [.streams]) (by rw [unchangedBut_iff]; simp) (by decide)).mono (by decide)
  exact (((s.released_spec x).1.mono (by decide)).trans (hstreams _ _)).trans ((State.shown_keeps _ _).mono (by decide))

theorem State.dropStream_stream (s : State) (x : Stream) (i : Nat) : (s.dropStream x).stream i = if i = x.id then none else s.stream i := by
  have hshown : (s.dropStream x).streams = mapDel (s.released x).streams x.id := (State.shown_keeps _ x.adopted).1 .streams (by decide)
  have hheld : (s.released x).streams = s.streams := (s.released_spec x).1.1 .streams (by decide)
  rw [State.stream, hshown, hheld]
  split
  · next h => rw [h, mapGet_mapDel_same]
  · next h => exact mapGet_mapDel_ne _ _ h

theorem mapGet_map_snd {κ α β : Type} [DecidableEq κ] (f : α → β) (d : α) (m : AMap κ α) (k : κ) :
    mapGet (f d) (m.map (fun p => (p.1, f p.2))) k = f (mapGet d m k) := by
  induction m with
  | nil => rfl
  | cons p r ih =>
    simp only [List.map_cons, mapGet, ih]
    exact (apply_ite f _ _ _).symm

theorem State.dropStream_wave (s : State) (x : Stream) (r k : Nat) : (s.dropStream x).wave r k = (s.wave r k).map (fun w => w.without x.id) := by
  have hshown : (s.dropStream x).waves = (s.released x).waves := (State.shown_keeps _ x.adopted).1 .waves (by decide)
  rw [State.wave, hshown, (s.released_spec x).2]
  exact mapGet_map_snd (Option.map (fun w => w.without x.id)) none s.waves (r, k)

/-! ### The head ends a stream (R155, R159) -/

/-- What the head of a stream tells the other holders and the mirror holders when it ends. -/
def State.told (s : State) (x : Stream) : List Sent :=
  (((x.table.map s.holderOf) ++ (if s.mirrorOn then x.table.map (fun p => s.neighbour p 0) else [])).eraseDups.filter (fun p => p != s.panelId)).map
    (fun p => .blocksFree p (x.id % 2 ^ 32))

theorem State.foldl_send {α : Type} (f : α → Sent) (l : List α) (s : State) :
    Keeps [.out] [] s (l.foldl (fun s a => s.send (f a)) s) ∧ (l.foldl (fun s a => s.send (f a)) s).out = s.out ++ l.map f := by
  refine ⟨.foldl (fun s a => s.send_keeps (f a)) l s, ?_⟩
  induction l generalizing s with
  | nil => exact (List.append_nil _).symm
  | cons a r ih => rw [List.foldl_cons, ih, State.send, List.map_cons, List.append_assoc, List.singleton_append]

theorem State.tellFree_spec (s : State) (x : Stream) : Keeps [.out] [] s (s.tellFree x) ∧ (s.tellFree x).out = s.out ++ s.told x :=
  State.foldl_send _ _ s

/-- The objects that give the panel's place in the torus and its mirroring. -/
def placeObjs : List Obj := [.F0900, .F0901, .X0708]

theorem Keeps.place {l : List Part} {os : List Obj} {s t : State} (h : Keeps l os s t) (ho : ∀ o ∈ placeObjs, o ∉ os) :
    t.panelId = s.panelId ∧ t.mirrorOn = s.mirrorOn ∧ t.neighbour = s.neighbour := by
  have hobj (o : Obj) (hm : o ∈ placeObjs) : t.obj o 0 = s.obj o 0 := h.obj o 0 (ho o hm)
  have hdim : t.torusDim = s.torusDim := funext fun d => by rw [State.torusDim, State.torusDim, hobj _ (by decide)]
  refine ⟨hobj _ (by decide), ?_, funext fun p => funext fun d => ?_⟩
  · rw [State.mirrorOn, State.mirrorOn, hobj _ (by decide)]
  · rw [State.neighbour, State.neighbour, hdim]

/-- What a stream's other holders are told rests on the panel's place, its mirroring and the panels that are lost. -/
theorem State.told_congr {l : List Part} {os : List Obj} {s t : State} (h : Keeps l os s t) (hr : Part.recovery ∉ l)
    (ho : ∀ o ∈ placeObjs, o ∉ os) (x : Stream) : t.told x = s.told x := by
  obtain ⟨hpanel, hmirror, hnext⟩ := h.place ho
  have hrecovery : t.recovery = s.recovery := h.1 .recovery hr
  have hholder : t.holderOf = s.holderOf := funext fun p => by rw [State.holderOf, State.holderOf, hrecovery]
  rw [State.told, State.told, hholder, hnext, hpanel, hmirror]

theorem State.endStream_keeps (s : State) (x : Stream) (reason : Nat) (c : Code) : Keeps (.out :: dropParts) dropObjs s (s.endStream x reason c) := by
  have hsaid : Keeps (.out :: dropParts) dropObjs s ((s.send (servingMsg 6 c (x.id % 2 ^ 32) x.delivered [reason])).tellFree x) :=
    ((s.send_keeps _).mono (by decide)).trans ((State.tellFree_spec _ x).1.mono (by decide))
  exact (Keeps.ite hsaid (.refl _ _ _)).trans ((State.dropStream_keeps _ x).mono (by decide))

theorem State.endStream_stream (s : State) (x : Stream) (reason : Nat) (c : Code) (i : Nat) :
    (s.endStream x reason c).stream i = if i = x.id then none else s.stream i := by
  unfold State.endStream
  rw [State.dropStream_stream]
  split
  · rfl
  · split
    · exact (State.tellFree_spec _ x).1.1.stream (by decide) i
    · rfl

theorem State.endStream_wave (s : State) (x : Stream) (reason : Nat) (c : Code) (r k : Nat) :
    (s.endStream x reason c).wave r k = (s.wave r k).map (fun w => w.without x.id) := by
  unfold State.endStream
  rw [State.dropStream_wave]
  split
  · exact congrArg _ ((State.tellFree_spec _ x).1.1.wave (by decide) r k)
  · rfl

theorem State.endStream_out {s : State} {x : Stream} (hx : x.isHead = true) (hf : s.recovery.fenced.contains x.id = false) (reason : Nat) (c : Code) :
    (s.endStream x reason c).out = s.out ++ servingMsg 6 c (x.id % 2 ^ 32) x.delivered [reason] :: s.told x := by
  have hsaid : (s.endStream x reason c).out = ((s.send (servingMsg 6 c (x.id % 2 ^ 32) x.delivered [reason])).tellFree x).out := by
    unfold State.endStream
    rw [hx, hf]
    exact (State.dropStream_keeps _ x).1 .out (by decide)
  rw [hsaid, (State.tellFree_spec _ x).2, State.told_congr (s.send_keeps _) (by decide) (by decide), State.send, List.append_assoc, List.singleton_append]

end Sys2Proof.Machine
end

section
/-!
The messages of the host and of other holders (R152 to R159, R350): what each makes of a stream.
-/

namespace Sys2Proof.Machine

theorem State.status_out (s : State) (stream type : Nat) (c : Code) : (s.status stream type c).out = s.out ++ [servingMsg 5 c (stream % 2 ^ 32) type []] := rfl

theorem State.status_keeps (s : State) (stream type : Nat) (c : Code) : Keeps [.out] [] s (s.status stream type c) := s.send_keeps _

/-- A message that is answered with a STATUS and reported: what it leaves. -/
theorem State.status_raise_spec (s : State) (stream type : Nat) (c : Code) (ev subject : Nat) (d : List Nat) :
    ((s.status stream type c).raise ev subject d).out = s.out ++ [servingMsg 5 c (stream % 2 ^ 32) type []] ∧
      ((s.status stream type c).raise ev subject d).log.events.head?.map (fun e => (e.code, e.subject)) = some (ev, subject) ∧
      unchangedBut [.out, .log] s ((s.status stream type c).raise ev subject d) := by
  refine ⟨rfl, ?_, ((s.status_keeps _ _ _).1.mono (by simp)).trans ((State.raise_unchanged _ _ _ _).mono (by simp))⟩
  rw [(State.raise_events _ _ _ _).1]
  rfl

/-! ### While no unit acts (R350) -/

theorem State.keep_of_stage {s : State} (h : 4 ≤ s.startup.stage) (c : Instr) : s.keep c = { s with kept := s.kept ++ [c] } := if_neg (Nat.not_lt.mpr h)

section
variable {s : State} (hact : s.cuActs 1 = false) (hstage : 4 ≤ s.startup.stage)
include hact hstage

theorem exec_admitStream_kept (stream pl k sb reserve sampling : Nat) (latency mok : Bool) (table : List Nat) :
    exec (.admitStream stream pl k sb reserve latency sampling table mok) s =
      .next { s with kept := s.kept ++ [.admitStream stream pl k sb reserve latency sampling table mok] } := by
  change execAdmitStream stream pl k sb reserve latency sampling table mok s = _
  rw [execAdmitStream, hact]
  exact congrArg _ (State.keep_of_stage hstage _)

theorem exec_prompt_kept (stream position : Nat) (tokens : List Nat) :
    exec (.prompt stream position tokens) s = .next { s with kept := s.kept ++ [.prompt stream position tokens] } := by
  change execPrompt stream position tokens s = _
  rw [execPrompt, hact]
  exact congrArg _ (State.keep_of_stage hstage _)

theorem exec_cancel_kept (stream : Nat) (complete : Bool) :
    exec (.cancel stream complete) s = .next { s with kept := s.kept ++ [.cancel stream complete] } := by
  change execCancel stream complete s = _
  rw [execCancel, hact]
  exact congrArg _ (State.keep_of_stage hstage _)

theorem exec_unknownServingMessage_kept {head : BitVec 128} {body : List (BitVec 8)} (hfit : servingFits head body = false) :
    exec (.unknownServingMessage head body) s = .next { s with kept := s.kept ++ [.unknownServingMessage head body] } := by
  change execUnknownServingMessage head body s = _
  rw [execUnknownServingMessage, hact, hfit]
  exact congrArg _ (State.keep_of_stage hstage _)

end

/-! ### ADMIT (R152 to R158, R178) -/

theorem State.mirrorOwner_ne_panelId {s : State} {p : Nat} (h : s.mirrorOwner = some p) : p ≠ s.panelId := by
  unfold State.mirrorOwner at h
  split at h
  · exact absurd h (by simp)
  · next hne => exact Option.some.inj h ▸ hne

/-- An ADMIT that no rule refuses names this panel at its entry. -/
theorem State.table_of_admitRefusal_none {s : State} {stream pl k sb reserve : Nat} {latency mok : Bool} {table : List Nat}
    (h : s.admitRefusal stream pl k sb reserve latency table mok = none) : table[k]? = some s.panelId := by
  unfold State.admitRefusal at h
  split at h
  · exact absurd h (by simp)
  · by_contra hne
    simp only [hne, ne_eq, not_false_eq_true, or_true, if_true] at h
    split_ifs at h

section
variable {s : State} {stream pl k sb reserve sampling : Nat} {latency mok : Bool} {table : List Nat} (hact : s.cuActs 1 = true)
include hact

/-- An ADMIT that does not name the X− neighbour is a host's. -/
theorem exec_admitStream_refused {r : Nat} (hown : s.mirrorOwner = none ∨ table[k]? ≠ s.mirrorOwner)
    (hr : s.admitRefusal stream pl k sb reserve latency table mok = some r) :
    exec (.admitStream stream pl k sb reserve latency sampling table mok) s = .next ((s.status stream 1 .accessDenied).raise evStreamRefused stream
      [codeNum .accessDenied, r, if r = 166 then s.dieFor stream else 0]) := by
  have hhost : ¬(s.mirrorOwner.isSome ∧ table[k]? = s.mirrorOwner) := by
    rintro ⟨hsome, he⟩
    rcases hown with h | h
    · simp [h] at hsome
    · exact h he
  change execAdmitStream stream pl k sb reserve latency sampling table mok s = _
  rw [execAdmitStream, hact, if_neg hhost, hr]
  rfl

/-- The stream that an ADMIT makes stands among the streams, holds its transit tickets, and is answered with OK. -/
theorem exec_admitStream_admitted (hr : s.admitRefusal stream pl k sb reserve latency table mok = none) : ∃ (i : Nat) (d : Iod) (x : Stream),
    exec (.admitStream stream pl k sb reserve latency sampling table mok) s =
      .next ((((s.setIod i d).setStream stream (some x)).showStreams).status stream 1 .ok) ∧
    x.id = stream ∧ x.k = k ∧ x.sb = sb ∧ x.reserve = reserve ∧ x.latency = latency ∧ x.table = table ∧ x.promptLen = pl ∧ x.touched = false ∧
      x.cancelled = false ∧ x.isHead = ((pl - 1) / 256 / sb == k) := by
  have hhost : ¬(s.mirrorOwner.isSome ∧ table[k]? = s.mirrorOwner) := by
    rintro ⟨-, he⟩
    rw [State.table_of_admitRefusal_none hr] at he
    exact State.mirrorOwner_ne_panelId he.symm rfl
  change ∃ (i : Nat) (d : Iod) (x : Stream), execAdmitStream stream pl k sb reserve latency sampling table mok s = _ ∧ _
  rw [execAdmitStream, hact, if_neg hhost, hr]
  exact ⟨_, _, _, rfl, rfl, rfl, rfl, rfl, rfl, rfl, rfl, rfl, rfl, rfl⟩

theorem exec_admitStream_mirror {owner : Nat} (hown : s.mirrorOwner = some owner) (ht : table[k]? = some owner) (hr : reserve ≠ 0)
    (hon : s.mirrorOn = true) (hfit : s.mirrorUsed + s.reserveBytes reserve ≤ 2 ^ 40) :
    exec (.admitStream stream pl k sb reserve latency sampling table mok) s = .next
      (({ s with recovery := { s.recovery with mirrorRes := mapSet s.recovery.mirrorRes stream reserve } }).send (.mirrorAnswer owner stream .ok)) := by
  have hgo : ¬(reserve = 0 ∨ ¬ s.mirrorOn ∨ 2 ^ 40 < s.mirrorUsed + s.reserveBytes reserve) := by
    rintro (h | h | h)
    · exact hr h
    · exact h hon
    · exact Nat.not_lt.mpr hfit h
  have hpanel : s.mirrorOwner.isSome ∧ table[k]? = s.mirrorOwner := ⟨by rw [hown]; rfl, by rw [hown, ht]⟩
  have hname : table.getD k 0 = owner := by rw [List.getD_eq_getElem?_getD, ht, Option.getD_some]
  change execAdmitStream stream pl k sb reserve latency sampling table mok s = _
  rw [execAdmitStream, hact, if_pos hpanel, State.reserveMirror, if_neg hgo, hname]
  rfl

end

/-! ### PROMPT, and messages that do not fit (R153, R156, R158) -/

/-- A message reaches the one stretch that this panel has of a stream. -/
theorem State.onStretches_own {s : State} {stream : Nat} {f : State → Stream → State} {x : Stream} (hx : s.stream stream = some x)
    (hadopted : (f s x).stream (adoptedKey stream) = none) : s.onStretches stream f = f s x := by
  simp only [State.onStretches, List.foldl_cons, List.foldl_nil, hx, hadopted]

theorem adoptedKey_ne (stream : Nat) : adoptedKey stream ≠ stream := by
  unfold adoptedKey
  omega

/-- A message that changes the one stretch that this panel has of a stream. -/
theorem State.onStretches_setStream {s : State} {stream : Nat} {f : State → Stream → State} {x y : Stream} (hx : s.stream stream = some x)
    (hadopted : s.stream (adoptedKey stream) = none) (hf : f s x = s.setStream stream (some y)) : s.onStretches stream f = s.setStream stream (some y) := by
  rw [State.onStretches_own hx, hf]
  rw [hf, State.stream_setStream_ne _ _ (adoptedKey_ne stream), hadopted]

/-- The tokens of a PROMPT that fall in a holder's own stretch, with their positions. -/
def Stream.placed (x : Stream) (position : Nat) (tokens : List Nat) : List (Nat × Nat) :=
  (tokens.zipIdx.map (fun p => (position + p.2, p.1))).filter (fun p => decide (p.1 < x.promptLen) && p.1 / 256 / x.sb == x.k)

/-- A stream that has had a PROMPT. -/
def Stream.prompted (x : Stream) (placed : List (Nat × Nat)) : Stream :=
  { x with touched := true, prompt := placed.foldl (fun m p => mapSet m p.1 p.2) x.prompt
           st := if x.st = .admitted ∧ placed ≠ [] then .prefill else x.st }

theorem exec_prompt_taken {s : State} {stream : Nat} (position : Nat) {tokens : List Nat} {x : Stream} (hact : s.cuActs 1 = true)
    (hx : s.stream stream = some x) (hid : x.id = stream) (hadopted : s.stream (adoptedKey stream) = none)
    (hf : s.recovery.fenced.contains stream = false) (hlen : tokens.length ≤ 1020) :
    exec (.prompt stream position tokens) s = .next (s.setStream stream (some (x.prompted (x.placed position tokens)))) := by
  subst hid
  change execPrompt x.id position tokens s = _
  rw [execPrompt, hact, if_neg (Nat.not_lt.mpr hlen)]
  refine congrArg _ (State.onStretches_setStream hx hadopted ?_)
  rw [hf]
  rfl

theorem exec_prompt_tooLong {s : State} (stream position : Nat) {tokens : List Nat} (hact : s.cuActs 1 = true) (hlen : 1020 < tokens.length) :
    exec (.prompt stream position tokens) s = .next (s.misfit stream 2) := by
  change execPrompt stream position tokens s = _
  rw [execPrompt, hact, if_pos hlen]
  rfl

theorem exec_unknownServingMessage_misfit {s : State} {head : BitVec 128} {body : List (BitVec 8)} (hact : s.cuActs 1 = true)
    (hfit : servingFits head body = false) : exec (.unknownServingMessage head body) s = .next (s.misfit (fld head 32 32) (fld head 0 8)) := by
  change execUnknownServingMessage head body s = _
  rw [execUnknownServingMessage, hact, hfit]
  rfl

/-! ### CANCEL (R156, R159) -/

/-- The message that frees a stream's blocks at its mirror holder, where that is another panel. -/
def State.mirrorTold (s : State) (stream : Nat) : List Sent :=
  if s.mirrorOn ∧ s.mirrorHolder ≠ s.panelId then [.blocksFree s.mirrorHolder (stream % 2 ^ 32)] else []

theorem State.tellMirror_spec (s : State) (x : Stream) : Keeps [.out] [] s (s.tellMirror x) ∧ (s.tellMirror x).out = s.out ++ s.mirrorTold x.id := by
  unfold State.tellMirror State.mirrorTold
  simp only [Bool.and_eq_true, bne_iff_ne]
  split
  · exact ⟨s.send_keeps _, rfl⟩
  · exact ⟨.refl _ _ _, (List.append_nil _).symm⟩

/-- Whom a stream's end is told at the mirror holder rests on the panel's place and its mirroring. -/
theorem State.mirrorTold_congr {l : List Part} {os : List Obj} {s t : State} (h : Keeps l os s t)
    (ho : ∀ o ∈ placeObjs, o ∉ os) (stream : Nat) : t.mirrorTold stream = s.mirrorTold stream := by
  obtain ⟨hpanel, hmirror, hnext⟩ := h.place ho
  rw [State.mirrorTold, State.mirrorTold, State.mirrorHolder, State.mirrorHolder, hpanel, hmirror, hnext]

/-- A stream that nothing has touched is freed here and at its mirror holder. -/
theorem State.freed_spec (s : State) (x : Stream) : Keeps (.out :: dropParts) dropObjs s ((s.dropStream x).tellMirror x) ∧
    ((s.dropStream x).tellMirror x).out = s.out ++ s.mirrorTold x.id ∧
    ∀ i, ((s.dropStream x).tellMirror x).stream i = if i = x.id then none else s.stream i := by
  have hdrop := s.dropStream_keeps x
  obtain ⟨htell, hout⟩ := (s.dropStream x).tellMirror_spec x
  refine ⟨(hdrop.mono (by decide)).trans (htell.mono (by decide)), ?_, fun i => ?_⟩
  · have hquiet : (s.dropStream x).out = s.out := hdrop.1 .out (by decide)
    rw [hout, hquiet, State.mirrorTold_congr hdrop (by decide)]
  · rw [htell.1.stream (by decide), State.dropStream_stream]

section
variable {s : State} {stream : Nat} {x : Stream} (hact : s.cuActs 1 = true) (hx : s.stream stream = some x) (hid : x.id = stream)
  (hadopted : s.stream (adoptedKey stream) = none) (hf : s.recovery.fenced.contains stream = false)
include hact hx hid hadopted hf

theorem exec_cancel_untouched (ht : x.touched = false) (hlen : 1 < x.table.length) : exec (.cancel stream false) s =
    .next ((((s.dropStream x).tellMirror x).status stream 4 .aborted).freeMirror stream) := by
  have hcancel : s.cancelStream false x = ((s.dropStream x).tellMirror x).status stream 4 .aborted := by
    rw [State.cancelStream, hid, hf, ht, decide_eq_true hlen]
    rfl
  have hgone : (s.cancelStream false x).stream (adoptedKey stream) = none := by
    rw [hcancel, (State.status_keeps _ _ _ _).1.stream (by decide), (s.freed_spec x).2.2, hadopted, ite_self]
  change execCancel stream false s = _
  rw [execCancel, hact, State.onStretches_own hx hgone, hcancel]
  rfl

theorem exec_cancel_remembered (complete : Bool) {w : Wave} (ht : x.touched = true) (hw : w ∈ s.waveList) (hr : w.replica = x.replica) :
    exec (.cancel stream complete) s = .next ((s.setStream stream (some { x with cancelled := true })).freeMirror stream) := by
  have hflight (u : State) (hu : u.waves = s.waves) : u.waveList.any (fun w => w.replica == x.replica) = true := by
    rw [State.waveList, hu]
    exact List.any_eq_true.mpr ⟨w, hw, beq_iff_eq.mpr hr⟩
  have hcancel : s.cancelStream complete x = s.setStream stream (some { x with cancelled := true }) := by
    rw [State.cancelStream, hid, hf, ht, Bool.not_true, Bool.and_false, Bool.false_and]
    exact if_pos (hflight _ rfl)
  change execCancel stream complete s = _
  rw [execCancel, hact, State.onStretches_setStream hx hadopted hcancel]
  rfl

end

/-! ### Queries, the head record and the admission hold (R154, R156, R164) -/

/-- A stream that a query has reached. -/
def Stream.queried (x : Stream) (layer position : Nat) (prefill : Bool) : Stream :=
  { x with touched := true
           queries := if x.queries.contains (layer, prefill, position) then x.queries else x.queries ++ [(layer, prefill, position)]
           position := if x.isHead ∨ prefill then x.position else position }

theorem Stream.mem_queries_queried (x : Stream) (layer position : Nat) (prefill : Bool) :
    (layer, prefill, position) ∈ (x.queried layer position prefill).queries ∧ ∀ l ∈ x.queries, l ∈ (x.queried layer position prefill).queries := by
  simp only [Stream.queried]
  split
  · next h => exact ⟨List.contains_iff_mem.mp h, fun _ hl => hl⟩
  · exact ⟨List.mem_append_right _ (List.mem_singleton_self _), fun _ hl => List.mem_append_left _ hl⟩

section
variable {s : State} {stream : Nat} {x : Stream} (hx : s.stream stream = some x) (hid : x.id = stream) (hadopted : s.stream (adoptedKey stream) = none)
include hx hid hadopted

theorem exec_queryArrival (layer position : Nat) (prefill : Bool) :
    exec (.queryArrival stream layer position prefill) s = .next (s.setStream stream (some (x.queried layer position prefill))) :=
  congrArg Host.Outcome.next (State.onStretches_setStream hx hadopted (hid ▸ rfl))

theorem exec_headRecordReceive {position : Nat} (sampling token : Nat) (hhead : x.isHead = false)
    (hp : (position + 1) / 256 / x.sb = x.k) : exec (.headRecordReceive stream position sampling token) s =
      .next (s.setStream stream (some { x with
        isHead := true, position := position + 1, delivered := position, sampling := sampling, lastToken := token, st := .ready, layer := 0
        readyAt := s.time, touched := true })) := by
  refine congrArg Host.Outcome.next (State.onStretches_setStream hx hadopted ?_)
  rw [hhead, hp, hid, beq_self_eq_true]
  rfl

end

theorem exec_admitHoldExpiry {s : State} {stream : Nat} {x : Stream} (hx : s.stream stream = some x) (ht : x.touched = false)
    (htime : x.admittedAt + s.obj .X070F 0 * 10 ^ 9 ≤ s.time) :
    exec (.admitHoldExpiry stream) s = .next (((s.dropStream x).tellMirror x).raise evStreamRefused stream [codeNum .aborted, 156]) := by
  change execAdmitHoldExpiry stream s = _
  simp only [execAdmitHoldExpiry, hx, ht, decide_eq_true htime, Bool.not_false, Bool.and_self, if_true]

/-- Settles O26: each message answers, sets one stream, or frees one, and the clauses are read off what those updates leave. -/
theorem servingMessagesComplete : Obligations.ServingMessagesComplete := by
  unfold Obligations.ServingMessagesComplete
  refine ⟨fun s stream pl k sb reserve sampling latency mok table hact hstage => exec_admitStream_kept hact hstage _ _ _ _ _ _ _ _ _,
    fun s stream position tokens complete head body hact hstage hfit =>
      ⟨exec_prompt_kept hact hstage _ _ _, exec_cancel_kept hact hstage _ _, exec_unknownServingMessage_kept hact hstage hfit⟩,
    fun s stream pl k sb reserve sampling latency mok table hact hr => ?admitted,
    fun s stream pl k sb reserve sampling r latency mok table hact hown hr =>
      ⟨_, exec_admitStream_refused hact hown hr, State.status_raise_spec _ _ _ _ _ _ _⟩,
    fun s stream pl k sb reserve sampling owner latency mok table hact hown ht hr hon hfit =>
      ⟨_, exec_admitStream_mirror hact hown ht hr hon hfit, rfl, mapGet_mapSet_same _ _ _ _,
        ((s.recovery_keeps _).1.mono (by decide)).trans ((State.send_unchanged _ _).mono (by decide))⟩,
    fun s stream position tokens x hact hx hid hadopted hf hlen =>
      ⟨_, exec_prompt_taken position hact hx hid hadopted hf hlen, State.stream_setStream _ _ _, fun i hi => State.stream_setStream_ne _ _ hi,
        (s.setStream_keeps _ _).1⟩,
    fun s stream position tokens hact hlen => ⟨_, exec_prompt_tooLong stream position hact hlen, State.status_raise_spec _ _ _ _ _ _ _⟩,
    fun s head body hact hfit => ⟨_, exec_unknownServingMessage_misfit hact hfit, State.status_raise_spec _ _ _ _ _ _ _⟩,
    fun s stream x hact hx hid hadopted hf ht hlen => ?freed,
    fun s stream complete x w hact hx hid hadopted hf ht hw hr => ?remembered,
    fun s stream layer position prefill x hx hid hadopted =>
      ⟨_, _, exec_queryArrival hx hid hadopted layer position prefill, State.stream_setStream _ _ _, rfl, (x.mem_queries_queried _ _ _).1,
        (x.mem_queries_queried _ _ _).2, rfl, (s.setStream_keeps _ _).1⟩,
    fun s stream position sampling token x hx hid hadopted hhead hp =>
      ⟨_, _, exec_headRecordReceive hx hid hadopted sampling token hhead hp, State.stream_setStream _ _ _, rfl, rfl, rfl, rfl, rfl, rfl, rfl,
        (s.setStream_keeps _ _).1⟩,
    fun s stream x hx hid ht htime => ?expired⟩
  case admitted =>
    obtain ⟨i, d, x, he, hid, hk, hsb, hreserve, hlatency, htable, hlen, htouched, hcancelled, hhead⟩ :=
      exec_admitStream_admitted (sampling := sampling) hact hr
    let u := (s.setIod i d).setStream stream (some x)
    have hshown : Keeps [.objs, .out] streamObjs u (u.showStreams.status stream 1 .ok) :=
      ((State.showStreams_keeps _).mono (by decide)).trans ((State.status_keeps _ _ _ _).mono (by decide))
    have hset : Keeps [.streams, .iods] [] s u := ((s.setIod_keeps i d).mono (by decide)).trans ((State.setStream_keeps _ _ _).mono (by decide))
    refine ⟨_, x, he, ?_, hid, hk, hsb, hreserve, hlatency, htable, hlen, htouched, hcancelled, hhead, fun j hj => ?_, rfl, ?_⟩
    · rw [hshown.1.stream (by decide), State.stream_setStream]
    · rw [hshown.1.stream (by decide), State.stream_setStream_ne _ _ hj]
      rfl
    · exact (hset.mono (l' := [.streams, .iods, .objs, .out]) (os' := streamObjs) (by decide)).trans (hshown.mono (by decide))
  case freed =>
    obtain ⟨hkeeps, hout, hstreams⟩ := s.freed_spec x
    have hmirror := (((s.dropStream x).tellMirror x).status stream 4 .aborted).freeMirror_keeps stream
    have hafter := ((State.status_keeps ((s.dropStream x).tellMirror x) stream 4 .aborted).mono (by decide)).trans
      (hmirror.mono (l' := [.out, .recovery]) (os' := []) (by decide))
    refine ⟨_, exec_cancel_untouched hact hx hid hadopted hf ht hlen, ?_, fun i hi => ?_, ?_, ?_⟩
    · rw [hafter.1.stream (by decide), hstreams, if_pos hid.symm]
    · rw [hafter.1.stream (by decide), hstreams, if_neg (hid ▸ hi)]
    · have hquiet := hmirror.1 .out (by decide)
      exact hquiet.trans (by rw [State.status_out, hout, hid]; rfl)
    · exact ((hkeeps.mono (l' := .out :: dropParts) (os' := dropObjs) (by decide)).trans (hafter.mono (by decide))).1.memory (by decide) (by decide)
  case remembered =>
    have hmirror := (s.setStream stream (some { x with cancelled := true })).freeMirror_keeps stream
    refine ⟨_, exec_cancel_remembered hact hx hid hadopted hf complete ht hw hr, ?_, ?_⟩
    · rw [hmirror.1.stream (by decide), State.stream_setStream]
    · exact ((s.setStream_keeps _ _).1.mono (by decide)).trans (hmirror.1.mono (by decide))
  case expired =>
    obtain ⟨hkeeps, -, hstreams⟩ := s.freed_spec x
    have hraise := State.raise_keeps ((s.dropStream x).tellMirror x) evStreamRefused stream [codeNum .aborted, 156]
    refine ⟨_, exec_admitHoldExpiry hx ht htime, ?_, ?_, ?_⟩
    · rw [hraise.1.stream (by decide), hstreams, if_pos hid.symm]
    · rw [(State.raise_events _ _ _ _).1]
      rfl
    · exact ((hkeeps.mono (l' := .log :: .out :: dropParts) (os' := dropObjs) (by decide)).trans (hraise.mono (by decide))).1.memory (by decide) (by decide)

end Sys2Proof.Machine
end

section
/-!
The head's tokens, and streams whose token has failed (R154, R155, R159, R167, R179).
-/

namespace Sys2Proof.Machine

/-- A stream whose token has gone to the host. -/
def Stream.delivering (x : Stream) (token now : Nat) : Stream :=
  { x with delivered := x.position, lastToken := token, mirrorSent := none, st := .ready, layer := 0, readyAt := now }

/-- TOKEN leaves, and the stream stands at its next token. -/
def State.tokenLeaves (s : State) (x : Stream) (token : Nat) : State :=
  (s.send (servingMsg 3 .ok (x.id % 2 ^ 32) x.position [token])).setStream x.id (some (x.delivering token s.time))

theorem State.tokenLeaves_keeps (s : State) (x : Stream) (token : Nat) : Keeps [.out, .streams] [] s (s.tokenLeaves x token) :=
  ((s.send_keeps _).mono (by decide)).trans ((State.setStream_keeps _ _ _).mono (by decide))

theorem State.deliverToken_last (s : State) (x : Stream) (token : Nat) :
    s.deliverToken x token true = (s.tokenLeaves x token).endStream (x.delivering token s.time) 0 .ok := rfl

/-- The end token ends the stream: TOKEN and END leave, its other holders are told, and it is freed. -/
theorem State.deliverToken_last_spec {s : State} {x : Stream} (token : Nat) (hhead : x.isHead = true) (hf : s.recovery.fenced.contains x.id = false) :
    Keeps (.out :: dropParts) dropObjs s (s.deliverToken x token true) ∧ (s.deliverToken x token true).stream x.id = none ∧
      (s.deliverToken x token true).out =
        s.out ++ [servingMsg 3 .ok (x.id % 2 ^ 32) x.position [token], servingMsg 6 .ok (x.id % 2 ^ 32) x.position [0]] ++ s.told x := by
  have hleaves := s.tokenLeaves_keeps x token
  rw [State.deliverToken_last]
  refine ⟨(hleaves.mono (by decide)).trans (State.endStream_keeps _ _ _ _), ?_, ?_⟩
  · rw [State.endStream_stream]
    exact if_pos rfl
  · have hout : (s.tokenLeaves x token).out = s.out ++ [servingMsg 3 .ok (x.id % 2 ^ 32) x.position [token]] := rfl
    have htold : (s.tokenLeaves x token).told (x.delivering token s.time) = s.told x := State.told_congr hleaves (by decide) (by decide) x
    rw [State.endStream_out (s := s.tokenLeaves x token) (x := x.delivering token s.time) hhead hf, hout, htold, List.append_assoc, List.append_assoc]
    rfl

/-- A head that is inside its stretch and its reserve turns to the next position. -/
theorem State.deliverToken_next {s : State} {x : Stream} (token : Nat) (hp : x.position + 1 < 2 ^ 32)
    (hstretch : (x.position + 1) / 256 < (x.k + 1) * x.sb) (hreserve : (x.position + 1) / 256 - x.k * x.sb < x.reserve) :
    s.deliverToken x token false =
      (s.tokenLeaves x token).setStream x.id (some { x.delivering token s.time with position := x.position + 1 }) := by
  have hnext (u : State) (y : Stream) (hk : y.k = x.k) (hsb : y.sb = x.sb) (hr : y.reserve = x.reserve) :
      u.nextToken y (x.position + 1) = u.setStream y.id (some { y with position := x.position + 1 }) := by
    rw [State.nextToken, hk, hsb, hr, if_neg (Nat.not_le.mpr hstretch), if_neg (Nat.not_le.mpr hreserve)]
  exact (if_neg (Nat.not_le.mpr hp)).trans (hnext (s.tokenLeaves x token) (x.delivering token s.time) rfl rfl rfl)

/-- A head whose mirror wait has passed: the stream is unmirrored, and MIRROR_LATE is in the log. -/
def State.unmirrored (s : State) (x : Stream) (sent : Nat) : State :=
  ((s.setStream x.id (some { x with unmirrored := true })).showStreams).raise evMirrorLate x.id [x.position, (s.time - sent) / 1000]

theorem State.unmirrored_keeps (s : State) (x : Stream) (sent : Nat) : Keeps [.streams, .objs, .log] streamObjs s (s.unmirrored x sent) :=
  (((s.setStream_keeps _ _).mono (by decide)).trans ((State.showStreams_keeps _).mono (by decide))).trans ((State.raise_keeps _ _ _ _).mono (by decide))

section
variable {s : State} {stream : Nat} {x : Stream} (hx : s.stream stream = some x)
include hx

theorem exec_tokenSend (token : Nat) (last : Bool) (hact : s.cuActs 1 = true) (hhead : x.isHead = true) (hst : x.st = .sampled)
    (hc : x.cancelled = false) (hf : s.recovery.fenced.contains stream = false) (hm : s.mirrored x = true) :
    exec (.tokenSend stream token last) s = .next (s.deliverToken x token last) := by
  change execTokenSend stream token last s = _
  simp only [execTokenSend, hx, hact, hhead, hst, hc, hf, hm, decide_true, Bool.not_false, Bool.and_self, if_true]

theorem exec_mirrorWaitExpiry {sent : Nat} (token : Nat) (last : Bool) (hid : x.id = stream) (hsent : x.mirrorSent = some sent) (hact : s.cuActs 1 = true)
    (hhead : x.isHead = true) (hst : x.st = .sampled) (hc : x.cancelled = false) (hf : s.recovery.fenced.contains stream = false)
    (hm : s.mirrored x = false) (htime : sent + s.obj .X070A 0 * 1000 ≤ s.time) :
    exec (.mirrorWaitExpiry stream token last) s = .next ((s.unmirrored x sent).deliverToken { x with unmirrored := true } token last) := by
  change execMirrorWaitExpiry stream token last s = _
  rw [execMirrorWaitExpiry, hx]
  dsimp only
  split
  · next t ht =>
    obtain rfl : t = sent := Option.some.inj (ht.symm.trans hsent)
    refine congrArg _ ((if_pos ?_).trans (by rw [State.unmirrored, hid]; rfl))
    simp only [hact, hhead, hst, hc, hf, hm, decide_eq_true htime, decide_true, Bool.not_false, Bool.and_self]
  · next hnone => exact absurd (hnone.symm.trans hsent) (by simp)

theorem exec_streamTokenRerun (hst : x.st = .faulted) (hw : ∀ w ∈ s.waveList, stream ∉ w.batch) :
    exec (.streamTokenRerun stream) s = .next (s.setStream stream (some { x with st := .ready, layer := 0, readyAt := s.time })) := by
  have hout : s.waveList.any (fun w => w.batch.contains stream) = false := by
    rw [List.any_eq_false]
    intro w hm hin
    exact hw w hm (List.contains_iff_mem.mp hin)
  change execStreamTokenRerun stream s = _
  simp only [execStreamTokenRerun, hx, hst, hout, Bool.not_false, and_self, if_true]

theorem exec_streamFaultTimeout (hst : x.st = .faulted) (htime : x.faultedAt + 2 * 10 ^ 9 ≤ s.time) :
    exec (.streamFaultTimeout stream) s = .next (s.endStream x 4 .aborted) := by
  change execStreamFaultTimeout stream s = _
  simp only [execStreamFaultTimeout, hx, if_pos (And.intro hst htime)]

end

/-- Settles O27: a token that goes ends its stream or turns to the next position in the state that its TOKEN leaves; a faulted stream is set
ready again or ended. -/
theorem tokenCommandsComplete : Obligations.TokenCommandsComplete := by
  unfold Obligations.TokenCommandsComplete
  refine ⟨fun s stream token x hx hid hact hhead hst hc hf hm => ?last,
    fun s stream token x hx hid hact hhead hst hc hf hm hp hstretch hreserve => ?next,
    fun s stream token sent x hx hid hsent hact hhead hst hc hf hm htime => ?late,
    fun s stream x hx hst hw => ⟨_, exec_streamTokenRerun hx hst hw, State.stream_setStream _ _ _, (s.setStream_keeps _ _).1⟩,
    fun s stream x hx hid hst htime => ?timeout⟩
  case last =>
    subst hid
    obtain ⟨hkeeps, hgone, hout⟩ := State.deliverToken_last_spec token hhead hf
    exact ⟨_, exec_tokenSend hx token true hact hhead hst hc hf hm, hgone, hkeeps.1.memory (by decide) (by decide), hout⟩
  case next =>
    subst hid
    refine ⟨_, exec_tokenSend hx token false hact hhead hst hc hf hm, ?_, ?_, ?_⟩
    · rw [State.deliverToken_next token hp hstretch hreserve, State.stream_setStream]
      rfl
    · rw [State.deliverToken_next token hp hstretch hreserve]
      rfl
    · rw [State.deliverToken_next token hp hstretch hreserve]
      exact ((s.tokenLeaves_keeps x token).1.mono (by decide)).trans ((State.setStream_keeps _ _ _).1.mono (by decide))
  case late =>
    subst hid
    have hlate := s.unmirrored_keeps x sent
    have hfenced : (s.unmirrored x sent).recovery.fenced.contains x.id = false := by
      have hrecovery : (s.unmirrored x sent).recovery = s.recovery := hlate.1 .recovery (by decide)
      rw [hrecovery, hf]
    obtain ⟨hkeeps, hgone, hout⟩ := State.deliverToken_last_spec (s := s.unmirrored x sent) (x := { x with unmirrored := true }) token hhead hfenced
    refine ⟨_, exec_mirrorWaitExpiry hx token true rfl hsent hact hhead hst hc hf hm htime, hgone, ?_, ?_, ?_⟩
    · exact ((hlate.mono (l' := .log :: .out :: dropParts) (os' := dropObjs) (by decide)).trans (hkeeps.mono (by decide))).1.memory (by decide) (by decide)
    · have hlog := hkeeps.1 .log (by decide)
      rw [Part.same] at hlog
      rw [hlog, State.unmirrored, (State.raise_events _ _ _ _).1]
      rfl
    · have hquiet : (s.unmirrored x sent).out = s.out := hlate.1 .out (by decide)
      have htold : (s.unmirrored x sent).told { x with unmirrored := true } = s.told x := State.told_congr hlate (by decide) (by decide) x
      rw [hout, hquiet, htold]
      rfl
  case timeout =>
    refine ⟨_, exec_streamFaultTimeout hx hst htime, ?_, (s.endStream_keeps x 4 .aborted).1.memory (by decide) (by decide)⟩
    rw [State.endStream_stream, if_pos hid.symm]

end Sys2Proof.Machine
end

section
/-!
Waves (R160 to R163, R176): what a dispatch, a rerun and a wave's end change and leave alone.
-/

namespace Sys2Proof.Machine

theorem sameMemory.trans {s t u : State} (h : sameMemory s t) (h' : sameMemory t u) : sameMemory s u :=
  ⟨fun a => (h'.1 a).trans (h.1 a), h'.2.trans h.2⟩

theorem State.setTile_keeps (s : State) (a b : Nat) (v : Tile) : Keeps [.tiles] [] s (s.setTile a b v) := .of_parts (s.setTile_unchanged _ _ _) (by decide)

theorem State.setSite_keeps (s : State) (a : Nat) (v : Site) : Keeps [.sites] [] s (s.setSite a v) := .of_parts (s.setSite_unchanged _ _) (by decide)

/-! ### What a wave's tiles are given (R162, R164, R168, R176) -/

theorem State.clearBanks_keeps (s : State) (replica slot wave : Nat) : Keeps [.sites, .iods] [] s (s.clearBanks replica slot wave) :=
  (Keeps.foldl (fun u p => (u.setSite_keeps p _).mono (by decide)) _ s).trans (.foldl (fun u i => (u.setIod_keeps i _).mono (by decide)) _ _)

theorem State.closeTransit_keeps (s : State) (batch : List Nat) : Keeps [.iods] [] s (s.closeTransit batch) :=
  .foldl (fun u id => .foldl (fun u i => u.setIod_keeps i _) [streamIod id, streamIod id ^^^ 1] u) batch s

theorem State.openTransit_keeps (s : State) (img : PlanImage) (sat prefill : Bool) (batch : List Nat) :
    Keeps [.iods] [] s (s.openTransit img sat prefill batch) :=
  (s.closeTransit_keeps batch).trans (.foldl (fun u (x : Stream) => .ite (u.setIod_keeps x.iod _) (.ite (.refl _ _ _) (u.setIod_keeps x.iod _))) _ _)

theorem State.sendQueries_keeps (s : State) (layer : Nat) (prefill : Bool) (batch : List Nat) : Keeps [.out] [] s (s.sendQueries layer prefill batch) :=
  .foldl (fun u _ => .ite (.refl _ _ _) (.foldl (fun u _ => u.send_keeps _) _ u)) _ s

theorem State.writeHeads_keeps (s : State) (img : PlanImage) (layer : Nat) (prefill : Bool) (batch : List Nat) :
    Keeps [.mem, .poison, .cols] [] s (s.writeHeads img layer prefill batch) := by
  have hwrite (u : State) (p tile a : Nat) (l : List Cell32) : Keeps [.mem, .poison, .cols] [] u (u.vaultWrite p tile a l) :=
    .of_parts (u.vaultWrite_unchanged _ _ _ _) (by decide)
  unfold State.writeHeads
  split
  · exact .refl _ _ _
  · refine .foldl (fun u x => .foldl (fun u e => ?_) _ u) _ s
    split
    · exact .refl _ _ _
    · exact hwrite _ _ _ _ _

theorem State.writeHeads_of_none {img : PlanImage} (h : img.summaries = []) (s : State) (layer : Nat) (prefill : Bool) (batch : List Nat) :
    s.writeHeads img layer prefill batch = s := by
  rw [State.writeHeads, h]
  rfl

/-- The objects in which a tile that takes a trap shows it. -/
def trapObjs : List Obj := [.S0300, .S0301, .S0302, .S0405]

theorem State.writeBatch_keeps (s : State) (img : PlanImage) (w : Wave) :
    Keeps [.freeCount, .tiles, .objs, .sites, .mem, .poison] trapObjs s (s.writeBatch img w) := by
  have hfree (u : State) (n : Nat) : Keeps [.freeCount] [] u { u with freeCount := n } := .of_parts (by rw [unchangedBut_iff]; simp) (by decide)
  have harrive (u : State) (p tile a : Nat) (l : List Cell32) : Keeps [.tiles, .objs, .sites, .mem, .poison] trapObjs u (u.arrive p tile a l).1 :=
    ⟨u.arrive_unchanged _ _ _ _, u.arrive_objs _ _ _ _⟩
  unfold State.writeBatch
  split
  · exact .refl _ _ _
  · split
    · exact .refl _ _ _
    · exact ((hfree _ _).mono (by decide)).trans ((harrive _ _ _ _ _).mono (by decide))

theorem State.writeBatch_of_none {img : PlanImage} (h : img.batchAt = []) (s : State) (w : Wave) : s.writeBatch img w = s := by
  rw [State.writeBatch, h]
  rfl

theorem State.giveRun_keeps (s : State) (site tl : Nat) (r : Run) : Keeps [.tiles] [] s (s.giveRun site tl r) :=
  .ite (s.setTile_keeps _ _ _) ((s.setTile_keeps _ _ _).trans (State.setTile_keeps _ _ _ _))

/-- A wave before its tables are written: its bank is clear, its transit tickets are open, its queries have left. -/
def State.waveOpened (s : State) (img : PlanImage) (w : Wave) : State :=
  ((s.clearBanks w.replica w.slot w.number).openTransit img w.sat w.prefill w.batch).sendQueries (layerOfType img w.waveType) w.prefill w.batch

theorem State.waveOpened_keeps (s : State) (img : PlanImage) (w : Wave) : Keeps [.sites, .iods, .out] [] s (s.waveOpened img w) :=
  (((s.clearBanks_keeps _ _ _).mono (by decide)).trans ((State.openTransit_keeps _ _ _ _ _).mono (by decide))).trans
    ((State.sendQueries_keeps _ _ _ _).mono (by decide))

/-- A wave whose summary headers and batch table stand where its tiles read them. -/
def State.waveTables (s : State) (img : PlanImage) (w : Wave) : State :=
  ((s.waveOpened img w).writeHeads img (layerOfType img w.waveType) w.prefill w.batch).writeBatch img w

/-- A wave's tiles take their runs, and the wave stands in its slot. -/
theorem State.runWave_of_tables (s : State) (img : PlanImage) (w : Wave) :
    Keeps [.tiles, .objs, .waves] [.X0142] (s.waveTables img w) (s.runWave img w) ∧ (s.runWave img w).wave w.replica w.slot = some w := by
  refine ⟨?_, State.wave_setWave _ _ _ _⟩
  refine (Keeps.foldl (fun u i => ?_) _ _).trans (((State.setObj_keeps _ _ _ _).mono (by decide)).trans ((State.setWave_keeps _ _ _ _).mono (by decide)))
  split
  · exact .refl _ _ _
  · exact .foldl (fun u k => (u.giveRun_keeps _ k _).mono (by decide)) _ u

/-- The parts and objects that a wave's start may change. -/
def waveParts : List Part := [.sites, .iods, .out, .mem, .poison, .cols, .freeCount, .tiles, .objs, .waves]
def waveObjs : List Obj := .X0142 :: trapObjs

theorem State.runWave_keeps (s : State) (img : PlanImage) (w : Wave) : Keeps waveParts waveObjs s (s.runWave img w) :=
  (((s.waveOpened_keeps img w).mono (by decide)).trans (((State.writeHeads_keeps _ _ _ _ _).mono (by decide)).trans
    ((State.writeBatch_keeps _ _ _).mono (by decide)))).trans ((s.runWave_of_tables img w).1.mono (by decide))

/-- A wave of a plan that places neither summary tables nor a batch table writes no memory. -/
theorem State.runWave_sameMemory {img : PlanImage} (hs : img.summaries = []) (hb : img.batchAt = []) (s : State) (w : Wave) :
    sameMemory s (s.runWave img w) := by
  have htables : s.waveTables img w = s.waveOpened img w := by rw [State.waveTables, State.writeHeads_of_none hs, State.writeBatch_of_none hb]
  have hrun := (s.runWave_of_tables img w).1.1.memory (by decide) (by decide)
  rw [htables] at hrun
  exact ((s.waveOpened_keeps img w).1.memory (by decide) (by decide)).trans hrun

/-! ### A dispatch (R160 to R162) -/

theorem State.applyCommits_of_none {s : State} (h : s.commits = []) (wave : Bool) : s.applyCommits wave = s := by
  have hnone : s.applyCommits wave = { s with commits := [] } := by
    rw [State.applyCommits, h]
    rfl
  rw [hnone, ← h]

theorem State.applyShadows_of_none {s : State} (h : s.shadow = []) (wave : Bool) : s.applyShadows wave = s := by
  rw [State.applyShadows, h]
  rfl

theorem State.applyCancels_of_none {s : State} (h : ∀ x ∈ s.streamList, x.cancelled = false) (replica : Nat) : s.applyCancels replica = s := by
  have hnone : s.streamList.filter (fun x => x.cancelled && x.replica == replica) = [] := by
    rw [List.filter_eq_nil_iff]
    intro x hx
    simp [h x hx]
  rw [State.applyCancels, hnone]
  rfl

/-- What a dispatch needs (R160 to R162): a unit acts and the comparator has passed it, no stream is cancelled, and the wave type, of a layer and
kind, finds a batch, a free slot and room for another wave on a replica that serves. -/
structure State.MayDispatch (s : State) (img : PlanImage) (replica wt slot layer : Nat) (prefill : Bool) : Prop where
  acts : s.cuActs 0 = true
  passed : s.passed 0 s.plan.nextWave = true
  image : s.plan.image = some img
  type : ∃ e, img.waveTypes.find? (fun e => e.1 == wt) = some (e, layer, prefill)
  uncancelled : ∀ x ∈ s.streamList, x.cancelled = false
  slot : (List.range 4).find? (fun k => (s.wave replica k).isNone) = some slot
  serving : s.obj .X0700 0 = planServing
  replicaServes : s.obj .X0F03 replica = 0
  batch : s.batch replica img.chunk layer prefill ≠ []
  room : (s.waveList.filter (fun w => w.replica == replica)).length < s.obj .X0705 0

/-- The next wave number is taken: what the comparator has passed is spent, and the dispatch is counted. -/
def State.numbered (s : State) : State :=
  let u := s.takePassed 0 s.plan.nextWave
  ({ u with plan := { u.plan with nextWave := (u.plan.nextWave + 1) % 2 ^ 32 } }).bump .X0706 0 1

theorem State.numbered_spec (s : State) : Keeps [.compare, .plan, .objs] [.X0706] s s.numbered ∧
    s.numbered.plan.nextWave = (s.plan.nextWave + 1) % 2 ^ 32 ∧ s.numbered.obj .X0706 0 = s.obj .X0706 0 + 1 := by
  have hparts (u : State) (c : Compare) (p : Plan) : Keeps [.compare, .plan] [] u { u with compare := c, plan := p } :=
    .of_parts (by rw [unchangedBut_iff]; simp) (by decide)
  exact ⟨((hparts _ _ _).mono (by decide)).trans ((State.bump_keeps _ _ _ _).mono (by decide)), rfl, State.obj_bump _ _ _ _⟩

/-- A dispatch takes the next wave number, which is counted, for a wave of its batch, which then runs. -/
theorem State.dispatchWave_of_may {s : State} {img : PlanImage} {replica wt slot layer : Nat} {prefill : Bool}
    (h : s.MayDispatch img replica wt slot layer prefill) (wp : List (BitVec 32)) : ∃ (u : State) (w : Wave),
      s.dispatchWave replica wt wp = u.runWave img w ∧
      Keeps [.streams, .compare, .plan, .objs] [.X0706] s u ∧ u.plan.nextWave = (s.plan.nextWave + 1) % 2 ^ 32 ∧
      u.obj .X0706 0 = s.obj .X0706 0 + 1 ∧ w.replica = replica ∧ w.slot = slot ∧ w.number = s.plan.nextWave ∧ w.waveType = wt ∧
      w.prefill = prefill ∧ w.batch = (s.batch replica img.chunk layer prefill).map (fun x => x.id) ∧ w.wp = wp ∧ w.aborted = false := by
  obtain ⟨hact, hpassed, himg, ⟨e, htype⟩, hcancel, hslot, hserving, hreplica, hbatch, hroom⟩ := h
  have hgo : ¬((!s.cuActs 0) = true ∨ (!s.passed 0 s.plan.nextWave) = true) := by simp [hact, hpassed]
  have hready : ¬(s.obj .X0700 0 ≠ planServing ∨ s.obj .X0F03 replica ≠ 0 ∨ s.batch replica img.chunk layer prefill = [] ∨
      s.obj .X0705 0 ≤ (s.waveList.filter (fun w => w.replica == replica)).length) := by
    simp [hserving, hreplica, hbatch, hroom]
  rw [State.dispatchWave, if_neg hgo]
  simp only [himg, htype, State.applyCancels_of_none hcancel, hslot]
  rw [if_neg hready]
  have hjoin := Keeps.foldl (fun (u : State) (x : Stream) => u.setStream_keeps x.id (some (u.joinWave img.chunk layer prefill x)))
    (s.batch replica img.chunk layer prefill) s
  obtain ⟨hnumbered, hnext, hcount⟩ := State.numbered_spec
    ((s.batch replica img.chunk layer prefill).foldl (fun u x => u.setStream x.id (some (u.joinWave img.chunk layer prefill x))) s)
  have hplan := hjoin.1 .plan (by decide)
  rw [Part.same] at hplan
  refine ⟨_, _, rfl, (hjoin.mono (by decide)).trans (hnumbered.mono (by decide)), hnext.trans (by rw [hplan]),
    hcount.trans (by rw [hjoin.obj .X0706 0 (by decide)]), rfl, rfl, rfl, rfl, rfl, rfl, rfl, rfl⟩

/-- A dispatch with nothing that waits for the boundary: the wave runs, and its number is taken. -/
theorem exec_waveDispatch_of_may {s : State} {img : PlanImage} {replica wt slot layer : Nat} {prefill : Bool} (hcommits : s.commits = [])
    (hshadow : s.shadow = []) (h : s.MayDispatch img replica wt slot layer prefill) (wp : List (BitVec 32)) :
    exec (.waveDispatch replica wt wp) s = .next (s.dispatchWave replica wt wp) := by
  obtain ⟨u, w, he, -, hnext, -⟩ := State.dispatchWave_of_may h wp
  have hplan : (u.runWave img w).plan = u.plan := (u.runWave_keeps img w).1 .plan (by decide)
  have hnew : (s.dispatchWave replica wt wp).plan.nextWave ≠ s.plan.nextWave := by
    rw [he, hplan, hnext]
    omega
  change execWaveDispatch replica wt wp s = _
  rw [execWaveDispatch, State.applyCommits_of_none hcommits, State.applyShadows_of_none hshadow]
  exact congrArg _ (if_neg hnew)

/-! ### A wave's end and rerun (R162, R163, R179) -/

/-- The parts that a wave's end may change. -/
def endedParts : List Part := [.tiles, .log, .posts, .gates, .out] ++ dropParts

/-- What a wave's end leaves alone: every other part, the objects that show no stream, and every slot that holds no wave. -/
def State.Ended (s t : State) : Prop := Keeps endedParts dropObjs s t ∧ ∀ r k, s.wave r k = none → t.wave r k = none

namespace State.Ended
variable {s t u : State}

theorem refl (s : State) : s.Ended s := ⟨.refl _ _ _, fun _ _ h => h⟩

theorem trans (h : s.Ended t) (h' : t.Ended u) : s.Ended u := ⟨h.1.trans h'.1, fun r k hw => h'.2 r k (h.2 r k hw)⟩

theorem foldl {α : Type} {f : State → α → State} (h : ∀ s x, State.Ended s (f s x)) (xs : List α) (s : State) : s.Ended (xs.foldl f s) := by
  induction xs generalizing s with
  | nil => exact refl s
  | cons x r ih => exact (h s x).trans (ih _)

theorem ite {c : Prop} [Decidable c] (ht : s.Ended t) (hu : s.Ended u) : s.Ended (if c then t else u) :=
  iteInduction (motive := s.Ended) (fun _ => ht) (fun _ => hu)

theorem of_keeps {l : List Part} (h : Keeps l [] s t) (hsub : ∀ p ∈ l, p ∈ endedParts ∧ p ≠ .waves) : s.Ended t :=
  ⟨h.mono ⟨fun p hp => (hsub p hp).1, by decide⟩, fun r k hw => by rw [h.1.wave (fun hm => (hsub _ hm).2 rfl), hw]⟩

end State.Ended

theorem State.setStream_ended (s : State) (i : Nat) (v : Option Stream) : s.Ended (s.setStream i v) := .of_keeps (s.setStream_keeps i v) (by decide)

theorem State.endStream_ended (s : State) (x : Stream) (reason : Nat) (c : Code) : s.Ended (s.endStream x reason c) :=
  ⟨(s.endStream_keeps x reason c).mono (by decide), fun r k hw => by rw [State.endStream_wave, hw]; rfl⟩

theorem State.applyCancels_ended (s : State) (replica : Nat) : s.Ended (s.applyCancels replica) := .foldl (fun u x => u.endStream_ended x 1 .aborted) _ s

theorem State.nextToken_ended (s : State) (x : Stream) (p : Nat) : s.Ended (s.nextToken x p) := by
  unfold State.nextToken
  refine .ite ?_ (.ite (s.endStream_ended _ _ _) (s.setStream_ended _ _))
  split
  · exact s.endStream_ended _ _ _
  · exact ((s.setStream_ended _ _).trans (.of_keeps (State.send_keeps _ _) (by decide))).trans (.of_keeps (State.raise_keeps _ _ _ _) (by decide))

theorem State.sendPost_ended (s : State) (p : Post) : s.Ended (s.sendPost p) := by
  have hposts (l : List Post) : Keeps [.posts] [] s { s with posts := l } := .of_parts (by rw [unchangedBut_iff]; simp) (by decide)
  have hgate (u : State) (a b : Nat) (v : Gate) : Keeps [.gates] [] u (u.setGate a b v) := .of_parts (u.setGate_unchanged a b v) (by decide)
  exact .ite (.of_keeps (hposts _) (by decide)) ((Ended.of_keeps (hposts _) (by decide)).trans (.of_keeps (hgate _ _ _ _) (by decide)))

theorem State.mirrorCopy_ended (s : State) (x : Stream) (position units : Nat) (data : List Cell32) : s.Ended (s.mirrorCopy x position units data).1 := by
  unfold State.mirrorCopy
  dsimp only
  split
  · exact .refl s
  · split
    · exact .of_keeps (s.send_keeps _) (by decide)
    · exact s.sendPost_ended _

/-- What a wave's end means for a stream of its batch: it is set on, after a mirror copy of what it wrote has left, or the head turns on. -/
theorem State.layerDone_ended (s : State) (img : PlanImage) (w : Wave) (x : Stream) : s.Ended (s.layerDone img w x) := by
  have hcopy (y : Stream) (p n : Nat) (d : List Cell32) := s.mirrorCopy_ended y p n d
  unfold State.layerDone
  refine .ite (.refl s) ?_
  split
  · exact s.setStream_ended _ _
  · refine .ite ?prefilled (.ite (s.setStream_ended _ _) ?sampled)
    case prefilled => exact (hcopy _ _ _ _).trans (.ite (State.nextToken_ended _ _ _) (State.setStream_ended _ _ _))
    case sampled => exact (hcopy _ _ _ _).trans (State.setStream_ended _ _ _)

theorem State.forgetWave_ended (s : State) (replica number : Nat) : s.Ended (s.forgetWave replica number) :=
  .of_keeps (.foldl (fun u p => .foldl (fun u k => u.setTile_keeps p k _) _ u) _ s) (by decide)

theorem exec_waveEnd {s : State} {replica slot : Nat} {w : Wave} {img : PlanImage} (hw : s.wave replica slot = some w) (himg : s.plan.image = some img)
    (ha : w.aborted = false) (hover : s.waveOver w = true) : ∃ t : State, exec (.waveEnd replica slot) s = .next t ∧
      ((s.forgetWave replica w.number).setWave replica slot none).Ended t := by
  have hgo : ¬((w.aborted || !s.waveOver w) = true) := by simp [ha, hover]
  change ∃ t : State, execWaveEnd replica slot s = .next t ∧ _
  simp only [execWaveEnd, hw, himg]
  rw [if_neg hgo]
  exact ⟨_, rfl, ((State.Ended.foldl (fun u x => u.layerDone_ended img w x) _ _).trans (.of_keeps (State.closeTransit_keeps _ _) (by decide))).trans
    (State.applyCancels_ended _ _)⟩

theorem exec_waveRerun {s : State} {replica slot : Nat} {w : Wave} {img : PlanImage} (hw : s.wave replica slot = some w) (himg : s.plan.image = some img)
    (ha : w.aborted = true) (hact : s.cuActs 0 = true) (hserves : s.obj .X0F03 replica = 0) : exec (.waveRerun replica slot) s =
      .next (s.runWave img { w with aborted := false, trapped := w.trapped ++ w.trappedNow, trappedNow := [] }) := by
  change execWaveRerun replica slot s = _
  simp only [execWaveRerun, hw, hact, hserves, and_self, if_true, State.rerunWave, himg]
  rw [ha]
  rfl

end Sys2Proof.Machine
end

section
/-!
The plan image (R181 to R183): what a load and its end leave.
-/

namespace Sys2Proof.Machine

theorem exec_planLoad_refused {s : State} (img : PlanImage) (h : s.obj .X0702 0 ≠ 0) :
    exec (.planLoad img) s = .next { s with out := s.out ++ [.planAnswer .accessDenied] } := congrArg Host.Outcome.next (if_pos (.inl h))

theorem exec_planLoad_begins {s : State} (img : PlanImage) (hnone : s.obj .X0702 0 = 0) (hidle : s.obj .X0700 0 ≠ planLoading)
    (hlife : loadAllowed (s.obj .I0D05 0) = true) : exec (.planLoad img) s = .next
      (({ s with plan := { s.plan with before := s.obj .X0700 0, loading := some (checkImage img), loadAt := s.time } }).setObj .X0700 0
        planLoading) := by
  have hgo : ¬(s.obj .X0702 0 ≠ 0 ∨ s.obj .X0700 0 = planLoading ∨ ¬ loadAllowed (s.obj .I0D05 0)) := by
    simp [hnone, hidle, hlife]
  exact congrArg Host.Outcome.next (if_neg hgo)

/-- A load without a fault ends with its plan in force (R183). -/
def State.planReadied (s : State) (img : PlanImage) : State :=
  ((((s.setObj .X0700 0 planReady).setObj .X0701 0 img.generation).setObj .X0704 0 img.waveBatch).setObj .X0705 0 img.wavesInFlight).showStreams

theorem State.planReadied_spec (s : State) (img : PlanImage) : unchangedBut [.objs] s (s.planReadied img) ∧ (s.planReadied img).obj .X0700 0 = planReady ∧
    (s.planReadied img).obj .X0701 0 = img.generation ∧ (s.planReadied img).obj .X0704 0 = img.waveBatch ∧
    (s.planReadied img).obj .X0705 0 = img.wavesInFlight := by
  have hset (u : State) (o : Obj) (v : Nat) := u.setObj_unchanged o 0 v
  have hshown (o : Obj) (ho : o ∉ streamObjs) := fun u : State => u.showStreams_keeps.obj o 0 ho
  refine ⟨((((hset _ _ _).trans (hset _ _ _)).trans (hset _ _ _)).trans (hset _ _ _)).trans (State.showStreams_keeps _).1, ?_, ?_, ?_, ?_⟩
  all_goals
    rw [State.planReadied, hshown _ (by decide)]
    simp

theorem Store.rewritten_lastGen (t : Store) (life : Nat) : (t.rewritten life).lastGen = t.lastGen := by
  unfold Store.rewritten
  dsimp only
  split <;> rfl

section
variable {s : State} {img : PlanImage} (hload : s.plan.loading = some img) (htime : s.plan.loadAt + loadTime img ≤ s.time)
include hload htime

theorem exec_planLoadDone_ready (hfault : s.planFault img = none) : ∃ u : State, exec .planLoadDone s = .next (u.planReadied img) ∧
    u.plan.image = some img ∧ u.plan.loading = none ∧ u.store.lastGen = img.generation := by
  change ∃ u : State, execPlanLoadDone s = .next (u.planReadied img) ∧ _
  simp only [execPlanLoadDone, hload, hfault]
  rw [if_neg (Nat.not_lt.mpr htime)]
  exact ⟨_, rfl, rfl, rfl, Store.rewritten_lastGen _ _⟩

theorem exec_planLoadDone_refused {step sect : Nat} (hfault : s.planFault img = some (step, sect)) (hstep : step < 5) : exec .planLoadDone s =
    .next ((({ s with plan := { s.plan with loading := none } }).setObj .X0700 0 s.plan.before).raise evPlanRefused noSubject [step, sect]) := by
  change execPlanLoadDone s = _
  simp only [execPlanLoadDone, hload, hfault]
  rw [if_neg (Nat.not_lt.mpr htime), if_pos hstep]

end

/-- Settles O28: a dispatched wave stands in its slot after what its start changes; the end of one leaves its slot empty; a load's outcomes are
those of the faults found. -/
theorem waveAndPlanCommandsComplete : Obligations.WaveAndPlanCommandsComplete := by
  unfold Obligations.WaveAndPlanCommandsComplete
  refine ⟨fun s replica wt slot layer wp img e prefill hcommits hshadow hpassed hcancel hact himg htype hslot hserving hreplica hbatch hroom _ =>
      ?dispatched,
    fun s replica slot w img hw himg ha hover => ?ended,
    fun s replica slot w img hw hreplica hslot himg ha hact hserves => ?rerun,
    fun s img h => exec_planLoad_refused img h,
    fun s img hnone hidle hlife => ?begins,
    fun s img hload htime hfault => ?ready,
    fun s img step sect hload htime hfault hstep => ?refused⟩
  case dispatched =>
    have hmay : s.MayDispatch img replica wt slot layer prefill :=
      ⟨hact, hpassed, himg, ⟨e, htype⟩, hcancel, hslot, hserving, hreplica, hbatch, hroom⟩
    obtain ⟨u, w, he, hformed, hnext, hcount, rfl, rfl, hnumber, htype, hprefill, hbatch, hwp, haborted⟩ := State.dispatchWave_of_may hmay wp
    have hrun := u.runWave_keeps img w
    have hplan : (u.runWave img w).plan = u.plan := hrun.1 .plan (by decide)
    refine ⟨u.runWave img w, w, ?_, (u.runWave_of_tables img w).2, hnumber, htype, hprefill, hbatch, hwp, haborted, ?_, ?_, fun hs hb => ?_⟩
    · rw [exec_waveDispatch_of_may hcommits hshadow hmay, he]
    · rw [hplan, hnext]
    · rw [hrun.obj .X0706 0 (by decide), hcount]
    · exact (hformed.1.memory (by decide) (by decide)).trans (State.runWave_sameMemory hs hb u w)
  case ended =>
    obtain ⟨t, he, hended⟩ := exec_waveEnd hw himg ha hover
    have hforgot := (s.forgetWave_ended replica w.number).1.1.memory (by decide) (by decide)
    have hleft := (State.setWave_keeps (s.forgetWave replica w.number) replica slot none).1.memory (by decide) (by decide)
    exact ⟨t, he, hended.2 _ _ (State.wave_setWave _ _ _ _), (hforgot.trans hleft).trans (hended.1.1.memory (by decide) (by decide))⟩
  case rerun =>
    subst hreplica hslot
    exact ⟨_, exec_waveRerun hw himg ha hact hserves, fun hs hb => State.runWave_sameMemory hs hb _ _, (State.runWave_of_tables _ _ _).2⟩
  case begins =>
    refine ⟨_, exec_planLoad_begins img hnone hidle hlife, State.obj_setObj _ _ _ _, rfl, fun o i ho => (State.setObj_objs _ _ _ _) o i ho, ?_⟩
    rw [unchangedBut_iff]
    simp
  case ready =>
    obtain ⟨u, he, himg, hloading, hgen⟩ := exec_planLoadDone_ready hload htime hfault
    obtain ⟨hparts, hstate, hshown, hbatch, hwaves⟩ := u.planReadied_spec img
    have hplan : (u.planReadied img).plan = u.plan := hparts .plan (by decide)
    have hstore : (u.planReadied img).store = u.store := hparts .store (by decide)
    exact ⟨_, he, hstate, hshown, hbatch, hwaves, by rw [hplan, himg], by rw [hplan, hloading], by rw [hstore, hgen]⟩
  case refused =>
    refine ⟨_, exec_planLoadDone_refused hload htime hfault hstep, ?_, rfl, ?_, fun _ => rfl, rfl⟩
    · rw [(State.raise_unchanged _ _ _ _).obj (by decide), State.obj_setObj]
    · rw [(State.raise_events _ _ _ _).1]
      rfl

end Sys2Proof.Machine
end

section
/-!
The line code at the receiver (R191, R192): descrambling follows the scrambler's state, a second PRBS31 undoes the first, and a slot's
reserved bytes come back as 0.
-/

namespace Sys2Proof.Machine

/-- The two scramblers' stages hold the same line bits, so the tap bit that the scrambler added is the one that the descrambler takes away. -/
theorem laneDescramble_laneScramble (bits : List Bool) (st : BitVec 58) :
    laneDescramble st (laneScramble st bits).1 = (bits, (laneScramble st bits).2) := by
  induction bits generalizing st with
  | nil => rfl
  | cons b r ih =>
    have htap (x : Bool) : xor (xor b x) x = b := by rw [Bool.xor_assoc, Bool.xor_self, Bool.xor_false]
    simp only [laneScramble, laneDescramble, ih, htap]

/-- The PRBS31's states do not depend on the data, so both runs add the same bits. -/
theorem prbsScramble_prbsScramble (bits : List Bool) (st : BitVec 31) : prbsScramble st (prbsScramble st bits) = bits := by
  induction bits generalizing st with
  | nil => rfl
  | cons b r ih =>
    have htap : xor (xor b (prbsBit st)) (prbsBit st) = b := by rw [Bool.xor_assoc, Bool.xor_self, Bool.xor_false]
    simp only [prbsScramble, ih, htap]

/-- A slot is sent without its two reserved runs of bytes. -/
theorem slotSent_of_parts {a b : List (BitVec 8)} (ha : a.length = 11982) (hb : b.length = 8) (gap tail : List (BitVec 8))
    (hgap : gap.length = 2) : slotSent (a ++ gap ++ b ++ tail) = a ++ b := by
  have hfront : (a ++ gap ++ b ++ tail).take 11982 = a := by
    rw [List.append_assoc, List.append_assoc, List.take_left' ha]
  have hback : (a ++ gap ++ b ++ tail).drop 11984 = b ++ tail := by
    rw [List.append_assoc, List.drop_left' (by rw [List.length_append, ha, hgap])]
  rw [slotSent, hfront, hback, List.take_left' hb]

theorem slotRestored_of_parts {a b : List (BitVec 8)} (ha : a.length = 11982) (hb : b.length = 8) :
    slotRestored (a ++ b) = a ++ List.replicate 2 0#8 ++ b ++ List.replicate 8 0#8 := by
  rw [slotRestored, List.take_left' ha, List.drop_left' ha, List.take_of_length_le hb.le]

/-- Settles O31: each scrambler is undone bit by bit along the data; a slot is the bytes sent and its reserved runs. -/
theorem lineCodeIsUndone : Obligations.LineCodeIsUndone := by
  unfold Obligations.LineCodeIsUndone
  refine ⟨laneDescramble_laneScramble, prbsScramble_prbsScramble, fun a b ha hb => ?_⟩
  rw [slotSent_of_parts ha hb [0#8, 0#8] _ rfl, slotRestored_of_parts ha hb]
  rfl

end Sys2Proof.Machine
end

section
/-!
External lanes (R192, R194, R195): what entering a state leaves, and the standard's alignment in a compatibility mode.
-/

namespace Sys2Proof.Machine

theorem State.setLane_keeps (s : State) (n : Nat) (l : Lane) : Keeps [.lanes] [] s (s.setLane n l) :=
  .of_parts (by rw [unchangedBut_iff]; simp) (by decide)

theorem unchangedBut.lane {l : List Part} {s t : State} (h : unchangedBut l s t) (hl : Part.lanes ∉ l) (n : Nat) : t.lane n = s.lane n := by
  have e : t.lanes = s.lanes := h .lanes hl
  simp only [State.lane, e]

/-- An event that is raised stands first in the log. -/
theorem State.raise_head (s : State) (c u : Nat) (d : List Nat) :
    (s.raise c u d).log.events.head?.map (fun e => (e.code, e.subject, e.data)) = some (c, u, d) := by
  rw [(s.raise_events c u d).1]
  rfl

/-! ### The states of R192 -/

/-- A lane enters a state: L.0806 shows it, LANE_STATE names the old and the new one, and no other lane changes its state. -/
def State.LaneEntered (s t : State) (lane st : Nat) : Prop :=
  t.obj .L0806 lane = st ∧ (t.lane lane).since = s.time ∧
    t.log.events.head?.map (fun e => (e.code, e.subject, e.data)) = some (evLaneState, lane, [lane, s.obj .L0806 lane, st]) ∧
    (∀ k, k ≠ lane → t.obj .L0806 k = s.obj .L0806 k) ∧ objsBut [.L0806] s t ∧ unchangedBut [.objs, .lanes, .log] s t

theorem State.enterLane_entered (s : State) (lane st : Nat) : s.LaneEntered (s.enterLane lane st) lane st := by
  obtain ⟨hparts, hobjs⟩ := s.enterLane_keeps lane st
  have hshown (k : Nat) : (s.enterLane lane st).obj .L0806 k = (s.setObj .L0806 lane st).obj .L0806 k := rfl
  refine ⟨(hshown _).trans (State.obj_setObj _ _ _ _), congrArg Lane.since (State.lane_setLane _ _ _), ?_, fun k hk => ?_, hobjs, hparts⟩
  · exact State.raise_head _ _ _ _
  · exact (hshown k).trans (State.obj_setObj_ne _ _ (.inr hk))

/-- What is kept of a lane's tries does not touch its state, nor the time since which it has it. -/
theorem State.LaneEntered.setLane {s t : State} {lane st : Nat} (h : s.LaneEntered t lane st) {v : Lane} (hv : v.since = (t.lane lane).since) :
    s.LaneEntered (t.setLane lane v) lane st := by
  obtain ⟨hst, hsince, hev, hother, hobjs, hparts⟩ := h
  have hkept := t.setLane_keeps lane v
  refine ⟨hst, ?_, hev, hother, hobjs.trans (hkept.2.mono (by decide)), hparts.trans (hkept.1.mono (by decide))⟩
  rw [State.lane_setLane, hv, hsince]

section
variable {s : State} {lane : Nat} (hmode : s.laneCompat lane = false)
include hmode

theorem exec_laneLock_of_states (hst : s.obj .L0806 lane = 1 ∨ s.obj .L0806 lane = 3)
    (hring : ∀ r ∈ s.unlocked, 10240 ≤ r → ringLane r ≠ lane) : exec (.laneLock lane) s = .next (s.enterLane lane 2) := by
  have hlocked : ¬ (s.unlocked.any (fun r => decide (10240 ≤ r) && ringLane r == lane)) = true := by simpa using hring
  change execLaneLock lane s = _
  rw [execLaneLock, if_neg (Bool.eq_false_iff.mp hmode), if_pos ⟨hst, hlocked⟩]

theorem exec_laneRecovery_of_up (c : Bool) (hst : s.obj .L0806 lane = 2) : exec (.laneRecovery lane c) s = .next (s.enterLane lane 3) := by
  change execLaneRecovery lane c s = _
  rw [execLaneRecovery, if_neg (Bool.eq_false_iff.mp hmode), if_pos hst]

/-- A lane that goes DOWN keeps a time from which its tries count (log 97). -/
theorem exec_laneDown_of_late (hst : s.obj .L0806 lane = 3 ∨ s.obj .L0806 lane = 1 ∧ (s.lane lane).retry = true)
    (htime : (s.lane lane).since + 1000000 ≤ s.time) : ∃ tried, exec (.laneDown lane) s =
      .next ((s.enterLane lane 4).setLane lane { (s.enterLane lane 4).lane lane with tried := tried }) := by
  have hlate : ¬(s.laneCompat lane = true ∨ s.time < (s.lane lane).since + 1000000) := by
    rw [hmode]
    simpa using htime
  change ∃ tried, execLaneDown lane s = _
  dsimp only [execLaneDown]
  rw [if_neg hlate]
  rcases hst with hst | ⟨hst, hretry⟩
  · exact ⟨_, by rw [if_pos hst]⟩
  · exact ⟨_, by rw [if_neg (by rw [hst]; decide), if_pos ⟨hst, hretry⟩]⟩

theorem exec_laneAcquireRetry_of_due (hst : s.obj .L0806 lane = 4) (htime : (s.lane lane).tried + 10000000 ≤ s.time) :
    exec (.laneAcquireRetry lane) s =
      .next ((s.enterLane lane 1).setLane lane { (s.enterLane lane 1).lane lane with tried := s.time, retry := true }) :=
  congrArg Host.Outcome.next (if_pos ⟨hst, Bool.eq_false_iff.mp hmode, htime⟩)

end

/-! ### Compatibility modes (R194) -/

theorem State.ptpEnter_keeps (s : State) (v : Nat) : Keeps [.objs, .log, .ptp] [.C0B00] s (s.ptpEnter v) :=
  .ite (.refl _ _ _) (((s.setObj_keeps _ _ _).mono (by decide)).trans ((State.raise_keeps _ _ _ _).mono (by decide)))

theorem State.ptpPorts_keeps (s : State) : Keeps [.objs, .log, .ptp] [.C0B00] s s.ptpPorts := by
  have hlost : Keeps [.objs, .log, .ptp] [.C0B00] s s.masterLost := by
    have hptp (x : Ptp) : Keeps [.objs, .log, .ptp] [.C0B00] s { s with ptp := x } :=
      (Keeps.of_parts (l := [.ptp]) (by rw [unchangedBut_iff]; simp) (by decide)).mono (by decide)
    exact .ite ((hptp _).trans (State.ptpEnter_keeps _ _)) (hptp _)
  have hports (u : State) : Keeps [.objs, .log, .ptp] [.C0B00] u (if !((List.range 28).any (fun n => u.ptpUp n)) then u.ptpEnter ptpFree
      else if u.obj .C0B00 0 = ptpFree then u.ptpEnter ptpConverging else u) :=
    .ite (u.ptpEnter_keeps _) (.ite (u.ptpEnter_keeps _) (.refl _ _ u))
  unfold State.ptpPorts
  split
  · exact (Keeps.ite (.refl _ _ s) hlost).trans (hports _)
  · exact hports s

/-- The standard's alignment of a lane is held, and only PTP follows it. -/
theorem State.setStd_spec (s : State) (lane : Nat) (v : Lane) : (((s.setLane lane v).ptpPorts).lane lane).std = v.std ∧
    (∀ k, ((s.setLane lane v).ptpPorts).obj .L0806 k = s.obj .L0806 k) ∧ sameMemory s (s.setLane lane v).ptpPorts := by
  have hports := (s.setLane lane v).ptpPorts_keeps
  have hset := s.setLane_keeps lane v
  refine ⟨?_, fun k => (hports.obj _ k (by decide)).trans (hset.obj _ k (by decide)),
    (hset.1.memory (by decide) (by decide)).trans (hports.1.memory (by decide) (by decide))⟩
  rw [hports.1.lane (by decide), State.lane_setLane]

/-! ### The end of a second (R192), and an empty buffer (R195) -/

/-- The counts of a second. -/
def State.laneCounted (s : State) (lane symbols uncorrected : Nat) : State := (s.bump .L0807 lane symbols).bump .L0808 lane uncorrected

theorem State.laneCounted_spec (s : State) (lane symbols uncorrected : Nat) :
    Keeps [.objs] [.L0807, .L0808] s (s.laneCounted lane symbols uncorrected) ∧
    (s.laneCounted lane symbols uncorrected).obj .L0807 lane = s.obj .L0807 lane + symbols ∧
    (s.laneCounted lane symbols uncorrected).obj .L0808 lane = s.obj .L0808 lane + uncorrected := by
  have hfirst := s.bump_keeps .L0807 lane symbols
  have hsecond := (s.bump .L0807 lane symbols).bump_keeps .L0808 lane uncorrected
  refine ⟨(hfirst.mono (by decide)).trans (hsecond.mono (by decide)), ?_, ?_⟩
  · exact (hsecond.obj _ _ (by decide)).trans (State.obj_bump _ _ _ _)
  · exact (State.obj_bump _ _ _ _).trans (by rw [hfirst.obj _ _ (by decide)])

theorem exec_laneBerUpdate_of_none {s : State} (lane corrected symbols uncorrected : Nat) :
    exec (.laneBerUpdate lane corrected 0 symbols uncorrected) s = .next (s.laneCounted lane symbols uncorrected) := rfl

theorem exec_laneBerUpdate_of_bits {s : State} (lane corrected symbols uncorrected : Nat) {received : Nat} (h : received ≠ 0) :
    ∃ t : State, exec (.laneBerUpdate lane corrected received symbols uncorrected) s = .next t ∧
      Keeps [.log] [] ((s.laneCounted lane symbols uncorrected).setObj .L0809 lane (ratF32 corrected received)) t :=
  ⟨_, congrArg Host.Outcome.next (if_neg h), .ite (State.raise_keeps _ _ _ _) (.refl _ _ _)⟩

theorem exec_dr8Underrun_of_empty {s : State} {port : Nat} (lanes : Nat) (hmode : s.obj .L080A 0 = 2) (hport : port < 2)
    (hempty : s.pmaEmpty port = true) :
    exec (.dr8Underrun port lanes) s = .next ((s.send (.errorSymbols port lanes)).raise evDr8Underrun port [port, lanes]) :=
  congrArg Host.Outcome.next (if_pos ⟨hmode, hport, hempty⟩)

/-- Settles O30: every change of state is `enterLane`, a compatibility mode sets only the standard's alignment, and a second's end its
counts. -/
theorem laneCommandsComplete : Obligations.LaneCommandsComplete := by
  unfold Obligations.LaneCommandsComplete
  refine ⟨fun s lane hst hmode hring => ⟨_, exec_laneLock_of_states hmode hst hring, s.enterLane_entered lane 2⟩,
    fun s lane c hst hmode => ⟨_, exec_laneRecovery_of_up hmode c hst, s.enterLane_entered lane 3⟩,
    fun s lane hst hmode htime => ?down, fun s lane hst hmode htime => ?retry,
    fun s lane hmode => ⟨_, congrArg Host.Outcome.next (if_pos hmode), s.setStd_spec lane _⟩,
    fun s lane c hmode => ⟨_, congrArg Host.Outcome.next (if_pos hmode), s.setStd_spec lane _⟩,
    fun s lane corrected received symbols uncorrected => ?second, fun s port lanes hmode hport hempty => ?underrun⟩
  case down =>
    obtain ⟨tried, he⟩ := exec_laneDown_of_late hmode hst htime
    exact ⟨_, he, (s.enterLane_entered lane 4).setLane rfl⟩
  case retry =>
    refine ⟨_, exec_laneAcquireRetry_of_due hmode hst htime, (s.enterLane_entered lane 1).setLane rfl, ?_, ?_⟩
    all_goals rw [State.lane_setLane]
  case second =>
    obtain ⟨hcount, hsymbols, hwords⟩ := s.laneCounted_spec lane symbols uncorrected
    rcases eq_or_ne received 0 with rfl | hbits
    · exact ⟨_, exec_laneBerUpdate_of_none lane corrected symbols uncorrected, hsymbols, hwords, fun h => absurd rfl h,
        fun _ => hcount.obj _ _ (by decide), hcount.2.mono (by decide), hcount.1.mono (by decide)⟩
    · obtain ⟨t, he, hraised⟩ := exec_laneBerUpdate_of_bits (s := s) lane corrected symbols uncorrected hbits
      have hset := (s.laneCounted lane symbols uncorrected).setObj_keeps .L0809 lane (ratF32 corrected received)
      have hall : Keeps [.objs, .log] [.L0807, .L0808, .L0809] s t :=
        ((hcount.mono (by decide)).trans (hset.mono (by decide))).trans (hraised.mono (by decide))
      have hread (o : Obj) (ho : o ∉ [Obj.L0809]) : t.obj o lane = (s.laneCounted lane symbols uncorrected).obj o lane :=
        (hraised.obj o lane (by simp)).trans (hset.obj o lane ho)
      exact ⟨t, he, (hread _ (by decide)).trans hsymbols, (hread _ (by decide)).trans hwords,
        fun _ => (hraised.obj _ _ (by decide)).trans (State.obj_setObj _ _ _ _), fun h => absurd h hbits, hall.2, hall.1⟩
  case underrun =>
    exact ⟨_, exec_dr8Underrun_of_empty lanes hmode hport hempty, rfl, State.raise_head _ _ _ _,
      ((State.send_keeps _ _).1.mono (by decide)).trans ((State.raise_unchanged _ _ _ _).mono (by decide))⟩

end Sys2Proof.Machine
end

section
/-!
What the operations on lamps, trees and their light leave alone (R189, R202 to R207), as frames, and the light, lasers and lost dies that they leave.
-/

namespace Sys2Proof.Machine

/-! ### Lasers, light and lost dies -/

theorem unchangedBut.lightOf {l : List Part} {s t : State} (h : unchangedBut l s t) (hl : Part.light ∉ l) (set w : Nat) :
    t.lightOf set w = s.lightOf set w := by
  have e : t.light = s.light := h .light hl
  simp only [State.lightOf, e]

theorem unchangedBut.laser {l : List Part} {s t : State} (h : unchangedBut l s t) (hl : Part.lasers ∉ l) (n : Nat) : t.laser n = s.laser n := by
  have e : t.lasers = s.lasers := h .lasers hl
  simp only [State.laser, e]

theorem objsBut.lampLost {l : List Obj} {s t : State} (h : objsBut l s t) (hl : Obj.L0800 ∉ l) (die : Nat) : t.lampLost die = s.lampLost die := by
  simp only [State.lampLost, h .L0800 die hl]

theorem State.setLaser_keeps (s : State) (n : Nat) (v : Laser) : Keeps [.lasers] [] s (s.setLaser n v) :=
  .of_parts (by rw [unchangedBut_iff]; simp) (by decide)

theorem State.laser_setLaser_eq (s : State) (n : Nat) (v : Laser) (k : Nat) : (s.setLaser n v).laser k = if k = n then v else s.laser k :=
  mapGet_mapSet _ _ _ _ _

theorem State.splits_keeps (s : State) (x : AMap Nat (CalVal × Bool)) (y : AMap (Nat × Nat) CalVal) :
    Keeps [.ramps, .splits] [] s { s with ramps := x, splits := y } := .of_parts (by rw [unchangedBut_iff]; simp) (by decide)

theorem State.wanted_keeps (s : State) (x y : List (Nat × Nat)) : Keeps [.carryWanted, .urgent] [] s { s with carryWanted := x, urgent := y } :=
  .of_parts (by rw [unchangedBut_iff]; simp) (by decide)

theorem State.shaken_keeps (s : State) (x : AMap Nat Nat) : Keeps [.shaken] [] s { s with shaken := x } :=
  .of_parts (by rw [unchangedBut_iff]; simp) (by decide)

/-! ### A tree's source (R188) -/

/-- A tree's source on a wavelength, before L.080D, L.0806 and L.0800 show it. -/
def State.lit (s : State) (set w : Nat) (v : LightSrc) : State :=
  { s with light := mapSet s.light (set, w) v, shaken := mapSet s.shaken set s.time }

theorem State.lit_keeps (s : State) (set w : Nat) (v : LightSrc) : Keeps [.light, .shaken] [] s (s.lit set w v) :=
  .of_parts (by rw [unchangedBut_iff]; simp [State.lit]) (by decide)

theorem State.showBundle_keeps (s : State) (p plane : Nat) : Keeps [.objs] [.L080D] s (s.showBundle p plane) := s.setObj_keeps _ _ _

theorem State.showLamp_keeps (s : State) (die : Nat) : Keeps [.objs] [.L0800] s (s.showLamp die) := .ite (.refl _ _ s) (s.setObj_keeps _ _ _)

/-- What is shown of a source reaches the lamp die of the partner only after bundles and lanes. -/
theorem State.setLight_shown (s : State) (set w : Nat) (v : LightSrc) : ∃ u : State, Keeps [.objs, .lanes, .log] [.L080D, .L0806] (s.lit set w v) u ∧
    s.setLight set w v = u.showLamp (partnerSet set / 6) := by
  have hbase (u : State) : Keeps [.objs, .lanes, .log] [.L080D, .L0806] u (match baseTree set with
      | some (plane, tree) => (treePorts tree).foldl (fun (s : State) p => s.showBundle p plane) u
      | none => u) := by
    split
    · exact .foldl (fun s _ => (s.showBundle_keeps _ _).mono (by decide)) _ u
    · exact .refl _ _ u
  have hext (u : State) : Keeps [.objs, .lanes, .log] [.L080D, .L0806] u (match extTree set with
      | some (i, e, alt) => if alt then u else u.showTreeLanes i e (decide (v ≠ LightSrc.dark))
      | none => u) := by
    split
    · exact .ite (.refl _ _ u) ((u.showTreeLanes_keeps _ _ _).mono (by decide))
    · exact .refl _ _ u
  exact ⟨_, (hbase (s.lit set w v)).trans (hext _), rfl⟩

theorem State.setLight_after (s : State) (set w : Nat) (v : LightSrc) :
    Keeps [.objs, .lanes, .log] [.L080D, .L0806, .L0800] (s.lit set w v) (s.setLight set w v) := by
  obtain ⟨u, hu, he⟩ := s.setLight_shown set w v
  rw [he]
  exact (hu.mono (by decide)).trans ((u.showLamp_keeps _).mono (by decide))

theorem State.setLight_keeps (s : State) (set w : Nat) (v : LightSrc) :
    Keeps [.light, .shaken, .objs, .lanes, .log] [.L080D, .L0806, .L0800] s (s.setLight set w v) :=
  ((s.lit_keeps set w v).mono (by decide)).trans ((s.setLight_after set w v).mono (by decide))

theorem State.lightOf_setLight (s : State) (set w : Nat) (v : LightSrc) (set' w' : Nat) :
    (s.setLight set w v).lightOf set' w' = if set' = set ∧ w' = w then v else s.lightOf set' w' := by
  rw [(s.setLight_after set w v).1.lightOf (by decide)]
  exact (mapGet_mapSet _ _ _ _ _).trans (by simp only [Prod.mk.injEq]; rfl)

/-- A die that is lost stays shown as lost whatever its trees' partners show. -/
theorem State.showLamp_lost (s : State) (n : Nat) {die : Nat} (h : s.lampLost die = true) : (s.showLamp n).lampLost die = true := by
  unfold State.showLamp
  split
  · exact h
  · next hn =>
    have hne : die ≠ n := fun e => hn (e ▸ h)
    rw [State.lampLost, State.obj_setObj_ne _ _ (.inr hne)]
    exact h

theorem State.setLight_lampLost (s : State) (set w : Nat) (v : LightSrc) {die : Nat} (h : s.lampLost die = true) :
    (s.setLight set w v).lampLost die = true := by
  obtain ⟨u, hu, he⟩ := s.setLight_shown set w v
  have hkept : u.lampLost die = s.lampLost die := (hu.2.lampLost (by decide) die).trans ((s.lit_keeps set w v).2.lampLost (by decide) die)
  rw [he]
  exact u.showLamp_lost _ (hkept.trans h)

/-! ### Splits, carries and reserves (R203 to R206) -/

theorem State.beginSplit_keeps (s : State) (set w : Nat) (atOnce : Bool) : Keeps [.ramps, .splits] [] s (s.beginSplit set w atOnce) :=
  .ite (.refl _ _ s) (s.splits_keeps _ _)

theorem State.endSplit_keeps (s : State) (set w : Nat) : Keeps [.ramps, .splits] [] s (s.endSplit set w) := .ite (.refl _ _ s) (s.splits_keeps _ _)

theorem State.wantCarry_keeps (s : State) (set w : Nat) (now : Bool) :
    Keeps [.ramps, .splits, .carryWanted, .urgent] [] s (s.wantCarry set w now) :=
  .ite (.refl _ _ s) ((Keeps.ite (.refl _ _ s) ((s.beginSplit_keeps _ _ _).mono (by decide))).trans ((State.wanted_keeps _ _ _).mono (by decide)))

theorem State.carrySettled_keeps (s : State) (set w : Nat) : Keeps [.carryWanted, .urgent] [] s (s.carrySettled set w) := s.wanted_keeps _ _

theorem State.not_mem_carrySettled (s : State) (set w : Nat) : (set, w) ∉ (s.carrySettled set w).carryWanted := by
  simp [State.carrySettled]

theorem State.restCal_keeps (s : State) (set : Nat) : Keeps [.suspended] [] s (s.restCal set) :=
  .of_parts (by rw [unchangedBut_iff]; simp [State.restCal]) (by decide)

theorem State.fillLanes_keeps (s : State) (set : Nat) : Keeps [.lanes] [] s (s.fillLanes set) := by
  unfold State.fillLanes
  split
  · exact .foldl (fun s n => s.setLane_keeps n _) _ s
  · exact .refl _ _ s

/-- The parts that the arming of a reserve may change, or the carry that it asks for when the reserve is in use. -/
def armParts : List Part := [.lasers, .log, .ramps, .splits, .carryWanted, .urgent]

/-- What a reserve's arming changes of a laser is at most that its reserve is armed (R203). -/
def State.Arms (s t : State) : Prop := Keeps armParts [] s t ∧ ∀ n, ∃ b, t.laser n = { s.laser n with armed := b }

theorem State.Arms.of_keeps {l : List Part} {s t : State} (h : Keeps l [] s t) (hl : ∀ p ∈ l, p ∈ armParts ∧ p ≠ .lasers) : s.Arms t :=
  ⟨h.mono ⟨fun p hp => (hl p hp).1, fun _ ho => ho⟩, fun n => ⟨_, h.1.laser (fun hm => (hl _ hm).2 rfl) n⟩⟩

theorem State.Arms.refl (s : State) : s.Arms s := .of_keeps (.refl [] [] s) (by decide)

theorem State.Arms.trans {s t u : State} (h : s.Arms t) (h' : t.Arms u) : s.Arms u := by
  refine ⟨h.1.trans h'.1, fun n => ?_⟩
  obtain ⟨b, hb⟩ := h.2 n
  obtain ⟨b', hb'⟩ := h'.2 n
  exact ⟨b', by rw [hb', hb]⟩

theorem State.Arms.ite {c : Prop} [Decidable c] {s t u : State} (ht : s.Arms t) (hu : s.Arms u) : s.Arms (if c then t else u) :=
  iteInduction (motive := s.Arms) (fun _ => ht) (fun _ => hu)

theorem State.raise_arms (s : State) (c u : Nat) (d : List Nat) : s.Arms (s.raise c u d) := .of_keeps (s.raise_keeps _ _ _) (by decide)

theorem State.setArmed_arms (s : State) (n : Nat) (b : Bool) : s.Arms (s.setLaser n { s.laser n with armed := b }) := by
  refine ⟨(s.setLaser_keeps _ _).mono (by decide), fun k => ?_⟩
  rw [State.laser_setLaser_eq]
  split
  · next hk => exact ⟨b, by rw [hk]⟩
  · exact ⟨_, rfl⟩

theorem State.wantCarry_arms (s : State) (set w : Nat) (now : Bool) : s.Arms (s.wantCarry set w now) := .of_keeps (s.wantCarry_keeps _ _ _) (by decide)

theorem State.armReserve_arms (s : State) (set w : Nat) : s.Arms (s.armReserve set w) :=
  .ite (.refl s) (.ite (.ite (.refl s) ((s.raise_arms _ _ _).trans (State.wantCarry_arms _ _ _ _)))
    ((s.setArmed_arms _ _).trans (State.raise_arms _ _ _ _)))

theorem State.armReserve_keeps (s : State) (set w : Nat) : Keeps armParts [] s (s.armReserve set w) := (s.armReserve_arms _ _).1

theorem State.lightOf_goDark (s : State) (set w : Nat) : (s.goDark set w).lightOf set w = .dark := by
  have hdark : (s.setLight set w .dark).lightOf set w = .dark := by rw [State.lightOf_setLight, if_pos ⟨rfl, rfl⟩]
  unfold State.goDark
  dsimp only
  split
  · rw [State.lightOf_setLight, hdark, ite_self]
  · exact hdark

/-! ### The loss of a lamp die (R206) -/

/-- The parts and objects that a change of light may change. -/
def lightParts : List Part := [.objs, .log, .lanes, .lasers, .light, .shaken, .carryWanted, .urgent, .ramps, .splits, .suspended]
def lightObjs : List Obj := [.L0800, .L0803, .L0806, .L080D]

theorem State.goDark_keeps (s : State) (set w : Nat) : Keeps lightParts lightObjs s (s.goDark set w) :=
  .ite (((s.setLight_keeps _ _ _).trans (State.setLight_keeps _ _ _ _)).mono (by decide)) ((s.setLight_keeps _ _ _).mono (by decide))

/-- A change of light that brings no lost die back. -/
def State.Relit (s t : State) : Prop := Keeps lightParts lightObjs s t ∧ ∀ die, s.lampLost die = true → t.lampLost die = true

theorem State.Relit.of_keeps {l : List Part} {os : List Obj} {s t : State} (h : Keeps l os s t)
    (hsub : (∀ p ∈ l, p ∈ lightParts) ∧ ∀ o ∈ os, o ∈ lightObjs ∧ o ≠ .L0800) : s.Relit t :=
  ⟨h.mono ⟨hsub.1, fun o ho => (hsub.2 o ho).1⟩, fun die hd => (h.2.lampLost (fun hm => (hsub.2 _ hm).2 rfl) die).trans hd⟩

theorem State.Relit.refl (s : State) : s.Relit s := ⟨.refl _ _ s, fun _ h => h⟩

theorem State.Relit.trans {s t u : State} (h : s.Relit t) (h' : t.Relit u) : s.Relit u := ⟨h.1.trans h'.1, fun die hd => h'.2 die (h.2 die hd)⟩

theorem State.Relit.ite {c : Prop} [Decidable c] {s t u : State} (ht : s.Relit t) (hu : s.Relit u) : s.Relit (if c then t else u) :=
  iteInduction (motive := s.Relit) (fun _ => ht) (fun _ => hu)

theorem State.Relit.foldl {α : Type} {f : State → α → State} (h : ∀ s x, State.Relit s (f s x)) (xs : List α) (s : State) :
    s.Relit (xs.foldl f s) := by
  induction xs generalizing s with
  | nil => exact .refl s
  | cons x r ih => exact (h s x).trans (ih _)

theorem State.Arms.relit {s t : State} (h : s.Arms t) : s.Relit t := .of_keeps h.1 (by decide)

theorem State.setLight_relit (s : State) (set w : Nat) (v : LightSrc) : s.Relit (s.setLight set w v) :=
  ⟨(s.setLight_keeps set w v).mono (by decide), fun _ => s.setLight_lampLost set w v⟩

/-- What the loss of its die does to a tree on a wavelength: its own light goes, and the light that its laser gave its partner (R206, R207). -/
def State.treeLost (s : State) (set w : Nat) : State :=
  let n := laserOf set w
  let s := if (s.laser n).armed then s.setLaser n { s.laser n with armed := false } else s
  let s := if s.lightOf set w = .carry then s else if isAlternate set then s.setLight set w .dark else (s.setLight set w .dark).wantCarry set w true
  if s.lightOf (partnerSet set) w = .carry then
    let s := s.setLight (partnerSet set) w .dark
    if s.reserveBusy (partnerSet set / 6) w then s else s.armReserve (partnerSet set) w
  else s

theorem State.treeLost_relit (s : State) (set w : Nat) : s.Relit (s.treeLost set w) := by
  have hdisarmed (n : Nat) : s.Relit (if (s.laser n).armed then s.setLaser n { s.laser n with armed := false } else s) :=
    .ite (s.setArmed_arms _ _).relit (.refl s)
  have hown (u : State) : u.Relit (if u.lightOf set w = .carry then u else if isAlternate set then u.setLight set w .dark
      else (u.setLight set w .dark).wantCarry set w true) :=
    .ite (.refl u) (.ite (u.setLight_relit _ _ _) ((u.setLight_relit _ _ _).trans (State.wantCarry_arms _ _ _ _).relit))
  have hpartner (u : State) (n : Nat) : u.Relit (if u.lightOf n w = .carry then
      (if (u.setLight n w .dark).reserveBusy (n / 6) w then u.setLight n w .dark else (u.setLight n w .dark).armReserve n w) else u) :=
    .ite (.ite (u.setLight_relit _ _ _) ((u.setLight_relit _ _ _).trans (State.armReserve_arms _ _ _).relit)) (.refl u)
  exact ((hdisarmed _).trans (hown _)).trans (hpartner _ _)

/-- L.0800 shows the die lost first, and nothing after that brings it back. -/
theorem State.loseLamp_relit {s : State} {die : Nat} (cause : Nat) (h : s.lampLost die = false) :
    (s.setObj .L0800 die 2).Relit (s.loseLamp die cause) := by
  have hreserves (u : State) : u.Relit ((List.range 5).foldl (fun s w => s.setObj .L0803 (5 * die + w) 0xFF) u) :=
    .foldl (fun s _ => .of_keeps (s.setObj_keeps _ _ _) (by decide)) _ u
  have hsplits (u : State) (x : AMap Nat (CalVal × Bool)) (y : AMap (Nat × Nat) CalVal) : u.Relit { u with ramps := x, splits := y } :=
    .of_keeps (u.splits_keeps x y) (by decide)
  have htrees (u : State) : u.Relit ((List.range 6).foldl (fun s i =>
      (litWaves (6 * die + i)).foldl (fun s w => s.treeLost (6 * die + i) w) s) u) :=
    .foldl (fun s _ => .foldl (fun s w => s.treeLost_relit _ w) _ s) _ u
  rw [State.loseLamp, if_neg (Bool.eq_false_iff.mp h)]
  exact (((State.raise_arms _ _ _ _).relit.trans (hreserves _)).trans (hsplits _ _ _)).trans (htrees _)

end Sys2Proof.Machine
end

section
/-!
Lasers, reserves and carries (R189, R202 to R207): the power loop, the switches of light, fades and lost dies.
-/

namespace Sys2Proof.Machine

/-! ### The power loop (R189, R202, R203) -/

/-- The bias after a reading of the monitor: a free step toward the set power (log 2), at most to 140 % of the commissioning bias. -/
def State.biasAfter (s : State) (laser : Nat) (pd : Int) : Nat :=
  if pd < s.setPower laser then min 14000 ((s.laser laser).bias + Config.biasStep s.freeCount)
  else if s.setPower laser < pd then (s.laser laser).bias - Config.biasStep s.freeCount else (s.laser laser).bias

/-- A laser after a reading, with the readings kept and whether it has been warned of. -/
def State.laserRead (s : State) (laser : Nat) (pd : Int) (recent : List Int) (warned : Bool) : State :=
  ((({ s with freeCount := s.freeCount + 1 }).setLaser laser
    { s.laser laser with power := pd, recent := recent, bias := s.biasAfter laser pd, warned := warned }).setObj .L0801 laser (ratF32 pd 1000)).setObj
      .L0802 laser (ratF32 (s.biasAfter laser pd) 100)

theorem State.laserRead_spec (s : State) (laser : Nat) (pd : Int) (recent : List Int) (warned : Bool) :
    Keeps [.freeCount, .lasers, .objs] [.L0801, .L0802] s (s.laserRead laser pd recent warned) ∧
    ((s.laserRead laser pd recent warned).laser laser).power = pd ∧
    ((s.laserRead laser pd recent warned).laser laser).bias = s.biasAfter laser pd ∧
    (s.laserRead laser pd recent warned).obj .L0801 laser = ratF32 pd 1000 := by
  have hcount : Keeps [.freeCount] [] s { s with freeCount := s.freeCount + 1 } := .of_parts (by rw [unchangedBut_iff]; simp) (by decide)
  refine ⟨(((hcount.mono (by decide)).trans ((State.setLaser_keeps _ _ _).mono (by decide))).trans
    ((State.setObj_keeps _ _ _ _).mono (by decide))).trans ((State.setObj_keeps _ _ _ _).mono (by decide)), ?_, ?_, ?_⟩
  · exact congrArg Laser.power (State.laser_setLaser _ _ _)
  · exact congrArg Laser.bias (State.laser_setLaser _ _ _)
  · exact ((State.setObj_keeps _ _ _ _).obj _ _ (by decide)).trans (State.obj_setObj _ _ _ _)

/-- After the reading the loop may warn of the laser and arm its reserve. -/
theorem exec_laserPowerLoop (s : State) (laser : Nat) (pd : Int) : ∃ (recent : List Int) (warned : Bool) (t : State),
    exec (.laserPowerLoop laser pd) s = .next t ∧ (s.laserRead laser pd recent warned).Arms t := by
  have hwarn (u : State) (c : Prop) [Decidable c] (d : List Nat) : u.Arms (if c then u.raise evLaserFadeWarn (laserDie laser) d else u) :=
    .ite (u.raise_arms _ _ _) (.refl u)
  have hfade (u : State) (c : Prop) [Decidable c] : u.Arms (if c then
      match laserSet laser with
      | some set => if u.lightOf set (laserWave laser) = .own then u.armReserve set (laserWave laser) else u
      | none => if u.reserveUse (laserDie laser) (laserWave laser) = 0xFF then u
          else u.armReserve (6 * laserDie laser + u.reserveUse (laserDie laser) (laserWave laser)) (laserWave laser)
      else u) := by
    refine .ite ?_ (.refl u)
    split
    · exact .ite (u.armReserve_arms _ _) (.refl u)
    · exact .ite (.refl u) (u.armReserve_arms _ _)
  exact ⟨_, _, _, rfl, (hwarn _ _ _).trans (hfade _ _)⟩

/-! ### The reserve switches in (R203) -/

/-- The reserve stands in for the laser that it was armed for, at the power that it matched. -/
def State.reserveTaken (s : State) (laser set : Nat) (d : Int) : State :=
  let w := laserWave laser
  let n := reserveOf (laserDie laser) w
  let u := (s.setLaser laser { s.laser laser with armed := false }).setObj .L0803 (5 * laserDie laser + w) (set % 6)
  let u := u.setLaser n { u.laser n with power := (s.laser laser).power + d }
  u.rampPower n ((s.laser laser).power + d) (u.calNow2 3 n / 2) true

theorem State.reserveTaken_spec (s : State) (laser set : Nat) (d : Int) :
    Keeps [.lasers, .objs, .ramps] [.L0803] s (s.reserveTaken laser set d) ∧ ((s.reserveTaken laser set d).laser laser).armed = false ∧
    (s.reserveTaken laser set d).obj .L0803 (5 * laserDie laser + laserWave laser) = set % 6 := by
  have hramp (u : State) (n : Nat) (a b : Int) : Keeps [.ramps] [] u (u.rampPower n a b true) :=
    .of_parts (by rw [unchangedBut_iff]; simp [State.rampPower]) (by decide)
  have hdisarmed (u : State) (n : Nat) (p : Int) (h : (u.laser laser).armed = false) :
      ((u.setLaser n { u.laser n with power := p }).laser laser).armed = false := by
    rw [State.laser_setLaser_eq]
    split
    · next hn => exact (congrArg (fun k => (u.laser k).armed) hn.symm).trans h
    · exact h
  refine ⟨((((State.setLaser_keeps _ _ _).mono (by decide)).trans ((State.setObj_keeps _ _ _ _).mono (by decide))).trans
    ((State.setLaser_keeps _ _ _).mono (by decide))).trans ((hramp _ _ _ _).mono (by decide)), ?_, State.obj_setObj _ _ _ _⟩
  exact hdisarmed _ _ _ (congrArg Laser.armed (State.laser_setLaser _ _ _))

theorem exec_reserveSwitch_of_matched {s : State} {laser set : Nat} {g d : Int} (hset : laserSet laser = some set) (harmed : (s.laser laser).armed = true)
    (hg : g.natAbs ≤ 5) (hd : d.natAbs ≤ 200) (hlit : s.lampLost (set / 6) = false) (hheld : s.treeHeld set = true) :
    ∃ t : State, exec (.reserveSwitch laser g d) s = .next t ∧ Keeps [.suspended, .lanes, .log, .ramps, .splits] []
      (((s.reserveTaken laser set d).carrySettled set (laserWave laser)).setLight set (laserWave laser) .reserve) t := by
  have hmatch : ((s.laser laser).armed && decide (g.natAbs ≤ 5 ∧ d.natAbs ≤ 200) && !s.lampLost (set / 6) && s.treeHeld set) = true := by
    simp [harmed, hg, hd, hlit, hheld]
  have hrest (u : State) : Keeps [.suspended, .lanes, .log, .ramps, .splits] [] u ((u.restCal set).fillLanes set) :=
    ((u.restCal_keeps _).mono (by decide)).trans ((State.fillLanes_keeps _ _).mono (by decide))
  have hraise (u : State) (c n : Nat) (l : List Nat) : Keeps [.suspended, .lanes, .log, .ramps, .splits] [] u (u.raise c n l) :=
    (u.raise_keeps _ _ _).mono (by decide)
  have hsplit (u : State) (n w : Nat) : Keeps [.suspended, .lanes, .log, .ramps, .splits] [] u (u.endSplit n w) := (u.endSplit_keeps _ _).mono (by decide)
  change ∃ t : State, execReserveSwitch laser g d s = .next t ∧ _
  simp only [execReserveSwitch, hset]
  rw [if_pos hmatch]
  exact ⟨_, rfl, ((hrest _).trans (hraise _ _ _ _)).trans (.ite ((hsplit _ _ _).trans (hraise _ _ _ _)) (.refl _ _ _))⟩

/-! ### A carry's switch (R204 to R207) -/

/-- A carry's switch settles the wait and gives the tree its partner's light or leaves it dark; then the die may arm its reserve. -/
theorem exec_carrySwitch_of_due {s : State} {die set w : Nat} (hwant : (6 * die + set, w) ∈ s.carryWanted) (hheld : s.treeHeld (6 * die + set) = true)
    (heven : (6 * die + set, w) ∈ s.urgent ∨ baseTree (6 * die + set) = none ∨ s.splitNow2 (partnerSet (6 * die + set)) w = 6600 ∨
      s.canCarry (6 * die + set) w = false) :
    ∃ u t : State, exec (.carrySwitch die set w) s = .next t ∧ Keeps lightParts lightObjs s u ∧
      u.lightOf (6 * die + set) w = (if s.canCarry (6 * die + set) w then .carry else .dark) ∧ Keeps armParts [] u t := by
  have hdue : (s.carryWanted.contains (6 * die + set, w) && s.treeHeld (6 * die + set) && (s.urgent.contains (6 * die + set, w) ||
      (baseTree (6 * die + set)).isNone || decide (s.splitNow2 (partnerSet (6 * die + set)) w = 6600) || !s.canCarry (6 * die + set) w)) = true := by
    simpa [hwant, hheld, or_assoc] using heven
  have harm (u : State) : Keeps armParts [] u (if u.reserveBusy die w then u else u.armReserve (6 * die + set) w) := .ite (.refl _ _ u) (u.armReserve_keeps _ _)
  have hsettled := (s.carrySettled_keeps (6 * die + set) w).mono (l' := lightParts) (os' := lightObjs) (by decide)
  have hsame : (s.carrySettled (6 * die + set) w).canCarry (6 * die + set) w = s.canCarry (6 * die + set) w := rfl
  have hcarry (x : State) (l : List Nat) : Keeps [.suspended, .lanes, .log] [] x
      (((x.restCal (6 * die + set)).fillLanes (6 * die + set)).raise evCarryIn die l) :=
    (((x.restCal_keeps _).mono (by decide)).trans ((State.fillLanes_keeps _ _).mono (by decide))).trans ((State.raise_keeps _ _ _ _).mono (by decide))
  change ∃ u t : State, execCarrySwitch die set w s = .next t ∧ _
  dsimp only [execCarrySwitch]
  rw [if_pos hdue, hsame]
  cases hcan : s.canCarry (6 * die + set) w with
  | false => exact ⟨_, _, rfl, hsettled.trans (State.goDark_keeps _ _ _), State.lightOf_goDark _ _ _, harm _⟩
  | true =>
    have hlit (x : State) : (x.setLight (6 * die + set) w .carry).lightOf (6 * die + set) w = .carry := by
      rw [State.lightOf_setLight, if_pos ⟨rfl, rfl⟩]
    have hsplit : Keeps lightParts lightObjs (s.carrySettled (6 * die + set) w) (if s.urgent.contains (6 * die + set, w)
        then (s.carrySettled (6 * die + set) w).beginSplit (partnerSet (6 * die + set)) w true else s.carrySettled (6 * die + set) w) :=
      .ite ((State.beginSplit_keeps _ _ _ _).mono (by decide)) (.refl _ _ _)
    exact ⟨_, _, rfl, ((hsettled.trans hsplit).trans ((State.setLight_keeps _ _ _ _).mono (by decide))).trans ((hcarry _ _).mono (by decide)),
      ((hcarry _ _).1.lightOf (by decide) _ _).trans (hlit _), harm _⟩

/-! ### Fades (R205) and lost dies (R206) -/

/-- The set that a laser lights is not on its partner's light. -/
theorem State.lightOf_servedSet {s : State} {laser set : Nat} (h : s.servedSet laser = some set) : s.lightOf set (laserWave laser) ≠ .carry := by
  unfold State.servedSet at h
  split at h
  · split at h
    · next hown =>
      obtain rfl := Option.some.inj h
      simp [hown]
    · cases h
  · dsimp only at h
    split at h
    · cases h
    · next hnot =>
      obtain rfl := Option.some.inj h
      simp [(not_not.mp (not_or.mp hnot).2)]

/-- In an emergency the set joins those that wait, and no split begins before the switch. -/
theorem State.wantCarry_now {s : State} {set w : Nat} (hlight : s.lightOf set w ≠ .carry) (hwait : (set, w) ∉ s.carryWanted) : ∃ urgent,
    s.wantCarry set w true = { s with carryWanted := s.carryWanted ++ [(set, w)], urgent := urgent } := by
  have hnone : s.carryWanted.contains (set, w) = false := by simpa using hwait
  simp only [State.wantCarry, hnone, if_neg hlight, true_or, if_true, Bool.false_eq_true, if_false]
  exact ⟨_, rfl⟩

theorem exec_fastFade_of_served {s : State} {laser set drop : Nat} (hdrop : 3000 < drop) (hset : s.servedSet laser = some set)
    (hwait : (set, laserWave laser) ∉ s.carryWanted) : ∃ urgent, exec (.fastFade laser drop) s =
      .next { s.raise evFastFade (laserDie laser) [laser, ratF32 drop 1000] with
        carryWanted := s.carryWanted ++ [(set, laserWave laser)], urgent := urgent } := by
  have hset' : (s.raise evFastFade (laserDie laser) [laser, ratF32 drop 1000]).servedSet laser = some set := hset
  obtain ⟨urgent, hwanted⟩ := State.wantCarry_now (s := s.raise evFastFade (laserDie laser) [laser, ratF32 drop 1000])
    (State.lightOf_servedSet hset') hwait
  refine ⟨urgent, ?_⟩
  change execFastFade laser drop s = _
  dsimp only [execFastFade]
  rw [if_neg (Nat.not_le.mpr hdrop), hset']
  exact congrArg Host.Outcome.next hwanted

theorem exec_lampDieLost_again {s : State} {die : Nat} (cause : Nat) (h : s.lampLost die = true) : exec (.lampDieLost die cause) s = .next s :=
  congrArg Host.Outcome.next (if_pos h)

theorem State.loseLamp_spec {s : State} {die : Nat} (cause : Nat) (h : s.lampLost die = false) :
    (s.loseLamp die cause).obj .L0800 die = 2 ∧ sameMemory s (s.loseLamp die cause) := by
  obtain ⟨hkept, hlost⟩ := State.loseLamp_relit cause h
  have hfirst : (s.setObj .L0800 die 2).lampLost die = true := beq_iff_eq.mpr (State.obj_setObj _ _ _ _)
  exact ⟨beq_iff_eq.mp (hlost die hfirst), ((s.setObj_keeps _ _ _).1.memory (by decide) (by decide)).trans (hkept.1.memory (by decide) (by decide))⟩

end Sys2Proof.Machine
end

section
/-!
Rings, calibration and the light of a die that is relit (R197 to R201, R421).
-/

namespace Sys2Proof.Machine

/-! ### Rings (R197) -/

/-- A ring's heater moves by at most 600 MHz within its range. -/
def State.heaterMoved (s : State) (ring : Nat) (offset : Int) : State :=
  { s with heaters := mapSet s.heaters ring (max 0 (min 2400000 (s.heaterOf ring + max (-600) (min 600 (1000 * offset))))) }

/-- What tracking a ring does beside its heater: the set of unlocked rings takes this value, and what shows it follows. -/
def State.RingTracked (s t : State) (ring : Nat) (offset : Int) (unlocked : List Nat) : Prop :=
  t.heaters = (s.heaterMoved ring offset).heaters ∧ t.unlocked = unlocked ∧ sameMemory s t

theorem State.RingTracked.of_keeps {l : List Part} {os : List Obj} {s t : State} {ring : Nat} {offset : Int} {unlocked : List Nat}
    (h : Keeps l os { s.heaterMoved ring offset with unlocked := unlocked } t)
    (hl : Part.heaters ∉ l ∧ Part.unlocked ∉ l ∧ Part.mem ∉ l ∧ Part.poison ∉ l) :
    s.RingTracked t ring offset unlocked := by
  obtain ⟨hheaters, hunlocked, hmem, hpoison⟩ := hl
  exact ⟨h.1 .heaters hheaters, h.1 .unlocked hunlocked, h.1.memory hmem hpoison⟩

section
variable {s : State} {ring : Nat} {offset : Int}

theorem exec_ringTrack_unlocks (hfar : 25 < offset.natAbs) (hlocked : ring ∉ s.unlocked) : ∃ t : State, exec (.ringTrack ring offset) s = .next t ∧
    s.RingTracked t ring offset (ring :: s.unlocked) ∧ t.obj .L080E 0 = s.obj .L080E 0 + 1 := by
  have hnow : 25 < offset.natAbs ∧ ¬ (s.heaterMoved ring offset).unlocked.contains ring := ⟨hfar, by simpa [State.heaterMoved] using hlocked⟩
  have hbreach (x : State) (p b : Nat) : Keeps [.aCond] [] x (x.breach p b) := .of_parts (x.breach_unchanged p b) (by decide)
  have hbundle (x : State) (p plane : Nat) (l : List Nat) : Keeps [.objs, .aCond, .log, .lanes] [.L080D, .L0806] x
      (((x.showBundle p plane).breach p 1).raise evRingUnlock p l) :=
    (((x.showBundle_keeps _ _).mono (by decide)).trans ((hbreach _ _ _).mono (by decide))).trans ((State.raise_keeps _ _ _ _).mono (by decide))
  have hlane (x : State) (n : Nat) (l : List Nat) : Keeps [.objs, .aCond, .log, .lanes] [.L080D, .L0806] x
      (if (x.raise evRingUnlock n l).obj .L0806 n = 2 then (x.raise evRingUnlock n l).enterLane n 3 else x.raise evRingUnlock n l) := by
    have hraised := (x.raise_keeps evRingUnlock n l).mono (l' := [.objs, .aCond, .log, .lanes]) (os' := [.L080D, .L0806]) (by decide)
    exact .ite (hraised.trans ((State.enterLane_keeps _ _ _).mono (by decide))) hraised
  have hcount (x : State) : Keeps [.objs] [.L080E] x (x.bump .L080E 0 1) := x.bump_keeps _ _ _
  have hspec {t : State} (h : Keeps [.objs, .aCond, .log, .lanes] [.L080D, .L0806]
      (({ s.heaterMoved ring offset with unlocked := ring :: s.unlocked }).bump .L080E 0 1) t) :
      s.RingTracked t ring offset (ring :: s.unlocked) ∧ t.obj .L080E 0 = s.obj .L080E 0 + 1 :=
    ⟨.of_keeps (l := [.objs, .aCond, .log, .lanes]) (os := [.L080D, .L0806, .L080E]) (((hcount _).mono (by decide)).trans (h.mono (by decide))) (by decide),
      (h.obj _ _ (by decide)).trans (State.obj_bump _ _ _ _)⟩
  change ∃ t : State, execRingTrack ring offset s = .next t ∧ _
  refine ⟨_, congrArg Host.Outcome.next (if_pos hnow), hspec ?_⟩
  cases ringBundle ring with
  | some b => exact hbundle _ _ _ _
  | none => exact hlane _ _ _

theorem exec_ringTrack_locks (hnear : offset.natAbs ≤ 4) (hunlocked : ring ∈ s.unlocked) : ∃ t : State, exec (.ringTrack ring offset) s = .next t ∧
    s.RingTracked t ring offset (s.unlocked.filter (fun r => r != ring)) := by
  have hno : ¬(25 < offset.natAbs ∧ ¬ (s.heaterMoved ring offset).unlocked.contains ring) := fun h => absurd h.1 (by omega)
  have hyes : offset.natAbs ≤ 4 ∧ (s.heaterMoved ring offset).unlocked.contains ring := ⟨hnear, by simpa [State.heaterMoved] using hunlocked⟩
  have hbundle (x : State) (m : AMap Nat Nat) (p plane : Nat) : Keeps [.shaken, .objs] [.L080D] x (({ x with shaken := m }).showBundle p plane) :=
    ((x.shaken_keeps m).mono (by decide)).trans ((State.showBundle_keeps _ _ _).mono (by decide))
  change ∃ t : State, execRingTrack ring offset s = .next t ∧ _
  refine ⟨_, congrArg Host.Outcome.next ((if_neg hno).trans (if_pos hyes)), .of_keeps (l := [.shaken, .objs]) (os := [.L080D]) ?_ (by decide)⟩
  cases ringBundle ring with
  | some b => exact hbundle _ _ _ _
  | none => exact .refl _ _ _

theorem exec_ringTrack_stays (hfar : 25 < offset.natAbs → ring ∈ s.unlocked) (hnear : offset.natAbs ≤ 4 → ring ∉ s.unlocked) :
    exec (.ringTrack ring offset) s = .next (s.heaterMoved ring offset) := by
  have hno : ¬(25 < offset.natAbs ∧ ¬ (s.heaterMoved ring offset).unlocked.contains ring) := by simpa [State.heaterMoved] using hfar
  have hno' : ¬(offset.natAbs ≤ 4 ∧ (s.heaterMoved ring offset).unlocked.contains ring) := by simpa [State.heaterMoved] using hnear
  exact congrArg Host.Outcome.next ((if_neg hno).trans (if_neg hno'))

/-- A ring beyond 25 GHz is unlocked and counted, and one within 4 GHz is locked again. -/
theorem exec_ringTrack (s : State) (ring : Nat) (offset : Int) : ∃ (t : State) (unlocked : List Nat), exec (.ringTrack ring offset) s = .next t ∧
    s.RingTracked t ring offset unlocked ∧
    (25 < offset.natAbs → ring ∉ s.unlocked → ring ∈ unlocked ∧ t.obj .L080E 0 = s.obj .L080E 0 + 1) ∧
    (offset.natAbs ≤ 4 → ring ∉ unlocked) := by
  by_cases hfar : 25 < offset.natAbs ∧ ring ∉ s.unlocked
  · obtain ⟨t, he, htracked, hcount⟩ := exec_ringTrack_unlocks hfar.1 hfar.2
    exact ⟨t, _, he, htracked, fun _ _ => ⟨List.mem_cons_self, hcount⟩, fun h => absurd hfar.1 (by omega)⟩
  · by_cases hnear : offset.natAbs ≤ 4 ∧ ring ∈ s.unlocked
    · obtain ⟨t, he, htracked⟩ := exec_ringTrack_locks hnear.1 hnear.2
      exact ⟨t, _, he, htracked, fun h h' => absurd ⟨h, h'⟩ hfar, fun _ => by simp⟩
    · have hstays : offset.natAbs ≤ 4 → ring ∉ s.unlocked := fun h h' => hnear ⟨h, h'⟩
      exact ⟨_, s.unlocked, exec_ringTrack_stays (fun h => not_not.mp fun h' => hfar ⟨h, h'⟩) hstays, ⟨rfl, rfl, fun _ => rfl, rfl⟩,
        fun h h' => absurd ⟨h, h'⟩ hfar, hstays⟩

end

/-! ### Calibration (R198 to R201) -/

section
variable {s : State} {q place : Nat} {a b : CalMeas} (hq : q < 4) (hdue : s.calDue q place = true)
include hq hdue

theorem calibration_goes : ¬(4 ≤ q ∨ !s.calDue q place) := by simp [hdue, hq]

/-- Of a disturbed pair only the time is noted (R201). -/
theorem exec_calibration_disturbed (hdist : s.calDisturbed q place = true) :
    exec (.calibration q place a b) s = .next { s with calAt := mapSet s.calAt (q, place) s.time } := by
  exact congrArg Host.Outcome.next ((if_neg (calibration_goes hq hdue)).trans (if_pos hdist))

variable (hcalm : s.calDisturbed q place = false)
include hcalm

theorem exec_calibration_accepted (ha : s.calPlausible q place a = true) (hb : s.calPlausible q place b = true)
    (hagree : (s.calResult q place a - s.calResult q place b).natAbs ≤ calTolerance q) : exec (.calibration q place a b) s =
      .next { s with
        calAt := mapSet s.calAt (q, place) s.time
        cal := mapSet s.cal (q, place) {
          from2 := s.calNow2 q place, target2 := s.calResult q place a + s.calResult q place b, since := s.time, count := s.calAccepted q place + 1 } } := by
  have hgood : (s.calPlausible q place a && s.calPlausible q place b &&
      decide ((s.calResult q place a - s.calResult q place b).natAbs ≤ calTolerance q)) = true := by simp [ha, hb, hagree]
  exact congrArg Host.Outcome.next ((if_neg (calibration_goes hq hdue)).trans ((if_neg (Bool.eq_false_iff.mp hcalm)).trans (if_pos hgood)))

theorem exec_calibration_rejected (hbad : s.calPlausible q place a = false ∨ s.calPlausible q place b = false ∨
      calTolerance q < (s.calResult q place a - s.calResult q place b).natAbs) :
    ∃ t : State, exec (.calibration q place a b) s = .next t ∧
      Keeps [.calEv, .log] [] (({ s with calAt := mapSet s.calAt (q, place) s.time }).bump .L080C 0 1) t := by
  have hno : ¬(s.calPlausible q place a && s.calPlausible q place b &&
      decide ((s.calResult q place a - s.calResult q place b).natAbs ≤ calTolerance q)) = true := by
    rcases hbad with h | h | h <;> simp [h]
  have hnoted (u : State) (x : AMap Nat (Nat × Nat)) : Keeps [.calEv, .log] [] u { u with calEv := x } :=
    (Keeps.of_parts (l := [.calEv]) (by rw [unchangedBut_iff]; simp) (by decide)).mono (by decide)
  refine ⟨_, congrArg Host.Outcome.next ((if_neg (calibration_goes hq hdue)).trans ((if_neg (Bool.eq_false_iff.mp hcalm)).trans (if_neg hno))), ?_⟩
  exact .ite ((hnoted _ _).trans ((State.raise_keeps _ _ _ _).mono (by decide))) (hnoted _ _)

end

/-! ### A relit die (R421) -/

/-- What every turn of a loop brings about for its element, and no later turn undoes, holds of every element at the end. -/
theorem foldl_forall {α : Type} {f : State → α → State} {P : α → State → Prop} (hset : ∀ s x, P x (f s x))
    (hkeep : ∀ s x y, P y s → P y (f s x)) (l : List α) (s : State) : ∀ x ∈ l, P x (l.foldl f s) := by
  have hlater (y : α) (r : List α) (u : State) (h : P y u) : P y (r.foldl f u) :=
    r.foldlRecOn (motive := P y) _ h fun _ hu _ _ => hkeep _ _ _ hu
  induction l generalizing s with
  | nil => exact fun x hx => absurd hx List.not_mem_nil
  | cons x r ih =>
    intro y hy
    rcases List.mem_cons.mp hy with rfl | hy
    · exact hlater _ r _ (hset s _)
    · exact ih _ y hy

/-- A tree takes its own light back on a wavelength, with CARRY_OUT when it was carried. -/
def State.ownLight (s : State) (die n w : Nat) : State :=
  let was := decide (s.lightOf n w = .carry)
  let s := (((s.carrySettled n w).endSplit (partnerSet n) w).setLight n w .own).restCal n
  if was then s.raise evCarryOut die [n % 6, w] else s

/-- On a wavelength: the tree's own light, the other trees' as it was, and nothing but light is touched. -/
theorem State.ownLight_spec (s : State) (die n w : Nat) : Keeps lightParts lightObjs s (s.ownLight die n w) ∧
    ∀ set x, (s.ownLight die n w).lightOf set x = if set = n ∧ x = w then .own else s.lightOf set x := by
  have hbefore : Keeps [.carryWanted, .urgent, .ramps, .splits] [] s ((s.carrySettled n w).endSplit (partnerSet n) w) :=
    ((s.carrySettled_keeps _ _).mono (by decide)).trans ((State.endSplit_keeps _ _ _).mono (by decide))
  have hrest (u : State) : Keeps [.suspended, .log] [] u (u.restCal n) := (u.restCal_keeps _).mono (by decide)
  have hafter (u : State) (c : Prop) [Decidable c] : Keeps [.suspended, .log] [] u
      (if c then (u.restCal n).raise evCarryOut die [n % 6, w] else u.restCal n) :=
    .ite ((hrest u).trans ((State.raise_keeps _ _ _ _).mono (by decide))) (hrest u)
  refine ⟨((hbefore.mono (by decide)).trans ((State.setLight_keeps _ _ _ _).mono (by decide))).trans ((hafter _ _).mono (by decide)), fun set x => ?_⟩
  calc (s.ownLight die n w).lightOf set x
      = (((s.carrySettled n w).endSplit (partnerSet n) w).setLight n w .own).lightOf set x := (hafter _ _).1.lightOf (by decide) _ _
    _ = if set = n ∧ x = w then .own else s.lightOf set x := by rw [State.lightOf_setLight, hbefore.1.lightOf (by decide)]

/-- Every tree of the sets takes its own light back on the wavelengths that they light. -/
def State.ownLights (s : State) (die : Nat) (sets : List Nat) : State := sets.foldl (fun s n => (litWaves n).foldl (fun s w => s.ownLight die n w) s) s

theorem State.ownLights_keeps (s : State) (die : Nat) (sets : List Nat) : Keeps lightParts lightObjs s (s.ownLights die sets) :=
  .foldl (fun s n => .foldl (fun s w => (s.ownLight_spec die n w).1) _ s) _ s

/-- A tree that has its own light keeps it while the others take theirs. -/
theorem State.ownLight_stays {s : State} {set x : Nat} (h : s.lightOf set x = .own) (die n w : Nat) : (s.ownLight die n w).lightOf set x = .own := by
  rw [(s.ownLight_spec die n w).2, h, ite_self]

theorem State.lightOf_ownLights (s : State) (die : Nat) (sets : List Nat) {n w : Nat} (hn : n ∈ sets) (hw : w ∈ litWaves n) :
    (s.ownLights die sets).lightOf n w = .own := by
  have hwaves (u : State) (n : Nat) : ∀ w ∈ litWaves n, ((litWaves n).foldl (fun s w => s.ownLight die n w) u).lightOf n w = .own :=
    foldl_forall (P := fun w s => s.lightOf n w = .own) (fun s w => by rw [(s.ownLight_spec die n w).2, if_pos ⟨rfl, rfl⟩])
      (fun _ _ _ h => State.ownLight_stays h _ _ _) _ u
  have hstays (n w m : Nat) (l : List Nat) (u : State) (h : u.lightOf n w = .own) : (l.foldl (fun s x => s.ownLight die m x) u).lightOf n w = .own :=
    l.foldlRecOn (motive := fun u : State => u.lightOf n w = LightSrc.own) _ h fun _ hu _ _ => State.ownLight_stays hu _ _ _
  exact foldl_forall (P := fun n s => ∀ w ∈ litWaves n, s.lightOf n w = .own) hwaves
    (fun s m n h w hw => hstays n w m _ s (h w hw)) sets s n hn w hw

theorem exec_carryReturn_of_held {s : State} {die : Nat} (hdie : die < 12) (hlost : s.lampLost die = true) (hzone : s.zoneOn (zoneOfIod (die / 3)) = true)
    (hheld : ∀ i, i < 6 → (∃ w ∈ litWaves (6 * die + i), s.lightOf (6 * die + i) w = .carry) → s.treeHeld (6 * die + i) = true) :
    exec (.carryReturn die) s = .next
      (((s.bringUp (regLamp + die) 0 7).setObj .L0800 die 0).ownLights die ((List.range 6).map (fun i => 6 * die + i))) := by
  have hgo : ¬(!s.lampLost die ∨ !s.zoneOn (zoneOfIod (die / 3)) ∨ 12 ≤ die) := by simp [hlost, hzone, hdie]
  have hready : ((((List.range 6).map (fun i => 6 * die + i)).filter (fun n => (litWaves n).any (fun w => decide (s.lightOf n w = .carry)))).filter
      (fun n => !s.treeHeld n)) = [] := by
    simp only [List.filter_eq_nil_iff, List.mem_filter, List.mem_map, List.mem_range, List.any_eq_true, decide_eq_true_eq]
    rintro n ⟨⟨i, hi, rfl⟩, hcarried⟩
    simp [hheld i hi hcarried]
  exact congrArg Host.Outcome.next ((if_neg hgo).trans (if_neg (not_not.mpr hready)))

/-- Settles O29: each clause is one branch of its command, with what the switches of light after it leave alone. -/
theorem lightCommandsComplete : Obligations.LightCommandsComplete := by
  unfold Obligations.LightCommandsComplete
  refine ⟨fun s laser pd => ?power, fun s laser set g d hset harmed hg hd hlit hheld => ?reserve, fun s die set w hwant hheld heven => ?carry,
    fun s laser set drop hdrop hset hwait => ?fade, fun s die cause hlit => ⟨_, rfl, State.loseLamp_spec cause hlit⟩,
    fun s die cause hlost => exec_lampDieLost_again cause hlost, fun s ring offset => ?ring,
    fun s q place a b hq hdue hcalm ha hb hagree => ?accepted, fun s q place a b hq hdue hcalm hbad => ?rejected,
    fun s q place a b hq hdue hdist => exec_calibration_disturbed hq hdue hdist, fun s die hdie hlost hzone hheld => ?relit⟩
  case power =>
    obtain ⟨recent, warned, t, he, harms, hlasers⟩ := exec_laserPowerLoop s laser pd
    obtain ⟨hread, hpower, hbias, hshown⟩ := s.laserRead_spec laser pd recent warned
    obtain ⟨armed, hlaser⟩ := hlasers laser
    have hall : Keeps [.lasers, .objs, .log, .freeCount, .carryWanted, .ramps, .splits, .urgent] [.L0801, .L0802] s t :=
      (hread.mono (by decide)).trans (harms.mono (by decide))
    exact ⟨t, he, by rw [hlaser]; exact hpower, (harms.obj _ _ (by decide)).trans hshown, by rw [hlaser]; exact hbias, harms.1 .freeCount (by decide), hall⟩
  case reserve =>
    obtain ⟨t, he, hafter⟩ := exec_reserveSwitch_of_matched hset harmed hg hd hlit hheld
    obtain ⟨htaken, hdisarmed, huse⟩ := s.reserveTaken_spec laser set d
    have hsettled := (s.reserveTaken laser set d).carrySettled_keeps set (laserWave laser)
    have hlight := ((s.reserveTaken laser set d).carrySettled set (laserWave laser)).setLight_keeps set (laserWave laser) .reserve
    refine ⟨t, he, ?_, ?_, ?_, ?_, ?_⟩
    · rw [hafter.1.lightOf (by decide), State.lightOf_setLight, if_pos ⟨rfl, rfl⟩]
    · rw [hafter.1.laser (by decide), hlight.1.laser (by decide), hsettled.1.laser (by decide), hdisarmed]
    · rw [hafter.obj _ _ (by decide), hlight.obj _ _ (by decide), hsettled.obj _ _ (by decide), huse]
    · have hwanted : t.carryWanted = ((s.reserveTaken laser set d).carrySettled set (laserWave laser)).carryWanted :=
        (hafter.1 .carryWanted (by decide)).trans (hlight.1 .carryWanted (by decide))
      rw [hwanted]
      exact State.not_mem_carrySettled _ _ _
    · have hall : Keeps lightParts lightObjs s t := (((htaken.mono (by decide)).trans (hsettled.mono (by decide))).trans
        (hlight.mono (by decide))).trans (hafter.mono (by decide))
      exact hall.1.memory (by decide) (by decide)
  case carry =>
    obtain ⟨u, t, he, hswitched, hlight, harms⟩ := exec_carrySwitch_of_due hwant hheld heven
    exact ⟨t, he, (harms.1.lightOf (by decide) _ _).trans hlight,
      (hswitched.1.memory (by decide) (by decide)).trans (harms.1.memory (by decide) (by decide))⟩
  case fade =>
    obtain ⟨urgent, he⟩ := exec_fastFade_of_served hdrop hset hwait
    refine ⟨_, he, rfl, ?_, (State.raise_unchanged _ _ _ _).mono (by decide) |>.trans ((State.wanted_keeps _ _ _).1.mono (by decide))⟩
    exact State.raise_head _ _ _ _
  case ring =>
    obtain ⟨t, unlocked, he, ⟨hheaters, rfl, hmemory⟩, hfar, hnear⟩ := exec_ringTrack s ring offset
    refine ⟨t, he, ?_, fun k hk => ?_, hfar, hnear, hmemory⟩
    · rw [hheaters]
      exact mapGet_mapSet_same _ _ _ _
    · rw [hheaters]
      exact mapGet_mapSet_ne _ _ _ hk
  case accepted =>
    refine ⟨_, exec_calibration_accepted hq hdue hcalm ha hb hagree, rfl, rfl, ?_⟩
    rw [unchangedBut_iff]
    simp
  case rejected =>
    obtain ⟨t, he, hafter⟩ := exec_calibration_rejected hq hdue hcalm hbad
    have hnoted : Keeps [.calAt] [] s { s with calAt := mapSet s.calAt (q, place) s.time } := .of_parts (by rw [unchangedBut_iff]; simp) (by decide)
    have hall : Keeps [.objs, .calAt, .calEv, .log] [.L080C] s t :=
      ((hnoted.mono (by decide)).trans ((State.bump_keeps _ .L080C 0 1).mono (by decide))).trans (hafter.mono (by decide))
    exact ⟨t, he, (hafter.obj _ _ (by decide)).trans (State.obj_bump _ _ _ _), hall.1 .cal (by decide), hall.2, hall.1⟩
  case relit =>
    have hlit : Keeps (.heat :: lightParts) (.T0126 :: lightObjs) s ((s.bringUp (regLamp + die) 0 7).setObj .L0800 die 0) :=
      ((s.bringUp_keeps _ _ _).mono (by decide)).trans ((State.setObj_keeps _ _ _ _).mono (by decide))
    refine ⟨_, exec_carryReturn_of_held hdie hlost hzone hheld,
      fun i w hi hw => State.lightOf_ownLights _ _ _ (List.mem_map_of_mem (List.mem_range.mpr hi)) hw, ?_⟩
    exact (hlit.1.memory (by decide) (by decide)).trans ((State.ownLights_keeps _ _ _).1.memory (by decide) (by decide))

end Sys2Proof.Machine
end

section
/-!
The fabric's own parts (chapter 9): links, I/O dies and their channels, as frames, and what each reads after it is set.
-/

namespace Sys2Proof.Machine

theorem unchangedBut.link {l : List Part} {s t : State} (h : unchangedBut l s t) (hl : Part.links ∉ l) (n : Nat) : t.link n = s.link n := by
  have e : t.links = s.links := h .links hl
  simp only [State.link, e]

theorem unchangedBut.iod {l : List Part} {s t : State} (h : unchangedBut l s t) (hl : Part.iods ∉ l) (i : Nat) : t.iod i = s.iod i := by
  have e : t.iods = s.iods := h .iods hl
  simp only [State.iod, e]

theorem unchangedBut.chan? {l : List Part} {s t : State} (h : unchangedBut l s t) (hl : Part.iods ∉ l) (i n : Nat) :
    t.chan? i n = s.chan? i n := by
  simp only [State.chan?, h.iod hl]

theorem State.setLink_keeps (s : State) (n : Nat) (v : Link) : Keeps [.links] [] s (s.setLink n v) :=
  .of_parts (by rw [unchangedBut_iff]; simp) (by decide)

theorem State.linkBreach_keeps (s : State) (n bit : Nat) : Keeps [.links] [] s (s.linkBreach n bit) := s.setLink_keeps _ _

theorem State.setChan_keeps (s : State) (i n : Nat) (c : Chan) : Keeps [.iods] [] s (s.setChan i n c) := s.setIod_keeps _ _

theorem find?_mapSet_same {κ α : Type} [DecidableEq κ] (m : AMap κ α) (k : κ) (v : α) :
    (mapSet m k v).find? (fun p => p.1 == k) = some (k, v) := by
  induction m with
  | nil => simp [mapSet]
  | cons p r ih =>
    by_cases h : p.1 = k
    · simp [mapSet, h]
    · simp [mapSet, h, ih]

@[simp] theorem State.chan?_setChan (s : State) (i n : Nat) (c : Chan) : (s.setChan i n c).chan? i n = some c := by
  simp [State.chan?, State.setChan, find?_mapSet_same]

/-- What an I/O die reads after one of its channels is set. -/
@[simp] theorem State.iod_setChan (s : State) (i n : Nat) (c : Chan) :
    (s.setChan i n c).iod i = { s.iod i with chans := mapSet (s.iod i).chans n c } := State.iod_setIod _ _ _

/-- An I/O die that is set with its channels as they were keeps each of them. -/
theorem State.chan?_setIod {s : State} {i : Nat} {d : Iod} (h : d.chans = (s.iod i).chans) (j n : Nat) :
    (s.setIod i d).chan? j n = s.chan? j n := by
  rcases eq_or_ne j i with rfl | hj
  · simp only [State.chan?, State.iod_setIod, h]
  · simp only [State.chan?, State.iod_setIod_ne _ _ hj]

end Sys2Proof.Machine
end

section
/-!
Frames (R214 to R223, R226): the way of a sound frame through its transit switch, the channel cache (R229), and the commons port (R216).
-/

namespace Sys2Proof.Machine

/-! ### A frame that is taken (R218 to R223) -/

/-- A packet that has arrived by an input of a transit switch: the torus counts one hop more (R223). -/
def arrivedPacket (p : Packet) (dir : Nat) : Packet := { p with hops := if dir < 6 then p.hops + 1 else p.hops }

/-- A packet at its hop limit is counted, and reported at most once in 1 ms (R223). -/
def State.hopDropped (s : State) (iod : Nat) : State :=
  let s := s.bump .F0913 iod 1
  let e := limited (s.iod iod).hopEv s.time 1000000
  let s := s.setIod iod { s.iod iod with hopEv := e.2.2 }
  if e.1 then s.raise evHopLimit (portOfIod iod) [e.2.1] else s

theorem State.hopDropped_keeps (s : State) (iod : Nat) : Keeps [.objs, .iods, .log] [.F0913] s (s.hopDropped iod) :=
  (((s.bump_keeps _ _ _).mono (by decide)).trans ((State.setIod_keeps _ _ _).mono (by decide))).trans
    (.ite ((State.raise_keeps _ _ _ _).mono (by decide)) (.refl _ _ _))

theorem State.hopDropped_count (s : State) (iod : Nat) : (s.hopDropped iod).obj .F0913 iod = s.obj .F0913 iod + 1 := by
  refine Eq.trans ?_ (State.obj_bump s .F0913 iod 1)
  unfold State.hopDropped
  dsimp only
  split <;> rfl

/-- A frame that its transit switch takes as it is: its form is that of R214, and class A keeps to 512 B. -/
structure SoundFrame (p : Packet) (dir bytes : Nat) : Prop where
  ver : p.ver = 1
  typed : 1 ≤ p.type
  known : p.type ≤ 10
  len : p.len ≤ 4096
  whole : frameBytes dir p ≤ bytes
  small : p.cls ≠ .A ∨ bytes ≤ 512

/-- Where a sound frame goes: to an engine, nowhere, or on by the torus. -/
theorem exec_transitFrame_of_sound {s : State} {iod dir bytes : Nat} {p : Packet} (h : SoundFrame p dir bytes) :
    exec (.transitFrame iod dir bytes true p) s =
      .next (if 6 ≤ dir ∨ p.dpanel = s.panelId then s.toEngine (p.diod % 4) (arrivedPacket p dir)
        else if 96 ≤ (arrivedPacket p dir).hops then s.hopDropped iod
        else if !s.inTorus p.dpanel then s else s.routeTorus iod (arrivedPacket p dir)) := by
  obtain ⟨hver, htyped, hknown, hlen, hwhole, hsmall⟩ := h
  have htaken : ¬((!true) = true ∨ p.ver ≠ 1 ∨ p.type = 0 ∨ 11 < p.type ∨ 4096 < p.len ∨ bytes < frameBytes dir p) := by
    simp only [Bool.not_true, Bool.false_eq_true, hver, ne_eq, not_true_eq_false, false_or]
    omega
  have hlarge : (decide (p.cls = .A) && decide (512 < bytes)) = false := by
    rw [Bool.and_eq_false_iff, decide_eq_false_iff_not, decide_eq_false_iff_not]
    exact hsmall.imp_right Nat.not_lt.mpr
  change execTransitFrame iod dir bytes true p s = _
  unfold execTransitFrame
  rw [if_neg htaken, if_neg (by omega)]
  simp only [hlarge, Bool.false_eq_true, if_false]
  rfl

theorem exec_transitFrame_of_bad {s : State} {iod dir bytes : Nat} {ok : Bool} {p : Packet}
    (h : ok = false ∨ p.ver ≠ 1 ∨ p.type = 0 ∨ 11 < p.type ∨ 4096 < p.len ∨ bytes < frameBytes dir p) :
    exec (.transitFrame iod dir bytes ok p) s = .next (s.discard iod) :=
  congrArg Host.Outcome.next (if_pos (h.imp_left (by rintro rfl; rfl)))

/-! ### A queue that takes a packet (R221, R226) -/

@[simp] theorem Iod.outQ_mapSet (d : Iod) (o : Nat) (q : OutQ) : Iod.outQ { d with outs := mapSet d.outs o q } o = q :=
  mapGet_mapSet_same _ _ _ _

theorem Iod.outQ_mapSet_ne (d : Iod) {o k : Nat} (q : OutQ) (h : k ≠ o) : Iod.outQ { d with outs := mapSet d.outs o q } k = d.outQ k :=
  mapGet_mapSet_ne _ _ _ h

/-- A packet below class A joins the back of its output's queue, and no other queue changes. -/
theorem State.pushOut_low (s : State) (i o : Nat) {p : Packet} (h : p.cls ≠ .A) :
    (((s.pushOut i o p).iod i).outQ o).bd = ((s.iod i).outQ o).bd ++ [p] ∧
      (∀ k, k ≠ o → ((s.pushOut i o p).iod i).outQ k = (s.iod i).outQ k) ∧ ∀ j, j ≠ i → (s.pushOut i o p).iod j = s.iod j := by
  unfold State.pushOut
  dsimp only
  rw [if_neg h, State.iod_setIod, Iod.outQ_mapSet]
  exact ⟨rfl, fun k hk => Iod.outQ_mapSet_ne _ _ hk, fun j hj => State.iod_setIod_ne _ _ hj⟩

theorem State.pushOut_keeps (s : State) (i o : Nat) (p : Packet) : Keeps [.iods] [] s (s.pushOut i o p) := s.setIod_keeps _ _

/-- With its preferred output free, and room in its queue, a packet below class A joins it, marked above the threshold. -/
theorem State.routeTorus_of_free {s : State} {i d : Nat} {p : Packet} (hcls : p.cls ≠ .A) (hpref : s.preferred s.panelId p.dpanel = some d)
    (husable : s.outUsable i d = true) (hfree : s.outBusy i d = false) (hroom : s.lowBytes i d + frameBytes d p ≤ 524288) :
    s.routeTorus i p = s.pushOut i d { p with ce := p.ce || decide (1024 * s.obj .F0909 0 < s.lowBytes i d) } := by
  simp only [State.routeTorus, hpref, husable, hfree, Bool.and_false, Bool.false_eq_true, if_false, if_true, State.join, State.joinLow,
    if_pos hcls, if_neg (Nat.not_lt.mpr hroom)]

/-! ### The channel cache (R229) -/

/-- The rest of what `takeFirst` divides holds every other element. -/
theorem mem_of_takeFirst {α : Type} {f : α → Bool} {l r : List α} {x : α} (h : takeFirst f l = some (x, r)) :
    ∀ y ∈ l, y = x ∨ y ∈ r := by
  induction l generalizing r with
  | nil => exact absurd h (by simp [takeFirst])
  | cons z l ih =>
    intro y hy
    unfold takeFirst at h
    split at h
    · cases h
      exact List.mem_cons.mp hy
    · split at h
      · exact absurd h (by simp)
      · next w q hq =>
        cases h
        rcases List.mem_cons.mp hy with rfl | hy
        · exact .inr List.mem_cons_self
        · exact (ih hq y hy).imp_right (List.mem_cons_of_mem _)

theorem State.writeBack_keeps (s : State) (i n : Nat) : Keeps [.mem, .poison] [] s (s.writeBack i n) := by
  unfold State.writeBack
  split
  · exact .refl _ _ s
  · exact .of_parts (s.putUnits_unchanged _ _) (by decide)

/-- The state that a miss leaves, but for the entry that is written back. -/
def State.cacheMissed (s : State) (iod chan : Nat) (kept : List Nat) : State :=
  (s.setIod iod { s.iod iod with cache := chan :: kept }).bump .F090F iod 1

theorem State.cacheMissed_spec (s : State) (iod chan : Nat) (kept : List Nat) :
    Keeps [.iods, .objs] [.F090F] s (s.cacheMissed iod chan kept) ∧ ((s.cacheMissed iod chan kept).iod iod).cache = chan :: kept ∧
      (s.cacheMissed iod chan kept).obj .F090F iod = s.obj .F090F iod + 1 := by
  refine ⟨((s.setIod_keeps _ _).mono (by decide)).trans ((State.bump_keeps _ _ _ _).mono (by decide)), ?_, State.obj_bump _ _ _ _⟩
  exact congrArg Iod.cache (State.iod_setIod s iod _)

theorem exec_channelCacheFill_of_hit {s : State} {iod chan : Nat} (h : chan ∈ (s.iod iod).cache) :
    exec (.channelCacheFill iod chan) s =
      .next (s.setIod iod { s.iod iod with cache := chan :: (s.iod iod).cache.filter (fun n => n != chan) }) :=
  congrArg Host.Outcome.next (if_pos (List.contains_iff_mem.mpr h))

/-- A miss keeps every entry while there is room, and then every one but the one it writes back, which is not pinned. -/
theorem exec_channelCacheFill_of_miss {s : State} {iod chan : Nat} (h : chan ∉ (s.iod iod).cache) :
    ∃ (kept : List Nat) (t : State), exec (.channelCacheFill iod chan) s = .next t ∧
      Keeps [.mem, .poison] [] (s.cacheMissed iod chan kept) t ∧
      ((s.iod iod).cache.length < 1024 → kept = (s.iod iod).cache ∧ t = s.cacheMissed iod chan kept) ∧
      ∀ n ∈ (s.iod iod).cache, (∀ c, s.chan? iod n = some c → c.pinned = true ∧ c.live = true) → s.chan? iod n ≠ none → n ∈ kept := by
  have hcache : ¬(s.iod iod).cache.contains chan = true := fun hc => h (List.contains_iff_mem.mp hc)
  change ∃ kept t, execChannelCacheFill iod chan s = .next t ∧ _
  unfold execChannelCacheFill
  dsimp only
  rw [if_neg hcache]
  rcases Nat.lt_or_ge (s.iod iod).cache.length 1024 with hroom | hfull
  · rw [if_pos hroom]
    exact ⟨_, _, rfl, .refl _ _ _, fun _ => ⟨rfl, rfl⟩, fun n hn _ _ => hn⟩
  · rw [if_neg (Nat.not_lt.mpr hfull)]
    generalize hout : takeFirst _ (s.iod iod).cache.reverse = e
    rcases e with _ | ⟨n, r⟩
    · exact ⟨_, _, rfl, .refl _ _ _, fun hroom => absurd hroom (Nat.not_lt.mpr hfull), fun n hn _ _ => hn⟩
    · refine ⟨_, _, rfl, State.writeBack_keeps _ _ _, fun hroom => absurd hroom (Nat.not_lt.mpr hfull), fun m hm hpinned hsome => ?_⟩
      rw [List.mem_reverse]
      refine (mem_of_takeFirst hout m (List.mem_reverse.mpr hm)).resolve_left ?_
      rintro rfl
      obtain ⟨c, hc⟩ := Option.ne_none_iff_exists'.mp hsome
      have htest := takeFirst_test hout
      simp only [hc, hpinned c hc, Bool.and_self, Bool.not_true, Bool.false_eq_true] at htest

/-- Settles O33: a sound frame goes where `exec_transitFrame_of_sound` says, a miss of the cache keeps what is pinned, and the commons port
sends its answers. -/
theorem frameCommandsComplete : Obligations.FrameCommandsComplete := by
  unfold Obligations.FrameCommandsComplete
  refine ⟨fun s iod dir bytes ok p hbad => ?bad, fun s iod dir bytes p hver htyped hknown hlen hwhole hsmall hhere => ?here,
    fun s iod dir bytes d p hver htyped hknown hlen hwhole hcls hdir hpanel hhops htorus hpref husable hfree hroom => ?on,
    fun s iod dir bytes p hver htyped hknown hlen hwhole hcls hdir hpanel hhops => ?limit, fun s iod chan hhit => ?hit,
    fun s iod chan hmiss => ?miss, fun s port src hport haddr => congrArg Host.Outcome.next (if_pos ⟨hport, haddr, rfl⟩),
    fun s port src ident hport haddr => congrArg Host.Outcome.next (if_pos ⟨hport, haddr, rfl⟩)⟩
  case bad =>
    exact ⟨_, exec_transitFrame_of_bad hbad, State.obj_bump _ _ _ _, fun k hk => State.obj_setObj_ne _ _ (.inr hk), s.bump_objs _ _ _,
      s.bump_unchanged _ _ _⟩
  case here =>
    rw [exec_transitFrame_of_sound ⟨hver, htyped, hknown, hlen, hwhole, hsmall⟩, if_pos hhere]
    rfl
  case on =>
    have hon : ¬(6 ≤ dir ∨ p.dpanel = s.panelId) := by simpa [hpanel] using hdir
    have harrived : arrivedPacket p dir = { p with hops := p.hops + 1 } := by rw [arrivedPacket, if_pos hdir]
    have hbelow : ¬96 ≤ p.hops + 1 := by omega
    obtain ⟨hq, houts, hiods⟩ := s.pushOut_low iod d
      (p := { p with hops := p.hops + 1, ce := p.ce || decide (1024 * s.obj .F0909 0 < s.lowBytes iod d) }) hcls
    refine ⟨_, ?_, hq, houts, hiods, (s.pushOut_keeps _ _ _).1⟩
    rw [exec_transitFrame_of_sound ⟨hver, htyped, hknown, hlen, hwhole, .inl hcls⟩, if_neg hon, harrived, if_neg hbelow, htorus, Bool.not_true,
      if_neg Bool.false_ne_true, State.routeTorus_of_free (p := { p with hops := p.hops + 1 }) hcls hpref husable hfree hroom]
  case limit =>
    have hon : ¬(6 ≤ dir ∨ p.dpanel = s.panelId) := by simpa [hpanel] using hdir
    have harrived : (arrivedPacket p dir).hops = p.hops + 1 := if_pos hdir
    have hdropped := s.hopDropped_keeps iod
    refine ⟨_, ?_, s.hopDropped_count iod, hdropped.2, hdropped.1⟩
    rw [exec_transitFrame_of_sound ⟨hver, htyped, hknown, hlen, hwhole, .inl hcls⟩, if_neg hon, if_pos (by omega)]
  case hit =>
    exact ⟨_, exec_channelCacheFill_of_hit hhit, congrArg Iod.cache (State.iod_setIod _ _ _), s.setIod_unchanged _ _⟩
  case miss =>
    obtain ⟨kept, t, he, hback, hroom, hpinned⟩ := exec_channelCacheFill_of_miss hmiss
    obtain ⟨hkeeps, hcache, hcount⟩ := s.cacheMissed_spec iod chan kept
    have hfilled : (t.iod iod).cache = chan :: kept := (congrArg Iod.cache (hback.1.iod (by decide) iod)).trans hcache
    have hall : Keeps [.iods, .objs, .mem, .poison] [.F090F] s t := (hkeeps.mono (by decide)).trans (hback.mono (by decide))
    refine ⟨t, he, by rw [hfilled]; rfl, (hback.obj _ _ (by decide)).trans hcount, fun hlen => ?_, fun n hn hlive hsome => ?_, fun hlen => ?_,
      hall.2, hall.1⟩
    · rw [hfilled, (hroom hlen).1]
    · rw [hfilled]
      exact List.mem_cons_of_mem _ (hpinned n hn hlive hsome)
    · rw [(hroom hlen).2]
      exact hkeeps.1.memory (by decide) (by decide)

end Sys2Proof.Machine
end

section
/-!
Torus links (R210 to R213): what a command leaves of every other link, what a link that enters a state keeps, and each command in the case
where it acts.
-/

namespace Sys2Proof.Machine

/-! ### One link (R211, R213) -/

/-- No other link changes, and of the rest of the panel only PTP follows. -/
def State.OnlyLink (s t : State) (link : Nat) : Prop :=
  (∀ n, n ≠ link → t.link n = s.link n ∧ t.linkSt n = s.linkSt n ∧ t.obj .F0903 n = s.obj .F0903 n) ∧
    objsBut [.F0902, .F0903, .C0B00] s t ∧ unchangedBut [.links, .objs, .log, .out, .recovery, .ptp] s t

theorem State.OnlyLink.refl (s : State) (link : Nat) : s.OnlyLink s link := ⟨fun _ _ => ⟨rfl, rfl, rfl⟩, fun _ _ _ => rfl, .refl _ _⟩

theorem State.OnlyLink.trans {s t u : State} {link : Nat} (h : s.OnlyLink t link) (h' : t.OnlyLink u link) : s.OnlyLink u link := by
  obtain ⟨hothers, hobjs, hparts⟩ := h
  obtain ⟨hothers', hobjs', hparts'⟩ := h'
  refine ⟨fun n hn => ?_, hobjs.trans hobjs', hparts.trans hparts'⟩
  obtain ⟨hlink, hst, hwidth⟩ := hothers n hn
  obtain ⟨hlink', hst', hwidth'⟩ := hothers' n hn
  exact ⟨hlink'.trans hlink, hst'.trans hst, hwidth'.trans hwidth⟩

/-- What keeps the links, their states and their widths changes no link. -/
theorem Keeps.onlyLink {l : List Part} {os : List Obj} {s t : State} (h : Keeps l os s t)
    (hl : ∀ p ∈ l, p ≠ .links ∧ p ∈ [Part.links, .objs, .log, .out, .recovery, .ptp]) (ho : ∀ o ∈ os, o = .C0B00) (link : Nat) :
    s.OnlyLink t link :=
  have hobj (o : Obj) (hne : o ≠ .C0B00) (n : Nat) : t.obj o n = s.obj o n := h.obj o n fun hm => hne (ho o hm)
  ⟨fun n _ => ⟨h.1.link (fun hm => (hl _ hm).1 rfl) n, hobj .F0902 (by decide) n, hobj .F0903 (by decide) n⟩,
    h.2.mono fun o hm => by rw [ho o hm]; decide, h.1.mono fun p hp => (hl p hp).2⟩

theorem State.setLink_only (s : State) (n : Nat) (v : Link) : s.OnlyLink (s.setLink n v) n :=
  ⟨fun _ hk => ⟨State.link_setLink_ne _ _ hk, rfl, rfl⟩, fun _ _ _ => rfl, (s.setLink_keeps n v).1.mono (by decide)⟩

theorem State.send_only (s : State) (m : Sent) (link : Nat) : s.OnlyLink (s.send m) link := (s.send_keeps m).onlyLink (by decide) (by decide) link

theorem State.raise_only (s : State) (c u : Nat) (d : List Nat) (link : Nat) : s.OnlyLink (s.raise c u d) link :=
  (s.raise_keeps c u d).onlyLink (by decide) (by decide) link

/-- The state of a link, or its width, is set. -/
theorem State.setObj_only (s : State) (link v : Nat) {o : Obj} (ho : o = .F0902 ∨ o = .F0903) : s.OnlyLink (s.setObj o link v) link :=
  ⟨fun _ hk => ⟨rfl, State.obj_setObj_ne _ _ (.inr hk), State.obj_setObj_ne _ _ (.inr hk)⟩,
    (s.setObj_objs o link v).mono (by rcases ho with rfl | rfl <;> decide), (s.setObj_unchanged o link v).mono (by decide)⟩

/-! ### A link enters a state -/

/-- A link moves from one state to another: it keeps its width and all it holds but its conditions of F.0911, and nothing is sent. -/
def State.LinkMoved (s t : State) (link : Nat) : Prop :=
  s.OnlyLink t link ∧ t.out = s.out ∧ t.obj .F0903 link = s.obj .F0903 link ∧ ∃ c, t.link link = { s.link link with conds := c }

theorem State.LinkMoved.refl (s : State) (link : Nat) : s.LinkMoved s link := ⟨.refl s link, rfl, rfl, _, rfl⟩

theorem State.LinkMoved.trans {s t u : State} {link : Nat} (h : s.LinkMoved t link) (h' : t.LinkMoved u link) : s.LinkMoved u link := by
  obtain ⟨honly, hout, hwidth, c, hlink⟩ := h
  obtain ⟨honly', hout', hwidth', c', hlink'⟩ := h'
  exact ⟨honly.trans honly', hout'.trans hout, hwidth'.trans hwidth, c', by rw [hlink', hlink]⟩

/-- A link that moves keeps what it holds. -/
theorem State.LinkMoved.link {s t : State} {link : Nat} {v : Link} (h : s.LinkMoved t link) (hv : s.link link = v) :
    ∃ c, t.link link = { v with conds := c } := hv ▸ h.2.2.2

/-- The parts that follow a link's state. -/
def followParts : List Part := [.objs, .log, .recovery, .ptp]

theorem Keeps.linkMoved {l : List Part} {os : List Obj} {s t : State} (h : Keeps l os s t) (hl : ∀ p ∈ l, p ∈ followParts)
    (ho : ∀ o ∈ os, o = .C0B00) (link : Nat) : s.LinkMoved t link :=
  have hfollow : ∀ p ∈ followParts, p ≠ .links ∧ p ∈ [Part.links, .objs, .log, .out, .recovery, .ptp] := by decide
  have hkept (p : Part) (hp : p ∉ followParts) : p ∉ l := fun hm => hp (hl p hm)
  ⟨h.onlyLink (fun p hp => hfollow p (hl p hp)) ho link, h.1 .out (hkept _ (by decide)), h.obj _ _ fun hm => absurd (ho _ hm) (by decide), _,
    h.1.link (hkept _ (by decide)) link⟩

theorem State.linkBreach_moved (s : State) (n bit : Nat) : s.LinkMoved (s.linkBreach n bit) n :=
  ⟨s.setLink_only n _, rfl, rfl, _, State.link_setLink _ _ _⟩

/-- A link that is not yet in a state enters it: F.0902 shows it; entering recovery and going down are noted among its conditions. -/
theorem State.enterLink_of_ne {s : State} {n st : Nat} (h : s.linkSt n ≠ st) :
    ∃ u : State, s.LinkMoved u n ∧ u.linkSt n = st ∧ u.link n = s.link n ∧
      s.enterLink n st = (if st = linkRecovery then u.linkBreach n 2 else if st = linkDown then u.linkBreach n 3 else u).ptpPorts := by
  have hshown : s.LinkMoved (s.setObj .F0902 n st) n := ⟨s.setObj_only n st (.inl rfl), rfl, State.obj_setObj_ne _ _ (.inl (by decide)), _, rfl⟩
  have hraised := (s.setObj .F0902 n st).raise_keeps evLinkState n [n, s.linkSt n, st, s.obj .F0903 n]
  have hfollowed (u : State) : Keeps [.recovery] [] u
      (if n % 6 = 0 ∧ st ≠ linkDown then { u with recovery := { u.recovery with xPlusDown := false } } else u) :=
    .ite (u.recovery_keeps _) (.refl _ _ u)
  refine ⟨_, (hshown.trans (hraised.linkMoved (by decide) (by decide) n)).trans ((hfollowed _).linkMoved (by decide) (by decide) n), ?_, ?_,
    if_neg h⟩
  · exact ((hfollowed _).obj _ _ (by decide)).trans (State.obj_setObj _ _ _ _)
  · exact ((hfollowed _).1.link (by decide) n).trans (hraised.1.link (by decide) n)

theorem State.ptpPorts_moved (s : State) (link : Nat) : s.LinkMoved s.ptpPorts link := s.ptpPorts_keeps.linkMoved (by decide) (by decide) link

theorem State.enterLink_spec (s : State) (n st : Nat) : s.LinkMoved (s.enterLink n st) n ∧ (s.enterLink n st).linkSt n = st := by
  by_cases h : s.linkSt n = st
  · rw [State.enterLink, if_pos h]
    exact ⟨.refl s n, h⟩
  · obtain ⟨u, hmoved, hst, -, he⟩ := State.enterLink_of_ne h
    have hbreach : u.LinkMoved (if st = linkRecovery then u.linkBreach n 2 else if st = linkDown then u.linkBreach n 3 else u) n ∧
        (if st = linkRecovery then u.linkBreach n 2 else if st = linkDown then u.linkBreach n 3 else u).linkSt n = u.linkSt n := by
      split
      · exact ⟨u.linkBreach_moved _ _, rfl⟩
      · split
        · exact ⟨u.linkBreach_moved _ _, rfl⟩
        · exact ⟨.refl u n, rfl⟩
    rw [he]
    exact ⟨(hmoved.trans hbreach.1).trans (State.ptpPorts_moved _ n),
      ((State.ptpPorts_keeps _).obj .F0902 n (by decide)).trans (hbreach.2.trans hst)⟩

/-- A link that is checked or up breaks no condition: all it holds stays. -/
theorem State.enterLink_link {s : State} {n st : Nat} (hrecovery : st ≠ linkRecovery) (hdown : st ≠ linkDown) :
    (s.enterLink n st).link n = s.link n := by
  by_cases h : s.linkSt n = st
  · rw [State.enterLink, if_pos h]
  · obtain ⟨u, -, -, hlink, he⟩ := State.enterLink_of_ne h
    rw [he, if_neg hrecovery, if_neg hdown, (State.ptpPorts_keeps u).1.link (by decide), hlink]

theorem State.dropLink_spec (s : State) (n : Nat) : s.OnlyLink (s.dropLink n) n ∧ (s.dropLink n).out = s.out ∧ (s.dropLink n).linkSt n = linkDown ∧
    ∃ c, (s.dropLink n).link n = { s.link n with hbGoodSince := none, pendTx := none, pendRx := none, conds := c } := by
  obtain ⟨⟨honly, hout, -, c, hlink⟩, hst⟩ :=
    (s.setLink n { s.link n with hbGoodSince := none, pendTx := none, pendRx := none }).enterLink_spec n linkDown
  exact ⟨(s.setLink_only n _).trans honly, hout, hst, c, hlink.trans (by rw [State.link_setLink])⟩

/-- A restripe puts an up link in recovery. -/
theorem State.restripe_spec (s : State) (n : Nat) :
    s.LinkMoved (s.restripe n) n ∧ (s.linkSt n = 2 → (s.restripe n).linkSt n = 3) := by
  unfold State.restripe
  split
  · obtain ⟨hmoved, hst⟩ := s.enterLink_spec n linkRecovery
    exact ⟨hmoved, fun _ => hst⟩
  · next h => exact ⟨.refl s n, fun hup => absurd hup h⟩

theorem State.restriped_moved (s : State) (n : Nat) : s.LinkMoved (s.restriped n) n := by
  unfold State.restriped
  dsimp only
  split
  · exact (s.enterLink_spec n linkUp).1
  · exact .refl s n

/-- A restripe is complete once both directions run on the stripes of their masks. -/
theorem State.restriped_linkSt {s : State} {n k : Nat} {v : Link} (hk : s.linkSt n = k) (hv : s.link n = v) : (s.restriped n).linkSt n =
    if k = 3 ∧ v.txStripe = stripeOf v.farMask ∧ v.rxStripe = stripeOf v.rxMask then 2 else k := by
  subst hk hv
  unfold State.restriped
  dsimp only
  split
  · next h => exact (s.enterLink_spec n linkUp).2.trans (if_pos h).symm
  · next h => exact (if_neg h).symm

/-! ### Masks and lane reports (R210, R211) -/

/-- The state in which a new receive mask has been reported. -/
def State.maskReported (s : State) (link mask : Nat) : State := (s.setLink link { s.link link with rxMask := mask }).sendLaneReport link

theorem State.sendLaneReport_spec (s : State) (link : Nat) : s.OnlyLink (s.sendLaneReport link) link ∧
    (s.sendLaneReport link).link link = { s.link link with reportAt := some s.time } ∧
    (s.sendLaneReport link).out = s.out ++ [.laneReport link (s.link link).rxMask] :=
  ⟨(s.setLink_only link _).trans (State.send_only _ _ link), State.link_setLink _ _ _, rfl⟩

theorem State.maskReported_spec (s : State) (link mask : Nat) : s.OnlyLink (s.maskReported link mask) link ∧
    (s.maskReported link mask).link link = { s.link link with rxMask := mask, reportAt := some s.time } ∧
    (s.maskReported link mask).out = s.out ++ [.laneReport link mask] := by
  obtain ⟨honly, hlink, hout⟩ := (s.setLink link { s.link link with rxMask := mask }).sendLaneReport_spec link
  rw [State.link_setLink] at hlink hout
  exact ⟨(s.setLink_only link _).trans honly, hlink, hout⟩

theorem exec_receiveMaskChange_of_change {s : State} {link mask : Nat} (hup : mask = s.upMask link) (hnew : mask ≠ (s.link link).rxMask) :
    exec (.receiveMaskChange link mask) s = .next (if mask = 0 then (s.maskReported link mask).dropLink link
      else if s.linkSt link = linkDown then
        ((s.maskReported link mask).setLink link { (s.maskReported link mask).link link with hbLast := s.time, hbGoodSince := none }).enterLink
          link linkChecking
      else (s.maskReported link mask).restripe link) :=
  congrArg Host.Outcome.next (if_neg (not_or.mpr ⟨not_not.mpr hup, hnew⟩))

end Sys2Proof.Machine
end

section
/-!
The commands of a torus link (R210 to R213), each in the case where it acts.
-/

namespace Sys2Proof.Machine

/-- A changed receive mask with a lane UP: a link that was down is checked from now on, and one that was up is in recovery. -/
theorem exec_receiveMaskChange_of_lanes {s : State} {link mask : Nat} (hup : mask = s.upMask link) (hnew : mask ≠ (s.link link).rxMask)
    (hlanes : mask ≠ 0) : ∃ t : State, exec (.receiveMaskChange link mask) s = .next t ∧ (t.link link).rxMask = mask ∧
      (t.link link).reportAt = some s.time ∧ t.out = s.out ++ [.laneReport link mask] ∧
      (s.linkSt link = 0 → t.linkSt link = 1 ∧ (t.link link).hbGoodSince = none) ∧ (s.linkSt link = 2 → t.linkSt link = 3) ∧ s.OnlyLink t link := by
  obtain ⟨honly, hlink, hout⟩ := s.maskReported_spec link mask
  have hst : (s.maskReported link mask).linkSt link = s.linkSt link := rfl
  rw [exec_receiveMaskChange_of_change hup hnew, if_neg hlanes]
  by_cases hdown : s.linkSt link = linkDown
  · rw [if_pos hdown]
    obtain ⟨hmoved, hchecked⟩ := ((s.maskReported link mask).setLink link
      { (s.maskReported link mask).link link with hbLast := s.time, hbGoodSince := none }).enterLink_spec link linkChecking
    obtain ⟨c, hcond⟩ := hmoved.link (State.link_setLink _ _ _)
    obtain ⟨hthen, hsame, -⟩ := hmoved
    exact ⟨_, rfl, (congrArg Link.rxMask hcond).trans (congrArg Link.rxMask hlink), (congrArg Link.reportAt hcond).trans (congrArg Link.reportAt hlink),
      hsame.trans hout, fun _ => ⟨hchecked, congrArg Link.hbGoodSince hcond⟩, fun hwas => absurd (hdown.symm.trans hwas) (by decide),
      (honly.trans (State.setLink_only _ link _)).trans hthen⟩
  · rw [if_neg hdown]
    obtain ⟨hmoved, hrecovery⟩ := (s.maskReported link mask).restripe_spec link
    obtain ⟨c, hcond⟩ := hmoved.link hlink
    obtain ⟨hthen, hsame, -⟩ := hmoved
    exact ⟨_, rfl, congrArg Link.rxMask hcond, congrArg Link.reportAt hcond, hsame.trans hout, fun hwas => absurd hwas hdown,
      fun hwas => hrecovery (hst.trans hwas), honly.trans hthen⟩

theorem exec_receiveMaskChange_of_none {s : State} {link : Nat} (hup : s.upMask link = 0) (hnew : (s.link link).rxMask ≠ 0) :
    ∃ t : State, exec (.receiveMaskChange link 0) s = .next t ∧ (t.link link).rxMask = 0 ∧ t.linkSt link = 0 ∧
      t.out = s.out ++ [.laneReport link 0] ∧ s.OnlyLink t link := by
  obtain ⟨honly, hlink, hout⟩ := s.maskReported_spec link 0
  obtain ⟨hthen, hsame, hst, c, hcond⟩ := (s.maskReported link 0).dropLink_spec link
  rw [exec_receiveMaskChange_of_change hup.symm hnew.symm, if_pos rfl]
  exact ⟨_, rfl, (congrArg Link.rxMask hcond).trans (congrArg Link.rxMask hlink), hst, hsame.trans hout, honly.trans hthen⟩

theorem exec_laneReportRepeat_of_due {s : State} {link : Nat} (hlanes : (s.link link).rxMask ≠ 0)
    (hstripe : (s.link link).rxStripe ≠ stripeOf (s.link link).rxMask) (hdue : dueEvent (s.link link).reportAt s.time 1000 = true) :
    exec (.laneReportRepeat link) s = .next (s.sendLaneReport link) := congrArg Host.Outcome.next (if_pos ⟨hlanes, hstripe, hdue⟩)

/-- A lane report that calls for another stripe is answered by the change to it. -/
theorem exec_laneReportReceive_of_stripe {s : State} {link mask : Nat} (hlanes : mask % 16 ≠ 0)
    (hstripe : stripeOf (mask % 16) ≠ (s.link link).pendTx.getD (s.link link).txStripe) :
    exec (.laneReportReceive link mask) s = .next (((s.setLink link { s.link link with
      farMask := mask % 16, pendTx := some (stripeOf (mask % 16)), txDue := stripeDue s.time 4 }).send
        (.stripeChange link (stripeOf (mask % 16)) 4)).restripe link) :=
  congrArg Host.Outcome.next ((if_neg hlanes).trans (if_neg hstripe))

theorem exec_laneReportReceive_of_none {s : State} {link mask : Nat} (hnone : mask % 16 = 0) :
    exec (.laneReportReceive link mask) s = .next ((s.setLink link { s.link link with farMask := 0 }).dropLink link) :=
  congrArg Host.Outcome.next (if_pos hnone)

/-! ### Stripes (R211) -/

theorem exec_stripeSwitch_transmit {s : State} {link m : Nat} (hpend : (s.link link).pendTx = some m) (hdue : (s.link link).txDue ≤ 10 * s.time) :
    exec (.stripeSwitch link true) s =
      .next (((s.setLink link { s.link link with txStripe := m, pendTx := none }).setObj .F0903 link (widthOf m)).restriped link) := by
  change execStripeSwitch link true s = _
  simp only [execStripeSwitch, hpend, if_true, if_neg (Nat.not_lt.mpr hdue)]

theorem exec_stripeSwitch_receive {s : State} {link m : Nat} (hpend : (s.link link).pendRx = some m) (hdue : (s.link link).rxDue ≤ 10 * s.time) :
    exec (.stripeSwitch link false) s = .next ((s.setLink link { s.link link with rxStripe := m, pendRx := none }).restriped link) := by
  change execStripeSwitch link false s = _
  simp only [execStripeSwitch, hpend, Bool.false_eq_true, if_false, if_neg (Nat.not_lt.mpr hdue)]

/-! ### Heartbeats (R213) -/

theorem exec_heartbeatSend_of_due {s : State} {link : Nat} (hst : s.linkSt link ≠ 0) (hdue : dueEvent (s.link link).hbAt s.time 9500 = true) :
    exec (.heartbeatSend link) s = .next ((s.setLink link { s.link link with hbSent := ((s.link link).hbSent + 1) % 2 ^ 32, hbAt := some s.time }).send
      (.heartbeat link s.panelId (((s.link link).hbSent + 1) % 2 ^ 32) (s.link link).rxMask s.time)) :=
  congrArg Host.Outcome.next (if_neg (by rw [hdue]; exact not_or.mpr ⟨hst, Bool.false_ne_true⟩))

theorem exec_heartbeatReceive_of_neighbour {s : State} {link : Nat} (mask count time : Nat) (hst : s.linkSt link ≠ 0) :
    exec (.heartbeatReceive link (s.neighbour s.panelId (link % 6)) (link / 6) ((link % 6) ^^^ 1) mask count time) s =
      .next (s.setLink link { s.link link with hbLast := s.time, hbGoodSince :=
        if (s.link link).hbLast + 19000 ≤ s.time then some s.time else (s.link link).hbGoodSince.or (some s.time) }) :=
  congrArg Host.Outcome.next ((if_neg hst).trans (if_pos ⟨rfl, rfl, rfl⟩))

theorem exec_heartbeatReceive_of_other {s : State} {link panel iod dir : Nat} (mask count time : Nat) (hst : s.linkSt link ≠ 0)
    (hother : panel ≠ s.neighbour s.panelId (link % 6) ∨ iod ≠ link / 6 ∨ dir ≠ (link % 6) ^^^ 1) :
    exec (.heartbeatReceive link panel iod dir mask count time) s =
      .next (((s.setLink link { s.link link with hbLast := s.time, hbGoodSince := none }).enterLink link linkChecking).raise evTorusMiswire link
        [link, panel, dir]) :=
  congrArg Host.Outcome.next ((if_neg hst).trans (if_neg fun ⟨hpanel, hiod, hdir⟩ =>
    hother.elim (absurd hpanel) fun h => h.elim (absurd hiod) (absurd hdir)))

theorem exec_linkUp_of_good {s : State} {link g : Nat} (hgood : (s.link link).hbGoodSince = some g) (hst : s.linkSt link = 1)
    (hrx : (s.link link).rxMask ≠ 0) (htx : (s.link link).txStripe ≠ 0) (hlong : g + 1000000 ≤ s.time) (hlast : s.time < (s.link link).hbLast + 19000) :
    exec (.linkUp link) s = .next (s.enterLink link linkUp) := by
  change execLinkUp link s = _
  simp only [execLinkUp, hgood]
  exact congrArg Host.Outcome.next (if_pos ⟨hst, hrx, htx, hlong, hlast⟩)

/-- Settles O32: each command sets its link and lets it enter a state, and `OnlyLink` and `LinkMoved` say what that leaves alone. -/
theorem linkCommandsComplete : Obligations.LinkCommandsComplete := by
  unfold Obligations.LinkCommandsComplete
  intro only
  refine ⟨fun s link mask hup hnew hlanes => exec_receiveMaskChange_of_lanes hup hnew hlanes,
    fun s link hup hnew => exec_receiveMaskChange_of_none hup hnew, fun s link hlanes hstripe hdue => ?again,
    fun s link mask hlanes hstripe => ?stripe, fun s link mask hnone => ?empty, fun s link mask after hlo hhi => ?change,
    fun s link m hpend hdue => ?transmit, fun s link m hpend hdue => ?receive, fun s link hst hdue => ?heartbeat,
    fun s link mask count time hst => ?good, fun s link panel iod dir mask count time hst hother => ?miswire,
    fun s link hst hlate => ?miss, fun s link g hgood hst hrx htx hlong hlast => ?up⟩
  case again =>
    obtain ⟨-, hlink, hout⟩ := s.sendLaneReport_spec link
    exact ⟨_, exec_laneReportRepeat_of_due hlanes hstripe hdue, hout, hlink, fun k hk => State.link_setLink_ne _ _ hk,
      ((s.setLink_keeps _ _).1.mono (by decide)).trans ((State.send_keeps _ _).1.mono (by decide))⟩
  case stripe =>
    obtain ⟨hmoved, hrecovery⟩ := ((s.setLink link { s.link link with
      farMask := mask % 16, pendTx := some (stripeOf (mask % 16)), txDue := stripeDue s.time 4 }).send
        (.stripeChange link (stripeOf (mask % 16)) 4)).restripe_spec link
    obtain ⟨c, hlink⟩ := hmoved.link (State.link_setLink s link _)
    obtain ⟨honly, hout, -⟩ := hmoved
    exact ⟨_, exec_laneReportReceive_of_stripe hlanes hstripe, congrArg Link.farMask hlink, congrArg Link.pendTx hlink, congrArg Link.txDue hlink,
      hout, hrecovery, ((s.setLink_only link _).trans (State.send_only _ _ link)).trans honly⟩
  case empty =>
    obtain ⟨honly, hout, hst, c, hlink⟩ := (s.setLink link { s.link link with farMask := 0 }).dropLink_spec link
    exact ⟨_, exec_laneReportReceive_of_none hnone, (congrArg Link.farMask hlink).trans (congrArg Link.farMask (State.link_setLink _ _ _)), hst, hout,
      (s.setLink_only link _).trans honly⟩
  case change =>
    obtain ⟨hmoved, hrecovery⟩ :=
      (s.setLink link { s.link link with pendRx := some (mask % 16), rxDue := stripeDue s.time after }).restripe_spec link
    obtain ⟨c, hlink⟩ := hmoved.link (State.link_setLink s link _)
    obtain ⟨honly, hout, -⟩ := hmoved
    exact ⟨_, congrArg Host.Outcome.next (if_pos ⟨hlo, hhi⟩), congrArg Link.pendRx hlink, congrArg Link.rxDue hlink, hrecovery, hout,
      (s.setLink_only link _).trans honly⟩
  case transmit =>
    have hmoved := ((s.setLink link { s.link link with txStripe := m, pendTx := none }).setObj .F0903 link (widthOf m)).restriped_moved link
    obtain ⟨c, hlink⟩ := hmoved.link (State.link_setLink s link _)
    have hst : ((s.setLink link { s.link link with txStripe := m, pendTx := none }).setObj .F0903 link (widthOf m)).linkSt link = s.linkSt link :=
      State.obj_setObj_ne _ _ (.inl (by decide))
    obtain ⟨honly, hout, hwidth, -⟩ := hmoved
    exact ⟨_, exec_stripeSwitch_transmit hpend hdue, congrArg Link.txStripe hlink, congrArg Link.pendTx hlink,
      hwidth.trans (State.obj_setObj _ _ _ _), State.restriped_linkSt hst (State.link_setLink s link _), hout,
      ((s.setLink_only link _).trans (State.setObj_only _ link _ (.inr rfl))).trans honly⟩
  case receive =>
    have hmoved := (s.setLink link { s.link link with rxStripe := m, pendRx := none }).restriped_moved link
    obtain ⟨c, hlink⟩ := hmoved.link (State.link_setLink s link _)
    obtain ⟨honly, hout, hwidth, -⟩ := hmoved
    exact ⟨_, exec_stripeSwitch_receive hpend hdue, congrArg Link.rxStripe hlink, congrArg Link.pendRx hlink, hwidth,
      State.restriped_linkSt rfl (State.link_setLink s link _), hout, (s.setLink_only link _).trans honly⟩
  case heartbeat =>
    exact ⟨_, exec_heartbeatSend_of_due hst hdue, State.link_setLink _ _ _, fun k hk => State.link_setLink_ne _ _ hk, rfl,
      ((s.setLink_keeps _ _).1.mono (by decide)).trans ((State.send_keeps _ _).1.mono (by decide))⟩
  case good =>
    refine ⟨_, exec_heartbeatReceive_of_neighbour mask count time hst, ?_, ?_, fun hgap => ?_, fun k hk => State.link_setLink_ne _ _ hk,
      (s.setLink_keeps _ _).1⟩
    all_goals rw [State.link_setLink]
    · dsimp only
      split
      · exact Option.some_ne_none _
      · cases (s.link link).hbGoodSince <;> exact Option.some_ne_none _
    · exact if_pos hgap
  case miswire =>
    obtain ⟨hmoved, hchecked⟩ :=
      (s.setLink link { s.link link with hbLast := s.time, hbGoodSince := none }).enterLink_spec link linkChecking
    obtain ⟨c, hlink⟩ := hmoved.link (State.link_setLink s link _)
    obtain ⟨honly, hout, -⟩ := hmoved
    exact ⟨_, exec_heartbeatReceive_of_other mask count time hst hother, hchecked, congrArg Link.hbGoodSince hlink, State.raise_head _ _ _ _, hout,
      ((s.setLink_only link _).trans honly).trans (State.raise_only _ _ _ _ link)⟩
  case miss =>
    obtain ⟨honly, hout, hdown, -⟩ := s.dropLink_spec link
    exact ⟨_, congrArg Host.Outcome.next (if_pos ⟨hst, hlate⟩), hdown, hout, honly⟩
  case up =>
    obtain ⟨⟨honly, hout, -⟩, hup⟩ := s.enterLink_spec link linkUp
    exact ⟨_, exec_linkUp_of_good hgood hst hrx htx hlong hlast, hup, State.enterLink_link (by decide) (by decide), hout, honly⟩

end Sys2Proof.Machine
end

section
/-!
A packet in turn at its channel (R231): the state in which its operation is performed, and the channel after it.
-/

namespace Sys2Proof.Machine

/-! ### What a receiver's bookkeeping leaves -/

/-- Only the parts that a channel's bookkeeping changes may differ: the links, the log and the channels of the I/O dies. -/
def State.OnlyChans (s t : State) : Prop :=
  Keeps [.iods, .links, .log] [] s t ∧ ∀ i, ∃ chans, t.iod i = { s.iod i with chans := chans }

theorem State.OnlyChans.refl (s : State) : s.OnlyChans s := ⟨.refl _ _ s, fun _ => ⟨_, rfl⟩⟩

theorem State.OnlyChans.trans {s t u : State} (h : s.OnlyChans t) (h' : t.OnlyChans u) : s.OnlyChans u := by
  refine ⟨h.1.trans h'.1, fun i => ?_⟩
  obtain ⟨chans, hi⟩ := h.2 i
  obtain ⟨chans', hi'⟩ := h'.2 i
  exact ⟨chans', by rw [hi', hi]⟩

theorem State.setChan_onlyChans (s : State) (i n : Nat) (c : Chan) : s.OnlyChans (s.setChan i n c) := by
  refine ⟨(s.setChan_keeps i n c).mono (by decide), fun j => ?_⟩
  rcases eq_or_ne j i with rfl | hj
  · exact ⟨_, s.iod_setChan j n c⟩
  · exact ⟨_, State.iod_setIod_ne _ _ hj⟩

/-- A state that differs in these parts alone is the first with those parts replaced: what reads none of them reads the same. -/
theorem State.OnlyChans.eq_replaced {s t : State} (h : s.OnlyChans t) : t = { s with iods := t.iods, links := t.links, log := t.log } := by
  have hparts := unchangedBut_iff.mp h.1.1
  cases s
  cases t
  simp only [List.mem_cons, List.not_mem_nil, reduceCtorEq, or_false, false_or] at hparts
  simp only [hparts]

theorem State.judgeLate_keeps (s : State) (i ch : Nat) (p : Packet) : Keeps [.links, .log] [] s (s.judgeLate i ch p) := by
  unfold State.judgeLate
  dsimp only
  refine .ite (.trans ?_ ((State.raise_keeps _ _ _ _).mono (by decide))) (.refl _ _ s)
  split
  · exact (s.linkBreach_keeps _ _).mono (by decide)
  · exact .refl _ _ s

theorem State.judgeLate_onlyChans (s : State) (i ch : Nat) (p : Packet) : s.OnlyChans (s.judgeLate i ch p) :=
  ⟨(s.judgeLate_keeps i ch p).mono (by decide), fun j => ⟨_, (s.judgeLate_keeps i ch p).1.iod (by decide) j⟩⟩

/-! ### A packet in turn (R231) -/

/-- A packet of a type with the right check, cookie and number on a live channel of a die that is not held, with nothing received ahead. -/
def State.InTurn (s : State) (iod type : Nat) (p : Packet) (c : Chan) : Prop :=
  p.type = type ∧ p.pcrc = pcrcOf p.payload p.len ∧ s.chan? iod p.dchan = some c ∧ c.live = true ∧ (s.iod iod).held = false ∧
    p.cookie = c.cookie.toNat ∧ p.psn = c.rcvNxt ∧ c.rcvNxt < 2 ^ 24 ∧ c.got = []

/-- The channel while the packet's operation is performed: its receive number has advanced, and an ACK is due. -/
def Chan.taken (c : Chan) (p : Packet) (now : Nat) : Chan :=
  { c.note p.ce now with rcvNxt := (c.rcvNxt + 1) % 2 ^ 24, rfree := (c.rfree + 1) % 65536 }

/-- The channel once the packet's code is known: the next ACK lists it when it is not OK. -/
def Chan.listed (c : Chan) (psn : Nat) (k : Code) : Chan :=
  { c with ackEntries := c.ackEntries ++ (if k = .ok then [] else [(psn, codeNum k)]) }

/-- The state in which the operation of a packet in turn is performed. -/
def State.received (s : State) (iod : Nat) (p : Packet) (c : Chan) : State :=
  (s.judgeLate iod p.dchan p).setChan iod p.dchan (c.taken p s.time)

/-- The state after the operation of a packet has ended with a code, on a channel that read `v`. -/
def State.answered (s : State) (iod ch psn : Nat) (v : Chan) (k : Code) : State :=
  if k = .ok then s else s.setChan iod ch { v with ackEntries := v.ackEntries ++ [(psn, codeNum k)] }

theorem psnDiff_self {n : Nat} (h : n < 2 ^ 24) : psnDiff n n = 0 := by
  rw [psnDiff, Nat.mod_eq_of_lt h, Nat.add_sub_cancel_left, Nat.mod_self]

theorem mapSet_mapSet {κ α : Type} [DecidableEq κ] (m : AMap κ α) (k : κ) (v w : α) : mapSet (mapSet m k v) k w = mapSet m k w := by
  induction m with
  | nil => simp [mapSet]
  | cons p r ih =>
    by_cases h : p.1 = k
    · simp [mapSet, h]
    · simp [mapSet, h, ih]

theorem State.setChan_setChan (s : State) (i n : Nat) (c d : Chan) : (s.setChan i n c).setChan i n d = s.setChan i n d := by
  simp only [State.setChan, State.iod_setIod, mapSet_mapSet]
  simp only [State.setIod, mapSet_mapSet]

theorem State.received_onlyChans (s : State) (iod : Nat) (p : Packet) (c : Chan) : s.OnlyChans (s.received iod p c) :=
  (s.judgeLate_onlyChans _ _ _).trans (State.setChan_onlyChans _ _ _ _)

theorem State.chan?_received (s : State) (iod : Nat) (p : Packet) (c : Chan) :
    (s.received iod p c).chan? iod p.dchan = some (c.taken p s.time) := State.chan?_setChan _ _ _ _

theorem State.answered_onlyChans (s : State) (iod ch psn : Nat) (v : Chan) (k : Code) : s.OnlyChans (s.answered iod ch psn v k) := by
  unfold State.answered
  split
  · exact .refl s
  · exact s.setChan_onlyChans _ _ _

theorem State.chan?_answered {s : State} {iod ch : Nat} {v : Chan} (psn : Nat) (k : Code) (h : s.chan? iod ch = some v) :
    (s.answered iod ch psn v k).chan? iod ch = some (v.listed psn k) := by
  unfold State.answered
  split
  · next hk => rw [h, Chan.listed, if_pos hk, List.append_nil]
  · next hk => rw [State.chan?_setChan, Chan.listed, if_neg hk]

/-- Nothing is performed on a channel that has received nothing ahead. -/
theorem State.runInOrder_of_empty {s : State} {i ch : Nat} {c : Chan} (h : s.chan? i ch = some c) (hgot : c.got = []) (psn n : Nat) (ue : Ecc) :
    s.runInOrder i ch psn ue n = s := by
  cases n with
  | zero => rfl
  | succ n => simp only [State.runInOrder, h, hgot, takeFirst]

/-- The one packet received, in turn, is performed, and nothing follows it: its channel then lists its code. -/
theorem State.runInOrder_of_single {s u : State} {i ch : Nat} {w v : Chan} {p : Packet} {k : Code} {ue : Ecc} (hw : s.chan? i ch = some w)
    (hgot : w.got = [p]) (hpsn : p.psn = w.rcvNxt)
    (hperform : (s.setChan i ch { w with got := [], rcvNxt := (w.rcvNxt + 1) % 2 ^ 24, rfree := (w.rfree + 1) % 65536 }).perform i ch p ue = (u, k))
    (hv : u.chan? i ch = some v) (hempty : v.got = []) (n : Nat) :
    s.runInOrder i ch p.psn ue (n + 1) = u.answered i ch p.psn v k := by
  have htake : takeFirst (fun q : Packet => q.psn == w.rcvNxt) [p] = some (p, []) := by simp [takeFirst, hpsn]
  rw [State.runInOrder]
  simp only [hw, hgot, htake, if_true, hperform, hv]
  exact State.runInOrder_of_empty (State.chan?_answered p.psn k hv) hempty _ _ _

/-- A packet in turn is performed once, in the state that it is received in. -/
theorem State.receivePacket_of_inTurn {s u : State} {iod type : Nat} {p : Packet} {c v : Chan} {k : Code} {ue : Ecc} (h : s.InTurn iod type p c)
    (hperform : (s.received iod p c).perform iod p.dchan p ue = (u, k)) (hv : u.chan? iod p.dchan = some v) (hgot : v.got = []) :
    s.receivePacket iod p ue = u.answered iod p.dchan p.psn v k := by
  obtain ⟨-, hcrc, hchan, hlive, hheld, hcookie, hpsn, hlt, hc⟩ := h
  have hfirst : psnDiff p.psn c.rcvNxt = 0 := hpsn.symm ▸ psnDiff_self hlt
  have hthen : ((s.judgeLate iod p.dchan p).setChan iod p.dchan ({ c with got := c.got ++ [p] }.note p.ce s.time)).setChan iod p.dchan
      { { c with got := c.got ++ [p] }.note p.ce s.time with got := [], rcvNxt := (c.rcvNxt + 1) % 2 ^ 24, rfree := (c.rfree + 1) % 65536 } =
      s.received iod p c := by
    rw [State.setChan_setChan, State.received, Chan.taken, ← hc]
    rfl
  have htime : (s.judgeLate iod p.dchan p).time = s.time := (s.judgeLate_keeps iod p.dchan p).1.time (by decide)
  have hnew : psnDiff p.psn c.rcvNxt < 257 ∧ (!c.got.any (fun q => q.psn == p.psn)) = true := by
    rw [hfirst, hc]
    exact ⟨by decide, rfl⟩
  have hroom : ¬2 ^ (c.rsize + 8) ≤ psnDiff p.psn c.rcvNxt := by rw [hfirst]; exact Nat.not_le.mpr (Nat.two_pow_pos _)
  have hgot' : ({ c with got := c.got ++ [p] }.note p.ce s.time).got = [p] := by rw [Chan.note, hc, List.nil_append]
  unfold State.receivePacket
  dsimp only
  rw [if_neg (not_not.mpr hcrc), hchan]
  dsimp only
  rw [hlive, hheld, if_neg (by decide), if_neg (by decide), if_neg (not_not.mpr hcookie), if_pos hnew, if_neg hroom, htime]
  exact State.runInOrder_of_single (State.chan?_setChan _ _ _ _) hgot' hpsn (hthen.symm ▸ hperform) hv hgot 256

end Sys2Proof.Machine
end

section
/-!
Packets that write and read memory (R236 to R239): the places that they name, and the post of a write.
-/

namespace Sys2Proof.Machine

/-! ### What a channel's bookkeeping does not touch -/

namespace State.OnlyChans
variable {s t : State} (h : s.OnlyChans t)
include h

theorem globalPlace (g n al : Nat) : t.globalPlace g n al = s.globalPlace g n al := by rw [h.eq_replaced]; rfl

theorem portOpen (p : Nat) : t.portOpen p = s.portOpen p := by rw [h.eq_replaced]; rfl

theorem cachePort (f : Nat) : t.cachePort f = s.cachePort f := by rw [h.eq_replaced]; rfl

theorem verdict_vault (site tile unit : Nat) (l : List Cell32) :
    t.verdict (writeSlot site 3 tile unit l) = s.verdict (writeSlot site 3 tile unit l) := by rw [h.eq_replaced]; rfl

theorem readRefusal (port : Nat) (r : ReadRec) : t.readRefusal port r = s.readRefusal port r := by rw [h.eq_replaced]; rfl

theorem vaultUnits (site tile unit n : Nat) (ue : List Nat) : t.vaultUnits site tile unit n ue = s.vaultUnits site tile unit n ue := by
  have hunits (a k : Nat) : t.unitsAt a k = s.unitsAt a k := by
    induction k generalizing a with
    | zero => rfl
    | succ k ih =>
      rw [State.unitsAt, State.unitsAt, ih, State.unitAt, State.unitAt, h.1.1.mem (by decide), h.1.1 .poison (by decide)]
  rw [State.vaultUnits, State.vaultUnits, hunits, h.1.1.col (by decide)]

end State.OnlyChans

/-! ### Earlier writes to the same units (R139) -/

/-- No earlier write to the units waits, in the column's remote queue or in its controller. -/
def State.NoWait (s : State) (site tile unit n : Nat) : Prop :=
  (∀ r ∈ (s.col site tile).queue ++ (s.col site tile).held, r.write = false ∨ rangesMeet r.addr r.data.length unit n = false) ∧
    ∀ x ∈ (s.field (fieldOf site)).writeQ, x.dst ≠ site ∨ x.ttile ≠ tile ∨ rangesMeet x.taddr x.len unit n = false

theorem State.OnlyChans.noWait {s t : State} {site tile unit n : Nat} (h : s.OnlyChans t) (hs : s.NoWait site tile unit n) :
    t.NoWait site tile unit n := by
  rw [h.eq_replaced]
  exact hs

theorem State.passWrites_of_noWait {s : State} {site tile unit n : Nat} (h : s.NoWait site tile unit n) :
    s.passWrites site tile unit n = s := by
  obtain ⟨hqueue, hlate⟩ := h
  have hold : ((s.col site tile).queue ++ (s.col site tile).held).filter (fun r => r.write && rangesMeet r.addr r.data.length unit n) = [] :=
    List.filter_eq_nil_iff.mpr fun r hr => by rcases hqueue r hr with h | h <;> simp [h]
  have hnone : (s.field (fieldOf site)).writeQ.filter
      (fun x => x.dst == site && x.ttile == tile && rangesMeet x.taddr x.len unit n) = [] :=
    List.filter_eq_nil_iff.mpr fun x hx => by rcases hlate x hx with h | h | h <;> simp [h]
  simp only [State.passWrites, hold, hnone, if_true, List.foldl_nil]

/-! ### Units that are written -/

/-- A state whose memory and marks are those of units written at an address. -/
def State.Wrote (s t : State) (a : Nat) (l : List Cell32) : Prop := t.mem = (s.putUnits a l).mem ∧ t.poison = (s.putUnits a l).poison

theorem State.Wrote.memory {s t : State} {a n : Nat} {l : List Cell32} (h : s.Wrote t a l) (hs : s.mem.wf) (hl : l.length = n) :
    sameMemory (s.putUnits a l) t ∧ bytesOutside a (a + 32 * n) s t := by
  obtain ⟨hmem, hpoison⟩ := h
  subst hl
  exact ⟨⟨fun b => by rw [hmem], hpoison⟩, fun b hb => by rw [hmem, State.putUnits_bytesOutside a l hs b hb]⟩

theorem State.Wrote.of_unchanged {s t u : State} {a : Nat} {l : List Cell32} {parts : List Part} (h : s.Wrote t a l) (hu : unchangedBut parts t u)
    (hm : Part.mem ∉ parts) (hp : Part.poison ∉ parts) : s.Wrote u a l := ⟨(hu.mem hm).trans h.1, (hu .poison hp).trans h.2⟩

/-- An open vault takes units with the verdict's code, and a cache likewise. -/
theorem State.writePlace_vault {s : State} {site tile unit : Nat} {l : List Cell32} {k : Code} (hopen : s.portOpen site = true)
    (hpower : (s.col site tile).powered = true) (hwait : s.NoWait site tile unit l.length)
    (hverdict : s.verdict (writeSlot site 3 tile unit l) = k) (hk : k = .ok ∨ k = .poisoned) :
    s.writePlace (.vault site tile unit) l = (s.vaultWrite site tile unit l, k) := by
  simp only [State.writePlace, hopen, hpower, hverdict, State.passWrites_of_noWait hwait, if_pos hk, Bool.not_true, Bool.false_eq_true, or_self,
    if_false]

theorem State.writePlace_cache {s : State} {field unit : Nat} {l : List Cell32} {k : Code} (hopen : s.portOpen (s.cachePort field) = true)
    (hverdict : s.verdict (writeSlot (s.cachePort field) 1 0 unit l) = k) (hk : k = .ok ∨ k = .poisoned) :
    s.writePlace (.cache field unit) l = (s.putUnits (cacheAddr field (32 * unit)) l, k) := by
  simp only [State.writePlace, hopen, hverdict, if_pos hk, Bool.not_true, Bool.false_eq_true, if_false]

theorem State.vaultWrite_wrote {s t : State} (h : s.OnlyChans t) (site tile unit : Nat) (l : List Cell32) :
    s.Wrote (t.vaultWrite site tile unit l) (vaultAddr site tile unit) l :=
  State.putUnits_congr _ l (h.1.1.mem (by decide)) (h.1.1 .poison (by decide))

/-! ### The post of a write (R239, R420) -/

/-- The post of a packet's units. -/
def unitsPost (iod n : Nat) (p : Packet) : Post :=
  { src := portOfIod iod, port := p.tport, ctr := p.ctr, inc := n, step := false, wave16 := 0, replica := 0, slot := 0 }

/-- The post leaves when the packet asks for it: on its own port's mesh, or across the base. -/
def Posted (iod n : Nat) (p : Packet) (s t : State) : Prop :=
  (p.post = false → t.posts = s.posts ∧ t.gates = s.gates) ∧
    (p.post = true → p.tport = portOfIod iod → t.posts = s.posts ++ [unitsPost iod n p] ∧ t.gates = s.gates) ∧
    (p.post = true → p.tport ≠ portOfIod iod → ∃ m, t.posts = s.posts ++ [{ unitsPost iod n p with crossing := some m }])

/-- The state after the post of a packet that is written, if it asks for one. -/
def State.afterPost (s : State) (iod n : Nat) (p : Packet) : State := if p.post then s.sendPost (unitsPost iod n p) else s

theorem State.sendPost_unchanged (s : State) (p : Post) : unchangedBut [.posts, .gates] s (s.sendPost p) := by
  have hposts (u : State) (l : List Post) : unchangedBut [.posts, .gates] u { u with posts := l } := by rw [unchangedBut_iff]; simp
  unfold State.sendPost
  dsimp only
  split
  · exact hposts _ _
  · exact (hposts _ _).trans ((State.setGate_unchanged _ _ _ _).mono (by decide))

theorem State.afterPost_unchanged (s : State) (iod n : Nat) (p : Packet) : unchangedBut [.posts, .gates] s (s.afterPost iod n p) := by
  unfold State.afterPost
  split
  · exact s.sendPost_unchanged _
  · exact .refl _ s

theorem State.afterPost_posted (s : State) (iod n : Nat) (p : Packet) : Posted iod n p s (s.afterPost iod n p) := by
  unfold State.afterPost
  refine ⟨fun hno => by rw [if_neg (by rw [hno]; decide)]; exact ⟨rfl, rfl⟩, fun hyes hown => ?_, fun hyes hother => ?_⟩
  all_goals rw [if_pos hyes, State.sendPost]
  · rw [if_pos (show (unitsPost iod n p).src = (unitsPost iod n p).port from hown.symm)]
    exact ⟨rfl, rfl⟩
  · rw [if_neg (show (unitsPost iod n p).src ≠ (unitsPost iod n p).port from hother.symm)]
    exact ⟨_, rfl⟩

/-- Posts and bids that a state starts from, and ends with, are those between. -/
theorem Posted.of_unchanged {iod n : Nat} {p : Packet} {s t u v : State} {l l' : List Part} (h : Posted iod n p t u) (hst : unchangedBut l s t)
    (huv : unchangedBut l' u v) (hl : Part.posts ∉ l ∧ Part.gates ∉ l) (hl' : Part.posts ∉ l' ∧ Part.gates ∉ l') : Posted iod n p s v := by
  have hposts : t.posts = s.posts := hst .posts hl.1
  have hgates : t.gates = s.gates := hst .gates hl.2
  have hposts' : v.posts = u.posts := huv .posts hl'.1
  have hgates' : v.gates = u.gates := huv .gates hl'.2
  rwa [Posted, hposts', hgates', ← hposts, ← hgates]

/-! ### COPY and WRITE (R236, R237, R239) -/

/-- A COPY or WRITE of a right form, whose place is no tile store and takes its units, writes them and posts them. -/
theorem State.doWrite_of_taken {s w : State} {iod n : Nat} {p : Packet} {x : Place} {k : Code} (hlen : p.len = 32 * n) (hlo : 1 ≤ n) (hhi : n ≤ 128)
    (hpayload : p.payload.length = n) (hctr : p.post = true → ctrInRange p.tport p.ctr = true) (hline : p.type = 3 → n = 4)
    (hplace : s.globalPlace p.gaddr p.len (if p.type = 3 then 128 else 32) = x) (hstore : ∀ a b c, x ≠ .store a b c)
    (hwrite : s.writePlace x p.payload = (w, k)) (hk : k = .ok ∨ k = .poisoned) : s.doWrite iod p = (w.afterPost iod n p, k) := by
  have hunits : p.len / 32 = n := by omega
  have hmod : p.len % 32 = 0 := by omega
  have hzero : n ≠ 0 := by omega
  have hpost : (p.post && !ctrInRange p.tport p.ctr) = false := by
    cases hp : p.post
    · rfl
    · rw [hctr hp]; rfl
  have hfour : (p.type == 3 && n != 4) = false := by simpa using hline
  have htake : p.payload.take n = p.payload := List.take_of_length_le hpayload.le
  have hdone : (if p.post = true ∧ (k = .ok ∨ k = .poisoned) then (w.sendPost (unitsPost iod n p), k) else (w, k)) = (w.afterPost iod n p, k) := by
    unfold State.afterPost
    cases p.post <;> simp [hk]
  rw [← hdone]
  cases x with
  | store a b c => exact absurd rfl (hstore a b c)
  | _ =>
    simp [State.doWrite, hplace, hunits, htake, hwrite, hpost, hfour, hmod, hzero, hpayload, Nat.not_lt.mpr hhi, unitsPost]

/-- What a write in turn leaves: its units at their address, its post, and its channel with the write's code. -/
def State.WriteEnded (s t : State) (iod n a : Nat) (p : Packet) (c : Chan) (k : Code) (parts : List Part) : Prop :=
  sameMemory (s.putUnits a p.payload) t ∧ bytesOutside a (a + 32 * n) s t ∧ Posted iod n p s t ∧
    t.chan? iod p.dchan = some ((c.taken p s.time).listed p.psn k) ∧ unchangedBut parts s t

/-- A COPY or WRITE in turn, whose place leaves the state `w` with its units written. -/
theorem State.receivePacket_of_write {s w : State} {iod type n a : Nat} {p : Packet} {c : Chan} {x : Place} {k : Code} {parts : List Part}
    (hmem : s.mem.wf) (h : s.InTurn iod type p c) (htype : type = 2 ∨ type = 3) (hlen : p.len = 32 * n) (hlo : 1 ≤ n) (hhi : n ≤ 128)
    (hpayload : p.payload.length = n) (hctr : p.post = true → ctrInRange p.tport p.ctr = true) (hline : type = 3 → n = 4)
    (hplace : s.globalPlace p.gaddr p.len (if type = 3 then 128 else 32) = x) (hstore : ∀ a b c, x ≠ .store a b c)
    (hwrite : (s.received iod p c).writePlace x p.payload = (w, k)) (hk : k = .ok ∨ k = .poisoned) (hwrote : s.Wrote w a p.payload)
    (hparts : unchangedBut parts (s.received iod p c) w) (hsub : ∀ q ∈ parts, q ∈ [Part.mem, .poison, .cols]) :
    s.WriteEnded (s.receivePacket iod p noEcc) iod n a p c k ([.iods, .links, .log, .posts, .gates] ++ parts) := by
  obtain rfl : p.type = type := h.1
  have honly := s.received_onlyChans iod p c
  have hout (q : Part) (hq : q ∉ [Part.mem, .poison, .cols]) : q ∉ parts := fun hm => hq (hsub q hm)
  have hperform : (s.received iod p c).perform iod p.dchan p noEcc = (w.afterPost iod n p, k) := by
    have hdo := State.doWrite_of_taken (iod := iod) hlen hlo hhi hpayload hctr hline ((honly.globalPlace _ _ _).trans hplace) hstore hwrite hk
    rcases htype with htype | htype <;> simp only [State.perform, htype, hdo]
  have hposted := w.afterPost_unchanged iod n p
  have hv : (w.afterPost iod n p).chan? iod p.dchan = some (c.taken p s.time) :=
    (hposted.chan? (by decide) _ _).trans ((hparts.chan? (hout _ (by decide)) _ _).trans (s.chan?_received iod p c))
  obtain ⟨-, -, -, -, -, -, -, -, hgot⟩ := id h
  rw [State.receivePacket_of_inTurn h hperform hv hgot]
  have hanswered := (w.afterPost iod n p).answered_onlyChans iod p.dchan p.psn (c.taken p s.time) k
  obtain ⟨hsame, hbytes⟩ := ((hwrote.of_unchanged hposted (by decide) (by decide)).of_unchanged hanswered.1.1 (by decide) (by decide)).memory hmem
    hpayload
  refine ⟨hsame, hbytes, ?_, State.chan?_answered _ _ hv, ?_⟩
  · exact (w.afterPost_posted iod n p).of_unchanged ((honly.1.1.mono fun q hq => List.mem_append_left parts hq).trans
      (hparts.mono fun q hq => List.mem_append_right _ hq)) hanswered.1.1
      ⟨List.not_mem_append (by decide) (hout _ (by decide)), List.not_mem_append (by decide) (hout _ (by decide))⟩ (by decide)
  · have hhere : ∀ q ∈ [Part.iods, .links, .log, .posts, .gates], q ∈ [Part.iods, .links, .log, .posts, .gates] ++ parts :=
      fun q hq => List.mem_append_left _ hq
    exact (((honly.1.1.mono (by decide)).mono hhere).trans (hparts.mono fun q hq => List.mem_append_right _ hq)).trans
      (((hposted.mono (by decide)).mono hhere).trans ((hanswered.1.1.mono (by decide)).mono hhere))

/-- A COPY or WRITE in turn to an open vault. -/
theorem State.receivePacket_to_vault {s : State} {iod type n site tile unit : Nat} {p : Packet} {c : Chan} {k : Code} (hmem : s.mem.wf)
    (h : s.InTurn iod type p c) (htype : type = 2 ∨ type = 3) (hlen : p.len = 32 * n) (hlo : 1 ≤ n) (hhi : n ≤ 128)
    (hpayload : p.payload.length = n) (hctr : p.post = true → ctrInRange p.tport p.ctr = true) (hline : type = 3 → n = 4)
    (hplace : s.globalPlace p.gaddr p.len (if type = 3 then 128 else 32) = .vault site tile unit) (hopen : s.portOpen site = true)
    (hpower : (s.col site tile).powered = true) (hwait : s.NoWait site tile unit n)
    (hverdict : s.verdict (writeSlot site 3 tile unit p.payload) = k) (hk : k = .ok ∨ k = .poisoned) :
    s.WriteEnded (s.receivePacket iod p noEcc) iod n (vaultAddr site tile unit) p c k
      [.iods, .links, .log, .posts, .gates, .mem, .poison, .cols] := by
  have honly := s.received_onlyChans iod p c
  exact State.receivePacket_of_write hmem h htype hlen hlo hhi hpayload hctr hline hplace (by simp)
    (State.writePlace_vault ((honly.portOpen _).trans hopen) (by rw [honly.1.1.col (by decide), hpower]) (hpayload ▸ honly.noWait hwait)
      ((honly.verdict_vault _ _ _ _).trans hverdict) hk) hk (State.vaultWrite_wrote honly _ _ _ _) (State.vaultWrite_unchanged _ _ _ _ _) (by simp)

/-- A COPY in turn to an open field cache. -/
theorem State.receivePacket_to_cache {s : State} {iod n field unit : Nat} {p : Packet} {c : Chan} {k : Code} (hmem : s.mem.wf)
    (h : s.InTurn iod 2 p c) (hlen : p.len = 32 * n) (hlo : 1 ≤ n) (hhi : n ≤ 128) (hpayload : p.payload.length = n)
    (hctr : p.post = true → ctrInRange p.tport p.ctr = true) (hplace : s.globalPlace p.gaddr p.len 32 = .cache field unit)
    (hopen : s.portOpen (s.cachePort field) = true) (hverdict : s.verdict (writeSlot (s.cachePort field) 1 0 unit p.payload) = k)
    (hk : k = .ok ∨ k = .poisoned) :
    s.WriteEnded (s.receivePacket iod p noEcc) iod n (cacheAddr field (32 * unit)) p c k [.iods, .links, .log, .posts, .gates, .mem, .poison] := by
  have honly := s.received_onlyChans iod p c
  have hport := honly.cachePort field
  exact State.receivePacket_of_write hmem h (.inl rfl) hlen hlo hhi hpayload hctr (by simp) hplace (by simp)
    (State.writePlace_cache (by rw [hport, honly.portOpen, hopen]) (by rw [hport]; exact hverdict) hk) hk
    (State.putUnits_congr _ _ (honly.1.1.mem (by decide)) (honly.1.1 .poison (by decide))) (State.putUnits_unchanged _ _ _) (by simp)

end Sys2Proof.Machine
end

section
/-!
What the operations of packets other than writes leave (R225, R230, R231, R237, R238, R242, R243).
-/

namespace Sys2Proof.Machine

/-! ### MSG (R231) -/

theorem State.addIod_keeps (s : State) (i ctr n : Nat) : Keeps [.iods] [] s (s.addIod i ctr n) := s.setIod_keeps _ _

theorem State.iodTally_addIod (s : State) (i ctr n : Nat) : (s.addIod i ctr n).iodTally i ctr = (s.iodTally i ctr + n) % 2 ^ 64 := by
  rw [State.iodTally, State.addIod, State.iod_setIod]
  exact mapGet_mapSet_same _ _ _ _

theorem State.chan?_addIod (s : State) (i ctr n j ch : Nat) : (s.addIod i ctr n).chan? j ch = s.chan? j ch :=
  State.chan?_setIod (by rfl) j ch

theorem State.OnlyChans.iodTally {s t : State} (h : s.OnlyChans t) (i ctr : Nat) : t.iodTally i ctr = s.iodTally i ctr := by
  obtain ⟨chans, hi⟩ := h.2 i
  rw [State.iodTally, State.iodTally, hi]

/-- A MSG is handed over, and posts on its channel's counter. -/
theorem State.doMsg_spec {s : State} {i ch : Nat} {c : Chan} (h : s.chan? i ch = some c) (p : Packet) :
    ∃ u : State, s.doMsg i ch p = (u, if anyMark p.payload then .poisoned else .ok) ∧ Keeps [.out, .iods] [] s u ∧
      u.out = s.out ++ [.message i ch p.len (if anyMark p.payload then .poisoned else .ok) (marksOf p.payload) p.payload] ∧
      u.chan? i ch = some c ∧ (c.actr ≠ 0 → u.iodTally i c.actr = (s.iodTally i c.actr + 1) % 2 ^ 64) := by
  have hsent (m : Sent) : (s.send m).chan? i ch = some c := h
  unfold State.doMsg
  dsimp only
  rw [hsent]
  dsimp only
  split
  · next hzero => exact ⟨_, rfl, (s.send_keeps _).mono (by decide), rfl, h, fun hne => absurd hzero hne⟩
  · exact ⟨_, rfl, ((s.send_keeps _).mono (by decide)).trans ((State.addIod_keeps _ _ _ _).mono (by decide)), rfl,
      (State.chan?_addIod _ _ _ _ _ _).trans h, fun _ => State.iodTally_addIod _ _ _ _⟩

/-! ### READ (R237) -/

/-- The reply to a READ. -/
def readReply (p : Packet) (k : Code) (l : List Cell32) : Packet :=
  { (default : Packet) with type := 5, cls := p.cls, gaddr := p.gaddr, rid := p.rid, code := codeNum k, sub := p.sub, len := 32 * l.length, payload := l }

/-- A vault that serves gives its units, with what ECC finds. -/
theorem State.readPlace_vault {s : State} {site tile unit n : Nat} (hopen : s.portOpen site = true) (hserves : s.colServes site tile = true)
    (hread : s.readRefusal site { (default : ReadRec) with space := 0, ttile := tile, addr := unit, len := n } = .ok)
    (hwait : s.NoWait site tile unit n) (ue : List Nat) (ce : Nat) :
    s.readPlace (.vault site tile unit) n ue ce = (s.vaultRead site tile unit n ue ce,
      if anyMark (s.vaultUnits site tile unit n ue) then .poisoned else .ok, s.vaultUnits site tile unit n ue) := by
  simp only [State.readPlace, hopen, hserves, hread, State.passWrites_of_noWait hwait, Bool.not_true, Bool.false_eq_true, or_self, if_false, ne_eq,
    not_true_eq_false]

/-- A vault's units below its end, at a site that is not in B4, may be read. -/
theorem State.readRefusal_vault {s : State} {site tile unit : Nat} (hsite : isSite site = true) (htile : tile < 48)
    (hunit : unit % 2 ^ 23 + 4 ≤ 2 ^ 23) (hband : s.band site ≠ bandB4) :
    s.readRefusal site { (default : ReadRec) with space := 0, ttile := tile, addr := unit, len := 4 } = .ok := by
  have hrange : ¬((!isSite site) = true ∨ 48 ≤ tile ∨ 2 ^ 23 < unit % 2 ^ 23 + 4 ∨ 368 < 4) := by
    rw [hsite]
    simp only [Bool.not_true, Bool.false_eq_true, false_or]
    omega
  simp only [State.readRefusal, if_true, if_neg hrange, if_neg (fun h : isSite site = true ∧ s.band site = bandB4 => hband h.2)]
  decide

/-! ### READ_REPLY (R238, R241, R243) -/

theorem State.fillLine_keeps (s : State) (field g : Nat) (l : List Cell32) : Keeps [.fields] [] s (s.fillLine field g l) :=
  .of_parts (s.setField_unchanged _ _) (by decide)

/-- The line that fills a field's area is its newest. -/
theorem State.fillLine_last (s : State) (field g : Nat) (l : List Cell32) :
    ((s.fillLine field g l).field field).lines.getLast? = some { gaddr := g, data := l } := by
  rw [State.fillLine, State.field_setField]
  exact List.getLast?_concat

/-- The read of a reply ends, whether or not its line is kept. -/
def State.replied (s : State) (i : Nat) (p : Packet) : State :=
  (s.setIod i { s.iod i with reads := mapDel (s.iod i).reads p.rid }).send (.lineAnswer i p.rid (codeOf p.code) p.payload)

theorem State.replied_keeps (s : State) (i : Nat) (p : Packet) : Keeps [.iods, .out] [] s (s.replied i p) :=
  ((s.setIod_keeps _ _).mono (by decide)).trans ((State.send_keeps _ _).mono (by decide))

/-- A reply's line is kept: the read asked for it, no invalidation came between, and the reply is OK. -/
def State.keepsLine (s : State) (r : RRead) (p : Packet) : Prop :=
  r.cacheable = true ∧ p.code = 0 ∧ r.killed = false ∧ (s.field r.field).epoch = r.epoch

/-- The state after a reply in time. -/
def State.lineKept (s : State) (i : Nat) (r : RRead) (p : Packet) : State :=
  if r.cacheable = true ∧ p.code = 0 ∧ (!r.killed) = true ∧ ((s.replied i p).field r.field).epoch = r.epoch then
    (s.replied i p).fillLine r.field r.gaddr p.payload else s.replied i p

theorem State.lineKept_of_keeps {s : State} {r : RRead} {p : Packet} (h : s.keepsLine r p) (i : Nat) :
    s.lineKept i r p = (s.replied i p).fillLine r.field r.gaddr p.payload := by
  obtain ⟨hcache, hcode, hlive, hepoch⟩ := h
  exact if_pos ⟨hcache, hcode, by rw [hlive]; rfl, hepoch⟩

theorem State.lineKept_of_not_keeps {s : State} {r : RRead} {p : Packet} (h : ¬s.keepsLine r p) (i : Nat) : s.lineKept i r p = s.replied i p :=
  if_neg fun ⟨hcache, hcode, hlive, hepoch⟩ => h ⟨hcache, hcode, by simpa using hlive, hepoch⟩

theorem State.lineKept_keeps (s : State) (i : Nat) (r : RRead) (p : Packet) : Keeps [.fields] [] (s.replied i p) (s.lineKept i r p) :=
  .ite (State.fillLine_keeps _ _ _ _) (.refl _ _ _)

theorem State.doReply_of_read {s : State} {i : Nat} {p : Packet} {r : RRead}
    (hread : (s.iod i).reads.find? (fun r => r.1 == p.rid) = some (p.rid, r)) (htime : s.time ≤ r.deadline) :
    s.doReply i p = (s.lineKept i r p, .ok) := by
  unfold State.doReply
  dsimp only
  rw [hread]
  dsimp only
  rw [if_neg (Nat.not_lt.mpr htime)]
  rfl

theorem State.chan?_replied (s : State) (i : Nat) (p : Packet) (j ch : Nat) : (s.replied i p).chan? j ch = s.chan? j ch :=
  State.chan?_setIod (by rfl) j ch

theorem State.reads_replied (s : State) (i : Nat) (p : Packet) : ((s.replied i p).iod i).reads = mapDel (s.iod i).reads p.rid :=
  congrArg Iod.reads (State.iod_setIod _ _ _)

/-! ### INVAL (R242, R243) -/

theorem State.killFills_keeps (s : State) (only : Option Nat) (g : Nat) : Keeps [.iods] [] s (s.killFills only g) :=
  .foldl (fun s _ => s.setIod_keeps _ _) _ s

/-- The reads of an I/O die once fills of a line are not to be kept. -/
def Iod.killed (d : Iod) (only : Option Nat) (g : Nat) : Iod :=
  { d with reads := d.reads.map (fun r => if r.2.gaddr = g ∧ only.all (fun f => f == r.2.field) then (r.1, { r.2 with killed := true }) else r) }

/-- Every I/O die of a list is changed, each once, and no other. -/
theorem State.foldl_setIod {F : Iod → Iod} {op : State → Nat → State} (hop : ∀ s i, op s i = s.setIod i (F (s.iod i))) (l : List Nat)
    (hl : l.Nodup) (s : State) (i : Nat) : (l.foldl op s).iod i = if i ∈ l then F (s.iod i) else s.iod i := by
  induction l generalizing s with
  | nil => rfl
  | cons j l ih =>
    obtain ⟨hj, hl⟩ := List.nodup_cons.mp hl
    rw [List.foldl_cons, ih hl, hop]
    rcases eq_or_ne i j with rfl | hi
    · rw [if_neg hj, if_pos List.mem_cons_self, State.iod_setIod]
    · rw [State.iod_setIod_ne _ _ hi]
      simp only [List.mem_cons, hi, false_or]

theorem State.killFills_iod (s : State) (only : Option Nat) (g i : Nat) :
    (s.killFills only g).iod i = if i < 4 then (s.iod i).killed only g else s.iod i := by
  refine (State.foldl_setIod (F := fun d => d.killed only g) (fun _ _ => rfl) _ (List.nodup_range (n := 4)) s i).trans ?_
  simp only [List.mem_range]

theorem State.chan?_killFills (s : State) (only : Option Nat) (g j ch : Nat) : (s.killFills only g).chan? j ch = s.chan? j ch := by
  have hchans : ((s.killFills only g).iod j).chans = (s.iod j).chans := by
    rw [State.killFills_iod]
    split
    · rfl
    · rfl
  rw [State.chan?, State.chan?, hchans]

/-- Every fill of the line is killed. -/
theorem Iod.killed_reads {d : Iod} {only : Option Nat} {g : Nat} {r : Nat × RRead} (hr : r ∈ (d.killed only g).reads) (hg : r.2.gaddr = g)
    (honly : only.all (fun f => f == r.2.field) = true) : r.2.killed = true := by
  obtain ⟨q, -, rfl⟩ := List.mem_map.mp hr
  by_cases h : q.2.gaddr = g ∧ only.all (fun f => f == q.2.field) = true
  · rw [if_pos h]
  · rw [if_neg h] at hg honly
    exact absurd ⟨hg, honly⟩ h

/-- Every field of a list is changed, each once, and no other. -/
theorem State.foldl_setField {F : Field → Field} {op : State → Nat → State} (hop : ∀ s f, op s f = s.setField f (F (s.field f))) (l : List Nat)
    (hl : l.Nodup) (s : State) (f : Nat) : (l.foldl op s).field f = if f ∈ l then F (s.field f) else s.field f := by
  induction l generalizing s with
  | nil => rfl
  | cons g l ih =>
    obtain ⟨hg, hl⟩ := List.nodup_cons.mp hl
    rw [List.foldl_cons, ih hl, hop]
    rcases eq_or_ne f g with rfl | hf
    · rw [if_neg hg, if_pos List.mem_cons_self, State.field_setField]
    · rw [State.field_setField_ne _ _ hf]
      simp only [List.mem_cons, hf, false_or]

theorem State.invalidateLine_keeps (s : State) (f g : Nat) : Keeps [.fields] [] s (s.invalidateLine f g) :=
  .of_parts (s.setField_unchanged _ _) (by decide)

theorem State.invalidateEpoch_keeps (s : State) (f : Nat) : Keeps [.fields] [] s (s.invalidateEpoch f) :=
  .of_parts (s.setField_unchanged _ _) (by decide)

/-! ### CLOSE (R230) -/

theorem State.copyEnded_keeps (s : State) (i n : Nat) (p : Packet) (k : Code) : Keeps [.movers] [] s (s.copyEnded i n p k) := by
  unfold State.copyEnded
  dsimp only
  split
  · exact .refl _ _ s
  · exact .of_parts (s.setMover_unchanged _ _) (by decide)

theorem State.entryEnd_spec (s : State) (i n : Nat) (p : Packet) (k : Code) :
    Keeps [.movers, .out] [] s (s.entryEnd i n p k) ∧ (s.entryEnd i n p k).out = s.out ++ [.entryEnded i n p k] := by
  have hcopy := s.copyEnded_keeps i n p k
  refine ⟨(hcopy.mono (by decide)).trans ((State.send_keeps _ _).mono (by decide)), ?_⟩
  exact congrArg (· ++ [Sent.entryEnded i n p k]) (hcopy.1 .out (by decide))

theorem State.foldl_entryEnd_spec (l : List Packet) (s : State) (i n : Nat) (k : Code) :
    Keeps [.movers, .out] [] s (l.foldl (fun s p => s.entryEnd i n p k) s) ∧
      (l.foldl (fun s p => s.entryEnd i n p k) s).out = s.out ++ l.map (fun q => .entryEnded i n q k) := by
  induction l generalizing s with
  | nil => exact ⟨.refl _ _ s, (List.append_nil _).symm⟩
  | cons p l ih =>
    obtain ⟨hfirst, hout⟩ := s.entryEnd_spec i n p k
    obtain ⟨hrest, hout'⟩ := ih (s.entryEnd i n p k)
    refine ⟨hfirst.trans hrest, hout'.trans ?_⟩
    rw [hout, List.append_assoc]
    rfl

/-- A closing channel with nothing to send ends when nothing is left to acknowledge (R230). -/
theorem State.closeIfDone_spec {s : State} {i n : Nat} {c : Chan} (h : s.chan? i n = some c) (hstate : c.state = chanClosing) (hring : c.sring = []) :
    Keeps [.iods, .objs] [.F090D] s (s.closeIfDone i n) ∧
      (s.closeIfDone i n).chan? i n = some { c with state := if c.inFlight = [] then 0 else 3 } ∧
      (s.closeIfDone i n).obj .F090D i = s.obj .F090D i - (if c.inFlight = [] then 1 else 0) := by
  by_cases hflight : c.inFlight = []
  · have hclosed : s.closeIfDone i n = (s.setChan i n { c with state := 0 }).setObj .F090D i (s.obj .F090D i - 1) := by
      simp only [State.closeIfDone, h, hstate, hflight, List.isEmpty_nil, and_self, if_true, hring, List.foldl_nil, State.setChan]
      rfl
    rw [hclosed, if_pos hflight, if_pos hflight]
    exact ⟨((State.setChan_keeps _ _ _ _).mono (by decide)).trans ((State.setObj_keeps _ _ _ _).mono (by decide)),
      State.chan?_setChan _ _ _ _, State.obj_setObj _ _ _ _⟩
  · have hopen : s.closeIfDone i n = s := by
      simp only [State.closeIfDone, h, List.isEmpty_iff, hflight, and_false, if_false]
    rw [hopen, if_neg hflight, if_neg hflight, h, ← show c.state = 3 from hstate]
    exact ⟨.refl _ _ s, rfl, rfl⟩

/-- A CLOSE ends what was not sent, and the channel when nothing is left to acknowledge. -/
theorem State.doClose_spec {s : State} {i ch : Nat} {c : Chan} (h : s.chan? i ch = some c) :
    ∃ u, s.doClose i ch = (u, .ok) ∧ Keeps [.iods, .objs, .out, .movers] [.F090D] s u ∧
      u.chan? i ch = some { c with state := if c.inFlight = [] then 0 else 3, sring := [] } ∧
      u.out = s.out ++ c.sring.map (fun q => .entryEnded i ch q .aborted) ∧
      u.obj .F090D i = s.obj .F090D i - (if c.inFlight = [] then 1 else 0) := by
  have hset := s.setChan_keeps i ch { c with state := chanClosing, sring := [] }
  obtain ⟨hended, hout⟩ := State.foldl_entryEnd_spec c.sring (s.setChan i ch { c with state := chanClosing, sring := [] }) i ch .aborted
  obtain ⟨hdone, hchan, hcount⟩ := State.closeIfDone_spec ((hended.1.chan? (by decide) _ _).trans (State.chan?_setChan _ _ _ _)) rfl rfl
  refine ⟨_, by simp only [State.doClose, h], ?_, hchan, ?_, ?_⟩
  · exact ((hset.mono (by decide)).trans (hended.mono (by decide))).trans (hdone.mono (by decide))
  · exact (hdone.1 .out (by decide)).trans (hout.trans (congrArg (· ++ _) (hset.1 .out (by decide))))
  · rw [hcount, hended.obj _ _ (by decide), hset.obj _ _ (by decide)]

/-! ### MERGE (R225) -/

/-- A packet that carries all the flits of a ticket's contribution. -/
def Ticket.WholeIn (k : Ticket) (p : Packet) : Prop :=
  p.flit = 0 ∧ p.nflit + 1 = k.flits ∧ p.len = 256 * k.flits ∧ p.payload.length = 8 * k.flits

theorem find?_zipIdx_swap {α : Type} (l : List α) (m u : Nat) (h : u < l.length) :
    ((l.zipIdx m).map (fun x => (x.2, x.1))).find? (fun v => v.1 == m + u) = some (m + u, l[u]) := by
  induction l generalizing m u with
  | nil => exact absurd h (Nat.not_lt_zero u)
  | cons x l ih =>
    cases u with
    | zero => simp
    | succ u =>
      have hrest := ih (m + 1) u (Nat.lt_of_succ_lt_succ h)
      rw [Nat.add_right_comm, Nat.add_assoc] at hrest
      simpa using hrest

/-- Units that are put together by their places are the units. -/
theorem units_of_places (l : List Cell32) :
    (List.range l.length).map (fun u => (((l.zipIdx.map (fun x => (x.2, x.1))).find? (fun v => v.1 == u)).map (fun v => v.2)).getD default) = l := by
  refine List.ext_getElem (by simp) fun u hu hl => ?_
  have hfind := find?_zipIdx_swap l 0 u hl
  rw [Nat.zero_add] at hfind
  rw [List.getElem_map, List.getElem_range, hfind]
  rfl

/-- The state after a contribution that does not complete its transit ticket. -/
def State.joined (s : State) (i : Nat) (p : Packet) (k : Ticket) : State :=
  s.setIod i { s.iod i with
    partials := mapDel (s.iod i).partials (p.ctr, 4 * p.spanel + p.siod)
    tickets := (s.iod i).tickets.map (fun x => if x.ticket = k.ticket then
      { k with contribs := k.contribs ++ [p.payload], worst := worse k.worst (codeOf p.code) } else x) }

theorem State.chan?_joined (s : State) (i : Nat) (p : Packet) (k : Ticket) (j ch : Nat) : (s.joined i p k).chan? j ch = s.chan? j ch :=
  State.chan?_setIod (by rfl) j ch

theorem State.tickets_joined (s : State) (i : Nat) (p : Packet) (k : Ticket) : ((s.joined i p k).iod i).tickets =
    (s.iod i).tickets.map (fun x => if x.ticket = k.ticket then
      { k with contribs := k.contribs ++ [p.payload], worst := worse k.worst (codeOf p.code) } else x) := by
  rw [State.joined, State.iod_setIod]

theorem State.setIod_setIod (s : State) (i : Nat) (d e : Iod) : (s.setIod i d).setIod i e = s.setIod i e := by
  simp only [State.setIod, mapSet_mapSet]

theorem State.transitAdd_of_more {s : State} {i : Nat} {k : Ticket} (hstraight : ∀ x ∈ (s.iod i).straight, x.ticket ≠ k.ticket)
    (hmore : k.contribs.length + 1 < k.expected) (l : List Cell32) (code : Code) :
    s.transitAdd i k l code = s.setIod i { s.iod i with tickets := (s.iod i).tickets.map (fun x => if x.ticket = k.ticket then
      { k with contribs := k.contribs ++ [l], worst := worse k.worst code } else x) } := by
  have hnone : ¬((s.iod i).straight.any (fun x => x.ticket == k.ticket)) = true := by simpa using hstraight
  have hleft : ¬k.expected ≤ (k.contribs ++ [l]).length := by simpa using hmore
  simp only [State.transitAdd, if_neg hnone, if_neg hleft]

theorem State.doMerge_of_whole {s : State} {i : Nat} {p : Packet} {k : Ticket}
    (hticket : (s.iod i).tickets.find? (fun x => x.ticket == p.ctr) = some k) (hstraight : ∀ x ∈ (s.iod i).straight, x.ticket ≠ k.ticket)
    (haccepts : k.accepts s.time 0 = true) (hwhole : k.WholeIn p)
    (hpart : mapGet [] (s.iod i).partials (p.ctr, 4 * p.spanel + p.siod) = []) (hmore : k.contribs.length + 1 < k.expected) :
    s.doMerge i p = (s.joined i p k, .ok) := by
  obtain ⟨hflit, hnflit, hlen, hpayload⟩ := hwhole
  have hform : ¬(k.flits < p.nflit + 1 ∨ p.len ≠ 256 * (p.nflit + 1)) := by omega
  have htake : p.payload.take (8 * (p.nflit + 1)) = p.payload := List.take_of_length_le (by omega)
  have hunits := units_of_places p.payload
  rw [hpayload] at hunits
  have hadd := State.transitAdd_of_more (s := s.setIod i { s.iod i with partials := mapDel (s.iod i).partials (p.ctr, 4 * p.spanel + p.siod) })
    (i := i) (k := k) (by simpa using hstraight) hmore p.payload (codeOf p.code)
  rw [State.iod_setIod, State.setIod_setIod] at hadd
  simp only [State.doMerge, hticket, haccepts, Bool.not_true, Bool.false_eq_true, if_false, hflit, if_neg hform, htake, hpart, List.filter_nil,
    List.nil_append, Nat.mul_zero, Nat.zero_add, List.length_map, List.length_zipIdx, hpayload, if_true, hunits, hadd]
  rfl

end Sys2Proof.Machine
end

section
/-!
Packets in turn (R231, R240): each operation ends in a packet that is received, and O34.
-/

namespace Sys2Proof.Machine

/-! ### What a packet in turn leaves, given what its operation leaves -/

/-- A packet in turn leaves what its operation `u` leaves but for the bookkeeping, and its channel lists its code. -/
theorem State.receivePacket_after {s u : State} {iod type : Nat} {p : Packet} {c v : Chan} {k : Code} {ue : Ecc} {parts parts' : List Part}
    {os : List Obj} (h : s.InTurn iod type p c) (hperform : (s.received iod p c).perform iod p.dchan p ue = (u, k))
    (hkeeps : Keeps parts os (s.received iod p c) u) (hv : u.chan? iod p.dchan = some v) (hgot : v.got = [])
    (hparts : ∀ q ∈ [Part.iods, .links, .log] ++ parts, q ∈ parts') :
    u.OnlyChans (s.receivePacket iod p ue) ∧ (s.receivePacket iod p ue).chan? iod p.dchan = some (v.listed p.psn k) ∧
      Keeps parts' os s (s.receivePacket iod p ue) := by
  rw [State.receivePacket_of_inTurn h hperform hv hgot]
  have hanswered := u.answered_onlyChans iod p.dchan p.psn v k
  refine ⟨hanswered, State.chan?_answered _ _ hv, ?_⟩
  have hbook {a b : State} (hab : a.OnlyChans b) : Keeps parts' os a b :=
    hab.1.mono ⟨fun q hq => hparts q (List.mem_append_left _ hq), fun o ho => absurd ho List.not_mem_nil⟩
  exact ((hbook (s.received_onlyChans iod p c)).trans
    (hkeeps.mono ⟨fun q hq => hparts q (List.mem_append_right _ hq), fun o ho => ho⟩)).trans (hbook hanswered)

theorem State.InTurn.got {s : State} {iod type : Nat} {p : Packet} {c : Chan} (h : s.InTurn iod type p c) (now : Nat) : (c.taken p now).got = [] := by
  obtain ⟨-, -, -, -, -, -, -, -, hgot⟩ := h
  exact hgot

/-- The channel that a packet in turn finds when an operation leaves the I/O dies' channels alone. -/
theorem State.chan?_of_received {s u : State} {iod : Nat} {p : Packet} {c : Chan} {parts : List Part} (h : unchangedBut parts (s.received iod p c) u)
    (hparts : Part.iods ∉ parts) : u.chan? iod p.dchan = some (c.taken p s.time) := (h.chan? hparts _ _).trans (s.chan?_received iod p c)

theorem State.OnlyChans.reads {s t : State} (h : s.OnlyChans t) (i : Nat) : (t.iod i).reads = (s.iod i).reads := by
  obtain ⟨chans, hi⟩ := h.2 i
  rw [hi]

theorem State.OnlyChans.tickets {s t : State} (h : s.OnlyChans t) (i : Nat) : (t.iod i).tickets = (s.iod i).tickets := by
  obtain ⟨chans, hi⟩ := h.2 i
  rw [hi]

/-! ### MSG -/

theorem exec_msgPacket_of_inTurn {s : State} {iod : Nat} {p : Packet} {c : Chan} {k : Code} (h : s.InTurn iod 1 p c)
    (hk : k = if anyMark p.payload then .poisoned else .ok) :
    ∃ t, exec (.msgPacket iod p) s = .next t ∧ t.out = s.out ++ [.message iod p.dchan p.len k (marksOf p.payload) p.payload] ∧
      t.chan? iod p.dchan = some ((c.taken p s.time).listed p.psn k) ∧ (c.actr ≠ 0 → t.iodTally iod c.actr = (s.iodTally iod c.actr + 1) % 2 ^ 64) ∧
      unchangedBut [.out, .iods, .links, .log] s t := by
  subst hk
  have hbook := s.received_onlyChans iod p c
  obtain ⟨u, hdo, hkeeps, hout, hchan, htally⟩ := State.doMsg_spec (s.chan?_received iod p c) p
  have hperform : (s.received iod p c).perform iod p.dchan p noEcc = (u, if anyMark p.payload then .poisoned else .ok) := by
    simp only [State.perform, h.1, hdo]
  obtain ⟨hanswered, hlisted, hparts⟩ := State.receivePacket_after (parts' := [.out, .iods, .links, .log]) h hperform hkeeps hchan (h.got _) (by decide)
  refine ⟨_, congrArg Host.Outcome.next (if_pos h.1), ?_, hlisted, fun hctr => ?_, hparts.1⟩
  · exact (hanswered.1.1 .out (by decide)).trans (hout.trans (congrArg (· ++ _) (hbook.1.1 .out (by decide))))
  · exact (hanswered.iodTally _ _).trans ((htally hctr).trans (by rw [hbook.iodTally]; rfl))

/-! ### READ -/

theorem exec_readPacket_of_inTurn {s : State} {iod site tile unit : Nat} {p : Packet} {c : Chan} {k : Code} {l : List Cell32} {ue : List Nat} {ce : Nat}
    (h : s.InTurn iod 4 p c) (hplace : s.globalPlace p.gaddr 128 128 = .vault site tile unit) (hopen : s.portOpen site = true)
    (hserves : s.colServes site tile = true) (hwait : s.NoWait site tile unit 4) (hsite : isSite site = true) (htile : tile < 48)
    (hunit : unit % 2 ^ 23 + 4 ≤ 2 ^ 23) (hband : s.band site ≠ bandB4) (hl : l = s.vaultUnits site tile unit 4 ue)
    (hk : k = if anyMark l then .poisoned else .ok) :
    ∃ t, exec (.readPacket iod p ue ce) s = .next t ∧
      t.chan? iod p.dchan = some { (c.taken p s.time).listed p.psn k with sring := c.sring ++ [readReply p k l] } ∧ objsBut [.M0502, .M0503] s t ∧
      sameMemory s t ∧ unchangedBut [.iods, .objs, .cols, .layers, .links, .log] s t := by
  have hbook := s.received_onlyChans iod p c
  have hserves' : (s.received iod p c).colServes site tile = true := by
    rw [State.colServes, hbook.1.1.col (by decide)]
    exact hserves
  have hrefusal := (hbook.readRefusal site _).trans (State.readRefusal_vault hsite htile hunit hband)
  have hread := State.readPlace_vault ((hbook.portOpen _).trans hopen) hserves' hrefusal (hbook.noWait hwait) ue ce
  rw [hbook.vaultUnits, ← hl, ← hk] at hread
  have hvault := State.vaultRead_unchanged (s.received iod p c) site tile unit 4 ue ce
  have hchan := State.chan?_of_received hvault (by decide)
  have hperform : (s.received iod p c).perform iod p.dchan p { ue := ue, ce := ce } =
      (((s.received iod p c).vaultRead site tile unit 4 ue ce).setChan iod p.dchan
        { c.taken p s.time with sring := c.sring ++ [readReply p k l] }, k) := by
    simp only [State.perform, h.1, State.doRead, hbook.globalPlace, hplace, hread, hchan]
    rfl
  have hkeeps : Keeps [.objs, .log, .cols, .layers, .iods] [.M0502, .M0503] (s.received iod p c)
      (((s.received iod p c).vaultRead site tile unit 4 ue ce).setChan iod p.dchan
        { c.taken p s.time with sring := c.sring ++ [readReply p k l] }) :=
    .trans ⟨hvault.mono (by decide), State.vaultRead_objs _ _ _ _ _ _ _⟩ ((State.setChan_keeps _ _ _ _).mono (by decide))
  obtain ⟨-, hlisted, hparts⟩ := State.receivePacket_after (parts' := [.iods, .objs, .cols, .layers, .links, .log]) h hperform hkeeps
    (State.chan?_setChan _ _ _ _) (h.got s.time) (by decide)
  exact ⟨_, congrArg Host.Outcome.next (if_pos h.1), hlisted, hparts.2, hparts.1.memory (by decide) (by decide), hparts.1⟩

/-! ### READ_REPLY -/

theorem exec_readReplyPacket_of_inTurn {s : State} {iod : Nat} {p : Packet} {c : Chan} {r : RRead} (h : s.InTurn iod 5 p c)
    (hread : (s.iod iod).reads.find? (fun r => r.1 == p.rid) = some (p.rid, r)) (htime : s.time ≤ r.deadline) :
    ∃ t, exec (.readReplyPacket iod p) s = .next t ∧ t.out = s.out ++ [.lineAnswer iod p.rid (codeOf p.code) p.payload] ∧
      (t.iod iod).reads = mapDel (s.iod iod).reads p.rid ∧ t.chan? iod p.dchan = some ((c.taken p s.time).listed p.psn .ok) ∧
      (r.cacheable = true → p.code = 0 → r.killed = false → (s.field r.field).epoch = r.epoch →
        (t.field r.field).lines.getLast? = some { gaddr := r.gaddr, data := p.payload }) ∧
      ((r.cacheable = false ∨ p.code ≠ 0 ∨ r.killed = true ∨ (s.field r.field).epoch ≠ r.epoch) → t.fields = s.fields) ∧
      unchangedBut [.out, .iods, .fields, .links, .log] s t := by
  have hbook := s.received_onlyChans iod p c
  have hread' : ((s.received iod p c).iod iod).reads.find? (fun r => r.1 == p.rid) = some (p.rid, r) := by rw [hbook.reads, hread]
  have htime' : (s.received iod p c).time ≤ r.deadline := by rw [hbook.1.1.time (by decide)]; exact htime
  have hkeepsLine : (s.received iod p c).keepsLine r p ↔ s.keepsLine r p := by
    rw [State.keepsLine, State.keepsLine, hbook.1.1.field (by decide)]
  have hended := (s.received iod p c).replied_keeps iod p
  have hkept := (s.received iod p c).lineKept_keeps iod r p
  have hperform : (s.received iod p c).perform iod p.dchan p noEcc = ((s.received iod p c).lineKept iod r p, .ok) := by
    simp only [State.perform, h.1, State.doReply_of_read hread' htime']
  have hchan : ((s.received iod p c).lineKept iod r p).chan? iod p.dchan = some (c.taken p s.time) :=
    (hkept.1.chan? (by decide) _ _).trans ((State.chan?_replied _ _ _ _ _).trans (s.chan?_received iod p c))
  have hkeeps := (hended.mono (l' := [.iods, .out, .fields]) (os' := []) (by decide)).trans (hkept.mono (by decide))
  obtain ⟨hanswered, hlisted, hparts⟩ := State.receivePacket_after (parts' := [.out, .iods, .fields, .links, .log]) h hperform hkeeps hchan
    (h.got _) (by decide)
  refine ⟨_, congrArg Host.Outcome.next (if_pos h.1), ?_, ?_, hlisted, fun hcache hcode hlive hepoch => ?_, fun hnot => ?_, hparts.1⟩
  · exact (hanswered.1.1 .out (by decide)).trans ((hkept.1 .out (by decide)).trans (congrArg (· ++ _) (hbook.1.1 .out (by decide))))
  · rw [hanswered.reads, hkept.1.iod (by decide), State.reads_replied, hbook.reads]
  · rw [hanswered.1.1.field (by decide), State.lineKept_of_keeps (hkeepsLine.mpr ⟨hcache, hcode, hlive, hepoch⟩)]
    exact State.fillLine_last _ _ _ _
  · have hno : ¬(s.received iod p c).keepsLine r p := by
      rw [hkeepsLine]
      rintro ⟨hcache, hcode, hlive, hepoch⟩
      simp [hcache, hcode, hlive, hepoch] at hnot
    refine (hanswered.1.1 .fields (by decide)).trans ?_
    rw [State.lineKept_of_not_keeps hno]
    exact (hended.1 .fields (by decide)).trans (hbook.1.1 .fields (by decide))

/-! ### INVAL -/

theorem State.OnlyChans.field {s t : State} (h : s.OnlyChans t) (f : Nat) : t.field f = s.field f := h.1.1.field (by decide) f

theorem exec_invalLine_of_inTurn {s : State} {iod : Nat} {p : Packet} {c : Chan} (h : s.InTurn iod 6 p c) (hsub : p.sub = 0) :
    ∃ t, exec (.invalLine iod none p) s = .next t ∧
      (∀ f, f < 56 → t.field f = { s.field f with lines := (s.field f).lines.filter (fun l => l.gaddr != p.gaddr) }) ∧
      (∀ i, i < 4 → ∀ r ∈ (t.iod i).reads, r.2.gaddr = p.gaddr → r.2.killed = true) ∧
      t.chan? iod p.dchan = some ((c.taken p s.time).listed p.psn .ok) ∧ unchangedBut [.fields, .iods, .links, .log] s t := by
  have hbook := s.received_onlyChans iod p c
  have hkill := (s.received iod p c).killFills_keeps none p.gaddr
  have hlines := Keeps.foldl (fun s f => s.invalidateLine_keeps f p.gaddr) (List.range 56) ((s.received iod p c).killFills none p.gaddr)
  have hperform : (s.received iod p c).perform iod p.dchan p noEcc =
      ((List.range 56).foldl (fun s f => s.invalidateLine f p.gaddr) ((s.received iod p c).killFills none p.gaddr), .ok) := by
    simp only [State.perform, h.1, State.doInval, if_pos hsub]
  have hchan := (hlines.1.chan? (by decide) iod p.dchan).trans
    (((s.received iod p c).chan?_killFills none p.gaddr iod p.dchan).trans (s.chan?_received iod p c))
  obtain ⟨hanswered, hlisted, hparts⟩ := State.receivePacket_after (parts := [.fields, .iods]) (parts' := [.fields, .iods, .links, .log]) h hperform
    ((hkill.mono (by decide)).trans (hlines.mono (os' := []) (by decide))) hchan (h.got _) (by decide)
  refine ⟨_, congrArg Host.Outcome.next (if_pos ⟨h.1, hsub⟩), fun f hf => ?_, fun i hi r hr hg => ?_, hlisted, hparts.1⟩
  · rw [hanswered.field, State.foldl_setField (op := fun s f => s.invalidateLine f p.gaddr)
      (F := fun x => { x with lines := x.lines.filter (fun l => l.gaddr != p.gaddr) }) (fun _ _ => rfl) _ List.nodup_range,
      if_pos (List.mem_range.mpr hf), hkill.1.field (by decide), hbook.field]
  · rw [hanswered.reads, hlines.1.iod (by decide), State.killFills_iod, if_pos hi] at hr
    exact Iod.killed_reads hr hg rfl

theorem exec_invalEpoch_of_inTurn {s : State} {iod : Nat} {p : Packet} {c : Chan} (h : s.InTurn iod 6 p c) (hsub : p.sub = 1) :
    ∃ t, exec (.invalEpoch iod none p) s = .next t ∧
      (∀ f, f < 56 → t.field f = { s.field f with epoch := ((s.field f).epoch + 1) % 2 ^ 32, lines := [] }) ∧
      t.chan? iod p.dchan = some ((c.taken p s.time).listed p.psn .ok) ∧ unchangedBut [.fields, .iods, .links, .log] s t := by
  have hbook := s.received_onlyChans iod p c
  have hepochs := Keeps.foldl (fun s f => s.invalidateEpoch_keeps f) (List.range 56) (s.received iod p c)
  have hperform : (s.received iod p c).perform iod p.dchan p noEcc =
      ((List.range 56).foldl (fun s f => s.invalidateEpoch f) (s.received iod p c), .ok) := by
    simp only [State.perform, h.1, State.doInval, hsub, if_true, one_ne_zero, if_false]
  obtain ⟨hanswered, hlisted, hparts⟩ := State.receivePacket_after (parts' := [.fields, .iods, .links, .log]) h hperform hepochs
    (State.chan?_of_received hepochs.1 (by decide)) (h.got _) (by decide)
  refine ⟨_, congrArg Host.Outcome.next (if_pos ⟨h.1, hsub⟩), fun f hf => ?_, hlisted, hparts.1⟩
  rw [hanswered.field, State.foldl_setField (op := fun s f => s.invalidateEpoch f)
    (F := fun x => { x with epoch := (x.epoch + 1) % 2 ^ 32, lines := [] }) (fun _ _ => rfl) _ List.nodup_range, if_pos (List.mem_range.mpr hf), hbook.field]

/-- A requester's own invalidation of a line, in the one field it names (R242). -/
theorem State.ownInvalLine_spec (s : State) (f g : Nat) :
    ((s.killFills (some f) g).invalidateLine f g).field f = { s.field f with lines := (s.field f).lines.filter (fun l => l.gaddr != g) } ∧
      (∀ k, k ≠ f → ((s.killFills (some f) g).invalidateLine f g).field k = s.field k) ∧
      (∀ i, i < 4 → ∀ r ∈ (((s.killFills (some f) g).invalidateLine f g).iod i).reads, r.2.gaddr = g → r.2.field = f → r.2.killed = true) ∧
      unchangedBut [.fields, .iods] s ((s.killFills (some f) g).invalidateLine f g) := by
  have hkill := s.killFills_keeps (some f) g
  have hline := (s.killFills (some f) g).invalidateLine_keeps f g
  refine ⟨?_, fun k hk => ?_, fun i hi r hr hg hf => ?_, (hkill.1.mono (by decide)).trans (hline.1.mono (by decide))⟩
  · rw [← hkill.1.field (by decide) f]
    exact State.field_setField _ _ _
  · exact (State.field_setField_ne _ _ hk).trans (hkill.1.field (by decide) k)
  · rw [hline.1.iod (by decide), State.killFills_iod, if_pos hi] at hr
    exact Iod.killed_reads hr hg (by simp [hf])

/-! ### MERGE -/

theorem exec_mergePacket_of_inTurn {s : State} {iod : Nat} {p : Packet} {c : Chan} {k : Ticket} (h : s.InTurn iod 7 p c)
    (hticket : (s.iod iod).tickets.find? (fun x => x.ticket == p.ctr) = some k) (hstraight : ∀ x ∈ (s.iod iod).straight, x.ticket ≠ k.ticket)
    (haccepts : k.accepts s.time 0 = true) (hwhole : k.WholeIn p)
    (hpart : mapGet [] (s.iod iod).partials (p.ctr, 4 * p.spanel + p.siod) = []) (hmore : k.contribs.length + 1 < k.expected) :
    ∃ t, exec (.mergePacket iod p) s = .next t ∧
      (t.iod iod).tickets = (s.iod iod).tickets.map (fun x => if x.ticket = k.ticket then
        { k with contribs := k.contribs ++ [p.payload], worst := worse k.worst (codeOf p.code) } else x) ∧
      t.chan? iod p.dchan = some ((c.taken p s.time).listed p.psn .ok) ∧ unchangedBut [.iods, .links, .log] s t := by
  have hbook := s.received_onlyChans iod p c
  obtain ⟨chans, hiod⟩ := hbook.2 iod
  have hdo := State.doMerge_of_whole (s := s.received iod p c) (i := iod) (p := p) (k := k) (by rw [hbook.tickets, hticket])
    (by rw [hiod]; exact hstraight) (by rw [hbook.1.1.time (by decide)]; exact haccepts) hwhole (by rw [hiod]; exact hpart) hmore
  have hperform : (s.received iod p c).perform iod p.dchan p noEcc = ((s.received iod p c).joined iod p k, .ok) := by
    simp only [State.perform, h.1, hdo]
  obtain ⟨hanswered, hlisted, hparts⟩ := State.receivePacket_after (parts' := [.iods, .links, .log]) h hperform (State.setIod_keeps _ _ _)
    ((State.chan?_joined _ _ _ _ _ _).trans (s.chan?_received iod p c)) (h.got _) (by decide)
  refine ⟨_, congrArg Host.Outcome.next (if_pos h.1), ?_, hlisted, hparts.1⟩
  rw [hanswered.tickets, State.tickets_joined, hbook.tickets]

/-! ### CLOSE -/

theorem exec_closePacket_of_inTurn {s : State} {iod : Nat} {p : Packet} {c : Chan} (h : s.InTurn iod 10 p c) :
    ∃ t, exec (.closePacket iod p) s = .next t ∧
      t.chan? iod p.dchan = some { (c.taken p s.time).listed p.psn .ok with state := (if c.inFlight = [] then 0 else 3), sring := [] } ∧
      t.out = s.out ++ c.sring.map (fun q => .entryEnded iod p.dchan q .aborted) ∧
      t.obj .F090D iod = s.obj .F090D iod - (if c.inFlight = [] then 1 else 0) ∧ objsBut [.F090D] s t ∧
      unchangedBut [.iods, .objs, .out, .movers, .links, .log] s t := by
  have hbook := s.received_onlyChans iod p c
  obtain ⟨u, hdo, hkeeps, hchan, hout, hcount⟩ := State.doClose_spec (s.chan?_received iod p c)
  have hperform : (s.received iod p c).perform iod p.dchan p noEcc = (u, .ok) := by simp only [State.perform, h.1, hdo]
  obtain ⟨hanswered, hlisted, hparts⟩ := State.receivePacket_after (parts' := [.iods, .objs, .out, .movers, .links, .log]) h hperform hkeeps hchan
    (h.got s.time) (by decide)
  refine ⟨_, congrArg Host.Outcome.next (if_pos h.1), hlisted, ?_, ?_, hparts.2, hparts.1⟩
  · exact (hanswered.1.1 .out (by decide)).trans (hout.trans (congrArg (· ++ _) (hbook.1.1 .out (by decide))))
  · rw [hanswered.1.obj _ _ (by decide), hcount, hbook.1.obj _ _ (by decide)]
    rfl

/-! ### O34 -/

/-- Settles O34: a packet in turn is performed once, in the state that notes it, and each type's operation leaves what its clause says. -/
theorem packetsInTurnComplete : Obligations.PacketsInTurnComplete := by
  unfold Obligations.PacketsInTurnComplete
  intro inTurn noted posted noWait
  refine ⟨fun s iod p c h => exec_msgPacket_of_inTurn h rfl, ?copyVault, ?copyCache, ?writeVault, ?read, ?reply,
    fun s iod p c h hsub => exec_invalLine_of_inTurn h hsub, fun s iod p c h hsub => exec_invalEpoch_of_inTurn h hsub, ?own, ?merge,
    fun s iod p c h => exec_closePacket_of_inTurn h⟩
  case copyVault =>
    intro s iod n site tile unit p c k hmem h hlen hlo hhi hpayload hctr hplace hopen hpower hwait hverdict hk
    obtain ⟨hsame, hbytes, hposted, hchan, hparts⟩ := State.receivePacket_to_vault hmem h (.inl rfl) hlen hlo hhi hpayload hctr (by simp)
      hplace hopen hpower hwait hverdict hk
    exact ⟨_, congrArg Host.Outcome.next (if_pos h.1), hsame, hbytes, hposted, hchan, hparts.mono (by decide)⟩
  case copyCache =>
    intro s iod n field unit p c k hmem h hlen hlo hhi hpayload hctr hplace hopen hverdict hk
    obtain ⟨hsame, hbytes, hposted, hchan, hparts⟩ := State.receivePacket_to_cache hmem h hlen hlo hhi hpayload hctr hplace hopen hverdict hk
    exact ⟨_, congrArg Host.Outcome.next (if_pos h.1), hsame, hbytes, hposted, hchan, hparts.mono (by decide)⟩
  case writeVault =>
    intro s iod site tile unit p c k hmem h hlen hpayload hctr hplace hopen hpower hwait hverdict hk
    obtain ⟨hsame, hbytes, hposted, hchan, hparts⟩ := State.receivePacket_to_vault hmem h (.inr rfl) hlen (by decide) (by decide) hpayload hctr
      (fun _ => rfl) (hlen ▸ hplace) hopen hpower hwait hverdict hk
    exact ⟨_, congrArg Host.Outcome.next (if_pos h.1), hsame, hbytes, hposted, hchan, hparts.mono (by decide)⟩
  case read =>
    intro s iod site tile unit p c ue ce h hplace hopen hserves hwait hsite htile hunit hband
    obtain ⟨t, hexec, hchan, hobjs, hmem, hparts⟩ := exec_readPacket_of_inTurn (ce := ce) h hplace hopen hserves hwait hsite htile hunit hband rfl rfl
    exact ⟨t, readReply p _ _, hexec, rfl, rfl, rfl, rfl, rfl, rfl, hchan, hobjs, hmem, hparts⟩
  case reply => exact fun s iod p c r h hread htime => exec_readReplyPacket_of_inTurn h hread htime
  case own =>
    intro s iod f p hf
    exact ⟨⟨_, congrArg Host.Outcome.next (if_pos hf), s.ownInvalLine_spec f p.gaddr⟩, ⟨_, congrArg Host.Outcome.next (if_pos hf),
      State.field_setField _ _ _, fun k hk => State.field_setField_ne _ _ hk, (s.invalidateEpoch_keeps f).1⟩⟩
  case merge =>
    exact fun s iod p c k h hticket hstraight haccepts hflit hnflit hlen hpayload hpart hmore =>
      exec_mergePacket_of_inTurn h hticket hstraight haccepts ⟨hflit, hnflit, hlen, hpayload⟩ hpart hmore

end Sys2Proof.Machine
end

section
/-!
A channel table that lists one channel twice: the transport engine finds a packet to send in the second entry, and what it sends is the first
entry's (R229, R235).
-/

namespace Sys2Proof.Machine

/-- An open channel of class A on commons. -/
def commonsChan : Chan := newChan .A 0 false true true 0 0 0 0 0#32 4 0

/-- I/O die 2 lists channel 6 twice: in the entry that every access reads, ACKs with hold = 1 have stopped it; in the other a packet waits. -/
def listedTwice : State :=
  { State.reset with
    iods := [(2, { Iod.reset with chans := [(6, { commonsChan with heldSince := some 0 }), (6, { commonsChan with sring := [default] })] })] }

/-- The turn is channel 6's, for the packet of its other entry. -/
theorem listedTwice_engineTurn :
    (listedTwice.setChan 2 6 { commonsChan with heldSince := some 0, sring := [default], shead := 1 }).engineTurn 2 = some (6, .A, (0, 0, 0)) := by
  decide

/-- An entry that is posted stays in the ring of the channel that is held. -/
theorem listedTwice_sring {t : State} (h : exec (.packetSend 2 6 0 [default]) listedTwice = .next t) :
    (t.chan? 2 6).map (fun c => c.sring) = some [default] := by
  cases h
  decide

/-- Refutes O35: at `listedTwice` it is channel 6's turn, and the entry posted to it does not leave. -/
theorem not_channelCommandsComplete : ¬ Obligations.ChannelCommandsComplete := by
  unfold Obligations.ChannelCommandsComplete
  intro h
  obtain ⟨-, -, hsend, -⟩ := h
  obtain ⟨t, d, o, he, hd, hring, -⟩ := hsend listedTwice 2 6 0 default { commonsChan with heldSince := some 0 } (0, 0, 0) rfl rfl rfl
    (by decide) (by decide) (by decide) rfl rfl listedTwice_engineTurn
  have hsring := listedTwice_sring he
  rw [hd, Option.map_some, hring] at hsring
  exact absurd hsring (by decide)

end Sys2Proof.Machine
end

section
/-!
The registers of a check unit stay within its width (R266): what the rule says of one unit, and that the computation, a feed and every access
keep it.
-/

namespace Sys2Proof.Machine

/-- The width rule of a unit's registers (Table 10.6, R266): POLY, INIT and VALUE stay below bit w, and CTRL holds its nine bits alone. -/
def CheckUnit.Fits (u : CheckUnit) : Prop := u.masked = u ∧ u.ctrl &&& 0x1FF#32 = u.ctrl

namespace CheckUnit
variable {u : CheckUnit}

theorem fits_iff (u : CheckUnit) : u.Fits ↔ u.poly &&& lowMask u.width = u.poly ∧ u.init &&& lowMask u.width = u.init ∧
    u.value &&& lowMask u.width = u.value ∧ u.ctrl &&& 0x1FF#32 = u.ctrl := by
  cases u
  simp [Fits, masked, width, and_assoc]

/-- The flags, the queue and the cycles of a unit are no part of the rule. -/
theorem Fits.of_registers {v : CheckUnit} (h : u.Fits) (hctrl : v.ctrl = u.ctrl) (hpoly : v.poly = u.poly) (hinit : v.init = u.init)
    (hvalue : v.value = u.value) : v.Fits := by
  rw [fits_iff] at h ⊢
  simpa only [width, hctrl, hpoly, hinit, hvalue] using h

theorem reset_fits : reset.Fits := ⟨by decide, by decide⟩

theorem masked_fits (h : u.ctrl &&& 0x1FF#32 = u.ctrl) : u.masked.Fits := by
  rw [fits_iff]
  exact ⟨by simp [masked, width, BitVec.and_assoc], by simp [masked, width, BitVec.and_assoc], by simp [masked, width, BitVec.and_assoc], h⟩

theorem Fits.withValue (h : u.Fits) {v : BitVec 64} (hv : v &&& lowMask u.width = v) : Fits { u with value := v } := by
  rw [fits_iff] at h ⊢
  obtain ⟨hpoly, hinit, -, hctrl⟩ := h
  exact ⟨hpoly, hinit, hv, hctrl⟩

/-! A bit of R266 shifts within the width and adds POLY, which keeps to it. -/

theorem xor_and_lowMask (a b : BitVec 64) (w : Nat) : (a ^^^ b) &&& lowMask w = (a &&& lowMask w) ^^^ (b &&& lowMask w) := by
  ext i
  simp [Bool.and_xor_distrib_right]

theorem crcBit_and_lowMask {w : Nat} {poly : BitVec 64} (hpoly : poly &&& lowMask w = poly) (v : BitVec 64) (b : Bool) :
    crcBit w poly v b &&& lowMask w = crcBit w poly v b := by
  unfold crcBit
  dsimp only
  split
  · rw [xor_and_lowMask, BitVec.and_assoc, BitVec.and_self, hpoly]
  · rw [BitVec.and_assoc, BitVec.and_self]

theorem foldl_and_lowMask {α : Type} {w : Nat} {f : BitVec 64 → α → BitVec 64}
    (hf : ∀ v x, v &&& lowMask w = v → f v x &&& lowMask w = f v x) (l : List α) {v : BitVec 64}
    (hv : v &&& lowMask w = v) : l.foldl f v &&& lowMask w = l.foldl f v := by
  induction l generalizing v with
  | nil => exact hv
  | cons x r ih => exact ih (hf v x hv)

theorem crcBytes_and_lowMask {w : Nat} {poly v : BitVec 64} (hpoly : poly &&& lowMask w = poly) (hv : v &&& lowMask w = v) (refin : Bool)
    (l : List (BitVec 8)) : crcBytes w refin poly v l &&& lowMask w = crcBytes w refin poly v l :=
  foldl_and_lowMask (fun _ _ hv => foldl_and_lowMask (fun v _ _ => crcBit_and_lowMask hpoly v _) _ hv) l hv

theorem Fits.feed (h : u.Fits) (l : List (BitVec 8)) : (u.feed l).Fits := by
  obtain ⟨hpoly, -, hvalue, -⟩ := u.fits_iff.mp h
  exact h.withValue (crcBytes_and_lowMask hpoly hvalue _ l)

theorem ctrlBits_and (v : BitVec 64) : (v &&& 0x1FF#64).setWidth 32 &&& 0x1FF#32 = (v &&& 0x1FF#64).setWidth 32 := by
  rw [BitVec.setWidth_and, BitVec.and_assoc]
  rfl

/-- Start, a feed and a register write keep the rule (R266 to R268). -/
theorem Fits.take (h : u.Fits) (x : CheckOp) : (u.take x).Fits := by
  obtain ⟨-, hinit, -, hctrl⟩ := u.fits_iff.mp h
  cases x with
  | start => exact h.withValue hinit
  | feed n v => exact (h.feed _).of_registers rfl rfl rfl rfl
  | reg off v =>
    have hnew (y : CheckUnit) (hy : y.ctrl = (v &&& 0x1FF#64).setWidth 32) : y.masked.Fits := masked_fits (hy ▸ ctrlBits_and v)
    unfold CheckUnit.take
    dsimp only
    split_ifs
    · have hx := hnew { u with ctrl := (v &&& 0x1FF#64).setWidth 32 } rfl
      exact hx.withValue ((fits_iff _).mp hx).2.1
    · exact hnew _ rfl
    · exact masked_fits hctrl
    · exact masked_fits hctrl
    · exact masked_fits hctrl
    · exact h

end CheckUnit
end Sys2Proof.Machine
end

section
/-!
What leaves the check units alone, in the order of the model: of each operation that goes into several commands, and of each command that takes a
case split, one lemma follows. Folds, branches and issue come first.
-/

namespace Sys2Proof.Machine

/-- A step that leaves the check units as they are. -/
def SameChecks (s t : State) : Prop := t.checks = s.checks

@[simp] theorem sameChecks_iff (s t : State) : SameChecks s t ↔ t.checks = s.checks := Iff.rfl

/-- A command leaves the check units as they are, where it answers a next state. -/
def Out.leavesChecks (s : State) : Out → Prop
  | .next t => t.checks = s.checks
  | _ => True

@[simp] theorem Out.leavesChecks_next (s t : State) : Out.leavesChecks s (.next t) ↔ t.checks = s.checks := Iff.rfl

@[simp] theorem foldl_checks {α : Type} {f : State → α → State} (h : ∀ s x, SameChecks s (f s x)) (l : List α) (s : State) :
    (l.foldl f s).checks = s.checks := by
  induction l generalizing s with
  | nil => rfl
  | cons x r ih => rw [List.foldl_cons, ih, h]

@[simp] theorem State.checks_ite (c : Prop) [Decidable c] (s t : State) : (if c then s else t).checks = if c then s.checks else t.checks :=
  apply_ite State.checks c s t

@[simp] theorem State.checks_fst_ite {α : Type} (c : Prop) [Decidable c] (p q : State × α) :
    (if c then p else q).1.checks = if c then p.1.checks else q.1.checks := apply_ite (fun p => p.1.checks) c p q

@[simp] theorem State.issue_checks {eff : State → State} (he : ∀ u, SameChecks u (eff u)) (s : State) (site tl cls op : Nat)
    (w : StepWord) (sh : Shape) (next : Nat) : (s.issue site tl cls op w sh next eff).checks = s.checks := by
  have hwait (gap : Nat) : (s.countWait site tl gap).checks = s.checks := s.countWait_unchanged site tl gap .checks (by simp)
  have htrap (u : State) (c d k o i : Nat) : (u.trapTile site tl c d k o i).checks = u.checks :=
    u.trapTile_unchanged site tl c d k o i .checks (by simp)
  have hissued : (s.issued site tl cls op w sh next).checks = s.checks := s.issued_unchanged site tl cls op w sh next .checks (by simp)
  unfold State.issue
  dsimp only
  split_ifs
  case pos | pos | pos => rfl
  case pos => rw [htrap, hwait]
  case neg =>
    split
    · rw [htrap, hwait]
    · split
      · simp
      · split
        · rw [htrap, hwait]
        · rw [he, hissued]

@[simp] theorem foldl_fst_checks {α β : Type} {f : State × β → α → State × β} (h : ∀ a x, SameChecks a.1 (f a x).1) (l : List α)
    (a : State × β) : (l.foldl f a).1.checks = a.1.checks := by
  induction l generalizing a with
  | nil => rfl
  | cons x r ih => rw [List.foldl_cons, ih, h]

end Sys2Proof.Machine
end

section
/-!
What leaves the check units alone. The tile engine: issue, mailboxes, the tile store and the mesh.
-/

namespace Sys2Proof.Machine

/-! ### The named operations over the state -/

@[simp] theorem State.endCmd_checks (s : State) (o : Obj) (k : Code) : (s.endCmd o k).checks = s.checks := by
  unfold State.endCmd
  split <;> simp

@[simp] theorem State.endCmdOf_checks (s : State) (o : Obj) (arg : Nat) (k : Code) : (s.endCmdOf o arg k).checks = s.checks := by
  simp [State.endCmdOf]

@[simp] theorem State.takePassed_checks (s : State) (kind content : Nat) :
    (s.takePassed kind content).checks = s.checks := by simp [State.takePassed]

/-! ### The operands of steps -/

@[simp] theorem State.putStore_checks (s : State) (site tl base : Nat) (l : List Cell32) : (s.putStore site tl base l).checks = s.checks := by
  simp [State.putStore]

/-! ### Issue, traps, blocks and tags -/

@[simp] theorem State.storeEcc_checks (s : State) (site tl : Nat) (read : Nat → Bool) (e : Ecc) :
    (s.storeEcc site tl read e).checks = s.checks := by
  simp [State.storeEcc]

@[simp] theorem State.countWait_checks (s : State) (site tl gap : Nat) : (s.countWait site tl gap).checks = s.checks := by simp [State.countWait]

@[simp] theorem State.trapTile_checks (s : State) (site tl code detail cls op index : Nat) :
    (s.trapTile site tl code detail cls op index).checks = s.checks := by simp [State.trapTile]

@[simp] theorem State.traceRecord_checks (s : State) (site tl index : Nat) (mark : Bool) (id : Nat) :
    (s.traceRecord site tl index mark id).checks = s.checks := by simp [State.traceRecord]

@[simp] theorem State.settle_checks (s : State) (site tl : Nat) : (s.settle site tl).checks = s.checks := by
  unfold State.settle
  dsimp only
  (repeat' split) <;> simp

@[simp] theorem State.blockIssue_checks (s : State) (site tl : Nat) (b : Block) (cause cls op index : Nat) :
    (s.blockIssue site tl b cause cls op index).checks = s.checks := by simp [State.blockIssue]

@[simp] theorem State.endTag_checks (s : State) (site tl n : Nat) (c : Code) : (s.endTag site tl n c).checks = s.checks := by simp [State.endTag]

/-! ### Mailboxes and reports -/

@[simp] theorem State.setBoxes_checks (s : State) (n : Nat) (b : Mailbox) : (s.setBoxes n b).checks = s.checks := by simp [State.setBoxes]

@[simp] theorem State.mailStore_checks (s : State) (n : Nat) (payload : BitVec 448) (skind sproc sport stile schan : Nat) :
    (s.mailStore n payload skind sproc sport stile schan).checks = s.checks := by simp [State.mailStore]

@[simp] theorem State.mailWrite_checks (s : State) (n : Nat) (payload : BitVec 448) (skind sproc sport stile schan : Nat) :
    (s.mailWrite n payload skind sproc sport stile schan).checks = s.checks := by simp [State.mailWrite]

@[simp] theorem State.mailWait_checks (s : State) (n : Nat) (payload : BitVec 448) (skind sproc sport stile schan : Nat) :
    (s.mailWait n payload skind sproc sport stile schan).1.checks = s.checks := by simp [State.mailWait]

@[simp] theorem State.pushReport_checks (s : State) (site : Nat) : (s.pushReport site).checks = s.checks := by
  unfold State.pushReport
  dsimp only
  (repeat' split) <;> simp

@[simp] theorem State.pushMoverMail_checks (s : State) (port box : Nat) : (s.pushMoverMail port box).checks = s.checks := by
  unfold State.pushMoverMail
  dsimp only
  (repeat' split) <;> simp

@[simp] theorem State.moverMail_checks (s : State) (port box : Nat) (payload : BitVec 448) (chan : Nat) :
    (s.moverMail port box payload chan).checks = s.checks := by simp [State.moverMail]

@[simp] theorem State.siteReport_checks (s : State) (site : Nat) (r : BitVec 448) : (s.siteReport site r).checks = s.checks := by
  simp [State.siteReport]

@[simp] theorem State.mailRelease_checks (s : State) (n seq : Nat) (byHolder : Bool) : (s.mailRelease n seq byHolder).checks = s.checks := by
  simp [State.mailRelease]

@[simp] theorem State.engineNotice_checks (s : State) (port iod kind chan psn : Nat) :
    (s.engineNotice port iod kind chan psn).checks = s.checks := by
  simp [State.engineNotice]

@[simp] theorem State.stopDie_checks (s : State) (site : Nat) : (s.stopDie site).checks = s.checks := by simp [State.stopDie]

/-! ### Tile stores, their banks and their test -/

@[simp] theorem State.refuseWrite_checks (s : State) (site tl addr b : Nat) : (s.refuseWrite site tl addr b).checks = s.checks := by
  simp [State.refuseWrite]

@[simp] theorem State.drainHeld_checks (s : State) (site tl : Nat) (l : List HeldWrite) : (s.drainHeld site tl l).checks = s.checks := by
  induction l generalizing s with
  | nil => rfl
  | cons w r ih =>
    unfold State.drainHeld
    dsimp only
    split
    · simp [ih]
    · split <;> simp [ih]

@[simp] theorem State.arrive_checks (s : State) (site tl addr : Nat) (data : List Cell32) : (s.arrive site tl addr data).1.checks = s.checks := by
  unfold State.arrive
  dsimp only
  (repeat' split) <;> simp

@[simp] theorem State.clearBank_checks (s : State) (site tl b : Nat) : (s.clearBank site tl b).checks = s.checks := by simp [State.clearBank]

@[simp] theorem execBankChangeDone_leavesChecks (site tile bank : Nat) (s : State) : Out.leavesChecks s (execBankChangeDone site tile bank s) := by
  unfold execBankChangeDone
  dsimp only
  (repeat' split) <;> simp

@[simp] theorem execStoreTestInterval_leavesChecks (site tile : Nat) (ecc : Ecc) (s : State) :
    Out.leavesChecks s (execStoreTestInterval site tile ecc s) := by
  unfold execStoreTestInterval
  dsimp only
  (repeat' split) <;> simp

@[simp] theorem execStoreTestDone_leavesChecks (site tile : Nat) (failed : Bool) (differ : List Nat) (corrected : Nat) (s : State) :
    Out.leavesChecks s (execStoreTestDone site tile failed differ corrected s) := by
  unfold execStoreTestDone
  dsimp only
  (repeat' split) <;> simp

@[simp] theorem execPrioBucketRefill_leavesChecks (site : Nat) (attachment : Bool) (who : Nat) (s : State) :
    Out.leavesChecks s (execPrioBucketRefill site attachment who s) := by
  unfold execPrioBucketRefill
  dsimp only
  (repeat' split) <;> simp

/-! ### The tile mesh and furrow beats -/

@[simp] theorem State.runMesh_checks (s : State) (site n : Nat) : (s.runMesh site n).checks = s.checks := by simp [State.runMesh]

@[simp] theorem State.startSend_checks (s : State) (site tl : Nat) (ecc : Ecc) : (s.startSend site tl ecc).checks = s.checks := by
  unfold State.startSend
  dsimp only
  (repeat' split) <;> simp

@[simp] theorem execFurrowSendDone_leavesChecks (site tile : Nat) (ecc : Ecc) (s : State) :
    Out.leavesChecks s (execFurrowSendDone site tile ecc s) := by
  unfold execFurrowSendDone
  dsimp only
  (repeat' split) <;> simp

@[simp] theorem State.writeBeat_checks (s : State) (site tl : Nat) (r : Recv) (b : Beat) : (State.writeBeat s site tl r b).checks = s.checks := by
  simp [State.writeBeat]

@[simp] theorem State.absorb_checks (s : State) (site tl : Nat) (l : List Beat) : (s.absorb site tl l).checks = s.checks := by
  induction l generalizing s with
  | nil => rfl
  | cons b q ih =>
    unfold State.absorb
    dsimp only
    split
    · rfl
    · split_ifs <;> simp [ih]

@[simp] theorem execFurrowReceiveDone_leavesChecks (site tile : Nat) (s : State) : Out.leavesChecks s (execFurrowReceiveDone site tile s) := by
  unfold execFurrowReceiveDone
  dsimp only
  (repeat' split) <;> simp

@[simp] theorem execFurrowDeadlineExpiry_leavesChecks (site tile : Nat) (s : State) :
    Out.leavesChecks s (execFurrowDeadlineExpiry site tile s) := by
  unfold execFurrowDeadlineExpiry
  dsimp only
  (repeat' split) <;> simp

@[simp] theorem execFurrowBeatArrival_leavesChecks (site tile src flow : Nat) (vc : Bool) (bad : List Nat) (s : State) :
    Out.leavesChecks s (execFurrowBeatArrival site tile src flow vc bad s) := by
  unfold execFurrowBeatArrival
  dsimp only
  (repeat' split) <;> simp

end Sys2Proof.Machine
end

section
/-!
What leaves the check units alone. Stacked memory, the photonic base, posts and tickets.
-/

namespace Sys2Proof.Machine

/-! ### Vaults, remote access and scrubs -/

@[simp] theorem State.dramUe_checks (s : State) (site tl vaddr : Nat) : (s.dramUe site tl vaddr).checks = s.checks := by simp [State.dramUe]
@[simp] theorem State.symbols_checks (s : State) (site vaddr ce : Nat) : (s.symbols site vaddr ce).checks = s.checks := by simp [State.symbols]

@[simp] theorem State.vaultRead_checks (s : State) (site tl vaddr n : Nat) (ue : List Nat) (ce : Nat) :
    (s.vaultRead site tl vaddr n ue ce).checks = s.checks := by simp [State.vaultRead]

@[simp] theorem State.vaultWrite_checks (s : State) (site tl vaddr : Nat) (l : List Cell32) : (s.vaultWrite site tl vaddr l).checks = s.checks := by
  simp [State.vaultWrite]

@[simp] theorem State.showTrim_checks (s : State) (site l : Nat) : (s.showTrim site l).checks = s.checks := by simp [State.showTrim]
@[simp] theorem State.setScales_checks (s : State) (site : Nat) : (s.setScales site).checks = s.checks := by simp [State.setScales]
@[simp] theorem State.accrueSite_checks (s : State) (site : Nat) : (s.accrueSite site).checks = s.checks := by simp [State.accrueSite]

@[simp] theorem execRemoteQueueEnqueue_leavesChecks (site tile : Nat) (write : Bool) (s : State) :
    Out.leavesChecks s (execRemoteQueueEnqueue site tile write s) := by
  unfold execRemoteQueueEnqueue
  dsimp only
  (repeat' split) <;> simp

@[simp] theorem State.remoteDone_checks (s : State) (site tl : Nat) (r : RemoteReq) (c : Code) (l : List Cell32) :
    (s.remoteDone site tl r c l).checks = s.checks := by simp [State.remoteDone]

@[simp] theorem execRemoteAccessServe_leavesChecks (site tile : Nat) (ue : List Nat) (ce : Nat) (s : State) :
    Out.leavesChecks s (execRemoteAccessServe site tile ue ce s) := by
  unfold execRemoteAccessServe
  dsimp only
  (repeat' split) <;> simp

@[simp] theorem execPoisonPatternWrite_leavesChecks (site tile : Nat) (s : State) : Out.leavesChecks s (execPoisonPatternWrite site tile s) := by
  unfold execPoisonPatternWrite
  dsimp only
  (repeat' split) <;> simp

@[simp] theorem State.setSensor_checks (s : State) (r k : Nat) (v : Sensor) : (s.setSensor r k v).checks = s.checks := by simp [State.setSensor]
@[simp] theorem State.breakSensor_checks (s : State) (r k cause : Nat) : (s.breakSensor r k cause).checks = s.checks := by simp [State.breakSensor]

@[simp] theorem State.layerImplausible_checks (s : State) (site l sensor : Nat) (readings : List Nat) :
    (s.layerImplausible site l sensor readings).checks = s.checks := by simp [State.layerImplausible]

@[simp] theorem State.ceWindow_checks (s : State) (site l : Nat) : (s.ceWindow site l).checks = s.checks := by simp [State.ceWindow]
@[simp] theorem State.bandColumns_checks (s : State) (site : Nat) : (s.bandColumns site).checks = s.checks := by simp [State.bandColumns]
@[simp] theorem State.refuseLocal_checks (s : State) (site : Nat) : (s.refuseLocal site).checks = s.checks := by simp [State.refuseLocal]

/-! ### Bids, grants, slots and field caches -/

@[simp] theorem State.breach_checks (s : State) (port bit : Nat) : (s.breach port bit).checks = s.checks := by simp [State.breach]

@[simp] theorem State.postEnds_checks (s : State) (n : Nat) (arrived : Bool) : (s.postEnds n arrived).checks = s.checks := by
  unfold State.postEnds
  split <;> simp

@[simp] theorem State.sendPost_checks (s : State) (p : Post) : (s.sendPost p).checks = s.checks := by simp [State.sendPost]

@[simp] theorem State.moverAnswer_checks (s : State) (port chan tag sidx : Nat) (k : Code) :
    (s.moverAnswer port chan tag sidx k).checks = s.checks := by
  simp [State.moverAnswer]

@[simp] theorem State.answerRead_checks (s : State) (port rid : Nat) (k : Code) (l : List Cell32) :
    (s.answerRead port rid k l).checks = s.checks := by
  simp [State.answerRead]

@[simp] theorem State.bidCode_checks (s : State) (port : Nat) (who : Sender) (tag sidx : Nat) (codes : List Code) :
    (s.bidCode port who tag sidx codes).checks = s.checks := by
  unfold State.bidCode
  dsimp only
  (repeat' split) <;> simp

@[simp] theorem State.unstageAll_checks (s : State) (port plane : Nat) (f : Slot → Bool) : (s.unstageAll port plane f).checks = s.checks := by
  simp [State.unstageAll]

@[simp] theorem State.unstage_checks (s : State) (port plane : Nat) (x : Slot) :
    (s.unstage port plane x).checks = s.checks := by simp [State.unstage]

@[simp] theorem State.settleSlot_checks (s : State) (plane : Nat) (x : Slot) (c : Code) : (s.settleSlot plane x c).checks = s.checks := by
  simp [State.settleSlot]

@[simp] theorem State.failBid_checks (s : State) (plane src : Nat) (b : Bid) (c : Code) : (s.failBid plane src b c).checks = s.checks := by
  simp [State.failBid]

@[simp] theorem execBidWordSend_leavesChecks (port plane : Nat) (s : State) : Out.leavesChecks s (execBidWordSend port plane s) := by
  unfold execBidWordSend
  dsimp only
  (repeat' split) <;> simp

@[simp] theorem State.checkBid_checks (s : State) (plane : Nat) (x : TableBid) : (s.checkBid plane x).checks = s.checks := by simp [State.checkBid]
@[simp] theorem State.withhold_checks (s : State) (plane port a b : Nat) : (s.withhold plane port a b).checks = s.checks := by simp [State.withhold]
@[simp] theorem State.takeBids_checks (s : State) (plane : Nat) : (s.takeBids plane).checks = s.checks := by simp [State.takeBids]

@[simp] theorem execGrantArrival_leavesChecks (port plane : Nat) (s : State) : Out.leavesChecks s (execGrantArrival port plane s) := by
  unfold execGrantArrival
  dsimp only
  (repeat' split) <;> simp

@[simp] theorem State.mergeRefuse_checks (s : State) (port plane ticket : Nat) (c : Code) :
    (s.mergeRefuse port plane ticket c).checks = s.checks := by
  simp [State.mergeRefuse]

@[simp] theorem State.deliver_checks (s : State) (plane : Nat) (x : Slot) (c : Code) : (s.deliver plane x c).checks = s.checks := by
  unfold State.deliver
  dsimp only
  (repeat' split) <;> simp

@[simp] theorem State.countLoss_checks (s : State) (port plane cause : Nat) : (s.countLoss port plane cause).checks = s.checks := by
  unfold State.countLoss
  dsimp only
  (repeat' split) <;> simp

@[simp] theorem execSlotVerdict_leavesChecks (port plane : Nat) (found : SlotFault) (s : State) :
    Out.leavesChecks s (execSlotVerdict port plane found s) := by
  unfold execSlotVerdict
  dsimp only
  (repeat' split) <;> simp

@[simp] theorem execSlotRetry_leavesChecks (port plane : Nat) (s : State) : Out.leavesChecks s (execSlotRetry port plane s) := by
  unfold execSlotRetry
  dsimp only
  (repeat' split) <;> simp

@[simp] theorem execReceiveBufferDrain_leavesChecks (port plane : Nat) (s : State) : Out.leavesChecks s (execReceiveBufferDrain port plane s) := by
  unfold execReceiveBufferDrain
  dsimp only
  (repeat' split) <;> simp

@[simp] theorem execRacReadRequest_leavesChecks (port plane : Nat) (s : State) : Out.leavesChecks s (execRacReadRequest port plane s) := by
  unfold execRacReadRequest
  dsimp only
  (repeat' split) <;> simp

@[simp] theorem State.cacheUe_checks (s : State) (field unit : Nat) : (s.cacheUe field unit).checks = s.checks := by simp [State.cacheUe]

@[simp] theorem State.cacheRead_checks (s : State) (field addr n : Nat) (ue : List Nat) (ce : Nat) :
    (s.cacheRead field addr n ue ce).checks = s.checks := by
  simp [State.cacheRead]

@[simp] theorem execRacReadReply_leavesChecks (port : Nat) (ueUnits : List Nat) (ce : Nat) (s : State) :
    Out.leavesChecks s (execRacReadReply port ueUnits ce s) := by
  unfold execRacReadReply
  dsimp only
  (repeat' split) <;> simp

@[simp] theorem State.orderly_checks (s : State) (port : Nat) : (s.orderly port).checks = s.checks := by simp [State.orderly]

@[simp] theorem State.abruptPlane_checks (s : State) (port plane : Nat) (supply : Bool) : (s.abruptPlane port plane supply).checks = s.checks := by
  simp [State.abruptPlane]

@[simp] theorem State.abrupt_checks (s : State) (port : Nat) (supply : Bool) : (s.abrupt port supply).checks = s.checks := by simp [State.abrupt]

@[simp] theorem State.retirePlane_checks (s : State) (plane cause : Nat) : (s.retirePlane plane cause).checks = s.checks := by
  simp [State.retirePlane]

@[simp] theorem State.recoveryFrame_checks (s : State) (lampDie plane tree : Nat) : (s.recoveryFrame lampDie plane tree).checks = s.checks := by
  simp [State.recoveryFrame]

@[simp] theorem State.joinBase_checks (s : State) (port : Nat) : (s.joinBase port).checks = s.checks := by simp [State.joinBase]
@[simp] theorem State.restorePort_checks (s : State) (port : Nat) : (s.restorePort port).checks = s.checks := by simp [State.restorePort]

/-! ### Mailbox commands and check units -/

@[simp] theorem execMboxWaitExpiry_leavesChecks (box : Nat) (s : State) : Out.leavesChecks s (execMboxWaitExpiry box s) := by
  unfold execMboxWaitExpiry
  dsimp only
  (repeat' split) <;> simp

/-! ### Tally counters and posts -/

@[simp] theorem State.addSite_checks (s : State) (site ctr n : Nat) : (s.addSite site ctr n).checks = s.checks := by simp [State.addSite]
@[simp] theorem State.addIod_checks (s : State) (i ctr n : Nat) : (s.addIod i ctr n).checks = s.checks := by simp [State.addIod]

@[simp] theorem State.directPost_checks (s : State) (port ctr n : Nat) : (s.directPost port ctr n).checks = s.checks := by
  unfold State.directPost
  split <;> simp

@[simp] theorem State.clearBanks_checks (s : State) (replica slot wave : Nat) : (s.clearBanks replica slot wave).checks = s.checks := by
  simp [State.clearBanks]

@[simp] theorem tallyWaitEffect_checks (site tl : Nat) (w : StepWord) (index : Nat) (s : State) :
    (tallyWaitEffect site tl w index s).checks = s.checks := by
  simp [tallyWaitEffect]

@[simp] theorem execTallyWaitSatisfied_leavesChecks (site tile : Nat) (s : State) : Out.leavesChecks s (execTallyWaitSatisfied site tile s) := by
  unfold execTallyWaitSatisfied
  dsimp only
  (repeat' split) <;> simp

@[simp] theorem execTallyWaitTimeout_leavesChecks (site tile : Nat) (s : State) : Out.leavesChecks s (execTallyWaitTimeout site tile s) := by
  unfold execTallyWaitTimeout
  dsimp only
  (repeat' split) <;> simp

@[simp] theorem State.arrivePost_checks (s : State) (p : Post) : (s.arrivePost p).checks = s.checks := by
  unfold State.arrivePost
  split_ifs
  · simp
  · simp
  · simp
  · split <;> simp

@[simp] theorem execTallyPostArrival_leavesChecks (port ctr inc wave16 replica slot : Nat) (step : Bool) (s : State) :
    Out.leavesChecks s (execTallyPostArrival port ctr inc wave16 replica slot step s) := by
  unfold execTallyPostArrival
  split <;> simp

/-! ### Reads and writes by address -/

@[simp] theorem State.passWrites_checks (s : State) (p t u n : Nat) : (s.passWrites p t u n).checks = s.checks := by simp [State.passWrites]

@[simp] theorem State.writePlace_checks (s : State) (x : Place) (l : List Cell32) : (s.writePlace x l).1.checks = s.checks := by
  unfold State.writePlace
  dsimp only
  (repeat' split) <;> simp

@[simp] theorem State.readPlace_checks (s : State) (x : Place) (n : Nat) (ue : List Nat) (ce : Nat) :
    (s.readPlace x n ue ce).1.checks = s.checks := by
  unfold State.readPlace
  dsimp only
  (repeat' split) <;> simp

/-! ### Lamps, rings and calibration -/

@[simp] theorem State.showBundle_checks (s : State) (p plane : Nat) : (s.showBundle p plane).checks = s.checks := by simp [State.showBundle]
@[simp] theorem State.showLamp_checks (s : State) (die : Nat) : (s.showLamp die).checks = s.checks := by simp [State.showLamp]
@[simp] theorem State.enterLane_checks (s : State) (n st : Nat) : (s.enterLane n st).checks = s.checks := by simp [State.enterLane]

@[simp] theorem State.showTreeLanes_checks (s : State) (iod e : Nat) (lit : Bool) : (s.showTreeLanes iod e lit).checks = s.checks := by
  simp [State.showTreeLanes]

@[simp] theorem State.setLight_checks (s : State) (set w : Nat) (v : LightSrc) : (s.setLight set w v).checks = s.checks := by
  unfold State.setLight
  dsimp only
  (repeat' split) <;> simp

@[simp] theorem State.startLanes_checks (s : State) (i : Nat) : (s.startLanes i).checks = s.checks := by simp [State.startLanes]
@[simp] theorem State.powerIod_checks (s : State) (i : Nat) : (s.powerIod i).checks = s.checks := by simp [State.powerIod]

@[simp] theorem State.rampPower_checks (s : State) (n : Nat) (base target : ℤ) (back : Bool) :
    (s.rampPower n base target back).checks = s.checks := by
  simp [State.rampPower]

@[simp] theorem State.beginSplit_checks (s : State) (set w : Nat) (atOnce : Bool) : (s.beginSplit set w atOnce).checks = s.checks := by
  simp [State.beginSplit]

@[simp] theorem State.endSplit_checks (s : State) (set w : Nat) : (s.endSplit set w).checks = s.checks := by simp [State.endSplit]

@[simp] theorem State.wantCarry_checks (s : State) (set w : Nat) (now : Bool) :
    (s.wantCarry set w now).checks = s.checks := by simp [State.wantCarry]

@[simp] theorem State.carrySettled_checks (s : State) (set w : Nat) : (s.carrySettled set w).checks = s.checks := by simp [State.carrySettled]
@[simp] theorem State.armReserve_checks (s : State) (set w : Nat) : (s.armReserve set w).checks = s.checks := by simp [State.armReserve]

@[simp] theorem execLaserPowerLoop_leavesChecks (laser : Nat) (pd : ℤ) (s : State) : Out.leavesChecks s (execLaserPowerLoop laser pd s) := by
  unfold execLaserPowerLoop
  dsimp only
  (repeat' split) <;> simp

@[simp] theorem State.restCal_checks (s : State) (set : Nat) : (s.restCal set).checks = s.checks := by simp [State.restCal]

@[simp] theorem State.fillLanes_checks (s : State) (set : Nat) : (s.fillLanes set).checks = s.checks := by
  unfold State.fillLanes
  dsimp only
  (repeat' split) <;> simp

@[simp] theorem execReserveSwitch_leavesChecks (laser : Nat) (matchGhz matchDb : ℤ) (s : State) :
    Out.leavesChecks s (execReserveSwitch laser matchGhz matchDb s) := by
  unfold execReserveSwitch
  dsimp only
  (repeat' split) <;> simp

@[simp] theorem State.goDark_checks (s : State) (set w : Nat) : (s.goDark set w).checks = s.checks := by simp [State.goDark]

@[simp] theorem execFastFade_leavesChecks (laser drop : Nat) (s : State) : Out.leavesChecks s (execFastFade laser drop s) := by
  unfold execFastFade
  dsimp only
  (repeat' split) <;> simp

@[simp] theorem State.loseLamp_checks (s : State) (die cause : Nat) : (s.loseLamp die cause).checks = s.checks := by simp [State.loseLamp]

@[simp] theorem execRingTrack_leavesChecks (ring : Nat) (offset : ℤ) (s : State) : Out.leavesChecks s (execRingTrack ring offset s) := by
  unfold execRingTrack
  dsimp only
  (repeat' split) <;> simp

@[simp] theorem execCalibration_leavesChecks (quantity place : Nat) (first second : CalMeas) (s : State) :
    Out.leavesChecks s (execCalibration quantity place first second s) := by
  unfold execCalibration
  dsimp only
  (repeat' split) <;> simp

/-! ### PTP -/

@[simp] theorem State.ptpEnter_checks (s : State) (v : Nat) : (s.ptpEnter v).checks = s.checks := by simp [State.ptpEnter]
@[simp] theorem State.masterLost_checks (s : State) : s.masterLost.checks = s.checks := by simp [State.masterLost]

@[simp] theorem State.ptpPorts_checks (s : State) : s.ptpPorts.checks = s.checks := by
  unfold State.ptpPorts
  dsimp only
  (repeat' split) <;> simp

/-! ### Torus links -/

@[simp] theorem State.linkBreach_checks (s : State) (n bit : Nat) : (s.linkBreach n bit).checks = s.checks := by simp [State.linkBreach]
@[simp] theorem State.enterLink_checks (s : State) (n st : Nat) : (s.enterLink n st).checks = s.checks := by simp [State.enterLink]
@[simp] theorem State.dropLink_checks (s : State) (n : Nat) : (s.dropLink n).checks = s.checks := by simp [State.dropLink]
@[simp] theorem State.restripe_checks (s : State) (n : Nat) : (s.restripe n).checks = s.checks := by simp [State.restripe]
@[simp] theorem State.restriped_checks (s : State) (n : Nat) : (s.restriped n).checks = s.checks := by simp [State.restriped]
@[simp] theorem State.sendLaneReport_checks (s : State) (n : Nat) : (s.sendLaneReport n).checks = s.checks := by simp [State.sendLaneReport]

@[simp] theorem execStripeSwitch_leavesChecks (link : Nat) (transmit : Bool) (s : State) :
    Out.leavesChecks s (execStripeSwitch link transmit s) := by
  unfold execStripeSwitch
  dsimp only
  (repeat' split) <;> simp

@[simp] theorem execLinkUp_leavesChecks (link : Nat) (s : State) : Out.leavesChecks s (execLinkUp link s) := by
  unfold execLinkUp
  dsimp only
  (repeat' split) <;> simp

/-! ### Merge stations and tickets -/

@[simp] theorem State.mergeDone_checks (s : State) (port tl tag ticket : Nat) (c : Code) :
    (s.mergeDone port tl tag ticket c).checks = s.checks := by
  simp [State.mergeDone]

@[simp] theorem execMergeOpenAccept_leavesChecks (port : Nat) (s : State) : Out.leavesChecks s (execMergeOpenAccept port s) := by
  unfold execMergeOpenAccept
  dsimp only
  (repeat' split) <;> simp

@[simp] theorem State.transitDone_checks (s : State) (i : Nat) (t : Ticket) (code : Code → Code) : (s.transitDone i t code).checks = s.checks := by
  simp [State.transitDone]

@[simp] theorem State.transitAdd_checks (s : State) (i : Nat) (t : Ticket) (units : List Cell32) (k : Code) :
    (s.transitAdd i t units k).checks = s.checks := by simp [State.transitAdd]

@[simp] theorem execMergeContribution_leavesChecks (port plane : Nat) (s : State) : Out.leavesChecks s (execMergeContribution port plane s) := by
  unfold execMergeContribution
  dsimp only
  (repeat' split) <;> simp

@[simp] theorem State.writeResult_checks (s : State) (port : Nat) (t : Ticket) (code : Code → Code) :
    (s.writeResult port t code).checks = s.checks := by simp [State.writeResult]

@[simp] theorem execMergeResultWrite_leavesChecks (port ticket : Nat) (s : State) : Out.leavesChecks s (execMergeResultWrite port ticket s) := by
  unfold execMergeResultWrite
  split <;> simp

@[simp] theorem execMergeDeadline_leavesChecks (port ticket : Nat) (s : State) : Out.leavesChecks s (execMergeDeadline port ticket s) := by
  unfold execMergeDeadline
  split
  · rfl
  · split
    · split <;> simp
    · rfl

@[simp] theorem State.dropContribs_checks (s : State) (port ticket : Nat) : (s.dropContribs port ticket).checks = s.checks := by
  simp [State.dropContribs]

@[simp] theorem State.closeTicket_checks (s : State) (port ticket : Nat) : (s.closeTicket port ticket).checks = s.checks := by
  unfold State.closeTicket
  dsimp only
  (repeat' split) <;> simp

end Sys2Proof.Machine
end

section
/-!
What leaves the check units alone. The torus, clocks, waves, the sieve, streams and movers.
-/

namespace Sys2Proof.Machine

/-! ### Transit switches -/

@[simp] theorem State.pushOut_checks (s : State) (i o : Nat) (p : Packet) : (s.pushOut i o p).checks = s.checks := by simp [State.pushOut]
@[simp] theorem State.dropOut_checks (s : State) (i o : Nat) : (s.dropOut i o).checks = s.checks := by simp [State.dropOut]
@[simp] theorem State.joinLow_checks (s : State) (i o : Nat) (p : Packet) : (s.joinLow i o p).checks = s.checks := by simp [State.joinLow]
@[simp] theorem State.join_checks (s : State) (i o : Nat) (p : Packet) : (s.join i o p).checks = s.checks := by simp [State.join]

@[simp] theorem State.placeBusy_checks (s : State) (i d : Nat) (p : Packet) : (s.placeBusy i d p).checks = s.checks := by
  unfold State.placeBusy
  dsimp only
  (repeat' split) <;> simp

@[simp] theorem State.routeTorus_checks (s : State) (i : Nat) (p : Packet) : (s.routeTorus i p).checks = s.checks := by
  unfold State.routeTorus
  dsimp only
  (repeat' split) <;> simp

@[simp] theorem State.toEngine_checks (s : State) (i : Nat) (p : Packet) : (s.toEngine i p).checks = s.checks := by simp [State.toEngine]

@[simp] theorem State.drainQ_checks (s : State) (i o n : Nat) : (s.drainQ i o n).checks = s.checks := by
  induction n generalizing s with
  | zero => rfl
  | succ n ih =>
    unfold State.drainQ
    dsimp only
    split
    · simp
    · split
      · rfl
      · rw [ih]
        simp

@[simp] theorem State.drainOut_checks (s : State) (i o ns : Nat) : (s.drainOut i o ns).checks = s.checks := by simp [State.drainOut]
@[simp] theorem State.drainFabric_checks (s : State) (ns : Nat) : (s.drainFabric ns).checks = s.checks := by simp [State.drainFabric]
@[simp] theorem State.discard_checks (s : State) (i : Nat) : (s.discard i).checks = s.checks := by simp [State.discard]

/-! ### Channels -/

@[simp] theorem State.setChan_checks (s : State) (i n : Nat) (c : Chan) : (s.setChan i n c).checks = s.checks := by simp [State.setChan]

@[simp] theorem State.copyEnded_checks (s : State) (i n : Nat) (p : Packet) (k : Code) : (s.copyEnded i n p k).checks = s.checks := by
  unfold State.copyEnded
  dsimp only
  (repeat' split) <;> simp

@[simp] theorem State.entryEnd_checks (s : State) (i n : Nat) (p : Packet) (c : Code) : (s.entryEnd i n p c).checks = s.checks := by
  simp [State.entryEnd]

@[simp] theorem State.closeIfDone_checks (s : State) (i n : Nat) : (s.closeIfDone i n).checks = s.checks := by
  unfold State.closeIfDone
  dsimp only
  (repeat' split) <;> simp

@[simp] theorem execIncreasePeriod_leavesChecks (iod chan : Nat) (s : State) : Out.leavesChecks s (execIncreasePeriod iod chan s) := by
  unfold execIncreasePeriod
  dsimp only
  (repeat' split) <;> simp

@[simp] theorem State.transmit_checks (s : State) (i n : Nat) (c : Chan) (p : Packet) : (s.transmit i n c p).checks = s.checks := by
  simp [State.transmit]

@[simp] theorem State.slice_checks (s : State) (i n k : Nat) : (s.slice i n k).checks = s.checks := by
  induction k generalizing s with
  | zero => rfl
  | succ k ih =>
    unfold State.slice
    split
    · rfl
    · split
      · rfl
      · dsimp only
        split_ifs <;> simp [ih]

@[simp] theorem State.dropLine_checks (s : State) (field g : Nat) : (s.dropLine field g).checks = s.checks := by simp [State.dropLine]

@[simp] theorem State.postEntry_checks (s : State) (i n field : Nat) (p : Packet) : (s.postEntry i n field p).checks = s.checks := by
  unfold State.postEntry
  dsimp only
  (repeat' split) <;> simp

@[simp] theorem State.serveChan_checks (s : State) (i : Nat) : (s.serveChan i).checks = s.checks := by
  unfold State.serveChan
  dsimp only
  (repeat' split) <;> simp

@[simp] theorem State.postRelayed_checks (s : State) (i : Nat) : (s.postRelayed i).checks = s.checks := by simp [State.postRelayed]

@[simp] theorem State.sendAck_checks (s : State) (i n : Nat) : (s.sendAck i n).checks = s.checks := by
  unfold State.sendAck
  split
  · rfl
  · split <;> rw [State.transmit_checks, State.setChan_checks]

@[simp] theorem execAckSend_leavesChecks (iod chan : Nat) (s : State) : Out.leavesChecks s (execAckSend iod chan s) := by
  unfold execAckSend
  split <;> simp

@[simp] theorem State.acked_checks (s : State) (i n : Nat) (o : OutPkt) (k : Code) : (s.acked i n o k).checks = s.checks := by
  unfold State.acked
  dsimp only
  (repeat' split) <;> simp

@[simp] theorem State.takeAck_checks (s : State) (i n : Nat) (c : Chan) (p : Packet) : (s.takeAck i n c p).checks = s.checks := by
  simp [State.takeAck]

@[simp] theorem State.rejectCookie_checks (s : State) (i ch : Nat) : (s.rejectCookie i ch).checks = s.checks := by simp [State.rejectCookie]

@[simp] theorem State.judgeLate_checks (s : State) (i ch : Nat) (p : Packet) : (s.judgeLate i ch p).checks = s.checks := by
  unfold State.judgeLate
  dsimp only
  (repeat' split) <;> simp

@[simp] theorem execAckPacket_leavesChecks (iod : Nat) (p : Packet) (s : State) : Out.leavesChecks s (execAckPacket iod p s) := by
  unfold execAckPacket
  split
  · simp
  · split <;> simp

@[simp] theorem State.failChan_checks (s : State) (i n psn : Nat) : (s.failChan i n psn).checks = s.checks := by
  unfold State.failChan
  dsimp only
  (repeat' split) <;> simp

@[simp] theorem execRtoExpiry_leavesChecks (iod chan : Nat) (s : State) : Out.leavesChecks s (execRtoExpiry iod chan s) := by
  unfold execRtoExpiry
  dsimp only
  (repeat' split) <;> simp

@[simp] theorem execHoldTimeout_leavesChecks (iod chan : Nat) (s : State) : Out.leavesChecks s (execHoldTimeout iod chan s) := by
  unfold execHoldTimeout
  split
  · simp
  · split <;> simp

@[simp] theorem State.unholdDie_checks (s : State) (i : Nat) : (s.unholdDie i).checks = s.checks := by simp [State.unholdDie]

@[simp] theorem execOpenPacket_leavesChecks (iod : Nat) (peer : Option PeerOpen) (addr : Nat) (payload : BitVec 256) (s : State) :
    Out.leavesChecks s (execOpenPacket iod peer addr payload s) := by
  unfold execOpenPacket
  dsimp only
  (repeat' split) <;> simp

@[simp] theorem State.writeBack_checks (s : State) (i n : Nat) : (s.writeBack i n).checks = s.checks := by
  unfold State.writeBack
  dsimp only
  (repeat' split) <;> simp

@[simp] theorem execChannelCacheFill_leavesChecks (iod chan : Nat) (s : State) : Out.leavesChecks s (execChannelCacheFill iod chan s) := by
  unfold execChannelCacheFill
  dsimp only
  (repeat' split) <;> simp

/-! ### Control steps and the ends of waves -/

@[simp] theorem State.startRun_checks (s : State) (site tl : Nat) (r : Run) : (s.startRun site tl r).checks = s.checks := by simp [State.startRun]
@[simp] theorem State.dropBids_checks (s : State) (site tl : Nat) : (s.dropBids site tl).checks = s.checks := by simp [State.dropBids]
@[simp] theorem State.clearTile_checks (s : State) (site tl : Nat) : (s.clearTile site tl).checks = s.checks := by simp [State.clearTile]

@[simp] theorem State.leaveRun_checks (s : State) (site tl : Nat) : (s.leaveRun site tl).checks = s.checks := by
  unfold State.leaveRun
  dsimp only
  (repeat' split) <;> simp

@[simp] theorem waitEffect_checks (site tl mask index : Nat) (s : State) :
    (waitEffect site tl mask index s).checks = s.checks := by simp [waitEffect]

@[simp] theorem execWatchdogExpiry_leavesChecks (site tile : Nat) (s : State) : Out.leavesChecks s (execWatchdogExpiry site tile s) := by
  unfold execWatchdogExpiry
  dsimp only
  (repeat' split) <;> simp

@[simp] theorem execTrapRecordSend_leavesChecks (site tile : Nat) (s : State) : Out.leavesChecks s (execTrapRecordSend site tile s) := by
  unfold execTrapRecordSend
  dsimp only
  (repeat' split) <;> simp

/-! ### Clocks -/

@[simp] theorem State.tickSite_checks (s : State) (p : Nat) : (s.tickSite p).checks = s.checks := by simp [State.tickSite]
@[simp] theorem State.pmaFrame_checks (s : State) : s.pmaFrame.checks = s.checks := by simp [State.pmaFrame]
@[simp] theorem State.showRail_checks (s : State) (p r mv : Nat) : (s.showRail p r mv).checks = s.checks := by simp [State.showRail]
@[simp] theorem State.withholdAll_checks (s : State) (port a b : Nat) : (s.withholdAll port a b).checks = s.checks := by simp [State.withholdAll]
@[simp] theorem State.nameFrame_checks (s : State) (p : Nat) (f : FreqChange) : (s.nameFrame p f).checks = s.checks := by simp [State.nameFrame]
@[simp] theorem State.beginFreq_checks (s : State) (p mhz : Nat) : (s.beginFreq p mhz).checks = s.checks := by simp [State.beginFreq]

@[simp] theorem State.requestFreq_checks (s : State) (p mhz : Nat) : (s.requestFreq p mhz).checks = s.checks := by
  unfold State.requestFreq
  dsimp only
  (repeat' split) <;> simp

@[simp] theorem execVcoreRampDone_leavesChecks (site : Nat) (s : State) : Out.leavesChecks s (execVcoreRampDone site s) := by
  unfold execVcoreRampDone
  dsimp only
  (repeat' split) <;> simp

@[simp] theorem execFreqChangeGate_leavesChecks (site : Nat) (s : State) : Out.leavesChecks s (execFreqChangeGate site s) := by
  unfold execFreqChangeGate
  dsimp only
  (repeat' split) <;> simp

@[simp] theorem execFreqChangeRestart_leavesChecks (site : Nat) (locked : Bool) (s : State) :
    Out.leavesChecks s (execFreqChangeRestart site locked s) := by
  unfold execFreqChangeRestart
  dsimp only
  (repeat' split) <;> simp

@[simp] theorem execFreqChangeResume_leavesChecks (site : Nat) (s : State) : Out.leavesChecks s (execFreqChangeResume site s) := by
  unfold execFreqChangeResume
  dsimp only
  (repeat' split) <;> simp

@[simp] theorem execReplicaSlow_leavesChecks (site : Nat) (s : State) : Out.leavesChecks s (execReplicaSlow site s) := by
  unfold execReplicaSlow
  dsimp only
  (repeat' split) <;> simp

@[simp] theorem State.announced_checks (s : State) (port v : Nat) : (s.announced port v).checks = s.checks := by simp [State.announced]
@[simp] theorem State.ptpSync_checks (s : State) (offset : ℤ) : (s.ptpSync offset).checks = s.checks := by simp [State.ptpSync]
@[simp] theorem State.ptpSet_checks (s : State) (offset : ℤ) : (s.ptpSet offset).checks = s.checks := by simp [State.ptpSet]

/-! ### The sieve and the completion of tags -/

@[simp] theorem State.runSieve_checks (s : State) (site tl : Nat) (w : StepWord) (q list index pass : Nat) (ue : List Nat) (ce : Nat) (ecc : Ecc) :
    (s.runSieve site tl w q list index pass ue ce ecc).1.checks = s.checks := by
  unfold State.runSieve
  dsimp only
  (repeat' split) <;> simp

@[simp] theorem State.bufferLoad_checks (s : State) (site tl tag v n : Nat) (ue : List Nat) (ce : Nat) :
    (s.bufferLoad site tl tag v n ue ce).checks = s.checks := by simp [State.bufferLoad]

@[simp] theorem State.endLoad_checks (s : State) (site tl tag u v n : Nat) (ue : List Nat) (ce : Nat) :
    (s.endLoad site tl tag u v n ue ce).1.checks = s.checks := by simp [State.endLoad]

theorem State.finishTag_checks {s : State} {site tl tag : Nat} {a : AsyncOp} {ue : List Nat} {ce : Nat} {ecc : Ecc} {p : State × Code}
    (hp : s.finishTag site tl tag a ue ce ecc = some p) :
    p.1.checks = s.checks := by
  unfold State.finishTag at hp
  cases a with
  | load u v n first denied =>
    dsimp only at hp
    split_ifs at hp <;> cases hp <;> simp
  | store u v n first denied =>
    dsimp only at hp
    split_ifs at hp <;> cases hp <;> simp
  | bid p d c n st codes =>
    dsimp only at hp
    split_ifs at hp
    cases hp
    rfl
  | merge ticket fin =>
    obtain ⟨c, -, rfl⟩ := Option.map_eq_some_iff.mp hp
    rfl
  | sieve w q list index pass =>
    dsimp only at hp
    split_ifs at hp <;> cases hp <;> simp

@[simp] theorem State.fillBuffer_checks (s : State) (site tl tag : Nat) (a : AsyncOp) (ue : List Nat) (ce : Nat) :
    (s.fillBuffer site tl tag a ue ce).checks = s.checks := by
  unfold State.fillBuffer
  split <;> simp

@[simp] theorem State.faultStream_checks (s : State) (id : Nat) (c : Code) : (s.faultStream id c).checks = s.checks := by
  unfold State.faultStream
  split <;> simp

@[simp] theorem execTagComplete_leavesChecks (site tile tag : Nat) (ueUnits : List Nat) (ce : Nat) (ecc : Ecc) (head : Option Nat) (s : State) :
    Out.leavesChecks s (execTagComplete site tile tag ueUnits ce ecc head s) := by
  unfold execTagComplete
  dsimp only
  split
  · rfl
  · split
    · simp
    · next hp =>
      have hdone := State.finishTag_checks hp
      split <;> simpa using hdone

/-! ### Streams, waves and plan images -/

@[simp] theorem State.showStreams_checks (s : State) : s.showStreams.checks = s.checks := by simp [State.showStreams]

@[simp] theorem State.status_checks (s : State) (stream type : Nat) (c : Code) :
    (s.status stream type c).checks = s.checks := by simp [State.status]

@[simp] theorem State.keep_checks (s : State) (c : Instr) : (s.keep c).checks = s.checks := by simp [State.keep]

@[simp] theorem State.reserveMirror_checks (s : State) (panel stream reserve : Nat) : (s.reserveMirror panel stream reserve).checks = s.checks := by
  simp [State.reserveMirror]

@[simp] theorem State.freeMirror_checks (s : State) (stream : Nat) : (s.freeMirror stream).checks = s.checks := by simp [State.freeMirror]

@[simp] theorem execAdmitStream_leavesChecks (stream promptLen k sb reserve : Nat) (latency : Bool) (sampling : Nat) (table : List Nat)
    (mirrorOk : Bool) (s : State) :
    Out.leavesChecks s (execAdmitStream stream promptLen k sb reserve latency sampling table mirrorOk s) := by
  unfold execAdmitStream
  dsimp only
  (repeat' split) <;> simp

@[simp] theorem State.showDeclared_checks (s : State) : s.showDeclared.checks = s.checks := by simp [State.showDeclared]

@[simp] theorem State.dropAdopted_checks (s : State) (panel : Option Nat) : (s.dropAdopted panel).checks = s.checks := by
  unfold State.dropAdopted
  dsimp only
  (repeat' split) <;> simp

@[simp] theorem State.dropStream_checks (s : State) (x : Stream) : (s.dropStream x).checks = s.checks := by simp [State.dropStream]
@[simp] theorem State.tellFree_checks (s : State) (x : Stream) : (s.tellFree x).checks = s.checks := by simp [State.tellFree]

@[simp] theorem State.endStream_checks (s : State) (x : Stream) (reason : Nat) (c : Code) : (s.endStream x reason c).checks = s.checks := by
  simp [State.endStream]

@[simp] theorem State.applyCancels_checks (s : State) (replica : Nat) : (s.applyCancels replica).checks = s.checks := by simp [State.applyCancels]

@[simp] theorem State.fencedStatus_checks (s : State) (stream type : Nat) : (s.fencedStatus stream type).checks = s.checks := by
  simp [State.fencedStatus]

@[simp] theorem State.onStretches_checks (s : State) (stream : Nat) (f : State → Stream → State) (hf : ∀ u x, SameChecks u (f u x)) :
    (s.onStretches stream f).checks = s.checks := by
  refine foldl_checks (fun u k => ?_) _ _
  split
  · exact hf _ _
  · rfl

@[simp] theorem State.tellMirror_checks (s : State) (x : Stream) : (s.tellMirror x).checks = s.checks := by simp [State.tellMirror]

@[simp] theorem State.cancelStream_checks (s : State) (complete : Bool) (x : Stream) : (s.cancelStream complete x).checks = s.checks := by
  simp [State.cancelStream]

@[simp] theorem execCancel_leavesChecks (stream : Nat) (complete : Bool) (s : State) : Out.leavesChecks s (execCancel stream complete s) := by
  simp [execCancel]

@[simp] theorem State.misfit_checks (s : State) (stream type : Nat) : (s.misfit stream type).checks = s.checks := by simp [State.misfit]

@[simp] theorem execPrompt_leavesChecks (stream position : Nat) (tokens : List Nat) (s : State) :
    Out.leavesChecks s (execPrompt stream position tokens s) := by simp [execPrompt]

@[simp] theorem execUnknownServingMessage_leavesChecks (head : BitVec 128) (body : List Byte) (s : State) :
    Out.leavesChecks s (execUnknownServingMessage head body s) := by simp [execUnknownServingMessage]

@[simp] theorem execAdmitHoldExpiry_leavesChecks (stream : Nat) (s : State) : Out.leavesChecks s (execAdmitHoldExpiry stream s) := by
  unfold execAdmitHoldExpiry
  split <;> simp

@[simp] theorem State.nextToken_checks (s : State) (x : Stream) (p : Nat) : (s.nextToken x p).checks = s.checks := by
  unfold State.nextToken
  split
  · split <;> simp
  · split <;> simp

@[simp] theorem State.deliverToken_checks (s : State) (x : Stream) (token : Nat) (last : Bool) :
    (s.deliverToken x token last).checks = s.checks := by
  simp [State.deliverToken]

@[simp] theorem execTokenSend_leavesChecks (stream token : Nat) (last : Bool) (s : State) :
    Out.leavesChecks s (execTokenSend stream token last s) := by
  unfold execTokenSend
  split <;> simp

@[simp] theorem execMirrorWaitExpiry_leavesChecks (stream token : Nat) (last : Bool) (s : State) :
    Out.leavesChecks s (execMirrorWaitExpiry stream token last s) := by
  unfold execMirrorWaitExpiry
  split
  · split
    · rw [Out.leavesChecks_next]
      split
      · rw [State.deliverToken_checks, State.raise_checks, State.showStreams_checks, State.setStream_checks]
      · rfl
    · rfl
  · rfl

@[simp] theorem State.closeTransit_checks (s : State) (batch : List Nat) : (s.closeTransit batch).checks = s.checks := by simp [State.closeTransit]

@[simp] theorem State.openTransit_checks (s : State) (img : PlanImage) (sat prefill : Bool) (batch : List Nat) :
    (s.openTransit img sat prefill batch).checks = s.checks := by simp [State.openTransit]

@[simp] theorem State.sendQueries_checks (s : State) (layer : Nat) (prefill : Bool) (batch : List Nat) :
    (s.sendQueries layer prefill batch).checks = s.checks := by simp [State.sendQueries]

@[simp] theorem State.writeHeads_checks (s : State) (img : PlanImage) (layer : Nat) (prefill : Bool) (batch : List Nat) :
    (s.writeHeads img layer prefill batch).checks = s.checks := by
  unfold State.writeHeads
  split
  · rfl
  · exact foldl_checks (fun _ _ => foldl_checks (fun _ _ => by split <;> simp) _ _) _ _

@[simp] theorem State.writeBatch_checks (s : State) (img : PlanImage) (w : Wave) : (s.writeBatch img w).checks = s.checks := by
  unfold State.writeBatch
  dsimp only
  (repeat' split) <;> simp

@[simp] theorem State.giveRun_checks (s : State) (site tl : Nat) (r : Run) : (s.giveRun site tl r).checks = s.checks := by simp [State.giveRun]

@[simp] theorem State.runWave_checks (s : State) (img : PlanImage) (w : Wave) : (s.runWave img w).checks = s.checks := by
  simp only [State.runWave, State.setWave_checks, State.setObj_checks]
  rw [foldl_checks (fun _ _ => by split <;> simp)]
  simp

@[simp] theorem State.dispatchWave_checks (s : State) (replica waveType : Nat) (wp : List (BitVec 32)) :
    (s.dispatchWave replica waveType wp).checks = s.checks := by
  unfold State.dispatchWave
  dsimp only
  (repeat' split) <;> simp

@[simp] theorem State.mirrorCopy_checks (s : State) (x : Stream) (position units : Nat) (data : List Cell32) :
    (s.mirrorCopy x position units data).1.checks = s.checks := by simp [State.mirrorCopy]

@[simp] theorem State.layerDone_checks (s : State) (img : PlanImage) (w : Wave) (x : Stream) : (s.layerDone img w x).checks = s.checks := by
  unfold State.layerDone
  dsimp only
  (repeat' split) <;> simp

@[simp] theorem State.forgetWave_checks (s : State) (replica number : Nat) : (s.forgetWave replica number).checks = s.checks := by
  simp [State.forgetWave]

@[simp] theorem execWaveEnd_leavesChecks (replica slot : Nat) (s : State) : Out.leavesChecks s (execWaveEnd replica slot s) := by
  unfold execWaveEnd
  dsimp only
  (repeat' split) <;> simp

@[simp] theorem State.abortRun_checks (s : State) (site tl number : Nat) : (s.abortRun site tl number).checks = s.checks := by simp [State.abortRun]

@[simp] theorem State.abortWave_checks (s : State) (w : Wave) (stack trapCode : Nat) : (s.abortWave w stack trapCode).checks = s.checks := by
  simp [State.abortWave]

@[simp] theorem State.rerunWave_checks (s : State) (w : Wave) : (s.rerunWave w).checks = s.checks := by
  unfold State.rerunWave
  split <;> simp

@[simp] theorem execWaveRerun_leavesChecks (replica slot : Nat) (s : State) : Out.leavesChecks s (execWaveRerun replica slot s) := by
  unfold execWaveRerun
  split <;> simp

@[simp] theorem execStreamTokenRerun_leavesChecks (stream : Nat) (s : State) : Out.leavesChecks s (execStreamTokenRerun stream s) := by
  unfold execStreamTokenRerun
  split <;> simp

@[simp] theorem execStreamFaultTimeout_leavesChecks (stream : Nat) (s : State) : Out.leavesChecks s (execStreamFaultTimeout stream s) := by
  unfold execStreamFaultTimeout
  split <;> simp

@[simp] theorem State.writePlan_checks (s : State) (img : PlanImage) (f : Nat → Cell32 → Cell32) : (s.writePlan img f).checks = s.checks := by
  simp [State.writePlan]

@[simp] theorem execPlanLoadDone_leavesChecks (s : State) : Out.leavesChecks s (execPlanLoadDone s) := by
  unfold execPlanLoadDone
  dsimp only
  (repeat' split) <;> simp

/-! ### Packets received -/

@[simp] theorem State.doMsg_checks (s : State) (i ch : Nat) (p : Packet) : (s.doMsg i ch p).1.checks = s.checks := by
  unfold State.doMsg
  dsimp only
  (repeat' split) <;> simp

@[simp] theorem State.doWrite_checks (s : State) (i : Nat) (p : Packet) : (s.doWrite i p).1.checks = s.checks := by simp [State.doWrite]

@[simp] theorem State.doRead_checks (s : State) (i ch : Nat) (p : Packet) (ue : List Nat) (ce : Nat) :
    (s.doRead i ch p ue ce).1.checks = s.checks := by
  unfold State.doRead
  dsimp only
  (repeat' split) <;> simp

@[simp] theorem State.fillLine_checks (s : State) (field g : Nat) (l : List Cell32) : (s.fillLine field g l).checks = s.checks := by
  simp [State.fillLine]

@[simp] theorem State.doReply_checks (s : State) (i : Nat) (p : Packet) : (s.doReply i p).1.checks = s.checks := by
  unfold State.doReply
  dsimp only
  (repeat' split) <;> simp

@[simp] theorem State.killFills_checks (s : State) (only : Option Nat) (g : Nat) :
    (s.killFills only g).checks = s.checks := by simp [State.killFills]

@[simp] theorem State.invalidateLine_checks (s : State) (field g : Nat) : (s.invalidateLine field g).checks = s.checks := by
  simp [State.invalidateLine]

@[simp] theorem State.invalidateEpoch_checks (s : State) (field : Nat) : (s.invalidateEpoch field).checks = s.checks := by
  simp [State.invalidateEpoch]

@[simp] theorem State.doInval_checks (s : State) (p : Packet) : (s.doInval p).1.checks = s.checks := by simp [State.doInval]

@[simp] theorem State.doMerge_checks (s : State) (i : Nat) (p : Packet) : (s.doMerge i p).1.checks = s.checks := by
  unfold State.doMerge
  dsimp only
  (repeat' split) <;> simp

@[simp] theorem State.doClose_checks (s : State) (i ch : Nat) : (s.doClose i ch).1.checks = s.checks := by
  unfold State.doClose
  dsimp only
  (repeat' split) <;> simp

@[simp] theorem State.perform_checks (s : State) (i ch : Nat) (p : Packet) (ue : Ecc) : (s.perform i ch p ue).1.checks = s.checks := by
  unfold State.perform
  split <;> simp

@[simp] theorem State.runInOrder_checks (s : State) (i ch psn : Nat) (ue : Ecc) (n : Nat) : (s.runInOrder i ch psn ue n).checks = s.checks := by
  induction n generalizing s with
  | zero => rfl
  | succ n ih =>
    unfold State.runInOrder
    split
    · rfl
    · split
      · rfl
      · dsimp only
        rw [ih]
        split
        · split <;> simp
        · simp

@[simp] theorem State.answerAbsent_checks (s : State) (i : Nat) (p : Packet) :
    (s.answerAbsent i p).checks = s.checks := by simp [State.answerAbsent]

@[simp] theorem State.answerHold_checks (s : State) (i ch : Nat) (c : Chan) : (s.answerHold i ch c).checks = s.checks := by simp [State.answerHold]

@[simp] theorem State.receivePacket_checks (s : State) (i : Nat) (p : Packet) (ue : Ecc) : (s.receivePacket i p ue).checks = s.checks := by
  unfold State.receivePacket
  dsimp only
  (repeat' split) <;> simp

@[simp] theorem execInvalLine_leavesChecks (iod : Nat) (own : Option Nat) (p : Packet) (s : State) :
    Out.leavesChecks s (execInvalLine iod own p s) := by
  unfold execInvalLine
  split <;> simp

@[simp] theorem execInvalEpoch_leavesChecks (iod : Nat) (own : Option Nat) (p : Packet) (s : State) :
    Out.leavesChecks s (execInvalEpoch iod own p s) := by
  unfold execInvalEpoch
  split <;> simp

@[simp] theorem execRemoteReadTimeout_leavesChecks (iod rid : Nat) (s : State) : Out.leavesChecks s (execRemoteReadTimeout iod rid s) := by
  unfold execRemoteReadTimeout
  dsimp only
  (repeat' split) <;> simp

/-! ### Movers -/

@[simp] theorem State.setMchan_checks (s : State) (port c : Nat) (v : MChan) : (s.setMchan port c v).checks = s.checks := by simp [State.setMchan]
@[simp] theorem State.stopMover_checks (s : State) (port : Nat) (k : Code) : (s.stopMover port k).checks = s.checks := by simp [State.stopMover]

@[simp] theorem State.judgeResponse_checks (s : State) (port chan : Nat) (f : Active → Bool) (k : Code) :
    (s.judgeResponse port chan f k).checks = s.checks := by simp [State.judgeResponse]

@[simp] theorem State.moverRead_checks (s : State) (x : Place) (k : Nat) (ue : List Nat) (ce : Nat) :
    (s.moverRead x k ue ce).1.checks = s.checks := by
  unfold State.moverRead
  dsimp only
  (repeat' split) <;> simp

theorem State.readBrings_checks {s : State} {port : Nat} {a : Active} {r : MRead} {ue : List Nat} {ce : Nat} {p : State × Code × List Cell32}
    (hp : s.readBrings port a r ue ce = some p) :
    p.1.checks = s.checks := by
  unfold State.readBrings at hp
  dsimp only at hp
  split at hp
  · obtain ⟨x, -, rfl⟩ := Option.map_eq_some_iff.mp hp
    rfl
  · cases hp
    split <;> simp

@[simp] theorem State.readEnds_checks (s : State) (port chan : Nat) (errorOnly : Bool) (ue : List Nat) (ce : Nat) :
    (s.readEnds port chan errorOnly ue ce).checks = s.checks := by
  unfold State.readEnds
  split
  · rfl
  · dsimp only
    split
    · rfl
    · next hp =>
      have hread := State.readBrings_checks hp
      split
      · rfl
      · split <;> simpa using hread

@[simp] theorem State.wrote'_checks (s : State) (port chan entry n : Nat) (w : MWrite) : (s.wrote' port chan entry n w).checks = s.checks := by
  simp [State.wrote']

@[simp] theorem State.takeTurn_checks (s : State) (port : Nat) : (s.takeTurn port).checks = s.checks := by
  unfold State.takeTurn
  dsimp only
  (repeat' split) <;> simp

@[simp] theorem State.sendRead_checks (s : State) (port chan : Nat) (a : Active) (n : Nat) : (s.sendRead port chan a n).1.checks = s.checks := by
  unfold State.sendRead
  dsimp only
  (repeat' split) <;> simp

@[simp] theorem execMoverReadIssue_leavesChecks (port chan : Nat) (s : State) : Out.leavesChecks s (execMoverReadIssue port chan s) := by
  unfold execMoverReadIssue
  dsimp only
  (repeat' split) <;> simp

@[simp] theorem State.stageWrite_checks (s : State) (port chan : Nat) (a : Active) (x : Slot) : (s.stageWrite port chan a x).checks = s.checks := by
  simp [State.stageWrite]

@[simp] theorem State.writeEnds_checks (s : State) (port chan : Nat) (a : Active) (w : MWrite) (k : Code) :
    (s.writeEnds port chan a w k).checks = s.checks := by
  unfold State.writeEnds
  dsimp only
  (repeat' split) <;> simp

@[simp] theorem execMoverResponse_leavesChecks (port chan : Nat) (isRead : Bool) (s : State) :
    Out.leavesChecks s (execMoverResponse port chan isRead s) := by
  unfold execMoverResponse
  dsimp only
  (repeat' split) <;> simp

@[simp] theorem execWriteResponseTimeout_leavesChecks (port chan : Nat) (s : State) :
    Out.leavesChecks s (execWriteResponseTimeout port chan s) := by
  unfold execWriteResponseTimeout
  dsimp only
  (repeat' split) <;> simp

@[simp] theorem State.resumeMover_checks (s : State) (port : Nat) : (s.resumeMover port).1.checks = s.checks := by simp [State.resumeMover]

end Sys2Proof.Machine
end

section
/-!
What leaves the check units alone. Supplies, temperature, recovery and start-up.
-/

namespace Sys2Proof.Machine

/-! ### Losses of supplies and zones -/

@[simp] theorem State.flushBb_checks (s : State) (cause : Nat) : (s.flushBb cause).checks = s.checks := by simp [State.flushBb]

@[simp] theorem State.islandNotice_checks (s : State) (kind : Nat) (data : List Nat) : (s.islandNotice kind data).checks = s.checks := by
  simp [State.islandNotice]

@[simp] theorem State.abortUpdate_checks (s : State) (cause : Nat) : (s.abortUpdate cause).checks = s.checks := by simp [State.abortUpdate]
@[simp] theorem State.setEmergency_checks (s : State) (n : Nat) : (s.setEmergency n).checks = s.checks := by simp [State.setEmergency]
@[simp] theorem State.pulseEmergency_checks (s : State) (n : Nat) : (s.pulseEmergency n).checks = s.checks := by simp [State.pulseEmergency]
@[simp] theorem State.judgeEmergency_checks (s : State) : s.judgeEmergency.checks = s.checks := by simp [State.judgeEmergency]
@[simp] theorem State.showPins_checks (s : State) : s.showPins.checks = s.checks := by simp [State.showPins]
@[simp] theorem State.judgeTrip_checks (s : State) : s.judgeTrip.checks = s.checks := by simp [State.judgeTrip]
@[simp] theorem State.judgeHoldUp_checks (s : State) : s.judgeHoldUp.checks = s.checks := by simp [State.judgeHoldUp]
@[simp] theorem State.settleIsland_checks (s : State) : s.settleIsland.checks = s.checks := by simp [State.settleIsland]

@[simp] theorem State.endLease_checks (s : State) (cause : Nat) : (s.endLease cause).checks = s.checks := by
  unfold State.endLease
  dsimp only
  (repeat' split) <;> simp

@[simp] theorem State.siteOff_checks (s : State) (p : Nat) : (s.siteOff p).checks = s.checks := by simp [State.siteOff]
@[simp] theorem State.moveStreams_checks (s : State) (i : Nat) : (s.moveStreams i).checks = s.checks := by simp [State.moveStreams]

@[simp] theorem State.iodOff_checks (s : State) (i : Nat) : (s.iodOff i).checks = s.checks := by
  unfold State.iodOff
  dsimp only
  (repeat' split) <;> simp

@[simp] theorem State.fieldOff_checks (s : State) (f : Nat) : (s.fieldOff f).checks = s.checks := by simp [State.fieldOff]

@[simp] theorem State.showSpare_checks (s : State) (p v : Nat) : (s.showSpare p v).checks = s.checks := by
  unfold State.showSpare
  split <;> simp

@[simp] theorem State.siteLost_checks (s : State) (p : Nat) : (s.siteLost p).checks = s.checks := by simp [State.siteLost]

@[simp] theorem State.zoneDown_checks (s : State) (z : Nat) : (s.zoneDown z).checks = s.checks := by
  unfold State.zoneDown
  dsimp only
  (repeat' split) <;> simp

@[simp] theorem State.allOff_checks (s : State) : s.allOff.checks = s.checks := by simp [State.allOff]
@[simp] theorem State.bringUp_checks (s : State) (r lo hi : Nat) : (s.bringUp r lo hi).checks = s.checks := by simp [State.bringUp]

@[simp] theorem State.zoneReturn_checks (s : State) (z : Nat) : (s.zoneReturn z).checks = s.checks := by
  unfold State.zoneReturn
  dsimp only
  (repeat' split) <;> simp

@[simp] theorem State.tripPanel_checks (s : State) (cause : Nat) : (s.tripPanel cause).checks = s.checks := by simp [State.tripPanel]

/-! ### Power -/

@[simp] theorem State.inputFail_checks (s : State) (cause : Nat) : (State.inputFail s cause).checks = s.checks := by simp [State.inputFail]

@[simp] theorem State.openFuse_checks (s : State) (z ma : Nat) : (s.openFuse z ma).checks = s.checks := by
  unfold State.openFuse
  dsimp only
  (repeat' split) <;> simp

@[simp] theorem State.capSite_checks (s : State) (p : Nat) : (s.capSite p).checks = s.checks := by simp [State.capSite]

/-! ### Temperature -/

@[simp] theorem State.takeReading_checks (s : State) (r k : Nat) (x : Reading) : (s.takeReading r k x).checks = s.checks := by
  simp [State.takeReading]

@[simp] theorem State.judgeStuck_checks (s : State) (r k : Nat) : (s.judgeStuck r k).checks = s.checks := by simp [State.judgeStuck]
@[simp] theorem State.judgeLayer_checks (s : State) (p l k : Nat) : (s.judgeLayer p l k).checks = s.checks := by simp [State.judgeLayer]
@[simp] theorem State.showBand_checks (s : State) (r b : Nat) : (s.showBand r b).checks = s.checks := by simp [State.showBand]
@[simp] theorem State.markHot_checks (s : State) (p : Nat) : (s.markHot p).checks = s.checks := by simp [State.markHot]

@[simp] theorem State.bandEffect_checks (s : State) (r b : Nat) : (s.bandEffect r b).checks = s.checks := by
  unfold State.bandEffect
  dsimp only
  (repeat' split) <;> simp

@[simp] theorem State.judgeRegion_checks (s : State) (r : Nat) : (s.judgeRegion r).checks = s.checks := by
  unfold State.judgeRegion
  dsimp only
  (repeat' split) <;> simp

@[simp] theorem State.markTrip_checks (s : State) (p : Nat) : (s.markTrip p).checks = s.checks := by
  unfold State.markTrip
  dsimp only
  (repeat' split) <;> simp

@[simp] theorem execSensorSample_leavesChecks (readings : List ((Nat × Nat) × Reading)) (s : State) :
    Out.leavesChecks s (execSensorSample readings s) := by
  have hlayers (u : State) (l : List Nat) : (l.foldl (fun s p =>
      (List.range 3).foldl (fun s l => (List.range 6).foldl (fun s k => s.judgeLayer p l k) s) s) u).checks = u.checks :=
    foldl_checks (fun _ _ => foldl_checks (fun _ _ => by simp) _ _) l u
  unfold execSensorSample
  dsimp only
  rw [Out.leavesChecks_next, State.settleIsland_checks]
  simp [hlayers]

@[simp] theorem execWithdrawalComplete_leavesChecks (port : Nat) (s : State) : Out.leavesChecks s (execWithdrawalComplete port s) := by
  unfold execWithdrawalComplete
  dsimp only
  (repeat' split) <;> simp

@[simp] theorem execStackTrip_leavesChecks (site : Nat) (s : State) : Out.leavesChecks s (execStackTrip site s) := by
  unfold execStackTrip
  dsimp only
  (repeat' split) <;> simp

@[simp] theorem execCarryReturn_leavesChecks (lampDie : Nat) (s : State) : Out.leavesChecks s (execCarryReturn lampDie s) := by
  unfold execCarryReturn
  dsimp only
  split_ifs
  · rfl
  · exact foldl_checks (fun _ _ => by split <;> simp) _ _
  · rw [Out.leavesChecks_next, foldl_checks (fun _ _ => foldl_checks (fun _ _ => by simp) _ _)]
    simp

@[simp] theorem execEmergencyBitClear_leavesChecks (n : Nat) (s : State) : Out.leavesChecks s (execEmergencyBitClear n s) := by
  unfold execEmergencyBitClear
  dsimp only
  (repeat' split) <;> simp

@[simp] theorem execWakeNAssert_leavesChecks (s : State) : Out.leavesChecks s (execWakeNAssert s) := by
  unfold execWakeNAssert
  dsimp only
  (repeat' split) <;> simp

/-! ### Recovery -/

@[simp] theorem State.suspendReplica_checks (s : State) (r stack cause : Nat) : (s.suspendReplica r stack cause).checks = s.checks := by
  simp [State.suspendReplica]

@[simp] theorem State.loseWeights_checks (s : State) (stack : Nat) : (s.loseWeights stack).checks = s.checks := by simp [State.loseWeights]

@[simp] theorem State.promote_checks (s : State) (stack old start : Nat) : (s.promote stack old start).checks = s.checks := by
  unfold State.promote
  dsimp only
  (repeat' split) <;> simp

@[simp] theorem State.stackFail_checks (s : State) (stack witness : Nat) : (s.stackFail stack witness).checks = s.checks := by
  unfold State.stackFail
  dsimp only
  (repeat' split) <;> simp

@[simp] theorem State.claimBad_checks (s : State) (p claim : Nat) : (s.claimBad p claim).checks = s.checks := by simp [State.claimBad]
@[simp] theorem State.checkTileDie_checks (s : State) (p : Nat) : (s.checkTileDie p).checks = s.checks := by simp [State.checkTileDie]
@[simp] theorem State.powerSite_checks (s : State) (p : Nat) : (s.powerSite p).checks = s.checks := by simp [State.powerSite]
@[simp] theorem State.remap_checks (s : State) (p : Nat) (bad dead : List Nat) : (s.remap p bad dead).checks = s.checks := by simp [State.remap]

@[simp] theorem State.settleMap_checks (s : State) (p : Nat) (bad dead : List Nat) : (s.settleMap p bad dead).checks = s.checks := by
  simp [State.settleMap]

@[simp] theorem State.judgeColumns_checks (s : State) (p : Nat) : (s.judgeColumns p).checks = s.checks := by simp [State.judgeColumns]

@[simp] theorem State.refill_checks (s : State) (stack : Nat) : (s.refill stack).checks = s.checks := by
  unfold State.refill
  dsimp only
  (repeat' split) <;> simp

@[simp] theorem State.promoNext_checks (s : State) (stack : Nat) (o : Promo) (stage : Nat) : (s.promoNext stack o stage).checks = s.checks := by
  simp [State.promoNext]

@[simp] theorem State.promoFail_checks (s : State) (stack : Nat) (o : Promo) : (s.promoFail stack o).checks = s.checks := by simp [State.promoFail]

@[simp] theorem State.promoStage_checks (s : State) (stack : Nat) (o : Promo) (bad : List Nat) (furrows : List (Nat × Nat)) :
    (s.promoStage stack o bad furrows).checks = s.checks := by simp [State.promoStage]

@[simp] theorem execPromotionStageDone_leavesChecks (stack : Nat) (pass : Bool) (bad : List Nat) (furrows : List (Nat × Nat)) (s : State) :
    Out.leavesChecks s (execPromotionStageDone stack pass bad furrows s) := by
  unfold execPromotionStageDone
  split <;> simp

@[simp] theorem execSuspendedStreamTimeout_leavesChecks (replica : Nat) (s : State) :
    Out.leavesChecks s (execSuspendedStreamTimeout replica s) := by
  unfold execSuspendedStreamTimeout
  dsimp only
  (repeat' split) <;> simp

@[simp] theorem State.remirror_checks (s : State) : s.remirror.checks = s.checks := by simp [State.remirror]
@[simp] theorem State.adopt_checks (s : State) (panel : Nat) (m : MirrorRec) : (s.adopt panel m).checks = s.checks := by simp [State.adopt]

@[simp] theorem execAdoption_leavesChecks (panel : Nat) (mirrored : List MirrorRec) (s : State) :
    Out.leavesChecks s (execAdoption panel mirrored s) := by
  have hadopt (u : State) (l : List MirrorRec) : (l.foldl (fun s m => s.adopt panel m) u).checks = u.checks := by simp
  unfold execAdoption
  split
  · rw [Out.leavesChecks_next]
    split
    · rw [State.dropAdopted_checks, State.raise_checks, State.showStreams_checks, State.remirror_checks, hadopt]
    · rfl
  · rfl

@[simp] theorem execRemirrorDone_leavesChecks (streams : List Nat) (bytes : Nat) (s : State) :
    Out.leavesChecks s (execRemirrorDone streams bytes s) := by
  unfold execRemirrorDone
  dsimp only
  split_ifs
  · rfl
  · rw [Out.leavesChecks_next, State.raise_checks, State.showStreams_checks, foldl_checks (fun _ _ => by split <;> simp)]

@[simp] theorem State.levyBreach_checks (s : State) (e : Nat × Nat × Nat) : (s.levyBreach e).checks = s.checks := by simp [State.levyBreach]

/-! ### The lease and zone resets -/

@[simp] theorem State.resetGates_checks (s : State) (p : Nat) : (s.resetGates p).checks = s.checks := by simp [State.resetGates]
@[simp] theorem State.resetMover_checks (s : State) (p : Nat) : (s.resetMover p).checks = s.checks := by simp [State.resetMover]

@[simp] theorem State.beginReset_checks (s : State) (z trigger : Nat) : (s.beginReset z trigger).checks = s.checks := by
  unfold State.beginReset
  dsimp only
  rw [foldl_checks (fun _ _ => by split <;> simp)]
  split
  · simp
  · simp

@[simp] theorem State.resetField_checks (s : State) (f : Nat) : (s.resetField f).checks = s.checks := by simp [State.resetField]
@[simp] theorem State.grantLease_checks (s : State) (u : Nat) : (s.grantLease u).checks = s.checks := by simp [State.grantLease]

@[simp] theorem State.leaseGrant_checks (s : State) : s.leaseGrant.checks = s.checks := by
  unfold State.leaseGrant
  split
  · rfl
  · split
    · simp
    · split
      · split <;> simp
      · rfl

@[simp] theorem State.firstLease_checks (s : State) : s.firstLease.checks = s.checks := by
  unfold State.firstLease
  split <;> simp

@[simp] theorem State.requestLease_checks (s : State) (u : Nat) : (s.requestLease u).checks = s.checks := by simp [State.requestLease]

@[simp] theorem execRenewReceive_leavesChecks (unit : Nat) (s : State) : Out.leavesChecks s (execRenewReceive unit s) := by
  unfold execRenewReceive
  dsimp only
  (repeat' split) <;> simp

@[simp] theorem State.releaseLease_checks (s : State) : s.releaseLease.checks = s.checks := by
  unfold State.releaseLease
  dsimp only
  (repeat' split) <;> simp

@[simp] theorem execLeaseRevoke_leavesChecks (cause : Nat) (s : State) : Out.leavesChecks s (execLeaseRevoke cause s) := by
  unfold execLeaseRevoke
  dsimp only
  (repeat' split) <;> simp

@[simp] theorem execOverlapExpiry_leavesChecks (s : State) : Out.leavesChecks s (execOverlapExpiry s) := by
  unfold execOverlapExpiry
  dsimp only
  (repeat' split) <;> simp

@[simp] theorem State.askReset_checks (s : State) (z trigger : Nat) : (s.askReset z trigger).checks = s.checks := by simp [State.askReset]

@[simp] theorem State.portBack_checks (s : State) (port : Nat) : (s.portBack port).checks = s.checks := by
  unfold State.portBack
  dsimp only
  (repeat' split) <;> simp

/-! ### Start-up, standby and the secure wipe -/

@[simp] theorem State.fresh_checks (s : State) (island : Bool) : (s.fresh island).checks = [] := by
  unfold State.fresh
  dsimp only
  split_ifs <;> rfl

@[simp] theorem State.enterStage_checks (s : State) (k : Nat) : (s.enterStage k).checks = s.checks := by simp [State.enterStage]
@[simp] theorem State.warmStart_checks (s : State) : s.warmStart.checks = [] := by simp [State.warmStart]
@[simp] theorem State.checkLamp_checks (s : State) (d : Nat) : (s.checkLamp d).checks = s.checks := by simp [State.checkLamp]
@[simp] theorem State.measureFlights_checks (s : State) : s.measureFlights.checks = s.checks := by simp [State.measureFlights]
@[simp] theorem State.reportIod_checks (s : State) (i : Nat) : (s.reportIod i).checks = s.checks := by simp [State.reportIod]
@[simp] theorem State.suppliesOn_checks (s : State) : s.suppliesOn.checks = s.checks := by simp [State.suppliesOn]
@[simp] theorem State.lampsOn_checks (s : State) : s.lampsOn.checks = s.checks := by simp [State.lampsOn]
@[simp] theorem State.failSite_checks (s : State) (p : Nat) : (s.failSite p).checks = s.checks := by simp [State.failSite]
@[simp] theorem State.powerStack_checks (s : State) (p : Nat) : (s.powerStack p).checks = s.checks := by simp [State.powerStack]
@[simp] theorem State.stacksOn_checks (s : State) : s.stacksOn.checks = s.checks := by simp [State.stacksOn]

@[simp] theorem State.testSite_checks (s : State) (failed : List Nat) (badTiles : List (Nat × Nat)) (furrows : List (Nat × Nat × Nat)) (p : Nat) :
    (s.testSite failed badTiles furrows p).checks = s.checks := by simp [State.testSite]

@[simp] theorem State.makeUp_checks (s : State) : s.makeUp.checks = s.checks := by
  unfold State.makeUp
  exact foldl_fst_checks (fun a _ => by split <;> (try split) <;> simp) _ (s, [])

@[simp] theorem State.stackTests_checks (s : State) (failed : List Nat) (badTiles : List (Nat × Nat)) (furrows : List (Nat × Nat × Nat)) :
    (s.stackTests failed badTiles furrows).1.checks = s.checks := by simp [State.stackTests]

@[simp] theorem State.planePaths_checks (s : State) (paths : List (Nat × Nat × Nat)) : (s.planePaths paths).1.checks = s.checks := by
  simp [State.planePaths]

@[simp] theorem State.takeSpare_checks (s : State) (r : Nat) : (s.takeSpare r).1.checks = s.checks := by
  unfold State.takeSpare
  dsimp only
  (repeat' split) <;> simp

@[simp] theorem State.mapStack_checks (s : State) (l : Nat) (site : Option Nat) : (s.mapStack l site).checks = s.checks := by
  have hspare := State.takeSpare_checks s (replicaOf l)
  unfold State.mapStack
  split
  · simp
  · split <;> rename_i hq <;> rw [hq] at hspare <;> simpa using hspare

@[simp] theorem State.mapStacks_checks (s : State) : s.mapStacks.checks = s.checks := by simp [State.mapStacks]
@[simp] theorem State.stageDone_checks (s : State) (next : Nat) : (s.stageDone next).checks = s.checks := by simp [State.stageDone]
@[simp] theorem State.startFailed_checks (s : State) (cause : Nat) : (s.startFailed cause).checks = s.checks := by simp [State.startFailed]
@[simp] theorem State.wipeSites_checks (s : State) : s.wipeSites.checks = s.checks := by simp [State.wipeSites]
@[simp] theorem State.beginWipe_checks (s : State) (target : Nat) : (s.beginWipe target).checks = s.checks := by simp [State.beginWipe]

@[simp] theorem execWipeDone_leavesChecks (s : State) : Out.leavesChecks s (execWipeDone s) := by
  unfold execWipeDone
  dsimp only
  (repeat' split) <;> simp

end Sys2Proof.Machine
end

section
/-!
What leaves the check units alone. The ledger, the control units, and the steps of the matrix and vector units.
-/

namespace Sys2Proof.Machine

/-! ### The values of objects -/

@[simp] theorem State.endSession_checks (s : State) (n cause : Nat) : (s.endSession n cause).checks = s.checks := by
  unfold State.endSession
  dsimp only
  (repeat' split) <;> simp

@[simp] theorem State.endSessions_checks (s : State) (f : Session → Bool) (cause : Nat) : (s.endSessions f cause).checks = s.checks := by
  simp [State.endSessions]

@[simp] theorem State.putKey_checks (s : State) (o : Obj) (v : Nat) : (s.putKey o v).checks = s.checks := by
  unfold State.putKey
  dsimp only
  (repeat' split) <;> simp

@[simp] theorem State.applyValue_checks (s : State) (o : Obj) (i v : Nat) : (s.applyValue o i v).checks = s.checks := by simp [State.applyValue]
@[simp] theorem State.setShadow_checks (s : State) (o : Obj) (i v : Nat) : (s.setShadow o i v).checks = s.checks := by simp [State.setShadow]
@[simp] theorem State.wroteNow_checks (s : State) (o : Obj) (i : Nat) : (s.wroteNow o i).checks = s.checks := by simp [State.wroteNow]

@[simp] theorem State.accept_checks (s : State) (o : Obj) (i v : Nat) : (s.accept o i v).checks = s.checks := by
  unfold State.accept
  dsimp only
  (repeat' split) <;> simp

@[simp] theorem State.applyShadows_checks (s : State) (wave : Bool) : (s.applyShadows wave).checks = s.checks := by simp [State.applyShadows]

/-! ### The ledger's commands -/

@[simp] theorem State.startServing_checks (s : State) (n : Nat) (x : Session) : (s.startServing n x).1.checks = s.checks := by
  simp [State.startServing]

@[simp] theorem State.setLife_checks (s : State) (new n : Nat) : (s.setLife new n).checks = s.checks := by simp [State.setLife]
@[simp] theorem State.wipeInto_checks (s : State) (new n : Nat) : (s.wipeInto new n).checks = s.checks := by simp [State.wipeInto]
@[simp] theorem State.stopServing_checks (s : State) : s.stopServing.checks = s.checks := by simp [State.stopServing]

@[simp] theorem State.changeLife_checks (s : State) (target n level : Nat) : (s.changeLife target n level).1.checks = s.checks := by
  simp [State.changeLife]

@[simp] theorem State.beginHandover_checks (s : State) (v : Nat) : (s.beginHandover v).checks = s.checks := by simp [State.beginHandover]

@[simp] theorem State.activate_checks (s : State) (arg : Nat) : (s.activate arg).1.checks = s.checks := by
  unfold State.activate
  split
  · rfl
  · split
    · simp
    · split
      · rfl
      · split <;> simp

@[simp] theorem State.startCmd_checks (s : State) (o : Obj) (arg n : Nat) (x : Session) : (s.startCmd o arg n x).1.checks = s.checks := by
  unfold State.startCmd
  dsimp only
  (repeat' split) <;> simp

@[simp] theorem State.command_checks (s : State) (o : Obj) (arg n : Nat) (x : Session) : (s.command o arg n x).1.checks = s.checks := by
  simp [State.command]

@[simp] theorem State.commandOf_checks (s : State) (o : Obj) (arg n : Nat) : (s.commandOf o arg n).checks = s.checks := by
  unfold State.commandOf
  split <;> simp

@[simp] theorem State.verifyImage_checks (s : State) (u : Nat) : (s.verifyImage u).checks = s.checks := by simp [State.verifyImage]

@[simp] theorem execImageVerifyDone_leavesChecks (s : State) : Out.leavesChecks s (execImageVerifyDone s) := by
  unfold execImageVerifyDone
  split <;> simp

@[simp] theorem execCommandTimeout_leavesChecks (area num : Nat) (s : State) : Out.leavesChecks s (execCommandTimeout area num s) := by
  unfold execCommandTimeout
  split <;> simp

/-! ### The ledger protocol -/

@[simp] theorem State.discardMsg_checks (s : State) : s.discardMsg.checks = s.checks := by simp [State.discardMsg]

@[simp] theorem State.reply_checks (s : State) (n : Nat) (x : Session) (r : Reply) : (s.reply n x r).checks = s.checks := by
  unfold State.reply
  dsimp only
  (repeat' split) <;> simp

/-- A message that is run, or answered BUS_ERROR when it is not well formed (R350). -/
theorem ran_checks {run : State → Session → State × Reply × After} (hr : ∀ u x, SameChecks u (run u x).1) (ok : Bool) (u : State)
    (x : Session) (r : Reply) : (if ok then run u x else (u, r, .nothing)).1.checks = u.checks := by
  split
  · exact hr _ _
  · rfl

/-- What follows the message: its reply, and the sessions that its effect ends (R350). -/
theorem afterRun_checks (p : State × Reply × After) (n : Nat) (x : Session) : (match p.2.2 with
    | .nothing => p.1.reply n x p.2.1
    | .bye => (p.1.reply n x p.2.1).endSession n 0
    | .moved => (p.1.reply n x p.2.1).endSessions (fun y => !y.commons) 2).checks = p.1.checks := by
  split <;> simp

@[simp] theorem State.request_checks (s : State) (c : Instr) (type : Nat) (m : LedgerMsg) (run : State → Session → State × Reply × After)
    (hr : ∀ u x, SameChecks u (run u x).1) : (s.request c type m run).checks = s.checks := by
  unfold State.request
  split
  · simp
  · dsimp only
    split
    · split <;> simp
    · split
      · simp
      · simp
      · exact (afterRun_checks _ _ _).trans ((ran_checks hr _ _ _ _).trans (by simp))
      · exact (afterRun_checks _ _ _).trans ((ran_checks hr _ _ _ _).trans (by simp))

@[simp] theorem execRead_leavesChecks (m : LedgerMsg) (s : State) : Out.leavesChecks s (execRead m s) := by simp [execRead]

@[simp] theorem State.ledgerWrite_checks (s : State) (n level : Nat) (o : Obj) (i : Nat) : (s.ledgerWrite n level o i).checks = s.checks := by
  simp [State.ledgerWrite]

@[simp] theorem State.writeItem_checks (s : State) (n : Nat) (x : Session) (it : Item) : (s.writeItem n x it).1.checks = s.checks := by
  unfold State.writeItem
  dsimp only
  (repeat' split) <;> simp

@[simp] theorem State.writeItems_checks (s : State) (n : Nat) (x : Session) (l : List Item) : (s.writeItems n x l).1.checks = s.checks := by
  induction l generalizing s with
  | nil => rfl
  | cons it r ih => exact (ih _).trans (State.writeItem_checks _ _ _ _)

@[simp] theorem execWrite_leavesChecks (m : LedgerMsg) (s : State) :
    Out.leavesChecks s (execWrite m s) := State.request_checks _ _ _ _ _ (fun _ _ => by simp)

@[simp] theorem execStage_leavesChecks (m : LedgerMsg) (s : State) : Out.leavesChecks s (execStage m s) := by simp [execStage]

@[simp] theorem State.applyMember_checks (s : State) (n level : Nat) (m : StageItem) : (s.applyMember n level m).checks = s.checks := by
  simp [State.applyMember]

@[simp] theorem State.commitSet_checks (s : State) (n : Nat) (x : Session) : (s.commitSet n x).1.checks = s.checks := by
  unfold State.commitSet
  dsimp only
  (repeat' split) <;> simp

@[simp] theorem execCommit_leavesChecks (m : LedgerMsg) (s : State) : Out.leavesChecks s (execCommit m s) := by simp [execCommit]
@[simp] theorem execAbort_leavesChecks (m : LedgerMsg) (s : State) : Out.leavesChecks s (execAbort m s) := by simp [execAbort]

@[simp] theorem State.notifyTo_checks (s : State) (n : Nat) (levy : Bool) (values : List Answer) :
    (s.notifyTo n levy values).checks = s.checks := by
  unfold State.notifyTo
  split <;> simp

@[simp] theorem State.applyCommits_checks (s : State) (wave : Bool) : (s.applyCommits wave).checks = s.checks := by simp [State.applyCommits]
@[simp] theorem execSubscribe_leavesChecks (m : LedgerMsg) (s : State) : Out.leavesChecks s (execSubscribe m s) := by simp [execSubscribe]

@[simp] theorem execNotify_leavesChecks (session : Nat) (s : State) : Out.leavesChecks s (execNotify session s) := by
  unfold execNotify
  dsimp only
  (repeat' split) <;> simp

@[simp] theorem execList_leavesChecks (m : LedgerMsg) (s : State) : Out.leavesChecks s (execList m s) := by simp [execList]

@[simp] theorem execHello_leavesChecks (src sport dst dport : Nat) (commons : Bool) (level version : Nat) (nonce : BitVec 256) (name : Nat)
    (s : State) :
    Out.leavesChecks s (execHello src sport dst dport commons level version nonce name s) := by
  unfold execHello
  dsimp only
  (repeat' split) <;> simp

@[simp] theorem State.proofFailed_checks (s : State) (n : Nat) (x : Session) (tag : BitVec 128) : (s.proofFailed n x tag).checks = s.checks := by
  simp [State.proofFailed]

@[simp] theorem execProof_leavesChecks (session src sport dst dport : Nat) (commons : Bool) (h : BitVec 384) (s : State) :
    Out.leavesChecks s (execProof session src sport dst dport commons h s) := by
  unfold execProof
  dsimp only
  (repeat' split) <;> simp

@[simp] theorem execBye_leavesChecks (m : LedgerMsg) (s : State) : Out.leavesChecks s (execBye m s) := by simp [execBye]

@[simp] theorem execChallengeTimeout_leavesChecks (session : Nat) (s : State) : Out.leavesChecks s (execChallengeTimeout session s) := by
  unfold execChallengeTimeout
  split <;> simp

@[simp] theorem execSessionIdleTimeout_leavesChecks (session : Nat) (s : State) : Out.leavesChecks s (execSessionIdleTimeout session s) := by
  unfold execSessionIdleTimeout
  split <;> simp

@[simp] theorem stateOr_checks {o : Out} {s : State} (ho : Out.leavesChecks s o) : (stateOr o s).checks = s.checks := by
  cases o with
  | next t => exact ho
  | fault r => rfl
  | refused r => rfl

@[simp] theorem State.takeUp_checks (s : State) (c : Instr) : (s.takeUp c).checks = s.checks := by
  unfold State.takeUp
  split <;> simp

@[simp] theorem State.takeUpAll_checks (s : State) : s.takeUpAll.checks = s.checks := by simp [State.takeUpAll]

/-! ### The matrix unit -/

@[simp] theorem matrixQueue_checks (site tl : Nat) (w : StepWord) (ea : List Nat) (index : Nat) (s : State) :
    (matrixQueue site tl w ea index s).checks = s.checks := by simp [matrixQueue]

@[simp] theorem execMatrixStepDone_leavesChecks (site tile conflicts : Nat) (ecc : Ecc) (s : State) :
    Out.leavesChecks s (execMatrixStepDone site tile conflicts ecc s) := by
  unfold execMatrixStepDone
  dsimp only
  (repeat' split) <;> simp

/-! ### Loads, stores, bids and sends -/

@[simp] theorem lsIssue_checks (op site tl : Nat) (w : StepWord) (s : State) : (lsIssue op site tl w s).checks = s.checks := by simp [lsIssue]

@[simp] theorem execSend_leavesChecks (site tile : Nat) (w : StepWord) (ecc : Ecc) (s : State) :
    Out.leavesChecks s (execSend site tile w ecc s) := by
  unfold execSend
  dsimp only
  (repeat' split) <;> simp

/-! ### The control units -/

@[simp] theorem State.restartUnit_checks (s : State) (u : Nat) : (s.restartUnit u).checks = s.checks := by simp [State.restartUnit]
@[simp] theorem State.toResync_checks (s : State) (u : Nat) : (s.toResync u).checks = s.checks := by simp [State.toResync]
@[simp] theorem State.loseStreams_checks (s : State) : s.loseStreams.checks = s.checks := by simp [State.loseStreams]
@[simp] theorem State.fwLog_checks (s : State) (u : Nat) (logs : List FwMsg) : (s.fwLog u logs).checks = s.checks := by simp [State.fwLog]

@[simp] theorem State.compareWord_checks (s : State) (unit receiver kind content : Nat) :
    (s.compareWord unit receiver kind content).checks = s.checks := by
  simp [State.compareWord]

@[simp] theorem State.passNow_checks (s : State) (kind content : Nat) : (s.passNow kind content).checks = s.checks := by simp [State.passNow]
@[simp] theorem State.fence_checks (s : State) (epoch receiver : Nat) : (s.fence epoch receiver).checks = s.checks := by simp [State.fence]

@[simp] theorem State.takeOutput_checks (s : State) (unit epoch receiver kind content : Nat) :
    (s.takeOutput unit epoch receiver kind content).checks = s.checks := by simp [State.takeOutput]

@[simp] theorem State.selfCheck_checks (s : State) (u : Nat) (r : Option Bool) : (s.selfCheck u r).checks = s.checks := by
  unfold State.selfCheck
  split <;> simp

@[simp] theorem execSelfCheckOutcome_leavesChecks (a b : Option Bool) (s : State) : Out.leavesChecks s (execSelfCheckOutcome a b s) := by
  unfold execSelfCheckOutcome
  dsimp only
  (repeat' split) <;> simp

@[simp] theorem execResyncDone_leavesChecks (unit : Nat) (s : State) : Out.leavesChecks s (execResyncDone unit s) := by
  unfold execResyncDone
  dsimp only
  (repeat' split) <;> simp

@[simp] theorem State.runImage_checks (s : State) (u : Nat) (b : Bool) (i : FwImage) : (s.runImage u b i).checks = s.checks := by
  simp [State.runImage]

@[simp] theorem execUnitRomStart_leavesChecks (unit : Nat) (newerOk olderOk namedOk otherOk selfTest : Bool) (s : State) :
    Out.leavesChecks s (execUnitRomStart unit newerOk olderOk namedOk otherOk selfTest s) := by
  unfold execUnitRomStart
  dsimp only
  (repeat' split) <;> simp

@[simp] theorem State.crash_checks (s : State) (u p cause pc : Nat) : (s.crash u p cause pc).checks = s.checks := by simp [State.crash]

@[simp] theorem execUpdateHandoverStart_leavesChecks (s : State) : Out.leavesChecks s (execUpdateHandoverStart s) := by
  unfold execUpdateHandoverStart
  split <;> simp

@[simp] theorem execUpdateCommit_leavesChecks (s : State) : Out.leavesChecks s (execUpdateCommit s) := by
  unfold execUpdateCommit
  dsimp only
  (repeat' split) <;> simp

@[simp] theorem execHandoverTimeout_leavesChecks (s : State) : Out.leavesChecks s (execHandoverTimeout s) := by
  unfold execHandoverTimeout
  split <;> simp

@[simp] theorem State.trapReport_checks (s : State) (stack wave code : Nat) (counts : Bool) :
    (s.trapReport stack wave code counts).checks = s.checks := by
  unfold State.trapReport
  dsimp only
  (repeat' split) <;> simp

@[simp] theorem State.actOnReport_checks (s : State) (site : Nat) (msg : BitVec 512) : (s.actOnReport site msg).checks = s.checks := by
  unfold State.actOnReport
  dsimp only
  (repeat' split) <;> simp

@[simp] theorem execCuMailboxService_leavesChecks (box : Nat) (logs : List FwMsg) (s : State) :
    Out.leavesChecks s (execCuMailboxService box logs s) := by
  unfold execCuMailboxService
  dsimp only
  (repeat' split) <;> simp

/-! ### The vector unit -/

@[simp] theorem vectorQueue_checks (site tl : Nat) (w : StepWord) (ea : List Nat) (index : Nat) (s : State) :
    (vectorQueue site tl w ea index s).checks = s.checks := by simp [vectorQueue]

@[simp] theorem vecIssue_checks (op site tl : Nat) (w : StepWord) (bad : Option (Nat × Nat)) (s : State) :
    (vecIssue op site tl w bad s).checks = s.checks := by simp [vecIssue]

@[simp] theorem execVectorStepDone_leavesChecks (site tile conflicts : Nat) (ecc : Ecc) (s : State) :
    Out.leavesChecks s (execVectorStepDone site tile conflicts ecc s) := by
  unfold execVectorStepDone
  dsimp only
  (repeat' split) <;> simp

end Sys2Proof.Machine
end

section
/-!
Every command keeps the check units' registers within their widths (R266, R269): those that reach a unit keep the rule of its registers, a start
of the panel sets every unit to its reset values, and every other command leaves the units alone.
-/

namespace Sys2Proof.Machine

/-- The rule in every unit. -/
def State.ChecksFit (s : State) : Prop := ∀ k, (s.check k).Fits

/-- The rule in the next state that a command answers. -/
def Out.checksFit : Out → Prop
  | .next t => t.ChecksFit
  | _ => True

/-! ### Ways to keep the rule -/

theorem State.ChecksFit.of_checks {s t : State} (h : s.ChecksFit) (ht : t.checks = s.checks) : t.ChecksFit := fun k => by
  simpa only [State.check, ht] using h k

/-- With no unit written since reset, each stands at the values of Table 10.6. -/
theorem State.checksFit_of_nil {s : State} (h : s.checks = []) : s.ChecksFit := fun k => by
  rw [State.check, h]
  exact CheckUnit.reset_fits

theorem Out.leavesChecks.fit {s : State} {o : Out} (ho : Out.leavesChecks s o) (h : s.ChecksFit) : o.checksFit := by
  cases o with
  | next t => exact h.of_checks ho
  | fault r => trivial
  | refused r => trivial

theorem State.ChecksFit.setCheck {s : State} (h : s.ChecksFit) (n : Nat) {u : CheckUnit} (hu : u.Fits) : (s.setCheck n u).ChecksFit := by
  intro k
  by_cases hk : k = n
  · rw [hk, State.check_setCheck]
    exact hu
  · rw [State.check_setCheck_ne _ _ hk]
    exact h k

/-- A write of a unit that leaves its registers. -/
theorem State.ChecksFit.setFlags {s : State} (h : s.ChecksFit) (n : Nat) {u : CheckUnit} (hctrl : u.ctrl = (s.check n).ctrl)
    (hpoly : u.poly = (s.check n).poly) (hinit : u.init = (s.check n).init) (hvalue : u.value = (s.check n).value) :
    (s.setCheck n u).ChecksFit :=
  h.setCheck n ((h n).of_registers hctrl hpoly hinit hvalue)

/-! ### Accesses of processors (R267 to R269) -/

theorem State.ChecksFit.checkClash {s : State} (h : s.ChecksFit) (unit : Nat) : (s.checkClash unit).ChecksFit := by
  have hset : (s.setCheck unit { s.check unit with clash := true }).ChecksFit := h.setFlags unit rfl rfl rfl rfl
  exact hset.of_checks (State.raise_checks ..)

theorem State.ChecksFit.checkAccess {s : State} (h : s.ChecksFit) (unit : Nat) (x : CheckOp) : (s.checkAccess unit x).ChecksFit := by
  unfold State.checkAccess
  dsimp only
  split_ifs
  · exact h.checkClash unit
  · exact h.setFlags unit rfl rfl rfl rfl
  · exact h.setCheck unit ((h unit).take x)

theorem State.ChecksFit.accesses {s : State} (h : s.ChecksFit) (unit : Nat) (l : List CheckOp) :
    (l.foldl (fun s x => s.checkAccess unit x) s).ChecksFit := by
  induction l generalizing s with
  | nil => exact h
  | cons x r ih => exact ih (h.checkAccess unit x)

theorem execCheckRegWrite_checksFit (unit reg : Nat) (v : BitVec 64) {s : State} (h : s.ChecksFit) :
    (execCheckRegWrite unit reg v s).checksFit := by
  refine iteInduction (motive := State.ChecksFit) (fun _ => ?_) (fun _ => h)
  exact h.checkAccess _ _

theorem execCheckFeedDone_checksFit (unit : Nat) {s : State} (h : s.ChecksFit) : (execCheckFeedDone unit s).checksFit := by
  have hset : (s.setCheck unit { s.check unit with feeds := (s.check unit).feeds - 1, waiting := [] }).ChecksFit :=
    h.setFlags unit rfl rfl rfl rfl
  exact hset.accesses unit _

theorem execCheckClashClear_checksFit (unit : Nat) {s : State} (h : s.ChecksFit) : (execCheckClashClear unit s).checksFit :=
  iteInduction (motive := State.ChecksFit) (fun _ => h.checkClash unit) (fun _ => h.setFlags unit rfl rfl rfl rfl)

/-! ### A mover's lock, feed and unlock (R252, R269) -/

theorem State.ChecksFit.setLocked {s : State} (h : s.ChecksFit) (held : Bool) (n : Nat) (v : Bool) :
    (if held then s.setCheck n { s.check n with locked := v } else s).ChecksFit :=
  iteInduction (motive := State.ChecksFit) (fun _ => h.setFlags n rfl rfl rfl rfl) (fun _ => h)

theorem execDescriptorFetch_checksFit (port chan : Nat) {s : State} (h : s.ChecksFit) : (execDescriptorFetch port chan s).checksFit := by
  have hset (c : MChan) : (s.setMchan port chan c).ChecksFit := h.of_checks (State.setMchan_checks ..)
  refine iteInduction (motive := State.ChecksFit) (fun _ => h) fun _ => iteInduction (motive := State.ChecksFit) (fun _ => hset _) fun _ =>
    iteInduction (motive := State.ChecksFit) (fun _ => h) fun _ => ?_
  dsimp only
  split
  · exact h.of_checks (by simp)
  · exact (hset _).setLocked _ _ _

theorem execMoverWriteIssue_checksFit (port chan : Nat) {s : State} (h : s.ChecksFit) : (execMoverWriteIssue port chan s).checksFit := by
  have hturn : (s.takeTurn port).ChecksFit := h.of_checks (State.takeTurn_checks ..)
  have hfed (n m : Nat) (l : List (BitVec 8)) (locked : Bool) :
      ((s.takeTurn port).setCheck n { ((s.takeTurn port).check m).feed l with
        locked := locked, feeds := ((s.takeTurn port).check m).feeds + 1 }).ChecksFit :=
    hturn.setCheck n (((hturn m).feed l).of_registers rfl rfl rfl rfl)
  unfold execMoverWriteIssue
  dsimp only [Out.checksFit]
  split
  · exact h
  · refine iteInduction (motive := State.ChecksFit) (fun _ => ?check) fun _ => iteInduction (motive := State.ChecksFit) (fun _ => ?far) fun _ =>
      iteInduction (motive := State.ChecksFit) (fun _ => ?near) fun _ => ?slot
    case check => exact (hfed _ _ _ _).of_checks (State.wrote'_checks ..)
    case far => exact hturn.of_checks (by simp)
    case near => exact hturn.of_checks (by simp)
    case slot => split <;> exact hturn.of_checks (by simp)

theorem execDescriptorComplete_checksFit (port chan : Nat) {s : State} (h : s.ChecksFit) : (execDescriptorComplete port chan s).checksFit := by
  have hmail (u : State) (told : Bool) (box : Nat) (m : BitVec 448) (hu : u.ChecksFit) :
      (if told then u.moverMail port box m chan else u).ChecksFit := hu.of_checks (by simp)
  unfold execDescriptorComplete
  dsimp only [Out.checksFit]
  split
  · exact h
  · refine iteInduction (motive := State.ChecksFit) (fun _ => h) fun _ => hmail _ _ _ _ (State.ChecksFit.setLocked ?_ _ _ _)
    exact h.of_checks (by simp)

/-! ### Starts of the panel (R290, R291, R390) -/

theorem execColdStart_checksFit {s : State} (h : s.ChecksFit) : (execColdStart s).checksFit := by
  unfold execColdStart
  dsimp only [Out.checksFit]
  split_ifs
  · exact h
  · exact h.of_checks (by simp)
  · exact State.checksFit_of_nil (by simp)
  · exact State.checksFit_of_nil (by simp)

theorem execInputRestored_checksFit {s : State} (h : s.ChecksFit) : (execInputRestored s).checksFit :=
  iteInduction (motive := State.ChecksFit) (fun _ => State.checksFit_of_nil s.warmStart_checks) (fun _ => h)

theorem execStandbyRelease_checksFit {s : State} (h : s.ChecksFit) : (execStandbyRelease s).checksFit := by
  unfold execStandbyRelease
  dsimp only [Out.checksFit]
  split_ifs
  · exact h
  · exact State.checksFit_of_nil (State.warmStart_checks _)
  · exact h.of_checks (by simp)

theorem execHoldUpExhausted_checksFit {s : State} (h : s.ChecksFit) : (execHoldUpExhausted s).checksFit := by
  unfold execHoldUpExhausted
  dsimp only [Out.checksFit]
  split
  · split_ifs
    · exact State.checksFit_of_nil (by simp)
    · exact State.checksFit_of_nil (by simp)
    · exact h
  · exact h

/-! ### Every command -/

theorem exec_checksFit (i : Instr) {s : State} (h : s.ChecksFit) : Out.checksFit (exec i s) := by
  cases i with
  | checkStart unit => exact h.checkAccess unit _
  | feed8 unit v => exact h.checkAccess unit _
  | feed16 unit v => exact h.checkAccess unit _
  | feed32 unit v => exact h.checkAccess unit _
  | checkRegWrite unit reg v => exact execCheckRegWrite_checksFit unit reg v h
  | checkFeedDone unit => exact execCheckFeedDone_checksFit unit h
  | checkClashClear unit => exact execCheckClashClear_checksFit unit h
  | descriptorFetch port chan => exact execDescriptorFetch_checksFit port chan h
  | moverWriteIssue port chan => exact execMoverWriteIssue_checksFit port chan h
  | descriptorComplete port chan => exact execDescriptorComplete_checksFit port chan h
  | coldStart => exact execColdStart_checksFit h
  | inputRestored => exact execInputRestored_checksFit h
  | standbyRelease => exact execStandbyRelease_checksFit h
  | holdUpExhausted => exact execHoldUpExhausted_checksFit h
  | nop | wait | loop | setix | bankpwr | fence | mark | trap | endStep | matrixDense | matrixBin | matrixStepDone | vectorArithmetic | vectorFunction
  | vectorReduce | softmaxHelper | rotary | convert | vectorStepDone | loadVaultToStore | storeToVault | furrowSend | furrowSendDone | furrowReceive |
  furrowReceiveDone | furrowBeatArrival | furrowDeadlineExpiry | bid | send | mergeOpen | mergeClose | tallyWait | tallyWaitSatisfied |
  tallyWaitTimeout | tallyPost | sieveSelect | tagComplete | watchdogExpiry | trapRecordSend =>
    exact Out.leavesChecks.fit (by simp [exec, execNop, execWait, execLoop, execSetix, execBankpwr, execFence, execMark, execTrap, execEndStep,
      execMatrixDense, execMatrixBin, execVectorArithmetic, execVectorFunction, execVectorReduce, execSoftmaxHelper, execRotary, execConvert,
      execLoadVaultToStore, execStoreToVault, execFurrowSend, execFurrowReceive, execBid, execMergeOpen, execMergeClose, execTallyWait, execTallyPost,
      execSieveSelect]) h
  | siteSequencerTrapHandle | stepListRefill | bankChangeDone | tileStoreArrivingWrite | storeTestInterval | storeTestDone | prioBucketRefill |
  checkPeriodEnd | phaseWindowEnd | tileFault | linkAliveTimeout | routeRecomputeDone | vaultColumnPowerUp | vaultClearDone | retrim |
  remoteQueueEnqueue | remoteAccessServe | poisonPatternWrite | scrubRead | refreshBurst | trickleRefresh | ceWitnessWindow | marketMatch |
  bidWordSend | grantArrival | slotVerdict | slotRetry | receiveBufferDrain | racReadRequest | racReadReply | mergeOpenAccept | mergeContribution |
  mergeResultWrite | mergeDeadline | orderlyWithdrawal | withdrawalComplete | abruptWithdrawal | portRestore | planeRetire | bundleRecoveryFrame |
  pathTest | fieldCacheScrub =>
    exact Out.leavesChecks.fit (by simp [exec, execSiteSequencerTrapHandle, execStepListRefill, execTileStoreArrivingWrite, execCheckPeriodEnd,
      execPhaseWindowEnd, execTileFault, execLinkAliveTimeout, execRouteRecomputeDone, execVaultColumnPowerUp, execVaultClearDone, execRetrim,
      execScrubRead, execRefreshBurst, execTrickleRefresh, execCeWitnessWindow, execMarketMatch, execOrderlyWithdrawal, execAbruptWithdrawal,
      execPortRestore, execPlaneRetire, execBundleRecoveryFrame, execPathTest, execFieldCacheScrub]) h
  | admitStream | prompt | cancel | unknownServingMessage | admitHoldExpiry | tokenSend | mirrorWaitExpiry | headRecordReceive | waveDispatch |
  waveEnd | waveRerun | queryArrival | streamTokenRerun | streamFaultTimeout | tallyPostArrival | planLoad | serveStart =>
    exact Out.leavesChecks.fit (by simp [exec, execHeadRecordReceive, execWaveDispatch, execQueryArrival, execPlanLoad, execServeStart]) h
  | laserPowerLoop | reserveSwitch | carrySwitch | fastFade | lampDieLost | ringTrack | calibration | laneLock | laneRecovery | laneDown |
  laneAcquireRetry | laneBerUpdate | dr8Underrun | receiveMaskChange | laneReportRepeat | laneReportReceive | stripeChangeReceive | stripeSwitch |
  heartbeatSend | heartbeatReceive | heartbeatMiss | linkUp =>
    exact Out.leavesChecks.fit (by simp [exec, execCarrySwitch, execLampDieLost, execLaneLock, execLaneRecovery, execLaneDown, execLaneAcquireRetry,
      execLaneBerUpdate, execDr8Underrun, execReceiveMaskChange, execLaneReportRepeat, execLaneReportReceive, execStripeChangeReceive,
      execHeartbeatSend, execHeartbeatReceive, execHeartbeatMiss]) h
  | transitFrame | msgPacket | copyPacket | writePacket | readPacket | readReplyPacket | invalLine | invalEpoch | mergePacket | ackPacket | openPacket
  | closePacket | ackSend | packetSend | rtoExpiry | increasePeriod | holdTimeout | remoteReadTimeout | channelCacheFill | neighbourSolicitation |
  icmpEchoRequest =>
    exact Out.leavesChecks.fit (by simp [exec, execTransitFrame, execMsgPacket, execCopyPacket, execWritePacket, execReadPacket, execReadReplyPacket,
      execMergePacket, execClosePacket, execPacketSend, execNeighbourSolicitation, execIcmpEchoRequest]) h
  | descriptorPost | moverReadIssue | moverReadData | moverResponse | moverStopSettled | writeResponseTimeout | channelResume | channelAbort |
  moverResume | mailboxWrite | mailboxWaitWrite | mailboxRelease | mboxWaitExpiry =>
    exact Out.leavesChecks.fit (by simp [exec, execDescriptorPost, execMoverReadData, execMoverStopSettled, execChannelResume, execChannelAbort,
      execMoverResume, execMailboxWrite, execMailboxWaitWrite, execMailboxRelease]) h
  | tick | freqChangeRequest | freqChangeGate | freqChangeRestart | freqChangeResume | vcoreRampDone | replicaSlow | crystalLost | spinePllUnlock |
  diePllUnlock | fieldTimeBaseLoss | bundleClockLoss | ptpSyncSend | ptpMessageReceive | announceTimeout | holdoverEnd | zoneRealignDone | inputSample
  | efuseShortTrip | efuseOvercurrent | efuseReclose | prechargeTestDone | zoneLost | railFault | powerSample | capLoopStep | sensorSample | stackTrip
  | heatZoneOff | heatZoneReturn | carryReturn | panelTrip | emergencyBitClear | standbyEnter | wakeNAssert =>
    exact Out.leavesChecks.fit (by simp [exec, execTick, execFreqChangeRequest, execCrystalLost, execSpinePllUnlock, execDiePllUnlock,
      execFieldTimeBaseLoss, execBundleClockLoss, execPtpSyncSend, execPtpMessageReceive, execAnnounceTimeout, execHoldoverEnd, execZoneRealignDone,
      execInputSample, execEfuseShortTrip, execEfuseOvercurrent, execEfuseReclose, execPrechargeTestDone, execZoneLost, execRailFault,
      execPowerSample, execCapLoopStep, execHeatZoneOff, execHeatZoneReturn, execPanelTrip, execStandbyEnter]) h
  | read | write | stage | commit | commitApply | edgeApply | abort | subscribe | notify | list | hello | proof | bye | challengeTimeout |
  sessionIdleTimeout | helloLockoutEnd | commandTimeout | portWithdrawCmd | switchover | imageVerify | imageVerifyDone | imageActivateLive |
  imageActivateNextStart | blackboxFlush | blackboxFlushDone | blackboxSlotErase | stackOut | lifeCycleToProvisioned | lifeCycleToDeployed |
  lifeCycleToService | lifeCycleToDecommissioned | wipeDone =>
    exact Out.leavesChecks.fit (by simp [exec, execCommitApply, execEdgeApply, execHelloLockoutEnd, execPortWithdrawCmd, execSwitchover,
      execImageVerify, execImageActivateLive, execImageActivateNextStart, execBlackboxFlush, execBlackboxFlushDone, execBlackboxSlotErase,
      execStackOut, execLifeCycleToProvisioned, execLifeCycleToDeployed, execLifeCycleToService, execLifeCycleToDecommissioned]) h
  | zoneResetCmd | baseZoneReset | zoneResetDrainDone | leaseRenew | renewReceive | leaseStandDown | leaseExpiry | leaseGrant | firstLeaseTimeout |
  leaseRelease | leaseRevoke | cuOutputReceive | compareWindowEnd | selfCheckOutcome | resyncStart | resyncDone | unitRomStart | procCrash |
  procWatchdogExpiry | procRestartDone | updateHandoverStart | updateCommit | handoverTimeout | cuMailboxService =>
    exact Out.leavesChecks.fit (by simp [exec, execZoneResetCmd, execBaseZoneReset, execZoneResetDrainDone, execLeaseRenew, execLeaseStandDown,
      execLeaseExpiry, execLeaseGrant, execFirstLeaseTimeout, execLeaseRelease, execCuOutputReceive, execCompareWindowEnd, execResyncStart,
      execProcCrash, execProcWatchdogExpiry, execProcRestartDone]) h
  | stackFailureDetect | siteLivenessWrite | siteSilent | promotionStageDone | replicaResume | suspendedStreamTimeout | stackRetest | panelLost |
  panelFenced | adoption | remirrorDone | levyMeterPeriod | startupStageEnd | tapInstruction | planLoadDone | overlapExpiry | alwaysOnFeedRemoved |
  holdUpStoreCharged | replicaMarginLow | tapReset =>
    exact Out.leavesChecks.fit (by simp [exec, execStackFailureDetect, execSiteLivenessWrite, execSiteSilent, execReplicaResume, execStackRetest,
      execPanelLost, execPanelFenced, execLevyMeterPeriod, execStartupStageEnd, execTapInstruction, execAlwaysOnFeedRemoved, execHoldUpStoreCharged,
      execReplicaMarginLow, execTapReset]) h

/-- Settles O55: a step is the execution of the command at the front of the queue, and each command keeps the rule. -/
theorem checkUnitsKeepTheirWidth : Obligations.CheckUnitsKeepTheirWidth := by
  unfold Obligations.CheckUnitsKeepTheirWidth
  intro s t h hstep
  have hfits : Out.checksFit (step s) := by
    unfold step
    split
    · exact h
    · exact exec_checksFit _ (State.ChecksFit.of_checks h rfl)
  rw [hstep] at hfits
  exact hfits

end Sys2Proof.Machine
end

section
/-!
Mailboxes (R260 to R265): what a write, a write in wait mode and a release leave in the copies of a mailbox, in the response and in D.0A08.
-/

namespace Sys2Proof.Machine

/-! ### Copies (R265) -/

theorem mem_boxCopies_self (n : Nat) : n ∈ boxCopies n := by
  unfold boxCopies
  split
  · simp only [List.mem_cons, List.not_mem_nil, or_false]
    omega
  · simp

theorem boxCopies_nodup (n : Nat) : (boxCopies n).Nodup := by
  unfold boxCopies
  split <;> simp

theorem State.box_foldl_setBox (l : List Nat) (b : Mailbox) (s : State) (k : Nat) :
    (l.foldl (fun s k => s.setBox k b) s).box k = if k ∈ l then b else s.box k := by
  induction l generalizing s with
  | nil => rfl
  | cons x r ih =>
    rw [List.foldl_cons, ih]
    by_cases hx : k = x
    · simp [hx]
    · simp [hx, State.box_setBox_ne]

theorem State.box_setBoxes (s : State) (n : Nat) (b : Mailbox) (k : Nat) :
    (s.setBoxes n b).box k = if k ∈ boxCopies n then b else s.box k := State.box_foldl_setBox _ _ _ _

@[simp] theorem State.box_setBoxes_self (s : State) (n : Nat) (b : Mailbox) : (s.setBoxes n b).box n = b := by
  rw [State.box_setBoxes, if_pos (mem_boxCopies_self n)]

@[simp] theorem State.setBoxes_out (s : State) (n : Nat) (b : Mailbox) : (s.setBoxes n b).out = s.out := s.setBoxes_unchanged n b .out (by simp)

@[simp] theorem State.setBoxes_time (s : State) (n : Nat) (b : Mailbox) : (s.setBoxes n b).time = s.time := s.setBoxes_unchanged n b .time (by simp)

@[simp] theorem State.setBoxes_log (s : State) (n : Nat) (b : Mailbox) : (s.setBoxes n b).log = s.log := s.setBoxes_unchanged n b .log (by simp)

@[simp] theorem State.obj_setBoxes (s : State) (n : Nat) (b : Mailbox) (o : Obj) (i : Nat) : (s.setBoxes n b).obj o i = s.obj o i :=
  (s.setBoxes_unchanged n b).obj (by simp) o i

theorem unchangedBut.box {l : List Part} {s t : State} (h : unchangedBut l s t) (hl : Part.boxes ∉ l) (n : Nat) : t.box n = s.box n := by
  rw [State.box, h .boxes hl, State.box]

/-! ### Writes (R261) -/

/-- What a mailbox holds once a message is stored over what it held. -/
def State.boxStored (s : State) (n : Nat) (payload : BitVec 448) (skind sproc sport stile schan : Nat) : Mailbox :=
  let q := ((s.box n).seq + 1) % 256
  { s.box n with msg := stampMsg payload skind sproc sport stile schan q s.time, full := true, seq := q }

/-- What it holds once the message has overwritten another: an event that is due clears the count of collisions. -/
def Mailbox.collided (b : Mailbox) (now : Nat) : Mailbox :=
  if dueEvent b.evCollision now 1000000 then { b with collision := true, collisions := 0, evCollision := some now }
  else { b with collision := true, collisions := b.collisions + 1 }

theorem Mailbox.collided_eq (b : Mailbox) (now : Nat) : (b.collided now).msg = b.msg ∧ (b.collided now).full = b.full ∧
    (b.collided now).seq = b.seq ∧ (b.collided now).collision = true := by
  unfold Mailbox.collided
  split <;> exact ⟨rfl, rfl, rfl, rfl⟩

/-- D.0A08 counts the overwrite at every copy. -/
def State.overwriteCounted (s : State) (n : Nat) : State := (boxCopies n).foldl (fun s k => s.bump .D0A08 k 1) s

theorem State.obj_foldl_bump (o o' : Obj) (i : Nat) {l : List Nat} (hl : l.Nodup) (s : State) :
    (l.foldl (fun s k => s.bump o k 1) s).obj o' i = if o' = o ∧ i ∈ l then s.obj o' i + 1 else s.obj o' i := by
  induction l generalizing s with
  | nil => simp
  | cons x r ih =>
    obtain ⟨hx, hr⟩ := List.nodup_cons.mp hl
    rw [List.foldl_cons, ih hr, State.bump, State.obj_setObj_eq]
    by_cases ho : o' = o <;> by_cases hi : i = x <;> simp_all

theorem State.overwriteCounted_keeps (s : State) (n : Nat) : Keeps [.objs] [.D0A08] s (s.overwriteCounted n) :=
  .foldl (fun s k => s.bump_keeps .D0A08 k 1) _ s

variable {s : State} {n : Nat} (payload : BitVec 448) (skind sproc sport stile schan : Nat)

theorem State.mailWrite_of_reserved (hr : boxReserved n = true) :
    s.mailWrite n payload skind sproc sport stile schan = s.send (.writeResponse skind sport n false false .accessDenied) := if_pos hr

theorem State.mailWrite_of_empty (hr : boxReserved n = false) (hf : (s.box n).full = false) : s.mailWrite n payload skind sproc sport stile schan =
    (s.setBoxes n (s.boxStored n payload skind sproc sport stile schan)).send (.writeResponse skind sport n false false .ok) := by
  simp only [State.mailWrite, hr, hf, Bool.false_eq_true, if_false]
  rfl

/-- The state that an overwriting message leaves before its response. -/
def State.overwritten (s : State) (n : Nat) (payload : BitVec 448) (skind sproc sport stile schan : Nat) : State :=
  let b := s.boxStored n payload skind sproc sport stile schan
  let u := ((s.overwriteCounted n).setBoxes n b).setBoxes n (b.collided s.time)
  if dueEvent b.evCollision s.time 1000000 then u.raise evMboxCollision noSubject [n, b.collisions + 1] else u

theorem State.mailWrite_of_full (hr : boxReserved n = false) (hf : (s.box n).full = true) : s.mailWrite n payload skind sproc sport stile schan =
    (s.overwritten n payload skind sproc sport stile schan).send (.writeResponse skind sport n true false .ok) := by
  have hkeeps := s.overwriteCounted_keeps n
  have hbox : (s.overwriteCounted n).box n = s.box n := hkeeps.1.box (by simp) n
  have htime : (s.overwriteCounted n).time = s.time := hkeeps.1.time (by simp)
  have hstored : (s.overwriteCounted n).mailStore n payload skind sproc sport stile schan =
      (s.overwriteCounted n).setBoxes n (s.boxStored n payload skind sproc sport stile schan) := by
    simp only [State.mailStore, hbox, htime, State.boxStored]
  simp only [State.mailWrite, hr, hf, Bool.false_eq_true, if_false, if_true, State.overwritten, Mailbox.collided]
  rw [show (boxCopies n).foldl (fun s k => s.bump .D0A08 k 1) s = s.overwriteCounted n from rfl, hstored]
  simp only [State.box_setBoxes_self, State.setBoxes_time, htime]
  split <;> rfl

/-- What an event does not show reads the same whether it is raised or not. -/
theorem ite_raise {α : Type} (f : State → α) (hf : ∀ u c k d, f (State.raise u c k d) = f u) (p : Prop) [Decidable p] (u : State) (c k : Nat)
    (d : List Nat) : f (if p then u.raise c k d else u) = f u := by
  split
  · exact hf ..
  · rfl

/-- What an overwrite leaves: the message in every copy with collision set, one more in D.0A08 of each, and the event when it is due. -/
theorem State.overwritten_spec : let t := s.overwritten n payload skind sproc sport stile schan
    let b := s.boxStored n payload skind sproc sport stile schan
    (∀ k, t.box k = if k ∈ boxCopies n then b.collided s.time else s.box k) ∧ t.out = s.out ∧
    (∀ o i, t.obj o i = if o = .D0A08 ∧ i ∈ boxCopies n then s.obj o i + 1 else s.obj o i) ∧
    (dueEvent b.evCollision s.time 1000000 = false → t.log = s.log) ∧
    (dueEvent b.evCollision s.time 1000000 = true →
      t.log.events.head?.map (fun e => (e.code, e.subject, e.data)) = some (evMboxCollision, noSubject, [n, b.collisions + 1])) := by
  intro t b
  have hkeeps := s.overwriteCounted_keeps n
  refine ⟨fun k => ?_, ?_, fun o i => ?_, fun hd => ?_, fun hd => ?_⟩
  · refine (ite_raise (State.box · k) (fun _ _ _ _ => rfl) _ _ _ _ _).trans ?_
    rw [State.box_setBoxes, State.box_setBoxes, hkeeps.1.box (by simp)]
    split <;> rfl
  · refine (ite_raise State.out (fun _ _ _ _ => rfl) _ _ _ _ _).trans ?_
    rw [State.setBoxes_out, State.setBoxes_out]
    exact hkeeps.1 .out (by simp)
  · refine (ite_raise (State.obj · o i) (fun _ _ _ _ => rfl) _ _ _ _ _).trans ?_
    rw [State.obj_setBoxes, State.obj_setBoxes]
    exact State.obj_foldl_bump _ _ _ (boxCopies_nodup n) s
  · have ht : t = ((s.overwriteCounted n).setBoxes n b).setBoxes n (b.collided s.time) := if_neg (by rw [hd]; decide)
    rw [ht, State.setBoxes_log, State.setBoxes_log]
    exact hkeeps.1 .log (by simp)
  · have ht : t = (((s.overwriteCounted n).setBoxes n b).setBoxes n (b.collided s.time)).raise evMboxCollision noSubject [n, b.collisions + 1] :=
      if_pos hd
    rw [ht]
    rfl

end Sys2Proof.Machine
end

section
/-!
Mailboxes: a write in wait mode and a release (R262 to R265), and the statements about writes and releases.
-/

namespace Sys2Proof.Machine

/-! ### Writes in wait mode (R264) -/

theorem State.mailWait_of_empty {s : State} {n : Nat} (payload : BitVec 448) (skind sproc sport stile schan : Nat) (hr : boxReserved n = false)
    (hf : (s.box n).full = false) : let t := (s.mailWait n payload skind sproc sport stile schan).1
    (t.box n).full = true ∧ (t.box n).seq = ((s.box n).seq + 1) % 256 ∧ t.out = s.out ++ [.writeResponse skind sport n false false .ok] := by
  simp only [State.mailWait, hr, hf, Bool.false_eq_true, if_false, State.mailStore, State.box_send, State.box_setBoxes_self, true_and]
  simp only [State.send, State.setBoxes_out]

theorem State.mailWait_of_full {s : State} {n : Nat} (payload : BitVec 448) (skind sproc sport stile schan : Nat) (hr : boxReserved n = false)
    (hf : (s.box n).full = true) : let t := (s.mailWait n payload skind sproc sport stile schan).1
    (t.box n).msg = (s.box n).msg ∧ (t.box n).seq = (s.box n).seq ∧ (skind, sport) ∈ (t.box n).waiters ∧
      (t.box n).waits.any (fun w => w.1 == (skind, sport)) = true ∧ t.out = s.out ++ [.writeResponse skind sport n false true .ok] := by
  simp only [State.mailWait, hr, hf, Bool.false_eq_true, if_false, if_true, State.box_send, State.box_setBoxes_self, true_and]
  refine ⟨?waits, ?since, ?_⟩
  case waits =>
    split
    · next h => exact List.contains_iff_mem.mp h
    · simp
  case since =>
    split
    · next h => exact h
    · simp
  · simp only [State.send, State.setBoxes_out]

/-! ### Releases (R262, R263, R265) -/

/-- A release that does not come from the lease holder, or with another seq than the present one, or of an empty mailbox. -/
theorem State.mailRelease_idle {s : State} {n q : Nat} {byHolder : Bool}
    (h : n < 64 ∧ byHolder = false ∨ (s.box n).full = false ∨ q ≠ (s.box n).seq) : s.mailRelease n q byHolder = s := by
  refine if_pos ?_
  simpa [or_assoc] using h

/-- The writers that a release tells: those who wait, and the sender of the message that it takes. -/
def Mailbox.told (b : Mailbox) : List (Nat × Nat) :=
  if fld b.msg 448 4 ≤ 2 && !b.waiters.contains (fld b.msg 448 4, fld b.msg 454 7) then (fld b.msg 448 4, fld b.msg 454 7) :: b.waiters
  else b.waiters

theorem Mailbox.mem_told {b : Mailbox} {w : Nat × Nat} (h : w ∈ b.waiters) : w ∈ b.told := by
  unfold Mailbox.told
  split
  · exact List.mem_cons_of_mem _ h
  · exact h

theorem foldl_id {α β : Type} {f : β → α → β} {l : List α} (h : ∀ x ∈ l, ∀ b, f b x = b) (b : β) : l.foldl f b = b := by
  induction l generalizing b with
  | nil => rfl
  | cons x r ih => rw [List.foldl_cons, h x List.mem_cons_self, ih fun y hy => h y (List.mem_cons_of_mem _ hy)]

/-- The holder's release with the present seq, when neither a site sequencer nor a mover waits to write again. -/
theorem State.mailRelease_of_full {s : State} {n : Nat} {byHolder : Bool} (hh : n < 64 → byHolder = true) (hf : (s.box n).full = true)
    (hw : ∀ w ∈ (s.box n).waiters, w.1 ≠ 2 ∧ w.1 ≠ 4) : s.mailRelease n (s.box n).seq byHolder =
      (s.box n).told.foldl (fun u p => u.send (.emptyNotice p.1 p.2 n))
        (s.setBoxes n { s.box n with full := false, collision := false, waiters := [] }) := by
  have hgo : ((decide (n < 64) && !byHolder) || !(s.box n).full || decide ((s.box n).seq ≠ (s.box n).seq)) = false := by simpa [hf] using hh
  simp only [State.mailRelease, hgo, Bool.false_eq_true, if_false]
  rw [foldl_id (l := (s.box n).waiters)]
  · rfl
  · intro w hmem u
    obtain ⟨h2, h4⟩ := hw w hmem
    rw [if_neg h2, if_neg h4]

/-- What the release of a full mailbox leaves. -/
theorem exec_mailboxRelease_of_full {s : State} {n : Nat} (hh : n < 64 → s.keeper.holder = some (n / 32)) (hf : (s.box n).full = true)
    (hw : ∀ w ∈ (s.box n).waiters, w.1 ≠ 2 ∧ w.1 ≠ 4) : ∃ t : State, exec (.mailboxRelease n (s.box n).seq) s = .next t ∧
      t.box n = { s.box n with full := false, collision := false, waiters := [] } ∧ (∀ k, k ∉ boxCopies n → t.box k = s.box k) ∧
      (∀ w ∈ (s.box n).waiters, Sent.emptyNotice w.1 w.2 n ∈ t.out) ∧ unchangedBut [.boxes, .out] s t := by
  obtain ⟨⟨hparts, -⟩, hout⟩ := State.foldl_send (fun p : Nat × Nat => .emptyNotice p.1 p.2 n) (s.box n).told
    (s.setBoxes n { s.box n with full := false, collision := false, waiters := [] })
  refine ⟨_, congrArg Host.Outcome.next (State.mailRelease_of_full (fun hn => beq_iff_eq.mpr (hh hn)) hf hw), ?_, fun k hk => ?_, fun w hmem => ?_,
    ((s.setBoxes_unchanged n _).mono (by simp)).trans (hparts.mono (by simp))⟩
  · exact (hparts.box (by simp) n).trans (State.box_setBoxes_self _ _ _)
  · exact (hparts.box (by simp) k).trans ((State.box_setBoxes _ _ _ _).trans (if_neg hk))
  · rw [hout]
    exact List.mem_append_right _ (List.mem_map_of_mem (Mailbox.mem_told hmem))

/-! ### The statements -/

/-- Settles O52: each kind of mailbox at the front of a write is one equation of State.mailWrite. -/
theorem mailboxWriteRules : Obligations.MailboxWriteRules := by
  unfold Obligations.MailboxWriteRules
  intro s n skind sproc sport stile schan payload c q stored
  have hparts := (s.mailWrite_keeps n payload skind sproc sport stile schan).1
  refine ⟨fun hr hf => ?empty, fun hr hf => ?full, fun hr => ?reserved⟩
  case empty =>
    refine ⟨_, congrArg Host.Outcome.next (State.mailWrite_of_empty payload skind sproc sport stile schan hr hf), ?_⟩
    simp only [stored, State.box_send, State.box_setBoxes_self]
    refine ⟨⟨rfl, rfl, rfl⟩, rfl, congrArg (· ++ _) (s.setBoxes_out _ _), ?_⟩
    exact ((s.setBoxes_unchanged n _).mono (by simp)).trans ((State.send_unchanged _ _).mono (by simp))
  case full =>
    rw [State.mailWrite_of_full payload skind sproc sport stile schan hr hf] at hparts
    obtain ⟨hbox, hout, hobj, hquiet, hevent⟩ := s.overwritten_spec (n := n) payload skind sproc sport stile schan
    have hn := (hbox n).trans (if_pos (mem_boxCopies_self n))
    obtain ⟨hmsg, hfull, hseq, hcoll⟩ := (s.boxStored n payload skind sproc sport stile schan).collided_eq s.time
    refine ⟨_, congrArg Host.Outcome.next (State.mailWrite_of_full payload skind sproc sport stile schan hr hf), ?_⟩
    simp only [stored, State.box_send, hn, hmsg, hfull, hseq, hcoll]
    refine ⟨⟨rfl, rfl, rfl⟩, trivial, congrArg (· ++ _) hout, fun k hk => ?_, fun o i ho => ?_, hparts.mono (by decide),
      fun u hu hlt => ?_, fun hev => ?_⟩
    · exact (hobj _ _).trans (if_pos ⟨rfl, hk⟩)
    · exact (hobj _ _).trans (if_neg fun h => ho.elim (· h.1) (· h.2))
    · have hdue : dueEvent (s.boxStored n payload skind sproc sport stile schan).evCollision s.time 1000000 = false := by
        simp [State.boxStored, dueEvent, hu, hlt]
      exact ⟨hquiet hdue, (congrArg Mailbox.evCollision (if_neg (by simp [hdue]))).trans hu⟩
    · have hdue : dueEvent (s.boxStored n payload skind sproc sport stile schan).evCollision s.time 1000000 = true := by
        obtain hnone | ⟨u, hu, hle⟩ := hev
        · simp [State.boxStored, dueEvent, hnone]
        · simp [State.boxStored, dueEvent, hu, hle]
      exact ⟨hevent hdue, congrArg Mailbox.evCollision (if_pos hdue)⟩
  case reserved =>
    exact ⟨_, congrArg Host.Outcome.next (State.mailWrite_of_reserved payload skind sproc sport stile schan hr), rfl, s.send_unchanged _⟩

/-- Settles O53: a release takes the message it read or nothing; a write in between moves the count on. -/
theorem mailboxReleaseRules : Obligations.MailboxReleaseRules := by
  unfold Obligations.MailboxReleaseRules
  refine ⟨fun s n hh hf hw => ?taken, fun s n q h => ?idle, fun s n skind sproc sport stile schan payload hr hf => ?overtaken⟩
  case taken =>
    obtain ⟨t, he, hbox, hother, -, hparts⟩ := exec_mailboxRelease_of_full hh hf hw
    exact ⟨t, he, by rw [hbox], by rw [hbox], by rw [hbox], by rw [hbox], hother, hparts⟩
  case idle =>
    refine congrArg Host.Outcome.next (State.mailRelease_idle ?_)
    rcases h with h | h | ⟨hn, h⟩
    · exact .inr (.inl h)
    · exact .inr (.inr h)
    · exact .inl ⟨hn, beq_eq_false_iff_ne.mpr h⟩
  case overtaken =>
    obtain ⟨hbox, -⟩ := s.overwritten_spec (n := n) payload skind sproc sport stile schan
    have hn := (hbox n).trans (if_pos (mem_boxCopies_self n))
    obtain ⟨hmsg, hfull, hseq, hcoll⟩ := (s.boxStored n payload skind sproc sport stile schan).collided_eq s.time
    have hmoved : (s.box n).seq ≠ ((s.box n).seq + 1) % 256 := by omega
    refine ⟨_, congrArg Host.Outcome.next (State.mailWrite_of_full payload skind sproc sport stile schan hr hf), ?_⟩
    simp only [State.box_send, hn, hmsg, hfull, hseq, hcoll]
    refine ⟨rfl, trivial, rfl, congrArg Host.Outcome.next (State.mailRelease_idle (.inr (.inr ?_)))⟩
    rw [State.box_send, hn, hseq]
    exact hmoved

end Sys2Proof.Machine
end

section
/-!
Check units: what an access of a processor and the end of a feed's cycles leave (R266 to R269), and the values at reset (Table 10.6).
-/

namespace Sys2Proof.Machine

theorem State.setCheck_unchanged (s : State) (n : Nat) (u : CheckUnit) : unchangedBut [.checks] s (s.setCheck n u) := by
  rw [unchangedBut_iff]
  simp

/-- Writing one unit. -/
theorem State.setCheck_spec (s : State) (n : Nat) (u : CheckUnit) : (s.setCheck n u).check n = u ∧
    (∀ k, k ≠ n → (s.setCheck n u).check k = s.check k) ∧ unchangedBut [.checks] s (s.setCheck n u) :=
  ⟨s.check_setCheck n u, fun _ hk => s.check_setCheck_ne u hk, s.setCheck_unchanged n u⟩

/-! ### Accesses (R266 to R268) -/

theorem State.checkAccess_free {s : State} {unit : Nat} (hlocked : (s.check unit).locked = false) (hfree : (s.check unit).feeds = 0)
    (x : CheckOp) : s.checkAccess unit x = s.setCheck unit ((s.check unit).take x) := by
  simp [State.checkAccess, hlocked, hfree]

theorem State.checkAccess_busy {s : State} {unit : Nat} (hlocked : (s.check unit).locked = false) (hbusy : (s.check unit).feeds ≠ 0)
    (x : CheckOp) : s.checkAccess unit x = s.setCheck unit { s.check unit with waiting := (s.check unit).waiting ++ [x] } := by
  simp [State.checkAccess, hlocked, hbusy]

theorem State.checkAccess_locked {s : State} {unit : Nat} (hlocked : (s.check unit).locked = true) (x : CheckOp) :
    s.checkAccess unit x = s.checkClash unit := if_pos hlocked

/-- The registers that a write reaches, by their offsets (Table 10.6). -/
theorem exec_checkRegWrite {off : Nat} (hoff : off = 0 ∨ off = 8 ∨ off = 16 ∨ off = 24) (unit : Nat) (v : BitVec 64) (s : State) :
    exec (.checkRegWrite unit off v) s = .next (s.checkAccess unit (.reg off v)) := congrArg Host.Outcome.next (if_pos hoff)

/-- A mover's lock makes a processor's write a clash (R269). -/
theorem State.checkClash_spec (s : State) (unit : Nat) : (s.checkClash unit).check unit = { s.check unit with clash := true } ∧
    (s.checkClash unit).log.events.head?.map (fun e => (e.code, e.subject, e.data)) = some (evCheckClash, noSubject, [unit / 4, unit % 4]) ∧
    unchangedBut [.checks, .log] s (s.checkClash unit) :=
  ⟨s.check_setCheck unit _, rfl, ((s.setCheck_unchanged unit _).mono (by simp)).trans ((State.raise_unchanged _ _ _ _).mono (by simp))⟩

/-! ### A restored computation (R268) -/

/-- Nine bits of CTRL, read and written back. -/
theorem ctrl_written_back {c : BitVec 32} (h : c &&& 0x1FF#32 = c) :
    (c.setWidth 64 &&& 0x1FF#64).setWidth 32 = c ∧ bit (c.setWidth 64) 9 = false := by
  constructor
  · rw [BitVec.setWidth_and, BitVec.setWidth_setWidth_of_le _ (by decide), BitVec.setWidth_eq]
    exact h
  · have hbit : c.getLsbD 9 = false := by rw [← h]; simp
    simpa [bit] using hbit

/-- The four writes in order leave the registers that were read. -/
theorem CheckUnit.take_saved {u w : CheckUnit} (hmasked : u.masked = u) (hctrl : u.ctrl &&& 0x1FF#32 = u.ctrl) :
    (((w.take (.reg 0 (u.ctrl.setWidth 64))).take (.reg 8 u.poly)).take (.reg 16 u.init)).take (.reg 24 u.value) =
      { u with feeds := w.feeds, locked := w.locked, clash := w.clash, waiting := w.waiting } := by
  obtain ⟨hback, hstart⟩ := ctrl_written_back hctrl
  obtain ⟨hpoly, hinit, hvalue, -⟩ := (u.fits_iff).mp ⟨hmasked, hctrl⟩
  simp only [CheckUnit.width] at hpoly hinit hvalue
  simp [CheckUnit.take, hback, hstart, CheckUnit.masked, CheckUnit.width, hpoly, hinit, hvalue]

theorem CheckUnit.take_reg_free (w : CheckUnit) (off : Nat) (v : BitVec 64) :
    (w.take (.reg off v)).feeds = w.feeds ∧ (w.take (.reg off v)).locked = w.locked := by
  unfold CheckUnit.take
  dsimp only
  split_ifs <;> exact ⟨rfl, rfl⟩

/-- A register write to a unit that is neither busy nor locked leaves it so. -/
theorem exec_checkRegWrite_free {off : Nat} (hoff : off = 0 ∨ off = 8 ∨ off = 16 ∨ off = 24) {s : State} {unit : Nat} (v : BitVec 64)
    (hfree : (s.check unit).feeds = 0 ∧ (s.check unit).locked = false) : ∃ t : State, exec (.checkRegWrite unit off v) s = .next t ∧
      t.check unit = (s.check unit).take (.reg off v) ∧ ((t.check unit).feeds = 0 ∧ (t.check unit).locked = false) ∧
      (∀ k, k ≠ unit → t.check k = s.check k) ∧ unchangedBut [.checks] s t := by
  obtain ⟨hself, hother, hparts⟩ := s.setCheck_spec unit ((s.check unit).take (.reg off v))
  obtain ⟨hfeeds, hlocked⟩ := (s.check unit).take_reg_free off v
  refine ⟨_, (exec_checkRegWrite hoff unit v s).trans (congrArg _ (State.checkAccess_free hfree.2 hfree.1 _)), hself, ?_, hother, hparts⟩
  rw [hself, hfeeds, hlocked]
  exact hfree

/-- Settles O54: each write is the access of a free unit and leaves it free, and together they restore the registers. -/
theorem checkUnitSaveAndRestore : Obligations.CheckUnitSaveAndRestore := by
  unfold Obligations.CheckUnitSaveAndRestore
  intro s t unit k u hmasked hctrl hfeeds hlocked hfree hopen
  obtain ⟨t1, he1, hu1, hf1, ho1, hp1⟩ := exec_checkRegWrite_free (off := 0) (by simp) (u.ctrl.setWidth 64) ⟨hfree, hopen⟩
  obtain ⟨t2, he2, hu2, hf2, ho2, hp2⟩ := exec_checkRegWrite_free (off := 8) (by simp) u.poly hf1
  obtain ⟨t3, he3, hu3, hf3, ho3, hp3⟩ := exec_checkRegWrite_free (off := 16) (by simp) u.init hf2
  obtain ⟨t4, he4, hu4, -, ho4, hp4⟩ := exec_checkRegWrite_free (off := 24) (by simp) u.value hf3
  have hrestored : t4.check k = { u with clash := (t.check k).clash, waiting := (t.check k).waiting } := by
    rw [hu4, hu3, hu2, hu1, CheckUnit.take_saved hmasked hctrl, hfree, hopen, ← hfeeds, ← hlocked]
  refine ⟨t1, t2, t3, t4, he1, he2, he3, he4, hrestored, fun j hj => ?_, ((hp1.trans hp2).trans hp3).trans hp4, fun l => ?_⟩
  · rw [ho4 j hj, ho3 j hj, ho2 j hj, ho1 j hj]
  · rw [hrestored]
    rfl

/-! ### Reset -/

/-- Settles O56: each value is what State.reset gives; a check unit that nothing has written stands at its reset values. -/
theorem resetState : Obligations.ResetState := by
  unfold Obligations.ResetState
  exact ⟨rfl, rfl, rfl, rfl, rfl, fun _ _ => rfl, fun _ => ⟨rfl, rfl, rfl, rfl, CheckUnit.reset_fits⟩⟩

end Sys2Proof.Machine
end

section
/-!
The commands of mailboxes and check units, each by the lemma of its operation (R261 to R269).
-/

namespace Sys2Proof.Machine

/-- A message that has waited more than 1 ms, with MBOX_WAIT not raised for it within the last (R264). -/
theorem exec_mboxWaitExpiry_due {s : State} {n u : Nat} (hwait : (s.box n).oldestWait = some u) (hlate : u + 1000000 < s.time)
    (hdue : dueEvent (s.box n).evWait s.time 1000000 = true) : exec (.mboxWaitExpiry n) s =
      .next ((s.setBoxes n { s.box n with evWait := some s.time }).raise evMboxWait noSubject [n, (s.time - u) / 1000]) := by
  refine congrArg Host.Outcome.next ?_
  simp only [hwait, hlate, hdue, and_self, if_true]

/-- The cycles of a feed end (R267). -/
theorem exec_checkFeedDone_eq (s : State) (unit : Nat) : exec (.checkFeedDone unit) s =
    .next ((s.check unit).waiting.foldl (fun s x => s.checkAccess unit x)
      (s.setCheck unit { s.check unit with feeds := (s.check unit).feeds - 1, waiting := [] })) := rfl

/-- An access of a free unit takes effect. -/
theorem State.checkAccess_takes {s : State} {unit : Nat} (hlocked : (s.check unit).locked = false) (hfree : (s.check unit).feeds = 0) {c : Instr}
    {x : CheckOp} (hc : exec c s = .next (s.checkAccess unit x)) : ∃ t : State, exec c s = .next t ∧ t.check unit = (s.check unit).take x ∧
      (∀ k, k ≠ unit → t.check k = s.check k) ∧ unchangedBut [.checks] s t :=
  ⟨_, hc.trans (congrArg _ (State.checkAccess_free hlocked hfree x)), s.setCheck_spec unit _⟩

/-- The last feed ends, and the access that waits takes effect (R267). -/
theorem exec_checkFeedDone_waiting {s : State} {unit : Nat} {u : CheckUnit} {x : CheckOp} (hu : s.check unit = { u with waiting := [x] })
    (hlocked : u.locked = false) (hlast : u.feeds = 1) : ∃ t : State, exec (.checkFeedDone unit) s = .next t ∧
      t.check unit = CheckUnit.take { u with feeds := 0, waiting := [] } x ∧ unchangedBut [.checks] s t := by
  obtain ⟨hended, -, hparts⟩ := s.setCheck_spec unit { u with feeds := 0, waiting := [] }
  obtain ⟨htaken, -, hparts'⟩ := (s.setCheck unit { u with feeds := 0, waiting := [] }).setCheck_spec unit
    (CheckUnit.take { u with feeds := 0, waiting := [] } x)
  refine ⟨_, (exec_checkFeedDone_eq s unit).trans (congrArg _ ?_), htaken, hparts.trans hparts'⟩
  simp only [hu, hlast, Nat.sub_self, List.foldl_cons, List.foldl_nil]
  rw [State.checkAccess_free (by rw [hended]; exact hlocked) (by rw [hended]), hended]

/-- A feed of a busy unit waits, and takes effect once the one before it ends (R267). -/
theorem feed_waits {s : State} {unit : Nat} (v : BitVec 32) (hlocked : (s.check unit).locked = false) (hbusy : (s.check unit).feeds = 1)
    (hwait : (s.check unit).waiting = []) : let u := s.check unit
    ∃ t t' : State, exec (.feed32 unit v) s = .next t ∧ t.check unit = { u with waiting := [.feed 4 v] } ∧ unchangedBut [.checks] s t ∧
      exec (.checkFeedDone unit) t = .next t' ∧ t'.check unit = { u with value := crcBytes u.width (bit u.ctrl 6) u.poly u.value (bytesOf v 4) } ∧
      unchangedBut [.checks] t t' := by
  intro u
  obtain ⟨hself, -, hparts⟩ := s.setCheck_spec unit { u with waiting := u.waiting ++ [.feed 4 v] }
  have hqueued := hself.trans (by rw [hwait, List.nil_append] : _ = { u with waiting := [.feed 4 v] })
  obtain ⟨t', he, htaken, hparts'⟩ := exec_checkFeedDone_waiting hqueued hlocked hbusy
  refine ⟨_, t', congrArg Host.Outcome.next (State.checkAccess_busy hlocked (by omega) _), hqueued, hparts, he, htaken.trans ?_, hparts'⟩
  rw [CheckUnit.take, ← hbusy, ← hwait]
  rfl

/-- Settles O38: each clause is the lemma of the command's operation. -/
theorem mailboxAndCheckCommandsComplete : Obligations.MailboxAndCheckCommandsComplete := by
  unfold Obligations.MailboxAndCheckCommandsComplete
  refine ⟨fun s n skind sproc sport stile schan payload hr hf => ?write, fun s n skind sproc sport stile schan payload hr hf => ?full,
    fun s n skind sproc sport stile schan payload hr hf => ?wait, fun s n skind sproc sport stile schan payload hr hf => ?busy,
    fun s n hf hw hh => ?release, fun s n u hwait hlate hdue => ?expiry, fun s unit hlocked hfree => ?access, fun s unit hwait => ?done,
    fun s unit v hlocked hbusy hwait => feed_waits v hlocked hbusy hwait, fun s unit hlocked => ?clear, fun s unit c hlocked hc => ?clash⟩
  case write =>
    refine ⟨_, congrArg Host.Outcome.next (State.mailWrite_of_empty payload skind sproc sport stile schan hr hf), fun m hm => ?_, fun m hm => ?_,
      congrArg (· ++ _) (s.setBoxes_out _ _), ?_⟩
    · exact (State.box_setBoxes _ _ _ _).trans (if_pos hm)
    · exact (State.box_setBoxes _ _ _ _).trans (if_neg hm)
    · exact ((s.setBoxes_unchanged n _).mono (by simp)).trans ((State.send_unchanged _ _).mono (by simp))
  case full =>
    have hkeeps := s.mailWrite_keeps n payload skind sproc sport stile schan
    rw [State.mailWrite_of_full payload skind sproc sport stile schan hr hf] at hkeeps
    obtain ⟨hbox, hout, hobj, -⟩ := s.overwritten_spec (n := n) payload skind sproc sport stile schan
    obtain ⟨hmsg, hfull, hseq, hcoll⟩ := (s.boxStored n payload skind sproc sport stile schan).collided_eq s.time
    refine ⟨_, congrArg Host.Outcome.next (State.mailWrite_of_full payload skind sproc sport stile schan hr hf), fun m hm => ?_, fun m hm => ?_,
      congrArg (· ++ _) hout, hkeeps.2, hkeeps.1.mono (by decide)⟩
    · rw [State.box_send, hbox, if_pos hm, hmsg, hseq, hfull, hcoll]
      exact ⟨rfl, rfl, rfl, rfl⟩
    · exact (hobj _ _).trans (if_pos ⟨rfl, hm⟩)
  case wait =>
    obtain ⟨hfull, hseq, hout⟩ := State.mailWait_of_empty payload skind sproc sport stile schan hr hf
    exact ⟨_, rfl, hfull, hseq, hout, s.mailWait_unchanged _ _ _ _ _ _ _⟩
  case busy =>
    obtain ⟨hmsg, hseq, hwaiter, hwaits, hout⟩ := State.mailWait_of_full payload skind sproc sport stile schan hr hf
    exact ⟨_, rfl, hmsg, hseq, hwaiter, hwaits, hout, s.mailWait_unchanged _ _ _ _ _ _ _⟩
  case release =>
    obtain ⟨t, he, hbox, -, hnotices, hparts⟩ := exec_mailboxRelease_of_full hh hf hw
    exact ⟨t, he, by rw [hbox], by rw [hbox], by rw [hbox], by rw [hbox], hnotices, hparts⟩
  case expiry =>
    refine ⟨_, exec_mboxWaitExpiry_due hwait hlate hdue, s.box_setBoxes_self _ _, rfl, ?_⟩
    exact ((s.setBoxes_unchanged n _).mono (by simp)).trans ((State.raise_unchanged _ _ _ _).mono (by simp))
  case access =>
    intro u into
    have htakes (c : Instr) (x : CheckOp) (hc : exec c s = .next (s.checkAccess unit x)) : into c (u.take x) :=
      State.checkAccess_takes hlocked hfree hc
    have hstart (v : BitVec 64) (hv : bit v 9 = false) :
        u.take (.reg 0 v) = ({ u with ctrl := (v &&& 0x1FF#64).setWidth 32 }).masked := by simp [CheckUnit.take, hv]
    exact ⟨htakes _ .start rfl, fun v => htakes _ (.reg 8 v) rfl, fun v => htakes _ (.reg 16 v) rfl, fun v => htakes _ (.reg 24 v) rfl,
      fun v hv => hstart v hv ▸ htakes _ _ rfl, fun v => htakes _ (.feed 1 v) rfl, fun v => htakes _ (.feed 2 v) rfl,
      fun v => htakes _ (.feed 4 v) rfl⟩
  case done =>
    refine ⟨_, exec_checkFeedDone_eq s unit, ?_, ?_⟩
    · rw [hwait, List.foldl_nil, State.check_setCheck, ← hwait]
    · rw [hwait, List.foldl_nil]
      exact s.setCheck_unchanged _ _
  case clear => exact ⟨_, congrArg Host.Outcome.next (if_neg (by simp [hlocked])), s.check_setCheck _ _, s.setCheck_unchanged _ _⟩
  case clash =>
    refine ⟨_, ?_, s.checkClash_spec unit⟩
    have haccess (x : CheckOp) : (.next (s.checkAccess unit x) : Out) = .next (s.checkClash unit) :=
      congrArg Host.Outcome.next (State.checkAccess_locked hlocked x)
    obtain rfl | rfl | ⟨v, rfl | rfl | rfl⟩ := hc
    · exact haccess .start
    · exact congrArg Host.Outcome.next (if_pos hlocked)
    · exact haccess (.feed 1 v)
    · exact haccess (.feed 2 v)
    · exact haccess (.feed 4 v)

end Sys2Proof.Machine
end

section
/-!
Movers: what is read after a channel is written, the turn of R255, and the commands that post, fetch and read (R251 to R255).
-/

namespace Sys2Proof.Machine

/-! ### Channels -/

theorem unchangedBut.mover {l : List Part} {s t : State} (h : unchangedBut l s t) (hl : Part.movers ∉ l) (a : Nat) : t.mover a = s.mover a := by
  rw [State.mover, h .movers hl, State.mover]

theorem unchangedBut.mchan {l : List Part} {s t : State} (h : unchangedBut l s t) (hl : Part.movers ∉ l) (a c : Nat) :
    t.mchan a c = s.mchan a c := by
  rw [State.mchan, h.mover hl, State.mchan]

theorem State.setMchan_unchanged (s : State) (port chan : Nat) (c : MChan) : unchangedBut [.movers] s (s.setMchan port chan c) :=
  s.setMover_unchanged _ _

theorem State.mover_setMchan (s : State) (port chan : Nat) (c : MChan) :
    (s.setMchan port chan c).mover port = { s.mover port with chans := mapSet (s.mover port).chans chan c } := State.mover_setMover _ _ _

theorem State.mover_setMchan_ne (s : State) {port p : Nat} (chan : Nat) (c : MChan) (h : p ≠ port) :
    (s.setMchan port chan c).mover p = s.mover p := State.mover_setMover_ne _ _ h

@[simp] theorem State.mchan_setMchan (s : State) (port chan : Nat) (c : MChan) : (s.setMchan port chan c).mchan port chan = c := by
  rw [State.mchan, State.mover_setMchan, mapGet_mapSet_same]

/-- A mover that is written with its channels as they were. -/
theorem State.mchan_setMover {s : State} {port : Nat} {m : Mover} (h : m.chans = (s.mover port).chans) (chan : Nat) :
    (s.setMover port m).mchan port chan = s.mchan port chan := by
  rw [State.mchan, State.mover_setMover, h, State.mchan]

theorem mapFirst_head {α : Type} {f : α → Bool} {x : α} (h : f x = true) (g : α → α) (l : List α) :
    mapFirst f g (x :: l) = g x :: l := if_pos h

/-! ### The turn (R255) -/

/-- Taking the turn writes the mover's credit and pointers alone. -/
theorem State.takeTurn_of_servesNow {s : State} {port chan : Nat} {ready : Option Cls} (h : s.servesNow port chan ready = true) :
    ∃ m : Mover, s.takeTurn port = s.setMover port m ∧ m.chans = (s.mover port).chans ∧ m.serial = (s.mover port).serial := by
  unfold State.servesNow at h
  unfold State.takeTurn
  split at h
  · exact ⟨_, rfl, rfl, rfl⟩
  · cases h

/-! ### Posts and fetches (R251, R253) -/

theorem exec_descriptorPost {s : State} {port chan : Nat} (h : moverThere port chan = true) (producer : Nat) (entries : List (Nat × BitVec 512)) :
    exec (.descriptorPost port chan entries producer) s = .next (s.setMchan port chan
      { s.mchan port chan with
        ring := entries.foldl (fun r e => mapSet r (e.1 % ringSize port) e.2) (s.mchan port chan).ring
        producer := producer % ringSize port
        idle := (s.mchan port chan).idle && (s.mchan port chan).producer == producer % ringSize port }) :=
  congrArg Host.Outcome.next (if_neg (by simp [h]))

/-- An entry whose predecessors leave it its turn does not wait (R255). -/
theorem fetch_judges {c : MChan} {d : BitVec 512} {last : Bool} (hlast : last = true) (hfence : dFence d = true → c.active = []) :
    ¬(!last ∨ dFence d ∧ !c.active.isEmpty) := by
  rintro (h | ⟨hf, he⟩)
  · simp [hlast] at h
  · simp [hfence hf] at he

/-- A channel whose entry at the consumer index is malformed (R253): it halts, and the entry ends BUS_ERROR. -/
def MChan.malformed (c : MChan) (size : Nat) : MChan :=
  { c with
    consumer := (c.consumer + 1) % size, halted := true
    active := c.active ++ [{ newActive c.consumer (c.entry c.consumer) false with halted := true, codes := [.busError] }] }

section
variable {s : State} {port chan : Nat} (hthere : moverThere port chan = true) (hstop : (s.mover port).stop = none)
  (hhalted : (s.mchan port chan).halted = false) (hidle : (s.mchan port chan).idle = false)
  (hnew : ∀ a ∈ (s.mchan port chan).active, a.entry ≠ (s.mchan port chan).consumer)
include hthere hstop hhalted hidle hnew

/-- Nothing keeps the channel from fetching. -/
theorem fetch_goes : ¬(!moverThere port chan ∨ (s.mover port).stop.isSome ∨ (s.mchan port chan).halted ∨ (s.mchan port chan).idle ∨
    (s.mchan port chan).active.any (fun a => a.entry == (s.mchan port chan).consumer)) := by
  simp [hthere, hstop, hhalted, hidle]
  exact hnew

theorem exec_descriptorFetch_idle (hown : dOwn ((s.mchan port chan).entry (s.mchan port chan).consumer) = false) :
    exec (.descriptorFetch port chan) s = .next (s.setMchan port chan { s.mchan port chan with idle := true }) := by
  refine congrArg Host.Outcome.next ((if_neg (fetch_goes hthere hstop hhalted hidle hnew)).trans (if_pos ?_))
  simp [hown]

variable (hown : dOwn ((s.mchan port chan).entry (s.mchan port chan).consumer) = true)
  (hread : ∀ a, (s.mchan port chan).active.getLast? = some a → a.readsIssued = true)
  (hfence : dFence ((s.mchan port chan).entry (s.mchan port chan).consumer) = true → (s.mchan port chan).active = [])
include hown hread hfence

theorem exec_descriptorFetch_start (hd : s.descFault port ((s.mchan port chan).entry (s.mchan port chan).consumer) = none) :
    let c := s.mchan port chan
    let d := c.entry c.consumer
    let u := s.setMchan port chan { c with
      consumer := (c.consumer + 1) % ringSize port, active := c.active ++ [newActive c.consumer d (dDmode d == 2)] }
    exec (.descriptorFetch port chan) s =
      .next (if dDmode d == 2 then u.setCheck (dUnit port d) { u.check (dUnit port d) with locked := true } else u) := by
  refine congrArg Host.Outcome.next ((if_neg (fetch_goes hthere hstop hhalted hidle hnew)).trans ((if_neg (by simp [hown])).trans
    ((if_neg (fetch_judges ?last hfence)).trans ?_)))
  case last =>
    split
    · exact hread _ ‹_›
    · rfl
  · simp only [hd]

theorem exec_descriptorFetch_malformed {k : Nat} (hd : s.descFault port ((s.mchan port chan).entry (s.mchan port chan).consumer) = some k) :
    let c := s.mchan port chan
    exec (.descriptorFetch port chan) s =
      .next (((s.setMchan port chan (c.malformed (ringSize port))).bump .D0A06 port 1).raise evDescError port [chan, c.consumer, k]) := by
  refine congrArg Host.Outcome.next ((if_neg (fetch_goes hthere hstop hhalted hidle hnew)).trans ((if_neg (by simp [hown])).trans
    ((if_neg (fetch_judges ?last hfence)).trans ?_)))
  case last =>
    split
    · exact hread _ ‹_›
    · rfl
  · simp only [hd]
    rfl

end

/-! ### Reads (R254) -/

section
variable {s : State} {port chan : Nat} {a : Active} {rest : List Active} (hstop : (s.mover port).stop = none)
  (hpace : s.pacing port (s.mchan port chan) = true) (hactive : (s.mchan port chan).active = a :: rest) (hhalted : a.halted = false)
  (hleft : a.readUnits < dLen a.desc)
include hstop hpace hactive hhalted hleft

theorem exec_moverReadIssue_immediate (hmode : dSmode a.desc = 2) : exec (.moverReadIssue port chan) s = .next (s.setMchan port chan
    { s.mchan port chan with
      reading := true
      active := { a with readUnits := a.readUnits + nextRead a, data := a.data ++ List.replicate (nextRead a) (immUnit a.desc) } :: rest }) := by
  have hmay : a.mayRead = true := by simp [Active.mayRead, hhalted, hleft]
  refine congrArg Host.Outcome.next ?_
  simp only [hstop, hpace, hactive, hmode, hmay, List.find?_cons_of_pos, mapFirst_head, Option.isSome_none, Bool.false_eq_true, Bool.not_true,
    or_self, if_true, if_false]

/-- A read that needs a turn goes out in the state that the turn leaves. -/
theorem exec_moverReadIssue_turn (hmode : dSmode a.desc ≠ 2) (hturn : s.servesNow port chan (s.readReady port chan) = true) {u : State} {r : MRead}
    (hsend : (s.takeTurn port).sendRead port chan a (nextRead a) = (u, r)) :
    exec (.moverReadIssue port chan) s = .next (u.setMchan port chan { s.mchan port chan with
      reading := true
      active := { a with readUnits := a.readUnits + nextRead a, reads := a.reads ++ [r], slots := if r.slot.isSome then a.slots + 1 else a.slots } ::
        rest }) := by
  have hmay : a.mayRead = true := by simp [Active.mayRead, hhalted, hleft]
  refine congrArg Host.Outcome.next ?_
  simp only [hstop, hpace, hactive, hmode, hmay, hturn, hsend, List.find?_cons_of_pos, mapFirst_head, Option.isSome_none, Bool.false_eq_true,
    Bool.not_true, or_self, if_false]

end

theorem State.sendRead_direct {s : State} {port : Nat} {a : Active} (h : s.readBySlot port a = false) (chan n : Nat) :
    s.sendRead port chan a n = (s, { units := n }) := by
  simp only [State.sendRead, h, Bool.false_eq_true, if_false]

/-- The request slot of a read through the base, and its bid (R254). -/
def readSlot (port chan q : Nat) (a : Active) (payload : List Cell32) : Slot :=
  { (default : Slot) with src := port, dst := q, cls := dCls a.desc, kind := 4, len := 8, tag := readTag a.entry, sender := .mover chan
                          sidx := a.slots, payload := payload }

def readBid (chan q now : Nat) (a : Active) : Bid :=
  { dst := q, cls := dCls a.desc, slots := 1, sender := .mover chan, tag := readTag a.entry, sidx := a.slots, retry := false, at' := now }

theorem State.sendRead_slot {s : State} {port q space tile unit : Nat} {a : Active} (h : s.readBySlot port a = true)
    (ht : s.readTarget (s.srcPlace a.desc a.readUnits (if dSmode a.desc = 0 then n else 1)) = some (q, space, tile, unit)) (chan : Nat) :
    let rid := (s.mover port).serial % 65536
    let g := s.gate port (s.planeOf chan a)
    let record := recordFlit space tile unit (if dSmode a.desc = 0 then n else 1) port (8 * (rid % 256)) rid (dCls a.desc)
    s.sendRead port chan a n = ((s.setMover port { s.mover port with serial := (s.mover port).serial + 1 }).setGate port (s.planeOf chan a)
      { g with staging := g.staging ++ [readSlot port chan q a record]
               bids := g.bids ++ [readBid chan q s.time a] }, { units := n, slot := some a.slots, rid := rid }) := by
  simp only [State.sendRead, h, ht, if_true]
  rfl

end Sys2Proof.Machine
end

section
/-!
Movers: what the oldest read brings, how a response is judged, and how the oldest write ends (R254, R256 to R258).
-/

namespace Sys2Proof.Machine

/-! ### A channel written twice -/

theorem State.setMchan_setMchan (s : State) (port chan : Nat) (c d : MChan) :
    (s.setMchan port chan c).setMchan port chan d = s.setMchan port chan d := by
  simp only [State.setMchan, State.mover_setMover, mapSet_mapSet]
  simp only [State.setMover, mapSet_mapSet]

/-! ### What a read brings -/

/-- A vault's units below its end, at a site that is not in B4, may be read as far as a slot reaches. -/
theorem State.readRefusal_vault_upTo {s : State} {site tile unit n : Nat} (hsite : isSite site = true) (htile : tile < 48)
    (hunit : unit % 2 ^ 23 + n ≤ 2 ^ 23) (hn : n ≤ 368) (hband : s.band site ≠ bandB4) :
    s.readRefusal site { (default : ReadRec) with space := 0, ttile := tile, addr := unit, len := n } = .ok := by
  have hrange : ¬((!isSite site) = true ∨ 48 ≤ tile ∨ 2 ^ 23 < unit % 2 ^ 23 + n ∨ 368 < n) := by
    rw [hsite]
    simp only [Bool.not_true, Bool.false_eq_true, false_or]
    omega
  simp only [State.readRefusal, if_true, if_neg hrange, if_neg (fun h : isSite site = true ∧ s.band site = bandB4 => hband h.2)]
  decide

theorem State.readBrings_vault {s : State} {port p tile unit : Nat} {a : Active} {r : MRead} (hslot : r.slot = none) (hmode : dSmode a.desc = 0)
    (hplace : s.srcPlace a.desc a.readAt r.units = .vault p tile unit) (hopen : s.portOpen p = true) (hserves : s.colServes p tile = true)
    (hwait : s.NoWait p tile unit r.units) (hsite : isSite p = true) (htile : tile < 48) (hunit : unit % 2 ^ 23 + r.units ≤ 2 ^ 23)
    (hn : r.units ≤ 368) (hband : s.band p ≠ bandB4) (ue : List Nat) (ce : Nat) : let l := s.vaultUnits p tile unit r.units ue
    s.readBrings port a r ue ce = some (s.vaultRead p tile unit r.units ue ce, if anyMark l then .poisoned else .ok, l) := by
  have hread := State.readPlace_vault hopen hserves (State.readRefusal_vault_upTo hsite htile hunit hn hband) hwait ue ce
  simp only [State.readBrings, hslot, hmode, hplace, hread, State.moverRead, Option.isSome_none, Bool.false_eq_true, if_true, if_false, ite_self]

theorem State.readBrings_store {s : State} {port p tile unit : Nat} {a : Active} {r : MRead} (hslot : r.slot = none) (hport : iodOfPort port = none)
    (hmode : dSmode a.desc = 0) (hplace : s.srcPlace a.desc a.readAt r.units = .store p tile unit) (ue : List Nat) (ce : Nat) :
    let v := s.storeEcc p tile (inRegions [{ base := unit, len := r.units }]) { ue := ue.map (fun i => unit + i), ce := ce }
    let l := v.unitsAt (storeAddr p tile unit) r.units
    s.readBrings port a r ue ce = some (v, if anyMark l then .poisoned else .ok, l) := by
  simp only [State.readBrings, hslot, hport, hmode, hplace, State.moverRead, Option.isSome_none, Bool.false_eq_true, if_true, if_false]

theorem State.readBrings_slot {s : State} {port i : Nat} {a : Active} {r : MRead} {k : Code} {l : List Cell32} (hslot : r.slot = some i)
    (hanswer : r.answer = some (k, l)) (ue : List Nat) (ce : Nat) : s.readBrings port a r ue ce = some (s, k, l) := by
  simp only [State.readBrings, hslot, hanswer, Option.isSome_some, if_true, Option.map_some]

/-! ### Responses (R257, R258) -/

/-- The channel after a response to its oldest descriptor: the code is kept, and one of R257 or R258 ends its issue. -/
def MChan.judged (c : MChan) (a : Active) (rest : List Active) (k : Code) : MChan :=
  { c with halted := c.halted || haltsChan k
           active := { a with codes := k :: a.codes, halted := a.halted || haltsChan k || stopsMover k } :: rest }

theorem State.judgeResponse_head {s : State} {port chan : Nat} {a : Active} {rest : List Active} (h : (s.mchan port chan).active = a :: rest)
    {e : Nat} (he : a.entry = e) (k : Code) : s.judgeResponse port chan (fun b => b.entry == e) k =
      if stopsMover k then (s.setMchan port chan ((s.mchan port chan).judged a rest k)).stopMover port k
      else s.setMchan port chan ((s.mchan port chan).judged a rest k) := by
  simp only [State.judgeResponse, h, mapFirst_head (f := fun b : Active => b.entry == e) (beq_iff_eq.2 he)]
  rfl

/-- The same of a channel that has just been written. -/
theorem State.judgeResponse_setMchan {s : State} {port chan : Nat} {c : MChan} {a : Active} {rest : List Active} (h : c.active = a :: rest)
    {e : Nat} (he : a.entry = e) (k : Code) : (s.setMchan port chan c).judgeResponse port chan (fun b => b.entry == e) k =
      if stopsMover k then (s.setMchan port chan (c.judged a rest k)).stopMover port k else s.setMchan port chan (c.judged a rest k) := by
  rw [State.judgeResponse_head ((congrArg MChan.active (State.mchan_setMchan ..)).trans h) he, State.mchan_setMchan, State.setMchan_setMchan]

/-! ### The oldest read ends (R254) -/

section
variable {s s' : State} {port chan : Nat} {a : Active} {r : MRead} {more : List MRead} {rest : List Active} {ue : List Nat} {ce : Nat} {k : Code}
  {l : List Cell32} (hactive : (s.mchan port chan).active = a :: rest) (hreads : a.reads = r :: more)
  (hbrings : s.readBrings port a r ue ce = some (s', k, l)) (hsame : s'.mchan port chan = s.mchan port chan)
include hactive hreads hbrings hsame

/-- With data, which joins the queue. -/
theorem State.readEnds_data (hk : k = .ok ∨ k = .poisoned) (hhalted : a.halted = false) (hmode : dSmode a.desc = 0) :
    s.readEnds port chan false ue ce = s'.setMchan port chan
      { s.mchan port chan with active := { a with reads := more, data := a.data ++ l, codes := k :: a.codes } :: rest } := by
  have hhas : a.hasRead = true := by simp [Active.hasRead, hreads]
  have hcode : moverCode k = k := by rcases hk with rfl | rfl <;> rfl
  simp only [State.readEnds, hactive, List.find?_cons_of_pos, hhas, hreads, List.headD_cons, hbrings, hcode, hsame, mapFirst_head, hmode, hhalted]
  rcases hk with rfl | rfl <;> rfl

/-- With a code that halts the channel. -/
theorem State.readEnds_halts (hk : haltsChan k = true) (errorOnly : Bool) : s.readEnds port chan errorOnly ue ce =
    s'.setMchan port chan { s.mchan port chan with
      halted := true, active := { a with reads := more, codes := k :: a.codes, halted := true } :: rest } := by
  have hhas : a.hasRead = true := by simp [Active.hasRead, hreads]
  have hcode : moverCode k = k ∧ (decide (k = .ok) || decide (k = .poisoned)) = false ∧ stopsMover k = false := by
    cases k <;> revert hk <;> decide
  obtain ⟨hmover, herror, hgoes⟩ := hcode
  simp only [State.readEnds, hactive, List.find?_cons_of_pos, hhas, hreads, List.headD_cons, hbrings, hmover, herror, hsame, mapFirst_head,
    Bool.false_and, Bool.false_eq_true, if_false, List.tail_cons]
  rw [State.judgeResponse_setMchan (a := { a with reads := more }) (e := a.entry) rfl rfl, hgoes]
  simp only [Bool.false_eq_true, if_false, MChan.judged, hk, hgoes, Bool.or_true, Bool.or_false]

end

end Sys2Proof.Machine
end

section
/-!
Movers: how a channel's next write leaves its queue, in each of the forms that a descriptor's destination gives it (R252, R255, R256).
-/

namespace Sys2Proof.Machine

/-! ### A write issued -/

/-- The channel after its oldest descriptor has issued a write of `n` units. -/
def MChan.wrote (c : MChan) (a : Active) (rest : List Active) (n : Nat) (w : MWrite) : MChan :=
  { c with active := { a with issued := a.issued + n, data := a.data.drop n, writes := a.writes ++ [w], slots := a.slots + 1 } :: rest }

theorem State.wrote'_head {s : State} {port chan : Nat} {a : Active} {rest : List Active} (h : (s.mchan port chan).active = a :: rest) (n : Nat)
    (w : MWrite) : s.wrote' port chan a.entry n w = s.setMchan port chan ((s.mchan port chan).wrote a rest n w) := by
  simp only [State.wrote', h, mapFirst_head (f := fun b : Active => b.entry == a.entry) (beq_self_eq_true _), MChan.wrote]

/-- The same in a state whose channel is that of another. -/
theorem State.wrote'_of_mchan {s u : State} {port chan : Nat} {a : Active} {rest : List Active} (hu : u.mchan port chan = s.mchan port chan)
    (h : (s.mchan port chan).active = a :: rest) (n : Nat) (w : MWrite) :
    u.wrote' port chan a.entry n w = u.setMchan port chan ((s.mchan port chan).wrote a rest n w) := by
  rw [State.wrote'_head (hu ▸ h), hu]

/-- The units of a slot that does not keep a channel's queue waiting are in the queue. -/
theorem nextWrite_le_data (isLocal far reading : Bool) (a : Active) : nextWrite isLocal far false reading a ≤ a.data.length := by
  simp only [nextWrite, Bool.false_eq_true, if_false]
  grind

/-- The slot and the bid with which a write is staged (R255). -/
def stagedWrite (port chan : Nat) (a : Active) (x : Slot) : Slot :=
  { x with src := port, cls := dCls a.desc, len := x.payload.length, tag := a.entry, sender := .mover chan, sidx := a.slots }

def stagedBid (chan dst now : Nat) (a : Active) : Bid :=
  { dst := dst, cls := dCls a.desc, slots := 1, sender := .mover chan, tag := a.entry, sidx := a.slots, retry := false, at' := now }

theorem State.gate_stageWrite (s : State) (port chan : Nat) (a : Active) (x : Slot) :
    let g := s.gate port (s.planeOf chan a)
    (s.stageWrite port chan a x).gate port (s.planeOf chan a) =
      { g with staging := g.staging ++ [stagedWrite port chan a x], bids := g.bids ++ [stagedBid chan x.dst s.time a] } := s.gate_setGate _ _ _

/-! ### The forms of a write -/

/-- The COPY packet of a descriptor's next units. -/
def copyPacket (a : Active) (l : List Cell32) : Packet :=
  { (default : Packet) with type := 2, cls := dCls a.desc, gaddr := dDst a.desc + 32 * a.issued, ctr := dCtr a.desc, tport := dTport a.desc
                            post := dPost a.desc, len := 32 * l.length, payload := l }

/-- A COPY packet joins the send ring of an open channel (R229). -/
theorem State.postEntry_copy {s : State} {i n : Nat} {c : Chan} {p : Packet} (hc : s.chan? i n = some c) (hopen : c.state = chanOpen)
    (hp : p.type = 2) (field : Nat) :
    s.postEntry i n field p = s.setChan i n { c with sring := c.sring ++ [p], shead := (c.shead + 1) % 65536 } := by
  simp only [State.postEntry, hc, hopen, hp, ne_eq, not_true_eq_false, if_false, Nat.reduceEqDiff]

theorem exec_moverWriteIssue_waits {s : State} {port chan : Nat} (h : s.servesNow port chan (s.writeReady port chan) = false) :
    exec (.moverWriteIssue port chan) s = .next s := by
  refine congrArg Host.Outcome.next ?_
  simp only [h, Bool.false_eq_true, if_false]

section
variable {s : State} {port chan : Nat} {a : Active} {rest : List Active} (hturn : s.servesNow port chan (s.writeReady port chan) = true)
  (hactive : (s.mchan port chan).active = a :: rest) (hmay : a.mayWrite = true)
include hturn hactive hmay

theorem exec_moverWriteIssue_local (hfar : s.farDst a.desc = false) (hmode : dDmode a.desc = 0)
    (hlocal : localTo port (s.dstPlace a.desc a.issued 1) = true) :
    let n := nextWrite true false false (s.pacing port (s.mchan port chan)) a
    ∃ m : Mover, exec (.moverWriteIssue port chan) s = .next ((s.setMover port m).setMchan port chan
      ((s.mchan port chan).wrote a rest n { count := n, land := some a.issued, data := a.data.take n, at' := s.time })) := by
  obtain ⟨m, hm, hchans, -⟩ := State.takeTurn_of_servesNow hturn
  refine ⟨m, congrArg Host.Outcome.next ?_⟩
  simp only [hturn, hactive, List.find?_cons_of_pos, hmay, State.writeShape, hfar, hmode, hlocal, hm, if_true, Nat.reduceBEq, Bool.false_eq_true,
    if_false, Bool.not_false, Bool.and_true]
  exact State.wrote'_of_mchan (State.mchan_setMover hchans chan) hactive _ _

theorem exec_moverWriteIssue_check (hmode : dDmode a.desc = 2) :
    let u := s.check (dUnit port a.desc)
    ∃ m : Mover, exec (.moverWriteIssue port chan) s = .next (((s.setMover port m).setCheck (dUnit port a.desc)
      { u.feed (bytesOf (a.data.headD default).data 32) with locked := u.locked, feeds := u.feeds + 1 }).setMchan port chan
        ((s.mchan port chan).wrote a rest 1 { count := 1, land := none, data := [], at' := s.time })) := by
  obtain ⟨m, hm, hchans, -⟩ := State.takeTurn_of_servesNow hturn
  have hhead : (a.data.take 1).headD default = a.data.headD default := by cases a.data <;> rfl
  refine ⟨m, congrArg Host.Outcome.next ?_⟩
  simp only [hturn, hactive, List.find?_cons_of_pos, hmay, State.writeShape, hmode, hm, nextWrite, if_true, Nat.reduceBEq, Bool.false_eq_true,
    if_false, hhead]
  refine State.wrote'_of_mchan ?_ hactive _ _
  exact State.mchan_setMover hchans chan

section
variable (hfar : s.farDst a.desc = true) (hmode : dDmode a.desc = 0)
include hfar hmode

theorem exec_moverWriteIssue_far {ch : Chan} (hport : iodOfPort port ≠ none) (hch : s.chan? (relayIod port a.desc) (dChan a.desc) = some ch)
    (hopen : ch.state = chanOpen) :
    let n := nextWrite false true false (s.pacing port (s.mchan port chan)) a
    let p := copyPacket a (a.data.take n)
    let w : MWrite := { count := n, land := none, data := [], at' := s.time, copy := some (relayIod port a.desc, dChan a.desc, p.gaddr) }
    ∃ m : Mover, exec (.moverWriteIssue port chan) s = .next (((s.setMover port m).setMchan port chan
      ((s.mchan port chan).wrote a rest n w)).setChan (relayIod port a.desc) (dChan a.desc)
        { ch with sring := ch.sring ++ [p], shead := (ch.shead + 1) % 65536 }) := by
  obtain ⟨m, hm, hchans, -⟩ := State.takeTurn_of_servesNow hturn
  refine ⟨m, congrArg Host.Outcome.next ?_⟩
  simp only [hturn, hactive, List.find?_cons_of_pos, hmay, State.writeShape, hfar, hmode, hm, if_true, Nat.reduceBEq, Bool.false_eq_true,
    if_false, Bool.not_true, Bool.false_and, Option.isSome_iff_ne_none.2 hport]
  rw [State.wrote'_of_mchan (State.mchan_setMover hchans chan) hactive]
  refine State.postEntry_copy (c := ch) ?_ hopen rfl 0
  exact hch

theorem exec_moverWriteIssue_relay (hport : iodOfPort port = none) :
    let n := nextWrite false true false (s.pacing port (s.mchan port chan)) a
    let p := copyPacket a (a.data.take n)
    ∃ m : Mover, exec (.moverWriteIssue port chan) s = .next (((s.setMover port m).stageWrite port chan a { (default : Slot) with
      dst := portOfIod (relayIod port a.desc), kind := 0, taddr := relayPlace chan, payload := a.data.take n, relay := some (dChan a.desc, p)
      }).setMchan port chan ((s.mchan port chan).wrote a rest n { count := n, land := none, data := [], at' := s.time, slot := some a.slots
                                                                  copy := some (relayIod port a.desc, dChan a.desc, p.gaddr) })) := by
  obtain ⟨m, hm, hchans, -⟩ := State.takeTurn_of_servesNow hturn
  refine ⟨m, congrArg Host.Outcome.next ?_⟩
  simp only [hturn, hactive, List.find?_cons_of_pos, hmay, State.writeShape, hfar, hmode, hm, if_true, Nat.reduceBEq, Bool.false_eq_true,
    if_false, Bool.not_true, Bool.false_and, hport, Option.isSome_none]
  refine State.wrote'_of_mchan ?_ hactive _ _
  exact State.mchan_setMover hchans chan

end

theorem exec_moverWriteIssue_slot (hfar : s.farDst a.desc = false) (hmode : dDmode a.desc = 0)
    (hlocal : localTo port (s.dstPlace a.desc a.issued 1) = false) {q kind tile unit : Nat} :
    let n := nextWrite false false false (s.pacing port (s.mchan port chan)) a
    s.slotTarget (s.dstPlace a.desc a.issued n) = some (q, kind, tile, unit) →
    ∃ m : Mover, exec (.moverWriteIssue port chan) s = .next (((s.setMover port m).stageWrite port chan a { (default : Slot) with
      dst := q, kind := kind, ttile := tile, taddr := unit, payload := a.data.take n }).setMchan port chan
        ((s.mchan port chan).wrote a rest n { count := n, land := none, data := [], at' := s.time, slot := some a.slots })) := by
  intro n htarget
  obtain ⟨m, hm, hchans, -⟩ := State.takeTurn_of_servesNow hturn
  have hlen : (a.data.take n).length = n := List.length_take_of_le (nextWrite_le_data _ _ _ _)
  have hplace : s.slotTarget (s.dstPlace a.desc a.issued (a.data.take n).length) = some (q, kind, tile, unit) := by
    rw [hlen, htarget]
  have hturned : (s.setMover port m).slotTarget ((s.setMover port m).dstPlace a.desc a.issued (a.data.take n).length) = _ := hplace
  refine ⟨m, congrArg Host.Outcome.next ?_⟩
  simp only [hturn, hactive, List.find?_cons_of_pos, hmay, State.writeShape, hfar, hmode, hlocal, hm, if_true, Nat.reduceBEq, Bool.false_eq_true,
    if_false, Bool.not_false, Bool.and_false]
  rw [hturned]
  refine State.wrote'_of_mchan ?_ hactive _ _
  exact State.mchan_setMover hchans chan

end

end Sys2Proof.Machine
end

section
/-!
Movers transfer (R251 to R256): the reads that take the turn of R255, and the obligation.
-/

namespace Sys2Proof.Machine

/-! ### Reads in their turn -/

section
variable {s : State} {port chan : Nat} {a : Active} {rest : List Active} (hstop : (s.mover port).stop = none)
  (hpace : s.pacing port (s.mchan port chan) = true) (hactive : (s.mchan port chan).active = a :: rest) (hhalted : a.halted = false)
  (hleft : a.readUnits < dLen a.desc) (hmode : dSmode a.desc ≠ 2) (hturn : s.servesNow port chan (s.readReady port chan) = true)
include hstop hpace hactive hhalted hleft hmode hturn

theorem exec_moverReadIssue_direct (hslot : s.readBySlot port a = false) :
    ∃ m : Mover, exec (.moverReadIssue port chan) s = .next ((s.setMover port m).setMchan port chan { s.mchan port chan with
      reading := true
      active := { a with readUnits := a.readUnits + nextRead a, reads := a.reads ++ [{ units := nextRead a }] } :: rest }) := by
  obtain ⟨m, hm, -, -⟩ := State.takeTurn_of_servesNow hturn
  have hslot' : (s.setMover port m).readBySlot port a = false := hslot
  have htaken := congrArg (State.sendRead · port chan a (nextRead a)) hm
  exact ⟨m, exec_moverReadIssue_turn hstop hpace hactive hhalted hleft hmode hturn (htaken.trans (State.sendRead_direct hslot' chan _))⟩

theorem exec_moverReadIssue_slot {q space tile unit : Nat} (hslot : s.readBySlot port a = true)
    (htarget : s.readTarget (s.srcPlace a.desc a.readUnits (if dSmode a.desc = 0 then nextRead a else 1)) = some (q, space, tile, unit)) :
    let rid := (s.mover port).serial % 65536
    let g := s.gate port (s.planeOf chan a)
    let record := recordFlit space tile unit (if dSmode a.desc = 0 then nextRead a else 1) port (8 * (rid % 256)) rid (dCls a.desc)
    ∃ m₁ m₂ : Mover, exec (.moverReadIssue port chan) s = .next ((((s.setMover port m₁).setMover port m₂).setGate port (s.planeOf chan a)
      { g with staging := g.staging ++ [readSlot port chan q a record], bids := g.bids ++ [readBid chan q s.time a] }).setMchan port chan
        { s.mchan port chan with
          reading := true
          active := { a with readUnits := a.readUnits + nextRead a, reads := a.reads ++ [{ units := nextRead a, slot := some a.slots, rid := rid }]
                             slots := a.slots + 1 } :: rest }) := by
  obtain ⟨m, hm, -, hserial⟩ := State.takeTurn_of_servesNow hturn
  have hslot' : (s.setMover port m).readBySlot port a = true := hslot
  have hsend := State.sendRead_slot hslot' (n := nextRead a) htarget chan
  simp only [State.mover_setMover, hserial] at hsend
  have htaken := congrArg (State.sendRead · port chan a (nextRead a)) hm
  exact ⟨m, _, exec_moverReadIssue_turn hstop hpace hactive hhalted hleft hmode hturn (htaken.trans hsend)⟩

end

/-! ### The frames of the states that transfers leave -/

/-- A mover's turn and a channel are written. -/
theorem State.turned_unchanged (s : State) (port chan : Nat) (m : Mover) (c : MChan) :
    unchangedBut [.movers] s ((s.setMover port m).setMchan port chan c) :=
  (s.setMover_unchanged _ _).trans (State.setMchan_unchanged _ _ _ _)

/-- A slot and its bid are staged, and the mover is written. -/
theorem State.staged_unchanged (s : State) (port plane chan : Nat) (m : Mover) (g : Gate) (c : MChan) :
    unchangedBut [.movers, .gates] s (((s.setMover port m).setGate port plane g).setMchan port chan c) :=
  ((s.setMover_unchanged _ _).mono (by simp)).trans (((State.setGate_unchanged _ _ _ _).mono (by simp)).trans
    ((State.setMchan_unchanged _ _ _ _).mono (by simp)))

/-! ### The obligation -/

/-- Settles O36: each clause is the lemma of the command in that form; a transfer in its turn differs from one without by the turn alone. -/
theorem moverTransfersComplete : Obligations.MoverTransfersComplete := by
  unfold Obligations.MoverTransfersComplete
  intro noWait
  refine ⟨fun s port chan producer entries hthere => ?post, fun s port chan hthere hstop hhalted hidle hnew => ?fetch,
    fun s port chan a rest hstop hpace hactive hhalted hleft => ?read,
    fun s port chan p tile unit ce a r more rest ue hactive hreads hslot hhalted hmode hplace hopen hserves hwait hsite htile hunit hn hband =>
      ?vault,
    fun s port chan p tile unit ce a r more rest ue hactive hreads hslot hport hhalted hmode hplace => ?store,
    fun s port chan i a r more rest k l hactive hreads hslot hanswer hk hhalted hmode => ?answer,
    fun s port chan a rest hturn hactive hmay => ?write, fun s port chan hturn => exec_moverWriteIssue_waits hturn⟩
  case post =>
    exact ⟨_, exec_descriptorPost hthere producer entries, State.mchan_setMchan _ _ _ _, fun p hp => State.mover_setMchan_ne _ _ _ hp,
      State.setMchan_unchanged _ _ _ _⟩
  case fetch =>
    intro c d
    refine ⟨fun hown => ?_, fun hown hread hfence => ⟨fun hd => ?_, fun k hd => ?_⟩⟩
    · exact ⟨_, exec_descriptorFetch_idle hthere hstop hhalted hidle hnew hown, State.mchan_setMchan _ _ _ _, State.setMchan_unchanged _ _ _ _⟩
    · have he := exec_descriptorFetch_start hthere hstop hhalted hidle hnew hown hread hfence hd
      by_cases hmode : dDmode d = 2
      · refine ⟨_, he.trans (congrArg Host.Outcome.next (if_pos (beq_iff_eq.2 hmode))), State.mchan_setMchan _ _ _ _,
          fun _ => State.check_setCheck _ _ _, fun h => absurd hmode h, ?_⟩
        exact ((State.setMchan_unchanged _ _ _ _).mono (by simp)).trans ((State.setCheck_unchanged _ _ _).mono (by simp))
      · exact ⟨_, he.trans (congrArg Host.Outcome.next (if_neg (mt beq_iff_eq.1 hmode))), State.mchan_setMchan _ _ _ _,
          fun h => absurd h hmode, fun _ => rfl, (State.setMchan_unchanged _ _ _ _).mono (by simp)⟩
    · have hkeeps (v : State) : Keeps [.objs, .log] [.D0A06] v ((v.bump .D0A06 port 1).raise evDescError port [chan, c.consumer, k]) :=
        ((v.bump_keeps .D0A06 port 1).mono (by decide)).trans ((State.raise_keeps _ _ _ _).mono (by decide))
      have hchan := ((hkeeps _).1.mchan (by decide) port chan).trans (s.mchan_setMchan port chan (c.malformed (ringSize port)))
      refine ⟨_, exec_descriptorFetch_malformed hthere hstop hhalted hidle hnew hown hread hfence hd, congrArg MChan.halted hchan,
        State.obj_bump _ .D0A06 port 1, ?_, State.raise_head _ _ _ _, (hkeeps _).2, ?_⟩
      · rw [congrArg MChan.active hchan, MChan.malformed, List.getLast?_concat]
        rfl
      · exact ((State.setMchan_unchanged _ _ _ _).mono (by simp)).trans ((hkeeps _).1.mono (by simp))
  case read =>
    intro c n
    refine ⟨fun hmode => ?_, fun hmode hturn hslot => ?_, fun q space tile unit hmode hturn hslot htarget => ?_⟩
    · exact ⟨_, exec_moverReadIssue_immediate hstop hpace hactive hhalted hleft hmode, State.mchan_setMchan _ _ _ _,
        State.setMchan_unchanged _ _ _ _⟩
    · obtain ⟨m, he⟩ := exec_moverReadIssue_direct hstop hpace hactive hhalted hleft hmode hturn hslot
      exact ⟨_, he, State.mchan_setMchan _ _ _ _, State.turned_unchanged _ _ _ _ _⟩
    · obtain ⟨m₁, m₂, he⟩ := exec_moverReadIssue_slot hstop hpace hactive hhalted hleft hmode hturn hslot htarget
      exact ⟨_, readSlot port chan q a _, readBid chan q s.time a, he, State.mchan_setMchan _ _ _ _,
        congrArg Gate.staging (State.gate_setGate _ _ _ _), congrArg Gate.bids (State.gate_setGate _ _ _ _), rfl, rfl, rfl, rfl, rfl,
        ((s.setMover_unchanged _ _).mono (by simp)).trans (State.staged_unchanged _ _ _ _ _ _ _)⟩
  case vault =>
    intro l
    have hkept := s.vaultRead_unchanged p tile unit r.units ue ce
    have hbrings := State.readBrings_vault (port := port) (a := a) hslot hmode hplace hopen hserves hwait hsite htile hunit hn hband ue ce
    refine ⟨_, congrArg Host.Outcome.next (State.readEnds_data hactive hreads hbrings (hkept.mchan (by simp) _ _) ?_ hhalted hmode),
      State.mchan_setMchan _ _ _ _, ?_, ?_, ?_⟩
    · split <;> simp
    · exact hkept.memory (by simp) (by simp)
    · exact s.vaultRead_objs _ _ _ _ _ _
    · exact (hkept.mono (by simp)).trans ((State.setMchan_unchanged _ _ _ _).mono (by simp))
  case store =>
    intro v l
    have hkept : unchangedBut [.objs, .poison] s v := s.storeEcc_unchanged _ _ _ _
    have hbrings := State.readBrings_store (port := port) (a := a) hslot hport hmode hplace ue ce
    refine ⟨_, congrArg Host.Outcome.next (State.readEnds_data hactive hreads hbrings (hkept.mchan (by simp) _ _) ?_ hhalted hmode),
      State.mchan_setMchan _ _ _ _, ⟨fun b => rfl, rfl⟩, fun b => ?_, ?_, ?_⟩
    · split <;> simp
    · exact congrArg (memByte · b) (hkept.mem (by simp))
    · exact s.storeEcc_objs _ _ _ _
    · exact (hkept.mono (by simp)).trans ((State.setMchan_unchanged _ _ _ _).mono (by simp))
  case answer =>
    exact ⟨_, congrArg Host.Outcome.next (State.readEnds_data hactive hreads (State.readBrings_slot hslot hanswer [] 0) rfl hk hhalted hmode),
      State.mchan_setMchan _ _ _ _, State.setMchan_unchanged _ _ _ _⟩
  case write =>
    intro c d written
    refine ⟨fun hfar hmode hlocal => ?_, fun hmode => ?_, fun ch hfar hmode hport hch hopen => ?_, fun hfar hmode hport => ?_,
      fun q kind tile unit hfar hmode hlocal => ?_⟩
    · obtain ⟨m, he⟩ := exec_moverWriteIssue_local hturn hactive hmay hfar hmode hlocal
      exact ⟨_, he, State.mchan_setMchan _ _ _ _, State.turned_unchanged _ _ _ _ _⟩
    · obtain ⟨m, he⟩ := exec_moverWriteIssue_check hturn hactive hmay hmode
      refine ⟨_, he, State.mchan_setMchan _ _ _ _, (congrArg CheckUnit.value (State.check_setCheck _ _ _)).trans rfl,
        (congrArg CheckUnit.feeds (State.check_setCheck _ _ _)).trans rfl, ?_⟩
      exact ((s.setMover_unchanged _ _).mono (by simp)).trans (((State.setCheck_unchanged _ _ _).mono (by simp)).trans
        ((State.setMchan_unchanged _ _ _ _).mono (by simp)))
    · intro n
      obtain ⟨m, he⟩ := exec_moverWriteIssue_far hturn hactive hmay hfar hmode hport hch hopen
      refine ⟨_, copyPacket a (a.data.take n), he, State.mchan_setMchan _ _ _ _, State.chan?_setChan _ _ _ _, rfl, rfl, rfl, ?_, rfl, rfl,
        rfl, ?_⟩
      · exact congrArg (32 * ·) (List.length_take_of_le (nextWrite_le_data _ _ _ _))
      · exact ((State.turned_unchanged _ _ _ _ _).mono (by simp)).trans ((State.setChan_keeps _ _ _ _).1.mono (by simp))
    · intro n plane
      obtain ⟨m, he⟩ := exec_moverWriteIssue_relay hturn hactive hmay hfar hmode hport
      have hgate := State.gate_stageWrite (s.setMover port m) port chan a
      exact ⟨_, _, _, copyPacket a (a.data.take n), he, State.mchan_setMchan _ _ _ _, congrArg Gate.staging (hgate _),
        congrArg Gate.bids (hgate _), rfl, rfl, rfl, rfl, rfl, rfl, rfl, rfl, rfl, rfl, State.staged_unchanged _ _ _ _ _ _ _⟩
    · intro n plane htarget
      obtain ⟨m, he⟩ := exec_moverWriteIssue_slot hturn hactive hmay hfar hmode hlocal htarget
      have hgate := State.gate_stageWrite (s.setMover port m) port chan a
      exact ⟨_, _, _, he, State.mchan_setMchan _ _ _ _, congrArg Gate.staging (hgate _), congrArg Gate.bids (hgate _), rfl, rfl, rfl, rfl, rfl,
        rfl, rfl, State.staged_unchanged _ _ _ _ _ _ _⟩

end Sys2Proof.Machine
end

section
/-!
Movers: how the oldest write ends, how a mover stops and settles, and how channels and movers go on (R256 to R259).
-/

namespace Sys2Proof.Machine

/-! ### A mover stops (R258) -/

/-- A channel of a mover that stops: it issues nothing more, and its reads are forgotten. -/
def MChan.stilled (c : MChan) : MChan := { c with active := c.active.map (fun a => { a with halted := true, reads := [] }) }

theorem MChan.mem_stilled {c : MChan} {b : Active} (h : b ∈ c.stilled.active) : b.halted = true ∧ b.reads = [] := by
  obtain ⟨a, -, rfl⟩ := List.mem_map.1 h
  exact ⟨rfl, rfl⟩

theorem State.stopMover_spec {s : State} {port : Nat} (h : (s.mover port).stop = none) (k : Code) : let t := s.stopMover port k
    (t.mover port).stop = some k ∧ (t.mover port).settled = false ∧ (∀ chan, t.mchan port chan = (s.mchan port chan).stilled) ∧
      t.obj .D0A01 port = s.obj .D0A01 port + 1 ∧ t.log.events.head?.map (fun e => (e.code, e.subject)) = some (evMoverStop, port) ∧
      Keeps [.movers, .objs, .log] [.D0A01] s t := by
  have hgoes : ¬((s.mover port).stop.isSome = true) := by simp [h]
  simp only [State.stopMover, if_neg hgoes]
  generalize hm : ({ s.mover port with chans := _, stop := some k, settled := false } : Mover) = m
  have hkeeps (u : State) (l : List Nat) : Keeps [.objs, .log] [.D0A01] u ((u.bump .D0A01 port 1).raise evMoverStop port l) :=
    ((u.bump_keeps .D0A01 port 1).mono (by decide)).trans ((State.raise_keeps _ _ _ _).mono (by decide))
  have hmover (l : List Nat) : (((s.setMover port m).bump .D0A01 port 1).raise evMoverStop port l).mover port = m :=
    ((hkeeps _ _).1.mover (by decide) port).trans (s.mover_setMover port m)
  refine ⟨?_, ?_, fun chan => ?_, ?_, ?_, ?_⟩
  · rw [hmover, ← hm]
  · rw [hmover, ← hm]
  · rw [State.mchan, hmover, ← hm]
    exact mapGet_map_snd MChan.stilled MChan.reset (s.mover port).chans chan
  · exact State.obj_bump _ _ _ _
  · rw [(State.raise_events _ _ _ _).1]
    rfl
  · exact (Keeps.of_parts (s.setMover_unchanged port m) (by decide) |>.mono (by decide)).trans ((hkeeps _ _).mono (by decide))

/-! ### The oldest write ends (R256 to R258) -/

/-- The state after the data of a local write has landed. -/
def State.writeLanded (s : State) (a : Active) (w : MWrite) : State :=
  match w.land with
  | some off =>
    match s.dstPlace a.desc off w.data.length with
    | .vault p t u => s.vaultWrite p t u w.data
    | .store p t u => (s.arrive p t u w.data).1
    | _ => s
  | none => s

/-- The code of a write that is taken: a unit with a mark makes it POISONED. -/
def MWrite.takenCode (w : MWrite) : Code := if anyMark w.data then worse .ok .poisoned else .ok

theorem MWrite.takenCode_goes (w : MWrite) : haltsChan w.takenCode = false ∧ stopsMover w.takenCode = false := by
  unfold MWrite.takenCode
  split <;> decide

/-- A descriptor whose oldest write is taken, and one whose oldest write fails. -/
def Active.taken (a : Active) (w : MWrite) : Active :=
  { a with writes := a.writes.tail, done := if a.broken then a.done else a.done + w.count }

def Active.failed (a : Active) : Active := { a with writes := a.writes.tail, broken := true }

theorem State.writeEnds_ok (s : State) (port chan : Nat) (a : Active) (w : MWrite) :
    let u := (s.writeLanded a w).bump .D0A02 port w.count
    s.writeEnds port chan a w .ok = (u.setMchan port chan { u.mchan port chan with
      active := mapFirst (fun b => b.entry == a.entry) (fun b => { b with
        writes := b.writes.tail, broken := b.broken || false, done := if !b.broken then b.done + w.count else b.done }) (u.mchan port chan).active
      }).judgeResponse port chan (fun b => b.entry == a.entry) w.takenCode := by
  obtain ⟨count, land, data, at', slot, answer, copy⟩ := w
  cases land with
  | none => simp [State.writeEnds, State.writeLanded, MWrite.takenCode]
  | some off =>
    simp [State.writeEnds, State.writeLanded, MWrite.takenCode] <;> rfl

theorem State.writeEnds_error {k : Code} (hok : k ≠ .ok) (hpoisoned : k ≠ .poisoned) (s : State) (port chan : Nat) (a : Active) (w : MWrite) :
    s.writeEnds port chan a w k = (s.setMchan port chan { s.mchan port chan with
      active := mapFirst (fun b => b.entry == a.entry) (fun b => { b with writes := b.writes.tail, broken := b.broken || true })
        (s.mchan port chan).active
      }).judgeResponse port chan (fun b => b.entry == a.entry) k := by
  have hfailed : (decide (k = .ok) || decide (k = .poisoned)) = false := by simp [hok, hpoisoned]
  simp only [State.writeEnds, hfailed, Bool.false_eq_true, if_false, Bool.false_and, Bool.not_false, false_and]
  cases w.land <;> rfl

section
variable {s : State} {port chan : Nat} {a : Active} {rest : List Active} (hactive : (s.mchan port chan).active = a :: rest)
include hactive

theorem State.writeEnds_taken {u : State} {w : MWrite} (hland : s.writeLanded a w = u) (hu : u.mchan port chan = s.mchan port chan) :
    s.writeEnds port chan a w .ok = (u.bump .D0A02 port w.count).setMchan port chan
      { s.mchan port chan with active := { a.taken w with codes := w.takenCode :: a.codes } :: rest } := by
  have hbump : (u.bump .D0A02 port w.count).mchan port chan = s.mchan port chan := hu
  obtain ⟨hhalts, hstops⟩ := w.takenCode_goes
  simp only [State.writeEnds_ok, hland, hbump, hactive, mapFirst_head (f := fun b : Active => b.entry == a.entry) (beq_self_eq_true _)]
  rw [State.judgeResponse_setMchan (a := a.taken w) (e := a.entry) ?_ rfl, hstops]
  · simp only [MChan.judged, hhalts, hstops, Bool.or_false, Bool.false_eq_true, if_false]
    rfl
  · cases h : a.broken <;> simp [Active.taken, h]

theorem State.writeEnds_failed {k : Code} (hok : k ≠ .ok) (hpoisoned : k ≠ .poisoned) (w : MWrite) :
    let c : MChan := (s.mchan port chan).judged a.failed rest k
    s.writeEnds port chan a w k = if stopsMover k then (s.setMchan port chan c).stopMover port k else s.setMchan port chan c := by
  simp only [State.writeEnds_error hok hpoisoned, hactive, mapFirst_head (f := fun b : Active => b.entry == a.entry) (beq_self_eq_true _)]
  rw [State.judgeResponse_setMchan (a := a.failed) (e := a.entry) ?_ rfl]
  · rfl
  · simp [Active.failed]

end

end Sys2Proof.Machine
end

section
/-!
Movers: the steps of a descriptor's completion: its post, its status, its check unit and its message (R256, R264, R269, R420).
-/

namespace Sys2Proof.Machine

/-! ### The status (Table 10.3) -/

/-- A descriptor with its status belongs to software again. -/
theorem dOwn_withStatus (d : BitVec 512) (time done : Nat) (k : Code) : dOwn (withStatus d time done k) = false := by
  have hle : d.toNat % 2 ≤ d.toNat % 2 ^ 384 := by omega
  have heven : (d.toNat % 2 ^ 384 - d.toNat % 2 + 2 ^ 384 * (time % 2 ^ 64) + 2 ^ 448 * (done % 2 ^ 24) + 2 ^ 472 * codeNum k) % 2 = 0 := by omega
  simp only [dOwn, bit, withStatus, BitVec.getLsbD_ofNat, Nat.testBit_zero, heven]
  decide

/-! ### The post (R420) -/

theorem State.sendPost_own {s : State} {p : Post} (h : p.src = p.port) : (s.sendPost p).posts = s.posts ++ [p] ∧ (s.sendPost p).gates = s.gates := by
  rw [State.sendPost, if_pos h]
  exact ⟨rfl, rfl⟩

theorem State.sendPost_other {s : State} {p : Post} (h : p.src ≠ p.port) :
    ∃ m, (s.sendPost p).posts = s.posts ++ [{ p with crossing := some m }] := by
  rw [State.sendPost, if_neg h]
  exact ⟨_, rfl⟩

/-! ### The message (R256, R264) -/

theorem takeFirst_append_self {α : Type} {f : α → Bool} {l : List α} {x : α} (hl : ∀ y ∈ l, f y = false) (hx : f x = true) :
    takeFirst f (l ++ [x]) = some (x, l) := by
  induction l with
  | nil => exact if_pos hx
  | cons y r ih =>
    rw [List.cons_append, takeFirst, if_neg (by simp [hl y List.mem_cons_self]), ih fun z hz => hl z (List.mem_cons_of_mem _ hz)]

/-- A wait-mode write leaves the mailbox full, whether it was taken or waits. -/
theorem State.mailWait_fills {s : State} {n : Nat} (hr : boxReserved n = false) (payload : BitVec 448) (skind sproc sport stile schan : Nat) :
    ((s.mailWait n payload skind sproc sport stile schan).1.box n).full = true := by
  cases hf : (s.box n).full with
  | false => exact (State.mailWait_of_empty payload skind sproc sport stile schan hr hf).1
  | true => simp only [State.mailWait, hr, hf, Bool.false_eq_true, if_false, if_true, State.box_send, State.box_setBoxes_self]

theorem State.mailWrite_fills {s : State} {n : Nat} (hr : boxReserved n = false) (payload : BitVec 448) (skind sproc sport stile schan : Nat) :
    ((s.mailWrite n payload skind sproc sport stile schan).box n).full = true := by
  cases hf : (s.box n).full with
  | false =>
    rw [State.mailWrite_of_empty payload skind sproc sport stile schan hr hf, State.box_send, State.box_setBoxes_self]
    rfl
  | true =>
    obtain ⟨hbox, -⟩ := s.overwritten_spec (n := n) payload skind sproc sport stile schan
    rw [State.mailWrite_of_full payload skind sproc sport stile schan hr hf, State.box_send, hbox, if_pos (mem_boxCopies_self n)]
    exact (Mailbox.collided_eq _ _).2.1

/-- A message that a mover sends fills its mailbox when no other of its messages waits for it. -/
theorem State.moverMail_fills {s : State} {port box : Nat} (hr : boxReserved box = false) (hmail : ∀ x ∈ (s.mover port).mail, x.1 ≠ box)
    (payload : BitVec 448) (chan : Nat) : ((s.moverMail port box payload chan).box box).full = true := by
  have hfirst : (!(s.mover port).mail.any (fun x => x.1 == box)) = true := by simpa using fun a b c h => hmail (a, b, c) h
  have htaken := takeFirst_append_self (f := fun x : Nat × BitVec 448 × Nat => x.1 == box) (x := (box, payload, chan))
    (fun x hx => beq_eq_false_iff_ne.2 (hmail x hx)) (beq_self_eq_true _)
  unfold State.moverMail
  split
  · simp only [hfirst, if_true, State.pushMoverMail, State.mover_setMover, htaken]
    split
    · exact State.mailWait_fills hr payload 4 0 port 63 chan
    · exact State.mailWait_fills hr payload 4 0 port 63 chan
  · exact State.mailWrite_fills hr payload 4 0 port 63 chan

theorem State.moverMail_keeps (s : State) (port box : Nat) (payload : BitVec 448) (chan : Nat) :
    Keeps [.movers, .boxes, .objs, .log, .out] [.D0A08] s (s.moverMail port box payload chan) := by
  have hmover (u : State) (m : Mover) : Keeps [.movers, .boxes, .objs, .log, .out] [.D0A08] u (u.setMover port m) :=
    (Keeps.of_parts (u.setMover_unchanged port m) (by decide)).mono (by decide)
  have hpush (u : State) : Keeps [.movers, .boxes, .objs, .log, .out] [.D0A08] u (u.pushMoverMail port box) :=
    (Keeps.of_parts (u.pushMoverMail_unchanged port box) (by decide)).mono (by decide)
  unfold State.moverMail
  split
  · dsimp only
    split
    · exact (hmover _ _).trans (hpush _)
    · exact hmover _ _
  · exact (s.mailWrite_keeps ..).mono (by decide)

/-- The messages that a mover keeps are no part of its channels. -/
theorem State.mchan_setMail (s : State) (port : Nat) (l : List (Nat × BitVec 448 × Nat)) (p c : Nat) :
    (s.setMover port { s.mover port with mail := l }).mchan p c = s.mchan p c := by
  by_cases hp : p = port
  · exact hp ▸ State.mchan_setMover (m := { s.mover port with mail := l }) rfl c
  · rw [State.mchan, State.mover_setMover_ne s _ hp, State.mchan]

theorem State.pushMoverMail_mchan (s : State) (port box p c : Nat) : (s.pushMoverMail port box).mchan p c = s.mchan p c := by
  have hwait (m : BitVec 448) (k : Nat) := (s.mailWait_unchanged box m 4 0 port 63 k).mchan (by simp) p c
  unfold State.pushMoverMail
  split
  · rfl
  · dsimp only
    split
    · exact (State.mchan_setMail _ _ _ _ _).trans (hwait _ _)
    · exact hwait _ _

/-- A message leaves every channel as it was. -/
theorem State.moverMail_mchan (s : State) (port box : Nat) (payload : BitVec 448) (chan p c : Nat) :
    (s.moverMail port box payload chan).mchan p c = s.mchan p c := by
  unfold State.moverMail
  split
  · dsimp only
    split
    · exact (State.pushMoverMail_mchan _ _ _ _ _).trans (State.mchan_setMail _ _ _ _ _)
    · exact State.mchan_setMail _ _ _ _ _
  · exact (s.mailWrite_keeps ..).1.mchan (by decide) p c

end Sys2Proof.Machine
end

section
/-!
Movers: a descriptor completes, and halted channels and stopped movers go on (R256, R259).
-/

namespace Sys2Proof.Machine

/-! ### Completion (R256) -/

/-- The priority beats of a completion leave the attachment point. -/
def State.spendBeats (s : State) (port need : Nat) : State :=
  if need = 0 then s
  else s.setSite port { s.site port with attach := mapSet (s.site port).attach 22 (mapGet 16 (s.site port).attach 22 - need) }

theorem State.spendBeats_unchanged (s : State) (port need : Nat) : unchangedBut [.sites] s (s.spendBeats port need) := by
  unfold State.spendBeats
  split
  · exact .refl _ s
  · exact s.setSite_unchanged _ _

/-- A post leaves if the descriptor asks for one. -/
def State.postIf (s : State) (posts : Bool) (p : Post) : State := if posts then s.sendPost p else s

theorem State.postIf_unchanged (s : State) (posts : Bool) (p : Post) : unchangedBut [.posts, .gates] s (s.postIf posts p) := by
  unfold State.postIf
  split
  · exact s.sendPost_unchanged p
  · exact .refl _ s

/-- The check unit that a descriptor has locked is free again (R269). -/
def State.unlockIf (s : State) (lock : Bool) (unit : Nat) : State := if lock then s.setCheck unit { s.check unit with locked := false } else s

theorem State.unlockIf_unchanged (s : State) (lock : Bool) (unit : Nat) : unchangedBut [.checks] s (s.unlockIf lock unit) := by
  unfold State.unlockIf
  split
  · exact s.setCheck_unchanged _ _
  · exact .refl _ s

theorem State.unlockIf_checks {s u : State} (h : u.checks = s.checks) (lock : Bool) (unit : Nat) :
    (u.unlockIf lock unit).checks = (s.unlockIf lock unit).checks := by
  have hcheck : u.check unit = s.check unit := by rw [State.check, h, State.check]
  unfold State.unlockIf
  split
  · rw [State.setCheck, State.setCheck, hcheck, h]
  · exact h

/-- The completion message leaves if the descriptor asks for one. -/
def State.mailIf (s : State) (told : Bool) (port box : Nat) (payload : BitVec 448) (chan : Nat) : State :=
  if told then s.moverMail port box payload chan else s

theorem State.mailIf_keeps (s : State) (told : Bool) (port box : Nat) (payload : BitVec 448) (chan : Nat) :
    Keeps [.movers, .boxes, .objs, .log, .out] [.D0A08] s (s.mailIf told port box payload chan) := .ite (s.moverMail_keeps ..) (.refl _ _ s)

theorem State.mailIf_mchan (s : State) (told : Bool) (port box : Nat) (payload : BitVec 448) (chan p c : Nat) :
    (s.mailIf told port box payload chan).mchan p c = s.mchan p c := by
  unfold State.mailIf
  split
  · exact s.moverMail_mchan ..
  · rfl

/-- The post of a completed descriptor. -/
def donePost (port : Nat) (a : Active) : Post :=
  { src := port, port := dTport a.desc, ctr := dCtr a.desc, inc := a.done, step := false, wave16 := 0, replica := 0, slot := 0 }

/-- Whether a completed descriptor posts: in this panel, and for units that were written. -/
def State.donePosts (s : State) (a : Active) : Bool := dPost a.desc && !s.farDst a.desc && decide (0 < a.done)

/-- The channel without its oldest descriptor, whose status is in the ring. -/
def MChan.completed (c : MChan) (a : Active) (rest : List Active) (time : Nat) (k : Code) : MChan :=
  { c with active := rest, ring := mapSet c.ring a.entry (withStatus (c.entry a.entry) time a.done k) }

/-- The mailbox of a completion message. -/
def doneBox (port : Nat) (a : Active) : Nat := if dMseq a.desc then 64 + port else dMbox a.desc

/-- The state that the oldest descriptor's completion leaves. -/
def State.completed (s : State) (port chan : Nat) (a : Active) (rest : List Active) : State :=
  let k := (s.mover port).stop.getD (worst a.codes)
  let need := if (iodOfPort port).isSome then 0 else beatsOf a.desc (s.donePosts a)
  let u := ((s.spendBeats port need).postIf (s.donePosts a) (donePost port a)).setMchan port chan ((s.mchan port chan).completed a rest s.time k)
  (u.unlockIf a.lock (dUnit port a.desc)).mailIf (dMsg a.desc) port (doneBox port a) (moverMsg chan a.entry k a.done (dUser a.desc)) chan

theorem exec_descriptorComplete {s : State} {port chan : Nat} {a : Active} {rest : List Active} (hactive : (s.mchan port chan).active = a :: rest)
    (hfinished : a.finished = true) (hsettled : (s.mover port).stop ≠ none → (s.mover port).settled = true)
    (hbeats : iodOfPort port = none → beatsOf a.desc (s.donePosts a) ≤ mapGet 16 (s.site port).attach 22) :
    exec (.descriptorComplete port chan) s = .next (s.completed port chan a rest) := by
  have htime (need : Nat) : ((s.spendBeats port need).postIf (s.donePosts a) (donePost port a)).time = s.time :=
    ((State.postIf_unchanged _ _ _).time (by simp)).trans ((s.spendBeats_unchanged _ _).time (by simp))
  have hgoes : ¬((!a.finished) = true ∨ ((s.mover port).stop.isSome = true ∧ (!(s.mover port).settled) = true) ∨
      mapGet 16 (s.site port).attach 22 < if (iodOfPort port).isSome then 0 else beatsOf a.desc (s.donePosts a)) := by
    rintro (h | ⟨hstop, h⟩ | h)
    · simp [hfinished] at h
    · simp [hsettled (Option.isSome_iff_ne_none.1 hstop)] at h
    · split at h
      next => omega
      next hport => exact absurd (hbeats (Option.not_isSome_iff_eq_none.1 hport)) (by omega)
  refine congrArg Host.Outcome.next ?_
  simp only [hactive]
  refine (if_neg hgoes).trans ?_
  unfold State.completed MChan.completed
  rw [← htime]
  rfl

section
variable (s : State) (port chan : Nat) (a : Active) (rest : List Active)

/-- Posts, status and check unit are written before the message leaves, which changes none of them. -/
theorem State.completed_mchan : (s.completed port chan a rest).mchan port chan =
    (s.mchan port chan).completed a rest s.time ((s.mover port).stop.getD (worst a.codes)) :=
  (State.mailIf_mchan ..).trans (((State.unlockIf_unchanged _ _ _).mchan (by simp) _ _).trans (State.mchan_setMchan _ _ _ _))

/-- What a completion leaves of posts: none, one on the mover's own port, or one that crosses the base. -/
theorem State.completed_posts : let t := s.completed port chan a rest
    (s.donePosts a = false → t.posts = s.posts ∧ t.gates = s.gates) ∧
    (s.donePosts a = true → dTport a.desc = port → t.posts = s.posts ++ [donePost port a] ∧ t.gates = s.gates) ∧
    (s.donePosts a = true → dTport a.desc ≠ port → ∃ m, t.posts = s.posts ++ [{ donePost port a with crossing := some m }]) := by
  intro t
  have hsites := s.spendBeats_unchanged port (if (iodOfPort port).isSome then 0 else beatsOf a.desc (s.donePosts a))
  have hrest : unchangedBut [.movers, .checks, .boxes, .objs, .log, .out] _ (s.completed port chan a rest) :=
    ((State.setMchan_unchanged _ port chan _).mono (by simp)).trans (((State.unlockIf_unchanged _ _ _).mono (by simp)).trans
      ((State.mailIf_keeps ..).1.mono (by simp)))
  have hposts : t.posts = _ := hrest .posts (by simp)
  have hgates : t.gates = _ := hrest .gates (by simp)
  rw [hposts, hgates, ← hsites .posts (by simp), ← hsites .gates (by simp)]
  refine ⟨fun hno => ?_, fun hyes hown => ?_, fun hyes hother => ?_⟩
  · rw [State.postIf, if_neg (Bool.eq_false_iff.1 hno)]
    exact ⟨rfl, rfl⟩
  · rw [State.postIf, if_pos hyes]
    exact State.sendPost_own hown.symm
  · rw [State.postIf, if_pos hyes]
    exact State.sendPost_other (Ne.symm hother)

/-- The state in which the completion message leaves, and the frame over what precedes it. -/
theorem State.completed_eq_mailIf : ∃ u : State, unchangedBut [.movers, .posts, .gates, .checks, .sites] s u ∧
    (u.mover port).mail = (s.mover port).mail ∧ u.checks = (s.unlockIf a.lock (dUnit port a.desc)).checks ∧
    s.completed port chan a rest = u.mailIf (dMsg a.desc) port (doneBox port a)
      (moverMsg chan a.entry ((s.mover port).stop.getD (worst a.codes)) a.done (dUser a.desc)) chan := by
  let need := if (iodOfPort port).isSome then 0 else beatsOf a.desc (s.donePosts a)
  have hposted : unchangedBut [.posts, .gates, .sites] s ((s.spendBeats port need).postIf (s.donePosts a) (donePost port a)) :=
    ((s.spendBeats_unchanged _ _).mono (by simp)).trans ((State.postIf_unchanged _ _ _).mono (by simp))
  refine ⟨_, ?_, ?_, ?_, rfl⟩
  · exact (hposted.mono (by simp)).trans (((State.setMchan_unchanged _ _ _ _).mono (by simp)).trans ((State.unlockIf_unchanged _ _ _).mono (by simp)))
  · rw [(State.unlockIf_unchanged _ _ _).mover (by simp), State.mover_setMchan, hposted.mover (by simp)]
  · exact State.unlockIf_checks ((State.setMchan_unchanged _ _ _ _ .checks (by simp)).trans (hposted .checks (by simp))) _ _

theorem State.completed_checks : let t := s.completed port chan a rest
    (a.lock = true → (t.check (dUnit port a.desc)).locked = false) ∧ (a.lock = false → t.checks = s.checks) := by
  obtain ⟨u, -, -, huchecks, ht⟩ := s.completed_eq_mailIf port chan a rest
  have hchecks : (s.completed port chan a rest).checks = (s.unlockIf a.lock (dUnit port a.desc)).checks :=
    ht ▸ ((u.mailIf_keeps ..).1 .checks (by simp)).trans huchecks
  refine ⟨fun hlock => ?_, fun hlock => ?_⟩
  · rw [State.check, hchecks, State.unlockIf, if_pos hlock]
    exact congrArg CheckUnit.locked (s.check_setCheck _ _)
  · rw [hchecks, State.unlockIf, if_neg (Bool.eq_false_iff.1 hlock)]

theorem State.completed_mail (hmail : ∀ x ∈ (s.mover port).mail, x.1 ≠ doneBox port a) : let t := s.completed port chan a rest
    (dMsg a.desc = false → t.boxes = s.boxes ∧ t.out = s.out) ∧
      (dMsg a.desc = true → boxReserved (doneBox port a) = false → (t.box (doneBox port a)).full = true) := by
  obtain ⟨u, hu, humail, -, ht⟩ := s.completed_eq_mailIf port chan a rest
  rw [ht]
  refine ⟨fun hno => ?_, fun hyes hfree => ?_⟩
  · rw [State.mailIf, if_neg (Bool.eq_false_iff.1 hno)]
    exact ⟨hu .boxes (by simp), hu .out (by simp)⟩
  · rw [State.mailIf, if_pos hyes]
    exact State.moverMail_fills hfree (humail ▸ hmail) _ _

theorem State.completed_keeps :
    Keeps [.movers, .posts, .gates, .checks, .sites, .boxes, .objs, .log, .out] [.D0A08] s (s.completed port chan a rest) := by
  have hsites := Keeps.of_parts (s.spendBeats_unchanged port (if (iodOfPort port).isSome then 0 else beatsOf a.desc (s.donePosts a))) (by decide)
  have hposts (u : State) := Keeps.of_parts (u.postIf_unchanged (s.donePosts a) (donePost port a)) (by decide)
  have hchan (u : State) (c : MChan) := Keeps.of_parts (u.setMchan_unchanged port chan c) (by decide)
  have hchecks (u : State) := Keeps.of_parts (u.unlockIf_unchanged a.lock (dUnit port a.desc)) (by decide)
  exact (hsites.mono (by decide)).trans (((hposts _).mono (by decide)).trans (((hchan _ _).mono (by decide)).trans
    (((hchecks _).mono (by decide)).trans ((State.mailIf_keeps ..).mono (by decide)))))

end

/-! ### Resumes and aborts (R259) -/

/-- A settled mover, or one that has not stopped, goes on with no channel halted. -/
theorem State.resumeMover_taken {s : State} {port : Nat} (h : (s.mover port).stop ≠ none → (s.mover port).settled = true) :
    ∃ m : Mover, s.resumeMover port = (s.setMover port m, true) ∧ m.stop = none ∧ ∀ c ∈ m.chans, c.2.halted = false := by
  have hgoes : ¬((s.mover port).stop.isSome = true ∧ (!(s.mover port).settled) = true) := by
    rintro ⟨hstop, hsettled⟩
    simp [h (Option.isSome_iff_ne_none.1 hstop)] at hsettled
  refine ⟨_, if_neg hgoes, rfl, fun c hc => ?_⟩
  obtain ⟨p, -, rfl⟩ := List.mem_map.1 hc
  dsimp only
  split
  · rfl
  · next hrest => simpa using fun hhalted => hrest (.inr hhalted)

/-- A command that a session may write, and that starts, is entered and reported (R316). -/
theorem State.commandOf_starts {s u : State} {o : Obj} {arg n : Nat} {x : Session} {running : Bool} (hopen : s.openSession n = some x)
    (hacts : s.cuActs 2 = true) (hlevel : (objRow o).level ≤ x.level) (hmatches : s.matches x = true) (hrange : s.inRange o 0 arg = true)
    (hstart : s.startCmd o arg n x = (u, .ok, running)) : s.commandOf o arg n =
      State.raise { u with cmds := mapSet u.cmds o { arg := arg, code := .ok, running := running, started := s.time, session := n } } evLedgerWrite n
        [n, (objRow o).number, 0] := by
  have hmay : ¬(x.level < (objRow o).level ∨ (o ≠ .X070E ∧ (!s.matches x) = true)) := by
    simp [hmatches, Nat.not_lt.2 hlevel]
  simp only [State.commandOf, hopen, hacts, State.command, if_neg hmay, hrange, hstart, Bool.not_true, Bool.false_eq_true, if_false, if_true]

/-- A channel after its ABORT bit: every entry not complete ends ABORTED. -/
def MChan.aborted (c : MChan) (size : Nat) : MChan :=
  { c with
    active := c.active.map (fun a => { a with halted := true, codes := .aborted :: a.codes }) ++
      (c.unstarted size).map (fun e => { newActive e (c.entry e) false with halted := true, codes := [.aborted] })
    consumer := (match (c.unstarted size).getLast? with
      | some e => (e + 1) % size
      | none => c.consumer) }

theorem exec_channelAbort {s : State} {port chan : Nat} (h : moverThere port chan = true) :
    exec (.channelAbort port chan) s = .next (s.setMchan port chan ((s.mchan port chan).aborted (ringSize port))) :=
  congrArg Host.Outcome.next (if_neg (by simp [h]))

theorem MChan.mem_aborted {c : MChan} {size : Nat} {b : Active} (h : b ∈ (c.aborted size).active) :
    b.halted = true ∧ b.codes.head? = some .aborted := by
  obtain h | h := List.mem_append.1 h
  all_goals
    obtain ⟨_, -, rfl⟩ := List.mem_map.1 h
    exact ⟨rfl, rfl⟩

theorem MChan.entries_aborted (c : MChan) (size : Nat) :
    (c.aborted size).active.map (fun a => a.entry) = c.active.map (fun a => a.entry) ++ c.unstarted size := by
  simp only [MChan.aborted, List.map_append, List.map_map, Function.comp_def, newActive, List.map_id_fun', id_eq]

end Sys2Proof.Machine
end

section
/-!
Movers end (R256 to R259): responses, resumes and aborts, and the obligation.
-/

namespace Sys2Proof.Machine

/-! ### Responses (R256) -/

section
variable {s : State} {port chan : Nat} {a : Active} {rest : List Active} {w : MWrite} {ws : List MWrite}
  (hactive : (s.mchan port chan).active = a :: rest) (hwrites : a.writes = w :: ws)
include hactive hwrites

theorem exec_moverResponse_write {k : Code} (hcode : s.writeCode port a w = some k) :
    exec (.moverResponse port chan false) s = .next (s.writeEnds port chan a w k) := by
  have hhas : a.hasWrite = true := by simp [Active.hasWrite, hwrites]
  refine congrArg Host.Outcome.next ?_
  simp only [hactive, List.find?_cons_of_pos, hhas, hwrites, List.headD_cons, hcode, Bool.false_eq_true, if_false]

theorem exec_writeResponseTimeout_late (hlate : w.at' + 1000 * s.obj .D0A04 port < s.time) :
    exec (.writeResponseTimeout port chan) s =
      .next ((s.setMchan port chan ((s.mchan port chan).judged a.failed rest .timeout)).raise evResponseLate port [chan, a.entry]) := by
  have hhas : a.hasWrite = true := by simp [Active.hasWrite, hwrites]
  have hends := State.writeEnds_failed hactive (k := .timeout) (by decide) (by decide) w
  refine congrArg Host.Outcome.next ?_
  simp only [hactive, List.find?_cons_of_pos, hhas, hwrites, List.headD_cons, if_pos hlate]
  exact congrArg (State.raise · evResponseLate port [chan, a.entry]) hends

end

theorem State.writeCode_answered {s : State} {port : Nat} {a : Active} {w : MWrite} {k : Code} (hland : w.land = none) (hmode : dDmode a.desc ≠ 2)
    (hanswer : w.answer = some k) : s.writeCode port a w = some (moverCode k) := by
  simp only [State.writeCode, hland, hmode, hanswer, if_false, Option.map_some]

theorem stopsMover_code {k : Code} (h : stopsMover k = true) : k ≠ .ok ∧ k ≠ .poisoned ∧ moverCode k = k := by
  cases k <;> revert h <;> decide

/-- The code of a write that a slot, a packet or a check unit answers. -/
theorem State.writeCode_remote {s : State} {port : Nat} {a : Active} {w : MWrite} (hland : w.land = none)
    (h : (dDmode a.desc ≠ 2 ∧ w.answer = some .ok) ∨ (dDmode a.desc = 2 ∧ (s.check (dUnit port a.desc)).feeds < a.writes.length)) :
    s.writeCode port a w = some .ok := by
  obtain ⟨hmode, hanswer⟩ | ⟨hmode, hfed⟩ := h
  · exact State.writeCode_answered hland hmode hanswer
  · simp only [State.writeCode, hland, hmode, hfed, if_true]

theorem State.writeCode_vault {s : State} {port off p tile unit : Nat} {a : Active} {w : MWrite} (hland : w.land = some off)
    (hplace : s.dstPlace a.desc off w.data.length = .vault p tile unit) (hband : s.band p ≠ bandB4) (hserves : s.colServes p tile = true) :
    s.writeCode port a w = some .ok := by
  simp only [State.writeCode, hland, hplace, if_neg hband, hserves, if_true]

theorem State.writeLanded_none {s : State} {a : Active} {w : MWrite} (hland : w.land = none) : s.writeLanded a w = s := by
  simp only [State.writeLanded, hland]

theorem State.writeLanded_vault {s : State} {off p tile unit : Nat} {a : Active} {w : MWrite} (hland : w.land = some off)
    (hplace : s.dstPlace a.desc off w.data.length = .vault p tile unit) : s.writeLanded a w = s.vaultWrite p tile unit w.data := by
  simp only [State.writeLanded, hland, hplace]

/-! ### The obligation -/

/-- Settles O37: each clause is the lemma of the command's operation. -/
theorem moverEndsComplete : Obligations.MoverEndsComplete := by
  unfold Obligations.MoverEndsComplete
  refine ⟨fun s port chan a rest w ws hactive hwrites hland hdata hcode => ?taken,
    fun s port chan off p tile unit a rest w ws hwf hactive hwrites hland hplace hband hserves => ?landed,
    fun s port chan a rest r i more k l hactive hreads hslot hanswer hk => ?refused,
    fun s port chan a rest w ws k hactive hwrites hland hmode hanswer hk hstop => ?stopped,
    fun s port chan a rest w ws hactive hwrites hlate => ?late, fun s port k hstop hidle => ?settled,
    fun s port chan a rest hactive hfinished hsettled => ?completed, fun s port chan hhalted hstop => ?resumed, fun s port chan hthere => ?aborted,
    fun s session port x hopen hacts hlevel hmatches hrange hsettled => ?moverResumed⟩
  case taken =>
    have he := exec_moverResponse_write hactive hwrites (State.writeCode_remote hland hcode)
    rw [State.writeEnds_taken hactive (State.writeLanded_none hland) rfl] at he
    have hkeeps := (s.bump_keeps .D0A02 port w.count)
    refine ⟨_, he, (State.mchan_setMchan _ _ _ _).trans ?_, s.obj_bump _ _ _, hkeeps.2, ?_⟩
    · simp [Active.taken, hwrites, MWrite.takenCode, hdata, anyMark]
    · exact (hkeeps.1.mono (by simp)).trans ((State.setMchan_unchanged _ _ _ _).mono (by simp))
  case landed =>
    intro x
    have hkept := s.vaultWrite_unchanged p tile unit w.data
    have he := exec_moverResponse_write hactive hwrites (State.writeCode_vault hland hplace hband hserves)
    rw [State.writeEnds_taken hactive (State.writeLanded_vault hland hplace) (hkept.mchan (by simp) _ _)] at he
    have hkeeps := (s.vaultWrite p tile unit w.data).bump_keeps .D0A02 port w.count
    have hwrote : s.Wrote (s.vaultWrite p tile unit w.data) x w.data := ⟨rfl, rfl⟩
    obtain ⟨hmemory, houtside⟩ := hwrote.memory hwf rfl
    refine ⟨_, he, hmemory, houtside, (State.obj_bump _ _ _ _).trans (congrArg (· + w.count) (hkept.obj (by simp) _ _)),
      ((hkept.objsBut (by simp) _).trans hkeeps.2), ?_⟩
    exact (hkept.mono (by simp)).trans ((hkeeps.1.mono (by simp)).trans ((State.setMchan_unchanged _ _ _ _).mono (by simp)))
  case refused =>
    exact ⟨_, congrArg Host.Outcome.next (State.readEnds_halts hactive hreads (State.readBrings_slot hslot hanswer [] 0) rfl hk true),
      State.mchan_setMchan _ _ _ _, State.setMchan_unchanged _ _ _ _⟩
  case stopped =>
    obtain ⟨hok, hpoisoned, hcode⟩ := stopsMover_code hk
    have htold : s.writeCode port a w = some k := (State.writeCode_answered hland hmode hanswer).trans (congrArg some hcode)
    have hstop' : ((s.setMchan port chan ((s.mchan port chan).judged a.failed rest k)).mover port).stop = none := by
      rw [State.mover_setMchan, hstop]
    have he := exec_moverResponse_write hactive hwrites htold
    rw [State.writeEnds_failed hactive hok hpoisoned w, if_pos hk] at he
    obtain ⟨hcodes, hsettled, hchans, hobj, hhead, hkeeps⟩ := State.stopMover_spec hstop' k
    refine ⟨_, he, hcodes, hsettled, fun b hb => MChan.mem_stilled (hchans chan ▸ hb), hobj, hhead, hkeeps.2, ?_⟩
    exact ((State.setMchan_unchanged _ _ _ _).mono (by simp)).trans hkeeps.1
  case late =>
    have hlog := (s.setMchan port chan ((s.mchan port chan).judged a.failed rest .timeout)).raise_unchanged evResponseLate port [chan, a.entry]
    have hchan := (hlog.mchan (by simp) port chan).trans (State.mchan_setMchan _ _ _ _)
    refine ⟨_, exec_writeResponseTimeout_late hactive hwrites hlate, ?_, ?_, State.raise_head _ _ _ _, ?_⟩
    · rw [hchan]
      exact Bool.or_true _
    · rw [hchan]
      simp [MChan.judged, Active.failed, hwrites]
    · exact ((State.setMchan_unchanged _ _ _ _).mono (by simp)).trans (hlog.mono (by simp))
  case settled =>
    refine ⟨_, congrArg Host.Outcome.next (if_pos ⟨by simp [hstop], ?_⟩), s.mover_setMover _ _, s.setMover_unchanged _ _⟩
    simpa using hidle
  case completed =>
    intro posts hbeats k box post hmail
    obtain ⟨hnone, hown, hother⟩ := s.completed_posts port chan a rest
    obtain ⟨hunlocked, hchecks⟩ := s.completed_checks port chan a rest
    obtain ⟨hsilent, htold⟩ := s.completed_mail port chan a rest hmail
    have hchan := s.completed_mchan port chan a rest
    have hentry : ((s.completed port chan a rest).mchan port chan).entry a.entry = withStatus ((s.mchan port chan).entry a.entry) s.time a.done k :=
      hchan ▸ mapGet_mapSet_same _ _ _ _
    have hkeeps := s.completed_keeps port chan a rest
    exact ⟨_, exec_descriptorComplete hactive hfinished hsettled hbeats, congrArg MChan.active hchan, hentry, hentry ▸ dOwn_withStatus _ _ _ _,
      hnone, hown, hother, hunlocked, hchecks, hsilent, htold, hkeeps.2, hkeeps.1⟩
  case resumed =>
    have hchan := s.mchan_setMchan port chan ((s.mchan port chan).resumed (ringSize port))
    exact ⟨_, congrArg Host.Outcome.next (if_pos ⟨hhalted, by simp [hstop]⟩), congrArg MChan.halted hchan, congrArg MChan.idle hchan,
      congrArg MChan.consumer hchan, (congrArg MChan.active hchan).trans rfl, s.setMchan_unchanged _ _ _⟩
  case aborted =>
    refine ⟨_, exec_channelAbort hthere, fun b hb => ?_, ?_, ?_, s.setMchan_unchanged _ _ _⟩
    · rw [State.mchan_setMchan] at hb
      exact MChan.mem_aborted hb
    · rw [State.mchan_setMchan]
      exact MChan.entries_aborted _ _
    · rw [State.mchan_setMchan]
      rfl
  case moverResumed =>
    obtain ⟨m, hm, hstop, hchans⟩ := State.resumeMover_taken hsettled
    have hstart : s.startCmd .D0A05 port session x = (s.setMover port m, .ok, false) := by simp only [State.startCmd, hm, if_true]
    have hmover (u : State) (l : AMap Obj Cmd) (e n : Nat) (d : List Nat) : (State.raise { u with cmds := l } e n d).mover port = u.mover port := rfl
    refine ⟨_, congrArg Host.Outcome.next (State.commandOf_starts hopen hacts hlevel hmatches hrange hstart), ?_, ?_, ?_, ?_⟩
    · rw [hmover, State.mover_setMover, hstop]
    · rw [hmover, State.mover_setMover]
      exact hchans
    · exact mapGet_mapSet_same _ _ _ _
    · have hcmds (u : State) (l : AMap Obj Cmd) : unchangedBut [.cmds] u { u with cmds := l } := by rw [unchangedBut_iff]; simp
      exact ((s.setMover_unchanged _ _).mono (by simp)).trans (((hcmds _ _).mono (by simp)).trans ((State.raise_unchanged _ _ _ _).mono (by simp)))

end Sys2Proof.Machine
end

section
/-!
PTP (R283 to R285) and a zone's realignment (R286): what the boundary clock sends, what each message that it hears changes, and how long it holds
over.
-/

namespace Sys2Proof.Machine

/-! ### The state of C.0B00 (R285) -/

theorem State.ptp_keeps (s : State) (x : Ptp) : Keeps [.ptp] [] s { s with ptp := x } := .of_parts (by rw [unchangedBut_iff]; simp) (by decide)

theorem State.obj_ptpEnter (s : State) (v : Nat) : (s.ptpEnter v).obj .C0B00 0 = v := by
  unfold State.ptpEnter
  dsimp only
  split
  · assumption
  · exact State.obj_setObj _ _ _ _

/-- A value that C.0B00 takes leaves the port records alone. -/
theorem State.ptpEnter_shows (s : State) (v : Nat) : Keeps [.objs, .log] [.C0B00] s (s.ptpEnter v) :=
  .ite (.refl _ _ _) (((s.setObj_keeps _ _ _).mono (by decide)).trans ((State.raise_keeps _ _ _ _).mono (by decide)))

theorem State.ptpEnter_ptp (s : State) (v : Nat) : (s.ptpEnter v).ptp = s.ptp := (s.ptpEnter_shows v).1 .ptp (by decide)

/-- The clock's records become `x`, and C.0B00 takes `v`. -/
def State.ptpMove (s : State) (x : Ptp) (v : Nat) : State := State.ptpEnter { s with ptp := x } v

theorem State.ptpMove_spec (s : State) (x : Ptp) (v : Nat) :
    (s.ptpMove x v).ptp = x ∧ (s.ptpMove x v).obj .C0B00 0 = v ∧ Keeps [.objs, .ptp, .log] [.C0B00] s (s.ptpMove x v) :=
  ⟨State.ptpEnter_ptp _ _, State.obj_ptpEnter _ _, ((s.ptp_keeps x).mono (by decide)).trans ((State.ptpEnter_shows _ _).mono (by decide))⟩

theorem exec_announceTimeout_of_aligned {s : State} (hports : s.ptpPorts = s) (htime : s.ptp.lastAnnounce + 3000000000 ≤ s.time)
    (hst : s.obj .C0B00 0 = ptpAligned) :
    exec .announceTimeout s = .next (s.ptpMove { s.ptp with master := none, good := 0, holdSince := s.time } ptpHoldover) := by
  change execAnnounceTimeout s = _
  unfold execAnnounceTimeout
  dsimp only
  rw [if_neg (Nat.not_lt.mpr htime), hports, if_pos hst]
  exact congrArg Host.Outcome.next (if_pos hst)

theorem exec_holdoverEnd_of_late {s : State} (hst : s.obj .C0B00 0 = ptpHoldover) (htime : s.ptp.holdSince + 1000000000 ≤ s.time) :
    exec .holdoverEnd s = .next (s.ptpEnter ptpConverging) := congrArg Host.Outcome.next (if_pos ⟨hst, htime⟩)

/-! ### What a port sends (R283) -/

/-- What a port sends every `every` ns, and last sent as `m` says, is due. -/
def sendDue (now : Nat) (m : AMap Nat Nat) (p every : Nat) : Bool := match m.find? (fun e => e.1 == p) with
  | some (_, t) => decide (t + every ≤ now)
  | none => true

theorem sendDue_iff (now : Nat) (m : AMap Nat Nat) (p every : Nat) :
    sendDue now m p every = true ↔ ∀ e, m.find? (fun e => e.1 == p) = some e → e.2 + every ≤ now := by
  unfold sendDue
  split <;> simp [*]

/-- A Sync leaves a port, which keeps its time. -/
def State.syncSent (s : State) (p : Nat) : State :=
  State.send { s with ptp := { s.ptp with syncAt := mapSet s.ptp.syncAt p s.time } } (.ptp p 0 s.time (s.obj .C0B04 0))

/-- A delay request leaves a port, which keeps its time. -/
def State.delayAsked (s : State) (p : Nat) : State :=
  State.send { s with ptp := { s.ptp with delayAt := mapSet s.ptp.delayAt p s.time } } (.ptp p (if p < 24 then 3 else 2) s.time (s.obj .C0B04 0))

theorem State.syncSent_unchanged (s : State) (p : Nat) : unchangedBut [.ptp, .out] s (s.syncSent p) :=
  ((s.ptp_keeps _).1.mono (by simp)).trans ((State.send_unchanged _ _).mono (by simp))

theorem State.delayAsked_unchanged (s : State) (p : Nat) : unchangedBut [.ptp, .out] s (s.delayAsked p) :=
  ((s.ptp_keeps _).1.mono (by simp)).trans ((State.send_unchanged _ _).mono (by simp))

/-- What a port that is up sends: first the Sync, then the delay request. -/
theorem exec_ptpSyncSend_of_up {s : State} {p : Nat} (hup : s.ptpUp p = true) : exec (.ptpSyncSend p) s = .next
    (let u := if decide (s.ptp.master = some p) || !sendDue s.time s.ptp.syncAt p 7812500 then s else s.syncSent p
     if (decide (24 ≤ p) && !decide (s.ptp.master = some p)) || !sendDue s.time u.ptp.delayAt p 1000000000 then u else u.delayAsked p) :=
  congrArg Host.Outcome.next (if_neg (by rw [hup]; decide))

theorem exec_ptpSyncSend_sync {s : State} {p : Nat} (hup : s.ptpUp p = true) (hmaster : s.ptp.master ≠ some p)
    (hsync : sendDue s.time s.ptp.syncAt p 7812500 = true) : exec (.ptpSyncSend p) s =
      .next (if 24 ≤ p ∨ sendDue s.time s.ptp.delayAt p 1000000000 = false then s.syncSent p else (s.syncSent p).delayAsked p) := by
  have hdelay : (s.syncSent p).ptp.delayAt = s.ptp.delayAt := rfl
  rw [exec_ptpSyncSend_of_up hup]
  simp [hmaster, hsync, hdelay]

theorem exec_ptpSyncSend_master {s : State} {p : Nat} (hup : s.ptpUp p = true) (hmaster : s.ptp.master = some p)
    (hdelay : sendDue s.time s.ptp.delayAt p 1000000000 = true) : exec (.ptpSyncSend p) s = .next (s.delayAsked p) := by
  rw [exec_ptpSyncSend_of_up hup]
  simp [hmaster, hdelay]

/-! ### What a port hears (R283, R285) -/

/-- An offset, in ns, corrected by the asymmetry of its link's fibres (C.0B0A, in ps). -/
def State.fixedOffset (s : State) (p : Nat) (offset : Int) : Int :=
  offset - (if p < 24 then (BitVec.ofNat 16 (s.obj .C0B0A p)).toInt else 0) / 1000

/-- The clock that an Announce offers. -/
def heardClock (priority clockClass identity : Nat) : Nat :=
  State.ownClock.clockOrder (priority % 2 ^ 8) (clockClass % 2 ^ 8) (identity % 2 ^ 64)

theorem exec_ptpMessageReceive_otherDomain {s : State} {domain : Nat} (h : domain ≠ s.obj .C0B04 0) (p kind a b c : Nat) (offset : Int) :
    exec (.ptpMessageReceive p kind offset a b c domain) s = .next s :=
  congrArg Host.Outcome.next (if_pos (by simp [h]))

section
variable {s : State} {p : Nat} (hup : s.ptpUp p = true) (hports : s.ptpPorts = s) (a b c : Nat) (offset : Int)
include hup hports

/-- What a message of the panel's domain does on a port that is up, where no port has changed. -/
theorem exec_ptpMessageReceive_of_settled (kind : Nat) : exec (.ptpMessageReceive p kind offset a b c (s.obj .C0B04 0)) s = .next
    (if kind = 0 then if s.ptp.master = some p then (s.ptpSync (s.fixedOffset p offset)).ptpSet (s.fixedOffset p offset) else s
     else if kind = 1 then s.announced p (heardClock a b c)
     else if kind = 2 ∧ 24 ≤ p ∨ kind = 3 ∧ p < 24 then s.send (.ptp p (kind + 2) s.time (s.obj .C0B04 0))
     else s) := by
  change execPtpMessageReceive p kind offset a b c (s.obj .C0B04 0) s = _
  unfold execPtpMessageReceive
  rw [if_neg (by simp [hup]), hports]
  rfl

theorem exec_ptpMessageReceive_masterSync (hmaster : s.ptp.master = some p) : exec (.ptpMessageReceive p 0 offset a b c (s.obj .C0B04 0)) s =
    .next ((s.ptpSync (s.fixedOffset p offset)).ptpSet (s.fixedOffset p offset)) :=
  (exec_ptpMessageReceive_of_settled hup hports a b c offset 0).trans (congrArg Host.Outcome.next ((if_pos rfl).trans (if_pos hmaster)))

theorem exec_ptpMessageReceive_otherSync (hmaster : s.ptp.master ≠ some p) :
    exec (.ptpMessageReceive p 0 offset a b c (s.obj .C0B04 0)) s = .next s :=
  (exec_ptpMessageReceive_of_settled hup hports a b c offset 0).trans (congrArg Host.Outcome.next ((if_pos rfl).trans (if_neg hmaster)))

theorem exec_ptpMessageReceive_announce : exec (.ptpMessageReceive p 1 offset a b c (s.obj .C0B04 0)) s = .next (s.announced p (heardClock a b c)) :=
  (exec_ptpMessageReceive_of_settled hup hports a b c offset 1).trans
    (congrArg Host.Outcome.next ((if_neg (by decide)).trans (if_pos rfl)))

theorem exec_ptpMessageReceive_delayRequest : exec (.ptpMessageReceive p (if p < 24 then 3 else 2) offset a b c (s.obj .C0B04 0)) s =
    .next (s.send (.ptp p (if p < 24 then 5 else 4) s.time (s.obj .C0B04 0))) := by
  by_cases hp : p < 24
  · rw [if_pos hp, if_pos hp, exec_ptpMessageReceive_of_settled hup hports a b c offset, if_neg (by decide), if_neg (by decide),
      if_pos (.inr ⟨rfl, hp⟩)]
  · rw [if_neg hp, if_neg hp, exec_ptpMessageReceive_of_settled hup hports a b c offset, if_neg (by decide), if_neg (by decide),
      if_pos (.inl ⟨rfl, Nat.not_lt.mp hp⟩)]

end

/-! ### An Announce (R283) -/

theorem State.announced_of_best {s : State} {p v : Nat} (hown : v < s.ownClock) (hmaster : s.ptp.master ≠ some p)
    (hbest : s.ptp.master = none ∨ v < s.ptp.gm) :
    s.announced p v = s.ptpMove { s.ptp with master := some p, gm := v, lastAnnounce := s.time, good := 0 } ptpConverging := by
  unfold State.announced
  dsimp only
  rw [if_pos hown, if_neg (by simpa using hmaster), if_pos (by simpa using hbest)]
  rfl

theorem State.announced_of_master {s : State} {p v : Nat} (hown : v < s.ownClock) (hmaster : s.ptp.master = some p) :
    s.announced p v = { s with ptp := { s.ptp with gm := v, lastAnnounce := s.time } } := by
  unfold State.announced
  dsimp only
  rw [if_pos hown, if_pos (by simpa using hmaster)]

theorem State.announced_of_worse {s : State} {p v : Nat} (hown : s.ownClock ≤ v) (hmaster : s.ptp.master = some p ∨ s.ptp.master = none) :
    s.announced p v = s.ptpMove { s.ptp with master := none, good := 0, lastAnnounce := s.time } ptpGrandmaster := by
  unfold State.announced
  dsimp only
  rw [if_neg (Nat.not_lt.mpr hown), if_pos (by simpa using hmaster)]
  rfl

theorem State.announced_of_other {s : State} {p q v : Nat} (hmaster : s.ptp.master = some q) (hq : q ≠ p)
    (hworse : s.ownClock ≤ v ∨ s.ptp.gm ≤ v) : s.announced p v = s := by
  unfold State.announced
  dsimp only
  by_cases hown : v < s.ownClock
  · have hgm : s.ptp.gm ≤ v := hworse.resolve_left (Nat.not_le.mpr hown)
    rw [if_pos hown, if_neg (by simpa [hmaster] using hq), if_neg (by simpa [hmaster] using hgm)]
  · rw [if_neg hown, if_neg (by simpa [hmaster] using hq)]

/-! ### A Sync from the master (R284, R285) -/

/-- C.0B02 shows an offset, and `good` Syncs in succession were good. -/
def State.offsetShown (s : State) (offset : Int) (good : Nat) : State :=
  { s.setObj .C0B02 0 (BitVec.ofInt 32 offset).toNat with ptp := { s.ptp with good := good } }

theorem State.obj_offsetShown (s : State) (offset : Int) (good : Nat) :
    (s.offsetShown offset good).obj .C0B02 0 = (BitVec.ofInt 32 offset).toNat := State.obj_setObj s _ _ _

theorem State.offsetShown_keeps (s : State) (offset : Int) (good : Nat) : Keeps [.objs, .ptp] [.C0B02] s (s.offsetShown offset good) :=
  ((s.setObj_keeps _ _ _).mono (by decide)).trans ((State.ptp_keeps _ _).mono (by decide))

/-- Past the offset that it shows, and the count of good ones, a Sync moves at most C.0B00. -/
theorem State.ptpSync_shows (s : State) (offset : Int) : ∃ good, Keeps [.objs, .log] [.C0B00] (s.offsetShown offset good) (s.ptpSync offset) :=
  ⟨_, .ite (State.ptpEnter_shows _ _) (.ite (State.ptpEnter_shows _ _) (.refl _ _ _))⟩

theorem State.ptpSync_keeps (s : State) (offset : Int) : Keeps [.objs, .ptp, .log] [.C0B00, .C0B02] s (s.ptpSync offset) := by
  obtain ⟨good, hshows⟩ := s.ptpSync_shows offset
  exact ((s.offsetShown_keeps _ _).mono (by decide)).trans (hshows.mono (by decide))

theorem State.ptpSync_startup (s : State) (offset : Int) : (s.ptpSync offset).startup = s.startup := (s.ptpSync_keeps offset).1 .startup (by decide)

theorem State.ptpSync_set (s : State) (offset : Int) : (s.ptpSync offset).ptp.set = s.ptp.set := by
  obtain ⟨good, hshows⟩ := s.ptpSync_shows offset
  have hptp : (s.ptpSync offset).ptp = (s.offsetShown offset good).ptp := hshows.1 .ptp (by decide)
  rw [hptp]
  rfl

theorem State.obj_ptpSync (s : State) (offset : Int) : (s.ptpSync offset).obj .C0B02 0 = (BitVec.ofInt 32 offset).toNat := by
  obtain ⟨good, hshows⟩ := s.ptpSync_shows offset
  rw [hshows.obj _ _ (by decide), State.obj_offsetShown]

theorem State.ptpSync_of_sixteenth {s : State} {offset : Int} (hoffset : offset.natAbs ≤ 20) (hgood : 15 ≤ s.ptp.good) :
    s.ptpSync offset = (s.offsetShown offset 16).ptpEnter ptpAligned := by
  have hmin : min 16 (s.ptp.good + 1) = 16 := by omega
  simp only [State.ptpSync, State.setObj_ptp, if_pos hoffset, hmin]
  exact if_pos le_rfl

theorem State.ptpSync_of_fewer {s : State} {offset : Int} (hoffset : offset.natAbs ≤ 20) (hgood : s.ptp.good < 15) :
    s.ptpSync offset = s.offsetShown offset (s.ptp.good + 1) := by
  have hmin : min 16 (s.ptp.good + 1) = s.ptp.good + 1 := by omega
  simp only [State.ptpSync, State.setObj_ptp, if_pos hoffset, hmin]
  rw [if_neg (by omega), if_neg (by omega)]
  rfl

theorem State.ptpSet_of_otherStage {s : State} (h : s.startup.stage ≠ 6) (offset : Int) : s.ptpSet offset = s := if_pos (.inl h)

/-- The first Sync at stage 6 moves the time; after a warm start it may only move it forward. -/
theorem State.ptpSet_spec {s : State} {offset : Int} (hstage : s.startup.stage = 6) (hset : s.ptp.set = false)
    (hwarm : s.startup.warm = true → offset ≤ 0) : (s.ptpSet offset).time = ((s.time : Int) - offset).toNat ∧
    (s.ptpSet offset).ptp.set = true ∧ Keeps [.time, .ptp, .startup] [] s (s.ptpSet offset) := by
  have hfirst : ¬(s.startup.stage ≠ 6 ∨ s.ptp.set ∨ (s.startup.warm ∧ 0 < offset)) := by
    rintro (h | h | ⟨h, hlate⟩)
    · exact h hstage
    · rw [hset] at h
      cases h
    · exact absurd (hwarm h) (Int.not_le.mpr hlate)
  unfold State.ptpSet
  dsimp only
  rw [if_neg hfirst]
  exact ⟨rfl, rfl, .of_parts (by rw [unchangedBut_iff]; simp) (by decide)⟩

section
variable {s : State} {p : Nat} (hup : s.ptpUp p = true) (hports : s.ptpPorts = s) (hmaster : s.ptp.master = some p) (a b c : Nat) {offset : Int}
include hup hports hmaster

theorem exec_ptpMessageReceive_sixteenth (hstage : s.startup.stage ≠ 6) (hoffset : (s.fixedOffset p offset).natAbs ≤ 20) (hgood : 15 ≤ s.ptp.good) :
    ∃ t : State, exec (.ptpMessageReceive p 0 offset a b c (s.obj .C0B04 0)) s = .next t ∧ t.obj .C0B00 0 = ptpAligned ∧
      t.obj .C0B02 0 = (BitVec.ofInt 32 (s.fixedOffset p offset)).toNat ∧ t.ptp.good = 16 ∧ objsBut [.C0B00, .C0B02] s t ∧
      unchangedBut [.objs, .ptp, .log] s t := by
  have hexec := exec_ptpMessageReceive_masterSync hup hports a b c offset hmaster
  rw [State.ptpSet_of_otherStage (by rwa [State.ptpSync_startup])] at hexec
  have hsync := State.ptpSync_of_sixteenth hoffset hgood
  refine ⟨_, hexec, ?_, s.obj_ptpSync _, ?_, (s.ptpSync_keeps _).2, (s.ptpSync_keeps _).1⟩
  · rw [hsync, State.obj_ptpEnter]
  · rw [hsync, State.ptpEnter_ptp]
    rfl

theorem exec_ptpMessageReceive_fewer (hstage : s.startup.stage ≠ 6) (hoffset : (s.fixedOffset p offset).natAbs ≤ 20) (hgood : s.ptp.good < 15) :
    exec (.ptpMessageReceive p 0 offset a b c (s.obj .C0B04 0)) s = .next (s.offsetShown (s.fixedOffset p offset) (s.ptp.good + 1)) := by
  rw [exec_ptpMessageReceive_masterSync hup hports a b c offset hmaster, State.ptpSet_of_otherStage (by rwa [State.ptpSync_startup]),
    State.ptpSync_of_fewer hoffset hgood]

/-- The Sync that sets the time shows its offset and leaves the rest of the panel alone. -/
theorem exec_ptpMessageReceive_setTime (hstage : s.startup.stage = 6) (hset : s.ptp.set = false)
    (hwarm : s.startup.warm = true → s.fixedOffset p offset ≤ 0) :
    ∃ t : State, exec (.ptpMessageReceive p 0 offset a b c (s.obj .C0B04 0)) s = .next t ∧
      t.time = ((s.time : Int) - s.fixedOffset p offset).toNat ∧ t.ptp.set = true ∧
      t.obj .C0B02 0 = (BitVec.ofInt 32 (s.fixedOffset p offset)).toNat ∧ objsBut [.C0B00, .C0B02] s t ∧
      unchangedBut [.objs, .ptp, .log, .time, .startup] s t := by
  have hsync := s.ptpSync_keeps (s.fixedOffset p offset)
  have htime : (s.ptpSync (s.fixedOffset p offset)).time = s.time := hsync.1 .time (by decide)
  obtain ⟨hmoved, hdone, hrest⟩ := State.ptpSet_spec (s := s.ptpSync (s.fixedOffset p offset)) (offset := s.fixedOffset p offset)
    (by rwa [State.ptpSync_startup]) (by rwa [State.ptpSync_set]) (by rwa [State.ptpSync_startup])
  have hkeeps : Keeps [.objs, .ptp, .log, .time, .startup] [.C0B00, .C0B02] s _ := (hsync.mono (by decide)).trans (hrest.mono (by decide))
  refine ⟨_, exec_ptpMessageReceive_masterSync hup hports a b c offset hmaster, by rw [hmoved, htime], hdone, ?_, hkeeps.2, hkeeps.1⟩
  rw [hrest.obj _ _ (by decide), State.obj_ptpSync]

end

/-! ### A repowered zone's fields (R286) -/

/-- C.0B09 shows the zone's readings. -/
def State.skewsShown (s : State) (zone : Nat) (skews : List (Nat × Nat)) : State :=
  (skews.filter (fun e => (zoneFields zone).contains e.1)).foldl (fun s e => s.setObj .C0B09 e.1 (ratF32 e.2 1000)) s

theorem State.skewsShown_keeps (s : State) (zone : Nat) (skews : List (Nat × Nat)) : Keeps [.objs] [.C0B09] s (s.skewsShown zone skews) :=
  .foldl (f := fun s (e : Nat × Nat) => s.setObj .C0B09 e.1 (ratF32 e.2 1000)) (fun s _ => s.setObj_keeps _ _ _) _ s

/-- A zone is no longer waited for. -/
def State.zoneRealigned (s : State) (zone : Nat) : State :=
  { s with power := { s.power with realigning := s.power.realigning.filter (fun z => z != zone) } }

theorem exec_zoneRealignDone_of_within {zone : Nat} {skews : List (Nat × Nat)} (h : ∀ e ∈ skews, e.1 ∈ zoneFields zone → e.2 ≤ 1500) (s : State) :
    exec (.zoneRealignDone zone skews) s = .next ((s.skewsShown zone skews).zoneRealigned zone) := by
  refine congrArg Host.Outcome.next (if_neg ?_)
  rw [Bool.not_eq_true, Bool.not_eq_false', List.all_eq_true]
  intro f _
  split
  case h_1 e he =>
    obtain ⟨hmem, hzone⟩ := List.mem_filter.mp (List.mem_of_find?_eq_some he)
    exact decide_eq_true (h e hmem (List.contains_iff_mem.mp hzone))
  case h_2 => rfl

theorem exec_zoneRealignDone_of_beyond {zone f d : Nat} (hf : f ∈ zoneFields zone) (hd : 1500 < d) (s : State) :
    exec (.zoneRealignDone zone [(f, d)]) s = .next (s.setObj .C0B09 f (ratF32 d 1000)) := by
  have hmine : [(f, d)].filter (fun e => (zoneFields zone).contains e.1) = [(f, d)] := by simp [hf]
  change execZoneRealignDone zone [(f, d)] s = _
  unfold execZoneRealignDone
  dsimp only
  rw [hmine]
  refine congrArg Host.Outcome.next (if_pos ?_)
  rw [Bool.not_eq_true', List.all_eq_false]
  exact ⟨f, hf, by simpa using hd⟩

/-- Settles O40: a port's sends and each message that it hears are one branch of their command, and the clauses are read off what the branch's
updates leave. -/
theorem ptpCommandsComplete : Obligations.PtpCommandsComplete := by
  unfold Obligations.PtpCommandsComplete
  intro settled due fixed clock
  refine ⟨fun s p hup hmaster hsync => ?sync, fun s p hup hmaster hdelay => ?delay,
    fun s p a b c offset hup hports hstage hmaster hoffset hgood =>
      exec_ptpMessageReceive_sixteenth hup hports hmaster a b c hstage hoffset hgood,
    fun s p a b c offset hup hports hstage hmaster hoffset hgood => ?fewer,
    fun s p a b c offset hup hports hstage hset hwarm hmaster =>
      exec_ptpMessageReceive_setTime hup hports hmaster a b c hstage hset hwarm,
    fun s p a b c offset hup hports hmaster => exec_ptpMessageReceive_otherSync hup hports a b c offset hmaster,
    fun s p a b c offset hup hports hown hmaster hbest => ?best,
    fun s p a b c offset hup hports hown hmaster => (exec_ptpMessageReceive_announce hup hports a b c offset).trans
      (congrArg Host.Outcome.next (State.announced_of_master hown hmaster)),
    fun s p a b c offset hup hports hown hmaster => ?worse,
    fun s p q a b c offset hup hports hmaster hq hworse => (exec_ptpMessageReceive_announce hup hports a b c offset).trans
      (congrArg Host.Outcome.next (State.announced_of_other hmaster hq hworse)),
    fun s p a b c offset hup hports => exec_ptpMessageReceive_delayRequest hup hports a b c offset,
    fun s p kind a b c domain offset h => exec_ptpMessageReceive_otherDomain h p kind a b c offset,
    fun s hports htime hst => ?timeout, fun s hst htime => ?holdover, fun s zone skews h => ?within, fun s zone f d hf hd => ?beyond⟩
  case sync =>
    have hexec := exec_ptpSyncSend_sync hup hmaster ((sendDue_iff _ _ _ _).mpr hsync)
    have hdue : due s s.ptp.delayAt p 1000000000 ↔ sendDue s.time s.ptp.delayAt p 1000000000 = true := (sendDue_iff _ _ _ _).symm
    rw [hdue, Bool.not_eq_true]
    split at hexec
    case isTrue halone =>
      refine ⟨_, hexec, mapGet_mapSet_same _ _ _ _, fun _ => rfl, fun hp hdelay => ?_, s.syncSent_unchanged p⟩
      rw [hdelay] at halone
      exact absurd halone (by simpa using hp)
    case isFalse hboth =>
      refine ⟨_, hexec, mapGet_mapSet_same _ _ _ _, fun h => absurd h hboth, fun hp _ => ?_,
        (s.syncSent_unchanged p).trans (State.delayAsked_unchanged _ p)⟩
      have hout : ((s.syncSent p).delayAsked p).out =
          (s.out ++ [.ptp p 0 s.time (s.obj .C0B04 0)]) ++ [.ptp p (if p < 24 then 3 else 2) s.time (s.obj .C0B04 0)] := rfl
      rw [hout, if_pos hp, List.append_assoc, List.singleton_append]
  case delay =>
    exact ⟨_, exec_ptpSyncSend_master hup hmaster ((sendDue_iff _ _ _ _).mpr hdelay), mapGet_mapSet_same _ _ _ _, rfl, rfl,
      s.delayAsked_unchanged p⟩
  case fewer =>
    have hshown := s.offsetShown_keeps (fixed s p offset) (s.ptp.good + 1)
    exact ⟨_, exec_ptpMessageReceive_fewer hup hports hmaster a b c hstage hoffset hgood, hshown.obj _ _ (by decide), s.obj_offsetShown _ _, rfl,
      hshown.2, hshown.1⟩
  case best =>
    obtain ⟨hptp, hst, hkeeps⟩ := s.ptpMove_spec { s.ptp with master := some p, gm := clock a b c, lastAnnounce := s.time, good := 0 } ptpConverging
    exact ⟨_, (exec_ptpMessageReceive_announce hup hports a b c offset).trans
        (congrArg Host.Outcome.next (State.announced_of_best hown hmaster hbest)),
      congrArg Ptp.master hptp, congrArg Ptp.gm hptp, congrArg Ptp.lastAnnounce hptp, congrArg Ptp.good hptp, hst, hkeeps.2, hkeeps.1⟩
  case worse =>
    obtain ⟨hptp, hst, hkeeps⟩ := s.ptpMove_spec { s.ptp with master := none, good := 0, lastAnnounce := s.time } ptpGrandmaster
    exact ⟨_, (exec_ptpMessageReceive_announce hup hports a b c offset).trans
        (congrArg Host.Outcome.next (State.announced_of_worse hown hmaster)),
      congrArg Ptp.master hptp, hst, hkeeps.2, hkeeps.1⟩
  case timeout =>
    obtain ⟨hptp, hhold, hkeeps⟩ := s.ptpMove_spec { s.ptp with master := none, good := 0, holdSince := s.time } ptpHoldover
    exact ⟨_, exec_announceTimeout_of_aligned hports htime hst, hhold, congrArg Ptp.master hptp, congrArg Ptp.holdSince hptp, hkeeps.2, hkeeps.1⟩
  case holdover =>
    have hkeeps := s.ptpEnter_shows ptpConverging
    exact ⟨_, exec_holdoverEnd_of_late hst htime, s.obj_ptpEnter _, hkeeps.2, hkeeps.1⟩
  case within =>
    have hshown := s.skewsShown_keeps zone skews
    have hpower : (s.skewsShown zone skews).power = s.power := hshown.1 .power (by decide)
    have hkeeps : Keeps [.objs, .power] [.C0B09] s ((s.skewsShown zone skews).zoneRealigned zone) :=
      (hshown.mono (by decide)).trans ((State.power_keeps _ _).mono (by decide))
    refine ⟨_, exec_zoneRealignDone_of_within h s, ?_, hkeeps.2, hkeeps.1⟩
    rw [← hpower]
    rfl
  case beyond =>
    have hkeeps := s.setObj_keeps .C0B09 f (ratF32 d 1000)
    exact ⟨_, exec_zoneRealignDone_of_beyond hf hd s, s.obj_setObj _ _ _, hkeeps.2, hkeeps.1⟩

end Sys2Proof.Machine
end

section
/-!
The queue's front command (95), the memory at reset (R390), and the band that a temperature calls for (R301).
-/

namespace Sys2Proof.Machine

/-- Settles O1: both equations are the two branches of `step`. -/
theorem stepRunsFrontCommand : Obligations.StepRunsFrontCommand := by
  unfold Obligations.StepRunsFrontCommand
  refine ⟨fun s c rest hfront => ?front, fun s hempty => ?idle⟩
  case front => simp only [step, hfront]
  case idle => simp only [step, hempty]

/-- Settles O3: the list of bytes is empty at reset. -/
theorem resetMemoryCanonical : Obligations.ResetMemoryCanonical := rfl

/-- Settles O60: the meaning of each constructor is a next state. -/
theorem noCommandStops : Obligations.NoCommandStops := by
  unfold Obligations.NoCommandStops
  intro c s
  cases c <;> exact ⟨_, rfl⟩

/-! ### Bands (R301, Table 12.4) -/

/-- A property that each number hands down to the one before it holds of exactly the first numbers of a range. -/
theorem lt_length_filter_range_iff {p : Nat → Bool} {n : Nat} (hdown : ∀ k, k + 1 < n → p (k + 1) = true → p k = true) {k : Nat} (hk : k < n) :
    k < ((List.range n).filter p).length ↔ p k = true := by
  induction n generalizing k with
  | zero => exact absurd hk (Nat.not_lt_zero k)
  | succ n ih =>
    have hprev (j : Nat) (hj : j < n) := ih (fun i hi => hdown i (by omega)) hj
    rw [List.range_succ, List.filter_append, List.length_append]
    cases hn : p n with
    | false =>
      have hlast : ([n].filter p).length = 0 := by simp [hn]
      rw [hlast, Nat.add_zero]
      rcases Nat.lt_succ_iff_lt_or_eq.mp hk with hk | rfl
      · exact hprev k hk
      · have hle := List.length_filter_le p (List.range k)
        rw [List.length_range] at hle
        simp [hn, hle]
    | true =>
      have hlast : ([n].filter p).length = 1 := by simp [hn]
      have hall (j : Nat) : p (n - j) = true := by
        induction j with
        | zero => exact hn
        | succ j hj =>
          rcases Nat.lt_or_ge j n with hlt | hge
          · refine hdown _ (by omega) ?_
            rwa [show n - (j + 1) + 1 = n - j by omega]
          · rwa [show n - (j + 1) = n - j by omega]
      have hfull : ((List.range n).filter p).length = n := by
        rw [List.filter_eq_self.mpr, List.length_range]
        intro j hj
        have := hall (n - j)
        rwa [show n - (n - j) = j by have := List.mem_range.mp hj; omega] at this
      have hpk := hall (n - k)
      rw [show n - (n - k) = k by omega] at hpk
      rw [hlast, hfull, hpk]
      exact iff_of_true hk rfl

/-- The number of thresholds that a temperature has reached. -/
def State.reached (s : State) (temp : Int) : Nat := ((List.range 4).filter (fun k => decide (s.threshold k ≤ temp))).length

theorem State.lt_reached_iff {s : State} (hrise : ∀ k, k < 3 → s.threshold k < s.threshold (k + 1)) (temp : Int) {k : Nat} (hk : k < 4) :
    k < s.reached temp ↔ s.threshold k ≤ temp := by
  refine (lt_length_filter_range_iff (fun j hj h => ?_) hk).trans decide_eq_true_iff
  have := hrise j (by omega)
  exact decide_eq_true (by have := of_decide_eq_true h; omega)

theorem State.reached_le (s : State) (temp : Int) : s.reached temp ≤ 4 := List.length_filter_le _ (List.range 4)

/-- The fall stops at the highest band whose threshold less 3 °C lies below the temperature. -/
theorem State.fallBand_spec (s : State) (temp : Int) (old : Nat) : s.fallBand temp old ≤ old ∧
    (∀ k, s.fallBand temp old ≤ k → k < old → temp ≤ s.threshold k - 300) ∧
    (0 < s.fallBand temp old → s.threshold (s.fallBand temp old - 1) - 300 < temp) := by
  induction old with
  | zero => exact ⟨le_rfl, fun k _ hk => absurd hk (Nat.not_lt_zero k), fun h => absurd h (Nat.lt_irrefl 0)⟩
  | succ b ih =>
    obtain ⟨hle, hbelow, habove⟩ := ih
    by_cases hfall : temp ≤ s.threshold b - 300
    · rw [State.fallBand, if_pos hfall]
      refine ⟨by omega, fun k hk hkb => ?_, habove⟩
      rcases Nat.lt_succ_iff_lt_or_eq.mp hkb with hkb | rfl
      · exact hbelow k hk hkb
      · exact hfall
    · rw [State.fallBand, if_neg hfall]
      exact ⟨le_rfl, fun k hk hkb => by omega, fun _ => Int.not_le.mp hfall⟩

theorem State.nextBand_of_reached {s : State} {old : Nat} {temp : Int} (h : old ≤ s.reached temp) : s.nextBand old temp = s.reached temp :=
  if_pos (.inr h)

theorem State.nextBand_of_fall {s : State} {old : Nat} {temp : Int} (hold : old ≤ 4) (h : s.reached temp < old) :
    s.nextBand old temp = s.fallBand temp old :=
  if_neg (not_or.mpr ⟨Nat.not_lt.mpr hold, Nat.not_le.mpr h⟩)

/-- Settles O57: a band that rises counts the thresholds reached, and one that falls stops where `fallBand_spec` says. -/
theorem bandsFollowTheirThresholds : Obligations.BandsFollowTheirThresholds := by
  unfold Obligations.BandsFollowTheirThresholds
  intro s old temp hold hrise
  have hreached (k : Nat) (hk : k < 4) := s.lt_reached_iff hrise temp hk
  have hfour := s.reached_le temp
  rcases Nat.lt_or_ge (s.reached temp) old with hdown | hup
  · rw [State.nextBand_of_fall hold hdown]
    obtain ⟨hle, hbelow, habove⟩ := s.fallBand_spec temp old
    refine ⟨by omega, fun k hk ht => ?_, fun h => absurd h (by omega), fun _ => hbelow, fun h _ => habove h⟩
    have hkup := (hreached k hk).mpr ht
    by_contra hlow
    have := hbelow k (by omega) (by omega)
    omega
  · rw [State.nextBand_of_reached hup]
    have hlast (h : 0 < s.reached temp) : s.threshold (s.reached temp - 1) ≤ temp := (hreached _ (by omega)).mp (by omega)
    refine ⟨hfour, fun k hk ht => (hreached k hk).mpr ht, fun h => hlast (by omega), fun h => absurd h (by omega), fun h _ => ?_⟩
    have := hlast h
    omega

end Sys2Proof.Machine
end

section
/-!
The dictionary (R312): the row of an object is its own, and what its rows say of the objects that change by a commit.
-/

namespace Sys2Proof.Machine

/-- The rows stand in the order of the objects. -/
theorem objTable_ctorIdx : objTable.map (fun r => r.obj.ctorIdx) = List.range objTable.length := by decide +kernel

theorem objRow_obj_of_mem {r : ObjRow} (h : r ∈ objTable) : objRow r.obj = r := by
  obtain ⟨i, hi, hr⟩ := List.mem_iff_getElem.mp h
  have hidx : r.obj.ctorIdx = i := by
    have := congrArg (fun l => l[i]?) objTable_ctorIdx
    simpa [hi, hr] using this
  rw [objRow, hidx, List.getD_eq_getElem _ _ hi, hr]

theorem findObj_mem {area num : Nat} {r : ObjRow} (h : findObj area num = some r) : r ∈ objTable := List.mem_of_find?_eq_some h

theorem objRow_of_findObj {area num : Nat} {r : ObjRow} (h : findObj area num = some r) : objRow r.obj = r := objRow_obj_of_mem (findObj_mem h)

/-- No object of a commit group is a command. -/
theorem objTable_group_access : objTable.all (fun r => !(r.apply == .group && r.access == .cmd)) = true := by decide +kernel

theorem ObjRow.takesWrite_of_group {r : ObjRow} (hmem : r ∈ objTable) (h : r.apply = .group) : r.takesWrite = false := by
  have hcmd := List.all_eq_true.mp objTable_group_access r hmem
  simp only [h, beq_self_eq_true, Bool.true_and, Bool.not_eq_true'] at hcmd
  simp [ObjRow.takesWrite, h, hcmd]

end Sys2Proof.Machine
end

section
/-!
Requests of the ledger (R328 to R331): the state in which a request with a fresh number is executed, and what its response leaves.
-/

namespace Sys2Proof.Machine

/-! ### A request that is executed -/

/-- A request of an open session, from its source, with its tag, well formed and with a fresh number, while the unit acts. -/
def State.Fresh (s : State) (type : Nat) (m : LedgerMsg) (x : Session) : Prop :=
  s.valid type m = some x ∧ s.cuActs 2 = true ∧ m.wellFormed = true ∧ seqCase x m.seq = .fresh

/-- A session while its request with a fresh number is executed. -/
def Session.requested (x : Session) (seq now : Nat) : Session := { x with lastMsg := now, newest := seq, started := true }

/-- The state in which such a request is executed. -/
def State.requested (s : State) (m : LedgerMsg) (x : Session) : State := s.setSession m.session (some (x.requested m.seq s.time))

/-- What follows the response. -/
def State.followUp (s : State) (n : Nat) : After → State
  | .nothing => s
  | .bye => s.endSession n 0
  | .moved => s.endSessions (fun y => !y.commons) 2

/-- A session that keeps a response for its number. -/
def Session.keeping (y : Session) (r : Reply) : Session :=
  { y with answered := (r.seq, r) :: y.answered.filter (fun e => decide ((y.newest + 65536 - e.1) % 65536 ≤ 63)) }

/-- The response as it leaves. -/
def Session.sent (x : Session) (r : Reply) : Sent := .ledger x.src x.sport (x.replyCls r) r (replyTag x.key r)

theorem State.openSession_session {s : State} {n : Nat} {x : Session} (h : s.openSession n = some x) : s.session n = some x ∧ x.proven = true :=
  Option.filter_eq_some_iff.mp h

theorem State.openSession_of_valid {s : State} {type : Nat} {m : LedgerMsg} {x : Session} (h : s.valid type m = some x) :
    s.openSession m.session = some x := by
  unfold State.valid at h
  split at h
  · next y hy =>
    split at h
    · rw [hy, ← h]
    · cases h
  · cases h

theorem State.setSession_setSession (s : State) (n : Nat) (v w : Option Session) : (s.setSession n v).setSession n w = s.setSession n w := by
  simp only [State.setSession, mapSet_mapSet]

theorem State.request_of_fresh {s : State} {type : Nat} {m : LedgerMsg} {x : Session} (h : s.Fresh type m x) (c : Instr)
    {run : State → Session → State × Reply × After} {u : State} {r : Reply} {a : After}
    (hrun : run (s.requested m x) (x.requested m.seq s.time) = (u, r, a)) :
    s.request c type m run = (u.reply m.session (x.requested m.seq s.time) r).followUp m.session a := by
  obtain ⟨hvalid, hacts, hwf, hseq⟩ := h
  have hactsHere (y : Session) : (s.setSession m.session (some y)).cuActs 2 = true := hacts
  have hseqHere : seqCase { x with lastMsg := s.time } m.seq = .fresh := hseq
  have hstate (y : Session) : (s.setSession m.session (some y)).setSession m.session (some (x.requested m.seq s.time)) = s.requested m x :=
    s.setSession_setSession _ _ _
  unfold State.request
  simp only [hvalid, hactsHere, Bool.not_true, Bool.false_eq_true, if_false, hseqHere, hwf, if_true]
  change _ = State.followUp _ _ _
  have hrun' : run ((s.setSession m.session (some { x with lastMsg := s.time })).setSession m.session (some (x.requested m.seq s.time)))
      (x.requested m.seq s.time) = (u, r, a) := by rw [hstate, hrun]
  unfold Session.requested at hrun' ⊢
  simp only [hrun']
  cases a <;> rfl

/-! ### The response -/

theorem State.reply_out (u : State) (n : Nat) (x : Session) (r : Reply) : (u.reply n x r).out = u.out ++ [x.sent r] := by
  unfold State.reply
  dsimp only
  split <;> rfl

theorem State.reply_unchanged (u : State) (n : Nat) (x : Session) (r : Reply) : unchangedBut [.sessions, .out] u (u.reply n x r) := by
  unfold State.reply
  dsimp only
  split <;> (rw [unchangedBut_iff]; simp)

theorem State.reply_session {u : State} {n : Nat} {y : Session} (h : u.session n = some y) (x : Session) (r : Reply) :
    (u.reply n x r).session n = some (y.keeping r) := by
  have hsent : (u.send (x.sent r)).session n = some y := h
  have hreply : u.reply n x r = (u.send (x.sent r)).setSession n (some (y.keeping r)) := by
    unfold State.reply
    simp only [Session.sent] at hsent
    simp only [hsent]
    rfl
  rw [hreply, State.session_setSession]

theorem State.requested_unchanged (s : State) (m : LedgerMsg) (x : Session) : unchangedBut [.sessions] s (s.requested m x) := by
  rw [unchangedBut_iff]; simp [State.requested]

theorem State.setSession_unchanged (s : State) (n : Nat) (v : Option Session) : unchangedBut [.sessions] s (s.setSession n v) := by
  rw [unchangedBut_iff]; simp

theorem State.session_requested (s : State) (m : LedgerMsg) (x : Session) : (s.requested m x).session m.session = some (x.requested m.seq s.time) :=
  State.session_setSession _ _ _

/-- A session changes, and the response leaves: the rest of the panel is as it was. -/
theorem State.answer_unchanged {s u : State} (h : unchangedBut [.sessions] s u) (n : Nat) (x : Session) (r : Reply) :
    unchangedBut [.sessions, .out] s (u.reply n x r) :=
  (h.mono (by decide)).trans (u.reply_unchanged n x r)

/-- The one response to a message: sent to the session's source, of the request's type, with its session and its number. -/
def State.Answered (s t : State) (m : LedgerMsg) (x : Session) (type : Nat) (r : Reply) : Prop :=
  t.out = s.out ++ [x.sent r] ∧ r.type = type ∧ r.session = m.session ∧ r.seq = m.seq

theorem State.answered_replyTo {s u : State} (hout : u.out = s.out) (m : LedgerMsg) (x : Session) (type : Nat) (k : Code) (items : List Answer)
    (cut : Bool) :
    s.Answered (u.reply m.session (x.requested m.seq s.time) (replyTo m type k items cut)) m x type (replyTo m type k items cut) :=
  ⟨by rw [State.reply_out, hout]; rfl, rfl, rfl, rfl⟩

end Sys2Proof.Machine
end

section
/-!
Sessions of the ledger (R317, R327 to R329): HELLO, PROOF and BYE, and the ends of sessions that send nothing.
-/

namespace Sys2Proof.Machine

/-! ### The end of a session (R329) -/

theorem State.endSession_unchanged (s : State) (n cause : Nat) : unchangedBut [.sessions, .log] s (s.endSession n cause) := by
  have hsessions (x : AMap Nat (Option Session)) : unchangedBut [.sessions, .log] s { s with sessions := x } := by rw [unchangedBut_iff]; simp
  unfold State.endSession
  split
  · exact .refl _ s
  · dsimp only
    split
    · exact (hsessions _).trans ((State.raise_unchanged _ _ _ _).mono (by decide))
    · exact hsessions _

theorem State.endSession_session (s : State) (n cause k : Nat) : (s.endSession n cause).session k = if k = n then none else s.session k := by
  have hdel : mapGet none (mapDel s.sessions n) k = if k = n then none else s.session k := by
    split
    · next h => rw [h, mapGet_mapDel_same]
    · next h => exact mapGet_mapDel_ne _ _ h
  unfold State.endSession
  split
  · next hnone =>
    split
    · next h => rw [h, hnone]
    · rfl
  · dsimp only
    split <;> exact hdel

/-- An open session that ends raises SESSION_END with its cause. -/
theorem State.endSession_event {s : State} {n : Nat} {x : Session} (hx : s.session n = some x) (hproven : x.proven = true) (cause : Nat) :
    (s.endSession n cause).log.events.head?.map (fun e => (e.code, e.subject, e.data)) = some (evSessionEnd, n, [n, cause]) := by
  simp only [State.endSession, hx, hproven, if_true, (State.raise_events _ _ _ _).1]
  rfl

theorem State.endSessions_unchanged (s : State) (f : Session → Bool) (cause : Nat) :
    unchangedBut [.sessions, .log] s (s.endSessions f cause) :=
  unchangedBut.foldl (f := fun s (e : Nat × Option Session) => s.endSession e.1 cause) (fun s e => s.endSession_unchanged e.1 cause) _ s

/-- Each session has ended or is as it was. -/
theorem State.endSessions_session (s : State) (f : Session → Bool) (cause k : Nat) :
    (s.endSessions f cause).session k = none ∨ (s.endSessions f cause).session k = s.session k := by
  have hfold (l : List (Nat × Option Session)) (u : State) :
      (l.foldl (fun s e => s.endSession e.1 cause) u).session k = none ∨ (l.foldl (fun s e => s.endSession e.1 cause) u).session k = u.session k := by
    induction l generalizing u with
    | nil => exact .inr rfl
    | cons e l ih =>
      rw [List.foldl_cons]
      have hone := u.endSession_session e.1 cause k
      rcases ih (u.endSession e.1 cause) with h | h
      · exact .inl h
      · rw [h, hone]
        split
        · exact .inl rfl
        · exact .inr rfl
  exact hfold _ s

/-! ### BYE (R329) -/

theorem exec_bye {s : State} {m : LedgerMsg} {x : Session} (h : s.Fresh 20 m x) :
    ∃ t : State, exec (.bye m) s = .next t ∧ t.session m.session = none ∧ t.out = s.out ++ [x.sent (replyTo m 20 .ok [] false)] ∧
      t.log.events.head?.map (fun e => (e.code, e.subject, e.data)) = some (evSessionEnd, m.session, [m.session, 0]) ∧
      unchangedBut [.sessions, .out, .log] s t := by
  let y := x.requested m.seq s.time
  let u := (s.requested m x).reply m.session y (replyTo m 20 .ok [] false)
  have hopen := State.openSession_session (State.openSession_of_valid h.1)
  have hkept : u.session m.session = some (y.keeping _) := State.reply_session (s.session_requested m x) y _
  have hend := u.endSession_unchanged m.session 0
  have hexec : exec (.bye m) s = .next (u.endSession m.session 0) :=
    congrArg Host.Outcome.next (State.request_of_fresh (u := s.requested m x) (a := .bye) h _ rfl)
  refine ⟨_, hexec, ?_, ?_, ?_, ?_⟩
  · rw [State.endSession_session, if_pos rfl]
  · have hout : (u.endSession m.session 0).out = u.out := hend .out (by decide)
    exact hout.trans (State.reply_out _ _ _ _)
  · exact State.endSession_event hkept hopen.2 0
  · exact ((State.answer_unchanged (s.requested_unchanged m x) _ _ _).mono (by decide)).trans (hend.mono (by decide))

/-! ### HELLO and PROOF (R327, R328) -/

section
variable {s : State} {src sport dst dport level version name : Nat} {commons : Bool} {nonce : BitVec 256}
  (hcarried : s.carried src dst dport commons = true) (hlocked : mapGet 0 s.lockouts src ≤ s.time) (hacts : s.cuActs 2 = true) (hlevel : level ≤ 2)
include hcarried hlocked hacts hlevel

theorem exec_hello_refused (hrefused : s.helloRefused level = true) :
    exec (.hello src sport dst dport commons level version nonce name) s = .next (s.send (.challenge 0 .accessDenied 0 s.fwInterface)) := by
  change execHello src sport dst dport commons level version nonce name s = _
  unfold execHello
  rw [if_neg (by simp [hcarried]), if_neg (Nat.not_lt.mpr hlocked), if_neg (by simp [hacts]), if_neg (Nat.not_lt.mpr hlevel)]
  split
  · rfl
  · rw [if_pos hrefused]

/-- The session that a HELLO opens. -/
def openedSession (src sport : Nat) (commons : Bool) (level version : Nat) (nonce own : BitVec 256) (name now : Nat) : Session :=
  { level := level, version := version, src := src, sport := sport, commons := commons, hostNonce := nonce, panelNonce := own, name := name
    key := 0, proven := false, challengeAt := now, lastMsg := now, newest := 0xFFFF, started := false, answered := [], stage := [], subs := []
    notifySeq := 0, lastNotify := none, gap := false }

theorem exec_hello_opens {n : Nat} (hfree : s.freeSession = some n) (hrefused : s.helloRefused level = false) :
    exec (.hello src sport dst dport commons level version nonce name) s =
      .next (({ s with freeCount := s.freeCount + 1 }.setSession n
        (some (openedSession src sport commons level version nonce (Config.nonce s.freeCount) name s.time))).send
          (.challenge n .ok (Config.nonce s.freeCount) s.fwInterface)) := by
  change execHello src sport dst dport commons level version nonce name s = _
  unfold execHello
  rw [if_neg (by simp [hcarried]), if_neg (Nat.not_lt.mpr hlocked), if_neg (by simp [hacts]), if_neg (Nat.not_lt.mpr hlevel)]
  simp only [hfree, hrefused, Bool.false_eq_true, if_false]
  rfl

end

section
variable {s : State} {n key dst dport : Nat} {x : Session} (hcarried : s.carried x.src dst dport x.commons = true) (hx : s.session n = some x)
  (hproven : x.proven = false) (htime : s.time ≤ x.challengeAt + 1000000000) (hacts : s.cuActs 2 = true) (hkey : s.levelKey x.level = some key)
include hcarried hx hproven htime hacts hkey

/-- The session as the right PROOF opens it. -/
def Session.opened (x : Session) (sk : BitVec 384) (now : Nat) : Session := { x with proven := true, key := sk, lastMsg := now }

/-- A PROOF in time, from the source of its HELLO, is judged by H. -/
theorem exec_proof_of_known (h : BitVec 384) : exec (.proof n x.src x.sport dst dport x.commons h) s = .next
    (if h ≠ hostProof key x.hostNonce x.panelNonce n x.level x.version then
      s.proofFailed n x (welcomeTag (sessionKey key x.hostNonce x.panelNonce n x.level x.version) n .accessDenied none)
    else
      ((s.setSession n (some (x.opened (sessionKey key x.hostNonce x.panelNonce n x.level x.version) s.time))).raise evSessionOpen n
        [n, x.level, x.src, x.version]).send
          (.welcome n .ok (some (panelProof key x.hostNonce x.panelNonce n x.level x.version)) (s.obj .K0D02 0)
            (welcomeTag (sessionKey key x.hostNonce x.panelNonce n x.level x.version) n .ok
              (some (panelProof key x.hostNonce x.panelNonce n x.level x.version, s.obj .K0D02 0))))) := by
  change execProof n x.src x.sport dst dport x.commons h s = _
  unfold execProof
  simp only [hx]
  rw [if_neg (by simp [hproven, hcarried, Nat.not_lt.mpr htime]), if_neg (by simp [hacts])]
  simp only [hkey]
  rfl

end

theorem State.proofFailed_keeps (s : State) (n : Nat) (x : Session) (tag : BitVec 128) :
    Keeps [.sessions, .objs, .out, .log, .badProofs, .lockouts] [.K0D04] s (s.proofFailed n x tag) := by
  have hlists (u : State) (a : AMap Nat (List Nat)) (b : AMap Nat Nat) (c : AMap Nat (Option Session)) :
      Keeps [.sessions, .badProofs, .lockouts] [] u { u with badProofs := a, lockouts := b, sessions := c } :=
    .of_parts (by rw [unchangedBut_iff]; simp) (by decide)
  have hsend (u : State) (o : Sent) : Keeps [.out] [] u (u.send o) := .of_parts (u.send_unchanged o) (by decide)
  exact ((((s.bump_keeps _ _ _).mono (by decide)).trans ((State.raise_keeps _ _ _ _).mono (by decide))).trans ((hlists _ _ _ _).mono (by decide))).trans
    ((hsend _ _).mono (by decide))

/-- The third wrong proof of a source within 60 s locks it out. -/
theorem State.proofFailed_locks {s : State} {x : Session} (h : 2 ≤ ((mapGet [] s.badProofs x.src).filter (fun u => decide (s.time < u + 60000000000))).length)
    (n : Nat) (tag : BitVec 128) : mapGet 0 (s.proofFailed n x tag).lockouts x.src = s.time + 60000000000 := by
  have hlocks : (s.proofFailed n x tag).lockouts = mapSet s.lockouts x.src (s.time + 60000000000) := if_pos (Nat.succ_le_succ h)
  rw [hlocks, mapGet_mapSet_same]

/-- Settles O45: each command is one branch, written out by its lemma, and the clauses are read off the updates of that branch. -/
theorem sessionCommandsComplete : Obligations.SessionCommandsComplete := by
  unfold Obligations.SessionCommandsComplete
  refine ⟨fun s src sport dst dport level version name n commons nonce hcarried hlocked hacts hlevel hfree hrefused => ?hello,
    fun s src sport dst dport level version name commons nonce hcarried hlocked hacts hlevel hrefused =>
      exec_hello_refused hcarried hlocked hacts hlevel hrefused,
    fun s n key dst dport x hcarried hx hproven htime hacts hkey => ?proven,
    fun s n key dst dport h x hcarried hx hproven htime hacts hkey hwrong => ?wrong,
    fun s m x hvalid hacts hwf hseq => ?bye, fun s n x hopen htime => ?idle, fun s n x hx hproven htime => ?challenge,
    fun s src e hmem htime => ?lockout⟩
  case hello =>
    refine ⟨_, _, exec_hello_opens hcarried hlocked hacts hlevel hfree hrefused, State.session_setSession _ _ _, rfl, rfl, rfl, rfl, rfl, rfl, rfl, rfl,
      rfl, rfl, rfl, rfl, rfl, rfl, rfl, fun k hk => State.session_setSession_ne _ _ hk, ?_⟩
    rw [unchangedBut_iff]
    simp [State.send]
  case proven =>
    refine ⟨_, (exec_proof_of_known hcarried hx hproven htime hacts hkey _).trans (congrArg _ (if_neg (not_not.mpr rfl))),
      State.session_setSession _ _ _, rfl, rfl, ?_⟩
    exact ((State.setSession_unchanged _ _ _).mono (by decide)).trans (((State.raise_unchanged _ _ _ _).mono (by decide)).trans
      ((State.send_unchanged _ _).mono (by decide)))
  case wrong =>
    have hkeeps := s.proofFailed_keeps n x (welcomeTag (sessionKey key x.hostNonce x.panelNonce n x.level x.version) n .accessDenied none)
    exact ⟨_, (exec_proof_of_known hcarried hx hproven htime hacts hkey h).trans (congrArg _ (if_pos hwrong)), mapGet_mapDel_same _ _ _,
      State.obj_bump _ _ _ _, rfl, rfl, fun hrecent => State.proofFailed_locks hrecent _ _, hkeeps.2, hkeeps.1⟩
  case bye =>
    obtain ⟨t, hexec, hgone, hout, hevent, hrest⟩ := exec_bye ⟨hvalid, hacts, hwf, hseq⟩
    exact ⟨t, _, hexec, hgone, rfl, rfl, hout, hevent, hrest⟩
  case idle =>
    obtain ⟨hx, hproven⟩ := State.openSession_session hopen
    have hexec : exec (.sessionIdleTimeout n) s = .next (s.endSession n 1) := by
      change execSessionIdleTimeout n s = _
      simp only [execSessionIdleTimeout, hopen, if_pos htime]
    exact ⟨_, hexec, by rw [State.endSession_session, if_pos rfl], State.endSession_event hx hproven 1, s.endSession_unchanged n 1⟩
  case challenge =>
    have hexec : exec (.challengeTimeout n) s = .next { s with sessions := mapDel s.sessions n } := by
      change execChallengeTimeout n s = _
      simp only [execChallengeTimeout, hx]
      rw [if_pos ⟨by simp [hproven], htime⟩]
    refine ⟨_, hexec, mapGet_mapDel_same _ _ _, fun k hk => mapGet_mapDel_ne _ _ hk, ?_⟩
    rw [unchangedBut_iff]
    simp
  case lockout =>
    have hexec : exec (.helloLockoutEnd src) s = .next { s with lockouts := mapDel s.lockouts src } :=
      congrArg Host.Outcome.next (if_pos (List.any_eq_true.mpr ⟨(src, e), hmem, by simp [htime]⟩))
    refine ⟨_, hexec, mapGet_mapDel_same _ _ _, ?_⟩
    rw [unchangedBut_iff]
    simp

end Sys2Proof.Machine
end

section
/-!
Commit groups (R318, R322): what a WRITE of their objects, an ABORT and a session's end leave alone.
-/

namespace Sys2Proof.Machine

/-- An item that names an object of a commit group. -/
def InGroup (it : Item) : Prop := ∃ r, findObj it.area it.num = some r ∧ r.apply = .group

theorem State.writeItem_of_inGroup {it : Item} (h : InGroup it) (s : State) (n : Nat) (x : Session) :
    s.writeItem n x it = (s, .accessDenied, false) := by
  obtain ⟨r, hfind, hgroup⟩ := h
  have htakes : r.takesWrite = false := ObjRow.takesWrite_of_group (findObj_mem hfind) hgroup
  have hrefused : s.itemRefused x it (fun r => r.takesWrite) = some .accessDenied := by
    simp only [State.itemRefused, hfind]
    exact if_pos (.inr (.inl (by simp [htakes])))
  simp only [State.writeItem, hrefused]

/-- The items of a WRITE in turn: each is answered in the state that those before it leave. -/
theorem State.writeItems_cons (s : State) (n : Nat) (x : Session) (it : Item) (rest : List Item) : s.writeItems n x (it :: rest) =
    (((s.writeItem n x it).1.writeItems n x rest).1,
      itemAnswer it (s.writeItem n x it).2.1 (s.writeItem n x it).2.2 :: ((s.writeItem n x it).1.writeItems n x rest).2) := rfl

theorem State.writeItems_length (s : State) (n : Nat) (x : Session) (l : List Item) : (s.writeItems n x l).2.length = l.length := by
  induction l generalizing s with
  | nil => rfl
  | cons it rest ih => rw [State.writeItems_cons, List.length_cons, List.length_cons, ih]

theorem State.writeItems_code_of_inGroup (s : State) (n : Nat) (x : Session) (l : List Item) {i : Nat} {it : Item} (hi : l[i]? = some it)
    (h : InGroup it) : ((s.writeItems n x l).2[i]?).map (fun a => a.code) = some .accessDenied := by
  induction l generalizing s i with
  | nil => cases hi
  | cons first rest ih =>
    rw [State.writeItems_cons]
    cases i with
    | zero =>
      obtain rfl : first = it := Option.some.inj hi
      rw [State.writeItem_of_inGroup h]
      rfl
    | succ i => exact ih _ hi

theorem State.writeItems_state_of_inGroup (s : State) (n : Nat) (x : Session) {l : List Item} (h : ∀ it ∈ l, InGroup it) :
    (s.writeItems n x l).1 = s := by
  induction l with
  | nil => rfl
  | cons it rest ih =>
    rw [State.writeItems_cons, State.writeItem_of_inGroup (h it List.mem_cons_self)]
    exact ih fun j hj => h j (List.mem_cons_of_mem it hj)

/-- A WRITE with a fresh number is answered in the state that its items leave. -/
theorem exec_write {s : State} {m : LedgerMsg} {x : Session} (h : s.Fresh 2 m x) : exec (.write m) s =
    .next (((s.requested m x).writeItems m.session (x.requested m.seq s.time) m.items).1.reply m.session (x.requested m.seq s.time)
      (replyTo m 2 .ok ((s.requested m x).writeItems m.session (x.requested m.seq s.time) m.items).2 false)) :=
  congrArg Host.Outcome.next (State.request_of_fresh (a := .nothing) h _ rfl)

/-- An ABORT with a fresh number is answered with the stage set empty. -/
theorem exec_abort {s : State} {m : LedgerMsg} {x : Session} (h : s.Fresh 5 m x) : exec (.abort m) s =
    .next ((s.setSession m.session (some { x.requested m.seq s.time with stage := [] })).reply m.session (x.requested m.seq s.time)
      (replyTo m 5 .ok [] false)) := by
  rw [← State.setSession_setSession s m.session (some (x.requested m.seq s.time))]
  exact congrArg Host.Outcome.next (State.request_of_fresh (a := .nothing) h _ rfl)

/-- Settles O59: an item of a group is refused before its value is looked at, whatever the items before it did, and ABORT and BYE change the
session alone. -/
theorem groupsChangeOnlyByCommit : Obligations.GroupsChangeOnlyByCommit := by
  unfold Obligations.GroupsChangeOnlyByCommit
  intro fresh group
  refine ⟨fun s m x h => ?write, fun s m x h => ?abort, fun s m x h => ?bye⟩
  case write =>
    let p := replyTo m 2 .ok ((s.requested m x).writeItems m.session (x.requested m.seq s.time) m.items).2 false
    refine ⟨_, p, exec_write h, ?_, ?_, fun i it hi hgroup => ?_, fun hall => ?_⟩
    · rw [State.reply_out, List.getLast?_append_of_ne_nil _ (List.cons_ne_nil _ _)]
      rfl
    · exact State.writeItems_length _ _ _ _
    · exact State.writeItems_code_of_inGroup _ _ _ _ hi hgroup
    · rw [State.writeItems_state_of_inGroup _ _ _ hall]
      exact State.answer_unchanged (s.requested_unchanged m x) _ _ _
  case abort =>
    exact ⟨_, exec_abort h, ⟨_, State.reply_session (State.session_setSession _ _ _) _ _, rfl⟩,
      State.answer_unchanged (s.setSession_unchanged _ _) _ _ _⟩
  case bye =>
    obtain ⟨t, hexec, hgone, -, -, hrest⟩ := exec_bye h
    exact ⟨t, hexec, hgone, hrest⟩

end Sys2Proof.Machine
end

section
/-!
Ledger requests that read (R325, R326, R333, R334), messages that are not executed (R328, R350), and notifications (R333).
-/

namespace Sys2Proof.Machine

/-! ### Messages that are not executed -/

theorem State.discardMsg_keeps (s : State) : Keeps [.objs] [.K0D03] s s.discardMsg := s.bump_keeps _ _ _

theorem State.request_of_invalid {s : State} {type : Nat} {m : LedgerMsg} (h : s.valid type m = none) (c : Instr)
    (run : State → Session → State × Reply × After) : s.request c type m run = s.discardMsg := by
  simp only [State.request, h]

/-- While no unit acts, a request of a session without another that waits is kept. -/
theorem State.request_of_idle {s : State} {type : Nat} {m : LedgerMsg} {x : Session} (h : s.valid type m = some x) (hidle : s.cuActs 2 = false)
    (hstage : 4 ≤ s.startup.stage) (hkept : s.kept = []) (c : Instr) (run : State → Session → State × Reply × After) :
    s.request c type m run = { s.setSession m.session (some { x with lastMsg := s.time }) with kept := [c] } := by
  have hactsHere (y : Session) : (s.setSession m.session (some y)).cuActs 2 = false := hidle
  have hkeptHere (y : Session) : (s.setSession m.session (some y)).kept = [] := hkept
  have hkeep (u : State) (hu : u.kept = []) (hlate : 4 ≤ u.startup.stage) : u.keep c = { u with kept := [c] } := by
    rw [State.keep, if_neg (Nat.not_lt.mpr hlate), hu, List.nil_append]
  simp only [State.request, h, hactsHere, hkeptHere, Bool.not_false, if_true, List.filter_nil, List.length_nil]
  rw [if_neg (by decide)]
  exact hkeep _ (hkeptHere _) hstage

/-! ### READ (R325, R326) -/

/-- The values of objects other than the session table and its count do not depend on the sessions. -/
theorem State.readObj_setSession (s : State) (n : Nat) (v : Option Session) {o : Obj} (hcount : o ≠ .K0D00) (htable : o ≠ .K0D01) (i : Nat) :
    (s.setSession n v).readObj o i = s.readObj o i := by
  cases o with
  | K0D00 => exact absurd rfl hcount
  | K0D01 => exact absurd rfl htable
  | _ => rfl

theorem State.valueLen_setSession (s : State) (n : Nat) (v : Option Session) (o : Obj) (i : Nat) :
    (s.setSession n v).valueLen o i = s.valueLen o i := by
  unfold State.valueLen
  split
  · next htype =>
    have hcount : o ≠ .K0D00 := by rintro rfl; exact absurd htype (by decide +kernel)
    have htable : o ≠ .K0D01 := by rintro rfl; exact absurd htype (by decide +kernel)
    rw [s.readObj_setSession n v hcount htable]
  · rfl

theorem State.readPart_setSession (s : State) (n : Nat) (v : Option Session) {o : Obj} (hcount : o ≠ .K0D00) (htable : o ≠ .K0D01) (i off len : Nat) :
    (s.setSession n v).readPart o i off len = s.readPart o i off len := by
  unfold State.readPart
  rw [s.readObj_setSession n v hcount htable]
  rfl

/-- One element of an object that a session may read, asked for whole and with room for it. -/
theorem State.readItem_whole {s : State} {x : Session} {room : Nat} {it : Item} {r : ObjRow} (hfind : findObj it.area it.num = some r)
    (hlevel : r.level ≤ x.level) (hwo : r.access ≠ .wo) (hcmd : r.access ≠ .cmd) (hall : it.all = false) (hindex : it.index < r.elements)
    (htype : it.type = otypeCode r.type) (hoffset : it.offset = 0) (hpend : it.pend = false) (hlen : s.valueLen r.obj it.index ≤ it.len)
    (hroom : s.valueLen r.obj it.index ≤ room) :
    s.readItem x room it = ({ itemAnswer it .ok false with
      len := s.valueLen r.obj it.index
      value := if s.valueLen r.obj it.index = 0 then 0 else s.readPart r.obj it.index 0 (s.valueLen r.obj it.index) }, false) := by
  have hoff : offsetOk r it = true := by simp [offsetOk, hoffset]
  simp only [State.readItem, hfind, hall, hpend, hoffset, hoff, htype, hcmd, Nat.sub_zero, Nat.min_eq_right hlen, hroom, hwo, Bool.false_eq_true,
    Bool.not_false, Bool.not_true, true_and, or_false, ne_eq, not_true_eq_false, if_false, if_true, Bool.false_and, Nat.lt_irrefl,
    decide_false, Nat.not_lt.mpr hlevel, Nat.not_le.mpr hindex]

/-- A READ with a fresh number is answered from the state in which it arrives. -/
theorem exec_read {s : State} {m : LedgerMsg} {x : Session} (h : s.Fresh 1 m x) {a : Answer} {it : Item} {cut : Bool} (hitems : m.items = [it])
    (hread : (s.requested m x).readItem (x.requested m.seq s.time) 1184 it = (a, cut)) :
    exec (.read m) s = .next ((s.requested m x).reply m.session (x.requested m.seq s.time) (replyTo m 1 .ok [a] cut)) := by
  refine congrArg Host.Outcome.next (State.request_of_fresh (u := s.requested m x) (a := .nothing) h _ ?_)
  simp only [hitems, State.readItems, List.length_singleton, hread, Bool.or_false]

/-! ### LIST and SUBSCRIBE (R333, R334) -/

/-- The answers of a LIST from an item on: the list entries of the next 15 objects that the session sees. -/
def listAnswers (level : Nat) (it : Item) : List Answer :=
  ((listRows level it.area it.num).take 15).map (fun r =>
    { itemAnswer it .ok false with area := r.area, num := r.num, type := otypeCode r.type, len := 64, value := r.entry })

theorem exec_list {s : State} {m : LedgerMsg} {x : Session} (h : s.Fresh 8 m x) {it : Item} (hitems : m.items = [it]) :
    exec (.list m) s =
      .next ((s.requested m x).reply m.session (x.requested m.seq s.time) (replyTo m 8 .ok (listAnswers x.level it) false)) := by
  refine congrArg Host.Outcome.next (State.request_of_fresh (u := s.requested m x) (a := .nothing) h _ ?_)
  simp only [hitems]
  rfl

/-- The subscription that an item asks for. -/
def State.subscription (s : State) (r : ObjRow) (it : Item) : Sub :=
  { obj := r.obj, all := it.all, index := it.index, period := it.value, last := s.time
    sent := if r.obj = .E0D00 then s.log.next else s.subValue r.obj it.all it.index }

/-- The subscriptions that stay beside a new one for an item. -/
def Session.otherSubs (x : Session) (r : ObjRow) (it : Item) : List Sub :=
  x.subs.filter (fun u => !(u.obj == r.obj && u.all == it.all && (it.all || u.index == it.index)))

theorem State.subscribeItem_adds {s : State} {x : Session} {it : Item} {r : ObjRow} (hfind : findObj it.area it.num = some r)
    (hlevel : r.level ≤ x.level) (hwo : r.access ≠ .wo) (hindex : it.index < r.elements) (hperiod : it.value = 0 ∨ 1000 ≤ it.value)
    (hends : it.value < 0xFFFFFFFF) (hlen : it.len = 4) (hroom : x.subs.length < 64) :
    s.subscribeItem x it = (x.otherSubs r it ++ [s.subscription r it], .ok) := by
  have hother : (x.otherSubs r it).length < 64 := lt_of_le_of_lt (List.length_filter_le _ _) hroom
  simp only [State.subscribeItem, hfind]
  rw [if_neg (by simp [hwo, Nat.not_lt.mpr hlevel]), if_neg (by simp [hindex]), if_neg (by omega)]
  refine (if_neg ?_).trans rfl
  rintro (hlow | hhigh | hother' | hfull)
  · omega
  · omega
  · exact hother' hlen
  · exact absurd hother (Nat.not_lt.mpr hfull)

theorem exec_subscribe {s : State} {m : LedgerMsg} {x : Session} (h : s.Fresh 6 m x) {it : Item} (hitems : m.items = [it]) {g : List Sub} {c : Code}
    (hsub : (s.requested m x).subscribeItem (x.requested m.seq s.time) it = (g, c)) :
    exec (.subscribe m) s = .next ((s.setSession m.session (some { x.requested m.seq s.time with subs := g })).reply m.session
      (x.requested m.seq s.time) (replyTo m 6 .ok [itemAnswer it c false] false)) := by
  rw [← State.setSession_setSession s m.session (some (x.requested m.seq s.time))]
  refine congrArg Host.Outcome.next (State.request_of_fresh (a := .nothing) h _ ?_)
  simp only [hitems, State.subscribeItems, hsub]
  rfl

/-! ### NOTIFY (R333) -/

/-- A session once its due subscriptions have been sent. -/
def State.notified (s : State) (x : Session) : Session :=
  { x with
    gap := x.gap || x.subs.any (fun u => s.subDue u && s.subLate u)
    subs := (s.subsSend 1200 x.subs).2
    lastNotify := some s.time }

theorem exec_notify {s : State} {n : Nat} {x : Session} (hopen : s.openSession n = some x) (hacts : s.cuActs 2 = true)
    (hdue : ∃ u ∈ x.subs, s.subDue u = true) (htime : dueEvent x.lastNotify s.time 1000000 = true) :
    exec (.notify n) s = .next ((s.setSession n (some (s.notified x))).notifyTo n true (s.subsSend 1200 x.subs).1) := by
  have hany : x.subs.any (fun u => s.subDue u) = true := List.any_eq_true.mpr hdue
  change execNotify n s = _
  unfold execNotify
  simp only [hopen]
  rw [if_neg (by simp [hacts, hany, htime])]
  rfl

/-- A NOTIFY leaves with the session's next number, and the number moves on. -/
theorem State.notifyTo_of_open {s : State} {n : Nat} {x : Session} (h : s.openSession n = some x) (levy : Bool) (values : List Answer) :
    s.notifyTo n levy values = (s.send (.notify n x.notifySeq (if levy then some .D else messageClass x.commons true values) x.gap values
      (notifyTag x.key n x.notifySeq x.gap values))).setSession n (some { x with notifySeq := (x.notifySeq + 1) % 65536, gap := false }) := by
  simp only [State.notifyTo, h]

theorem State.openSession_setSession (s : State) (n : Nat) {y : Session} (h : y.proven = true) : (s.setSession n (some y)).openSession n = some y := by
  rw [State.openSession, State.session_setSession, Option.filter_some, if_pos h]

/-- Settles O43: an executed request leaves its session with the response, and each other clause is the one branch of its command. -/
theorem ledgerReadsComplete : Obligations.LedgerReadsComplete := by
  unfold Obligations.LedgerReadsComplete
  intro fresh answered
  have hanswered {s u : State} {m : LedgerMsg} {x y : Session} {type : Nat} {k : Code} {items : List Answer} {cut : Bool} (hout : u.out = s.out)
      (hy : u.session m.session = some y) (hnewest : y.newest = m.seq) (hlast : y.lastMsg = s.time) :
      answered s (u.reply m.session (x.requested m.seq s.time) (replyTo m type k items cut)) m x type (replyTo m type k items cut) := by
    obtain ⟨hsent, htype, hsession, hseq⟩ := State.answered_replyTo hout m x type k items cut
    exact ⟨hsent, htype, hsession, hseq, _, State.reply_session hy _ _, hnewest, hlast, List.mem_cons_self⟩
  refine ⟨fun s m x it r h hitems hfind hlevel hwo hcmd hall hindex htype hoffset hpend hlen hroom => ?read, fun s m x it h hitems => ?list,
    fun s m x it r h hitems hfind hlevel hwo hindex hperiod hends hlen hroom => ?subscribe, fun s m h => ?discard,
    fun s m x h hidle hstage hkept => ?keep, fun s n x hopen hacts hdue htime => ?notify⟩
  case read =>
    have hlenHere : (s.requested m x).valueLen r.obj it.index = s.valueLen r.obj it.index := s.valueLen_setSession _ _ _ _
    have hread := State.readItem_whole (s := s.requested m x) (x := x.requested m.seq s.time) (room := 1184) hfind hlevel hwo hcmd hall hindex htype
      hoffset hpend (hlenHere.le.trans hlen) (hlenHere.le.trans hroom)
    refine ⟨_, _, replyTo m 1 .ok [_] false, exec_read h hitems hread, hanswered rfl (s.session_requested m x) rfl rfl, rfl, rfl, rfl, rfl, rfl, rfl,
      rfl, hlenHere, fun hcount htable hpos => ?_, State.answer_unchanged (s.requested_unchanged m x) _ _ _⟩
    rw [hlenHere, if_neg hpos.ne']
    exact s.readPart_setSession _ _ hcount htable _ _ _
  case list =>
    refine ⟨_, replyTo m 8 .ok (listAnswers x.level it) false, exec_list h hitems, hanswered rfl (s.session_requested m x) rfl rfl, rfl, ?_,
      State.answer_unchanged (s.requested_unchanged m x) _ _ _⟩
    exact List.map_map
  case subscribe =>
    have hsub := State.subscribeItem_adds (s := s.requested m x) (x := x.requested m.seq s.time) hfind hlevel hwo hindex hperiod hends hlen hroom
    have hset := State.session_setSession s m.session (some { x.requested m.seq s.time with
      subs := (x.requested m.seq s.time).otherSubs r it ++ [(s.requested m x).subscription r it] })
    exact ⟨_, replyTo m 6 .ok [itemAnswer it .ok false] false, _, _, exec_subscribe h hitems hsub, hanswered rfl hset rfl rfl, rfl,
      State.reply_session hset _ _, List.mem_append_right _ (List.mem_singleton_self _), rfl, rfl, rfl, rfl,
      State.answer_unchanged (s.setSession_unchanged _ _) _ _ _⟩
  case discard =>
    have hexec : exec (.read m) s = .next s.discardMsg := congrArg Host.Outcome.next (State.request_of_invalid h _ _)
    exact ⟨_, hexec, State.obj_bump _ _ _ _, s.discardMsg_keeps.2, s.discardMsg_keeps.1⟩
  case keep =>
    refine ⟨_, congrArg Host.Outcome.next (State.request_of_idle h hidle hstage hkept _ _), rfl, rfl, ?_⟩
    rw [unchangedBut_iff]
    simp
  case notify =>
    have hproven : (s.notified x).proven = true := (State.openSession_session hopen).2
    have hexec := (exec_notify hopen hacts hdue htime).trans (congrArg _ (State.notifyTo_of_open (s.openSession_setSession n hproven) _ _))
    refine ⟨_, _, _, _, hexec, State.session_setSession _ _ _, rfl, rfl, rfl, rfl, fun hgap => Bool.or_eq_true_iff.mpr (.inl hgap), ?_⟩
    exact ((s.setSession_unchanged _ _).mono (by decide)).trans (((State.send_unchanged _ _).mono (by decide)).trans
      ((State.setSession_unchanged _ _ _).mono (by decide)))

end Sys2Proof.Machine
end

section
/-!
How a value takes effect (R318, R396): the value in force, what it brings, and the elements that it leaves alone.
-/

namespace Sys2Proof.Machine

/-! ### What the dictionary says of an object's apply class -/

theorem Obj.ctorIdx_lt (o : Obj) : o.ctorIdx < objTable.length := by
  have hlength : objTable.length = 222 := by decide +kernel
  rw [hlength]
  cases o <;> decide

theorem objRow_mem (o : Obj) : objRow o ∈ objTable := by
  rw [objRow, List.getD_eq_getElem _ _ o.ctorIdx_lt]
  exact List.getElem_mem _

theorem objTable_managed : objTable.all (fun r => !(r.group == 1) || r.apply == .group) = true := by decide +kernel

/-- The objects of the management group change by commits. -/
theorem objRow_group_ne_one {o : Obj} (h : (objRow o).apply ≠ .group) : (objRow o).group ≠ 1 := by
  intro hone
  have hrow := List.all_eq_true.mp objTable_managed _ (objRow_mem o)
  rw [hone, beq_self_eq_true, Bool.not_true, Bool.false_or] at hrow
  exact h (eq_of_beq hrow)

/-- The ledger keys are members of a group. -/
def isKey (o : Obj) : Prop := o = .K0D18 ∨ o = .K0D19 ∨ o = .K0D1A

theorem apply_of_isKey {o : Obj} (h : isKey o) : (objRow o).apply = .group := by
  rcases h with rfl | rfl | rfl <;> decide +kernel

theorem not_isKey_of_apply {o : Obj} (h : (objRow o).apply ≠ .group) : ¬isKey o := fun hkey => h (apply_of_isKey hkey)

/-- Only Halt objects have reserved bits. -/
theorem keepBits_of_not_halt {o : Obj} (h : (objRow o).apply ≠ .halt) (v : Nat) : keepBits o v = v := by
  cases o with
  | S0406 => exact absurd (by decide +kernel) h
  | F0916 => exact absurd (by decide +kernel) h
  | _ => rfl

/-! ### What depends on the sessions -/

theorem State.inForce_setSession (s : State) (n : Nat) (v : Option Session) {o : Obj} (hcount : o ≠ .K0D00) (htable : o ≠ .K0D01) (i : Nat) :
    (s.setSession n v).inForce o i = s.inForce o i := by
  cases o with
  | K0D00 => exact absurd rfl hcount
  | K0D01 => exact absurd rfl htable
  | _ => rfl

/-- Of the objects whose block can run, those of Halt alone ask for sessions. -/
theorem State.refusedByState_setSession (s : State) (n : Nat) (v : Option Session) {o : Obj} (h : (objRow o).apply ≠ .halt) (i : Nat) :
    (s.setSession n v).refusedByState o i = s.refusedByState o i := by
  cases o with
  | F0905 => exact absurd (by decide +kernel) h
  | F0906 => exact absurd (by decide +kernel) h
  | F0910 => exact absurd (by decide +kernel) h
  | _ => rfl

/-- Two views that give every object but those of the sessions the same values. -/
def View.alike (v w : View) : Prop := ∀ o i, o ≠ .K0D00 → o ≠ .K0D01 → v o i = w o i

theorem crossOk_congr {v w : View} (h : v.alike w) (o : Obj) : crossOk o v = crossOk o w := by
  have hobj (o' : Obj) (ho : o' ≠ .K0D00 ∧ o' ≠ .K0D01) : v o' 0 = w o' 0 := h o' 0 ho.1 ho.2
  simp only [crossOk, hobj .L0804 (by decide), hobj .L0805 (by decide), hobj .F0900 (by decide), hobj .F0901 (by decide)]

theorem groupOk_congr {v w : View} (h : v.alike w) (g : Nat) : groupOk g v = groupOk g w := by
  have hobj (o' : Obj) (ho : o' ≠ .K0D00 ∧ o' ≠ .K0D01) : v o' 0 = w o' 0 := h o' 0 ho.1 ho.2
  simp only [groupOk, hobj .K0D10 (by decide), hobj .K0D11 (by decide), hobj .K0D12 (by decide), hobj .K0D18 (by decide), hobj .K0D19 (by decide),
    hobj .K0D1A (by decide)]

/-! ### A value and what it brings -/

theorem State.requestFreq_keeps (s : State) (p mhz : Nat) : Keeps [.sites, .markets] [] s (s.requestFreq p mhz) := by
  have hsite (u : State) (q : Site) : Keeps [.sites, .markets] [] u (u.setSite p q) :=
    (Keeps.of_parts (u.setSite_unchanged p q) (by decide)).mono (by decide)
  have hname (f : FreqChange) : Keeps [.sites, .markets] [] s (s.nameFrame p f) := (hsite s _).trans ((State.withholdAll_keeps _ _ _ _).mono (by decide))
  have hbegin (m : Nat) : Keeps [.sites, .markets] [] s (s.beginFreq p m) := .ite (hsite s _) (hname _)
  unfold State.requestFreq
  dsimp only
  refine .ite (.refl _ _ s) ?_
  split
  · exact .ite (.refl _ _ s) (hbegin _)
  · exact .ite (hsite s _) (.ite (hbegin _) (hsite s _))

/-- An element's value in force, with its shadow gone. -/
def State.inForceNow (s : State) (o : Obj) (i v : Nat) : State :=
  ({ s with shadow := mapDel s.shadow (o, i) } : State).setObj o i (keepBits o v)

/-- What a value brings once it is in force. -/
def State.brings (s : State) (o : Obj) (i v : Nat) : State :=
  if o = .C0B05 then s.requestFreq i v
  else if o = .X0708 then s.showStreams
  else if o = .L080A then (List.range 4).foldl (fun s d => s.showTreeLanes d 1 (decide (s.lightOf (primarySet d 1) 1 ≠ .dark))) s
  else if o = .K0D05 ∧ v = 0 then s.endSessions (fun x => x.commons) 3
  else s

theorem State.applyValue_of_not_key {o : Obj} (h : ¬isKey o) (s : State) (i v : Nat) : s.applyValue o i v = (s.inForceNow o i v).brings o i v :=
  if_neg h

/-- The objects that follow another's value. -/
def followers (o : Obj) : List Obj := if o = .X0708 then streamObjs else if o = .L080A then [.L0806] else []

theorem followers_of_apply {o : Obj} (h : (objRow o).apply ≠ .halt) : followers o = [] := by
  have hstreams : o ≠ .X0708 := by rintro rfl; exact h (by decide +kernel)
  have hlanes : o ≠ .L080A := by rintro rfl; exact h (by decide +kernel)
  rw [followers, if_neg hstreams, if_neg hlanes]

theorem not_mem_followers (o : Obj) : o ∉ followers o := by
  unfold followers
  split
  · next h => rw [h]; decide
  · split
    · next h => rw [h]; decide
    · exact List.not_mem_nil

/-- The parts that a value's followers are in. -/
def broughtParts : List Part := [.sites, .markets, .objs, .lanes, .log, .sessions]

theorem State.brings_keeps (s : State) (o : Obj) (i v : Nat) : Keeps broughtParts (followers o) s (s.brings o i v) := by
  have hends : Keeps broughtParts (followers o) s (if o = .K0D05 ∧ v = 0 then s.endSessions (fun x => x.commons) 3 else s) :=
    .ite ((Keeps.of_parts (s.endSessions_unchanged _ _) (by decide)).mono ⟨by decide, fun _ h => absurd h List.not_mem_nil⟩) (.refl _ _ s)
  unfold State.brings
  split
  · exact (s.requestFreq_keeps i v).mono ⟨by decide, fun _ h => absurd h List.not_mem_nil⟩
  · split
    · next h => exact s.showStreams_keeps.mono ⟨by decide, by simp [followers, h]⟩
    · split
      · next h => exact (Keeps.foldl (fun s d => s.showTreeLanes_keeps d 1 _) (List.range 4) s).mono ⟨by decide, by simp [followers, h]⟩
      · exact hends

/-- K.0D05 alone ends sessions. -/
theorem State.brings_sessions {o : Obj} (h : o ≠ .K0D05) (s : State) (i v : Nat) : (s.brings o i v).sessions = s.sessions := by
  have hoff : ¬(o = .K0D05 ∧ v = 0) := fun hoff => h hoff.1
  unfold State.brings
  rw [if_neg hoff]
  split
  · exact (s.requestFreq_keeps i v).1 .sessions (by decide)
  · split
    · exact s.showStreams_keeps.1 .sessions (by decide)
    · split
      · exact (Keeps.foldl (fun s d => s.showTreeLanes_keeps d 1 _) (List.range 4) s).1 .sessions (by decide)
      · rfl

/-- A member of a group brings nothing. -/
theorem State.brings_of_group {o : Obj} (h : (objRow o).apply = .group) (s : State) (i v : Nat) : s.brings o i v = s := by
  have hne (o' : Obj) (ho : (objRow o').apply ≠ .group) : o ≠ o' := fun he => ho (he ▸ h)
  rw [State.brings, if_neg (hne .C0B05 (by decide +kernel)), if_neg (hne .X0708 (by decide +kernel)), if_neg (hne .L080A (by decide +kernel)),
    if_neg fun hoff => hne .K0D05 (by decide +kernel) hoff.1]

theorem State.inForceNow_keeps (s : State) (o : Obj) (i v : Nat) : Keeps [.shadow, .objs] [o] s (s.inForceNow o i v) := by
  have hshadow (x : AMap (Obj × Nat) Nat) : Keeps [.shadow] [] s { s with shadow := x } := .of_parts (by rw [unchangedBut_iff]; simp) (by decide)
  exact ((hshadow _).mono ⟨by decide, fun _ h => absurd h List.not_mem_nil⟩).trans ((State.setObj_keeps _ _ _ _).mono ⟨by decide, fun _ h => h⟩)

/-- What a value that takes effect leaves of an object that is no ledger key. -/
theorem State.applyValue_spec {o : Obj} (h : ¬isKey o) (s : State) (i v : Nat) : (s.applyValue o i v).obj o i = keepBits o v ∧
    (s.applyValue o i v).shadow = mapDel s.shadow (o, i) ∧ Keeps (.shadow :: broughtParts) (o :: followers o) s (s.applyValue o i v) := by
  have hbrings := (s.inForceNow o i v).brings_keeps o i v
  rw [State.applyValue_of_not_key h]
  refine ⟨?_, hbrings.1 .shadow (by decide), ?_⟩
  · rw [hbrings.obj o i (not_mem_followers o)]
    exact State.obj_setObj _ _ _ _
  · exact ((s.inForceNow_keeps o i v).mono ⟨by decide, fun _ ho => List.mem_cons.mpr (.inl (List.mem_singleton.mp ho))⟩).trans
      (hbrings.mono ⟨by decide, fun _ ho => List.mem_cons_of_mem _ ho⟩)

/-- A ledger key goes to the store of keys. -/
theorem State.applyValue_of_key {o : Obj} (h : isKey o) (s : State) (i v : Nat) :
    s.applyValue o i v = ({ s with shadow := mapDel s.shadow (o, i) } : State).putKey o v := if_pos h

theorem State.putKey_unchanged (s : State) (o : Obj) (v : Nat) : unchangedBut [.store] s (s.putKey o v) := by
  have hstore (t : Store) : unchangedBut [.store] s { s with store := t } := by rw [unchangedBut_iff]; simp
  unfold State.putKey
  split <;> exact hstore _

theorem State.ledgerWrite_unchanged (s : State) (n level : Nat) (o : Obj) (i : Nat) : unchangedBut [.log] s (s.ledgerWrite n level o i) :=
  iteInduction (motive := unchangedBut [.log] s) (fun _ => s.raise_unchanged _ _ _) (fun _ => .refl _ s)

theorem State.ledgerWrite_event {level : Nat} (h : 1 ≤ level) (s : State) (n : Nat) (o : Obj) (i : Nat) :
    (s.ledgerWrite n level o i).log.events.head?.map (fun e => (e.code, e.subject, e.data)) = some (evLedgerWrite, n, [n, (objRow o).number, i]) := by
  rw [State.ledgerWrite, if_pos h, (State.raise_events _ _ _ _).1]
  rfl

end Sys2Proof.Machine
end

section
/-!
Ledger requests that write (R318, R320 to R322, R325): a scalar's WRITE and STAGE, a COMMIT, and what waits for a boundary.
-/

namespace Sys2Proof.Machine

/-! ### The items of a request (R325) -/

theorem octetsNum_lt (l : List (BitVec 8)) : octetsNum l < 2 ^ (8 * l.length) := by
  induction l with
  | nil => exact Nat.one_pos
  | cons b l ih =>
    have hb := b.isLt
    rw [octetsNum, List.length_cons, Nat.mul_succ, Nat.pow_add]
    omega

/-- An item's value has no more bytes than its length says. -/
theorem parseItems_value_lt {values : Bool} {n : Nat} {b : List (BitVec 8)} {l : List Item} (h : parseItems values n b = some l) {it : Item}
    (hit : it ∈ l) : it.value < 2 ^ (8 * it.len) := by
  induction n generalizing b l with
  | zero =>
    rw [parseItems] at h
    split at h
    · obtain rfl := Option.some.inj h
      cases hit
    · cases h
  | succ n ih =>
    cases values with
    | false =>
      simp only [parseItems, Bool.false_eq_true, if_false] at h
      split at h
      · cases h
      · obtain ⟨rest, hrest, rfl⟩ := Option.map_eq_some_iff.mp h
        rcases List.mem_cons.mp hit with rfl | hit
        · exact Nat.two_pow_pos _
        · exact ih hrest hit
    | true =>
      simp only [parseItems, if_true] at h
      split at h
      · cases h
      · obtain ⟨rest, hrest, rfl⟩ := Option.map_eq_some_iff.mp h
        rcases List.mem_cons.mp hit with rfl | hit
        · exact (octetsNum_lt _).trans_le (Nat.pow_le_pow_right (by decide) (Nat.mul_le_mul_left 8 (List.length_take_le _ _)))
        · exact ih hrest hit

theorem LedgerMsg.value_lt {m : LedgerMsg} {it : Item} (h : it ∈ m.items) : it.value < 2 ^ (8 * it.len) := by
  have hsome : ∃ l, m.parse = some l ∧ it ∈ l := by
    unfold LedgerMsg.items at h
    cases hp : m.parse with
    | none => rw [hp] at h; cases h
    | some l => rw [hp] at h; exact ⟨l, rfl, h⟩
  obtain ⟨l, hl, hit⟩ := hsome
  unfold LedgerMsg.parse at hl
  split at hl
  · cases hl
  · split at hl
    · split at hl
      · obtain rfl := Option.some.inj hl
        cases hit
      · cases hl
    · exact parseItems_value_lt hl hit

/-- An item that gives one element of a scalar object whole. -/
def Scalar (r : ObjRow) (it : Item) : Prop :=
  r.type ≠ .string ∧ r.type ≠ .table ∧ r.type ≠ .blob ∧ it.all = false ∧ it.index < r.elements ∧ it.type = otypeCode r.type ∧ it.offset = 0 ∧ it.len = r.size

theorem itemChanges_of_scalar {r : ObjRow} {it : Item} (h : Scalar r it) (hvalue : it.value < 2 ^ (8 * it.len)) (base : Nat → Nat) :
    itemChanges r base it = some [(it.index, keepBits r.obj it.value)] := by
  obtain ⟨hstring, htable, hblob, hall, -, htype, hoffset, hlen⟩ := h
  have hoff : offsetOk r it = true := by simp [offsetOk, hoffset]
  have hgiven : itemValues r base it = some [(it.index, it.value)] := by
    simp only [itemValues]
    rw [if_neg (by simp [htype, hoff, hvalue]), if_neg (by simp [hall]), if_neg hstring, if_neg (by simp [htable, hblob]), if_pos hlen]
  rw [itemChanges, hgiven]
  rfl

/-- Nothing stops an item before its value is looked at. -/
theorem State.itemRefused_of_scalar {s : State} {x : Session} {it : Item} {r : ObjRow} (hfind : findObj it.area it.num = some r)
    (hscalar : Scalar r it) (hlevel : r.level ≤ x.level) (hmatches : s.matches x = true) {ok : ObjRow → Bool} (hok : ok r = true) :
    s.itemRefused x it ok = none := by
  obtain ⟨-, -, -, -, hindex, -⟩ := hscalar
  simp only [State.itemRefused, hfind]
  rw [if_neg (by simp [hok, hmatches, Nat.not_lt.mpr hlevel]), if_neg (by simp [hindex])]

/-! ### WRITE of a scalar Live object (R318) -/

theorem State.accept_of_live {o : Obj} (h : (objRow o).apply = .live) (s : State) (i v : Nat) : s.accept o i v = (s.wroteNow o i).applyValue o i v := by
  simp only [State.accept, h]

/-- The view of an item's own value over the values in force. -/
def State.viewWith (s : State) (o : Obj) (i v : Nat) : View := fun o' i' => if o' = o ∧ i' = i then v else s.inForce o' i'

theorem State.writeItem_of_scalar {s : State} {n : Nat} {x : Session} {it : Item} {r : ObjRow} (hfind : findObj it.area it.num = some r)
    (hrw : r.access = .rw) (hlive : r.apply = .live) (hlevel : r.level ≤ x.level) (hmatches : s.matches x = true) (hscalar : Scalar r it)
    (hvalue : it.value < 2 ^ (8 * it.len)) (hrange : s.inRange r.obj it.index (keepBits r.obj it.value) = true)
    (hcross : crossOk r.obj (s.viewWith r.obj it.index (keepBits r.obj it.value)) = true) (hstate : s.refusedByState r.obj it.index = false) :
    ∃ p, s.writeItem n x it =
      ((s.accept r.obj it.index (keepBits r.obj it.value)).ledgerWrite n x.level r.obj it.index, .ok, p) := by
  have htakes : r.takesWrite = true := by simp [ObjRow.takesWrite, hrw, hlive]
  have hrefused := State.itemRefused_of_scalar hfind hscalar hlevel hmatches (ok := fun r => r.takesWrite) htakes
  have hchanges (base : Nat → Nat) := itemChanges_of_scalar hscalar hvalue base
  have hview : crossOk r.obj (fun o i => if o = r.obj then (([(it.index, keepBits r.obj it.value)].find? (fun e => e.1 == i)).map (fun e => e.2)).getD
      (s.inForce o i) else s.inForce o i) = true := by
    rw [← hcross]
    refine congrArg _ (funext fun o => funext fun i => ?_)
    by_cases ho : o = r.obj
    · by_cases hi : i = it.index
      · simp [State.viewWith, ho, hi]
      · simp [State.viewWith, ho, hi, Ne.symm hi]
    · simp [State.viewWith, ho]
  refine ⟨(s.accept r.obj it.index (keepBits r.obj it.value)).ledgerWrite n x.level r.obj it.index |>.pending' r.obj it.index, ?_⟩
  simp only [State.writeItem, hfind, hrefused, hchanges, hview, List.any_cons, List.any_nil, hstate, hrange, Bool.or_false]
  rw [if_neg (by decide), if_neg (by simp [hrw]), if_neg (by decide)]
  simp only [List.foldl_cons, List.foldl_nil]

/-! ### STAGE of a scalar (R320) -/

/-- The members that stay beside a new one. -/
def Session.otherStage (x : Session) (o : Obj) (i : Nat) : List StageItem := x.stage.filter (fun m => !(m.obj == o && i == m.index))

theorem State.stageItem_of_scalar {s : State} {x : Session} {it : Item} {r : ObjRow} (hfind : findObj it.area it.num = some r)
    (htakes : r.takesStage = true) (hlevel : r.level ≤ x.level) (hmatches : s.matches x = true) (hscalar : Scalar r it)
    (hvalue : it.value < 2 ^ (8 * it.len)) (hrange : s.inRange r.obj it.index (keepBits r.obj it.value) = true) (hroom : x.stage.length < 64) :
    s.stageItem x it = (x.otherStage r.obj it.index ++
      [{ obj := r.obj, index := it.index, value := keepBits r.obj it.value, time := s.time }], .ok) := by
  have hrefused := State.itemRefused_of_scalar hfind hscalar hlevel hmatches (ok := fun r => r.takesStage) htakes
  have hchanges (base : Nat → Nat) := itemChanges_of_scalar hscalar hvalue base
  have hother : (x.otherStage r.obj it.index).length ≤ x.stage.length := List.length_filter_le _ _
  simp only [State.stageItem, hfind, hrefused, hchanges, List.any_cons, List.any_nil, Bool.or_false, hrange]
  refine (if_neg ?_).trans rfl
  rintro (hout | hfull)
  · cases hout
  · have hfull : 64 < (x.otherStage r.obj it.index).length + 1 := hfull
    omega

theorem exec_stage {s : State} {m : LedgerMsg} {x : Session} (h : s.Fresh 3 m x) {it : Item} (hitems : m.items = [it]) {g : List StageItem} {c : Code}
    (hstage : (s.requested m x).stageItem (x.requested m.seq s.time) it = (g, c)) :
    exec (.stage m) s = .next ((s.setSession m.session (some { x.requested m.seq s.time with stage := g })).reply m.session
      (x.requested m.seq s.time) (replyTo m 3 .ok [itemAnswer it c false] false)) := by
  rw [← State.setSession_setSession s m.session (some (x.requested m.seq s.time))]
  refine congrArg Host.Outcome.next (State.request_of_fresh (a := .nothing) h _ ?_)
  simp only [hitems, State.stageItems, hstage]
  rfl

/-! ### COMMIT of one member (R321) -/

/-- The state in which a COMMIT is judged: the session's stage set is empty. -/
def State.committing (s : State) (m : LedgerMsg) (x : Session) : State :=
  s.setSession m.session (some { x.requested m.seq s.time with stage := [] })

theorem exec_commit {s : State} {m : LedgerMsg} {x : Session} (h : s.Fresh 4 m x) {u : State} {l : List Answer} {a : After}
    (hset : (s.committing m x).commitSet m.session (x.requested m.seq s.time) = (u, l, a)) :
    exec (.commit m) s = .next ((u.reply m.session (x.requested m.seq s.time)
      (replyTo m 4 (worst (l.map (fun i => i.code))) l false)).followUp m.session a) := by
  have hstate : (s.requested m x).setSession m.session (some { x.requested m.seq s.time with stage := [] }) = s.committing m x :=
    s.setSession_setSession _ _ _
  refine congrArg Host.Outcome.next (State.request_of_fresh h _ ?_)
  simp only [hstate, hset]

theorem State.memberCode_setSession (s : State) (n : Nat) (v : Option Session) (l : List StageItem) {g : StageItem} (h : (objRow g.obj).apply ≠ .halt) :
    (s.setSession n v).memberCode l g = s.memberCode l g := by
  have hview : View.alike
      (fun o i => ((l.find? (fun m => m.obj == o && m.index == i)).map (fun m => m.value)).getD ((s.setSession n v).inForce o i))
      (fun o i => ((l.find? (fun m => m.obj == o && m.index == i)).map (fun m => m.value)).getD (s.inForce o i)) := fun o i hcount htable => by
    dsimp only
    rw [s.inForce_setSession n v hcount htable]
  simp only [State.memberCode, s.refusedByState_setSession n v h, crossOk_congr hview, groupOk_congr hview]

section
variable {s : State} {n : Nat} {x : Session} {g : StageItem} (hstage : x.stage = [g]) (hmatches : s.matches x = true)
include hstage hmatches

theorem State.commitSet_of_overtaken (hlate : s.overtaken g = true) : s.commitSet n x = (s, [g.answer .aborted false], .nothing) := by
  simp only [State.commitSet, hstage, hmatches, List.any_cons, List.any_nil, hlate, Bool.or_false, Bool.not_true, Bool.false_eq_true, if_false, if_true,
    List.map_cons, List.map_nil]

/-- What follows the response to a commit: the sessions of a management segment that has moved end. -/
def StageItem.moves (g : StageItem) : After := if (objRow g.obj).group == 1 then .moved else .nothing

/-- One member of a group that its check agrees to takes effect at once. -/
theorem State.commitSet_of_member (hlate : s.overtaken g = false) (hgroup : (objRow g.obj).apply = .group) (hcode : s.memberCode [g] g = .ok) :
    s.commitSet n x = ((s.wroteNow g.obj g.index).applyMember n x.level g, [g.answer .ok false], g.moves) := by
  have hboundary (u : State) : u.boundaryOf [g] = none := by simp [State.boundaryOf, hgroup]
  simp only [State.commitSet, hstage, hmatches, List.any_cons, List.any_nil, hlate, hcode, hboundary, Bool.or_false, Bool.not_true,
    Bool.false_eq_true, if_false, List.map_cons, List.map_nil, List.foldl_cons, List.foldl_nil, ne_eq, not_true_eq_false, decide_false]
  rfl

end

theorem State.wroteNow_unchanged (s : State) (o : Obj) (i : Nat) : unchangedBut [.wrote] s (s.wroteNow o i) := by
  rw [unchangedBut_iff]; simp [State.wroteNow]

theorem State.followUp_unchanged (s : State) (n : Nat) (a : After) : unchangedBut [.sessions, .log] s (s.followUp n a) := by
  cases a with
  | nothing => exact .refl _ s
  | bye => exact s.endSession_unchanged n 0
  | moved => exact s.endSessions_unchanged _ _

theorem State.followUp_session (s : State) (n : Nat) (a : After) (k : Nat) :
    (s.followUp n a).session k = none ∨ (s.followUp n a).session k = s.session k := by
  cases a with
  | nothing => exact .inr rfl
  | bye =>
    have h := s.endSession_session n 0 k
    split at h
    · exact .inl h
    · exact .inr h
  | moved => exact s.endSessions_session _ _ k

/-- A member of a group that takes effect changes no session, no output and no memory. -/
theorem State.applyMember_of_group {g : StageItem} (h : (objRow g.obj).apply = .group) (s : State) (n level : Nat) :
    unchangedBut [.shadow, .objs, .store, .log] s (s.applyMember n level g) := by
  have hwrite (u : State) : unchangedBut [.shadow, .objs, .store, .log] u (u.ledgerWrite n level g.obj g.index) :=
    (u.ledgerWrite_unchanged _ _ _ _).mono (by decide)
  refine unchangedBut.trans ?_ (hwrite _)
  by_cases hkey : isKey g.obj
  · rw [State.applyValue_of_key hkey]
    refine unchangedBut.trans ?_ ((State.putKey_unchanged _ _ _).mono (by decide))
    rw [unchangedBut_iff]; simp
  · rw [State.applyValue_of_not_key hkey, State.brings_of_group h]
    exact (s.inForceNow_keeps _ _ _).1.mono (by decide)

/-- A member that is no key stands in force. -/
theorem State.applyMember_spec {g : StageItem} (h : ¬isKey g.obj) (s : State) (n level : Nat) :
    (s.applyMember n level g).obj g.obj g.index = keepBits g.obj g.value ∧
    Keeps (.shadow :: broughtParts) (g.obj :: followers g.obj) s (s.applyMember n level g) := by
  have hwrite := (s.applyValue g.obj g.index g.value).ledgerWrite_unchanged n level g.obj g.index
  obtain ⟨hobj, -, hkeeps⟩ := State.applyValue_spec h s g.index g.value
  refine ⟨(hwrite.obj (by decide) _ _).trans hobj, hkeeps.trans ((Keeps.of_parts hwrite (by decide)).mono ⟨by decide, fun _ ho => absurd ho List.not_mem_nil⟩)⟩

theorem State.applyMember_key {g : StageItem} (h : isKey g.obj) (s : State) (n level : Nat) :
    (s.applyMember n level g).store = (s.putKey g.obj g.value).store := by
  have hwrite : (s.applyMember n level g).store = (s.applyValue g.obj g.index g.value).store := State.ledgerWrite_unchanged _ _ _ _ _ .store (by decide)
  rw [hwrite, State.applyValue_of_key h]
  rcases h with h | h | h <;> rw [h] <;> rfl

/-! ### What waits for a boundary (R318, R321) -/

/-- The answer of a member in a notification, with the room there is for its value. -/
def StageItem.fitted (g : StageItem) : List Answer := fitValues (1200 - 16 * 1) [g.shown]

theorem StageItem.fitted_index (g : StageItem) : g.fitted.map (fun a => a.index) = [g.index] := by
  have hshown : g.shown.index = g.index := by
    unfold StageItem.shown
    split <;> rfl
  simp only [StageItem.fitted, fitValues, List.map_cons, List.map_nil, hshown]

theorem exec_commitApply {s : State} {wave : Bool} {c : PendCommit} {g : StageItem} (hcommits : s.commits = [c]) (hwave : c.wave = wave)
    (hmembers : c.members = [g]) (hgroup : (objRow g.obj).apply ≠ .group) : exec (.commitApply wave) s =
      .next ((({ s with commits := [] } : State).applyMember c.session c.level g).notifyTo c.session false g.fitted) := by
  have hone : ((objRow g.obj).group == 1) = false := by simpa using objRow_group_ne_one hgroup
  refine congrArg Host.Outcome.next ?_
  simp only [State.applyCommits, hcommits, List.filter_cons, List.filter_nil, hwave, beq_self_eq_true, bne_self_eq_false, if_true, Bool.false_eq_true,
    if_false, List.foldl_cons, List.foldl_nil, hmembers, List.any_cons, List.any_nil, hone, Bool.or_false, List.length_singleton, List.map_cons,
    List.map_nil]
  rfl

theorem exec_edgeApply {s : State} {wave : Bool} {o : Obj} {i v : Nat} (hshadow : s.shadow = [((o, i), v)])
    (hboundary : (objRow o).atBoundary wave = true) : exec (.edgeApply wave) s = .next (s.applyValue o i v) := by
  refine congrArg Host.Outcome.next ?_
  simp only [State.applyShadows, hshadow, List.filter_cons, List.filter_nil, hboundary, if_true, List.foldl_cons, List.foldl_nil]

theorem apply_of_atBoundary {r : ObjRow} {wave : Bool} (h : r.atBoundary wave = true) : r.apply ≠ .group ∧ r.apply ≠ .halt := by
  cases wave <;> (have hedge := eq_of_beq h; simp [hedge])

/-! ### The statement -/

/-- A value of a Live object that is accepted and reported. -/
def State.taking (s : State) (n level : Nat) (o : Obj) (i v : Nat) : State := (s.accept o i v).ledgerWrite n level o i

theorem State.taking_spec {o : Obj} (h : (objRow o).apply = .live) (s : State) (n level i v : Nat) : (s.taking n level o i v).obj o i = v ∧
    mapGet 0 (s.taking n level o i v).wrote (o, i) = s.time ∧ Keeps (.wrote :: .shadow :: broughtParts) [o] s (s.taking n level o i v) := by
  have hhalt : (objRow o).apply ≠ .halt := by rw [h]; decide
  have hkey : ¬isKey o := not_isKey_of_apply (by rw [h]; decide)
  obtain ⟨hobj, -, hkeeps⟩ := State.applyValue_spec hkey (s.wroteNow o i) i v
  rw [followers_of_apply hhalt] at hkeeps
  rw [keepBits_of_not_halt hhalt] at hobj
  have hstart : Keeps (.wrote :: .shadow :: broughtParts) [o] s (s.wroteNow o i) :=
    (Keeps.of_parts (s.wroteNow_unchanged o i) (by decide)).mono ⟨by decide, fun _ ho => absurd ho List.not_mem_nil⟩
  have hlogged := ((s.wroteNow o i).applyValue o i v).ledgerWrite_unchanged n level o i
  rw [State.taking, State.accept_of_live h]
  refine ⟨(hlogged.obj (by decide) _ _).trans hobj, ?_, (hstart.trans (hkeeps.mono ⟨by decide, fun _ ho => ho⟩)).trans
    ((Keeps.of_parts hlogged (by decide)).mono ⟨by decide, fun _ ho => absurd ho List.not_mem_nil⟩)⟩
  have hwrote : (((s.wroteNow o i).applyValue o i v).ledgerWrite n level o i).wrote = (s.wroteNow o i).wrote :=
    (hlogged .wrote (by decide)).trans (hkeeps.1 .wrote (by decide))
  rw [hwrote]
  exact mapGet_mapSet_same _ _ _ _

/-- A scalar Live object in range, written by a session of its level, is accepted and answered OK. -/
theorem exec_write_of_scalar {s : State} {m : LedgerMsg} {x : Session} {it : Item} {r : ObjRow} (h : s.Fresh 2 m x) (hitems : m.items = [it])
    (hfind : findObj it.area it.num = some r) (hrw : r.access = .rw) (hlive : r.apply = .live) (hlevel : r.level ≤ x.level)
    (hmatches : s.matches x = true) (hscalar : Scalar r it) (hrange : s.inRange r.obj it.index (keepBits r.obj it.value) = true)
    (hcross : crossOk r.obj (s.viewWith r.obj it.index (keepBits r.obj it.value)) = true) (hstate : s.refusedByState r.obj it.index = false) :
    ∃ p, exec (.write m) s = .next (((s.requested m x).taking m.session x.level r.obj it.index (keepBits r.obj it.value)).reply m.session
      (x.requested m.seq s.time) (replyTo m 2 .ok [itemAnswer it .ok p] false)) := by
  have hhalt : (objRow r.obj).apply ≠ .halt := by rw [objRow_of_findObj hfind, hlive]; decide
  have hview : View.alike ((s.requested m x).viewWith r.obj it.index (keepBits r.obj it.value))
      (s.viewWith r.obj it.index (keepBits r.obj it.value)) := fun o i hcount htable =>
    congrArg (ite _ _) (s.inForce_setSession _ _ hcount htable i)
  obtain ⟨p, hwrite⟩ := State.writeItem_of_scalar (s := s.requested m x) (n := m.session) (x := x.requested m.seq s.time) hfind hrw hlive hlevel
    hmatches hscalar (LedgerMsg.value_lt (hitems ▸ List.mem_singleton_self it)) hrange ((crossOk_congr hview _).trans hcross)
    ((s.refusedByState_setSession _ _ hhalt _).trans hstate)
  refine ⟨p, ?_⟩
  rw [exec_write h, hitems, State.writeItems_cons, hwrite]
  rfl

/-- A COMMIT of one member of a group: it takes effect, and the session's stage set is empty. -/
theorem exec_commit_of_member {s : State} {m : LedgerMsg} {x : Session} {g : StageItem} (h : s.Fresh 4 m x) (hstage : x.stage = [g])
    (hmatches : s.matches x = true) (hlate : s.overtaken g = false) (hgroup : (objRow g.obj).apply = .group) (hcode : s.memberCode [g] g = .ok) :
    ∃ t : State, exec (.commit m) s = .next t ∧ s.Answered t m x 4 (replyTo m 4 .ok [g.answer .ok false] false) ∧
      (¬isKey g.obj → t.obj g.obj g.index = keepBits g.obj g.value ∧ objsBut [g.obj] s t) ∧
      (isKey g.obj → t.store = (s.putKey g.obj g.value).store) ∧ (∀ y : Session, t.session m.session = some y → y.stage = []) ∧ sameMemory s t := by
  have hhalt : (objRow g.obj).apply ≠ .halt := by rw [hgroup]; decide
  let u := s.committing m x
  let w := (u.wroteNow g.obj g.index).applyMember m.session x.level g
  let r := replyTo m 4 .ok [g.answer .ok false] false
  have hset : u.commitSet m.session (x.requested m.seq s.time) = (w, [g.answer .ok false], g.moves) :=
    State.commitSet_of_member hstage hmatches hlate hgroup ((s.memberCode_setSession _ _ _ hhalt).trans hcode)
  have hstart : unchangedBut [.wrote, .sessions] s (u.wroteNow g.obj g.index) :=
    ((s.setSession_unchanged _ _).mono (by decide)).trans ((u.wroteNow_unchanged _ _).mono (by decide))
  have hmember := State.applyMember_of_group hgroup (u.wroteNow g.obj g.index) m.session x.level
  have hreply := w.reply_unchanged m.session (x.requested m.seq s.time) r
  have hfollow := (w.reply m.session (x.requested m.seq s.time) r).followUp_unchanged m.session g.moves
  have hsession : w.session m.session = some { x.requested m.seq s.time with stage := [] } := by
    have hsessions : w.sessions = u.sessions := hmember .sessions (by decide)
    rw [State.session, hsessions]
    exact State.session_setSession _ _ _
  have hexec : exec (.commit m) s = .next ((w.reply m.session (x.requested m.seq s.time) r).followUp m.session g.moves) := exec_commit h hset
  refine ⟨_, hexec, ?_, fun hkey => ⟨?_, ?_⟩, fun hkey => ?_, fun y hy => ?_, ?_⟩
  · have hout : w.out = s.out := (hmember .out (by decide)).trans (hstart .out (by decide))
    obtain ⟨hsent, hrest⟩ := State.answered_replyTo hout m x 4 .ok [g.answer .ok false] false
    have hlast : ((w.reply m.session (x.requested m.seq s.time) r).followUp m.session g.moves).out = _ := hfollow .out (by decide)
    exact ⟨hlast.trans hsent, hrest⟩
  · rw [hfollow.obj (by decide), hreply.obj (by decide)]
    exact (State.applyMember_spec hkey _ _ _).1
  · have hkeeps := (State.applyMember_spec hkey (u.wroteNow g.obj g.index) m.session x.level).2
    rw [followers_of_apply hhalt] at hkeeps
    exact ((hstart.objsBut (by decide) _).trans hkeeps.2).trans ((hreply.objsBut (by decide) _).trans (hfollow.objsBut (by decide) _))
  · have hlast : ((w.reply m.session (x.requested m.seq s.time) r).followUp m.session g.moves).store = w.store :=
      (hfollow .store (by decide)).trans (hreply .store (by decide))
    have hstore : (u.wroteNow g.obj g.index).store = s.store := hstart .store (by decide)
    refine hlast.trans ((State.applyMember_key hkey _ _ _).trans ?_)
    simp only [State.putKey, hstore]
    split <;> rfl
  · have hanswered := State.reply_session hsession (x.requested m.seq s.time) r
    rcases State.followUp_session (w.reply m.session (x.requested m.seq s.time) r) m.session g.moves m.session with hnone | hsame
    · exact absurd (hnone.symm.trans hy) (by simp)
    · rw [hanswered, hy] at hsame
      obtain rfl := Option.some.inj hsame
      rfl
  · exact (((hstart.mono (l' := [.wrote, .sessions, .shadow, .objs, .store, .log, .out]) (by decide)).trans (hmember.mono (by decide))).trans
      ((hreply.mono (by decide)).trans (hfollow.mono (by decide)))).memory (by decide) (by decide)

/-- Settles O44: a request's effect is that of its one item or member, and what waits for a boundary is that value's effect. -/
theorem ledgerWritesComplete : Obligations.LedgerWritesComplete := by
  unfold Obligations.LedgerWritesComplete
  intro fresh answered scalar
  refine ⟨fun s m x it r h hitems hfind hrw hlive hlevel hmatches hscalar hrange hcross hstate => ?write,
    fun s m x it r h hitems hfind htakes hlevel hmatches hscalar hrange hroom => ?stage,
    fun s m x g h hstage hmatches hlate hgroup hcode => ?commit, fun s m x g h hstage hmatches hlate => ?overtaken, fun s m x h => ?abort,
    fun s wave c g x hcommits hwave hmembers hopen hgroup hoff => ?apply, fun s wave o i v hshadow hboundary => ?edge⟩
  case write =>
    obtain ⟨p, hexec⟩ := exec_write_of_scalar h hitems hfind hrw hlive hlevel hmatches hscalar hrange hcross hstate
    have hrow : objRow r.obj = r := objRow_of_findObj hfind
    let w := (s.requested m x).taking m.session x.level r.obj it.index (keepBits r.obj it.value)
    let a := replyTo m 2 .ok [itemAnswer it .ok p] false
    obtain ⟨hobj, hwrote, hkeeps⟩ := State.taking_spec (by rw [hrow]; exact hlive) (s.requested m x) m.session x.level it.index (keepBits r.obj it.value)
    have hreply := w.reply_unchanged m.session (x.requested m.seq s.time) a
    have hlog : (w.reply m.session (x.requested m.seq s.time) a).log = w.log := hreply .log (by decide)
    have hwrote' : (w.reply m.session (x.requested m.seq s.time) a).wrote = w.wrote := hreply .wrote (by decide)
    have hstart := s.requested_unchanged m x
    have hall : unchangedBut (.out :: .wrote :: .shadow :: broughtParts) s (w.reply m.session (x.requested m.seq s.time) a) :=
      ((hstart.mono (by decide)).trans (hkeeps.1.mono (by decide))).trans (hreply.mono (by decide))
    refine ⟨_, a, hexec, State.answered_replyTo (hkeeps.1 .out (by decide)) m x 2 _ _ _, rfl, rfl, (hreply.obj (by decide) _ _).trans hobj,
      by rw [hwrote']; exact hwrote, ((hstart.objsBut (by decide) _).trans hkeeps.2).trans (hreply.objsBut (by decide) _), fun hexpert => ?_,
      hall.memory (by decide) (by decide)⟩
    have hevent := State.ledgerWrite_event hexpert ((s.requested m x).accept r.obj it.index (keepBits r.obj it.value)) m.session r.obj it.index
    rw [hrow] at hevent
    rw [hlog]
    exact hevent
  case stage =>
    have hstage := State.stageItem_of_scalar (s := s.requested m x) (x := x.requested m.seq s.time) hfind htakes hlevel hmatches hscalar
      (LedgerMsg.value_lt (hitems ▸ List.mem_singleton_self it)) hrange hroom
    exact ⟨_, replyTo m 3 .ok [itemAnswer it .ok false] false, _, exec_stage h hitems hstage, State.answered_replyTo rfl m x 3 _ _ _, rfl,
      State.reply_session (State.session_setSession _ _ _) _ _, List.mem_append_right _ (List.mem_singleton_self _),
      State.answer_unchanged (s.setSession_unchanged _ _) _ _ _⟩
  case commit =>
    obtain ⟨t, hexec, hanswered, hvalue, hkey, hstage', hmem⟩ := exec_commit_of_member h hstage hmatches hlate hgroup hcode
    refine ⟨t, _, hexec, hanswered, rfl, fun h18 h19 h1A => hvalue ?_, fun h18 => ?_, fun h19 => ?_, fun h1A => ?_, hstage', hmem⟩
    · rintro (h | h | h)
      exacts [h18 h, h19 h, h1A h]
    · rw [hkey (.inl h18), h18]
      exact ⟨rfl, rfl⟩
    · rw [hkey (.inr (.inl h19)), h19]
      exact ⟨rfl, rfl⟩
    · rw [hkey (.inr (.inr h1A)), h1A]
      rfl
  case overtaken =>
    have hset := State.commitSet_of_overtaken (s := s.committing m x) (n := m.session) (x := x.requested m.seq s.time) hstage hmatches hlate
    exact ⟨_, replyTo m 4 .aborted [g.answer .aborted false] false, exec_commit h hset, State.answered_replyTo rfl m x 4 _ _ _, rfl,
      State.answer_unchanged (s.setSession_unchanged _ _) _ _ _⟩
  case abort =>
    exact ⟨_, replyTo m 5 .ok [] false, _, exec_abort h, State.answered_replyTo rfl m x 5 _ _ _, rfl,
      State.reply_session (State.session_setSession _ _ _) _ _, rfl, State.answer_unchanged (s.setSession_unchanged _ _) _ _ _⟩
  case apply =>
    have hkey : ¬isKey g.obj := not_isKey_of_apply hgroup
    let u : State := { s with commits := [] }
    let w := u.applyMember c.session c.level g
    have hcleared : unchangedBut [.commits] s u := by rw [unchangedBut_iff]; simp [u]
    obtain ⟨hobj, hkeeps⟩ := State.applyMember_spec hkey u c.session c.level
    have hsessions : w.sessions = s.sessions := by
      have hwrite : w.sessions = (u.applyValue g.obj g.index g.value).sessions := State.ledgerWrite_unchanged _ _ _ _ _ .sessions (by decide)
      rw [hwrite, State.applyValue_of_not_key hkey, State.brings_sessions hoff]
      exact (u.inForceNow_keeps _ _ _).1 .sessions (by decide)
    have hopenHere : w.openSession c.session = some x := by rw [State.openSession, State.session, hsessions]; exact hopen
    have hnotify := State.notifyTo_of_open hopenHere false g.fitted
    have hsent : unchangedBut [.out, .sessions] w (w.notifyTo c.session false g.fitted) := by
      rw [hnotify]
      exact ((w.send_unchanged _).mono (by decide)).trans ((State.setSession_unchanged _ _ _).mono (by decide))
    have hall : unchangedBut (.commits :: .out :: .shadow :: broughtParts) s (w.notifyTo c.session false g.fitted) :=
      ((hcleared.mono (by decide)).trans (hkeeps.1.mono (by decide))).trans (hsent.mono (by decide))
    refine ⟨_, x.gap, g.fitted, exec_commitApply hcommits hwave hmembers hgroup, (hsent .commits (by decide)).trans (hkeeps.1 .commits (by decide)),
      (hsent.obj (by decide) _ _).trans hobj, fun hstreams hlanes => ?_, ?_, g.fitted_index, hall.memory (by decide) (by decide)⟩
    · rw [followers, if_neg hstreams, if_neg hlanes] at hkeeps
      exact ((hcleared.objsBut (by decide) _).trans hkeeps.2).trans (hsent.objsBut (by decide) _)
    · have hout : w.out = s.out := hkeeps.1 .out (by decide)
      rw [hnotify, ← hout]
      rfl
  case edge =>
    obtain ⟨hgroup, hhalt⟩ := apply_of_atBoundary hboundary
    obtain ⟨hobj, hshadow', hkeeps⟩ := State.applyValue_spec (not_isKey_of_apply hgroup) s i v
    rw [followers_of_apply hhalt] at hkeeps
    refine ⟨_, exec_edgeApply hshadow hboundary, ?_, hobj, hkeeps.2, hkeeps.1.memory (by decide) (by decide)⟩
    rw [hshadow', hshadow]
    simp [mapDel]

end Sys2Proof.Machine
end

section
/-!
Withdrawals, stops and base-zone resets (R147, R258, R371, R400): what they change and leave alone.
-/

namespace Sys2Proof.Machine

/-- A fold in which the step of an element brings about what holds of it, and no step undoes it. -/
theorem foldl_establishes {α : Type} {P : State → α → Prop} {f : State → α → State} (hset : ∀ s x, P (f s x) x)
    (hkeep : ∀ s x y, P s y → P (f s x) y) (l : List α) (s : State) : ∀ x ∈ l, P (l.foldl f s) x := by
  have hstays (l : List α) (s : State) (y : α) (h : P s y) : P (l.foldl f s) y := by
    induction l generalizing s with
    | nil => exact h
    | cons x r ih => exact ih _ (hkeep s x y h)
  induction l generalizing s with
  | nil => exact fun x h => absurd h List.not_mem_nil
  | cons x r ih =>
    intro y hy
    rcases List.mem_cons.mp hy with rfl | hy
    · exact hstays r _ _ (hset s y)
    · exact ih _ y hy

/-! ### Abrupt withdrawals (R147) -/

/-- The parts that the end of what is on its way from a port may change. -/
def bidParts : List Part := [.gates, .tiles, .posts, .log, .movers]

theorem State.failBid_keeps (s : State) (plane src : Nat) (b : Bid) (c : Code) : Keeps bidParts [] s (s.failBid plane src b c) :=
  .of_parts (s.failBid_unchanged _ _ _ _) (by decide)

/-- The parts that an abrupt withdrawal may change. -/
def withdrawParts : List Part := [.markets, .objs, .withdrawing, .pathOk] ++ bidParts

theorem State.countLoss_keeps (s : State) (port plane cause : Nat) : Keeps withdrawParts [.B0604] s (s.countLoss port plane cause) := by
  obtain ⟨hparts, hobjs, -⟩ := s.countLoss_spec port plane cause
  exact ⟨hparts.mono (by decide), hobjs⟩

theorem State.abruptPlane_keeps (s : State) (port plane : Nat) (supply : Bool) : Keeps withdrawParts [.B0604] s (s.abruptPlane port plane supply) := by
  have hmarket (m : Market) : Keeps withdrawParts [.B0604] s (s.setMarket plane m) :=
    (Keeps.of_parts (s.setMarket_unchanged plane m) (by decide)).mono (by decide)
  have hsettle (u : State) (x : Slot) : Keeps withdrawParts [.B0604] u (u.settleSlot plane x .pathReset) :=
    (Keeps.of_parts (u.settleSlot_unchanged _ _ _) (by decide)).mono (by decide)
  have hbid (u : State) (src : Nat) (b : Bid) (c : Code) : Keeps withdrawParts [.B0604] u (u.failBid plane src b c) :=
    (u.failBid_keeps _ _ _ _).mono (by decide)
  have hruns (l : List Slot) (u : State) : Keeps withdrawParts [.B0604] u (l.foldl (fun s x => s.countLoss x.dst plane (lossNum .lock)) u) :=
    .foldl (fun s _ => s.countLoss_keeps _ _ _) l u
  have hslots (l : List Slot) (u : State) : Keeps withdrawParts [.B0604] u
      (l.foldl (fun s x => (s.countLoss x.dst plane 5).settleSlot plane x .pathReset) u) :=
    .foldl (fun s _ => (s.countLoss_keeps _ _ _).trans (hsettle _ _)) l u
  have hgrants (l : List Grant) (u : State) : Keeps withdrawParts [.B0604] u
      (l.foldl (fun s g => (s.countLoss g.bid.dst plane 5).failBid plane g.src g.bid .pathReset) u) :=
    .foldl (fun s _ => (s.countLoss_keeps _ _ _).trans (hbid _ _ _ _)) l u
  have hbids (l : List TableBid) (c : Code) (u : State) : Keeps withdrawParts [.B0604] u (l.foldl (fun s x => s.failBid plane x.src x.bid c) u) :=
    .foldl (fun s _ => hbid s _ _ _) l u
  unfold State.abruptPlane
  refine Keeps.trans (Keeps.trans (Keeps.trans (Keeps.trans (Keeps.trans ?_ (hruns _ _)) (hslots _ _)) (hgrants _ _)) (hbids _ _ _)) (hbids _ _ _)
  exact hmarket _

/-- A port in service is withdrawn after its slots and bids have ended; no other port's state changes. -/
theorem State.abrupt_keeps (s : State) (port : Nat) (supply : Bool) : Keeps withdrawParts [.B0601, .B0604] s (s.abrupt port supply) ∧
    ∀ q, q ≠ port → (s.abrupt port supply).obj .B0601 q = s.obj .B0601 q := by
  have hplanes := Keeps.foldl (fun s pl => s.abruptPlane_keeps port pl supply) (List.range 8) s
  have hshown (u : State) (w : AMap Nat Nat) (l : List ((Nat × Nat) × Nat)) : Keeps withdrawParts [.B0601] u
      ((({ u with withdrawing := w, pathOk := l } : State).setObj .B0601 port portWithdrawn).raise evPortWithdrawn port [1]) :=
    (((Keeps.of_parts (l := [.withdrawing, .pathOk]) (by rw [unchangedBut_iff]; simp) (by decide)).mono (by decide)).trans
      ((State.setObj_keeps _ _ _ _).mono (by decide))).trans ((State.raise_keeps _ _ _ _).mono (by decide))
  have hother (u : State) (w : AMap Nat Nat) (l : List ((Nat × Nat) × Nat)) (q : Nat) (hq : q ≠ port) :
      ((({ u with withdrawing := w, pathOk := l } : State).setObj .B0601 port portWithdrawn).raise evPortWithdrawn port [1]).obj .B0601 q =
        u.obj .B0601 q := State.obj_setObj_ne _ _ (.inr hq)
  unfold State.abrupt
  dsimp only
  split
  · exact ⟨.refl _ _ _, fun _ _ => rfl⟩
  · exact ⟨(hplanes.mono (by decide)).trans ((hshown _ _ _).mono (by decide)),
      fun q hq => (hother _ _ _ q hq).trans (hplanes.obj _ _ (by decide))⟩

/-- A port that is out of service stays so when another is withdrawn. -/
theorem State.abrupt_inService_of (s : State) (p : Nat) (supply : Bool) {q : Nat} (h : s.inService q = false) :
    (s.abrupt p supply).inService q = false := by
  by_cases hq : q = p
  · rw [hq]
    exact s.abrupt_inService p supply
  · rw [State.inService, (s.abrupt_keeps p supply).2 q hq]
    exact h

/-! ### A mover stops, and a port's bids end (R258, R400) -/

theorem State.stopMover_keeps (s : State) (port : Nat) (k : Code) : Keeps [.movers, .objs, .log] [.D0A01] s (s.stopMover port k) := by
  rcases h : (s.mover port).stop with - | k'
  · obtain ⟨-, -, -, -, -, hkeeps⟩ := State.stopMover_spec h k
    exact hkeeps
  · rw [State.stopMover, if_pos (by rw [h]; rfl)]
    exact .refl _ _ _

theorem State.resetMover_keeps (s : State) (p : Nat) : Keeps [.movers, .objs, .log] [.D0A01] s (s.resetMover p) :=
  .ite (s.stopMover_keeps _ _) (.refl _ _ _)

theorem State.resetGates_keeps (s : State) (p : Nat) : Keeps bidParts [] s (s.resetGates p) := by
  have hgate (u : State) (plane : Nat) (g : Gate) : Keeps bidParts [] u (u.setGate p plane g) :=
    (Keeps.of_parts (u.setGate_unchanged p plane g) (by decide)).mono (by decide)
  exact .foldl (fun s plane => (hgate s plane _).trans (.foldl (fun s b => s.failBid_keeps plane p b .pathReset) _ _)) _ s

/-! ### The suspension of a replica (R371) -/

/-- The parts and objects that an abort of the runs of a wave may change. -/
def abortParts : List Part := [.tiles, .objs, .sites, .stations, .gates, .markets]
def waitObjs : List Obj := [.S0302, .S0405]

theorem State.clearTile_keeps (s : State) (site tl : Nat) : Keeps abortParts waitObjs s (s.clearTile site tl) := by
  obtain ⟨u, hcleared, rfl⟩ := s.clearTile_tile site tl
  have hwait : Keeps abortParts waitObjs s (s.countWait site tl 1) := ⟨(s.countWait_unchanged _ _ _).mono (by decide), s.countWait_objs _ _ _⟩
  exact (hwait.trans ((Keeps.of_parts (State.setTile_unchanged _ _ _ _) (by decide)).mono (by decide))).trans
    ((Keeps.of_parts hcleared (by decide)).mono (by decide))

theorem State.leaveRun_keeps (s : State) (site tl : Nat) : Keeps [.tiles] [] s (s.leaveRun site tl) := by
  have htile (u : State) (t : Tile) : Keeps [.tiles] [] u (u.setTile site tl t) := .of_parts (u.setTile_unchanged _ _ _) (by decide)
  unfold State.leaveRun
  split
  · exact .refl _ _ _
  · exact (htile _ _).trans (htile _ _)

theorem State.abortRun_keeps (s : State) (site tl number : Nat) : Keeps abortParts waitObjs s (s.abortRun site tl number) := by
  have htile (u : State) (t : Tile) : Keeps abortParts waitObjs u (u.setTile site tl t) :=
    (Keeps.of_parts (u.setTile_unchanged _ _ _) (by decide)).mono (by decide)
  exact Keeps.trans (htile _ _) (.ite (((State.clearTile_keeps _ _ _).trans (htile _ _)).trans ((State.leaveRun_keeps _ _ _).mono (by decide))) (.refl _ _ _))

/-- What the abort of a wave may change. -/
def abortWaveParts : List Part := .waves :: .log :: abortParts
def abortWaveObjs : List Obj := .X0707 :: waitObjs

theorem State.abortWave_keeps (s : State) (w : Wave) (stack code : Nat) : Keeps abortWaveParts abortWaveObjs s (s.abortWave w stack code) := by
  have hruns : Keeps abortWaveParts abortWaveObjs s
      ((s.replicaSites w.replica).foldl (fun s p => (List.range 48).foldl (fun s k => s.abortRun p k w.number) s) s) :=
    .foldl (fun s p => .foldl (fun s k => (s.abortRun_keeps p k w.number).mono (by decide)) _ s) _ s
  exact .ite (.refl _ _ _) (((hruns.trans ((State.setWave_keeps _ _ _ _).mono (by decide))).trans ((State.bump_keeps _ _ _ _).mono (by decide))).trans
    ((State.raise_keeps _ _ _ _).mono (by decide)))

/-- What the suspension of a replica may change. -/
def suspendParts : List Part := .streams :: .recovery :: abortWaveParts
def suspendObjs : List Obj := .X0F03 :: abortWaveObjs

theorem State.suspendReplica_keeps (s : State) (r stack cause : Nat) : Keeps suspendParts suspendObjs s (s.suspendReplica r stack cause) := by
  have hwaves (l : List Wave) (u : State) : Keeps suspendParts suspendObjs u (l.foldl (fun s w => s.abortWave w stack cause) u) :=
    .foldl (fun s w => (s.abortWave_keeps w stack cause).mono (by decide)) l u
  have hstreams (l : List Stream) (u : State) : Keeps suspendParts suspendObjs u (l.foldl (fun s x => s.setStream x.id (some x.suspended)) u) :=
    .foldl (fun s x => (s.setStream_keeps _ _).mono (by decide)) l u
  have hrecovery (u : State) (x : Recovery) : Keeps suspendParts suspendObjs u { u with recovery := x } := (u.recovery_keeps x).mono (by decide)
  have hshown (u : State) : Keeps suspendParts suspendObjs u (if u.obj .X0F03 r = repOut then u else u.setObj .X0F03 r repSuspended) :=
    .ite (.refl _ _ _) ((u.setObj_keeps _ _ _).mono (by decide))
  exact (((hwaves _ _).trans (hstreams _ _)).trans (hrecovery _ _)).trans (hshown _)

/-! ### The beginning of a base-zone reset (R400) -/

/-- The objects that the beginning of a reset may change at its ports. -/
def portResetObjs : List Obj := [.B0601, .B0604, .D0A01]

theorem State.portReset_keeps (s : State) (p : Nat) : Keeps withdrawParts portResetObjs s (((s.abrupt p false).resetGates p).resetMover p) :=
  (((s.abrupt_keeps p false).1.mono (by decide)).trans ((State.resetGates_keeps _ _).mono (by decide))).trans
    ((State.resetMover_keeps _ _).mono (by decide))

/-- The end of what a port had on its way and the stop of its mover change no port's state of service. -/
theorem State.resetMover_inService (s : State) (p q : Nat) : ((s.resetGates p).resetMover p).inService q = s.inService q := by
  rw [State.inService, State.inService, (State.resetMover_keeps _ _).obj _ _ (by decide), (State.resetGates_keeps _ _).obj _ _ (by decide)]

/-- Every port whose reset began is out of service. -/
theorem State.portReset_foldl_inService (l : List Nat) (s : State) :
    ∀ p ∈ l, (l.foldl (fun s p => ((s.abrupt p false).resetGates p).resetMover p) s).inService p = false :=
  foldl_establishes (P := fun s p => s.inService p = false) (fun s p => (State.resetMover_inService _ _ _).trans (s.abrupt_inService p false))
    (fun s p _ h => (State.resetMover_inService _ _ _).trans (s.abrupt_inService_of p false h)) l s

/-- What the beginning of a reset may change. -/
def resetParts : List Part := .iods :: suspendParts ++ withdrawParts
def resetObjs : List Obj := suspendObjs ++ portResetObjs

theorem State.beginReset_spec (s : State) (z trigger : Nat) : let t := s.beginReset z trigger
    Keeps resetParts resetObjs s t ∧ mapGet 0 t.recovery.resets z = s.time ∧ (∀ p ∈ zonePorts z, t.inService p = false) ∧
      ∀ i, iodOfZone z = some i → (t.iod i).held = true := by
  let a := (zonePorts z).foldl (fun s p => ((s.abrupt p false).resetGates p).resetMover p) (s.raise evZoneReset z [z, trigger])
  let b := match iodOfZone z with
    | some i => a.setIod i { a.iod i with held := true }
    | none => a
  let c := [0, 1].foldl (fun s r =>
    match (zonePorts z).find? (fun p => match s.stackOf p with | some l => replicaOf l == r | none => false) with
    | some p => s.suspendReplica r ((s.stackOf p).getD 0) 0
    | none => s) b
  have ha : Keeps resetParts resetObjs s a :=
    ((s.raise_keeps _ _ _).mono (by decide)).trans ((Keeps.foldl (fun s p => s.portReset_keeps p) _ _).mono (by decide))
  have hb : Keeps [.iods] [] a b := by
    unfold b
    split
    · exact a.setIod_keeps _ _
    · exact .refl _ _ _
  have hc : Keeps suspendParts suspendObjs b c := by
    refine .foldl (fun s r => ?_) _ b
    split
    · exact s.suspendReplica_keeps _ _ _
    · exact .refl _ _ _
  have hkept : Keeps resetParts resetObjs s c := (ha.trans (hb.mono (by decide))).trans (hc.mono (by decide))
  have ht : s.beginReset z trigger = { c with recovery := { c.recovery with resets := mapSet c.recovery.resets z c.time } } := rfl
  refine ⟨hkept.trans (ht ▸ (c.recovery_keeps _).mono (by decide)), ?_, fun p hp => ?_, fun i hi => ?_⟩
  · exact (mapGet_mapSet_same _ _ _ _).trans (hkept.1.time (by decide))
  · have hobj : (s.beginReset z trigger).obj .B0601 p = a.obj .B0601 p := (hc.obj .B0601 p (by decide)).trans (hb.obj .B0601 p (by decide))
    rw [State.inService, hobj]
    exact State.portReset_foldl_inService _ _ p hp
  · have hiods : (s.beginReset z trigger).iod i = b.iod i := hc.1.iod (by decide) i
    have hheld : b = a.setIod i { a.iod i with held := true } := by
      unfold b
      rw [hi]
    rw [hiods, hheld, State.iod_setIod]

end Sys2Proof.Machine
end

section
/-!
The lease (R343 to R346, R391): what its end and its grant leave; and the end of a base-zone reset (R400).
-/

namespace Sys2Proof.Machine

/-! ### The end of a lease (R343, R345) -/

/-- An active unit that no longer holds the lease resyncs. -/
def State.standDown (s : State) (u : Nat) : State := if s.obj .W0000 u = cuActive then s.setObj .W0000 u cuResyncing else s

theorem State.standDown_keeps (s : State) (u : Nat) : Keeps [.objs] [.W0000] s (s.standDown u) := .ite (s.setObj_keeps _ _ _) (.refl _ _ _)

theorem State.standDown_of_active {s : State} {u : Nat} (h : s.obj .W0000 u = 0) : (s.standDown u).obj .W0000 u = 3 := by
  have hactive : s.obj .W0000 u = cuActive := h
  rw [State.standDown, if_pos hactive]
  exact State.obj_setObj _ _ _ _

/-- The keeper after a lease has ended, and what the comparator still held. -/
def State.leaseless (s : State) (u cause : Nat) : State :=
  { s.raise evLeaseChange noSubject [u, 2, s.keeper.epoch, cause] with
    keeper := { s.keeper with holder := none, overlap := none }, compare := { s.compare with holding := false, pending := [] } }

theorem State.endLease_eq {s : State} {u : Nat} (h : s.keeper.holder = some u) (cause : Nat) :
    s.endLease cause = ((s.leaseless u cause).standDown u).setObj .W0002 0 2 := by
  simp only [State.endLease, h]
  rfl

theorem State.leaseless_keeps (s : State) (u cause : Nat) : Keeps [.keeper, .compare, .log] [] s (s.leaseless u cause) := by
  have hlease (v : State) (x : Keeper) (y : Compare) : Keeps [.keeper, .compare, .log] [] v { v with keeper := x, compare := y } :=
    (Keeps.of_parts (l := [.keeper, .compare]) (by rw [unchangedBut_iff]; simp) (by decide)).mono (by decide)
  exact ((s.raise_keeps evLeaseChange noSubject [u, 2, s.keeper.epoch, cause]).mono (by decide)).trans (hlease _ _ _)

theorem State.endLease_spec {s : State} {u : Nat} (h : s.keeper.holder = some u) (cause : Nat) : let t := s.endLease cause
    t.keeper = { s.keeper with holder := none, overlap := none } ∧ t.obj .W0002 0 = 2 ∧ (s.obj .W0000 u = 0 → t.obj .W0000 u = 3) ∧
      t.log.events.head?.map (fun e => (e.code, e.data)) = some (evLeaseChange, [u, 2, s.keeper.epoch, cause]) ∧
      Keeps [.keeper, .compare, .objs, .log] [.W0000, .W0002] s t := by
  have hless : Keeps [.keeper, .compare, .objs, .log] [.W0000, .W0002] s (s.leaseless u cause) := (s.leaseless_keeps u cause).mono (by decide)
  have hdown : Keeps [.objs] [.W0000, .W0002] (s.leaseless u cause) (((s.leaseless u cause).standDown u).setObj .W0002 0 2) :=
    ((State.standDown_keeps _ _).mono (by decide)).trans ((State.setObj_keeps _ _ _ _).mono (by decide))
  rw [State.endLease_eq h]
  refine ⟨hdown.1 .keeper (by decide), State.obj_setObj _ _ _ _, fun hu => ?_, ?_, hless.trans (hdown.mono (by decide))⟩
  · rw [State.obj_setObj_ne _ _ (.inl (by decide))]
    exact State.standDown_of_active hu
  · have hlog : (((s.leaseless u cause).standDown u).setObj .W0002 0 2).log = (s.leaseless u cause).log := hdown.1 .log (by decide)
    rw [hlog]
    exact congrArg (fun l => l.head?.map (fun e : Event => (e.code, e.data))) (s.raise_events evLeaseChange noSubject [u, 2, s.keeper.epoch, cause]).1

/-! ### The grant of a lease (R343, R391) -/

/-- What a grant leaves at the keeper, at its unit and in the ledger. -/
def Granted (s t : State) (u : Nat) : Prop :=
  t.keeper.holder = some u ∧ t.keeper.epoch = (s.keeper.epoch + 1) % 2 ^ 32 ∧ t.keeper.expiry = s.time + 8000000 ∧ t.keeper.lastGrant = s.time ∧
    (t.unit u).localExpiry = s.time + 7500000 ∧ t.obj .W0000 u = 0 ∧ t.obj .W0001 0 = (s.keeper.epoch + 1) % 2 ^ 32 ∧ t.obj .W0002 0 = u ∧ u ∉ t.keeper.requests

/-- The keeper, the unit and the ledger once a grant is made, before it is told. -/
def State.leased (s : State) (u : Nat) : State :=
  let e := (s.keeper.epoch + 1) % 2 ^ 32
  let v : State := { s with keeper := { s.keeper with
    epoch := e, holder := some u, expiry := s.time + 8000000, lastGrant := s.time, granted := true
    requests := s.keeper.requests.filter (fun v => v != u), firstRequest := none } }
  (((v.setUnit u { v.unit u with localExpiry := s.time + 7500000, renewSent := none }).setObj .W0000 u cuActive).setObj .W0001 0 e).setObj .W0002 0 u

theorem State.leased_granted (s : State) (u : Nat) : Granted s (s.leased u) u := by
  refine ⟨rfl, rfl, rfl, rfl, congrArg CtrlUnit.localExpiry (mapGet_mapSet_same _ _ _ _), ?_, ?_, State.obj_setObj _ _ _ _, ?_⟩
  · exact (State.obj_setObj_ne _ _ (.inl (by decide))).trans ((State.obj_setObj_ne _ _ (.inl (by decide))).trans (State.obj_setObj _ _ _ _))
  · exact (State.obj_setObj_ne _ _ (.inl (by decide))).trans (State.obj_setObj _ _ _ _)
  · intro h
    have hne := (List.mem_filter.mp h).2
    simp at hne

theorem State.leased_unit (s : State) (u v : Nat) : (s.leased u).unit v =
    if v = u then { s.unit u with localExpiry := s.time + 7500000, renewSent := none } else s.unit v := mapGet_mapSet _ _ _ _ _

theorem State.keeper_keeps (s : State) (x : Keeper) : Keeps [.keeper] [] s { s with keeper := x } := .of_parts (by rw [unchangedBut_iff]; simp) (by decide)

/-- What a grant changes where it is made. -/
def leasedObjs : List Obj := [.W0000, .W0001, .W0002]

theorem State.leased_keeps (s : State) (u : Nat) : Keeps [.keeper, .units, .objs] leasedObjs s (s.leased u) :=
  ((((s.keeper_keeps _).mono (by decide)).trans ((State.setUnit_keeps _ _ _).mono (by decide))).trans ((State.setObj_keeps _ _ _ _).mono (by decide))).trans
    (((State.setObj_keeps _ _ _ _).mono (by decide)).trans ((State.setObj_keeps _ _ _ _).mono (by decide)))

/-- A grant is told in the log and over the epoch line. -/
def State.leaseTold (s : State) (u : Nat) : State :=
  let e := (s.keeper.epoch + 1) % 2 ^ 32
  ((s.leased u).raise evLeaseChange noSubject [s.keeper.holder.getD 2, u, e, 3]).islandNotice 3 [e]

theorem State.leaseTold_keeps (s : State) (u : Nat) : Keeps mailParts [.D0A08] (s.leased u) (s.leaseTold u) :=
  ((State.raise_keeps _ _ _ _).mono (by decide)).trans ((State.islandNotice_keeps _ _ _).mono (by decide))

/-- The resets that waited for a switch-over. -/
def State.takeWaiting (s : State) : State := { s with recovery := { s.recovery with resetWait := [] } }

theorem State.grantLease_eq (s : State) (u : Nat) :
    s.grantLease u = (s.leaseTold u).recovery.resetWait.foldl (fun s e => s.beginReset e.1 e.2) (s.leaseTold u).takeWaiting := rfl

/-- What a grant may change, by itself and with the resets that waited for it. -/
def toldParts : List Part := .keeper :: .units :: .recovery :: mailParts
def toldObjs : List Obj := .D0A08 :: leasedObjs
def grantParts : List Part := .keeper :: .units :: mailParts ++ resetParts
def grantObjs : List Obj := .D0A08 :: leasedObjs ++ resetObjs

theorem resetParts_sub_grantParts : ∀ p ∈ resetParts, p ∈ grantParts := by decide +kernel

theorem resetObjs_sub_grantObjs : ∀ o ∈ resetObjs, o ∈ grantObjs := by decide +kernel

theorem toldParts_sub_grantParts : ∀ p ∈ toldParts, p ∈ grantParts := by decide +kernel

theorem toldObjs_sub_grantObjs : ∀ o ∈ toldObjs, o ∈ grantObjs := by decide +kernel

theorem State.beginReset_keeps (s : State) (z trigger : Nat) : Keeps resetParts resetObjs s (s.beginReset z trigger) := by
  obtain ⟨hkeeps, -⟩ := s.beginReset_spec z trigger
  exact hkeeps

theorem State.takeWaiting_keeps (s : State) (u : Nat) : Keeps toldParts toldObjs s (s.leaseTold u).takeWaiting :=
  (((s.leased_keeps u).mono (by decide)).trans ((s.leaseTold_keeps u).mono (by decide))).trans ((State.recovery_keeps _ _).mono (by decide))

theorem State.grantLease_keeps (s : State) (u : Nat) : Keeps grantParts grantObjs s (s.grantLease u) := by
  have hresets (l : List (Nat × Nat)) (v : State) : Keeps resetParts resetObjs v (l.foldl (fun s e => s.beginReset e.1 e.2) v) := by
    refine .foldl (fun s e => ?_) l v
    exact s.beginReset_keeps e.1 e.2
  rw [State.grantLease_eq]
  exact ((s.takeWaiting_keeps u).mono ⟨toldParts_sub_grantParts, toldObjs_sub_grantObjs⟩).trans
    ((hresets _ _).mono ⟨resetParts_sub_grantParts, resetObjs_sub_grantObjs⟩)

/-- With no reset waiting, a grant changes what it tells and the lease. -/
theorem State.grantLease_of_wait_nil {s : State} (h : s.recovery.resetWait = []) (u : Nat) :
    Granted s (s.grantLease u) u ∧ Keeps toldParts toldObjs s (s.grantLease u) ∧
      (∀ v, v ≠ u → (s.grantLease u).unit v = s.unit v) ∧ ((s.grantLease u).unit u).runsB = (s.unit u).runsB ∧
      ∀ v, v ≠ u → (s.grantLease u).obj .W0000 v = s.obj .W0000 v := by
  have htold := s.leaseTold_keeps u
  have hwait : (s.leaseTold u).recovery.resetWait = [] := by
    rw [htold.1 .recovery (by decide), (s.leased_keeps u).1 .recovery (by decide), h]
  have heq : s.grantLease u = (s.leaseTold u).takeWaiting := by rw [State.grantLease_eq, hwait]; rfl
  have hgrant : Keeps (.recovery :: mailParts) [.D0A08] (s.leased u) (s.grantLease u) :=
    heq ▸ (htold.mono (by decide)).trans ((State.recovery_keeps _ _).mono (by decide))
  have hkeeper : (s.grantLease u).keeper = (s.leased u).keeper := hgrant.1 .keeper (by decide)
  have hunit (v : Nat) : (s.grantLease u).unit v = (s.leased u).unit v := by
    rw [State.unit, State.unit, hgrant.1 .units (by decide)]
  obtain ⟨hholder, hepoch, hexpiry, hlast, hlocal, hrole, hshown, hactive, hrequests⟩ := s.leased_granted u
  refine ⟨⟨?_, ?_, ?_, ?_, ?_, ?_, ?_, ?_, ?_⟩, ((s.leased_keeps u).mono (by decide)).trans (hgrant.mono (by decide)), fun v hv => ?_, ?_, fun v hv => ?_⟩
  · rw [hkeeper, hholder]
  · rw [hkeeper, hepoch]
  · rw [hkeeper, hexpiry]
  · rw [hkeeper, hlast]
  · rw [hunit, hlocal]
  · rw [hgrant.obj _ _ (by decide), hrole]
  · rw [hgrant.obj _ _ (by decide), hshown]
  · rw [hgrant.obj _ _ (by decide), hactive]
  · rw [hkeeper]
    exact hrequests
  · rw [hunit, State.leased_unit, if_neg hv]
  · rw [hunit, State.leased_unit, if_pos rfl]
  · rw [hgrant.obj _ _ (by decide)]
    exact (State.obj_setObj_ne _ _ (.inl (by decide))).trans ((State.obj_setObj_ne _ _ (.inl (by decide))).trans (State.obj_setObj_ne _ _ (.inr hv)))

/-! ### Inputs kept for the next holder -/

theorem State.takeUpAll_of_kept_nil {s : State} (h : s.kept = []) : s.takeUpAll = s := by
  cases s
  subst h
  rfl

theorem Granted.takeUpAll {s : State} (hkept : s.kept = []) (hwait : s.recovery.resetWait = []) (u : Nat) : Granted s (s.grantLease u).takeUpAll u := by
  have h : (s.grantLease u).kept = [] := ((State.grantLease_keeps s u).1 .kept (by decide)).trans hkept
  rw [State.takeUpAll_of_kept_nil h]
  exact (State.grantLease_of_wait_nil hwait u).1

/-! ### The end of a base-zone reset (R400) -/

/-- A field's queue, its reads and its merge tickets are empty. -/
def State.FieldClear (s : State) (f : Nat) : Prop :=
  (s.field f).writeQ = [] ∧ (s.field f).reads = [] ∧ (s.station (2 * f)).tickets = [] ∧ (s.station (2 * f + 1)).tickets = []

/-- The stations of a field's two ports hold nothing. -/
def State.emptyStations (s : State) (f : Nat) : State :=
  (s.setStation (2 * f) { opens := [], tickets := [] }).setStation (2 * f + 1) { opens := [], tickets := [] }

theorem State.emptyStations_station (s : State) (f p : Nat) :
    (s.emptyStations f).station p = if p = 2 * f ∨ p = 2 * f + 1 then { opens := [], tickets := [] } else s.station p := by
  by_cases h1 : p = 2 * f + 1
  · rw [if_pos (.inr h1), h1]
    exact State.station_setStation _ _ _
  · rw [State.emptyStations, State.station_setStation_ne _ _ h1]
    by_cases h0 : p = 2 * f
    · rw [if_pos (.inl h0), h0]
      exact State.station_setStation _ _ _
    · rw [if_neg (by omega), State.station_setStation_ne _ _ h0]

/-- What the write queue, the reads and the tickets of a field that resets leave behind. -/
def drainedParts : List Part := [.mem, .poison, .cols, .movers, .out, .tiles]

theorem State.resetField_eq (s : State) (f : Nat) : ∃ (u : State) (x : Field), Keeps drainedParts [] s u ∧ x.writeQ = [] ∧ x.reads = [] ∧
    s.resetField f = (u.setField f x).emptyStations f := by
  have hqueue (l : List Slot) (u : State) : Keeps drainedParts [] u (l.foldl (fun s x => s.vaultWrite x.dst x.ttile x.taddr x.payload) u) :=
    .foldl (fun s _ => (Keeps.of_parts (s.vaultWrite_unchanged _ _ _ _) (by decide)).mono (by decide)) l u
  have hreads (l : List ReadJob) (u : State) : Keeps drainedParts [] u (l.foldl (fun s j =>
      (s.answerRead j.record.rport j.record.rid .pathReset []).send (.remoteAnswer j.record.rport j.record.rtile j.record.rid .pathReset [])) u) :=
    .foldl (fun s _ => ((Keeps.of_parts (s.answerRead_unchanged _ _ _ _) (by decide)).mono (by decide)).trans ((State.send_keeps _ _).mono (by decide))) l u
  have htickets (u : State) : Keeps drainedParts [] u ([2 * f, 2 * f + 1].foldl (fun s p =>
      (s.station p).openTickets.foldl (fun s t => s.mergeDone p t.tile t.tag t.ticket .pathReset) s) u) :=
    .foldl (fun s p => .foldl (fun s (t : Ticket) => (Keeps.of_parts (s.mergeDone_unchanged p t.tile t.tag t.ticket .pathReset) (by decide)).mono (by decide)) _ s) _ u
  have hclear (u : State) : Keeps drainedParts [] u (u.clearRange (cacheAddr f 0) (cacheAddr (f + 1) 0)) :=
    (Keeps.of_parts (l := [.mem, .poison]) (by rw [unchangedBut_iff]; simp [State.clearRange]) (by decide)).mono (by decide)
  have hall := ((hqueue (s.field f).writeQ s).trans (hreads (s.field f).reads _)).trans (htickets _)
  unfold State.resetField
  dsimp only
  split
  · exact ⟨_, { s.field f with writeQ := [], reads := [] }, hall, rfl, rfl, rfl⟩
  · exact ⟨_, { writeQ := [], reads := [], lines := [], epoch := 0, scrubAt := 0 }, hall.trans (hclear _), rfl, rfl, rfl⟩

theorem State.emptyStations_keeps (s : State) (f : Nat) : Keeps [.stations] [] s (s.emptyStations f) :=
  .of_parts (by rw [unchangedBut_iff]; simp [State.emptyStations]) (by decide)

theorem State.resetField_keeps (s : State) (f : Nat) : Keeps (.fields :: .stations :: drainedParts) [] s (s.resetField f) := by
  obtain ⟨u, x, hu, -, -, heq⟩ := s.resetField_eq f
  rw [heq]
  exact ((hu.mono (by decide)).trans ((Keeps.of_parts (u.setField_unchanged f x) (by decide)).mono (by decide))).trans
    ((State.emptyStations_keeps _ _).mono (by decide))

theorem State.resetField_clear (s : State) (f : Nat) : (s.resetField f).FieldClear f := by
  obtain ⟨u, x, -, hwrites, hreads, heq⟩ := s.resetField_eq f
  have hfield : (s.resetField f).field f = x := by
    rw [heq, (State.emptyStations_keeps _ _).1.field (by decide), State.field_setField]
  refine ⟨hfield ▸ hwrites, hfield ▸ hreads, ?_, ?_⟩
  · rw [heq, State.emptyStations_station, if_pos (.inl rfl)]
  · rw [heq, State.emptyStations_station, if_pos (.inr rfl)]

/-- A field that is empty stays so when another resets. -/
theorem State.resetField_keepsClear (s : State) (f g : Nat) (h : s.FieldClear g) : (s.resetField f).FieldClear g := by
  by_cases hg : g = f
  · rw [hg]
    exact s.resetField_clear f
  · obtain ⟨u, x, hu, -, -, heq⟩ := s.resetField_eq f
    obtain ⟨hwrites, hreads, heven, hodd⟩ := h
    have hfield : (s.resetField f).field g = s.field g := by
      rw [heq, (State.emptyStations_keeps _ _).1.field (by decide), State.field_setField_ne _ _ hg, hu.1.field (by decide)]
    have hstation (p : Nat) (hp : ¬(p = 2 * f ∨ p = 2 * f + 1)) : (s.resetField f).station p = s.station p := by
      rw [heq, State.emptyStations_station, if_neg hp, (State.setField_unchanged _ _ _).station (by decide), hu.1.station (by decide)]
    refine ⟨hfield ▸ hwrites, hfield ▸ hreads, ?_, ?_⟩
    · rw [hstation _ (by omega), heven]
    · rw [hstation _ (by omega), hodd]

theorem fst_ne_of_mem_mapDel {κ α : Type} [DecidableEq κ] {m : AMap κ α} {k : κ} {e : κ × α} (h : e ∈ mapDel m k) : e.1 ≠ k := by
  induction m with
  | nil => exact absurd h List.not_mem_nil
  | cons p r ih =>
    rw [mapDel] at h
    split at h
    · exact ih h
    · next hp =>
      rcases List.mem_cons.mp h with rfl | h
      · exact hp
      · exact ih h

theorem exec_zoneResetDrainDone {s : State} {z : Nat} (h : ∃ u : Nat, (z, u) ∈ s.recovery.resets) :
    ∃ t : State, exec (.zoneResetDrainDone z) s = .next t ∧ (∀ e ∈ t.recovery.resets, e.1 ≠ z) ∧ ∀ f ∈ zoneFields z, t.FieldClear f := by
  obtain ⟨n, hn⟩ := h
  have hruns : s.recovery.resets.any (fun e => e.1 == z) = true := List.any_eq_true.mpr ⟨_, hn, beq_self_eq_true z⟩
  let v : State := { s with recovery := { s.recovery with resets := mapDel s.recovery.resets z } }
  let u := (zoneFields z).foldl (fun s f => s.resetField f) v
  have hfields : Keeps (.fields :: .stations :: drainedParts) [] v u := .foldl (fun s f => s.resetField_keeps f) _ v
  have hend : unchangedBut [.cmds] u (u.endCmdOf .K0E04 z .ok) := u.endCmdOf_unchanged _ _ _
  refine ⟨u.endCmdOf .K0E04 z .ok, congrArg Host.Outcome.next (if_neg (by simp [hruns])), fun e he => ?_, fun f hf => ?_⟩
  · have hrecovery : (u.endCmdOf .K0E04 z .ok).recovery = v.recovery := (hend .recovery (by decide)).trans (hfields.1 .recovery (by decide))
    rw [hrecovery] at he
    exact fst_ne_of_mem_mapDel he
  · have hclear : u.FieldClear f := foldl_establishes (P := State.FieldClear) State.resetField_clear State.resetField_keepsClear _ v f hf
    simpa only [State.FieldClear, hend.field (by decide), hend.station (by decide)] using hclear

end Sys2Proof.Machine
end

section
/-!
The lease: its commands, the base-zone resets that they begin, and the obligation.
-/

namespace Sys2Proof.Machine

theorem exec_leaseRenew {s : State} {u : Nat} (hholder : s.keeper.holder = some u) (hactive : s.obj .W0000 u = 0)
    (hdue : ∀ r, (s.unit u).renewSent = some r → r + 1900000 ≤ s.time) (hhealthy : ∀ p, p < 4 → s.procHealthy u p = true) :
    exec (.leaseRenew u) s = .next (s.setUnit u { s.unit u with renewSent := some s.time }) := by
  have hactive' : s.obj .W0000 u = cuActive := hactive
  have hprocs : (List.range 4).all (fun p => s.procHealthy u p) = true := by
    rw [List.all_eq_true]
    exact fun p hp => hhealthy p (List.mem_range.mp hp)
  have hsent : (match (s.unit u).renewSent with
      | some t => decide (t + 1900000 ≤ s.time)
      | none => true) = true := by
    split
    · next r hr => exact decide_eq_true (hdue r hr)
    · rfl
  exact congrArg Host.Outcome.next (if_pos ⟨hholder, hactive', hsent, hprocs⟩)

theorem exec_renewReceive {s : State} {u r : Nat} (hholder : s.keeper.holder = some u) (hsent : (s.unit u).renewSent = some r)
    (hsoon : s.time ≤ r + 10000) : exec (.renewReceive u) s =
      .next (({ s with keeper := { s.keeper with expiry := s.time + 8000000 } } : State).setUnit u { s.unit u with localExpiry := r + 7500000 }) := by
  refine congrArg Host.Outcome.next ?_
  simp only [hsent, hholder, hsoon, and_self, if_true]

theorem exec_leaseGrant {s : State} {u : Nat} (hkept : s.kept = []) (hwait : s.recovery.resetWait = []) (hnone : s.keeper.holder = none)
    (hlast : s.keeper.granted = true → s.keeper.lastGrant + 100000 ≤ s.time) (hstandby : s.standby = some u) :
    ∃ t : State, exec .leaseGrant s = .next t ∧ Granted s t u := by
  have hgoes : ¬(s.keeper.holder.isSome = true ∨ s.keeper.granted = true ∧ s.time < s.keeper.lastGrant + 100000) := by
    rintro (h | ⟨h, hsoon⟩)
    · rw [hnone] at h
      exact absurd h (by decide)
    · exact absurd (hlast h) (Nat.not_le.mpr hsoon)
  have hgrant : s.leaseGrant = s.grantLease u := by
    simp only [State.leaseGrant, if_neg hgoes, hstandby]
  exact ⟨_, congrArg (fun v : State => Host.Outcome.next v.takeUpAll) hgrant, Granted.takeUpAll hkept hwait u⟩

theorem exec_firstLeaseTimeout {s : State} {u r : Nat} (hkept : s.kept = []) (hwait : s.recovery.resetWait = []) (hnone : s.keeper.holder = none)
    (hfirst : s.firstChoice = some u) (hrequest : s.keeper.firstRequest = some r) (hlate : r + 1000000000 ≤ s.time) :
    ∃ t : State, exec .firstLeaseTimeout s = .next t ∧ Granted s t u := by
  have hgrant : s.firstLease = s.grantLease u := by
    simp only [State.firstLease, hfirst, hrequest, hnone, Option.isNone_none, hlate, and_self, if_true]
  exact ⟨_, congrArg (fun v : State => Host.Outcome.next v.takeUpAll) hgrant, Granted.takeUpAll hkept hwait u⟩

theorem exec_leaseRelease {s : State} {u : Nat} (hholder : s.keeper.holder = some u) (cause : Nat) :
    exec (.leaseRelease u cause) s = .next s.releaseLease := congrArg Host.Outcome.next (if_pos hholder)

theorem State.releaseLease_of_standby {s : State} {u v : Nat} (hholder : s.keeper.holder = some u) (hstandby : s.standby = some v)
    (hmode : s.obj .W0003 0 ≠ 1) : s.releaseLease = s.endLease 1 := by
  simp only [State.releaseLease, hholder, hstandby, if_neg hmode]

theorem State.releaseLease_of_standby_none {s : State} {u : Nat} (hholder : s.keeper.holder = some u) (hstandby : s.standby = none) :
    s.releaseLease = s := by
  simp only [State.releaseLease, hholder, hstandby]

/-- What makes the keeper revoke a unit's lease (R345). -/
def State.revokes (s : State) (u cause : Nat) : Prop :=
  (cause = 0 ∧ s.obj .W0000 u = 4) ∨ (cause = 1 ∧ (s.iod (if u = 0 then 0 else 3)).powered = false) ∨
    (cause = 2 ∧ s.zoneOn (zoneOfIod (if u = 0 then 0 else 3)) = false)

theorem exec_leaseRevoke {s : State} {u cause : Nat} (hholder : s.keeper.holder = some u) (h : s.revokes u cause) :
    exec (.leaseRevoke cause) s = .next (s.endLease 2) := by
  refine congrArg Host.Outcome.next ?_
  rcases h with ⟨rfl, hcause⟩ | ⟨rfl, hcause⟩ | ⟨rfl, hcause⟩
  · have hdemoted : (s.obj .W0000 u == cuDemoted) = true := by rw [hcause]; rfl
    simp only [hholder, if_true, hdemoted]
  · simp [hholder, hcause]
  · simp [hholder, hcause]

theorem exec_overlapExpiry {s : State} {n : Nat} (hoverlap : s.keeper.overlap = some n) (hpast : n ≤ s.time) :
    exec .overlapExpiry s = .next { s with keeper := { s.keeper with overlap := none }, compare := { s.compare with seen := [] } } := by
  refine congrArg Host.Outcome.next ?_
  simp only [hoverlap, if_pos hpast]

/-- A reset begins at once where no switch-over is called for: no unit stands by, nobody holds the lease, or the zone has no I/O die. -/
theorem exec_baseZoneReset {s : State} {z : Nat} (hz : z < 14) (hon : s.zoneOn z = true) (hnew : ∀ e ∈ s.recovery.resets, e.1 ≠ z)
    (hfree : s.standby = none ∨ s.keeper.holder = none ∨ iodOfZone z = none) (trigger : Nat) :
    exec (.baseZoneReset z trigger) s = .next (s.beginReset z trigger) := by
  have hgoes : ¬(14 ≤ z ∨ (!s.zoneOn z) = true ∨ s.recovery.resets.any (fun e => e.1 == z) = true) := by
    rintro (h | h | h)
    · omega
    · rw [hon] at h
      exact absurd h (by decide)
    · obtain ⟨e, he, heq⟩ := List.any_eq_true.mp h
      exact hnew e he (beq_iff_eq.mp heq)
  refine congrArg Host.Outcome.next ?_
  unfold State.askReset
  dsimp only
  rw [if_neg hgoes]
  rcases hfree with h | h | h
  · rw [h, Option.isSome_none, Bool.and_false]
    rfl
  · rw [h]
    rfl
  · rw [h]
    cases s.keeper.holder <;> rfl

/-- Settles O48: each clause is the lemma of the command, of the lease's end, of its grant or of a reset. -/
theorem leaseCommandsComplete : Obligations.LeaseCommandsComplete := by
  unfold Obligations.LeaseCommandsComplete
  refine ⟨fun s u hholder hactive hdue hhealthy => ?renew, fun s u r hholder hsent hsoon => ?renewed, fun s u hholder hactive hlate => ?standDown,
    fun s u hholder hlate => ?expiry, fun s u hkept hwait hnone hlast hstandby => exec_leaseGrant hkept hwait hnone hlast hstandby,
    fun s u r hkept hwait hnone hfirst hrequest hlate => exec_firstLeaseTimeout hkept hwait hnone hfirst hrequest hlate,
    fun s u v cause hholder hstandby hmode => ?release, fun s u cause hholder hstandby => ?unreleased, fun s u cause hholder hcause => ?revoke,
    fun s u hoverlap hpast => exec_overlapExpiry hoverlap hpast, fun s z trigger hz hon hnew hfree => ?reset,
    fun s z _ hruns => exec_zoneResetDrainDone hruns⟩
  case renew =>
    exact ⟨_, exec_leaseRenew hholder hactive hdue hhealthy, mapGet_mapSet_same _ _ _ _, (s.setUnit_keeps _ _).1⟩
  case renewed =>
    refine ⟨_, exec_renewReceive hholder hsent hsoon, rfl, mapGet_mapSet_same _ _ _ _, ?_⟩
    rw [unchangedBut_iff]
    simp
  case standDown =>
    have hactive' : s.obj .W0000 u = cuActive := hactive
    obtain ⟨hparts, hobjs⟩ := s.setObj_keeps .W0000 u cuResyncing
    exact ⟨_, congrArg Host.Outcome.next (if_pos ⟨hholder, hactive', hlate⟩), State.obj_setObj _ _ _ _, rfl, hobjs, hparts⟩
  case expiry =>
    obtain ⟨hkeeper, hshown, -, hevent, hparts, hobjs⟩ := State.endLease_spec hholder 0
    have hheld : s.keeper.holder.isSome = true := by rw [hholder]; rfl
    exact ⟨_, congrArg Host.Outcome.next (if_pos ⟨hheld, hlate⟩), hkeeper ▸ rfl, hkeeper ▸ rfl, hshown, hevent, hobjs, hparts⟩
  case release =>
    obtain ⟨hkeeper, -, hrole, -, hparts, hobjs⟩ := State.endLease_spec hholder 1
    exact ⟨_, (exec_leaseRelease hholder cause).trans (congrArg Host.Outcome.next (State.releaseLease_of_standby hholder hstandby hmode)),
      hkeeper ▸ rfl, hkeeper ▸ rfl, hrole, hobjs, hparts⟩
  case unreleased =>
    exact (exec_leaseRelease hholder cause).trans (congrArg Host.Outcome.next (State.releaseLease_of_standby_none hholder hstandby))
  case revoke =>
    obtain ⟨hkeeper, hshown, -, -, hparts, -⟩ := State.endLease_spec hholder 2
    exact ⟨_, exec_leaseRevoke hholder hcause, hkeeper ▸ rfl, hkeeper ▸ rfl, hshown, hparts⟩
  case reset =>
    obtain ⟨-, hbegun, hports, hheld⟩ := s.beginReset_spec z trigger
    exact ⟨_, exec_baseZoneReset hz hon hnew hfree trigger, hbegun, hports, hheld⟩

end Sys2Proof.Machine
end

section
/-!
The control units (R344 to R360): what their operations leave of the units, of the comparator and of the ledger.
-/

namespace Sys2Proof.Machine

theorem unchangedBut.unit {l : List Part} {s t : State} (h : unchangedBut l s t) (hl : Part.units ∉ l) (u : Nat) : t.unit u = s.unit u := by
  have e : t.units = s.units := h .units hl
  simp only [State.unit, e]

theorem State.compare_keeps (s : State) (x : Compare) : Keeps [.compare] [] s { s with compare := x } := .of_parts (by rw [unchangedBut_iff]; simp) (by decide)

/-! ### The log of a unit's firmware (R360) -/

/-- The records that a unit's ring takes: those of its processors that run, at the level of W.0011 or above. -/
def State.logTaken (s : State) (u : Nat) (logs : List FwMsg) : List FwMsg :=
  logs.filter (fun m => decide (m.proc < 4) &&
    (mapGet { crashes := [], restarting := none } (s.unit u).procs m.proc).restarting.isNone && decide (m.level ≤ s.obj .W0011 0))

/-- The messages of a unit's ring. -/
def State.ringMsgs (s : State) (u : Nat) : List FwMsg := (s.unit u).ring.map (fun r => r.msg)

/-- The ring of a unit after its firmware has logged. -/
def Logged (s t : State) (u : Nat) (logs : List FwMsg) : Prop :=
  t.ringMsgs u = if s.unitRuns u = true then ((s.logTaken u logs).reverse ++ s.ringMsgs u).take 4096 else s.ringMsgs u

/-- What is logged rests on what the unit runs, on its role and on the level of the log. -/
theorem Logged.of_alike {s v t : State} {u : Nat} {logs : List FwMsg} (h : Logged v t u logs) (hprocs : (v.unit u).procs = (s.unit u).procs)
    (hring : (v.unit u).ring = (s.unit u).ring) (hruns : (v.unit u).running = (s.unit u).running) (hrole : v.obj .W0000 u = s.obj .W0000 u)
    (hlevel : v.obj .W0011 0 = s.obj .W0011 0) : Logged s t u logs := by
  have hunit : v.unitRuns u = s.unitRuns u := by rw [State.unitRuns, State.unitRuns, hruns, hrole]
  have htaken : v.logTaken u logs = s.logTaken u logs := by rw [State.logTaken, State.logTaken, hprocs, hlevel]
  have hmsgs : v.ringMsgs u = s.ringMsgs u := by rw [State.ringMsgs, State.ringMsgs, hring]
  rw [Logged, hunit, htaken, hmsgs] at h
  exact h

theorem map_snd_zipIdx {α β γ : Type} (f : α × Nat → β) (g : β → γ) (h : α → γ) (hf : ∀ e, g (f e) = h e.1) (l : List α) :
    (l.zipIdx.map f).map g = l.map h := by
  rw [List.map_map, ← List.zipIdx_map_fst 0 l, List.map_map]
  simp only [List.zipIdx_map_fst]
  exact List.map_congr_left fun e _ => hf e

/-- A unit's firmware changes nothing but its ring and the ring's index. -/
theorem State.fwLog_spec (s : State) (u : Nat) (logs : List FwMsg) (hring : (s.unit u).ring.length ≤ 4096) : let t := s.fwLog u logs
    Logged s t u logs ∧ (∃ l n, t.unit u = { s.unit u with ring := l, ringNext := n }) ∧ Keeps [.units] [] s t := by
  have hlength : (s.ringMsgs u).length ≤ 4096 := by rwa [State.ringMsgs, List.length_map]
  by_cases h : (!s.unitRuns u) = true ∨ s.logTaken u logs = []
  · have hlog : s.fwLog u logs = s := if_pos h
    simp only [hlog]
    refine ⟨?_, ⟨_, _, rfl⟩, .refl _ _ _⟩
    rcases h with h | h
    · rw [Logged, if_neg (by simpa using h)]
    · rw [Logged, h, List.reverse_nil, List.nil_append, List.take_of_length_le hlength, ite_self]
  · obtain ⟨hruns, -⟩ := not_or.mp h
    have hruns' : s.unitRuns u = true := by simpa using hruns
    let recs := (s.logTaken u logs).zipIdx.map (fun e => { index := ((s.unit u).ringNext + e.2) % 2 ^ 32, time := s.time, msg := e.1 : FwRec })
    let c := { s.unit u with
      ring := (recs.reverse ++ (s.unit u).ring).take 4096, ringNext := ((s.unit u).ringNext + (s.logTaken u logs).length) % 2 ^ 32 }
    have hlog : s.fwLog u logs = s.setUnit u c := if_neg h
    have hmsgs : recs.map (fun r => r.msg) = s.logTaken u logs :=
      (map_snd_zipIdx _ (fun r : FwRec => r.msg) id (fun _ => rfl) _).trans (List.map_id _)
    simp only [hlog]
    refine ⟨?_, ⟨_, _, State.unit_setUnit _ _ _⟩, s.setUnit_keeps _ _⟩
    rw [Logged, if_pos hruns', State.ringMsgs, State.unit_setUnit, ← hmsgs, State.ringMsgs]
    simp only [c, List.map_take, List.map_append, List.map_reverse]

/-! ### Outputs (R344, R347) -/

theorem State.fence_spec (s : State) (epoch receiver : Nat) : let t := s.fence epoch receiver
    Keeps [.objs, .log, .compare] [.W000F] s t ∧ t.obj .W000F 0 = s.obj .W000F 0 + 1 ∧ t.compare.pending = s.compare.pending ∧
      t.compare.passed = s.compare.passed := by
  have hbump := s.bump_keeps .W000F 0 1
  have hcount := s.obj_bump .W000F 0 1
  simp only [State.fence]
  split
  · exact ⟨((hbump.mono (by decide)).trans ((State.compare_keeps _ _).mono (by decide))).trans ((State.raise_keeps _ _ _ _).mono (by decide)), hcount, rfl, rfl⟩
  · exact ⟨hbump.mono (by decide), hcount, rfl, rfl⟩

theorem State.takeOutput_of_fenced {s : State} {epoch : Nat} (h : s.epochCurrent epoch = false) (u receiver kind content : Nat) :
    s.takeOutput u epoch receiver kind content = s.fence epoch receiver := if_pos (by rw [h]; rfl)

/-- The holder's output, while the other unit shadows, goes to the comparator and waits there if it must. -/
theorem State.takeOutput_of_holder {s : State} {u epoch kind : Nat} (hepoch : s.epochCurrent epoch = true) (hholding : s.compare.holding = false)
    (hoverlap : s.keeper.overlap = none) (hholder : s.keeper.holder = some u) (hkind : kind ≤ 5) (hshadow : s.shadowed = true)
    (hjudged : s.notJudged kind = false) (receiver content : Nat) :
    s.takeOutput u epoch receiver kind content = { s.compareWord u receiver kind content with
      compare := { s.compare with pending := s.compare.pending ++
        (if waitsForCompare kind then [{ seq := (s.unit u).outSeq, receiver := receiver, kind := kind, content := content }] else []) } } := by
  have hpath : onDispatchPath kind = true := decide_eq_true hkind
  have hahead : s.aheadOf u = false := by
    rw [State.aheadOf, hholder, bne_self_eq_false, Bool.false_and]
  have hword : (s.compareWord u receiver kind content).keeper.holder = some u := hholder
  rw [State.takeOutput, if_neg (by simp [hepoch]), if_neg (by simp [hholding]), if_neg (by simp [hoverlap]), if_neg (by simp [hpath, hshadow]),
    if_neg (by simp [hjudged]), if_neg (by simp [hahead])]
  dsimp only
  by_cases hwaits : waitsForCompare kind = true
  · rw [if_pos ⟨hword, hwaits⟩, if_pos hwaits]
    rfl
  · rw [if_neg (fun h => hwaits h.2), if_neg hwaits, List.append_nil]
    rfl

/-! ### The comparator (R348) -/

/-- The units without the words of some sequence numbers. -/
def State.dropWords (s : State) (seqs : List Nat) : State :=
  [0, 1].foldl (fun s u => s.setUnit u { s.unit u with words := (s.unit u).words.filter (fun w => !seqs.contains w.1) }) s

theorem State.dropWords_keeps (s : State) (seqs : List Nat) : Keeps [.units] [] s (s.dropWords seqs) := .foldl (fun s _ => s.setUnit_keeps _ _) _ s

/-- Mismatches are counted and told. -/
def State.tellMismatches (s : State) (window : Nat) (bad : List Nat) : State :=
  bad.foldl (fun s q => (s.bump .W000E 0 1).raise evCompareMismatch noSubject [q, window]) s

theorem State.tellMismatches_spec (s : State) (window : Nat) (bad : List Nat) :
    Keeps [.objs, .log] [.W000E] s (s.tellMismatches window bad) ∧ (s.tellMismatches window bad).obj .W000E 0 = s.obj .W000E 0 + bad.length := by
  have hstep (s : State) (q : Nat) : Keeps [.objs, .log] [.W000E] s ((s.bump .W000E 0 1).raise evCompareMismatch noSubject [q, window]) :=
    ((s.bump_keeps _ _ _).mono (by decide)).trans ((State.raise_keeps _ _ _ _).mono (by decide))
  refine ⟨.foldl hstep bad s, ?_⟩
  induction bad generalizing s with
  | nil => rfl
  | cons q r ih =>
    have hone : ((s.bump .W000E 0 1).raise evCompareMismatch noSubject [q, window]).obj .W000E 0 = s.obj .W000E 0 + 1 := s.obj_bump .W000E 0 1
    rw [State.tellMismatches, List.foldl_cons]
    exact (ih _).trans (by rw [hone, List.length_cons]; omega)

/-- The sequence numbers of a window. -/
def State.windowSeqs (s : State) (k : Nat) : List Nat := ((s.windowWords 0 k) ++ (s.windowWords 1 k)).map (fun w => w.1)

/-- What the comparator makes of the words that it judges: it passes what agrees, and a mismatch holds both units' outputs. -/
def judgedCompare (c : Compare) (now : Nat) (seqs bad : List Nat) : Compare :=
  let passed (h : Held) : Bool := seqs.contains h.seq && !bad.contains h.seq
  { c with
    pending := c.pending.filter (fun h => !passed h), passed := c.passed ++ ((c.pending.filter passed).map (fun h => (h.kind, h.content)))
    holding := !bad.isEmpty, holdSince := if bad.isEmpty then c.holdSince else now }

def State.judgedWindow (s : State) (k : Nat) : Compare := judgedCompare s.compare s.time (s.windowSeqs k) (s.mismatches k)

theorem exec_compareWindowEnd {s : State} {k : Nat} (hpast : (k + 2) * 1000 ≤ s.time) (hholding : s.compare.holding = false) :
    ∃ t : State, exec (.compareWindowEnd k) s = .next t ∧ t.compare = s.judgedWindow k ∧
      Keeps [.units, .objs, .log, .compare] [.W000E] s t ∧ (s.mismatches k = [] → unchangedBut [.units, .compare] s t) ∧
      t.obj .W000E 0 = s.obj .W000E 0 + (s.mismatches k).length := by
  have hgoes : ¬(s.time < (k + 2) * 1000 ∨ s.compare.holding = true) := by
    rintro (h | h)
    · omega
    · rw [hholding] at h
      exact absurd h (by decide)
  let u := (s.dropWords (s.windowSeqs k)).tellMismatches k (s.mismatches k)
  have hwords := s.dropWords_keeps (s.windowSeqs k)
  obtain ⟨htold, hcount⟩ := (s.dropWords (s.windowSeqs k)).tellMismatches_spec k (s.mismatches k)
  have hcompare : u.compare = s.compare := (htold.1 .compare (by decide)).trans (hwords.1 .compare (by decide))
  have htime : u.time = s.time := (htold.1.time (by decide)).trans (hwords.1.time (by decide))
  have hjudged : judgedCompare u.compare u.time (s.windowSeqs k) (s.mismatches k) = s.judgedWindow k := by
    rw [hcompare, htime, State.judgedWindow]
  have hexec : exec (.compareWindowEnd k) s = .next { u with compare := s.judgedWindow k } :=
    hjudged ▸ congrArg Host.Outcome.next (if_neg hgoes)
  refine ⟨_, hexec, rfl, ?_, fun hnone => ?_, hcount.trans (by rw [hwords.obj _ _ (by decide)])⟩
  · exact ((hwords.mono (by decide)).trans (htold.mono (by decide))).trans ((u.compare_keeps _).mono (by decide))
  · have hu : u = s.dropWords (s.windowSeqs k) := by
      unfold u
      rw [hnone]
      rfl
    exact (hwords.1.mono (by decide)).trans (hu ▸ (u.compare_keeps (s.judgedWindow k)).1.mono (by decide))

/-! ### A unit restarts, and asks for the lease (R343, R349, R355) -/

theorem State.restartUnit_spec (s : State) (u : Nat) : let t := s.restartUnit u
    Keeps [.units, .objs, .keeper] [.W0000] s t ∧ t.obj .W0000 u = 2 ∧ (∀ v, v ≠ u → t.obj .W0000 v = s.obj .W0000 v) ∧
      t.unit u = { s.unit u with procs := [], renewSent := none, resyncFrom := none, words := [], running := none } ∧
      t.keeper = { s.keeper with requests := s.keeper.requests.filter (fun v => v != u) } := by
  refine ⟨?_, State.obj_setObj _ _ _ _, fun v hv => State.obj_setObj_ne _ _ (.inr hv), mapGet_mapSet_same _ _ _ _, rfl⟩
  exact (((s.setUnit_keeps _ _).mono (by decide)).trans ((State.setObj_keeps _ _ _ _).mono (by decide))).trans ((State.keeper_keeps _ _).mono (by decide))

theorem not_mem_filter_bne (l : List Nat) (u : Nat) : u ∉ l.filter (fun v => v != u) := by
  intro h
  simpa using (List.mem_filter.mp h).2

theorem State.requestLease_spec (s : State) (u : Nat) : let t := s.requestLease u
    Keeps [.keeper] [] s t ∧ u ∈ t.keeper.requests ∧ t.keeper.holder = s.keeper.holder ∧ t.keeper.epoch = s.keeper.epoch := by
  refine ⟨s.keeper_keeps _, ?_, rfl, rfl⟩
  have hrequests : (s.requestLease u).keeper.requests = if s.keeper.requests.contains u then s.keeper.requests else s.keeper.requests ++ [u] := rfl
  rw [hrequests]
  split
  · next h => exact List.contains_iff_mem.mp h
  · exact List.mem_append_right _ List.mem_cons_self

/-! ### A hand-over ends without its commit (R358) -/

theorem State.abortUpdate_of_idle {s : State} (h : s.obj .W000C 0 ≠ 3) (cause : Nat) : s.abortUpdate cause = s := if_pos h

theorem State.abortUpdate_spec {s : State} (h : s.obj .W000C 0 = 3) (cause : Nat) : let t := s.abortUpdate cause
    t.obj .W000C 0 = (if cause = 0 then 2 else 5) ∧ t.obj .W0000 s.update.newUnit = 2 ∧ t.update.startedAt = none ∧
      (t.unit s.update.newUnit).bootB = !(s.unit s.update.newUnit).bootB ∧
      t.log.events.head?.map (fun e => (e.code, e.data)) = some (evUpdateAborted, [cause]) := by
  have hgoes : ¬(s.obj .W000C 0 ≠ updHanding) := not_not.mpr h
  simp only [State.abortUpdate, if_neg hgoes]
  refine ⟨State.obj_setObj _ _ _ _, ?_, rfl, ?_, rfl⟩
  · exact (State.obj_setObj_ne _ _ (.inl (by decide))).trans (State.obj_setObj _ _ _ _)
  · exact congrArg CtrlUnit.bootB (mapGet_mapSet_same _ _ _ _)

end Sys2Proof.Machine
end

section
/-!
The control units: their commands, and the obligation.
-/

namespace Sys2Proof.Machine

/-! ### Self-checks (R349) -/

theorem State.selfCheck_keeps (s : State) (u : Nat) (r : Option Bool) : Keeps [.log] [] s (s.selfCheck u r) := by
  unfold State.selfCheck
  split
  · exact s.raise_keeps _ _ _
  · exact .refl _ _ _

/-- The holder goes on after a self-check that it passes: the hold is over and nothing waits any more. -/
def State.goneOn (s : State) (a b : Option Bool) : State :=
  let v := (s.selfCheck 0 a).selfCheck 1 b
  let w := [0, 1].foldl (fun s u => s.setUnit u { s.unit u with words := [] }) { v with compare := { v.compare with holding := false } }
  { w with compare := { w.compare with pending := [] } }

theorem State.goneOn_spec (s : State) (a b : Option Bool) :
    Keeps [.log, .compare, .units] [] s (s.goneOn a b) ∧ (s.goneOn a b).compare.holding = false ∧ (s.goneOn a b).compare.pending = [] := by
  have hchecks : Keeps [.log] [] s ((s.selfCheck 0 a).selfCheck 1 b) := (s.selfCheck_keeps _ _).trans (State.selfCheck_keeps _ _ _)
  have hwords (u : State) : Keeps [.units] [] u ([0, 1].foldl (fun s u => s.setUnit u { s.unit u with words := [] }) u) :=
    .foldl (fun s _ => s.setUnit_keeps _ _) _ u
  refine ⟨?_, rfl, rfl⟩
  exact (((hchecks.mono (by decide)).trans ((State.compare_keeps _ _).mono (by decide))).trans ((hwords _).mono (by decide))).trans
    ((State.compare_keeps _ _).mono (by decide))

theorem exec_selfCheckOutcome {s : State} (hholder : s.keeper.holder = some 0) (hholding : s.compare.holding = true) :
    exec (.selfCheckOutcome (some true) (some false)) s = .next ((s.goneOn (some true) (some false)).restartUnit 1).takeUpAll := by
  refine congrArg Host.Outcome.next ?_
  simp only [hholder, hholding]
  exact if_neg (by simp)

/-! ### Starts from ROM (R354) -/

theorem State.romFault_none {s : State} {i : FwImage} (hsecure : s.store.minSecurity ≤ i.security) (hsig : i.sigOk = true) (hhash : i.hashOk = true) :
    s.romFault true i = none := by
  simp [State.romFault, hsig, hhash, Nat.not_lt.mpr hsecure]

/-- A unit that the ROM starts runs an image, resyncs and asks for the lease, where no hand-over is under way. -/
theorem State.runImage_spec {s : State} (h : s.obj .W000C 0 ≠ 3) (u : Nat) (b : Bool) (i : FwImage) : let t := s.runImage u b i
    (t.unit u).running = some i ∧ (t.unit u).runsB = b ∧ t.obj .W0005 u = i.version ∧ t.obj .W0000 u = 3 ∧ u ∈ t.keeper.requests ∧
      Keeps [.units, .objs, .keeper] [.W0000, .W0005] s t := by
  let v := (s.setUnit u { s.unit u with running := some i, runsB := b, procs := [] }).setObj .W0005 u i.version
  have hidle : ¬(v.obj .W000C 0 = updHanding ∧ v.update.newUnit = u) := by
    rintro ⟨hupdate, -⟩
    exact h ((State.obj_setObj_ne _ _ (.inl (by decide))).symm.trans hupdate)
  have hrun : s.runImage u b i = (v.setObj .W0000 u cuResyncing).requestLease u := if_neg hidle
  obtain ⟨hkeeps, hrequest, -, -⟩ := (v.setObj .W0000 u cuResyncing).requestLease_spec u
  have hunit : ((v.setObj .W0000 u cuResyncing).requestLease u).unit u = { s.unit u with running := some i, runsB := b, procs := [] } :=
    (hkeeps.1.unit (by decide) u).trans (State.unit_setUnit s u _)
  simp only [hrun, hunit]
  refine ⟨trivial, trivial, ?_, ?_, hrequest, ?_⟩
  · rw [hkeeps.obj _ _ (by decide), State.obj_setObj_ne _ _ (.inl (by decide))]
    exact State.obj_setObj _ _ _ _
  · rw [hkeeps.obj _ _ (by decide)]
    exact State.obj_setObj _ _ _ _
  · exact (((s.setUnit_keeps _ _).mono (by decide)).trans ((State.setObj_keeps _ _ _ _).mono (by decide))).trans
      (((State.setObj_keeps _ _ _ _).mono (by decide)).trans (hkeeps.mono (by decide)))

theorem exec_unitRomStart_runs {s : State} {u : Nat} {i : FwImage} (olderOk otherOk : Bool) (hrole : s.obj .W0000 u = 2)
    (hstopped : (s.unit u).running = none) (hi : s.slotImage (2 * u + (if (s.unit u).bootB then 1 else 0)) = i)
    (hsound : s.romFault true i = none) :
    exec (.unitRomStart u true olderOk true otherOk true) s = .next (s.runImage u (s.unit u).bootB i) := by
  have hidle : (decide (s.obj .W0000 u ≠ cuRestarting) || (s.unit u).running.isSome) = false := by
    rw [hrole, hstopped]
    rfl
  refine congrArg Host.Outcome.next ?_
  simp only [if_true, hidle, Bool.true_or, Bool.false_eq_true, if_false, Bool.not_true, false_and, hi, hsound]

theorem exec_unitRomStart_fails {s : State} {u : Nat} (olderOk a b : Bool) (hrole : s.obj .W0000 u = 2) (hstopped : (s.unit u).running = none) :
    exec (.unitRomStart u true olderOk a b false) s = .next ((s.setObj .W0000 u cuDemoted).raise evCuDemoted noSubject [u, 0]) := by
  have hidle : (decide (s.obj .W0000 u ≠ cuRestarting) || (s.unit u).running.isSome) = false := by
    rw [hrole, hstopped]
    rfl
  refine congrArg Host.Outcome.next ?_
  simp only [if_true, hidle, Bool.true_or, Bool.false_eq_true, if_false, Bool.not_false]

/-! ### Crashes (R355) -/

/-- A processor of a unit crashed within the last 10 s. -/
def State.crashedLately (s : State) (u : Nat) : Bool :=
  (s.unit u).procs.any (fun e => e.2.crashes.any (fun r => decide (s.time < r + 10000000000)))

/-- A crash that has been told and counted. -/
def State.crashTold (s : State) (u p cause pc : Nat) : State :=
  (s.raise evProcCrash noSubject [u, p, cause, pc]).bump .W000D (4 * u + p) 1

/-- The processor that crashed restarts. -/
def State.restartProc (s : State) (u p : Nat) : State :=
  let c := s.unit u
  let q := mapGet { crashes := [], restarting := none } c.procs p
  s.setUnit u { c with procs := mapSet c.procs p { crashes := s.time :: q.crashes.filter (fun t => decide (s.time < t + 10000000000)), restarting := some s.time } }

theorem State.crashTold_keeps (s : State) (u p cause pc : Nat) : Keeps [.log, .objs] [.W000D] s (s.crashTold u p cause pc) :=
  ((s.raise_keeps _ _ _).mono (by decide)).trans ((State.bump_keeps _ _ _ _).mono (by decide))

/-- Where no hand-over is under way, a crash that is told restarts the processor, or at the second within 10 s the unit, once it has released its lease. -/
theorem State.crash_eq {s : State} {u p : Nat} (hruns : s.unitRuns u = true) (hp : p < 4) (hupdate : s.obj .W000C 0 ≠ 3) (cause pc : Nat) :
    let v := s.crashTold u p cause pc
    s.crash u p cause pc = if s.crashedLately u = true ∧ ((!(s.keeper.holder == some u)) = true ∨ v.standby.isSome = true) then
      (if (s.keeper.holder == some u) = true then v.releaseLease else v).restartUnit u else v.restartProc u p := by
  intro v
  have hv := s.crashTold_keeps u p cause pc
  have hgoes : ¬((!s.unitRuns u) = true ∨ 4 ≤ p) := by
    rw [hruns]
    rintro (h | h)
    · exact absurd h (by decide)
    · omega
  have habort : v.abortUpdate 1 = v := State.abortUpdate_of_idle (by rwa [hv.obj _ _ (by decide)]) 1
  have hstill : v.unitRuns u = s.unitRuns u := by
    rw [State.unitRuns, State.unitRuns, hv.1.unit (by decide), hv.obj .W0000 u (by decide)]
  have hagain : v.crashedLately u = s.crashedLately u := by
    rw [State.crashedLately, State.crashedLately, hv.1.unit (by decide), hv.1.time (by decide)]
  have hholder : v.keeper = s.keeper := hv.1 .keeper (by decide)
  have hcrash : s.crash u p cause pc = if (!(v.abortUpdate 1).unitRuns u) = true then v.abortUpdate 1 else
      if (v.abortUpdate 1).crashedLately u = true ∧ ((!((v.abortUpdate 1).keeper.holder == some u)) = true ∨ (v.abortUpdate 1).standby.isSome = true) then
        (if ((v.abortUpdate 1).keeper.holder == some u) = true then (v.abortUpdate 1).releaseLease else v.abortUpdate 1).restartUnit u
      else (v.abortUpdate 1).restartProc u p := if_neg hgoes
  rw [hcrash, habort, hstill, hagain, hholder, hruns]
  rfl

/-- What a release of the lease leaves alone. -/
theorem State.releaseLease_count (s : State) (n : Nat) : s.releaseLease.obj .W000D n = s.obj .W000D n := by
  unfold State.releaseLease
  split
  · split
    · have hgrant (v : State) (w : Nat) : (v.grantLease w).obj .W000D n = v.obj .W000D n := (v.grantLease_keeps w).obj _ _ (by decide)
      exact (hgrant _ _).trans (State.obj_setObj_ne _ _ (.inl (by decide)))
    · next u v hholder _ _ =>
      obtain ⟨-, -, -, -, hkeeps⟩ := State.endLease_spec hholder 1
      exact hkeeps.obj _ _ (by decide)
  · rfl

theorem State.crash_spec {s : State} {u p : Nat} (hruns : s.unitRuns u = true) (hp : p < 4) (hupdate : s.obj .W000C 0 ≠ 3) (cause pc : Nat) :
    let t := s.crash u p cause pc
    t.obj .W000D (4 * u + p) = s.obj .W000D (4 * u + p) + 1 ∧
      (s.crashedLately u = false → (mapGet default (t.unit u).procs p).restarting = some s.time ∧ (t.unit u).running = (s.unit u).running) ∧
      (s.crashedLately u = true → s.keeper.holder ≠ some u → t.obj .W0000 u = 2 ∧ (t.unit u).running = none ∧ u ∉ t.keeper.requests) := by
  have hv := s.crashTold_keeps u p cause pc
  have hcount : (s.crashTold u p cause pc).obj .W000D (4 * u + p) = s.obj .W000D (4 * u + p) + 1 := State.obj_bump _ _ _ _
  rw [State.crash_eq hruns hp hupdate]
  refine ⟨?_, fun hfirst => ?_, fun hagain hother => ?_⟩
  · split
    · obtain ⟨hkeeps, -⟩ := State.restartUnit_spec
        (if (s.keeper.holder == some u) = true then (s.crashTold u p cause pc).releaseLease else s.crashTold u p cause pc) u
      rw [hkeeps.obj _ _ (by decide)]
      split
      · rw [State.releaseLease_count, hcount]
      · exact hcount
    · exact hcount
  · have hone : ¬(s.crashedLately u = true ∧ ((!(s.keeper.holder == some u)) = true ∨ (s.crashTold u p cause pc).standby.isSome = true)) := by
      rw [hfirst]
      exact fun h => absurd h.1 (by decide)
    have htime : (s.crashTold u p cause pc).time = s.time := hv.1.time (by decide)
    have hunit : (s.crashTold u p cause pc).unit u = s.unit u := hv.1.unit (by decide) u
    rw [if_neg hone, State.restartProc, State.unit_setUnit, hunit, htime]
    exact ⟨congrArg Proc.restarting (mapGet_mapSet_same _ _ _ _), rfl⟩
  · have hnot : (s.keeper.holder == some u) = false := beq_eq_false_iff_ne.mpr hother
    have htwo : s.crashedLately u = true ∧ ((!(s.keeper.holder == some u)) = true ∨ (s.crashTold u p cause pc).standby.isSome = true) :=
      ⟨hagain, .inl (by rw [hnot]; rfl)⟩
    rw [if_pos htwo, if_neg (by rw [hnot]; decide)]
    obtain ⟨-, hrole, -, hunit, hkeeper⟩ := (s.crashTold u p cause pc).restartUnit_spec u
    exact ⟨hrole, by rw [hunit], hkeeper ▸ not_mem_filter_bne _ _⟩

/-! ### Updates (R357, R358) -/

theorem exec_updateHandoverStart {s : State} {v : Nat} (hstandby : s.standby = some v) (hqueued : s.obj .W000C 0 = 2) (hcalm : s.obj .P0C0C 0 = 0) :
    exec .updateHandoverStart s = .next (s.beginHandover v) := by
  have hqueued' : s.obj .W000C 0 = updQueued := hqueued
  refine congrArg Host.Outcome.next ?_
  simp only [hstandby, hqueued', hcalm, and_self, if_true]

theorem State.beginHandover_spec (s : State) (v : Nat) : let t := s.beginHandover v
    t.obj .W000C 0 = 3 ∧ t.obj .W0000 v = 2 ∧ t.update.startedAt = some s.time ∧ (t.unit v).bootB = !(s.unit v).runsB ∧
      Keeps [.units, .objs, .update, .keeper] [.W0000, .W000C] s t := by
  have hbegun (u : State) (x : Update) (k : Keeper) : Keeps [.units, .objs, .update, .keeper] [.W0000, .W000C] u { u with update := x, keeper := k } :=
    ((u.update_keeps x).mono (by decide)).trans ((State.keeper_keeps _ _).mono (by decide))
  refine ⟨State.obj_setObj _ _ _ _, ?_, rfl, congrArg CtrlUnit.bootB (mapGet_mapSet_same _ _ _ _), ?_⟩
  · exact (State.obj_setObj_ne _ _ (.inl (by decide))).trans (State.obj_setObj _ _ _ _)
  · exact ((((s.setUnit_keeps _ _).mono (by decide)).trans ((State.setObj_keeps _ _ _ _).mono (by decide))).trans (hbegun _ _ _)).trans
      ((State.setObj_keeps _ _ _ _).mono (by decide))

theorem exec_handoverTimeout {s : State} {r : Nat} (hbegun : s.update.startedAt = some r) (hlate : r + 150000000 < s.time) :
    exec .handoverTimeout s = .next (s.abortUpdate 2) := by
  refine congrArg Host.Outcome.next ?_
  simp only [hbegun, if_pos hlate]

/-- A unit in standby that has asked for the lease is the one that it goes to, where the other unit is not in standby. -/
theorem State.standby_eq {s : State} {u v : Nat} (hu : u < 2) (hv : v < 2) (hne : u ≠ v) (hother : s.obj .W0000 u = 0) (hrole : s.obj .W0000 v = 1)
    (hrequest : v ∈ s.keeper.requests) : s.standby = some v := by
  have hmine : (s.obj .W0000 v == cuStandby && s.keeper.requests.contains v) = true := by
    rw [hrole, List.contains_iff_mem.mpr hrequest]
    rfl
  have hnot : (s.obj .W0000 u == cuStandby && s.keeper.requests.contains u) = false := by
    rw [hother]
    rfl
  obtain ⟨rfl, rfl⟩ | ⟨rfl, rfl⟩ : (u = 0 ∧ v = 1) ∨ (u = 1 ∧ v = 0) := by omega
  · simp only [State.standby, List.find?_cons, hnot, hmine]
  · simp only [State.standby, List.find?_cons, hmine]

end Sys2Proof.Machine
end

section
/-!
The commit of a live update (R357), the mailboxes that the active unit serves (R359), and the obligation.
-/

namespace Sys2Proof.Machine

/-! ### The commit of an update (R357) -/

/-- The holder releases, and the keeper grants the lease to another unit unless an overlap already has. -/
def State.handLease (s : State) (v : Nat) : State := if s.releaseLease.keeper.holder = some v then s.releaseLease else s.releaseLease.grantLease v

/-- What the passing of the lease may change. -/
def handedParts : List Part := .compare :: toldParts

theorem State.handLease_spec {s : State} {u v : Nat} (hwait : s.recovery.resetWait = []) (hholder : s.keeper.holder = some u) (hne : u ≠ v)
    (hstandby : s.standby = some v) : let t := s.handLease v
    t.keeper.holder = some v ∧ t.keeper.epoch = (s.keeper.epoch + 1) % 2 ^ 32 ∧ t.obj .W0000 v = 0 ∧ t.unit u = s.unit u ∧
      Keeps handedParts toldObjs s t := by
  by_cases hmode : s.obj .W0003 0 = 1
  · let w := s.setObj .W0000 u cuResyncing
    obtain ⟨⟨hgot, hepoch, -, -, -, hrole, -⟩, hkeeps, hunits, -, -⟩ := State.grantLease_of_wait_nil (s := w) hwait v
    have hrelease : s.releaseLease =
        { w.grantLease v with keeper := { (w.grantLease v).keeper with overlap := some ((w.grantLease v).time + 200000) } } := by
      simp only [State.releaseLease, hholder, hstandby, if_pos hmode]
      rfl
    have hhand : s.handLease v = s.releaseLease := if_pos (by rw [hrelease]; exact hgot)
    simp only [hhand, hrelease]
    refine ⟨hgot, hepoch, hrole, hunits u hne, ?_⟩
    exact (((s.setObj_keeps _ _ _).mono (by decide)).trans (hkeeps.mono (by decide))).trans ((State.keeper_keeps _ _).mono (by decide))
  · obtain ⟨hkeeper, -, -, -, hended⟩ := State.endLease_spec hholder 1
    have hwait' : (s.endLease 1).recovery.resetWait = [] := by rwa [hended.1 .recovery (by decide)]
    obtain ⟨⟨hgot, hepoch, -, -, -, hrole, -⟩, hkeeps, hunits, -, -⟩ := State.grantLease_of_wait_nil hwait' v
    have hrelease : s.releaseLease = s.endLease 1 := State.releaseLease_of_standby hholder hstandby hmode
    have hhand : s.handLease v = (s.endLease 1).grantLease v := by
      rw [State.handLease, hrelease]
      exact if_neg (by rw [hkeeper]; simp)
    simp only [hhand]
    exact ⟨hgot, by rw [hepoch, hkeeper], hrole, (hunits u hne).trans (hended.1.unit (by decide) u),
      (hended.mono (by decide)).trans (hkeeps.mono (by decide))⟩

/-- The old unit restarts on its new slot, and the minimum security version rises to the new image's. -/
def State.committed (s : State) (u old : Nat) (i : FwImage) : State :=
  let r := (s.setUnit u ((s.unit u).writeBoot (!(s.unit u).runsB))).restartUnit u
  let c : State := { r with
    update := { s.update with startedAt := none }, store := ({ s.store with minSecurity := max s.store.minSecurity i.security } : Store).rewritten (s.obj .I0D05 0) }
  (c.setObj .W000C 0 updCommitted).raise evUpdateCommitted noSubject [old, i.version]

theorem exec_updateCommit {s : State} {u v : Nat} {i : FwImage} (hnew : s.update.newUnit = v) (hholder : s.keeper.holder = some u)
    (hruns : (s.unit v).running = some i) (hupdate : s.obj .W000C 0 = 3) (hne : u ≠ v) : exec .updateCommit s =
      .next ((((s.setObj .W0000 v cuStandby).requestLease v).handLease v).committed u (((s.unit u).running.map (fun r => r.version)).getD 0) i).takeUpAll := by
  have hgoes : ¬(s.obj .W000C 0 ≠ updHanding ∨ u = v) := by
    rintro (h | h)
    · exact h hupdate
    · exact hne h
  subst hnew
  refine congrArg Host.Outcome.next ?_
  simp only [hholder, hruns, if_neg hgoes]
  rfl

theorem Store.rewritten_minSecurity (t : Store) (life : Nat) : (t.rewritten life).minSecurity = t.minSecurity := by
  unfold Store.rewritten
  dsimp only
  split <;> rfl

theorem State.committed_spec (s : State) (u old : Nat) (i : FwImage) : let t := s.committed u old i
    t.keeper.holder = s.keeper.holder ∧ t.keeper.epoch = s.keeper.epoch ∧ t.kept = s.kept ∧ t.obj .W000C 0 = 4 ∧ t.obj .W0000 u = 2 ∧
      (∀ v, v ≠ u → t.obj .W0000 v = s.obj .W0000 v) ∧ t.store.minSecurity = max s.store.minSecurity i.security ∧ t.update.startedAt = none ∧
      (t.unit u).bootB = !(s.unit u).runsB := by
  obtain ⟨-, hrole, hother, hunit, hkeeper⟩ := (s.setUnit u ((s.unit u).writeBoot (!(s.unit u).runsB))).restartUnit_spec u
  refine ⟨?_, ?_, rfl, State.obj_setObj _ _ _ _, ?_, fun v hv => ?_, Store.rewritten_minSecurity _ _, rfl, ?_⟩
  · exact (congrArg Keeper.holder hkeeper :)
  · exact (congrArg Keeper.epoch hkeeper :)
  · exact (State.obj_setObj_ne _ _ (.inl (by decide))).trans hrole
  · exact (State.obj_setObj_ne _ _ (.inl (by decide))).trans (hother v hv)
  · exact (congrArg CtrlUnit.bootB hunit).trans (congrArg CtrlUnit.bootB (State.unit_setUnit s u _))

/-! ### The mailboxes of the active unit (R359) -/

theorem exec_cuMailboxService {s : State} {box u : Nat} (logs : List FwMsg) (hholder : s.keeper.holder = some u)
    (hring : (s.unit u).ring.length ≤ 4096) (hmine : box / 32 = u) (hbox : box < 64) (hlast : 20 ≤ box % 32) (hfull : (s.box box).full = true)
    (hacts : s.cuActs 3 = true) : exec (.cuMailboxService box logs) s = .next ((s.fwLog u logs).mailRelease box (s.box box).seq true) := by
  obtain ⟨-, ⟨l, n, hunit⟩, hkeeps⟩ := s.fwLog_spec u logs hring
  have hbox' : (s.fwLog u logs).box box = s.box box := hkeeps.1.box (by decide) box
  have hkeeper : (s.fwLog u logs).keeper = s.keeper := hkeeps.1 .keeper (by decide)
  have hcompare : (s.fwLog u logs).compare = s.compare := hkeeps.1 .compare (by decide)
  have hacts' : (s.fwLog u logs).cuActs 3 = true := by
    rw [← hacts]
    simp only [State.cuActs, hkeeper, hholder, hcompare, hkeeps.obj .W0000 u (by decide), hkeeps.1.iod (by decide), hunit]
  have hlow : ¬(8 ≤ box % 32 ∧ box % 32 ≤ 15) := by omega
  have hmid : ¬(16 ≤ box % 32 ∧ box % 32 ≤ 19) := by omega
  have hgoes : ¬(64 ≤ box ∨ box / 32 ≠ u ∨ (!(s.box box).full) = true ∨ (!(s.fwLog u logs).cuActs 3) = true) := by
    rw [hfull, hacts']
    simp only [Bool.not_true, Bool.false_eq_true, or_false]
    omega
  refine congrArg Host.Outcome.next ?_
  simp only [hholder, hbox', if_neg hlow, if_neg hmid, if_neg hgoes]

/-! ### What the commands leave -/

/-- An output of an epoch that is not current is counted and discarded. -/
theorem exec_cuOutputReceive_of_fenced {s : State} {u epoch : Nat} (receiver kind content : Nat) (logs : List FwMsg)
    (hepoch : s.epochCurrent epoch = false) (hring : (s.unit u).ring.length ≤ 4096) :
    ∃ t : State, exec (.cuOutputReceive u epoch receiver kind content logs) s = .next t ∧ t.obj .W000F 0 = s.obj .W000F 0 + 1 ∧ Logged s t u logs ∧
      t.compare.pending = s.compare.pending ∧ t.compare.passed = s.compare.passed ∧ objsBut [.W000F] s t ∧
      unchangedBut [.objs, .log, .compare, .units] s t := by
  obtain ⟨hfence, hcount, hpending, hpassed⟩ := s.fence_spec epoch receiver
  have hunit : (s.fence epoch receiver).unit u = s.unit u := hfence.1.unit (by decide) u
  obtain ⟨hlogged, -, hlog⟩ := (s.fence epoch receiver).fwLog_spec u logs (by rwa [hunit])
  have hcompare : ((s.fence epoch receiver).fwLog u logs).compare = (s.fence epoch receiver).compare := hlog.1 .compare (by decide)
  obtain ⟨hparts, hobjs⟩ := (hfence.mono (by decide)).trans (hlog.mono (l' := [.objs, .log, .compare, .units]) (os' := [.W000F]) (by decide))
  refine ⟨_, congrArg (fun v : State => Host.Outcome.next (v.fwLog u logs)) (State.takeOutput_of_fenced hepoch u receiver kind content), ?_, ?_, ?_, ?_,
    hobjs, hparts⟩
  · rw [hlog.obj _ _ (by decide), hcount]
  · exact hlogged.of_alike (by rw [hunit]) (by rw [hunit]) (by rw [hunit]) (hfence.obj _ _ (by decide)) (hfence.obj _ _ (by decide))
  · rw [hcompare, hpending]
  · rw [hcompare, hpassed]

/-- The holder's output, while the other unit shadows, is logged and gives its compare word. -/
theorem exec_cuOutputReceive_of_holder {s : State} {u epoch kind : Nat} (receiver content : Nat) (logs : List FwMsg)
    (hepoch : s.epochCurrent epoch = true) (hholding : s.compare.holding = false) (hoverlap : s.keeper.overlap = none)
    (hholder : s.keeper.holder = some u) (hkind : kind ≤ 5) (hshadow : s.shadowed = true) (hjudged : s.notJudged kind = false)
    (hring : (s.unit u).ring.length ≤ 4096) :
    let h : Held := { seq := (s.unit u).outSeq, receiver := receiver, kind := kind, content := content }
    ∃ t : State, exec (.cuOutputReceive u epoch receiver kind content logs) s = .next t ∧ Logged s t u logs ∧
      (t.unit u).words = (s.unit u).words ++ [((s.unit u).outSeq, s.time, Config.compareWord receiver kind content)] ∧
      (t.unit u).outSeq = ((s.unit u).outSeq + 1) % 2 ^ 32 ∧
      t.compare.pending = s.compare.pending ++ (if waitsForCompare kind then [h] else []) ∧ unchangedBut [.units, .compare] s t := by
  have htake := State.takeOutput_of_holder hepoch hholding hoverlap hholder hkind hshadow hjudged receiver content
  generalize hv : s.takeOutput u epoch receiver kind content = v at htake
  have hunit : v.unit u = { s.unit u with
      words := (s.unit u).words ++ [((s.unit u).outSeq, s.time, Config.compareWord receiver kind content)], outSeq := ((s.unit u).outSeq + 1) % 2 ^ 32 } := by
    rw [htake]
    exact State.unit_setUnit s u _
  have hkeeps : Keeps [.units, .compare] [] s v := by
    rw [htake]
    exact ((s.setUnit_keeps _ _).mono (by decide)).trans ((State.compare_keeps _ _).mono (by decide))
  obtain ⟨hlogged, ⟨l, n, hring'⟩, hlog⟩ := v.fwLog_spec u logs (by rwa [hunit])
  have hcompare : (v.fwLog u logs).compare = v.compare := hlog.1 .compare (by decide)
  refine ⟨_, congrArg (fun v : State => Host.Outcome.next (v.fwLog u logs)) hv, ?_, ?_, ?_, ?_, (hkeeps.trans (hlog.mono (by decide))).1⟩
  · exact hlogged.of_alike (by rw [hunit]) (by rw [hunit]) (by rw [hunit]) (hkeeps.obj _ _ (by decide)) (hkeeps.obj _ _ (by decide))
  · rw [hring', hunit]
  · rw [hring', hunit]
  · rw [hcompare, htake]

/-- The holder passes its self-check, the other unit fails: the holder goes on, and the other restarts. -/
theorem exec_selfCheckOutcome_spec {s : State} (hkept : s.kept = []) (hholder : s.keeper.holder = some 0) (hholding : s.compare.holding = true) :
    ∃ t : State, exec (.selfCheckOutcome (some true) (some false)) s = .next t ∧ t.keeper.holder = some 0 ∧ t.compare.holding = false ∧
      t.compare.pending = [] ∧ t.obj .W0000 1 = 2 ∧ (t.unit 1).running = none ∧ objsBut [.W0000] s t := by
  obtain ⟨hon, hheld, hpending⟩ := s.goneOn_spec (some true) (some false)
  obtain ⟨hrestart, hrole, -, hunit, hkeeper⟩ := (s.goneOn (some true) (some false)).restartUnit_spec 1
  have hnone : ((s.goneOn (some true) (some false)).restartUnit 1).kept = [] :=
    (hrestart.1 .kept (by decide)).trans ((hon.1 .kept (by decide)).trans hkept)
  have hcompare : ((s.goneOn (some true) (some false)).restartUnit 1).compare = (s.goneOn (some true) (some false)).compare :=
    hrestart.1 .compare (by decide)
  have hholder' : (s.goneOn (some true) (some false)).keeper.holder = some 0 := (congrArg Keeper.holder (hon.1 .keeper (by decide))).trans hholder
  refine ⟨_, (exec_selfCheckOutcome hholder hholding).trans (congrArg Host.Outcome.next (State.takeUpAll_of_kept_nil hnone)), ?_, ?_, ?_, hrole, ?_, ?_⟩
  · rw [hkeeper, ← hholder']
  · rw [hcompare, hheld]
  · rw [hcompare, hpending]
  · rw [hunit]
  · exact ((hon.2.mono (by decide)).trans hrestart.2)

/-- A unit whose lease request the keeper has is standby once its snapshot is complete. -/
theorem exec_resyncDone {s : State} {u r : Nat} (hfrom : (s.unit u).resyncFrom = some r) (hrole : s.obj .W0000 u = 3)
    (hrequest : u ∈ s.keeper.requests) :
    ∃ t : State, exec (.resyncDone u) s = .next t ∧ t.obj .W0000 u = 1 ∧ t.obj .W0018 0 = (s.time - r) / 1000000 ∧
      t.log.events.head?.map (fun e => (e.code, e.data)) = some (evResyncDone, [u, (s.time - r) / 1000000]) ∧ objsBut [.W0000, .W0018] s t ∧
      unchangedBut [.units, .objs, .log] s t := by
  have hrole' : s.obj .W0000 u = cuResyncing := hrole
  let v := ((s.setUnit u { s.unit u with resyncFrom := none, words := [], outSeq := (s.unit (1 - u)).outSeq }).setObj .W0000 u cuStandby).setObj
    .W0018 0 ((s.time - r) / 1000000)
  have he : exec (.resyncDone u) s = .next (v.raise evResyncDone noSubject [u, (s.time - r) / 1000000]) := by
    refine congrArg Host.Outcome.next ?_
    simp only [hfrom, hrole', List.contains_iff_mem.mpr hrequest, and_self, if_true]
    rfl
  obtain ⟨hparts, hobjs⟩ : Keeps [.units, .objs, .log] [.W0000, .W0018] s (v.raise evResyncDone noSubject [u, (s.time - r) / 1000000]) :=
    ((((s.setUnit_keeps _ _).mono (by decide)).trans ((State.setObj_keeps _ _ _ _).mono (by decide))).trans
      ((State.setObj_keeps _ _ _ _).mono (by decide))).trans ((State.raise_keeps _ _ _ _).mono (by decide))
  refine ⟨_, he, ?_, State.obj_setObj _ _ _ _, rfl, hobjs, hparts⟩
  exact (State.obj_setObj_ne _ _ (.inl (by decide))).trans (State.obj_setObj _ _ _ _)

theorem exec_updateCommit_spec {s : State} {u v : Nat} {i : FwImage} (hkept : s.kept = []) (hwait : s.recovery.resetWait = [])
    (hnew : s.update.newUnit = v) (hholder : s.keeper.holder = some u) (hruns : (s.unit v).running = some i) (hupdate : s.obj .W000C 0 = 3)
    (hu : u < 2) (hv : v < 2) (hne : u ≠ v) (hrole : s.obj .W0000 u = 0) :
    ∃ t : State, exec .updateCommit s = .next t ∧ t.keeper.holder = some v ∧ t.obj .W000C 0 = 4 ∧ t.obj .W0000 v = 0 ∧ t.obj .W0000 u = 2 ∧
      t.keeper.epoch = (s.keeper.epoch + 1) % 2 ^ 32 ∧ t.store.minSecurity = max s.store.minSecurity i.security ∧ t.update.startedAt = none ∧
      (t.unit u).bootB = !(s.unit u).runsB := by
  let w := (s.setObj .W0000 v cuStandby).requestLease v
  obtain ⟨hasked, hrequest, hholder', hepoch'⟩ := (s.setObj .W0000 v cuStandby).requestLease_spec v
  have hkeeps : Keeps [.keeper, .objs] [.W0000] s w := ((s.setObj_keeps _ _ _).mono (by decide)).trans (hasked.mono (by decide))
  have hstandby : w.standby = some v := by
    refine State.standby_eq hu hv hne ?_ ?_ hrequest
    · exact (hasked.obj _ _ (by decide)).trans ((State.obj_setObj_ne _ _ (.inr hne)).trans hrole)
    · exact (hasked.obj _ _ (by decide)).trans (State.obj_setObj _ _ _ _)
  have hwait' : w.recovery.resetWait = [] := hwait
  obtain ⟨hgot, hepoch, hactive, hunit, hhanded⟩ := State.handLease_spec hwait' (hholder'.trans hholder) hne hstandby
  obtain ⟨hheld, hsame, hkept', hdone, hrestart, hother, hsecurity, hended, hboot⟩ :=
    (w.handLease v).committed_spec u (((s.unit u).running.map (fun r => r.version)).getD 0) i
  have hnone : ((w.handLease v).committed u (((s.unit u).running.map (fun r => r.version)).getD 0) i).kept = [] :=
    hkept'.trans ((hhanded.1 .kept (by decide)).trans hkept)
  have hstore : (w.handLease v).store = s.store := hhanded.1 .store (by decide)
  refine ⟨_, (exec_updateCommit hnew hholder hruns hupdate hne).trans (congrArg Host.Outcome.next (State.takeUpAll_of_kept_nil hnone)), ?_, hdone, ?_,
    hrestart, ?_, ?_, hended, ?_⟩
  · rw [hheld, hgot]
  · rw [hother v (Ne.symm hne), hactive]
  · rw [hsame, hepoch, hepoch']
    rfl
  · rw [hsecurity, hstore]
  · rw [hboot, hunit]
    exact congrArg (fun c : CtrlUnit => !c.runsB) (hkeeps.1.unit (by decide) u)

theorem exec_cuMailboxService_spec {s : State} {box u : Nat} (logs : List FwMsg) (hholder : s.keeper.holder = some u)
    (hring : (s.unit u).ring.length ≤ 4096) (hmine : box / 32 = u) (hbox : box < 64) (hlast : 20 ≤ box % 32) (hfull : (s.box box).full = true)
    (hacts : s.cuActs 3 = true) (hwaiters : ∀ w ∈ (s.box box).waiters, w.1 ≠ 2 ∧ w.1 ≠ 4) :
    ∃ t : State, exec (.cuMailboxService box logs) s = .next t ∧ (t.box box).full = false ∧ (t.box box).waiters = [] ∧ Logged s t u logs ∧
      unchangedBut [.boxes, .out, .units] s t := by
  obtain ⟨hlogged, -, hlog⟩ := s.fwLog_spec u logs hring
  have hsame : (s.fwLog u logs).box box = s.box box := hlog.1.box (by decide) box
  have hrelease := State.mailRelease_of_full (s := s.fwLog u logs) (n := box) (byHolder := true) (fun _ => rfl) (by rw [hsame, hfull])
    (by rw [hsame]; exact hwaiters)
  rw [hsame] at hrelease
  obtain ⟨⟨hsent, -⟩, -⟩ := State.foldl_send (fun p : Nat × Nat => .emptyNotice p.1 p.2 box) (s.box box).told
    ((s.fwLog u logs).setBoxes box { s.box box with full := false, collision := false, waiters := [] })
  have hboxes := (s.fwLog u logs).setBoxes_unchanged box { s.box box with full := false, collision := false, waiters := [] }
  have hreleased := (hboxes.mono (l' := [.boxes, .out]) (by decide)).trans (hsent.mono (by decide))
  have hempty := (hsent.box (by decide) box).trans (State.box_setBoxes_self (s.fwLog u logs) box _)
  refine ⟨_, (exec_cuMailboxService logs hholder hring hmine hbox hlast hfull hacts).trans (congrArg Host.Outcome.next hrelease), ?_, ?_, ?_,
    (hlog.1.mono (by decide)).trans (hreleased.mono (by decide))⟩
  · rw [hempty]
  · rw [hempty]
  · have hunit := hreleased.unit (by decide) u
    exact (congrArg (fun c : CtrlUnit => c.ring.map (fun r : FwRec => r.msg)) hunit).trans hlogged

/-- Settles O49: each clause is the equation of the command with the lemma of what it leaves. -/
theorem unitCommandsComplete : Obligations.UnitCommandsComplete := by
  unfold Obligations.UnitCommandsComplete
  refine ⟨fun s u epoch receiver kind content logs hepoch hring => ?fenced,
    fun s u epoch receiver kind content logs hepoch hholding hoverlap hholder hkind hshadow hjudged hring => ?compared,
    fun s k hpast hholding hagree => ?agreed, fun s k hpast hholding hdiffer => ?mismatched, fun s hkept hholder hholding => ?selfChecked,
    fun s u h hrole hholder hne => ?resyncing, fun s u r hfrom hrole hrequest => ?resynced,
    fun s u olderOk otherOk hrole hstopped hupdate => ?started, fun s u olderOk a b hrole hstopped => ?demoted,
    fun s u p cause pc c hc hruns hp hupdate => ?crashed, fun s u p r q hkept hq hrestarting => ?restarted,
    fun s v hstandby hqueued hcalm => ?handover, fun s u v i hkept hwait hnew hholder hruns hupdate hu hv hne hrole => ?committed,
    fun s u r hbegun hlate hupdate hnew => ?aborted, fun s box u logs hholder hring hmine hbox hlast hfull hacts hwaiters => ?served⟩
  case fenced =>
    exact exec_cuOutputReceive_of_fenced receiver kind content logs hepoch hring
  case compared =>
    exact exec_cuOutputReceive_of_holder receiver content logs hepoch hholding hoverlap hholder hkind hshadow hjudged hring
  case agreed =>
    obtain ⟨t, he, hcompare, -, hparts, -⟩ := exec_compareWindowEnd hpast hholding
    refine ⟨t, he, ?_, ?_, ?_, hparts hagree⟩
    · rw [hcompare, State.judgedWindow, judgedCompare, hagree]
      rfl
    all_goals
      rw [hcompare, State.judgedWindow, judgedCompare, hagree]
      simp only [List.contains_nil, Bool.not_false, Bool.and_true]
      rfl
  case mismatched =>
    obtain ⟨t, he, hcompare, ⟨hparts, hobjs⟩, -, hcount⟩ := exec_compareWindowEnd hpast hholding
    have hbad : (s.mismatches k).isEmpty = false := by simpa using hdiffer
    refine ⟨t, he, ?_, ?_, hcount, hobjs, hparts.mono (by decide)⟩
    · rw [hcompare, State.judgedWindow, judgedCompare, hbad]
      rfl
    · rw [hcompare, State.judgedWindow, judgedCompare, hbad]
      rfl
  case selfChecked =>
    exact exec_selfCheckOutcome_spec hkept hholder hholding
  case resyncing =>
    have hgoes : s.obj .W0000 u = cuResyncing ∧ s.keeper.holder.isSome = true ∧ s.keeper.holder ≠ some u := by
      rw [hholder]
      exact ⟨hrole, rfl, fun h => hne (Option.some.inj h)⟩
    obtain ⟨hkeeps, hrequest, hsame, -⟩ := (s.setUnit u { s.unit u with resyncFrom := some s.time }).requestLease_spec u
    refine ⟨_, congrArg Host.Outcome.next (if_pos hgoes), (hkeeps.1.unit (by decide) u).trans (State.unit_setUnit _ _ _), hrequest,
      hsame.trans hholder, ((s.setUnit_keeps _ _).1.mono (by decide)).trans (hkeeps.1.mono (by decide))⟩
  case resynced =>
    exact exec_resyncDone hfrom hrole hrequest
  case started =>
    intro b i hsecure hsig hhash
    obtain ⟨hruns, hslot, hversion, hresync, hrequest, hparts, hobjs⟩ := State.runImage_spec hupdate u b i
    exact ⟨_, exec_unitRomStart_runs olderOk otherOk hrole hstopped rfl (State.romFault_none hsecure hsig hhash), hruns, hslot, hversion, hresync,
      hrequest, hobjs, hparts⟩
  case demoted =>
    obtain ⟨hparts, hobjs⟩ : Keeps [.objs, .log] [.W0000] s ((s.setObj .W0000 u cuDemoted).raise evCuDemoted noSubject [u, 0]) :=
      ((s.setObj_keeps _ _ _).mono (by decide)).trans ((State.raise_keeps _ _ _ _).mono (by decide))
    exact ⟨_, exec_unitRomStart_fails olderOk a b hrole hstopped, State.obj_setObj _ _ _ _, rfl, hobjs, hparts⟩
  case crashed =>
    have he : exec c s = .next (s.crash u p cause pc) := by
      rcases hc with rfl | ⟨rfl, rfl⟩
      · rfl
      · rfl
    exact ⟨_, he, State.crash_spec hruns hp hupdate cause pc⟩
  case restarted =>
    let t := s.setUnit u { s.unit u with procs := mapSet (s.unit u).procs p { q with restarting := none } }
    have hgoes : ¬(q.restarting.isNone = true) := by
      rw [hrestarting]
      exact Bool.false_ne_true
    have he : exec (.procRestartDone u p true) s = .next t.takeUpAll := by
      refine congrArg Host.Outcome.next ?_
      simp only [hq, if_neg hgoes, Bool.or_true, if_true]
      rfl
    rw [State.takeUpAll_of_kept_nil (s := t) hkept] at he
    refine ⟨t, he, ?_, (s.setUnit_keeps _ _).1⟩
    rw [State.unit_setUnit]
    exact mapGet_mapSet_same _ _ _ _
  case handover =>
    obtain ⟨hupdate, hrole, hbegun, hboot, hparts, hobjs⟩ := s.beginHandover_spec v
    exact ⟨_, exec_updateHandoverStart hstandby hqueued hcalm, hupdate, hrole, hbegun, hboot, hobjs, hparts⟩
  case committed =>
    exact exec_updateCommit_spec hkept hwait hnew hholder hruns hupdate hu hv hne hrole
  case aborted =>
    subst hnew
    obtain ⟨hdone, hrole, hended, hboot, hevent⟩ := State.abortUpdate_spec hupdate 2
    obtain ⟨hparts, hobjs⟩ := s.abortUpdate_keeps 2
    exact ⟨_, exec_handoverTimeout hbegun hlate, hdone, hrole, hended, hboot, hevent, hobjs, hparts⟩
  case served =>
    exact exec_cuMailboxService_spec logs hholder hring hmine hbox hlast hfull hacts hwaiters

end Sys2Proof.Machine
end

section
/-!
The failure of a stack and the promotion of a spare (R366, R369, R371, R372): what they leave of the sites, the ports and the ledger.
-/

namespace Sys2Proof.Machine

/-! ### Which sites have supply, through what leaves it alone -/

/-- Every site is as usable, as powered and as due for a retest as before. -/
def State.SameSupply (s t : State) : Prop :=
  ∀ q, (t.site q).usable = (s.site q).usable ∧ (t.site q).powered = (s.site q).powered ∧ (t.site q).retest = (s.site q).retest

namespace State.SameSupply
variable {s t u : State}

theorem refl (s : State) : s.SameSupply s := fun _ => ⟨rfl, rfl, rfl⟩

theorem trans (h : s.SameSupply t) (h' : t.SameSupply u) : s.SameSupply u := fun q => by
  obtain ⟨husable, hpowered, hretest⟩ := h q
  obtain ⟨husable', hpowered', hretest'⟩ := h' q
  exact ⟨husable'.trans husable, hpowered'.trans hpowered, hretest'.trans hretest⟩

theorem of_unchanged {l : List Part} (h : unchangedBut l s t) (hl : Part.sites ∉ l) : s.SameSupply t := fun q => by
  rw [h.site hl]
  exact ⟨rfl, rfl, rfl⟩

theorem foldl {α : Type} {f : State → α → State} (h : ∀ s x, State.SameSupply s (f s x)) (l : List α) (s : State) : s.SameSupply (l.foldl f s) := by
  induction l generalizing s with
  | nil => exact .refl s
  | cons x r ih => exact (h s x).trans (ih _)

theorem setSite (s : State) (p : Nat) {v : Site} (husable : v.usable = (s.site p).usable) (hpowered : v.powered = (s.site p).powered)
    (hretest : v.retest = (s.site p).retest) : s.SameSupply (s.setSite p v) := fun q => by
  by_cases hq : q = p
  · rw [hq, State.site_setSite]
    exact ⟨husable, hpowered, hretest⟩
  · rw [State.site_setSite_ne _ _ hq]
    exact ⟨rfl, rfl, rfl⟩

end State.SameSupply

/-- A tile that is cleared leaves the queues of its site, its station and its headgates. -/
def State.leaveQueues (s : State) (site tl : Nat) : State :=
  let p := s.site site
  s.setSite site { p with sieveQ := p.sieveQ.filter (fun e => e.1 != tl), mesh := p.mesh.filter (fun b => !(b.beat.src == tl && b.since.isNone)) }

theorem State.clearTile_sameSupply (s : State) (site tl : Nat) : s.SameSupply (s.clearTile site tl) := by
  have hwait : s.SameSupply (s.countWait site tl 1) := .of_unchanged (s.countWait_unchanged site tl 1) (by decide)
  have htile (u : State) (t : Tile) : u.SameSupply (u.setTile site tl t) := .of_unchanged (u.setTile_unchanged _ _ _) (by decide)
  have hsite (u : State) : u.SameSupply (u.leaveQueues site tl) := .setSite u site rfl rfl rfl
  have hrest (u : State) : u.SameSupply ((if (u.station site).opens.any (fun o => o.ticket.tile == tl) then
      u.setStation site { u.station site with opens := (u.station site).opens.filter (fun o => o.ticket.tile != tl) } else u).dropBids site tl) := by
    refine State.SameSupply.trans ?_ (.of_unchanged (State.dropBids_unchanged _ _ _) (by decide))
    split
    · exact .of_unchanged (u.setStation_unchanged _ _) (by decide)
    · exact .refl u
  exact ((hwait.trans (htile _ _)).trans (hsite _)).trans (hrest _)

theorem State.abortRun_sameSupply (s : State) (site tl number : Nat) : s.SameSupply (s.abortRun site tl number) := by
  have htile (u : State) (t : Tile) : u.SameSupply (u.setTile site tl t) := .of_unchanged (u.setTile_unchanged _ _ _) (by decide)
  have hleave (u : State) : u.SameSupply (u.leaveRun site tl) := .of_unchanged (u.leaveRun_keeps site tl).1 (by decide)
  unfold State.abortRun
  dsimp only
  split
  · exact (((htile _ _).trans (State.clearTile_sameSupply _ _ _)).trans (htile _ _)).trans (hleave _)
  · exact htile _ _

theorem State.abortWave_sameSupply (s : State) (w : Wave) (stack code : Nat) : s.SameSupply (s.abortWave w stack code) := by
  have hruns (u : State) : u.SameSupply
      ((s.replicaSites w.replica).foldl (fun s p => (List.range 48).foldl (fun s k => s.abortRun p k w.number) s) u) := by
    refine .foldl (fun s p => ?_) _ u
    refine .foldl (fun s k => ?_) _ s
    exact s.abortRun_sameSupply p k w.number
  have htold (u : State) (v : Option Wave) (d : List Nat) :
      u.SameSupply (((u.setWave w.replica w.slot v).bump .X0707 0 1).raise evWaveAbort noSubject d) := fun _ => ⟨rfl, rfl, rfl⟩
  unfold State.abortWave
  split
  · exact .refl s
  · exact (hruns _).trans (htold _ _ _)

/-- The waves of a replica are aborted. -/
def State.wavesAborted (s : State) (r stack cause : Nat) : State :=
  (s.waveList.filter (fun w => w.replica == r)).foldl (fun s w => s.abortWave w stack cause) s

/-- The streams of a replica are suspended. -/
def State.streamsSuspended (s : State) (r : Nat) : State :=
  (s.streamList.filter (fun x => x.replica == r)).foldl (fun s x => s.setStream x.id (some x.suspended)) s

/-- A replica that is not out of service shows that it is suspended. -/
def State.showSuspended (s : State) (r : Nat) : State := if s.obj .X0F03 r = repOut then s else s.setObj .X0F03 r repSuspended

/-- When a replica's suspension began. -/
def State.suspendedSince (s : State) (r : Nat) : State :=
  { s with recovery := { s.recovery with
    suspendedAt := if s.recovery.suspendedAt.any (fun e => e.1 == r) then s.recovery.suspendedAt else mapSet s.recovery.suspendedAt r s.time } }

theorem State.suspendReplica_eq (s : State) (r stack cause : Nat) :
    s.suspendReplica r stack cause = (((s.wavesAborted r stack cause).streamsSuspended r).suspendedSince r).showSuspended r := rfl

theorem State.wavesAborted_keeps (s : State) (r stack cause : Nat) : Keeps abortWaveParts abortWaveObjs s (s.wavesAborted r stack cause) := by
  refine .foldl (fun s w => ?_) _ s
  exact s.abortWave_keeps w stack cause

theorem State.streamsSuspended_keeps (s : State) (r : Nat) : Keeps [.streams] [] s (s.streamsSuspended r) := by
  refine .foldl (fun s x => ?_) _ s
  exact s.setStream_keeps _ _

theorem State.suspendReplica_sameSupply (s : State) (r stack cause : Nat) : s.SameSupply (s.suspendReplica r stack cause) := by
  have hwaves : s.SameSupply (s.wavesAborted r stack cause) := by
    refine .foldl (fun s w => ?_) _ s
    exact s.abortWave_sameSupply w stack cause
  have hstreams (u : State) : u.SameSupply (u.streamsSuspended r) := .of_unchanged (u.streamsSuspended_keeps r).1 (by decide)
  have hsince (u : State) : u.SameSupply (u.suspendedSince r) := fun _ => ⟨rfl, rfl, rfl⟩
  have hshown (u : State) : u.SameSupply (u.showSuspended r) := by
    unfold State.showSuspended
    split
    · exact .refl u
    · exact .of_unchanged (u.setObj_keeps _ _ _).1 (by decide)
  exact ((hwaves.trans (hstreams _)).trans (hsince _)).trans (hshown _)

theorem State.showSuspended_shown (s : State) (r : Nat) : (s.showSuspended r).obj .X0F03 r = if s.obj .X0F03 r = 3 then 3 else 1 := by
  unfold State.showSuspended
  split
  · next h =>
    have h' : s.obj .X0F03 r = 3 := h
    rw [if_pos h', h']
  · next h =>
    have h' : ¬(s.obj .X0F03 r = 3) := h
    rw [if_neg h']
    exact State.obj_setObj _ _ _ _

/-- The state of a replica that suspends. -/
theorem State.suspendReplica_shown (s : State) (r stack cause : Nat) :
    (s.suspendReplica r stack cause).obj .X0F03 r = if s.obj .X0F03 r = 3 then 3 else 1 := by
  have hsame : (((s.wavesAborted r stack cause).streamsSuspended r).suspendedSince r).obj .X0F03 r = s.obj .X0F03 r :=
    ((State.streamsSuspended_keeps _ _).obj _ _ (by decide)).trans ((State.wavesAborted_keeps _ _ _ _).obj _ _ (by decide))
  rw [State.suspendReplica_eq, State.showSuspended_shown, hsame]

/-! ### A site goes, and its port with it (R372) -/

/-- What a port's withdrawal and the loss of its rails may change. -/
def siteGoneParts : List Part := withdrawParts ++ siteOffParts
def siteGoneObjs : List Obj := [.B0601, .B0604, .X0F02] ++ siteOffObjs

/-- A port is withdrawn and its rails are switched off; what is found of the die is entered with its site. -/
def State.siteGone (s : State) (p : Nat) (f : Site → Site) (spare : Nat) : State :=
  let u := (s.abrupt p false).siteOff p
  (u.setSite p (f (u.site p))).showSpare p spare

theorem State.siteGone_spec (s : State) (p : Nat) (f : Site → Site) (spare : Nat) : let t := s.siteGone p f spare
    Keeps siteGoneParts siteGoneObjs s t ∧ t.site p = f (s.site p).withoutSupply ∧ (∀ q, q ≠ p → t.site q = s.site q) ∧ t.inService p = false ∧
      ∀ q, q ≠ p → t.obj .B0601 q = s.obj .B0601 q := by
  obtain ⟨habrupt, hother⟩ := s.abrupt_keeps p false
  have hoff := (s.abrupt p false).siteOff_keeps p
  let u := (s.abrupt p false).siteOff p
  let v := u.setSite p (f (u.site p))
  have hset : Keeps [.sites] [] u v := .of_parts (u.setSite_unchanged _ _) (by decide)
  have hshown : Keeps [.objs] [.X0F02] v (v.showSpare p spare) := v.showSpare_keeps p spare
  have hsite (q : Nat) : (v.showSpare p spare).site q = v.site q := hshown.1.site (by decide) q
  have hsame (q : Nat) : (s.abrupt p false).site q = s.site q := habrupt.1.site (by decide) q
  have hport (q : Nat) : (v.showSpare p spare).obj .B0601 q = (s.abrupt p false).obj .B0601 q :=
    (hshown.obj _ _ (by decide)).trans ((hset.obj _ _ (by decide)).trans (hoff.obj _ _ (by decide)))
  refine ⟨?_, ?_, fun q hq => ?_, ?_, fun q hq => (hport q).trans (hother q hq)⟩
  · exact ((habrupt.mono (by decide)).trans (hoff.mono (by decide))).trans ((hset.mono (by decide)).trans (hshown.mono (by decide)))
  · exact (hsite p).trans ((State.site_setSite _ _ _).trans (congrArg f ((State.siteOff_site _ _ _).trans (by rw [if_pos rfl, hsame]))))
  · rw [State.siteGone, hsite, State.site_setSite_ne _ _ hq, State.siteOff_site, if_neg hq, hsame]
  · exact (congrArg (· == portInService) (hport p)).trans (s.abrupt_inService p false)

/-! ### Promotion (R369, R372) -/

/-- A spare takes a stack's place. -/
theorem State.promote_of_spare {s : State} {stack q : Nat} (hnext : s.nextSpare (replicaOf stack) = some q) (old start : Nat) :
    let t := s.promote stack old start
    Keeps [.objs, .log, .recovery] [.X0F01, .X0F02, .X0F08] s t ∧ t.obj .X0F01 stack = q ∧ t.obj .X0F08 0 = s.obj .X0F08 0 + 1 ∧
      mapGet default t.recovery.promos stack = { spare := q, old := old, stage := 1, start := start, since := s.time } := by
  let v := (((s.setObj .X0F01 stack q).showSpare q sparePromoted).bump .X0F08 0 1).raise evSparePromoted q [stack, old, q]
  let w := if sideOf q = replicaOf stack then v else v.raise evReplicaOverlap q [q, replicaOf stack]
  have hset := s.setObj_keeps .X0F01 stack q
  have hshown := (s.setObj .X0F01 stack q).showSpare_keeps q sparePromoted
  have hv : Keeps [.objs, .log] [.X0F01, .X0F02, .X0F08] s v :=
    (((hset.mono (by decide)).trans (hshown.mono (by decide))).trans ((State.bump_keeps _ _ _ _).mono (by decide))).trans
      ((State.raise_keeps _ _ _ _).mono (by decide))
  have hw : Keeps [.log] [] v w := .ite (.refl _ _ _) (v.raise_keeps _ _ _)
  have ht : s.promote stack old start = { w with recovery := { w.recovery with
      promos := mapSet w.recovery.promos stack { spare := q, old := old, stage := 1, start := start, since := w.time } } } := by
    simp only [State.promote, hnext]
    rfl
  have hobj (o : Obj) (i : Nat) : (s.promote stack old start).obj o i = v.obj o i := by
    rw [ht]
    exact hw.obj o i List.not_mem_nil
  have htime : w.time = s.time := (hw.1.time (by decide)).trans (hv.1.time (by decide))
  refine ⟨?_, ?_, ?_, ?_⟩
  · rw [ht]
    exact ((hv.mono (by decide)).trans (hw.mono (by decide))).trans ((w.recovery_keeps _).mono (by decide))
  · rw [hobj]
    exact (State.obj_bump_ne _ _ _ _ (by decide)).trans ((hshown.obj _ _ (by decide)).trans (State.obj_setObj _ _ _ _))
  · rw [hobj]
    exact (State.obj_bump _ _ _ _).trans (congrArg (· + 1) ((hshown.obj _ _ (by decide)).trans (hset.obj _ _ (by decide))))
  · rw [ht, htime]
    exact mapGet_mapSet_same _ _ _ _

/-- With no spare, the replica is out of service. -/
theorem State.promote_of_none {s : State} {stack : Nat} (hnext : s.nextSpare (replicaOf stack) = none) (old start : Nat) :
    let t := s.promote stack old start
    Keeps [.objs, .log, .recovery] [.X0F01, .X0F03] s t ∧ t.obj .X0F01 stack = 255 ∧ t.obj .X0F03 (replicaOf stack) = 3 ∧
      t.log.events.head?.map (fun e => (e.code, e.data)) = some (evSparesExhausted, [replicaOf stack]) := by
  let v : State := { s with recovery := { s.recovery with promos := mapDel s.recovery.promos stack } }
  have ht : s.promote stack old start =
      ((v.setObj .X0F01 stack 255).setObj .X0F03 (replicaOf stack) repOut).raise evSparesExhausted noSubject [replicaOf stack] := by
    simp only [State.promote, hnext]
    rfl
  simp only [ht]
  refine ⟨?_, ?_, State.obj_setObj _ _ _ _, rfl⟩
  · exact ((((s.recovery_keeps _).mono (by decide)).trans ((State.setObj_keeps _ _ _ _).mono (by decide))).trans
      ((State.setObj_keeps _ _ _ _).mono (by decide))).trans ((State.raise_keeps _ _ _ _).mono (by decide))
  · exact (State.obj_setObj_ne _ _ (.inl (by decide))).trans (State.obj_setObj _ _ _ _)

/-- A site is dormant by its port's state, its die, its supply, the stacks' sites, its zone and its band. -/
theorem State.dormant_congr {s t : State} {q : Nat} (hport : t.obj .B0601 q = s.obj .B0601 q) (husable : (t.site q).usable = (s.site q).usable)
    (hpowered : (t.site q).powered = (s.site q).powered) (hretest : (t.site q).retest = (s.site q).retest)
    (hstacks : ∀ l, t.obj .X0F01 l = s.obj .X0F01 l) (hzones : ∀ z, t.obj .P0C06 z = s.obj .P0C06 z) (hband : t.obj .T0120 q = s.obj .T0120 q) :
    t.dormant q = s.dormant q := by
  have hzone (z : Nat) : t.zoneOn z = s.zoneOn z := by rw [State.zoneOn, State.zoneOn, hzones, hzones, hzones]
  simp only [State.dormant, hport, husable, hpowered, hretest, State.stackOf_congr hstacks, hzone, State.band, hband]

/-- A site that holds a stack is no spare. -/
theorem State.dormant_of_stack {s : State} {stack p : Nat} (hstack : stack < 96) (h : s.obj .X0F01 stack = p) : s.dormant p = false := by
  have hheld : (s.stackOf p).isNone = false := by
    rw [State.stackOf, Option.isNone_eq_false_iff, List.find?_isSome]
    exact ⟨stack, List.mem_range.mpr hstack, beq_iff_eq.mpr h⟩
  rw [State.dormant, hheld]
  simp

theorem find?_congr_fun {α : Type} {f g : α → Bool} (h : ∀ x, f x = g x) (l : List α) : l.find? f = l.find? g := by rw [funext h]

end Sys2Proof.Machine
end

section
/-!
The failure of a stack (R366, R371, R372, R375) and the retest of a site (R374).
-/

namespace Sys2Proof.Machine

/-! ### A stack fails -/

/-- Waves forget the traps of a stack. -/
def State.forgetTraps (s : State) (stack : Nat) : State :=
  { s with waves := s.waves.map (fun (e : (Nat × Nat) × Option Wave) =>
    (e.1, e.2.map (fun (w : Wave) => { w with trapped := w.trapped.filter (fun l => l != stack), trappedNow := w.trappedNow.filter (fun l => l != stack) }))) }

/-- A re-mirroring is due where this panel mirrors streams. -/
def State.wantRemirror (s : State) : State :=
  if s.recovery.mirrorRes.isEmpty then s else { s with recovery := { s.recovery with remirrorFrom := s.recovery.remirrorFrom.or (some s.time) } }

/-- What a stack's failure begins with: it is told, and its replica suspended. -/
def State.failureTold (s : State) (stack witness p : Nat) : State :=
  (((s.raise evStackFailed p [stack, p, witness]).suspendReplica (replicaOf stack) stack witness).forgetTraps stack).wantRemirror

/-- The witnesses after which a die is retested: a trip, its region in B4, and its zone without supply. -/
def State.retestsAfter (s : State) (witness p : Nat) : Bool := (s.site p).retest || witness == 3 || witness == 4 || witness == 9

/-- The weights of a stack are lost where its twin does not hold them either. -/
def State.judgeWeights (s : State) (stack : Nat) : State := if s.obj .X0700 0 ≠ planNone ∧ !s.holdsWeights (twinOf stack) then s.loseWeights stack else s

theorem State.stackFail_eq {s : State} {stack p : Nat} (h : s.siteOf stack = some p) (witness : Nat) : s.stackFail stack witness =
    let v := s.failureTold stack witness p
    let again := v.retestsAfter witness p
    let w := (v.siteGone p (fun q => { q with retest := again, usable := q.usable && again }) (if witness = 9 then spareLost else spareUnusable)).judgeWeights stack
    w.promote stack p w.time := by
  unfold State.stackFail
  rw [h]
  rfl

theorem State.forgetTraps_keeps (s : State) (stack : Nat) : Keeps [.waves] [] s (s.forgetTraps stack) :=
  .of_parts (by rw [unchangedBut_iff]; simp [State.forgetTraps]) (by decide)

theorem State.wantRemirror_keeps (s : State) : Keeps [.recovery] [] s s.wantRemirror := .ite (.refl _ _ _) (s.recovery_keeps _)

theorem State.failureTold_spec (s : State) (stack witness p : Nat) : let t := s.failureTold stack witness p
    Keeps suspendParts suspendObjs s t ∧ s.SameSupply t ∧
      t.obj .X0F03 (replicaOf stack) = if s.obj .X0F03 (replicaOf stack) = 3 then 3 else 1 := by
  let u := s.raise evStackFailed p [stack, p, witness]
  let v := u.suspendReplica (replicaOf stack) stack witness
  have hraise : Keeps suspendParts suspendObjs s u := (s.raise_keeps _ _ _).mono (by decide)
  have hsuspend : Keeps suspendParts suspendObjs u v := u.suspendReplica_keeps _ _ _
  have hrest : Keeps [.waves, .recovery] [] v (s.failureTold stack witness p) :=
    ((v.forgetTraps_keeps stack).mono (by decide)).trans ((State.wantRemirror_keeps _).mono (by decide))
  have hsame : s.SameSupply u := fun _ => ⟨rfl, rfl, rfl⟩
  refine ⟨(hraise.trans hsuspend).trans (hrest.mono (by decide)), ?_, ?_⟩
  · exact (hsame.trans (u.suspendReplica_sameSupply _ _ _)).trans (.of_unchanged hrest.1 (by decide))
  · rw [hrest.obj _ _ List.not_mem_nil]
    exact u.suspendReplica_shown _ _ _

/-- What the loss of weights may change. -/
def weightParts : List Part := .out :: .log :: .plan :: dropParts
def weightObjs : List Obj := .X0700 :: dropObjs

theorem State.judgeWeights_keeps (s : State) (stack : Nat) : Keeps weightParts weightObjs s (s.judgeWeights stack) := by
  have hstreams (l : List Stream) (u : State) : Keeps weightParts weightObjs u (l.foldl (fun s x => s.endStream x 4 .aborted) u) := by
    refine .foldl (fun s x => ?_) l u
    exact (s.endStream_keeps x 4 .aborted).mono (by decide)
  have hplan (u : State) (x : AMap (Nat × Nat) (Option Wave)) (y : Plan) : Keeps weightParts weightObjs u { u with waves := x, plan := y } :=
    (Keeps.of_parts (l := [.waves, .plan]) (by rw [unchangedBut_iff]; simp) (by decide)).mono (by decide)
  refine .ite ?_ (.refl _ _ s)
  exact ((((s.raise_keeps _ _ _).mono (by decide)).trans (hstreams _ _)).trans (hplan _ _ _)).trans ((State.setObj_keeps _ _ _ _).mono (by decide))

/-- The state in which a failed stack's place is given to a spare. -/
theorem State.stackFail_spec {s : State} {stack p : Nat} (hstack : stack < 96) (h : s.siteOf stack = some p) (witness : Nat) :
    ∃ w : State, s.stackFail stack witness = w.promote stack p s.time ∧ w.nextSpare (replicaOf stack) = s.nextSpare (replicaOf stack) ∧
      w.time = s.time ∧ (w.site p).powered = false ∧ w.inService p = false ∧ w.obj .X0F08 0 = s.obj .X0F08 0 ∧
      w.obj .X0F03 (replicaOf stack) = if s.obj .X0F03 (replicaOf stack) = 3 then 3 else 1 := by
  let v := s.failureTold stack witness p
  let f : Site → Site := fun q => { q with retest := v.retestsAfter witness p, usable := q.usable && v.retestsAfter witness p }
  let g := v.siteGone p f (if witness = 9 then spareLost else spareUnusable)
  obtain ⟨hv, hsupply, hshown⟩ := s.failureTold_spec stack witness p
  obtain ⟨hg, hsite, hothers, hservice, hports⟩ := v.siteGone_spec p f (if witness = 9 then spareLost else spareUnusable)
  have hw := g.judgeWeights_keeps stack
  have hobj {o : Obj} (i : Nat) (h1 : o ∉ suspendObjs) (h2 : o ∉ siteGoneObjs) (h3 : o ∉ weightObjs) : (g.judgeWeights stack).obj o i = s.obj o i :=
    (hw.obj o i h3).trans ((hg.obj o i h2).trans (hv.obj o i h1))
  have hstacks (l : Nat) : (g.judgeWeights stack).obj .X0F01 l = s.obj .X0F01 l := hobj l (by decide) (by decide) (by decide)
  have hplace : s.obj .X0F01 stack = p := by
    unfold State.siteOf at h
    dsimp only at h
    split at h
    · exact Option.some.inj h
    · exact absurd h (by simp)
  have htime : (g.judgeWeights stack).time = s.time := (hw.1.time (by decide)).trans ((hg.1.time (by decide)).trans (hv.1.time (by decide)))
  have hdormant (q : Nat) : (g.judgeWeights stack).dormant q = s.dormant q := by
    by_cases hq : q = p
    · rw [hq, State.dormant_of_stack hstack hplace, State.dormant_of_stack hstack ((hstacks stack).trans hplace)]
    · have hsame : (g.judgeWeights stack).site q = v.site q := (hw.1.site (by decide) q).trans (hothers q hq)
      obtain ⟨husable, hpowered, hretest⟩ := hsupply q
      refine State.dormant_congr ?_ (hsame ▸ husable) (hsame ▸ hpowered) (hsame ▸ hretest) hstacks ?_ ?_
      · exact (hw.obj _ _ (by decide)).trans ((hports q hq).trans (hv.obj _ _ (by decide)))
      · exact fun z => hobj z (by decide) (by decide) (by decide)
      · exact hobj q (by decide) (by decide) (by decide)
  refine ⟨g.judgeWeights stack, ?_, find?_congr_fun hdormant _, htime, ?_, ?_, hobj 0 (by decide) (by decide) (by decide), ?_⟩
  · rw [← htime]
    exact State.stackFail_eq h witness
  · rw [hw.1.site (by decide), hsite]
    rfl
  · rw [State.inService, hw.obj _ _ (by decide)]
    exact hservice
  · rw [hw.obj _ _ (by decide), hg.obj _ _ (by decide)]
    exact hshown

theorem exec_stackFailureDetect {s : State} {stack witness : Nat} (hholder : s.keeper.holder ≠ none) (hstack : stack < 96)
    (hseen : s.witnessed stack witness = true) (hfirst : s.failing stack = false) :
    exec (.stackFailureDetect stack witness) s = .next (s.stackFail stack witness) := by
  refine congrArg Host.Outcome.next (if_neg ?_)
  rw [Option.isNone_iff_eq_none, hseen, hfirst]
  rintro (h | h | h | h)
  · exact hholder h
  · omega
  · exact absurd h (by decide)
  · exact absurd h (by decide)

theorem exec_stackFailureDetect_promotes {s : State} {stack witness p q : Nat} (hholder : s.keeper.holder ≠ none) (hstack : stack < 96)
    (hseen : s.witnessed stack witness = true) (hfirst : s.failing stack = false) (hsite : s.siteOf stack = some p)
    (hnext : s.nextSpare (replicaOf stack) = some q) :
    ∃ t : State, exec (.stackFailureDetect stack witness) s = .next t ∧ t.obj .X0F01 stack = q ∧ t.obj .X0F08 0 = s.obj .X0F08 0 + 1 ∧
      (t.site p).powered = false ∧ t.inService p = false ∧
      t.obj .X0F03 (replicaOf stack) = (if s.obj .X0F03 (replicaOf stack) = 3 then 3 else 1) ∧
      mapGet default t.recovery.promos stack = { spare := q, old := p, stage := 1, start := s.time, since := s.time } := by
  obtain ⟨w, heq, hspare, htime, hpowered, hservice, hcount, hshown⟩ := State.stackFail_spec hstack hsite witness
  obtain ⟨hkeeps, hplace, hpromoted, hpromo⟩ := State.promote_of_spare (hspare.trans hnext) p s.time
  refine ⟨_, (exec_stackFailureDetect hholder hstack hseen hfirst).trans (congrArg Host.Outcome.next heq), hplace, ?_, ?_, ?_, ?_, ?_⟩
  · rw [hpromoted, hcount]
  · rw [hkeeps.1.site (by decide), hpowered]
  · rw [State.inService, hkeeps.obj _ _ (by decide)]
    exact hservice
  · rw [hkeeps.obj _ _ (by decide), hshown]
  · rw [hpromo, htime]

theorem exec_stackFailureDetect_exhausted {s : State} {stack witness p : Nat} (hholder : s.keeper.holder ≠ none) (hstack : stack < 96)
    (hseen : s.witnessed stack witness = true) (hfirst : s.failing stack = false) (hsite : s.siteOf stack = some p)
    (hnext : s.nextSpare (replicaOf stack) = none) :
    ∃ t : State, exec (.stackFailureDetect stack witness) s = .next t ∧ t.obj .X0F01 stack = 255 ∧ t.obj .X0F03 (replicaOf stack) = 3 ∧
      (t.site p).powered = false ∧ t.log.events.head?.map (fun e => (e.code, e.data)) = some (evSparesExhausted, [replicaOf stack]) := by
  obtain ⟨w, heq, hspare, -, hpowered, -⟩ := State.stackFail_spec hstack hsite witness
  obtain ⟨hkeeps, hplace, hout, hevent⟩ := State.promote_of_none (hspare.trans hnext) p s.time
  refine ⟨_, (exec_stackFailureDetect hholder hstack hseen hfirst).trans (congrArg Host.Outcome.next heq), hplace, hout, ?_, hevent⟩
  rw [hkeeps.1.site (by decide), hpowered]

theorem exec_stackFailureDetect_unseen {s : State} {stack witness : Nat} (h : s.witnessed stack witness = false) :
    exec (.stackFailureDetect stack witness) s = .next s :=
  congrArg Host.Outcome.next (if_pos (.inr (.inr (.inr (by rw [h]; rfl)))))

/-! ### Liveness (R367) -/

theorem exec_siteSilent {s : State} {p : Nat} (hpowered : (s.site p).powered = true) (hheard : (s.site p).silent = false)
    (hlate : (s.site p).liveAt + 8000 ≤ s.time) :
    ∃ t : State, exec (.siteSilent p) s = .next t ∧ (t.site p).silent = true ∧ t.inService p = false ∧ sameMemory s t := by
  let v := s.setSite p { s.site p with silent := true }
  obtain ⟨hkeeps, -⟩ := v.abrupt_keeps p false
  have hgoes : (s.site p).powered = true ∧ (!(s.site p).silent) = true ∧ (s.site p).liveAt + 8000 ≤ s.time := ⟨hpowered, by rw [hheard]; rfl, hlate⟩
  refine ⟨v.abrupt p false, congrArg Host.Outcome.next (if_pos hgoes), ?_, v.abrupt_inService p false, ?_⟩
  · rw [hkeeps.1.site (by decide)]
    exact congrArg Site.silent (State.site_setSite _ _ _)
  · exact (((s.setSite_unchanged _ _).mono (l' := .sites :: withdrawParts) (by decide)).trans (hkeeps.1.mono (by decide))).memory (by decide) (by decide)

/-! ### A retest (R374) -/

/-- A site that is retested: what heat or its zone took is forgotten. -/
def State.retested (s : State) (p : Nat) (usable : Bool) : State :=
  s.setSite p { s.site p with retest := false, tripped := false, usable := usable }

/-- A die whose test is over is a dormant spare, or unusable until field service. -/
def State.showRetest (s : State) (p : Nat) : State :=
  if (s.site p).usable then (s.setObj .B0601 p portDormant).showSpare p spareDormant else s.showSpare p spareUnusable

section
variable {s : State} {p : Nat} (hsite : isSite p = true) (hretest : (s.site p).retest = true) (hoff : (s.site p).powered = false)
  (hfree : s.stackOf p = none) (hband : s.band p ≤ 2) (hzone : s.zoneOn (zoneOf p) = true)
include hsite hretest hoff hfree hband hzone

theorem exec_stackRetest (usable : Bool) : exec (.stackRetest p usable) s =
    .next ((if usable then ((s.retested p usable).checkTileDie p).remap p [] [] else s.retested p usable).showRetest p) := by
  have hgoes : ¬((!isSite p) = true ∨ (!(s.site p).retest) = true ∨ (s.site p).powered = true ∨ (s.stackOf p).isSome = true ∨ 2 < s.band p ∨
      (!s.zoneOn (zoneOf p)) = true) := by
    rw [hsite, hretest, hoff, hfree, hzone]
    simp only [Bool.not_true, Bool.false_eq_true, Option.isSome_none, false_or, or_false]
    omega
  exact congrArg Host.Outcome.next (if_neg hgoes)

end

theorem State.checkTileDie_of_sound {s : State} {p : Nat} (hfault : TileFuse.fault (s.obj .K0E05 p) = false) (hplace : TileFuse.site (s.obj .K0E05 p) = p) :
    s.checkTileDie p = s := if_pos (by rw [hfault, hplace]; simp)

theorem State.remap_keeps (s : State) (p : Nat) (bad dead : List Nat) : Keeps [.sites, .objs] [.S0400, .S0401, .S0402] s (s.remap p bad dead) :=
  ((((s.setObj_keeps _ _ _).mono (by decide)).trans ((State.setObj_keeps _ _ _ _).mono (by decide))).trans
    ((State.setObj_keeps _ _ _ _).mono (by decide))).trans ((Keeps.of_parts (State.setSite_unchanged _ _ _) (by decide)).mono (by decide))

/-- What a remapping changes of a site: which of its tiles are out, and whether it is usable. -/
theorem State.remap_site (s : State) (p : Nat) (bad dead : List Nat) : ∃ out b,
    (s.remap p bad dead).site p = { s.site p with out := out, mapOut := out, usable := b } := ⟨_, _, State.site_setSite _ _ _⟩

theorem State.showRetest_keeps (s : State) (p : Nat) : Keeps [.objs] [.B0601, .X0F02] s (s.showRetest p) :=
  .ite (((s.setObj_keeps _ _ _).mono (by decide)).trans ((State.showSpare_keeps _ _ _).mono (by decide))) ((s.showSpare_keeps _ _).mono (by decide))

theorem State.showRetest_dormant {s : State} {p : Nat} (h : (s.site p).usable = true) : (s.showRetest p).obj .B0601 p = 3 := by
  rw [State.showRetest, if_pos h, (State.showSpare_keeps _ _ _).obj _ _ (by decide)]
  exact State.obj_setObj _ _ _ _

theorem State.showRetest_of_unusable {s : State} {p : Nat} (h : (s.site p).usable = false) : s.showRetest p = s.showSpare p spareUnusable :=
  if_neg (by rw [h]; exact Bool.false_ne_true)

end Sys2Proof.Machine
end

section
/-!
The stages of a promotion (R84 to R89, R92, R348, R372, R389; Table 15.3).
-/

namespace Sys2Proof.Machine

/-! ### What the stages do to sites and columns -/

theorem State.showRail_keeps (s : State) (p r mv : Nat) : Keeps [.objs] [.P0C0D] s (s.showRail p r mv) := s.setObj_keeps _ _ _

/-- What powering a site may change. -/
def powerSiteParts : List Part := [.heat, .objs, .sites]
def powerSiteObjs : List Obj := [.T0126, .M050D, .C0B06, .P0C0D]

theorem State.powerSite_spec (s : State) (p : Nat) :
    Keeps powerSiteParts powerSiteObjs s (s.powerSite p) ∧ ((s.powerSite p).site p).powered = true := by
  let u := (s.bringUp p 0 30).setObj .M050D p 0
  let q : Site := { Site.reset with powered := true, usable := (u.site p).usable, mapOut := (u.site p).mapOut, liveAt := u.time }
  let v := u.setSite p q
  have hu : Keeps powerSiteParts powerSiteObjs s u := ((s.bringUp_keeps p 0 30).mono (by decide)).trans ((State.setObj_keeps _ _ _ _).mono (by decide))
  have hv : Keeps powerSiteParts powerSiteObjs u v := (Keeps.of_parts (u.setSite_unchanged p q) (by decide)).mono (by decide)
  have hw : Keeps [.objs] [.C0B06, .P0C0D] v (s.powerSite p) :=
    ((((v.setObj_keeps _ _ _).mono (by decide)).trans ((State.showRail_keeps _ _ _ _).mono (by decide))).trans
      ((State.showRail_keeps _ _ _ _).mono (by decide))).trans ((State.showRail_keeps _ _ _ _).mono (by decide))
  refine ⟨(hu.trans hv).trans (hw.mono (by decide)), ?_⟩
  rw [hw.1.site (by decide)]
  exact congrArg Site.powered (u.site_setSite p q)

/-- Every site is as powered as before. -/
def State.SamePower (s t : State) : Prop := ∀ q, (t.site q).powered = (s.site q).powered

theorem State.setSite_samePower (s : State) (p : Nat) {v : Site} (h : v.powered = (s.site p).powered) : s.SamePower (s.setSite p v) := fun q => by
  by_cases hq : q = p
  · rw [hq, State.site_setSite, h]
  · rw [State.site_setSite_ne _ _ hq]

theorem State.SamePower.trans {s t u : State} (h : s.SamePower t) (h' : t.SamePower u) : s.SamePower u := fun q => (h' q).trans (h q)

theorem State.SamePower.of_unchanged {l : List Part} {s t : State} (h : unchangedBut l s t) (hl : Part.sites ∉ l) : s.SamePower t :=
  fun q => by rw [h.site hl]

/-- A die is found unusable. -/
def State.condemn (s : State) (p : Nat) : State := (s.setSite p { s.site p with usable := false }).showSpare p spareUnusable

theorem State.condemn_spec (s : State) (p : Nat) : Keeps [.sites, .objs] [.X0F02] s (s.condemn p) ∧ s.SamePower (s.condemn p) := by
  let q : Site := { s.site p with usable := false }
  have hset : Keeps [.sites] [] s (s.setSite p q) := .of_parts (s.setSite_unchanged p q) (by decide)
  have hshown : Keeps [.objs] [.X0F02] (s.setSite p q) (s.condemn p) := (s.setSite p q).showSpare_keeps p spareUnusable
  exact ⟨(hset.mono (by decide)).trans (hshown.mono (by decide)), (s.setSite_samePower p (v := q) rfl).trans (.of_unchanged hshown.1 (by decide))⟩

theorem State.claimBad_spec (s : State) (p claim : Nat) : Keeps [.sites, .objs] [.X0F02] s (s.claimBad p claim) ∧ s.SamePower (s.claimBad p claim) := by
  have hone (u : State) (q : Nat) : Keeps [.sites, .objs] [.X0F02] u (if isSite q ∧ TileFuse.site (u.obj .K0E05 q) = claim then u.condemn q else u) ∧
      u.SamePower (if isSite q ∧ TileFuse.site (u.obj .K0E05 q) = claim then u.condemn q else u) := by
    split
    · exact u.condemn_spec q
    · exact ⟨.refl _ _ _, fun _ => rfl⟩
  obtain ⟨hp, hpower⟩ := hone s p
  obtain ⟨hclaim, hpower'⟩ := hone _ claim
  exact ⟨hp.trans hclaim, hpower.trans hpower'⟩

/-- A die whose fuses do not name its place is told, and condemned with every die that claims that place. -/
theorem State.checkTileDie_spec (s : State) (p : Nat) :
    Keeps [.sites, .objs, .log] [.K0E06, .X0F02] s (s.checkTileDie p) ∧ s.SamePower (s.checkTileDie p) := by
  let u := (s.raise evIdentityMismatch p [p, TileFuse.site (s.obj .K0E05 p)]).setBit .K0E06 0 p true
  have hu : Keeps [.sites, .objs, .log] [.K0E06, .X0F02] s u := ((s.raise_keeps _ _ _).mono (by decide)).trans ((State.setBit_keeps _ _ _ _ _).mono (by decide))
  obtain ⟨hbad, hpower⟩ := u.claimBad_spec p (TileFuse.site (s.obj .K0E05 p))
  obtain ⟨hcondemn, hpower'⟩ := (u.claimBad p (TileFuse.site (s.obj .K0E05 p))).condemn_spec p
  have hsame : s.SamePower u := fun _ => rfl
  unfold State.checkTileDie
  dsimp only
  split
  · exact ⟨.refl _ _ _, fun _ => rfl⟩
  · exact ⟨(hu.trans (hbad.mono (by decide))).trans (hcondemn.mono (by decide)), (hsame.trans hpower).trans hpower'⟩

theorem State.remap_samePower (s : State) (p : Nat) (bad dead : List Nat) : s.SamePower (s.remap p bad dead) := fun q => by
  by_cases hq : q = p
  · obtain ⟨out, b, h⟩ := s.remap_site p bad dead
    rw [hq, h]
  · have h : (s.remap p bad dead).site q = s.site q := State.site_setSite_ne _ _ hq
    rw [h]

theorem State.physOf_congr {s t : State} (h : ∀ i, t.obj .S0400 i = s.obj .S0400 i) (p k : Nat) : t.physOf p k = s.physOf p k := by
  simp only [State.physOf, State.mapValue, h]

/-- The columns of logical tiles that move start from reset, and no other part changes with them. -/
theorem State.settleMap_spec (s : State) (p : Nat) (bad dead : List Nat) : let t := s.settleMap p bad dead
    Keeps [.cols] [] (s.remap p bad dead) t ∧ ∀ k, k < 48 → s.physOf p k ≠ (s.remap p bad dead).physOf p k → t.colServes p k = false := by
  have hstep (u : State) (k : Nat) : Keeps [.cols] [] u (if s.physOf p k = (s.remap p bad dead).physOf p k then u else u.setCol p k VaultCol.reset) :=
    .ite (.refl _ _ _) (.of_parts (u.setCol_unchanged _ _ _) (by decide))
  refine ⟨.foldl hstep _ _, fun k hk => ?_⟩
  refine foldl_establishes (P := fun u k => s.physOf p k ≠ (s.remap p bad dead).physOf p k → u.colServes p k = false)
    (fun u k hmoves => ?_) (fun u x y h hmoves => ?_) (List.range 48) (s.remap p bad dead) k (List.mem_range.mpr hk)
  · rw [if_neg hmoves, State.colServes, State.col_setCol]
    rfl
  · split
    · exact h hmoves
    · by_cases hy : y = x
      · rw [hy, State.colServes, State.col_setCol]
        rfl
      · have hne : (p, y) ≠ (p, x) := fun e => hy (congrArg Prod.snd e)
        rw [State.colServes, State.col_setCol_ne _ _ hne]
        exact h hmoves

/-! ### A stage ends (Table 15.3) -/

theorem State.promoNext_keeps (s : State) (stack : Nat) (o : Promo) (n : Nat) : Keeps [.recovery] [] s (s.promoNext stack o n) := s.recovery_keeps _

theorem State.promoNext_promo (s : State) (stack : Nat) (o : Promo) (n : Nat) :
    mapGet default (s.promoNext stack o n).recovery.promos stack = { o with stage := n, since := s.time } := mapGet_mapSet_same _ _ _ _

theorem State.promoNext_site (s : State) (stack : Nat) (o : Promo) (n q : Nat) : (s.promoNext stack o n).site q = s.site q := rfl

/-- A spare whose die is found unusable has failed its stage. -/
def State.judgeSpare (s : State) (stack : Nat) (o : Promo) : State := if (s.site o.spare).usable then s else s.promoFail stack o

theorem State.judgeSpare_of_usable {s : State} {o : Promo} (h : (s.site o.spare).usable = true) (stack : Nat) : s.judgeSpare stack o = s := if_pos h

/-- What the end of a stage leaves of the promotion: the next stage has begun now. -/
def State.Promoted (s t : State) (stack : Nat) (o : Promo) (n : Nat) : Prop :=
  mapGet default t.recovery.promos stack = { o with stage := n, since := s.time }

theorem State.promoted_next {s u : State} (stack : Nat) (o : Promo) (n : Nat) (h : u.time = s.time) : s.Promoted (u.promoNext stack o n) stack o n := by
  rw [State.Promoted, ← h]
  exact u.promoNext_promo stack o n

section
variable {s : State} {stack : Nat} {o : Promo}

theorem State.promoStage_two (h : o.stage = 2) (bad : List Nat) (furrows : List (Nat × Nat)) : s.promoStage stack o bad furrows =
    ((((s.powerSite o.spare).checkTileDie o.spare).remap o.spare [] []).promoNext stack o (o.stage + 1)).judgeSpare stack o := by
  rw [State.promoStage, if_pos h]
  rfl

theorem State.promoStage_powers (h : o.stage = 2)
    (husable : ((((s.powerSite o.spare).checkTileDie o.spare).remap o.spare [] []).site o.spare).usable = true) :
    let t := s.promoStage stack o [] []
    s.Promoted t stack o (o.stage + 1) ∧ (t.site o.spare).powered = true ∧ sameMemory s t := by
  obtain ⟨hpowered, hon⟩ := s.powerSite_spec o.spare
  obtain ⟨hchecked, hsame⟩ := (s.powerSite o.spare).checkTileDie_spec o.spare
  have hmapped := ((s.powerSite o.spare).checkTileDie o.spare).remap_keeps o.spare [] []
  have hpower := ((s.powerSite o.spare).checkTileDie o.spare).remap_samePower o.spare [] [] o.spare
  have hkeeps := ((hpowered.1.mono (l' := [.heat, .objs, .sites, .log]) (by decide)).trans (hchecked.1.mono (by decide))).trans (hmapped.1.mono (by decide))
  have hstage := State.promoStage_two (s := s) (stack := stack) h [] []
  generalize ((s.powerSite o.spare).checkTileDie o.spare).remap o.spare [] [] = u at *
  have hnext := (u.promoNext_keeps stack o (o.stage + 1)).1
  have ht : s.promoStage stack o [] [] = u.promoNext stack o (o.stage + 1) := by
    rw [hstage, State.judgeSpare_of_usable]
    rw [State.promoNext_site]
    exact husable
  simp only [ht]
  refine ⟨State.promoted_next stack o _ (hkeeps.time (by decide)), ?_, ?_⟩
  · rw [State.promoNext_site, hpower, hsame, hon]
  · exact ((hkeeps.mono (l' := [.heat, .objs, .sites, .log, .recovery]) (by decide)).trans (hnext.mono (by decide))).memory (by decide) (by decide)

theorem State.promoStage_columns (h : o.stage = 3 ∨ o.stage = 4) (hready : s.columnsReady o.spare = true) (bad : List Nat) (furrows : List (Nat × Nat)) :
    s.promoStage stack o bad furrows = s.promoNext stack o (o.stage + 1) := by
  rw [State.promoStage, if_neg (by omega), if_pos h]
  exact if_pos hready

theorem furrowFailures_nil : furrowFailures [] = ([], []) := by decide +kernel

theorem State.promoStage_sound (h : o.stage = 5) : s.promoStage stack o [] [] = s.promoNext stack o (o.stage + 1) := by
  rw [State.promoStage, if_neg (by omega), if_neg (by omega), if_pos h, furrowFailures_nil]
  rfl

/-- Bad tiles are mapped out, and the columns that move are cleared and trained again. -/
theorem State.promoStage_mapsOut {bad : List Nat} (h : o.stage = 5) (hbad : bad ≠ []) (husable : ((s.remap o.spare bad []).site o.spare).usable = true) :
    s.promoStage stack o bad [] = (s.settleMap o.spare bad []).promoNext stack o 3 := by
  obtain ⟨hcols, -⟩ := s.settleMap_spec o.spare bad []
  have hstill : (((s.settleMap o.spare bad []).promoNext stack o 3).site o.spare).usable = true := by
    rw [State.promoNext_site, hcols.1.site (by decide)]
    exact husable
  rw [State.promoStage, if_neg (by omega), if_neg (by omega), if_pos h, furrowFailures_nil]
  dsimp only
  rw [if_neg (fun hnone => hbad hnone.1), List.append_nil]
  exact if_pos hstill

theorem State.joinBase_spec (s : State) (p : Nat) : Keeps [.pathOk, .objs, .log] [.B0601] s (s.joinBase p) ∧ (s.joinBase p).obj .B0601 p = portInService := by
  refine ⟨?_, State.obj_setObj _ _ _ _⟩
  exact (((Keeps.of_parts (l := [.pathOk]) (by rw [unchangedBut_iff]; simp) (by decide)).mono (by decide)).trans
    ((State.setObj_keeps _ _ _ _).mono (by decide))).trans ((State.raise_keeps _ _ _ _).mono (by decide))

theorem State.promoStage_joins (h : o.stage = 6) (hpaths : s.pathsPassed o.spare = true) (hpassed : s.passed 4 o.spare = true) :
    let t := s.promoStage stack o [] []
    s.Promoted t stack o (o.stage + 1) ∧ t.inService o.spare = true ∧ sameMemory s t := by
  let u := s.promoNext stack o (o.stage + 1)
  let v := (u.joinBase o.spare).takePassed 4 o.spare
  obtain ⟨hjoined, hport⟩ := u.joinBase_spec o.spare
  have hgoes : ¬((!s.pathsPassed o.spare) = true ∨ (!s.passed 4 o.spare) = true) := by simp [hpaths, hpassed]
  obtain ⟨c, ht⟩ : ∃ c : Bool, s.promoStage stack o [] [] = if c then v.setObj .X0F03 (replicaOf stack) repRefilling else v := by
    refine ⟨decide (v.obj .X0F03 (replicaOf stack) = repSuspended ∧
      v.recovery.promos.all (fun e => replicaOf e.1 != replicaOf stack || decide (7 ≤ e.2.stage)) = true), ?_⟩
    rw [State.promoStage, if_neg (by omega), if_neg (by omega), if_neg (by omega), if_pos h, if_neg hgoes]
    simp only [decide_eq_true_eq]
    rfl
  have hlast : Keeps [.objs] [.X0F03] v (s.promoStage stack o [] []) := by
    rw [ht]
    exact .ite (v.setObj_keeps _ _ _) (.refl _ _ _)
  have hv : Keeps [.recovery, .pathOk, .objs, .log, .compare] [.B0601] s v :=
    (((s.promoNext_keeps stack o _).mono (by decide)).trans (hjoined.mono (by decide))).trans ((State.compare_keeps _ _).mono (by decide))
  have hrecovery : (s.promoStage stack o [] []).recovery = u.recovery := (hlast.1 .recovery (by decide)).trans (hjoined.1 .recovery (by decide))
  refine ⟨?_, ?_, ((hv.1.mono (by decide)).trans (hlast.1.mono (by decide))).memory (l := [.recovery, .pathOk, .objs, .log, .compare]) (by decide) (by decide)⟩
  · rw [State.Promoted, hrecovery]
    exact s.promoNext_promo stack o (o.stage + 1)
  · rw [State.inService, hlast.obj _ _ (by decide)]
    exact beq_iff_eq.mpr hport

theorem State.refill_keeps (s : State) (stack : Nat) : Keeps [.mem, .poison] [] s (s.refill stack) := by
  have hput (u : State) (a : Nat) (l : List Cell32) : Keeps [.mem, .poison] [] u (u.putUnits a l) := .of_parts (u.putUnits_unchanged a l) (by decide)
  unfold State.refill
  split
  · refine (Keeps.foldl (fun u e => ?_) _ s).trans (.foldl (fun u e => ?_) _ _)
    · exact .ite (hput _ _ _) (.refl _ _ _)
    · exact .ite (hput _ _ _) (.refl _ _ _)
  · exact .refl _ _ _

theorem State.promoStage_refills (h : o.stage = 7) (hdone : o.since + s.refillBytes stack / s.obj .X0F04 0 ≤ s.time) :
    s.Promoted (s.promoStage stack o [] []) stack o (o.stage + 1) := by
  have ht : s.promoStage stack o [] [] = (s.refill stack).promoNext stack o (o.stage + 1) := by
    rw [State.promoStage, if_neg (by omega), if_neg (by omega), if_neg (by omega), if_neg (by omega), if_pos h]
    exact if_neg (Nat.not_lt.mpr hdone)
  rw [ht]
  exact State.promoted_next stack o _ ((s.refill_keeps stack).1.time (by decide))

theorem State.promoStage_early (h : o.stage < 2) : s.promoStage stack o [] [] = s.promoNext stack o (o.stage + 1) := by
  rw [State.promoStage, if_neg (by omega), if_neg (by omega), if_neg (by omega), if_neg (by omega), if_neg (by omega), if_pos (by omega)]

theorem exec_promotionStageDone_pass (hpromo : s.recovery.promos.find? (fun e => e.1 == stack) = some (stack, o)) (bad : List Nat)
    (furrows : List (Nat × Nat)) : exec (.promotionStageDone stack true bad furrows) s = .next (s.promoStage stack o bad furrows) := by
  refine congrArg Host.Outcome.next ?_
  simp only [hpromo, if_true]

/-- A stage that passes leads to the next. -/
theorem exec_promotionStageDone_next (hpromo : s.recovery.promos.find? (fun e => e.1 == stack) = some (stack, o)) (hstage : o.stage ≤ 7)
    (hpower : o.stage = 2 → ((((s.powerSite o.spare).checkTileDie o.spare).remap o.spare [] []).site o.spare).usable = true)
    (hready : o.stage = 3 ∨ o.stage = 4 → s.columnsReady o.spare = true) (hjoin : o.stage = 6 → s.pathsPassed o.spare = true ∧ s.passed 4 o.spare = true)
    (hdone : o.stage = 7 → o.since + s.refillBytes stack / s.obj .X0F04 0 ≤ s.time) :
    ∃ t : State, exec (.promotionStageDone stack true [] []) s = .next t ∧ s.Promoted t stack o (o.stage + 1) ∧
      (o.stage = 2 → (t.site o.spare).powered = true) ∧ (o.stage = 6 → t.inService o.spare = true) ∧ (o.stage ≠ 7 → sameMemory s t) := by
  refine ⟨_, exec_promotionStageDone_pass hpromo [] [], ?_⟩
  have hnext (h : s.promoStage stack o [] [] = s.promoNext stack o (o.stage + 1)) :
      s.Promoted (s.promoStage stack o [] []) stack o (o.stage + 1) ∧ sameMemory s (s.promoStage stack o [] []) := by
    rw [h]
    exact ⟨State.promoted_next stack o _ rfl, (s.promoNext_keeps stack o _).1.memory (by decide) (by decide)⟩
  obtain h | h | h | h | h | h : o.stage < 2 ∨ o.stage = 2 ∨ (o.stage = 3 ∨ o.stage = 4) ∨ o.stage = 5 ∨ o.stage = 6 ∨ o.stage = 7 := by omega
  · obtain ⟨hpromoted, hmemory⟩ := hnext (State.promoStage_early h)
    exact ⟨hpromoted, fun h' => absurd h' (by omega), fun h' => absurd h' (by omega), fun _ => hmemory⟩
  · obtain ⟨hpromoted, hon, hmemory⟩ := State.promoStage_powers (stack := stack) h (hpower h)
    exact ⟨hpromoted, fun _ => hon, fun h' => absurd h' (by omega), fun _ => hmemory⟩
  · obtain ⟨hpromoted, hmemory⟩ := hnext (State.promoStage_columns h (hready h) [] [])
    exact ⟨hpromoted, fun h' => absurd h' (by omega), fun h' => absurd h' (by omega), fun _ => hmemory⟩
  · obtain ⟨hpromoted, hmemory⟩ := hnext (State.promoStage_sound h)
    exact ⟨hpromoted, fun h' => absurd h' (by omega), fun h' => absurd h' (by omega), fun _ => hmemory⟩
  · obtain ⟨hpaths, hpassed⟩ := hjoin h
    obtain ⟨hpromoted, hservice, hmemory⟩ := State.promoStage_joins (stack := stack) h hpaths hpassed
    exact ⟨hpromoted, fun h' => absurd h' (by omega), fun _ => hservice, fun _ => hmemory⟩
  · exact ⟨State.promoStage_refills h (hdone h), fun h' => absurd h' (by omega), fun h' => absurd h' (by omega), fun hne => absurd h hne⟩

theorem exec_promotionStageDone_mapsOut {bad : List Nat} (hpromo : s.recovery.promos.find? (fun e => e.1 == stack) = some (stack, o))
    (hstage : o.stage = 5) (hbad : bad ≠ []) (husable : ((s.remap o.spare bad []).site o.spare).usable = true) :
    ∃ t : State, exec (.promotionStageDone stack true bad []) s = .next t ∧ s.Promoted t stack o 3 ∧
      (t.site o.spare).mapOut = ((s.remap o.spare bad []).site o.spare).mapOut ∧
      (∀ k, k < 48 → s.physOf o.spare k ≠ t.physOf o.spare k → t.colServes o.spare k = false) ∧ sameMemory s t := by
  have hexec := (exec_promotionStageDone_pass hpromo bad []).trans (congrArg Host.Outcome.next (State.promoStage_mapsOut hstage hbad husable))
  have hmap := s.remap_keeps o.spare bad []
  obtain ⟨hcols, hmoved⟩ := s.settleMap_spec o.spare bad []
  generalize s.settleMap o.spare bad [] = v at *
  generalize s.remap o.spare bad [] = u at *
  have hkeeps : unchangedBut [.sites, .objs, .cols] s v := (hmap.1.mono (by decide)).trans (hcols.1.mono (by decide))
  have hnext := v.promoNext_keeps stack o 3
  have hphys (k : Nat) : (v.promoNext stack o 3).physOf o.spare k = u.physOf o.spare k :=
    State.physOf_congr (fun i => (hnext.obj _ i List.not_mem_nil).trans (hcols.obj _ i List.not_mem_nil)) _ _
  refine ⟨_, hexec, State.promoted_next stack o 3 (hkeeps.time (by decide)), ?_, fun k hk hmoves => ?_, ?_⟩
  · rw [State.promoNext_site, hcols.1.site (by decide)]
  · exact hmoved k hk (hphys k ▸ hmoves)
  · exact ((hkeeps.mono (l' := [.sites, .objs, .cols, .recovery]) (by decide)).trans (hnext.1.mono (by decide))).memory (by decide) (by decide)

/-! ### A stage fails -/

/-- A spare that has failed a stage. -/
def State.spareFailed (s : State) (p : Nat) : State := (s.siteGone p (fun q => { q with usable := false }) spareUnusable).setObj .B0601 p portWithdrawn

theorem exec_promotionStageDone_fail (hpromo : s.recovery.promos.find? (fun e => e.1 == stack) = some (stack, o)) (hstage : o.stage < 7)
    (bad : List Nat) (furrows : List (Nat × Nat)) :
    exec (.promotionStageDone stack false bad furrows) s = .next ((s.spareFailed o.spare).promote stack o.old o.start) := by
  have hgoes : ¬(7 ≤ o.stage) := by omega
  refine congrArg Host.Outcome.next ?_
  simp only [hpromo, Bool.false_eq_true, if_false, if_neg hgoes]
  rfl

/-- The spare that is promoted next is another one: a port that is withdrawn is not dormant. -/
theorem State.promote_place {s : State} {p : Nat} (hport : s.obj .B0601 p = portWithdrawn) (hp : p < 112) (stack old start : Nat) :
    (s.promote stack old start).obj .X0F01 stack ≠ p ∧ Keeps [.objs, .log, .recovery] [.X0F01, .X0F02, .X0F03, .X0F08] s (s.promote stack old start) := by
  cases hnext : s.nextSpare (replicaOf stack) with
  | none =>
    obtain ⟨hkeeps, hplace, -⟩ := State.promote_of_none hnext old start
    exact ⟨by rw [hplace]; omega, hkeeps.mono (by decide)⟩
  | some q =>
    obtain ⟨hkeeps, hplace, -⟩ := State.promote_of_spare hnext old start
    have hdormant : s.dormant q = true := List.find?_some hnext
    refine ⟨?_, hkeeps.mono (by decide)⟩
    rw [hplace]
    rintro rfl
    simp only [State.dormant, hport, Bool.and_eq_true] at hdormant
    obtain ⟨⟨⟨⟨⟨⟨⟨-, hport'⟩, -⟩, -⟩, -⟩, -⟩, -⟩, -⟩ := hdormant
    exact absurd hport' (by decide)

theorem exec_promotionStageDone_fails (hpromo : s.recovery.promos.find? (fun e => e.1 == stack) = some (stack, o)) (hstage : o.stage < 7)
    (hspare : o.spare < 112) (bad : List Nat) (furrows : List (Nat × Nat)) :
    ∃ t : State, exec (.promotionStageDone stack false bad furrows) s = .next t ∧ (t.site o.spare).usable = false ∧ (t.site o.spare).powered = false ∧
      t.inService o.spare = false ∧ t.obj .X0F01 stack ≠ o.spare := by
  obtain ⟨-, hsite, -⟩ := s.siteGone_spec o.spare (fun q => { q with usable := false }) spareUnusable
  have hport : (s.spareFailed o.spare).obj .B0601 o.spare = portWithdrawn := State.obj_setObj _ _ _ _
  obtain ⟨hplace, hkeeps⟩ := State.promote_place hport hspare stack o.old o.start
  have hgone : ((s.spareFailed o.spare).promote stack o.old o.start).site o.spare = { (s.site o.spare).withoutSupply with usable := false } :=
    (hkeeps.1.site (by decide) o.spare).trans hsite
  refine ⟨_, exec_promotionStageDone_fail hpromo hstage bad furrows, ?_, ?_, ?_, hplace⟩
  · rw [hgone]
  · rw [hgone]
    rfl
  · rw [State.inService, hkeeps.obj _ _ (by decide), hport]
    rfl

end

end Sys2Proof.Machine
end

section
/-!
Replicas that serve again, streams that wait in vain, panels that are lost and adopted, and the levy (R373, R375, R377 to R383).
-/

namespace Sys2Proof.Machine

/-! ### What the end of a stream leaves of recovery -/

/-- The promotions under way, the replicas suspended and the panels adopted are the same. -/
def State.SameRecovery (s t : State) : Prop :=
  t.recovery.promos = s.recovery.promos ∧ t.recovery.suspendedAt = s.recovery.suspendedAt ∧ t.recovery.lost = s.recovery.lost

namespace State.SameRecovery
variable {s t u : State}

theorem refl (s : State) : s.SameRecovery s := ⟨rfl, rfl, rfl⟩

theorem trans (h : s.SameRecovery t) (h' : t.SameRecovery u) : s.SameRecovery u := by
  obtain ⟨hpromos, hsuspended, hlost⟩ := h
  obtain ⟨hpromos', hsuspended', hlost'⟩ := h'
  exact ⟨hpromos'.trans hpromos, hsuspended'.trans hsuspended, hlost'.trans hlost⟩

theorem of_unchanged {l : List Part} (h : unchangedBut l s t) (hl : Part.recovery ∉ l) : s.SameRecovery t := by
  have e : t.recovery = s.recovery := h .recovery hl
  rw [State.SameRecovery, e]
  exact ⟨rfl, rfl, rfl⟩

theorem foldl {α : Type} {f : State → α → State} (h : ∀ s x, State.SameRecovery s (f s x)) (l : List α) (s : State) : s.SameRecovery (l.foldl f s) := by
  induction l generalizing s with
  | nil => exact .refl s
  | cons x r ih => exact (h s x).trans (ih _)

end State.SameRecovery

theorem State.freeMirror_sameRecovery (s : State) (i : Nat) : s.SameRecovery (s.freeMirror i) := by
  unfold State.freeMirror
  split
  · exact ⟨rfl, rfl, rfl⟩
  · exact .refl s

theorem State.dropAdopted_sameRecovery (s : State) (panel : Option Nat) : s.SameRecovery (s.dropAdopted panel) := by
  cases panel with
  | none => exact .refl s
  | some p =>
    unfold State.dropAdopted
    dsimp only
    split
    · exact .refl s
    · exact ⟨rfl, rfl, rfl⟩

theorem State.released_sameRecovery (s : State) (x : Stream) : s.SameRecovery (s.released x) := by
  unfold State.released
  dsimp only
  split
  · exact State.SameRecovery.trans ⟨rfl, rfl, rfl⟩ (State.freeMirror_sameRecovery _ _)
  · exact ⟨rfl, rfl, rfl⟩

theorem State.endStream_sameRecovery (s : State) (x : Stream) (reason : Nat) (c : Code) : s.SameRecovery (s.endStream x reason c) := by
  have hdrop (u : State) : u.SameRecovery (u.dropStream x) := by
    rw [State.dropStream_eq]
    refine ((u.released_sameRecovery x).trans ?_).trans ((State.dropAdopted_sameRecovery _ _).trans (.of_unchanged (State.showStreams_keeps _).1 (by decide)))
    exact ⟨rfl, rfl, rfl⟩
  unfold State.endStream
  refine State.SameRecovery.trans ?_ (hdrop _)
  split
  · exact (State.SameRecovery.of_unchanged (s.send_keeps _).1 (by decide)).trans (.of_unchanged (State.tellFree_spec _ x).1.1 (by decide))
  · exact .refl s

/-! ### A replica serves again (R373) -/

/-- The replica shows that it serves, and its promotions are over. -/
def State.serving (s : State) (r : Nat) : State :=
  { s.setObj .X0F03 r repServing with recovery := { s.recovery with
    suspendedAt := mapDel s.recovery.suspendedAt r, promos := s.recovery.promos.filter (fun e => replicaOf e.1 != r) } }

/-- What a replica that serves again may change besides. -/
def resumeParts : List Part := .movers :: .out :: dropParts ++ waveParts
def resumeObjs : List Obj := dropObjs ++ waveObjs

theorem State.rerunWave_keeps (s : State) (w : Wave) : Keeps waveParts waveObjs s (s.rerunWave w) := by
  unfold State.rerunWave
  split
  · exact .refl _ _ _
  · exact .ite (.refl _ _ _) (s.runWave_keeps _ _)

theorem State.resumeMover_keeps (s : State) (p : Nat) : Keeps [.movers] [] s (s.resumeMover p).1 := by
  unfold State.resumeMover
  dsimp only
  split
  · exact .refl _ _ _
  · exact .of_parts (s.setMover_unchanged _ _) (by decide)

theorem exec_replicaResume {s : State} {r : Nat} (hnot : s.obj .X0F03 r ≠ 0) (hin : s.obj .X0F03 r ≠ 3)
    (hrefilled : ∀ e ∈ s.recovery.promos, replicaOf e.1 = r → 8 ≤ e.2.stage) (hports : ∀ p ∈ s.replicaSites r, s.inService p = true) :
    ∃ (u : State) (d : List Nat), exec (.replicaResume r) s = .next (u.raise evReplicaResumed noSubject (r :: d)) ∧
      Keeps resumeParts resumeObjs (s.serving r) u ∧ (s.serving r).SameRecovery u := by
  let v := s.serving r
  let new := (s.recovery.promos.filter (fun e => replicaOf e.1 == r)).map (fun e => e.1)
  let a := (v.streamList.filter (fun x => (!v.mirrorOn || x.unmirrored) && (v.kvMembers x).any (fun l => new.contains l))).foldl (fun s x => s.endStream x 4 .aborted) v
  let b := (a.streamList.filter (fun x => x.replica == r)).foldl (fun s x => s.setStream x.id (some (s.resumed x))) a
  let reset := usedPorts.filter (fun p => (b.mover p).stop = some .pathReset && !(b.recovery.resets.any (fun z => z.1 == zoneOf p)))
  let c := reset.foldl (fun s p => (s.resumeMover p).1) b
  let u := (c.waveList.filter (fun w => w.replica == r)).foldl (fun s w => s.rerunWave w) c
  have hgoes : ¬(s.obj .X0F03 r = repServing ∨ s.obj .X0F03 r = repOut ∨
      s.recovery.promos.any (fun e => replicaOf e.1 == r && decide (e.2.stage < 8)) = true ∨ (!(s.replicaSites r).all (fun p => s.inService p)) = true) := by
    rintro (h | h | h | h)
    · exact hnot h
    · exact hin h
    · obtain ⟨e, he, hlate⟩ := List.any_eq_true.mp h
      simp only [Bool.and_eq_true, beq_iff_eq, decide_eq_true_eq] at hlate
      exact absurd (hrefilled e he hlate.1) (by omega)
    · rw [List.all_eq_true.mpr hports] at h
      exact absurd h (by decide)
  have ha : Keeps (.out :: dropParts) dropObjs v a ∧ v.SameRecovery a := by
    constructor
    · refine .foldl (fun s x => ?_) _ v
      exact s.endStream_keeps _ _ _
    · refine .foldl (fun s x => ?_) _ v
      exact s.endStream_sameRecovery _ _ _
  have hb : Keeps [.streams] [] a b := by
    refine .foldl (fun s x => ?_) _ a
    exact s.setStream_keeps _ _
  have hc : Keeps [.movers] [] b c := by
    refine .foldl (fun s p => ?_) _ b
    exact s.resumeMover_keeps p
  have hu : Keeps waveParts waveObjs c u := by
    refine .foldl (fun s w => ?_) _ c
    exact s.rerunWave_keeps w
  have hab : Keeps resumeParts resumeObjs v b := (ha.1.mono (by decide)).trans (hb.mono (by decide))
  have hcu : Keeps resumeParts resumeObjs b u := (hc.mono (by decide)).trans (hu.mono (by decide))
  refine ⟨u, _, congrArg Host.Outcome.next (if_neg hgoes), hab.trans hcu, ?_⟩
  exact (ha.2.trans (.of_unchanged hb.1 (by decide))).trans ((State.SameRecovery.of_unchanged hc.1 (by decide)).trans (.of_unchanged hu.1 (by decide)))

theorem exec_replicaResume_spec {s : State} {r : Nat} (hnot : s.obj .X0F03 r ≠ 0) (hin : s.obj .X0F03 r ≠ 3)
    (hrefilled : ∀ e ∈ s.recovery.promos, replicaOf e.1 = r → 8 ≤ e.2.stage) (hports : ∀ p ∈ s.replicaSites r, s.inService p = true) :
    ∃ t : State, exec (.replicaResume r) s = .next t ∧ t.obj .X0F03 r = 0 ∧ (∀ e ∈ t.recovery.promos, replicaOf e.1 ≠ r) ∧
      (∀ e ∈ t.recovery.suspendedAt, e.1 ≠ r) ∧ t.log.events.head?.map (fun e => (e.code, e.data.head?)) = some (evReplicaResumed, some r) := by
  obtain ⟨u, d, hexec, hkeeps, hpromos, hsuspended, -⟩ := exec_replicaResume hnot hin hrefilled hports
  refine ⟨_, hexec, ?_, fun e he => ?_, fun e he => ?_, rfl⟩
  · exact (hkeeps.obj .X0F03 r (by decide)).trans (State.obj_setObj _ _ _ _)
  · have he' : e ∈ (s.serving r).recovery.promos := hpromos ▸ he
    simpa using (List.mem_filter.mp he').2
  · have he' : e ∈ (s.serving r).recovery.suspendedAt := hsuspended ▸ he
    exact fst_ne_of_mem_mapDel he'

/-! ### Streams of a replica that is out of service (R375) -/

theorem mem_streamList_of_stream {s : State} {i : Nat} {x : Stream} (h : s.stream i = some x) : x ∈ s.streamList := by
  have hmem (m : AMap Nat (Option Stream)) (h : mapGet none m i = some x) : x ∈ m.filterMap (fun p => p.2) := by
    induction m with
    | nil => exact absurd h (by simp [mapGet])
    | cons p r ih =>
      rw [mapGet] at h
      split at h
      · exact List.mem_filterMap.mpr ⟨p, List.mem_cons_self, h⟩
      · obtain ⟨q, hq, hx⟩ := List.mem_filterMap.mp (ih h)
        exact List.mem_filterMap.mpr ⟨q, List.mem_cons_of_mem _ hq, hx⟩
  exact hmem s.streams h

/-- Streams that end are no longer there. -/
theorem State.endStreams_stream (l : List Stream) (s : State) : ∀ x ∈ l, (l.foldl (fun s x => s.endStream x 4 .aborted) s).stream x.id = none := by
  refine foldl_establishes (P := fun s x => s.stream x.id = none) (fun s x => ?_) (fun s x y h => ?_) l s
  · rw [State.endStream_stream, if_pos rfl]
  · rw [State.endStream_stream, h, ite_self]

theorem exec_suspendedStreamTimeout {s : State} {r u : Nat} (hsince : s.recovery.suspendedAt.find? (fun e => e.1 == r) = some (r, u))
    (hout : s.obj .X0F03 r = 3) (hlate : u + 2000000000 ≤ s.time) : ∃ t : State, exec (.suspendedStreamTimeout r) s = .next t ∧
      (∀ i x, s.stream i = some x → x.id = i → x.replica = r → x.st = .suspended → t.stream i = none) ∧ sameMemory s t := by
  let l := s.streamList.filter (fun x => x.replica == r && decide (x.st = .suspended))
  let v := l.foldl (fun s x => s.endStream x 4 .aborted) s
  let t := (v.waveList.filter (fun w => w.replica == r)).foldl (fun s w => s.setWave w.replica w.slot none) v
  have hgoes : s.obj .X0F03 r = repOut ∧ u + 2000000000 ≤ s.time := ⟨hout, hlate⟩
  have hexec : exec (.suspendedStreamTimeout r) s = .next t := by
    refine congrArg Host.Outcome.next ?_
    simp only [hsince, if_pos hgoes]
    rfl
  have hv : Keeps (.out :: dropParts) dropObjs s v := by
    refine .foldl (fun s x => ?_) l s
    exact s.endStream_keeps _ _ _
  have ht : Keeps [.waves] [] v t := by
    refine .foldl (fun s w => ?_) _ v
    exact s.setWave_keeps _ _ _
  refine ⟨t, hexec, fun i x hx hid hreplica hst => ?_, ((hv.1.mono (l' := .out :: dropParts) (by decide)).trans (ht.1.mono (by decide))).memory (by decide) (by decide)⟩
  have hmem : x ∈ l := List.mem_filter.mpr ⟨mem_streamList_of_stream hx, by rw [hreplica, hst]; simp⟩
  rw [ht.1.stream (by decide), ← hid]
  exact State.endStreams_stream l s x hmem

/-! ### Panels are lost, and fence themselves (R377) -/

theorem State.showDeclared_keeps (s : State) : Keeps [.objs] [.X0F06] s s.showDeclared := s.setObj_keeps _ _ _

theorem exec_panelLost {s : State} (hdown : (s.directionDown 1).2 = true) (hnew : ∀ e ∈ s.recovery.declared, e.1 ≠ s.neighbour s.panelId 1) :
    ∃ t : State, exec .panelLost s = .next t ∧ t.recovery.declared = s.recovery.declared ++ [(s.neighbour s.panelId 1, s.panelId)] ∧
      t.recovery.xMinusDownAt = some s.time ∧
      t.log.events.head?.map (fun e => (e.code, e.data)) = some (evPanelLost, [s.neighbour s.panelId 1, linkBits (s.directionDown 1).1]) ∧
      objsBut [.X0F06] s t ∧ unchangedBut [.recovery, .objs, .log] s t := by
  let v : State := { s with recovery := { s.recovery with
    xMinusDownAt := some s.time, declared := s.recovery.declared ++ [(s.neighbour s.panelId 1, s.panelId)] } }
  have hgoes : ¬((!(s.directionDown 1).2) = true ∨ s.recovery.declared.any (fun e => e.1 == s.neighbour s.panelId 1) = true) := by
    rintro (h | h)
    · rw [hdown] at h
      exact absurd h (by decide)
    · obtain ⟨e, he, heq⟩ := List.any_eq_true.mp h
      exact hnew e he (beq_iff_eq.mp heq)
  obtain ⟨hparts, hobjs⟩ : Keeps [.recovery, .objs, .log] [.X0F06] s
      (v.showDeclared.raise evPanelLost noSubject [s.neighbour s.panelId 1, linkBits (s.directionDown 1).1]) :=
    (((s.recovery_keeps _).mono (by decide)).trans ((State.showDeclared_keeps _).mono (by decide))).trans ((State.raise_keeps _ _ _ _).mono (by decide))
  exact ⟨_, congrArg Host.Outcome.next (if_neg hgoes), rfl, rfl, rfl, hobjs, hparts⟩

theorem exec_panelFenced {s : State} (hdown : (s.directionDown 0).2 = true) (hup : s.recovery.xPlusDown = false) :
    ∃ t : State, exec .panelFenced s = .next t ∧ t.recovery.fenced = s.streamList.map (fun x => x.id) ∧ t.recovery.xPlusDown = true ∧
      t.log.events.head?.map (fun e => e.code) = some evPanelFenced ∧ unchangedBut [.recovery, .log] s t := by
  have hgoes : ¬((!(s.directionDown 0).2) = true ∨ s.recovery.xPlusDown = true) := by
    rw [hdown, hup]
    decide
  refine ⟨_, congrArg Host.Outcome.next (if_neg hgoes), rfl, rfl, rfl, ?_⟩
  exact ((s.recovery_keeps _).1.mono (by decide)).trans ((State.raise_keeps _ _ _ _).1.mono (by decide))

/-! ### Re-mirroring (R382) -/

/-- A stream waits for its second copy. -/
def State.copyWaits (s : State) (i : Nat) : Bool :=
  match s.stream i with
  | some x => x.unmirrored
  | none => false

/-- A stream has its second copy. -/
def State.copied (s : State) (i : Nat) : State :=
  match s.stream i with
  | some x => s.setStream i (some { x with unmirrored := false })
  | none => s

theorem State.copied_of_stream {s : State} {i : Nat} {x : Stream} (h : s.stream i = some x) :
    s.copied i = s.setStream i (some { x with unmirrored := false }) := by simp only [State.copied, h]

/-- The end of one recovery's re-mirroring. -/
def State.remirrored (s : State) (done : List Nat) (bytes : Nat) : State :=
  State.raise (State.showStreams (done.foldl (fun s i => s.copied i) { s with recovery := { s.recovery with remirrorFrom := none } }))
    evRemirrorDone noSubject [done.length, bytes]

theorem exec_remirrorDone {s : State} {bytes u : Nat} (streams : List Nat) (hfrom : s.recovery.remirrorFrom = some u)
    (hdue : u + bytes / s.obj .X0F05 0 ≤ s.time) :
    exec (.remirrorDone streams bytes) s = .next (s.remirrored ((distinct streams).filter (fun i => s.copyWaits i)) bytes) := by
  refine congrArg Host.Outcome.next (if_neg ?_)
  simp only [hfrom, hdue, decide_true, Bool.not_true]
  exact Bool.false_ne_true

theorem exec_remirrorDone_one {s : State} {i bytes u : Nat} {x : Stream} (hx : s.stream i = some x) (hwaits : x.unmirrored = true)
    (hfrom : s.recovery.remirrorFrom = some u) (hdue : u + bytes / s.obj .X0F05 0 ≤ s.time) :
    ∃ t : State, exec (.remirrorDone [i] bytes) s = .next t ∧ t.stream i = some { x with unmirrored := false } ∧ (∀ k, k ≠ i → t.stream k = s.stream k) ∧
      t.recovery = { s.recovery with remirrorFrom := none } ∧
      t.log.events.head?.map (fun e => (e.code, e.data)) = some (evRemirrorDone, [1, bytes]) ∧ objsBut [.X070D, .X0702, .X0F07] s t ∧
      unchangedBut [.streams, .objs, .log, .recovery] s t := by
  let v : State := { s with recovery := { s.recovery with remirrorFrom := none } }
  let w := v.setStream i (some { x with unmirrored := false })
  have hdone : (distinct [i]).filter (fun i => s.copyWaits i) = [i] := by
    simp [distinct, State.copyWaits, hx, hwaits]
  have hcopied : v.copied i = w := State.copied_of_stream hx
  have hset : Keeps [.streams] [] v w := v.setStream_keeps i _
  have hshown : Keeps [.objs, .log] streamObjs w (w.showStreams.raise evRemirrorDone noSubject [1, bytes]) :=
    ((w.showStreams_keeps).mono (by decide)).trans ((State.raise_keeps _ _ _ _).mono (by decide))
  obtain ⟨hparts, hobjs⟩ : Keeps [.streams, .objs, .log, .recovery] streamObjs s (w.showStreams.raise evRemirrorDone noSubject [1, bytes]) :=
    (((s.recovery_keeps _).mono (by decide)).trans (hset.mono (by decide))).trans (hshown.mono (by decide))
  have hexec : exec (.remirrorDone [i] bytes) s = .next (w.showStreams.raise evRemirrorDone noSubject [1, bytes]) := by
    rw [exec_remirrorDone [i] hfrom hdue, hdone, ← hcopied]
    rfl
  refine ⟨_, hexec, ?_, fun k hk => ?_, rfl, rfl, hobjs, hparts⟩
  · exact (hshown.1.stream (by decide) i).trans (mapGet_mapSet_same _ _ _ _)
  · exact (hshown.1.stream (by decide) k).trans (mapGet_mapSet_ne _ _ _ hk)

theorem exec_remirrorDone_early {s : State} {bytes u : Nat} (streams : List Nat)
    (h : s.recovery.remirrorFrom = none ∨ s.recovery.remirrorFrom = some u ∧ s.time < u + bytes / s.obj .X0F05 0) :
    exec (.remirrorDone streams bytes) s = .next s := by
  refine congrArg Host.Outcome.next (if_pos ?_)
  rcases h with h | ⟨h, hearly⟩
  · simp only [h, Bool.not_false]
  · simp only [h, Nat.not_le.mpr hearly, decide_false, Bool.not_false]

end Sys2Proof.Machine
end

section
/-!
The adoption of a lost panel's streams (R378, R379), the levy's meters (R383, R384), and the obligation on recovery.
-/

namespace Sys2Proof.Machine

/-! ### Adoption (R378, R379) -/

/-- A key that a map gives nothing for, once set, is the only value of its kind when no other value is. -/
theorem length_filter_mapSet {m : AMap Nat (Option Stream)} {k : Nat} {x : Stream} {p : Stream → Bool} (hx : p x = true)
    (hm : ∀ e ∈ m, ∀ y, e.2 = some y → p y = false) : (((mapSet m k (some x)).filterMap (fun e => e.2)).filter p).length = 1 := by
  have hnone (m : AMap Nat (Option Stream)) (hm : ∀ e ∈ m, ∀ y, e.2 = some y → p y = false) : (m.filterMap (fun e => e.2)).filter p = [] := by
    rw [List.filter_eq_nil_iff]
    intro y hy
    obtain ⟨e, he, hey⟩ := List.mem_filterMap.mp hy
    rw [hm e he y hey]
    exact Bool.false_ne_true
  induction m with
  | nil => simp [mapSet, hx]
  | cons q r ih =>
    have hr : ∀ e ∈ r, ∀ y, e.2 = some y → p y = false := fun e he => hm e (List.mem_cons_of_mem _ he)
    rw [mapSet]
    split
    · rw [List.filterMap_cons_some (f := fun e : Nat × Option Stream => e.2) (b := x) rfl, List.filter_cons_of_pos hx, hnone r hr]
      rfl
    · obtain ⟨n, v⟩ := q
      cases v with
      | none => exact ih hr
      | some y =>
        have hy : ¬(p y = true) := by
          rw [hm (n, some y) List.mem_cons_self y rfl]
          exact Bool.false_ne_true
        rw [List.filterMap_cons_some (f := fun e : Nat × Option Stream => e.2) (b := y) rfl, List.filter_cons_of_neg hy]
        exact ih hr

/-- The stream that an adopter makes of a mirrored stretch. -/
def State.adoptedStream (s : State) (panel id : Nat) (m : MirrorRec) : Stream :=
  { id := id, k := m.k, sb := m.sb, reserve := m.reserve, latency := m.latency, sampling := m.sampling, table := m.table
    replica := s.pickReplica m.stream, kvSet := ((s.plan.image.bind (fun p => kvSetOf p m.reserve)).getD 0), promptLen := m.promptLen, prompt := []
    prefilled := min m.promptLen ((m.k + 1) * m.sb * 256) - m.k * m.sb * 256, position := m.last + 1, lastToken := m.lastToken, delivered := m.last
    st := .ready, layer := 0, readyAt := s.time, admittedAt := s.time, touched := true, cancelled := false, isHead := m.isHead, faultedAt := 0
    counter := s.freeCounter (s.dieFor m.stream), mirrorSent := none, mirrorTarget := 0, unmirrored := true, adopted := some panel, queries := []
    place := s.freePlace, moved := s.dieLost m.stream }

/-- A complete mirrored stretch that this panel holds and has no stream of becomes an adopted stream, and the host and the holders are told. -/
theorem State.adopt_of_complete {s : State} {m : MirrorRec} (hcomplete : m.complete = true) (hheld : s.recovery.mirrorRes.any (fun e => e.1 == m.stream) = true)
    (hnone : s.stream m.stream = none) (panel : Nat) : s.adopt panel m =
      (m.table.filter (fun h => h != panel && h != s.panelId)).foldl (fun s h => s.send (.adopted (h + 1) panel m.stream m.k m.isHead m.last))
        ((s.setStream m.stream (some (s.adoptedStream panel m.stream m))).send (.adopted 0 panel m.stream m.k m.isHead m.last)) := by
  have hgoes : ¬((!m.complete) = true ∨ (!s.recovery.mirrorRes.any (fun e => e.1 == m.stream)) = true) := by
    rw [hcomplete, hheld]
    decide
  unfold State.adopt
  rw [if_neg hgoes, hnone]
  rfl

theorem exec_adoption {s : State} {panel u : Nat} {m : MirrorRec} (hdown : s.recovery.xMinusDownAt = some u)
    (hdeclared : ∃ a : Nat, (panel, a) ∈ s.recovery.declared) (hnew : ∀ e ∈ s.recovery.lost, e.1 ≠ panel) (hlate : u + 100000 ≤ s.time)
    (hcomplete : m.complete = true) (hheld : ∃ n : Nat, (m.stream, n) ∈ s.recovery.mirrorRes) (hnone : s.stream m.stream = none)
    (hfirst : ∀ e ∈ s.streams, ∀ x, e.2 = some x → x.adopted ≠ some panel) :
    ∃ (t : State) (x : Stream), exec (.adoption panel [m]) s = .next t ∧ t.stream m.stream = some x ∧ x.adopted = some panel ∧ x.k = m.k ∧
      x.sb = m.sb ∧ x.position = m.last + 1 ∧ x.lastToken = m.lastToken ∧ x.isHead = m.isHead ∧ x.table = m.table ∧ x.st = .ready ∧
      t.recovery.lost = s.recovery.lost ++ [(panel, s.panelId)] ∧ Sent.adopted 0 panel m.stream m.k m.isHead m.last ∈ t.out ∧
      t.log.events.head?.map (fun e => (e.code, e.data)) = some (evAdopted, [panel, 1, 0]) ∧ sameMemory s t := by
  obtain ⟨a, ha⟩ := hdeclared
  obtain ⟨n, hn⟩ := hheld
  let v : State := { s with recovery := { s.recovery with lost := s.recovery.lost ++ [(panel, s.panelId)] } }
  let x := v.adoptedStream panel m.stream m
  let w := (v.setStream m.stream (some x)).send (.adopted 0 panel m.stream m.k m.isHead m.last)
  let l := m.table.filter (fun h => h != panel && h != v.panelId)
  let y := l.foldl (fun s h => s.send (.adopted (h + 1) panel m.stream m.k m.isHead m.last)) w
  let t := y.remirror.showStreams.raise evAdopted noSubject [panel, 1, 0]
  have hset : Keeps [.streams, .out] [] v w := ((v.setStream_keeps _ _).mono (by decide)).trans ((State.send_keeps _ _).mono (by decide))
  obtain ⟨htold, hout⟩ := State.foldl_send (fun h => .adopted (h + 1) panel m.stream m.k m.isHead m.last) l w
  have hlast : Keeps [.recovery, .objs, .log] streamObjs y t :=
    (((y.recovery_keeps _).mono (by decide)).trans ((State.showStreams_keeps _).mono (by decide))).trans ((State.raise_keeps _ _ _ _).mono (by decide))
  have hadopt : v.adopt panel m = y :=
    State.adopt_of_complete (s := v) hcomplete (List.any_eq_true.mpr ⟨_, hn, beq_self_eq_true _⟩) hnone panel
  have hstreams : y.streams = mapSet s.streams m.stream (some x) := (htold.1 .streams (by decide))
  have hcount : (y.streamList.filter (fun x => x.adopted == some panel)).length = 1 := by
    rw [State.streamList, hstreams]
    exact length_filter_mapSet (beq_self_eq_true (some panel)) fun e he z hz => beq_eq_false_iff_ne.mpr (hfirst e he z hz)
  have hkept : t.streamList.any (fun x => x.adopted == some panel) = true := by
    have hsame : t.streamList = y.streamList := by rw [State.streamList, State.streamList, hlast.1 .streams (by decide)]
    rw [hsame, List.any_eq_true]
    obtain ⟨z, hz⟩ := List.exists_mem_of_length_pos (Nat.lt_of_lt_of_eq Nat.zero_lt_one hcount.symm)
    exact ⟨z, List.mem_filter.mp hz⟩
  have hgoes : s.recovery.declared.any (fun e => e.1 == panel) = true ∧ (!s.recovery.lost.any (fun e => e.1 == panel)) = true ∧ u + 100000 ≤ s.time := by
    refine ⟨List.any_eq_true.mpr ⟨_, ha, beq_self_eq_true panel⟩, ?_, hlate⟩
    rw [Bool.not_eq_true', List.any_eq_false]
    exact fun e he heq => hnew e he (beq_iff_eq.mp heq)
  have hexec : exec (.adoption panel [m]) s = .next t := by
    have hrun : exec (.adoption panel [m]) s = .next ((((v.adopt panel m).remirror.showStreams.raise evAdopted noSubject
        [panel, ((v.adopt panel m).streamList.filter (fun x => x.adopted == some panel)).length,
          1 - ((v.adopt panel m).streamList.filter (fun x => x.adopted == some panel)).length]).dropAdopted (some panel))) := by
      refine congrArg Host.Outcome.next ?_
      split
      next t ht =>
        obtain rfl : u = t := Option.some.inj (hdown.symm.trans ht)
        exact if_pos hgoes
      next hup => exact absurd (hdown.symm.trans hup) (Option.some_ne_none u)
    rw [hrun, hadopt, hcount]
    exact congrArg Host.Outcome.next (if_pos hkept)
  refine ⟨t, x, hexec, ?_, rfl, rfl, rfl, rfl, rfl, rfl, rfl, rfl, ?_, ?_, rfl, ?_⟩
  · have hstream : t.stream m.stream = y.stream m.stream := hlast.1.stream (by decide) _
    rw [hstream, State.stream, hstreams]
    exact mapGet_mapSet_same _ _ _ _
  · have hlost : t.recovery.lost = y.recovery.lost := rfl
    rw [hlost, htold.1 .recovery (by decide)]
    rfl
  · have hsent : t.out = y.out := hlast.1 .out (by decide)
    rw [hsent, hout]
    exact List.mem_append_left _ (List.mem_append_right _ List.mem_cons_self)
  · exact ((((s.recovery_keeps _).mono (l' := [.streams, .out, .recovery, .objs, .log]) (os' := streamObjs) (by decide)).trans
      (hset.mono (by decide))).trans ((htold.mono (by decide)).trans (hlast.mono (by decide)))).1.memory (by decide) (by decide)

/-! ### The levy (R383, R384) -/

theorem State.levyBreach_keeps (s : State) (e : Nat × Nat × Nat) : Keeps [.aCond, .log] [] s (s.levyBreach e) :=
  .ite (((Keeps.of_parts (s.breach_unchanged _ _) (by decide)).mono (by decide)).trans ((State.raise_keeps _ _ _ _).mono (by decide))) (.refl _ _ _)

theorem State.levyBreach_of_over {s : State} {e : Nat × Nat × Nat} (h : s.obj .X0F00 0 * 15625 < 100 * e.2.2) :
    (s.levyBreach e).aCond = mapSet s.aCond (e.1, 3) s.time := by
  rw [State.levyBreach, State.levyOver, if_pos (decide_eq_true h)]
  rfl

theorem State.levyBreach_of_under {s : State} {e : Nat × Nat × Nat} (h : 100 * e.2.2 ≤ s.obj .X0F00 0 * 15625) : s.levyBreach e = s := by
  rw [State.levyBreach, State.levyOver, if_neg (by rw [decide_eq_true_eq]; omega)]

/-- The market's levy slots of a millisecond are compared with the cap. -/
def State.levyBreaches (s : State) (slots : List (Nat × Nat × Nat)) : State := slots.foldl (fun s e => s.levyBreach e) s

theorem State.levyBreaches_keeps (s : State) (slots : List (Nat × Nat × Nat)) : Keeps [.aCond, .log] [] s (s.levyBreaches slots) := by
  refine .foldl (fun s e => ?_) slots s
  exact s.levyBreach_keeps e

theorem State.levyBreaches_of_under (slots : List (Nat × Nat × Nat)) (s : State) (h : ∀ e ∈ slots, 100 * e.2.2 ≤ s.obj .X0F00 0 * 15625) :
    s.levyBreaches slots = s := by
  induction slots with
  | nil => rfl
  | cons e r ih =>
    rw [State.levyBreaches, List.foldl_cons, State.levyBreach_of_under (h e List.mem_cons_self)]
    exact ih fun e' he' => h e' (List.mem_cons_of_mem _ he')

/-- Each port whose levy slots stand above the cap has its class A bounds end now. -/
theorem State.levyBreaches_of_over (slots : List (Nat × Nat × Nat)) (s : State) :
    ∀ e ∈ slots, s.obj .X0F00 0 * 15625 < 100 * e.2.2 → mapGet 0 (s.levyBreaches slots).aCond (e.1, 3) = s.time := by
  intro e he hover
  refine foldl_establishes (P := fun (u : State) (e : Nat × Nat × Nat) => u.time = s.time → u.obj .X0F00 0 = s.obj .X0F00 0 →
    s.obj .X0F00 0 * 15625 < 100 * e.2.2 → mapGet 0 u.aCond (e.1, 3) = s.time)
    (fun u e htime hcap hover => ?_) (fun u x y h htime hcap hover => ?_) slots s e he
    ((s.levyBreaches_keeps slots).1.time (by decide)) ((s.levyBreaches_keeps slots).obj _ _ List.not_mem_nil) hover
  · have hkeeps := u.levyBreach_keeps e
    rw [hkeeps.obj _ _ List.not_mem_nil] at hcap
    rw [State.levyBreach_of_over (by rwa [hcap]), mapGet_mapSet_same, ← hkeeps.1.time (by decide), htime]
  · have hkeeps := u.levyBreach_keeps x
    have htime' : u.time = s.time := (hkeeps.1.time (by decide)).symm.trans htime
    have hcap' : u.obj .X0F00 0 = s.obj .X0F00 0 := (hkeeps.obj _ _ List.not_mem_nil).symm.trans hcap
    by_cases hx : u.obj .X0F00 0 * 15625 < 100 * x.2.2
    · rw [State.levyBreach_of_over hx, mapGet_mapSet]
      split
      · exact htime'
      · exact h htime' hcap' hover
    · rw [State.levyBreach_of_under (by omega)]
      exact h htime' hcap' hover

theorem State.levyCap_congr {s t : State} (h : t.obj .X0F00 0 = s.obj .X0F00 0) (i : Nat) : t.levyCap i = s.levyCap i := by
  rw [State.levyCap, State.levyCap, h]

/-- Work that a resource's cap defers is told, at most once a second. -/
def State.levyTold (s : State) (use : List Nat) : State :=
  (List.range 5).foldl (fun s i =>
    let last : Option Nat := (s.recovery.levyEv.find? (fun e => e.1 == i)).map (fun e => e.2)
    if s.levyCap i < use.getD i 0 ∧ dueEvent last s.time 1000000000 then
      (({ s with recovery := { s.recovery with levyEv := mapSet s.recovery.levyEv i s.time } }).raise evLevyDeferred noSubject [i])
    else s) s

theorem State.levyTold_keeps (s : State) (use : List Nat) : Keeps [.recovery, .log] [] s (s.levyTold use) := by
  refine .foldl (fun s i => ?_) _ s
  exact .ite (((s.recovery_keeps _).mono (by decide)).trans ((State.raise_keeps _ _ _ _).mono (by decide))) (.refl _ _ _)

theorem exec_levyMeterPeriod (s : State) (use : List Nat) (slots : List (Nat × Nat × Nat)) : ∃ t : State, exec (.levyMeterPeriod use slots) s = .next t ∧
    t.recovery.levyUse.head? = some ((List.range 5).map (fun i => min (use.getD i 0) (s.levyCap i))) ∧ t.recovery.levyUse.length ≤ 1000 ∧
    (∀ e ∈ slots, s.obj .X0F00 0 * 15625 < 100 * e.2.2 → mapGet 0 t.aCond (e.1, 3) = s.time) ∧
    ((∀ e ∈ slots, 100 * e.2.2 ≤ s.obj .X0F00 0 * 15625) → t.aCond = s.aCond) ∧ objsBut [.X0F09] s t ∧
    unchangedBut [.recovery, .objs, .log, .aCond] s t := by
  let v := (s.levyBreaches slots).levyTold use
  let seen := ((List.range 5).map (fun i => min (use.getD i 0) (v.levyCap i)) :: v.recovery.levyUse).take 1000
  let w : State := { v with recovery := { v.recovery with levyUse := seen } }
  have hbreaches := s.levyBreaches_keeps slots
  have htold := (s.levyBreaches slots).levyTold_keeps use
  have hv : Keeps [.recovery, .objs, .log, .aCond] [.X0F09] s v := (hbreaches.mono (by decide)).trans (htold.mono (by decide))
  have hcap (i : Nat) : v.levyCap i = s.levyCap i := State.levyCap_congr (hv.obj _ _ (by decide)) i
  have hcond : v.aCond = (s.levyBreaches slots).aCond := htold.1 .aCond (by decide)
  obtain ⟨hparts, hobjs⟩ := (hv.trans ((v.recovery_keeps { v.recovery with levyUse := seen }).mono (by decide))).trans
    ((w.setObj_keeps .X0F09 0 (((List.range 5).map (fun i => 2 ^ (32 * i) * ratF32 ((seen.map (fun l => l.getD i 0)).sum) (1000 * seen.length))).sum)).mono (by decide))
  refine ⟨_, rfl, ?_, List.length_take_le _ _, fun e he hover => ?_, fun hunder => ?_, hobjs, hparts⟩
  · have hhead : seen.head? = some ((List.range 5).map (fun i => min (use.getD i 0) (v.levyCap i))) := rfl
    simp only [hcap] at hhead
    exact hhead
  · exact (congrArg (fun m => mapGet 0 m (e.1, 3)) hcond).trans (State.levyBreaches_of_over slots s e he hover)
  · exact hcond.trans (congrArg State.aCond (State.levyBreaches_of_under slots s hunder))

/-! ### The obligation -/

/-- Settles O50: each clause is the lemma of the command, through what a stack's failure, a stage of a promotion or a stream's end leaves. -/
theorem recoveryCommandsComplete : Obligations.RecoveryCommandsComplete := by
  unfold Obligations.RecoveryCommandsComplete
  refine ⟨fun s stack witness p q hholder hstack hseen hfirst hsite hnext => exec_stackFailureDetect_promotes hholder hstack hseen hfirst hsite hnext,
    fun s stack witness p hholder hstack hseen hfirst hsite hnext => exec_stackFailureDetect_exhausted hholder hstack hseen hfirst hsite hnext,
    fun s stack witness hunseen => exec_stackFailureDetect_unseen hunseen, fun s site hpowered => ?live,
    fun s site hpowered hheard hlate => exec_siteSilent hpowered hheard hlate,
    fun s stack o hpromo hstage hpower hready hjoin hdone => exec_promotionStageDone_next hpromo hstage hpower hready hjoin hdone,
    fun s stack o bad hpromo hstage hbad husable => exec_promotionStageDone_mapsOut hpromo hstage hbad husable,
    fun s stack o bad furrows hpromo hstage hspare => exec_promotionStageDone_fails hpromo hstage hspare bad furrows,
    fun s r hnot hin hrefilled hports => exec_replicaResume_spec hnot hin hrefilled hports,
    fun s r u hsince hout hlate => exec_suspendedStreamTimeout hsince hout hlate,
    fun s site hsite hretest hoff hfree hband hzone => ?unusable,
    fun s site hsite hretest hoff hfree hband hzone hfault hplace => ?retested,
    fun s hdown hnew => exec_panelLost hdown hnew, fun s hdown hup => exec_panelFenced hdown hup,
    fun s panel u m hdown hdeclared hnew hlate hcomplete hheld hnone hfirst =>
      exec_adoption hdown hdeclared hnew hlate hcomplete hheld hnone hfirst,
    fun s i bytes u x hx hwaits hfrom hdue => exec_remirrorDone_one hx hwaits hfrom hdue,
    fun s streams bytes u h => exec_remirrorDone_early streams h, fun s use slots => exec_levyMeterPeriod s use slots⟩
  case live =>
    exact ⟨_, congrArg Host.Outcome.next (if_pos hpowered), State.site_setSite _ _ _, s.setSite_unchanged _ _⟩
  case unusable =>
    have hunusable : ((s.retested site false).site site).usable = false := congrArg Site.usable (State.site_setSite _ _ _)
    have hshown := (s.retested site false).showSpare_keeps site spareUnusable
    have hset : Keeps [.sites] [] s (s.retested site false) := .of_parts (s.setSite_unchanged _ _) (by decide)
    obtain ⟨hparts, hobjs⟩ : Keeps [.sites, .objs] [.X0F02] s ((s.retested site false).showSpare site spareUnusable) :=
      (hset.mono (by decide)).trans (hshown.mono (by decide))
    refine ⟨_, (exec_stackRetest hsite hretest hoff hfree hband hzone false).trans
      (congrArg Host.Outcome.next (State.showRetest_of_unusable hunusable)), ?_, hobjs, hparts⟩
    exact (hshown.1.site (by decide) site).trans (State.site_setSite _ _ _)
  case retested =>
    intro u
    have hsound : (s.retested site true).checkTileDie site = s.retested site true := State.checkTileDie_of_sound hfault hplace
    have hexec : exec (.stackRetest site true) s = .next (u.showRetest site) := by
      rw [exec_stackRetest hsite hretest hoff hfree hband hzone true, if_pos rfl, hsound]
      rfl
    have hset : Keeps [.sites] [] s (s.retested site true) := .of_parts (s.setSite_unchanged _ _) (by decide)
    have hmap := (s.retested site true).remap_keeps site [] []
    have hshown := u.showRetest_keeps site
    have hsame : (u.showRetest site).site site = u.site site := hshown.1.site (by decide) site
    obtain ⟨hparts, hobjs⟩ : Keeps [.sites, .objs] [.B0601, .X0F02, .S0400, .S0401, .S0402] s (u.showRetest site) :=
      ((hset.mono (by decide)).trans (hmap.mono (by decide))).trans (hshown.mono (by decide))
    obtain ⟨out, b, hsite'⟩ := (s.retested site true).remap_site site [] []
    have hold : (s.retested site true).site site = { s.site site with retest := false, tripped := false, usable := true } := State.site_setSite _ _ _
    have hmapped : u.site site = { s.site site with retest := false, tripped := false, usable := b, out := out, mapOut := out } := by
      refine hsite'.trans ?_
      rw [hold]
    refine ⟨_, hexec, hsame, ?_, ?_, fun husable => ?_, ?_, hobjs, hparts⟩
    · rw [hsame, hmapped]
    · rw [hsame, hmapped]
    · rw [hsame] at husable
      exact State.showRetest_dormant husable
    · rw [hshown.obj _ _ (by decide), hshown.obj _ _ (by decide)]

end Sys2Proof.Machine
end

section
/-!
The input, the eFuses, lost zones and rails (R291 to R294, R309).
-/

namespace Sys2Proof.Machine

/-! ### The input (R291) -/

theorem exec_inputSample_inRange (s : State) {mv : Nat} (hlow : 40000 ≤ mv) (hhigh : mv ≤ 59500) :
    ∃ t : State, exec (.inputSample mv) s = .next t ∧ t.power.mv = mv ∧ t.power.lowSince = none ∧ t.power.inRangeSince ≠ none ∧
      t.power.failed = s.power.failed ∧ t.obj .P0C00 0 = ratF32 mv 1000 ∧ objsBut (.P0C00 :: islandObjs) s t ∧ unchangedBut islandParts s t := by
  let u : State := { s with power := { s.power with
    mv := mv, lowSince := none, inRangeSince := s.power.inRangeSince.or (some s.time), rangeEvent := false } }
  let v := u.setObj .P0C00 0 (ratF32 mv 1000)
  have hexec : exec (.inputSample mv) s = .next v.settleIsland := by
    have hgood : (decide (40000 ≤ mv) && decide (mv ≤ 59500)) = true := by simp [hlow, hhigh]
    have hnone : (if mv < 38500 then s.power.lowSince.or (some s.time) else none) = none := if_neg (by omega)
    change execInputSample mv s = _
    unfold execInputSample
    dsimp only
    rw [hgood, hnone]
    dsimp only
    rw [if_neg (show ¬(mv < 36000 ∨ false = true) by simp; omega), if_neg (show ¬(61000 < mv) by omega), if_neg (fun h => Bool.false_ne_true h.1)]
    rfl
  obtain ⟨hsettled, ⟨_, _, _, hpower⟩, -⟩ := v.settleIsland_judged
  obtain ⟨hparts, hobjs⟩ : Keeps islandParts (.P0C00 :: islandObjs) s v.settleIsland :=
    (((s.power_keeps _).mono (by decide)).trans ((u.setObj_keeps .P0C00 0 _).mono (by decide))).trans (hsettled.mono (by decide))
  refine ⟨_, hexec, by rw [hpower]; rfl, by rw [hpower]; rfl, ?_, by rw [hpower]; rfl, ?_, hobjs, hparts⟩
  · rw [hpower]
    change s.power.inRangeSince.or (some s.time) ≠ none
    cases s.power.inRangeSince <;> exact Option.some_ne_none _
  · rw [hsettled.obj .P0C00 0 (by decide)]
    exact State.obj_setObj _ _ _ _

theorem State.foldl_withdrawn_keeps (l : List Nat) (s : State) :
    Keeps [.objs] [.B0601] s (l.foldl (fun s p => if s.inService p then s.setObj .B0601 p portWithdrawn else s) s) := by
  refine .foldl (fun s p => ?_) l s
  exact .ite (s.setObj_keeps _ _ _) (.refl _ _ s)

theorem State.foldl_zoneDown_keeps (l : List Nat) (s : State) : Keeps zoneParts zoneObjs s (l.foldl (fun s z => s.zoneDown z) s) := by
  refine .foldl (fun s z => ?_) l s
  exact s.zoneDown_keeps z

theorem State.foldl_setObj_keeps (o : Obj) (v : Nat) (l : List Nat) (s : State) : Keeps [.objs] [o] s (l.foldl (fun s i => s.setObj o i v) s) := by
  refine .foldl (fun s i => ?_) l s
  exact s.setObj_keeps _ _ _

/-- What every zone off may change. -/
def allOffParts : List Part := [.withdrawing, .markets, .posts, .startup, .waves, .kept, .power] ++ zoneParts

/-- What every zone off leaves of the supplies, and of the rest. -/
theorem State.allOff_spec (s : State) : unchangedBut allOffParts s s.allOff ∧ objsBut (.B0601 :: .P0C06 :: zoneObjs) s s.allOff ∧
    s.allOff.power = { s.power with guard := false, samples := [], zoneSamples := [], lowMean := [], fuseTest := [] } := by
  have hports := State.foldl_withdrawn_keeps usedPorts s
  have hall (a b c : State) (ha : Keeps [.objs] [.B0601] s a) (hb : Keeps zoneParts zoneObjs { a with withdrawing := [], markets := [], posts := [] } b)
      (hc : Keeps [.objs] [.P0C06] b c) : let t : State := { c with
        startup := { c.startup with stage := 0 }, streams := [], waves := [], kept := []
        power := { c.power with guard := false, samples := [], zoneSamples := [], lowMean := [], fuseTest := [] } }
      unchangedBut allOffParts s t ∧ objsBut (.B0601 :: .P0C06 :: zoneObjs) s t ∧
        t.power = { s.power with guard := false, samples := [], zoneSamples := [], lowMean := [], fuseTest := [] } := by
    intro t
    have hlists : Keeps [.withdrawing, .markets, .posts] [] a { a with withdrawing := [], markets := [], posts := [] } :=
      .of_parts (by rw [unchangedBut_iff]; simp) (by decide)
    have hrest : Keeps [.startup, .streams, .waves, .kept, .power] [] c t := .of_parts (by rw [unchangedBut_iff]; simp [t]) (by decide)
    have hpower : c.power = s.power := (hc.1 .power (by decide)).trans ((hb.1 .power (by decide)).trans (ha.1 .power (by decide)))
    obtain ⟨hparts, hobjs⟩ : Keeps allOffParts (.B0601 :: .P0C06 :: zoneObjs) s t :=
      (((ha.mono (by decide)).trans (hlists.mono (by decide))).trans (hb.mono (by decide))).trans ((hc.mono (by decide)).trans (hrest.mono (by decide)))
    refine ⟨hparts, hobjs, ?_⟩
    rw [← hpower]
  exact hall _ _ _ hports (State.foldl_zoneDown_keeps (List.range 15) _) (State.foldl_setObj_keeps .P0C06 zoneIsOff (List.range 16) _)

/-- The panel notes that its input has failed. -/
def State.noteFailed (s : State) : State := { s with power := { s.power with failed := true } }

theorem State.noteFailed_keeps (s : State) : Keeps [.power] [] s s.noteFailed := s.power_keeps _

/-- A failed input is reported, and the black box flushed. -/
def State.inputLost (s : State) (cause : Nat) : State := (s.raise evInputFail noSubject [cause, ratF32 s.power.mv 1000]).flushBb 1

theorem State.inputFail_of_charged {s : State} (hnot : s.power.failed = false) (hruns : s.startup.stage ≠ 0) (hstore : s.power.holdUpCharged = true)
    (cause : Nat) : s.inputFail cause = (s.inputLost cause).allOff.noteFailed.settleIsland := by
  have hgoes : ¬(s.power.failed = true ∨ s.startup.stage = 0) := by rw [hnot]; simpa using hruns
  have hcharged : ¬((!(s.raise evInputFail noSubject [cause, ratF32 s.power.mv 1000]).power.holdUpCharged) = true) := by
    rw [State.raise_power, hstore]; decide
  unfold State.inputFail
  rw [if_neg hgoes]
  exact congrArg (fun t : State => t.noteFailed.settleIsland) (if_neg hcharged)

theorem exec_inputSample_low {s : State} {mv : Nat} (hlow : mv < 36000) (hnot : s.power.failed = false) (hruns : s.startup.stage ≠ 0)
    (hstore : s.power.holdUpCharged = true) : ∃ t : State, exec (.inputSample mv) s = .next t ∧ t.power.mv = mv ∧ t.power.failed = true ∧
      t.startup.stage = 0 ∧ t.streams = [] ∧ t.waves = [] ∧ (∀ z, z < 16 → t.obj .P0C06 z = 1) := by
  let w : Power := { s.power with
    mv := mv, lowSince := if mv < 38500 then s.power.lowSince.or (some s.time) else none
    inRangeSince := if decide (40000 ≤ mv) && decide (mv ≤ 59500) then s.power.inRangeSince.or (some s.time) else none
    rangeEvent := !(decide (40000 ≤ mv) && decide (mv ≤ 59500)) && s.power.rangeEvent }
  let v := State.setObj { s with power := w } .P0C00 0 (ratF32 mv 1000)
  let u := (v.inputLost 0).allOff.noteFailed
  have hexec : exec (.inputSample mv) s = .next u.settleIsland.settleIsland :=
    (congrArg (fun t : State => Host.Outcome.next t.settleIsland) (if_pos (.inl hlow))).trans
      (congrArg (fun t : State => Host.Outcome.next t.settleIsland) (State.inputFail_of_charged (s := v) hnot hruns hstore 0))
  obtain ⟨hsettled, ⟨_, _, _, hpower⟩, -⟩ := u.settleIsland_judged.trans u.settleIsland.settleIsland_judged
  have hnoted := (v.inputLost 0).allOff.noteFailed_keeps
  have hu : u.power = { (v.inputLost 0).allOff.power with failed := true } := rfl
  refine ⟨_, hexec, ?_, ?_, ?_, ?_, ?_, fun z hz => ?_⟩
  · rw [hpower, hu, (v.inputLost 0).allOff_spec.2.2]
    rfl
  · rw [hpower, hu]
  · rw [hsettled.1 .startup (by decide), hnoted.1 .startup (by decide)]
    exact State.allOff_stage _
  · rw [hsettled.1 .streams (by decide), hnoted.1 .streams (by decide)]
    rfl
  · rw [hsettled.1 .waves (by decide), hnoted.1 .waves (by decide)]
    rfl
  · rw [hsettled.obj .P0C06 z (by decide), hnoted.obj .P0C06 z (by decide)]
    exact State.allOff_zone _ hz

/-! ### eFuses (R292, R293, R421) -/

theorem any_mapSet_same (m : AMap Nat Nat) (k v : Nat) : (mapSet m k v).any (fun e => e.1 == k) = true := by
  induction m with
  | nil => simp [mapSet]
  | cons e r ih =>
    rw [mapSet]
    split
    · simp
    · rw [List.any_cons, ih, Bool.or_true]

theorem any_mapSet_ne (m : AMap Nat Nat) {k j : Nat} (v : Nat) (h : j ≠ k) :
    (mapSet m k v).any (fun e => e.1 == j) = m.any (fun e => e.1 == j) := by
  induction m with
  | nil => simp [mapSet, h.symm]
  | cons e r ih =>
    rw [mapSet]
    split
    · next he => rw [List.any_cons, List.any_cons, he]
    · rw [List.any_cons, List.any_cons, ih]

theorem any_mapDel_same (m : AMap Nat Nat) (k : Nat) : (mapDel m k).any (fun e => e.1 == k) = false := by
  rw [List.any_eq_false]
  intro e he heq
  exact fst_ne_of_mem_mapDel he (beq_iff_eq.mp heq)

/-- A site zone's eFuse that opens is counted and sets emergency bit 1; the panel goes on while a spine feed is on. -/
theorem State.openFuse_spec {s : State} {z : Nat} (hz : z < 14) (hspine : s.fuseOpen 14 = false ∨ s.fuseOpen 15 = false) (ma : Nat) :
    let t := s.openFuse z ma
    mapGet 0 t.power.fuseOpenAt z = s.time ∧ t.fuseOpen z = true ∧ t.obj .P0C07 z = s.obj .P0C07 z + 1 ∧ bitGet (t.obj .P0C0C 0) 1 = true ∧
      t.obj .P0C06 z = s.obj .P0C06 z ∧ objsBut (.P0C07 :: islandObjs) s t ∧ unchangedBut islandParts s t := by
  let a := (s.bump .P0C07 z 1).raise evEfuseOpen z [z, ma]
  let b : State := { a with power := { a.power with fuseOpenAt := mapSet a.power.fuseOpenAt z s.time } }
  obtain ⟨hpulsed, hbit⟩ := b.pulseEmergency_judged 1
  have hall := hpulsed.trans (b.pulseEmergency 1).settleIsland_judged
  obtain ⟨-, ⟨_, _, _, hfuses⟩, -⟩ := hpulsed
  have hopen (j : Nat) (hj : 14 ≤ j) : (b.pulseEmergency 1).fuseOpen j = s.fuseOpen j := by
    rw [State.fuseOpen, hfuses]
    exact any_mapSet_ne _ _ (by omega)
  have hstays : ¬((b.pulseEmergency 1).fuseOpen 14 = true ∧ (b.pulseEmergency 1).fuseOpen 15 = true) := by
    rw [hopen 14 (by decide), hopen 15 (by decide)]
    rintro ⟨h14, h15⟩
    rcases hspine with h | h
    · exact Bool.false_ne_true (h.symm.trans h14)
    · exact Bool.false_ne_true (h.symm.trans h15)
  have heq : s.openFuse z ma = (b.pulseEmergency 1).settleIsland := by
    have hzone : s.openFuse z ma = (if (b.pulseEmergency 1).fuseOpen 14 ∧ (b.pulseEmergency 1).fuseOpen 15 then (b.pulseEmergency 1).tripPanel 2
        else b.pulseEmergency 1).settleIsland :=
      congrArg (fun u : State => (if u.fuseOpen 14 ∧ u.fuseOpen 15 then u.tripPanel 2 else u).settleIsland) (if_pos hz)
    rw [hzone, if_neg hstays]
  obtain ⟨hsettled, ⟨_, _, _, hpower⟩, hbits⟩ := hall
  have hb : Keeps islandParts (.P0C07 :: islandObjs) s b :=
    (((s.bump_keeps .P0C07 z 1).mono (by decide)).trans ((State.raise_keeps _ _ _ _).mono (by decide))).trans ((a.power_keeps _).mono (by decide))
  obtain ⟨hparts, hobjs⟩ := hb.trans (hsettled.mono (by decide))
  have hbits' : bitGet ((b.pulseEmergency 1).settleIsland.obj .P0C0C 0) 1 = true := (b.pulseEmergency 1).settleIsland_judged.2.2 1 hbit
  intro t
  have ht : t = (b.pulseEmergency 1).settleIsland := heq
  rw [ht]
  refine ⟨?_, ?_, ?_, hbits', hobjs .P0C06 z (by decide), hobjs, hparts⟩
  · rw [hpower]
    exact mapGet_mapSet_same _ _ _ _
  · rw [State.fuseOpen, hpower]
    exact any_mapSet_same _ _ _
  · rw [hsettled.obj .P0C07 z (by decide)]
    exact State.obj_bump _ _ _ _

theorem exec_efuseTrip {s : State} {zone ma : Nat} {c : Instr} (hon : s.branchOn zone = true) (hz : zone < 14)
    (hspine : s.fuseOpen 14 = false ∨ s.fuseOpen 15 = false)
    (hc : (c = .efuseShortTrip zone ma ∧ fuseShort zone < ma) ∨ (c = .efuseOvercurrent zone ma ∧ fuseLimit zone < ma)) :
    ∃ t : State, exec c s = .next t ∧ mapGet 0 t.power.fuseOpenAt zone = s.time ∧ t.fuseOpen zone = true ∧ t.obj .P0C07 zone = s.obj .P0C07 zone + 1 ∧
      bitGet (t.obj .P0C0C 0) 1 = true ∧ t.obj .P0C06 zone = 0 ∧ objsBut (.P0C07 :: islandObjs) s t ∧ unchangedBut islandParts s t := by
  have hexec : exec c s = .next (s.openFuse zone ma) := by
    rcases hc with ⟨rfl, hma⟩ | ⟨rfl, hma⟩
    · exact congrArg Host.Outcome.next (if_pos ⟨hon, hma⟩)
    · exact congrArg Host.Outcome.next (if_pos ⟨hon, hma⟩)
  have hzone : s.obj .P0C06 zone = 0 := by
    rw [State.branchOn, Bool.and_eq_true, Bool.and_eq_true] at hon
    exact beq_iff_eq.mp hon.1.2
  obtain ⟨hat, hopen, hcount, hbit, hkept, hobjs, hparts⟩ := State.openFuse_spec hz hspine ma
  exact ⟨_, hexec, hat, hopen, hcount, hbit, hkept.trans hzone, hobjs, hparts⟩

theorem State.endCmd_unchanged (s : State) (o : Obj) (c : Code) : unchangedBut [.cmds] s (s.endCmd o c) := by
  unfold State.endCmd
  split
  · split
    · rw [unchangedBut_iff]; simp
    · exact .refl _ s
  · exact .refl _ s

theorem not_mem_filter_ne (l : List Nat) (z : Nat) : z ∉ l.filter (fun x => x != z) := fun h => by simpa using (List.mem_filter.mp h).2

theorem exec_prechargeTestDone_fault {s : State} {zone : Nat} (h : zone ∈ s.power.fuseTest) : ∃ t : State,
    exec (.prechargeTestDone zone true) s = .next t ∧ mapGet 0 t.power.fuseOpenAt zone = s.time ∧ zone ∉ t.power.fuseTest ∧
      unchangedBut [.power, .cmds] s t := by
  let u : State := { s with power := { s.power with
    fuseTest := s.power.fuseTest.filter (fun z => z != zone), fuseOpenAt := mapSet s.power.fuseOpenAt zone s.time } }
  have hend := u.endCmd_unchanged .P0C08 .aborted
  have hpower : (u.endCmd .P0C08 .aborted).power = u.power := hend .power (by decide)
  have hgoes : ¬((!s.power.fuseTest.contains zone) = true) := by simpa using h
  refine ⟨_, congrArg Host.Outcome.next ((if_neg hgoes).trans (if_pos rfl)), ?_, ?_,
    ((s.power_keeps u.power).1.mono (by decide)).trans (hend.mono (by decide))⟩
  · rw [hpower]
    exact mapGet_mapSet_same _ _ _ _
  · rw [hpower]
    exact not_mem_filter_ne _ _

theorem exec_prechargeTestDone_closes {s : State} {zone : Nat} (h : zone ∈ s.power.fuseTest) (hz : zone < 14) : ∃ t : State,
    exec (.prechargeTestDone zone false) s = .next t ∧ t.obj .P0C06 zone = 0 ∧ t.fuseOpen zone = false ∧ zone ∉ t.power.fuseTest ∧
      zone ∈ t.power.realigning ∧ sameMemory s t := by
  let u : State := { s with power := { s.power with
    fuseTest := s.power.fuseTest.filter (fun z => z != zone), fuseOpenAt := mapDel s.power.fuseOpenAt zone } }
  let v := (u.zoneReturn zone).endCmd .P0C08 .ok
  have hgoes : ¬((!s.power.fuseTest.contains zone) = true) := by simpa using h
  have hexec : exec (.prechargeTestDone zone false) s = .next v.settleIsland :=
    congrArg Host.Outcome.next ((if_neg hgoes).trans ((if_neg Bool.false_ne_true).trans
      (congrArg (fun t : State => (t.endCmd .P0C08 .ok).settleIsland) (if_pos hz))))
  obtain ⟨w, hup, hrest⟩ := u.zoneReturn_realigning zone
  have hend : Keeps [.cmds] [] (u.zoneReturn zone) v := .of_parts (State.endCmd_unchanged _ _ _) (by decide)
  obtain ⟨hsettled, ⟨_, _, _, hpower⟩, -⟩ := v.settleIsland_judged
  have hw : w.power = u.power := hup.1 .power (by decide)
  have hv : v.power = { u.power with realigning := zone :: u.power.realigning.filter (fun x => x != zone) } := by
    have hreturn : v.power = { w.power with realigning := zone :: w.power.realigning.filter (fun x => x != zone) } :=
      (hend.1 .power (by decide)).trans (hrest.1 .power (by decide))
    rw [hreturn, hw]
  refine ⟨_, hexec, ?_, ?_, ?_, ?_, ?_⟩
  · have hlast : (u.zoneReturn zone).obj .P0C06 zone = w.obj .P0C06 zone := hrest.obj .P0C06 zone (by decide)
    rw [hsettled.obj .P0C06 zone (by decide), hend.obj .P0C06 zone (by decide), hlast, hup.obj .P0C06 zone (by decide), State.obj_setObj]
    rfl
  · rw [State.fuseOpen, hpower, hv]
    exact any_mapDel_same _ _
  · rw [hpower, hv]
    exact not_mem_filter_ne _ _
  · rw [hpower, hv]
    exact List.mem_cons_self
  · have hframe : unchangedBut (.heat :: .iods :: .lanes :: .cmds :: islandParts) s v.settleIsland :=
      ((((s.power_keeps u.power).1.mono (by decide)).trans ((u.setObj_keeps .P0C06 zone zoneIsOn).1.mono (by decide))).trans (hup.1.mono (by decide))).trans
        ((((w.power_keeps _).1.mono (by decide)).trans (hrest.1.mono (by decide))).trans ((hend.1.mono (by decide)).trans (hsettled.1.mono (by decide))))
    exact hframe.memory (by decide) (by decide)

theorem exec_efuseReclose {s : State} {session zone : Nat} {x : Session} (hopen : s.openSession session = some x) (hacts : s.cuActs 2 = true)
    (hlevel : (objRow .P0C08).level ≤ x.level) (hmatches : s.matches x = true) (hrange : s.inRange .P0C08 0 zone = true)
    (hmay : s.mayReclose zone = true) : ∃ t : State, exec (.efuseReclose session zone) s = .next t ∧
      t.power.fuseTest = s.power.fuseTest ++ [zone] ∧
      mapGet default t.cmds .P0C08 = { arg := zone, code := .ok, running := true, started := s.time, session := session } ∧
      unchangedBut [.power, .cmds, .log] s t := by
  let u : State := { s with power := { s.power with fuseTest := s.power.fuseTest ++ [zone] } }
  have hcmds (m : AMap Obj Cmd) : unchangedBut [.cmds] u { u with cmds := m } := by rw [unchangedBut_iff]; simp
  refine ⟨_, congrArg Host.Outcome.next (State.commandOf_starts hopen hacts hlevel hmatches hrange (u := u) (if_pos hmay)), rfl,
    mapGet_mapSet_same _ _ _ _, ?_⟩
  exact (((s.power_keeps u.power).1.mono (by decide)).trans ((hcmds _).mono (by decide))).trans ((State.raise_unchanged _ _ _ _).mono (by decide))

end Sys2Proof.Machine
end

section
/-!
Lost zones, rails, the power loop, the feeds, and the obligation on power (R290, R294, R296, R297, R309).
-/

namespace Sys2Proof.Machine

/-! ### Zones whose supply is lost (R309) -/

theorem State.loseLamp_keeps (s : State) (die cause : Nat) : Keeps lightParts lightObjs s (s.loseLamp die cause) := by
  by_cases h : s.lampLost die = true
  · rw [State.loseLamp, if_pos h]
    exact .refl _ _ s
  · exact ((s.setObj_keeps .L0800 die 2).mono (by decide)).trans (State.loseLamp_relit cause (Bool.eq_false_iff.mpr h)).1

theorem State.endLease_keeps (s : State) (cause : Nat) : Keeps [.keeper, .compare, .objs, .log] [.W0000, .W0002] s (s.endLease cause) := by
  cases h : s.keeper.holder with
  | none =>
    rw [State.endLease, h]
    exact .refl _ _ s
  | some u => exact (State.endLease_spec h cause).2.2.2.2

/-- What is left of an I/O die's operation once its links are down. -/
def State.iodDark (s : State) (i : Nat) : State :=
  ((((s.setIod i Iod.reset).setObj .F090D i 0).startLanes i).setMover (portOfIod i) { chans := [], stop := none, settled := true }).clearRange
    (landingAddr i 0) (landingAddr (i + 1) 0)

theorem State.iodDark_iod (s : State) (i : Nat) : (s.iodDark i).iod i = Iod.reset := by
  have hclear (u : State) (m : Mover) (lo hi : Nat) : unchangedBut [.movers, .mem, .poison] u ((u.setMover (portOfIod i) m).clearRange lo hi) := by
    rw [unchangedBut_iff]; simp [State.clearRange]
  have hlanes := ((s.setIod i Iod.reset).setObj .F090D i 0).startLanes_keeps i
  rw [State.iodDark, (hclear _ _ _ _).iod (by decide), hlanes.1.iod (by decide)]
  exact State.iod_setIod s i Iod.reset

/-- A control unit on an I/O die that goes dark is absent. -/
def State.unitAbsent (s : State) (u : Nat) : State :=
  let s := if s.keeper.holder = some u then s.endLease 2 else s
  let s : State := { s with keeper := { s.keeper with requests := s.keeper.requests.filter (fun v => v != u) } }
  let c := s.unit u
  (s.setUnit u { c with procs := [], renewSent := none, resyncFrom := none, words := [], running := none, ring := [], ringNext := 0 }).setObj .W0000 u cuAbsent

theorem State.unitAbsent_keeps (s : State) (u : Nat) : Keeps [.keeper, .compare, .units, .objs, .log] [.W0000, .W0002] s (s.unitAbsent u) := by
  have hunit (v : State) (k : Keeper) (c : CtrlUnit) : Keeps [.keeper, .units, .objs] [.W0000] v
      ((State.setUnit { v with keeper := k } u c).setObj .W0000 u cuAbsent) := by
    have hkeeper : Keeps [.keeper] [] v { v with keeper := k } := .of_parts (by rw [unchangedBut_iff]; simp) (by decide)
    exact ((hkeeper.mono (by decide)).trans ((State.setUnit_keeps _ _ _).mono (by decide))).trans ((State.setObj_keeps _ _ _ _).mono (by decide))
  have hlease : Keeps [.keeper, .compare, .objs, .log] [.W0000, .W0002] s (if s.keeper.holder = some u then s.endLease 2 else s) :=
    .ite (s.endLease_keeps 2) (.refl _ _ s)
  exact (hlease.mono (by decide)).trans ((hunit _ _ _).mono (by decide))

/-- An I/O die without supply stands at its reset. -/
theorem State.iodOff_iod (s : State) (i : Nat) : (s.iodOff i).iod i = Iod.reset := by
  unfold State.iodOff
  dsimp only
  generalize (List.range 6).foldl (fun s d => s.dropLink (6 * i + d)) (s.moveStreams i) = a
  have hunit (u : Nat) : ((a.iodDark i).unitAbsent u).iod i = Iod.reset := ((State.unitAbsent_keeps _ u).1.iod (by decide) i).trans (a.iodDark_iod i)
  split
  · exact hunit _
  · exact a.iodDark_iod i

theorem State.zoneDown_iod (s : State) {z i : Nat} (h : iodOfZone z = some i) : ((s.zoneDown z).iod i).powered = false := by
  have hlamps (l : List Nat) (u : State) : Keeps lightParts lightObjs u (l.foldl (fun s d => s.loseLamp d 1) u) := by
    refine .foldl (fun s d => ?_) l u
    exact s.loseLamp_keeps d 1
  have hoff (u : State) : (((lampsOfIod i).foldl (fun s d => s.loseLamp d 1) (u.iodOff i)).iod i).powered = false := by
    rw [(hlamps _ _).1.iod (by decide), State.iodOff_iod]
    rfl
  unfold State.zoneDown
  dsimp only
  rw [h]
  exact hoff _

/-- The ports of a zone are withdrawn abruptly in the supply case. -/
def State.abruptZone (s : State) (z : Nat) : State := (zonePorts z).foldl (fun s p => s.abrupt p true) s

theorem State.abruptZone_inService (s : State) (z : Nat) : ∀ p ∈ zonePorts z, (s.abruptZone z).inService p = false :=
  foldl_establishes (P := fun s p => s.inService p = false) (fun s p => s.abrupt_inService p true) (fun s p _ h => s.abrupt_inService_of p true h) _ s

theorem exec_zoneLost {s : State} {zone : Nat} (hz : zone < 14) (hopen : s.fuseOpen zone = true) (hnot : s.obj .P0C06 zone ≠ 3) :
    ∃ t : State, exec (.zoneLost zone) s = .next t ∧ t.obj .P0C06 zone = 3 ∧ (∀ p ∈ zonePorts zone, t.inService p = false) ∧
      (∀ p ∈ zonePorts zone, isSite p = true → (t.site p).powered = false) ∧ (∀ i, iodOfZone zone = some i → (t.iod i).powered = false) := by
  have hgoes : ¬(14 ≤ zone ∨ (!s.fuseOpen zone) = true ∨ s.obj .P0C06 zone = zoneFuse) := by
    rw [hopen]
    rintro (h | h | h)
    · omega
    · exact Bool.false_ne_true h
    · exact hnot h
  have hexec : exec (.zoneLost zone) s = .next
      ((((((s.abruptZone zone).setObj .P0C06 zone zoneFuse).raise evZoneLost zone [zone]).islandNotice 1 [zone, zoneFuse]).zoneDown zone).settleIsland) :=
    congrArg Host.Outcome.next (if_neg hgoes)
  have hports := s.abruptZone_inService zone
  generalize s.abruptZone zone = a at hexec hports
  let b := (a.setObj .P0C06 zone zoneFuse).raise evZoneLost zone [zone]
  let c := b.islandNotice 1 [zone, zoneFuse]
  have hb : Keeps [.objs, .log] [.P0C06] a b := ((a.setObj_keeps _ _ _).mono (by decide)).trans ((State.raise_keeps _ _ _ _).mono (by decide))
  have hnotice : Keeps (zoneParts ++ [.boxes, .out]) (zoneObjs ++ [.D0A08]) b (c.zoneDown zone) :=
    ((b.islandNotice_keeps 1 [zone, zoneFuse]).mono (by decide)).trans ((c.zoneDown_keeps zone).mono (by decide))
  have hsettled := (c.zoneDown zone).settleIsland_keeps
  have hobj (o : Obj) (n : Nat) (ho : o ∉ zoneObjs ++ [.D0A08]) (ho' : o ∉ islandObjs) : (c.zoneDown zone).settleIsland.obj o n = b.obj o n :=
    (hsettled.obj o n ho').trans (hnotice.obj o n ho)
  refine ⟨_, hexec, ?_, fun p hp => ?_, fun p hp hsite => ?_, fun i hi => ?_⟩
  · rw [hobj .P0C06 zone (by decide) (by decide)]
    exact State.obj_setObj _ _ _ _
  · rw [State.inService, hobj .B0601 p (by decide) (by decide), hb.obj .B0601 p (by decide)]
    exact hports p hp
  · rw [hsettled.1.site (by decide)]
    exact State.zoneDown_powered _ hp hsite
  · rw [hsettled.1.iod (by decide)]
    exact State.zoneDown_iod _ hi

/-! ### Rails (R294) -/

theorem exec_railFault {s : State} {site rail mv : Nat} (hpow : (s.site site).powered = true) (hrail : rail < 5)
    (hout : mv < (railRange rail).1 ∨ (railRange rail).2 < mv) : ∃ t : State, exec (.railFault site rail mv) s = .next t ∧
      (∀ k, k < 48 → (s.tile site k).running = true → (t.tile site k).stopped = true) ∧
      t.log.events.head?.map (fun e => (e.code, e.subject, e.data)) = some (evRailFault, site, [site, rail, mv]) ∧ objsBut [.P0C0D, .D0A08] s t ∧
      unchangedBut [.objs, .tiles, .sites, .log, .boxes, .out] s t := by
  have hgoes : ¬((!(s.site site).powered) = true ∨ ((railRange rail).1 ≤ mv ∧ mv ≤ (railRange rail).2) ∨ 5 ≤ rail) := by
    rw [hpow]
    rintro (h | h | h)
    · exact Bool.false_ne_true h
    · omega
    · omega
  let a := s.showRail site rail mv
  let b := (a.stopDie site).raise evRailFault site [site, rail, mv]
  have ha := s.showRail_keeps site rail mv
  have hstop : Keeps [.tiles] [] a (a.stopDie site) := .of_parts (a.stopDie_unchanged site) (by decide)
  have hraise := (a.stopDie site).raise_keeps evRailFault site [site, rail, mv]
  have hreport := Keeps.of_parts (b.siteReport_unchanged site (BitVec.ofNat 448 (4 + 2 ^ 8 * evRailFault))) (by decide)
  obtain ⟨hparts, hobjs⟩ : Keeps [.objs, .tiles, .sites, .log, .boxes, .out] [.P0C0D, .D0A08] s (b.siteReport site (BitVec.ofNat 448 (4 + 2 ^ 8 * evRailFault))) :=
    (((ha.mono (by decide)).trans (hstop.mono (by decide))).trans (hraise.mono (by decide))).trans (hreport.mono (by decide))
  refine ⟨_, congrArg Host.Outcome.next (if_neg hgoes), fun k hk hrun => ?_, ?_, hobjs, hparts⟩
  · rw [hreport.1.tile (by decide), hraise.1.tile (by decide)]
    exact a.stopDie_stopped site hk hrun
  · have hlog : (b.siteReport site (BitVec.ofNat 448 (4 + 2 ^ 8 * evRailFault))).log = b.log := hreport.1 .log (by decide)
    rw [hlog]
    rfl

/-! ### Power samples and the fast guard (R297) -/

/-- The supplies with one more sample. -/
def Power.sampled (w : Power) (watts : Nat) (zones : List Nat) : Power :=
  { w with samples := (watts :: w.samples).take 1000, zoneSamples := (zones :: w.zoneSamples).take 1000 }

/-- A sample with the means that it shows. -/
def State.showSample (s : State) (w : Power) (watts : Nat) : State :=
  (List.range 15).foldl (fun s z => s.setObj .P0C05 z (ratF32 ((w.zoneSamples.map (fun l => l.getD z 0)).sum) w.zoneSamples.length))
    ((({ s with power := w } : State).setObj .P0C02 0 (ratF32 (w.samples.sum) w.samples.length)).setObj .P0C01 0
      (if w.mv = 0 then 0 else ratF32 (1000 * watts) w.mv))

theorem State.showSample_keeps (s : State) (w : Power) (watts : Nat) : Keeps [.power, .objs] [.P0C01, .P0C02, .P0C05] s (s.showSample w watts) := by
  have hzones (l : List Nat) (u : State) : Keeps [.power, .objs] [.P0C01, .P0C02, .P0C05] u
      (l.foldl (fun s z => s.setObj .P0C05 z (ratF32 ((w.zoneSamples.map (fun l => l.getD z 0)).sum) w.zoneSamples.length)) u) := by
    refine .foldl (fun s z => ?_) l u
    exact (s.setObj_keeps _ _ _).mono (by decide)
  exact ((((s.power_keeps w).mono (by decide)).trans ((State.setObj_keeps _ _ _ _).mono (by decide))).trans
    ((State.setObj_keeps _ _ _ _).mono (by decide))).trans (hzones _ _)

/-- The mean over the last 10 samples lies above a limit at which the guard engages. -/
def guardHot (last : List Nat) (cap : Nat) : Bool := decide (105 * cap * last.length < 100 * last.sum) || decide (16500 * last.length < last.sum)

/-- What the guard does after a sample (R297). -/
def State.guarded (s : State) (w : Power) (last : List Nat) (cap : Nat) : State :=
  if !w.guard && guardHot last cap && decide (last.length = 10) then { s with power := { w with guard := true, guardFrom := s.time } }
  else if w.guard then
    ({ s with power := { w with
      guard := !decide (last.sum < cap * last.length) || guardHot last cap, guardFrom := w.guardFrom + 1000 * ((s.time - w.guardFrom) / 1000) } } : State).bump
        .P0C0A 0 ((s.time - w.guardFrom) / 1000)
  else s

theorem State.capNow_congr {s t : State} (hheat : t.heat = s.heat) (hlimit : t.obj .T0128 0 = s.obj .T0128 0) (hcap : t.obj .P0C03 0 = s.obj .P0C03 0) :
    t.capNow = s.capNow := by
  rw [State.capNow, State.capNow, hheat, hlimit, hcap]

theorem exec_powerSample_eq (s : State) (watts : Nat) (zones : List Nat) : exec (.powerSample watts zones) s =
    .next ((s.showSample (s.power.sampled watts zones) watts).guarded (s.power.sampled watts zones) (((watts :: s.power.samples).take 1000).take 10) s.capNow) := by
  let u := s.showSample (s.power.sampled watts zones) watts
  have hu : Keeps [.power, .objs] [.P0C01, .P0C02, .P0C05] s u := s.showSample_keeps (s.power.sampled watts zones) watts
  have hcap : u.capNow = s.capNow := State.capNow_congr (hu.1 .heat (by decide)) (hu.obj _ _ (by decide)) (hu.obj _ _ (by decide))
  have hraw : exec (.powerSample watts zones) s =
      .next (u.guarded (s.power.sampled watts zones) (((watts :: s.power.samples).take 1000).take 10) u.capNow) := rfl
  rw [hraw, hcap]

theorem guardHot_of_over {last : List Nat} {cap : Nat} (hlen : last.length = 10) (h : 165000 < last.sum ∨ 1050 * cap < 100 * last.sum) :
    guardHot last cap = true := by
  rw [guardHot, hlen, Bool.or_eq_true, decide_eq_true_eq, decide_eq_true_eq]
  omega

theorem guardHot_of_cool {last : List Nat} {cap : Nat} (hcap : last.sum < cap * last.length) (hlimit : last.sum ≤ 16500 * last.length) :
    guardHot last cap = false := by
  rw [guardHot, Nat.mul_assoc, Bool.or_eq_false_iff, decide_eq_false_iff_not, decide_eq_false_iff_not]
  omega

theorem State.guarded_spec (s : State) (w : Power) (last : List Nat) (cap : Nat) (hw : s.power = w) : let t := s.guarded w last cap
    t.power.samples = w.samples ∧ (w.guard = false → last.length = 10 → guardHot last cap = true → t.power.guard = true ∧ t.power.guardFrom = s.time) ∧
      (w.guard = true → t.obj .P0C0A 0 = s.obj .P0C0A 0 + (s.time - w.guardFrom) / 1000) ∧ (w.guard = false → t.obj .P0C0A 0 = s.obj .P0C0A 0) ∧
      (w.guard = true → last.sum < cap * last.length → guardHot last cap = false → t.power.guard = false) ∧ Keeps [.power, .objs] [.P0C0A] s t := by
  unfold State.guarded
  cases hguard : w.guard with
  | false =>
    rw [if_neg Bool.false_ne_true]
    have hkeeps : Keeps [.power, .objs] [.P0C0A] s
        (if !false && guardHot last cap && decide (last.length = 10) then { s with power := { w with guard := true, guardFrom := s.time } } else s) :=
      .ite ((s.power_keeps _).mono (by decide)) (.refl _ _ s)
    refine ⟨?_, fun _ hlen hhot => ?_, nofun, fun _ => ?_, nofun, hkeeps⟩
    · split
      · rfl
      · rw [hw]
    · rw [hhot, hlen]
      exact ⟨rfl, rfl⟩
    · split
      · rfl
      · rfl
  | true =>
    rw [if_neg (by simp), if_pos rfl]
    refine ⟨rfl, nofun, fun _ => State.obj_bump _ _ _ _, nofun, fun _ hcool hhot => ?_, ((s.power_keeps _).mono (by decide)).trans ((State.bump_keeps _ _ _ _).mono (by decide))⟩
    change (!decide (last.sum < cap * last.length) || guardHot last cap) = false
    rw [hhot, decide_eq_true hcool]
    rfl

theorem exec_powerSample (s : State) (watts : Nat) (zones : List Nat) : let last := ((watts :: s.power.samples).take 1000).take 10
    ∃ t : State, exec (.powerSample watts zones) s = .next t ∧ t.power.samples = (watts :: s.power.samples).take 1000 ∧
      (s.power.guard = false → last.length = 10 → (165000 < last.sum ∨ 1050 * s.capNow < 100 * last.sum) → t.power.guard = true ∧ t.power.guardFrom = s.time) ∧
      (s.power.guard = true → t.obj .P0C0A 0 = s.obj .P0C0A 0 + (s.time - s.power.guardFrom) / 1000) ∧
      (s.power.guard = false → t.obj .P0C0A 0 = s.obj .P0C0A 0) ∧
      (s.power.guard = true → last.sum < s.capNow * last.length → last.sum ≤ 16500 * last.length → t.power.guard = false) ∧
      objsBut [.P0C01, .P0C02, .P0C05, .P0C0A] s t ∧ unchangedBut [.power, .objs] s t := by
  intro last
  let w := s.power.sampled watts zones
  let u := s.showSample w watts
  have hu : Keeps [.power, .objs] [.P0C01, .P0C02, .P0C05] s u := s.showSample_keeps w watts
  have hw : u.power = w := by
    have hzones (l : List Nat) (v : State) : Keeps [.objs] [.P0C05] v
        (l.foldl (fun s z => s.setObj .P0C05 z (ratF32 ((w.zoneSamples.map (fun l => l.getD z 0)).sum) w.zoneSamples.length)) v) := by
      refine .foldl (fun s z => ?_) l v
      exact s.setObj_keeps _ _ _
    exact (hzones _ _).1 .power (by decide)
  have htime : u.time = s.time := hu.1.time (by decide)
  have hcount : u.obj .P0C0A 0 = s.obj .P0C0A 0 := hu.obj _ _ (by decide)
  obtain ⟨hsamples, hengages, hcounts, hstays, hreleases, hkeeps⟩ := u.guarded_spec w last s.capNow hw
  obtain ⟨hparts, hobjs⟩ := (hu.mono (by decide)).trans (hkeeps.mono (l' := [.power, .objs]) (os' := [.P0C01, .P0C02, .P0C05, .P0C0A]) (by decide))
  rw [htime] at hengages
  rw [htime, hcount] at hcounts
  rw [hcount] at hstays
  exact ⟨_, exec_powerSample_eq s watts zones, hsamples, fun hoff hlen hover => hengages hoff hlen (guardHot_of_over hlen hover), hcounts, hstays,
    fun hon hcool hlimit => hreleases hon hcool (guardHot_of_cool hcool hlimit), hobjs, hparts⟩

/-! ### The cap loop (R296) -/

/-- A mean lies above its cap. -/
def State.overCap (s : State) (k : Nat) : Bool := decide ((s.meanAndCap k).2 < (s.meanAndCap k).1)

/-- A mean has lain below 97 % of its cap for 10 ms. -/
def State.longLow (s : State) (k : Nat) : Bool :=
  match s.power.lowMean.find? (fun e => e.1 == k) with
  | some (_, t) => decide (t + 10000000 ≤ s.time)
  | none => false

/-- The ceiling that a step of the cap loop gives a site. -/
def State.capCeiling (s : State) (p : Nat) : Nat :=
  if s.overCap 15 || s.overCap (zoneOf p) then max 400 (s.obj .P0C09 p - 25)
  else if s.longLow 15 && s.longLow (zoneOf p) then min 1800 (s.obj .P0C09 p + 25) else s.obj .P0C09 p

/-- What a step for one site may change. -/
def capParts : List Part := [.sites, .markets, .objs, .log]

theorem State.capSite_spec (s : State) (p : Nat) : Keeps capParts [.P0C09] s (s.capSite p) ∧
    ∀ q, (s.capSite p).obj .P0C09 q = if q = p then s.capCeiling p else s.obj .P0C09 q := by
  let u := s.setObj .P0C09 p (s.capCeiling p)
  have hraise (b : Nat) : Keeps [.log] [] u (if s.capCeiling p = 400 ∧ 400 < s.obj .P0C09 p then u.raise evCapLimit p
      [if s.overCap 15 then 15 else b, (u.meanAndCap (if s.overCap 15 then 15 else b)).1] else u) := .ite (u.raise_keeps _ _ _) (.refl _ _ u)
  have hask (v : State) : Keeps [.sites, .markets] [] v
      (if (v.site p).powered ∧ v.allowedMhz p ≠ v.obj .C0B06 p then v.requestFreq p (v.allowedMhz p) else v) :=
    .ite (v.requestFreq_keeps _ _) (.refl _ _ v)
  have hafter : Keeps [.sites, .markets, .log] [] u (s.capSite p) := ((hraise (zoneOf p)).mono (by decide)).trans ((hask _).mono (by decide))
  refine ⟨((s.setObj_keeps .P0C09 p _).mono (by decide)).trans (hafter.mono (by decide)), fun q => ?_⟩
  rw [hafter.obj _ _ List.not_mem_nil]
  by_cases hq : q = p
  · rw [if_pos hq, hq]
    exact State.obj_setObj _ _ _ _
  · rw [if_neg hq]
    exact State.obj_setObj_ne _ _ (.inr hq)

theorem State.capCeiling_congr {s t : State} (h : Keeps capParts [.P0C09] s t) {p : Nat} (hp : t.obj .P0C09 p = s.obj .P0C09 p) :
    t.capCeiling p = s.capCeiling p := by
  have hpower : t.power = s.power := h.1 .power (by decide)
  have htime : t.time = s.time := h.1.time (by decide)
  have hcap : t.capNow = s.capNow := State.capNow_congr (h.1 .heat (by decide)) (h.obj _ _ (by decide)) (h.obj _ _ (by decide))
  have hmean (k : Nat) : t.meanAndCap k = s.meanAndCap k := by
    rw [State.meanAndCap, State.meanAndCap, State.zoneMean, State.zoneMean, hpower, hcap, h.obj .P0C04 k (by decide)]
  have hlow (k : Nat) : t.longLow k = s.longLow k := by rw [State.longLow, State.longLow, hpower, htime]
  have hover (k : Nat) : t.overCap k = s.overCap k := by rw [State.overCap, State.overCap, hmean]
  rw [State.capCeiling, State.capCeiling, hover, hover, hlow, hlow, hp]

/-- Every listed site takes the ceiling of its step, and the others keep theirs. -/
theorem State.foldl_capSite (l : List Nat) (hl : l.Nodup) (s : State) : Keeps capParts [.P0C09] s (l.foldl (fun s p => s.capSite p) s) ∧
    ∀ q, (l.foldl (fun s p => s.capSite p) s).obj .P0C09 q = if q ∈ l then s.capCeiling q else s.obj .P0C09 q := by
  induction l generalizing s with
  | nil => exact ⟨.refl _ _ s, fun q => rfl⟩
  | cons p r ih =>
    obtain ⟨hp, hr⟩ := List.nodup_cons.mp hl
    obtain ⟨hkeeps, hset⟩ := s.capSite_spec p
    obtain ⟨hrest, hall⟩ := ih hr (s.capSite p)
    refine ⟨hkeeps.trans hrest, fun q => ?_⟩
    rw [List.foldl_cons, hall]
    by_cases hq : q = p
    · rw [hq, if_neg hp, if_pos List.mem_cons_self, hset, if_pos rfl]
    · have hsame : (s.capSite p).obj .P0C09 q = s.obj .P0C09 q := (hset q).trans (if_neg hq)
      by_cases hqr : q ∈ r
      · rw [if_pos hqr, if_pos (List.mem_cons_of_mem p hqr), State.capCeiling_congr hkeeps hsame]
      · rw [if_neg hqr, if_neg fun h => (List.mem_cons.mp h).elim hq hqr, hsame]

theorem usedSites_nodup : (usedPorts.filter isSite).Nodup := by decide +kernel

/-- The times from which the means have been low, and the time of the next step. -/
def State.capTracked (s : State) : State := { s with power := { s.power with
  lowMean := (List.range 16).foldl (fun m k =>
    if 100 * (s.meanAndCap k).1 < 97 * (s.meanAndCap k).2 then (if m.any (fun e => e.1 == k) then m else mapSet m k s.time) else mapDel m k) s.power.lowMean
  capAt := s.time + 1000000 } }

theorem exec_capLoopStep {s : State} (h : s.power.capAt ≤ s.time) : ∃ t : State, exec .capLoopStep s = .next t ∧ t.power.capAt = s.time + 1000000 ∧
    (∀ p ∈ usedPorts, isSite p = true → ((s.meanAndCap 15).2 < (s.meanAndCap 15).1 ∨ (s.meanAndCap (zoneOf p)).2 < (s.meanAndCap (zoneOf p)).1) →
      t.obj .P0C09 p = max 400 (s.obj .P0C09 p - 25)) ∧
    (∀ p ∈ usedPorts, isSite p = true → (s.meanAndCap 15).1 ≤ (s.meanAndCap 15).2 → (s.meanAndCap (zoneOf p)).1 ≤ (s.meanAndCap (zoneOf p)).2 →
      t.obj .P0C09 p = s.obj .P0C09 p ∨ t.obj .P0C09 p = min 1800 (s.obj .P0C09 p + 25)) ∧
    objsBut (.P0C09 :: islandObjs) s t ∧ unchangedBut (.sites :: .markets :: islandParts) s t := by
  let v := (usedPorts.filter isSite).foldl (fun s p => s.capSite p) s.capTracked
  have hexec : exec .capLoopStep s = .next v.settleIsland := congrArg Host.Outcome.next (if_neg (Nat.not_lt.mpr h))
  obtain ⟨hkeeps, hall⟩ := State.foldl_capSite _ usedSites_nodup s.capTracked
  obtain ⟨hsettled, ⟨_, _, _, hpower⟩, -⟩ := v.settleIsland_judged
  have hv : v.power = s.capTracked.power := hkeeps.1 .power (by decide)
  have hshown (p : Nat) (hp : p ∈ usedPorts) (hsite : isSite p = true) : v.settleIsland.obj .P0C09 p = s.capTracked.capCeiling p := by
    rw [hsettled.obj _ _ (by decide), hall, if_pos (List.mem_filter.mpr ⟨hp, hsite⟩)]
  have hover (k : Nat) : s.capTracked.overCap k = decide ((s.meanAndCap k).2 < (s.meanAndCap k).1) := rfl
  obtain ⟨hparts, hobjs⟩ : Keeps (.sites :: .markets :: islandParts) (.P0C09 :: islandObjs) s v.settleIsland :=
    (((s.power_keeps _).mono (by decide)).trans (hkeeps.mono (by decide))).trans (hsettled.mono (by decide))
  refine ⟨_, hexec, by rw [hpower, hv]; rfl, fun p hp hsite hhigh => ?_, fun p hp hsite hpanel hzone => ?_, hobjs, hparts⟩
  · rw [hshown p hp hsite, State.capCeiling, hover, hover, if_pos (by simpa using hhigh)]
    rfl
  · rw [hshown p hp hsite, State.capCeiling, hover, hover, if_neg (by simpa using ⟨hpanel, hzone⟩)]
    split
    · exact .inr rfl
    · exact .inl rfl

/-! ### The obligation -/

/-- Settles O41: each clause is the lemma of the command, through what the island's judgement, every zone off and a zone's return leave. -/
theorem powerCommandsComplete : Obligations.PowerCommandsComplete := by
  unfold Obligations.PowerCommandsComplete
  intro parts objects
  have hparts {s t : State} (h : unchangedBut islandParts s t) : unchangedBut parts s t := h.mono (by decide)
  refine ⟨fun s mv hlow hhigh => ?inRange, fun s mv hlow hnot hruns hstore => exec_inputSample_low hlow hnot hruns hstore,
    fun s zone ma c hon hz hspine hc => ?trip, fun s zone h => exec_prechargeTestDone_fault h, fun s zone h hz => exec_prechargeTestDone_closes h hz,
    fun s session zone x hopen hacts hlevel hmatches hrange hmay => exec_efuseReclose hopen hacts hlevel hmatches hrange hmay,
    fun s zone hz hopen hnot => exec_zoneLost hz hopen hnot, fun s site rail mv hpow hrail hout => exec_railFault hpow hrail hout,
    fun s watts zones => exec_powerSample s watts zones, fun s h => ?capLoop, fun s hfeed => ?feed,
    fun s hfeed hlate => congrArg Host.Outcome.next (if_pos ⟨hfeed, hlate⟩)⟩
  case inRange =>
    obtain ⟨t, hexec, hmv, hlow', hsince, hfailed, hshown, hobjs, hkept⟩ := exec_inputSample_inRange s hlow hhigh
    exact ⟨t, hexec, hmv, hlow', hsince, hfailed, hshown, hobjs, hparts hkept⟩
  case trip =>
    obtain ⟨t, hexec, hat, hopen, hcount, hbit, hzone, hobjs, hkept⟩ := exec_efuseTrip hon hz hspine hc
    exact ⟨t, hexec, hat, hopen, hcount, hbit, hzone, hobjs, hparts hkept⟩
  case capLoop =>
    obtain ⟨t, hexec, hat, hfalls, hrises, hobjs, hkept⟩ := exec_capLoopStep h
    exact ⟨t, hexec, hat, hfalls, hrises, hobjs, hkept.mono (by decide)⟩
  case feed =>
    have hgoes : ¬((!s.power.aonFeed) = true) := by rw [hfeed]; decide
    exact ⟨_, congrArg Host.Outcome.next (if_neg hgoes), rfl, rfl, by rw [unchangedBut_iff]; simp [State.judgeHoldUp]⟩

end Sys2Proof.Machine
end

section
/-!
Starts of the panel, the hold-up store's end and the test port (R290, R291, R306, R390, R410, R411, R414).
-/

namespace Sys2Proof.Machine

/-! ### What a start keeps (Table 16.6) -/

/-- What a start leaves of a state: the island's clock and epoch when it ran on, what the outside holds, and the rest at reset. -/
structure State.Started (s t : State) (island : Bool) : Prop where
  time : t.time = if island then s.time else 0
  epoch : t.keeper.epoch = if island then s.keeper.epoch else 0
  holder : t.keeper.holder = none
  mem : t.mem = []
  streams : t.streams = []
  pending : t.pending = s.pending
  store : t.store = s.store.loaded
  tripped : t.power.tripped = false
  failed : t.power.failed = false
  islandRuns : t.power.islandRuns = true
  aonFeed : t.power.aonFeed = s.power.aonFeed
  stby : t.power.stby = s.power.stby
  stbyEn : t.pins.stbyEn = s.pins.stbyEn

/-- What keeps all but the ledger objects and the start-up's stage keeps what a start leaves. -/
theorem State.Started.keeps {s t u : State} {island : Bool} {os : List Obj} (h : s.Started t island) (hkeeps : Keeps [.objs, .startup] os t u) :
    s.Started u island := by
  have hparts := hkeeps.1
  have hkeeper : u.keeper = t.keeper := hparts .keeper (by decide)
  have hpower : u.power = t.power := hparts .power (by decide)
  have hpins : u.pins = t.pins := hparts .pins (by decide)
  exact {
    time := (hparts.time (by decide)).trans h.time, epoch := by rw [hkeeper, h.epoch], holder := by rw [hkeeper, h.holder]
    mem := (hparts .mem (by decide)).trans h.mem, streams := (hparts .streams (by decide)).trans h.streams
    pending := (hparts .pending (by decide)).trans h.pending, store := (hparts .store (by decide)).trans h.store
    tripped := by rw [hpower, h.tripped], failed := by rw [hpower, h.failed], islandRuns := by rw [hpower, h.islandRuns]
    aonFeed := by rw [hpower, h.aonFeed], stby := by rw [hpower, h.stby], stbyEn := by rw [hpins, h.stbyEn] }

/-- The objects that a start writes. -/
def freshObjs : List Obj := [.W0001, .I0D05, .I0D04, .K0D10, .P0C00]

/-- The panel after a start, before it shows the epoch, the life-cycle state, the slot and the input. -/
theorem State.fresh_core (s : State) (island : Bool) : ∃ u : State, Keeps [.objs] freshObjs u (s.fresh island) ∧ s.Started u island ∧
    u.startup.stage = 0 ∧ u.log.bb = if island then s.log.bb else [] := by
  have hepoch (u : State) : Keeps [.objs] freshObjs u (if island then u.setObj .W0001 0 s.keeper.epoch else u) :=
    .ite ((u.setObj_keeps _ _ _).mono (by decide)) (.refl _ _ u)
  have hlife (u : State) : Keeps [.objs] freshObjs u (if s.obj .I0D05 0 = 0 ∨ s.obj .I0D05 0 = 4 then u else u.setObj .I0D05 0 s.store.inForce.life) :=
    .ite (.refl _ _ u) ((u.setObj_keeps _ _ _).mono (by decide))
  have hshown (u : State) (v w x : Nat) : Keeps [.objs] freshObjs u (((u.setObj .I0D04 0 v).setObj .K0D10 0 w).setObj .P0C00 0 x) :=
    (((u.setObj_keeps _ _ _).mono (by decide)).trans ((State.setObj_keeps _ _ _ _).mono (by decide))).trans ((State.setObj_keeps _ _ _ _).mono (by decide))
  refine ⟨_, ((hepoch _).trans (hlife _)).trans (hshown _ _ _ _), ?_, rfl, rfl⟩
  exact { time := rfl, epoch := rfl, holder := rfl, mem := rfl, streams := rfl, pending := rfl, store := rfl, tripped := rfl, failed := rfl,
          islandRuns := rfl, aonFeed := rfl, stby := rfl, stbyEn := rfl }

theorem State.fresh_started (s : State) (island : Bool) : s.Started (s.fresh island) island := by
  obtain ⟨u, hkeeps, hstarted, -, -⟩ := s.fresh_core island
  exact hstarted.keeps (hkeeps.mono ⟨by decide, fun _ h => h⟩)

theorem State.fresh_stage (s : State) (island : Bool) : (s.fresh island).startup.stage = 0 := by
  obtain ⟨u, hkeeps, -, hstage, -⟩ := s.fresh_core island
  rw [hkeeps.1 .startup (by decide), hstage]

theorem State.fresh_bb (s : State) (island : Bool) : (s.fresh island).log.bb = if island then s.log.bb else [] := by
  obtain ⟨u, hkeeps, -, -, hbb⟩ := s.fresh_core island
  rw [hkeeps.1 .log (by decide), hbb]

theorem State.enterStage_keeps (s : State) (k : Nat) : Keeps [.objs, .startup] [.K0E00] s (s.enterStage k) := by
  have hstartup (u : State) (x : Startup) : Keeps [.startup] [] u { u with startup := x } := .of_parts (by rw [unchangedBut_iff]; simp) (by decide)
  exact ((s.setObj_keeps _ _ _).mono (by decide)).trans ((hstartup _ _).mono (by decide))

theorem State.enterStage_shown (s : State) (k : Nat) : (s.enterStage k).obj .K0E00 0 = k - 1 := s.obj_setObj .K0E00 0 (k - 1)

/-! ### What the island's judgement leaves of the pins -/

theorem State.judgeEmergency_pins (s : State) : s.judgeEmergency.pins = s.pins := by
  have hall (l : List Nat) {f : State → Nat → State} (hf : ∀ s n, (f s n).pins = s.pins) (s : State) : (l.foldl f s).pins = s.pins := by
    induction l generalizing s with
    | nil => rfl
    | cons n r ih => exact (ih _).trans (hf s n)
  refine hall _ (fun s n => ?_) s
  dsimp only
  split
  · exact (s.setEmergency_keeps n).1 .pins (by decide)
  · split
    · rfl
    · rfl

theorem State.settleIsland_pins (s : State) : s.settleIsland.pins.stbyEn = s.pins.stbyEn ∧ s.settleIsland.pins.wakeN = s.pins.wakeN := by
  have hhold (u : State) : u.judgeHoldUp.pins = u.pins := rfl
  have htrip : s.judgeTrip.pins = s.pins := rfl
  have hjudged : s.judgeTrip.judgeEmergency.judgeHoldUp.pins = s.pins := by rw [hhold, State.judgeEmergency_pins, htrip]
  have hshown (u : State) : u.showPins.pins.stbyEn = u.pins.stbyEn ∧ u.showPins.pins.wakeN = u.pins.wakeN := ⟨rfl, rfl⟩
  obtain ⟨hstby, hwake⟩ := hshown s.judgeTrip.judgeEmergency.judgeHoldUp
  rw [hjudged] at hstby hwake
  exact ⟨hstby, hwake⟩

theorem State.Started.settle {s t : State} {island : Bool} (h : s.Started t island) : s.Started t.settleIsland island := by
  obtain ⟨⟨hparts, -⟩, ⟨_, _, _, hpower⟩, -⟩ := t.settleIsland_judged
  have hkeeper : t.settleIsland.keeper = t.keeper := hparts .keeper (by decide)
  exact {
    time := (hparts.time (by decide)).trans h.time, epoch := by rw [hkeeper, h.epoch], holder := by rw [hkeeper, h.holder]
    mem := (hparts .mem (by decide)).trans h.mem, streams := (hparts .streams (by decide)).trans h.streams
    pending := (hparts .pending (by decide)).trans h.pending, store := (hparts .store (by decide)).trans h.store
    tripped := by rw [hpower, ← h.tripped], failed := by rw [hpower, ← h.failed], islandRuns := by rw [hpower, ← h.islandRuns]
    aonFeed := by rw [hpower, ← h.aonFeed], stby := by rw [hpower, ← h.stby], stbyEn := by rw [t.settleIsland_pins.1, h.stbyEn] }

/-! ### Warm and cold starts (R291, R306, R390, R410) -/

theorem State.warmStart_spec (s : State) : s.Started s.warmStart true ∧ s.warmStart.startup.stage = 3 ∧ s.warmStart.startup.running = true ∧
    s.warmStart.obj .K0E00 0 = 2 := by
  have hsettled := ((s.fresh true).enterStage 3).settleIsland_keeps
  have hstartup : s.warmStart.startup = ((s.fresh true).enterStage 3).startup := hsettled.1 .startup (by decide)
  refine ⟨((s.fresh_started true).keeps ((s.fresh true).enterStage_keeps 3)).settle, by rw [hstartup]; rfl, by rw [hstartup]; rfl, ?_⟩
  exact (hsettled.obj .K0E00 0 (by decide)).trans (State.enterStage_shown _ 3)

theorem exec_inputRestored {s : State} (hstage : s.startup.stage = 0) (hstby : s.power.stby = false) (htrip : s.power.tripped = false)
    (hruns : s.power.islandRuns = true) (hsteady : s.inputSteady = true) : exec .inputRestored s = .next s.warmStart :=
  congrArg Host.Outcome.next (if_pos ⟨hstage, by rw [hstby]; rfl, by rw [htrip]; rfl, hruns, hsteady⟩)

/-- The always-on feed is back. -/
def State.fed (s : State) : State := { s with power := { s.power with aonFeed := true, feedFrom := s.time, holdUpFrom := none } }

/-- The state in which a cold start begins. -/
def State.coldStart (s : State) : State :=
  if (s.fed.fresh false).power.stby then s.fed.fresh false else (s.fed.fresh false).enterStage 1

theorem exec_coldStart_cold {s : State} (hfeed : s.power.aonFeed = false) (hstopped : s.power.islandRuns = false ∨ s.power.tripped = true) :
    ∃ t : State, exec .coldStart s = .next t ∧ t.startup.stage = (if s.power.stby then 0 else 1) ∧ t.time = 0 ∧ t.keeper.epoch = 0 ∧
      t.keeper.holder = none ∧ t.mem = [] ∧ t.streams = [] ∧ t.power.aonFeed = true ∧ t.power.islandRuns = true ∧ t.power.tripped = false ∧
      t.pending = s.pending ∧ t.store = s.store.loaded := by
  have hcold : ¬(s.fed.power.islandRuns = true ∧ (!s.fed.power.tripped) = true) := by
    rintro ⟨hruns, htrip⟩
    rcases hstopped with h | h
    · exact Bool.false_ne_true (h.symm.trans hruns)
    · exact Bool.false_ne_true (((congrArg Bool.not h).symm.trans htrip))
  have hexec : exec .coldStart s = .next s.coldStart.settleIsland :=
    congrArg Host.Outcome.next ((if_neg (by rw [hfeed]; exact Bool.false_ne_true)).trans (if_neg hcold))
  have hfresh := s.fed.fresh_started false
  have hstby : (s.fed.fresh false).power.stby = s.power.stby := hfresh.stby
  have hstarted : s.fed.Started s.coldStart false ∧ s.coldStart.startup.stage = if s.power.stby then 0 else 1 := by
    rw [State.coldStart, hstby]
    split
    · exact ⟨hfresh, s.fed.fresh_stage false⟩
    · exact ⟨hfresh.keeps (State.enterStage_keeps _ 1), rfl⟩
  obtain ⟨hstarted, hstage⟩ := hstarted
  have hsettled := hstarted.settle
  have hstartup : s.coldStart.settleIsland.startup = s.coldStart.startup := s.coldStart.settleIsland_keeps.1 .startup (by decide)
  exact ⟨_, hexec, by rw [hstartup, hstage], hsettled.time, hsettled.epoch, hsettled.holder, hsettled.mem, hsettled.streams, hsettled.aonFeed,
    hsettled.islandRuns, hsettled.tripped, hsettled.pending, hsettled.store⟩

theorem exec_coldStart_runs {s : State} (hfeed : s.power.aonFeed = false) (hruns : s.power.islandRuns = true) (htrip : s.power.tripped = false) :
    ∃ t : State, exec .coldStart s = .next t ∧ t.power.aonFeed = true ∧ t.power.feedFrom = s.time ∧ t.time = s.time ∧ t.startup = s.startup ∧
      sameMemory s t := by
  have hexec : exec .coldStart s = .next s.fed.settleIsland :=
    congrArg Host.Outcome.next ((if_neg (by rw [hfeed]; exact Bool.false_ne_true)).trans (if_pos ⟨hruns, by rw [htrip]; rfl⟩))
  obtain ⟨⟨hparts, -⟩, ⟨_, _, _, hpower⟩, -⟩ := s.fed.settleIsland_judged
  exact ⟨_, hexec, by rw [hpower]; rfl, by rw [hpower]; rfl, hparts.time (by decide), hparts .startup (by decide),
    (((s.power_keeps _).1.mono (l' := islandParts) (by decide)).trans hparts).memory (by decide) (by decide)⟩

/-- STBY_EN has been released. -/
def State.wokenUp (s : State) : State :=
  { s with power := { s.power with stby := false, tripped := false }, pins := { s.pins with stbyEn := false } }

theorem exec_standbyRelease {s : State} (hstby : s.power.stby = true) (hruns : s.power.islandRuns = true) (hsteady : s.inputSteady = true) :
    exec .standbyRelease s = .next s.wokenUp.warmStart := by
  have hgoes : ¬((!s.power.stby) = true) := by rw [hstby]; decide
  exact congrArg Host.Outcome.next ((if_neg hgoes).trans (if_pos ⟨hruns, hsteady⟩))

/-! ### The hold-up store is exhausted (R290) -/

/-- The panel with its supplies off. -/
def State.shutDown (s : State) : State := if s.startup.stage = 0 then s else s.allOff

/-- The island stops. -/
def State.islandStops (s : State) : State := ({ s with power := { s.power with islandRuns := false, holdUpCharged := false } } : State).showPins

theorem State.islandStops_spec (s : State) : let t := s.islandStops
    t.power.islandRuns = false ∧ t.power.holdUpCharged = false ∧ t.time = s.time ∧ t.keeper = s.keeper ∧ t.log = s.log ∧ t.mem = s.mem ∧
      t.startup = s.startup := ⟨rfl, rfl, rfl, rfl, rfl, rfl, rfl⟩

theorem exec_holdUpExhausted_eq {s : State} {u : Nat} (hfrom : s.power.holdUpFrom = some u) (hlate : u + 20000000 ≤ s.time)
    (hruns : s.power.islandRuns = true) : exec .holdUpExhausted s = .next (s.shutDown.fresh false).islandStops := by
  change execHoldUpExhausted s = _
  unfold execHoldUpExhausted
  rw [hfrom]
  exact congrArg Host.Outcome.next (if_pos ⟨hlate, hruns⟩)

theorem exec_holdUpExhausted {s : State} {u : Nat} (hfrom : s.power.holdUpFrom = some u) (hlate : u + 20000000 ≤ s.time)
    (hruns : s.power.islandRuns = true) : ∃ t : State, exec .holdUpExhausted s = .next t ∧ t.power.islandRuns = false ∧
      t.power.holdUpCharged = false ∧ t.time = 0 ∧ t.keeper.epoch = 0 ∧ t.log.bb = [] ∧ t.mem = [] ∧ t.startup.stage = 0 := by
  obtain ⟨hoff, hstore, hclock, hkeeper, hlog, hmemory, hstartup⟩ := (s.shutDown.fresh false).islandStops_spec
  have hstarted := s.shutDown.fresh_started false
  refine ⟨_, exec_holdUpExhausted_eq hfrom hlate hruns, hoff, hstore, ?_, ?_, ?_, hmemory.trans hstarted.mem, ?_⟩
  · rw [hclock, hstarted.time, if_neg Bool.false_ne_true]
  · rw [hkeeper, hstarted.epoch, if_neg Bool.false_ne_true]
  · rw [hlog, State.fresh_bb, if_neg Bool.false_ne_true]
  · rw [hstartup, State.fresh_stage]

/-! ### The test port (R414) -/

/-- The instruction that the port takes: a die test only while it is open. -/
def State.tapTaken (s : State) (ir : Nat) : Nat :=
  if ir ≤ 1 ∨ (decide (s.obj .I0D05 0 = 0) || decide (s.obj .I0D05 0 = 3)) = true then ir else 0

/-- The port after an instruction. -/
def State.tapped (s : State) (k : Nat) : State :=
  if k = 0 then { s with pins := { s.pins with trstN := true, ir := 0, dr := 0 } }
  else if k = 1 then { s with pins := { s.pins with trstN := true, ir := 1, dr := Config.idcode } }
  else { s with freeCount := s.freeCount + 1, pins := { s.pins with trstN := true, ir := k, dr := Config.tapData s.freeCount } }

theorem exec_tapInstruction (s : State) (ir : Nat) : exec (.tapInstruction ir) s = .next (s.tapped (s.tapTaken ir)) := rfl

theorem exec_tapInstruction_bypass {s : State} {ir : Nat} (h : ir = 0 ∨ (2 ≤ ir ∧ s.obj .I0D05 0 ≠ 0 ∧ s.obj .I0D05 0 ≠ 3)) :
    exec (.tapInstruction ir) s = .next { s with pins := { s.pins with trstN := true, ir := 0, dr := 0 } } := by
  have htaken : s.tapTaken ir = 0 := by
    rcases h with rfl | ⟨hir, hmade, hservice⟩
    · exact if_pos (.inl (Nat.zero_le 1))
    · exact if_neg (by simp [hmade, hservice, Nat.lt_of_succ_le hir])
  rw [exec_tapInstruction, htaken]
  rfl

theorem exec_tapInstruction_dieTest {s : State} {ir : Nat} (hir : 2 ≤ ir) (hopen : s.obj .I0D05 0 = 0 ∨ s.obj .I0D05 0 = 3) :
    ∃ t : State, exec (.tapInstruction ir) s = .next t ∧ t.pins.ir = ir ∧ t.freeCount = s.freeCount + 1 ∧ unchangedBut [.pins, .freeCount] s t := by
  have htaken : s.tapTaken ir = ir := if_pos (.inr (by simpa using hopen))
  have htapped : s.tapped ir = { s with freeCount := s.freeCount + 1, pins := { s.pins with trstN := true, ir := ir, dr := Config.tapData s.freeCount } } :=
    (if_neg (by omega)).trans (if_neg (by omega))
  rw [exec_tapInstruction, htaken, htapped]
  exact ⟨_, rfl, rfl, rfl, by rw [unchangedBut_iff]; simp⟩

end Sys2Proof.Machine
end

section
/-!
Standby (R295, R410): links down, ports out of service, and every zone off.
-/

namespace Sys2Proof.Machine

/-! ### Links that are down stay down -/

/-- No link leaves the state DOWN. -/
def State.StaysDown (s t : State) : Prop := ∀ n, s.linkSt n = linkDown → t.linkSt n = linkDown

theorem State.StaysDown.trans {s t u : State} (h : s.StaysDown t) (h' : t.StaysDown u) : s.StaysDown u := fun n hn => h' n (h n hn)

theorem State.StaysDown.foldl {α : Type} {f : State → α → State} (h : ∀ s x, State.StaysDown s (f s x)) (l : List α) (s : State) :
    s.StaysDown (l.foldl f s) := by
  induction l generalizing s with
  | nil => exact fun _ hn => hn
  | cons x r ih => exact (h s x).trans (ih _)

theorem Keeps.staysDown {l : List Part} {os : List Obj} {s t : State} (h : Keeps l os s t) (ho : Obj.F0902 ∉ os) : s.StaysDown t :=
  fun n hn => (h.obj .F0902 n ho).trans hn

theorem State.dropLink_staysDown (s : State) (n : Nat) : s.StaysDown (s.dropLink n) := by
  obtain ⟨⟨hothers, -, -⟩, -, hdown, -⟩ := s.dropLink_spec n
  intro m hm
  by_cases h : m = n
  · rw [h]
    exact hdown
  · rw [(hothers m h).2.1]
    exact hm

theorem State.foldl_dropLink (l : List Nat) (s : State) : ∀ n ∈ l, (l.foldl (fun s n => s.dropLink n) s).linkSt n = linkDown :=
  foldl_establishes (P := fun s n => s.linkSt n = linkDown) (fun s n => (s.dropLink_spec n).2.2.1) (fun s m n h => s.dropLink_staysDown m n h) l s

theorem State.moveStreams_keeps (s : State) (i : Nat) : Keeps [.iods, .streams] [] s (s.moveStreams i) := by
  have hstreams (u : State) (x : AMap Nat (Option Stream)) : Keeps [.streams] [] u { u with streams := x } :=
    .of_parts (by rw [unchangedBut_iff]; simp) (by decide)
  exact .ite (.refl _ _ s) (((s.setIod_keeps _ _).mono (by decide)).trans ((hstreams _ _).mono (by decide)))

theorem State.iodDark_keeps (s : State) (i : Nat) : Keeps [.iods, .objs, .lanes, .log, .movers, .mem, .poison] [.F090D, .L0806] s (s.iodDark i) := by
  have hclear (u : State) (m : Mover) (lo hi : Nat) : Keeps [.movers, .mem, .poison] [] u ((u.setMover (portOfIod i) m).clearRange lo hi) :=
    .of_parts (by rw [unchangedBut_iff]; simp [State.clearRange]) (by decide)
  exact ((((s.setIod_keeps i Iod.reset).mono (by decide)).trans ((State.setObj_keeps _ _ _ _).mono (by decide))).trans
    ((State.startLanes_keeps _ _).mono (by decide))).trans ((hclear _ _ _ _).mono (by decide))

theorem State.iodOff_staysDown (s : State) (i : Nat) : s.StaysDown (s.iodOff i) := by
  have hdropped : s.StaysDown ((List.range 6).foldl (fun s d => s.dropLink (6 * i + d)) (s.moveStreams i)) := by
    refine ((s.moveStreams_keeps i).staysDown (by decide)).trans (.foldl (fun s d => ?_) _ _)
    exact s.dropLink_staysDown (6 * i + d)
  unfold State.iodOff
  dsimp only
  generalize (List.range 6).foldl (fun s d => s.dropLink (6 * i + d)) (s.moveStreams i) = a at *
  have hdark : s.StaysDown (a.iodDark i) := hdropped.trans ((a.iodDark_keeps i).staysDown (by decide))
  have hunit (u : Nat) : s.StaysDown ((a.iodDark i).unitAbsent u) := hdark.trans ((State.unitAbsent_keeps _ u).staysDown (by decide))
  split
  · exact hunit _
  · exact hdark

theorem State.fieldOff_keeps (s : State) (f : Nat) : Keeps [.mem, .poison, .fields, .stations] [] s (s.fieldOff f) := by
  have hfield (u : State) (lo hi : Nat) (x : Field) : Keeps [.mem, .poison, .fields, .stations] [] u ((u.clearRange lo hi).setField f x) :=
    .of_parts (by rw [unchangedBut_iff]; simp [State.clearRange]) (by decide)
  have hstations (l : List Nat) (u : State) : Keeps [.mem, .poison, .fields, .stations] [] u
      (l.foldl (fun s p => s.setStation p { opens := [], tickets := [] }) u) := by
    refine .foldl (fun s p => ?_) l u
    exact .of_parts ((s.setStation_unchanged p _).mono (by decide)) (by decide)
  exact (hfield _ _ _ _).trans (hstations _ _)

/-- What a zone without supply loses before its I/O die. -/
def State.zoneDark (s : State) (z : Nat) : State :=
  let s := (zonePorts z).foldl (fun s p => if isSite p then s.siteLost p else s) s
  let s := (zoneFields z).foldl (fun s f => s.fieldOff f) s
  { s with recovery := { s.recovery with resets := mapDel s.recovery.resets z, resetWait := s.recovery.resetWait.filter (fun e => e.1 != z) } }

theorem State.zoneDark_staysDown (s : State) (z : Nat) : s.StaysDown (s.zoneDark z) := by
  have hsites (l : List Nat) (u : State) : u.StaysDown (l.foldl (fun s p => if isSite p then s.siteLost p else s) u) := by
    refine .foldl (fun s p => ?_) l u
    exact (Keeps.ite (s.siteLost_keeps p) (.refl _ _ s)).staysDown (by decide)
  have hfields (l : List Nat) (u : State) : u.StaysDown (l.foldl (fun s f => s.fieldOff f) u) := by
    refine .foldl (fun s f => ?_) l u
    exact (s.fieldOff_keeps f).staysDown List.not_mem_nil
  exact ((hsites _ _).trans (hfields _ _)).trans ((State.recovery_keeps _ _).staysDown List.not_mem_nil)

theorem State.zoneDown_staysDown (s : State) (z : Nat) : s.StaysDown (s.zoneDown z) := by
  have hlamps (l : List Nat) (u : State) : u.StaysDown (l.foldl (fun s d => s.loseLamp d 1) u) := by
    refine .foldl (fun s d => ?_) l u
    exact (s.loseLamp_keeps d 1).staysDown (by decide)
  have hdown : s.zoneDown z = match iodOfZone z with
      | some i => (lampsOfIod i).foldl (fun s d => s.loseLamp d 1) ((s.zoneDark z).iodOff i)
      | none => s.zoneDark z := rfl
  rw [hdown]
  split
  · exact ((s.zoneDark_staysDown z).trans (State.iodOff_staysDown _ _)).trans (hlamps _ _)
  · exact s.zoneDark_staysDown z

/-! ### Ports out of service stay so -/

/-- Every used port out of service. -/
def State.PortsOut (s : State) : Prop := ∀ p ∈ usedPorts, s.inService p = false

theorem Keeps.portsOut {l : List Part} {os : List Obj} {s t : State} (h : Keeps l os s t) (ho : Obj.B0601 ∉ os) (hs : s.PortsOut) : t.PortsOut :=
  fun p hp => (congrArg (· == portInService) (h.obj .B0601 p ho)).trans (hs p hp)

/-- An update that puts no port in service, done for every used port that is in service, leaves none in service. -/
theorem foldl_portsOut {f : State → Nat → State} (hset : ∀ s p, (f s p).inService p = false)
    (hkeep : ∀ s p q, q ≠ p → (f s p).inService q = s.inService q) (s : State) :
    (usedPorts.foldl (fun s p => if s.inService p then f s p else s) s).PortsOut := by
  refine foldl_establishes (P := fun s p => s.inService p = false) (fun s p => ?_) (fun s p q h => ?_) usedPorts s
  · split
    · exact hset s p
    · next h => exact Bool.eq_false_iff.mpr h
  · split
    · by_cases hq : q = p
      · rw [hq]
        exact hset s p
      · rw [hkeep s p q hq]
        exact h
    · exact h

theorem State.setObj_withdrawn_inService (s : State) (p : Nat) : (s.setObj .B0601 p portWithdrawn).inService p = false :=
  congrArg (· == portInService) (State.obj_setObj s .B0601 p portWithdrawn)

theorem State.setObj_withdrawn_inService_ne (s : State) {p q : Nat} (h : q ≠ p) : (s.setObj .B0601 p portWithdrawn).inService q = s.inService q :=
  congrArg (· == portInService) (State.obj_setObj_ne s _ (.inr h))

/-! ### Every zone off -/

theorem State.allOff_dark (s : State) : s.StaysDown s.allOff ∧ s.allOff.PortsOut := by
  let a := usedPorts.foldl (fun s p => if s.inService p then s.setObj .B0601 p portWithdrawn else s) s
  have ha : a.PortsOut := foldl_portsOut (f := fun s p => s.setObj .B0601 p portWithdrawn) (fun s p => s.setObj_withdrawn_inService p)
    (fun s p q h => s.setObj_withdrawn_inService_ne h) s
  have hout : s.StaysDown a := (State.foldl_withdrawn_keeps usedPorts s).staysDown (by decide)
  have hrest (a b c : State) (ha : s.StaysDown a) (hports : a.PortsOut) (hb : State.StaysDown { a with withdrawing := [], markets := [], posts := [] } b)
      (hbports : Keeps zoneParts zoneObjs { a with withdrawing := [], markets := [], posts := [] } b) (hc : Keeps [.objs] [.P0C06] b c) :
      let t : State := { c with
        startup := { c.startup with stage := 0 }, streams := [], waves := [], kept := []
        power := { c.power with guard := false, samples := [], zoneSamples := [], lowMean := [], fuseTest := [] } }
      s.StaysDown t ∧ t.PortsOut := by
    have hbout : b.PortsOut := hbports.portsOut (by decide) hports
    have hcout : c.PortsOut := hc.portsOut (by decide) hbout
    have hab : a.StaysDown b := hb
    exact ⟨(ha.trans hab).trans (hc.staysDown (by decide)), hcout⟩
  have hzones (l : List Nat) (u : State) : u.StaysDown (l.foldl (fun s z => s.zoneDown z) u) := by
    refine .foldl (fun s z => ?_) l u
    exact s.zoneDown_staysDown z
  exact hrest _ _ _ hout ha (hzones (List.range 15) _) (State.foldl_zoneDown_keeps (List.range 15) _)
    (State.foldl_setObj_keeps .P0C06 zoneIsOff (List.range 16) _)

theorem State.allOff_pins (s : State) : s.allOff.pins = s.pins := s.allOff_spec.1 .pins (by decide)

/-! ### Standby (R295, R410) -/

/-- STBY_EN is asserted. -/
def State.inStandby (s : State) : State := { s with power := { s.power with stby := true }, pins := { s.pins with stbyEn := true, wakeN := false } }

/-- A panel that enters standby takes its links down, withdraws its ports and flushes its black box. -/
def State.quiesced (s : State) : State :=
  (usedPorts.foldl (fun s p => if s.inService p then (s.setObj .B0601 p portWithdrawn).raise evPortWithdrawn p [0] else s)
    ((List.range 24).foldl (fun s n => s.dropLink n) s)).flushBb 2

theorem State.foldl_dropLink_lost (l : List Nat) (s : State) : Lost s (l.foldl (fun s n => s.dropLink n) s) := by
  refine .foldl (fun s n => ?_) l s
  exact s.dropLink_lost n

theorem State.flushBb_keeps (s : State) (cause : Nat) : Keeps [.log] [] s (s.flushBb cause) := by
  have hlog (u : State) (x : Logs) : Keeps [.log] [] u { u with log := x } := .of_parts (by rw [unchangedBut_iff]; simp) (by decide)
  exact (s.raise_keeps _ _ _).trans (hlog _ _)

theorem State.quiesced_spec (s : State) : (∀ n, n < 24 → s.quiesced.linkSt n = linkDown) ∧ s.quiesced.power = s.power ∧ s.quiesced.pins = s.pins := by
  have hdown := State.foldl_dropLink (List.range 24) s
  have hlost := State.foldl_dropLink_lost (List.range 24) s
  have hports (l : List Nat) (u : State) : Keeps [.objs, .log] [.B0601] u
      (l.foldl (fun s p => if s.inService p then (s.setObj .B0601 p portWithdrawn).raise evPortWithdrawn p [0] else s) u) := by
    refine .foldl (fun s p => ?_) l u
    exact .ite (((s.setObj_keeps _ _ _).mono (by decide)).trans ((State.raise_keeps _ _ _ _).mono (by decide))) (.refl _ _ s)
  unfold State.quiesced
  generalize (List.range 24).foldl (fun s n => s.dropLink n) s = a at hdown hlost
  have hafter := ((hports usedPorts a).mono (l' := [.objs, .log]) (os' := [.B0601]) (by decide)).trans ((State.flushBb_keeps _ 2).mono (by decide))
  refine ⟨fun n hn => hafter.staysDown (by decide) n (hdown n (List.mem_range.mpr hn)), ?_, ?_⟩
  · rw [hafter.1 .power (by decide), hlost.1 .power (by decide)]
  · rw [hafter.1 .pins (by decide), hlost.1 .pins (by decide)]

theorem exec_standbyEnter {s : State} (hstby : s.power.stby = false) (hstage : s.startup.stage ≠ 0) :
    ∃ t : State, exec .standbyEnter s = .next t ∧ t.power.stby = true ∧ t.startup.stage = 0 ∧ (∀ n, n < 24 → t.linkSt n = 0) ∧
      (∀ p ∈ usedPorts, t.inService p = false) ∧ (∀ z, z < 16 → t.obj .P0C06 z = 1) ∧ t.pins.stbyEn = true ∧ t.pins.wakeN = false := by
  have hexec : exec .standbyEnter s = .next s.inStandby.quiesced.allOff.settleIsland :=
    congrArg Host.Outcome.next ((if_neg (by rw [hstby]; exact Bool.false_ne_true)).trans (if_neg hstage))
  obtain ⟨hdown, hsupply, hpins⟩ := s.inStandby.quiesced_spec
  generalize s.inStandby.quiesced = a at hexec hdown hsupply hpins
  obtain ⟨hlinks, hports⟩ := a.allOff_dark
  have hoff := a.allOff_spec.2.2
  have hoffPins := a.allOff_pins
  have hzone (z : Nat) (hz : z < 16) := a.allOff_zone hz
  have hzero := a.allOff_stage
  generalize a.allOff = b at hexec hlinks hports hoff hoffPins hzone hzero
  obtain ⟨hsettled, ⟨_, _, _, hpower⟩, -⟩ := b.settleIsland_judged
  refine ⟨_, hexec, ?_, ?_, fun n hn => hsettled.staysDown (by decide) n (hlinks n (hdown n hn)), hsettled.portsOut (by decide) hports,
    fun z hz => (hsettled.obj .P0C06 z (by decide)).trans (hzone z hz), ?_, ?_⟩
  · rw [hpower, hoff, hsupply]
    rfl
  · rw [hsettled.1 .startup (by decide)]
    exact hzero
  · rw [b.settleIsland_pins.1, hoffPins, hpins]
    rfl
  · rw [b.settleIsland_pins.2, hoffPins, hpins]
    rfl

end Sys2Proof.Machine
end

section
/-!
What start-up's stages do to sites (R84 to R86, R389, R390, R393): sites powered, failed, tested and made up for.
-/

namespace Sys2Proof.Machine

/-! ### One site at a time -/

/-- A site without power that is no use. -/
def State.Gone (s : State) (p : Nat) : Prop := (s.site p).powered = false ∧ (s.site p).usable = false

theorem State.Gone.of_site {s t : State} {p : Nat} (h : s.Gone p) (hsite : t.site p = s.site p) : t.Gone p := by
  rw [State.Gone, hsite]
  exact h

/-- What powering, testing and failing sites may change. -/
def stackParts : List Part := .heat :: .log :: siteOffParts
def stackObjs : List Obj := .X0F02 :: .T0126 :: .M050D :: .K0E06 :: .S0400 :: .S0401 :: .S0402 :: siteOffObjs

theorem State.failSite_keeps (s : State) (p : Nat) : Keeps siteOffParts (.X0F02 :: siteOffObjs) s (s.failSite p) := by
  have hset (u : State) (q : Site) : Keeps [.sites] [] u (u.setSite p q) := .of_parts (u.setSite_unchanged p q) (by decide)
  exact (((s.siteOff_keeps p).mono (by decide)).trans ((hset _ _).mono (by decide))).trans ((State.showSpare_keeps _ _ _).mono (by decide))

theorem State.failSite_gone (s : State) (p : Nat) : (s.failSite p).Gone p := by
  let q : Site := { (s.siteOff p).site p with usable := false }
  have hsite : (s.failSite p).site p = q := by
    have hshown := ((s.siteOff p).setSite p q).showSpare_keeps p spareUnusable
    exact (hshown.1.site (by decide) p).trans (State.site_setSite _ _ _)
  have hoff : (s.siteOff p).site p = (s.site p).withoutSupply := (State.siteOff_site _ _ _).trans (if_pos rfl)
  rw [State.Gone, hsite]
  refine ⟨?_, rfl⟩
  change ((s.siteOff p).site p).powered = false
  rw [hoff]
  rfl

theorem State.failSite_site_ne (s : State) {p q : Nat} (h : q ≠ p) : (s.failSite p).site q = s.site q := by
  have hset (x : Site) : (((s.siteOff p).setSite p x).showSpare p spareUnusable).site q = (s.siteOff p).site q := by
    rw [(State.showSpare_keeps _ _ _).1.site (by decide), State.site_setSite_ne _ _ h]
  exact (hset _).trans ((State.siteOff_site _ _ _).trans (if_neg h))

theorem State.remap_site_ne (s : State) {p q : Nat} (bad dead : List Nat) (h : q ≠ p) : (s.remap p bad dead).site q = s.site q :=
  State.site_setSite_ne _ _ h

theorem State.powerSite_site_ne (s : State) {p q : Nat} (h : q ≠ p) : (s.powerSite p).site q = s.site q := by
  let u := (s.bringUp p 0 30).setObj .M050D p 0
  let v := u.setSite p { Site.reset with powered := true, usable := (u.site p).usable, mapOut := (u.site p).mapOut, liveAt := u.time }
  have hu : u.site q = s.site q := (s.bringUp_keeps p 0 30).1.site (by decide) q
  have hw : Keeps [.objs] [.C0B06, .P0C0D] v (s.powerSite p) :=
    ((((v.setObj_keeps _ _ _).mono (by decide)).trans ((State.showRail_keeps _ _ _ _).mono (by decide))).trans
      ((State.showRail_keeps _ _ _ _).mono (by decide))).trans ((State.showRail_keeps _ _ _ _).mono (by decide))
  rw [hw.1.site (by decide), State.site_setSite_ne _ _ h, hu]

/-- A powered site keeps its tile map, and whether it is usable. -/
theorem State.powerSite_site (s : State) (p : Nat) : ((s.powerSite p).site p).powered = true ∧
    ((s.powerSite p).site p).usable = (s.site p).usable ∧ ((s.powerSite p).site p).mapOut = (s.site p).mapOut := by
  let u := (s.bringUp p 0 30).setObj .M050D p 0
  let x : Site := { Site.reset with powered := true, usable := (u.site p).usable, mapOut := (u.site p).mapOut, liveAt := u.time }
  let v := u.setSite p x
  have hu : u.site p = s.site p := (s.bringUp_keeps p 0 30).1.site (by decide) p
  have hw : Keeps [.objs] [.C0B06, .P0C0D] v (s.powerSite p) :=
    ((((v.setObj_keeps _ _ _).mono (by decide)).trans ((State.showRail_keeps _ _ _ _).mono (by decide))).trans
      ((State.showRail_keeps _ _ _ _).mono (by decide))).trans ((State.showRail_keeps _ _ _ _).mono (by decide))
  have hsite : (s.powerSite p).site p = x := (hw.1.site (by decide) p).trans (u.site_setSite p x)
  rw [hsite, ← hu]
  exact ⟨rfl, rfl, rfl⟩

/-! ### Whether a site is usable with its tiles mapped out (R85) -/

/-- A site is usable once its tiles are mapped out. -/
def State.mapsUsable (s : State) (p : Nat) : Bool := ((s.remap p [] []).site p).usable

/-- The objects that say which tiles of a site are mapped out. -/
def mapObjs : List Obj := [.S0400, .S0401, .S0402, .S0406, .K0E05]

theorem mapObjs_kept {o : Obj} (h : o ∈ mapObjs) : o ∉ powerSiteObjs ∧ o ∉ Obj.X0F02 :: siteOffObjs := by
  revert o
  decide

theorem State.mapsUsable_congr {s t : State} {p : Nat} (husable : (t.site p).usable = (s.site p).usable) (hout : (t.site p).mapOut = (s.site p).mapOut)
    (hobj : ∀ o ∈ mapObjs, t.obj o p = s.obj o p) : t.mapsUsable p = s.mapsUsable p := by
  have hmap : t.obj .S0400 p = s.obj .S0400 p := hobj _ (by decide)
  have hdead : t.obj .S0401 p = s.obj .S0401 p := hobj _ (by decide)
  have hflag : t.obj .S0402 p = s.obj .S0402 p := hobj _ (by decide)
  have hnamed : t.obj .S0406 p = s.obj .S0406 p := hobj _ (by decide)
  have hfuses : t.obj .K0E05 p = s.obj .K0E05 p := hobj _ (by decide)
  have hphys (k : Nat) : t.physOf p k = s.physOf p k := by rw [State.physOf, State.physOf, State.mapValue, State.mapValue, hmap]
  simp only [State.mapsUsable, State.remap, State.site_setSite, husable, hout, hdead, hflag, hnamed, hfuses, hphys]

theorem State.remap_obj_ne (s : State) {p q : Nat} (bad dead : List Nat) (h : q ≠ p) (o : Obj) : (s.remap p bad dead).obj o q = s.obj o q := by
  have hset (u : State) (x : Site) : (u.setSite p x).obj o q = u.obj o q := rfl
  have hshow (u : State) (o' : Obj) (v : Nat) : (u.setObj o' p v).obj o q = u.obj o q := State.obj_setObj_ne _ _ (.inr h)
  exact (hset _ _).trans ((hshow _ _ _).trans ((hshow _ _ _).trans (hshow _ _ _)))

theorem State.powerSite_mapsUsable (s : State) (p : Nat) : (s.powerSite p).mapsUsable p = s.mapsUsable p := by
  obtain ⟨-, husable, hout⟩ := s.powerSite_site p
  exact State.mapsUsable_congr husable hout fun o ho => (s.powerSite_spec p).1.obj o p (mapObjs_kept ho).1

/-! ### A stack is powered (R84, R389) -/

theorem State.powerStack_keeps (s : State) (p : Nat) : Keeps stackParts stackObjs s (s.powerStack p) := by
  have hmapped : Keeps stackParts stackObjs s (((s.powerSite p).checkTileDie p).remap p [] []) :=
    (((s.powerSite_spec p).1.mono (by decide)).trans ((State.checkTileDie_spec _ p).1.mono (by decide))).trans ((State.remap_keeps _ p [] []).mono (by decide))
  exact .ite hmapped (hmapped.trans ((State.failSite_keeps _ p).mono (by decide)))

/-- Every tile die is fused for its place. -/
def State.DiesSound (s : State) : Prop := ∀ p, isSite p = true → TileFuse.fault (s.obj .K0E05 p) = false ∧ TileFuse.site (s.obj .K0E05 p) = p

theorem Keeps.diesSound {l : List Part} {os : List Obj} {s t : State} (h : Keeps l os s t) (ho : Obj.K0E05 ∉ os) (hs : s.DiesSound) : t.DiesSound :=
  fun p hp => by rw [h.obj .K0E05 p ho]; exact hs p hp

/-- Stage 8 begins for one site (R390). -/
def State.stackOn (s : State) (p : Nat) : State := if (s.site p).usable ∧ s.zoneOn (zoneOf p) then s.powerStack p else s.failSite p

/-- A site that stage 8 powers and keeps. -/
def State.stackFit (s : State) (p : Nat) : Bool := (s.site p).usable && s.zoneOn (zoneOf p) && s.mapsUsable p

theorem State.stackOn_keeps (s : State) (p : Nat) : Keeps stackParts stackObjs s (s.stackOn p) :=
  .ite (s.powerStack_keeps p) ((s.failSite_keeps p).mono (by decide))

theorem State.powerStack_of_sound {s : State} {p : Nat} (hsound : s.DiesSound) (hsite : isSite p = true) : s.powerStack p =
    if s.mapsUsable p then (s.powerSite p).remap p [] [] else ((s.powerSite p).remap p [] []).failSite p := by
  obtain ⟨hfault, hplace⟩ := (s.powerSite_spec p).1.diesSound (by decide) hsound p hsite
  have hchecked : (s.powerSite p).checkTileDie p = s.powerSite p := State.checkTileDie_of_sound hfault hplace
  have husable : (((s.powerSite p).remap p [] []).site p).usable = s.mapsUsable p := s.powerSite_mapsUsable p
  unfold State.powerStack
  dsimp only
  rw [hchecked, husable]

theorem State.stackOn_powered {s : State} {p : Nat} (hsound : s.DiesSound) (hsite : isSite p = true) :
    ((s.stackOn p).site p).powered = s.stackFit p := by
  unfold State.stackOn State.stackFit
  by_cases hon : (s.site p).usable = true ∧ s.zoneOn (zoneOf p) = true
  · rw [if_pos hon, State.powerStack_of_sound hsound hsite, hon.1, hon.2, Bool.true_and, Bool.true_and]
    cases hmap : s.mapsUsable p with
    | true => exact ((s.powerSite p).remap_samePower p [] [] p).trans (s.powerSite_site p).1
    | false => exact (State.failSite_gone _ p).1
  · rw [if_neg hon, (State.failSite_gone _ p).1, ← Bool.and_eq_true, Bool.not_eq_true] at *
    rw [hon, Bool.false_and]

theorem State.stackOn_site_ne {s : State} {p q : Nat} (hsound : s.DiesSound) (hsite : isSite p = true) (h : q ≠ p) :
    (s.stackOn p).site q = s.site q := by
  unfold State.stackOn
  split
  · rw [State.powerStack_of_sound hsound hsite]
    split
    · rw [State.remap_site_ne _ _ _ h, State.powerSite_site_ne _ h]
    · rw [State.failSite_site_ne _ h, State.remap_site_ne _ _ _ h, State.powerSite_site_ne _ h]
  · exact s.failSite_site_ne h

theorem State.stackOn_mapObj_ne {s : State} {p q : Nat} (hsound : s.DiesSound) (hsite : isSite p = true) (h : q ≠ p) (o : Obj) (ho : o ∈ mapObjs) :
    (s.stackOn p).obj o q = s.obj o q := by
  have hfail (u : State) : (u.failSite p).obj o q = u.obj o q := (u.failSite_keeps p).obj o q (mapObjs_kept ho).2
  have hpower : (s.powerSite p).obj o q = s.obj o q := (s.powerSite_spec p).1.obj o q (mapObjs_kept ho).1
  unfold State.stackOn
  split
  · rw [State.powerStack_of_sound hsound hsite]
    split
    · rw [State.remap_obj_ne _ _ _ h, hpower]
    · rw [hfail, State.remap_obj_ne _ _ _ h, hpower]
  · exact hfail s

theorem State.stackOn_stackFit_ne {s : State} {p q : Nat} (hsound : s.DiesSound) (hsite : isSite p = true) (h : q ≠ p) :
    (s.stackOn p).stackFit q = s.stackFit q := by
  have hq := State.stackOn_site_ne hsound hsite h
  have hmap : (s.stackOn p).mapsUsable q = s.mapsUsable q :=
    State.mapsUsable_congr (by rw [hq]) (by rw [hq]) (State.stackOn_mapObj_ne hsound hsite h)
  have hzone (z : Nat) : (s.stackOn p).zoneOn z = s.zoneOn z := by
    have hobj (n : Nat) : (s.stackOn p).obj .P0C06 n = s.obj .P0C06 n := (s.stackOn_keeps p).obj _ _ (by decide)
    rw [State.zoneOn, State.zoneOn, hobj, hobj, hobj]
  rw [State.stackFit, State.stackFit, hq, hmap, hzone]

/-- Each listed site is powered as it is fit, and the other sites stay as they are. -/
theorem State.foldl_stackOn (l : List Nat) (hl : l.Nodup) (hsites : ∀ p ∈ l, isSite p = true) (s : State) (hsound : s.DiesSound) :
    (∀ p ∈ l, ((l.foldl (fun s p => s.stackOn p) s).site p).powered = s.stackFit p) ∧
      ∀ q, q ∉ l → (l.foldl (fun s p => s.stackOn p) s).site q = s.site q := by
  induction l generalizing s with
  | nil => exact ⟨fun p hp => absurd hp List.not_mem_nil, fun q _ => rfl⟩
  | cons a r ih =>
    obtain ⟨ha, hr⟩ := List.nodup_cons.mp hl
    have hsite := hsites a List.mem_cons_self
    have hnext : (s.stackOn a).DiesSound := (s.stackOn_keeps a).diesSound (by decide) hsound
    obtain ⟨hpowered, hothers⟩ := ih hr (fun p hp => hsites p (List.mem_cons_of_mem a hp)) (s.stackOn a) hnext
    refine ⟨fun p hp => ?_, fun q hq => ?_⟩
    · rw [List.foldl_cons]
      rcases List.mem_cons.mp hp with rfl | hp
      · rw [hothers p ha, State.stackOn_powered hsound hsite]
      · have hne : p ≠ a := fun h => ha (h ▸ hp)
        rw [hpowered p hp, State.stackOn_stackFit_ne hsound hsite hne]
    · have hqa : q ≠ a := fun h => hq (h ▸ List.mem_cons_self)
      have hqr : q ∉ r := fun h => hq (List.mem_cons_of_mem a h)
      rw [List.foldl_cons, hothers q hqr, State.stackOn_site_ne hsound hsite hqa]

/-- The active sites, which stage 8 powers. -/
def activeSites : List Nat := usedPorts.filter (fun p => isSite p && !spareSites.contains p)

theorem activeSites_nodup : activeSites.Nodup := by decide +kernel

theorem mem_activeSites {p : Nat} : p ∈ activeSites ↔ p ∈ usedPorts ∧ isSite p = true ∧ p ∉ spareSites := by
  simp [activeSites]

theorem State.stacksOn_eq (s : State) : s.stacksOn = activeSites.foldl (fun s p => s.stackOn p) s := rfl

theorem State.stacksOn_keeps (s : State) : Keeps stackParts stackObjs s s.stacksOn := by
  have hall (l : List Nat) (u : State) : Keeps stackParts stackObjs u (l.foldl (fun s p => s.stackOn p) u) := by
    refine .foldl (fun s p => ?_) l u
    exact s.stackOn_keeps p
  rw [State.stacksOn_eq]
  exact hall activeSites s

/-! ### The tests of a stage (R390, R393) -/

theorem State.settleMap_keeps (s : State) (p : Nat) (bad dead : List Nat) : Keeps [.sites, .cols, .objs] [.S0400, .S0401, .S0402] s (s.settleMap p bad dead) :=
  ((s.remap_keeps p bad dead).mono (by decide)).trans ((s.settleMap_spec p bad dead).1.mono (by decide))

theorem State.settleMap_site_eq (s : State) (p q : Nat) (bad dead : List Nat) : (s.settleMap p bad dead).site q = (s.remap p bad dead).site q :=
  (s.settleMap_spec p bad dead).1.1.site (by decide) q

theorem State.remap_gone {s : State} {q : Nat} (h : s.Gone q) (p : Nat) (bad dead : List Nat) : (s.remap p bad dead).Gone q := by
  by_cases hq : q = p
  · subst hq
    refine ⟨(s.remap_samePower q bad dead q).trans h.1, ?_⟩
    have husable : ((s.remap q bad dead).site q).usable = ((s.site q).usable && _) := congrArg Site.usable (State.site_setSite _ _ _)
    rw [husable, h.2, Bool.false_and]
  · exact h.of_site (s.remap_site_ne bad dead hq)

theorem State.settleMap_gone {s : State} {q : Nat} (h : s.Gone q) (p : Nat) (bad dead : List Nat) : (s.settleMap p bad dead).Gone q :=
  (State.remap_gone h p bad dead).of_site (s.settleMap_site_eq p q bad dead)

theorem State.failSite_gone_of {s : State} {q : Nat} (h : s.Gone q) (p : Nat) : (s.failSite p).Gone q := by
  by_cases hq : q = p
  · rw [hq]
    exact s.failSite_gone p
  · exact h.of_site (s.failSite_site_ne hq)

/-- The tiles and switches of a site that its tests condemn. -/
def State.condemnTiles (s : State) (p : Nat) (bad dead : List Nat) : State := if bad = [] ∧ dead = [] then s else s.settleMap p bad dead

section
variable (s : State) (failed : List Nat) (badTiles : List (Nat × Nat)) (furrows : List (Nat × Nat × Nat)) (p : Nat)

theorem State.testSite_eq : ∃ bad dead, s.testSite failed badTiles furrows p =
    if failed.contains p ∨ !((((s.condemnTiles p bad dead).judgeColumns p).site p).usable) then
      ((s.condemnTiles p bad dead).judgeColumns p).failSite p else (s.condemnTiles p bad dead).judgeColumns p := ⟨_, _, rfl⟩

theorem State.testSite_keeps : Keeps stackParts stackObjs s (s.testSite failed badTiles furrows p) := by
  obtain ⟨bad, dead, htest⟩ := s.testSite_eq failed badTiles furrows p
  have hcondemned : Keeps stackParts stackObjs s (s.condemnTiles p bad dead) := .ite (.refl _ _ s) ((s.settleMap_keeps p bad dead).mono (by decide))
  have hjudged (u : State) : Keeps stackParts stackObjs u (u.judgeColumns p) := .ite (.refl _ _ u) ((u.settleMap_keeps p [] []).mono (by decide))
  rw [htest]
  exact (hcondemned.trans (hjudged _)).trans (.ite ((State.failSite_keeps _ p).mono (by decide)) (.refl _ _ _))

theorem State.testSite_gone : (failed.contains p = true → (s.testSite failed badTiles furrows p).Gone p) ∧
    ∀ q, s.Gone q → (s.testSite failed badTiles furrows p).Gone q := by
  obtain ⟨bad, dead, htest⟩ := s.testSite_eq failed badTiles furrows p
  have hjudged {q : Nat} (h : s.Gone q) : ((s.condemnTiles p bad dead).judgeColumns p).Gone q := by
    have hcondemned : (s.condemnTiles p bad dead).Gone q := by
      unfold State.condemnTiles
      split
      · exact h
      · exact State.settleMap_gone h p bad dead
    unfold State.judgeColumns
    split
    · exact hcondemned
    · exact State.settleMap_gone hcondemned p [] []
  rw [htest]
  refine ⟨fun hfailed => ?_, fun q h => ?_⟩
  · rw [if_pos (.inl hfailed)]
    exact State.failSite_gone _ p
  · split
    · exact State.failSite_gone_of (hjudged h) p
    · exact hjudged h

end

/-! ### Spares that make up for sites (R390) -/

theorem State.condemn_gone {s : State} {q : Nat} (h : s.Gone q) (p : Nat) : (s.condemn p).Gone q := by
  have hset : (s.condemn p).site q = (s.setSite p { s.site p with usable := false }).site q := (State.showSpare_keeps _ p spareUnusable).1.site (by decide) q
  by_cases hq : q = p
  · subst hq
    rw [State.Gone, hset, State.site_setSite]
    exact ⟨h.1, rfl⟩
  · exact h.of_site (hset.trans (State.site_setSite_ne _ _ hq))

theorem State.checkTileDie_gone {s : State} {q : Nat} (h : s.Gone q) (p : Nat) : (s.checkTileDie p).Gone q := by
  let u := (s.raise evIdentityMismatch p [p, TileFuse.site (s.obj .K0E05 p)]).setBit .K0E06 0 p true
  have hone {v : State} (hv : v.Gone q) (r claim : Nat) : State.Gone (if isSite r ∧ TileFuse.site (v.obj .K0E05 r) = claim then v.condemn r else v) q := by
    split
    · exact State.condemn_gone hv r
    · exact hv
  have hu : u.Gone q := h
  unfold State.checkTileDie
  dsimp only
  split
  · exact h
  · exact State.condemn_gone (hone (hone hu _ _) _ _) p

theorem State.powerStack_gone {s : State} {p q : Nat} (h : s.Gone q) (hne : q ≠ p) : (s.powerStack p).Gone q := by
  have hmapped : (((s.powerSite p).checkTileDie p).remap p [] []).Gone q :=
    State.remap_gone (State.checkTileDie_gone (h.of_site (s.powerSite_site_ne hne)) p) p [] []
  unfold State.powerStack
  dsimp only
  split
  · exact hmapped
  · exact State.failSite_gone_of hmapped p

/-- The spare that is next for a side. -/
def State.makeUpSpare (a : State × List Nat) (r : Nat) : Option Nat := (spareOrder r).find? (fun q => a.1.spareFit q && !a.2.contains q)

/-- A spare is taken for a side. -/
def State.makeUpOne (a : State × List Nat) (r : Nat) : State × List Nat :=
  match State.makeUpSpare a r with
  | none => a
  | some q => (if (a.1.site q).powered then a.1 else a.1.powerStack q, q :: a.2)

theorem State.makeUp_eq (s : State) :
    s.makeUp = ((List.replicate (s.lacking 0) 0 ++ List.replicate (s.lacking 1) 1).foldl State.makeUpOne (s, [])).1 := rfl

theorem State.makeUpSpare_fit {a : State × List Nat} {r q : Nat} (h : State.makeUpSpare a r = some q) : a.1.spareFit q = true := by
  have hfound := List.find?_some h
  simp only [Bool.and_eq_true] at hfound
  exact hfound.1

theorem State.makeUp_induct {P : State → Prop} (hpower : ∀ u q, P u → u.spareFit q = true → P (u.powerStack q)) (l : List Nat) (a : State × List Nat)
    (h : P a.1) : P (l.foldl State.makeUpOne a).1 := by
  induction l generalizing a with
  | nil => exact h
  | cons r l ih =>
    refine ih _ ?_
    unfold State.makeUpOne
    split
    · exact h
    · next q hq =>
      dsimp only
      split
      · exact h
      · exact hpower a.1 q h (State.makeUpSpare_fit hq)

theorem State.makeUp_keeps (s : State) : Keeps stackParts stackObjs s s.makeUp := by
  rw [State.makeUp_eq]
  exact State.makeUp_induct (P := fun t => Keeps stackParts stackObjs s t) (fun u q h _ => h.trans (u.powerStack_keeps q)) _ _ (.refl _ _ s)

theorem State.makeUp_gone {s : State} {p : Nat} (h : s.Gone p) : s.makeUp.Gone p := by
  rw [State.makeUp_eq]
  refine State.makeUp_induct (P := fun t => t.Gone p) (fun u q hu hfit => ?_) _ _ h
  refine State.powerStack_gone hu fun hpq => ?_
  rw [State.spareFit, ← hpq, hu.2, Bool.and_false] at hfit
  exact Bool.false_ne_true hfit

theorem State.makeUp_of_enough {s : State} (h : s.lacking 0 = 0 ∧ s.lacking 1 = 0 ∨ ∀ q ∈ spareSites, s.spareFit q = false) : s.makeUp = s := by
  rw [State.makeUp_eq]
  rcases h with ⟨h0, h1⟩ | hnone
  · rw [h0, h1]
    rfl
  · have hone (l : List Nat) (r : Nat) : State.makeUpOne (s, l) r = (s, l) := by
      have hspare : State.makeUpSpare (s, l) r = none := by
        refine List.find?_eq_none.mpr fun q _ hq => ?_
        have hfit : s.spareFit q = true := (Bool.and_eq_true _ _ ▸ hq).1
        have hmem : q ∈ spareSites := by
          have hfit' := hfit
          simp only [State.spareFit, Bool.and_eq_true, List.contains_iff_mem] at hfit'
          exact hfit'.1.1.1
        exact Bool.false_ne_true ((hnone q hmem).symm.trans hfit)
      rw [State.makeUpOne, hspare]
    have hall (l : List Nat) : l.foldl State.makeUpOne (s, []) = (s, []) := by
      induction l with
      | nil => rfl
      | cons r l ih => rw [List.foldl_cons, hone, ih]
    rw [hall]

/-! ### The end of the tests -/

/-- The state after every powered site's tests. -/
def State.tested (s : State) (failed : List Nat) (badTiles : List (Nat × Nat)) (furrows : List (Nat × Nat × Nat)) : State :=
  s.poweredSites.foldl (fun s p => s.testSite failed badTiles furrows p) s

section
variable (s : State) (failed : List Nat) (badTiles : List (Nat × Nat)) (furrows : List (Nat × Nat × Nat))

theorem State.stackTests_fst : (s.stackTests failed badTiles furrows).1 = s.tested failed badTiles furrows ∨
    (s.stackTests failed badTiles furrows).1 = (s.tested failed badTiles furrows).makeUp := by
  have htests : s.stackTests failed badTiles furrows =
      if (s.tested failed badTiles furrows).poweredSites.any (fun p => !(s.tested failed badTiles furrows).columnsReady p) then
        (s.tested failed badTiles furrows, false)
      else ((s.tested failed badTiles furrows).makeUp,
        (s.tested failed badTiles furrows).poweredSites.length == (s.tested failed badTiles furrows).makeUp.poweredSites.length &&
          spareSites.all (fun q => ((s.tested failed badTiles furrows).site q).usable == ((s.tested failed badTiles furrows).makeUp.site q).usable)) := rfl
  rw [htests]
  split
  · exact .inl rfl
  · exact .inr rfl

theorem State.tested_keeps : Keeps stackParts stackObjs s (s.tested failed badTiles furrows) := by
  have hall (l : List Nat) (u : State) : Keeps stackParts stackObjs u (l.foldl (fun s p => s.testSite failed badTiles furrows p) u) := by
    refine .foldl (fun s p => ?_) l u
    exact s.testSite_keeps failed badTiles furrows p
  exact hall s.poweredSites s

theorem State.stackTests_keeps : Keeps stackParts stackObjs s (s.stackTests failed badTiles furrows).1 := by
  rcases s.stackTests_fst failed badTiles furrows with h | h
  · rw [h]
    exact s.tested_keeps failed badTiles furrows
  · rw [h]
    exact (s.tested_keeps failed badTiles furrows).trans (State.makeUp_keeps _)

/-- A powered site that its tests fail is off and unusable. -/
theorem State.stackTests_gone : ∀ p ∈ failed, p ∈ s.poweredSites → (s.stackTests failed badTiles furrows).1.Gone p := by
  intro p hp hpowered
  have htested : (s.tested failed badTiles furrows).Gone p := by
    have hfold := foldl_establishes (P := fun s p => failed.contains p = true → State.Gone s p)
      (f := fun s p => s.testSite failed badTiles furrows p) (fun u q => (u.testSite_gone failed badTiles furrows q).1)
      (fun u q r h hr => (u.testSite_gone failed badTiles furrows q).2 r (h hr)) s.poweredSites s p hpowered
    exact hfold (List.contains_iff_mem.mpr hp)
  rcases s.stackTests_fst failed badTiles furrows with h | h
  · rw [h]
    exact htested
  · rw [h]
    exact State.makeUp_gone htested

end

theorem State.testSite_nothing (s : State) (p : Nat) : s.testSite [] [] [] p =
    if ([] : List Nat).contains p ∨ !((s.judgeColumns p).site p).usable then (s.judgeColumns p).failSite p else s.judgeColumns p := by
  unfold State.testSite
  simp only [List.filter_nil, List.map_nil, furrowFailures_nil]
  rfl

/-- Tests that find nothing, with every column ready and no spare wanted, change nothing and end. -/
theorem State.stackTests_of_sound {s : State} (hready : ∀ p ∈ s.poweredSites, s.columnsReady p = true ∧ s.columnsFail p = false)
    (henough : s.lacking 0 = 0 ∧ s.lacking 1 = 0 ∨ ∀ q ∈ spareSites, s.spareFit q = false) : s.stackTests [] [] [] = (s, true) := by
  have hone (p : Nat) (hp : p ∈ s.poweredSites) : s.testSite [] [] [] p = s := by
    obtain ⟨hcolumns, hfail⟩ := hready p hp
    have husable : (s.site p).usable = true := by
      rw [State.columnsReady, Bool.and_eq_true] at hcolumns
      exact hcolumns.1
    have hjudged : s.judgeColumns p = s := if_pos (by rw [hfail]; simp)
    rw [State.testSite_nothing, hjudged, husable]
    exact if_neg (by simp)
  have hall (l : List Nat) (hl : ∀ p ∈ l, p ∈ s.poweredSites) : l.foldl (fun s p => s.testSite [] [] [] p) s = s := by
    induction l with
    | nil => rfl
    | cons p l ih => rw [List.foldl_cons, hone p (hl p List.mem_cons_self), ih fun q hq => hl q (List.mem_cons_of_mem p hq)]
  have hany : s.poweredSites.any (fun p => !s.columnsReady p) = false := by
    rw [List.any_eq_false]
    intro p hp
    rw [(hready p hp).1]
    exact Bool.false_ne_true
  unfold State.stackTests
  rw [hall _ fun p hp => hp]
  dsimp only
  rw [hany, State.makeUp_of_enough henough]
  simp

end Sys2Proof.Machine
end

section
/-!
The stages of start-up (R388 to R390, R393, R396; Table 16.3), and the obligation on starts.
-/

namespace Sys2Proof.Machine

/-! ### A stage is entered -/

/-- A stage is entered at the present time, and K.0E00 shows it. -/
def State.Entered (s t : State) (k : Nat) : Prop := t.startup.stage = k ∧ t.startup.started = s.time ∧ t.obj .K0E00 0 = k - 1 ∧ t.time = s.time

theorem State.stageDone_keeps (s : State) (k : Nat) : Keeps [.objs, .log, .startup] [.K0E00, .K0E01] s (s.stageDone k) :=
  (((s.setObj_keeps _ _ _).mono (by decide)).trans ((State.raise_keeps _ _ _ _).mono (by decide))).trans ((State.enterStage_keeps _ k).mono (by decide))

theorem State.stageDone_entered {s u : State} (h : u.time = s.time) (k : Nat) : s.Entered (u.stageDone k) k :=
  ⟨rfl, h, State.enterStage_shown _ k, h⟩

theorem State.Entered.keeps {l : List Part} {os : List Obj} {s t u : State} {k : Nat} (h : s.Entered t k) (hkeeps : Keeps l os t u)
    (hl : Part.startup ∉ l ∧ Part.time ∉ l) (ho : Obj.K0E00 ∉ os) : s.Entered u k := by
  obtain ⟨hstage, hstarted, hshown, htime⟩ := h
  have hstartup : u.startup = t.startup := hkeeps.1 .startup hl.1
  exact ⟨by rw [hstartup, hstage], by rw [hstartup, hstarted], (hkeeps.obj _ _ ho).trans hshown, (hkeeps.1.time hl.2).trans htime⟩

theorem Keeps.timeKept {l : List Part} {os : List Obj} {s t : State} (h : Keeps l os s t) (hl : Part.time ∉ l) : t.time = s.time := h.1.time hl

/-! ### What the stages do before they end -/

/-- What P.0C06 shows of a branch once supplies have closed. -/
def State.supplyShown (s : State) (z : Nat) : Nat := if s.fuseOpen z then (if z < 14 then zoneFuse else zoneFeedLost) else zoneIsOn

/-- Supplies close, zone by zone. -/
def State.showSupplies (s : State) : State :=
  (List.range 16).foldl (fun s z => s.setObj .P0C06 z (if s.fuseOpen z then (if z < 14 then zoneFuse else zoneFeedLost) else zoneIsOn)) s

theorem State.showSupplies_keeps (s : State) : Keeps [.objs] [.P0C06] s s.showSupplies := by
  have hall (l : List Nat) (u : State) : Keeps [.objs] [.P0C06] u (l.foldl (fun s z =>
      s.setObj .P0C06 z (if s.fuseOpen z then (if z < 14 then zoneFuse else zoneFeedLost) else zoneIsOn)) u) := by
    refine .foldl (fun s z => ?_) l u
    exact s.setObj_keeps _ _ _
  exact hall _ s

theorem State.showSupplies_shown (s : State) {z : Nat} (hz : z < 16) : s.showSupplies.obj .P0C06 z = s.supplyShown z := by
  have hpower : s.showSupplies.power = s.power := s.showSupplies_keeps.1 .power (by decide)
  have hshown (u v : State) (h : u.power = v.power) (z : Nat) : u.supplyShown z = v.supplyShown z := by
    rw [State.supplyShown, State.supplyShown, State.fuseOpen, State.fuseOpen, h]
  have hset := foldl_establishes (P := fun (u : State) z => u.obj .P0C06 z = u.supplyShown z) (f := fun u z => u.setObj .P0C06 z (u.supplyShown z))
    (fun u z => State.obj_setObj _ _ _ _) (fun u x y h => ?_) (List.range 16) s z (List.mem_range.mpr hz)
  · have hsame : s.showSupplies.supplyShown z = s.supplyShown z := hshown _ _ hpower z
    exact Eq.trans hset hsame
  · by_cases hy : y = x
    · rw [hy]
      exact State.obj_setObj _ _ _ _
    · rw [State.obj_setObj_ne _ _ (.inr hy)]
      exact h

/-- I/O dies with supply are powered, and their control units restart. -/
def State.diesSupplied (s : State) : State :=
  [0, 1].foldl (fun s u => if (s.iod (if u = 0 then 0 else 3)).powered then s.setObj .W0000 u cuRestarting else s)
    ((List.range 4).foldl (fun s i => if s.zoneOn (zoneOfIod i) then s.setIod i { s.iod i with powered := true } else s) s)

theorem State.diesSupplied_keeps (s : State) : Keeps [.objs, .iods] [.W0000] s s.diesSupplied := by
  have hiods (l : List Nat) (u : State) : Keeps [.iods] [] u
      (l.foldl (fun s i => if s.zoneOn (zoneOfIod i) then s.setIod i { s.iod i with powered := true } else s) u) := by
    refine .foldl (fun s i => ?_) l u
    exact .ite (s.setIod_keeps _ _) (.refl _ _ s)
  have hunits (l : List Nat) (u : State) : Keeps [.objs] [.W0000] u
      (l.foldl (fun s u => if (s.iod (if u = 0 then 0 else 3)).powered then s.setObj .W0000 u cuRestarting else s) u) := by
    refine .foldl (fun s u => ?_) l u
    exact .ite (s.setObj_keeps _ _ _) (.refl _ _ s)
  exact ((hiods _ _).mono (by decide)).trans ((hunits _ _).mono (by decide))

theorem State.suppliesOn_eq (s : State) : s.suppliesOn =
    if s.showSupplies.diesSupplied.fuseOpen 14 ∧ s.showSupplies.diesSupplied.fuseOpen 15 then s.showSupplies.diesSupplied.tripPanel 2
    else s.showSupplies.diesSupplied := rfl

theorem State.suppliesOn_spec {s : State} (hspine : s.fuseOpen 14 = false ∨ s.fuseOpen 15 = false) :
    Keeps [.objs, .iods] [.P0C06, .W0000] s s.suppliesOn ∧ ∀ z, z < 16 → s.suppliesOn.obj .P0C06 z = s.supplyShown z := by
  have hdies := s.showSupplies.diesSupplied_keeps
  have hall : Keeps [.objs, .iods] [.P0C06, .W0000] s s.showSupplies.diesSupplied := (s.showSupplies_keeps.mono (by decide)).trans (hdies.mono (by decide))
  have hfuse (z : Nat) : s.showSupplies.diesSupplied.fuseOpen z = s.fuseOpen z := by
    rw [State.fuseOpen, State.fuseOpen, hall.1 .power (by decide)]
  have hstays : ¬(s.fuseOpen 14 = true ∧ s.fuseOpen 15 = true) := by
    rintro ⟨h14, h15⟩
    rcases hspine with h | h
    · exact Bool.false_ne_true (h.symm.trans h14)
    · exact Bool.false_ne_true (h.symm.trans h15)
  rw [State.suppliesOn_eq, hfuse, hfuse, if_neg hstays]
  exact ⟨hall, fun z hz => (hdies.obj _ _ (by decide)).trans (s.showSupplies_shown hz)⟩

theorem State.wipeSites_keeps (s : State) : Keeps powerSiteParts (.K0E03 :: powerSiteObjs) s s.wipeSites := by
  have hall (l : List Nat) (u : State) : Keeps powerSiteParts (.K0E03 :: powerSiteObjs) u (l.foldl (fun s p => s.powerSite p) u) := by
    refine .foldl (fun s p => ?_) l u
    exact (s.powerSite_spec p).1.mono (by decide)
  exact ((s.setObj_keeps _ _ _).mono (by decide)).trans (hall _ _)

/-- What lighting the panel may change. -/
def lampsParts : List Part := .ringBase :: .freeCount :: .heaters :: lightParts

theorem State.lampsOn_keeps (s : State) : Keeps lampsParts lightObjs s s.lampsOn := by
  have hbase (x : AMap (Nat × Nat) LightSrc) (w y : List (Nat × Nat)) (z : Option Nat) (n : Nat) (h : AMap Nat Int) : Keeps lampsParts lightObjs s
      { s with light := x, carryWanted := w, urgent := y, ringBase := z, freeCount := n, heaters := h } :=
    (Keeps.of_parts (l := [.light, .carryWanted, .urgent, .ringBase, .freeCount, .heaters]) (by rw [unchangedBut_iff]; simp) (by decide)).mono (by decide)
  have hshown (l : List Nat) (u : State) : Keeps lampsParts lightObjs u (l.foldl (fun s d => s.setObj .L0800 d 0) u) :=
    (State.foldl_setObj_keeps .L0800 0 l u).mono (by decide)
  have hlost (l : List Nat) (u : State) : Keeps lampsParts lightObjs u (l.foldl (fun s d => if s.zoneOn (zoneOfIod (d / 3)) then s else s.loseLamp d 1) u) := by
    refine .foldl (fun s d => ?_) l u
    exact .ite (.refl _ _ s) ((s.loseLamp_keeps d 1).mono (by decide))
  have hplanes (p : Nat) (l : List Nat) (u : State) : Keeps lampsParts lightObjs u (l.foldl (fun s plane => s.showBundle p plane) u) := by
    refine .foldl (fun s plane => ?_) l u
    exact (s.setObj_keeps _ _ _).mono (by decide)
  have hports (l : List Nat) (u : State) : Keeps lampsParts lightObjs u
      (l.foldl (fun s p => (List.range 8).foldl (fun s plane => s.showBundle p plane) s) u) := by
    refine .foldl (fun s p => ?_) l u
    exact hplanes p _ s
  have hlanes (l : List Nat) (u : State) : Keeps lampsParts lightObjs u (l.foldl (fun s i => s.startLanes i) u) := by
    refine .foldl (fun s i => ?_) l u
    exact (s.startLanes_keeps i).mono (by decide)
  exact ((((hbase _ _ _ _ _ _).trans (hshown _ _)).trans (hlost _ _)).trans (hports _ _)).trans (hlanes _ _)

theorem State.checkLamp_keeps (s : State) (d : Nat) : Keeps lightParts lightObjs s (s.checkLamp d) := by
  have hall (l : List Nat) (u : State) : Keeps lightParts lightObjs u (l.foldl (fun s e => s.loseLamp e 3) u) := by
    refine .foldl (fun s e => ?_) l u
    exact s.loseLamp_keeps e 3
  exact .ite (.refl _ _ s) (((s.raise_keeps _ _ _).mono (by decide)).trans (hall _ _))

/-- The flights have been measured, and the lamp dies checked. -/
def State.identified (s : State) : State := (List.range 12).foldl (fun s d => s.checkLamp d) s.measureFlights

theorem State.identified_keeps (s : State) : Keeps (.startup :: .freeCount :: lightParts) lightObjs s s.identified := by
  have hflights : Keeps [.startup, .freeCount] [] s s.measureFlights := .of_parts (by rw [unchangedBut_iff]; simp [State.measureFlights]) (by decide)
  have hall (l : List Nat) (u : State) : Keeps lightParts lightObjs u (l.foldl (fun s d => s.checkLamp d) u) := by
    refine .foldl (fun s d => ?_) l u
    exact s.checkLamp_keeps d
  exact (hflights.mono (by decide)).trans ((hall _ _).mono (by decide))

theorem State.takeSpare_keeps (s : State) (r : Nat) : Keeps [.objs, .log] [.X0F02] s (s.takeSpare r).1 := by
  unfold State.takeSpare
  split
  · exact .refl _ _ s
  · exact .ite ((s.showSpare_keeps _ _).mono (by decide)) (((s.showSpare_keeps _ _).mono (by decide)).trans ((State.raise_keeps _ _ _ _).mono (by decide)))

theorem State.mapStack_keeps (s : State) (l : Nat) (site : Option Nat) : Keeps [.objs, .log] [.X0F01, .X0F02, .B0601] s (s.mapStack l site) := by
  have hmapped (u : State) (p : Nat) : Keeps [.objs, .log] [.X0F01, .X0F02, .B0601] u ((u.setObj .X0F01 l p).setObj .B0601 p portInService) :=
    ((u.setObj_keeps _ _ _).mono (by decide)).trans ((State.setObj_keeps _ _ _ _).mono (by decide))
  have htaken : Keeps [.objs, .log] [.X0F01, .X0F02, .B0601] s (s.takeSpare (replicaOf l)).1 := (s.takeSpare_keeps _).mono (by decide)
  unfold State.mapStack
  split
  · exact hmapped s _
  · split
    · next u p heq =>
      rw [heq] at htaken
      exact htaken.trans (hmapped u p)
    · next u heq =>
      rw [heq] at htaken
      exact htaken.trans ((u.setObj_keeps _ _ _).mono (by decide))

/-- What the mapping of logical stacks may change. -/
def mapStacksParts : List Part := .log :: siteOffParts
def mapStacksObjs : List Obj := .X0F01 :: .X0F02 :: .B0601 :: siteOffObjs

theorem State.mapStacks_keeps (s : State) : Keeps mapStacksParts mapStacksObjs s s.mapStacks := by
  have hshort (c : Prop) [Decidable c] (d : List Nat) : Keeps mapStacksParts mapStacksObjs s (if c then s.raise evStartupShort noSubject d else s) :=
    .ite ((s.raise_keeps _ _ _).mono (by decide)) (.refl _ _ s)
  have hmap (site : Nat → Option Nat) (l : List Nat) (u : State) : Keeps mapStacksParts mapStacksObjs u (l.foldl (fun s k => s.mapStack k (site k)) u) := by
    refine .foldl (fun s k => ?_) l u
    exact (s.mapStack_keeps k _).mono (by decide)
  have hiods (l : List Nat) (u : State) : Keeps mapStacksParts mapStacksObjs u (l.foldl (fun s i =>
      if (s.iod i).powered ∧ !s.startup.bad.contains (portOfIod i) then s.setObj .B0601 (portOfIod i) portInService else s) u) := by
    refine .foldl (fun s i => ?_) l u
    exact .ite ((s.setObj_keeps _ _ _).mono (by decide)) (.refl _ _ s)
  have hoff (l : List Nat) (u : State) : Keeps mapStacksParts mapStacksObjs u (l.foldl (fun s p => s.siteOff p) u) := by
    refine .foldl (fun s p => ?_) l u
    exact (s.siteOff_keeps p).mono (by decide)
  unfold State.mapStacks
  dsimp only
  exact (((hshort _ _).trans (hmap _ _ _)).trans (hiods _ _)).trans (hoff _ _)

/-! ### The end of each stage (Table 16.3) -/

section
variable {s : State} (hrun : s.startup.running = true)
include hrun

theorem not_startupOver {k : Nat} (h1 : 1 ≤ k) (h12 : k ≤ 12) : ¬(k = 0 ∨ 13 ≤ k ∨ (!s.startup.running) = true) := by
  rw [hrun]
  rintro (h | h | h)
  · omega
  · omega
  · exact Bool.false_ne_true h

theorem exec_stage1End (hk : s.startup.stage = 1) (hsteady : s.inputSteady = true) :
    exec (.startupStageEnd true [] [] [] []) s = .next (s.stageDone 2) := by
  change execStartupStageEnd true [] [] [] [] s = _
  simp only [execStartupStageEnd, hk, hrun, Nat.reduceEqDiff, Nat.reduceLeDiff, Bool.not_true, Bool.false_eq_true,
    or_self, ↓reduceIte]
  rw [if_pos hsteady]

theorem exec_stage2End (hk : s.startup.stage = 2) : exec (.startupStageEnd true [] [] [] []) s = .next (s.stageDone 3) := by
  change execStartupStageEnd true [] [] [] [] s = _
  simp only [execStartupStageEnd, hk, hrun, Nat.reduceLeDiff, OfNat.ofNat_ne_zero, OfNat.ofNat_ne_one, Bool.not_true, Bool.false_eq_true,
    or_self, ↓reduceIte]

theorem exec_stage3End (hk : s.startup.stage = 3) (htrip : s.suppliesOn.power.tripped = false) :
    exec (.startupStageEnd true [] [] [] []) s = .next (s.suppliesOn.stageDone 4).settleIsland := by
  change execStartupStageEnd true [] [] [] [] s = _
  simp only [execStartupStageEnd, hk, hrun, Nat.reduceEqDiff, Nat.reduceLeDiff, OfNat.ofNat_ne_zero, OfNat.ofNat_ne_one, Bool.not_true, Bool.false_eq_true,
    or_self, ↓reduceIte]
  rw [if_neg (by rw [htrip]; exact Bool.false_ne_true)]

/-- A wipe that was under way is taken up again. -/
def State.wipeResumed (s : State) : State :=
  if s.store.wipeFrom.isSome then ({ s with store := { s.store with wipeFrom := some s.time } } : State).wipeSites else s

theorem exec_stage4End (hk : s.startup.stage = 4) (hholder : s.keeper.holder ≠ none) :
    exec (.startupStageEnd true [] [] [] []) s = .next (s.wipeResumed.stageDone 5).settleIsland := by
  have hheld : ¬(s.keeper.holder.isNone = true) := by rwa [Option.isNone_iff_eq_none]
  change execStartupStageEnd true [] [] [] [] s = _
  simp only [execStartupStageEnd, hk, hrun, Nat.reduceEqDiff, Nat.reduceLeDiff, OfNat.ofNat_ne_zero, OfNat.ofNat_ne_one, Bool.not_true, Bool.false_eq_true,
    or_self, ↓reduceIte]
  rw [if_neg hheld]
  rfl

/-- The panel waits for an announcement from now on. -/
def State.listens (s : State) : State := { s with ptp := { s.ptp with lastAnnounce := s.time } }

theorem exec_stage5End (hk : s.startup.stage = 5) : exec (.startupStageEnd true [] [] [] []) s = .next (s.lampsOn.stageDone 6).listens := by
  change execStartupStageEnd true [] [] [] [] s = _
  simp only [execStartupStageEnd, hk, hrun, Nat.reduceEqDiff, Nat.reduceLeDiff, OfNat.ofNat_ne_zero, OfNat.ofNat_ne_one, Bool.not_true, Bool.false_eq_true,
    or_self, ↓reduceIte]
  rfl

/-- A panel that hears no master becomes one. -/
def State.mastered (s : State) : State := if s.ptp.master.isNone && (List.range 28).any (fun n => s.ptpUp n) then s.ptpEnter ptpGrandmaster else s

theorem exec_stage6End (hk : s.startup.stage = 6) (hset : s.ptp.set = true ∨ s.startup.started + 3000000000 ≤ s.time) :
    exec (.startupStageEnd true [] [] [] []) s = .next (if s.ptp.set then s.stageDone 7 else s.mastered.stageDone 7) := by
  change execStartupStageEnd true [] [] [] [] s = _
  simp only [execStartupStageEnd, hk, hrun, Nat.reduceEqDiff, Nat.reduceLeDiff, OfNat.ofNat_ne_zero, OfNat.ofNat_ne_one, Bool.not_true, Bool.false_eq_true,
    or_self, ↓reduceIte]
  refine congrArg Host.Outcome.next ?_
  by_cases h : s.ptp.set = true
  · rw [if_pos h, if_pos h]
  · rw [if_neg h, if_neg h, if_neg (by have := hset.resolve_left h; omega)]
    rfl

theorem exec_stage7End (hk : s.startup.stage = 7) (hiods : s.badIods = []) (failed : List Nat) (bad : List (Nat × Nat)) (furrows paths : List (Nat × Nat × Nat)) :
    exec (.startupStageEnd true failed bad furrows paths) s = .next (s.identified.stageDone 8).stacksOn := by
  change execStartupStageEnd true failed bad furrows paths s = _
  simp only [execStartupStageEnd, hk, hrun, Nat.reduceEqDiff, Nat.reduceLeDiff, OfNat.ofNat_ne_zero, OfNat.ofNat_ne_one, Bool.not_true, Bool.false_eq_true,
    or_self, ↓reduceIte]
  rw [if_neg fun h => h hiods]
  rfl

theorem exec_stage8End (hk : s.startup.stage = 8) (failed : List Nat) (bad : List (Nat × Nat)) (furrows : List (Nat × Nat × Nat)) :
    exec (.startupStageEnd true failed bad furrows []) s =
      .next (if (s.stackTests failed bad furrows).2 then (s.stackTests failed bad furrows).1.stageDone 9 else (s.stackTests failed bad furrows).1) := by
  change execStartupStageEnd true failed bad furrows [] s = _
  simp only [execStartupStageEnd, hk, hrun, Nat.reduceEqDiff, Nat.reduceLeDiff, OfNat.ofNat_ne_zero, OfNat.ofNat_ne_one, Bool.not_true, Bool.false_eq_true,
    or_self, ↓reduceIte]

theorem exec_stage9End (hk : s.startup.stage = 9) (htests : s.stackTests [] [] [] = (s, true)) :
    exec (.startupStageEnd true [] [] [] []) s = .next (s.stageDone 10) := by
  have hpaths : s.planePaths [] = (s, []) := rfl
  change execStartupStageEnd true [] [] [] [] s = _
  simp only [execStartupStageEnd, hk, hrun, Nat.reduceEqDiff, Nat.reduceLeDiff, OfNat.ofNat_ne_zero, OfNat.ofNat_ne_one, Bool.not_true, Bool.false_eq_true,
    or_self, ↓reduceIte]
  rw [hpaths]
  simp only [List.filter_nil, List.append_nil, htests]
  rfl

theorem exec_stage10End (hk : s.startup.stage = 10) : exec (.startupStageEnd true [] [] [] []) s = .next (s.mapStacks.stageDone 11) := by
  change execStartupStageEnd true [] [] [] [] s = _
  simp only [execStartupStageEnd, hk, hrun, Nat.reduceEqDiff, Nat.reduceLeDiff, OfNat.ofNat_ne_zero, OfNat.ofNat_ne_one, Bool.not_true, Bool.false_eq_true,
    or_self, ↓reduceIte]

theorem exec_stage11End (hk : s.startup.stage = 11) (hcal : s.calibrated = true) :
    exec (.startupStageEnd true [] [] [] []) s = .next (s.stageDone (if s.plan.loading.isSome then 12 else 13)) := by
  change execStartupStageEnd true [] [] [] [] s = _
  simp only [execStartupStageEnd, hk, hrun, Nat.reduceEqDiff, Nat.reduceLeDiff, OfNat.ofNat_ne_zero, OfNat.ofNat_ne_one, Bool.not_true, Bool.false_eq_true,
    or_self, ↓reduceIte]
  rw [if_pos hcal]

theorem exec_stage12End (hk : s.startup.stage = 12) (hplan : s.plan.loading = none) :
    exec (.startupStageEnd true [] [] [] []) s = .next (s.stageDone 13) := by
  change execStartupStageEnd true [] [] [] [] s = _
  simp only [execStartupStageEnd, hk, hrun, Nat.reduceEqDiff, Nat.reduceLeDiff, OfNat.ofNat_ne_zero, OfNat.ofNat_ne_one, Bool.not_true, Bool.false_eq_true,
    or_self, ↓reduceIte]
  rw [if_neg (by rw [hplan]; exact Bool.false_ne_true)]

/-- A stage from the second on that fails stops the start. -/
theorem exec_stageFails {k : Nat} (hk : s.startup.stage = k) (h2 : 2 ≤ k) (h12 : k ≤ 12) (failed : List Nat) (bad : List (Nat × Nat))
    (furrows paths : List (Nat × Nat × Nat)) : exec (.startupStageEnd false failed bad furrows paths) s = .next (s.startFailed 0) := by
  change execStartupStageEnd false failed bad furrows paths s = _
  unfold execStartupStageEnd
  rw [hk]
  exact congrArg Host.Outcome.next ((if_neg (not_startupOver hrun (by omega) h12)).trans ((if_neg (by omega)).trans (if_pos rfl)))

/-! ### Every stage that ends well leads to the next -/

theorem exec_stage3End_spec (hk : s.startup.stage = 3) (htrip : s.power.tripped = false) (hspine : s.fuseOpen 14 = false ∨ s.fuseOpen 15 = false) :
    ∃ t : State, exec (.startupStageEnd true [] [] [] []) s = .next t ∧ s.Entered t 4 ∧ ∀ z, z < 16 → t.obj .P0C06 z = s.supplyShown z := by
  obtain ⟨hon, hshown⟩ := State.suppliesOn_spec hspine
  have hpower : s.suppliesOn.power = s.power := hon.1 .power (by decide)
  have hsettled := (s.suppliesOn.stageDone 4).settleIsland_keeps
  refine ⟨_, exec_stage3End hrun hk (by rw [hpower, htrip]), (State.stageDone_entered (hon.timeKept (by decide)) 4).keeps hsettled (by decide) (by decide),
    fun z hz => ?_⟩
  rw [hsettled.obj _ _ (by decide), (s.suppliesOn.stageDone_keeps 4).obj _ _ (by decide), hshown z hz]

theorem exec_stage4End_spec (hk : s.startup.stage = 4) (hholder : s.keeper.holder ≠ none) :
    ∃ t : State, exec (.startupStageEnd true [] [] [] []) s = .next t ∧ s.Entered t 5 := by
  have hstore (x : Store) : Keeps [.store] [] s { s with store := x } := .of_parts (by rw [unchangedBut_iff]; simp) (by decide)
  have hwiped : Keeps (.store :: powerSiteParts) (.K0E03 :: powerSiteObjs) s s.wipeResumed :=
    .ite (((hstore _).mono (by decide)).trans ((State.wipeSites_keeps _).mono (by decide))) (.refl _ _ s)
  exact ⟨_, exec_stage4End hrun hk hholder,
    (State.stageDone_entered (hwiped.timeKept (by decide)) 5).keeps (State.settleIsland_keeps _) (by decide) (by decide)⟩

theorem exec_stage5End_spec (hk : s.startup.stage = 5) : ∃ t : State, exec (.startupStageEnd true [] [] [] []) s = .next t ∧ s.Entered t 6 := by
  have hlistens (u : State) : Keeps [.ptp] [] u u.listens := .of_parts (by rw [unchangedBut_iff]; simp [State.listens]) (by decide)
  exact ⟨_, exec_stage5End hrun hk, (State.stageDone_entered (s.lampsOn_keeps.timeKept (by decide)) 6).keeps (hlistens _) (by decide) (by decide)⟩

theorem exec_stage6End_spec (hk : s.startup.stage = 6) (hset : s.ptp.set = true ∨ s.startup.started + 3000000000 ≤ s.time) :
    ∃ t : State, exec (.startupStageEnd true [] [] [] []) s = .next t ∧ s.Entered t 7 := by
  have hmastered : Keeps [.objs, .log, .ptp] [.C0B00] s s.mastered := .ite (s.ptpEnter_keeps _) (.refl _ _ s)
  refine ⟨_, exec_stage6End hrun hk hset, ?_⟩
  split
  · exact State.stageDone_entered rfl 7
  · exact State.stageDone_entered (hmastered.timeKept (by decide)) 7

theorem exec_stage7End_spec (hk : s.startup.stage = 7) (hiods : s.badIods = []) (failed : List Nat) (bad : List (Nat × Nat))
    (furrows paths : List (Nat × Nat × Nat)) :
    ∃ t : State, exec (.startupStageEnd true failed bad furrows paths) s = .next t ∧ s.Entered t 8 :=
  ⟨_, exec_stage7End hrun hk hiods failed bad furrows paths,
    (State.stageDone_entered (s.identified_keeps.timeKept (by decide)) 8).keeps (State.stacksOn_keeps _) (by decide) (by decide)⟩

theorem exec_stage8End_sound (hk : s.startup.stage = 8) (htests : s.stackTests [] [] [] = (s, true)) :
    exec (.startupStageEnd true [] [] [] []) s = .next (s.stageDone 9) := by
  rw [exec_stage8End hrun hk, htests]
  rfl

/-- A stage that ends well, with what its end waits for, leads to the next, and the last to service. -/
theorem exec_startupStageEnd_ok {k : Nat} (hk : s.startup.stage = k) (h1 : 1 ≤ k) (h12 : k ≤ 12) (hsteady : k = 1 → s.inputSteady = true)
    (hsupply : k = 3 → s.power.tripped = false ∧ (s.fuseOpen 14 = false ∨ s.fuseOpen 15 = false)) (hholder : k = 4 → s.keeper.holder ≠ none)
    (hclock : k = 6 → s.ptp.set = true ∨ s.startup.started + 3000000000 ≤ s.time) (hiods : k = 7 → s.badIods = [])
    (htests : k = 8 ∨ k = 9 → s.stackTests [] [] [] = (s, true)) (hcal : k = 11 → s.calibrated = true) (hplan : k = 12 → s.plan.loading = none) :
    ∃ t : State, exec (.startupStageEnd true [] [] [] []) s = .next t ∧ s.Entered t (if k = 11 ∧ s.plan.loading = none then 13 else k + 1) ∧
      (k = 3 → ∀ z, z < 16 → t.obj .P0C06 z = s.supplyShown z) := by
  have hnext (hne : k ≠ 11) : (if k = 11 ∧ s.plan.loading = none then 13 else k + 1) = k + 1 := if_neg fun h => hne h.1
  have hcase (hne : k ≠ 11) (hne3 : k ≠ 3) (h : ∃ t : State, exec (.startupStageEnd true [] [] [] []) s = .next t ∧ s.Entered t (k + 1)) :
      ∃ t : State, exec (.startupStageEnd true [] [] [] []) s = .next t ∧ s.Entered t (if k = 11 ∧ s.plan.loading = none then 13 else k + 1) ∧
        (k = 3 → ∀ z, z < 16 → t.obj .P0C06 z = s.supplyShown z) := by
    obtain ⟨t, hexec, hentered⟩ := h
    exact ⟨t, hexec, by rwa [hnext hne], fun h3 => absurd h3 hne3⟩
  have hplain (u : State) (n : Nat) (hu : u.time = s.time) (hexec : exec (.startupStageEnd true [] [] [] []) s = .next (u.stageDone n)) :
      ∃ t : State, exec (.startupStageEnd true [] [] [] []) s = .next t ∧ s.Entered t n := ⟨_, hexec, State.stageDone_entered hu n⟩
  obtain rfl | rfl | rfl | rfl | rfl | rfl | rfl | rfl | rfl | rfl | rfl | rfl : k = 1 ∨ k = 2 ∨ k = 3 ∨ k = 4 ∨ k = 5 ∨ k = 6 ∨ k = 7 ∨ k = 8 ∨
      k = 9 ∨ k = 10 ∨ k = 11 ∨ k = 12 := by omega
  · exact hcase (by decide) (by decide) (hplain s 2 rfl (exec_stage1End hrun hk (hsteady rfl)))
  · exact hcase (by decide) (by decide) (hplain s 3 rfl (exec_stage2End hrun hk))
  · obtain ⟨t, hexec, hentered, hshown⟩ := exec_stage3End_spec hrun hk (hsupply rfl).1 (hsupply rfl).2
    exact ⟨t, hexec, by rwa [hnext (by decide)], fun _ => hshown⟩
  · exact hcase (by decide) (by decide) (exec_stage4End_spec hrun hk (hholder rfl))
  · exact hcase (by decide) (by decide) (exec_stage5End_spec hrun hk)
  · exact hcase (by decide) (by decide) (exec_stage6End_spec hrun hk (hclock rfl))
  · exact hcase (by decide) (by decide) (exec_stage7End_spec hrun hk (hiods rfl) [] [] [] [])
  · exact hcase (by decide) (by decide) (hplain s 9 rfl (exec_stage8End_sound hrun hk (htests (.inl rfl))))
  · exact hcase (by decide) (by decide) (hplain s 10 rfl (exec_stage9End hrun hk (htests (.inr rfl))))
  · exact hcase (by decide) (by decide) (hplain _ 11 (s.mapStacks_keeps.timeKept (by decide)) (exec_stage10End hrun hk))
  · refine ⟨_, exec_stage11End hrun hk (hcal rfl), ?_, nofun⟩
    cases hload : s.plan.loading with
    | none => exact State.stageDone_entered rfl 13
    | some x => exact State.stageDone_entered rfl 12
  · exact hcase (by decide) (by decide) (hplain s 13 rfl (exec_stage12End hrun hk (hplan rfl)))

/-! ### Stage 8 begins, and ends (R390) -/

theorem exec_stage7End_stacks (hk : s.startup.stage = 7) (hiods : s.badIods = []) (hsound : s.DiesSound) (failed : List Nat) (bad : List (Nat × Nat))
    (furrows paths : List (Nat × Nat × Nat)) : ∃ t : State, exec (.startupStageEnd true failed bad furrows paths) s = .next t ∧ s.Entered t 8 ∧
      (∀ p ∈ activeSites, (t.site p).powered = s.stackFit p) ∧ ∀ q, q ∉ activeSites → t.site q = s.site q := by
  let v := s.identified.stageDone 8
  have hv : Keeps (.startup :: .freeCount :: lightParts) (.K0E00 :: .K0E01 :: lightObjs) s v :=
    (s.identified_keeps.mono (by decide)).trans ((s.identified.stageDone_keeps 8).mono (by decide))
  have hsite (q : Nat) : v.site q = s.site q := hv.1.site (by decide) q
  have hfit (p : Nat) : v.stackFit p = s.stackFit p := by
    have hobjs {o : Obj} (ho : o ∈ mapObjs) : o ∉ Obj.K0E00 :: .K0E01 :: lightObjs := by
      revert o
      decide
    have hmap : v.mapsUsable p = s.mapsUsable p := State.mapsUsable_congr (by rw [hsite]) (by rw [hsite]) fun o ho => hv.obj o p (hobjs ho)
    have hzone (z : Nat) : v.zoneOn z = s.zoneOn z := by
      have hobj (n : Nat) : v.obj .P0C06 n = s.obj .P0C06 n := hv.obj _ _ (by decide)
      rw [State.zoneOn, State.zoneOn, hobj, hobj, hobj]
    rw [State.stackFit, State.stackFit, hsite, hmap, hzone]
  obtain ⟨hpowered, hothers⟩ := State.foldl_stackOn activeSites activeSites_nodup (fun p hp => (mem_activeSites.mp hp).2.1) v (hv.diesSound (by decide) hsound)
  refine ⟨_, exec_stage7End hrun hk hiods failed bad furrows paths,
    (State.stageDone_entered (s.identified_keeps.timeKept (by decide)) 8).keeps (State.stacksOn_keeps _) (by decide) (by decide), fun p hp => ?_, fun q hq => ?_⟩
  · rw [State.stacksOn_eq, hpowered p hp, hfit]
  · rw [State.stacksOn_eq, hothers q hq, hsite]

theorem exec_stage8End_fails (hk : s.startup.stage = 8) (failed : List Nat) (bad : List (Nat × Nat)) (furrows : List (Nat × Nat × Nat)) :
    ∃ t : State, exec (.startupStageEnd true failed bad furrows []) s = .next t ∧
      (∀ p ∈ failed, p ∈ s.poweredSites → (t.site p).powered = false ∧ (t.site p).usable = false) ∧ t.obj .K0E00 0 ∈ [s.obj .K0E00 0, 8] := by
  have hgone := s.stackTests_gone failed bad furrows
  have hkeeps := s.stackTests_keeps failed bad furrows
  refine ⟨_, exec_stage8End hrun hk failed bad furrows, fun p hp hpowered => ?_, ?_⟩
  · split
    · exact (hgone p hp hpowered).of_site (((State.stageDone_keeps _ 9).1.site (by decide)) p)
    · exact hgone p hp hpowered
  · split
    · rw [(State.stageDone_entered (u := (s.stackTests failed bad furrows).1) rfl 9).2.2.1]
      exact List.mem_cons_of_mem _ List.mem_cons_self
    · rw [hkeeps.obj _ _ (by decide)]
      exact List.mem_cons_self

end

/-! ### The obligation -/

/-- Settles O51: each clause is the lemma of the command, through what a start, a stage or every zone off leaves. -/
theorem startupCommandsComplete : Obligations.StartupCommandsComplete := by
  unfold Obligations.StartupCommandsComplete
  refine ⟨fun s hfeed hstopped => exec_coldStart_cold hfeed hstopped, fun s hfeed hruns htrip => exec_coldStart_runs hfeed hruns htrip,
    fun s hstage hstby htrip hruns hsteady => ?restored, fun s k hk h1 h12 hrun hsteady hsupply hholder hclock hiods htests hcal hplan => ?stageEnds,
    fun s k failed bad furrows paths hk h2 h12 hrun => ?stageFails, fun s failed bad furrows paths hk hrun hiods hsound => ?begins,
    fun s failed bad furrows hk hrun => exec_stage8End_fails hrun hk failed bad furrows, fun s hstby hstage => exec_standbyEnter hstby hstage,
    fun s hstby hruns hsteady => ?released, fun s u hfrom hlate hruns => exec_holdUpExhausted hfrom hlate hruns,
    fun s ir h => exec_tapInstruction_bypass h, fun s => rfl, fun s ir hir hopen => exec_tapInstruction_dieTest hir hopen, fun s => rfl⟩
  case restored =>
    obtain ⟨hstarted, hthree, hrunning, hshown⟩ := s.warmStart_spec
    exact ⟨_, exec_inputRestored hstage hstby htrip hruns hsteady, hthree, hrunning, hstarted.time, hstarted.epoch, hstarted.mem, hstarted.failed,
      hshown, hstarted.pending⟩
  case stageEnds =>
    have htested (h : k = 8 ∨ k = 9) : s.stackTests [] [] [] = (s, true) := State.stackTests_of_sound (htests h).1 (htests h).2
    obtain ⟨t, hexec, ⟨hstage, hstarted, hshown, htime⟩, hzones⟩ :=
      exec_startupStageEnd_ok hrun hk h1 h12 hsteady hsupply hholder hclock hiods htested hcal hplan
    exact ⟨t, hexec, hstage, hstarted, by rw [hshown, hstage], htime, hzones⟩
  case stageFails =>
    refine ⟨_, exec_stageFails hrun hk h2 h12 failed bad furrows paths, rfl, hk, ?_, ?_⟩
    · rw [← hk]
      rfl
    · have hstopped : unchangedBut [.startup] s { s with startup := { s.startup with running := false } } := by rw [unchangedBut_iff]; simp
      exact (hstopped.mono (by decide)).trans ((State.raise_unchanged _ _ _ _).mono (by decide))
  case begins =>
    obtain ⟨t, hexec, ⟨hstage, -, -, -⟩, hpowered, hothers⟩ := exec_stage7End_stacks hrun hk hiods hsound failed bad furrows paths
    have hfit (p : Nat) : s.stackFit p = ((s.site p).usable && s.zoneOn (zoneOf p) && ((s.remap p [] []).site p).usable) := rfl
    refine ⟨t, hexec, hstage, fun p hp hsite hspare husable hzone hmap => ?_, fun p hp hsite hspare hnot => ?_, fun p hp => ?_⟩
    · rw [hpowered p (mem_activeSites.mpr ⟨hp, hsite, hspare⟩), hfit, husable, hzone, hmap]
      rfl
    · rw [hpowered p (mem_activeSites.mpr ⟨hp, hsite, hspare⟩), hfit]
      rcases hnot with h | h | h
      · rw [h, Bool.false_and, Bool.false_and]
      · rw [h, Bool.and_false, Bool.false_and]
      · rw [h, Bool.and_false]
    · rw [hothers p fun h => (mem_activeSites.mp h).2.2 hp]
  case released =>
    obtain ⟨hstarted, hthree, -, -⟩ := s.wokenUp.warmStart_spec
    exact ⟨_, exec_standbyRelease hstby hruns hsteady, hstarted.stby, hthree, hstarted.time, hstarted.epoch, hstarted.mem, hstarted.stbyEn⟩

end Sys2Proof.Machine
end
